-- ==== Sys2Proof/Word.lean ====
section
/-!
DEFINITION. The words the block is made of. Every multi-byte field is little-endian and bit 0 is the least significant
bit of its field (R17); bit ranges are inclusive, the more significant bound first (R18).
-/

namespace Sys2Proof

/-- One byte of a memory, a flit or a packet. -/
abbrev Byte := BitVec 8

/-- One BAR0 register (R616). -/
abbrev R32 := BitVec 32

/-- One 64-bit word of a structure, a sync object, a time in ticks (R21). -/
abbrev R64 := BitVec 64

/-- A run of bytes in address order. -/
abbrev Bytes := List Byte

/-- A domain physical address: node [51:46], class [45:44], offset [43:0] (R11). -/
abbrev Dpa := BitVec 52

/-- A virtual address as the 64-bit field that carries it (R59). -/
abbrev Va := BitVec 64

/-- A node ID: x, y, z in two bits each (R11). -/
abbrev NodeId := BitVec 6

/-- An agent ID: node and local part (R11). -/
abbrev AgentId := BitVec 10

/-- A job ID (R11). -/
abbrev JobId := BitVec 16

/-- A completion status (R26). -/
abbrev Status := BitVec 4

end Sys2Proof
end

