-- ==== Sys2Proof/Syntax.lean ====
section
/-!
DEFINITION. The commands of the block, one per row of the opcode table, and the messages they carry. The table gives a row no
operands; those here are what the row's step takes from outside the node (DESIGN CHOICE, log entry 10): the fields of a register access,
the message that arrives, the answers of other agents, the plant's condition.
-/

namespace Sys2Proof

/-- Attributes of a request, from its range (R71, R543 word 2). -/
structure Attr where
  keySlot : BitVec 10
  kgen : Bool
  accum : Bool
  coherent : Bool
  mirrored : Bool
  partner : NodeId
  deriving DecidableEq, Repr

/-- How a message travels: DIR, REV, DL and ESC (R543). -/
structure Way where
  dir : BitVec 3
  rev : BitVec 3
  dl : Bool
  esc : Bool
  deriving DecidableEq, Repr

/-- Tamping: the operation is a tamped one, its identity, its contributors and the OR of their SAT (R211, R543 word 3). -/
structure Tamp where
  on : Bool
  id : BitVec 20
  n : BitVec 17
  sat : Bool
  deriving DecidableEq, Repr

/-- A torus request (R543) with the bytes of its data units. -/
structure Req where
  opc : BitVec 6
  cls : BitVec 2
  size : BitVec 4
  dpa : Dpa
  src : AgentId
  dst : NodeId
  job : JobId
  seq : BitVec 16
  colour : BitVec 2
  ce : Bool
  nc : Bool
  nr : Bool
  unord : Bool
  mc : Bool
  ew : BitVec 8
  attr : Attr
  width : BitVec 2
  atype : BitVec 2
  prevSeq : BitVec 16
  iso : BitVec 3
  way : Way
  tamp : Tamp
  data : Bytes
  deriving DecidableEq, Repr

/-- A torus completion, WAKE, CACK or MACK (R544) with the bytes of its data units. -/
structure Cpl where
  opc : BitVec 6
  cls : BitVec 2
  size : BitVec 4
  status : Status
  ce : Bool
  sat : Bool
  way : Way
  src : NodeId
  agent : AgentId
  seq : BitVec 16
  colour : BitVec 2
  iso : BitVec 3
  tampId : BitVec 20
  tamped : Bool
  dst : NodeId
  data : Bytes
  deriving DecidableEq, Repr

/-- A torus snoop or snoop response (R545); RSP_DATA carries 64 bytes. -/
structure Snp where
  opc : BitVec 6
  home : NodeId
  dpa : Dpa
  agent : AgentId
  sid : BitVec 16
  way : Way
  dst : NodeId
  data : Bytes
  deriving DecidableEq, Repr

/-- A memory-class message (R542). -/
inductive TMsg where
  | req (r : Req)
  | cpl (c : Cpl)
  | snp (p : Snp)
  deriving DecidableEq, Repr

/-- An attach flit after its link-layer fields (R157): its virtual channel, its map unit (R160) and its fourteen units. -/
structure AFlit where
  vc : BitVec 2
  map : BitVec 128
  units : List (BitVec 128)
  deriving DecidableEq, Repr

/-- The condition of the memory that reads meet (R271, R272), by 64 B granule (offset / 64): those in which the device signals an uncorrected
on-die ECC error, those in which link ECC reports an error with the reads of one access that show it, and those in which an error was corrected. -/
structure MemCond where
  die : List Nat
  link : List (Nat × Nat)
  ce : List Nat
  deriving DecidableEq, Repr

/-- What another home, or host memory, answers to one operation that the node issued. -/
structure Resp where
  status : Status
  sat : Bool
  ce : Bool
  data : Bytes
  deriving DecidableEq, Repr

/-- The slot of a work queue's ring, as its fetch found it (R127): the 64 or 128 bytes, or a failed fetch (R139 ERR 0x07). -/
inductive Fetched where
  | slot (bytes : Bytes)
  | failed
  deriving DecidableEq, Repr

/-- The straps and pins that the node samples when RST_N rises (R656, R657). -/
structure Straps where
  trayPos : BitVec 6
  bootSel : BitVec 2
  pwrfailN : Bool
  puf0 : Bool
  puf1 : Bool
  bank0 : Bool
  bank1 : Bool
  deriving DecidableEq, Repr

/-- The stages of a hold-up that fall due by time (R649). -/
inductive HoldStage where
  | going | clayEnd | powerFail | selfReset
  deriving DecidableEq, Repr

/-- The resets of the PCIe end (R620). -/
inductive PcieReset where
  | perst | hot | flr
  deriving DecidableEq, Repr

/-- A time message with its heartbeat (R283, R464, R534). -/
structure TimeHb where
  txTick : R64
  echoTick : R64
  txPhase : BitVec 7
  echoPhase : BitVec 7
  seq : BitVec 8
  echoSeq : BitVec 8
  state : BitVec 3
  root : NodeId
  hops : BitVec 3
  child : Bool
  k : BitVec 6
  thermK : BitVec 6
  fixed : Bool
  rootSeq : BitVec 16
  delay : BitVec 24
  gridTick : R64
  gridSlot : R64
  envTick : R64
  envSeq : BitVec 8
  kFrom : BitVec 6
  kTo : BitVec 6
  ramp : BitVec 16
  orderSeq : R32
  inc : BitVec 16
  node : NodeId
  going : Bool
  probation : Bool
  down : BitVec 6
  deriving DecidableEq, Repr

/-- A local instant: tick and phase (R279). -/
structure Stamp where
  tick : R64
  phase : BitVec 7
  deriving DecidableEq, Repr

/-- A PORT_ID record (R533): role, node, port, lanes, encryption asked for and possible, and the sixteen grants. -/
structure PortId where
  role : BitVec 2
  node : NodeId
  port : BitVec 4
  lanes : BitVec 6
  encReq : Bool
  encCap : Bool
  grants : List (BitVec 12)
  deriving DecidableEq, Repr

/-- A STOP message (R533, R485). -/
structure StopMsg where
  job : JobId
  origin : NodeId
  resume : Bool
  time : R64
  deriving DecidableEq, Repr

/-- A scheduled flit (R522, R523): its stream, the slot of its first sending modulo 256, its 248 payload bytes. -/
structure SFlit where
  stream : BitVec 12
  slot : BitVec 8
  data : Bytes
  deriving DecidableEq, Repr

/-- A spill packet after the UDP header (R569) with what the IPv6 header carries of interest: the sender's address and whether
the packet arrived marked CE. -/
structure Spill where
  ver : BitVec 4
  kind : BitVec 4
  first : Bool
  last : Bool
  immEn : Bool
  ece : Bool
  dstCh : BitVec 8
  srcCh : BitVec 8
  psn : R32
  ackPsn : R32
  msg : R32
  offset : R64
  imm : R32
  nak : BitVec 8
  len24 : BitVec 24
  payload : Bytes
  ce : Bool
  deriving DecidableEq, Repr

/-- A record of a group's agreement on its call (R403): the signature, TIMED and START_TIME, the slot at which an untimed instance
formed, the BAD flag with its reason (R429), and the node that formed it. -/
structure SigRec where
  group : BitVec 10
  seq : R32
  sig : R64
  timed : Bool
  start : R64
  slot : R64
  bad : Bool
  reason : BitVec 4
  node : NodeId
  deriving DecidableEq, Repr

/-- An add of two partial blocks that a tile made, in slice form: the operands and what it formed (R361, R371). -/
structure AddRun where
  a : Bytes
  b : Bytes
  sum : Bytes
  deriving DecidableEq, Repr

/-- A tile's step as the plant saw it: the partial blocks that entered it from links, in packed form, and from its slice, in slice form; the
instance it worked for; the adds it made, in the first run and in the second; the output blocks it wrote, side by side from a place in its
working store on; the stream flits it produced (R307, R341, R362, R363, R371-R373, R385). -/
structure TileWork where
  links : List Bytes
  received : List Bytes
  run : Option (BitVec 6)
  adds : List AddRun
  again : List AddRun
  outs : List Bytes
  place : BitVec 27
  flits : List (BitVec 12 × Bytes)
  deriving DecidableEq, Repr

/-- What another node gives to the blocks of one member in a REDUCE_SCATTER (R355, R363, R412, R413): its exponent byte for each block and, for a
member of this node, its contributions to each block reduced, an add as packed partial blocks, MIN and MAX as values; none where its members
give nothing. -/
structure PartX where
  node : NodeId
  dst : BitVec 8
  exps : List (BitVec 8)
  blocks : List (Option Bytes)
  deriving DecidableEq, Repr

/-- A column of 32 indices of a SPARSE_REDUCE that a node sends (R441): its number, the node's exponent byte for it, its occupancy mask and
the occupied lanes. -/
structure ColX where
  node : NodeId
  q : BitVec 40
  exp : BitVec 8
  col : Bytes
  deriving DecidableEq, Repr

/-- Elements that one member of a group sends to another: how many, and their blocks of 32 in sieve groups (R396, R397, R410, R433). -/
structure Xfer where
  src : BitVec 8
  dst : BitVec 8
  n : BitVec 40
  groups : Bytes
  deriving DecidableEq, Repr

/-- An assignment of a token to an expert (R449, R450). -/
structure Assign where
  member : BitVec 8
  token : BitVec 24
  k : BitVec 3
  gate : R32
  deriving DecidableEq, Repr

/-- A row that another node sends: the assignment it belongs to and its blocks of 32 elements in sieve groups (R433, R453, R457). -/
structure RowX where
  member : BitVec 8
  token : BitVec 24
  k : BitVec 3
  groups : Bytes
  deriving DecidableEq, Repr

/-- The count of rows that an expert's node has sent to this one (R458). -/
structure CountX where
  node : NodeId
  n : BitVec 32
  deriving DecidableEq, Repr

/-- A plan record that an expert's node returns: the assignment and its route record (R452, R454). -/
structure PlanX where
  member : BitVec 8
  token : BitVec 24
  k : BitVec 3
  fate : R64
  deriving DecidableEq, Repr

/-- What a SMBus or JTAG host, a sensor, a regulator or a die reports: a reading in the units of its register. -/
abbrev Reading := BitVec 16

/-- What the command of FORCE_K brings: a FORCE_K written at this node; a command of either kind (no factor: APPLY) on its way to the root,
with the node it was written at, DTT_ENV_TARGET and E; or the root's result on its way back (R329, R339). -/
inductive EnvIn where
  | written (k : BitVec 6)
  | command (force : Option (BitVec 6)) (node : NodeId) (target : R32) (tick : R64)
  | result (err : BitVec 4)
  deriving DecidableEq, Repr

/-- What reaches the home of a sync object: a registration at an address, or the withdrawal of one (R153, R154). -/
inductive WatchIn where
  | register (dpa : Dpa)
  | withdraw
  deriving DecidableEq, Repr

/-- What the expert's nodes send to a COMBINE: the rows, and how many each node sends (R457, R458). -/
structure CombineX where
  rows : List RowX
  counts : List CountX
  deriving DecidableEq, Repr

/-- A step of a leader as its follower runs it: where its input stands and what it reads, where its output goes, and the output's
blocks (R384). -/
structure FollowX where
  inPlace : BitVec 27
  reads : List Bytes
  outPlace : BitVec 27
  blocks : List Bytes
  deriving DecidableEq, Repr

/-- What an expert's node holds for its decision beside its own records: the assignments of the other members, and the answers of other
homes (R450). -/
structure DecideX where
  others : List Assign
  resps : List Resp
  deriving DecidableEq, Repr

/-- The commands of the block: one constructor per row of the opcode table, in its order. -/
inductive Instr where
  /-- RESET_ASSERT (R658). RST_N falls for at least 100 ns, so the node enters reset and its outputs go high-impedance within 1 µs. -/
  | resetAssert (ns : Nat)
  /-- RESET_DEASSERT (R657). RST_N rises: the node samples the straps and PWRFAIL_N, rebuilds the identity seed, reconciles the clay copies and loads the disabled-unit map. -/
  | resetDeassert (st : Straps)
  /-- PLL_LOCK (R644). The root PLL locks within 200 µs of RST_N deasserting with REFCLK in tolerance. -/
  | pllLock
  /-- PLL_LOSS_OF_LOCK (R53). The root PLL loses lock; the core clock and the tick stop together and the node holds itself in reset. -/
  | pllLossOfLock
  /-- HOLD_UP (R649). PWRFAIL_N stays low for 0.5 µs: a hold-up starts that cannot be undone, and the node defers every header and freezes its homes. -/
  | holdUp
  /-- HOLD_UP_STAGE (R649). A timed stage of the hold-up falls due: GOING heartbeats, the end of clay writes, POWER_FAIL, and then self-reset at 50 µs. -/
  | holdUpStage (g : HoldStage)
  /-- PCIE_RESET (R620). PERST_N, a hot reset or an FLR resets the endpoint and the apertures, disables the event rings and spill channels, and stops the host queues. -/
  | pcieReset (k : PcieReset)
  /-- REGISTER_WRITE (R22). A BAR0 or class 0b11 write to a register that has no row of its own acts according to its access code. -/
  | registerWrite (off : BitVec 25) (wide : Bool) (v : R64)
  /-- GLB_NODE_WRITE (R58). A write to GLB_NODE sets NODE_ID and, where NODE_LOCK is written, locks the node ID. -/
  | glbNodeWrite (v : R32)
  /-- BAR2_READ (R618). A host read through a BAR2 aperture is split into ORDERED requests as agent 8, and the host receives Completer Abort if any of them fails. -/
  | bar2Read (off : BitVec 48) (len : BitVec 13) (resps : List Resp)
  /-- BAR2_WRITE (R618). A host write through a BAR2 aperture is split into ORDERED requests as agent 8, and a failed write is discarded. -/
  | bar2Write (off : BitVec 48) (data : Bytes) (resps : List Resp)
  /-- SMBUS_BLOCK_READ (R662). An SMBus Block Read returns 4 bytes of the register that its command code names. -/
  | smbusBlockRead (code : BitVec 8)
  /-- SMBUS_ALERT_RESPONSE (R662). The node answers the Alert Response Address and releases SMB_ALERT_N. -/
  | smbusAlertResponse
  /-- BYPASS (R663). The JTAG BYPASS instruction is loaded. -/
  | bypass
  /-- IDCODE (R663). The JTAG IDCODE instruction returns 0x0726_4B47, with the stepping in bits [31:28]. -/
  | idcode
  /-- SAMPLE_PRELOAD (R663). The JTAG SAMPLE/PRELOAD instruction is loaded. -/
  | samplePreload
  /-- EXTEST (R663). The JTAG EXTEST instruction, admitted only in manufacturing-test boot. -/
  | extest
  /-- EXTEST_PULSE (R663). The JTAG EXTEST_PULSE instruction on the lane lands, admitted only in test boot. -/
  | extestPulse
  /-- EXTEST_TRAIN (R663). The JTAG EXTEST_TRAIN instruction on the lane lands, admitted only in test boot. -/
  | extestTrain
  /-- CLAMP (R663). The JTAG CLAMP instruction, admitted only in test boot. -/
  | clamp
  /-- HIGHZ (R663). The JTAG HIGHZ instruction, admitted only in test boot. -/
  | highz
  /-- QUERY (R80). XLT_PRES_CMD QUERY reads the presence bit of the first page into XLT_PRES_STAT.BIT. -/
  | query (countM1 : BitVec 12) (slot : BitVec 10)
  /-- SET (R81). XLT_PRES_CMD SET marks 1 to 4,096 pages present for every later translation. -/
  | set (wake : Bool) (countM1 : BitVec 12) (slot : BitVec 10)
  /-- CLEAR (R81). XLT_PRES_CMD CLEAR marks pages absent and holds BUSY until the readers that saw them present have drained. -/
  | clear (countM1 : BitVec 12) (slot : BitVec 10)
  /-- CLEAR_DRAIN_DONE (R81). The last request that read the cleared bits as present completes, and XLT_PRES_STAT.BUSY falls. -/
  | clearDrainDone
  /-- XLT_COMMIT (R95). A direct commit of group XLTn starts validation of the staged table, or is held behind a validation already running. -/
  | xltCommit (slot : BitVec 10)
  /-- TABLE_VALIDATION_END (R96). Validation of a staged table ends: the commit takes effect and EPOCH advances, or the commit is refused, and any held commit starts its own validation. -/
  | tableValidationEnd (slot : BitVec 10)
  /-- DRAIN_REQ (R100). Writing REQ to XLT_CTX_DRAIN starts a drain of the work translated under older epochs. -/
  | drainReq (slot : BitVec 10)
  /-- DRAIN_DONE (R100). No work of an older epoch remains in flight, so BUSY falls and UPTO is set. -/
  | drainDone (slot : BitVec 10)
  /-- RTWIN_WRITE (R98). A write through XLT_RTWIN lands in a range-table entry, or is discarded with LIVE_WR set if the table is live. -/
  | rtwinWrite (off : BitVec 18) (wide : Bool) (v : R64)
  /-- ATTACH_FLIT_RECEIVE (R168). The link layer delivers an attach flit, and the node decides every request header in it within that flit cycle. -/
  | attachFlitReceive (port : Fin 8) (flit : AFlit)
  /-- ANSWER_SEND (R169). The accept and defer answer of a received flit leaves in the first flit begun at least 6 core cycles after delivery. -/
  | answerSend (port : Fin 8)
  /-- DEFER_RESERVE_EXPIRY (R175). A table entry held for a RESEND header is released after 1,024 core cycles. -/
  | deferReserveExpiry (port : Fin 8) (cls : BitVec 2)
  /-- ATTACH_REQUEST_ISSUE (R78). An accepted request leaves ingress and is translated and checked, then sent to its home or completed with a fault. -/
  | attachRequestIssue (port : Fin 8)
  /-- PACED_REQUEST_RELEASE (R222). A request waiting on its pacing window is sent once completions bring the agent's outstanding bytes below W. -/
  | pacedRequestRelease (port : Fin 8) (home : NodeId)
  /-- PACING_WINDOW_GROW (R221). After each 64 tk without CE from a home, the agent's window grows by 16 KiB. -/
  | pacingWindowGrow (port : Fin 8) (home : NodeId)
  /-- COMPLETION_RECEIVE (R187). The end point takes a home completion by series and sequence number and completes the agent's request or the node's own operation. -/
  | completionReceive (c : Cpl)
  /-- LOAD (R193). A LOAD request reaches its home; it is resequenced, checked and executed, and its data are returned. -/
  | load (r : Req) (m : MemCond)
  /-- STORE (R189). A STORE request reaches its home; it is checked and written, and completes at the ordering point. -/
  | store (r : Req) (m : MemCond)
  /-- ATOMIC_ADD (R194). An ATOMIC_ADD reaches its home and executes as an integer add, an FP add, an exact add or a sync-object signal. -/
  | atomicAdd (r : Req) (m : MemCond)
  /-- ATOMIC_MIN (R194). An ATOMIC_MIN reaches its home and executes. -/
  | atomicMin (r : Req) (m : MemCond)
  /-- ATOMIC_MAX (R194). An ATOMIC_MAX reaches its home and executes. -/
  | atomicMax (r : Req) (m : MemCond)
  /-- ATOMIC_CAS (R194). An ATOMIC_CAS reaches its home, compares, swaps and returns the old value. -/
  | atomicCas (r : Req) (m : MemCond)
  /-- FENCE (R185). An attach FENCE is accepted and covers the agent's earlier requests in its FSCOPE classes. -/
  | fence (port : Fin 8)
  /-- CACK (R183). A CACK reaches a home, which releases the completion it kept for that request. -/
  | cack (c : Cpl)
  /-- TAMPED_COMPLETION (R213). A home completion reaches the node that tamped the operation, which completes every contributor and frees its record. -/
  | tampedCompletion (c : Cpl)
  /-- MACK (R189). A MACK reaches a primary home, which then completes the mirrored write. -/
  | mack (c : Cpl)
  /-- WRITE_COPY (R264). A mirror write copy reaches the partner and executes in the order of its series. -/
  | writeCopy (r : Req)
  /-- RD_SHARED (R255). A coherent-window RD_SHARED reaches the home and moves the line's directory entry. -/
  | rdShared (r : Req) (m : MemCond)
  /-- RD_OWN (R255). A coherent-window RD_OWN reaches the home, which invalidates the other holders and grants ownership. -/
  | rdOwn (r : Req) (m : MemCond)
  /-- UPGRADE (R255). A coherent-window UPGRADE reaches the home and makes the requester the owner. -/
  | upgrade (r : Req) (m : MemCond)
  /-- WRITEBACK (R256). A coherent-window WRITEBACK reaches the home, writes the line and frees it. -/
  | writeback (r : Req)
  /-- EVICT (R255). A coherent-window EVICT reaches the home and removes the holder. -/
  | evict (r : Req)
  /-- SNOOP_DELIVERY (R254). A snoop reaches an end point, which maps it to a VA and handle and forwards it, holds it, or answers RSP_ACK itself. -/
  | snoopDelivery (p : Snp)
  /-- RSP_ACK (R253). An RSP_ACK reaches the home and completes the snoop. -/
  | rspAck (p : Snp) (m : MemCond)
  /-- RSP_DATA (R255). An RSP_DATA reaches the home, which writes the line to the pool before the causing request executes. -/
  | rspData (p : Snp) (m : MemCond)
  /-- RSP_DIRTY (R253). An RSP_DIRTY reaches the home, which logs the line as lost. -/
  | rspDirty (p : Snp) (m : MemCond)
  /-- GRANT (R236). HOM_EXT_CMD GRANT validates a FREE entry and makes it ACTIVE under a lease. -/
  | grant (ext : BitVec 14) (timed : Bool)
  /-- RENEW (R236). HOM_EXT_CMD RENEW moves an extent's DEADLINE forward. -/
  | renew (ext : BitVec 14) (timed : Bool)
  /-- REVOKE (R246). HOM_EXT_CMD REVOKE clears an ADMIT bit and starts draining that generation. -/
  | revoke (ext : BitVec 14) (gen : Bool) (timed : Bool)
  /-- EXPIRE (R243). HOM_EXT_CMD EXPIRE lapses a lease at once and begins the reclaim. -/
  | expire (ext : BitVec 14) (timed : Bool)
  /-- ADMIT (R236). HOM_EXT_CMD ADMIT sets an ADMIT bit of an extent. -/
  | extAdmit (ext : BitVec 14) (gen : Bool) (timed : Bool)
  /-- ROTATE (R276). HOM_EXT_CMD ROTATE starts a key rotation of an extent. -/
  | rotate (ext : BitVec 14) (timed : Bool)
  /-- AGENT_DROP (R260). HOM_EXT_CMD AGENT_DROP removes an agent from every line it holds and logs the lines it owned. -/
  | agentDrop (agent : AgentId) (timed : Bool)
  /-- EXT_TIMED_APPLY (R237). Domain time reaches a timed extent command's tick, and the home applies it. -/
  | extTimedApply
  /-- EXTWIN_WRITE (R232). A write through HOM_EXTWIN changes a FREE entry, or is discarded with LIVE_WR set. -/
  | extwinWrite (off : BitVec 18) (wide : Bool) (v : R64)
  /-- HOM_CTL_WRITE (R241). A write to HOM_CTL; LEASE_EN rising from 0 to 1 renews every live lease. -/
  | homCtlWrite (v : R32)
  /-- LEASE_LAPSE (R241). Domain time reaches an extent's DEADLINE, so the extent becomes EXPIRED and its reclaim begins. -/
  | leaseLapse (ext : BitVec 14)
  /-- REVOKE_DRAIN_DONE (R246). The last in-flight request and recalled line of a revoke complete, so the revoke finishes and the state moves. -/
  | revokeDrainDone (ext : BitVec 14)
  /-- RECLAIM_SNOOP_TIMEOUT (R245). A snoop of a reclaim goes unanswered for 1 ms, and the line is logged with cause 0x3. -/
  | reclaimSnoopTimeout (ext : BitVec 14)
  /-- RECLAIM_DONE (R245). A reclaim finishes: the directory entries and shadows are freed and the extent becomes FREE. -/
  | reclaimDone (ext : BitVec 14)
  /-- HOME_SLOT (R274). A HOME background slot begins, and scrub, key rotation or mirror repair moves the next 20 lines. -/
  | homeSlot (m : MemCond)
  /-- DOORBELL (R108). A write to QMG_DB sets a queue's TAIL and starts fetching if the queue runs. -/
  | doorbell (q : BitVec 10) (tail : BitVec 16)
  /-- DESCRIPTOR_FETCH (R127). A running queue with room for fetch ahead issues the fetch of the slot at its fetch pointer. -/
  | descriptorFetch (q : BitVec 10)
  /-- DESCRIPTOR_FETCH_DONE (R127). A fetched slot arrives; the node checks it, translates its operands, and queues, parks, completes or errors it. -/
  | descriptorFetchDone (q : BitVec 10) (res : Fetched)
  /-- DESCRIPTOR_START (R128). A translated descriptor starts once its order, fence, time, barrier and issue-slot conditions hold. -/
  | descriptorStart (q : BitVec 10) (resps : List Resp)
  /-- NOP (R118). A NOP descriptor runs and completes. -/
  | nop (q : BitVec 10)
  /-- COPY (R120). A COPY descriptor moves LENGTH bytes from SRC to DST. -/
  | copy (q : BitVec 10) (idx : BitVec 16) (resps : List Resp)
  /-- FILL (R120). A FILL descriptor writes an 8-byte pattern over LENGTH bytes. -/
  | fill (q : BitVec 10) (idx : BitVec 16) (resps : List Resp)
  /-- GATHER (R460). A plain GATHER descriptor packs the indexed rows of TABLE into DST. -/
  | gather (q : BitVec 10) (idx : BitVec 16) (resps : List Resp)
  /-- EMBED_BAG (R461). An EMBED_BAG descriptor sums each bag of rows exactly and writes one row per bag. -/
  | embedBag (q : BitVec 10) (idx : BitVec 16) (resps : List Resp)
  /-- SCATTER (R120). A SCATTER descriptor writes packed rows to the indexed rows of TABLE. -/
  | scatter (q : BitVec 10) (idx : BitVec 16) (resps : List Resp)
  /-- ATOMIC_BATCH (R121). An ATOMIC_BATCH descriptor issues its records as atomics in record order. -/
  | atomicBatch (q : BitVec 10) (idx : BitVec 16) (resps : List Resp)
  /-- SYNC_WAIT (R153). A SYNC_WAIT descriptor registers a watch at the object's home and waits for THRESHOLD. -/
  | syncWait (q : BitVec 10) (idx : BitVec 16) (full : Bool)
  /-- SYNC_SIGNAL (R155). A SYNC_SIGNAL descriptor adds to an object at once, or takes an arm entry for ARM_TICK. -/
  | syncSignal (q : BitVec 10) (idx : BitVec 16)
  /-- DESCRIPTOR_FENCE (R682). A FENCE descriptor completes once every descriptor it covers is done. -/
  | descriptorFence (q : BitVec 10) (idx : BitVec 16)
  /-- ALLTOALL (R396). A COLL ALLTOALL exchanges COUNT elements between every ordered pair of members. -/
  | alltoall (run : BitVec 6) (others : List Xfer) (resps : List Resp)
  /-- ALLTOALLV (R397). A COLL ALLTOALLV exchanges variable counts and writes RECV. -/
  | alltoallv (run : BitVec 6) (others : List Xfer) (resps : List Resp)
  /-- REDUCE_SCATTER (R411). A COLL REDUCE_SCATTER reduces every member's blocks and gives each member its block. -/
  | reduceScatter (run : BitVec 6) (others : List PartX) (resps : List Resp)
  /-- ALL_GATHER (R411). A COLL ALL_GATHER gives every member the concatenation of all members' inputs. -/
  | allGather (run : BitVec 6) (others : List Xfer) (resps : List Resp)
  /-- SPARSE_REDUCE (R441). A COLL SPARSE_REDUCE reduces index–value lists and writes the reduced list at every member. -/
  | sparseReduce (run : BitVec 6) (others : List ColX) (resps : List Resp)
  /-- DISPATCH (R448). A DISPATCH descriptor routes token rows to experts under capacity and writes the member's plan. -/
  | dispatch (run : BitVec 6) (rows : List RowX) (plans : List PlanX) (resps : List Resp)
  /-- COMBINE (R456). A COMBINE descriptor sums the gate-weighted expert outputs back into token rows. -/
  | combine (run : BitVec 6) (sent : CombineX) (resps : List Resp)
  /-- ENGINE_PAGE_BOUNDARY (R91). An engine reaches a 64 KiB page of a PRES_EN operand and reads its presence bit, pausing and parking if the bit is clear. -/
  | enginePageBoundary (q : BitVec 10) (idx : BitVec 16) (va : Va)
  /-- DESCRIPTOR_COMPLETE (R136). A descriptor finishes: word 2 is written, then the sync add, the event and MSI-X, and HEAD advances. -/
  | descriptorComplete (q : BitVec 10) (idx : BitVec 16)
  /-- HOLDOFF_EXPIRY (R148). A ring's hold-off interval ends, and one vector is written for the calls made during it. -/
  | holdoffExpiry (ring : BitVec 4)
  /-- QUEUE_COMMIT (R141). A commit of group QMGq sets the effective RUN, which starts, stops or resumes the queue. -/
  | queueCommit (q : BitVec 10)
  /-- QUEUE_IDLE (R138). A STOPPING queue has no descriptor running and reaches IDLE, and its parked descriptors leave the fault queue. -/
  | queueIdle (q : BitVec 10)
  /-- EVT_CFG_WRITE (R147). A write to QMG_EVT_CFG; setting EN resets TAIL and PHASE and writes any EVENTS_LOST first, and clearing EN drops held events. -/
  | evtCfgWrite (ring : BitVec 4) (v : R32)
  /-- EVT_HEAD_WRITE (R147). The driver advances QMG_EVT_HEAD, freeing space so that held events are written. -/
  | evtHeadWrite (ring : BitVec 4) (v : R32)
  /-- SYN_ADD (R149). A BAR0 write to SYN_ADD signals a sync object with the written value. -/
  | synAdd (obj : BitVec 14) (v : R32)
  /-- SYNC_RESET (R149). Writing RESET in SYN_CTL sets a sync object's value to zero. -/
  | syncReset (obj : BitVec 14)
  /-- WATCH_REGISTER (R153). A watch registration reaches the object's home, which checks it and completes it at once, holds a watch, or falls back to polling. -/
  | watchRegister (watch : WatchIn) (job : JobId) (thr : R64) (node : NodeId) (tag : BitVec 16)
  /-- WAKE (R153). A WAKE reaches the waiting node and completes its SYNC_WAIT. -/
  | wake (c : Cpl)
  /-- SYNC_POLL (R153). Every 256 tk, a wait without a watch reads its object again. -/
  | syncPoll (q : BitVec 10) (idx : BitVec 16) (resps : List Resp)
  /-- SYNC_WAIT_TIMEOUT (R154). A SYNC_WAIT not met within TIMEOUT completes OK with TIMEOUT set and withdraws its watch. -/
  | syncWaitTimeout (q : BitVec 10) (idx : BitVec 16)
  /-- SYN_ARM (R155). Writing ARMED 1 arms host entry e with its tick, add and target. -/
  | synArm (e : BitVec 8) (v : R32)
  /-- SYN_DISARM (R155). Writing ARMED 0 to an armed host entry frees it without issuing the add. -/
  | synDisarm (e : BitVec 8)
  /-- ARM_TICK_EXPIRY (R155). Domain time reaches an entry's ARM_TICK, so the armed add is issued and the entry freed. -/
  | armTickExpiry (e : BitVec 8)
  /-- ARM_ENTRY_TAKEN (R155). In the core cycle after an entry frees, the longest-waiting SYNC_SIGNAL takes it and completes. -/
  | armEntryTaken
  /-- TIME_HB_SEND (R283). Every 1 µs each trained torus link sends a time message and heartbeat in each direction. -/
  | timeHbSend (port : Fin 6)
  /-- TIME_HB (R534). A TIME_HB message arrives; the node updates delay, offset, servo, parent, plan and incarnations, and fills order gaps. -/
  | timeHb (port : Fin 6) (msg : TimeHb) (rx : Stamp)
  /-- ROOT_ELECTION (R286). A candidate's listening time ends with no live earlier root, and it becomes ROOT. -/
  | rootElection
  /-- PARENT_TIMEOUT (R289). No time message arrives from the parent for 8 µs, and the node enters HOLDOVER. -/
  | parentTimeout
  /-- DTT_CTL_WRITE (R289). A write to DTT_CTL enables or disables synchronisation and sets the use of DT_SYNC. -/
  | dttCtlWrite (v : R32)
  /-- DTT_ROOTS_WRITE (R286). A write to DTT_ROOTS restarts the election, and a root that is dropped from the list enters HOLDOVER. -/
  | dttRootsWrite (v : R32)
  /-- BARRIER_ARM (R292). Writing ARM in DTT_BAR_CTL arms a barrier and sends ARRIVE if the node is a member. -/
  | barrierArm (v : R32)
  /-- BARRIER_DISARM (R292). Writing DISARM in DTT_BAR_CTL disarms a barrier that has not fired. -/
  | barrierDisarm
  /-- ARRIVE (R293). An ARRIVE message is forwarded towards the root, or counted there, and the root sends RELEASE when the count reaches EXPECT. -/
  | arrive (port : Fin 6) (seq : BitVec 8) (n : BitVec 7)
  /-- RELEASE (R294). A RELEASE message arrives, and the node forwards it with the remaining delay reduced and schedules its firing. -/
  | release (port : Fin 6) (seq : BitVec 8) (hasLoad : Bool) (remain : R64) (val : R64)
  /-- BARRIER_FIRE (R296). The remaining delay expires, so the node fires: it starts BARRIER descriptors, loads time if it carries a load, and disarms. -/
  | barrierFire
  /-- DT_SYNC_EDGE (R297). A rising edge on DT_SYNC with EXT_BAR set fires the armed barrier 16 core cycles later. -/
  | dtSyncEdge
  /-- SLOT_BOUNDARY (R299). A slot boundary is reached; the slot number advances and the entries in force are applied. -/
  | slotBoundary
  /-- SCHED_FLIT_RECEIVE (R311). A SCHED flit reaches staging or its tile and is checked against its slot plus LAG. -/
  | schedFlitReceive (port : Fin 6) (f : SFlit)
  /-- VALIDATE (R318). DTT_TT_CMD VALIDATE starts checking the next timetable set. -/
  | validate (set : Bool)
  /-- TT_ARM (R319). DTT_TT_CMD ARM checks the next set and arms its swap at DTT_SWAP_TICK. -/
  | ttArm (set : Bool)
  /-- TT_DISARM (R320). DTT_TT_CMD DISARM cancels an armed swap before its boundary. -/
  | ttDisarm (set : Bool)
  /-- TT_CHECK_DONE (R318). The check of a timetable set ends with ERR and posts TT_RESULT. -/
  | ttCheckDone
  /-- TIMETABLE_SWAP (R319). The first slot boundary after the swap tick and the checks arrives, and the next set becomes active at entry 0. -/
  | timetableSwap
  /-- TTWIN_WRITE (R321). A write through DTT_TTWIN lands in a set, or is discarded with LIVE_WR set for an active or armed set. -/
  | ttwinWrite (off : BitVec 17) (wide : Bool) (v : R64)
  /-- APPLY (R329). DTT_ENV_CMD APPLY sends a power target to the root, which checks it and issues a plan. -/
  | apply
  /-- FORCE_K (R330). DTT_ENV_CMD FORCE_K sets k_env directly at the root. -/
  | forceK (env : EnvIn)
  /-- DILATION_STEP (R331). A plan step falls due, and k moves by one at the next slot boundary. -/
  | dilationStep
  /-- K_THERM_DECAY (R334). Each millisecond after the requests fall, the root lowers k_therm by at most 1. -/
  | kThermDecay
  /-- TILE_STEP (R371). A tile runs one step of its work and checks the residues of the blocks it adds and receives. -/
  | tileStep (tile : BitVec 6) (work : TileWork)
  /-- TILE_FAILURE (R378). A physical tile fails; its step is abandoned and it is spared, or it is disabled with the complex short. -/
  | tileFailure (phys : BitVec 6)
  /-- SPARE_SUBSTITUTION (R379). At the next slot boundary a spare is bound to the logical tile, the map is written and the step reruns. -/
  | spareSubstitution (tile : BitVec 6)
  /-- SPARE_TEST (R380). ENG_SPARE_CMD TEST runs built-in self-test on a disabled or spare tile. -/
  | spareTest (phys : BitVec 6)
  /-- SPARE_TEST_DONE (R380). Self-test finishes within 2 ms, and PASS is set or cleared. -/
  | spareTestDone (pass : Bool)
  /-- SPARE_ENABLE (R381). ENG_SPARE_CMD ENABLE clears the disabled bit of a tested tile and writes the map. -/
  | spareEnable (phys : BitVec 6)
  /-- SPARE_DISABLE (R378). ENG_SPARE_CMD DISABLE fails a bound tile. -/
  | spareDisable (phys : BitVec 6)
  /-- ENG_T_CTL_WRITE (R343). A write to WORK resizes the working store when the tile is idle, unless it would cover a shadow. -/
  | engTCtlWrite (tile : BitVec 6) (v : R32)
  /-- DOPPIO_STEP (R384). A follower's step inputs all stand in its working store, and the follower runs the step. -/
  | doppioStep (pair : BitVec 2) (work : FollowX)
  /-- DOPPIO_COMPARE (R385). The follower's block hashes reach the leader and are compared. -/
  | doppioCompare (pair : BitVec 2) (hashes : List R64)
  /-- GROUP_ENABLE (R393). GRP_CMD ENABLE validates a group entry. -/
  | groupEnable (g : BitVec 10)
  /-- GROUP_DISABLE (R393). GRP_CMD DISABLE takes a live group entry out of use. -/
  | groupDisable (g : BitVec 10)
  /-- GROUP_CMD_DONE (R393). A group command finishes; BUSY falls and the entry changes liveness in that core cycle. -/
  | groupCmdDone
  /-- GWIN_WRITE (R395). A write through GRP_GWIN changes an entry, or is discarded with LIVE_WR set if the entry is live. -/
  | gwinWrite (off : BitVec 18) (wide : Bool) (v : R64)
  /-- SIGNATURE_RECORD (R405). A signature record arrives on an IN stream and is compared and forwarded towards the verdict. -/
  | signatureRecord (run : BitVec 6) (r : SigRec)
  /-- ROUND_START (R408). A round begins at the later of its nominal slot and the arrival of its inputs. -/
  | roundStart (run : BitVec 6)
  /-- ROUND_END (R416). A round completes; PROGRESS advances, output is written, and the instance pauses or completes. -/
  | roundEnd (run : BitVec 6)
  /-- ABORT_RECORD (R422). An abort record arrives, and the node forwards it, stops writing and completes its members. -/
  | abortRecord (group : BitVec 10) (seq : R32) (status : Status) (origin : NodeId)
  /-- COLL_HOLD_TIMEOUT (R420). An instance holds at a round boundary longer than HOLD × 1,024 tk. -/
  | collHoldTimeout (run : BitVec 6)
  /-- EMAP_ENABLE (R445). GRP_EMAP_CMD ENABLE validates an expert map and computes its DIGEST. -/
  | emapEnable (m : BitVec 10)
  /-- EMAP_DISABLE (R445). GRP_EMAP_CMD DISABLE takes a live map out of use. -/
  | emapDisable (m : BitVec 10)
  /-- EMAP_CMD_DONE (R445). An expert-map command finishes, and the map changes liveness as BUSY falls. -/
  | emapCmdDone
  /-- EMAP_WIN_WRITE (R446). A write through GRP_EHDR or GRP_EWIN changes a map, or is discarded if the map is live. -/
  | emapWinWrite (hdr : Bool) (off : BitVec 17) (wide : Bool) (v : R64)
  /-- EXPERT_DECISION (R450). An expert's node holds every route record for the expert, and it keeps, spills or drops the assignments. -/
  | expertDecision (run : BitVec 6) (expert : BitVec 16) (held : DecideX)
  /-- HEARTBEAT_MISS (R465). HB_MISS heartbeat intervals pass without a heartbeat, and the port is declared down. -/
  | heartbeatMiss (port : Fin 6)
  /-- ORDER_SUBMIT (R474). FLT_ORD_CMD SUBMIT forwards the order in FLT_ORDWIN on every torus link and verifies it. -/
  | orderSubmit
  /-- ORDER_FRAG (R474). An ORDER_FRAG message arrives; a completed order is forwarded once and verified. -/
  | orderFrag (port : Fin 6) (seq : R32) (off : BitVec 16) (total : BitVec 16) (data : Bytes)
  /-- ORDER_VERIFY_DONE (R476). Verification of an order ends, and the order is applied, held for SEQ order, or refused. -/
  | orderVerifyDone
  /-- EXPEL (R479). An EXPEL order is applied: the target is failed for routing, its requests are completed or failed over, and traffic is resent. -/
  | expel (n : NodeId)
  /-- ADMIT_ORDER (R490). An ADMIT order is accepted and waits for its EFFECTIVE slot boundary. -/
  | admitOrder (n : NodeId) (inc : BitVec 16) (tick : R64)
  /-- ADMIT_EFFECTIVE (R490). Domain time reaches EFFECTIVE, and the node clears the target's expel bit or admits itself. -/
  | admitEffective (n : NodeId)
  /-- KEYS (R471). A KEYS order replaces one manager key slot. -/
  | keys (slot : BitVec 3) (key : Bytes)
  /-- STOP (R485). A STOP message arrives, and if it is newer by TIME order the job is stopped or resumed and the message forwarded. -/
  | stop (port : Fin 6) (msg : StopMsg)
  /-- JOB_STOP_CMD (R484). FLT_JOB_CMD STOP stops a job here, or everywhere with FLOOD. -/
  | jobStopCmd (flood : Bool) (job : JobId)
  /-- JOB_RESUME_CMD (R484). FLT_JOB_CMD RESUME resumes a job here, or everywhere with FLOOD. -/
  | jobResumeCmd (flood : Bool) (job : JobId)
  /-- MIRROR_REPAIR_START (R489). FLT_RM_CMD START sets MIRRORED towards a new partner and starts copying lines. -/
  | mirrorRepairStart (v : R32) (copy : Bool)
  /-- SED_START (R493). At FLT_SED_TICK, START begins capture and clears the series positions. -/
  | sedStart
  /-- SED_STOP (R493). At FLT_SED_TICK, STOP ends capture or replay. -/
  | sedStop
  /-- SED_REPLAY (R493). At FLT_SED_TICK, REPLAY makes the home execute captured requests in recorded order. -/
  | sedReplay
  /-- SEDIMENT_SLOT (R492). A SEDIMENT slot drains up to 128 records to the host ring, or reads them in replay. -/
  | sedimentSlot (recs : List Bytes)
  /-- SED_REPLAY_HOLD_TIMEOUT (R494). A request held in replay longer than WAIT × 1,024 tk. -/
  | sedReplayHoldTimeout
  /-- DIR_SWEEP_SLOT (R315). A DIR_SWEEP slot sweeps 4,096 directory entries and 64 KiB of SRAM for ECC. -/
  | dirSweepSlot
  /-- TELEMETRY_SLOT (R315). A TELEMETRY slot snapshots the counters into the FLT block. -/
  | telemetrySlot
  /-- LANE_CAL_SLOT (R513). A LANE_CAL slot replaces the port's stream with a calibration run, and the receiver adapts one step. -/
  | laneCalSlot (port : Fin 14) (meas : List (BitVec 9 × Nat × Nat))
  /-- PORT_ENABLE (R507). Setting or clearing LAN_P_CTL.EN starts a full training or turns the port OFF. -/
  | portEnable (port : Fin 14) (en : Bool)
  /-- PORT_TEST (R507). Setting or clearing TEST while EN is 0 moves the port into or out of TEST. -/
  | portTest (port : Fin 14) (on : Bool)
  /-- RETRAIN (R507). Writing RETRAIN starts a short training, or a full one from HELD. -/
  | retrain (port : Fin 14)
  /-- DEEP (R509). Setting LAN_P_CTL.DEEP sends DEEP_REQ, and clearing it leaves DEEP. -/
  | deep (port : Fin 14) (on : Bool)
  /-- TRAINING_PHASE_DONE (R505). A training phase passes, and the next phase starts. -/
  | trainingPhaseDone (port : Fin 14) (failed : List (BitVec 6))
  /-- TRAINING_TIMEOUT (R505). A training phase exceeds its limit or fails, and the port retries or becomes FAILED. -/
  | trainingTimeout (port : Fin 14)
  /-- FAILED_RETRY (R507). After 100 ms in FAILED with EN 1, the port starts a full training. -/
  | failedRetry (port : Fin 14)
  /-- PORT_ID (R506). The peer's PORT_ID arrives in LINK_INIT and is checked; the port comes UP, goes to PROBATION or is HELD. -/
  | portId (port : Fin 14) (peer : PortId)
  /-- FEC_GROUP_RECEIVE (R500). An FEC group is decoded; corrected symbols are counted per lane and commas are checked. -/
  | fecGroupReceive (port : Fin 14) (lane : Option (BitVec 9)) (syms : List (BitVec 10)) (commas : List (BitVec 9))
  /-- FLIT_RECEIVE (R527). A flit arrives: its CRC is checked, ACK frees replay entries, credits update, and a bad flit triggers a NAK. -/
  | flitReceive (port : Fin 14) (flit : Bytes)
  /-- NAK (R528). A link NAK arrives, and the sender resends its flits from e after REPLAY. -/
  | linkNak (port : Fin 14) (e : R32)
  /-- REPLAY (R527). A REPLAY message arrives, and the receiver takes numbered flits again from e. -/
  | replay (port : Fin 14) (e : R32)
  /-- NAK_TIMEOUT (R529). No REPLAY or good flit arrives 2 µs after a NAK, and the NAK is sent again. -/
  | nakTimeout (port : Fin 14)
  /-- CRC_SILENCE_TIMEOUT (R511). No flit with a good CRC arrives for 2 µs, and the link fails. -/
  | crcSilenceTimeout (port : Fin 14)
  /-- TAG (R538). A TAG message closes a frame; if the tag verifies, the frame's flits are delivered. -/
  | tag (port : Fin 14) (f : R64) (kgen : Bool) (n : BitVec 16) (mac : BitVec 128)
  /-- QUIET_REQ (R508). A QUIET_REQ arrives, and the port answers QUIET_ACK and stops signalling if it is idle. -/
  | quietReq (port : Fin 14)
  /-- QUIET_ACK (R508). A QUIET_ACK arrives, and the requester stops signalling. -/
  | quietAck (port : Fin 14)
  /-- QUIET_RESUME (R507). Either end resumes signalling from QUIET, and the port is UP within 200 ns. -/
  | quietResume (port : Fin 14)
  /-- DEEP_ACK (R509). A DEEP_ACK arrives, and the lanes enter DEEP. -/
  | deepAck (port : Fin 14)
  /-- SINGLE (R515). LAN_L_INJ SINGLE inverts one transmitted bit. -/
  | single (lane : BitVec 9)
  /-- BURST (R515). LAN_L_INJ BURST inverts BURST_LEN consecutive bits. -/
  | burst (lane : BitVec 9) (len : BitVec 10)
  /-- LANE_CLR (R516). Writing CLR in LAN_L_CTL clears the lane's counters. -/
  | laneClr (lane : BitVec 9)
  /-- CMIS_ACCESS (R521). LAN_CMIS_CMD GO starts an I3C read or write of a module, refusing bytes that the node manages. -/
  | cmisAccess (v : R32)
  /-- CMIS_ACCESS_DONE (R521). A CMIS access ends, and BUSY and ERR are set. -/
  | cmisAccessDone (err : BitVec 3) (data : Bytes)
  /-- CMIS_POLL (R519). Every 100 ms, or on an in-band interrupt, the node reads the lane flags. -/
  | cmisPoll (bus : Fin 10) (module : Fin 6) (flags : List (BitVec 8 × Byte))
  /-- SWITCH_FORWARD (R548). A memory-class message at the switch is routed in dimension order, reversed, escaped or held, and marked or discarded. -/
  | switchForward (inp : Option (Fin 14)) (msg : TMsg)
  /-- ESCAPE_REROUTE (R551). A port changes state or SWC_ESC is written, and the held messages are routed again. -/
  | escapeReroute
  /-- SWC_COMMIT (R639). SWC_COMMIT GO commits the isolation mode and classes. -/
  | swcCommit
  /-- ETH_LINK_CHANGE (R563). An Ethernet port comes up or goes down. -/
  | ethLinkChange (e : Fin 4) (up : Bool)
  /-- SEND_DOORBELL (R565). A write to ETH_CH_SQ_DB hands spill records to a channel. -/
  | sendDoorbell (ch : BitVec 8) (tail : BitVec 16)
  /-- RECEIVE_DOORBELL (R565). A write to ETH_CH_RQ_DB posts receive buffers to a channel. -/
  | receiveDoorbell (ch : BitVec 8) (tail : BitVec 16)
  /-- PUT_RECORD (R567). A PUT spill record starts and sends its bytes to the peer's window. -/
  | putRecord (ch : BitVec 8) (rec : Bytes) (resps : List Resp)
  /-- GET_RECORD (R567). A GET spill record requests bytes from the peer's window. -/
  | getRecord (ch : BitVec 8) (rec : Bytes) (resps : List Resp)
  /-- SEND_RECORD (R567). A SEND spill record sends a message into the peer's next receive buffer. -/
  | sendRecord (ch : BitVec 8) (rec : Bytes) (resps : List Resp)
  /-- PUT (R568). A PUT packet arrives, and the peer writes it into its window. -/
  | put (e : Fin 4) (p : Spill) (resps : List Resp)
  /-- GET_REQ (R568). A GET_REQ packet arrives, and the responder reads its window and sends GET_RESP. -/
  | getReq (e : Fin 4) (p : Spill) (resps : List Resp)
  /-- GET_RESP (R567). A GET_RESP packet arrives and is written to LOCAL. -/
  | getResp (e : Fin 4) (p : Spill) (resps : List Resp)
  /-- SEND (R568). A SEND packet arrives and fills the next receive buffer. -/
  | send (e : Fin 4) (p : Spill) (buf : Bytes) (resps : List Resp)
  /-- ACK (R570). A spill ACK arrives; it frees packets, triggers fast retransmit, adjusts the window and completes records. -/
  | ack (e : Fin 4) (p : Spill)
  /-- SPILL_NAK (R571). A spill NAK arrives, and the sender retransmits or completes the record. -/
  | spillNak (e : Fin 4) (p : Spill)
  /-- SPILL_ACK_TIMER (R570). 2 µs after the first unacknowledged packet, the receiver sends an ACK. -/
  | spillAckTimer (ch : BitVec 8)
  /-- SPILL_RTO (R571). A packet's retransmission timeout expires, so it is retransmitted or the channel fails. -/
  | spillRto (ch : BitVec 8) (psn : R32)
  /-- SPILL_WINDOW_GROW (R572). After each 64 µs without ECE, the channel window grows by 64 KiB. -/
  | spillWindowGrow (ch : BitVec 8)
  /-- NEIGHBOUR_SOLICITATION (R564). An Ethernet port answers a Neighbour Solicitation for its address. -/
  | neighbourSolicitation (e : Fin 4) (target : BitVec 128) (src : BitVec 128)
  /-- ECHO_REQUEST (R564). An Ethernet port answers an Echo Request. -/
  | echoRequest (e : Fin 4) (src : BitVec 128) (dst : BitVec 128) (body : Bytes)
  /-- OTHER_FRAME (R564). A frame that is not spill transport is discarded and counted in ETH_P_OTHER. -/
  | otherFrame (e : Fin 4)
  /-- REPORT (R581). SEC_CMD REPORT opens a session with fresh key pairs and writes a signed report. -/
  | report (sess : BitVec 4)
  /-- OPEN (R585). SEC_CMD OPEN derives the session key SK from the verifier's values. -/
  | secOpen (sess : BitVec 4)
  /-- CLOSE (R584). SEC_CMD CLOSE erases SK and frees the session. -/
  | close (sess : BitVec 4)
  /-- SEC_LOAD (R587). SEC_CMD LOAD unwraps a blob under SK and installs a memory key or link seed. -/
  | secLoad (sess : BitVec 4)
  /-- ERASE (R591). SEC_CMD ERASE erases a memory-key generation or a link seed that is not in use. -/
  | erase (kind : BitVec 2) (slot : BitVec 10) (gen : Bool) (port : BitVec 4)
  /-- LINK_REKEY (R599). SEC_CMD LINK_REKEY advances a port's transmit index. -/
  | linkRekey (port : BitVec 4)
  /-- SEC_CMD_DONE (R613). A firmware-served security command finishes, and BUSY falls with its ERR. -/
  | secCmdDone
  /-- SESSION_EXPIRY (R584). A REPORTED session waits 10 s without OPEN and is freed. -/
  | sessionExpiry (sess : BitVec 4)
  /-- SENSOR_TRIP (R606). A sensor trips, and the level that the policy assigns acts. -/
  | sensorTrip (kind : BitVec 3)
  /-- ALARM_ESCALATE (R607). 20 µs after a level-3 alarm, or once no completion is queued, the node acts as at level 2, zeroes SRAM, sets LATCH and holds reset. -/
  | alarmEscalate
  /-- ALARM_LATCH_CLEAR (R610). Writing 1 to SEC_ALARM_STAT.LATCH clears the alarm latch, and clearing TRIPPED releases ALARM_N. -/
  | alarmLatchClear (v : R32)
  /-- BOOT_ROM_READY (R628). The boot ROM reaches AWAIT_IMAGE within 50 ms of RST_N. -/
  | bootRomReady
  /-- IMGWIN_WRITE (R627). A write through FWM_IMGWIN lands in the image store of every control die, unless it is ignored. -/
  | imgwinWrite (off : BitVec 17) (wide : Bool) (v : R64)
  /-- BOOT (R628). FWM_CMD BOOT verifies the staged image and loads it onto both dies. -/
  | boot
  /-- BOOT_DONE (R628). The image starts within 200 ms, or the ROM stays in AWAIT_IMAGE with ERR. -/
  | bootDone (standbyOk : Bool)
  /-- UPDATE (R629). FWM_CMD UPDATE starts a handover; the standby checks the staged image. -/
  | update
  /-- HANDOVER_LOAD_DONE (R629). The standby's checks pass, and it starts the new image and syncs. -/
  | handoverLoadDone (standbyOk : Bool)
  /-- HANDOVER_SYNC_DONE (R629). The control-state digests of both dies agree, and the handover is READY. -/
  | handoverSyncDone (agree : Bool)
  /-- SWITCH (R629). FWM_CMD SWITCH, at once or at FWM_HO_TICK, moves the handover to SWITCHING. -/
  | switch (timed : Bool)
  /-- QUIESCENT_BOUNDARY (R630). A slot boundary with no firmware command in progress is reached, and the standby takes the role. -/
  | quiescentBoundary
  /-- ABORT (R629). FWM_CMD ABORT returns the handover to IDLE. -/
  | abort
  /-- HANDOVER_TIMEOUT (R629). SYNCING exceeds 500 ms or no quiescent boundary comes in 100 ms, and the handover aborts. -/
  | handoverTimeout
  /-- SVN_COMMIT (R632). FWM_CMD SVN_COMMIT raises FW_SVN to the running SVN. -/
  | svnCommit
  /-- STANDBY_TAKEOVER (R623). 100 µs pass without a beat from the role die, and the standby takes the role. -/
  | standbyTakeover (hardware : Bool)
  /-- CLAY_WRITE (R634). A write to CLY_WORD or to an RWP field is queued to both control dies' clay banks. -/
  | clayWrite (w : BitVec 10) (v : R32)
  /-- CLAY_WRITE_DONE (R634). A clay write becomes durable and is read back, and is written once more on a mismatch. -/
  | clayWriteDone (back0 back1 : R32)
  /-- TIMED_COMMIT_ARM (R640). FWM_TC_CMD ARM arms a timed commit of a group at tick T. -/
  | timedCommitArm
  /-- TIMED_COMMIT_CANCEL (R640). FWM_TC_CMD CANCEL cancels a group's pending timed commit. -/
  | timedCommitCancel
  /-- TIMED_COMMIT (R640). In the first core cycle of tick T, the group is committed. -/
  | timedCommit
  /-- VERSION (R651). Mailbox VERSION returns IMG_VER, SVN and FW_RUN. -/
  | version
  /-- SENSORS (R651). Mailbox SENSORS returns the die temperatures, voltage, current and power. -/
  | sensors
  /-- POOL_TEST (R651). Mailbox POOL_TEST starts a march test of one pool device. -/
  | poolTest (dev : BitVec 5)
  /-- POOL_TEST_DONE (R651). A pool march test finishes, and its result is written to the mailbox. -/
  | poolTestDone (pass : Bool) (lines : R64)
  /-- AVS_STEP (R642). Every 100 µs the voltage loop raises or lowers VDD_CORE by one step. -/
  | avsStep (margin : BitVec 8) (amps : BitVec 16)
  /-- AVS_STATUS_ALERT (R668). The VDD_CORE regulator signals Status Alert on AVSBus. -/
  | avsStatusAlert
  /-- THERMAL_SAMPLE (R645). Every 10 µs the junction sensors are sampled, and the warn and trip stages are evaluated. -/
  | thermalSample (temps : List Reading)
  /-- THERMAL_REQUEST (R646). Each millisecond the firmware raises or lowers the node's thermal request. -/
  | thermalRequest (watts : BitVec 16)
  /-- SUPPLY_REMOVED (R666). The board removes the package's rails, so the node becomes unpowered, drives nothing, and leaves a level-3 hold or a thermal trip. -/
  | supplyRemoved
  /-- POWER_UP (R665). The rails rise in stage order with RST_N low, so the node becomes powered, in reset, with its outputs high-impedance. -/
  | powerUp
  /-- PCIE_REFCLK_LOSS (R52). PCIE_REFCLK is lost, which stops the PCIe link and nothing else. -/
  | pcieRefclkLoss
  /-- DEEP_EXIT (R507). The attach side signals while the port is in DEEP, so the port starts a short training. -/
  | deepExit (port : Fin 14)
  /-- PRBS_LOCK (R514). In TEST, a lane's checker locks by itself to the received pattern's phase, sets PRBS_LOCK, and then counts bits and errors. -/
  | prbsLock (lane : BitVec 9) (bits errs : Nat)
  /-- LATCHED_READ (R616). A read of SYN_VAL_LO, DTT_NOW_LO, DTT_SLOT_LO or FLT_TEL_TICK_LO latches the upper half and phase, which later reads return. -/
  | latchedRead (off : BitVec 25)
  /-- EXT_CMD_DONE (R237). An extent command without TIMED is applied within 64 core cycles, and HOM_EXT_RES.BUSY falls. -/
  | extCmdDone
  /-- STANDBY_FOLLOWS (R629). After a handover or an abort, the standby has been loaded and follows again within 100 ms, and STANDBY_VALID rises. -/
  | standbyFollows
  deriving DecidableEq, Repr

end Sys2Proof
end

