-- ==== Sys2Proof/Decode.lean ====
section
/-!
DEFINITION. The opcode table gives no row any bits, so no word spells a command (DESIGN CHOICE, log entry 10).
-/

namespace Sys2Proof

/-- The command that a word spells: none, for no row of the table has bits. -/
def decodeTableWord (_nbits _w : Nat) : Option Instr := none

end Sys2Proof
end

