-- ==== Sys2Proof/Config.lean ====
section
/-!
DEFINITION. What the model leaves open: the free values of the spec's silences, and the functions that other standards define
(DESIGN CHOICE, log entries 3 and 8). None has a body: nothing can be proved of a value of theirs.
-/

namespace Sys2Proof.Config

/-- The value a read finds where the spec states none (DESIGN CHOICE, log entry 3): the n-th one drawn. -/
opaque freeByte : Nat → Byte

/-- A free 64-bit value: the n-th one drawn (DESIGN CHOICE, log entry 3). -/
opaque freeWord : Nat → R64

/-- SHA-384 (FIPS 180-4): 48 bytes. -/
opaque sha384 : Bytes → Bytes

/-- HKDF-SHA-384 (RFC 5869): input key, salt, info, length. -/
opaque hkdf : Bytes → Bytes → Bytes → Nat → Bytes

/-- The verdicts of Ed25519 and ML-DSA-65: key, message, signature. -/
opaque ed25519Verify : Bytes → Bytes → Bytes → Bool
opaque mldsaVerify : Bytes → Bytes → Bytes → Bool

/-- Signing under the part's own keys: seed, message. -/
opaque ed25519Sign : Bytes → Bytes → Bytes
opaque mldsaSign : Bytes → Bytes → Bytes

/-- Public keys of the part's identity, from its seed. -/
opaque ed25519Public : Bytes → Bytes
opaque mldsaPublic : Bytes → Bytes

/-- X25519: a fresh pair's public half, and the shared secret; ML-KEM-768 likewise. Arguments: the draw, the peer's value. -/
opaque x25519Public : Nat → Bytes
opaque x25519Shared : Nat → Bytes → Bytes
opaque mlkemPublic : Nat → Bytes
opaque mlkemShared : Nat → Bytes → Bytes

/-- AES-256-GCM opening: key, IV, additional data, ciphertext, tag; the plaintext where the tag verifies. -/
opaque gcmOpen : Bytes → Bytes → Bytes → Bytes → Bytes → Option Bytes

/-- AES-256-GCM sealing: key, IV, additional data, plaintext; ciphertext and tag. -/
opaque gcmSeal : Bytes → Bytes → Bytes → Bytes → Bytes × Bytes

/-- The identity seed that the PUF and the clay's helper data give (R576). -/
opaque identitySeed : Nat → Bytes

/-- The SHA-384 digests of the image-signing keys that the boot ROM holds (R625). -/
opaque romDigests : List Bytes

end Sys2Proof.Config
end

