-- ==== Sys2Proof/Machine/Bits.lean ====
section
/-!
DEFINITION. Bit fields, byte order and coordinates: little-endian words (R17, R18), the node's place in the torus (R11).
-/

namespace Sys2Proof.Machine

/-- The number a run of bytes spells, least significant byte first (R17). -/
def leNat : Bytes → Nat
  | [] => 0
  | b :: bs => b.toNat + 256 * leNat bs

/-- The `n` bytes of a number, least significant first (R17). -/
def natLe : Nat → Nat → Bytes
  | 0, _ => []
  | n + 1, x => BitVec.ofNat 8 x :: natLe n (x / 256)

/-- Bits [lo + w - 1 : lo] of a number (R18). -/
def bitsAt (x lo w : Nat) : Nat := (x >>> lo) % 2 ^ w

/-- One bit of a number. -/
def bitAt (x i : Nat) : Bool := x.testBit i

/-- A field of `w` bits of a number, as a bit vector. -/
def fieldAt (w x lo : Nat) : BitVec w := BitVec.ofNat w (x >>> lo)

/-- A value put at a bit position of a word under construction. -/
def putAt (lo : Nat) {w : Nat} (v : BitVec w) : Nat := v.toNat * 2 ^ lo

/-- 1 for true. -/
def b2n (b : Bool) : Nat := if b then 1 else 0

/-- One bit from a Bool. -/
def bit1 (b : Bool) : BitVec 1 := if b then 1 else 0

/-- Counting that stops at the greatest value. -/
def satAdd {w : Nat} (x : BitVec w) (n : Nat) : BitVec w :=
  if x.toNat + n < 2 ^ w then BitVec.ofNat w (x.toNat + n) else BitVec.allOnes w

/-- Bits [hi:lo] of a 64-bit word, as a number. -/
def w64 (x : R64) (hi lo : Nat) : Nat := bitsAt x.toNat lo (hi - lo + 1)

/-- The words of 8 bytes of a run. -/
def words64 : Nat → Bytes → List R64
  | 0, _ => []
  | n + 1, bs => BitVec.ofNat 64 (leNat (bs.take 8)) :: words64 n (bs.drop 8)

/-- The bytes of a list of 64-bit words. -/
def bytes64 : List R64 → Bytes
  | [] => []
  | w :: ws => natLe 8 w.toNat ++ bytes64 ws

/-- Coordinate of a node ID on axis 0 (x), 1 (y) or 2 (z) (R11). -/
def coord (n : NodeId) (axis : Nat) : Nat := bitsAt n.toNat (2 * axis) 2

/-- The node ID of a position (R11). -/
def nodeAt (x y z : Nat) : NodeId := BitVec.ofNat 6 (x % 4 + 4 * (y % 4) + 16 * (z % 4))

/-- The neighbour that a torus port 0-5 faces (R30). -/
def neighbour (n : NodeId) (port : Nat) : NodeId :=
  let step := if port % 2 = 0 then 1 else 3
  nodeAt (coord n 0 + (if port / 2 = 0 then step else 0)) (coord n 1 + (if port / 2 = 1 then step else 0))
    (coord n 2 + (if port / 2 = 2 then step else 0))

/-- The peer's port at the other end of a torus port's cable (R30). -/
def peerPort (port : Nat) : Nat := if port % 2 = 0 then port + 1 else port - 1

/-- Replace the element at an index. -/
def setAt {α : Type} (l : List α) (i : Nat) (v : α) : List α := l.set i v

/-- The elements for which a test fails. -/
def dropWhere {α : Type} (p : α → Bool) (l : List α) : List α := l.filter (fun x => !p x)

/-- Exclusive or of two byte runs of one length. -/
def xorBytes (a b : Bytes) : Bytes := List.zipWith (· ^^^ ·) a b

/-- `n` zero bytes. -/
def zeros (n : Nat) : Bytes := List.replicate n 0

/-- Bytes `[lo, lo + n)` of a run, zero where the run ends early. -/
def slice (bs : Bytes) (lo n : Nat) : Bytes :=
  let r := (bs.drop lo).take n
  r ++ zeros (n - r.length)

/-- Without repeats. -/
def nub : List Nat → List Nat
  | [] => []
  | x :: xs => if (nub xs).contains x then nub xs else x :: nub xs

/-- Fold an operation over 0 .. n-1. -/
def upto {σ : Type} (f : Nat → σ → σ) : Nat → σ → σ
  | 0, s => s
  | n + 1, s => f n (upto f n s)

end Sys2Proof.Machine
end

