-- ==== Sys2Proof/Machine/Mem.lean ====
section
/-!
DEFINITION. Sparse stores. Every addressed memory, register file and table of records of the block is a list of (key, value)
pairs in one canonical form: keys strictly rising, and no entry equal to what an unlisted key reads as. So equal stores are
equal data.
-/

namespace Sys2Proof.Machine

/-- A sparse store: key and value. -/
abbrev SMap (α : Type) := List (Nat × α)

/-- The value at a key; an unlisted key reads as `d key`. -/
def sget {α : Type} (d : Nat → α) : SMap α → Nat → α
  | [], k => d k
  | (j, v) :: m, k => if j = k then v else sget d m k

/-- Write one key. Writing what an unlisted key reads as removes the entry. -/
def sset {α : Type} [DecidableEq α] (d : Nat → α) : SMap α → Nat → α → SMap α
  | [], k, v => if v = d k then [] else [(k, v)]
  | (j, w) :: m, k, v =>
    if k < j then (if v = d k then (j, w) :: m else (k, v) :: (j, w) :: m)
    else if k = j then (if v = d k then m else (k, v) :: m)
    else (j, w) :: sset d m k v

/-- The canonical form above a bound: every key at or above `lo`, strictly rising, no value that is the default. -/
def swfFrom {α : Type} [DecidableEq α] (d : Nat → α) : Nat → SMap α → Bool
  | _, [] => true
  | lo, (k, v) :: m => decide (lo ≤ k) && decide (v ≠ d k) && swfFrom d (k + 1) m

/-- The canonical form. -/
def swf {α : Type} [DecidableEq α] (d : Nat → α) (m : SMap α) : Bool := swfFrom d 0 m

/-- A byte memory. -/
abbrev Mem := List Host.Cell

/-- What an unlisted byte reads as: zero (DESIGN CHOICE, log entry 7). -/
def byte0 : Nat → Byte := fun _ => 0

/-- The byte at an address. -/
def Mem.rd (m : Mem) (a : Nat) : Byte := sget byte0 m a

/-- Write one byte. -/
def Mem.wr (m : Mem) (a : Nat) (b : Byte) : Mem := sset byte0 m a b

/-- The `n` bytes from an address on. -/
def Mem.rdN (m : Mem) (a : Nat) : Nat → Bytes
  | 0 => []
  | n + 1 => Mem.rd m a :: Mem.rdN m (a + 1) n

/-- Write a run of bytes. -/
def Mem.wrN (m : Mem) (a : Nat) : Bytes → Mem
  | [] => m
  | b :: bs => Mem.wrN (Mem.wr m a b) (a + 1) bs

/-- The memory is in its canonical form. -/
def Mem.wf (m : Mem) : Bool := swf byte0 m

end Sys2Proof.Machine
end

