-- ==== Sys2Proof/Machine/RegMap.lean ====
section
/-!
DEFINITION. The places of the registers in BAR0 and of the fields in them, as the register descriptions of the chapters give
them (R677). `Reg.X` is the offset of register X, `F.X_Y` its field Y.
-/

namespace Sys2Proof.Machine

/-- A register field of `w` bits: the offset of its register in BAR0 and its lowest bit. -/
structure Fld (w : Nat) where
  off : Nat
  lo : Nat
  deriving DecidableEq, Repr

end Sys2Proof.Machine

namespace Sys2Proof.Machine.Reg

def GLB_IDENT : Nat := 0x0
def GLB_TILES : Nat := 0x4
def GLB_TMASK_LO : Nat := 0x8
def GLB_TMASK_HI : Nat := 0xc
def GLB_NODE : Nat := 0x10
def XLT_CTL : Nat := 0x100000
def XLT_STAT : Nat := 0x100004
def XLT_FAULTS : Nat := 0x100008
def XLT_PRES_VA_LO : Nat := 0x100010
def XLT_PRES_VA_HI : Nat := 0x100014
def XLT_PRES_CMD : Nat := 0x100018
def XLT_PRES_STAT : Nat := 0x10001c
def XLT_COMMIT : Nat := 0x100020
def XLT_RTWIN_PAGE : Nat := 0x100024
def XLT_AGT (a h : Nat) : Nat := 0x101000 + 0x40 * a + 0x4 * h
def XLT_CTX_ID (n : Nat) : Nat := 0x104000 + 0x10 * n
def XLT_CTX_TBL (n : Nat) : Nat := 0x104004 + 0x10 * n
def XLT_CTX_STAT (n : Nat) : Nat := 0x104008 + 0x10 * n
def XLT_CTX_DRAIN (n : Nat) : Nat := 0x10400c + 0x10 * n
def QMG_CTL : Nat := 0x80000
def QMG_STAT : Nat := 0x80004
def QMG_COMMIT : Nat := 0x80008
def QMG_EVT_BASE_LO (r : Nat) : Nat := 0x80100 + 0x20 * r
def QMG_EVT_BASE_HI (r : Nat) : Nat := 0x80104 + 0x20 * r
def QMG_EVT_CFG (r : Nat) : Nat := 0x80108 + 0x20 * r
def QMG_EVT_HEAD (r : Nat) : Nat := 0x8010c + 0x20 * r
def QMG_EVT_TAIL (r : Nat) : Nat := 0x80110 + 0x20 * r
def QMG_EVT_LOST (r : Nat) : Nat := 0x80114 + 0x20 * r
def QMG_Q_BASE_LO (q : Nat) : Nat := 0x81000 + 0x20 * q
def QMG_Q_BASE_HI (q : Nat) : Nat := 0x81004 + 0x20 * q
def QMG_Q_CFG (q : Nat) : Nat := 0x81008 + 0x20 * q
def QMG_Q_SCHED (q : Nat) : Nat := 0x8100c + 0x20 * q
def QMG_Q_CTL (q : Nat) : Nat := 0x81010 + 0x20 * q
def QMG_Q_STAT (q : Nat) : Nat := 0x81014 + 0x20 * q
def QMG_Q_PTR (q : Nat) : Nat := 0x81018 + 0x20 * q
def QMG_DB (q : Nat) : Nat := 0xa0000 + 0x40 * q
def SYN_VAL_LO (i : Nat) : Nat := 0x600000 + 0x10 * i
def SYN_VAL_HI (i : Nat) : Nat := 0x600004 + 0x10 * i
def SYN_ADD (i : Nat) : Nat := 0x600008 + 0x10 * i
def SYN_CTL (i : Nat) : Nat := 0x60000c + 0x10 * i
def SYN_ARM_TICK_LO (e : Nat) : Nat := 0x640000 + 0x10 * e
def SYN_ARM_TICK_HI (e : Nat) : Nat := 0x640004 + 0x10 * e
def SYN_ARM_ADD (e : Nat) : Nat := 0x640008 + 0x10 * e
def SYN_ARM_CTL (e : Nat) : Nat := 0x64000c + 0x10 * e
def SYN_STAT : Nat := 0x641000
def HOM_CTL : Nat := 0x180000
def HOM_STAT : Nat := 0x180004
def HOM_LEASE : Nat := 0x180008
def HOM_EXT_CMD : Nat := 0x18000c
def HOM_EXT_TICK_LO : Nat := 0x180010
def HOM_EXT_TICK_HI : Nat := 0x180014
def HOM_EXT_RES : Nat := 0x180018
def HOM_EXTWIN_PAGE : Nat := 0x18001c
def HOM_DIR_FREE : Nat := 0x180020
def HOM_ACC_FREE : Nat := 0x180024
def HOM_SCRUB : Nat := 0x180028
def HOM_SCRUB_POS : Nat := 0x18002c
def HOM_CE_THR : Nat := 0x180030
def HOM_LLOG_HEAD : Nat := 0x180034
def HOM_LLOG_TAIL : Nat := 0x180038
def HOM_UE_CNT : Nat := 0x18003c
def HOM_CE_CNT (c : Nat) : Nat := 0x180100 + 0x4 * c
def DTT_CTL : Nat := 0x200000
def DTT_STAT : Nat := 0x200004
def DTT_NOW_LO : Nat := 0x200008
def DTT_NOW_HI : Nat := 0x20000c
def DTT_SYNC_STAT : Nat := 0x200010
def DTT_OFFSET : Nat := 0x200014
def DTT_ROOTS : Nat := 0x200018
def DTT_SLOT_LO : Nat := 0x20001c
def DTT_SLOT_HI : Nat := 0x200020
def DTT_DIL : Nat := 0x200024
def DTT_LATE_CNT : Nat := 0x200028
def DTT_STAGE_CAP : Nat := 0x20002c
def DTT_FREQ : Nat := 0x200030
def DTT_PORT_LAG (p : Nat) : Nat := 0x200040 + 0x4 * p
def DTT_BAR_CTL : Nat := 0x200080
def DTT_BAR_STAT : Nat := 0x200084
def DTT_BAR_LOAD_LO : Nat := 0x200088
def DTT_BAR_LOAD_HI : Nat := 0x20008c
def DTT_TT_CMD : Nat := 0x2000c0
def DTT_TT_STAT : Nat := 0x2000c4
def DTT_TT_LEN (s : Nat) : Nat := 0x2000c8 + 0x4 * s
def DTT_SWAP_TICK_LO : Nat := 0x2000d0
def DTT_SWAP_TICK_HI : Nat := 0x2000d4
def DTT_TTWIN_PAGE : Nat := 0x2000d8
def DTT_ENV_CMD : Nat := 0x200100
def DTT_ENV_TARGET : Nat := 0x200104
def DTT_ENV_TICK_LO : Nat := 0x200108
def DTT_ENV_TICK_HI : Nat := 0x20010c
def DTT_ENV_STAT : Nat := 0x200110
def DTT_DIL_TAB (k : Nat) : Nat := 0x200140 + 0x4 * (k - 16)
def ENG_T_CTL (n : Nat) : Nat := 0x280000 + 0x1000 * n
def ENG_T_STAT (n : Nat) : Nat := 0x280004 + 0x1000 * n
def ENG_T_STEPS (n : Nat) : Nat := 0x280008 + 0x1000 * n
def ENG_T_RESID (n : Nat) : Nat := 0x28000c + 0x1000 * n
def ENG_CTL : Nat := 0x2c0000
def ENG_STAT : Nat := 0x2c0004
def ENG_SAT_CNT : Nat := 0x2c0008
def ENG_SPARE_CMD : Nat := 0x2c000c
def ENG_SPARE_RES : Nat := 0x2c0010
def ENG_WIN_BASE (w : Nat) : Nat := 0x2c0100 + 0x10 * w
def ENG_WIN_LEN (w : Nat) : Nat := 0x2c0104 + 0x10 * w
def ENG_WIN_JOB (w : Nat) : Nat := 0x2c0108 + 0x10 * w
def ENG_DOP_CTL (i : Nat) : Nat := 0x2c0800 + 0x10 * i
def ENG_DOP_STAT (i : Nat) : Nat := 0x2c0804 + 0x10 * i
def ENG_DOP_CNT (i : Nat) : Nat := 0x2c0808 + 0x10 * i
def GRP_CTL : Nat := 0x300000
def GRP_STAT : Nat := 0x300004
def GRP_CMD : Nat := 0x300008
def GRP_RES : Nat := 0x30000c
def GRP_GWIN_PAGE : Nat := 0x300010
def GRP_MISMATCH_CNT : Nat := 0x300014
def GRP_ABORT_CNT : Nat := 0x300018
def GRP_INST_STAT (i : Nat) : Nat := 0x300100 + 0x10 * i
def GRP_INST_SEQ (i : Nat) : Nat := 0x300104 + 0x10 * i
def GRP_INST_ROUND (i : Nat) : Nat := 0x300108 + 0x10 * i
def GRP_INST_TOTAL (i : Nat) : Nat := 0x30010c + 0x10 * i
def GRP_EMAP_CMD : Nat := 0x300020
def GRP_EMAP_RES : Nat := 0x300024
def GRP_EMAP_STAT : Nat := 0x300028
def GRP_EWIN_PAGE : Nat := 0x30002c
def GRP_DROP_CNT : Nat := 0x300030
def GRP_SPILL_CNT : Nat := 0x300034
def FLT_CTL : Nat := 0x580000
def FLT_STAT : Nat := 0x580004
def FLT_INC : Nat := 0x580008
def FLT_ORD_SEQ : Nat := 0x58000c
def FLT_EXP_LO : Nat := 0x580010
def FLT_EXP_HI : Nat := 0x580014
def FLT_MISROUTE_CNT : Nat := 0x580018
def FLT_PORT_HB (p : Nat) : Nat := 0x580020 + 0x4 * p
def FLT_ORD_CMD : Nat := 0x580040
def FLT_ORD_RES : Nat := 0x580044
def FLT_JOB_CMD : Nat := 0x580048
def FLT_JOB_RES : Nat := 0x58004c
def FLT_RM_CMD : Nat := 0x580050
def FLT_RM_RES : Nat := 0x580054
def FLT_JSTOP (i : Nat) : Nat := 0x580100 + 0x4 * i
def FLT_SED_CTL : Nat := 0x580500
def FLT_SED_CMD : Nat := 0x580504
def FLT_SED_TICK_LO : Nat := 0x580508
def FLT_SED_TICK_HI : Nat := 0x58050c
def FLT_SED_BASE_LO : Nat := 0x580510
def FLT_SED_BASE_HI : Nat := 0x580514
def FLT_SED_CFG : Nat := 0x580518
def FLT_SED_HEAD : Nat := 0x58051c
def FLT_SED_TAIL : Nat := 0x580520
def FLT_SED_STAT : Nat := 0x580524
def FLT_SED_JOB (j : Nat) : Nat := 0x580540 + 0x4 * j
def FLT_TEL_TICK_LO : Nat := 0x580600
def FLT_TEL_TICK_HI : Nat := 0x580604
def LAN_L_CTL (i : Nat) : Nat := 0x400000 + 0x100 * i
def LAN_L_INJ (i : Nat) : Nat := 0x400004 + 0x100 * i
def LAN_L_STAT (i : Nat) : Nat := 0x400008 + 0x100 * i
def LAN_L_PRE (i : Nat) : Nat := 0x40000c + 0x100 * i
def LAN_L_POST (i : Nat) : Nat := 0x400010 + 0x100 * i
def LAN_L_PRBS_ERR (i : Nat) : Nat := 0x400014 + 0x100 * i
def LAN_L_PRBS_BITS (i : Nat) : Nat := 0x400018 + 0x100 * i
def LAN_P_CTL (p : Nat) : Nat := 0x440000 + 0x100 * p
def LAN_P_STAT (p : Nat) : Nat := 0x440004 + 0x100 * p
def LAN_P_CRC (p : Nat) : Nat := 0x440008 + 0x100 * p
def LAN_P_REPLAY (p : Nat) : Nat := 0x44000c + 0x100 * p
def LAN_P_TRAIN (p : Nat) : Nat := 0x440010 + 0x100 * p
def LAN_CMIS_CMD : Nat := 0x460000
def LAN_CMIS_RES : Nat := 0x460004
def LAN_CMIS_DATA (j : Nat) : Nat := 0x460010 + 0x4 * j
def SWC_CTL : Nat := 0x380000
def SWC_COMMIT : Nat := 0x380004
def SWC_STAT : Nat := 0x380008
def SWC_SPLIT : Nat := 0x38000c
def SWC_ARB : Nat := 0x380010
def SWC_RED (c : Nat) : Nat := 0x380020 + 0x4 * c
def SWC_ESC (n : Nat) : Nat := 0x380100 + 0x4 * n
def SWC_P_DEPTH (p : Nat) : Nat := 0x380200 + 0x10 * p
def SWC_P_MALF (p : Nat) : Nat := 0x380204 + 0x10 * p
def SWC_P_MARK (p : Nat) : Nat := 0x380208 + 0x10 * p
def SWC_P_DISC (p : Nat) : Nat := 0x38020c + 0x10 * p
def SWC_TCM_RATE (n : Nat) : Nat := 0x384000 + 0x10 * n
def SWC_TCM_BURST (n : Nat) : Nat := 0x384004 + 0x10 * n
def SWC_TCM_CLS (n : Nat) : Nat := 0x384008 + 0x10 * n
def ETH_CTL : Nat := 0x480000
def ETH_UDP : Nat := 0x480004
def ETH_RTO : Nat := 0x480008
def ETH_RED (c : Nat) : Nat := 0x480010 + 0x4 * c
def ETH_P_CTL (e : Nat) : Nat := 0x480100 + 0x40 * e
def ETH_P_STAT (e : Nat) : Nat := 0x480104 + 0x40 * e
def ETH_P_MAC_LO (e : Nat) : Nat := 0x480108 + 0x40 * e
def ETH_P_MAC_HI (e : Nat) : Nat := 0x48010c + 0x40 * e
def ETH_P_GW_LO (e : Nat) : Nat := 0x480110 + 0x40 * e
def ETH_P_GW_HI (e : Nat) : Nat := 0x480114 + 0x40 * e
def ETH_P_IP (e j : Nat) : Nat := 0x480118 + 0x40 * e + 0x4 * j
def ETH_P_DROP (e : Nat) : Nat := 0x480128 + 0x40 * e
def ETH_P_ECN (e : Nat) : Nat := 0x48012c + 0x40 * e
def ETH_P_OTHER (e : Nat) : Nat := 0x480130 + 0x40 * e
def ETH_CH_CFG (ch : Nat) : Nat := 0x490000 + 0x40 * ch
def ETH_CH_PEER (ch j : Nat) : Nat := 0x490004 + 0x40 * ch + 0x4 * j
def ETH_CH_SQ_LO (ch : Nat) : Nat := 0x490014 + 0x40 * ch
def ETH_CH_RQ_LO (ch : Nat) : Nat := 0x490024 + 0x40 * ch
def ETH_CH_SQ_HI (ch : Nat) : Nat := 0x490018 + 0x40 * ch
def ETH_CH_RQ_HI (ch : Nat) : Nat := 0x490028 + 0x40 * ch
def ETH_CH_SQ_DB (ch : Nat) : Nat := 0x49001c + 0x40 * ch
def ETH_CH_RQ_DB (ch : Nat) : Nat := 0x49002c + 0x40 * ch
def ETH_CH_SQ_PTR (ch : Nat) : Nat := 0x490020 + 0x40 * ch
def ETH_CH_WIN_LO (ch : Nat) : Nat := 0x490030 + 0x40 * ch
def ETH_CH_WIN_HI (ch : Nat) : Nat := 0x490034 + 0x40 * ch
def ETH_CH_WIN_LEN (ch : Nat) : Nat := 0x490038 + 0x40 * ch
def ETH_CH_STAT (ch : Nat) : Nat := 0x49003c + 0x40 * ch
def SEC_STAT : Nat := 0x500000
def SEC_CMD : Nat := 0x500004
def SEC_RES : Nat := 0x500008
def SEC_ALARM_POL : Nat := 0x500010
def SEC_ALARM_STAT : Nat := 0x500014
def SEC_PORT_ST (p : Nat) : Nat := 0x500100 + 0x4 * p
def SEC_PORT_N (p : Nat) : Nat := 0x500140 + 0x4 * p
def FWM_STAT : Nat := 0x40000
def FWM_CMD : Nat := 0x40004
def FWM_IMG_PAGE : Nat := 0x40008
def FWM_IMG_LEN : Nat := 0x4000c
def FWM_HO_TICK_LO : Nat := 0x40010
def FWM_HO_TICK_HI : Nat := 0x40014
def FWM_VER : Nat := 0x40018
def FWM_VER_STBY : Nat := 0x4001c
def FWM_SVN : Nat := 0x40020
def FWM_TC_GROUP : Nat := 0x40040
def FWM_TC_TICK_LO : Nat := 0x40044
def FWM_TC_TICK_HI : Nat := 0x40048
def FWM_TC_CMD : Nat := 0x4004c
def FWM_TC_RES : Nat := 0x40050
def FWM_MB_CMD : Nat := 0x40100
def FWM_MB_RES : Nat := 0x40104
def CLY_WORD (i : Nat) : Nat := 0x10000 + 0x4 * i
def CLY_WEAR (i : Nat) : Nat := 0x11000 + 0x4 * i
def CLY_CTL : Nat := 0x12000
def CLY_STAT : Nat := 0x12004
def PWR_STAT : Nat := 0x20000
def PWR_AVS : Nat := 0x20004
def PWR_VCORE : Nat := 0x20008
def PWR_THERM : Nat := 0x2000c
def PWR_TMAX : Nat := 0x20010
def PWR_KREQ : Nat := 0x20014
def PWR_POWER : Nat := 0x20018
def PWR_FAILS : Nat := 0x2001c
def PWR_TDIE (d : Nat) : Nat := 0x20040 + 0x4 * d
def GLB_APT_BASE (a : Nat) : Nat := 0x100 + 0x10 * a
def GLB_APT_ATTR (a : Nat) : Nat := 0x104 + 0x10 * a
def GLB_APT_JOB (a : Nat) : Nat := 0x108 + 0x10 * a

end Sys2Proof.Machine.Reg

namespace Sys2Proof.Machine.F

def GLB_IDENT_PART : Fld 16 := ⟨Reg.GLB_IDENT, 16⟩
def GLB_IDENT_GRADE : Fld 4 := ⟨Reg.GLB_IDENT, 12⟩
def GLB_IDENT_STEPPING : Fld 4 := ⟨Reg.GLB_IDENT, 8⟩
def GLB_TILES_SHORT : Fld 1 := ⟨Reg.GLB_TILES, 24⟩
def GLB_TILES_SPARE1 : Fld 4 := ⟨Reg.GLB_TILES, 20⟩
def GLB_TILES_SPARE0 : Fld 4 := ⟨Reg.GLB_TILES, 16⟩
def GLB_TILES_EXPOSED : Fld 6 := ⟨Reg.GLB_TILES, 0⟩
def GLB_TMASK_LO_EXPOSED_LO : Fld 32 := ⟨Reg.GLB_TMASK_LO, 0⟩
def GLB_TMASK_HI_EXPOSED_HI : Fld 16 := ⟨Reg.GLB_TMASK_HI, 0⟩
def GLB_NODE_NODE_LOCK : Fld 1 := ⟨Reg.GLB_NODE, 31⟩
def GLB_NODE_TRAY_POS : Fld 6 := ⟨Reg.GLB_NODE, 16⟩
def GLB_NODE_NODE_ID : Fld 6 := ⟨Reg.GLB_NODE, 0⟩
def XLT_CTL_FAULT_EVT : Fld 1 := ⟨Reg.XLT_CTL, 1⟩
def XLT_CTL_EN : Fld 1 := ⟨Reg.XLT_CTL, 0⟩
def XLT_STAT_LIVE_WR : Fld 1 := ⟨Reg.XLT_STAT, 2⟩
def XLT_STAT_COAL_FULL : Fld 1 := ⟨Reg.XLT_STAT, 1⟩
def XLT_STAT_VALIDATING : Fld 1 := ⟨Reg.XLT_STAT, 0⟩
def XLT_FAULTS_COUNT : Fld 32 := ⟨Reg.XLT_FAULTS, 0⟩
def XLT_PRES_VA_LO_VA_LO : Fld 16 := ⟨Reg.XLT_PRES_VA_LO, 16⟩
def XLT_PRES_VA_HI_VA_HI : Fld 25 := ⟨Reg.XLT_PRES_VA_HI, 0⟩
def XLT_PRES_CMD_OP : Fld 2 := ⟨Reg.XLT_PRES_CMD, 30⟩
def XLT_PRES_CMD_WAKE : Fld 1 := ⟨Reg.XLT_PRES_CMD, 29⟩
def XLT_PRES_CMD_COUNT_M1 : Fld 12 := ⟨Reg.XLT_PRES_CMD, 10⟩
def XLT_PRES_CMD_SLOT : Fld 10 := ⟨Reg.XLT_PRES_CMD, 0⟩
def XLT_PRES_STAT_BUSY : Fld 1 := ⟨Reg.XLT_PRES_STAT, 31⟩
def XLT_PRES_STAT_ERR : Fld 3 := ⟨Reg.XLT_PRES_STAT, 28⟩
def XLT_PRES_STAT_BIT : Fld 1 := ⟨Reg.XLT_PRES_STAT, 0⟩
def XLT_COMMIT_SLOT : Fld 10 := ⟨Reg.XLT_COMMIT, 0⟩
def XLT_RTWIN_PAGE_PAGE : Fld 6 := ⟨Reg.XLT_RTWIN_PAGE, 0⟩
def XLT_AGT_VALID (a h : Nat) : Fld 1 := ⟨(Reg.XLT_AGT a h), 31⟩
def XLT_AGT_CTX_ID (a h : Nat) : Fld 12 := ⟨(Reg.XLT_AGT a h), 0⟩
def XLT_CTX_ID_RESIDENT (n : Nat) : Fld 1 := ⟨(Reg.XLT_CTX_ID n), 31⟩
def XLT_CTX_ID_HALF (n : Nat) : Fld 1 := ⟨(Reg.XLT_CTX_ID n), 30⟩
def XLT_CTX_ID_CTX_ID (n : Nat) : Fld 12 := ⟨(Reg.XLT_CTX_ID n), 16⟩
def XLT_CTX_ID_JOB (n : Nat) : Fld 16 := ⟨(Reg.XLT_CTX_ID n), 0⟩
def XLT_CTX_TBL_BASE (n : Nat) : Fld 18 := ⟨(Reg.XLT_CTX_TBL n), 13⟩
def XLT_CTX_TBL_COUNT (n : Nat) : Fld 13 := ⟨(Reg.XLT_CTX_TBL n), 0⟩
def XLT_CTX_STAT_EPOCH (n : Nat) : Fld 8 := ⟨(Reg.XLT_CTX_STAT n), 24⟩
def XLT_CTX_STAT_ERR (n : Nat) : Fld 4 := ⟨(Reg.XLT_CTX_STAT n), 20⟩
def XLT_CTX_STAT_PARKED (n : Nat) : Fld 10 := ⟨(Reg.XLT_CTX_STAT n), 0⟩
def XLT_CTX_DRAIN_REQ (n : Nat) : Fld 1 := ⟨(Reg.XLT_CTX_DRAIN n), 31⟩
def XLT_CTX_DRAIN_BUSY (n : Nat) : Fld 1 := ⟨(Reg.XLT_CTX_DRAIN n), 30⟩
def XLT_CTX_DRAIN_UPTO (n : Nat) : Fld 8 := ⟨(Reg.XLT_CTX_DRAIN n), 0⟩
def QMG_CTL_EN : Fld 1 := ⟨Reg.QMG_CTL, 0⟩
def QMG_STAT_FQ_FULL : Fld 1 := ⟨Reg.QMG_STAT, 31⟩
def QMG_STAT_PARKED : Fld 10 := ⟨Reg.QMG_STAT, 0⟩
def QMG_COMMIT_QUEUE : Fld 10 := ⟨Reg.QMG_COMMIT, 0⟩
def QMG_EVT_BASE_LO_BASE_LO (r : Nat) : Fld 20 := ⟨(Reg.QMG_EVT_BASE_LO r), 12⟩
def QMG_EVT_BASE_HI_BASE_HI (r : Nat) : Fld 32 := ⟨(Reg.QMG_EVT_BASE_HI r), 0⟩
def QMG_EVT_CFG_EN (r : Nat) : Fld 1 := ⟨(Reg.QMG_EVT_CFG r), 31⟩
def QMG_EVT_CFG_MSIX_EN (r : Nat) : Fld 1 := ⟨(Reg.QMG_EVT_CFG r), 30⟩
def QMG_EVT_CFG_LOG2_SIZE (r : Nat) : Fld 5 := ⟨(Reg.QMG_EVT_CFG r), 16⟩
def QMG_EVT_CFG_HOLDOFF (r : Nat) : Fld 16 := ⟨(Reg.QMG_EVT_CFG r), 0⟩
def QMG_EVT_HEAD_HEAD (r : Nat) : Fld 16 := ⟨(Reg.QMG_EVT_HEAD r), 0⟩
def QMG_EVT_TAIL_PHASE (r : Nat) : Fld 1 := ⟨(Reg.QMG_EVT_TAIL r), 16⟩
def QMG_EVT_TAIL_TAIL (r : Nat) : Fld 16 := ⟨(Reg.QMG_EVT_TAIL r), 0⟩
def QMG_EVT_LOST_COUNT (r : Nat) : Fld 32 := ⟨(Reg.QMG_EVT_LOST r), 0⟩
def QMG_Q_BASE_LO_BASE_LO (q : Nat) : Fld 20 := ⟨(Reg.QMG_Q_BASE_LO q), 12⟩
def QMG_Q_BASE_HI_BASE_HI (q : Nat) : Fld 32 := ⟨(Reg.QMG_Q_BASE_HI q), 0⟩
def QMG_Q_CFG_LOC (q : Nat) : Fld 1 := ⟨(Reg.QMG_Q_CFG q), 31⟩
def QMG_Q_CFG_LOG2_SIZE (q : Nat) : Fld 5 := ⟨(Reg.QMG_Q_CFG q), 26⟩
def QMG_Q_CFG_POSTER (q : Nat) : Fld 4 := ⟨(Reg.QMG_Q_CFG q), 22⟩
def QMG_Q_CFG_EVT_RING (q : Nat) : Fld 4 := ⟨(Reg.QMG_Q_CFG q), 18⟩
def QMG_Q_CFG_SLOT (q : Nat) : Fld 10 := ⟨(Reg.QMG_Q_CFG q), 0⟩
def QMG_Q_SCHED_WEIGHT (q : Nat) : Fld 4 := ⟨(Reg.QMG_Q_SCHED q), 28⟩
def QMG_Q_SCHED_DB_SYNC (q : Nat) : Fld 14 := ⟨(Reg.QMG_Q_SCHED q), 14⟩
def QMG_Q_SCHED_STREAM (q : Nat) : Fld 12 := ⟨(Reg.QMG_Q_SCHED q), 0⟩
def QMG_Q_CTL_RUN (q : Nat) : Fld 1 := ⟨(Reg.QMG_Q_CTL q), 0⟩
def QMG_Q_STAT_STATE (q : Nat) : Fld 3 := ⟨(Reg.QMG_Q_STAT q), 29⟩
def QMG_Q_STAT_ERR (q : Nat) : Fld 5 := ⟨(Reg.QMG_Q_STAT q), 24⟩
def QMG_Q_STAT_INFLIGHT (q : Nat) : Fld 7 := ⟨(Reg.QMG_Q_STAT q), 16⟩
def QMG_Q_STAT_ERRPOS (q : Nat) : Fld 16 := ⟨(Reg.QMG_Q_STAT q), 0⟩
def QMG_Q_PTR_TAIL (q : Nat) : Fld 16 := ⟨(Reg.QMG_Q_PTR q), 16⟩
def QMG_Q_PTR_HEAD (q : Nat) : Fld 16 := ⟨(Reg.QMG_Q_PTR q), 0⟩
def QMG_DB_TAIL (q : Nat) : Fld 16 := ⟨(Reg.QMG_DB q), 0⟩
def SYN_VAL_LO_VAL_LO (i : Nat) : Fld 32 := ⟨(Reg.SYN_VAL_LO i), 0⟩
def SYN_VAL_HI_VAL_HI (i : Nat) : Fld 32 := ⟨(Reg.SYN_VAL_HI i), 0⟩
def SYN_ADD_ADD (i : Nat) : Fld 32 := ⟨(Reg.SYN_ADD i), 0⟩
def SYN_CTL_EN (i : Nat) : Fld 1 := ⟨(Reg.SYN_CTL i), 31⟩
def SYN_CTL_RESET (i : Nat) : Fld 1 := ⟨(Reg.SYN_CTL i), 30⟩
def SYN_CTL_JOB (i : Nat) : Fld 16 := ⟨(Reg.SYN_CTL i), 0⟩
def SYN_ARM_TICK_LO_TICK_LO (e : Nat) : Fld 32 := ⟨(Reg.SYN_ARM_TICK_LO e), 0⟩
def SYN_ARM_TICK_HI_TICK_HI (e : Nat) : Fld 32 := ⟨(Reg.SYN_ARM_TICK_HI e), 0⟩
def SYN_ARM_ADD_JOB (e : Nat) : Fld 16 := ⟨(Reg.SYN_ARM_ADD e), 16⟩
def SYN_ARM_ADD_ADD (e : Nat) : Fld 16 := ⟨(Reg.SYN_ARM_ADD e), 0⟩
def SYN_ARM_CTL_ARMED (e : Nat) : Fld 1 := ⟨(Reg.SYN_ARM_CTL e), 31⟩
def SYN_ARM_CTL_NODE (e : Nat) : Fld 6 := ⟨(Reg.SYN_ARM_CTL e), 24⟩
def SYN_ARM_CTL_OBJ (e : Nat) : Fld 14 := ⟨(Reg.SYN_ARM_CTL e), 0⟩
def SYN_STAT_WATCHES : Fld 13 := ⟨Reg.SYN_STAT, 16⟩
def SYN_STAT_ARMS : Fld 9 := ⟨Reg.SYN_STAT, 0⟩
def HOM_CTL_LEASE_EN : Fld 1 := ⟨Reg.HOM_CTL, 2⟩
def HOM_CTL_SCRUB_EN : Fld 1 := ⟨Reg.HOM_CTL, 1⟩
def HOM_CTL_EN : Fld 1 := ⟨Reg.HOM_CTL, 0⟩
def HOM_STAT_LLOG_OVF : Fld 1 := ⟨Reg.HOM_STAT, 31⟩
def HOM_STAT_LIVE_WR : Fld 1 := ⟨Reg.HOM_STAT, 30⟩
def HOM_STAT_PENDING : Fld 7 := ⟨Reg.HOM_STAT, 16⟩
def HOM_STAT_BGOPS : Fld 5 := ⟨Reg.HOM_STAT, 0⟩
def HOM_LEASE_LEN_MS : Fld 16 := ⟨Reg.HOM_LEASE, 0⟩
def HOM_EXT_CMD_OP : Fld 4 := ⟨Reg.HOM_EXT_CMD, 28⟩
def HOM_EXT_CMD_TIMED : Fld 1 := ⟨Reg.HOM_EXT_CMD, 27⟩
def HOM_EXT_CMD_GEN : Fld 1 := ⟨Reg.HOM_EXT_CMD, 26⟩
def HOM_EXT_CMD_AGENT : Fld 10 := ⟨Reg.HOM_EXT_CMD, 14⟩
def HOM_EXT_CMD_EXTENT : Fld 14 := ⟨Reg.HOM_EXT_CMD, 0⟩
def HOM_EXT_TICK_LO_TICK_LO : Fld 32 := ⟨Reg.HOM_EXT_TICK_LO, 0⟩
def HOM_EXT_TICK_HI_TICK_HI : Fld 32 := ⟨Reg.HOM_EXT_TICK_HI, 0⟩
def HOM_EXT_RES_BUSY : Fld 1 := ⟨Reg.HOM_EXT_RES, 31⟩
def HOM_EXT_RES_ERR : Fld 4 := ⟨Reg.HOM_EXT_RES, 24⟩
def HOM_EXT_RES_EXTENT : Fld 14 := ⟨Reg.HOM_EXT_RES, 0⟩
def HOM_EXTWIN_PAGE_PAGE : Fld 2 := ⟨Reg.HOM_EXTWIN_PAGE, 0⟩
def HOM_DIR_FREE_FREE1 : Fld 14 := ⟨Reg.HOM_DIR_FREE, 16⟩
def HOM_DIR_FREE_FREE0 : Fld 14 := ⟨Reg.HOM_DIR_FREE, 0⟩
def HOM_ACC_FREE_ELEMS : Fld 25 := ⟨Reg.HOM_ACC_FREE, 0⟩
def HOM_SCRUB_PERIOD : Fld 8 := ⟨Reg.HOM_SCRUB, 0⟩
def HOM_SCRUB_POS_POS : Fld 25 := ⟨Reg.HOM_SCRUB_POS, 0⟩
def HOM_CE_THR_THRESHOLD : Fld 16 := ⟨Reg.HOM_CE_THR, 0⟩
def HOM_LLOG_HEAD_HEAD : Fld 10 := ⟨Reg.HOM_LLOG_HEAD, 0⟩
def HOM_LLOG_TAIL_TAIL : Fld 10 := ⟨Reg.HOM_LLOG_TAIL, 0⟩
def HOM_UE_CNT_COUNT : Fld 32 := ⟨Reg.HOM_UE_CNT, 0⟩
def HOM_CE_CNT_COUNT (c : Nat) : Fld 32 := ⟨(Reg.HOM_CE_CNT c), 0⟩
def DTT_CTL_EXT_BAR : Fld 1 := ⟨Reg.DTT_CTL, 3⟩
def DTT_CTL_DTSYNC_SWAP : Fld 1 := ⟨Reg.DTT_CTL, 2⟩
def DTT_CTL_DTSYNC_OUT : Fld 1 := ⟨Reg.DTT_CTL, 1⟩
def DTT_CTL_EN : Fld 1 := ⟨Reg.DTT_CTL, 0⟩
def DTT_STAT_LATE : Fld 1 := ⟨Reg.DTT_STAT, 31⟩
def DTT_STAT_STALL : Fld 1 := ⟨Reg.DTT_STAT, 30⟩
def DTT_STAT_ENV_LATE : Fld 1 := ⟨Reg.DTT_STAT, 29⟩
def DTT_STAT_LIVE_WR : Fld 1 := ⟨Reg.DTT_STAT, 28⟩
def DTT_NOW_LO_NOW_LO : Fld 32 := ⟨Reg.DTT_NOW_LO, 0⟩
def DTT_NOW_HI_NOW_HI : Fld 32 := ⟨Reg.DTT_NOW_HI, 0⟩
def DTT_SYNC_STAT_STATE : Fld 3 := ⟨Reg.DTT_SYNC_STAT, 29⟩
def DTT_SYNC_STAT_PARENT : Fld 3 := ⟨Reg.DTT_SYNC_STAT, 26⟩
def DTT_SYNC_STAT_HOPS : Fld 3 := ⟨Reg.DTT_SYNC_STAT, 23⟩
def DTT_SYNC_STAT_FIXED : Fld 1 := ⟨Reg.DTT_SYNC_STAT, 22⟩
def DTT_SYNC_STAT_ROOT : Fld 6 := ⟨Reg.DTT_SYNC_STAT, 16⟩
def DTT_SYNC_STAT_ROOT_SEQ : Fld 16 := ⟨Reg.DTT_SYNC_STAT, 0⟩
def DTT_OFFSET_OFFSET : Fld 32 := ⟨Reg.DTT_OFFSET, 0⟩
def DTT_ROOTS_V3 : Fld 1 := ⟨Reg.DTT_ROOTS, 31⟩
def DTT_ROOTS_C3 : Fld 6 := ⟨Reg.DTT_ROOTS, 24⟩
def DTT_ROOTS_V2 : Fld 1 := ⟨Reg.DTT_ROOTS, 23⟩
def DTT_ROOTS_C2 : Fld 6 := ⟨Reg.DTT_ROOTS, 16⟩
def DTT_ROOTS_V1 : Fld 1 := ⟨Reg.DTT_ROOTS, 15⟩
def DTT_ROOTS_C1 : Fld 6 := ⟨Reg.DTT_ROOTS, 8⟩
def DTT_ROOTS_V0 : Fld 1 := ⟨Reg.DTT_ROOTS, 7⟩
def DTT_ROOTS_C0 : Fld 6 := ⟨Reg.DTT_ROOTS, 0⟩
def DTT_SLOT_LO_SLOT_LO : Fld 32 := ⟨Reg.DTT_SLOT_LO, 0⟩
def DTT_SLOT_HI_SLOT_HI : Fld 32 := ⟨Reg.DTT_SLOT_HI, 0⟩
def DTT_DIL_K_TO : Fld 6 := ⟨Reg.DTT_DIL, 16⟩
def DTT_DIL_K_THERM : Fld 6 := ⟨Reg.DTT_DIL, 8⟩
def DTT_DIL_K : Fld 6 := ⟨Reg.DTT_DIL, 0⟩
def DTT_LATE_CNT_COUNT : Fld 32 := ⟨Reg.DTT_LATE_CNT, 0⟩
def DTT_STAGE_CAP_CAP1 : Fld 16 := ⟨Reg.DTT_STAGE_CAP, 16⟩
def DTT_STAGE_CAP_CAP0 : Fld 16 := ⟨Reg.DTT_STAGE_CAP, 0⟩
def DTT_FREQ_PPB : Fld 32 := ⟨Reg.DTT_FREQ, 0⟩
def DTT_PORT_LAG_LAG (p : Nat) : Fld 4 := ⟨(Reg.DTT_PORT_LAG p), 28⟩
def DTT_PORT_LAG_VALID (p : Nat) : Fld 1 := ⟨(Reg.DTT_PORT_LAG p), 27⟩
def DTT_PORT_LAG_DELAY (p : Nat) : Fld 24 := ⟨(Reg.DTT_PORT_LAG p), 0⟩
def DTT_BAR_CTL_ARM : Fld 1 := ⟨Reg.DTT_BAR_CTL, 31⟩
def DTT_BAR_CTL_DISARM : Fld 1 := ⟨Reg.DTT_BAR_CTL, 30⟩
def DTT_BAR_CTL_MEMBER : Fld 1 := ⟨Reg.DTT_BAR_CTL, 29⟩
def DTT_BAR_CTL_LOAD : Fld 1 := ⟨Reg.DTT_BAR_CTL, 28⟩
def DTT_BAR_CTL_SEQ : Fld 8 := ⟨Reg.DTT_BAR_CTL, 20⟩
def DTT_BAR_CTL_FIRE : Fld 12 := ⟨Reg.DTT_BAR_CTL, 8⟩
def DTT_BAR_CTL_EXPECT : Fld 7 := ⟨Reg.DTT_BAR_CTL, 0⟩
def DTT_BAR_STAT_STATE : Fld 2 := ⟨Reg.DTT_BAR_STAT, 30⟩
def DTT_BAR_STAT_LAST_SEQ : Fld 8 := ⟨Reg.DTT_BAR_STAT, 16⟩
def DTT_BAR_STAT_FIRED : Fld 16 := ⟨Reg.DTT_BAR_STAT, 0⟩
def DTT_BAR_LOAD_LO_LOAD_LO : Fld 32 := ⟨Reg.DTT_BAR_LOAD_LO, 0⟩
def DTT_BAR_LOAD_HI_LOAD_HI : Fld 32 := ⟨Reg.DTT_BAR_LOAD_HI, 0⟩
def DTT_TT_CMD_OP : Fld 4 := ⟨Reg.DTT_TT_CMD, 28⟩
def DTT_TT_CMD_SET : Fld 1 := ⟨Reg.DTT_TT_CMD, 0⟩
def DTT_TT_STAT_ACTIVE : Fld 1 := ⟨Reg.DTT_TT_STAT, 31⟩
def DTT_TT_STAT_ARMED : Fld 1 := ⟨Reg.DTT_TT_STAT, 30⟩
def DTT_TT_STAT_BUSY : Fld 1 := ⟨Reg.DTT_TT_STAT, 29⟩
def DTT_TT_STAT_DEFAULT : Fld 1 := ⟨Reg.DTT_TT_STAT, 28⟩
def DTT_TT_STAT_ERR : Fld 4 := ⟨Reg.DTT_TT_STAT, 24⟩
def DTT_TT_STAT_PAGE : Fld 6 := ⟨Reg.DTT_TT_STAT, 16⟩
def DTT_TT_STAT_INDEX : Fld 16 := ⟨Reg.DTT_TT_STAT, 0⟩
def DTT_TT_LEN_LEN (s : Nat) : Fld 17 := ⟨(Reg.DTT_TT_LEN s), 0⟩
def DTT_SWAP_TICK_LO_TICK_LO : Fld 32 := ⟨Reg.DTT_SWAP_TICK_LO, 0⟩
def DTT_SWAP_TICK_HI_TICK_HI : Fld 32 := ⟨Reg.DTT_SWAP_TICK_HI, 0⟩
def DTT_TTWIN_PAGE_SET : Fld 1 := ⟨Reg.DTT_TTWIN_PAGE, 6⟩
def DTT_TTWIN_PAGE_PAGE : Fld 6 := ⟨Reg.DTT_TTWIN_PAGE, 0⟩
def DTT_ENV_CMD_OP : Fld 4 := ⟨Reg.DTT_ENV_CMD, 28⟩
def DTT_ENV_CMD_K : Fld 6 := ⟨Reg.DTT_ENV_CMD, 0⟩
def DTT_ENV_TARGET_RAMP : Fld 16 := ⟨Reg.DTT_ENV_TARGET, 16⟩
def DTT_ENV_TARGET_TARGET : Fld 16 := ⟨Reg.DTT_ENV_TARGET, 0⟩
def DTT_ENV_TICK_LO_TICK_LO : Fld 32 := ⟨Reg.DTT_ENV_TICK_LO, 0⟩
def DTT_ENV_TICK_HI_TICK_HI : Fld 32 := ⟨Reg.DTT_ENV_TICK_HI, 0⟩
def DTT_ENV_STAT_BUSY : Fld 1 := ⟨Reg.DTT_ENV_STAT, 31⟩
def DTT_ENV_STAT_ERR : Fld 4 := ⟨Reg.DTT_ENV_STAT, 24⟩
def DTT_ENV_STAT_SEQ : Fld 8 := ⟨Reg.DTT_ENV_STAT, 16⟩
def DTT_ENV_STAT_K_FROM : Fld 6 := ⟨Reg.DTT_ENV_STAT, 8⟩
def DTT_ENV_STAT_K_TO : Fld 6 := ⟨Reg.DTT_ENV_STAT, 0⟩
def DTT_DIL_TAB_POWER (k : Nat) : Fld 16 := ⟨(Reg.DTT_DIL_TAB k), 0⟩
def ENG_T_CTL_WORK (n : Nat) : Fld 7 := ⟨(Reg.ENG_T_CTL n), 0⟩
def ENG_T_STAT_STATE (n : Nat) : Fld 2 := ⟨(Reg.ENG_T_STAT n), 30⟩
def ENG_T_STAT_PHYS (n : Nat) : Fld 6 := ⟨(Reg.ENG_T_STAT n), 8⟩
def ENG_T_STEPS_COUNT (n : Nat) : Fld 32 := ⟨(Reg.ENG_T_STEPS n), 0⟩
def ENG_T_RESID_FAILS (n : Nat) : Fld 16 := ⟨(Reg.ENG_T_RESID n), 16⟩
def ENG_T_RESID_RETRIES (n : Nat) : Fld 16 := ⟨(Reg.ENG_T_RESID n), 0⟩
def ENG_CTL_EN : Fld 1 := ⟨Reg.ENG_CTL, 0⟩
def ENG_STAT_MAP_B : Fld 1 := ⟨Reg.ENG_STAT, 31⟩
def ENG_STAT_RESID : Fld 1 := ⟨Reg.ENG_STAT, 30⟩
def ENG_STAT_DOPPIO : Fld 1 := ⟨Reg.ENG_STAT, 29⟩
def ENG_STAT_GEN : Fld 8 := ⟨Reg.ENG_STAT, 0⟩
def ENG_SAT_CNT_COUNT : Fld 32 := ⟨Reg.ENG_SAT_CNT, 0⟩
def ENG_SPARE_CMD_OP : Fld 4 := ⟨Reg.ENG_SPARE_CMD, 28⟩
def ENG_SPARE_CMD_TILE : Fld 6 := ⟨Reg.ENG_SPARE_CMD, 0⟩
def ENG_SPARE_RES_BUSY : Fld 1 := ⟨Reg.ENG_SPARE_RES, 31⟩
def ENG_SPARE_RES_PASS : Fld 1 := ⟨Reg.ENG_SPARE_RES, 30⟩
def ENG_SPARE_RES_ERR : Fld 4 := ⟨Reg.ENG_SPARE_RES, 24⟩
def ENG_SPARE_RES_TILE : Fld 6 := ⟨Reg.ENG_SPARE_RES, 0⟩
def ENG_WIN_BASE_BASE (w : Nat) : Fld 20 := ⟨(Reg.ENG_WIN_BASE w), 12⟩
def ENG_WIN_LEN_VALID (w : Nat) : Fld 1 := ⟨(Reg.ENG_WIN_LEN w), 31⟩
def ENG_WIN_LEN_A (w : Nat) : Fld 1 := ⟨(Reg.ENG_WIN_LEN w), 30⟩
def ENG_WIN_LEN_W (w : Nat) : Fld 1 := ⟨(Reg.ENG_WIN_LEN w), 29⟩
def ENG_WIN_LEN_R (w : Nat) : Fld 1 := ⟨(Reg.ENG_WIN_LEN w), 28⟩
def ENG_WIN_LEN_LEN_M1 (w : Nat) : Fld 20 := ⟨(Reg.ENG_WIN_LEN w), 0⟩
def ENG_WIN_JOB_JOB (w : Nat) : Fld 16 := ⟨(Reg.ENG_WIN_JOB w), 0⟩
def ENG_DOP_CTL_EN (i : Nat) : Fld 1 := ⟨(Reg.ENG_DOP_CTL i), 31⟩
def ENG_DOP_CTL_ROLE (i : Nat) : Fld 1 := ⟨(Reg.ENG_DOP_CTL i), 30⟩
def ENG_DOP_CTL_PEER (i : Nat) : Fld 6 := ⟨(Reg.ENG_DOP_CTL i), 24⟩
def ENG_DOP_CTL_PEER_TILE (i : Nat) : Fld 6 := ⟨(Reg.ENG_DOP_CTL i), 16⟩
def ENG_DOP_CTL_TILE (i : Nat) : Fld 6 := ⟨(Reg.ENG_DOP_CTL i), 0⟩
def ENG_DOP_STAT_MISMATCH (i : Nat) : Fld 1 := ⟨(Reg.ENG_DOP_STAT i), 31⟩
def ENG_DOP_STAT_LOST (i : Nat) : Fld 1 := ⟨(Reg.ENG_DOP_STAT i), 30⟩
def ENG_DOP_STAT_BEHIND (i : Nat) : Fld 7 := ⟨(Reg.ENG_DOP_STAT i), 0⟩
def ENG_DOP_CNT_MISMATCHES (i : Nat) : Fld 16 := ⟨(Reg.ENG_DOP_CNT i), 16⟩
def ENG_DOP_CNT_STEPS (i : Nat) : Fld 16 := ⟨(Reg.ENG_DOP_CNT i), 0⟩
def GRP_CTL_HOLD : Fld 16 := ⟨Reg.GRP_CTL, 16⟩
def GRP_CTL_EN : Fld 1 := ⟨Reg.GRP_CTL, 0⟩
def GRP_STAT_LIVE_WR : Fld 1 := ⟨Reg.GRP_STAT, 31⟩
def GRP_STAT_HELD : Fld 1 := ⟨Reg.GRP_STAT, 30⟩
def GRP_STAT_INSTANCES : Fld 7 := ⟨Reg.GRP_STAT, 0⟩
def GRP_CMD_OP : Fld 4 := ⟨Reg.GRP_CMD, 28⟩
def GRP_CMD_GROUP : Fld 10 := ⟨Reg.GRP_CMD, 0⟩
def GRP_RES_BUSY : Fld 1 := ⟨Reg.GRP_RES, 31⟩
def GRP_RES_ERR : Fld 4 := ⟨Reg.GRP_RES, 24⟩
def GRP_RES_GROUP : Fld 10 := ⟨Reg.GRP_RES, 0⟩
def GRP_GWIN_PAGE_PAGE : Fld 2 := ⟨Reg.GRP_GWIN_PAGE, 0⟩
def GRP_MISMATCH_CNT_COUNT : Fld 32 := ⟨Reg.GRP_MISMATCH_CNT, 0⟩
def GRP_ABORT_CNT_COUNT : Fld 32 := ⟨Reg.GRP_ABORT_CNT, 0⟩
def GRP_INST_STAT_STATE (i : Nat) : Fld 3 := ⟨(Reg.GRP_INST_STAT i), 29⟩
def GRP_INST_STAT_GROUP (i : Nat) : Fld 10 := ⟨(Reg.GRP_INST_STAT i), 18⟩
def GRP_INST_STAT_JOINED (i : Nat) : Fld 4 := ⟨(Reg.GRP_INST_STAT i), 0⟩
def GRP_INST_SEQ_SEQ (i : Nat) : Fld 32 := ⟨(Reg.GRP_INST_SEQ i), 0⟩
def GRP_INST_ROUND_DONE (i : Nat) : Fld 32 := ⟨(Reg.GRP_INST_ROUND i), 0⟩
def GRP_INST_TOTAL_TOTAL (i : Nat) : Fld 32 := ⟨(Reg.GRP_INST_TOTAL i), 0⟩
def GRP_EMAP_CMD_OP : Fld 4 := ⟨Reg.GRP_EMAP_CMD, 28⟩
def GRP_EMAP_CMD_MAP : Fld 10 := ⟨Reg.GRP_EMAP_CMD, 0⟩
def GRP_EMAP_RES_BUSY : Fld 1 := ⟨Reg.GRP_EMAP_RES, 31⟩
def GRP_EMAP_RES_ERR : Fld 4 := ⟨Reg.GRP_EMAP_RES, 24⟩
def GRP_EMAP_RES_MAP : Fld 10 := ⟨Reg.GRP_EMAP_RES, 0⟩
def GRP_EMAP_STAT_LIVE_WR : Fld 1 := ⟨Reg.GRP_EMAP_STAT, 31⟩
def GRP_EMAP_STAT_OVER : Fld 1 := ⟨Reg.GRP_EMAP_STAT, 30⟩
def GRP_EMAP_STAT_TRUNC : Fld 1 := ⟨Reg.GRP_EMAP_STAT, 29⟩
def GRP_EMAP_STAT_LIVE : Fld 11 := ⟨Reg.GRP_EMAP_STAT, 0⟩
def GRP_EWIN_PAGE_PAGE : Fld 5 := ⟨Reg.GRP_EWIN_PAGE, 0⟩
def GRP_DROP_CNT_COUNT : Fld 32 := ⟨Reg.GRP_DROP_CNT, 0⟩
def GRP_SPILL_CNT_COUNT : Fld 32 := ⟨Reg.GRP_SPILL_CNT, 0⟩
def FLT_CTL_HB_MISS : Fld 8 := ⟨Reg.FLT_CTL, 0⟩
def FLT_STAT_SELF_EXP : Fld 1 := ⟨Reg.FLT_STAT, 31⟩
def FLT_STAT_STOP_FULL : Fld 1 := ⟨Reg.FLT_STAT, 30⟩
def FLT_STAT_GAP : Fld 1 := ⟨Reg.FLT_STAT, 29⟩
def FLT_STAT_HELD : Fld 7 := ⟨Reg.FLT_STAT, 0⟩
def FLT_INC_INC : Fld 16 := ⟨Reg.FLT_INC, 0⟩
def FLT_ORD_SEQ_SEQ : Fld 32 := ⟨Reg.FLT_ORD_SEQ, 0⟩
def FLT_EXP_LO_EXP_LO : Fld 32 := ⟨Reg.FLT_EXP_LO, 0⟩
def FLT_EXP_HI_EXP_HI : Fld 32 := ⟨Reg.FLT_EXP_HI, 0⟩
def FLT_MISROUTE_CNT_COUNT : Fld 32 := ⟨Reg.FLT_MISROUTE_CNT, 0⟩
def FLT_PORT_HB_DOWN (p : Nat) : Fld 1 := ⟨(Reg.FLT_PORT_HB p), 31⟩
def FLT_PORT_HB_GOING (p : Nat) : Fld 1 := ⟨(Reg.FLT_PORT_HB p), 30⟩
def FLT_PORT_HB_PROB (p : Nat) : Fld 1 := ⟨(Reg.FLT_PORT_HB p), 29⟩
def FLT_PORT_HB_MISSED (p : Nat) : Fld 7 := ⟨(Reg.FLT_PORT_HB p), 22⟩
def FLT_PORT_HB_PEER (p : Nat) : Fld 6 := ⟨(Reg.FLT_PORT_HB p), 16⟩
def FLT_PORT_HB_PEER_INC (p : Nat) : Fld 16 := ⟨(Reg.FLT_PORT_HB p), 0⟩
def FLT_ORD_CMD_SUBMIT : Fld 1 := ⟨Reg.FLT_ORD_CMD, 31⟩
def FLT_ORD_RES_BUSY : Fld 1 := ⟨Reg.FLT_ORD_RES, 31⟩
def FLT_ORD_RES_ERR : Fld 4 := ⟨Reg.FLT_ORD_RES, 24⟩
def FLT_ORD_RES_SEQ_LO : Fld 24 := ⟨Reg.FLT_ORD_RES, 0⟩
def FLT_JOB_CMD_OP : Fld 4 := ⟨Reg.FLT_JOB_CMD, 28⟩
def FLT_JOB_CMD_FLOOD : Fld 1 := ⟨Reg.FLT_JOB_CMD, 27⟩
def FLT_JOB_CMD_JOB : Fld 16 := ⟨Reg.FLT_JOB_CMD, 0⟩
def FLT_JOB_RES_BUSY : Fld 1 := ⟨Reg.FLT_JOB_RES, 31⟩
def FLT_JOB_RES_STOPPED : Fld 9 := ⟨Reg.FLT_JOB_RES, 0⟩
def FLT_RM_CMD_START : Fld 1 := ⟨Reg.FLT_RM_CMD, 31⟩
def FLT_RM_CMD_PARTNER : Fld 6 := ⟨Reg.FLT_RM_CMD, 14⟩
def FLT_RM_CMD_EXTENT : Fld 14 := ⟨Reg.FLT_RM_CMD, 0⟩
def FLT_RM_RES_BUSY : Fld 1 := ⟨Reg.FLT_RM_RES, 31⟩
def FLT_RM_RES_ERR : Fld 4 := ⟨Reg.FLT_RM_RES, 24⟩
def FLT_RM_RES_EXTENT : Fld 14 := ⟨Reg.FLT_RM_RES, 0⟩
def FLT_JSTOP_VALID (i : Nat) : Fld 1 := ⟨(Reg.FLT_JSTOP i), 31⟩
def FLT_JSTOP_LOCAL (i : Nat) : Fld 1 := ⟨(Reg.FLT_JSTOP i), 30⟩
def FLT_JSTOP_RESUMED (i : Nat) : Fld 1 := ⟨(Reg.FLT_JSTOP i), 29⟩
def FLT_JSTOP_ORIGIN (i : Nat) : Fld 6 := ⟨(Reg.FLT_JSTOP i), 16⟩
def FLT_JSTOP_JOB (i : Nat) : Fld 16 := ⟨(Reg.FLT_JSTOP i), 0⟩
def FLT_SED_CTL_WAIT : Fld 16 := ⟨Reg.FLT_SED_CTL, 16⟩
def FLT_SED_CMD_OP : Fld 4 := ⟨Reg.FLT_SED_CMD, 28⟩
def FLT_SED_TICK_LO_TICK_LO : Fld 32 := ⟨Reg.FLT_SED_TICK_LO, 0⟩
def FLT_SED_TICK_HI_TICK_HI : Fld 32 := ⟨Reg.FLT_SED_TICK_HI, 0⟩
def FLT_SED_BASE_LO_BASE_LO : Fld 20 := ⟨Reg.FLT_SED_BASE_LO, 12⟩
def FLT_SED_BASE_HI_BASE_HI : Fld 32 := ⟨Reg.FLT_SED_BASE_HI, 0⟩
def FLT_SED_CFG_LOG2_SIZE : Fld 5 := ⟨Reg.FLT_SED_CFG, 0⟩
def FLT_SED_HEAD_HEAD : Fld 24 := ⟨Reg.FLT_SED_HEAD, 0⟩
def FLT_SED_TAIL_TAIL : Fld 24 := ⟨Reg.FLT_SED_TAIL, 0⟩
def FLT_SED_STAT_MODE : Fld 2 := ⟨Reg.FLT_SED_STAT, 30⟩
def FLT_SED_STAT_OVF : Fld 1 := ⟨Reg.FLT_SED_STAT, 29⟩
def FLT_SED_STAT_DIVERGED : Fld 1 := ⟨Reg.FLT_SED_STAT, 28⟩
def FLT_SED_STAT_HELD : Fld 22 := ⟨Reg.FLT_SED_STAT, 0⟩
def FLT_SED_JOB_VALID (j : Nat) : Fld 1 := ⟨(Reg.FLT_SED_JOB j), 31⟩
def FLT_SED_JOB_JOB (j : Nat) : Fld 16 := ⟨(Reg.FLT_SED_JOB j), 0⟩
def FLT_TEL_TICK_LO_TICK_LO : Fld 32 := ⟨Reg.FLT_TEL_TICK_LO, 0⟩
def FLT_TEL_TICK_HI_TICK_HI : Fld 32 := ⟨Reg.FLT_TEL_TICK_HI, 0⟩
def LAN_L_CTL_TX_PAT (i : Nat) : Fld 3 := ⟨(Reg.LAN_L_CTL i), 29⟩
def LAN_L_CTL_RX_PAT (i : Nat) : Fld 3 := ⟨(Reg.LAN_L_CTL i), 26⟩
def LAN_L_CTL_FEC_TEST (i : Nat) : Fld 1 := ⟨(Reg.LAN_L_CTL i), 25⟩
def LAN_L_CTL_CLR (i : Nat) : Fld 1 := ⟨(Reg.LAN_L_CTL i), 24⟩
def LAN_L_INJ_SINGLE (i : Nat) : Fld 1 := ⟨(Reg.LAN_L_INJ i), 31⟩
def LAN_L_INJ_BURST (i : Nat) : Fld 1 := ⟨(Reg.LAN_L_INJ i), 30⟩
def LAN_L_INJ_BURST_LEN (i : Nat) : Fld 10 := ⟨(Reg.LAN_L_INJ i), 0⟩
def LAN_L_STAT_STATE (i : Nat) : Fld 2 := ⟨(Reg.LAN_L_STAT i), 30⟩
def LAN_L_STAT_ALIGNED (i : Nat) : Fld 1 := ⟨(Reg.LAN_L_STAT i), 29⟩
def LAN_L_STAT_FAILED (i : Nat) : Fld 1 := ⟨(Reg.LAN_L_STAT i), 28⟩
def LAN_L_STAT_PRBS_LOCK (i : Nat) : Fld 1 := ⟨(Reg.LAN_L_STAT i), 27⟩
def LAN_L_PRE_COUNT (i : Nat) : Fld 32 := ⟨(Reg.LAN_L_PRE i), 0⟩
def LAN_L_POST_COUNT (i : Nat) : Fld 32 := ⟨(Reg.LAN_L_POST i), 0⟩
def LAN_L_PRBS_ERR_COUNT (i : Nat) : Fld 32 := ⟨(Reg.LAN_L_PRBS_ERR i), 0⟩
def LAN_L_PRBS_BITS_COUNT (i : Nat) : Fld 32 := ⟨(Reg.LAN_L_PRBS_BITS i), 0⟩
def LAN_P_CTL_EN (p : Nat) : Fld 1 := ⟨(Reg.LAN_P_CTL p), 31⟩
def LAN_P_CTL_TEST (p : Nat) : Fld 1 := ⟨(Reg.LAN_P_CTL p), 30⟩
def LAN_P_CTL_ENC (p : Nat) : Fld 1 := ⟨(Reg.LAN_P_CTL p), 29⟩
def LAN_P_CTL_RETRAIN (p : Nat) : Fld 1 := ⟨(Reg.LAN_P_CTL p), 28⟩
def LAN_P_CTL_DEEP (p : Nat) : Fld 1 := ⟨(Reg.LAN_P_CTL p), 27⟩
def LAN_P_CTL_QUIET_EN (p : Nat) : Fld 1 := ⟨(Reg.LAN_P_CTL p), 26⟩
def LAN_P_STAT_STATE (p : Nat) : Fld 4 := ⟨(Reg.LAN_P_STAT p), 28⟩
def LAN_P_STAT_PHASE (p : Nat) : Fld 3 := ⟨(Reg.LAN_P_STAT p), 25⟩
def LAN_P_STAT_ENC_ON (p : Nat) : Fld 1 := ⟨(Reg.LAN_P_STAT p), 24⟩
def LAN_P_STAT_LANE_DOWN (p : Nat) : Fld 1 := ⟨(Reg.LAN_P_STAT p), 23⟩
def LAN_P_STAT_FAILED_LANE (p : Nat) : Fld 7 := ⟨(Reg.LAN_P_STAT p), 16⟩
def LAN_P_STAT_PEER_NODE (p : Nat) : Fld 6 := ⟨(Reg.LAN_P_STAT p), 10⟩
def LAN_P_STAT_PEER_PORT (p : Nat) : Fld 4 := ⟨(Reg.LAN_P_STAT p), 6⟩
def LAN_P_STAT_HELD_WHY (p : Nat) : Fld 4 := ⟨(Reg.LAN_P_STAT p), 2⟩
def LAN_P_CRC_COUNT (p : Nat) : Fld 32 := ⟨(Reg.LAN_P_CRC p), 0⟩
def LAN_P_REPLAY_COUNT (p : Nat) : Fld 32 := ⟨(Reg.LAN_P_REPLAY p), 0⟩
def LAN_P_TRAIN_DONE (p : Nat) : Fld 16 := ⟨(Reg.LAN_P_TRAIN p), 16⟩
def LAN_P_TRAIN_FAILS (p : Nat) : Fld 16 := ⟨(Reg.LAN_P_TRAIN p), 0⟩
def LAN_CMIS_CMD_GO : Fld 1 := ⟨Reg.LAN_CMIS_CMD, 31⟩
def LAN_CMIS_CMD_WR : Fld 1 := ⟨Reg.LAN_CMIS_CMD, 30⟩
def LAN_CMIS_CMD_BUS : Fld 4 := ⟨Reg.LAN_CMIS_CMD, 26⟩
def LAN_CMIS_CMD_MOD : Fld 3 := ⟨Reg.LAN_CMIS_CMD, 23⟩
def LAN_CMIS_CMD_PAGE : Fld 8 := ⟨Reg.LAN_CMIS_CMD, 15⟩
def LAN_CMIS_CMD_ADDR : Fld 8 := ⟨Reg.LAN_CMIS_CMD, 7⟩
def LAN_CMIS_CMD_LEN_M1 : Fld 5 := ⟨Reg.LAN_CMIS_CMD, 2⟩
def LAN_CMIS_RES_BUSY : Fld 1 := ⟨Reg.LAN_CMIS_RES, 31⟩
def LAN_CMIS_RES_ERR : Fld 3 := ⟨Reg.LAN_CMIS_RES, 28⟩
def LAN_CMIS_DATA_DATA (j : Nat) : Fld 32 := ⟨(Reg.LAN_CMIS_DATA j), 0⟩
def SWC_CTL_ISO : Fld 1 := ⟨Reg.SWC_CTL, 8⟩
def SWC_CTL_CLASSES : Fld 8 := ⟨Reg.SWC_CTL, 0⟩
def SWC_COMMIT_GO : Fld 1 := ⟨Reg.SWC_COMMIT, 0⟩
def SWC_STAT_HELD : Fld 1 := ⟨Reg.SWC_STAT, 31⟩
def SWC_STAT_ESC : Fld 1 := ⟨Reg.SWC_STAT, 30⟩
def SWC_STAT_HOLD_FLITS : Fld 11 := ⟨Reg.SWC_STAT, 0⟩
def SWC_SPLIT_SPLIT : Fld 4 := ⟨Reg.SWC_SPLIT, 0⟩
def SWC_ARB_W_RSP : Fld 4 := ⟨Reg.SWC_ARB, 8⟩
def SWC_ARB_W_SNP : Fld 4 := ⟨Reg.SWC_ARB, 4⟩
def SWC_ARB_W_REQ : Fld 4 := ⟨Reg.SWC_ARB, 0⟩
def SWC_RED_PMAX (c : Nat) : Fld 8 := ⟨(Reg.SWC_RED c), 24⟩
def SWC_RED_MAX (c : Nat) : Fld 12 := ⟨(Reg.SWC_RED c), 12⟩
def SWC_RED_MIN (c : Nat) : Fld 12 := ⟨(Reg.SWC_RED c), 0⟩
def SWC_ESC_VALID (n : Nat) : Fld 1 := ⟨(Reg.SWC_ESC n), 31⟩
def SWC_ESC_PORT (n : Nat) : Fld 3 := ⟨(Reg.SWC_ESC n), 0⟩
def SWC_P_DEPTH_DEPTH (p : Nat) : Fld 16 := ⟨(Reg.SWC_P_DEPTH p), 0⟩
def SWC_P_MALF_COUNT (p : Nat) : Fld 32 := ⟨(Reg.SWC_P_MALF p), 0⟩
def SWC_P_MARK_COUNT (p : Nat) : Fld 32 := ⟨(Reg.SWC_P_MARK p), 0⟩
def SWC_P_DISC_COUNT (p : Nat) : Fld 32 := ⟨(Reg.SWC_P_DISC p), 0⟩
def SWC_TCM_RATE_PIR (n : Nat) : Fld 16 := ⟨(Reg.SWC_TCM_RATE n), 16⟩
def SWC_TCM_RATE_CIR (n : Nat) : Fld 16 := ⟨(Reg.SWC_TCM_RATE n), 0⟩
def SWC_TCM_BURST_PBS (n : Nat) : Fld 16 := ⟨(Reg.SWC_TCM_BURST n), 16⟩
def SWC_TCM_BURST_CBS (n : Nat) : Fld 16 := ⟨(Reg.SWC_TCM_BURST n), 0⟩
def SWC_TCM_CLS_ISO (n : Nat) : Fld 3 := ⟨(Reg.SWC_TCM_CLS n), 0⟩
def ETH_CTL_MSS : Fld 1 := ⟨Reg.ETH_CTL, 1⟩
def ETH_CTL_EN : Fld 1 := ⟨Reg.ETH_CTL, 0⟩
def ETH_UDP_PORT : Fld 16 := ⟨Reg.ETH_UDP, 0⟩
def ETH_RTO_RETRIES : Fld 8 := ⟨Reg.ETH_RTO, 24⟩
def ETH_RTO_MIN : Fld 16 := ⟨Reg.ETH_RTO, 0⟩
def ETH_RED_PMAX (c : Nat) : Fld 8 := ⟨(Reg.ETH_RED c), 24⟩
def ETH_RED_MAX (c : Nat) : Fld 12 := ⟨(Reg.ETH_RED c), 12⟩
def ETH_RED_MIN (c : Nat) : Fld 12 := ⟨(Reg.ETH_RED c), 0⟩
def ETH_P_CTL_EN (e : Nat) : Fld 1 := ⟨(Reg.ETH_P_CTL e), 31⟩
def ETH_P_CTL_CR8 (e : Nat) : Fld 1 := ⟨(Reg.ETH_P_CTL e), 30⟩
def ETH_P_STAT_UP (e : Nat) : Fld 1 := ⟨(Reg.ETH_P_STAT e), 31⟩
def ETH_P_STAT_FEC_LOCK (e : Nat) : Fld 1 := ⟨(Reg.ETH_P_STAT e), 30⟩
def ETH_P_MAC_LO_MAC_LO (e : Nat) : Fld 32 := ⟨(Reg.ETH_P_MAC_LO e), 0⟩
def ETH_P_MAC_HI_MAC_HI (e : Nat) : Fld 16 := ⟨(Reg.ETH_P_MAC_HI e), 0⟩
def ETH_P_GW_LO_GW_LO (e : Nat) : Fld 32 := ⟨(Reg.ETH_P_GW_LO e), 0⟩
def ETH_P_GW_HI_GW_HI (e : Nat) : Fld 16 := ⟨(Reg.ETH_P_GW_HI e), 0⟩
def ETH_P_IP_IP (e j : Nat) : Fld 32 := ⟨(Reg.ETH_P_IP e j), 0⟩
def ETH_P_DROP_COUNT (e : Nat) : Fld 32 := ⟨(Reg.ETH_P_DROP e), 0⟩
def ETH_P_ECN_COUNT (e : Nat) : Fld 32 := ⟨(Reg.ETH_P_ECN e), 0⟩
def ETH_P_OTHER_COUNT (e : Nat) : Fld 32 := ⟨(Reg.ETH_P_OTHER e), 0⟩
def ETH_CH_CFG_EN (ch : Nat) : Fld 1 := ⟨(Reg.ETH_CH_CFG ch), 31⟩
def ETH_CH_CFG_SLOT (ch : Nat) : Fld 10 := ⟨(Reg.ETH_CH_CFG ch), 20⟩
def ETH_CH_CFG_RCH (ch : Nat) : Fld 8 := ⟨(Reg.ETH_CH_CFG ch), 12⟩
def ETH_CH_CFG_DSCP (ch : Nat) : Fld 6 := ⟨(Reg.ETH_CH_CFG ch), 6⟩
def ETH_CH_CFG_PORT (ch : Nat) : Fld 2 := ⟨(Reg.ETH_CH_CFG ch), 4⟩
def ETH_CH_PEER_IP (ch j : Nat) : Fld 32 := ⟨(Reg.ETH_CH_PEER ch j), 0⟩
def ETH_CH_SQ_LO_BASE_LO (ch : Nat) : Fld 20 := ⟨(Reg.ETH_CH_SQ_LO ch), 12⟩
def ETH_CH_SQ_LO_LOG2_SIZE (ch : Nat) : Fld 5 := ⟨(Reg.ETH_CH_SQ_LO ch), 7⟩
def ETH_CH_RQ_LO_BASE_LO (ch : Nat) : Fld 20 := ⟨(Reg.ETH_CH_RQ_LO ch), 12⟩
def ETH_CH_RQ_LO_LOG2_SIZE (ch : Nat) : Fld 5 := ⟨(Reg.ETH_CH_RQ_LO ch), 7⟩
def ETH_CH_SQ_HI_BASE_HI (ch : Nat) : Fld 32 := ⟨(Reg.ETH_CH_SQ_HI ch), 0⟩
def ETH_CH_RQ_HI_BASE_HI (ch : Nat) : Fld 32 := ⟨(Reg.ETH_CH_RQ_HI ch), 0⟩
def ETH_CH_SQ_DB_TAIL (ch : Nat) : Fld 16 := ⟨(Reg.ETH_CH_SQ_DB ch), 0⟩
def ETH_CH_RQ_DB_TAIL (ch : Nat) : Fld 16 := ⟨(Reg.ETH_CH_RQ_DB ch), 0⟩
def ETH_CH_SQ_PTR_RQ_HEAD (ch : Nat) : Fld 16 := ⟨(Reg.ETH_CH_SQ_PTR ch), 16⟩
def ETH_CH_SQ_PTR_SQ_HEAD (ch : Nat) : Fld 16 := ⟨(Reg.ETH_CH_SQ_PTR ch), 0⟩
def ETH_CH_WIN_LO_VA_LO (ch : Nat) : Fld 20 := ⟨(Reg.ETH_CH_WIN_LO ch), 12⟩
def ETH_CH_WIN_HI_VA_HI (ch : Nat) : Fld 25 := ⟨(Reg.ETH_CH_WIN_HI ch), 0⟩
def ETH_CH_WIN_LEN_VALID (ch : Nat) : Fld 1 := ⟨(Reg.ETH_CH_WIN_LEN ch), 31⟩
def ETH_CH_WIN_LEN_W (ch : Nat) : Fld 1 := ⟨(Reg.ETH_CH_WIN_LEN ch), 30⟩
def ETH_CH_WIN_LEN_R (ch : Nat) : Fld 1 := ⟨(Reg.ETH_CH_WIN_LEN ch), 29⟩
def ETH_CH_WIN_LEN_LEN (ch : Nat) : Fld 28 := ⟨(Reg.ETH_CH_WIN_LEN ch), 0⟩
def ETH_CH_STAT_ERR (ch : Nat) : Fld 4 := ⟨(Reg.ETH_CH_STAT ch), 28⟩
def ETH_CH_STAT_RETX (ch : Nat) : Fld 16 := ⟨(Reg.ETH_CH_STAT ch), 0⟩
def SEC_STAT_ID_OK : Fld 1 := ⟨Reg.SEC_STAT, 31⟩
def SEC_STAT_OPEN : Fld 16 := ⟨Reg.SEC_STAT, 0⟩
def SEC_CMD_OP : Fld 4 := ⟨Reg.SEC_CMD, 28⟩
def SEC_CMD_SESSION : Fld 4 := ⟨Reg.SEC_CMD, 24⟩
def SEC_CMD_KIND : Fld 2 := ⟨Reg.SEC_CMD, 22⟩
def SEC_CMD_GEN : Fld 1 := ⟨Reg.SEC_CMD, 21⟩
def SEC_CMD_SLOT : Fld 10 := ⟨Reg.SEC_CMD, 10⟩
def SEC_CMD_PORT : Fld 4 := ⟨Reg.SEC_CMD, 0⟩
def SEC_RES_BUSY : Fld 1 := ⟨Reg.SEC_RES, 31⟩
def SEC_RES_ERR : Fld 4 := ⟨Reg.SEC_RES, 24⟩
def SEC_RES_SESSION : Fld 4 := ⟨Reg.SEC_RES, 20⟩
def SEC_ALARM_POL_LOCK : Fld 1 := ⟨Reg.SEC_ALARM_POL, 31⟩
def SEC_ALARM_POL_AUTH : Fld 2 := ⟨Reg.SEC_ALARM_POL, 8⟩
def SEC_ALARM_POL_MESH : Fld 2 := ⟨Reg.SEC_ALARM_POL, 6⟩
def SEC_ALARM_POL_TEMP : Fld 2 := ⟨Reg.SEC_ALARM_POL, 4⟩
def SEC_ALARM_POL_CLOCK : Fld 2 := ⟨Reg.SEC_ALARM_POL, 2⟩
def SEC_ALARM_POL_VOLT : Fld 2 := ⟨Reg.SEC_ALARM_POL, 0⟩
def SEC_ALARM_STAT_LATCH : Fld 1 := ⟨Reg.SEC_ALARM_STAT, 31⟩
def SEC_ALARM_STAT_MAXLVL : Fld 2 := ⟨Reg.SEC_ALARM_STAT, 28⟩
def SEC_ALARM_STAT_TRIPPED : Fld 5 := ⟨Reg.SEC_ALARM_STAT, 0⟩
def SEC_PORT_ST_SEED (p : Nat) : Fld 1 := ⟨(Reg.SEC_PORT_ST p), 31⟩
def SEC_PORT_ST_ERASED (p : Nat) : Fld 1 := ⟨(Reg.SEC_PORT_ST p), 30⟩
def SEC_PORT_N_TX_N (p : Nat) : Fld 32 := ⟨(Reg.SEC_PORT_N p), 0⟩
def FWM_STAT_ROLE : Fld 1 := ⟨Reg.FWM_STAT, 31⟩
def FWM_STAT_STANDBY_VALID : Fld 1 := ⟨Reg.FWM_STAT, 30⟩
def FWM_STAT_BOOT : Fld 3 := ⟨Reg.FWM_STAT, 27⟩
def FWM_STAT_HSTATE : Fld 3 := ⟨Reg.FWM_STAT, 24⟩
def FWM_STAT_ERR : Fld 4 := ⟨Reg.FWM_STAT, 20⟩
def FWM_CMD_OP : Fld 4 := ⟨Reg.FWM_CMD, 28⟩
def FWM_CMD_TIMED : Fld 1 := ⟨Reg.FWM_CMD, 27⟩
def FWM_IMG_PAGE_PAGE : Fld 7 := ⟨Reg.FWM_IMG_PAGE, 0⟩
def FWM_IMG_LEN_LEN : Fld 25 := ⟨Reg.FWM_IMG_LEN, 0⟩
def FWM_HO_TICK_LO_TICK : Fld 32 := ⟨Reg.FWM_HO_TICK_LO, 0⟩
def FWM_HO_TICK_HI_TICK : Fld 32 := ⟨Reg.FWM_HO_TICK_HI, 0⟩
def FWM_VER_IMG_VER : Fld 32 := ⟨Reg.FWM_VER, 0⟩
def FWM_VER_STBY_IMG_VER : Fld 32 := ⟨Reg.FWM_VER_STBY, 0⟩
def FWM_SVN_RUN : Fld 16 := ⟨Reg.FWM_SVN, 16⟩
def FWM_SVN_FLOOR : Fld 16 := ⟨Reg.FWM_SVN, 0⟩
def FWM_TC_GROUP_TYPE : Fld 4 := ⟨Reg.FWM_TC_GROUP, 12⟩
def FWM_TC_GROUP_INDEX : Fld 10 := ⟨Reg.FWM_TC_GROUP, 0⟩
def FWM_TC_TICK_LO_TICK : Fld 32 := ⟨Reg.FWM_TC_TICK_LO, 0⟩
def FWM_TC_TICK_HI_TICK : Fld 32 := ⟨Reg.FWM_TC_TICK_HI, 0⟩
def FWM_TC_CMD_OP : Fld 4 := ⟨Reg.FWM_TC_CMD, 28⟩
def FWM_TC_RES_ERR : Fld 4 := ⟨Reg.FWM_TC_RES, 24⟩
def FWM_TC_RES_PENDING : Fld 7 := ⟨Reg.FWM_TC_RES, 0⟩
def FWM_MB_CMD_OP : Fld 8 := ⟨Reg.FWM_MB_CMD, 24⟩
def FWM_MB_CMD_ARG : Fld 24 := ⟨Reg.FWM_MB_CMD, 0⟩
def FWM_MB_RES_BUSY : Fld 1 := ⟨Reg.FWM_MB_RES, 31⟩
def FWM_MB_RES_ERR : Fld 4 := ⟨Reg.FWM_MB_RES, 24⟩
def FWM_MB_RES_LEN : Fld 16 := ⟨Reg.FWM_MB_RES, 0⟩
def CLY_WORD_VALUE (i : Nat) : Fld 32 := ⟨(Reg.CLY_WORD i), 0⟩
def CLY_WEAR_WEAR (i : Nat) : Fld 24 := ⟨(Reg.CLY_WEAR i), 0⟩
def CLY_CTL_CAL_LOCK : Fld 1 := ⟨Reg.CLY_CTL, 31⟩
def CLY_STAT_VFAIL : Fld 1 := ⟨Reg.CLY_STAT, 31⟩
def CLY_STAT_WORN : Fld 1 := ⟨Reg.CLY_STAT, 30⟩
def CLY_STAT_DIVERGED : Fld 1 := ⟨Reg.CLY_STAT, 29⟩
def CLY_STAT_SINGLE : Fld 1 := ⟨Reg.CLY_STAT, 28⟩
def CLY_STAT_PENDING : Fld 5 := ⟨Reg.CLY_STAT, 0⟩
def PWR_STAT_PLL_LOCK : Fld 1 := ⟨Reg.PWR_STAT, 31⟩
def PWR_STAT_WARN : Fld 1 := ⟨Reg.PWR_STAT, 30⟩
def PWR_STAT_AVS_LIM : Fld 1 := ⟨Reg.PWR_STAT, 29⟩
def PWR_STAT_DIL : Fld 1 := ⟨Reg.PWR_STAT, 28⟩
def PWR_AVS_EN : Fld 1 := ⟨Reg.PWR_AVS, 31⟩
def PWR_AVS_MARGIN : Fld 4 := ⟨Reg.PWR_AVS, 16⟩
def PWR_AVS_FIX_MV : Fld 16 := ⟨Reg.PWR_AVS, 0⟩
def PWR_VCORE_AMPS : Fld 16 := ⟨Reg.PWR_VCORE, 16⟩
def PWR_VCORE_MV : Fld 16 := ⟨Reg.PWR_VCORE, 0⟩
def PWR_THERM_TRIP : Fld 8 := ⟨Reg.PWR_THERM, 16⟩
def PWR_THERM_DIL : Fld 8 := ⟨Reg.PWR_THERM, 8⟩
def PWR_THERM_WARN : Fld 8 := ⟨Reg.PWR_THERM, 0⟩
def PWR_TMAX_DIE : Fld 5 := ⟨Reg.PWR_TMAX, 16⟩
def PWR_TMAX_TMAX : Fld 16 := ⟨Reg.PWR_TMAX, 0⟩
def PWR_KREQ_K : Fld 6 := ⟨Reg.PWR_KREQ, 0⟩
def PWR_POWER_WATTS : Fld 16 := ⟨Reg.PWR_POWER, 0⟩
def PWR_FAILS_COUNT : Fld 32 := ⟨Reg.PWR_FAILS, 0⟩
def PWR_TDIE_TEMP (d : Nat) : Fld 16 := ⟨(Reg.PWR_TDIE d), 0⟩
def GLB_APT_BASE_VALID (a : Nat) : Fld 1 := ⟨(Reg.GLB_APT_BASE a), 31⟩
def GLB_APT_BASE_DPA_HI (a : Nat) : Fld 20 := ⟨(Reg.GLB_APT_BASE a), 0⟩
def GLB_APT_ATTR_MIRRORED (a : Nat) : Fld 1 := ⟨(Reg.GLB_APT_ATTR a), 31⟩
def GLB_APT_ATTR_KGEN (a : Nat) : Fld 1 := ⟨(Reg.GLB_APT_ATTR a), 30⟩
def GLB_APT_ATTR_KEY_SLOT (a : Nat) : Fld 10 := ⟨(Reg.GLB_APT_ATTR a), 20⟩
def GLB_APT_ATTR_PARTNER (a : Nat) : Fld 6 := ⟨(Reg.GLB_APT_ATTR a), 14⟩
def GLB_APT_JOB_JOB (a : Nat) : Fld 16 := ⟨(Reg.GLB_APT_JOB a), 0⟩

end Sys2Proof.Machine.F
end

