-- ==== Sys2Proof/Machine/RegTable.lean ====
section
/-!
DEFINITION. The register table (R677): for every register its offset, how it repeats, which bits a plain write changes (access
RW, RWC, RWL and RWP), which bits a 1 clears (W1C), which bits trigger an action (WO), and its value after reset where that
value is a constant (R678; "strap", "clay", "map" and "per part" are set in State.reset).
-/

namespace Sys2Proof.Machine

/-- One register of the table: its first offset; the stride and count of its outer and inner index; its masks; its reset. -/
structure RegRow where
  base : Nat
  s1 : Nat
  n1 : Nat
  s2 : Nat
  n2 : Nat
  rw : R32
  w1c : R32
  wo : R32
  reset : R32
  deriving DecidableEq, Repr

/-- The row covers an offset. -/
def RegRow.covers (r : RegRow) (off : Nat) : Bool :=
  decide (r.base ≤ off) &&
  (let d := off - r.base
   decide (d / r.s1 < r.n1) && decide ((d % r.s1) % r.s2 = 0) && decide ((d % r.s1) / r.s2 < r.n2))

/-- Registers of block GLB. -/
def rowsGlb : List RegRow := [
  ⟨0x0, 0x4, 1, 0x4, 1, 0x0, 0x0, 0x0, 0x72640000⟩ /- GLB_IDENT -/,
  ⟨0x4, 0x4, 1, 0x4, 1, 0x0, 0x0, 0x0, 0x0⟩ /- GLB_TILES -/,
  ⟨0x8, 0x4, 1, 0x4, 1, 0x0, 0x0, 0x0, 0x0⟩ /- GLB_TMASK_LO -/,
  ⟨0xc, 0x4, 1, 0x4, 1, 0x0, 0x0, 0x0, 0x0⟩ /- GLB_TMASK_HI -/,
  ⟨0x10, 0x4, 1, 0x4, 1, 0x8000003f, 0x0, 0x0, 0x0⟩ /- GLB_NODE -/,
  ⟨0x100, 0x10, 16, 0x4, 1, 0x800fffff, 0x0, 0x0, 0x0⟩ /- GLB_APT_BASE -/,
  ⟨0x104, 0x10, 16, 0x4, 1, 0xffffc000, 0x0, 0x0, 0x0⟩ /- GLB_APT_ATTR -/,
  ⟨0x108, 0x10, 16, 0x4, 1, 0xffff, 0x0, 0x0, 0x0⟩ /- GLB_APT_JOB -/]

/-- Registers of block CLY. -/
def rowsCly : List RegRow := [
  ⟨0x10000, 0x4, 1024, 0x4, 1, 0xffffffff, 0x0, 0x0, 0x0⟩ /- CLY_WORD -/,
  ⟨0x11000, 0x4, 1024, 0x4, 1, 0x0, 0x0, 0x0, 0x0⟩ /- CLY_WEAR -/,
  ⟨0x12000, 0x4, 1, 0x4, 1, 0x80000000, 0x0, 0x0, 0x0⟩ /- CLY_CTL -/,
  ⟨0x12004, 0x4, 1, 0x4, 1, 0x0, 0xe0000000, 0x0, 0x0⟩ /- CLY_STAT -/]

/-- Registers of block PWR. -/
def rowsPwr : List RegRow := [
  ⟨0x20000, 0x4, 1, 0x4, 1, 0x0, 0x60000000, 0x0, 0x0⟩ /- PWR_STAT -/,
  ⟨0x20004, 0x4, 1, 0x4, 1, 0x800fffff, 0x0, 0x0, 0x80040320⟩ /- PWR_AVS -/,
  ⟨0x20008, 0x4, 1, 0x4, 1, 0x0, 0x0, 0x0, 0x320⟩ /- PWR_VCORE -/,
  ⟨0x2000c, 0x4, 1, 0x4, 1, 0xffff, 0x0, 0x0, 0x6e645f⟩ /- PWR_THERM -/,
  ⟨0x20010, 0x4, 1, 0x4, 1, 0x0, 0x0, 0x0, 0x0⟩ /- PWR_TMAX -/,
  ⟨0x20014, 0x4, 1, 0x4, 1, 0x0, 0x0, 0x0, 0x10⟩ /- PWR_KREQ -/,
  ⟨0x20018, 0x4, 1, 0x4, 1, 0x0, 0x0, 0x0, 0x0⟩ /- PWR_POWER -/,
  ⟨0x2001c, 0x4, 1, 0x4, 1, 0x0, 0x0, 0x0, 0x0⟩ /- PWR_FAILS -/,
  ⟨0x20040, 0x4, 20, 0x4, 1, 0x0, 0x0, 0x0, 0x0⟩ /- PWR_TDIE -/]

/-- Registers of block FWM. -/
def rowsFwm : List RegRow := [
  ⟨0x40000, 0x4, 1, 0x4, 1, 0x0, 0x0, 0x0, 0x0⟩ /- FWM_STAT -/,
  ⟨0x40004, 0x4, 1, 0x4, 1, 0x0, 0x0, 0xf8000000, 0x0⟩ /- FWM_CMD -/,
  ⟨0x40008, 0x4, 1, 0x4, 1, 0x7f, 0x0, 0x0, 0x0⟩ /- FWM_IMG_PAGE -/,
  ⟨0x4000c, 0x4, 1, 0x4, 1, 0x1ffffff, 0x0, 0x0, 0x0⟩ /- FWM_IMG_LEN -/,
  ⟨0x40010, 0x4, 1, 0x4, 1, 0xffffffff, 0x0, 0x0, 0x0⟩ /- FWM_HO_TICK_LO -/,
  ⟨0x40014, 0x4, 1, 0x4, 1, 0xffffffff, 0x0, 0x0, 0x0⟩ /- FWM_HO_TICK_HI -/,
  ⟨0x40018, 0x4, 1, 0x4, 1, 0x0, 0x0, 0x0, 0x0⟩ /- FWM_VER -/,
  ⟨0x4001c, 0x4, 1, 0x4, 1, 0x0, 0x0, 0x0, 0x0⟩ /- FWM_VER_STBY -/,
  ⟨0x40020, 0x4, 1, 0x4, 1, 0x0, 0x0, 0x0, 0x0⟩ /- FWM_SVN -/,
  ⟨0x40040, 0x4, 1, 0x4, 1, 0xf3ff, 0x0, 0x0, 0x0⟩ /- FWM_TC_GROUP -/,
  ⟨0x40044, 0x4, 1, 0x4, 1, 0xffffffff, 0x0, 0x0, 0x0⟩ /- FWM_TC_TICK_LO -/,
  ⟨0x40048, 0x4, 1, 0x4, 1, 0xffffffff, 0x0, 0x0, 0x0⟩ /- FWM_TC_TICK_HI -/,
  ⟨0x4004c, 0x4, 1, 0x4, 1, 0x0, 0x0, 0xf0000000, 0x0⟩ /- FWM_TC_CMD -/,
  ⟨0x40050, 0x4, 1, 0x4, 1, 0x0, 0x0, 0x0, 0x0⟩ /- FWM_TC_RES -/,
  ⟨0x40100, 0x4, 1, 0x4, 1, 0x0, 0x0, 0xffffffff, 0x0⟩ /- FWM_MB_CMD -/,
  ⟨0x40104, 0x4, 1, 0x4, 1, 0x0, 0x0, 0x0, 0x0⟩ /- FWM_MB_RES -/]

/-- Registers of block QMG. -/
def rowsQmg : List RegRow := [
  ⟨0x80000, 0x4, 1, 0x4, 1, 0x1, 0x0, 0x0, 0x0⟩ /- QMG_CTL -/,
  ⟨0x80004, 0x4, 1, 0x4, 1, 0x0, 0x80000000, 0x0, 0x0⟩ /- QMG_STAT -/,
  ⟨0x80008, 0x4, 1, 0x4, 1, 0x0, 0x0, 0x3ff, 0x0⟩ /- QMG_COMMIT -/,
  ⟨0x80100, 0x20, 16, 0x4, 1, 0xfffff000, 0x0, 0x0, 0x0⟩ /- QMG_EVT_BASE_LO -/,
  ⟨0x80104, 0x20, 16, 0x4, 1, 0xffffffff, 0x0, 0x0, 0x0⟩ /- QMG_EVT_BASE_HI -/,
  ⟨0x80108, 0x20, 16, 0x4, 1, 0xc01fffff, 0x0, 0x0, 0x80000⟩ /- QMG_EVT_CFG -/,
  ⟨0x8010c, 0x20, 16, 0x4, 1, 0xffff, 0x0, 0x0, 0x0⟩ /- QMG_EVT_HEAD -/,
  ⟨0x80110, 0x20, 16, 0x4, 1, 0x0, 0x0, 0x0, 0x10000⟩ /- QMG_EVT_TAIL -/,
  ⟨0x80114, 0x20, 16, 0x4, 1, 0x0, 0x0, 0x0, 0x0⟩ /- QMG_EVT_LOST -/,
  ⟨0x81000, 0x20, 1024, 0x4, 1, 0xfffff000, 0x0, 0x0, 0x0⟩ /- QMG_Q_BASE_LO -/,
  ⟨0x81004, 0x20, 1024, 0x4, 1, 0xffffffff, 0x0, 0x0, 0x0⟩ /- QMG_Q_BASE_HI -/,
  ⟨0x81008, 0x20, 1024, 0x4, 1, 0xfffc03ff, 0x0, 0x0, 0x1a000000⟩ /- QMG_Q_CFG -/,
  ⟨0x8100c, 0x20, 1024, 0x4, 1, 0xffffcfff, 0x0, 0x0, 0x10000000⟩ /- QMG_Q_SCHED -/,
  ⟨0x81010, 0x20, 1024, 0x4, 1, 0x1, 0x0, 0x0, 0x0⟩ /- QMG_Q_CTL -/,
  ⟨0x81014, 0x20, 1024, 0x4, 1, 0x0, 0x0, 0x0, 0x0⟩ /- QMG_Q_STAT -/,
  ⟨0x81018, 0x20, 1024, 0x4, 1, 0xffff, 0x0, 0x0, 0x0⟩ /- QMG_Q_PTR -/,
  ⟨0xa0000, 0x40, 1024, 0x4, 1, 0x0, 0x0, 0xffff, 0x0⟩ /- QMG_DB -/]

/-- Registers of block XLT. -/
def rowsXlt : List RegRow := [
  ⟨0x100000, 0x4, 1, 0x4, 1, 0x3, 0x0, 0x0, 0x2⟩ /- XLT_CTL -/,
  ⟨0x100004, 0x4, 1, 0x4, 1, 0x0, 0x6, 0x0, 0x0⟩ /- XLT_STAT -/,
  ⟨0x100008, 0x4, 1, 0x4, 1, 0x0, 0x0, 0x0, 0x0⟩ /- XLT_FAULTS -/,
  ⟨0x100010, 0x4, 1, 0x4, 1, 0xffff0000, 0x0, 0x0, 0x0⟩ /- XLT_PRES_VA_LO -/,
  ⟨0x100014, 0x4, 1, 0x4, 1, 0x1ffffff, 0x0, 0x0, 0x0⟩ /- XLT_PRES_VA_HI -/,
  ⟨0x100018, 0x4, 1, 0x4, 1, 0x0, 0x0, 0xe03fffff, 0x0⟩ /- XLT_PRES_CMD -/,
  ⟨0x10001c, 0x4, 1, 0x4, 1, 0x0, 0x0, 0x0, 0x0⟩ /- XLT_PRES_STAT -/,
  ⟨0x100020, 0x4, 1, 0x4, 1, 0x0, 0x0, 0x3ff, 0x0⟩ /- XLT_COMMIT -/,
  ⟨0x100024, 0x4, 1, 0x4, 1, 0x3f, 0x0, 0x0, 0x0⟩ /- XLT_RTWIN_PAGE -/,
  ⟨0x101000, 0x40, 8, 0x4, 16, 0x80000fff, 0x0, 0x0, 0x0⟩ /- XLT_AGT -/,
  ⟨0x104000, 0x10, 1024, 0x4, 1, 0xcfffffff, 0x0, 0x0, 0x0⟩ /- XLT_CTX_ID -/,
  ⟨0x104004, 0x10, 1024, 0x4, 1, 0x7fffffff, 0x0, 0x0, 0x0⟩ /- XLT_CTX_TBL -/,
  ⟨0x104008, 0x10, 1024, 0x4, 1, 0x0, 0x0, 0x0, 0x0⟩ /- XLT_CTX_STAT -/,
  ⟨0x10400c, 0x10, 1024, 0x4, 1, 0x0, 0x0, 0x80000000, 0x0⟩ /- XLT_CTX_DRAIN -/]

/-- Registers of block HOM. -/
def rowsHom : List RegRow := [
  ⟨0x180000, 0x4, 1, 0x4, 1, 0x7, 0x0, 0x0, 0x0⟩ /- HOM_CTL -/,
  ⟨0x180004, 0x4, 1, 0x4, 1, 0x0, 0xc0000000, 0x0, 0x0⟩ /- HOM_STAT -/,
  ⟨0x180008, 0x4, 1, 0x4, 1, 0xffff, 0x0, 0x0, 0x2710⟩ /- HOM_LEASE -/,
  ⟨0x18000c, 0x4, 1, 0x4, 1, 0x0, 0x0, 0xfcffffff, 0x0⟩ /- HOM_EXT_CMD -/,
  ⟨0x180010, 0x4, 1, 0x4, 1, 0xffffffff, 0x0, 0x0, 0x0⟩ /- HOM_EXT_TICK_LO -/,
  ⟨0x180014, 0x4, 1, 0x4, 1, 0xffffffff, 0x0, 0x0, 0x0⟩ /- HOM_EXT_TICK_HI -/,
  ⟨0x180018, 0x4, 1, 0x4, 1, 0x0, 0x0, 0x0, 0x0⟩ /- HOM_EXT_RES -/,
  ⟨0x18001c, 0x4, 1, 0x4, 1, 0x3, 0x0, 0x0, 0x0⟩ /- HOM_EXTWIN_PAGE -/,
  ⟨0x180020, 0x4, 1, 0x4, 1, 0x0, 0x0, 0x0, 0x30003000⟩ /- HOM_DIR_FREE -/,
  ⟨0x180024, 0x4, 1, 0x4, 1, 0x0, 0x0, 0x0, 0x1000000⟩ /- HOM_ACC_FREE -/,
  ⟨0x180028, 0x4, 1, 0x4, 1, 0xff, 0x0, 0x0, 0x18⟩ /- HOM_SCRUB -/,
  ⟨0x18002c, 0x4, 1, 0x4, 1, 0x0, 0x0, 0x0, 0x0⟩ /- HOM_SCRUB_POS -/,
  ⟨0x180030, 0x4, 1, 0x4, 1, 0xffff, 0x0, 0x0, 0x3e8⟩ /- HOM_CE_THR -/,
  ⟨0x180034, 0x4, 1, 0x4, 1, 0x3ff, 0x0, 0x0, 0x0⟩ /- HOM_LLOG_HEAD -/,
  ⟨0x180038, 0x4, 1, 0x4, 1, 0x0, 0x0, 0x0, 0x0⟩ /- HOM_LLOG_TAIL -/,
  ⟨0x18003c, 0x4, 1, 0x4, 1, 0x0, 0x0, 0x0, 0x0⟩ /- HOM_UE_CNT -/,
  ⟨0x180100, 0x4, 20, 0x4, 1, 0x0, 0x0, 0x0, 0x0⟩ /- HOM_CE_CNT -/]

/-- Registers of block DTT. -/
def rowsDtt : List RegRow := [
  ⟨0x200000, 0x4, 1, 0x4, 1, 0xf, 0x0, 0x0, 0x0⟩ /- DTT_CTL -/,
  ⟨0x200004, 0x4, 1, 0x4, 1, 0x0, 0xf0000000, 0x0, 0x0⟩ /- DTT_STAT -/,
  ⟨0x200008, 0x4, 1, 0x4, 1, 0x0, 0x0, 0x0, 0x0⟩ /- DTT_NOW_LO -/,
  ⟨0x20000c, 0x4, 1, 0x4, 1, 0x0, 0x0, 0x0, 0x0⟩ /- DTT_NOW_HI -/,
  ⟨0x200010, 0x4, 1, 0x4, 1, 0x0, 0x0, 0x0, 0x1f800000⟩ /- DTT_SYNC_STAT -/,
  ⟨0x200014, 0x4, 1, 0x4, 1, 0x0, 0x0, 0x0, 0x0⟩ /- DTT_OFFSET -/,
  ⟨0x200018, 0x4, 1, 0x4, 1, 0xbfbfbfbf, 0x0, 0x0, 0x0⟩ /- DTT_ROOTS -/,
  ⟨0x20001c, 0x4, 1, 0x4, 1, 0x0, 0x0, 0x0, 0x0⟩ /- DTT_SLOT_LO -/,
  ⟨0x200020, 0x4, 1, 0x4, 1, 0x0, 0x0, 0x0, 0x0⟩ /- DTT_SLOT_HI -/,
  ⟨0x200024, 0x4, 1, 0x4, 1, 0x0, 0x0, 0x0, 0x101010⟩ /- DTT_DIL -/,
  ⟨0x200028, 0x4, 1, 0x4, 1, 0x0, 0x0, 0x0, 0x0⟩ /- DTT_LATE_CNT -/,
  ⟨0x20002c, 0x4, 1, 0x4, 1, 0x0, 0x0, 0x0, 0x40004000⟩ /- DTT_STAGE_CAP -/,
  ⟨0x200030, 0x4, 1, 0x4, 1, 0x0, 0x0, 0x0, 0x0⟩ /- DTT_FREQ -/,
  ⟨0x200040, 0x4, 6, 0x4, 1, 0x0, 0x0, 0x0, 0xf0000000⟩ /- DTT_PORT_LAG -/,
  ⟨0x200080, 0x4, 1, 0x4, 1, 0x3fffff7f, 0x0, 0xc0000000, 0x8040⟩ /- DTT_BAR_CTL -/,
  ⟨0x200084, 0x4, 1, 0x4, 1, 0x0, 0x0, 0x0, 0x0⟩ /- DTT_BAR_STAT -/,
  ⟨0x200088, 0x4, 1, 0x4, 1, 0xffffffff, 0x0, 0x0, 0x0⟩ /- DTT_BAR_LOAD_LO -/,
  ⟨0x20008c, 0x4, 1, 0x4, 1, 0xffffffff, 0x0, 0x0, 0x0⟩ /- DTT_BAR_LOAD_HI -/,
  ⟨0x2000c0, 0x4, 1, 0x4, 1, 0x0, 0x0, 0xf0000001, 0x0⟩ /- DTT_TT_CMD -/,
  ⟨0x2000c4, 0x4, 1, 0x4, 1, 0x0, 0x0, 0x0, 0x10000000⟩ /- DTT_TT_STAT -/,
  ⟨0x2000c8, 0x4, 2, 0x4, 1, 0x1ffff, 0x0, 0x0, 0x1000⟩ /- DTT_TT_LEN -/,
  ⟨0x2000d0, 0x4, 1, 0x4, 1, 0xffffffff, 0x0, 0x0, 0x0⟩ /- DTT_SWAP_TICK_LO -/,
  ⟨0x2000d4, 0x4, 1, 0x4, 1, 0xffffffff, 0x0, 0x0, 0x0⟩ /- DTT_SWAP_TICK_HI -/,
  ⟨0x2000d8, 0x4, 1, 0x4, 1, 0x7f, 0x0, 0x0, 0x0⟩ /- DTT_TTWIN_PAGE -/,
  ⟨0x200100, 0x4, 1, 0x4, 1, 0x0, 0x0, 0xf000003f, 0x0⟩ /- DTT_ENV_CMD -/,
  ⟨0x200104, 0x4, 1, 0x4, 1, 0xffffffff, 0x0, 0x0, 0xffff⟩ /- DTT_ENV_TARGET -/,
  ⟨0x200108, 0x4, 1, 0x4, 1, 0xffffffff, 0x0, 0x0, 0x0⟩ /- DTT_ENV_TICK_LO -/,
  ⟨0x20010c, 0x4, 1, 0x4, 1, 0xffffffff, 0x0, 0x0, 0x0⟩ /- DTT_ENV_TICK_HI -/,
  ⟨0x200110, 0x4, 1, 0x4, 1, 0x0, 0x0, 0x0, 0x1010⟩ /- DTT_ENV_STAT -/,
  ⟨0x200140, 0x4, 17, 0x4, 1, 0xffff, 0x0, 0x0, 0x0⟩ /- DTT_DIL_TAB -/]

/-- Registers of block ENG. -/
def rowsEng : List RegRow := [
  ⟨0x280000, 0x1000, 48, 0x4, 1, 0x7f, 0x0, 0x0, 0x20⟩ /- ENG_T_CTL -/,
  ⟨0x280004, 0x1000, 48, 0x4, 1, 0x0, 0x0, 0x0, 0x0⟩ /- ENG_T_STAT -/,
  ⟨0x280008, 0x1000, 48, 0x4, 1, 0x0, 0x0, 0x0, 0x0⟩ /- ENG_T_STEPS -/,
  ⟨0x28000c, 0x1000, 48, 0x4, 1, 0x0, 0x0, 0x0, 0x0⟩ /- ENG_T_RESID -/,
  ⟨0x2c0000, 0x4, 1, 0x4, 1, 0x1, 0x0, 0x0, 0x0⟩ /- ENG_CTL -/,
  ⟨0x2c0004, 0x4, 1, 0x4, 1, 0x0, 0x60000000, 0x0, 0x0⟩ /- ENG_STAT -/,
  ⟨0x2c0008, 0x4, 1, 0x4, 1, 0x0, 0x0, 0x0, 0x0⟩ /- ENG_SAT_CNT -/,
  ⟨0x2c000c, 0x4, 1, 0x4, 1, 0x0, 0x0, 0xf000003f, 0x0⟩ /- ENG_SPARE_CMD -/,
  ⟨0x2c0010, 0x4, 1, 0x4, 1, 0x0, 0x0, 0x0, 0x0⟩ /- ENG_SPARE_RES -/,
  ⟨0x2c0100, 0x10, 64, 0x4, 1, 0xfffff000, 0x0, 0x0, 0x0⟩ /- ENG_WIN_BASE -/,
  ⟨0x2c0104, 0x10, 64, 0x4, 1, 0xf00fffff, 0x0, 0x0, 0x0⟩ /- ENG_WIN_LEN -/,
  ⟨0x2c0108, 0x10, 64, 0x4, 1, 0xffff, 0x0, 0x0, 0x0⟩ /- ENG_WIN_JOB -/,
  ⟨0x2c0800, 0x10, 4, 0x4, 1, 0xff3f003f, 0x0, 0x0, 0x0⟩ /- ENG_DOP_CTL -/,
  ⟨0x2c0804, 0x10, 4, 0x4, 1, 0x0, 0xc0000000, 0x0, 0x0⟩ /- ENG_DOP_STAT -/,
  ⟨0x2c0808, 0x10, 4, 0x4, 1, 0x0, 0x0, 0x0, 0x0⟩ /- ENG_DOP_CNT -/]

/-- Registers of block GRP. -/
def rowsGrp : List RegRow := [
  ⟨0x300000, 0x4, 1, 0x4, 1, 0xffff0001, 0x0, 0x0, 0x4000000⟩ /- GRP_CTL -/,
  ⟨0x300004, 0x4, 1, 0x4, 1, 0x0, 0xc0000000, 0x0, 0x0⟩ /- GRP_STAT -/,
  ⟨0x300008, 0x4, 1, 0x4, 1, 0x0, 0x0, 0xf00003ff, 0x0⟩ /- GRP_CMD -/,
  ⟨0x30000c, 0x4, 1, 0x4, 1, 0x0, 0x0, 0x0, 0x0⟩ /- GRP_RES -/,
  ⟨0x300010, 0x4, 1, 0x4, 1, 0x3, 0x0, 0x0, 0x0⟩ /- GRP_GWIN_PAGE -/,
  ⟨0x300014, 0x4, 1, 0x4, 1, 0x0, 0x0, 0x0, 0x0⟩ /- GRP_MISMATCH_CNT -/,
  ⟨0x300018, 0x4, 1, 0x4, 1, 0x0, 0x0, 0x0, 0x0⟩ /- GRP_ABORT_CNT -/,
  ⟨0x300100, 0x10, 64, 0x4, 1, 0x0, 0x0, 0x0, 0x0⟩ /- GRP_INST_STAT -/,
  ⟨0x300104, 0x10, 64, 0x4, 1, 0x0, 0x0, 0x0, 0x0⟩ /- GRP_INST_SEQ -/,
  ⟨0x300108, 0x10, 64, 0x4, 1, 0x0, 0x0, 0x0, 0x0⟩ /- GRP_INST_ROUND -/,
  ⟨0x30010c, 0x10, 64, 0x4, 1, 0x0, 0x0, 0x0, 0x0⟩ /- GRP_INST_TOTAL -/,
  ⟨0x300020, 0x4, 1, 0x4, 1, 0x0, 0x0, 0xf00003ff, 0x0⟩ /- GRP_EMAP_CMD -/,
  ⟨0x300024, 0x4, 1, 0x4, 1, 0x0, 0x0, 0x0, 0x0⟩ /- GRP_EMAP_RES -/,
  ⟨0x300028, 0x4, 1, 0x4, 1, 0x0, 0xe0000000, 0x0, 0x0⟩ /- GRP_EMAP_STAT -/,
  ⟨0x30002c, 0x4, 1, 0x4, 1, 0x1f, 0x0, 0x0, 0x0⟩ /- GRP_EWIN_PAGE -/,
  ⟨0x300030, 0x4, 1, 0x4, 1, 0x0, 0x0, 0x0, 0x0⟩ /- GRP_DROP_CNT -/,
  ⟨0x300034, 0x4, 1, 0x4, 1, 0x0, 0x0, 0x0, 0x0⟩ /- GRP_SPILL_CNT -/]

/-- Registers of block SWC. -/
def rowsSwc : List RegRow := [
  ⟨0x380000, 0x4, 1, 0x4, 1, 0x1ff, 0x0, 0x0, 0x1⟩ /- SWC_CTL -/,
  ⟨0x380004, 0x4, 1, 0x4, 1, 0x0, 0x0, 0x1, 0x0⟩ /- SWC_COMMIT -/,
  ⟨0x380008, 0x4, 1, 0x4, 1, 0x0, 0xc0000000, 0x0, 0x0⟩ /- SWC_STAT -/,
  ⟨0x38000c, 0x4, 1, 0x4, 1, 0xf, 0x0, 0x0, 0x0⟩ /- SWC_SPLIT -/,
  ⟨0x380010, 0x4, 1, 0x4, 1, 0xfff, 0x0, 0x0, 0x422⟩ /- SWC_ARB -/,
  ⟨0x380020, 0x4, 1, 0x4, 1, 0xffffffff, 0x0, 0x0, 0x40800200⟩ /- SWC_RED(0) -/,
  ⟨0x380024, 0x4, 1, 0x4, 1, 0xffffffff, 0x0, 0x0, 0x40400100⟩ /- SWC_RED(1) -/,
  ⟨0x380028, 0x4, 1, 0x4, 1, 0xffffffff, 0x0, 0x0, 0x80200040⟩ /- SWC_RED(2) -/,
  ⟨0x380100, 0x4, 64, 0x4, 1, 0x80000007, 0x0, 0x0, 0x0⟩ /- SWC_ESC -/,
  ⟨0x380200, 0x10, 14, 0x4, 1, 0x0, 0x0, 0x0, 0x0⟩ /- SWC_P_DEPTH -/,
  ⟨0x380204, 0x10, 14, 0x4, 1, 0x0, 0x0, 0x0, 0x0⟩ /- SWC_P_MALF -/,
  ⟨0x380208, 0x10, 14, 0x4, 1, 0x0, 0x0, 0x0, 0x0⟩ /- SWC_P_MARK -/,
  ⟨0x38020c, 0x10, 14, 0x4, 1, 0x0, 0x0, 0x0, 0x0⟩ /- SWC_P_DISC -/,
  ⟨0x384000, 0x10, 1024, 0x4, 1, 0xffffffff, 0x0, 0x0, 0x0⟩ /- SWC_TCM_RATE -/,
  ⟨0x384004, 0x10, 1024, 0x4, 1, 0xffffffff, 0x0, 0x0, 0x400040⟩ /- SWC_TCM_BURST -/,
  ⟨0x384008, 0x10, 1024, 0x4, 1, 0x7, 0x0, 0x0, 0x0⟩ /- SWC_TCM_CLS -/]

/-- Registers of block LAN. -/
def rowsLan : List RegRow := [
  ⟨0x400000, 0x100, 512, 0x4, 1, 0xfe000000, 0x0, 0x1000000, 0x0⟩ /- LAN_L_CTL -/,
  ⟨0x400004, 0x100, 512, 0x4, 1, 0x0, 0x0, 0xc00003ff, 0x0⟩ /- LAN_L_INJ -/,
  ⟨0x400008, 0x100, 512, 0x4, 1, 0x0, 0x0, 0x0, 0x80000000⟩ /- LAN_L_STAT -/,
  ⟨0x40000c, 0x100, 512, 0x4, 1, 0x0, 0x0, 0x0, 0x0⟩ /- LAN_L_PRE -/,
  ⟨0x400010, 0x100, 512, 0x4, 1, 0x0, 0x0, 0x0, 0x0⟩ /- LAN_L_POST -/,
  ⟨0x400014, 0x100, 512, 0x4, 1, 0x0, 0x0, 0x0, 0x0⟩ /- LAN_L_PRBS_ERR -/,
  ⟨0x400018, 0x100, 512, 0x4, 1, 0x0, 0x0, 0x0, 0x0⟩ /- LAN_L_PRBS_BITS -/,
  ⟨0x440000, 0x100, 14, 0x4, 1, 0xec000000, 0x0, 0x10000000, 0x0⟩ /- LAN_P_CTL -/,
  ⟨0x440004, 0x100, 14, 0x4, 1, 0x0, 0x0, 0x0, 0x0⟩ /- LAN_P_STAT -/,
  ⟨0x440008, 0x100, 14, 0x4, 1, 0x0, 0x0, 0x0, 0x0⟩ /- LAN_P_CRC -/,
  ⟨0x44000c, 0x100, 14, 0x4, 1, 0x0, 0x0, 0x0, 0x0⟩ /- LAN_P_REPLAY -/,
  ⟨0x440010, 0x100, 14, 0x4, 1, 0x0, 0x0, 0x0, 0x0⟩ /- LAN_P_TRAIN -/,
  ⟨0x460000, 0x4, 1, 0x4, 1, 0x0, 0x0, 0xfffffffc, 0x0⟩ /- LAN_CMIS_CMD -/,
  ⟨0x460004, 0x4, 1, 0x4, 1, 0x0, 0x0, 0x0, 0x0⟩ /- LAN_CMIS_RES -/,
  ⟨0x460010, 0x4, 8, 0x4, 1, 0xffffffff, 0x0, 0x0, 0x0⟩ /- LAN_CMIS_DATA -/]

/-- Registers of block ETH. -/
def rowsEth : List RegRow := [
  ⟨0x480000, 0x4, 1, 0x4, 1, 0x3, 0x0, 0x0, 0x0⟩ /- ETH_CTL -/,
  ⟨0x480004, 0x4, 1, 0x4, 1, 0xffff, 0x0, 0x0, 0xc5a0⟩ /- ETH_UDP -/,
  ⟨0x480008, 0x4, 1, 0x4, 1, 0xff00ffff, 0x0, 0x0, 0xc000040⟩ /- ETH_RTO -/,
  ⟨0x480010, 0x4, 1, 0x4, 1, 0xffffffff, 0x0, 0x0, 0x20000400⟩ /- ETH_RED(0) -/,
  ⟨0x480014, 0x4, 1, 0x4, 1, 0xffffffff, 0x0, 0x0, 0x40800200⟩ /- ETH_RED(1) -/,
  ⟨0x480018, 0x4, 1, 0x4, 1, 0xffffffff, 0x0, 0x0, 0x80400080⟩ /- ETH_RED(2) -/,
  ⟨0x480100, 0x40, 4, 0x4, 1, 0xc0000000, 0x0, 0x0, 0x0⟩ /- ETH_P_CTL -/,
  ⟨0x480104, 0x40, 4, 0x4, 1, 0x0, 0x0, 0x0, 0x0⟩ /- ETH_P_STAT -/,
  ⟨0x480108, 0x40, 4, 0x4, 1, 0xffffffff, 0x0, 0x0, 0x0⟩ /- ETH_P_MAC_LO -/,
  ⟨0x48010c, 0x40, 4, 0x4, 1, 0xffff, 0x0, 0x0, 0x0⟩ /- ETH_P_MAC_HI -/,
  ⟨0x480110, 0x40, 4, 0x4, 1, 0xffffffff, 0x0, 0x0, 0x0⟩ /- ETH_P_GW_LO -/,
  ⟨0x480114, 0x40, 4, 0x4, 1, 0xffff, 0x0, 0x0, 0x0⟩ /- ETH_P_GW_HI -/,
  ⟨0x480118, 0x40, 4, 0x4, 4, 0xffffffff, 0x0, 0x0, 0x0⟩ /- ETH_P_IP -/,
  ⟨0x480128, 0x40, 4, 0x4, 1, 0x0, 0x0, 0x0, 0x0⟩ /- ETH_P_DROP -/,
  ⟨0x48012c, 0x40, 4, 0x4, 1, 0x0, 0x0, 0x0, 0x0⟩ /- ETH_P_ECN -/,
  ⟨0x480130, 0x40, 4, 0x4, 1, 0x0, 0x0, 0x0, 0x0⟩ /- ETH_P_OTHER -/,
  ⟨0x490000, 0x40, 256, 0x4, 1, 0xbffffff0, 0x0, 0x0, 0x0⟩ /- ETH_CH_CFG -/,
  ⟨0x490004, 0x40, 256, 0x4, 4, 0xffffffff, 0x0, 0x0, 0x0⟩ /- ETH_CH_PEER -/,
  ⟨0x490014, 0x40, 256, 0x4, 1, 0xffffff80, 0x0, 0x0, 0x300⟩ /- ETH_CH_SQ_LO -/,
  ⟨0x490024, 0x40, 256, 0x4, 1, 0xffffff80, 0x0, 0x0, 0x300⟩ /- ETH_CH_RQ_LO -/,
  ⟨0x490018, 0x40, 256, 0x4, 1, 0xffffffff, 0x0, 0x0, 0x0⟩ /- ETH_CH_SQ_HI -/,
  ⟨0x490028, 0x40, 256, 0x4, 1, 0xffffffff, 0x0, 0x0, 0x0⟩ /- ETH_CH_RQ_HI -/,
  ⟨0x49001c, 0x40, 256, 0x4, 1, 0x0, 0x0, 0xffff, 0x0⟩ /- ETH_CH_SQ_DB -/,
  ⟨0x49002c, 0x40, 256, 0x4, 1, 0x0, 0x0, 0xffff, 0x0⟩ /- ETH_CH_RQ_DB -/,
  ⟨0x490020, 0x40, 256, 0x4, 1, 0x0, 0x0, 0x0, 0x0⟩ /- ETH_CH_SQ_PTR -/,
  ⟨0x490030, 0x40, 256, 0x4, 1, 0xfffff000, 0x0, 0x0, 0x0⟩ /- ETH_CH_WIN_LO -/,
  ⟨0x490034, 0x40, 256, 0x4, 1, 0x1ffffff, 0x0, 0x0, 0x0⟩ /- ETH_CH_WIN_HI -/,
  ⟨0x490038, 0x40, 256, 0x4, 1, 0xefffffff, 0x0, 0x0, 0x0⟩ /- ETH_CH_WIN_LEN -/,
  ⟨0x49003c, 0x40, 256, 0x4, 1, 0x0, 0x0, 0x0, 0x0⟩ /- ETH_CH_STAT -/]

/-- Registers of block SEC. -/
def rowsSec : List RegRow := [
  ⟨0x500000, 0x4, 1, 0x4, 1, 0x0, 0x0, 0x0, 0x0⟩ /- SEC_STAT -/,
  ⟨0x500004, 0x4, 1, 0x4, 1, 0x0, 0x0, 0xffeffc0f, 0x0⟩ /- SEC_CMD -/,
  ⟨0x500008, 0x4, 1, 0x4, 1, 0x0, 0x0, 0x0, 0x0⟩ /- SEC_RES -/,
  ⟨0x500010, 0x4, 1, 0x4, 1, 0x800003ff, 0x0, 0x0, 0x0⟩ /- SEC_ALARM_POL -/,
  ⟨0x500014, 0x4, 1, 0x4, 1, 0x0, 0x8000001f, 0x0, 0x0⟩ /- SEC_ALARM_STAT -/,
  ⟨0x500100, 0x4, 14, 0x4, 1, 0x0, 0x0, 0x0, 0x0⟩ /- SEC_PORT_ST -/,
  ⟨0x500140, 0x4, 14, 0x4, 1, 0x0, 0x0, 0x0, 0x0⟩ /- SEC_PORT_N -/]

/-- Registers of block FLT. -/
def rowsFlt : List RegRow := [
  ⟨0x580000, 0x4, 1, 0x4, 1, 0xff, 0x0, 0x0, 0x8⟩ /- FLT_CTL -/,
  ⟨0x580004, 0x4, 1, 0x4, 1, 0x0, 0x60000000, 0x0, 0x0⟩ /- FLT_STAT -/,
  ⟨0x580008, 0x4, 1, 0x4, 1, 0x0, 0x0, 0x0, 0x0⟩ /- FLT_INC -/,
  ⟨0x58000c, 0x4, 1, 0x4, 1, 0x0, 0x0, 0x0, 0x0⟩ /- FLT_ORD_SEQ -/,
  ⟨0x580010, 0x4, 1, 0x4, 1, 0x0, 0x0, 0x0, 0x0⟩ /- FLT_EXP_LO -/,
  ⟨0x580014, 0x4, 1, 0x4, 1, 0x0, 0x0, 0x0, 0x0⟩ /- FLT_EXP_HI -/,
  ⟨0x580018, 0x4, 1, 0x4, 1, 0x0, 0x0, 0x0, 0x0⟩ /- FLT_MISROUTE_CNT -/,
  ⟨0x580020, 0x4, 6, 0x4, 1, 0x0, 0x0, 0x0, 0x80000000⟩ /- FLT_PORT_HB -/,
  ⟨0x580040, 0x4, 1, 0x4, 1, 0x0, 0x0, 0x80000000, 0x0⟩ /- FLT_ORD_CMD -/,
  ⟨0x580044, 0x4, 1, 0x4, 1, 0x0, 0x0, 0x0, 0x0⟩ /- FLT_ORD_RES -/,
  ⟨0x580048, 0x4, 1, 0x4, 1, 0x0, 0x0, 0xf800ffff, 0x0⟩ /- FLT_JOB_CMD -/,
  ⟨0x58004c, 0x4, 1, 0x4, 1, 0x0, 0x0, 0x0, 0x0⟩ /- FLT_JOB_RES -/,
  ⟨0x580050, 0x4, 1, 0x4, 1, 0x0, 0x0, 0x800fffff, 0x0⟩ /- FLT_RM_CMD -/,
  ⟨0x580054, 0x4, 1, 0x4, 1, 0x0, 0x0, 0x0, 0x0⟩ /- FLT_RM_RES -/,
  ⟨0x580100, 0x4, 256, 0x4, 1, 0x0, 0x0, 0x0, 0x0⟩ /- FLT_JSTOP -/,
  ⟨0x580500, 0x4, 1, 0x4, 1, 0xffff0000, 0x0, 0x0, 0x4000000⟩ /- FLT_SED_CTL -/,
  ⟨0x580504, 0x4, 1, 0x4, 1, 0x0, 0x0, 0xf0000000, 0x0⟩ /- FLT_SED_CMD -/,
  ⟨0x580508, 0x4, 1, 0x4, 1, 0xffffffff, 0x0, 0x0, 0x0⟩ /- FLT_SED_TICK_LO -/,
  ⟨0x58050c, 0x4, 1, 0x4, 1, 0xffffffff, 0x0, 0x0, 0x0⟩ /- FLT_SED_TICK_HI -/,
  ⟨0x580510, 0x4, 1, 0x4, 1, 0xfffff000, 0x0, 0x0, 0x0⟩ /- FLT_SED_BASE_LO -/,
  ⟨0x580514, 0x4, 1, 0x4, 1, 0xffffffff, 0x0, 0x0, 0x0⟩ /- FLT_SED_BASE_HI -/,
  ⟨0x580518, 0x4, 1, 0x4, 1, 0x1f, 0x0, 0x0, 0x10⟩ /- FLT_SED_CFG -/,
  ⟨0x58051c, 0x4, 1, 0x4, 1, 0xffffff, 0x0, 0x0, 0x0⟩ /- FLT_SED_HEAD -/,
  ⟨0x580520, 0x4, 1, 0x4, 1, 0x0, 0x0, 0x0, 0x0⟩ /- FLT_SED_TAIL -/,
  ⟨0x580524, 0x4, 1, 0x4, 1, 0x0, 0x30000000, 0x0, 0x0⟩ /- FLT_SED_STAT -/,
  ⟨0x580540, 0x4, 16, 0x4, 1, 0x8000ffff, 0x0, 0x0, 0x0⟩ /- FLT_SED_JOB -/,
  ⟨0x580600, 0x4, 1, 0x4, 1, 0x0, 0x0, 0x0, 0x0⟩ /- FLT_TEL_TICK_LO -/,
  ⟨0x580604, 0x4, 1, 0x4, 1, 0x0, 0x0, 0x0, 0x0⟩ /- FLT_TEL_TICK_HI -/]

/-- Registers of block SYN. -/
def rowsSyn : List RegRow := [
  ⟨0x600000, 0x10, 16384, 0x4, 1, 0x0, 0x0, 0x0, 0x0⟩ /- SYN_VAL_LO -/,
  ⟨0x600004, 0x10, 16384, 0x4, 1, 0x0, 0x0, 0x0, 0x0⟩ /- SYN_VAL_HI -/,
  ⟨0x600008, 0x10, 16384, 0x4, 1, 0x0, 0x0, 0xffffffff, 0x0⟩ /- SYN_ADD -/,
  ⟨0x60000c, 0x10, 16384, 0x4, 1, 0x8000ffff, 0x0, 0x40000000, 0x0⟩ /- SYN_CTL -/,
  ⟨0x640000, 0x10, 256, 0x4, 1, 0xffffffff, 0x0, 0x0, 0x0⟩ /- SYN_ARM_TICK_LO -/,
  ⟨0x640004, 0x10, 256, 0x4, 1, 0xffffffff, 0x0, 0x0, 0x0⟩ /- SYN_ARM_TICK_HI -/,
  ⟨0x640008, 0x10, 256, 0x4, 1, 0xffffffff, 0x0, 0x0, 0x0⟩ /- SYN_ARM_ADD -/,
  ⟨0x64000c, 0x10, 256, 0x4, 1, 0xbf003fff, 0x0, 0x0, 0x0⟩ /- SYN_ARM_CTL -/,
  ⟨0x641000, 0x4, 1, 0x4, 1, 0x0, 0x0, 0x0, 0x0⟩ /- SYN_STAT -/]

/-- The rows of the block an offset lies in. -/
def blockRows (off : Nat) : List RegRow :=
  if off ≤ 0xffff then rowsGlb else
  if off ≤ 0x1ffff then rowsCly else
  if off ≤ 0x3ffff then rowsPwr else
  if off ≤ 0x7ffff then rowsFwm else
  if off ≤ 0xfffff then rowsQmg else
  if off ≤ 0x17ffff then rowsXlt else
  if off ≤ 0x1fffff then rowsHom else
  if off ≤ 0x27ffff then rowsDtt else
  if off ≤ 0x2fffff then rowsEng else
  if off ≤ 0x37ffff then rowsGrp else
  if off ≤ 0x3fffff then rowsSwc else
  if off ≤ 0x47ffff then rowsLan else
  if off ≤ 0x4fffff then rowsEth else
  if off ≤ 0x57ffff then rowsSec else
  if off ≤ 0x5fffff then rowsFlt else
  if off ≤ 0x67ffff then rowsSyn else
  []

/-- The row that covers an offset, where one does (R679). -/
def regRow (off : Nat) : Option RegRow := (blockRows off).find? (fun r => r.covers off)

/-- The value a register holds after reset; an offset no row covers reads as zero (R678, R679). -/
def regReset (off : Nat) : R32 :=
  match regRow off with
  | some r => r.reset
  | none => 0

/-- What a plain write leaves of a register: RW bits take the value, a 1 clears a W1C bit, the rest stays (R20, R22). -/
def RegRow.merge (r : RegRow) (old v : R32) : R32 :=
  ((old &&& ~~~ r.rw) &&& ~~~ (r.w1c &&& v)) ||| (r.rw &&& v)

end Sys2Proof.Machine
end

