-- ==== Sys2Proof/Machine/State.lean ====
section
/-!
DEFINITION. The state of one node: every register, memory, table, queue, pin and pending piece of work the spec gives it, as
plain data, and the commands that wait.
-/

namespace Sys2Proof.Machine

/-- Why the machine stops. No command stops this block: the spec ends a failing operation by a status, an event or a port, queue
or node state (R26, R139, R507, R571). -/
inductive Fault where
  /-- Raised by nobody: no rule of the spec stops the part with an error that its state does not hold. Safe. -/
  | none
  deriving DecidableEq, Repr

/-- Why a command has no meaning. -/
inductive Refusal where
  /-- Raised by a dispatch arm of a command that the model has not reached; no arm of this model raises it. Safe. -/
  | notModelled (mnemonic : String)
  deriving DecidableEq, Repr

/-! ### What leaves the node -/

/-- A control message on a link (R533). -/
inductive CtrlMsg where
  | portId (m : PortId)
  | timeHb (m : TimeHb)
  | stop (m : StopMsg)
  | orderFrag (seq : R32) (off total : BitVec 16) (data : Bytes)
  | arrive (seq : BitVec 8) (n : BitVec 7)
  | release (seq : BitVec 8) (hasLoad : Bool) (remain val : R64)
  deriving DecidableEq, Repr

/-- A link message (R533). -/
inductive LinkMsg where
  | nak (e : R32)
  | replay (e : R32)
  | tag (f : R64) (kgen : Bool) (n : BitVec 16) (mac : BitVec 128)
  | quietReq
  | quietAck
  | deepReq
  | deepAck
  /-- No message: the flit carries credit fields alone (R532). -/
  | credits
  deriving DecidableEq, Repr

/-- What one numbered flit carries, of the sender's choice: a memory-class message with its virtual channel, a message to an
attach agent with its header words and data (R165, R252), nothing but isolation reports (R562), a scheduled flit, a control message. -/
inductive TxItem where
  | mem (vc : Nat) (m : TMsg)
  | att (vc : Nat) (w0 w1 : R64) (data : Bytes)
  | report (vc : Nat)
  | sched (f : SFlit)
  | ctrl (m : CtrlMsg)
  deriving DecidableEq, Repr

/-- What the node does outside itself, or hands from one of its parts to another (DESIGN CHOICE, log entry 2). -/
inductive Out where
  /-- A posted PCIe write to host memory. -/
  | hostWrite (addr : R64) (data : Bytes)
  /-- A PCIe read of host memory that the node issues. -/
  | hostRead (addr : R64) (len : Nat)
  /-- A write of an MSI-X vector (R148). -/
  | msix (vec : BitVec 4)
  /-- Data of a PCIe read, Completer Abort, Unsupported Request (R616, R618). -/
  | pcieData (data : Bytes)
  | pcieAbort
  | pcieUnsupported
  /-- A memory-class message handed to the node's own switch by its end point, its home or an engine. -/
  | inject (m : TMsg)
  /-- A message that the switch hands to the node's own home, end point or engines (R548). -/
  | deliver (m : TMsg)
  /-- A numbered flit's content on a torus or attach port, and the flits themselves as they leave (R499, R522, R523). -/
  | flit (p : Nat) (num : R32) (it : TxItem) (fs : List Bytes)
  /-- An accept and defer answer: the map unit that carries it (R160, R169). -/
  | answer (p : Nat) (unit : BitVec 128)
  /-- A LINK flit, which is not numbered: its message and its bytes (R523). -/
  | link (p : Nat) (m : LinkMsg) (f : Bytes)
  /-- An FEC group as the levels on each lane of a port, a comma on each of them, a flit that the receiver has read from groups (R497-R503). -/
  | group (p : Nat) (lanes : List (List Int))
  | comma (p : Nat) (bits : List Bool)
  | rxFlit (p : Nat) (f : Bytes)
  /-- Link-layer flits delivered to the node (R527), their plaintext. -/
  | delivered (p : Nat) (flit : Bytes)
  /-- A scheduled flit delivered to a tile. -/
  | schedTile (tile : Nat) (f : SFlit)
  /-- A calibration run of a port's lanes, a start of training, an injected error on a lane. -/
  | calibrate (p : Nat) (run : List Bool)
  | train (p : Nat) (full : Bool)
  | invert (lane : Nat) (bits : Nat)
  /-- The pattern that a lane's generator now sends in TEST, with its own FEC or without (R514). -/
  | pattern (lane : Nat) (pat : BitVec 3) (fec : Bool)
  /-- A signature, abort or sparse-plan record of a collective on its stream (R405, R422). -/
  | sigRec (run : Nat) (r : SigRec)
  | abortRec (group : BitVec 10) (seq : R32) (status : Status) (origin : NodeId)
  /-- What an instance sends to other nodes: elements to a member, a row, a plan record, an assignment's route (R408, R453, R454, R457). -/
  | collData (run : Nat) (x : Xfer)
  | collPart (run : Nat) (x : PartX)
  | collCol (run : Nat) (x : ColX)
  | collRow (run : Nat) (node : NodeId) (x : RowX)
  | collCount (run : Nat) (node : NodeId) (x : CountX)
  | collPlan (run : Nat) (x : PlanX)
  | collRoute (run : Nat) (expert : BitVec 16) (a : Assign)
  /-- What a doppio leader reads in a step, to the follower's tile, under an agent, class RELAXED, with its number (R384, R681); the block hashes
  of a step, to the pair's other tile (R385). -/
  | doppioIn (src : AgentId) (peer : NodeId) (tile : BitVec 6) (seq : BitVec 16) (reads : List Bytes)
  | doppio (peer : NodeId) (tile : BitVec 6) (hashes : List R64)
  /-- A spill packet with its frame, a neighbour advertisement, an echo reply on an Ethernet port (R564, R569). -/
  | spill (e : Nat) (p : Spill) (frame : Bytes)
  | neighbourAdv (e : Nat) (target dst : BitVec 128) (mac : BitVec 48)
  | echoReply (e : Nat) (src dst : BitVec 128) (body : Bytes)
  /-- SMBus bytes, a JTAG data register, an I3C access, an AVSBus voltage, a DT_SYNC pulse. -/
  | smbus (data : Bytes)
  | jtag (data : Nat)
  | i3c (bus : Nat) (module : Nat) (wr : Bool) (page byte : BitVec 8) (data : Bytes)
  | avs (mv : BitVec 16)
  | avsStatus
  | dtSync
  /-- The pool devices start their error check and scrub (R275). -/
  | poolScrub
  /-- A watch registration sent to another node's object, its withdrawal, and the home's answer that it holds no watch (R153, R154). -/
  | watchReg (dpa : Dpa) (job : JobId) (thr : R64) (tag : BitVec 16)
  | watchDrop (home : NodeId) (tag : BitVec 16)
  | watchFull (node : NodeId) (tag : BitVec 16)
  /-- An envelope command on its way to the root: the node it was written at, DTT_ENV_TARGET, E, and the factor of a FORCE_K; and the
  root's result on its way back (R329, R339). -/
  | envelope (node : NodeId) (target : R32) (tick : R64) (force : Option (BitVec 6))
  | envResult (node : NodeId) (err : BitVec 4)
  deriving DecidableEq, Repr

/-- A node-posted event before its ring is known (R142). -/
structure Ev where
  code : BitVec 8
  status : Status
  cvalid : Bool
  ctx : BitVec 12
  job : JobId
  qvalid : Bool
  queue : BitVec 10
  info0 : R64
  info1 : R64
  deriving DecidableEq, Repr

/-! ### Power, reset, pins -/

/-- Why a powered node out of RST_N nevertheless stands still (R53, R607, R645, R649). -/
inductive Hold where
  | none | pll | alarm | holdUpEnd | thermal
  deriving DecidableEq, Repr

/-- The eight JTAG instructions (R663). -/
inductive Jtag where
  | bypass | idcode | samplePreload | extest | extestPulse | extestTrain | clamp | highz
  deriving DecidableEq, Repr

/-- Power, reset and pins. -/
structure Pwr where
  powered : Bool
  rstN : Bool
  hold : Hold
  /-- A hold-up runs, and the last of its stages that has fallen due (R649). -/
  holdUp : Bool
  stage : Option HoldStage
  /-- Domain time at the fall of PWRFAIL_N (R650). -/
  failAt : R64
  perstN : Bool
  straps : Straps
  /-- Open-drain outputs: true while released. -/
  alarmN : Bool
  thermtripN : Bool
  smbAlertN : Bool
  pcieUp : Bool
  refclk : Bool
  jtag : Jtag
  /-- Outputs driven; false while high-impedance (R658). -/
  driven : Bool
  deriving DecidableEq, Repr

/-! ### Translation -/

/-- A validation running: its slot and the shadow words the commit captured (R95). -/
structure Valid where
  slot : BitVec 10
  id : R32
  tbl : R32
  cls : R32
  deriving DecidableEq, Repr

structure Xlt where
  /-- Validations running, and slots with a commit held behind one (R95). -/
  vals : List Valid
  heldCommits : List (BitVec 10)
  /-- Context and page pairs reported (R83, R84). -/
  pairs : List (BitVec 12 × Nat)
  /-- Requests (by table entry) and descriptors that a running CLEAR waits for (R81). -/
  clearing : Option (List Nat × List (BitVec 10 × BitVec 16))
  /-- Commits that have taken effect in each slot: EPOCH counts them modulo 256 (R96). -/
  commits : SMap Nat
  /-- Drains running: slot and the commits they cover (R100). -/
  drains : List (BitVec 10 × Nat)
  deriving DecidableEq, Repr

/-! ### End point -/

/-- Where an accepted request stands; `leaving` once complete, its completion not yet gone from the port (R171). -/
inductive EntSt where
  | waiting | paced | sent | fencing | leaving
  deriving DecidableEq, Repr

/-- A request table entry (R171): acceptance number, port, header words, data, whether its data units were short, and, once it has been
translated, its slot, the commits of the slot by then and its torus form; whether it is one of the shared entries, and for which isolation class (R561). -/
structure Ent where
  id : Nat
  port : Nat
  w0 : R64
  va : Va
  data : Bytes
  bad : Bool
  st : EntSt
  /-- The context that its handle named when it was accepted, of the requests that have one (R64, R101). -/
  ctx : Option (BitVec 12)
  slot : BitVec 10
  epoch : Nat
  req : Option Req
  shared : Bool
  iso : BitVec 3
  deriving DecidableEq, Repr

/-- An entry that has freed and is held for a RESEND header of a class (R175). -/
structure Hold175 where
  port : Nat
  cls : BitVec 2
  shared : Bool
  iso : BitVec 3
  deriving DecidableEq, Repr

/-- A failed NC request that no fence has covered yet (R186). -/
structure NcFail where
  port : Nat
  cls : BitVec 2
  id : Nat
  status : Status
  va : Va
  deriving DecidableEq, Repr

/-- An open defer chain (R173). -/
structure Chain where
  port : Nat
  cls : BitVec 2
  d : Nat
  deriving DecidableEq, Repr

/-- A pacing window (R221): window and outstanding bytes of an agent at a home. -/
structure Pace where
  w : Nat
  out : Nat
  lastCut : Option R64
  lastCe : R64
  deriving DecidableEq, Repr

/-- What an operation that the node issued itself is for. -/
inductive OwnKind where
  /-- The sync-object add of a SYNC_SIGNAL (R123), an armed add (R155), a read served by the mirror partner (R266). -/
  | signal (q : BitVec 10) (idx : BitVec 16)
  /-- The SIG_EN add of a descriptor, of a spill record (R136, R567). -/
  | sigEn (q : BitVec 10) (idx : BitVec 16)
  | spillSig (ch : BitVec 8) (idx : BitVec 16)
  | armed (e : BitVec 8) (dpa : Dpa)
  /-- A granule of a LOAD that this home could not serve; a write has since reached the granule. -/
  | mirrorRead (r : Req) (g : Nat) (stale : Bool)
  /-- A line of a mirror repair on its way to the partner (R489), a granule that scrub or a rotation found bad read from the partner, with
  the cause of its loss (R270, R275); a write has since reached it. -/
  | copy
  | granuleRead (g cause : Nat) (stale : Bool)
  deriving DecidableEq, Repr

/-- An operation of the node's own that is outstanding (R681). -/
structure Own where
  agent : AgentId
  home : NodeId
  cls : BitVec 2
  seq : BitVec 16
  kind : OwnKind
  /-- The request as sent (R184). -/
  req : Req
  deriving DecidableEq, Repr

/-- A message partly received: its port and channel, its header unit(s) and data so far, data units still to come. -/
structure Part where
  port : Nat
  vc : BitVec 2
  hdr : BitVec 128
  data : Bytes
  need : Nat
  /-- The header was accepted; the units of a deferred one are discarded (R172). -/
  keep : Option Nat
  deriving DecidableEq, Repr

/-- The token buckets of a colour marker (R558, RFC 2698). -/
structure Tcm where
  tc : Nat
  tp : Nat
  at_ : R64
  deriving DecidableEq, Repr

structure Ep where
  nextId : Nat
  ents : List Ent
  ncFails : List NcFail
  chains : List Chain
  reserved : List Hold175
  parts : List Part
  /-- Flit answers due (R169). -/
  answers : List (Nat × BitVec 8 × BitVec 14)
  /-- Next sequence number of each series, and the number of its last write: keyed agent, home, class (R180, R264). -/
  seqs : SMap (BitVec 16)
  lastWr : SMap (Option (BitVec 16))
  /-- Pacing windows keyed agent local, home (R221). -/
  pace : SMap Pace
  tcm : SMap Tcm
  tcmEth : SMap Tcm
  own : List Own
  /-- Split setting in force (R38), alternation of distance-2 axes: bit 64 * axis + node (R547). -/
  split : BitVec 4
  flips : BitVec 192
  /-- Snoops the end point holds while an attach link is down (R257), and snoops forwarded: SID to home. -/
  snoopHeld : List Snp
  snoopOut : List Snp
  deriving DecidableEq, Repr

/-! ### Home -/

/-- A directory entry (R249). -/
structure DirE where
  st : BitVec 2
  busy : Bool
  kgen : Bool
  owner : AgentId
  sharers : List AgentId
  nodes : BitVec 64
  deriving DecidableEq, Repr

/-- A completion kept for a request until it is acknowledged (R183): the series names the home that the request's DPA gives. -/
structure Kept where
  agent : AgentId
  home : NodeId
  cls : BitVec 2
  seq : BitVec 16
  tamp : BitVec 20
  tamped : Bool
  cpl : Cpl
  deriving DecidableEq, Repr

/-- A coherence transaction (R255): the lines it holds BUSY (pool offset / 64), its extent, the request that caused it, the
snoops it still waits for with the line of each. Where no request causes it, a revoke's recall or a reclaim does (R245, R246). The tick
at which its snoops were sent bounds a reclaim's wait. -/
structure Txn where
  lines : List Nat
  ext : BitVec 14
  req : Option (Req × MemCond)
  sids : List (BitVec 16 × AgentId × Nat)
  drop : Bool
  sentAt : R64
  deriving DecidableEq, Repr

/-- Background operations of an extent (R239, R489): a reclaim with whether its step 2 has begun (R245). -/
inductive BgKind where
  | revoke (gen : Bool) (ended : Nat)
  | reclaim (dropping : Bool)
  | rotate
  | repair (cursor : Nat)
  deriving DecidableEq, Repr

structure Bg where
  ext : BitVec 14
  kind : BgKind
  deriving DecidableEq, Repr

/-- A watch (R153). -/
structure Watch where
  obj : BitVec 14
  thr : R64
  node : NodeId
  tag : BitVec 16
  job : JobId
  deriving DecidableEq, Repr

structure Home where
  /-- Resequencer: next expected number of each ORDERED and ATOMIC series, keyed agent, class; requests held (R181). -/
  next : SMap (BitVec 16)
  held : List (Req × MemCond)
  kept : List Kept
  /-- Requests acknowledged, which later copies of them are dropped for (R183): numbers by series, and by tamping identity the agent and the
  number of the operation (R214). -/
  acked : SMap (List (BitVec 16))
  ackedTamps : SMap (Option (AgentId × BitVec 16))
  /-- WRITEBACKs that have supplied the data of a line before their turn came (R256). -/
  supplied : List Req
  txns : List Txn
  /-- Requests that wait on a BUSY line, in arrival order (R255). -/
  waits : List (Req × MemCond)
  nextSid : BitVec 16
  /-- Extent command being applied, and timed ones waiting: tick and command word (R237). -/
  cmd : Option R32
  timed : List (R64 × R32)
  bg : List Bg
  /-- Rotations and repairs served in the present round of turns, by extent and whether they rotate; HOME slots counted (R274), scrub
  position in lines. -/
  served : List (BitVec 14 × Bool)
  slots : Nat
  scrubLine : Nat
  /-- The tick at which the scrub pass began, and the PERIOD that it read (R275, HOM_SCRUB). -/
  scrubAt : R64
  scrubHours : BitVec 8
  /-- Writes done here that wait for the partner's MACK, the completion to send, and the copy (R184, R189, R265). -/
  awaitMack : List (Req × Cpl × Req)
  /-- MACKs that arrived before the write itself. -/
  earlyMack : List Cpl
  /-- Reads of granules from a partner that have failed, by the LOAD that they are for (R266, R270). -/
  mirrorBad : List Req
  /-- The last write of each series whose copy this home sent itself (R264). -/
  lastCopy : SMap (Option (BitVec 16))
  /-- Mirror copies executed here, keyed source agent, class: last number executed; copies held (R264). -/
  copyDone : SMap (Option (BitVec 16))
  copyHeld : List Req
  /-- Extents that took over from an expelled primary, and that primary (R267). -/
  adopted : List (BitVec 14 × NodeId)
  watches : List Watch
  /-- Corrected errors per device in the running hour and whether CE_ALERT was posted, and the hour (R273). -/
  ceHour : SMap (Nat × Bool)
  hour : Nat
  deriving DecidableEq, Repr

/-! ### Work queues, events, sync objects -/

/-- Where a fetched descriptor stands (R127): `held` with absent pages and no room in the fault queue (R132), `armWait` for an arm entry
(R155), `finished` with its work over, `signalling` with word 2 written and its SIG_EN add under way (R136). -/
inductive DSt where
  | translated | held | parked | running | armWait | finished | signalling | done
  deriving DecidableEq, Repr

/-- A descriptor that the node has fetched and not returned (R127). -/
structure Desc where
  idx : BitVec 16
  words : List R64
  st : DSt
  prog : Nat
  /-- The commits of its slot when it was translated, and the table, by its first entry and its length, and the job that the translation
  was made in (R99, R100). -/
  epoch : Nat
  tbl : Nat × Nat
  job : JobId
  status : Status
  faultWord : BitVec 4
  late : Bool
  sat : Bool
  drop : Bool
  timeout : Bool
  pauseVa : Option Va
  /-- The absent page that the last translation-fault event named. -/
  faultVa : Va
  /-- It has started, in this fetch or before a pause (R117, R128). -/
  begun : Bool
  started : R64
  /-- The logical tile whose issue slot it started in (R131, R380). -/
  tile : Nat
  watching : Bool
  /-- The home holds no watch, so the wait reads the object again (R153). -/
  polling : Bool
  /-- Fetch order over all queues, and what a FENCE covers (R682). -/
  order : Nat
  covers : List (BitVec 10 × Nat)
  /-- Work 15 of a double descriptor: its SIG (R125). -/
  sig : R64
  deriving DecidableEq, Repr

/-- A work queue beside its registers. -/
structure QRec where
  fetch : BitVec 16
  descs : List Desc
  jobStop : Bool
  fetching : Bool
  /-- The slot in which RUN last took effect as 0, as 1 (R416, R417). -/
  stopSlot : R64
  runSlot : R64
  /-- A PCIe reset has stopped the queue: words for its host ring are discarded until it runs again (R620). -/
  dead : Bool
  /-- Paused descriptors, by ring index and fetch order: a FENCE that covers one goes on waiting for it (R682). -/
  kept : List (BitVec 16 × Nat)
  deriving DecidableEq, Repr

/-- An event ring beside its registers (R147, R148): events held with their times, events dropped since the last EVENTS_LOST,
the tick at which a running hold-off ends, a call was made during it. -/
structure Ring where
  held : List (Ev × R64 × Bool)
  dropped : Nat
  holdoff : Option R64
  call : Bool
  deriving DecidableEq, Repr

structure Qmg where
  qs : SMap QRec
  nextOrder : Nat
  rings : SMap Ring
  /-- MSI-X pending bits are in the MSI-X store; descriptors that wait for an arm entry, in order (R155). -/
  armWait : List (BitVec 10 × BitVec 16)
  /-- The unscheduled queue whose turn it is and the issue slots left in the turn (R131). -/
  turn : BitVec 10 × Nat
  deriving DecidableEq, Repr

structure Syn where
  objs : SMap R64
  /-- The agent a descriptor's arm entry records (R681). -/
  armAgent : SMap AgentId
  deriving DecidableEq, Repr

/-! ### Faults -/

/-- A stopped-job entry (R484, R485): its index, the last message applied for the job. -/
structure StopE where
  i : Nat
  job : JobId
  resumed : Bool
  here : Bool
  origin : NodeId
  time : R64
  /-- Domain time at which the entry was resumed here. -/
  at_ : R64
  deriving DecidableEq, Repr

/-- Pieces of an order that ORDER_FRAG messages bring (R474, R533). -/
structure Frag where
  seq : R32
  total : Nat
  pieces : List (Nat × Bytes)
  deriving DecidableEq, Repr

structure Flt where
  /-- Incarnations known of other nodes (R481). -/
  incs : SMap (Option (BitVec 16))
  stops : List StopE
  /-- A stop found no entry: every user job is stopped (R484). -/
  stopAll : Bool
  /-- The place in the order of R485 of the last message applied for a job. -/
  stopMsgs : SMap (Option Nat)
  /-- Sediment: series positions, records captured (count), records drained, replay records read in, requests held with their position
  and the tick at which they came (R491-R494). -/
  sedPos : SMap Nat
  sedWr : Nat
  sedRd : Nat
  sedIn : List Bytes
  sedHeld : List (Req × MemCond × Nat × R64)
  sedDiverged : Bool
  /-- A sediment command that waits for its tick (R493): OP and FLT_SED_TICK as it was written. -/
  sedCmd : Option (BitVec 4 × R64)
  /-- Orders (R474-R478, R490): fragments by SEQ, order headers forwarded, orders under verification in arrival order with whether they
  were submitted here, held for SEQ order, applied but for their effect, ADMIT orders that wait for EFFECTIVE, the last 64 applied. -/
  frags : List Frag
  seen : List Bytes
  verifying : List (Bytes × Bool)
  held : List Bytes
  todo : List Bytes
  admits : List Bytes
  applied : List Bytes
  /-- The ORDER_SEQ at which a gap was last posted (R477). -/
  gapAt : Option R32
  deriving DecidableEq, Repr

/-! ### Domain time and timetables -/

/-- What a torus port last heard in a time message, and the messages it sent that an echo may name (R283). -/
structure PortTime where
  heard : Bool
  tick : R64
  rxSeq : BitVec 8
  rxStamp : Stamp
  state : BitVec 3
  root : NodeId
  rootSeq : BitVec 16
  hops : BitVec 3
  child : Bool
  fixed : Bool
  thermK : BitVec 6
  /-- ORDER_SEQ of the last heartbeat (R464). -/
  orderSeq : R32
  txSeq : BitVec 8
  sent : List (BitVec 8 × Stamp)
  deriving DecidableEq, Repr

/-- A power plan: what ENV carries (R330), what the root knows of it, the steps that have taken effect, the tick at which this node got
it (R333). -/
structure Plan where
  seq : BitVec 8
  kFrom : BitVec 6
  kTo : BitVec 6
  e : R64
  ramp : BitVec 16
  thermal : Bool
  floor : Bool
  done : Nat
  rcvd : R64
  deriving DecidableEq, Repr

/-- A firing that is due (R294, R297): its number, its instant in phase units, the load it carries, whether it came late. -/
structure Firing where
  seq : BitVec 8
  units : Nat
  load : Option R64
  late : Bool
  deriving DecidableEq, Repr

/-- A staged copy of a scheduled flit: its stream, the input it came from, a mark that its copies share. -/
structure Staged where
  stream : BitVec 12
  src : Option Nat
  mark : Nat
  data : Bytes
  /-- The first slot in which it can be sent (R310). -/
  ready : R64
  deriving DecidableEq, Repr

structure Dtt where
  ports : SMap PortTime
  /-- The last 16 offsets from the parent, the newest first (R283). -/
  offsets : List Int
  /-- When listening for a root began (R286); each root's last new sequence and its tick. -/
  listen : R64
  roots : SMap (BitVec 16 × R64)
  /-- The instant of the last message of the parent (R289). -/
  parentAt : R64
  /-- The armed barrier: its number, membership (R292); the root's counts by number; arrivals waiting for a parent. -/
  bar : Option (BitVec 8 × Bool)
  arrivals : SMap Nat
  arrHold : List (BitVec 8 × BitVec 7)
  firing : Option Firing
  /-- The latest plan, and the earlier ones, oldest first, whose steps still apply up to a later plan's E (R330-R333); the root's envelope
  and thermal factors, when it last lowered k_therm. -/
  plan : Plan
  olds : List Plan
  kEnv : BitVec 6
  kTherm : BitVec 6
  thermAt : R64
  /-- This node's own thermal request (R646). -/
  thermReq : BitVec 6
  /-- The node has once adopted a parent's factor, grid and plan (R288). -/
  adopted : Bool
  /-- Timetables: the set being checked, whether for an ARM, and the swap tick as ARM found it; the armed set, its tick, the end of its
  check (R318, R319). -/
  checking : Option (Nat × Bool × R64)
  armed : Option (Nat × R64 × R64)
  /-- The slot in which the active set became active (R303). -/
  sSwap : R64
  /-- The background work of this slot has been done. -/
  bgDone : Bool
  /-- Staged flits by output port (R310), the next mark; late flits by stream: slot of the last event, count since (R312). -/
  staged : SMap (List Staged)
  nextMark : Nat
  late : SMap (Option R64 × Nat)
  /-- Scheduled flits of streams that the active set does not know at their input: kept until a set does (R312). -/
  orphans : List (Nat × SFlit)
  deriving DecidableEq, Repr

/-! ### Lanes and links -/

/-- Credits of pairs of VC and isolation class, keyed 8 * VC + class (R562): flits sent, and freed by the peer's reports; flits freed here and
the pairs still to report; the message in progress on each VC received, by the units still to come and its class. -/
structure IsoLink where
  sent : SMap Nat
  freed : SMap (BitVec 12)
  rx : SMap (BitVec 12)
  due : List Nat
  msg : SMap (Nat × BitVec 3)
  deriving DecidableEq, Repr

/-- The physical layer of a port in service (R499-R503): flits that wait for the lanes, bits scrambled and not yet in a group, the
transmitter's scrambler and bits of each lane since its last comma; the receiver's scrambler, the bits of a block begun, the bytes of
a flit begun, the bits of each lane since its last comma. -/
structure Phy where
  wire : List Bytes
  bits : List Bool
  scr : BitVec 58
  lane : Nat
  rxScr : BitVec 58
  rxBits : List Bool
  rxFlit : Bytes
  rxLane : Nat
  deriving DecidableEq, Repr

/-- The link layer of a port beside its registers. -/
structure LPort where
  /-- Training: full or short; trainings failed in a row, short and full (R505, R507). -/
  full : Bool
  shortFails : Nat
  fullFails : Nat
  /-- The tick at which the training phase, or FAILED, began (R505, R507). -/
  since : R64
  /-- Numbered flits sent and kept for replay in plaintext, with their numbers; items waiting for a credit, for room or for a slot
  that is open to them (R301, R499, R526, R530). -/
  txNum : R32
  kept : List (R32 × TxItem × List Bytes)
  queue : List TxItem
  /-- FNUM of the next flit (R160). -/
  fnum : BitVec 8
  /-- VCs whose FREED has changed since it was last reported (R532); LINK messages that wait for the end of a LANE_CAL slot (R315). -/
  due : List Nat
  linkq : List LinkMsg
  /-- The slot of the last numbered flit and the flits sent in it (R301); the ticks at which CTRL flits were sent (R530). -/
  slotAt : R64
  slotUsed : Nat
  ctrlAt : List R64
  /-- The peer's grants, flits sent and freed by VC; flits received here and freed (R531, R532). -/
  grants : List (BitVec 12)
  sent : SMap Nat
  freed : SMap (BitVec 12)
  rxFreed : SMap (BitVec 12)
  /-- Numbered flits received in order; a NAK stands for this number, how often it was sent, and when last (R525-R529, R511). -/
  rxNum : R32
  nak : Option R32
  naks : Nat
  nakAt : R64
  /-- Flits of the frame not yet verified (R538); frame counter of the receiver and the generation it last saw. -/
  frame : List Bytes
  frameF : R64
  frameGen : Bool
  firstFrame : Bool
  /-- Last instant of a good CRC (R511). -/
  goodAt : R64
  /-- Port lanes failed; commas missed in a row and corrected symbols in this millisecond, by port lane (R504, R510). -/
  failed : List Nat
  missed : SMap Nat
  corr : SMap Nat
  ms : Nat
  /-- The peer's PORT_ID, while NODE_LOCK is awaited (R34). -/
  peer : Option PortId
  /-- Receive index n of the link's key (R598). -/
  rxIndex : R32
  /-- Frame counter of the transmitter, numbered flits of its open frame (R536, R537). -/
  txF : R64
  txIn : Nat
  /-- Key and SALT of the transmitter; the open frame's clear and plaintext bytes so far (R537, R597). -/
  txKey : Bytes
  txAad : Bytes
  txPt : Bytes
  iso : IsoLink
  phy : Phy
  deriving DecidableEq, Repr

structure Lan where
  ports : SMap LPort
  /-- The CMIS access in progress: the command as written (R521). -/
  cmis : Option R32
  deriving DecidableEq, Repr

/-! ### Switch core -/

/-- A memory-class message in an output queue: its virtual channel and the input it came from (R555). -/
structure QMsg where
  vc : Nat
  inp : Option Nat
  msg : TMsg
  deriving DecidableEq, Repr

/-- A contributor of a tamped operation (R211, R213): the request without its data, and its own SAT. -/
structure Contrib where
  req : Req
  sat : Bool
  deriving DecidableEq, Repr

/-- A tamping record: its index and generation, its contributors, the operation as sent, and whether it was sent again (R211, R214). -/
structure TampRec where
  index : Nat
  gen : BitVec 2
  iso : BitVec 3
  contribs : List Contrib
  op : Req
  resent : Bool
  deriving DecidableEq, Repr

structure Swc where
  outq : SMap (List QMsg)
  /-- Escape hold, and messages that wait at their inputs because it is full (R550, R551). -/
  hold : List (Option Nat × TMsg)
  stopped : List (Option Nat × TMsg)
  lfsr : SMap (BitVec 16)
  tamps : List TampRec
  gens : SMap (BitVec 2)
  /-- Turn of the weighted round robin, and the input served last, by output port (R556). -/
  turn : SMap Nat
  last : SMap Nat
  deriving DecidableEq, Repr

/-! ### Engines (R374-R386) -/

structure Eng where
  /-- Disabled physical tiles (R374); bindings stand in ENG_T_STAT. -/
  dis : BitVec 56
  /-- Logical tiles whose physical tile has failed and that wait for a spare, with the slot of the failure (R379); the slot in which ENABLE last
  made a spare (R381); tiles that passed TEST since RST_N (R380). -/
  failed : List (Nat × Nat × R64)
  spareAt : Option R64
  passed : List Nat
  /-- The TEST in progress. -/
  test : Option (BitVec 6)
  /-- Block hashes of steps that a doppio entry has not compared (R385), by entry. -/
  hashes : SMap (List (List R64))
  deriving DecidableEq, Repr

/-! ### Collectives (R389-R429, R443-R459) -/

/-- A decision of a local expert (R450, R451): its assignments placed at rows 0, 1, ..., those spilled with their rows of OVERFLOW,
those dropped. -/
structure Decision where
  expert : Nat
  placed : List Assign
  excess : List Assign
  deriving DecidableEq, Repr

/-- A route of a token at a member: its gate, its expert, and whether it is an assignment (R449). -/
structure MRoute where
  t : Nat
  k : Nat
  gate : R32
  expert : Nat
  used : Bool
  deriving DecidableEq, Repr

/-- An instance (R400): its slot of GRP_INST, group, SEQ, the local members that joined with their descriptors (member index,
queue, ring index), the slot at which it formed, the node's own record, those received, the verdict, the reference slot, rounds. -/
structure Run where
  inst : Nat
  group : BitVec 10
  seq : R32
  mems : List (Nat × BitVec 10 × BitVec 16)
  formed : R64
  own : Option SigRec
  recs : List SigRec
  verdict : Option Bool
  start : R64
  total : Nat
  done : Nat
  inRound : Bool
  /-- The instance is paused (R416), and the tick of the commit that paused it. -/
  paused : Bool
  heldPosted : Bool
  decisions : List Decision
  /-- The routes of the members of this node, once they have been read and their records sent (R449, R454). -/
  routes : Option (List (Nat × List MRoute))
  /-- SPARSE_TRUNC has been posted (R463). -/
  trunc : Bool
  /-- Logical tiles whose working store the instance reserves, once for each strand and direction, and the bytes of one (R415). -/
  tiles : List Nat
  space : Nat
  /-- An ALLTOALLV SEND lies above COUNT (R403). -/
  excess : Bool
  /-- The instance's data and counts have gone out, in a stage that an absent page then stopped (R91). -/
  sentOut : Bool
  /-- Bytes of tile slices, by address and length, in which steps of the instance have left their state (R341, R415). -/
  kept : List (Nat × Nat)
  /-- The tick at which it came to its present round boundary (R420). -/
  since : R64
  deriving DecidableEq, Repr

structure Grp where
  runs : List Run
  /-- Group command in progress, expert-map command in progress: the command words (R393, R445). -/
  cmd : Option R32
  emap : Option R32
  deriving DecidableEq, Repr

/-! ### Clay, firmware, power (R622-R649) -/

/-- The clay bank (R633-R638): both copies, wear, writes pending with the tries they have had, whether each die's bank is readable. -/
structure Clay where
  k0 : SMap R32
  k1 : SMap R32
  wear : SMap (BitVec 24)
  pend : List (BitVec 10 × R32 × Bool)
  bank0 : Bool
  bank1 : Bool
  deriving DecidableEq, Repr

/-- A firmware image that a die runs: IMG_VER, SVN, its measurement (R625, R626). -/
structure Image where
  ver : R32
  svn : BitVec 16
  meas : Bytes
  deriving DecidableEq, Repr

structure Fwm where
  run : Option Image
  stby : Option Image
  /-- The image of the command in progress, as staged: its length (FWM_IMG_LEN at BOOT or UPDATE). -/
  len : Nat
  /-- A timed SWITCH waits for FWM_HO_TICK (R629); firmware-served commands that SWITCHING waits for (R630): 0 SEC_CMD, 1 verification of
  an order, 2 ENG_SPARE_CMD, 3 LAN_CMIS_CMD, 4 FWM_MB_CMD. -/
  timed : Bool
  busy : List Nat
  /-- The standby die has failed or is held in reset until RST_N (R623, R628). -/
  lost : Bool
  /-- The role die has failed with STANDBY_VALID 0: no firmware-served command ends any more (R623). -/
  dead : Bool
  /-- Domain time at which HSTATE became SYNCING or SWITCHING (R629). -/
  hoAt : R64
  /-- Timed commits (R640): tick, type, index. -/
  tcs : List (R64 × BitVec 4 × BitVec 10)
  /-- A mailbox operation that waits for the die that takes the role (R630): SENSORS, or VERSION. -/
  mbWait : Option Bool
  /-- The pool device under test (R651). -/
  poolTest : Option (BitVec 5)
  /-- Tmax has fallen 2 degrees below WARN since the last warning (R645). -/
  warnArmed : Bool
  deriving DecidableEq, Repr

/-! ### Security -/

/-- States of a session slot (R584). -/
inductive SessSt where
  | free | reported | opened
  deriving DecidableEq, Repr

/-- A session slot (R584-R587): the free draw of its ephemeral keys, the salt of its report, SK, the highest COUNTER accepted, the tick of
its report. -/
structure Sess where
  st : SessSt
  draw : Nat
  salt : Bytes
  sk : Bytes
  counter : Option R64
  at_ : R64
  deriving DecidableEq, Repr

/-- What a LOAD or an OPEN in progress replaced, for the alarm that overtakes it (R609): a memory key, a session, a port's seeds. -/
inductive SecUndo where
  | none
  | key (ix : Nat) (old : Option (BitVec 512))
  | sess (i : Nat) (old : Sess)
  | seed (p : Nat) (old new : Option Bytes)
  deriving DecidableEq, Repr

/-- A security command in progress (R609, R613): its OP, its result, what it replaced. -/
structure SecCmd where
  op : BitVec 4
  err : BitVec 4
  undo : SecUndo
  deriving DecidableEq, Repr

structure Sec where
  /-- Memory keys by 2 * slot + generation: none when erased (R588); those that an alarm erased (R593). -/
  keys : SMap (Option (BitVec 512))
  alarmErased : List Nat
  sess : SMap Sess
  /-- Link seeds by port: in use, and loaded for the next training (R595). -/
  seeds : SMap (Option Bytes)
  newSeeds : SMap (Option Bytes)
  cmd : Option SecCmd
  /-- A level-3 alarm runs towards its reset (R607). -/
  level3 : Bool
  deriving DecidableEq, Repr

/-! ### Spill transport -/

/-- A record runs, waits for its sync add with word 2 written, is done (R136). -/
inductive RecSt where
  | running | signalling | done
  deriving DecidableEq, Repr

/-- A spill record that has started (R566, R567): ring index, its words, message number, bytes acknowledged or received, packets outstanding
or still to send, the status that ends it, and whether it has ended. -/
structure SRec where
  idx : BitVec 16
  words : List R64
  msg : R32
  bytes : Nat
  left : Nat
  status : Status
  /-- The operand word whose failure set the status. -/
  word : Nat
  st : RecSt
  deriving DecidableEq, Repr

/-- A packet sent and not acknowledged (R571): its retransmissions, when it was last sent, whether a NAK lets the next timeout go
uncounted, whether an ACK has had it sent again since its last timeout. -/
structure TxPkt where
  pkt : Spill
  tries : Nat
  sentAt : R64
  uncounted : Bool
  fast : Bool
  deriving DecidableEq, Repr

/-- A message that arrives (R568): bytes written, the offsets where it begins and ends once those packets came, the receive record of a
SEND. -/
structure RMsg where
  msg : R32
  got : Nat
  lo : Option Nat
  hi : Option Nat
  rq : BitVec 16
  va : R64
  len : Nat
  deriving DecidableEq, Repr

/-- A spill channel beside its registers (R565-R572). -/
structure Chan where
  sqTail : BitVec 16
  rqTail : BitVec 16
  /-- Next send record to start. -/
  sqNext : BitVec 16
  /-- Next receive record to take. -/
  rqNext : BitVec 16
  recs : List SRec
  txq : List Spill
  unacked : List TxPkt
  nextPsn : R32
  nextMsg : R32
  /-- ACK_PSN, later PSNs received, packets since the last ACK, a CE mark since then. -/
  ackPsn : R32
  got : List R32
  since : Nat
  ce : Bool
  msgs : List RMsg
  /-- The window, the tick of its last cut, the tick from which 64 µs without ECE count (R572). -/
  win : Nat
  lastCut : Option R64
  lastEce : R64
  deriving DecidableEq, Repr

/-- The egress queue of an Ethernet port (R573): its bytes, and its average depth in units of 2^-20 KiB. -/
structure EthPort where
  q : Nat
  avg : Nat
  deriving DecidableEq, Repr

structure Eth where
  chans : SMap Chan
  ports : SMap EthPort
  deriving DecidableEq, Repr

/-! ### Memories -/

structure Mems where
  /-- Pool plaintext and the key each 64 B granule stands under (R589); 0 for none. -/
  pool : Mem
  poolKey : SMap Nat
  /-- Engine SRAM by engine-window offset (R344). -/
  sram : Mem
  /-- Range tables (R68), presence words of half 0 and then half 1 (R69, R73), extent table (R230). -/
  rt : Mem
  pres : SMap R64
  ext : Mem
  dir : SMap DirE
  /-- Timetable sets (R302), group table (R389), expert headers and entries (R443, R444). -/
  tt : Mem
  grp : Mem
  ehdr : Mem
  eent : Mem
  /-- Lost-line log (R262), sediment region (R492). -/
  llog : Mem
  sed : Mem
  /-- Windows of the security block, the order window, the mailbox, the image store (R581, R586, R474, R651, R627). -/
  rptwin : Mem
  cmdwin : Mem
  ordwin : Mem
  mbwin : Mem
  img : Mem
  /-- MSI-X table and pending bits (R617). -/
  msix : Mem
  pba : BitVec 64
  deriving DecidableEq, Repr

/-! ### The whole -/

/-- What differs from part to part (R1, GLB_IDENT). -/
structure PartId where
  gradeB : Bool
  stepping : BitVec 4
  deriving DecidableEq, Repr

/-- Domain time (R279, R299): ticks, phase, slots. -/
structure Clock where
  now : R64
  phase : BitVec 7
  slot : R64
  /-- The grid: the tick and the slot number of the anchor. -/
  gridTick : R64
  gridSlot : R64
  deriving DecidableEq, Repr

/-- The machine. -/
structure State where
  part : PartId
  pwr : Pwr
  /-- BAR0 registers that differ from their reset value: current value, or shadow for RWC (R22). -/
  regs : SMap R32
  /-- Effective values of RWC registers (R25). -/
  eff : SMap R32
  /-- Writes that wait for their block to be idle, by offset (R22, R140). -/
  later : SMap (Option R32)
  /-- Upper halves latched by 32-bit reads (R616): by offset of the upper half. -/
  lat : SMap R32
  clk : Clock
  xlt : Xlt
  ep : Ep
  home : Home
  qmg : Qmg
  syn : Syn
  flt : Flt
  dtt : Dtt
  lan : Lan
  swc : Swc
  eng : Eng
  grp : Grp
  clay : Clay
  fwm : Fwm
  sec : Sec
  eth : Eth
  mems : Mems
  out : List Out
  /-- Free values drawn: the model's own (DESIGN CHOICE, log entry 3). -/
  free : Nat
  pending : List Instr
  deriving DecidableEq, Repr

/-! ### Reset -/

/-- The registers that the disabled-unit map and the PUFs set when RST_N rises on a part as manufactured (R375, R577, DESIGN CHOICE, log entry 6):
GLB_TILES, the physical tile of each logical one, SEC_STAT.ID_OK. -/
def resetRegs : SMap R32 :=
  (4, 0x00440000) :: ((List.range 47).map (fun i =>
    (0x281004 + 0x1000 * i, BitVec.ofNat 32 (256 * (if i < 23 then i + 1 else i + 5))))) ++ [(0x500000, 0x80000000)]

/-- The MSI-X table after reset: every vector masked, as the PCIe specification has it (PRESUMED, log entry 19). -/
def msixReset : Mem := (List.range 16).map (fun r => (16 * r + 12, 1))

/-- Just after RST_N has risen on a part as manufactured, before PLL_LOCK and before any write: the values that the spec gives, and
those of log entries 4 to 7 and 13 (DESIGN CHOICE; 5: PRESUMED). -/
def State.reset : State where
  part := ⟨false, 0⟩
  pwr :=
    { powered := true, rstN := true, hold := .none, holdUp := false, stage := none, failAt := 0, perstN := true,
      straps := ⟨0, 0, true, true, true, true, true⟩, alarmN := true, thermtripN := true, smbAlertN := true, pcieUp := true,
      refclk := true, jtag := .idcode, driven := true }
  regs := resetRegs
  eff := []
  later := []
  lat := []
  clk := ⟨0, 0, 0, 0, 0⟩
  xlt := ⟨[], [], [], none, [], []⟩
  ep :=
    { nextId := 0, ents := [], ncFails := [], chains := [], reserved := [], parts := [], answers := [], seqs := [],
      lastWr := [], pace := [], tcm := [], tcmEth := [], own := [], split := 0, flips := 0, snoopHeld := [], snoopOut := [] }
  home :=
    { next := [], held := [], kept := [], acked := [], ackedTamps := [], supplied := [], txns := [], waits := [], nextSid := 0, cmd := none,
      timed := [], bg := [], served := [], slots := 0, scrubLine := 0, scrubAt := 0, scrubHours := 0x18, awaitMack := [], earlyMack := [],
      mirrorBad := [], lastCopy := [], copyDone := [], copyHeld := [], adopted := [], watches := [],
      ceHour := [], hour := 0 }
  qmg := ⟨[], 0, [], [], (0, 0)⟩
  syn := ⟨[], []⟩
  flt :=
    { incs := [], stops := [], stopAll := false, stopMsgs := [], sedPos := [], sedWr := 0, sedRd := 0, sedIn := [], sedHeld := [],
      sedDiverged := false, sedCmd := none, frags := [], seen := [], verifying := [], held := [], todo := [], admits := [],
      applied := [], gapAt := none }
  dtt :=
    { ports := [], offsets := [], listen := 0, roots := [], parentAt := 0, bar := none, arrivals := [], arrHold := [],
      firing := none, plan := ⟨0, 16, 16, 0, 0, false, false, 0, 0⟩, olds := [], kEnv := 16, kTherm := 16, thermAt := 0,
      thermReq := 16, adopted := false, checking := none, armed := none, sSwap := 0, bgDone := false, staged := [], nextMark := 0, late := [], orphans := [] }
  lan := ⟨[], none⟩
  swc := ⟨[], [], [], [], [], [], [], []⟩
  eng := ⟨0, [], none, [], none, []⟩
  grp := ⟨[], none, none⟩
  clay := ⟨[], [], [], [], true, true⟩
  fwm :=
    { run := none, stby := none, len := 0, timed := false, busy := [], lost := false, dead := false, hoAt := 0, tcs := [], mbWait := none, poolTest := none,
      warnArmed := true }
  sec := ⟨[], [], [], [], [], none, false⟩
  eth := ⟨[], []⟩
  mems :=
    { pool := [], poolKey := [], sram := [], rt := [], pres := [], ext := [], dir := [], tt := [], grp := [], ehdr := [],
      eent := [], llog := [], sed := [], rptwin := [], cmdwin := [], ordwin := [], mbwin := [], img := [],
      msix := msixReset, pba := 0 }
  out := []
  free := 0
  pending := []

end Sys2Proof.Machine
end

