-- ==== Sys2Proof/Machine/Ops.lean ====
section
/-!
DEFINITION. The named operations over registers, memories, time, free values and what leaves the node.
-/

namespace Sys2Proof.Machine

/-! ### Registers -/

/-- A field of a register word. -/
def fget {w : Nat} (f : Fld w) (x : R32) : BitVec w := x.extractLsb' f.lo w

/-- A register word with one field changed. -/
def fput {w : Nat} (f : Fld w) (x : R32) (v : BitVec w) : R32 :=
  (x &&& ~~~ ((BitVec.allOnes w).setWidth 32 <<< f.lo)) ||| (v.setWidth 32 <<< f.lo)

/-- The stored word of a register. -/
def State.rd (s : State) (off : Nat) : R32 := sget regReset s.regs off

/-- Store a register's word. -/
def State.wr (s : State) (off : Nat) (v : R32) : State := { s with regs := sset regReset s.regs off v }

/-- A field of a register. -/
def State.f {w : Nat} (s : State) (f : Fld w) : BitVec w := fget f (s.rd f.off)

/-- Set a field of a register. -/
def State.setF {w : Nat} (s : State) (f : Fld w) (v : BitVec w) : State := s.wr f.off (fput f (s.rd f.off) v)

/-- A one-bit field reads 1. -/
def State.on (s : State) (f : Fld 1) : Bool := s.f f == 1

/-- Count one more in a field, wrapping. -/
def State.incF {w : Nat} (s : State) (f : Fld w) (n : Nat) : State := s.setF f (s.f f + BitVec.ofNat w n)

/-- Count one more in a field, stopping at its greatest value. -/
def State.satF {w : Nat} (s : State) (f : Fld w) (n : Nat) : State := s.setF f (satAdd (s.f f) n)

/-- The effective word of an RWC register (R25). -/
def State.effRd (s : State) (off : Nat) : R32 := sget regReset s.eff off

/-- An effective field (R25). -/
def State.e {w : Nat} (s : State) (f : Fld w) : BitVec w := fget f (s.effRd f.off)

/-- Store an effective word. -/
def State.effWr (s : State) (off : Nat) (v : R32) : State := { s with eff := sset regReset s.eff off v }

/-- No write waits, by default. -/
def noLater : Nat → Option R32 := fun _ => none

/-- Keep a write until its register takes it (R22, R140). -/
def State.keepWr (s : State) (off : Nat) (v : R32) : State := { s with later := sset noLater s.later off (some v) }

/-- Let the kept write of one register take effect (R140). -/
def State.takeWr (s : State) (off : Nat) : State :=
  match sget noLater s.later off with
  | some v => { (s.wr off v) with later := sset noLater s.later off none }
  | none => s

/-- Let the kept writes of several registers take effect. -/
def State.takeWrs (s : State) : List Nat → State
  | [] => s
  | o :: os => (s.takeWr o).takeWrs os

/-- A write of a register some of whose bits (`m`) take effect only while the block is idle (R22): those wait while it is busy, the
others take effect at once. -/
def State.partWr (s : State) (busy : Bool) (off : Nat) (m v : R32) : State :=
  if busy then (s.wr off ((v &&& ~~~ m) ||| (s.rd off &&& m))).keepWr off v
  else { (s.wr off v) with later := sset noLater s.later off none }

/-- The bits that waited in a kept write take effect (R22); the register's other bits stay as they have become since. -/
def State.takePart (s : State) (off : Nat) (m : R32) : State :=
  match sget noLater s.later off with
  | some v => { (s.wr off ((s.rd off &&& ~~~ m) ||| (v &&& m))) with later := sset noLater s.later off none }
  | none => s

/-- Set the sign of a change: apply where a condition holds. -/
def State.when (s : State) (c : Bool) (f : State → State) : State := if c then f s else s

/-! ### The node, time, output -/

/-- The node is powered, out of reset and not held: it takes work (R52, R53, R649, R658). -/
def State.up (s : State) : Bool := s.pwr.powered && s.pwr.rstN && decide (s.pwr.hold = .none)

/-- This node's ID (GLB_NODE). -/
def State.node (s : State) : NodeId := s.f F.GLB_NODE_NODE_ID

/-- Domain time in ticks (R279). -/
def State.now (s : State) : R64 := s.clk.now

/-- Domain time has reached a tick. -/
def State.due (s : State) (t : R64) : Bool := decide (t.toNat ≤ s.clk.now.toNat)

/-- What leaves by PCIe as a request of the node's own. -/
def Out.isPcie : Out → Bool
  | .hostWrite _ _ => true
  | .hostRead _ _ => true
  | .msix _ => true
  | _ => false

/-- Something leaves the node; nothing goes by PCIe while that link is down (R52, R615). -/
def State.emit (s : State) (o : Out) : State := if o.isPcie && !s.pwr.pcieUp then s else { s with out := s.out ++ [o] }

/-- An agent of this node (R11). -/
def State.agent (s : State) (loc : BitVec 4) : AgentId := s.node ++ loc

/-- The node of an agent (R11). -/
def agentNode (a : AgentId) : NodeId := a.extractLsb' 4 6

/-- The local part of an agent (R12). -/
def agentLocal (a : AgentId) : BitVec 4 := a.extractLsb' 0 4

/-- The home node, class and offset of a DPA (R11). -/
def dpaNode (d : Dpa) : NodeId := d.extractLsb' 46 6
def dpaClass (d : Dpa) : BitVec 2 := d.extractLsb' 44 2
def dpaOff (d : Dpa) : Nat := (d.extractLsb' 0 44).toNat

/-- A DPA from its parts (R11). -/
def mkDpa (n : NodeId) (c : BitVec 2) (off : Nat) : Dpa := n ++ c ++ BitVec.ofNat 44 off

/-- Draw `n` free bytes (DESIGN CHOICE, log entry 3). -/
def State.drawBytes (s : State) (n : Nat) : Bytes × State :=
  ((List.range n).map (fun i => Config.freeByte (s.free + i)), { s with free := s.free + n })

/-- Draw one free word (DESIGN CHOICE, log entry 3). -/
def State.drawWord (s : State) : R64 × State := (Config.freeWord s.free, { s with free := s.free + 1 })

/-! ### Status codes (R26) -/

def stOk : Status := 0
def stXlate : Status := 1
def stRights : Status := 2
def stRevoked : Status := 3
def stTargetLost : Status := 4
def stDataLost : Status := 5
def stJobStopped : Status := 6
def stSigMismatch : Status := 7
def stLeaseExpired : Status := 8
def stAlarm : Status := 9

/-! ### Commands that firmware serves (R622, R630) -/

/-- The role die serves a command of a kind: during SWITCHING only those that were in progress. -/
def State.fwServes (s : State) (k : Nat) : Bool := !s.fwm.dead && (decide (s.f F.FWM_STAT_HSTATE ≠ 4) || s.fwm.busy.contains k)

/-- A command of a kind is no longer in progress. -/
def State.fwDone (s : State) (k : Nat) : State := { s with fwm := { s.fwm with busy := s.fwm.busy.filter (fun x => x != k) } }

/-! ### Outcomes -/

/-- A command on a node that is up has its effect; on a node that is down it has none (DESIGN CHOICE, log entry 11). -/
def whenUp (s : State) (f : State → State) : Host.Outcome State Fault Refusal := .next (if s.up then f s else s)

/-- A register write, a clay write or a firmware command: as `whenUp`, and none is taken once a hold-up has started (R649). -/
def whenWr (s : State) (f : State → State) : Host.Outcome State Fault Refusal :=
  .next (if s.up && !s.pwr.holdUp then f s else s)

/-- Write 4 or 8 bytes of a window onto a memory (R616). -/
def winWrite (m : Mem) (a : Nat) (wide : Bool) (v : R64) : Mem := Mem.wrN m a (natLe (if wide then 8 else 4) v.toNat)

end Sys2Proof.Machine
end

