-- ==== Sys2Proof/Machine/Operands.lean ====
section
/-!
DEFINITION. Operand forms: where the data of a request lies in its units (R163, R164), integer and FP32 atomics (R194), the exact
path of an FP32 add and the shadow it meets (R200, R204-R206).
-/

namespace Sys2Proof.Machine

/-! ### Data units -/

/-- The bytes a STORE of `n` bytes at an offset carries in its data units (R163). -/
def storeBytes (data : Bytes) (off n : Nat) : Bytes := if n < 16 then slice data (off % 16) n else slice data 0 n

/-- The data units that return `n` bytes read at an offset (R163). -/
def loadUnits (bytes : Bytes) (off n : Nat) : Bytes :=
  if n < 16 then slice (zeros (off % 16) ++ bytes) 0 16 else bytes

/-! ### Dyadic numbers -/

/-- Round `a / 2^k` to the nearest integer, ties to even. -/
def rneShift (a k : Nat) : Nat :=
  let q := a / 2 ^ k
  let r := a % 2 ^ k
  if k = 0 then a
  else if 2 ^ (k - 1) < r ∨ (r = 2 ^ (k - 1) ∧ q % 2 = 1) then q + 1 else q

/-- Truncate `m * 2^k` toward zero, for any integer k. -/
def truncScale (m k : Int) : Int :=
  if 0 ≤ k then m * 2 ^ k.toNat else if m < 0 then -((-m) / 2 ^ (-k).toNat) else m / 2 ^ (-k).toNat

/-- A binary floating-point format: precision with the hidden bit, exponent field width, bias; whether the top exponent is
infinity and NaN (R349). -/
structure FpFmt where
  prec : Nat
  ew : Nat
  bias : Nat
  ieee : Bool
  deriving DecidableEq, Repr

def fp32Fmt : FpFmt := ⟨24, 8, 127, true⟩

/-- What a pattern of a format stands for. -/
inductive FpVal where
  | nan
  | inf (neg : Bool)
  /-- `(-1)^neg * mant * 2^exp`. -/
  | fin (neg : Bool) (mant : Nat) (exp : Int)
  deriving DecidableEq, Repr

/-- Width of a format's patterns. -/
def FpFmt.width (f : FpFmt) : Nat := f.prec + f.ew

/-- Read a pattern. Without infinities, only the all-ones pattern of an 8-bit format is a NaN; narrower formats have none (R349). -/
def FpFmt.read (f : FpFmt) (x : Nat) : FpVal :=
  let frac := x % 2 ^ (f.prec - 1)
  let e := x / 2 ^ (f.prec - 1) % 2 ^ f.ew
  let neg := bitAt x (f.prec - 1 + f.ew)
  let top := 2 ^ f.ew - 1
  if f.ieee ∧ e = top then (if frac = 0 then .inf neg else .nan)
  else if !f.ieee ∧ f.width = 8 ∧ e = top ∧ frac = 2 ^ (f.prec - 1) - 1 then .nan
  else if e = 0 then .fin neg frac (1 - (f.bias : Int) - (f.prec - 1 : Nat))
  else .fin neg (2 ^ (f.prec - 1) + frac) ((e : Int) - (f.bias : Int) - (f.prec - 1 : Nat))

/-- The largest finite pattern of a format, by sign (R349). -/
def FpFmt.maxFin (f : FpFmt) (neg : Bool) : Nat :=
  let top := 2 ^ f.ew - 1
  let mag := if f.ieee then top * 2 ^ (f.prec - 1) - 1
    else if f.width = 8 then top * 2 ^ (f.prec - 1) + 2 ^ (f.prec - 1) - 2
    else top * 2 ^ (f.prec - 1) + 2 ^ (f.prec - 1) - 1
  mag + b2n neg * 2 ^ (f.prec - 1 + f.ew)

/-- The NaN the device writes (R349). -/
def FpFmt.nan (f : FpFmt) : Nat :=
  if f.ieee then (2 ^ f.ew - 1) * 2 ^ (f.prec - 1) + 2 ^ (f.prec - 2) else 2 ^ (f.prec - 1 + f.ew) - 1

/-- Round `m * 2^e` once to nearest even; none where the result lies beyond the greatest finite value. A zero is +0. -/
def FpFmt.round (f : FpFmt) (m e : Int) : Option Nat :=
  let a := m.natAbs
  if a = 0 then some 0
  else
    let msb : Int := (Nat.log2 a : Int) + e
    let q : Int := max (msb - (f.prec - 1 : Nat)) (1 - (f.bias : Int) - (f.prec - 1 : Nat))
    let n := if q ≤ e then a * 2 ^ (e - q).toNat else rneShift a (q - e).toNat
    let ef : Int := q + (f.prec - 1 : Nat) + f.bias
    let mag := if n < 2 ^ (f.prec - 1) then n else n - 2 ^ (f.prec - 1) + ef.toNat * 2 ^ (f.prec - 1)
    if f.maxFin false < mag then none else some (mag + b2n (decide (m < 0)) * 2 ^ (f.prec - 1 + f.ew))

/-- The infinity of a sign. -/
def FpFmt.infPat (f : FpFmt) (neg : Bool) : Nat := (2 ^ f.ew - 1) * 2 ^ (f.prec - 1) + b2n neg * 2 ^ (f.prec - 1 + f.ew)

/-- Order of two values, -0 below +0: sign and magnitude as one integer key of a pattern. -/
def FpFmt.key (f : FpFmt) (x : Nat) : Int :=
  let mag := x % 2 ^ (f.prec - 1 + f.ew)
  if bitAt x (f.prec - 1 + f.ew) then -(mag : Int) - 1 else mag

/-- IEEE 754-2019 minimum and maximum; a NaN operand gives the canonical NaN (R194, R368). -/
def FpFmt.minMax (f : FpFmt) (mx : Bool) (x y : Nat) : Nat :=
  if f.read x = .nan ∨ f.read y = .nan then f.nan
  else if (f.key x ≤ f.key y) = (!mx) then x else y

/-- IEEE 754 add, rounded to nearest even (R194). -/
def FpFmt.add (f : FpFmt) (x y : Nat) : Nat :=
  match f.read x, f.read y with
  | .nan, _ => f.nan
  | _, .nan => f.nan
  | .inf a, .inf b => if a = b then f.infPat a else f.nan
  | .inf a, _ => f.infPat a
  | _, .inf b => f.infPat b
  | .fin sa ma ea, .fin sb mb eb =>
    let e := min ea eb
    let va : Int := (if sa then -1 else 1) * (ma : Int) * 2 ^ (ea - e).toNat
    let vb : Int := (if sb then -1 else 1) * (mb : Int) * 2 ^ (eb - e).toNat
    if va + vb = 0 then (if sa ∧ sb then 2 ^ (f.prec - 1 + f.ew) else 0)
    else match f.round (va + vb) e with
      | some r => r
      | none => f.infPat (decide (va + vb < 0))

/-! ### Atomics (R194) -/

/-- Bytes of an atomic's width: 4, 8 or 16. -/
def widthBytes (w : BitVec 2) : Nat := if w = 0 then 4 else if w = 1 then 8 else 16

/-- A pattern as a signed integer. -/
def signedOf (bits x : Nat) : Int := if x < 2 ^ (bits - 1) then (x : Int) else (x : Int) - 2 ^ bits

/-- ADD, MIN and MAX of `bits` bits, by operand type: 0 unsigned, 1 signed, 2 FP32 (R194). -/
def atomicOp (opc : BitVec 6) (atype : BitVec 2) (bits old opnd : Nat) : Nat :=
  if opc = 3 then (if atype = 2 then fp32Fmt.add old opnd else (old + opnd) % 2 ^ bits)
  else
    let mx := decide (opc = 5)
    if atype = 2 then fp32Fmt.minMax mx old opnd
    else if atype = 1 then (if (signedOf bits old ≤ signedOf bits opnd) = (!mx) then old else opnd)
    else (if (old ≤ opnd) = (!mx) then old else opnd)

/-! ### The exact path -/

/-- The signed window exponent (R161). -/
def ewInt (ew : BitVec 8) : Int := ew.toInt

/-- A window exponent within −126 to 127 (R161, R121). -/
def ewOk (ew : BitVec 8) : Bool := decide (-126 ≤ ew.toInt)

/-- Convert a contribution to its integer, and whether it saturates (R204). -/
def exactConv (x : Nat) (ew : BitVec 8) : Int × Bool :=
  let top : Int := 2 ^ 83 - 1
  match fp32Fmt.read x with
  | .nan => (0, true)
  | .inf neg => (if neg then -top else top, true)
  | .fin neg m e =>
    -- |x| < 2^(EW+1) exactly when m * 2^(e + 82 - EW) < 2^83
    let v : Int := (if neg then -1 else 1) * (m : Int)
    let k : Int := e + 82 - ewInt ew
    let small : Bool := if 0 ≤ k then decide ((m : Int) * 2 ^ k.toNat < 2 ^ 83) else decide ((m : Int) < 2 ^ 83 * 2 ^ (-k).toNat)
    if small then (truncScale v k, false) else (if neg then -top else top, true)

/-- A shadow (R200). -/
structure Shadow where
  acc : Int
  count : Nat
  ew : BitVec 8
  wset : Bool
  sat : Bool
  deriving DecidableEq, Repr

/-- The value of a 100-bit two's-complement sum. -/
def wrap100 (x : Int) : Int := (x + 2 ^ 99) % 2 ^ 100 - 2 ^ 99

/-- Read a shadow from its 16 bytes (R200). -/
def shadowOf (bs : Bytes) : Shadow :=
  let x := leNat bs
  ⟨wrap100 (bitsAt x 28 100 : Int), bitsAt x 11 17, fieldAt 8 x 3, bitAt x 2, bitAt x 1⟩

/-- The 16 bytes of a shadow (R200). -/
def shadowBytes (h : Shadow) : Bytes :=
  natLe 16 ((h.acc % 2 ^ 100).toNat * 2 ^ 28 + (h.count % 2 ^ 17) * 2 ^ 11 + putAt 3 h.ew + 4 * b2n h.wset + 2 * b2n h.sat)

/-- Add a contribution (R205), and whether it met a different EW. -/
def Shadow.add (h : Shadow) (c : Int) (ew : BitVec 8) (n : Nat) (sat : Bool) : Shadow × Bool :=
  let h1 : Shadow := if h.wset then h else { h with ew := ew, wset := true }
  if ew ≠ h1.ew then ({ h1 with sat := true }, true)
  else ({ h1 with acc := wrap100 (h1.acc + c), count := min (h1.count + n) 131071, sat := h1.sat || sat }, false)

/-- What a LOAD of an element returns, and its SAT (R206). -/
def Shadow.load (h : Shadow) : Nat × Bool :=
  if !h.wset then (0, false)
  else
    let neg := decide (h.acc < 0)
    if 65536 < h.count ∨ 2 ^ 95 ≤ h.acc.natAbs then ((if h.acc = 0 then 0 else fp32Fmt.maxFin neg), true)
    else match fp32Fmt.round h.acc (ewInt h.ew - 82) with
      | some r => ((if r % 2 ^ 31 = 0 then 0 else r), h.sat)
      | none => (fp32Fmt.maxFin neg, true)

/-- The integer that an exact add carries in its first data unit (R543): 128-bit two's complement. -/
def exactBytes (c : Int) : Bytes := natLe 16 (c % 2 ^ 128).toNat
def exactOf (bs : Bytes) : Int := (BitVec.ofNat 128 (leNat (bs.take 16))).toInt

end Sys2Proof.Machine
end

