-- ==== Sys2Proof/Machine/Exact.lean ====
section
/-!
DEFINITION. Element types, exact sums and residues of the engine tiles (R119, R349-R371), the CRC-64 of signatures (R125).
-/

namespace Sys2Proof.Machine

/-! ### Element types (R119, R349, R350) -/

/-- The floating-point format of a type code. -/
def tyFmt (c : Nat) : Option FpFmt :=
  if c = 1 then some fp32Fmt
  else if c = 2 then some ⟨8, 8, 127, true⟩
  else if c = 3 then some ⟨11, 5, 15, true⟩
  else if c = 4 ∨ c = 6 then some ⟨4, 4, 7, false⟩
  else if c = 5 ∨ c = 7 then some ⟨3, 5, 15, true⟩
  else if c = 8 then some ⟨3, 3, 3, false⟩
  else if c = 9 then some ⟨4, 2, 1, false⟩
  else if c = 10 then some ⟨2, 2, 1, false⟩
  else none

def tyMx (c : Nat) : Bool := decide (6 ≤ c ∧ c ≤ 10)
def tyInt (c : Nat) : Bool := decide (11 ≤ c ∧ c ≤ 13)
def tyFloat (c : Nat) : Bool := decide (1 ≤ c ∧ c ≤ 10)

/-- Bits of an element. -/
def tyBits (c : Nat) : Nat :=
  if c = 1 ∨ c = 12 then 32 else if c = 2 ∨ c = 3 then 16 else if c = 8 ∨ c = 9 then 6 else if c = 10 then 4
  else if c = 13 then 64 else 8

/-- Largest exponent of a type (R349). -/
def tyEmax (c : Nat) : Int :=
  if c = 1 ∨ c = 2 then 127 else if c = 3 ∨ c = 5 ∨ c = 7 then 15 else if c = 4 ∨ c = 6 then 8 else if c = 8 then 4 else 2

/-- Bytes of a block of 32 elements (R350). -/
def blkBytes (c : Nat) : Nat := 4 * tyBits c + b2n (tyMx c)

/-- Bytes of a run of elements; an MX run is a whole number of blocks (R350, R351). -/
def runBytes (c n : Nat) : Nat := if tyMx c then n / 32 * blkBytes c else n * tyBits c / 8

/-- The pattern of element `i` of a run (R350). -/
def elemPat (c : Nat) (bs : Bytes) (i : Nat) : Nat :=
  if tyMx c then bitsAt (leNat (slice bs (i / 32 * blkBytes c + 1) (4 * tyBits c))) (tyBits c * (i % 32)) (tyBits c)
  else leNat (slice bs (i * (tyBits c / 8)) (tyBits c / 8))

/-- A value of magnitude 2^128 or more counts as infinite (R355, R357). -/
def capInf (v : FpVal) : FpVal :=
  match v with
  | .fin neg m e => if m ≠ 0 ∧ 128 ≤ (Nat.log2 m : Int) + e then .inf neg else .fin neg m e
  | _ => v

/-- A value times a power of two. -/
def scaleVal (k : Int) : FpVal → FpVal
  | .fin neg m e => .fin neg m (e + k)
  | v => v

/-- The value of element `i` of a floating-point run, its MX scale included (R350). -/
def elemVal (c : Nat) (bs : Bytes) (i : Nat) : FpVal :=
  match tyFmt c with
  | none => .fin false 0 0
  | some f =>
    let v := f.read (elemPat c bs i)
    if tyMx c then
      let x := ((bs.getD (i / 32 * blkBytes c) 0).toNat)
      if x = 255 then .nan else capInf (scaleVal ((x : Int) - 127) v)
    else v

/-- The values of block `b` of a run. -/
def blockVals (c : Nat) (bs : Bytes) (b : Nat) : List FpVal := (List.range 32).map (fun i => elemVal c bs (32 * b + i))

/-- The patterns of block `b` of a run. -/
def blockPats (c : Nat) (bs : Bytes) (b : Nat) : List Nat := (List.range 32).map (fun i => elemPat c bs (32 * b + i))

/-- The product of two values, exact (R357, R457). -/
def mulVal : FpVal → FpVal → FpVal
  | .nan, _ => .nan
  | _, .nan => .nan
  | .inf a, .fin b m _ => if m = 0 then .nan else .inf (a != b)
  | .fin b m _, .inf a => if m = 0 then .nan else .inf (a != b)
  | .inf a, .inf b => .inf (a != b)
  | .fin a m e, .fin b n f => capInf (.fin (a != b) (m * n) (e + f))

/-! ### Pass 1 (R355, R356) -/

/-- What one element gives to the exponent byte; −128 for nothing. -/
def elemExp (emax : Int) : FpVal → Int
  | .nan => -128
  | .inf _ => emax
  | .fin _ m e => if m = 0 then -128 else max ((Nat.log2 m : Int) + e) (-126)

def maxInt (l : List Int) : Int := l.foldl max (-128)

/-- The exponent byte of one contribution. -/
def expByte (emax : Int) (els : List FpVal) : Int := maxInt (els.map (elemExp emax))

/-! ### Pass 2 (R354, R357-R361) -/

/-- The lane format of an input type: F, and the width of a lane. -/
def laneF (c : Nat) : Nat := if c = 1 then 82 else 50
def laneW (c : Nat) : Nat := if c = 1 then 96 else 64

/-- Convert one element to its window integer (R357). -/
def laneOf (f : Nat) (eb : Int) : FpVal → Int × Bool
  | .nan => (0, true)
  | .inf neg => if eb = -128 then (0, false) else ((if neg then -1 else 1) * (2 ^ (f + 1) - 1), true)
  | .fin neg m e => if eb = -128 then (0, false) else (truncScale (if neg then -(m : Int) else m) (e + f - eb), false)

/-- A sum modulo 2^w, as a signed integer (R359). -/
def wrapS (w : Nat) (x : Int) : Int := (x + 2 ^ (w - 1)) % 2 ^ w - 2 ^ (w - 1)

/-- A partial block (R360). -/
structure PBlock where
  eb : Int
  count : Nat
  sat : Bool
  lanes : List Int
  deriving DecidableEq, Repr

/-- Add lanes (R359). -/
def addLanes (w : Nat) (a b : List Int) : List Int := List.zipWith (fun x y => wrapS w (x + y)) a b

/-- The partial block of contributions at a block exponent, `count` of them (R357-R361). -/
def partBlock (c : Nat) (eb : Int) (count : Nat) (cs : List (List FpVal)) : PBlock :=
  let conv := cs.map (fun els => els.map (laneOf (laneF c) eb))
  ⟨eb, count, conv.any (fun l => l.any (·.2)),
    conv.foldl (fun acc l => addLanes (laneW c) acc (l.map (·.1))) (List.replicate 32 0)⟩

/-- The exact sum of contributions to a block of 32 elements, `count` of them (R353-R361). -/
def sumBlock (c : Nat) (count : Nat) (cs : List (List FpVal)) : PBlock :=
  partBlock c (maxInt (cs.map (expByte (tyEmax c)))) count cs

/-- Add two partials of one block (R359, R361). -/
def addPart (c : Nat) (a b : PBlock) : PBlock := ⟨a.eb, min 8191 (a.count + b.count), a.sat || b.sat, addLanes (laneW c) a.lanes b.lanes⟩

/-- Round one lane into an output format (R365); the flag marks a clamp. -/
def roundLane (o : FpFmt) (f : Nat) (eb x : Int) : Nat × Bool :=
  if x = 0 ∨ eb = -128 then (0, false)
  else match o.round x (eb - f) with
    | none => (o.maxFin (decide (x < 0)), true)
    | some r => (if r % 2 ^ (o.width - 1) = 0 then 0 else r, false)

/-- The output patterns of a block, and whether it counts under R366 (R364-R366). -/
def roundBlock (o : FpFmt) (c : Nat) (p : PBlock) : List Nat × Bool :=
  if 4096 < p.count then (p.lanes.map (fun x => if x = 0 then 0 else o.maxFin (decide (x < 0))), true)
  else
    let r := p.lanes.map (roundLane o (laneF c) p.eb)
    (r.map (·.1), p.sat || r.any (·.2))

/-- Integer sums: sign-extended, modulo 2^64 (R367). -/
def intSum (c : Nat) (l : List Nat) : Int := l.foldl (fun acc x => wrapS 64 (acc + signedOf (tyBits c) x)) 0

/-- Minimum or maximum of two patterns of a type (R368). -/
def minMaxPat (c : Nat) (mx : Bool) (x y : Nat) : Nat :=
  match tyFmt c with
  | some f => f.minMax mx x y
  | none => if (signedOf (tyBits c) x ≤ signedOf (tyBits c) y) = (!mx) then x else y

/-- Minimum or maximum over a list that is not empty. -/
def minMaxAll (c : Nat) (mx : Bool) : List Nat → Nat
  | [] => 0
  | x :: xs => xs.foldl (minMaxPat c mx) (match tyFmt c with | some f => f.minMax mx x x | none => x)

/-- Reduce one block: RED_OP 0 add, 1 min, 2 max; contributions with their bytes, none where the block is absent (R361, R367, R368,
R432). The patterns, and whether the block counts under R366. -/
def reduceBlock (ci co op : Nat) (cs : List (Option Bytes)) : List Nat × Bool :=
  let here := cs.filterMap id
  if op = 0 then
    match tyFmt co with
    | some o => roundBlock o ci (sumBlock ci here.length (here.map (fun b => blockVals ci b 0)))
    | none => ((List.range 32).map (fun i => ((intSum ci (here.map (fun b => elemPat ci b i))) % 2 ^ tyBits co).toNat), false)
  else ((List.range 32).map (fun i => minMaxAll ci (decide (op = 2)) (cs.map (fun x => match x with | some b => elemPat ci b i | none => 0))), false)

/-- The bytes of patterns of a type of whole bytes. -/
def patBytes (c : Nat) (l : List Nat) : Bytes := l.flatMap (fun x => natLe (tyBits c / 8) x)

/-- The pairs of input and output type that an operation admits (R352): 0 movement, 1 add, 2 min or max; integer adds are for
REDUCE_SCATTER and SPARSE_REDUCE only. -/
def tyPair (kind : Nat) (ints : Bool) (ci co : Nat) : Bool :=
  if kind = 0 then decide (ci ≤ 13) && decide (co = ci)
  else if kind = 1 then
    (ci == 1 && co == 1) || (ci == 2 && (co == 2 || co == 1)) || (ci == 3 && (co == 3 || co == 1)) ||
    ((ci == 4 || ci == 5) && (co == ci || co == 1 || co == 2 || co == 3)) || (tyMx ci && (co == 1 || co == 2 || co == 3)) ||
    (ints && ((ci == 11 && co == 12) || (ci == 12 && co == 12) || (ci == 13 && co == 13)))
  else decide (co = ci) && (decide (1 ≤ ci ∧ ci ≤ 5) || tyInt ci)

/-! ### Partial blocks in slices and on links (R360-R363), residues (R370, R371) -/

/-- The residue of lanes (R370). -/
def residue (lanes : List Int) : Nat := (lanes.foldl (fun acc x => acc + x) 0 % 65521).toNat

/-- FMT of an input type (R360). -/
def partFmt (c : Nat) : Nat := if c = 1 then 1 else if tyInt c then 2 else 0

/-- The header of a partial block (R360), with the fields of the packed form. -/
def partHead (c wcode shift : Nat) (p : PBlock) : Nat :=
  residue p.lanes * 2 ^ 48 + (p.eb % 256).toNat * 2 ^ 40 + min 8191 p.count * 2 ^ 27 + b2n p.sat * 2 ^ 26 + partFmt c * 2 ^ 24 +
    wcode * 2 ^ 20 + shift * 2 ^ 13

/-- Low-order zero bits of an integer that is not zero. -/
def lowZeros (x : Int) : Nat := ((List.range 96).find? (fun k => x / 2 ^ k % 2 == 1)).getD 0

/-- SHIFT: the least number of low-order zero bits among the lanes that are not zero (R363). -/
def packShift (lanes : List Int) : Nat :=
  match lanes.filter (· ≠ 0) with
  | [] => 0
  | x :: xs => xs.foldl (fun m y => min m (lowZeros y)) (lowZeros x)

/-- An integer fits in some bits as a signed one. -/
def fitsS (w : Nat) (x : Int) : Bool := decide (-(2 ^ w) ≤ 2 * x ∧ 2 * x < 2 ^ w)

/-- WCODE: the least width, in bytes, in which every lane fits (R363). -/
def packCode (lanes : List Int) : Nat := ((List.range 13).find? (fun k => lanes.all (fitsS (8 * k)))).getD 12

/-- Integers side by side in fields of some bits, the first lowest. -/
def joinBits (w : Nat) : List Int → Nat
  | [] => 0
  | x :: xs => (x % 2 ^ w).toNat + 2 ^ w * joinBits w xs

/-- A partial block in packed form (R363): its lanes, 32 or the occupied ones of a sparse column (R441). -/
def packBlock (c : Nat) (p : PBlock) : Bytes :=
  let sh := packShift p.lanes
  let lanes := p.lanes.map (· / 2 ^ sh)
  let k := packCode lanes
  natLe 8 (partHead c k sh p) ++ natLe (k * p.lanes.length) (joinBits (8 * k) lanes)

/-- The partial block of `n` lanes that a packed form restores (R363). -/
def unpackBlock (n : Nat) (bs : Bytes) : PBlock :=
  let h := leNat (bs.take 8)
  let w := 8 * bitsAt h 20 4
  let f := leNat (slice bs 8 (bitsAt h 20 4 * n))
  ⟨signedOf 8 (bitsAt h 40 8), bitsAt h 27 13, bitAt h 26,
    (List.range n).map (fun i => signedOf w (bitsAt f (w * i) w) * 2 ^ bitsAt h 13 7)⟩

/-- The slice form of a partial block (R362), and its lanes. -/
def sliceBlock (c : Nat) (p : PBlock) : Bytes :=
  natLe 8 (partHead c 0 0 p) ++ p.lanes.flatMap (fun x => natLe (laneW c / 8) (x % 2 ^ laneW c).toNat)
def sliceLanes (bs : Bytes) : List Int :=
  let w := if bitsAt (leNat (bs.take 8)) 24 2 = 1 then 12 else 8
  (List.range 32).map (fun i => wrapS (8 * w) (leNat (slice bs (8 + w * i) w) : Int))

/-- A block's residue agrees with its header, in slice form, in packed form (R371). -/
def residueGood (bs : Bytes) : Bool := decide (bitsAt (leNat (bs.take 8)) 48 16 = residue (sliceLanes bs))
def packedGood (n : Nat) (bs : Bytes) : Bool := decide (bitsAt (leNat (bs.take 8)) 48 16 = residue (unpackBlock n bs).lanes)

/-- Lane width of a block in slice form. -/
def sliceW (bs : Bytes) : Nat := if bitsAt (leNat (bs.take 8)) 24 2 = 1 then 96 else 64

/-- What the wraps of lane adds take from the sum of the operands' residues (R371): 2^w modulo 65,521 for each wrap upward, less that for each
wrap downward. -/
def wrapOff (w : Nat) (a b : List Int) : Int :=
  (List.zipWith (fun (x y : Int) => if 2 ^ (w - 1) ≤ x + y then ((2 ^ w % 65521 : Nat) : Int) else if x + y < -(2 ^ (w - 1)) then -((2 ^ w % 65521 : Nat) : Int)
    else 0) a b).foldl (· + ·) 0

/-- An add of partials checks (R361, R371): the operands carry one EB, and the residue of the lanes formed is the sum of the operands' residues,
adjusted for wraps. -/
def addGood (x : AddRun) : Bool :=
  let res : Bytes → Int := fun bs => bitsAt (leNat (bs.take 8)) 48 16
  decide (bitsAt (leNat (x.a.take 8)) 40 8 = bitsAt (leNat (x.b.take 8)) 40 8) &&
  decide ((residue (sliceLanes x.sum) : Int) = (res x.a + res x.b - wrapOff (sliceW x.a) (sliceLanes x.a) (sliceLanes x.b)) % 65521)

/-! ### Shares of a reduction (R367, R368, R412, R413) -/

/-- What one node's members give to a block: the partial block of an add, the patterns of MIN and MAX. -/
inductive Share where
  | part (p : PBlock)
  | vals (l : List Nat)
  deriving DecidableEq, Repr

/-- The exponent byte of some contributions to a block (R355, R356). -/
def blockExp (c : Nat) (cs : List (Option Bytes)) : Int := maxInt ((cs.filterMap id).map (fun b => expByte (tyEmax c) (blockVals c b 0)))

/-- Local pre-reduction (R413): contributions to a block at its exponent, RED_OP 0 add, 1 min, 2 max; none where none is present. An absent
one counts as +0 in MIN and MAX (R368). -/
def nodeShare (ci op : Nat) (eb : Int) (cs : List (Option Bytes)) : Option Share :=
  let here := cs.filterMap id
  if here = [] then none
  else if op ≠ 0 then
    some (.vals ((List.range 32).map (fun i => minMaxAll ci (decide (op = 2)) (cs.map (fun x => match x with | some b => elemPat ci b i | none => 0)))))
  else if tyFloat ci then some (.part (partBlock ci eb here.length (here.map (fun b => blockVals ci b 0))))
  else some (.part ⟨0, here.length, false, (List.range 32).map (fun i => intSum ci (here.map (fun b => elemPat ci b i)))⟩)

/-- A share on a link (R363, R424), and read from one. -/
def Share.wire (ci : Nat) : Share → Bytes
  | .part p => packBlock ci p
  | .vals l => patBytes ci l
def readShare (ci op : Nat) (bs : Bytes) : Share :=
  if op = 0 then .part (unpackBlock 32 bs) else .vals ((List.range 32).map (fun i => elemPat ci bs i))

/-- The pattern of a share, `i` of 32. -/
def Share.pat (s : Option Share) (i : Nat) : Nat := match s with | some (.vals l) => l.getD i 0 | _ => 0

/-- The output of a block from the nodes' shares (R364-R368), and whether it counts under R366; none where no node gives any. -/
def mergeShares (ci co op : Nat) (l : List (Option Share)) : Option (List Nat × Bool) :=
  if l.all (·.isNone) then none
  else if op ≠ 0 then some ((List.range 32).map (fun i => minMaxAll ci (decide (op = 2)) (l.map (fun s => Share.pat s i))), false)
  else match l.filterMap (fun s => match s with | some (.part p) => some p | _ => none) with
    | [] => none
    | p :: ps =>
      let sum := ps.foldl (addPart ci) p
      match tyFmt co with
      | some o => some (roundBlock o ci sum)
      | none => some (sum.lanes.map (fun x => (x % 2 ^ tyBits co).toNat), false)

/-- A received partial block that ends the work (R361, R371, R373): its residue is wrong, or its exponent or format is another. -/
def partBad (ci n : Nat) (eb : Int) (bs : Bytes) : Bool :=
  !packedGood n bs || decide ((unpackBlock n bs).eb ≠ if tyFloat ci then eb else 0) || decide (bitsAt (leNat (bs.take 8)) 24 2 ≠ partFmt ci)

/-! ### CRC (R125, R374) -/

/-- Eight steps of CRC-64/ECMA-182. -/
def crc64Step (c : R64) : Nat → R64
  | 0 => c
  | n + 1 => crc64Step (if c.getLsbD 63 then (c <<< 1) ^^^ 0x42F0E1EBA9EA3693 else c <<< 1) n

/-- CRC-64/ECMA-182: initial value zero, no reflection, no final exclusive or (R125). -/
def crc64 (bs : Bytes) : R64 := bs.foldl (fun (c : R64) (b : Byte) => crc64Step (c ^^^ (b ++ (0 : BitVec 56))) 8) 0

/-- One step of CRC-32 of IEEE 802.3, reflected. -/
def crc32Step (c : R32) : Nat → R32
  | 0 => c
  | n + 1 => crc32Step (if c.getLsbD 0 then (c >>> 1) ^^^ 0xEDB88320 else c >>> 1) n

/-- CRC-32 of IEEE 802.3 (R374). -/
def crc32 (bs : Bytes) : R32 := ~~~ (bs.foldl (fun c b => crc32Step (c ^^^ b.setWidth 32) 8) 0xFFFFFFFF)

end Sys2Proof.Machine
end

