-- ==== Sys2Proof/Machine/Fec.lean ====
section
/-!
DEFINITION. The physical layer's coding (R499-R503): blocks of a flit, the scrambler, RS(576,544) over GF(2^10), the groups of four
codewords and their lanes, the comma and the CAL marker.
-/

namespace Sys2Proof.Machine

/-- A symbol of the code. -/
abbrev Sym := BitVec 10

/-! ### GF(2^10), primitive polynomial x^10 + x^3 + 1 (R500) -/

/-- Times x. -/
def gx (a : Sym) : Sym := (a <<< 1) ^^^ (if a.getLsbD 9 then 9 else 0)

def gmulFrom : Nat → Sym → Sym → Sym → Sym
  | 0, _, _, acc => acc
  | n + 1, a, b, acc => gmulFrom n (gx a) (b >>> 1) (if b.getLsbD 0 then acc ^^^ a else acc)

def gmul (a b : Sym) : Sym := gmulFrom 10 a b 0

def gpowFrom : Nat → Sym → Nat → Sym → Sym
  | 0, _, _, acc => acc
  | n + 1, a, e, acc => gpowFrom n (gmul a a) (e / 2) (if e % 2 = 1 then gmul acc a else acc)

def gpow (a : Sym) (e : Nat) : Sym := gpowFrom 10 a e 1

def ginv (a : Sym) : Sym := gpow a 1022

/-- α^j, α a root of the primitive polynomial. -/
def alpha (j : Nat) : Sym := gpow 2 (j % 1023)

/-! Polynomials, the lowest coefficient first. -/

def padd : List Sym → List Sym → List Sym
  | [], q => q
  | p, [] => p
  | a :: p, b :: q => (a ^^^ b) :: padd p q

def pscale (c : Sym) (p : List Sym) : List Sym := p.map (gmul c)

def pmul : List Sym → List Sym → List Sym
  | [], _ => []
  | a :: p, q => padd (pscale a q) (0 :: pmul p q)

def peval (p : List Sym) (x : Sym) : Sym := p.foldr (fun c acc => c ^^^ gmul acc x) 0

def pdegree (p : List Sym) : Nat := (List.range p.length).foldl (fun d i => if p.getD i 0 = 0 then d else i) 0

/-- The formal derivative at a point. -/
def pderiv (p : List Sym) (x : Sym) : Sym :=
  peval ((List.range (p.length - 1)).map (fun i => if i % 2 = 0 then p.getD (i + 1) 0 else 0)) x

/-! ### The code (R500), for `m` parity symbols: 32 in the part -/

/-- The generator polynomial: the product of x - α^j for j below m. -/
def rsGen (m : Nat) : List Sym := (List.range m).foldl (fun g j => pmul g [alpha j, 1]) [1]

/-- One step of the division by the generator; the remainder with its highest coefficient first. -/
def rsStep (g : List Sym) (r : List Sym) (x : Sym) : List Sym :=
  let fb := x ^^^ r.headD 0
  padd (r.tail ++ [0]) (pscale fb g)

/-- A codeword: the message symbols first, the first of them the highest coefficient (DESIGN CHOICE, log entry 101), then the parity. -/
def rsEncode (m : Nat) (msg : List Sym) : List Sym :=
  msg ++ msg.foldl (rsStep ((rsGen m).take m).reverse) (List.replicate m 0)

/-- The syndromes of a received word. -/
def rsSyndromes (m : Nat) (r : List Sym) : List Sym :=
  (List.range m).map (fun j => r.foldl (fun acc c => gmul acc (alpha j) ^^^ c) 0)

/-- The error locator so far, the correction of it, its length. -/
structure Bm where
  loc : List Sym
  cor : List Sym
  len : Nat
  deriving DecidableEq, Repr

/-- One step of Berlekamp and Massey with erasures: syndrome `r`, counted from 1. -/
def bmStep (syn : List Sym) (s : Nat) (b : Bm) (r : Nat) : Bm :=
  let d := (List.range r).foldl (fun acc j => acc ^^^ gmul (b.loc.getD j 0) (syn.getD (r - 1 - j) 0)) (0 : Sym)
  let x := 0 :: b.cor
  if d = 0 then { b with cor := x }
  else
    let loc := padd b.loc (pscale d x)
    if 2 * b.len ≤ r + s - 1 then ⟨loc, pscale (ginv d) b.loc, r + s - b.len⟩ else ⟨loc, x, b.len⟩

/-- The word that the decoder puts out: any e errors and s erasures with 2e + s ≤ m are corrected, and nothing else is (R500). -/
def rsDecode (m : Nat) (r : List Sym) (erased : List Nat) : Option (List Sym) :=
  let n := r.length
  let s := erased.length
  let place (k : Nat) : Sym := alpha (n - 1 - k)
  let syn := rsSyndromes m r
  if syn.all (· == 0) then some r
  else if m < s then none
  else
    let gam := erased.foldl (fun g k => pmul g [1, place k]) [1]
    let b := ((List.range (m - s)).map (· + (s + 1))).foldl (bmStep syn s) ⟨gam, gam, s⟩
    let bad := (List.range n).filter (fun k => peval b.loc (ginv (place k)) == 0)
    let omega := (pmul b.loc syn).take m
    let out := (List.range n).map (fun k =>
      let x := place k
      if bad.contains k then r.getD k 0 ^^^ gmul x (gmul (peval omega (ginv x)) (ginv (pderiv b.loc (ginv x)))) else r.getD k 0)
    let errs := ((List.range n).filter (fun k => r.getD k 0 != out.getD k 0 && !erased.contains k)).length
    if bad.length = pdegree b.loc ∧ 2 * errs + s ≤ m ∧ (rsSyndromes m out).all (· == 0) then some out else none

/-! ### Groups (R501, R502) -/

/-- Codeword `c` of a group: its symbol k is group symbol 4k + c. -/
def codeword (g : List Sym) (c : Nat) : List Sym := (List.range (g.length / 4)).map (fun k => g.getD (4 * k + c) 0)

/-- The group of four codewords. -/
def groupOf (cs : List (List Sym)) (n : Nat) : List Sym := (List.range (4 * n)).map (fun i => (cs.getD (i % 4) []).getD (i / 4) 0)

/-- The symbols of a run of bits, ten to each, the first bit the lowest. -/
def symsOf (bits : List Bool) (n : Nat) : List Sym :=
  (List.range n).map (fun i => BitVec.ofNat 10 (((List.range 10).map (fun j => if bits.getD (10 * i + j) false then 2 ^ j else 0)).foldl (· + ·) 0))

/-- The bits of symbols, each its lowest bit first. -/
def bitsOf (l : List Sym) : List Bool := l.flatMap (fun x => (List.range 10).map (fun j => x.getLsbD j))

/-- A group from its message bits: `k` message and `m` parity symbols to a codeword; 544 and 32 in the part. -/
def encodeGroup (k m : Nat) (bits : List Bool) : List Sym :=
  let msg := symsOf bits (4 * k)
  groupOf ((List.range 4).map (fun c => rsEncode m (codeword msg c))) (k + m)

/-- The port lane that carries a group symbol, of `n` lanes. -/
def laneOfSym (n i : Nat) : Nat := i / 4 % n

/-- The symbols that a port lane sends of a group, in their order. -/
def laneSyms (n : Nat) (g : List Sym) (lane : Nat) : List Sym :=
  ((List.range g.length).filter (fun i => laneOfSym n i == lane)).map (fun i => g.getD i 0)

/-- The PAM4 level of two bits, the earlier first (R497). -/
def pam4 : Bool → Bool → Int
  | false, false => -3
  | false, true => -1
  | true, true => 1
  | true, false => 3

/-- The levels of a run of bits. -/
def levels : List Bool → List Int
  | a :: b :: rest => pam4 a b :: levels rest
  | _ => []

/-- The levels that a group puts on each of `n` lanes (R497, R502). -/
def portLevels (n : Nat) (g : List Sym) : List (List Int) := (List.range n).map (fun j => levels (bitsOf (laneSyms n g j)))

/-- What the decoder makes of a group: the symbols it corrected outside the erased lanes, by their place, the codewords that it could
not correct, and the message bits; an uncorrectable codeword's symbols stay as received. -/
structure Decoded where
  fixed : List Nat
  lost : Nat
  bits : List Bool
  deriving DecidableEq, Repr

/-- Decode a group, the symbols of the lanes in `failed` erased (R500-R502). -/
def decodeGroup (k m n : Nat) (failed : List Nat) (g : List Sym) : Decoded :=
  let er := (List.range (k + m)).filter (fun i => failed.contains (laneOfSym n (4 * i)))
  let out := (List.range 4).map (fun c => rsDecode m (codeword g c) er)
  let fixed := (List.range (4 * (k + m))).filter (fun i =>
    !failed.contains (laneOfSym n i) && (match out.getD (i % 4) none with | some w => w.getD (i / 4) 0 != g.getD i 0 | none => false))
  let words := (List.range 4).map (fun c => (out.getD c none).getD (codeword g c))
  ⟨fixed, (out.filter (·.isNone)).length, bitsOf ((groupOf words (k + m)).take (4 * k))⟩

/-! ### Blocks and scrambling (R499) -/

/-- The bits of a byte, the least significant first. -/
def byteBits (b : Byte) : List Bool := (List.range 8).map (fun j => b.getLsbD j)

/-- The eight blocks of 257 bits of a flit. -/
def flitBlocks (f : Bytes) : List Bool :=
  (List.range 8).flatMap (fun i => decide (i = 0) :: ((List.range 32).flatMap (fun j => byteBits (f.getD (32 * i + j) 0))))

/-- The additive scrambler x^58 + x^39 + 1: the bit fed back is the bit added (DESIGN CHOICE, log entry 101). -/
def scramble : BitVec 58 → List Bool → List Bool × BitVec 58
  | st, [] => ([], st)
  | st, b :: bs =>
    let k := st.getLsbD 57 ^^ st.getLsbD 38
    let (out, st') := scramble ((st <<< 1) ||| (bit1 k).setWidth 58) bs
    ((b ^^ k) :: out, st')

/-- The byte of eight bits. -/
def byteOf (bits : List Bool) : Byte := BitVec.ofNat 8 (((List.range 8).map (fun j => if bits.getD j false then 2 ^ j else 0)).foldl (· + ·) 0)

/-- The 32 bytes of a block after its first bit. -/
def blockBytes (bits : List Bool) : Bytes := (List.range 32).map (fun j => byteOf (bits.drop (1 + 8 * j)))

/-- Cut descrambled bits into blocks: the flits that are whole, the bytes of the flit begun, the bits left. A block whose first bit
is 1 begins a flit; one that continues no flit is dropped. -/
def cutBlocks : Nat → List Bool → Bytes → List Bytes × Bytes × List Bool
  | 0, bits, part => ([], part, bits)
  | n + 1, bits, part =>
    if bits.length < 257 then ([], part, bits)
    else
      let part := if bits.headD false then blockBytes bits else if part = [] then [] else part ++ blockBytes bits
      let (fs, p, rest) := cutBlocks n (bits.drop 257) (if part.length = 256 then [] else part)
      (if part.length = 256 then part :: fs else fs, p, rest)

/-! ### Comma and CAL marker (R503) -/

/-- Bits of the PRBS13 generator x^13 + x^12 + x^2 + x + 1; the bit fed back is the bit put out (DESIGN CHOICE, log entry 101). -/
def prbs13 : BitVec 13 → Nat → List Bool
  | _, 0 => []
  | st, n + 1 =>
    let b := st.getLsbD 12 ^^ st.getLsbD 11 ^^ st.getLsbD 1 ^^ st.getLsbD 0
    b :: prbs13 ((st <<< 1) ||| (bit1 b).setWidth 13) n

/-- The comma block: a 1 and 256 bits of PRBS13 from all ones. -/
def commaBlock : List Bool := true :: prbs13 (BitVec.allOnes 13) 256

/-- The CAL marker: the comma with every bit inverted. -/
def calMarker : List Bool := commaBlock.map (fun b => !b)

/-- A calibration run of `n` bits on each lane (R513): the marker, PRBS13 from all ones until the slot ends; then one comma. -/
def calRun (n : Nat) : List Bool := calMarker ++ prbs13 (BitVec.allOnes 13) (n - 257) ++ commaBlock

/-- Bits of symbol stream between two commas of a lane. -/
def commaEvery : Nat := 4210688

/-- Bits that a lane sends in a tick: 112 GBd of two bits for 4 ns (R497). -/
def laneTickBits : Nat := 896

end Sys2Proof.Machine
end

