-- ==== Sys2Proof/Machine/Event.lean ====
section
/-!
DEFINITION. Event rings and MSI-X (R142-R148, R617): posting an event, the registers of a ring, hold-off.
-/

namespace Sys2Proof.Machine

/-- No event held, none dropped, no hold-off. -/
def ringNone : Nat → Ring := fun _ => ⟨[], 0, none, false⟩

/-- The record of an event (R142): 32 bytes. -/
def evBytes (e : Ev) (time : R64) (phase : BitVec 1) : Bytes :=
  natLe 8 (putAt 48 e.job + putAt 44 (bit1 e.cvalid) + putAt 32 e.ctx + putAt 26 (bit1 e.qvalid) + putAt 16 e.queue +
      putAt 15 phase + putAt 8 e.status + putAt 0 e.code)
    ++ natLe 8 time.toNat ++ natLe 8 e.info0.toNat ++ natLe 8 e.info1.toNat

/-- The records of a ring as a power of two: 8 to 16, other values act as 8 (R145, QMG_EVT_CFG). -/
def State.ringLog2 (s : State) (r : Nat) : Nat :=
  let m := (s.f (F.QMG_EVT_CFG_LOG2_SIZE r)).toNat
  if 8 ≤ m ∧ m ≤ 16 then m else 8

/-- The base of a ring as a bus address. -/
def State.ringBase (s : State) (r : Nat) : R64 :=
  s.rd (Reg.QMG_EVT_BASE_HI r) ++ s.f (F.QMG_EVT_BASE_LO_BASE_LO r) ++ (0 : BitVec 12)

/-- The ring holds as many unread records as it can (R147). -/
def State.ringFull (s : State) (r : Nat) : Bool :=
  let size := 2 ^ s.ringLog2 r
  decide (((s.f (F.QMG_EVT_TAIL_TAIL r)).toNat + 1) % size = (s.f (F.QMG_EVT_HEAD_HEAD r)).toNat % size)

/-- A ring's record of work. -/
def State.ring (s : State) (r : Nat) : Ring := sget ringNone s.qmg.rings r

/-- Store a ring's record of work. -/
def State.setRing (s : State) (r : Nat) (v : Ring) : State :=
  { s with qmg := { s.qmg with rings := sset ringNone s.qmg.rings r v } }

/-- A ring's vector is masked in the MSI-X table (R617). -/
def State.masked (s : State) (r : Nat) : Bool := bitAt (Mem.rd s.mems.msix (16 * r + 12)).toNat 0

/-- Write a vector to the host, or set its pending bit while it is masked (R148, R617). -/
def State.vector (s : State) (r : Nat) : State :=
  if s.masked r then
    { s with mems := { s.mems with pba := s.mems.pba ||| BitVec.ofNat 64 (2 ^ r) } }
  else s.emit (.msix (BitVec.ofNat 4 r))

/-- A vector falls due: written, which starts the hold-off of HOLDOFF × 64 tk as the field then stands, or left pending (R148). -/
def State.vectorDue (s : State) (r : Nat) : State :=
  let h := (s.f (F.QMG_EVT_CFG_HOLDOFF r)).toNat
  let till := if h = 0 ∨ s.masked r then none else some (s.now + BitVec.ofNat 64 (64 * h))
  (s.vector r).setRing r { s.ring r with holdoff := till, call := false }

/-- A record calls for its ring's vector (R148): dropped while MSIX_EN is 0, joined to a running hold-off, else due at once. -/
def State.raise (s : State) (r : Nat) : State :=
  if !s.on (F.QMG_EVT_CFG_MSIX_EN r) then s
  else if (s.ring r).holdoff.isSome then s.setRing r { s.ring r with call := true }
  else s.vectorDue r

/-- Write one record at TAIL and advance it (R146, R147); PHASE alternates at each pass. -/
def State.putRecord (s : State) (r : Nat) (e : Ev) (time : R64) (irq : Bool) : State :=
  let tail := (s.f (F.QMG_EVT_TAIL_TAIL r)).toNat
  let ph := s.f (F.QMG_EVT_TAIL_PHASE r)
  let s := s.emit (.hostWrite (s.ringBase r + BitVec.ofNat 64 (32 * tail)) (evBytes e time ph))
  let s := if tail + 1 = 2 ^ s.ringLog2 r
    then (s.setF (F.QMG_EVT_TAIL_TAIL r) 0).setF (F.QMG_EVT_TAIL_PHASE r) (~~~ ph)
    else s.setF (F.QMG_EVT_TAIL_TAIL r) (BitVec.ofNat 16 (tail + 1))
  if irq then s.raise r else s

/-- An EVENTS_LOST record (R144). -/
def evLost (n : Nat) : Ev := ⟨7, stOk, false, 0, 0, false, 0, BitVec.ofNat 64 n, 0⟩

/-- While the ring has room and events have been dropped, EVENTS_LOST comes first (R147). -/
def State.noteLost (s : State) (r : Nat) : State :=
  if (s.ring r).dropped = 0 ∨ s.ringFull r then s
  else (s.putRecord r (evLost (s.ring r).dropped) s.now false).setRing r { s.ring r with dropped := 0 }

/-- Drop one event (R147). -/
def State.dropEvent (s : State) (r : Nat) : State :=
  (s.incF (F.QMG_EVT_LOST_COUNT r) 1).setRing r { s.ring r with dropped := (s.ring r).dropped + 1 }

/-- Post an event to a ring (R145-R147). -/
def State.postTo (s : State) (r : Nat) (e : Ev) (irq : Bool) : State :=
  if !s.on (F.QMG_EVT_CFG_EN r) then s.dropEvent r
  else
    let s := if (s.ring r).held = [] then s.noteLost r else s
    if !s.ringFull r ∧ (s.ring r).held = [] then s.putRecord r e s.now irq
    else if (s.ring r).held.length < 1024
      then s.setRing r { s.ring r with held := (s.ring r).held ++ [(e, s.now, irq)] }
    else s.dropEvent r

/-- Post an event that belongs to no queue: to ring 0 (R145). -/
def State.post (s : State) (e : Ev) : State := s.postTo 0 e false

/-- An event of the node: no context, no queue. -/
def ev (code : BitVec 8) (st : Status) (i0 i1 : Nat) : Ev := ⟨code, st, false, 0, 0, false, 0, BitVec.ofNat 64 i0, BitVec.ofNat 64 i1⟩

/-- An event with a context and its job. -/
def evCtx (code : BitVec 8) (st : Status) (ctx : BitVec 12) (job : JobId) (i0 i1 : Nat) : Ev :=
  ⟨code, st, true, ctx, job, false, 0, BitVec.ofNat 64 i0, BitVec.ofNat 64 i1⟩

/-- Write the held events that now fit, in order (R147). -/
def State.flushHeld (s : State) (r : Nat) : List (Ev × R64 × Bool) → State
  | [] => s.setRing r { s.ring r with held := [] }
  | (e, t, irq) :: rest =>
    if s.ringFull r then s.setRing r { s.ring r with held := (e, t, irq) :: rest }
    else (s.putRecord r e t irq).flushHeld r rest

/-- Space has freed, or the ring has been enabled: EVENTS_LOST first, then the held events (R147). -/
def State.flushRing (s : State) (r : Nat) : State :=
  let s := s.noteLost r
  s.flushHeld r (s.ring r).held

/-- The bits of QMG_EVT_CFG: those of all its fields; those of LOG2_SIZE, which take effect while EN is 0. -/
def evtCfgBits : R32 := 0xC01FFFFF
def evtSizeBits : R32 := 0x001F0000

/-- EN falls: held events are dropped and counted, and the writes that waited for EN 0 take effect (R147). -/
def State.ringOff (s : State) (r : Nat) : State :=
  let n := (s.ring r).held.length
  let s := (s.incF (F.QMG_EVT_LOST_COUNT r) n).setRing r { s.ring r with held := [], dropped := (s.ring r).dropped + n }
  State.takePart (s.takeWrs [Reg.QMG_EVT_BASE_LO r, Reg.QMG_EVT_BASE_HI r]) (Reg.QMG_EVT_CFG r) evtSizeBits

/-- A write to QMG_EVT_CFG(r) (R147): LOG2_SIZE waits for EN to be 0 (R22); setting EN starts the ring afresh. -/
def State.evtCfgWrite (s : State) (r : Nat) (v : R32) : State :=
  let en0 := s.on (F.QMG_EVT_CFG_EN r)
  let en1 := fget (F.QMG_EVT_CFG_EN r) v == 1
  let s := s.partWr (en0 && en1) (Reg.QMG_EVT_CFG r) evtSizeBits (v &&& evtCfgBits)
  if en0 && !en1 then s.ringOff r
  else if !en0 && en1 then ((s.setF (F.QMG_EVT_TAIL_TAIL r) 0).setF (F.QMG_EVT_TAIL_PHASE r) 1).flushRing r
  else s

/-- A write to QMG_EVT_HEAD(r): space frees (R147). -/
def State.evtHeadWrite (s : State) (r : Nat) (v : R32) : State :=
  let s := s.setF (F.QMG_EVT_HEAD_HEAD r) (fget (F.QMG_EVT_HEAD_HEAD r) v)
  if s.on (F.QMG_EVT_CFG_EN r) then s.flushRing r else s

/-- A ring's base takes effect while EN is 0, else waits (QMG_EVT_BASE). -/
def State.evtBaseWrite (s : State) (r off : Nat) (v : R32) : State :=
  if s.on (F.QMG_EVT_CFG_EN r) then s.keepWr off v else s.wr off v

/-- A ring's hold-off has run its time (R148): the calls made during it raise one vector. -/
def State.holdoffEnd (s : State) (r : Nat) : State :=
  match (s.ring r).holdoff with
  | none => s
  | some t =>
    if !s.due t then s
    else
      let call := (s.ring r).call
      let s := s.setRing r { s.ring r with holdoff := none, call := false }
      if call then s.raise r else s

/-- EVT_CFG_WRITE (R147). -/
def execEvtCfgWrite (ring : BitVec 4) (v : R32) (s : State) : Host.Outcome State Fault Refusal :=
  whenWr s (fun s => s.evtCfgWrite ring.toNat v)

/-- EVT_HEAD_WRITE (R147). -/
def execEvtHeadWrite (ring : BitVec 4) (v : R32) (s : State) : Host.Outcome State Fault Refusal :=
  whenWr s (fun s => s.evtHeadWrite ring.toNat v)

/-- HOLDOFF_EXPIRY (R148). -/
def execHoldoffExpiry (ring : BitVec 4) (s : State) : Host.Outcome State Fault Refusal :=
  whenUp s (fun s => s.holdoffEnd ring.toNat)

end Sys2Proof.Machine
end

