-- ==== Sys2Proof/Machine/Table.lean ====
section
/-!
DEFINITION. The timetable entries in force (R302-R306, R315, R317) and what a port's entry lets it send in the present slot (R301).
-/

namespace Sys2Proof.Machine

/-! ### Sets and entries -/

/-- Where a page of a set begins (R302). -/
def ttBase (set page : Nat) : Nat := (64 * set + page) * 131072

/-- An entry of a table (R304). -/
def State.ttEntry (s : State) (set page i : Nat) : Nat := leNat (Mem.rdN s.mems.tt (ttBase set page + 2 * i) 2)

def kindOf (e : Nat) : Nat := bitsAt e 14 2
def idOf (e : Nat) : Nat := bitsAt e 0 12

/-- The entry is BACKGROUND with a code; its other bits are ignored (R304). -/
def isBg (code e : Nat) : Bool := decide (kindOf e = 2) && decide (idOf e = code)

/-- The background codes (R315). -/
def bgLaneCal : Nat := 1
def bgHome : Nat := 0x10
def bgSediment : Nat := 0x11
def bgDirSweep : Nat := 0x12
def bgTelemetry : Nat := 0x13

/-- An entry of KIND BACKGROUND. -/
def bgEntry (code : Nat) : Nat := 0x8000 + code

/-- Pages of the tables of A4-A7 and whether the port below is split (R302, R315). -/
def State.unsplitUpper (s : State) (page : Nat) : Bool := decide (11 ≤ page ∧ page ≤ 14) && !bitAt s.ep.split.toNat (page - 11)

/-- The built-in default set (R317). -/
def State.defaultEntry (s : State) (page i : Nat) : Nat :=
  if page = 63 then
    if i % 64 = 0 then bgEntry bgHome else if i % 1024 = 32 then bgEntry bgSediment else if i = 48 then bgEntry bgDirSweep
    else if i = 16 then bgEntry bgTelemetry else 0
  else if 1 ≤ page ∧ page ≤ 14 ∧ i = 0 ∧ !s.unsplitUpper page then bgEntry bgLaneCal
  else 0

/-- The active set; none while the default set runs (R302). -/
def State.activeSet (s : State) : Option Nat :=
  if s.on F.DTT_TT_STAT_DEFAULT then none else some (s.f F.DTT_TT_STAT_ACTIVE).toNat

def State.ttLen (s : State) (set : Nat) : Nat := (s.f (F.DTT_TT_LEN_LEN set)).toNat

/-- The entry of a table in force in the present slot (R303, R317): a time load may have set the slot number below that of the swap. -/
def State.entry (s : State) (page : Nat) : Nat :=
  match s.activeSet with
  | none => s.defaultEntry page (s.clk.slot.toNat % 4096)
  | some set => s.ttEntry set page (((s.clk.slot.toNat : Int) - s.dtt.sSwap.toNat) % (s.ttLen set : Int)).toNat

/-- The table page of a port of R496. -/
def portPage (p : Nat) : Nat := p + 1

/-! ### A port's slot -/

/-- The port is one of the two halves of a split attach port. -/
def State.isSplit (s : State) (p : Nat) : Bool := decide (6 ≤ p) && bitAt s.ep.split.toNat ((p - 6) % 4)

/-- Flits of a slot (R301). -/
def State.slotCap (s : State) (p : Nat) : Nat := if s.isSplit p then 156 else 312

/-- The slot is the port's LANE_CAL slot, in which it carries no flits (R315). -/
def State.calSlot (s : State) (p : Nat) : Bool := isBg bgLaneCal (s.entry (portPage p))

def noStaged : Nat → List Staged := fun _ => []
def State.stagedAt (s : State) (p : Nat) : List Staged := sget noStaged s.dtt.staged p
def State.setStaged (s : State) (p : Nat) (l : List Staged) : State :=
  { s with dtt := { s.dtt with staged := sset noStaged s.dtt.staged p l } }

/-- The port's entry lets unscheduled flits go (R305, R306, R324): UNOWNED, or a T port's STREAM with FILL whose staged flits have gone. -/
def State.slotOpen (s : State) (p : Nat) : Bool :=
  let e := s.entry (portPage p)
  decide (kindOf e = 0) ||
    (decide (p < 6) && decide (kindOf e = 1) && bitAt e 13 && !(s.stagedAt p).any (fun f => f.stream.toNat == idOf e))

end Sys2Proof.Machine
end

