-- ==== Sys2Proof/Machine/Wire.lean ====
section
/-!
DEFINITION. Messages and flits as bytes (R157-R166, R522-R524, R533-R535, R542-R546): header units, map units, H0 and H1, control and link
messages, the CRC, and what a receiver reads of a map unit.
-/

namespace Sys2Proof.Machine

/-! ### Units (R158-R166, R543-R545) -/

/-- A unit of two 64-bit words. -/
def unit2 (w0 w1 : Nat) : BitVec 128 := BitVec.ofNat 128 (w0 + w1 * 2 ^ 64)

/-- The data units of a message. -/
def dataUnits (data : Bytes) : List (BitVec 128) :=
  (List.range ((data.length + 15) / 16)).map (fun i => BitVec.ofNat 128 (leNat (slice data (16 * i) 16)))

/-- Data units that a request sends (R162, R250). -/
def reqUnits (opc : BitVec 6) (size : BitVec 4) : Nat :=
  if opc = 2 then (2 ^ size.toNat + 15) / 16
  else if 3 ≤ opc.toNat ∧ opc.toNat ≤ 5 then 1
  else if opc = 6 then 2
  else if opc = 0xB then 4
  else 0

end Sys2Proof.Machine

namespace Sys2Proof

open Sys2Proof.Machine

/-- A torus request's header (R543). -/
def Req.header (r : Req) : List (BitVec 128) :=
  [unit2 (putAt 58 r.opc + putAt 56 r.cls + putAt 52 r.size + putAt 0 r.dpa)
     (putAt 54 r.src + putAt 48 r.dst + putAt 32 r.job + putAt 16 r.seq + putAt 14 r.colour + putAt 13 (bit1 r.ce) + putAt 12 (bit1 r.nc) +
       putAt 11 (bit1 r.nr) + putAt 10 (bit1 r.unord) + putAt 9 (bit1 r.mc) + putAt 8 (bit1 r.way.esc) + putAt 0 r.ew),
   unit2 (putAt 54 r.attr.keySlot + putAt 53 (bit1 r.attr.kgen) + putAt 52 (bit1 r.attr.accum) + putAt 51 (bit1 r.attr.coherent) +
       putAt 50 (bit1 r.attr.mirrored) + putAt 44 r.attr.partner + putAt 42 r.width + putAt 40 r.atype + putAt 24 r.prevSeq + putAt 20 r.iso +
       putAt 17 r.way.dir + putAt 14 r.way.rev + putAt 13 (bit1 r.way.dl))
     (putAt 44 r.tamp.id + putAt 27 r.tamp.n + putAt 26 (bit1 r.tamp.sat) + putAt 25 (bit1 r.tamp.on))]

/-- A torus completion's header (R544). -/
def Cpl.header (c : Cpl) : BitVec 128 :=
  unit2 (putAt 58 c.opc + putAt 56 c.cls + putAt 52 c.size + putAt 48 c.status + putAt 47 (bit1 c.ce) + putAt 46 (bit1 c.sat) +
      putAt 45 (bit1 c.way.esc) + putAt 42 c.way.dir + putAt 39 c.way.rev + putAt 38 (bit1 c.way.dl) + putAt 32 c.src + putAt 22 c.agent +
      putAt 6 c.seq + putAt 4 c.colour + putAt 0 c.iso)
    (putAt 44 c.tampId + putAt 43 (bit1 c.tamped) + putAt 0 c.dst)

/-- A torus snoop's or snoop response's header (R545). -/
def Snp.header (p : Snp) : BitVec 128 :=
  unit2 (putAt 58 p.opc + putAt 52 p.home + putAt 0 p.dpa)
    (putAt 54 p.agent + putAt 38 p.sid + putAt 35 p.way.dir + putAt 32 p.way.rev + putAt 31 (bit1 p.way.dl) + putAt 30 (bit1 p.way.esc) +
      putAt 24 p.dst)

/-- The units of a memory-class message (R159, R543-R545). -/
def TMsg.unitList : TMsg → List (BitVec 128)
  | .req r => r.header ++ dataUnits r.data
  | .cpl c => c.header :: dataUnits c.data
  | .snp p => p.header :: dataUnits p.data

/-- How many units of 16 bytes a memory-class message takes. -/
def TMsg.units : TMsg → Nat
  | .req r => 2 + (r.data.length + 15) / 16
  | .cpl c => 1 + (c.data.length + 15) / 16
  | .snp p => 1 + (p.data.length + 15) / 16

/-- The isolation class a message carries (R560); a snoop carries none and goes with class 0. -/
def TMsg.iso : TMsg → BitVec 3
  | .req r => r.iso
  | .cpl c => c.iso
  | .snp _ => 0

end Sys2Proof

namespace Sys2Proof.Machine

/-! ### What travels (R522, R533) -/

/-- The virtual channel whose credit an item needs; CTRL flits need none (R530). -/
def TxItem.vc : TxItem → Option Nat
  | .mem v _ => some v
  | .att v _ _ _ => some v
  | .report v => some v
  | .sched _ => some 8
  | .ctrl _ => none

/-- The units of a MEM flit's message; none in a flit that only reports (R562). -/
def TxItem.units : TxItem → List (BitVec 128)
  | .mem _ m => m.unitList
  | .att _ w0 w1 d => unit2 w0.toNat w1.toNat :: dataUnits d
  | _ => []

/-- Flits that an item takes, fourteen units each, a message beginning a flit (DESIGN CHOICE, log entry 15). -/
def TxItem.flits : TxItem → Nat
  | .mem _ m => (m.units + 13) / 14
  | .att _ _ _ d => (1 + (d.length + 15) / 16 + 13) / 14
  | .report _ => 1
  | .sched _ => 1
  | .ctrl _ => 1

/-- The pair of VC and isolation class that a flit of the memory class counts for, as 8 * VC + class (R562). -/
def TxItem.pair : TxItem → Option Nat
  | .mem v m => some (8 * v + m.iso.toNat)
  | _ => none

/-- A message of a CTRL or LINK flit: TYPE, LEN, body (R533). -/
def tlv (ty : Nat) (body : Bytes) : Bytes := natLe 1 ty ++ natLe 1 body.length ++ body

/-- The five words of a PORT_ID (R533). -/
def portIdBody (m : PortId) : Bytes :=
  natLe 8 (putAt 62 m.role + putAt 56 m.node + putAt 52 m.port + putAt 46 m.lanes + putAt 45 (bit1 m.encReq) + putAt 44 (bit1 m.encCap)) ++
    (List.range 4).flatMap (fun w => natLe 8 (((List.range 5).map (fun j =>
      if 5 * w + j < 16 then putAt (12 * j) (m.grants.getD (5 * w + j) 0) else 0)).foldl (· + ·) 0))

/-- The nine words of a TIME_HB (R534). -/
def timeHbBody (m : TimeHb) : Bytes :=
  bytes64 [m.txTick, m.echoTick,
    BitVec.ofNat 64 (putAt 57 m.txPhase + putAt 50 m.echoPhase + putAt 42 m.seq + putAt 34 m.echoSeq + putAt 31 m.state + putAt 25 m.root +
      putAt 22 m.hops + putAt 21 (bit1 m.child) + putAt 15 m.k + putAt 9 m.thermK + putAt 8 (bit1 m.fixed)),
    BitVec.ofNat 64 (putAt 48 m.rootSeq + putAt 24 m.delay), m.gridTick, m.gridSlot, m.envTick,
    BitVec.ofNat 64 (putAt 56 m.envSeq + putAt 50 m.kFrom + putAt 44 m.kTo + putAt 28 m.ramp),
    BitVec.ofNat 64 (putAt 32 m.orderSeq + putAt 16 m.inc + putAt 10 m.node + putAt 9 (bit1 m.going) + putAt 8 (bit1 m.probation) +
      putAt 2 m.down)]

/-- A control message (R533). -/
def CtrlMsg.bytes : CtrlMsg → Bytes
  | .portId m => tlv 1 (portIdBody m)
  | .timeHb m => tlv 2 (timeHbBody m)
  | .stop m => tlv 3 (bytes64 [BitVec.ofNat 64 (putAt 0 m.job + putAt 16 m.origin + putAt 22 (bit1 m.resume)), m.time])
  | .orderFrag seq off total data => tlv 4 (natLe 8 (putAt 32 seq + putAt 16 off + putAt 0 total) ++ data)
  | .arrive seq n => tlv 5 (natLe 8 (putAt 0 seq + putAt 8 n))
  | .release seq hasLoad remain val => tlv 6 (bytes64 [BitVec.ofNat 64 (putAt 0 seq + putAt 8 (bit1 hasLoad)), remain, val])

/-- A link message (R533); `credits` is a LINK flit that holds none. -/
def LinkMsg.bytes : LinkMsg → Bytes
  | .nak e => tlv 0x81 (natLe 4 e.toNat)
  | .replay e => tlv 0x82 (natLe 4 e.toNat)
  | .tag f kgen n mac => tlv 0x83 (natLe 8 f.toNat ++ natLe 1 (b2n kgen) ++ natLe 2 n.toNat ++ [0] ++ natLe 16 mac.toNat)
  | .quietReq => tlv 0x84 []
  | .quietAck => tlv 0x85 []
  | .deepReq => tlv 0x86 []
  | .deepAck => tlv 0x87 []
  | .credits => []

/-! ### Flits (R160, R522-R524, R546) -/

/-- A credit report of H1: a VC and the flits freed on it (R524). -/
abbrev Freed := Nat × BitVec 12

/-- H1: the VC and up to two credit fields (R524). -/
def h1Of (vc : Nat) (cr : List Freed) : Nat :=
  let field (x : Option Freed) (v lo fl : Nat) : Nat := match x with | some (c, n) => 2 ^ v + c * 2 ^ lo + n.toNat * 2 ^ fl | none => 0
  vc * 2 ^ 60 + field cr[0]? 59 55 43 + field cr[1]? 42 38 26

/-- The map unit of a torus flit: FNUM, START, up to two isolation credit fields of pairs (R546). -/
def torusMap (fnum : BitVec 8) (start : Nat) (cr : List Freed) : BitVec 128 :=
  let field (x : Option Freed) (v lo cl fl : Nat) : Nat :=
    match x with | some (k, n) => 2 ^ v + k / 8 * 2 ^ lo + k % 8 * 2 ^ cl + n.toNat * 2 ^ fl | none => 0
  BitVec.ofNat 128 (putAt 120 fnum + start * 2 ^ 83 + field cr[0]? 82 79 76 64 + field cr[1]? 63 60 57 45)

/-- The map unit of a flit to an attach agent: FNUM, START, the answer it carries (R160). -/
def attachMap (fnum : BitVec 8) (start : Nat) (ans : Option (BitVec 8 × BitVec 14)) : BitVec 128 :=
  BitVec.ofNat 128 (putAt 120 fnum + start * 2 ^ 83 + (match ans with | some (f, a) => putAt 112 f + 2 ^ 111 + putAt 97 a | none => 0))

/-- A flit as it is kept: H0 with neither ACK nor CRC, then 248 bytes (R499 stage 1, R523). -/
def flitOf (ftype : Nat) (stream : BitVec 12) (slot : BitVec 8) (rest : Bytes) : Bytes :=
  natLe 4 (ftype * 2 ^ 30 + putAt 8 stream + putAt 0 slot) ++ zeros 4 ++ slice rest 0 248

/-- The `j`-th flit of an item, with what rides in it: its credit reports, isolation reports, FNUM. -/
def TxItem.flit (it : TxItem) (torus : Bool) (j : Nat) (cr iso : List Freed) (fnum : BitVec 8) : Bytes :=
  let us := (it.units.drop (14 * j)).take 14
  let start := if j = 0 ∧ us ≠ [] then 1 else 0
  let m := if torus then torusMap fnum start iso else attachMap fnum start none
  let mem (vc : Nat) : Bytes := flitOf 1 0 0 (natLe 8 (h1Of vc cr) ++ natLe 16 m.toNat ++ us.flatMap (fun u => natLe 16 u.toNat))
  match it with
  | .mem vc _ => mem vc
  | .att vc _ _ _ => mem vc
  | .report vc => mem vc
  | .sched f => flitOf 2 f.stream f.slot f.data
  | .ctrl c => flitOf 3 0 0 (natLe 8 (h1Of 0 cr) ++ c.bytes)

/-- A LINK flit (R523). -/
def linkFlit (m : LinkMsg) (cr : List Freed) : Bytes := flitOf 0 0 0 (natLe 8 (h1Of 0 cr) ++ m.bytes)

/-- One step of CRC-32C, reflected (R522). -/
def crcStep (c : R32) : Nat → R32
  | 0 => c
  | n + 1 => crcStep (if c.getLsbD 0 then (c >>> 1) ^^^ 0x82F63B78 else c >>> 1) n

/-- CRC-32C of a run of bytes. -/
def crc32c (bs : Bytes) : R32 := ~~~ (bs.foldl (fun c b => crcStep (c ^^^ b.setWidth 32) 8) 0xFFFFFFFF)

/-- The CRC that a flit must carry: over bytes 0-3 then 8-255 (R522). -/
def flitCrc (f : Bytes) : R32 := crc32c (slice f 0 4 ++ slice f 8 248)

/-- The CRC of a flit is good (R522). -/
def flitGood (f : Bytes) : Bool := decide (f.length = 256) && decide (leNat (slice f 4 4) = (flitCrc f).toNat)

/-- The ACK of a flit that leaves (R525): a quarter of the numbered flits received in order. -/
def withAck (f : Bytes) (ack : BitVec 10) : Bytes := natLe 4 (leNat (slice f 0 4) + putAt 20 ack) ++ slice f 4 252

/-- The CRC of a flit that leaves. -/
def withCrc (f : Bytes) : Bytes := slice f 0 4 ++ natLe 4 (flitCrc f).toNat ++ slice f 8 248

/-- Where the ciphertext of a flit begins (R535): MEM and CTRL carry H1 in clear. -/
def cipherFrom (f : Bytes) : Nat := if bitsAt (leNat (slice f 0 4)) 30 2 = 2 then 8 else 16
def clearOf (f : Bytes) : Bytes := slice f 0 4 ++ slice f 8 (cipherFrom f - 8)
def cipherOf (f : Bytes) : Bytes := slice f (cipherFrom f) (256 - cipherFrom f)

/-- A flit with other bytes in place of its encrypted ones. -/
def withCipher (f ct : Bytes) : Bytes := slice f 0 (cipherFrom f) ++ slice ct 0 (256 - cipherFrom f)

/-! ### What a torus receiver reads of a MEM flit (R159, R546, R562) -/

/-- The units of a MEM flit. -/
def unitsOfFlit (f : Bytes) : List (BitVec 128) := (List.range 14).map (fun i => BitVec.ofNat 128 (leNat (slice f (32 + 16 * i) 16)))

/-- The map unit of a MEM flit. -/
def mapOfFlit (f : Bytes) : Nat := leNat (slice f 16 16)

/-- The isolation reports of a map unit: pairs and flits freed. -/
def isoReports (m : Nat) : List Freed :=
  (if bitAt m 82 then [(8 * bitsAt m 79 3 + bitsAt m 76 3, fieldAt 12 m 64)] else []) ++
    (if bitAt m 63 then [(8 * bitsAt m 60 3 + bitsAt m 57 3, fieldAt 12 m 45)] else [])

/-- A VC of requests, of completions and snoop responses (R542). -/
def vcReq (vc : Nat) : Bool := decide (vc = 0 ∨ vc = 1 ∨ vc = 6)
def vcRsp (vc : Nat) : Bool := decide (vc = 2 ∨ vc = 3 ∨ vc = 7)

/-- The units of the message that a header unit begins on a VC. -/
def headerUnits (vc : Nat) (u : BitVec 128) : Nat :=
  let opc : BitVec 6 := fieldAt 6 u.toNat 58
  let size : BitVec 4 := fieldAt 4 u.toNat 52
  if vcReq vc then 2 + reqUnits opc size
  else if opc = 0x31 then 1 + (2 ^ size.toNat + 15) / 16
  else if opc = 0x29 then 5
  else 1

/-- Units still to come of the message in progress on a VC, and its class. -/
abbrev InFlight := Nat × BitVec 3

/-- The class that a header names (R543, R544): a request's stands in its second unit; snoops and their responses have class 0. -/
def headerClass (vc : Nat) (u : BitVec 128) (next : Option (BitVec 128)) (old : BitVec 3) : BitVec 3 :=
  if vcReq vc then (match next with | some v => fieldAt 3 v.toNat 20 | none => old)
  else if vcRsp vc ∧ bitsAt u.toNat 58 6 ≠ 0x28 ∧ bitsAt u.toNat 58 6 ≠ 0x29 then fieldAt 3 u.toNat 0
  else 0

/-- Walk the units of a flit: the message in progress after it, and the class of the first one that begins in it. -/
def walkUnits (vc start : Nat) : Nat → List (BitVec 128) → InFlight → Option (BitVec 3) → InFlight × Option (BitVec 3)
  | _, [], x, c => (x, c)
  | i, u :: us, x, c =>
    if bitAt start i then
      let k := headerClass vc u us[0]? x.2
      walkUnits vc start (i + 1) us (headerUnits vc u - 1, k) (some (c.getD k))
    else walkUnits vc start (i + 1) us (x.1 - 1, x.2) c

end Sys2Proof.Machine
end

