-- ==== Sys2Proof/Machine/Link.lean ====
section
/-!
DEFINITION. Sending on a torus or attach port (R499-R503, R522-R537, R562): numbering, the replay store, credits, slots, frames, and the
coded stream. What cannot go yet waits in the port's queue. Ports are numbered as in R496: 0-5 are T0-T5 and 6-13 are A0-A7.
-/

namespace Sys2Proof.Machine

/-- The link layer of a port that has never trained. -/
def lport0 : Nat → LPort := fun _ =>
  { full := true, shortFails := 0, fullFails := 0, since := 0, txNum := 0, kept := [], queue := [], grants := [], sent := [], freed := [],
    rxFreed := [], rxNum := 0, nak := none, naks := 0, nakAt := 0, frame := [], frameF := 0, frameGen := false, firstFrame := false, goodAt := 0,
    failed := [], missed := [], corr := [], ms := 0, peer := none, rxIndex := 0, txF := 0, txIn := 0, fnum := 0, due := [], linkq := [],
    slotAt := 0, slotUsed := 0, ctrlAt := [], txKey := [], txAad := [], txPt := [], iso := ⟨[], [], [], [], []⟩,
    phy := ⟨[], [], BitVec.allOnes 58, 0, BitVec.allOnes 58, [], [], 0⟩ }

def State.lp (s : State) (p : Nat) : LPort := sget lport0 s.lan.ports p
def State.setLp (s : State) (p : Nat) (v : LPort) : State := { s with lan := { s.lan with ports := sset lport0 s.lan.ports p v } }

/-! Port states (LAN_P_STAT). -/
def pOff : BitVec 4 := 0
def pTest : BitVec 4 := 1
def pTraining : BitVec 4 := 2
def pUp : BitVec 4 := 3
def pProbation : BitVec 4 := 4
def pQuiet : BitVec 4 := 5
def pDeep : BitVec 4 := 6
def pHeld : BitVec 4 := 7
def pFailed : BitVec 4 := 8

def State.pState (s : State) (p : Nat) : BitVec 4 := s.f (F.LAN_P_STAT_STATE p)

/-! ### Ports and lanes (R35, R36) -/

/-- Lanes of a port; the upper half of an unsplit port has none. -/
def State.width (s : State) (p : Nat) : Nat := if s.isSplit p then 24 else if 10 ≤ p then 0 else 48

/-- First device lane of a port (R35, R36). -/
def firstLane (p : Nat) : Nat := if p < 10 then 48 * p else 48 * (p - 4) + 24

def State.laneOf (s : State) (p : Nat) : List Nat := (List.range (s.width p)).map (· + firstLane p)

/-- The torus or attach port that a device lane belongs to; lanes 480 to 511 are those of E0 to E3 (R35). -/
def State.portOfLane (s : State) (i : Nat) : Option Nat :=
  if 480 ≤ i then none else if s.isSplit (i / 48) ∧ 24 ≤ i % 48 then some (i / 48 + 4) else some (i / 48)

/-- The eight device lanes of an Ethernet port (R35). -/
def ethLanes (e : Nat) : List Nat := (List.range 8).map (· + (480 + 8 * e))

/-- The Ethernet port that a device lane belongs to (R35). -/
def ethOfLane (i : Nat) : Option Nat := if 480 ≤ i ∧ i < 512 then some ((i - 480) / 8) else none

/-- Set the state of a port's lanes (LAN_L_STAT). -/
def State.lanes (s : State) (p : Nat) (st : BitVec 2) : State :=
  (s.laneOf p).foldl (fun s i => s.setF (F.LAN_L_STAT_STATE i) st) s

def laActive : BitVec 2 := 0
def laQuiet : BitVec 2 := 1
def laDeep : BitVec 2 := 2
def laTraining : BitVec 2 := 3

def State.toState (s : State) (p : Nat) (st : BitVec 4) (lanes : BitVec 2) : State := (s.setF (F.LAN_P_STAT_STATE p) st).lanes p lanes

/-- The port carries flits: UP or in PROBATION. -/
def State.trained (s : State) (p : Nat) : Bool := decide (s.pState p = pUp) || decide (s.pState p = pProbation)

def noSent : Nat → Nat := fun _ => 0
def noFreed : Nat → BitVec 12 := fun _ => 0

/-- Credits left on a VC (R532): the grant less what is sent and not freed, modulo 4,096. -/
def LPort.credit (l : LPort) (vc : Nat) : Nat :=
  (l.grants.getD vc 0).toNat - (BitVec.ofNat 12 (sget noSent l.sent vc) - sget noFreed l.freed vc).toNat

/-- Numbered flits kept for replay (R526). -/
def LPort.keptFlits (l : LPort) : Nat := (l.kept.map (fun k => k.2.1.flits)).foldl (· + ·) 0

/-- The enabled isolation classes; none enabled acts as class 0 (SWC_CTL). -/
def State.isoMask (s : State) : BitVec 8 :=
  let m := s.e F.SWC_CTL_CLASSES
  if m = 0 then 1 else m

/-- How many isolation classes are enabled (R561). -/
def State.isoCount (s : State) : Nat := ((List.range 8).filter (fun i => bitAt s.isoMask.toNat i)).length

/-- Isolated mode is in force (R561). -/
def State.isolated (s : State) : Bool := s.e F.SWC_CTL_ISO == 1

/-- Credits left to a pair of VC and class in isolated mode (R562): its share of the grant less what is sent and not freed. -/
def State.pairCredit (s : State) (l : LPort) (k : Nat) : Nat :=
  (l.grants.getD (k / 8) 0).toNat / max 1 s.isoCount - (BitVec.ofNat 12 (sget noSent l.iso.sent k) - sget noFreed l.iso.freed k).toNat

/-- Both credits of an item allow it (R530, R562). -/
def State.hasCredit (s : State) (l : LPort) (it : TxItem) : Bool :=
  (match it.vc with | some v => decide (it.flits ≤ l.credit v) | none => true) &&
    (match it.pair with | some k => !s.isolated || decide (it.flits ≤ s.pairCredit l k) | none => true)

/-- Flits that a port has sent in the present slot (R301). -/
def State.slotUsed (s : State) (l : LPort) : Nat := if l.slotAt = s.clk.slot then l.slotUsed else 0

/-- CTRL flits of the last 4,096 flit cycles: 207 ticks of an unsplit port, 415 of a split one (R530). -/
def State.recentCtrl (s : State) (p : Nat) (l : LPort) : List R64 :=
  l.ctrlAt.filter (fun t => decide (s.now.toNat - t.toNat < (if s.isSplit p then 415 else 208)))

/-- An item may go now: the replay store and its credits have room (R526, R530, R562), the slot has cycles left and its entry admits it
(R301, R305, R306, R324); at most 64 CTRL flits go in 4,096 cycles. -/
def State.mayGo (s : State) (p : Nat) (it : TxItem) : Bool :=
  let l := s.lp p
  decide (l.keptFlits + it.flits ≤ 4096) && s.hasCredit l it && decide (s.slotUsed l + it.flits ≤ s.slotCap p) &&
    (match it with
      | .sched _ => true
      | .ctrl _ => s.slotOpen p && decide ((s.recentCtrl p l).length < 64)
      | _ => s.slotOpen p)

/-- The request tables (R161, R171): fields of an entry's header. -/
def Ent.opc (e : Ent) : BitVec 6 := fieldAt 6 e.w0.toNat 58
def Ent.cls (e : Ent) : BitVec 2 := fieldAt 2 e.w0.toNat 56
def Ent.handle (e : Ent) : BitVec 4 := fieldAt 4 e.w0.toNat 52
def Ent.tag (e : Ent) : BitVec 12 := fieldAt 12 e.w0.toNat 40
def Ent.size (e : Ent) : BitVec 4 := fieldAt 4 e.w0.toNat 36
def Ent.nc (e : Ent) : Bool := bitAt e.w0.toNat 35
def Ent.nr (e : Ent) : Bool := bitAt e.w0.toNat 34
def Ent.unord (e : Ent) : Bool := bitAt e.w0.toNat 33
def Ent.ew (e : Ent) : BitVec 8 := fieldAt 8 e.w0.toNat 24
def Ent.wid (e : Ent) : BitVec 2 := fieldAt 2 e.w0.toNat 22
def Ent.atype (e : Ent) : BitVec 2 := fieldAt 2 e.w0.toNat 20
def Ent.fscope (e : Ent) : BitVec 4 := fieldAt 4 e.w0.toNat 16
def Ent.bytes (e : Ent) : Nat := 2 ^ e.size.toNat
def Ent.coh (e : Ent) : Bool := decide (8 ≤ e.opc.toNat ∧ e.opc.toNat ≤ 0xC)
def Ent.isFence (e : Ent) : Bool := decide (e.opc = 7)

/-- The request has not completed: its entry is not one that only waits for its completion to leave (R171). -/
def Ent.live (e : Ent) : Bool := decide (e.st ≠ .leaving)

/-- Change an entry of the request table. -/
def State.setEnt (s : State) (id : Nat) (f : Ent → Ent) : State :=
  { s with ep := { s.ep with ents := s.ep.ents.map (fun e => if e.id = id then f e else e) } }

/-- The entry is free; while a defer chain is open it is held for that class (R175). -/
def State.freeEnt (s : State) (e : Ent) : State :=
  let s := { s with ep := { s.ep with ents := dropWhere (fun x => decide (x.id = e.id)) s.ep.ents } }
  match s.ep.chains.find? (fun x => decide (x.port = e.port) && (e.shared || x.cls == e.cls)) with
  | some x => { s with ep := { s.ep with reserved := s.ep.reserved ++ [⟨e.port, x.cls, e.shared, e.iso⟩] } }
  | none => s

/-- A completion leaves an attach port, or is discarded there (R466): the entry that it held is free (R171). -/
def State.leftPort (s : State) (p : Nat) (it : TxItem) : State :=
  match it with
  | .att 1 w0 _ _ =>
    match s.ep.ents.find? (fun e => decide (e.port + 6 = p) && !e.live && e.tag == fieldAt 12 w0.toNat 40) with
    | some e => s.freeEnt e
    | none => s
  | _ => s

/-! ### Link keys (R595-R600) and frames (R536, R537) -/

def noSeed : Nat → Option Bytes := fun _ => none

/-- SEED_ERASED (R612). -/
def evSeedErased (p : Nat) (first : Bool) (n : R32) : Ev := ev 0xC1 stOk (2 ^ 16 * p + b2n first) n.toNat

/-- The port holds a seed, in use or loaded for its next training. -/
def State.hasSeed (s : State) (p : Nat) : Bool := (sget noSeed s.sec.seeds p).isSome || (sget noSeed s.sec.newSeeds p).isSome

/-- SEC_PORT_ST.SEED shows whether the port holds a seed. -/
def State.showSeed (s : State) (p : Nat) : State := s.setF (F.SEC_PORT_ST_SEED p) (bit1 (s.hasSeed p))

/-- The seed in use is erased under R600 or because its index is exhausted. -/
def State.loseSeed (s : State) (p : Nat) (first : Bool) (n : R32) : State :=
  let s := State.showSeed { s with sec := { s.sec with seeds := sset noSeed s.sec.seeds p none } } p
  (if first then s.setF (F.SEC_PORT_ST_ERASED p) 1 else s).post (evSeedErased p first n)

/-- Indices start again with a new seed. -/
def State.newIndices (s : State) (p : Nat) : State :=
  (s.setF (F.SEC_PORT_N_TX_N p) 0).setLp p { s.lp p with rxIndex := 0, txF := 0 }

/-- A seed loaded while the port was trained takes effect at the port's next training. -/
def State.takeSeed (s : State) (p : Nat) : State :=
  match sget noSeed s.sec.newSeeds p with
  | none => s
  | some b => State.newIndices { s with sec := { s.sec with
      seeds := sset noSeed s.sec.seeds p (some b), newSeeds := sset noSeed s.sec.newSeeds p none } } p

/-- The ID of this node's end of a port, and of the peer's (R597). -/
def State.endId (s : State) (p : Nat) : Nat := 0x8000 + 16 * s.node.toNat + p
def State.peerId (s : State) (p : Nat) : Nat :=
  if p < 6 then 0x8000 + 16 * (neighbour s.node p).toNat + peerPort p else (s.agent (BitVec.ofNat 4 (p - 6))).toNat

/-- The bytes of an ASCII string. -/
def ascii (t : String) : Bytes := t.toList.map (fun c => BitVec.ofNat 8 c.toNat)

/-- A number in `n` bytes, most significant first. -/
def natBe (n x : Nat) : Bytes := (natLe n x).reverse

/-- Key and SALT of index n of a direction (R597). -/
def linkKey (seed : Bytes) (tx rx : Nat) (n : R32) : Bytes :=
  slice (Config.hkdf seed [] (ascii "STL-LINK" ++ natBe 2 tx ++ natBe 2 rx ++ natBe 4 n.toNat) 36) 0 36

/-- The transmit index advances by one and its key takes effect (R597, R598); at 2^32 - 1 the seed is erased. -/
def State.advTx (s : State) (p : Nat) : State :=
  let s := s.incF (F.SEC_PORT_N_TX_N p) 1
  let n := s.f (F.SEC_PORT_N_TX_N p)
  let key := match sget noSeed s.sec.seeds p with | some seed => linkKey seed (s.endId p) (s.peerId p) n | none => (s.lp p).txKey
  let s := s.setLp p { s.lp p with txF := 0, txKey := key }
  if s.f (F.SEC_PORT_N_TX_N p) = 0xFFFFFFFF then s.loseSeed p false 0xFFFFFFFF else s

/-- The receive index advances by one. -/
def State.advRx (s : State) (p : Nat) : State :=
  let s := s.setLp p { s.lp p with rxIndex := (s.lp p).rxIndex + 1 }
  if (s.lp p).rxIndex = 0xFFFFFFFF then s.loseSeed p false 0xFFFFFFFF else s

/-! ### Flits that leave (R499) -/

/-- Up to `n` VCs whose FREED is to be reported, the longest due first, and the port with those reported (R532). -/
def LPort.report (l : LPort) (n : Nat) : List Freed × LPort :=
  ((l.due.take n).map (fun v => (v, sget noFreed l.rxFreed v)), { l with due := l.due.drop n })

/-- Up to two pairs to report in a torus map unit (R546, R562). -/
def LPort.isoReport (l : LPort) : List Freed × LPort :=
  ((l.iso.due.take 2).map (fun k => (k, sget noFreed l.iso.rx k)), { l with iso := { l.iso with due := l.iso.due.drop 2 } })

/-- The flits of an item from the `j`-th on, `n` of them, as they are kept; FNUM counts each (R160). -/
def LPort.build (l : LPort) (torus isolated : Bool) (it : TxItem) : Nat → Nat → List Bytes × LPort
  | 0, _ => ([], l)
  | n + 1, j =>
    let (cr, l) := match it with | .sched _ => ([], l) | _ => l.report 2
    let (iso, l) := match it with | .mem _ _ => (if isolated then l.isoReport else ([], l)) | .report _ => l.isoReport | _ => ([], l)
    let f := it.flit torus j cr iso l.fnum
    let (fs, l) := LPort.build { l with fnum := l.fnum + 1 } torus isolated it n (j + 1)
    (f :: fs, l)

/-- One plain flit as it leaves: ACK written, encrypted as part of the open frame, the CRC computed (R499 stage 2, R525, R535-R537). -/
def State.seal (s : State) (p : Nat) (f : Bytes) : Bytes × State :=
  let l := s.lp p
  let f := withAck f (BitVec.ofNat 10 (l.rxNum.toNat / 4))
  let numbered := decide (bitsAt (leNat (slice f 0 4)) 30 2 ≠ 0)
  if s.on (F.LAN_P_STAT_ENC_ON p) ∧ numbered then
    let aad := l.txAad ++ clearOf f
    let pt := l.txPt ++ cipherOf f
    let ct := (Config.gcmSeal (l.txKey.take 32) (l.txKey.drop 32 ++ natBe 8 l.txF.toNat) aad pt).1
    (withCrc (withCipher f (ct.drop l.txPt.length)), s.setLp p { l with txAad := aad, txPt := pt, txIn := l.txIn + 1 })
  else (withCrc f, s)

/-- Flits go to the lanes, in order. -/
def State.sealAll (s : State) (p : Nat) : List Bytes → List Bytes × State
  | [] => ([], s)
  | f :: fs =>
    let (g, s) := s.seal p f
    let s := s.setLp p { s.lp p with phy := { (s.lp p).phy with wire := (s.lp p).phy.wire ++ [g] } }
    let (gs, s) := s.sealAll p fs
    (g :: gs, s)

/-- A LINK flit leaves, with the credit fields that are due (R523, R524). -/
def State.linkNow (s : State) (p : Nat) (m : LinkMsg) : State :=
  let (cr, l) := (s.lp p).report 2
  let (fs, s) := (s.setLp p { l with fnum := l.fnum + 1 }).sealAll p [linkFlit m cr]
  s.emit (.link p m (fs.headD []))

/-- Send a link message; in a LANE_CAL slot, which carries no flit, it waits (R315). -/
def State.sendLink (s : State) (p : Nat) (m : LinkMsg) : State :=
  if s.calSlot p then s.setLp p { s.lp p with linkq := (s.lp p).linkq ++ [m] } else s.linkNow p m

/-- The link messages that waited go. -/
def State.flushLink (s : State) (p : Nat) : State :=
  if s.calSlot p then s
  else
    let q := (s.lp p).linkq
    if q = [] then s else q.foldl (fun s m => s.linkNow p m) (s.setLp p { s.lp p with linkq := [] })

/-- The open frame of a port is closed by a TAG over its flits (R536, R537). The transmitter rekeys before the frame counter reaches
2^40 (R599). -/
def State.closeFrame (s : State) (p : Nat) : State :=
  let l := s.lp p
  if !s.on (F.LAN_P_STAT_ENC_ON p) ∨ l.txIn = 0 then s
  else
    let mac := (Config.gcmSeal (l.txKey.take 32) (l.txKey.drop 32 ++ natBe 8 l.txF.toNat) l.txAad l.txPt).2
    let s := (s.setLp p { l with txIn := 0, txAad := [], txPt := [], txF := l.txF + 1 }).sendLink p
      (.tag l.txF ((s.f (F.SEC_PORT_N_TX_N p)).getLsbD 0) (BitVec.ofNat 16 l.txIn) (BitVec.ofNat 128 (leNat (slice mac 0 16))))
    if 2 ^ 40 ≤ l.txF.toNat + 1 then s.advTx p else s

/-- Count an item against its credits, its slot and the CTRL bound (R301, R530, R562). -/
def State.spend (s : State) (p : Nat) (l : LPort) (it : TxItem) : LPort :=
  let sent := match it.vc with | some v => sset noSent l.sent v (sget noSent l.sent v + it.flits) | none => l.sent
  let iso := match it.pair with
    | some k => { l.iso with sent := sset noSent l.iso.sent k (sget noSent l.iso.sent k + it.flits) }
    | none => l.iso
  let ctrl := match it with | .ctrl _ => s.recentCtrl p l ++ [s.now] | _ => l.ctrlAt
  { l with sent := sent, iso := iso, ctrlAt := ctrl, slotAt := s.clk.slot, slotUsed := s.slotUsed l + it.flits }

/-! ### Stamps (R294, R528, R534) -/

/-- An instant in phase units: 112 to a tick (R279). -/
def unitsOf (t : R64) (ph : BitVec 7) : Nat := t.toNat * 112 + ph.toNat
def State.units (s : State) : Nat := unitsOf s.clk.now s.clk.phase

def noPort : Nat → PortTime := fun _ =>
  ⟨false, 0, 0, ⟨0, 0⟩, 0, 0, 0, 7, false, false, 16, 0, 0, []⟩
def State.pt (s : State) (p : Nat) : PortTime := sget noPort s.dtt.ports p
def State.setPt (s : State) (p : Nat) (v : PortTime) : State := { s with dtt := { s.dtt with ports := sset noPort s.dtt.ports p v } }

/-- Link delay of a port in phase units (DTT_PORT_LAG). -/
def State.delay (s : State) (p : Nat) : Nat := (s.f (F.DTT_PORT_LAG_DELAY p)).toNat

/-- What the lane die writes as an item leaves: a time message's stamp, which this node keeps for the peer's echo (R283, R534), and what
then remains of a RELEASE's delay at the other end (R294). -/
def State.stamp (s : State) (p : Nat) (it : TxItem) : TxItem × State :=
  match it with
  | .ctrl (.timeHb m) =>
    let t := s.pt p
    (.ctrl (.timeHb { m with txTick := s.now, txPhase := s.clk.phase }),
      s.setPt p { t with sent := ((m.seq, ⟨s.now, s.clk.phase⟩) :: t.sent.filter (fun e => e.1 != m.seq)).take 16 })
  | .ctrl (.release seq hl remain val) =>
    match s.dtt.firing with
    | some f => (if f.seq = seq ∧ !f.late then .ctrl (.release seq hl (BitVec.ofInt 64 ((f.units : Int) - s.units - s.delay p)) val)
        else .ctrl (.release seq hl remain val), s)
    | none => (it, s)
  | _ => (it, s)

/-- A kept flit of an item with the item's stamps as they are now (R528). -/
def TxItem.restamp (it : TxItem) (f : Bytes) : Bytes :=
  match it with
  | .ctrl (.timeHb m) => slice f 0 16 ++ slice (CtrlMsg.timeHb m).bytes 0 240
  | .ctrl (.release a b c d) => slice f 0 16 ++ slice (CtrlMsg.release a b c d).bytes 0 240
  | _ => f

/-- Number an item, keep its flits for replay, take its credits, send it (R499, R523, R530). How many idle flits FNUM has counted since
the last flit is free (R160; DESIGN CHOICE, log entry 15). -/
def State.sendNow (s : State) (p : Nat) (it : TxItem) : State :=
  let (it, s) := s.stamp p it
  let (w, s) := s.drawWord
  let l := s.lp p
  let (fs, l') := LPort.build { l with fnum := l.fnum + w.setWidth 8 } (decide (p < 6)) s.isolated it it.flits 0
  let l' := s.spend p { l' with txNum := l.txNum + BitVec.ofNat 32 it.flits, kept := l.kept ++ [(l.txNum, it, fs)] } it
  let (gs, s) := (s.setLp p l').sealAll p fs
  (s.emit (.flit p l.txNum it gs)).leftPort p it

/-- Send what may go of a port's queue, in order within each VC. -/
def State.pump (s : State) (p : Nat) : List TxItem → State
  | [] => s
  | it :: rest =>
    let s := if s.mayGo p it then s.sendNow p it else s.setLp p { s.lp p with queue := (s.lp p).queue ++ [it] }
    s.pump p rest

/-- A port leaves QUIET (R507): each lane sends two commas, and the stream goes on where it stopped. -/
def State.resume (s : State) (p : Nat) : State := ((s.toState p pUp laActive).emit (.comma p commaBlock)).emit (.comma p commaBlock)

/-- Send an item on a port, or let it wait for a credit or for room; a port in QUIET resumes signalling first (R508). -/
def State.tx (s : State) (p : Nat) (it : TxItem) : State :=
  let s := if s.pState p = pQuiet then s.resume p else s
  let q := (s.lp p).queue
  (s.setLp p { s.lp p with queue := [] }).pump p (q ++ [it])

/-- A credit or an acknowledgement came: what waited goes on. -/
def State.repump (s : State) (p : Nat) : State :=
  let q := (s.lp p).queue
  (s.setLp p { s.lp p with queue := [] }).pump p q

/-- A message to an attach agent; while its port's link is down it is discarded at the port (R466). -/
def State.toAttach (s : State) (port : Nat) (vc : Nat) (w0 w1 : R64) (data : Bytes) : State :=
  let it := TxItem.att vc w0 w1 data
  if s.trained (6 + port) || decide (s.pState (6 + port) = pQuiet) then s.tx (6 + port) it else s.leftPort (6 + port) it

/-- A control message on a torus port; while the link is not trained it is not sent. -/
def State.ctrl (s : State) (p : Nat) (m : CtrlMsg) : State := if s.trained p then s.tx p (.ctrl m) else s

/-- A buffer of a VC is free: its FREED is to be reported (R532). -/
def LPort.free (l : LPort) (vc : Nat) : LPort :=
  { l with rxFreed := sset noFreed l.rxFreed vc (sget noFreed l.rxFreed vc + 1), due := if l.due.contains vc then l.due else l.due ++ [vc] }

/-- A MEM flit leaves its input buffer for the switch: its credit returns (R532). -/
def State.freeVc (s : State) (p vc : Nat) : State := s.setLp p ((s.lp p).free vc)

/-- The memory VC of a torus port with the most credit (R562). -/
def LPort.richest (l : LPort) : Nat := (List.range 8).foldl (fun b v => if l.credit b < l.credit v then v else b) 0

/-- What a port's lanes have to report goes in a flit of its own, where no other has taken it (R532, R562): a MEM flit with no message for
the pairs, in isolated mode, a LINK flit for the VCs. -/
def State.reports (s : State) (p : Nat) : State :=
  let it := TxItem.report (s.lp p).richest
  let s := if p < 6 ∧ s.isolated ∧ (s.lp p).iso.due ≠ [] ∧ s.mayGo p it then s.sendNow p it else s
  if (s.lp p).due = [] ∨ s.calSlot p then s else s.linkNow p .credits

/-- The next group of a port's stream, where its flits fill one (R499-R502). Idle flits are not shown (DESIGN CHOICE, log entry 101). -/
def State.laneGroup (s : State) (p : Nat) : State :=
  let l := s.lp p
  if l.phy.bits.length + 2056 * l.phy.wire.length < 21760 then s
  else
    let (b, scr) := scramble l.phy.scr (l.phy.wire.flatMap flitBlocks)
    let b := l.phy.bits ++ b
    (s.setLp p { l with phy := { l.phy with wire := [], bits := b.drop 21760, scr := scr } }).emit (.group p (portLevels (s.width p) (encodeGroup 544 32 (b.take 21760))))

/-- A tick of a port's lanes (R503): their symbol stream moves on, but for calibration runs and QUIET, and a comma goes out at its count. -/
def State.laneTick (s : State) (p : Nat) : State :=
  if !s.trained p ∨ s.calSlot p then s
  else
    let l := s.lp p
    let n := l.phy.lane + laneTickBits
    let s := s.setLp p { l with phy := { l.phy with lane := if commaEvery ≤ n then n - commaEvery else n } }
    let s := if commaEvery ≤ n then s.emit (.comma p commaBlock) else s
    let s := (s.flushLink p).reports p
    (if (s.lp p).queue = [] then s else s.repump p).laneGroup p

/-- A control message on every trained torus port but one. -/
def State.ctrlAll (s : State) (m : CtrlMsg) (but : Option Nat) : State :=
  (upto (fun p s => if some p = but then s else s.ctrl p m) 6 s)

end Sys2Proof.Machine
end

