-- ==== Sys2Proof/Machine/Xlt.lean ====
section
/-!
DEFINITION. Translation at the sender (R59-R102): range tables, presence bits, the checks of R78, table commits and drains.
-/

namespace Sys2Proof.Machine

/-- A range table entry (R68). -/
structure RangeE where
  vaStart : Nat
  keyGen : Bool
  accum : Bool
  coherent : Bool
  mirrored : Bool
  a : Bool
  w : Bool
  r : Bool
  valid : Bool
  partner : NodeId
  keySlot : BitVec 10
  len : Nat
  dpaBase : Dpa
  presEn : Bool
  presWord : Nat
  half : Nat
  deriving DecidableEq, Repr

/-- Read a range table entry by its index in the region of both halves (R68, R73). -/
def State.rangeAt (s : State) (i : Nat) : RangeE :=
  let w0 := leNat (Mem.rdN s.mems.rt (32 * i) 8)
  let w1 := leNat (Mem.rdN s.mems.rt (32 * i + 8) 8)
  let w2 := leNat (Mem.rdN s.mems.rt (32 * i + 16) 8)
  let w3 := leNat (Mem.rdN s.mems.rt (32 * i + 24) 8)
  { vaStart := 4096 * bitsAt w0 12 45, keyGen := bitAt w0 7, accum := bitAt w0 6, coherent := bitAt w0 5,
    mirrored := bitAt w0 4, a := bitAt w0 3, w := bitAt w0 2, r := bitAt w0 1, valid := bitAt w0 0,
    partner := fieldAt 6 w1 56, keySlot := fieldAt 10 w1 40, len := 4096 * (bitsAt w1 0 40 + 1),
    dpaBase := BitVec.ofNat 52 (4096 * bitsAt w2 12 40), presEn := bitAt w3 63, presWord := bitsAt w3 0 20,
    half := i / 262144 }

/-- The first entry of a slot's table in the region, from its two context words (R73). -/
def tblFirst (id tbl : R32) : Nat :=
  262144 * (fget (F.XLT_CTX_ID_HALF 0) id).toNat + (fget (F.XLT_CTX_TBL_BASE 0) tbl).toNat

/-- The entries of a table. -/
def tblCount (tbl : R32) : Nat := (fget (F.XLT_CTX_TBL_COUNT 0) tbl).toNat

/-- The slots that hold a resident context, by their effective words. -/
def State.residentSlots (s : State) : List Nat :=
  s.eff.filterMap (fun kv =>
    if 0x104000 ≤ kv.1 ∧ kv.1 < 0x108000 ∧ kv.1 % 16 = 0 ∧ fget (F.XLT_CTX_ID_RESIDENT 0) kv.2 = 1
    then some ((kv.1 - 0x104000) / 16) else none)

/-- The effective words of a slot. -/
def State.ctxId (s : State) (n : Nat) : R32 := s.effRd (Reg.XLT_CTX_ID n)
def State.ctxTbl (s : State) (n : Nat) : R32 := s.effRd (Reg.XLT_CTX_TBL n)

/-- The slot holds a resident context. -/
def State.resident (s : State) (n : Nat) : Bool := fget (F.XLT_CTX_ID_RESIDENT n) (s.ctxId n) == 1

/-- Context and job of a slot. -/
def State.slotCtx (s : State) (n : Nat) : BitVec 12 := fget (F.XLT_CTX_ID_CTX_ID n) (s.ctxId n)
def State.slotJob (s : State) (n : Nat) : JobId := fget (F.XLT_CTX_ID_JOB n) (s.ctxId n)

/-- No commit has taken effect. -/
def noCommits : Nat → Nat := fun _ => 0

/-- The commits that have taken effect in a slot, which EPOCH counts modulo 256 (R96). -/
def State.slotEpoch (s : State) (n : Nat) : Nat := sget noCommits s.xlt.commits n

/-- The slot in which a context is resident. -/
def State.slotOf (s : State) (ctx : BitVec 12) : Option Nat := s.residentSlots.find? (fun n => s.slotCtx n == ctx)

/-- The fixed-depth search of R74 over a table: the last entry whose VA_START does not exceed the address. -/
def State.searchTbl (s : State) (first count va : Nat) : Nat :=
  ([2048, 1024, 512, 256, 128, 64, 32, 16, 8, 4, 2, 1] : List Nat).foldl
    (fun idx step => if idx + step < count ∧ (s.rangeAt (first + idx + step)).vaStart ≤ va then idx + step else idx) 0

/-- The range of a table that holds `len` bytes at an address (R77). -/
def State.findIn (s : State) (tbl : Nat × Nat) (va len : Nat) : Option RangeE :=
  let e := s.rangeAt (tbl.1 + s.searchTbl tbl.1 tbl.2 va)
  if tbl.2 ≠ 0 ∧ e.vaStart ≤ va ∧ va + len ≤ e.vaStart + e.len then some e else none

/-- The table of a slot in force. -/
def State.slotTbl (s : State) (slot : Nat) : Nat × Nat := (tblFirst (s.ctxId slot) (s.ctxTbl slot), tblCount (s.ctxTbl slot))

/-- The range of a slot's table that holds `len` bytes at an address (R77). -/
def State.findRange (s : State) (slot va len : Nat) : Option RangeE := s.findIn (s.slotTbl slot) va len

/-- The presence word of a page of a range, in the store of both halves, and its bit (R69). -/
def presAt (e : RangeE) (page : Nat) : Nat × Nat := (1048576 * e.half + (e.presWord + page / 64) % 1048576, page % 64)

/-- No page is present until it is set (DESIGN CHOICE, log entry 7). -/
def pres0 : Nat → R64 := fun _ => 0

/-- A page of a range is present (R69). -/
def State.present (s : State) (e : RangeE) (page : Nat) : Bool :=
  bitAt (sget pres0 s.mems.pres (presAt e page).1).toNat (presAt e page).2

/-- The absent pages of an access, as page indexes of its range: none where the range does not migrate. -/
def State.absentPages (s : State) (e : RangeE) (va len : Nat) : List Nat :=
  if e.presEn then
    let p0 := (va - e.vaStart) / 65536
    let p1 := (va + (len - 1) - e.vaStart) / 65536
    ((List.range (p1 + 1 - p0)).map (· + p0)).filter (fun p => !s.present e p)
  else []

/-- Rights an operation needs (R79). -/
structure Need where
  r : Bool
  w : Bool
  a : Bool
  deriving DecidableEq, Repr

def needR : Need := ⟨true, false, false⟩
def needW : Need := ⟨false, true, false⟩
def needRW : Need := ⟨true, true, false⟩
def needA : Need := ⟨true, false, true⟩
def needNone : Need := ⟨false, false, false⟩

/-- The range grants the rights (R78 check 4, R79). -/
def Need.ok (n : Need) (r w a : Bool) : Bool := (!n.r || r) && (!n.w || w) && (!n.a || a)

/-- What the sender's checks decide (R78). -/
inductive Tr where
  | fail (st : Status)
  | absent (e : RangeE) (firstVa : Nat) (count : Nat)
  | ok (e : RangeE)
  deriving DecidableEq, Repr

/-- Checks 1, 3, 4 and 5 of R78 in a resident slot; while XLT_CTL.EN is 0, everything faults. -/
def State.translate (s : State) (slot : Nat) (va : Va) (len : Nat) (need : Need) (pres : Bool) : Tr :=
  if !s.on F.XLT_CTL_EN then .fail stXlate
  else if 2 ^ 57 ≤ va.toNat then .fail stXlate
  else if !s.resident slot then .fail stXlate
  else match s.findRange slot va.toNat len with
    | none => .fail stXlate
    | some e =>
      if !need.ok e.r e.w e.a then .fail stRights
      else match (if pres then s.absentPages e va.toNat len else []) with
        | [] => .ok e
        | p :: ps => .absent e (e.vaStart + 65536 * p) (ps.length + 1)

/-- The DPA of an address in a range (R61). -/
def dpaOf (e : RangeE) (va : Nat) : Dpa := e.dpaBase + BitVec.ofNat 52 (va - e.vaStart)

/-- The attributes that travel with a request (R71). -/
def attrOf (e : RangeE) : Attr := ⟨e.keySlot, e.keyGen, e.accum, e.coherent, e.mirrored, e.partner⟩

/-! ### Faults -/

/-- One more XLATE_FAULT completion (XLT_FAULTS). -/
def State.countXlate (s : State) (st : Status) : State := if st = stXlate then s.incF F.XLT_FAULTS_COUNT 1 else s

/-- INFO1 of TRANSLATION_FAULT for an attach request, for a descriptor (R144). -/
def xfInfoAgent (agent : AgentId) (n : Nat) : Nat := putAt 32 agent + min n 4096
def xfInfoDesc (idx : BitVec 16) (n : Nat) : Nat := putAt 16 idx + 2 ^ 13 + min n 4096

/-- An attach request met an absent page: one event for each pair of context and page, 64 pairs (R83, R84). With FAULT_EVT 0 neither a
pair is taken nor COAL_FULL set (DESIGN CHOICE, log entry 112). -/
def State.faultAttach (s : State) (slot : Nat) (agent : AgentId) (firstVa n : Nat) : State :=
  let ctx := s.slotCtx slot
  let e := evCtx 2 stXlate ctx (s.slotJob slot) firstVa (xfInfoAgent agent n)
  if !s.on F.XLT_CTL_FAULT_EVT then s
  else if s.xlt.pairs.contains (ctx, firstVa / 65536) then s
  else if s.xlt.pairs.length < 64 then
    (State.post { s with xlt := { s.xlt with pairs := s.xlt.pairs ++ [(ctx, firstVa / 65536)] } } e)
  else (s.setF F.XLT_STAT_COAL_FULL 1).post e

/-- A handle names a context that is not resident (R65). -/
def State.faultAbsent (s : State) (ctx : BitVec 12) (handle : BitVec 4) (agent : AgentId) : State :=
  s.post (evCtx 3 stXlate ctx 0 (putAt 16 handle + putAt 0 agent) 0)

/-! ### Presence commands -/

/-- The address in XLT_PRES_VA. -/
def State.presVa (s : State) : Nat :=
  putAt 32 (s.f F.XLT_PRES_VA_HI_VA_HI) + putAt 16 (s.f F.XLT_PRES_VA_LO_VA_LO)

/-- The PRES_EN ranges and page indexes of the pages of a command; none where a page lies in no such range. -/
def State.presPages (s : State) (slot count : Nat) : Option (List (RangeE × Nat)) :=
  (List.range count).mapM (fun i =>
    match s.findRange slot (s.presVa + 65536 * i) 65536 with
    | some e => if e.presEn then some (e, (s.presVa + 65536 * i - e.vaStart) / 65536) else none
    | none => none)

/-- Set or clear one presence bit; a pair whose bit changes may be reported again (R83). -/
def State.setPres (s : State) (ctx : BitVec 12) (val : Bool) (ep : RangeE × Nat) : State :=
  let (e, p) := ep
  if s.present e p = val then s
  else
    let (w, b) := presAt e p
    let x := sget pres0 s.mems.pres w
    let y := if val then x ||| BitVec.ofNat 64 (2 ^ b) else x &&& ~~~ BitVec.ofNat 64 (2 ^ b)
    { s with
      mems := { s.mems with pres := sset pres0 s.mems.pres w y }
      xlt := { s.xlt with pairs := dropWhere (fun q => q.1 == ctx && q.2 == e.vaStart / 65536 + p) s.xlt.pairs } }

/-- A presence command on a slot (R80, R81): refused with ERR 1 or 2, no bit changed; else done for every page. -/
def State.presCmd (s : State) (slot count : Nat) (f : List (RangeE × Nat) → State → State) : State :=
  if s.on F.XLT_PRES_STAT_BUSY then s
  else if !s.resident slot then s.setF F.XLT_PRES_STAT_ERR 1
  else match s.presPages slot count with
    | none => s.setF F.XLT_PRES_STAT_ERR 2
    | some ps => f ps (s.setF F.XLT_PRES_STAT_ERR 0)

/-- QUERY reads the bit of the first page (R80). -/
def State.presQuery (s : State) (slot : Nat) : State :=
  s.presCmd slot 1 (fun ps s =>
    match ps with
    | (e, p) :: _ => s.setF F.XLT_PRES_STAT_BIT (bit1 (s.present e p))
    | [] => s)

/-- The bits of every page take a value. -/
def State.presAll (s : State) (ctx : BitVec 12) (val : Bool) : List (RangeE × Nat) → State
  | [] => s
  | p :: ps => (s.setPres ctx val p).presAll ctx val ps

/-- Queues bound to a context slot. -/
def State.queuesOf (s : State) (slot : Nat) : List Nat :=
  (s.qmg.qs.map (·.1)).filter (fun q => (s.f (F.QMG_Q_CFG_SLOT q)).toNat = slot)

/-- A queue's record of work. -/
def QRec.idle : Nat → QRec := fun _ => ⟨0, [], false, false, 0, 0, false, []⟩
def State.q (s : State) (q : Nat) : QRec := sget QRec.idle s.qmg.qs q
def State.setQ (s : State) (q : Nat) (v : QRec) : State := { s with qmg := { s.qmg with qs := sset QRec.idle s.qmg.qs q v } }

/-! ### Commits -/

/-- The first failure of one entry after the entry before it (R102): 1, 2, 3, 4, 5, 7; 0 for none. -/
def entryErr (e : RangeE) (prevEnd : Nat) (job : JobId) : BitVec 4 :=
  let pages := e.len / 65536
  if !e.valid ∨ e.vaStart < prevEnd then 1
  else if e.presEn ∧ (e.vaStart % 65536 ≠ 0 ∨ e.dpaBase.toNat % 65536 ≠ 0 ∨ e.len % 65536 ≠ 0) then 2
  else if 2 ^ 44 < dpaOff e.dpaBase + e.len then 3
  else if dpaClass e.dpaBase = 3 ∧ job ≠ 0 then 4
  else if e.presEn ∧ 1048576 < e.presWord + (pages + 63) / 64 then 5
  else if 2 ^ 57 < e.vaStart + e.len then 7
  else 0

/-- The first failure of a run of entries. -/
def State.entriesErr (s : State) (job : JobId) : Nat → Nat → Nat → BitVec 4
  | 0, _, _ => 0
  | n + 1, i, prevEnd =>
    let e := s.rangeAt i
    if entryErr e prevEnd job ≠ 0 then entryErr e prevEnd job else s.entriesErr job n (i + 1) (e.vaStart + e.len)

/-- A span of entries overlaps the live table of another slot. -/
def State.overlapsLive (s : State) (slot first count : Nat) : Bool :=
  s.residentSlots.any (fun n => decide (n ≠ slot) &&
    (let f := tblFirst (s.ctxId n) (s.ctxTbl n)
     decide (first < f + tblCount (s.ctxTbl n)) && decide (f < first + count)))

/-- The context in the handle of an accepted request is that of a slot (R65, R101). -/
def State.entNames (s : State) (slot : Nat) (e : Ent) : Bool := e.req.isNone && decide (e.ctx = some (s.slotCtx slot))

/-- Work of a slot's context is in flight (R101): a request accepted or translated, or a descriptor not done. -/
def State.slotBusy (s : State) (slot : Nat) : Bool :=
  s.ep.ents.any (fun e => decide (e.st ≠ .leaving) && ((decide (e.slot.toNat = slot) && e.req.isSome) || s.entNames slot e)) ||
  (s.queuesOf slot).any (fun q => (s.q q).descs.any (fun d => decide (d.st ≠ .done)))

/-- The error of a staged table (R102); a staged slot that is not resident names no table to check (DESIGN CHOICE, log entry 12). The
order of the checks where several fail, 6, then the entries in turn, then 8, is the model's (DESIGN CHOICE, log entry 41), and so is 8 for
a busy slot that would become non-resident (DESIGN CHOICE, log entry 12). -/
def State.validateErr (s : State) (v : Valid) : BitVec 4 :=
  let slot := v.slot.toNat
  let first := tblFirst v.id v.tbl
  let count := tblCount v.tbl
  let live := fget (F.XLT_CTX_ID_RESIDENT 0) v.id == 1
  let job := fget (F.XLT_CTX_ID_JOB 0) v.id
  let e : BitVec 4 :=
    if !live then 0
    else if count = 0 ∨ 4096 < count ∨ 262144 < (fget (F.XLT_CTX_TBL_BASE 0) v.tbl).toNat + count ∨ s.overlapsLive slot first count
    then 6
    else s.entriesErr job count first 0
  if e ≠ 0 then e
  else if s.resident slot ∧ (!live ∨ fget (F.XLT_CTX_ID_CTX_ID 0) v.id ≠ s.slotCtx slot) ∧ s.slotBusy slot then 8
  else 0

/-- Start the validation of a slot's staged table (R95). -/
def State.startValid (s : State) (slot : BitVec 10) : State :=
  let v : Valid := ⟨slot, s.rd (Reg.XLT_CTX_ID slot.toNat), s.rd (Reg.XLT_CTX_TBL slot.toNat),
    s.rd (Reg.SWC_TCM_CLS slot.toNat)⟩
  State.setF { s with xlt := { s.xlt with vals := s.xlt.vals ++ [v] } } F.XLT_STAT_VALIDATING 1

/-- A commit of group XLTn (R95): starts a validation, or is held behind the one that runs. -/
def State.xltCommit (s : State) (slot : BitVec 10) : State :=
  if s.xlt.vals.any (fun v => v.slot == slot) then
    if s.xlt.heldCommits.contains slot then s
    else { s with xlt := { s.xlt with heldCommits := s.xlt.heldCommits ++ [slot] } }
  else s.startValid slot

/-- The commit takes effect and EPOCH advances (R96), or is refused with ERR and an event (R97). The entries are judged as they stand now
(DESIGN CHOICE, log entry 113). -/
def State.commitResult (s : State) (v : Valid) : State :=
  let n := v.slot.toNat
  let e := s.validateErr v
  if e = 0 then
    let s := ((s.effWr (Reg.XLT_CTX_ID n) v.id).effWr (Reg.XLT_CTX_TBL n) v.tbl).effWr (Reg.SWC_TCM_CLS n) v.cls
    State.incF { s with xlt := { s.xlt with commits := sset noCommits s.xlt.commits n (s.slotEpoch n + 1) } } (F.XLT_CTX_STAT_EPOCH n) 1
  else
    (s.setF (F.XLT_CTX_STAT_ERR n) e).post
      (evCtx 4 stOk (fget (F.XLT_CTX_ID_CTX_ID 0) v.id) (fget (F.XLT_CTX_ID_JOB 0) v.id) (putAt 16 e + n) 0)

/-- A validation ends (R96, R97); a commit held behind it starts its own (R95). A held commit takes the shadow as it stands when its own
validation begins (DESIGN CHOICE, log entry 113). -/
def State.validEnd (s : State) (slot : BitVec 10) : State :=
  match s.xlt.vals.find? (fun v => v.slot == slot) with
  | none => s
  | some v =>
    let s := s.commitResult v
    let vals := dropWhere (fun u => u.slot == slot) s.xlt.vals
    let s := State.setF { s with xlt := { s.xlt with vals := vals } } F.XLT_STAT_VALIDATING (bit1 !vals.isEmpty)
    if s.xlt.heldCommits.contains slot then
      State.startValid { s with xlt := { s.xlt with heldCommits := dropWhere (· == slot) s.xlt.heldCommits } } slot
    else s

/-- REQ starts a drain (R100). A second request takes the place of a running one (DESIGN CHOICE, log entry 114). -/
def State.drainReq (s : State) (slot : BitVec 10) : State :=
  let n := slot.toNat
  { (s.setF (F.XLT_CTX_DRAIN_BUSY n) 1) with
    xlt := { s.xlt with drains := dropWhere (fun d => d.1 == slot) s.xlt.drains ++ [(slot, s.slotEpoch n)] } }

/-- Work translated under an epoch older than a drain's remains in flight (R100). -/
def State.drainWaits (s : State) (slot : BitVec 10) (cur : Nat) : Bool :=
  s.ep.ents.any (fun e => decide (e.st ≠ .leaving) && e.slot == slot && e.req.isSome && decide (e.epoch < cur)) ||
  (s.queuesOf slot.toNat).any (fun q => (s.q q).descs.any (fun d => decide (d.st = .running ∨ d.st = .finished) && decide (d.epoch < cur)))

/-- A drain completes (R100): BUSY falls and UPTO names the epoch before the one of REQ. -/
def State.drainDone (s : State) (slot : BitVec 10) : State :=
  match s.xlt.drains.find? (fun d => d.1 == slot) with
  | none => s
  | some (_, cur) =>
    if s.drainWaits slot cur then s
    else
      let s := (s.setF (F.XLT_CTX_DRAIN_BUSY slot.toNat) 0).setF (F.XLT_CTX_DRAIN_UPTO slot.toNat) (BitVec.ofNat 8 cur - 1)
      { s with xlt := { s.xlt with drains := dropWhere (fun d => d.1 == slot) s.xlt.drains } }

/-- An entry stands in the live table of some slot (R98). -/
def State.entryLive (s : State) (i : Nat) : Bool :=
  s.residentSlots.any (fun n =>
    let f := tblFirst (s.ctxId n) (s.ctxTbl n)
    decide (f ≤ i) && decide (i < f + tblCount (s.ctxTbl n)))

/-- The address in the range-table region of an offset in XLT_RTWIN. -/
def State.rtAddr (s : State) (off : Nat) : Nat := (s.f F.XLT_RTWIN_PAGE_PAGE).toNat * 262144 + off

/-- A write through XLT_RTWIN (R98). -/
def State.rtWrite (s : State) (off : Nat) (wide : Bool) (v : R64) : State :=
  let a := s.rtAddr off
  if s.entryLive (a / 32) then s.setF F.XLT_STAT_LIVE_WR 1
  else { s with mems := { s.mems with rt := winWrite s.mems.rt a wide v } }

/-! ### Commands -/

/-- QUERY (R80). -/
def execQuery (_countM1 : BitVec 12) (slot : BitVec 10) (s : State) : Host.Outcome State Fault Refusal :=
  whenWr s (fun s => s.presQuery slot.toNat)

/-- XLT_COMMIT (R95). -/
def execXltCommit (slot : BitVec 10) (s : State) : Host.Outcome State Fault Refusal := whenWr s (fun s => s.xltCommit slot)

/-- TABLE_VALIDATION_END (R96, R97). -/
def execTableValidationEnd (slot : BitVec 10) (s : State) : Host.Outcome State Fault Refusal := whenUp s (fun s => s.validEnd slot)

/-- DRAIN_REQ (R100). -/
def execDrainReq (slot : BitVec 10) (s : State) : Host.Outcome State Fault Refusal := whenWr s (fun s => s.drainReq slot)

/-- DRAIN_DONE (R100). -/
def execDrainDone (slot : BitVec 10) (s : State) : Host.Outcome State Fault Refusal := whenUp s (fun s => s.drainDone slot)

/-- RTWIN_WRITE (R98). -/
def execRtwinWrite (off : BitVec 18) (wide : Bool) (v : R64) (s : State) : Host.Outcome State Fault Refusal :=
  whenWr s (fun s => s.rtWrite off.toNat wide v)

end Sys2Proof.Machine
end

