-- ==== Sys2Proof/Machine/Send.lean ====
section
/-!
DEFINITION. What a sender stamps on a message: sequence numbers (R180), directions (R547), colour and isolation class (R558, R560);
stopped jobs and expelled nodes as every part of the node reads them.
-/

namespace Sys2Proof.Machine

/-- The job is stopped at this node (R483, R484); job 0 never is by the full table. -/
def State.jobStopped (s : State) (j : JobId) : Bool :=
  s.flt.stops.any (fun e => e.job == j && !e.resumed) || (s.flt.stopAll && decide (j ≠ 0))

/-- The node is expelled here (R479, FLT_EXP). -/
def State.expelled (s : State) (n : NodeId) : Bool :=
  bitAt (s.rd Reg.FLT_EXP_LO).toNat n.toNat || (decide (32 ≤ n.toNat) && bitAt (s.rd Reg.FLT_EXP_HI).toNat (n.toNat - 32))

/-- The key of a series: agent, home, class (R180). -/
def seriesKey (agent : AgentId) (home : NodeId) (cls : BitVec 2) : Nat := (agent ++ home ++ cls).toNat

/-- A series starts at number 0 (DESIGN CHOICE, log entry 13). -/
def seq0 : Nat → BitVec 16 := fun _ => 0

/-- The next number of a series (R180). -/
def State.nextSeq (s : State) (agent : AgentId) (home : NodeId) (cls : BitVec 2) : BitVec 16 × State :=
  let k := seriesKey agent home cls
  let n := sget seq0 s.ep.seqs k
  (n, { s with ep := { s.ep with seqs := sset seq0 s.ep.seqs k (n + 1) } })

/-- No write of a series has been sent. -/
def noWrite : Nat → Option (BitVec 16) := fun _ => none

/-- The number of the previous write of a series, and this one kept as the last (R264); the first write names itself
(DESIGN CHOICE, log entry 13). -/
def State.prevWrite (s : State) (agent : AgentId) (home : NodeId) (cls : BitVec 2) (seq : BitVec 16) : BitVec 16 × State :=
  let k := seriesKey agent home cls
  ((sget noWrite s.ep.lastWr k).getD seq, { s with ep := { s.ep with lastWr := sset noWrite s.ep.lastWr k (some seq) } })

/-- No direction yet. -/
def way0 : Way := ⟨0, 0, false, false⟩

/-- Direction on one axis and the alternation (R547). -/
def axisDir (flips : BitVec 192) (src dst : NodeId) (a : Nat) : Bool × BitVec 192 :=
  let d := (coord dst a + 4 - coord src a) % 4
  let i := 64 * a + dst.toNat
  let f := bitAt flips.toNat i
  (d == 3 || (d == 2 && f), if d == 2 then flips ^^^ BitVec.ofNat 192 (2 ^ i) else flips)

/-- The sender sets DIR and clears REV and DL (R547). -/
def State.aim (s : State) (dst : NodeId) : Way × State :=
  let (x, f) := axisDir s.ep.flips s.node dst 0
  let (y, f) := axisDir f s.node dst 1
  let (z, f) := axisDir f s.node dst 2
  (⟨BitVec.ofNat 3 (b2n x + 2 * b2n y + 4 * b2n z), 0, false, false⟩, { s with ep := { s.ep with flips := f } })

/-- Hand a request, a completion, a snoop to the switch, directions set. -/
def State.sendReq (s : State) (r : Req) : State :=
  let (w, s) := s.aim r.dst
  s.emit (.inject (.req { r with way := w }))
def State.sendCpl (s : State) (c : Cpl) : State :=
  let (w, s) := s.aim c.dst
  s.emit (.inject (.cpl { c with way := w }))
def State.sendSnp (s : State) (p : Snp) : State :=
  let (w, s) := s.aim p.dst
  s.emit (.inject (.snp { p with way := w }))

/-- The isolation class of a slot (R560); a class that is not enabled acts as the lowest enabled. -/
def State.slotIso (s : State) (slot : Nat) : BitVec 3 :=
  let c := s.e (F.SWC_TCM_CLS_ISO slot)
  if bitAt s.isoMask.toNat c.toNat then c
  else BitVec.ofNat 3 (((List.range 8).find? (fun i => bitAt s.isoMask.toNat i)).getD 0)

/-- A marker's buckets start full (RFC 2698). -/
def tcm0 : Nat → Tcm := fun _ => ⟨2 ^ 40, 2 ^ 40, 0⟩

/-- One step of the two-rate marker (R558, RFC 2698, colour-blind), tokens in bits: 1 Gbit/s is 4 bits a tick. -/
def State.markTcm (s : State) (m : Tcm) (slot bytes : Nat) : BitVec 2 × Tcm :=
  let pir := (s.f (F.SWC_TCM_RATE_PIR slot)).toNat
  let cir := min (s.f (F.SWC_TCM_RATE_CIR slot)).toNat pir
  let pbs := 8192 * max 1 (s.f (F.SWC_TCM_BURST_PBS slot)).toNat
  let cbs := 8192 * max 1 (s.f (F.SWC_TCM_BURST_CBS slot)).toNat
  let dt := s.now.toNat - m.at_.toNat
  let tp := min pbs (m.tp + 4 * pir * dt)
  let tc := min cbs (m.tc + 4 * cir * dt)
  let b := 8 * bytes
  let mk : Nat → Nat → Tcm := fun c p => ⟨c, p, s.now⟩
  if pir = 0 then (0, m)
  else if tp < b then (2, mk tc tp)
  else if tc < b then (1, mk tc (tp - b))
  else (0, mk (tc - b) (tp - b))

/-- The colour of a request of a slot (R558). -/
def State.colour (s : State) (slot bytes : Nat) : BitVec 2 × State :=
  let (c, m) := s.markTcm (sget tcm0 s.ep.tcm slot) slot bytes
  (c, { s with ep := { s.ep with tcm := sset tcm0 s.ep.tcm slot m } })

/-- A request of the node's own with nothing but its address and source set. -/
def req0 (opc : BitVec 6) (cls : BitVec 2) (size : BitVec 4) (dpa : Dpa) (src : AgentId) (job : JobId) : Req :=
  { opc := opc, cls := cls, size := size, dpa := dpa, src := src, dst := dpaNode dpa, job := job, seq := 0, colour := 0,
    ce := false, nc := false, nr := false, unord := false, mc := false, ew := 0,
    attr := ⟨0, false, false, false, false, 0⟩, width := 0, atype := 0, prevSeq := 0, iso := 0, way := way0,
    tamp := ⟨false, 0, 1, false⟩, data := [] }

/-- A sync-object add (R149, R684): a 64-bit ATOMIC_ADD of class TAMPED with NR set. -/
def syncAddReq (node : NodeId) (obj : Nat) (src : AgentId) (job : JobId) (v : R64) : Req :=
  { req0 3 3 3 (mkDpa node 2 (16 * obj)) src job with nr := true, width := 1, data := natLe 8 v.toNat ++ zeros 8 }

/-- Issue an operation of the node's own: number it, remember it, send it (R681). -/
def State.issueOwn (s : State) (r : Req) (kind : OwnKind) : State :=
  let (n, s) := s.nextSeq r.src (dpaNode r.dpa) r.cls
  let s := { s with ep := { s.ep with own := s.ep.own ++ [Own.mk r.src r.dst r.cls n kind { r with seq := n }] } }
  s.sendReq { r with seq := n }

/-- An attach request completes to its agent (R165, R166): header words and data. -/
def State.attachCpl (s : State) (port : Nat) (tag : BitVec 12) (size : BitVec 4) (st : Status) (ce sat : Bool) (w1 : R64)
    (data : Bytes) : State :=
  let data := if st = stOk then data else []
  let opc : BitVec 6 := if data = [] then 0x30 else 0x31
  s.toAttach port 1
    (BitVec.ofNat 64 (putAt 58 opc + putAt 40 tag + putAt 36 size + putAt 32 st + putAt 31 (bit1 ce) + putAt 30 (bit1 sat))) w1 data

end Sys2Proof.Machine
end

