-- ==== Sys2Proof/Machine/Sync.lean ====
section
/-!
DEFINITION. Sync objects, watches and arm entries (R149-R156).
-/

namespace Sys2Proof.Machine

/-- Sync objects are zero after reset (SYN_VAL). -/
def obj0 : Nat → R64 := fun _ => 0

/-- The value of a sync object (R149). -/
def State.obj (s : State) (i : Nat) : R64 := sget obj0 s.syn.objs i

/-- Store a sync object's value. -/
def State.setObj (s : State) (i : Nat) (v : R64) : State := { s with syn := { s.syn with objs := sset obj0 s.syn.objs i v } }

/-- A WAKE (R544): it names the watch and carries a status. -/
def wakeCpl (s : State) (node : NodeId) (tag : BitVec 16) (st : Status) : Cpl :=
  { opc := 0x32, cls := 0, size := 0, status := st, ce := false, sat := false, way := way0, src := s.node,
    agent := node ++ (0 : BitVec 4), seq := tag, colour := 0, iso := 0, tampId := 0, tamped := false, dst := node, data := [] }

/-- Wake the watches of an object that a value meets, and forget them (R150, R153). -/
def State.wakeMet (s : State) (i : Nat) (v : R64) : List Watch → State
  | [] => s
  | w :: ws =>
    let s := s.wakeMet i v ws
    if w.obj.toNat = i ∧ w.thr.toNat ≤ v.toNat then
      State.sendCpl { s with home := { s.home with watches := dropWhere (fun u => decide (u = w)) s.home.watches } }
        (wakeCpl s w.node w.tag stOk)
    else s

/-- The queues whose attach poster rings through an object (R105, R109). -/
def State.doorbellQueues (s : State) (i : Nat) : List Nat :=
  (s.regs.filterMap (fun kv =>
    if 0x81000 ≤ kv.1 ∧ kv.1 < 0x89000 ∧ kv.1 % 32 = 8 then some ((kv.1 - 0x81000) / 32) else none)).filter
    (fun q => decide ((s.f (F.QMG_Q_CFG_POSTER q)).toNat ≤ 7) && decide ((s.f (F.QMG_Q_SCHED_DB_SYNC q)).toNat = i))

/-- The ring size of a queue as a power of two (R104). -/
def State.qLog2 (s : State) (q : Nat) : Nat := (s.f (F.QMG_Q_CFG_LOG2_SIZE q)).toNat

/-- TAIL follows a changed doorbell object (R109). -/
def State.ringAll (s : State) (v : R64) : List Nat → State
  | [] => s
  | q :: qs => (s.setF (F.QMG_Q_PTR_TAIL q) (BitVec.ofNat 16 (v.toNat % 2 ^ s.qLog2 q))).ringAll v qs

/-- TAIL of a queue with an attach poster is its object's value (R109), also once another object, size or poster takes effect. -/
def State.ringObj (s : State) (q : Nat) : State :=
  if (s.f (F.QMG_Q_CFG_POSTER q)).toNat ≤ 7 then s.ringAll (s.obj (s.f (F.QMG_Q_SCHED_DB_SYNC q)).toNat) [q] else s

/-- An object takes a new value: watches that it meets wake, doorbells ring (R109, R149, R153). -/
def State.objTakes (s : State) (i : Nat) (v : R64) : State :=
  let s := s.setObj i v
  (s.wakeMet i v s.home.watches).ringAll v (s.doorbellQueues i)

/-- Signal an object: add modulo 2^64 (R149). -/
def State.signal (s : State) (i : Nat) (v : R64) : State := s.objTakes i (s.obj i + v)

/-- The checks a home makes on an access of a job to an object, after its shape (R151, R152, R92 check 5). -/
def State.objCheck (s : State) (i : Nat) (job : JobId) : Status :=
  if !s.on (F.SYN_CTL_EN i) ∨ s.f (F.SYN_CTL_JOB i) ≠ job then stRights
  else if s.jobStopped job then stJobStopped
  else stOk

/-- The sync object at a DPA, where there is one (R151). -/
def objOf (d : Dpa) : Option (BitVec 14) :=
  if dpaClass d = 2 ∧ dpaOff d % 16 = 0 ∧ dpaOff d < 0x40000 then some (BitVec.ofNat 14 (dpaOff d / 16)) else none

/-- The watch index of a waiting descriptor (R544). -/
def Desc.watchTag (d : Desc) : BitVec 16 := BitVec.ofNat 16 d.order

/-- Forget a watch at this home (R154). -/
def State.unwatch (s : State) (node : NodeId) (tag : BitVec 16) : State :=
  { s with home := { s.home with watches := dropWhere (fun w => w.node == node && w.tag == tag) s.home.watches } }

/-- A wait whose home holds no watch for it reads the object itself from now on (R153). -/
def State.pollFrom (s : State) (tag : BitVec 16) : State :=
  { s with
    qmg := { s.qmg with
      qs := s.qmg.qs.map (fun e => (e.1, { e.2 with
        descs := e.2.descs.map (fun d => if d.watching ∧ d.watchTag = tag then { d with watching := false, polling := true } else d) })) } }

/-- A watch registration at the home (R153): dropped and counted where it is misrouted, refused with the failing status, met at once,
held, or left to polling. -/
def State.watchRegister (s : State) (dpa : Dpa) (job : JobId) (thr : R64) (node : NodeId) (tag : BitVec 16) : State :=
  if dpaNode dpa ≠ s.node then s.incF F.FLT_MISROUTE_CNT_COUNT 1
  else match objOf dpa with
    | none => s.sendCpl (wakeCpl s node tag stRights)
    | some obj =>
      let st := s.objCheck obj.toNat job
      if st ≠ stOk then s.sendCpl (wakeCpl s node tag st)
      else if thr.toNat ≤ (s.obj obj.toNat).toNat then s.sendCpl (wakeCpl s node tag stOk)
      else if s.home.watches.length < 4096 then
        { s with home := { s.home with watches := s.home.watches ++ [⟨obj, thr, node, tag, job⟩] } }
      else if node = s.node then s.pollFrom tag
      else s.emit (.watchFull node tag)

/-- The source agent of an arm entry's add (R681): local 8 for a host entry, the recorded agent for a descriptor's. -/
def State.armSrc (s : State) (e : Nat) : AgentId :=
  if e < 64 then s.agent 8 else sget (fun _ => 0) s.syn.armAgent e

/-- The tick of an arm entry. -/
def State.armTick (s : State) (e : Nat) : R64 := s.rd (Reg.SYN_ARM_TICK_HI e) ++ s.rd (Reg.SYN_ARM_TICK_LO e)

/-- ARM_FAILED (R156, R686). -/
def evArmFailed (dpa : Dpa) (e : Nat) (st : Status) : Ev := ev 8 st dpa.toNat e

/-- An armed entry falls due: the add is issued in the entry's job and the entry is free (R155). To an expelled home it is not
sent: it completes with TARGET_LOST (R479), which ARM_FAILED reports (R156). -/
def State.armFire (s : State) (e : Nat) : State :=
  if !s.on (F.SYN_ARM_CTL_ARMED e) ∨ !s.due (s.armTick e) then s
  else
    let node := s.f (F.SYN_ARM_CTL_NODE e)
    let r := syncAddReq node (s.f (F.SYN_ARM_CTL_OBJ e)).toNat (s.armSrc e) (s.f (F.SYN_ARM_ADD_JOB e))
      ((s.f (F.SYN_ARM_ADD_ADD e)).setWidth 64)
    (if s.expelled node then s.post (evArmFailed r.dpa e stTargetLost) else s.issueOwn r (.armed (BitVec.ofNat 8 e) r.dpa)).setF
      (F.SYN_ARM_CTL_ARMED e) 0

/-- A host write to SYN_ARM_CTL (R155): entries 0-63 only. -/
def State.armWrite (s : State) (e : Nat) (v : R32) : State :=
  if 64 ≤ e then s
  else (((s.setF (F.SYN_ARM_CTL_ARMED e) (fget (F.SYN_ARM_CTL_ARMED e) v)).setF (F.SYN_ARM_CTL_NODE e)
    (fget (F.SYN_ARM_CTL_NODE e) v)).setF (F.SYN_ARM_CTL_OBJ e) (fget (F.SYN_ARM_CTL_OBJ e) v))

/-- SYN_ADD (R149). -/
def execSynAdd (obj : BitVec 14) (v : R32) (s : State) : Host.Outcome State Fault Refusal :=
  whenWr s (fun s => s.signal obj.toNat (v.setWidth 64))

/-- SYNC_RESET (R149): the value becomes zero; watches remain. -/
def execSyncReset (obj : BitVec 14) (s : State) : Host.Outcome State Fault Refusal :=
  whenWr s (fun s => s.objTakes obj.toNat 0)

/-- WATCH_REGISTER (R153): a registration, or the withdrawal of one (R154), reaches the home. -/
def execWatchRegister (watch : WatchIn) (job : JobId) (thr : R64) (node : NodeId) (tag : BitVec 16) (s : State) :
    Host.Outcome State Fault Refusal :=
  match watch with
  | .register dpa => whenUp s (fun s => s.watchRegister dpa job thr node tag)
  | .withdraw => whenUp s (fun s => s.unwatch node tag)

/-- SYN_ARM (R155): the written word with ARMED 1. -/
def execSynArm (e : BitVec 8) (v : R32) (s : State) : Host.Outcome State Fault Refusal :=
  whenWr s (fun s => s.armWrite e.toNat (v ||| 0x80000000))

/-- SYN_DISARM (R155): ARMED 0 frees a host entry, its add not issued. -/
def execSynDisarm (e : BitVec 8) (s : State) : Host.Outcome State Fault Refusal :=
  whenWr s (fun s => if 64 ≤ e.toNat then s else s.setF (F.SYN_ARM_CTL_ARMED e.toNat) 0)

/-- ARM_TICK_EXPIRY (R155). -/
def execArmTickExpiry (e : BitVec 8) (s : State) : Host.Outcome State Fault Refusal := whenUp s (fun s => s.armFire e.toNat)

end Sys2Proof.Machine
end

