-- ==== Sys2Proof/Machine/Time.lean ====
section
/-!
DEFINITION. Domain time (R279-R299): the grid, the election of a root, synchronisation states, barriers, power plans (R328-R339).
-/

namespace Sys2Proof.Machine

/-! ### Time and the grid -/

/-- The dilation factor times 16 in force (R300). -/
def State.k (s : State) : Nat := (s.f F.DTT_DIL_K).toNat

/-- The tick of the boundary that began the present slot (R299). -/
def State.boundary (s : State) : Nat := s.clk.gridTick.toNat + (s.clk.slot.toNat - s.clk.gridSlot.toNat) * s.k

/-- The tick of the next boundary. -/
def State.nextBoundary (s : State) : Nat := s.boundary + s.k

/-- Domain time advances by one tick (R279). -/
def State.tick (s : State) : State := { s with clk := { s.clk with now := s.clk.now + 1 } }

/-- A pulse on DT_SYNC where a control bit asks for it (R297, R661). -/
def State.pulse (s : State) (f : Fld 1) : State := if s.on f then s.emit .dtSync else s

/-! ### Roots and parents -/

def syDisabled : BitVec 3 := 0
def syAcquire : BitVec 3 := 1
def syConverged : BitVec 3 := 2
def syHoldover : BitVec 3 := 3
def syRoot : BitVec 3 := 4

def State.sync (s : State) : BitVec 3 := s.f F.DTT_SYNC_STAT_STATE

/-- The node is CONVERGED or ROOT. -/
def State.inTime (s : State) : Bool := decide (s.sync = syConverged) || decide (s.sync = syRoot)

/-- The node's time is fixed (R281). -/
def State.fixed (s : State) : Bool := s.on F.DTT_SYNC_STAT_FIXED

/-- The valid candidates in priority order (R285). -/
def State.candidates (s : State) : List NodeId :=
  (if s.on F.DTT_ROOTS_V0 then [s.f F.DTT_ROOTS_C0] else []) ++ (if s.on F.DTT_ROOTS_V1 then [s.f F.DTT_ROOTS_C1] else []) ++
    (if s.on F.DTT_ROOTS_V2 then [s.f F.DTT_ROOTS_C2] else []) ++ (if s.on F.DTT_ROOTS_V3 then [s.f F.DTT_ROOTS_C3] else [])

/-- A node's place among the candidates (R286). -/
def State.rank (s : State) (n : NodeId) : Option Nat := s.candidates.findIdx? (· == n)

def noRoot : Nat → BitVec 16 × R64 := fun _ => (0, 0)

/-- A root has been heard with a new ROOT_SEQ within the last 16 µs. -/
def State.liveRoot (s : State) (n : NodeId) : Bool :=
  s.dtt.roots.any (fun e => e.1 == n.toNat && decide (s.now.toNat - e.2.2.toNat ≤ 4000))

/-- TIME_STATE (R338). -/
def evTimeState (former new : BitVec 3) (offset : R32) : Ev :=
  ev 0x40 stOk (256 * former.toNat + new.toNat) (offset.signExtend 64).toNat

/-- Move to a synchronisation state and post TIME_STATE (R289). -/
def State.syncTo (s : State) (st : BitVec 3) : State :=
  (s.setF F.DTT_SYNC_STAT_STATE st).post (evTimeState s.sync st (s.f F.DTT_OFFSET_OFFSET))

/-- The node has no parent. -/
def State.noParent (s : State) : State := { (s.setF F.DTT_SYNC_STAT_PARENT 7) with dtt := { s.dtt with offsets := [] } }

/-- A root or a follower loses its source of time: HOLDOVER (R289). -/
def State.holdover (s : State) : State := s.noParent.syncTo syHoldover

/-- The conditions under which this node becomes ROOT (R286). -/
def State.mayRoot (s : State) : Bool :=
  match s.rank s.node with
  | none => false
  | some i =>
    (decide (s.sync = syAcquire) || decide (s.sync = syConverged) || decide (s.sync = syHoldover)) &&
    decide ((i + 1) * 4000 ≤ s.now.toNat - s.dtt.listen.toNat) &&
    s.dtt.roots.all (fun e => e.1 == s.node.toNat || decide (4000 < s.now.toNat - e.2.2.toNat)) &&
    (s.candidates.take i).all (fun c => s.dtt.roots.all (fun e => e.1 != c.toNat || decide (e.2.2.toNat < s.dtt.listen.toNat)))

/-- A candidate becomes ROOT, keeping its own time and rate (R286). -/
def State.becomeRoot (s : State) : State :=
  let former := s.f F.DTT_SYNC_STAT_ROOT
  let s := s.noParent.setF F.DTT_SYNC_STAT_STATE syRoot
  let s := (s.setF F.DTT_SYNC_STAT_HOPS 0).setF F.DTT_SYNC_STAT_ROOT s.node
  s.post (ev 0x41 stOk (256 * former.toNat + s.node.toNat) 0)

/-- A write to DTT_CTL (R289): EN rising starts to listen; EN falling disables synchronisation, the count running on. -/
def State.dttCtl (s : State) (v : R32) : State :=
  let was := s.on F.DTT_CTL_EN
  let s := s.wr Reg.DTT_CTL (v &&& 15)
  let en := s.on F.DTT_CTL_EN
  if en && !was then { (s.setF F.DTT_SYNC_STAT_STATE syAcquire) with dtt := { s.dtt with listen := s.now, roots := [], offsets := [] } }
  else if was && !en then (s.noParent.setF F.DTT_SYNC_STAT_STATE syDisabled).setF F.DTT_SYNC_STAT_HOPS 7
  else s

/-- A write to DTT_ROOTS restarts the election; a root no longer listed stops acting as root (R286). -/
def State.dttRoots (s : State) (v : R32) : State :=
  let s := s.wr Reg.DTT_ROOTS (v &&& 0xBFBFBFBF)
  let s := { s with dtt := { s.dtt with listen := s.now } }
  if s.sync = syRoot ∧ (s.rank s.node).isNone then s.holdover else s

/-- The parent has been silent for 8 µs (R289). -/
def State.parentTimeout (s : State) : State :=
  if s.f F.DTT_SYNC_STAT_PARENT = 7 ∨ s.now.toNat - s.dtt.parentAt.toNat < 2000 then s
  else if s.sync = syConverged then s.holdover
  else s.noParent

/-! ### Barriers -/

/-- The torus ports whose peer takes this node as its parent. -/
def State.children (s : State) : List Nat := (List.range 6).filter (fun p => s.trained p && (s.pt p).heard && (s.pt p).child)

/-- Send RELEASE to some ports, the remaining delay of each less its link delay (R294). -/
def State.sendRelease (s : State) (seq : BitVec 8) (load : Option R64) (remain : Int) : List Nat → State
  | [] => s
  | p :: ps =>
    (s.ctrl p (.release seq load.isSome (BitVec.ofInt 64 (remain - s.delay p)) (load.getD 0))).sendRelease seq load remain ps

/-- The value of DTT_BAR_LOAD. -/
def State.barLoad (s : State) : R64 := s.rd Reg.DTT_BAR_LOAD_HI ++ s.rd Reg.DTT_BAR_LOAD_LO

/-- No arrivals counted. -/
def noArr : Nat → Nat := fun _ => 0

/-- The root's count reaches EXPECT: it releases (R293, R294); FIRE 0 acts as 1. -/
def State.checkRelease (s : State) : State :=
  match s.dtt.bar with
  | none => s
  | some (seq, _) =>
    if s.sync ≠ syRoot ∨ s.dtt.firing.isSome ∨ sget noArr s.dtt.arrivals seq.toNat < (s.f F.DTT_BAR_CTL_EXPECT).toNat then s
    else
      let delay := 256 * max 1 (s.f F.DTT_BAR_CTL_FIRE).toNat
      let load := if s.on F.DTT_BAR_CTL_LOAD then some s.barLoad else none
      let s := { s with dtt := { s.dtt with
        firing := some ⟨seq, s.units + delay, load, false⟩, arrivals := sset noArr s.dtt.arrivals seq.toNat 0 } }
      s.sendRelease seq load delay s.children

/-- Arrivals are counted at the root and forwarded elsewhere; with no parent yet they wait for one (R293). -/
def State.arriveHere (s : State) (seq : BitVec 8) (n : BitVec 7) : State :=
  if s.sync = syRoot then
    State.checkRelease { s with dtt := { s.dtt with
      arrivals := sset noArr s.dtt.arrivals seq.toNat (sget noArr s.dtt.arrivals seq.toNat + n.toNat) } }
  else if s.f F.DTT_SYNC_STAT_PARENT = 7 then { s with dtt := { s.dtt with arrHold := s.dtt.arrHold ++ [(seq, n)] } }
  else s.ctrl (s.f F.DTT_SYNC_STAT_PARENT).toNat (.arrive seq n)

/-- Arrivals that waited go on once a parent is known. -/
def State.flushArrivals (s : State) : State :=
  let l := s.dtt.arrHold
  l.foldl (fun s a => s.arriveHere a.1 a.2) { s with dtt := { s.dtt with arrHold := [] } }

/-- ARM in DTT_BAR_CTL (R292, R293): ignored while a barrier is armed. -/
def State.barArm (s : State) (v : R32) : State :=
  if s.dtt.bar.isSome then s
  else
    let s := s.wr Reg.DTT_BAR_CTL (v &&& 0x3FFFFF7F)
    let seq := s.f F.DTT_BAR_CTL_SEQ
    let mem := s.on F.DTT_BAR_CTL_MEMBER
    let s := { s with dtt := { s.dtt with bar := some (seq, mem) } }
    if mem then (s.setF F.DTT_BAR_STAT_STATE 2).arriveHere seq 1
    else (s.setF F.DTT_BAR_STAT_STATE 1).checkRelease

/-- Disarm a barrier that has not fired. -/
def State.barDisarm (s : State) : State :=
  State.setF { s with dtt := { s.dtt with bar := none } } F.DTT_BAR_STAT_STATE 0

/-- RELEASE arrives (R294, R295): it is forwarded to the children, and this node will fire. -/
def State.releaseHere (s : State) (seq : BitVec 8) (load : Option R64) (remain : R64) : State :=
  let r := remain.toInt
  State.sendRelease { s with dtt := { s.dtt with firing := some ⟨seq, s.units + r.toNat, load, decide (r < 0)⟩ } } seq load r s.children

/-- The plan that a part runs before any other: factor 16. -/
def plan0 : Plan := ⟨0, 16, 16, 0, 0, false, false, 0, 0⟩

/-- A barrier load reaches a node whose time is not fixed (R294): count, grid and factor take the carried value. -/
def State.loadTime (s : State) (v : R64) : State :=
  let n := BitVec.ofNat 64 (v.toNat / 16)
  let s := { s with
    clk := { s.clk with now := v, phase := 0, slot := n, gridTick := BitVec.ofNat 64 (v.toNat / 16 * 16), gridSlot := n }
    dtt := { s.dtt with plan := plan0, olds := [] } }
  ((s.setF F.DTT_DIL_K 16).setF F.DTT_DIL_K_TO 16).setF F.DTT_SYNC_STAT_FIXED 1

/-- The instant of firing but for its descriptors (R294-R297): the pulse, the load, BARRIER_FIRED at a member, the disarming. -/
def State.fireBar (s : State) (f : Firing) : State :=
  let loads := f.load.isSome && !s.fixed
  let s := State.pulse { s with dtt := { s.dtt with firing := none } } F.DTT_CTL_DTSYNC_OUT
  let s := match f.load with | some v => if loads then s.loadTime v else s | none => s
  match s.dtt.bar with
  | some (seq, mem) =>
    if seq ≠ f.seq then s
    else if !mem then s.barDisarm
    else
      let s := (s.barDisarm.setF F.DTT_BAR_STAT_LAST_SEQ seq).incF F.DTT_BAR_STAT_FIRED 1
      s.post (ev 0x42 stOk (512 * b2n f.late + 256 * b2n loads + seq.toNat) s.now.toNat)
  | none => s

/-- A rising edge on DT_SYNC (R297): with EXT_BAR set, and the pin no output (R661), the armed barrier fires 16 core cycles later and loads nothing. -/
def State.dtSyncEdge (s : State) : State :=
  match s.dtt.bar with
  | some (seq, _) =>
    if s.on F.DTT_CTL_EXT_BAR ∧ !s.on F.DTT_CTL_DTSYNC_OUT ∧ !s.on F.DTT_CTL_DTSYNC_SWAP then { s with dtt := { s.dtt with firing := some ⟨seq, s.units + 256, none, false⟩ } } else s
  | none => s

/-! ### Power plans -/

/-- Steps of a plan (R331). -/
def Plan.delta (p : Plan) : Nat := (p.kTo.toNat - p.kFrom.toNat) + (p.kFrom.toNat - p.kTo.toNat)

/-- The tick at which step `j` falls due (R331). -/
def Plan.dueAt (p : Plan) (j : Nat) : Nat := p.e.toNat + j * (1024 * p.ramp.toNat) / p.delta

/-- The next step of a plan: one closer to K_TO (R331). -/
def Plan.stepK (p : Plan) (k : Nat) : Nat := if k < p.kTo.toNat then k + 1 else if p.kTo.toNat < k then k - 1 else k

/-- The tick from which step `j` may be taken at a boundary: that of its due tick, or the one after a late plan's receipt (R331, R333). -/
def Plan.from (p : Plan) (j : Nat) : Nat := if p.dueAt j < p.rcvd.toNat then p.rcvd.toNat + 1 else p.dueAt j

/-- The first boundary at or after a tick, from a boundary and a factor. -/
def boundaryAt (b k t : Nat) : Nat := b + (t - b + (k - 1)) / k * k

/-- The boundary and the factor that the steps of a plan leave before tick `e`, from step `j` on (R330-R332). -/
def Plan.run (p : Plan) (e : Nat) : Nat → Nat → Nat × Nat → Nat × Nat
  | 0, _, x => x
  | n + 1, j, (b, k) =>
    let b' := boundaryAt b k (p.from j)
    if p.delta < j ∨ e ≤ b' then (b, k) else p.run e n (j + 1) (b', p.stepK k)

/-- Plans in the order of their arrival, each run up to the E of those after it and at most up to `e` (R332). -/
def runPlans (e : Nat) : List Plan → Nat × Nat → Nat × Nat
  | [], x => x
  | p :: ps, x =>
    let stop := ps.foldl (fun m q => min m q.e.toNat) e
    runPlans e ps (p.run stop 17 (p.done + 1) x)

/-- The factor that will be in force at tick `e` (R330). -/
def State.factorAt (s : State) (e : Nat) : Nat := (runPlans e (s.dtt.olds ++ [s.dtt.plan]) (s.boundary, s.k)).2

/-- A plan comes into force at this node; its steps are computed from here on (R331, R332). -/
def State.takePlan (s : State) (p : Plan) : State :=
  let olds := (s.dtt.olds ++ [s.dtt.plan]).filter (fun q => decide (q.e.toNat < p.e.toNat) && decide (q.done < q.delta))
  let s := { s with dtt := { s.dtt with olds := olds, plan := p } }
  let s := ((s.setF F.DTT_ENV_STAT_SEQ p.seq).setF F.DTT_ENV_STAT_K_FROM p.kFrom).setF F.DTT_ENV_STAT_K_TO p.kTo
  (s.setF F.DTT_ENV_STAT_BUSY (bit1 (p.delta ≠ 0))).setF F.DTT_DIL_K_TO p.kTo

/-- The root issues a plan towards the greater of its envelope's and its thermal factor (R330, R334). -/
def State.issuePlan (s : State) (e : R64) (ramp : BitVec 16) (thermal floor : Bool) : State :=
  let dest := if s.dtt.kEnv.toNat < s.dtt.kTherm.toNat then s.dtt.kTherm else s.dtt.kEnv
  s.takePlan ⟨s.dtt.plan.seq + 1, BitVec.ofNat 6 (s.factorAt e.toNat), dest, e, ramp, thermal, floor, 0, s.now⟩

/-- The effective tick that a command names. -/
def State.envTick (s : State) : R64 := s.rd Reg.DTT_ENV_TICK_HI ++ s.rd Reg.DTT_ENV_TICK_LO

def State.dilTab (s : State) (k : Nat) : Nat := (s.f (F.DTT_DIL_TAB_POWER k)).toNat

/-- The table falls as k rises (R329). -/
def State.tabFalls (s : State) : Bool := (List.range 16).all (fun i => decide (s.dilTab (17 + i) < s.dilTab (16 + i)))

/-- The root takes an envelope command (R329, R330): the ERR that refuses it, or the plan it becomes. -/
def State.envRoot (s : State) (target : R32) (tick : R64) (force : Option (BitVec 6)) : BitVec 4 × State :=
  let bad (e : BitVec 4) : BitVec 4 × State := (e, s.post (ev 0x48 stOk e.toNat 0))
  if (match force with | some k => decide (k.toNat < 16 ∨ 32 < k.toNat) | none => false) then bad 4
  else if tick.toNat < s.now.toNat + 16000 then bad 1
  else if force.isNone ∧ !s.tabFalls then bad 2
  else
    let goal := (fget F.DTT_ENV_TARGET_TARGET target).toNat
    let found := ((List.range 17).map (16 + ·)).find? (fun k => decide (s.dilTab k ≤ goal))
    let k := match force with | some k => k | none => BitVec.ofNat 6 (found.getD 32)
    (0, State.issuePlan { s with dtt := { s.dtt with kEnv := k } } tick (fget F.DTT_ENV_TARGET_RAMP target) false
      (decide (force.isNone ∧ found.isNone)))

/-- APPLY or FORCE_K is written at this node (R329, R339): the root takes it, another node forwards it; ERR stays 0 until the root's
result comes back. -/
def State.envCmd (s : State) (force : Option (BitVec 6)) : State :=
  let target := s.rd Reg.DTT_ENV_TARGET
  if !s.inTime then s.setF F.DTT_ENV_STAT_ERR 3
  else if s.sync = syRoot then
    let (e, s) := s.envRoot target s.envTick force
    s.setF F.DTT_ENV_STAT_ERR e
  else if (match force with | some k => decide (k.toNat < 16 ∨ 32 < k.toNat) | none => false) then s.setF F.DTT_ENV_STAT_ERR 4
  else (s.setF F.DTT_ENV_STAT_ERR 0).emit (.envelope s.node target s.envTick force)

/-- A forwarded envelope command reaches this node (R329, R339): the root takes it, another sends it on. -/
def State.envForward (s : State) (force : Option (BitVec 6)) (node : NodeId) (target : R32) (tick : R64) : State :=
  if s.sync = syRoot then
    let (e, s) := s.envRoot target tick force
    s.emit (.envResult node e)
  else if s.f F.DTT_SYNC_STAT_PARENT = 7 then s.emit (.envResult node 3)
  else s.emit (.envelope node target tick force)

/-- ENV_STEP (R338). -/
def evEnvStep (p : Plan) (k tick : Nat) : Ev := ev 0x47 stOk (128 * b2n p.thermal + 64 * b2n p.floor + k) tick

/-- ENV_LATE (R333, R338). -/
def evEnvLate (p : Plan) (j : Nat) : Ev := ev 0x49 stOk p.seq.toNat (p.dueAt j)

/-- One step of a plan takes effect at the present boundary: the grid is anchored there (R299, R331). A step that the plan's receipt made
late is reported (R333). -/
def State.stepPlan (s : State) (p : Plan) : State :=
  let b := s.boundary
  let k := p.stepK s.k
  let s := { s with clk := { s.clk with gridTick := BitVec.ofNat 64 b, gridSlot := s.clk.slot } }
  let s := (s.setF F.DTT_DIL_K (BitVec.ofNat 6 k)).post (evEnvStep p k b)
  if p.dueAt (p.done + 1) < p.rcvd.toNat then (s.setF F.DTT_STAT_ENV_LATE 1).post (evEnvLate p (p.done + 1)) else s

/-- A step of a plan is due at the present boundary. -/
def State.stepDue (s : State) (p : Plan) : Bool := decide (p.done < p.delta) && decide (p.from (p.done + 1) ≤ s.boundary)

/-- A plan's next step falls due (R331); an earlier plan's steps run on until a later plan's E (R332). -/
def State.dilationStep (s : State) : State :=
  if s.dtt.plan.e.toNat ≤ s.boundary then
    let p := s.dtt.plan
    let s := { s with dtt := { s.dtt with olds := [] } }
    if s.stepDue p then
      (State.stepPlan { s with dtt := { s.dtt with plan := { p with done := p.done + 1 } } } p).setF F.DTT_ENV_STAT_BUSY
        (bit1 (p.done + 1 ≠ p.delta))
    else s
  else
    match s.dtt.olds.reverse.find? (fun p => decide (p.e.toNat ≤ s.boundary)) with
    | none => s
    | some p =>
      if s.stepDue p then
        let done (q : Plan) : Plan := if q = p then { q with done := q.done + 1 } else q
        State.stepPlan { s with dtt := { s.dtt with olds := s.dtt.olds.map done } } p
      else s

/-- The greatest thermal request of this node and its children (R334). -/
def State.greatestTherm (s : State) : BitVec 6 :=
  s.children.foldl (fun m p => if m.toNat < (s.pt p).thermK.toNat then (s.pt p).thermK else m) s.dtt.thermReq

/-- The requests have changed (R334): k_therm at the root rises with them, and it issues a plan when they exceed the factor its plan
intends. -/
def State.thermal (s : State) : State :=
  let g := s.greatestTherm
  let s := s.setF F.DTT_DIL_K_THERM g
  if s.sync = syRoot ∧ s.dtt.kTherm.toNat < g.toNat then
    let s := { s with dtt := { s.dtt with kTherm := g, thermAt := s.now } }
    if s.dtt.plan.kTo.toNat < g.toNat then s.issuePlan (s.now + 16000) 0 true false else s
  else s

/-- A millisecond after the requests fell, the root lowers k_therm by one (R334). -/
def State.thermDecay (s : State) : State :=
  let g := s.greatestTherm
  if s.sync = syRoot ∧ g.toNat < s.dtt.kTherm.toNat ∧ 250000 ≤ s.now.toNat - s.dtt.thermAt.toNat then
    let dest := s.dtt.plan.kTo
    let s := { s with dtt := { s.dtt with kTherm := s.dtt.kTherm - 1, thermAt := s.now } }
    let next := if s.dtt.kEnv.toNat < s.dtt.kTherm.toNat then s.dtt.kTherm else s.dtt.kEnv
    if next = dest then s else s.issuePlan (s.now + 16000) 0 true false
  else s

/-! ### Commands -/

/-- ROOT_ELECTION (R286); arrivals that waited for a parent are the new root's to count (R293). -/
def execRootElection (s : State) : Host.Outcome State Fault Refusal :=
  whenUp s (fun s => if s.mayRoot then s.becomeRoot.flushArrivals else s)

/-- PARENT_TIMEOUT (R289). -/
def execParentTimeout (s : State) : Host.Outcome State Fault Refusal := whenUp s State.parentTimeout

/-- DTT_CTL_WRITE (R289). -/
def execDttCtlWrite (v : R32) (s : State) : Host.Outcome State Fault Refusal := whenWr s (fun s => s.dttCtl v)

/-- DTT_ROOTS_WRITE (R286). -/
def execDttRootsWrite (v : R32) (s : State) : Host.Outcome State Fault Refusal := whenWr s (fun s => s.dttRoots v)

/-- BARRIER_ARM (R292): the written word with ARM 1. -/
def execBarrierArm (v : R32) (s : State) : Host.Outcome State Fault Refusal := whenWr s (fun s => s.barArm v)

/-- BARRIER_DISARM (R292). -/
def execBarrierDisarm (s : State) : Host.Outcome State Fault Refusal := whenWr s State.barDisarm

/-- ARRIVE (R293). -/
def execArrive (_port : Fin 6) (seq : BitVec 8) (n : BitVec 7) (s : State) : Host.Outcome State Fault Refusal :=
  whenUp s (fun s => s.arriveHere seq n)

/-- RELEASE (R294). -/
def execRelease (_port : Fin 6) (seq : BitVec 8) (hasLoad : Bool) (remain val : R64) (s : State) : Host.Outcome State Fault Refusal :=
  whenUp s (fun s => s.releaseHere seq (if hasLoad then some val else none) remain)

/-- DT_SYNC_EDGE (R297). -/
def execDtSyncEdge (s : State) : Host.Outcome State Fault Refusal := whenUp s State.dtSyncEdge

/-- APPLY (R329): written at this node. -/
def execApply (s : State) : Host.Outcome State Fault Refusal := whenWr s (fun s => s.envCmd none)

/-- FORCE_K (R330): written at this node. A command of either kind on its way to the root, and the root's result on its way back, reach the
node by this command too (R329, R339; DESIGN CHOICE, log entry 120). -/
def execForceK (env : EnvIn) (s : State) : Host.Outcome State Fault Refusal :=
  match env with
  | .written k => whenWr s (fun s => s.envCmd (some k))
  | .command force node target tick => whenUp s (fun s => s.envForward force node target tick)
  | .result err => whenUp s (fun s => s.setF F.DTT_ENV_STAT_ERR err)

/-- DILATION_STEP (R331). -/
def execDilationStep (s : State) : Host.Outcome State Fault Refusal := whenUp s State.dilationStep

/-- K_THERM_DECAY (R334). -/
def execKThermDecay (s : State) : Host.Outcome State Fault Refusal := whenUp s State.thermDecay

end Sys2Proof.Machine
end

