-- ==== Sys2Proof/Machine/Queue.lean ====
section
/-!
DEFINITION. Work queues (R103-R141, R682, R685): rings, doorbells, states, completion of a descriptor, stops.
-/

namespace Sys2Proof.Machine

/-! ### Rings -/

/-- Queue states (R138). -/
def qIdle : BitVec 3 := 0
def qRunning : BitVec 3 := 1
def qStopping : BitVec 3 := 2
def qError : BitVec 3 := 3

def State.qState (s : State) (q : Nat) : BitVec 3 := s.f (F.QMG_Q_STAT_STATE q)

/-- The context slot of a queue (R103). -/
def State.qSlot (s : State) (q : Nat) : Nat := (s.f (F.QMG_Q_CFG_SLOT q)).toNat

/-- The agent whose ID a queue's operations carry (R681). -/
def State.qAgent (s : State) (q : Nat) : AgentId := s.agent (s.f (F.QMG_Q_CFG_POSTER q))

/-- The ring lies in node SRAM (R104). -/
def State.qInSram (s : State) (q : Nat) : Bool := s.on (F.QMG_Q_CFG_LOC q)

/-- The ring's base: a bus address, or a DPA when LOC is 1 (QMG_Q_BASE). -/
def State.qBase (s : State) (q : Nat) : R64 :=
  s.rd (Reg.QMG_Q_BASE_HI q) ++ s.f (F.QMG_Q_BASE_LO_BASE_LO q) ++ (0 : BitVec 12)

/-- Write a 64-bit word of a ring slot: to host memory, or to engine SRAM (R104). -/
def State.writeSlot (s : State) (q : Nat) (idx : BitVec 16) (word : Nat) (v : R64) : State :=
  let off := 64 * idx.toNat + 8 * word
  if s.qInSram q then
    { s with mems := { s.mems with sram := Mem.wrN s.mems.sram (dpaOff ((s.qBase q).setWidth 52) + off) (natLe 8 v.toNat) } }
  else if (s.q q).dead then s
  else s.emit (.hostWrite (s.qBase q + BitVec.ofNat 64 off) (natLe 8 v.toNat))

/-- The bytes of a slot of a ring in SRAM. -/
def State.sramSlot (s : State) (q : Nat) (idx : BitVec 16) (n : Nat) : Bytes :=
  Mem.rdN s.mems.sram (dpaOff ((s.qBase q).setWidth 52) + 64 * idx.toNat) n

/-- A ring index moved on by some slots (R106). -/
def State.ringNext (s : State) (q : Nat) (idx : BitVec 16) (n : Nat) : BitVec 16 :=
  BitVec.ofNat 16 ((idx.toNat + n) % 2 ^ s.qLog2 q)

/-! ### Descriptors -/

/-- A 64-bit word of a descriptor. -/
def Desc.w (d : Desc) (i : Nat) : R64 := d.words.getD i 0

/-- Fields of word 0 (R114, R115). -/
def Desc.opcode (d : Desc) : Nat := w64 (d.w 0) 7 0
def Desc.tag (d : Desc) : Nat := w64 (d.w 0) 63 32
def Desc.barrier (d : Desc) : Bool := bitAt (d.w 0).toNat 30
def Desc.syncIdx (d : Desc) : Nat := w64 (d.w 0) 29 16
def Desc.sieve (d : Desc) : Bool := bitAt (d.w 0).toNat 15
def Desc.unordered (d : Desc) : Bool := bitAt (d.w 0).toNat 14
def Desc.timed (d : Desc) : Bool := bitAt (d.w 0).toNat 13
def Desc.sigEn (d : Desc) : Bool := bitAt (d.w 0).toNat 12
def Desc.irq (d : Desc) : Bool := bitAt (d.w 0).toNat 11
def Desc.evt (d : Desc) : Bool := bitAt (d.w 0).toNat 10
def Desc.fencePrev (d : Desc) : Bool := bitAt (d.w 0).toNat 9
def Desc.double (d : Desc) : Bool := bitAt (d.w 0).toNat 8

/-- Slots a descriptor occupies (R113). -/
def Desc.slots (d : Desc) : Nat := if d.double then 2 else 1

/-- The completion word (R116). -/
def Desc.word2 (d : Desc) (paused done : Bool) : R64 :=
  BitVec.ofNat 64 (2 ^ 24 * (d.prog % 2 ^ 40) + putAt 12 d.faultWord + putAt 8 d.status + 32 * b2n d.drop + 16 * b2n d.late +
    8 * b2n d.timeout + 4 * b2n d.sat + 2 * b2n paused + b2n done)

/-- Change one descriptor of a queue. -/
def State.setDesc (s : State) (q : Nat) (idx : BitVec 16) (f : Desc → Desc) : State :=
  s.setQ q { s.q q with descs := (s.q q).descs.map (fun d => if d.idx == idx then f d else d) }

/-- The descriptor of a queue at a ring index. -/
def State.desc (s : State) (q : Nat) (idx : BitVec 16) : Option Desc := (s.q q).descs.find? (fun d => d.idx == idx)

/-- An event of a queue: its context, job and number; to the ring QMG_Q_CFG names (R142, R144, R145). -/
def State.postQ (s : State) (q : Nat) (code : BitVec 8) (st : Status) (i0 i1 : Nat) (irq : Bool) : State :=
  s.postTo (s.f (F.QMG_Q_CFG_EVT_RING q)).toNat
    ⟨code, st, true, s.slotCtx (s.qSlot q), s.slotJob (s.qSlot q), true, BitVec.ofNat 10 q, BitVec.ofNat 64 i0, BitVec.ofNat 64 i1⟩ irq

/-- A translation-fault event of a descriptor (R89). -/
def State.faultDesc (s : State) (q : Nat) (idx : BitVec 16) (firstVa n : Nat) : State :=
  if s.on F.XLT_CTL_FAULT_EVT then s.postQ q 2 stXlate firstVa (xfInfoDesc idx n) false else s

/-- A queue's binding names no resident context (R78 check 2): a context-absent event, with handle 0, the queue's agent and the context that
the slot last held (DESIGN CHOICE, log entry 96). -/
def State.absentDesc (s : State) (q : Nat) : State :=
  s.postTo (s.f (F.QMG_Q_CFG_EVT_RING q)).toNat
    ⟨3, stXlate, true, s.slotCtx (s.qSlot q), 0, true, BitVec.ofNat 10 q, BitVec.ofNat 64 (putAt 0 (s.qAgent q)), 0⟩ false

/-- A started descriptor pauses: word 2 says PAUSED with its PROGRESS (R117, R133). -/
def State.pauseDesc (s : State) (q : Nat) (idx : BitVec 16) (f : Desc → Desc) : State :=
  match s.desc q idx with
  | none => s
  | some d =>
    let d := { f d with watching := false, polling := false }
    let s := (s.writeSlot q idx 2 (d.word2 true false)).setDesc q idx (fun _ => d)
    s.setQ q { s.q q with kept := (s.q q).kept.filter (fun k => k.1 != idx) ++ [(idx, d.order)] }

/-- Descriptors in the fault queue (R132). -/
def State.parkedCount (s : State) : Nat :=
  (s.qmg.qs.map (fun e => (e.2.descs.filter (fun d => decide (d.st = .parked))).length)).foldl (· + ·) 0

/-- HEAD as an index of the ring: a value of 2^n or more stands for its remainder (R106; DEDUCED, log entry 97). -/
def State.qHead (s : State) (q : Nat) : BitVec 16 := s.ringNext q (s.f (F.QMG_Q_PTR_HEAD q)) 0

/-- TAIL as an index of the ring, likewise (R106; DEDUCED, log entry 97). -/
def State.qTail (s : State) (q : Nat) : BitVec 16 := s.ringNext q (s.f (F.QMG_Q_PTR_TAIL q)) 0

/-- HEAD moves across the run of done descriptors (R137). -/
def State.advance (s : State) (q : Nat) : List Desc → State
  | [] => s.setQ q { s.q q with descs := [] }
  | d :: ds =>
    if d.st = .done ∧ d.idx = s.qHead q then
      (s.setF (F.QMG_Q_PTR_HEAD q) (s.ringNext q d.idx d.slots)).advance q ds
    else s.setQ q { s.q q with descs := d :: ds }

/-- The end of a completion (R136): the event and MSI-X; the descriptor is done, and HEAD moves (R137). -/
def State.doneDesc (s : State) (q : Nat) (d : Desc) : State :=
  let d := { d with st := .done }
  let s := if d.evt then s.postQ q 1 d.status (2 ^ 32 * d.tag + d.idx.toNat) (d.word2 false true).toNat d.irq else s
  let s := s.setDesc q d.idx (fun _ => d)
  let s := s.setQ q { s.q q with kept := (s.q q).kept.filter (fun k => k.1 != d.idx) }
  s.advance q (s.q q).descs

/-- A descriptor completes (R136): word 2, and word 15 of a double one; the sync add, a request of the queue's agent in class TAMPED
(R681, R684), whose completion the event and MSI-X wait for; without SIG_EN these follow at once. -/
def State.completeDesc (s : State) (q : Nat) (idx : BitVec 16) (st : Status) : State :=
  match s.desc q idx with
  | none => s
  | some d =>
    let d := { d with status := st }
    let s := s.countXlate st
    let s := s.writeSlot q idx 2 (d.word2 false true)
    let s := if d.double then s.writeSlot q idx 15 d.sig else s
    if d.sigEn then
      (s.setDesc q idx (fun _ => { d with st := .signalling })).issueOwn
        (syncAddReq s.node d.syncIdx (s.qAgent q) (s.slotJob (s.qSlot q)) 1) (.sigEn (BitVec.ofNat 10 q) idx)
    else s.doneDesc q d

/-- The SIG_EN add of a descriptor has completed, whatever its status (R136). -/
def State.signalled (s : State) (q : Nat) (idx : BitVec 16) : State :=
  match s.desc q idx with
  | some d => if d.st = .signalling then s.doneDesc q d else s
  | none => s

/-- The work of a descriptor is over with a status; DESCRIPTOR_COMPLETE follows. -/
def State.finish (s : State) (q : Nat) (idx : BitVec 16) (st : Status) (f : Desc → Desc) : State :=
  s.setDesc q idx (fun d => { f d with status := st, st := .finished })

/-- The registers of a queue whose writes wait for IDLE (R140). -/
def qLaterRegs (q : Nat) : List Nat :=
  [Reg.QMG_Q_BASE_LO q, Reg.QMG_Q_BASE_HI q, Reg.QMG_Q_CFG q, Reg.QMG_Q_SCHED q]

/-- A write to a queue's register (R140): at once in IDLE, else kept. QMG_Q_PTR takes HEAD only. TAIL goes on following the object of
an attach poster whose queue it changes (R109). -/
def State.qRegWrite (s : State) (q off : Nat) (v : R32) : State :=
  let v := if off = Reg.QMG_Q_PTR q then fput (F.QMG_Q_PTR_TAIL q) v (s.f (F.QMG_Q_PTR_TAIL q)) else v
  if s.qState q = qIdle then (s.wr off v).ringObj q else s.keepWr off v

/-- The kept writes of a queue take effect (R140): of QMG_Q_PTR its HEAD alone, as a doorbell may have moved TAIL meanwhile (R112). -/
def State.qTakeWrs (s : State) (q : Nat) : State :=
  ((s.takePart (Reg.QMG_Q_PTR q) 0x0000FFFF).takeWrs (qLaterRegs q)).ringObj q

/-- Withdraw the watch of one of this node's own waits (R154): at this home at once, at another by a message. -/
def State.dropWatch (s : State) (home : NodeId) (tag : BitVec 16) : State :=
  if home = s.node then s.unwatch s.node tag else s.emit (.watchDrop home tag)

/-- The home of the object that a descriptor waits on. -/
def State.watchHome (s : State) (d : Desc) : NodeId :=
  match s.findIn d.tbl (d.w 3).toNat 1 with
  | some e => dpaNode (dpaOf e (d.w 3).toNat)
  | none => s.node

/-- On a stop under RUN 0 a waiting SYNC_WAIT pauses and withdraws its watch, and a FENCE is withdrawn unwritten (R133, R154). -/
def State.stopWaits (s : State) (q : Nat) : List Desc → State
  | [] => s
  | d :: ds =>
    let s :=
      if d.st = .running ∧ d.opcode = 6 then
        ((if d.watching then s.dropWatch (s.watchHome d) d.watchTag else s).pauseDesc q d.idx (fun d => { d with st := .translated }))
      else if d.st = .running ∧ d.opcode = 8 then s.setDesc q d.idx (fun d => { d with st := .translated })
      else if d.st = .armWait then
        State.setDesc { s with qmg := { s.qmg with armWait := dropWhere (fun a => a.1.toNat == q && a.2 == d.idx) s.qmg.armWait } }
          q d.idx (fun d => { d with st := .translated })
      else s
    s.stopWaits q ds

/-- The slot number whose boundary is the first at or after a tick (R407). -/
def State.slotAt (s : State) (t : R64) : R64 :=
  if s.boundary ≤ t.toNat then s.clk.slot + BitVec.ofNat 64 ((t.toNat - s.boundary + (s.k - 1)) / s.k)
  else s.clk.slot - BitVec.ofNat 64 ((s.boundary - t.toNat) / s.k)

/-- The slot that a tick lies in. -/
def State.slotIn (s : State) (t : R64) : R64 :=
  if s.boundary ≤ t.toNat then s.clk.slot + BitVec.ofNat 64 ((t.toNat - s.boundary) / s.k)
  else s.clk.slot - BitVec.ofNat 64 ((s.boundary - t.toNat + (s.k - 1)) / s.k)

/-- The queue of a descriptor stops under RUN 0, and it pauses at its next pause point (R138). -/
def State.stopping (s : State) (q : Nat) : Bool := decide (s.qState q = qStopping) && !(s.q q).jobStop

/-- A queue enters STOPPING under RUN 0, committed at a tick (R138, R416). -/
def State.stopQueue (s : State) (q : Nat) (t : R64) : State :=
  let s := (s.setF (F.QMG_Q_STAT_STATE q) qStopping).setQ q { s.q q with stopSlot := s.slotIn t }
  s.stopWaits q (s.q q).descs

/-- Complete every fetched descriptor that is not done with JOB_STOPPED, in ring order (R685). -/
def State.stopDescs (s : State) (q : Nat) : List Desc → State
  | [] => s
  | d :: ds =>
    let s := if d.st = .done ∨ d.st = .signalling then s
      else
        let s := if d.watching then s.dropWatch (s.watchHome d) d.watchTag else s
        (s.setDesc q d.idx (fun d => { d with faultWord := 0 })).completeDesc q d.idx stJobStopped
    s.stopDescs q ds

/-- A queue enters STOPPING because its context's job is stopped (R138, R685). -/
def State.stopQueueJob (s : State) (q : Nat) : State :=
  let s := s.setF (F.QMG_Q_STAT_STATE q) qStopping
  let s := s.setQ q { s.q q with jobStop := true }
  s.stopDescs q (s.q q).descs

/-- A queue enters RUNNING (R138): ERR clears and fetching starts from HEAD; with its job stopped it enters STOPPING at once. -/
def State.runQueue (s : State) (q : Nat) : State :=
  let s := (s.setF (F.QMG_Q_STAT_STATE q) qRunning).setF (F.QMG_Q_STAT_ERR q) 0
  let s := (s.ringObj q).setQ q { s.q q with fetch := s.qHead q, descs := [], jobStop := false, fetching := false, dead := false }
  if s.jobStopped (s.slotJob (s.qSlot q)) then s.stopQueueJob q else s

/-- RUN of group QMGq takes effect, committed at a tick (R138, R141): as 1 it names the slot in which a paused collective resumes (R417). -/
def State.queueCommit (s : State) (q : Nat) (t : R64) : State :=
  let s := s.effWr (Reg.QMG_Q_CTL q) (s.rd (Reg.QMG_Q_CTL q))
  if s.e (F.QMG_Q_CTL_RUN q) = 1 then
    if s.qState q = qIdle then (s.setQ q { s.q q with runSlot := s.slotAt t }).runQueue q
    else if s.qState q = qStopping then s.setQ q { s.q q with runSlot := s.slotAt t }
    else s
  else if s.qState q = qRunning ∨ s.qState q = qError then s.stopQueue q t
  else s

/-- A queue with nothing running reaches IDLE (R138): kept writes take effect, QUEUE_STOPPED is posted, and a queue whose RUN is
1 runs again. Under a job stop HEAD must equal TAIL first (R685). -/
def State.queueIdle (s : State) (q : Nat) : State :=
  let busy := (s.q q).descs.any (fun d => decide (d.st = .running) || decide (d.st = .armWait) || decide (d.st = .finished) || decide (d.st = .signalling))
  if s.qState q ≠ qStopping ∨ busy then s
  else if (s.q q).jobStop ∧ s.qHead q ≠ s.qTail q then s
  else
    let s := s.setQ q { s.q q with descs := [], jobStop := false, fetching := false }
    let s := s.setF (F.QMG_Q_STAT_STATE q) qIdle
    let s := s.postQ q 6 stOk (s.f (F.QMG_Q_PTR_HEAD q)).toNat (s.f (F.QMG_Q_PTR_TAIL q)).toNat false
    let s := s.qTakeWrs q
    if s.e (F.QMG_Q_CTL_RUN q) = 1 then s.runQueue q else s

/-- A queue error (R139): the slot stays unwritten, ERR and ERRPOS record it, QUEUE_ERROR is posted. -/
def State.queueError (s : State) (q : Nat) (idx : BitVec 16) (err : BitVec 5) : State :=
  let s := (s.setF (F.QMG_Q_STAT_STATE q) qError).setF (F.QMG_Q_STAT_ERR q) err
  (s.setF (F.QMG_Q_STAT_ERRPOS q) idx).postQ q 5 stOk idx.toNat err.toNat false

/-- A write to QMG_DB (R108, R112): ignored unless the poster is the host or the control die. -/
def State.doorbell (s : State) (q : Nat) (tail : BitVec 16) : State :=
  let p := (s.f (F.QMG_Q_CFG_POSTER q)).toNat
  if p = 8 ∨ p = 9 then s.setF (F.QMG_Q_PTR_TAIL q) tail else s

/-- Descriptors fetched and not returned, for the bound of R127 and R130. -/
def QRec.fetched (r : QRec) : Nat := r.descs.length

/-- The queue may fetch (R105, R127, R130, R132, QMG_CTL). -/
def State.mayFetch (s : State) (q : Nat) : Bool :=
  let st := s.qState q
  s.on F.QMG_CTL_EN && !s.on F.FLT_STAT_SELF_EXP && decide ((s.f (F.QMG_Q_CFG_POSTER q)).toNat < 10) &&
  decide (6 ≤ s.qLog2 q ∧ s.qLog2 q ≤ 16) && decide ((s.q q).fetched < 64) && !(s.q q).fetching &&
  decide ((s.q q).fetch ≠ s.qTail q) && decide (s.parkedCount < 1023) &&
  (decide (st = qRunning) || (decide (st = qStopping) && (s.q q).jobStop))

/-- Issue the fetch of the slot at the fetch pointer (R127): a PCIe read for a host ring. -/
def State.fetchSlot (s : State) (q : Nat) : State :=
  if !s.mayFetch q then s
  else
    let s := if s.qInSram q then s
      else s.emit (.hostRead (s.qBase q + BitVec.ofNat 64 (64 * (s.q q).fetch.toNat)) 64)
    s.setQ q { s.q q with fetching := true }

/-! ### Stopping a job -/

/-- Stop the running queues of a job, among the queues given. -/
def State.stopQueuesOf (s : State) (all : Bool) (job : JobId) : List Nat → State
  | [] => s
  | q :: qs =>
    let j := s.slotJob (s.qSlot q)
    let s := if s.qState q = qRunning ∧ (j = job ∨ (all ∧ j ≠ 0)) then s.stopQueueJob q else s
    s.stopQueuesOf all job qs

/-- The queues with work or a state of their own. -/
def State.liveQueues (s : State) : List Nat :=
  s.regs.filterMap (fun kv =>
    if 0x81000 ≤ kv.1 ∧ kv.1 < 0x89000 ∧ kv.1 % 32 = 0x14 then some ((kv.1 - 0x81000) / 32) else none)

/-- DOORBELL (R108). -/
def execDoorbell (q : BitVec 10) (tail : BitVec 16) (s : State) : Host.Outcome State Fault Refusal :=
  whenWr s (fun s => s.doorbell q.toNat tail)

/-- DESCRIPTOR_FETCH (R127). -/
def execDescriptorFetch (q : BitVec 10) (s : State) : Host.Outcome State Fault Refusal := whenUp s (fun s => s.fetchSlot q.toNat)

/-- QUEUE_COMMIT (R141). -/
def execQueueCommit (q : BitVec 10) (s : State) : Host.Outcome State Fault Refusal := whenWr s (fun s => s.queueCommit q.toNat s.now)

end Sys2Proof.Machine
end

