-- ==== Sys2Proof/Machine/Timetable.lean ====
section
/-!
DEFINITION. Timetable sets (R302-R322): checking and swapping sets, staging of scheduled flits (R306-R314), background slots (R315).
-/

namespace Sys2Proof.Machine

/-- A stream record (R307). -/
structure StreamE where
  job : JobId
  tile : Nat
  tileOut : Bool
  src : Nat
  out : Nat
  stage : Nat
  valid : Bool
  deriving DecidableEq, Repr

def State.streamAt (s : State) (set id : Nat) : StreamE :=
  let w := leNat (Mem.rdN s.mems.tt (ttBase set 0 + 32 * id) 8)
  ⟨fieldAt 16 w 48, bitsAt w 42 6, bitAt w 41, bitsAt w 38 3, bitsAt w 32 6, bitsAt w 16 16, bitAt w 0⟩

/-- The record of a stream of the active set; none runs under the default set (R317). -/
def State.stream (s : State) (id : Nat) : Option StreamE :=
  match s.activeSet with
  | none => none
  | some set => if (s.streamAt set id).valid ∧ id ≠ 0 then some (s.streamAt set id) else none

/-- The record uses a tile (R307). -/
def StreamE.usesTile (e : StreamE) : Bool := decide (e.src = 6) || e.tileOut

/-! ### Checking a set (R318) -/

/-- A record that fails ERR 0x2. -/
def State.badRecord (s : State) (set id : Nat) : Bool :=
  let bs := Mem.rdN s.mems.tt (ttBase set 0 + 32 * id) 32
  let e := s.streamAt set id
  if id = 0 then bs.any (· ≠ 0)
  else (!e.valid && bs.any (· ≠ 0)) || (e.valid && e.usesTile && !exposedTileOf s.part.gradeB e.tile)
where
  /-- The logical tiles a grade exposes (R46). -/
  exposedTileOf (gradeB : Bool) (n : Nat) : Bool := if gradeB then decide (n < 20 ∨ (24 ≤ n ∧ n < 44)) else decide (n < 48)

/-- Staging that the records ask of one switch-core half: T ports of its parity (R318 ERR 0x3). -/
def State.stageSum (s : State) (set half : Nat) : Nat :=
  ((List.range 4096).map (fun i =>
    let e := s.streamAt set i
    if e.valid then e.stage * ((List.range 6).filter (fun p => decide (p % 2 = half) && bitAt e.out p)).length else 0)).foldl (· + ·) 0

/-- Which tables take a background code (R315). -/
def bgAllowed (page e : Nat) : Bool :=
  if page = 63 then decide (idOf e = bgHome ∨ idOf e = bgSediment ∨ idOf e = bgDirSweep ∨ idOf e = bgTelemetry)
  else decide (1 ≤ page ∧ page ≤ 14 ∧ idOf e = bgLaneCal)

/-- An entry that fails ERR 0x4. -/
def badKind (page e : Nat) : Bool :=
  decide (kindOf e = 3) || (decide (kindOf e = 1) && decide (7 ≤ page ∧ page ≤ 14 ∨ page = 63)) ||
    (decide (kindOf e = 2) && !bgAllowed page e)

/-- An entry that fails ERR 0x5. -/
def State.badStream (s : State) (set page e : Nat) : Bool :=
  let r := s.streamAt set (idOf e)
  decide (kindOf e = 1) && (!r.valid || (decide (1 ≤ page ∧ page ≤ 6) && !bitAt r.out (page - 1)) ||
    (decide (15 ≤ page ∧ page ≤ 62) && r.usesTile && decide (r.tile ≠ page - 15)))

/-- The table binds to R316. -/
def State.seamPage (s : State) (page : Nat) : Bool :=
  decide (1 ≤ page ∧ page ≤ 14) || (decide (15 ≤ page ∧ page ≤ 62) && State.badRecord.exposedTileOf s.part.gradeB (page - 15))

/-- How many of `n` consecutive entries from `i` on satisfy a test, cyclically (R315). -/
def State.inRun (s : State) (set page len i n : Nat) (t : Nat → Bool) : Nat :=
  ((List.range n).filter (fun j => t (s.ttEntry set page ((i + j) % len)))).length

/-- A run of entries that begins at `i` fails ERR 0x7. -/
def State.badShare (s : State) (set page len i : Nat) : Bool :=
  if page = 63 then
    decide (s.inRun set page len i 256 (isBg bgHome) = 0) || decide (s.inRun set page len i 1024 (isBg bgSediment) = 0) ||
      decide (s.inRun set page len i 4096 (isBg bgDirSweep) = 0) || decide (s.inRun set page len i 65536 (isBg bgTelemetry) = 0)
  else if 1 ≤ page ∧ page ≤ 14 ∧ !s.unsplitUpper page then
    decide (s.inRun set page len i 4096 (fun e => kindOf e == 2) = 0) || decide (1 < s.inRun set page len i 64 (fun e => kindOf e == 2))
  else false

/-- An entry that fails ERR 0x8. -/
def State.badClosed (s : State) (page e : Nat) : Bool :=
  decide (kindOf e ≠ 0) && (s.unsplitUpper page ||
    (decide (15 ≤ page ∧ page ≤ 62) && !State.badRecord.exposedTileOf s.part.gradeB (page - 15)))

/-- The first entry of the pages that fails a test. -/
def firstBad (len : Nat) (t : Nat → Nat → Bool) : Option (Nat × Nat) :=
  ((List.range 63).map (· + 1)).findSome? (fun page => ((List.range len).find? (t page)).map (fun i => (page, i)))

/-- The check of a set: error, page and index of the first failure (R318). -/
def State.checkSet (s : State) (set : Nat) (arm : Bool) : BitVec 4 × Nat × Nat :=
  let len := s.ttLen set
  if len % 16 ≠ 0 ∨ len < 16 ∨ 65536 < len then (1, 0, 0)
  else match (List.range 4096).find? (s.badRecord set) with
  | some i => (2, 0, i)
  | none =>
    if (s.f F.DTT_STAGE_CAP_CAP0).toNat < s.stageSum set 0 ∨ (s.f F.DTT_STAGE_CAP_CAP1).toNat < s.stageSum set 1 then (3, 0, 0)
    else match firstBad len (fun p i => badKind p (s.ttEntry set p i)) with
    | some (p, i) => (4, p, i)
    | none => match firstBad len (fun p i => s.badStream set p (s.ttEntry set p i)) with
    | some (p, i) => (5, p, i)
    | none => match firstBad len (fun p i => s.seamPage p && decide (s.inRun set p len i 16 (fun e => kindOf e == 0) = 0)) with
    | some (p, i) => (6, p, i)
    | none => match firstBad len (fun p i => s.badShare set p len i) with
    | some (p, i) => (7, p, i)
    | none => match firstBad len (fun p i => s.badClosed p (s.ttEntry set p i)) with
    | some (p, i) => (8, p, i)
    | none => if arm ∧ !s.inTime then (9, 0, 0) else (0, 0, 0)

/-- A check ends (R318, R319): ERR, PAGE, INDEX and TT_RESULT; an ARM that passes arms the swap. -/
def State.ttResult (s : State) (set : Nat) (arm : Bool) (r : BitVec 4 × Nat × Nat) : State :=
  let s := ((s.setF F.DTT_TT_STAT_ERR r.1).setF F.DTT_TT_STAT_PAGE (BitVec.ofNat 6 r.2.1)).setF F.DTT_TT_STAT_INDEX (BitVec.ofNat 16 r.2.2)
  s.post (ev 0x43 stOk (256 * r.2.1 + 32 * b2n arm + 16 * set + r.1.toNat) r.2.2)

/-- The tick at which a swap is to take effect. -/
def State.swapTick (s : State) : R64 := s.rd Reg.DTT_SWAP_TICK_HI ++ s.rd Reg.DTT_SWAP_TICK_LO

/-- VALIDATE or ARM of a set (R318). One on the active set completes with ERR 0x9 (DTT_TT_CMD). While a set is armed or being checked it
fails, with the first failure that the table gives; it runs no check of its own. -/
def State.ttCheck (s : State) (set : Nat) (arm : Bool) : State :=
  if s.activeSet = some set then s.ttResult set arm (9, 0, 0)
  else if s.dtt.armed.isSome ∨ s.dtt.checking.isSome then
    let r := s.checkSet set arm
    s.ttResult set arm (if r.1 = 0 then (9, 0, 0) else r)
  else State.setF { s with dtt := { s.dtt with checking := some (set, arm, s.swapTick) } } F.DTT_TT_STAT_BUSY 1

/-- The running check ends (R318, R319). -/
def State.ttDone (s : State) : State :=
  match s.dtt.checking with
  | none => s
  | some (set, arm, tick) =>
    let r := s.checkSet set arm
    let s := State.setF { s with dtt := { s.dtt with checking := none } } F.DTT_TT_STAT_BUSY 0
    let s := s.ttResult set arm r
    if r.1 = 0 ∧ arm then
      State.setF { s with dtt := { s.dtt with armed := some (set, tick, s.now) } } F.DTT_TT_STAT_ARMED 1
    else s

/-- The present slot began at the boundary at which the armed set takes effect: the first at or after its tick and after the end of its
check (R319). -/
def State.swapDue (s : State) : Bool :=
  match s.dtt.armed with
  | none => false
  | some (_, tick, done) => decide (tick.toNat ≤ s.boundary) && decide (done.toNat < s.boundary)

/-- The armed swap is no longer so. -/
def State.unarm (s : State) : State := State.setF { s with dtt := { s.dtt with armed := none } } F.DTT_TT_STAT_ARMED 0

/-- DISARM before the boundary cancels the swap; at or after it, it does nothing (R320). -/
def State.ttDisarm (s : State) : State := if s.swapDue then s else s.unarm

/-- The set is active or armed: writes to it are discarded (R321, DTT_TT_LEN). -/
def State.setLive (s : State) (set : Nat) : Bool :=
  decide (s.activeSet = some set) || (match s.dtt.armed with | some (a, _) => decide (a = set) | none => false)

/-- A write through DTT_TTWIN (R321). -/
def State.ttWrite (s : State) (off : Nat) (wide : Bool) (v : R64) : State :=
  let set := (s.f F.DTT_TTWIN_PAGE_SET).toNat
  if s.setLive set then s.setF F.DTT_STAT_LIVE_WR 1
  else { s with mems := { s.mems with tt := winWrite s.mems.tt (ttBase set (s.f F.DTT_TTWIN_PAGE_PAGE).toNat + off) wide v } }

/-! ### Staging -/

/-- The virtual-channel-8 buffer of a flit is free once its last copy has left (R532). -/
def State.freeStaged (s : State) (f : Staged) : State :=
  if (List.range 6).any (fun p => (s.stagedAt p).any (fun g => g.mark == f.mark)) then s
  else match f.src with
    | some p => s.freeVc p 8
    | none => s

/-- CREDIT_STALL (R313). -/
def State.creditStall (s : State) (p : Nat) (id : Nat) : State :=
  (s.setF F.DTT_STAT_STALL 1).post (ev 0x46 stOk (2 ^ 16 * p + id) 0)

/-- Send the staged flits of a stream on a port, at most `n`, those that a tile produced in this slot not yet (R301, R306, R310, R313). -/
def State.sendStaged (s : State) (p id : Nat) : Nat → State
  | 0 => s
  | n + 1 =>
    match (s.stagedAt p).find? (fun f => f.stream.toNat == id && decide (f.ready.toNat ≤ s.clk.slot.toNat)) with
    | none => s
    | some f =>
      let it := TxItem.sched ⟨f.stream, s.clk.slot.setWidth 8, f.data⟩
      if !s.hasCredit (s.lp p) it then s.creditStall p id
      else if !s.mayGo p it then s
      else
        let s := s.setStaged p ((s.stagedAt p).eraseP (fun g => decide (g = f)))
        ((s.sendNow p it).freeStaged f).sendStaged p id n

/-- The scheduled flits of the slot's entry of a T port (R306); a port that is not UP keeps them staged (R314). -/
def State.portSlot (s : State) (p : Nat) : State :=
  let e := s.entry (portPage p)
  if kindOf e = 1 ∧ s.pState p = pUp then s.sendStaged p (idOf e) 312 else s

/-- The entries in force apply to the ports (R303, R305, R306): the T ports' streams first, then what waited for an open slot. -/
def State.portsSlot (s : State) : State :=
  let s := upto (fun p s => s.portSlot p) 6 s
  upto (fun p s => if s.trained p then (s.flushLink p).repump p else s) 14 s

/-- A slot boundary (R299, R303, R306): open frames close with the slot that ends (R536), the slot number advances, and the entries in force
apply. Where an armed set takes effect at this boundary, TIMETABLE_SWAP applies the entries, the new set's (R319, R322). -/
def State.slotBoundary (s : State) : State :=
  if s.now.toNat < s.nextBoundary then s
  else
    let s := upto (fun p s => s.closeFrame p) 14 s
    let s := { s with clk := { s.clk with slot := s.clk.slot + 1 }, dtt := { s.dtt with bgDone := false } }
    if s.swapDue then s else s.portsSlot

/-- Put one copy of a flit into the staging of each output port of its stream (R310). -/
def State.stageFlit (s : State) (src : Option Nat) (id : BitVec 12) (out : Nat) (data : Bytes) (ready : R64) : State :=
  let m := s.dtt.nextMark
  let s := { s with dtt := { s.dtt with nextMark := m + 1 } }
  upto (fun p s => if bitAt out p then s.setStaged p (s.stagedAt p ++ [⟨id, src, m, data, ready⟩]) else s) 6 s

/-- A flit that a tile produces for its stream (R307, R310): it can be sent from the next slot on. -/
def State.tileFlit (s : State) (n id : Nat) (data : Bytes) : State :=
  match s.stream id with
  | some e => if e.src = 6 ∧ e.tile = n then s.stageFlit none (BitVec.ofNat 12 id) e.out data (s.clk.slot + 1) else s
  | none => s

def noLate : Nat → Option R64 × Nat := fun _ => (none, 0)

/-- A scheduled flit came late (R312). -/
def State.lateFlit (s : State) (p : Nat) (id : BitVec 12) : State :=
  let (last, n) := sget noLate s.dtt.late id.toNat
  let s := (s.incF F.DTT_LATE_CNT_COUNT 1).setF F.DTT_STAT_LATE 1
  let due := match last with | none => true | some t => decide (65536 ≤ s.clk.slot.toNat - t.toNat)
  if due then
    State.post { s with dtt := { s.dtt with late := sset noLate s.dtt.late id.toNat (some s.clk.slot, 0) } }
      (ev 0x45 stOk (2 ^ 16 * p + id.toNat) (n + 1))
  else { s with dtt := { s.dtt with late := sset noLate s.dtt.late id.toNat (last, n + 1) } }

/-- A scheduled flit arrives on a torus input (R308, R310-R312). No flit is dropped: one of a stream that the active set does not know at
this input waits, with its buffer, for a set that does. -/
def State.schedArrive (s : State) (p : Nat) (f : SFlit) : State :=
  let known := match s.stream f.stream.toNat with | some e => if e.src = p then some e else none | none => none
  match known with
  | none => { s with dtt := { s.dtt with orphans := s.dtt.orphans ++ [(p, f)] } }
  | some e =>
    let lag := (s.f (F.DTT_PORT_LAG_LAG p)).toNat
    let late := decide (lag ≤ (s.clk.slot.setWidth 8 - f.slot).toNat)
    let s := if late then s.lateFlit p f.stream else s
    let s := if e.tileOut then s.emit (.schedTile e.tile f) else s
    if e.out = 0 then s.freeStaged ⟨f.stream, some p, s.dtt.nextMark, f.data, 0⟩ else s.stageFlit (some p) f.stream e.out f.data 0

/-- Flits staged for a port whose link is down leave their staging as a new set takes effect (R314). -/
def State.dropStaged (s : State) (p : Nat) : State :=
  if s.pState p = pUp then s
  else
    let l := s.stagedAt p
    l.foldl State.freeStaged (s.setStaged p [])

/-- The swap (R319, R322): the set becomes active at its entry 0, flits that waited for it are staged, and its entries apply to the ports
in this slot. -/
def State.ttSwap (s : State) : State :=
  match s.dtt.armed with
  | none => s
  | some (set, tick, done) =>
    if !s.swapDue then s
    else
      let s := { s.unarm with dtt := { s.unarm.dtt with sSwap := s.clk.slot } }
      let s := (s.setF F.DTT_TT_STAT_ACTIVE (BitVec.ofNat 1 set)).setF F.DTT_TT_STAT_DEFAULT 0
      let s := (s.pulse F.DTT_CTL_DTSYNC_SWAP).post (ev 0x44 stOk (2 * b2n (decide (tick.toNat < done.toNat)) + set) s.clk.slot.toNat)
      let s := upto (fun p s => s.dropStaged p) 6 s
      let l := s.dtt.orphans
      let s := l.foldl (fun s x => s.schedArrive x.1 x.2) { s with dtt := { s.dtt with orphans := [] } }
      s.portsSlot

/-! ### Background slots -/

/-- Do the background work of a code, once, in a slot whose housekeeping entry names it (R315, R324). -/
def State.inBackground (s : State) (code : Nat) (f : State → State) : State :=
  if isBg code (s.entry 63) ∧ !s.dtt.bgDone then f { s with dtt := { s.dtt with bgDone := true } } else s

/-- The snapshot of a TELEMETRY slot (R315). -/
def State.telemetry (s : State) : State :=
  (s.wr Reg.FLT_TEL_TICK_LO (s.now.setWidth 32)).wr Reg.FLT_TEL_TICK_HI (s.now.extractLsb' 32 32)

/-! ### Commands -/

/-- SLOT_BOUNDARY (R299). -/
def execSlotBoundary (s : State) : Host.Outcome State Fault Refusal := whenUp s State.slotBoundary

/-- SCHED_FLIT_RECEIVE (R311). -/
def execSchedFlitReceive (port : Fin 6) (f : SFlit) (s : State) : Host.Outcome State Fault Refusal :=
  whenUp s (fun s => s.schedArrive port.val f)

/-- VALIDATE (R318). -/
def execValidate (set : Bool) (s : State) : Host.Outcome State Fault Refusal := whenWr s (fun s => s.ttCheck (b2n set) false)

/-- TT_ARM (R319). -/
def execTtArm (set : Bool) (s : State) : Host.Outcome State Fault Refusal := whenWr s (fun s => s.ttCheck (b2n set) true)

/-- TT_DISARM (R320); a command that names the active set completes with ERR 0x9. -/
def execTtDisarm (set : Bool) (s : State) : Host.Outcome State Fault Refusal :=
  whenWr s (fun s => if s.activeSet = some (b2n set) then s.setF F.DTT_TT_STAT_ERR 9 else s.ttDisarm)

/-- TT_CHECK_DONE (R318). -/
def execTtCheckDone (s : State) : Host.Outcome State Fault Refusal := whenUp s State.ttDone

/-- TIMETABLE_SWAP (R319). -/
def execTimetableSwap (s : State) : Host.Outcome State Fault Refusal := whenUp s State.ttSwap

/-- TTWIN_WRITE (R321). -/
def execTtwinWrite (off : BitVec 17) (wide : Bool) (v : R64) (s : State) : Host.Outcome State Fault Refusal :=
  whenWr s (fun s => s.ttWrite off.toNat wide v)

/-- DIR_SWEEP_SLOT (R315): the sweep reads; what it corrects reads as before. -/
def execDirSweepSlot (s : State) : Host.Outcome State Fault Refusal := whenUp s (fun s => s.inBackground bgDirSweep id)

/-- TELEMETRY_SLOT (R315). -/
def execTelemetrySlot (s : State) : Host.Outcome State Fault Refusal := whenUp s (fun s => s.inBackground bgTelemetry State.telemetry)

end Sys2Proof.Machine
end

