-- ==== Sys2Proof/Machine/Switch.lean ====
section
/-!
DEFINITION. The switch core (R541-R562): routes, reversal, escape, output queues, marking, tamping (R209-R215).
-/

namespace Sys2Proof

open Sys2Proof.Machine

/-! ### Messages -/

def TMsg.dst : TMsg → NodeId
  | .req r => r.dst
  | .cpl c => c.dst
  | .snp p => p.dst

def TMsg.way : TMsg → Way
  | .req r => r.way
  | .cpl c => c.way
  | .snp p => p.way

def TMsg.withWay (w : Way) : TMsg → TMsg
  | .req r => .req { r with way := w }
  | .cpl c => .cpl { c with way := w }
  | .snp p => .snp { p with way := w }

/-- A snoop, as against a snoop response (R252). -/
def Snp.isSnoop (p : Snp) : Bool := decide (p.opc.toNat < 0x28)

/-- The node a message comes from (R479): a request's agent, a completion's sender, a snoop's home, a response's agent. -/
def TMsg.origin : TMsg → NodeId
  | .req r => agentNode r.src
  | .cpl c => c.src
  | .snp p => if p.isSnoop then p.home else agentNode p.agent

/-- The low virtual channel of a message's pair, and its escape channel (R542, R550). -/
def TMsg.pair : TMsg → Nat
  | .req _ => 0
  | .cpl _ => 2
  | .snp p => if p.isSnoop then 4 else 2
def TMsg.escVc : TMsg → Nat
  | .req _ => 6
  | _ => 7

/-- The virtual channel on which a message stands at its input (R542, R548). -/
def TMsg.vcIn (m : TMsg) : Nat := if m.way.esc then m.escVc else m.pair + b2n m.way.dl

/-- Flits of a message. -/
def TMsg.flits (m : TMsg) : Nat := (m.units + 13) / 14

/-- A message may pass between this node and a peer in probation (R488): job 0x0000, mirror copies, and what answers them. -/
def TMsg.probation : TMsg → Bool
  | .req r => decide (r.job = 0) || r.mc
  | .cpl _ => true
  | .snp _ => false

end Sys2Proof

namespace Sys2Proof.Machine

/-! ### Queues -/

def noQueue : Nat → List QMsg := fun _ => []
def State.outq (s : State) (p : Nat) : List QMsg := sget noQueue s.swc.outq p
def State.setOutq (s : State) (p : Nat) (l : List QMsg) : State := { s with swc := { s.swc with outq := sset noQueue s.swc.outq p l } }

def sumFlits (l : List TMsg) : Nat := (l.map TMsg.flits).foldl (· + ·) 0

/-- Flits of a port's transmit FIFO that count for a class: in isolated mode its own, of a completion to an agent that of its entry (R555,
R559, R561). -/
def State.fifo (s : State) (p : Nat) (iso : BitVec 3) : Nat :=
  let mine : TxItem → Bool := fun it =>
    match it with
    | .mem _ m => m.iso == iso
    | .att _ w0 _ _ => s.ep.ents.any (fun e => decide (e.port + 6 = p) && !e.live && e.tag == fieldAt 12 w0.toNat 40 && e.iso == iso)
    | _ => false
  (((s.lp p).queue.filter (fun it => !s.isolated || mine it)).map TxItem.flits).foldl (· + ·) 0

/-- The depth of an output queue that marking looks at, with the port's transmit FIFO (R555, R559): in isolated mode that of the
message's class. -/
def State.depth (s : State) (p : Nat) (iso : BitVec 3) : Nat :=
  sumFlits (((s.outq p).filter (fun q => !s.isolated || q.msg.iso == iso)).map (·.msg)) + s.fifo p iso

/-- The depth of SWC_P_DEPTH. -/
def State.depthAll (s : State) (p : Nat) : Nat :=
  sumFlits ((s.outq p).map (·.msg)) + (((s.lp p).queue.map TxItem.flits).foldl (· + ·) 0)

/-! ### Marking (R559) -/

/-- One step of x^16 + x^14 + x^13 + x^11 + 1 (DESIGN CHOICE, log entry 9). -/
def lfsrStep (x : BitVec 16) : BitVec 16 :=
  (x <<< 1) ||| (bit1 (x.getLsbD 15 ^^ x.getLsbD 13 ^^ x.getLsbD 12 ^^ x.getLsbD 10)).setWidth 16

def lfsr0 : Nat → BitVec 16 := fun _ => 1

/-- RED's decision for a depth, from a profile (R559). -/
def State.redMark (s : State) (p : Nat) (q mn mx pmax : Nat) : Bool × State :=
  if mx ≤ q then (true, s)
  else if q < mn then (false, s)
  else
    let x := lfsrStep (sget lfsr0 s.swc.lfsr p)
    (decide (x.toNat < pmax * 256 * (q - mn) / (mx - mn)), { s with swc := { s.swc with lfsr := sset lfsr0 s.swc.lfsr p x } })

/-- Mark a request or a completion at an output port (R559). -/
def State.mark (s : State) (p : Nat) (m : TMsg) : TMsg × State :=
  let go (c : BitVec 2) (iso : BitVec 3) : Bool × State :=
    s.redMark p (s.depth p iso) (s.f (F.SWC_RED_MIN c.toNat)).toNat (s.f (F.SWC_RED_MAX c.toNat)).toNat (s.f (F.SWC_RED_PMAX c.toNat)).toNat
  match m with
  | .req r =>
    let (b, s) := go r.colour r.iso
    if b then (.req { r with ce := true }, s.incF (F.SWC_P_MARK_COUNT p) 1) else (m, s)
  | .cpl c =>
    let (b, s) := go c.colour c.iso
    if b then (.cpl { c with ce := true }, s.incF (F.SWC_P_MARK_COUNT p) 1) else (m, s)
  | .snp _ => (m, s)

/-! ### Tamping (R209-R215) -/

/-- The request may be tamped: class TAMPED, an atomic whose operands combine. -/
def tampable (r : Req) : Bool :=
  decide (r.cls = 3) && !r.mc && decide (3 ≤ r.opc.toNat ∧ r.opc.toNat ≤ 5) && (!(decide (r.opc = 3) && decide (r.atype = 2)) || r.attr.accum)

/-- Two requests match for tamping (R209). -/
def tampMatch (a b : Req) : Bool :=
  a.dst == b.dst && a.dpa == b.dpa && a.opc == b.opc && a.width == b.width && a.atype == b.atype && a.job == b.job &&
    a.attr.keySlot == b.attr.keySlot && a.attr.kgen == b.attr.kgen && (!(decide (a.opc = 3) && decide (a.atype = 2)) || a.ew == b.ew)

/-- The combined operand (R211): a sum of converted integers, or the operation on the two operands. -/
def tampData (a b : Req) : Bytes :=
  if a.opc = 3 ∧ a.atype = 2 then natLe 16 ((leNat (a.data.take 16) + leNat (b.data.take 16)) % 2 ^ 128)
  else
    let n := widthBytes a.width
    natLe n (atomicOp a.opc a.atype (8 * n) (leNat (a.data.take n)) (leNat (b.data.take n))) ++ zeros (16 - n)

/-- The identity of a record (R211). -/
def State.tampId (s : State) (index : Nat) (gen : BitVec 2) : BitVec 20 := s.node ++ BitVec.ofNat 12 index ++ gen

/-- A free record, where the class may take one (R211, R561). -/
def State.freeRec (s : State) (iso : BitVec 3) : Option Nat :=
  let room := if s.isolated
    then decide ((s.swc.tamps.filter (fun t => t.iso == iso)).length < 4096 / max 1 s.isoCount)
    else decide (s.swc.tamps.length < 4096)
  if room then (List.range 4096).find? (fun i => !s.swc.tamps.any (fun t => decide (t.index = i))) else none

/-- Combine a request into a waiting one that this node has already tamped. -/
def State.tampInto (s : State) (t : TampRec) (w r : Req) : Req × State :=
  let w' := { w with tamp := ⟨true, w.tamp.id, w.tamp.n + r.tamp.n, w.tamp.sat || r.tamp.sat⟩, data := tampData w r, ce := w.ce || r.ce }
  let t' := { t with contribs := t.contribs ++ [⟨{ r with data := [] }, r.tamp.sat⟩], op := w' }
  (w', { s with swc := { s.swc with tamps := s.swc.tamps.map (fun u => if u.index = t.index then t' else u) } })

/-- Combine a request with a waiting one under a new record. -/
def State.tampNew (s : State) (i : Nat) (w r : Req) : Req × State :=
  let g := sget (fun _ => 0) s.swc.gens i
  let w' := { w with
    tamp := ⟨true, s.tampId i g, w.tamp.n + r.tamp.n, w.tamp.sat || r.tamp.sat⟩, data := tampData w r, ce := w.ce || r.ce }
  let t : TampRec := ⟨i, g, w.iso, [⟨{ w with data := [] }, w.tamp.sat⟩, ⟨{ r with data := [] }, r.tamp.sat⟩], w', false⟩
  (w', { s with swc := { s.swc with tamps := s.swc.tamps ++ [t], gens := sset (fun _ => 0) s.swc.gens i (g + 1) } })

/-- Replace the first queued message that satisfies a test. -/
def replaceFirst (t : QMsg → Bool) (v : QMsg → QMsg) : List QMsg → List QMsg
  | [] => []
  | q :: qs => if t q then v q :: qs else q :: replaceFirst t v qs

/-- The record of a tamped operation of this node's own. -/
def State.tampRec (s : State) (r : Req) : Option TampRec := s.swc.tamps.find? (fun u => r.tamp.on && s.tampId u.index u.gen == r.tamp.id)

/-- The operation is one that this node tamped. -/
def State.ownOp (s : State) (r : Req) : Bool := r.tamp.on && r.tamp.id.extractLsb' 14 6 == s.node

/-- A record of this node holds the request as a contributor (R211): a second copy of it would count twice (R184, R214). -/
def State.contributes (s : State) (r : Req) : Bool :=
  s.swc.tamps.any (fun t => t.contribs.any (fun k => k.req.src == r.src && k.req.seq == r.seq && dpaNode k.req.dpa == dpaNode r.dpa &&
    k.req.cls == r.cls && k.req.tamp.on == r.tamp.on && (!r.tamp.on || k.req.tamp.id == r.tamp.id)))

/-- A waiting request takes another in: of an operation sent again two copies may be under way, so none is added to it (R214). -/
def State.takesIn (s : State) (w r : Req) : Bool :=
  tampable w && tampMatch w r && (match s.tampRec w with | some u => !u.resent | none => !s.ownOp w)

/-- Tamp a request with one that waits in the same output queue, where there is one and a record is free (R210, R211). -/
def State.tamp (s : State) (p : Nat) (r : Req) : Option State :=
  let t : QMsg → Bool := fun q => match q.msg with | .req w => s.takesIn w r | _ => false
  if s.ownOp r then none
  else match (s.outq p).find? t, s.freeRec r.iso with
    | some ⟨_, _, .req w⟩, some i =>
      let x := match s.tampRec w with
        | some u => s.tampInto u w r
        | none => s.tampNew i w r
      some (x.2.setOutq p (replaceFirst t (fun q => { q with msg := .req x.1 }) (x.2.outq p)))
    | _, _ => none

/-- A CACK for a completion (R183). -/
def cackFor (s : State) (c : Cpl) : Cpl := { c with opc := 0x33, status := 0, ce := false, sat := false, src := s.node, dst := c.src, data := [] }

/-- Complete one contributor of a tamped operation (R213): its own SAT, or every contributor's where the home's is set. -/
def State.completeContrib (s : State) (c : Cpl) (k : Contrib) : State :=
  s.sendCpl { c with
    opc := 0x30, cls := k.req.cls, size := k.req.size, sat := k.sat || c.sat, ce := k.req.ce || c.ce, agent := k.req.src, seq := k.req.seq,
    colour := k.req.colour, iso := k.req.iso, tampId := k.req.tamp.id, tamped := k.req.tamp.on,
    dst := if k.req.tamp.on then k.req.tamp.id.extractLsb' 14 6 else agentNode k.req.src, data := [] }

/-- The completion of a tamped operation reaches the node that tamped it (R213). -/
def State.tampedCpl (s : State) (c : Cpl) : State :=
  match s.swc.tamps.find? (fun t => s.tampId t.index t.gen == c.tampId) with
  | none => s
  | some t =>
    let s := { s with swc := { s.swc with tamps := dropWhere (fun u => decide (u.index = t.index)) s.swc.tamps } }
    let s := s.sendCpl (cackFor s c)
    t.contribs.foldl (fun s k => s.completeContrib c k) s

/-! ### Routing -/

/-- The port is declared down for routing (R465); a link in probation carries no transit (R488). -/
def State.portDown (s : State) (p : Nat) : Bool := s.on (F.FLT_PORT_HB_DOWN p) || decide (s.pState p = pProbation)

/-- The first axis on which this node and DST differ (R548). -/
def State.axis (s : State) (dst : NodeId) : Option Nat := (List.range 3).find? (fun a => decide (coord s.node a ≠ coord dst a))

/-- The link that a port's message leaves on is its axis's dateline link (R548). -/
def State.dateline (s : State) (p : Nat) : Bool := if p % 2 = 0 then decide (coord s.node (p / 2) = 3) else decide (coord s.node (p / 2) = 0)

/-- A bit of a 3-bit mask set or changed. -/
def flip3 (x : BitVec 3) (a : Nat) : BitVec 3 := x ^^^ BitVec.ofNat 3 (2 ^ a)

/-- The port, channel and travelling fields of a message in dimension order (R548); DL is kept per axis: the axis of the port it
came in on, when it is another, clears it. -/
def State.leave (s : State) (inp : Option Nat) (m : TMsg) (a : Nat) : Nat × Nat × TMsg :=
  let w := m.way
  let p := 2 * a + b2n (bitAt w.dir.toNat a)
  let dl := (w.dl && (match inp with | some i => decide (i / 2 = a ∧ i < 6) | none => false)) || s.dateline p
  (p, m.pair + b2n dl, m.withWay { w with dl := dl })

/-- Where a message goes. -/
inductive Route where
  | here
  | out (p vc : Nat) (m : TMsg)
  | hold
  deriving DecidableEq, Repr

/-- The escape route of a message (R550). -/
def State.escape (s : State) (m : TMsg) : Route :=
  let n := m.dst.toNat
  let p := (s.f (F.SWC_ESC_PORT n)).toNat
  if s.on (F.SWC_ESC_VALID n) ∧ p < 6 ∧ !s.portDown p then .out p m.escVc (m.withWay { m.way with esc := true }) else .hold

/-- Route a message (R548-R550). -/
def State.route (s : State) (inp : Option Nat) (m : TMsg) : Route :=
  match s.axis m.dst with
  | none => .here
  | some a =>
    if m.way.esc then s.escape m
    else
      let (p, vc, m') := s.leave inp m a
      if !s.portDown p then .out p vc m'
      else if bitAt m.way.rev.toNat a then s.escape m
      else
        let w := m.way
        let r := m.withWay { w with dir := flip3 w.dir a, rev := flip3 w.rev a, dl := false }
        let (p, vc, m') := s.leave none r a
        if !s.portDown p then .out p vc m' else s.escape r

/-- The port in probation that leads to a node. -/
def State.probationPort (s : State) (n : NodeId) : Option Nat :=
  (List.range 6).find? (fun p => decide (s.pState p = pProbation) && neighbour s.node p == n)

/-- Flits in the escape hold for a destination. -/
def State.heldFor (s : State) (d : NodeId) : Nat := sumFlits ((s.swc.hold.filter (fun h => h.2.dst == d)).map (·.2))

/-- Put a message into the escape hold (R550, R551): while it is full, the message stays at its input. -/
def State.escHold (s : State) (inp : Option Nat) (m : TMsg) : State :=
  if 1024 < sumFlits (s.swc.hold.map (·.2)) + m.flits then { s with swc := { s.swc with stopped := s.swc.stopped ++ [(inp, m)] } }
  else
    let first := decide (s.heldFor m.dst = 0)
    let s := State.setF { s with swc := { s.swc with hold := s.swc.hold ++ [(inp, m)] } } F.SWC_STAT_HELD 1
    if first then s.post (ev 0xB0 stOk (2 ^ 16 * inp.getD 15 + m.dst.toNat) (s.heldFor m.dst)) else s

/-- Put a message into a queue, tamped where it can be (R210); a second copy of a request that a record here holds goes no further. -/
def State.join (s : State) (inp : Option Nat) (p vc : Nat) (m : TMsg) : State :=
  let plain (s : State) : State := s.setOutq p (s.outq p ++ [⟨vc, inp, m⟩])
  match m with
  | .req r => if tampable r then (if s.contributes r then s else (s.tamp p r).getD (plain s)) else plain s
  | _ => plain s

/-- Put a message into an output queue: marked, and tamped where it can be (R210, R559). -/
def State.enqueue (s : State) (inp : Option Nat) (p vc : Nat) (m : TMsg) : State :=
  let (m, s) := s.mark p m
  (if vc = 6 ∨ vc = 7 then s.setF F.SWC_STAT_ESC 1 else s).join inp p vc m

/-- The queue towards this node's own home (R210; DESIGN CHOICE, log entry 107). -/
def homeQ : Nat := 14

/-- A message for this node leaves the switch; a request that can be tamped waits for the next tick. -/
def State.arrived (s : State) (inp : Option Nat) (m : TMsg) : State :=
  match m with
  | .req r => if tampable r then s.join inp homeQ 0 m else s.emit (.deliver m)
  | _ => s.emit (.deliver m)

/-- The oldest request that waits for this node's home reaches it. -/
def State.serveHome (s : State) : State :=
  match s.outq homeQ with
  | [] => s
  | q :: qs => (s.setOutq homeQ qs).emit (.deliver q.msg)

/-- A message is discarded at its input (R479, R553). -/
def State.discard (s : State) (inp : Option Nat) : State :=
  match inp with
  | some p => s.incF (F.SWC_P_DISC_COUNT p) 1
  | none => s

/-- The message stands behind one that has stopped its virtual channel (R551). -/
def State.behind (s : State) (inp : Option Nat) (m : TMsg) : Bool :=
  inp.isSome && s.swc.stopped.any (fun x => decide (x.1 = inp) && x.2.vcIn == m.vcIn)

/-- Forward a memory-class message (R548-R553, R479); it waits behind one that the full hold has stopped on its channel (R551). -/
def State.forward (s : State) (inp : Option Nat) (m : TMsg) : State :=
  if s.behind inp m then { s with swc := { s.swc with stopped := s.swc.stopped ++ [(inp, m)] } }
  else
  let fromProb := m.probation && (match inp with | some p => decide (p < 6 ∧ s.pState p = pProbation) | none => false)
  if s.expelled m.origin ∧ !fromProb then s.discard inp
  else if s.expelled m.dst ∧ m.dst ≠ s.node then
    match (if m.probation then s.probationPort m.dst else none) with
    | some p => s.enqueue inp p m.pair m
    | none => s.discard inp
  else match s.route inp m with
    | .here => s.arrived inp m
    | .out p vc m' => s.enqueue inp p vc m'
    | .hold => s.escHold inp m

/-- Held messages are routed again (R551). -/
def State.reroute (s : State) : State :=
  let l := s.swc.hold ++ s.swc.stopped
  l.foldl (fun s x => s.forward x.1 x.2) { s with swc := { s.swc with hold := [], stopped := [] } }

/-- A port is declared down: what waits in its queue is routed again (R549). -/
def State.requeue (s : State) (p : Nat) : State :=
  let l := s.outq p
  l.foldl (fun s q => s.forward q.inp q.msg) (s.setOutq p [])

/-! ### Service of an output port -/

/-- The virtual channels in the order in which the port's turn, counted in flit cycles, prefers them (R556). -/
def State.vcOrder (s : State) (t : Nat) : List (List Nat) :=
  let wr := max 1 (s.f F.SWC_ARB_W_RSP).toNat
  let ws := max 1 (s.f F.SWC_ARB_W_SNP).toNat
  let wq := max 1 (s.f F.SWC_ARB_W_REQ).toNat
  let i := t % (wr + ws + wq)
  [6, 7] :: (if i < wr then [[2, 3], [4, 5], [0, 1]] else if i < wr + ws then [[4, 5], [0, 1], [2, 3]] else [[0, 1], [2, 3], [4, 5]])

/-- The port offers the present cycles to the memory class (R306, R323), and its link carries them. -/
def State.offers (s : State) (p : Nat) : Bool :=
  s.trained p && s.slotOpen p

/-- Distance of an input in round robin after the one served last. -/
def rrDist (last : Nat) (inp : Option Nat) : Nat := (inp.getD 14 + 15 - (last + 1) % 15) % 15

/-- The message that a port sends next (R556, R561): of the class whose turn it is in isolated mode. -/
def State.pick (s : State) (p : Nat) : Option QMsg :=
  let cls := (List.range 8).filter (fun c => bitAt s.isoMask.toNat c)
  let mine : QMsg → Bool := fun q =>
    (!s.isolated || decide (q.msg.iso.toNat = cls.getD (s.now.toNat % max 1 cls.length) 0)) && s.mayGo p (.mem q.vc q.msg)
  let cand := (s.outq p).filter mine
  let last := sget noSent s.swc.last p
  (s.vcOrder (sget noSent s.swc.turn p)).findSome? (fun vcs =>
    (cand.filter (fun q => vcs.contains q.vc)).foldl (fun b q =>
      match b with
      | none => some q
      | some x => if rrDist last q.inp < rrDist last x.inp then some q else some x) none)

/-- An output port sends one message in a tick that offers it cycles (DESIGN CHOICE, log entry 16). -/
def State.serve (s : State) (p : Nat) : State :=
  if !s.offers p then s
  else match s.pick p with
    | none => s
    | some q =>
      let s := s.setOutq p ((s.outq p).eraseP (fun x => decide (x = q)))
      let s := { s with swc := { s.swc with
        turn := sset noSent s.swc.turn p (sget noSent s.swc.turn p + q.msg.flits), last := sset noSent s.swc.last p (q.inp.getD 14) } }
      s.sendNow p (.mem q.vc q.msg)

/-- A node lies on a path that dimension order, on either way round an axis, or an escape can give a request of this node (R548-R550). -/
def State.onPath (s : State) (n dst : NodeId) : Bool :=
  s.on (F.SWC_ESC_VALID dst.toNat) ||
  (List.range 3).any (fun a => (List.range 3).all (fun b =>
    (decide (a ≤ b) || decide (coord n b = coord dst b)) && (decide (b ≤ a) || decide (coord n b = coord s.node b))))

/-- The completion that tells of a tamped operation lost with a node (R215). -/
def lostCpl (r : Req) : Cpl :=
  { opc := 0x30, cls := r.cls, size := r.size, status := stTargetLost, ce := false, sat := false, way := way0, src := r.dst, agent := r.src,
    seq := r.seq, colour := r.colour, iso := r.iso, tampId := r.tamp.id, tamped := r.tamp.on, dst := agentNode r.src, data := [] }

/-- An outstanding tamped operation when a node is expelled: homed there, its contributors' own nodes see to it (R479); tamped again there,
every contributor is lost (R215); else it is sent again with the same identity (R184, R214). Whether a record of the node held it is not
known here (DESIGN CHOICE, log entry 18). -/
def State.expelTamp (s : State) (n : NodeId) (t : TampRec) : State :=
  let free (s : State) : State := { s with swc := { s.swc with tamps := dropWhere (fun u => decide (u.index = t.index)) s.swc.tamps } }
  if t.op.dst = n then free s
  else
    let (x, s) := if s.onPath n t.op.dst then s.drawWord else (0, s)
    if x.getLsbD 0 then t.contribs.foldl (fun s k => s.completeContrib (lostCpl t.op) k) (free s)
    else
      let again : TampRec → TampRec := fun u => if u.index = t.index then { u with resent := true } else u
      State.emit { s with swc := { s.swc with tamps := s.swc.tamps.map again } } (.inject (.req t.op))

def State.resendTamps (s : State) (n : NodeId) : State := s.swc.tamps.foldl (fun s t => s.expelTamp n t) s

/-- Isolation mode and classes are committed (R560, R639). -/
def State.swcCommit (s : State) : State := s.effWr Reg.SWC_CTL (s.rd Reg.SWC_CTL)

/-! ### Commands -/

/-- SWITCH_FORWARD (R548). -/
def execSwitchForward (inp : Option (Fin 14)) (msg : TMsg) (s : State) : Host.Outcome State Fault Refusal :=
  whenUp s (fun s => s.forward (inp.map (·.val)) msg)

/-- ESCAPE_REROUTE (R551). -/
def execEscapeReroute (s : State) : Host.Outcome State Fault Refusal := whenUp s State.reroute

/-- SWC_COMMIT (R639). -/
def execSwcCommit (s : State) : Host.Outcome State Fault Refusal := whenWr s State.swcCommit

/-- TAMPED_COMPLETION (R213). -/
def execTampedCompletion (c : Cpl) (s : State) : Host.Outcome State Fault Refusal := whenUp s (fun s => s.tampedCpl c)

end Sys2Proof.Machine
end

