-- ==== Sys2Proof/Machine/Issue.lean ====
section
/-!
DEFINITION. Sending a translated request to its home (R71, R72, R180, R264, R267, R547, R558, R560), and the operations of a
running descriptor: their cut into requests, their answers, their pauses (R87, R91, R133-R135, R683, R684).
-/

namespace Sys2Proof.Machine

/-- Where a request goes: its home, or the partner of a mirrored range whose home is expelled (R267); none where both are. -/
def State.homeOf (s : State) (a : Attr) (d : Dpa) : Option NodeId :=
  if !s.expelled (dpaNode d) then some (dpaNode d)
  else if a.mirrored && !s.expelled a.partner then some a.partner
  else none

/-- Number and mark a request of a slot and send it, in the job it was translated in (R63, R100), with the mirror copy of a store (R72, R264); the request as sent. -/
def State.issueReq (s : State) (slot : Nat) (dst : NodeId) (r : Req) : Req × State :=
  let home := dpaNode r.dpa
  let (n, s) := s.nextSeq r.src home r.cls
  let wr := decide (r.opc = 2) && r.attr.mirrored
  let (prev, s) := if wr then s.prevWrite r.src home r.cls n else (0, s)
  let (col, s) := s.colour slot (16 + r.data.length)
  let r := { r with seq := n, prevSeq := prev, colour := col, iso := s.slotIso slot, dst := dst }
  let s := s.sendReq r
  let s := if wr ∧ dst = home ∧ !s.expelled r.attr.partner then s.sendReq { r with mc := true, dst := r.attr.partner } else s
  (r, s)

/-! ### Pacing (R221, R222) -/

def pace0 : Nat → Pace := fun _ => ⟨0x100000, 0, none, 0⟩
def paceKey (agent : Nat) (home : NodeId) : Nat := 64 * agent + home.toNat
def State.paceOf (s : State) (agent : Nat) (home : NodeId) : Pace := sget pace0 s.ep.pace (paceKey agent home)
def State.setPace (s : State) (agent : Nat) (home : NodeId) (v : Pace) : State :=
  { s with ep := { s.ep with pace := sset pace0 s.ep.pace (paceKey agent home) v } }

/-- A completion of a home: a marked one halves the window, at most once in 64 tk (R221). -/
def State.paceCe (s : State) (agent : Nat) (home : NodeId) (ce : Bool) : State :=
  let w := s.paceOf agent home
  let due := match w.lastCut with | some t => decide (t.toNat + 64 ≤ s.now.toNat) | none => true
  if !ce then s
  else if due then s.setPace agent home { w with lastCe := s.now, w := max (w.w / 2) 0x1000, lastCut := some s.now }
  else s.setPace agent home { w with lastCe := s.now }

/-- The acknowledgement of a request's completion (R183, R544): none for a LOAD. -/
def State.ackReq (s : State) (r : Req) : State :=
  if r.opc = 1 then s
  else
    let c : Cpl :=
      { opc := 0x33, cls := r.cls, size := r.size, status := 0, ce := false, sat := false, way := way0, src := s.node,
        agent := r.src, seq := r.seq, colour := r.colour, iso := r.iso, tampId := 0, tamped := false, dst := r.dst, data := [] }
    s.sendCpl c

/-! ### A running descriptor -/

/-- The work of a descriptor while it runs: the answers still to come, the failure that ended it (status and operand word), the
absent page at which it pauses, SAT. -/
structure Io where
  s : State
  q : Nat
  agent : AgentId
  job : JobId
  slot : Nat
  /-- The table its translations are made in; none for the slot's present one (R99). -/
  tbl : Option (Nat × Nat)
  nopres : Bool
  resps : List Resp
  err : Option (Status × Nat)
  pause : Option (Nat × Nat)
  /-- A queue stop ended the work at a pause point (R133, R138). -/
  halt : Bool
  sat : Bool
  deriving DecidableEq, Repr

/-- A descriptor of a queue begins its work. -/
def State.io (s : State) (q : Nat) (d : Desc) (nopres : Bool) (resps : List Resp) : Io :=
  ⟨s, q, s.qAgent q, d.job, s.qSlot q, some d.tbl, nopres, resps, none, none, false, false⟩

/-- The work goes on. -/
def Io.live (i : Io) : Bool := i.err.isNone && i.pause.isNone && !i.halt

def Io.fail (i : Io) (st : Status) (word : Nat) : Io := if i.live then { i with err := some (st, word) } else i

/-- The answer to an operation; where the operands hold none it is OK with free data (DESIGN CHOICE, log entry 3). -/
def Io.answer (i : Io) (n : Nat) : Resp × Io :=
  match i.resps with
  | r :: rest => (r, { i with resps := rest })
  | [] =>
    let (bs, s) := i.s.drawBytes n
    (⟨stOk, false, false, bs⟩, { i with s := s })

/-- The greatest naturally aligned request at an address, of 256 B at most (R162, R618). -/
def pieceLen (a len : Nat) : Nat := (([256, 128, 64, 32, 16, 8, 4, 2] : List Nat).find? (fun k => a % k == 0 && decide (k ≤ len))).getD 1

/-- The range of an operand's first byte (R87, R683). -/
def Io.range (i : Io) (va word : Nat) : Option RangeE × Io :=
  match i.s.findIn (i.tbl.getD (i.s.slotTbl i.slot)) va 1 with
  | some e => (some e, i)
  | none => (none, i.fail stXlate word)

/-- Check bounds and presence of one piece (R87, R91). -/
def Io.touch (i : Io) (e : RangeE) (word va n : Nat) : Io :=
  if va < e.vaStart ∨ e.vaStart + e.len < va + n then i.fail stXlate word
  else if e.presEn ∧ !i.nopres ∧ !i.s.present e ((va - e.vaStart) / 65536) then
    { i with pause := some (e.vaStart + (va - e.vaStart) / 65536 * 65536, word) }
  else i

/-- One request of a descriptor and its answer. It never has another of its own outstanding, so pacing never holds it (R222;
DESIGN CHOICE, log entry 108). -/
def Io.send (i : Io) (e : RangeE) (word n : Nat) (r : Req) : Resp × Io :=
  let none_ : Resp := ⟨stOk, false, false, []⟩
  if !i.live then (none_, i)
  else match i.s.homeOf (attrOf e) r.dpa with
    | none => (none_, i.fail stTargetLost word)
    | some d =>
      let (r, s) := i.s.issueReq i.slot d { r with attr := attrOf e }
      let (a, i) := Io.answer { i with s := s } n
      let i := { i with s := (i.s.ackReq r).paceCe (agentLocal i.agent).toNat d a.ce, sat := i.sat || a.sat }
      if a.status = stOk then (a, i) else (a, i.fail a.status word)

/-- Read `len` bytes of a range; `fuel` bounds the pieces. -/
def Io.loads (e : RangeE) (word : Nat) : Nat → Nat → Nat → Io → Bytes × Io
  | 0, _, _, i => ([], i)
  | fuel + 1, va, len, i =>
    if len = 0 ∨ !i.live then ([], i)
    else
      let n := pieceLen va len
      let i := i.touch e word va n
      if !i.live then ([], i)
      else
        let (a, i) := i.send e word n (req0 1 1 (BitVec.ofNat 4 (Nat.log2 n)) (dpaOf e va) i.agent i.job)
        if !i.live then ([], i)
        else
          let (bs, i) := Io.loads e word fuel (va + n) (len - n) i
          (slice a.data 0 n ++ bs, i)

/-- Read bytes of a range. -/
def Io.load (i : Io) (e : RangeE) (word va len : Nat) : Bytes × Io := Io.loads e word len va len i

/-- The data units of a store of some bytes at an offset (R163). -/
def storeUnits (off : Nat) (bs : Bytes) : Bytes := if bs.length < 16 then slice (zeros (off % 16) ++ bs) 0 16 else bs

/-- Write bytes to a range, piece by piece; how many were written. -/
def Io.stores (e : RangeE) (word : Nat) : Nat → Nat → Bytes → Io → Nat × Io
  | 0, _, _, i => (0, i)
  | fuel + 1, va, bs, i =>
    if bs = [] ∨ !i.live then (0, i)
    else
      let n := pieceLen va bs.length
      let i := i.touch e word va n
      if !i.live then (0, i)
      else
        let r := { req0 2 1 (BitVec.ofNat 4 (Nat.log2 n)) (dpaOf e va) i.agent i.job with data := storeUnits va (bs.take n) }
        let (_, i) := i.send e word n r
        if !i.live then (0, i)
        else
          let (m, i) := Io.stores e word fuel (va + n) (bs.drop n) i
          (n + m, i)

/-- Write bytes to a range. -/
def Io.store (i : Io) (e : RangeE) (word va : Nat) (bs : Bytes) : Nat × Io := Io.stores e word bs.length va bs i

/-- Read, write bytes of an operand: its first byte fixes the range, and a byte beyond that fails (R87, R683). -/
def Io.loadOp (i : Io) (d : Desc) (word va len : Nat) : Bytes × Io :=
  if len = 0 then ([], i)
  else match i.range (d.w word).toNat word with
    | (some e, i) => i.load e word va len
    | (none, i) => ([], i)

def Io.storeOp (i : Io) (d : Desc) (word va : Nat) (bs : Bytes) : Io :=
  if bs = [] then i
  else match i.range (d.w word).toNat word with
    | (some e, i) => (i.store e word va bs).2
    | (none, i) => i

/-- Read, write host memory (R122). -/
def Io.busLoad (i : Io) (word a n : Nat) : Bytes × Io :=
  if !i.live then ([], i)
  else
    let (r, i) := Io.answer { i with s := i.s.emit (.hostRead (BitVec.ofNat 64 a) n) } n
    if r.status = stOk then (slice r.data 0 n, i) else ([], i.fail r.status word)

def Io.busStore (i : Io) (a : Nat) (bs : Bytes) : Io :=
  if !i.live then i else { i with s := i.s.emit (.hostWrite (BitVec.ofNat 64 a) bs) }

end Sys2Proof.Machine
end

