-- ==== Sys2Proof/Machine/Lanes.lean ====
section
/-!
DEFINITION. Lanes and the link layer (R497-R534): port states and training, lane and link failure, flits received, replay, quiet and
deep, test, retimed cables.
-/

namespace Sys2Proof.Machine

/-! ### Down (R465, R466) -/

/-- The peer of a port as LINK_DOWN and LINK_UP name it. -/
def State.peerNode (s : State) (p : Nat) : NodeId := s.f (F.LAN_P_STAT_PEER_NODE p)

/-- LINK_DOWN (R496). -/
def evLinkDown (p : Nat) (peer : NodeId) (cause missed : Nat) : Ev := ev 0x80 stOk (2 ^ 16 * p + 256 * peer.toNat + cause) missed

/-- A torus port is declared down (R465): posted, and routed around at once (R549). -/
def State.declareDown (s : State) (p cause : Nat) : State :=
  if s.on (F.FLT_PORT_HB_DOWN p) then s
  else
    let s := s.setF (F.FLT_PORT_HB_DOWN p) 1
    (s.post (evLinkDown p (neighbour s.node p) cause (s.f (F.FLT_PORT_HB_MISSED p)).toNat)).requeue p

/-- The link layer reports a port's link failed (R465, R466). -/
def State.reportDown (s : State) (p : Nat) : State :=
  if p < 6 then s.declareDown p 1 else s.post (evLinkDown p (s.peerNode p) 1 0)

/-- What a failed link hands over (R512): MEM to the switch, SCHED to staging, CTRL dropped; what went to an agent is discarded
at the port (R466). -/
def State.handOver (s : State) (p : Nat) : List TxItem → State
  | [] => s
  | it :: rest =>
    let s := match it with
      | .mem _ m => s.emit (.inject m)
      | .sched f =>
        let s := s.setStaged p (s.stagedAt p ++ [Staged.mk f.stream none s.dtt.nextMark f.data 0])
        { s with dtt := { s.dtt with nextMark := s.dtt.nextMark + 1 } }
      | _ => s.leftPort p it
    s.handOver p rest

/-- The link layer gives up what it holds; numbers, credits and frames begin again at the next LINK_INIT (R523). -/
def State.dropLink (s : State) (p : Nat) : State :=
  let l := s.lp p
  let s := if p < 6 then s.setF (F.DTT_PORT_LAG_VALID p) 0 else s
  let held := (s.stagedAt p)
  let s := s.setStaged p []
  let s := s.handOver p (l.kept.map (·.2.1) ++ l.queue)
  let s := s.setStaged p (s.stagedAt p ++ held)
  s.setLp p { lport0 0 with full := l.full, shortFails := l.shortFails, fullFails := l.fullFails, rxIndex := l.rxIndex, txF := l.txF }

/-! ### Training (R505, R507) -/

/-- The port is trained or training (R38): OFF, TEST, HELD and FAILED are neither. -/
def State.inService (s : State) (p : Nat) : Bool :=
  decide (s.pState p ≠ pOff) && decide (s.pState p ≠ pTest) && decide (s.pState p ≠ pHeld) && decide (s.pState p ≠ pFailed)

/-- The other half of an attach port (R36). -/
def otherHalf (p : Nat) : Nat := if p < 10 then p + 4 else p - 4

/-- The split setting takes effect when an attach port trains; while its other half is trained or training a change is held (R38).
A port that is joined again has no upper half: that half is OFF. -/
def State.takeSplit (s : State) (p : Nat) : State :=
  let k := (p - 6) % 4
  let want := bitAt (s.f F.SWC_SPLIT_SPLIT).toNat k
  if p < 6 ∨ s.inService (otherHalf p) ∨ s.isSplit p = want then s
  else
    let bit := BitVec.ofNat 4 (2 ^ k)
    let s := if want then s else s.toState (10 + k) pOff laDeep
    { s with ep := { s.ep with split := if want then s.ep.split ||| bit else s.ep.split &&& ~~~ bit } }

/-- A port starts training (R505). -/
def State.beginTraining (s : State) (p : Nat) (full : Bool) : State :=
  let s := s.takeSeed p
  let s := s.setLp p { s.lp p with full := full, failed := [], peer := none, since := s.now }
  let s := ((s.setF (F.LAN_P_STAT_PHASE p) 0).setF (F.LAN_P_STAT_ENC_ON p) 0).setF (F.LAN_P_STAT_HELD_WHY p) 0
  let s := (s.setF (F.LAN_P_STAT_LANE_DOWN p) 0).setF (F.LAN_P_STAT_FAILED_LANE p) 0
  let s := (s.laneOf p).foldl (fun s i => (s.setF (F.LAN_L_STAT_ALIGNED i) 0).setF (F.LAN_L_STAT_FAILED i) 0) s
  (s.toState p pTraining laTraining).emit (.train p full)

/-- Training starts (R505), the split setting taken first. The upper half of an unsplit port has no lanes and trains nothing; one that
a split has just made, its EN set, trains too (R38, R507). -/
def State.startTraining (s : State) (p : Nat) (full : Bool) : State :=
  let t := s.takeSplit p
  let t := if t.width p = 0 then t else t.beginTraining p full
  let h := otherHalf p
  if 6 ≤ p ∧ !s.isSplit p ∧ t.isSplit p ∧ t.pState h = pOff ∧ t.on (F.LAN_P_CTL_EN h) then t.beginTraining h true else t

/-- A link failure (R511, R512): what was not acknowledged is handed over, the port is down, and a short training starts. -/
def State.linkFail (s : State) (p : Nat) : State :=
  if s.trained p then ((s.dropLink p).reportDown p).startTraining p false else s

/-- EN is cleared: the port is OFF from any state (R507). -/
def State.portOff (s : State) (p : Nat) : State :=
  let was := s.trained p || decide (s.pState p = pQuiet) || decide (s.pState p = pDeep)
  let s := s.dropLink p
  let s := if was then s.reportDown p else s
  ((s.setF (F.LAN_P_STAT_ENC_ON p) 0).setF (F.LAN_P_STAT_HELD_WHY p) 0).toState p pOff laDeep

/-- EN of LAN_P_CTL is written (R507). -/
def State.portEnable (s : State) (p : Nat) (en : Bool) : State :=
  let was := s.on (F.LAN_P_CTL_EN p)
  let s := s.setF (F.LAN_P_CTL_EN p) (bit1 en)
  if en ∧ !was then (if s.pState p = pOff ∨ s.pState p = pTest ∨ s.pState p = pHeld then s.startTraining p true else s)
  else if !en then s.portOff p
  else s

/-- A lane is under LAN_L_CTL: its port is in TEST (R514); a lane that is no torus or attach port's always is (DEDUCED, log entry 129). -/
def State.testing (s : State) (i : Nat) : Bool := match s.portOfLane i with | some p => decide (s.pState p = pTest) | none => true

/-- A lane under LAN_L_CTL sends the pattern in TX_PAT; 0 and the values above 5 are off (R514). -/
def State.sendPattern (s : State) (i : Nat) : State :=
  let t := s.f (F.LAN_L_CTL_TX_PAT i)
  if s.testing i ∧ 1 ≤ t.toNat ∧ t.toNat ≤ 5 then s.emit (.pattern i t (s.on (F.LAN_L_CTL_FEC_TEST i))) else s

/-- TEST of LAN_P_CTL is written (R507): it acts while EN is 0. -/
def State.portTest (s : State) (p : Nat) (on : Bool) : State :=
  let s := s.setF (F.LAN_P_CTL_TEST p) (bit1 on)
  if on ∧ s.pState p = pOff ∧ !s.on (F.LAN_P_CTL_EN p) then
    let s := s.toState p pTest laActive
    (s.laneOf p).foldl State.sendPattern s
  else if !on ∧ s.pState p = pTest then
    let s := s.toState p pOff laDeep
    (s.laneOf p).foldl (fun s i => s.setF (F.LAN_L_STAT_PRBS_LOCK i) 0) s
  else s

/-- RETRAIN (R507, R511). -/
def State.retrain (s : State) (p : Nat) : State :=
  if s.pState p = pHeld then s.startTraining p true else s.linkFail p

/-- Credits that the node grants on a port (R531, R554). -/
def State.grants (s : State) (p : Nat) : List (BitVec 12) :=
  if p < 6 then List.replicate 4 1536 ++ List.replicate 4 512 ++ [4032] ++ List.replicate 7 0
  else if s.isSplit p then [512, 0, 0, 64] ++ List.replicate 12 0
  else [1024, 0, 0, 128] ++ List.replicate 12 0

/-- The PORT_ID that this end sends (R533, R595). -/
def State.ownPortId (s : State) (p : Nat) : PortId :=
  { role := if p < 6 then 0 else 1, node := s.node, port := BitVec.ofNat 4 p, lanes := BitVec.ofNat 6 (s.width p),
    encReq := s.on (F.LAN_P_CTL_ENC p), encCap := s.on (F.SEC_PORT_ST_SEED p), grants := s.grants p }

/-- The port waits for the node's ID to be locked (R34). -/
def State.waitsLock (s : State) (p : Nat) : Bool := decide (p < 6) && !s.on F.GLB_NODE_NODE_LOCK

/-- LINK_INIT: PORT_ID goes out as flit 0 (R505, R506). -/
def State.sendPortId (s : State) (p : Nat) : State := s.sendNow p (.ctrl (.portId (s.ownPortId p)))

/-- The time limit of a training phase in ticks, of a full and of a short training (R505). -/
def phaseLimit (full : Bool) (ph : Nat) : Nat :=
  (if full then [500000, 25000, 5000000, 250000, 2500] else [2500, 1000, 4000, 2000, 500]).getD ph 0

/-- The limit of the port's training phase has passed (R505). -/
def State.phaseOver (s : State) (p : Nat) : Bool :=
  decide (phaseLimit (s.lp p).full (s.f (F.LAN_P_STAT_PHASE p)).toNat < s.now.toNat - (s.lp p).since.toNat)

/-- A phase fails (R505, R507). -/
def State.trainFail (s : State) (p : Nat) : State :=
  let l := s.lp p
  let s := s.incF (F.LAN_P_TRAIN_FAILS p) 1
  let s := s.setLp p { l with shortFails := if l.full then l.shortFails else l.shortFails + 1, fullFails := if l.full then l.fullFails + 1 else l.fullFails }
  let s := s.post (ev 0xA1 stOk (2 ^ 16 * p + (s.f (F.LAN_P_STAT_PHASE p)).toNat) (s.lp p).fullFails)
  if !l.full ∧ l.shortFails + 1 < 3 then s.startTraining p true
  else (s.setLp p { s.lp p with since := s.now }).toState p pFailed laDeep

/-- A phase passes within its limit with some lanes failed (R505): at most one on an unsplit port, none on a split one; one
done after its limit has failed (DEDUCED, log entry 129). -/
def State.phaseDone (s : State) (p : Nat) (failed : List Nat) : State :=
  let ph := s.f (F.LAN_P_STAT_PHASE p)
  let all := nub ((s.lp p).failed ++ failed)
  if s.pState p ≠ pTraining ∨ 4 ≤ ph.toNat then s
  else if (if s.isSplit p then 0 else 1) < all.length ∨ s.phaseOver p then s.trainFail p
  else
    let s := s.setLp p { s.lp p with failed := all, since := s.now }
    let s := s.setF (F.LAN_P_STAT_PHASE p) (ph + 1)
    let s := if ph = 1 then (s.laneOf p).foldl (fun s i =>
      if all.contains (i - firstLane p) then s else s.setF (F.LAN_L_STAT_ALIGNED i) 1) s else s
    if ph = 3 ∧ !s.waitsLock p then s.sendPortId p else s

/-- The first check of R506 that a peer's record fails; 0 for none. -/
def State.heldWhy (s : State) (p : Nat) (q : PortId) : BitVec 4 :=
  if p < 6 ∧ q.node ≠ neighbour s.node p then 1
  else if p < 6 ∧ q.port.toNat ≠ peerPort p then 2
  else if (p < 6 ∧ q.role ≠ 0) ∨ (6 ≤ p ∧ q.role ≠ 2) then 3
  else if q.lanes.toNat ≠ s.width p then 4
  else if (s.on (F.LAN_P_CTL_ENC p) ∨ q.encReq) ∧ !(s.on (F.SEC_PORT_ST_SEED p) && q.encCap) then 5
  else if 6 ≤ p ∧ ((q.grants.getD 1 0).toNat < 64 ∨ (q.grants.getD 2 0).toNat < 16) then 6
  else 0

def noInc : Nat → Option (BitVec 16) := fun _ => none

/-- The incarnation known of a node (R481). -/
def State.incOf (s : State) (n : NodeId) : Option (BitVec 16) := sget noInc s.flt.incs n.toNat

/-- The port comes up (R506, R507, R488), in probation where the peer, or this node, is expelled. -/
def State.portUp (s : State) (p : Nat) (q : PortId) : State :=
  let prob := decide (p < 6) && (s.expelled q.node || s.on F.FLT_STAT_SELF_EXP)
  let l := s.lp p
  let enc := (s.on (F.LAN_P_CTL_ENC p) || q.encReq) && s.on (F.SEC_PORT_ST_SEED p) && q.encCap
  let sf := if l.full then l.shortFails else 0
  let ff := if l.full then 0 else l.fullFails
  let s := s.setLp p { l with grants := q.grants, goodAt := s.now, peer := none, shortFails := sf, fullFails := ff, firstFrame := enc, txIn := 0 }
  let s := if enc then (s.advTx p).advRx p else s
  let s := (s.setF (F.LAN_P_STAT_PEER_NODE p) q.node).setF (F.LAN_P_STAT_PEER_PORT p) q.port
  let s := (s.setF (F.LAN_P_STAT_ENC_ON p) (bit1 enc)).incF (F.LAN_P_TRAIN_DONE p) 1
  let s := match (s.lp p).failed with
    | f :: _ => (((s.setF (F.LAN_P_STAT_LANE_DOWN p) 1).setF (F.LAN_P_STAT_FAILED_LANE p) (BitVec.ofNat 7 f)).setF
        (F.LAN_L_STAT_FAILED (firstLane p + f)) 1)
    | [] => s
  let s := s.toState p (if prob then pProbation else pUp) laActive
  let s := if p < 6 then
      let s := ((s.setF (F.FLT_PORT_HB_DOWN p) 0).setF (F.FLT_PORT_HB_GOING p) 0).setF (F.FLT_PORT_HB_MISSED p) 0
      let s := (s.setF (F.FLT_PORT_HB_PEER p) q.node).setF (F.FLT_PORT_HB_PROB p) (bit1 prob)
      s.setPt p { noPort 0 with tick := s.now }
    else s
  let s : State := s.post (ev 0x81 stOk (2 ^ 16 * p + 256 * q.node.toNat + b2n prob) ((s.incOf q.node).getD 0).toNat)
  if 6 ≤ p ∧ s.on (F.LAN_P_CTL_DEEP p) then s.sendLink p .deepReq else s

/-- A PORT_ID is checked (R506): the port comes up or is HELD. -/
def State.checkPortId (s : State) (p : Nat) (q : PortId) : State :=
  let why := s.heldWhy p q
  if why = 0 then s.portUp p q
  else
    let s := (s.setF (F.LAN_P_STAT_HELD_WHY p) why).toState p pHeld laQuiet
    let s := (s.setF (F.LAN_P_STAT_PEER_NODE p) q.node).setF (F.LAN_P_STAT_PEER_PORT p) q.port
    s.post (ev 0xA0 stOk (2 ^ 16 * p + 4096 * q.port.toNat + 256 * why.toNat + q.node.toNat) 0)

/-- A PORT_ID arrives in LINK_INIT; a torus port waits for NODE_LOCK first (R34). -/
def State.portIdArrive (s : State) (p : Nat) (q : PortId) : State :=
  if s.pState p ≠ pTraining ∨ s.f (F.LAN_P_STAT_PHASE p) ≠ 4 then s
  else if s.waitsLock p then s.setLp p { s.lp p with peer := some q }
  else s.checkPortId p q

/-- A write to GLB_NODE (R58): taken until NODE_LOCK is written; ports that waited for the lock go on (R34). -/
def State.glbNode (s : State) (v : R32) : State :=
  if s.on F.GLB_NODE_NODE_LOCK then s
  else
    let s := (s.setF F.GLB_NODE_NODE_ID (fget F.GLB_NODE_NODE_ID v)).setF F.GLB_NODE_NODE_LOCK (fget F.GLB_NODE_NODE_LOCK v)
    if !s.on F.GLB_NODE_NODE_LOCK then s
    else upto (fun p s =>
      if s.pState p = pTraining ∧ s.f (F.LAN_P_STAT_PHASE p) = 4 then
        let s := State.sendPortId (s.setLp p { s.lp p with since := s.now }) p
        match (s.lp p).peer with
        | some q => s.checkPortId p q
        | none => s
      else s) 6 s

/-! ### Lane failure (R510, R511) -/

/-- A lane of a port in service fails. -/
def State.laneFail (s : State) (p i cause : Nat) : State :=
  if !s.trained p ∨ s.on (F.LAN_L_STAT_FAILED i) then s
  else
    let first := !s.on (F.LAN_P_STAT_LANE_DOWN p)
    let s := (s.setF (F.LAN_L_STAT_FAILED i) 1).post (ev 0xA2 stOk (2 ^ 16 * p + i) cause)
    if first ∧ !s.isSplit p then
      (s.setF (F.LAN_P_STAT_LANE_DOWN p) 1).setF (F.LAN_P_STAT_FAILED_LANE p) (BitVec.ofNat 7 (i - firstLane p))
    else s.linkFail p

/-- Corrected symbols of one lane (R510, R516): more than 65,536 in a millisecond fail it. -/
def State.corrected (s : State) (p i n : Nat) : State :=
  let s := s.satF (F.LAN_L_PRE_COUNT i) n
  let m := s.now.toNat / 250000
  let l := s.lp p
  let l := if l.ms = m then l else { l with ms := m, corr := [] }
  let c := sget noSent l.corr i + n
  let s := s.setLp p { l with corr := sset noSent l.corr i c }
  if 65536 < c then s.laneFail p i 1 else s

/-- An expected comma was seen or missed (R504): two missed in a row lose alignment. -/
def State.comma (s : State) (p i : Nat) (seen : Bool) : State :=
  let l := s.lp p
  let c := if seen then 0 else sget noSent l.missed i + 1
  let s := s.setLp p { l with missed := sset noSent l.missed i c }
  if 2 ≤ c then (s.setF (F.LAN_L_STAT_ALIGNED i) 0).laneFail p i 0 else s

/-- The device lanes of a port that are erased (R510). -/
def State.failedLanes (s : State) (p : Nat) : List Nat :=
  ((s.laneOf p).filter (fun i => s.on (F.LAN_L_STAT_FAILED i))).map (· - firstLane p)

/-- A port's lanes carry one more group: whether a comma was due within it (R503, R504). -/
def State.commaDue (s : State) (p : Nat) : Bool × State :=
  let l := s.lp p
  let n := l.phy.rxLane + 23040 / s.width p
  (decide (commaEvery ≤ n), s.setLp p { l with phy := { l.phy with rxLane := if commaEvery ≤ n then n - commaEvery else n } })

/-- The message bits of a group are descrambled and cut into flits (R499). -/
def State.groupBits (s : State) (p : Nat) (bits : List Bool) : State :=
  let l := s.lp p
  let (plain, scr) := scramble l.phy.rxScr bits
  let (fs, part, rest) := cutBlocks 90 (l.phy.rxBits ++ plain) l.phy.rxFlit
  let s := s.setLp p { l with phy := { l.phy with rxScr := scr, rxBits := rest, rxFlit := part } }
  fs.foldl (fun s f => s.emit (.rxFlit p f)) s

/-- An FEC group arrives on a port in service (R500-R504, R510, R516), its symbols in group order, and the lanes on which a comma stood
where one was expected: corrected symbols count for their lanes, uncorrectable codewords for every lane of the port. -/
def State.fecGroup (s : State) (p : Nat) (g : List Sym) (commas : List (BitVec 9)) : State :=
  if !s.trained p then s
  else
    let n := s.width p
    let d := decodeGroup 544 32 n (s.failedLanes p) g
    let s := (s.laneOf p).foldl (fun s i => s.satF (F.LAN_L_POST_COUNT i) d.lost) s
    let s := (s.laneOf p).foldl (fun s i =>
      let c := (d.fixed.filter (fun x => laneOfSym n x + firstLane p == i)).length
      if c = 0 then s else s.corrected p i c) s
    let s := s.groupBits p d.bits
    let (due, s) := s.commaDue p
    if due then (s.laneOf p).foldl (fun s i => if s.on (F.LAN_L_STAT_FAILED i) then s else s.comma p i (commas.any (·.toNat == i))) s else s

/-- A group of a lane's own code in TEST with FEC_TEST set (R514, R516): both counters are the lane's own. -/
def State.fecLane (s : State) (i : Nat) (g : List Sym) : State :=
  if s.testing i && s.on (F.LAN_L_CTL_FEC_TEST i) then
    let d := decodeGroup 544 32 1 [] g
    (s.satF (F.LAN_L_PRE_COUNT i) d.fixed.length).satF (F.LAN_L_POST_COUNT i) d.lost
  else s

/-! ### Flits received (R522-R532) -/

/-- Free the kept flits that an acknowledgement covers (R525). -/
def State.acked (s : State) (p : Nat) (ack : BitVec 10) : State :=
  let l := s.lp p
  let first := (match l.kept with | (n, _) :: _ => n | [] => l.txNum).toNat / 4
  let upTo := 4 * (first + (ack - BitVec.ofNat 10 first).toNat)
  if l.txNum.toNat < upTo then s
  else s.setLp p { l with kept := l.kept.filter (fun k => decide (upTo < k.1.toNat + k.2.1.flits)) }

/-- A credit field (R524, R532). -/
def State.creditField (s : State) (p : Nat) (v : Bool) (vc : Nat) (freed : BitVec 12) : State :=
  if v then s.setLp p { s.lp p with freed := sset noFreed (s.lp p).freed vc freed } else s

/-- Credits of H1 (R524). -/
def State.credits (s : State) (p : Nat) (h1 : Nat) : State :=
  ((s.creditField p (bitAt h1 59) (bitsAt h1 55 4) (fieldAt 12 h1 43)).creditField p (bitAt h1 42) (bitsAt h1 38 4) (fieldAt 12 h1 26)).repump p

/-- Send a NAK with the expected number (R527); eight for one number fail the link (R511). -/
def State.sendNak (s : State) (p : Nat) : State :=
  let l := s.lp p
  let s := (s.setLp p { l with nak := some l.rxNum, naks := l.naks + 1, nakAt := s.now, frame := [] }).sendLink p (.nak l.rxNum)
  if 8 ≤ l.naks + 1 then s.linkFail p else s

/-- No message in progress, of no class. -/
def noMsg : Nat → InFlight := fun _ => (0, 0)

/-- A report of a pair is taken (R546, R562). -/
def IsoLink.take (x : IsoLink) (r : Freed) : IsoLink := { x with freed := sset noFreed x.freed r.1 r.2 }

/-- A flit of a pair is freed: the pair is to be reported. -/
def IsoLink.free (x : IsoLink) (k : Nat) : IsoLink :=
  { x with rx := sset noFreed x.rx k (sget noFreed x.rx k + 1), due := if x.due.contains k then x.due else x.due ++ [k] }

/-- A torus MEM flit's map unit (R546, R562): its reports are taken; the flit counts for the class of the first message that begins in
it, else of the one it continues. A flit with no message counts for none. -/
def IsoLink.receive (x : IsoLink) (vc : Nat) (f : Bytes) : IsoLink :=
  let m := mapOfFlit f
  let x := (isoReports m).foldl IsoLink.take x
  let start := bitsAt m 83 14
  let old := sget noMsg x.msg vc
  if start = 0 ∧ old.1 = 0 then x
  else
    let (now, c) := walkUnits vc start 0 (unitsOfFlit f) old none
    ({ x with msg := sset noMsg x.msg vc now }).free (8 * vc + (c.getD old.2).toNat)

/-- A MEM flit leaves its input buffer for the switch or the end point: its credits return (R532, R562). -/
def State.freeMem (s : State) (p : Nat) (f : Bytes) : State :=
  let vc := bitsAt (leNat (slice f 8 8)) 60 4
  let s := s.freeVc p vc
  if p < 6 then s.setLp p { s.lp p with iso := (s.lp p).iso.receive vc f } else s

/-- A numbered flit is delivered in order (R525). -/
def State.deliverFlit (s : State) (p : Nat) (f : Bytes) : State :=
  let l := s.lp p
  let s := s.setLp p { l with rxNum := l.rxNum + 1, naks := 0 }
  let s := if bitsAt (leNat (slice f 0 4)) 30 2 = 1 then (s.freeMem p f).repump p else s
  s.emit (.delivered p f)

/-- A flit arrives (R527): its CRC, its acknowledgement and credits, its place in the order. Under encryption it waits for its
frame's tag (R538). -/
def State.flitArrive (s : State) (p : Nat) (f : Bytes) : State :=
  let s := if s.pState p = pQuiet then s.resume p else s
  if !s.trained p then s
  else if !flitGood f then
    let s := s.incF (F.LAN_P_CRC_COUNT p) 1
    if (s.lp p).nak.isSome then s else s.sendNak p
  else
    let h0 := leNat (slice f 0 4)
    let ft := bitsAt h0 30 2
    let s := s.setLp p { s.lp p with goodAt := s.now }
    let s := s.acked p (fieldAt 10 h0 20)
    let s := if ft = 2 then s.repump p else s.credits p (leNat (slice f 8 8))
    if ft = 0 then s.emit (.delivered p f)
    else if (s.lp p).nak.isSome then s
    else if s.on (F.LAN_P_STAT_ENC_ON p) then s.setLp p { s.lp p with frame := (s.lp p).frame ++ [f] }
    else s.deliverFlit p f

/-- Send kept flits again (R528), those of an item from `e` on: the same contents with new ACK, stamps, encryption and CRC. -/
def State.resend (s : State) (p : Nat) (e : R32) : List (R32 × TxItem × List Bytes) → State
  | [] => s
  | (n, it, fs) :: rest =>
    let (it, s) := s.stamp p it
    let (gs, s) := s.sealAll p ((fs.map it.restamp).drop (e.toNat - n.toNat))
    (s.emit (.flit p (if n.toNat < e.toNat then e else n) it gs)).resend p e rest

/-- NAK(e) arrives (R528): one that names a number freed or not yet sent is ignored. -/
def State.nakArrive (s : State) (p : Nat) (e : R32) : State :=
  let l := s.lp p
  let from_ := l.kept.filter (fun k => decide (e.toNat < k.1.toNat + k.2.1.flits))
  if l.kept.any (fun k => decide (k.1.toNat ≤ e.toNat ∧ e.toNat < k.1.toNat + k.2.1.flits)) ∧ s.trained p then
    (((s.closeFrame p).incF (F.LAN_P_REPLAY_COUNT p) 1).sendLink p (.replay e)).resend p e from_
  else s

/-- REPLAY(e) arrives (R527): numbered flits are taken again from e. -/
def State.replayArrive (s : State) (p : Nat) (e : R32) : State :=
  let l := s.lp p
  if l.nak = some e then s.setLp p { l with nak := none } else s

/-- Two microseconds after a NAK (R529). -/
def State.nakTimeout (s : State) (p : Nat) : State :=
  if (s.lp p).nak.isSome ∧ s.trained p ∧ 500 ≤ s.now.toNat - (s.lp p).nakAt.toNat then s.sendNak p else s

/-- No good CRC for 2 µs (R511). -/
def State.crcSilence (s : State) (p : Nat) : State :=
  if s.trained p ∧ 500 ≤ s.now.toNat - (s.lp p).goodAt.toNat then s.linkFail p else s

/-! ### Quiet and deep (R508, R509) -/

/-- An attach port that may stop signalling: UP, QUIET_EN set, nothing unacknowledged and nothing queued (R508). -/
def State.mayQuiet (s : State) (p : Nat) : Bool :=
  decide (6 ≤ p) && decide (s.pState p = pUp) && s.on (F.LAN_P_CTL_QUIET_EN p) && (s.lp p).kept.isEmpty && (s.lp p).queue.isEmpty

/-- DEEP of LAN_P_CTL is written (R507, R509). -/
def State.deepWrite (s : State) (p : Nat) (on : Bool) : State :=
  let s := s.setF (F.LAN_P_CTL_DEEP p) (bit1 on)
  if p < 6 then s
  else if on ∧ s.pState p = pUp then s.sendLink p .deepReq
  else if on ∧ s.pState p = pQuiet then (s.resume p).sendLink p .deepReq
  else if !on ∧ s.pState p = pDeep then s.startTraining p false
  else s

/-! ### Calibration, test, cables -/

/-- Pattern bits compared and bit errors of lanes (R513, R514): the bits in units of 2^20. -/
def State.pattern (s : State) (l : List (BitVec 9 × Nat × Nat)) : State :=
  l.foldl (fun s x => (s.satF (F.LAN_L_PRBS_BITS_COUNT x.1.toNat) x.2.1).satF (F.LAN_L_PRBS_ERR_COUNT x.1.toNat) x.2.2) s

/-- A LANE_CAL slot of a port (R513, R315): a calibration run of the slot's length replaces its stream; its frame closed when the slot
before ended (R536). -/
def State.laneCal (s : State) (p : Nat) (meas : List (BitVec 9 × Nat × Nat)) : State :=
  if s.calSlot p ∧ s.trained p then
    (if s.pState p = pUp then s.pattern meas else s).emit (.calibrate p (calRun (laneTickBits * (s.f F.DTT_DIL_K).toNat)))
  else s

/-- The lane's counters are cleared (LAN_L_CTL.CLR). -/
def State.laneClr (s : State) (i : Nat) : State :=
  (((s.wr (Reg.LAN_L_PRE i) 0).wr (Reg.LAN_L_POST i) 0).wr (Reg.LAN_L_PRBS_ERR i) 0).wr (Reg.LAN_L_PRBS_BITS i) 0

/-- A write to LAN_L_CTL (R514): the checker of a new RX_PAT has not locked yet (DEDUCED, log entry 129). -/
def State.laneCtl (s : State) (i : Nat) (v : R32) (clr : Bool) : State :=
  let old := s.f (F.LAN_L_CTL_RX_PAT i)
  let s := s.wr (Reg.LAN_L_CTL i) v
  let s := if s.f (F.LAN_L_CTL_RX_PAT i) = old then s else s.setF (F.LAN_L_STAT_PRBS_LOCK i) 0
  State.sendPattern (if clr then s.laneClr i else s) i

/-- A checker locks in TEST, and counts (R514). -/
def State.prbsLock (s : State) (i bits errs : Nat) : State :=
  if s.testing i ∧ 1 ≤ (s.f (F.LAN_L_CTL_RX_PAT i)).toNat ∧ (s.f (F.LAN_L_CTL_RX_PAT i)).toNat ≤ 5 then
    (s.setF (F.LAN_L_STAT_PRBS_LOCK i) 1).pattern [(BitVec.ofNat 9 i, bits, errs)]
  else s

/-- Bytes of a module that the node manages itself (R519, R521; PRESUMED, log entry 17). -/
def cmisManaged (page addr : Nat) : Bool := decide (addr = 26) || (decide (page = 0x10) && decide (addr = 128))

/-- The access data of LAN_CMIS_DATA. -/
def State.cmisData (s : State) (n : Nat) : Bytes := ((List.range 8).flatMap (fun j => natLe 4 (s.rd (Reg.LAN_CMIS_DATA j)).toNat)).take n

/-- A write to LAN_CMIS_CMD with GO (R521). -/
def State.cmisAccess (s : State) (v : R32) : State :=
  let bus := (fget F.LAN_CMIS_CMD_BUS v).toNat
  let m := (fget F.LAN_CMIS_CMD_MOD v).toNat
  let wr := fget F.LAN_CMIS_CMD_WR v == 1
  let page := fget F.LAN_CMIS_CMD_PAGE v
  let addr := fget F.LAN_CMIS_CMD_ADDR v
  let len := (fget F.LAN_CMIS_CMD_LEN_M1 v).toNat + 1
  if s.on F.LAN_CMIS_RES_BUSY ∨ fget F.LAN_CMIS_CMD_GO v = 0 then s
  else if 9 < bus ∨ 5 < m then s.setF F.LAN_CMIS_RES_ERR 2
  else if wr ∧ (List.range len).any (fun i => cmisManaged page.toNat (addr.toNat + i)) then s.setF F.LAN_CMIS_RES_ERR 3
  else
    let s := (s.setF F.LAN_CMIS_RES_BUSY 1).setF F.LAN_CMIS_RES_ERR 0
    State.emit { s with lan := { s.lan with cmis := some v } } (.i3c bus m wr page addr (if wr then s.cmisData len else zeros len))

/-- The access ends (R521): what a read returned stands in LAN_CMIS_DATA. -/
def State.cmisDone (s : State) (err : BitVec 3) (data : Bytes) : State :=
  match s.lan.cmis with
  | none => s
  | some v =>
    let s := { (s.fwDone 3) with lan := { s.lan with cmis := none } }
    let s := (s.setF F.LAN_CMIS_RES_BUSY 0).setF F.LAN_CMIS_RES_ERR err
    if fget F.LAN_CMIS_CMD_WR v = 1 ∨ err ≠ 0 then s
    else upto (fun j s => if 4 * j < data.length then s.wr (Reg.LAN_CMIS_DATA j) (BitVec.ofNat 32 (leNat (slice data (4 * j) 4))) else s) 8 s

/-- The flag bytes of CMIS page 11h that name a TX fault or a loss of signal, a bit for each lane (PRESUMED, log entry 17). -/
def cmisFault (addr : Nat) : Bool := decide (addr = 135) || decide (addr = 136) || decide (addr = 147)

/-- A flag byte of a module (R519, R520). -/
def State.cmisFlag (s : State) (bus m : Nat) (x : BitVec 8 × Byte) : State :=
  if x.2 = 0 then s
  else
    let s := s.post (ev 0xA4 stOk (2 ^ 16 * bus + 256 * m + x.1.toNat) x.2.toNat)
    if cmisFault x.1.toNat then upto (fun j s =>
      if bitAt x.2.toNat j then
        let i := 48 * bus + 8 * m + j
        match s.portOfLane i with
        | some p => s.laneFail p i 2
        | none => s
      else s) 8 s
    else s

/-! ### Heartbeats missed (R465) -/

/-- FLT_PORT_HB shows the intervals of 1 µs since the last heartbeat, at most 127. -/
def State.showMissed (s : State) (p : Nat) : State :=
  s.setF (F.FLT_PORT_HB_MISSED p) (BitVec.ofNat 7 (min 127 ((s.now.toNat - (s.pt p).tick.toNat) / 250)))

/-- A tick of a torus port's heartbeats: one more interval has passed without one. -/
def State.hbTick (s : State) (p : Nat) : State :=
  let d := s.now.toNat - (s.pt p).tick.toNat
  if s.trained p ∧ 250 ≤ d ∧ d % 250 = 0 then s.showMissed p else s

/-! ### Commands -/

/-- GLB_NODE_WRITE (R58). -/
def execGlbNodeWrite (v : R32) (s : State) : Host.Outcome State Fault Refusal := whenWr s (fun s => s.glbNode v)

/-- LANE_CAL_SLOT (R513). -/
def execLaneCalSlot (port : Fin 14) (meas : List (BitVec 9 × Nat × Nat)) (s : State) : Host.Outcome State Fault Refusal :=
  whenUp s (fun s => s.laneCal port.val meas)

/-- PORT_ENABLE (R507). -/
def execPortEnable (port : Fin 14) (en : Bool) (s : State) : Host.Outcome State Fault Refusal :=
  whenWr s (fun s => s.portEnable port.val en)

/-- PORT_TEST (R507). -/
def execPortTest (port : Fin 14) (on : Bool) (s : State) : Host.Outcome State Fault Refusal := whenWr s (fun s => s.portTest port.val on)

/-- RETRAIN (R507, R511). -/
def execRetrain (port : Fin 14) (s : State) : Host.Outcome State Fault Refusal := whenWr s (fun s => s.retrain port.val)

/-- DEEP (R509). -/
def execDeep (port : Fin 14) (on : Bool) (s : State) : Host.Outcome State Fault Refusal := whenWr s (fun s => s.deepWrite port.val on)

/-- TRAINING_PHASE_DONE (R505). -/
def execTrainingPhaseDone (port : Fin 14) (failed : List (BitVec 6)) (s : State) : Host.Outcome State Fault Refusal :=
  whenUp s (fun s => s.phaseDone port.val (failed.map (·.toNat)))

/-- The training of a port waits at the exchange of IDs (R34), where no time limit runs. -/
def State.heldForLock (s : State) (p : Nat) : Bool := s.waitsLock p && decide (s.f (F.LAN_P_STAT_PHASE p) = 4)

/-- TRAINING_TIMEOUT (R505). -/
def execTrainingTimeout (port : Fin 14) (s : State) : Host.Outcome State Fault Refusal :=
  whenUp s (fun s => if s.pState port.val = pTraining ∧ !s.heldForLock port.val then s.trainFail port.val else s)

/-- FAILED_RETRY (R507): 100 ms have passed. -/
def execFailedRetry (port : Fin 14) (s : State) : Host.Outcome State Fault Refusal :=
  whenUp s (fun s =>
    if s.pState port.val = pFailed ∧ s.on (F.LAN_P_CTL_EN port.val) ∧ 25000000 ≤ s.now.toNat - (s.lp port.val).since.toNat
    then s.startTraining port.val true else s)

/-- FEC_GROUP_RECEIVE (R500): a group of a port, or of one lane under test. -/
def execFecGroupReceive (port : Fin 14) (lane : Option (BitVec 9)) (syms : List (BitVec 10)) (commas : List (BitVec 9)) (s : State) :
    Host.Outcome State Fault Refusal :=
  whenUp s (fun s => match lane with
    | some i => s.fecLane i.toNat syms
    | none => s.fecGroup port.val syms commas)

/-- FLIT_RECEIVE (R527). -/
def execFlitReceive (port : Fin 14) (flit : Bytes) (s : State) : Host.Outcome State Fault Refusal :=
  whenUp s (fun s => s.flitArrive port.val flit)

/-- NAK (R528). -/
def execLinkNak (port : Fin 14) (e : R32) (s : State) : Host.Outcome State Fault Refusal := whenUp s (fun s => s.nakArrive port.val e)

/-- REPLAY (R527). -/
def execReplay (port : Fin 14) (e : R32) (s : State) : Host.Outcome State Fault Refusal := whenUp s (fun s => s.replayArrive port.val e)

/-- NAK_TIMEOUT (R529). -/
def execNakTimeout (port : Fin 14) (s : State) : Host.Outcome State Fault Refusal := whenUp s (fun s => s.nakTimeout port.val)

/-- CRC_SILENCE_TIMEOUT (R511). -/
def execCrcSilenceTimeout (port : Fin 14) (s : State) : Host.Outcome State Fault Refusal := whenUp s (fun s => s.crcSilence port.val)

/-- QUIET_REQ (R508): answered where this end may stop signalling too, else ignored. -/
def execQuietReq (port : Fin 14) (s : State) : Host.Outcome State Fault Refusal :=
  whenUp s (fun s => if s.mayQuiet port.val then ((s.closeFrame port.val).sendLink port.val .quietAck).toState port.val pQuiet laQuiet else s)

/-- QUIET_ACK (R508). -/
def execQuietAck (port : Fin 14) (s : State) : Host.Outcome State Fault Refusal :=
  whenUp s (fun s => if s.mayQuiet port.val then (s.closeFrame port.val).toState port.val pQuiet laQuiet else s)

/-- QUIET_RESUME (R507). -/
def execQuietResume (port : Fin 14) (s : State) : Host.Outcome State Fault Refusal :=
  whenUp s (fun s => if s.pState port.val = pQuiet then s.resume port.val else s)

/-- DEEP_ACK (R509). -/
def execDeepAck (port : Fin 14) (s : State) : Host.Outcome State Fault Refusal :=
  whenUp s (fun s => if 6 ≤ port.val ∧ s.pState port.val = pUp ∧ s.on (F.LAN_P_CTL_DEEP port.val)
    then (s.closeFrame port.val).toState port.val pDeep laDeep else s)

/-- DEEP_EXIT (R507). -/
def execDeepExit (port : Fin 14) (s : State) : Host.Outcome State Fault Refusal :=
  whenUp s (fun s => if s.pState port.val = pDeep then s.startTraining port.val false else s)

/-- SINGLE (R515). -/
def execSingle (lane : BitVec 9) (s : State) : Host.Outcome State Fault Refusal := whenWr s (fun s => s.emit (.invert lane.toNat 1))

/-- BURST (R515): a length of 0 acts as 1. -/
def execBurst (lane : BitVec 9) (len : BitVec 10) (s : State) : Host.Outcome State Fault Refusal :=
  whenWr s (fun s => s.emit (.invert lane.toNat (max 1 len.toNat)))

/-- LANE_CLR (R516). -/
def execLaneClr (lane : BitVec 9) (s : State) : Host.Outcome State Fault Refusal := whenWr s (fun s => s.laneClr lane.toNat)

/-- PRBS_LOCK (R514). -/
def execPrbsLock (lane : BitVec 9) (bits errs : Nat) (s : State) : Host.Outcome State Fault Refusal :=
  whenUp s (fun s => s.prbsLock lane.toNat bits errs)

/-- CMIS_ACCESS (R521). -/
def execCmisAccess (v : R32) (s : State) : Host.Outcome State Fault Refusal := whenWr s (fun s => s.cmisAccess v)

/-- CMIS_ACCESS_DONE (R521). -/
def execCmisAccessDone (err : BitVec 3) (data : Bytes) (s : State) : Host.Outcome State Fault Refusal :=
  whenUp s (fun s => if s.fwServes 3 then s.cmisDone err data else s)

/-- CMIS_POLL (R519). -/
def execCmisPoll (bus : Fin 10) (module : Fin 6) (flags : List (BitVec 8 × Byte)) (s : State) : Host.Outcome State Fault Refusal :=
  whenUp s (fun s => flags.foldl (fun s x => s.cmisFlag bus.val module.val x) s)

/-- HEARTBEAT_MISS (R465): HB_MISS intervals of 1 µs without a heartbeat; 0 acts as 8. -/
def execHeartbeatMiss (port : Fin 6) (s : State) : Host.Outcome State Fault Refusal :=
  whenUp s (fun s =>
    let n := if s.f F.FLT_CTL_HB_MISS = 0 then 8 else (s.f F.FLT_CTL_HB_MISS).toNat
    if s.trained port.val ∧ 250 * n ≤ s.now.toNat - (s.pt port.val).tick.toNat
    then (s.showMissed port.val).declareDown port.val 0
    else s)

end Sys2Proof.Machine
end

