-- ==== Sys2Proof/Machine/Eth.lean ====
section
/-!
DEFINITION. Ethernet ports and the spill transport (R563-R574).
-/

namespace Sys2Proof.Machine

def chan0 : Nat → Chan := fun _ =>
  { sqTail := 0, rqTail := 0, sqNext := 0, rqNext := 0, recs := [], txq := [], unacked := [], nextPsn := 0, nextMsg := 0, ackPsn := 0,
    got := [], since := 0, ce := false, msgs := [], win := 4194304, lastCut := none, lastEce := 0 }

def State.ch (s : State) (c : Nat) : Chan := sget chan0 s.eth.chans c
def State.setCh (s : State) (c : Nat) (v : Chan) : State := { s with eth := { s.eth with chans := sset chan0 s.eth.chans c v } }

def State.chSlot (s : State) (c : Nat) : Nat := (s.f (F.ETH_CH_CFG_SLOT c)).toNat
def State.chPort (s : State) (c : Nat) : Nat := (s.f (F.ETH_CH_CFG_PORT c)).toNat
def State.chOn (s : State) (c : Nat) : Bool := s.on F.ETH_CTL_EN && s.on (F.ETH_CH_CFG_EN c)

/-- Events of a channel (R574). -/
def State.evSpill (s : State) (c : Nat) (code : BitVec 8) (st : Status) (i0 i1 : Nat) : Ev :=
  evCtx code st (s.slotCtx (s.chSlot c)) (s.slotJob (s.chSlot c)) i0 i1

/-- Records of a ring as a power of two, and the index after one (R106). -/
def ringOf (n : BitVec 5) : Nat := if 6 ≤ n.toNat ∧ n.toNat ≤ 16 then n.toNat else 6
def ringIx (n : BitVec 5) (i : BitVec 16) : BitVec 16 := BitVec.ofNat 16 (i.toNat % 2 ^ ringOf n)
def ringSucc (n : BitVec 5) (i : BitVec 16) : BitVec 16 := BitVec.ofNat 16 ((i.toNat + 1) % 2 ^ ringOf n)
def State.sqBase (s : State) (c : Nat) : R64 := s.rd (Reg.ETH_CH_SQ_HI c) ++ s.f (F.ETH_CH_SQ_LO_BASE_LO c) ++ (0 : BitVec 12)
def State.rqBase (s : State) (c : Nat) : R64 := s.rd (Reg.ETH_CH_RQ_HI c) ++ s.f (F.ETH_CH_RQ_LO_BASE_LO c) ++ (0 : BitVec 12)

/-- The work of a record or of a packet begins: as agent local 8, in the channel's context (R567, R568). -/
def State.spillIo (s : State) (c : Nat) (resps : List Resp) : Io := ⟨s, 0, s.agent 8, s.slotJob (s.chSlot c), s.chSlot c, none, false, resps, none, none, false, false⟩

/-- The status that ends work, with its operand word: an absent page ends it as a translation fault. -/
def Io.outcome (i : Io) (word : Nat) : Status × Nat :=
  match i.err with
  | some e => e
  | none => if i.pause.isSome then (stXlate, word) else (stOk, 0)

/-- Read, write bytes where the range gives the right (R79, R567). -/
def Io.readR (i : Io) (word va len : Nat) : Bytes × Io :=
  if len = 0 then ([], i)
  else match i.range va word with
    | (some e, i) => if e.r then i.load e word va len else ([], i.fail stRights word)
    | (none, i) => ([], i)
def Io.writeW (i : Io) (word va : Nat) (bs : Bytes) : Io :=
  if bs = [] then i
  else match i.range va word with
    | (some e, i) => if e.w then (i.store e word va bs).2 else i.fail stRights word
    | (none, i) => i

/-! ### Records (R566, R567) -/

def SRec.w (r : SRec) (i : Nat) : R64 := r.words.getD i 0
def SRec.tag (r : SRec) : Nat := w64 (r.w 0) 63 32
def SRec.op (r : SRec) : Nat := w64 (r.w 0) 7 0
def SRec.len (r : SRec) : Nat := w64 (r.w 5) 31 0

/-- A record with a reserved OP or a reserved bit set. -/
def recordBad (ws : List R64) : Bool :=
  let w (i : Nat) : Nat := (ws.getD i 0).toNat
  let op := bitsAt (w 0) 0 8
  decide (op = 0 ∨ 3 < op) || decide (bitsAt (w 0) 30 2 ≠ 0) || decide (bitsAt (w 0) 13 3 ≠ 0) || bitAt (w 0) 8 || decide (w 1 ≠ 0) ||
    decide (bitsAt (w 5) 32 32 ≠ 0) || decide (bitsAt (w 6) 32 32 ≠ 0) || decide (w 7 ≠ 0)

/-- The completion word of a record (R116). -/
def SRec.word2 (r : SRec) : R64 := BitVec.ofNat 64 (r.bytes % 2 ^ 40 * 2 ^ 24 + r.word * 4096 + putAt 8 r.status + 1)

/-- SQ_HEAD moves across the run of done records. -/
def State.sqAdvance (s : State) (c : Nat) : List SRec → State
  | [] => s.setCh c { s.ch c with recs := [] }
  | r :: rs =>
    if r.st = .done then (s.setF (F.ETH_CH_SQ_PTR_SQ_HEAD c) (ringSucc (s.f (F.ETH_CH_SQ_LO_LOG2_SIZE c)) r.idx)).sqAdvance c rs
    else s.setCh c { s.ch c with recs := r :: rs }

/-- Change the records of a message. -/
def State.mapRec (s : State) (c : Nat) (msg : R32) (f : SRec → SRec) : State :=
  s.setCh c { s.ch c with recs := (s.ch c).recs.map (fun r => if r.msg == msg then f r else r) }

/-- A record's completion is visible (R136): SPILL_DONE, MSI-X; then SQ_HEAD. -/
def State.recTail (s : State) (c : Nat) (r : SRec) : State :=
  let b (i : Nat) : Bool := bitAt (r.w 0).toNat i
  let s := if b 10 then
      s.postTo 0 (s.evSpill c 0xB1 r.status (2 ^ 32 * r.tag + 2 ^ 16 * c + r.idx.toNat) r.word2.toNat) (b 11)
    else s
  let s := s.mapRec c r.msg (fun _ => { r with st := .done })
  s.sqAdvance c (s.ch c).recs

/-- A record completes (R136): word 2; the sync add as agent local 8 (R681), whose completion the rest waits for; else the rest at once. -/
def State.recDone (s : State) (c : Nat) (r : SRec) : State :=
  let s := s.emit (.hostWrite (s.sqBase c + BitVec.ofNat 64 (64 * r.idx.toNat + 16)) (natLe 8 r.word2.toNat))
  if bitAt (r.w 0).toNat 12 then
    (s.mapRec c r.msg (fun _ => { r with st := .signalling })).issueOwn
      (syncAddReq s.node (w64 (r.w 0) 29 16) (s.agent 8) (s.slotJob (s.chSlot c)) 1) (.spillSig (BitVec.ofNat 8 c) r.idx)
  else s.recTail c r

/-- The sync add of a record has completed (R136). -/
def State.recSignalled (s : State) (c : Nat) (idx : BitVec 16) : State :=
  match (s.ch c).recs.find? (fun r => r.idx == idx && decide (r.st = .signalling)) with
  | some r => s.recTail c r
  | none => s

/-- The record of a message of this channel that runs. -/
def State.recOf (s : State) (c : Nat) (msg : R32) : Option SRec :=
  (s.ch c).recs.find? (fun r => r.msg == msg && decide (r.st = .running))

/-- Complete a record with a status. -/
def State.recEnd (s : State) (c : Nat) (msg : R32) (st : Status) (word : Nat) : State :=
  match s.recOf c msg with
  | none => s
  | some r =>
    let s := s.setCh c { s.ch c with txq := dropWhere (fun p => p.msg == msg && p.kind != 3) (s.ch c).txq }
    s.recDone c { r with status := st, word := word }

/-! ### Sending -/

def State.ethMss (s : State) : Nat := if s.on F.ETH_CTL_MSS then 8192 else 4096

/-- A packet with nothing but its kind and channels. -/
def State.pkt0 (s : State) (c : Nat) (kind : BitVec 4) : Spill :=
  { ver := 1, kind := kind, first := false, last := false, immEn := false, ece := false, dstCh := s.f (F.ETH_CH_CFG_RCH c),
    srcCh := BitVec.ofNat 8 c, psn := 0, ackPsn := 0, msg := 0, offset := 0, imm := 0, nak := 0, len24 := 0, payload := [], ce := false }

/-- The packets of a message: its payload in parts of the greatest size, from an offset on. -/
def State.parts (s : State) (p : Spill) (off : Nat) (mss : Nat) : Nat → Bool → Bytes → List Spill
  | 0, _, _ => []
  | fuel + 1, first, bs =>
    let last := decide (bs.length ≤ mss)
    { p with first := first, last := last, offset := BitVec.ofNat 64 off, payload := bs.take mss } ::
      (if last then [] else s.parts p (off + mss) mss fuel false (bs.drop mss))

/-- Payload sent and not acknowledged. -/
def Chan.inFlight (h : Chan) : Nat := (h.unacked.map (fun t => t.pkt.payload.length)).foldl (· + ·) 0

/-- The IPv6 address and MAC of a port (R564). -/
def State.ethIp (s : State) (e : Nat) : BitVec 128 :=
  s.rd (Reg.ETH_P_IP e 3) ++ s.rd (Reg.ETH_P_IP e 2) ++ s.rd (Reg.ETH_P_IP e 1) ++ s.rd (Reg.ETH_P_IP e 0)
def State.ethMac (s : State) (e : Nat) : BitVec 48 := s.f (F.ETH_P_MAC_HI_MAC_HI e) ++ s.rd (Reg.ETH_P_MAC_LO e)

/-- The peer's address of a channel, and the next hop of a port. -/
def State.chPeer (s : State) (c : Nat) : BitVec 128 :=
  s.rd (Reg.ETH_CH_PEER c 3) ++ s.rd (Reg.ETH_CH_PEER c 2) ++ s.rd (Reg.ETH_CH_PEER c 1) ++ s.rd (Reg.ETH_CH_PEER c 0)
def State.ethGw (s : State) (e : Nat) : BitVec 48 := s.f (F.ETH_P_GW_HI_GW_HI e) ++ s.rd (Reg.ETH_P_GW_LO e)

/-- The spill header (R569): four words, little-endian (R17). -/
def spillHeader (p : Spill) : Bytes :=
  bytes64 [
    BitVec.ofNat 64 (putAt 60 p.ver + putAt 56 p.kind + putAt 55 (bit1 p.first) + putAt 54 (bit1 p.last) + putAt 53 (bit1 p.immEn) +
      putAt 52 (bit1 p.ece) + putAt 40 p.dstCh + putAt 32 p.srcCh + putAt 0 p.psn),
    BitVec.ofNat 64 (putAt 32 p.ackPsn + putAt 0 p.msg), p.offset,
    BitVec.ofNat 64 (putAt 32 p.imm + putAt 24 p.nak + putAt 0 p.len24)]

/-- The sum of 16-bit words, the first byte of each the upper one, carries added back in: the Internet checksum before its inversion. -/
def inetSum : Bytes → Nat → Nat
  | a :: b :: rest, acc => inetSum rest ((acc + 256 * a.toNat + b.toNat) % 65535)
  | [a], acc => (acc + 256 * a.toNat) % 65535
  | [], acc => acc

/-- The UDP checksum over a pseudo header and the datagram: a sum of zero goes as all ones. -/
def udpSum (src dst : BitVec 128) (udp : Bytes) : Nat :=
  65535 - inetSum (natBe 16 src.toNat ++ natBe 16 dst.toNat ++ natBe 4 udp.length ++ natBe 4 17 ++ udp) 0

/-- The frame of a spill packet (R563, R564, R569): addresses, IPv6 with hop limit 64, the channel's DSCP and ECT(0) or CE, flow label 0, UDP
with its checksum, the header, the payload, the FCS (DESIGN CHOICE, log entry 127). -/
def State.spillFrame (s : State) (c : Nat) (p : Spill) : Bytes :=
  let e := s.chPort c
  let tc := 4 * (s.f (F.ETH_CH_CFG_DSCP c)).toNat + (if p.ce then 3 else 2)
  let data := spillHeader p ++ p.payload
  let udp (sum : Nat) : Bytes := natBe 2 (0xC000 + c) ++ natBe 2 (s.f F.ETH_UDP_PORT).toNat ++ natBe 2 (8 + data.length) ++ natBe 2 sum ++ data
  let ip := natBe 4 (6 * 2 ^ 28 + tc * 2 ^ 20) ++ natBe 2 (8 + data.length) ++ natBe 1 17 ++ natBe 1 64 ++ natBe 16 (s.ethIp e).toNat ++
    natBe 16 (s.chPeer c).toNat
  let frame := natBe 6 (s.ethGw e).toNat ++ natBe 6 (s.ethMac e).toNat ++ natBe 2 0x86DD ++ ip ++ udp (udpSum (s.ethIp e) (s.chPeer c) (udp 0))
  frame ++ natLe 4 (crc32 frame).toNat

def ethPort0 : Nat → EthPort := fun _ => ⟨0, 0⟩
def State.ethQ (s : State) (e : Nat) : EthPort := sget ethPort0 s.eth.ports e
def State.setEthQ (s : State) (e : Nat) (v : EthPort) : State := { s with eth := { s.eth with ports := sset ethPort0 s.eth.ports e v } }

/-- The average depth after one more frame finds a queue (R573), in units of 2^-20 KiB (DESIGN CHOICE, log entry 127). -/
def EthPort.average (x : EthPort) : Nat :=
  let q := 1024 * x.q
  if x.avg ≤ q then x.avg + (q - x.avg) / 512 else x.avg - (x.avg - q) / 512

/-- A frame reaches the egress queue of a port (R554, R573): dropped, or queued and marked or not. A full queue of 8 MiB drops it. -/
def State.egress (s : State) (e bytes : Nat) (colour : BitVec 2) (ect : Bool) : Option Bool × State :=
  let x := s.ethQ e
  let x := { x with avg := x.average }
  let a := x.avg / 2 ^ 20
  let mx := (s.f (F.ETH_RED_MAX colour.toNat)).toNat
  let drop (s : State) : Option Bool × State := (none, (s.setEthQ e x).incF (F.ETH_P_DROP_COUNT e) 1)
  if mx ≤ a ∨ 8388608 < x.q + bytes then drop s
  else
    let (b, s) := s.redMark (14 + e) a (s.f (F.ETH_RED_MIN colour.toNat)).toNat mx (s.f (F.ETH_RED_PMAX colour.toNat)).toNat
    if b ∧ !ect then drop s
    else
      let s := s.setEthQ e { x with q := x.q + bytes }
      (some b, if b then s.incF (F.ETH_P_ECN_COUNT e) 1 else s)

/-- A tick of an Ethernet port: 1.6 Tb/s take 800 bytes of its queue (R563). -/
def State.ethTick (s : State) (e : Nat) : State :=
  let x := s.ethQ e
  if s.on (F.ETH_P_STAT_UP e) ∧ 0 < x.q then s.setEthQ e { x with q := x.q - 800 } else s

/-- A packet leaves on the channel's port, through the marker of its slot and the port's egress queue (R558, R564, R573). -/
def State.spillOut (s : State) (c : Nat) (p : Spill) : State :=
  let n := s.chSlot c
  let (colour, m) := s.markTcm (sget tcm0 s.ep.tcmEth n) n (80 + p.payload.length)
  let s : State := { s with ep := { s.ep with tcmEth := sset tcm0 s.ep.tcmEth n m } }
  let (out, s) := s.egress (s.chPort c) (98 + p.payload.length) colour true
  match out with
  | none => s
  | some ce =>
    let p := { p with ce := ce }
    s.emit (.spill (s.chPort c) p (s.spillFrame c p))

/-- An answer of the port itself, which is not ECT, goes through the same queue (R564, R573). -/
def State.ethAnswer (s : State) (e bytes : Nat) (o : Out) : State :=
  let (out, s) := s.egress e bytes 0 false
  if out.isSome then s.emit o else s

/-- The channel sends what its window admits (R572), numbering each packet (R569). -/
def State.chPump (s : State) (c : Nat) : Nat → State
  | 0 => s
  | fuel + 1 =>
    let h := s.ch c
    match h.txq with
    | [] => s
    | p :: rest =>
      if !s.chOn c ∨ !s.on (F.ETH_P_STAT_UP (s.chPort c)) ∨ h.win < h.inFlight + p.payload.length then s
      else
        let p := { p with psn := h.nextPsn }
        let s := s.setCh c { h with txq := rest, nextPsn := h.nextPsn + 1, unacked := h.unacked ++ [⟨p, 0, s.now, false, false⟩] }
        (s.spillOut c p).chPump c fuel

def State.chSend (s : State) (c : Nat) : State := s.chPump c (s.ch c).txq.length

/-- The registers of a channel that wait for its EN to be 0. -/
def chLater (c : Nat) : List Nat :=
  [Reg.ETH_CH_PEER c 0, Reg.ETH_CH_PEER c 1, Reg.ETH_CH_PEER c 2, Reg.ETH_CH_PEER c 3, Reg.ETH_CH_SQ_LO c, Reg.ETH_CH_SQ_HI c,
    Reg.ETH_CH_RQ_LO c, Reg.ETH_CH_RQ_HI c]

/-- The bits of SLOT in ETH_CH_CFG. -/
def chSlotBits : R32 := 0x3FF00000

/-- EN of a channel is cleared: what waited for that takes effect. -/
def State.chOff (s : State) (c : Nat) : State :=
  ((s.setF (F.ETH_CH_CFG_EN c) 0).takeWrs (chLater c)).takePart (Reg.ETH_CH_CFG c) chSlotBits

/-- The channel fails (R571). -/
def State.chFail (s : State) (c : Nat) (psn : R32) : State :=
  let s := (s.ch c).recs.foldl (fun s r => s.recEnd c r.msg stTargetLost 0) s
  let s := s.setCh c { s.ch c with txq := [], unacked := [] }
  let s := (s.chOff c).setF (F.ETH_CH_STAT_ERR c) 2
  s.post (s.evSpill c 0xB3 stTargetLost (2 ^ 16 * c) psn.toNat)

/-- Send a packet again (R571): a counted retransmission beyond ETH_RTO.RETRIES fails the channel. -/
def State.chAgain (s : State) (c : Nat) (t : TxPkt) (fast : Bool) : State :=
  if !s.chOn c ∨ !s.on (F.ETH_P_STAT_UP (s.chPort c)) then s
  else if !t.uncounted ∧ max 1 (s.f F.ETH_RTO_RETRIES).toNat ≤ t.tries then s.chFail c t.pkt.psn
  else
    let t' := { t with tries := if t.uncounted then t.tries else t.tries + 1, sentAt := s.now, uncounted := false, fast := fast }
    let s := s.setCh c { s.ch c with unacked := (s.ch c).unacked.map (fun x => if x.pkt.psn == t.pkt.psn then t' else x) }
    (s.incF (F.ETH_CH_STAT_RETX c) 1).spillOut c t.pkt

/-- The timeout of a packet in ticks (R571): doubled by each retransmission, 8 ms at most. -/
def State.rto (s : State) (t : TxPkt) : Nat := min 2000000 (250 * max 1 (s.f F.ETH_RTO_MIN).toNat * 2 ^ t.tries)

/-- A packet's timeout expires. -/
def State.chTimeout (s : State) (c : Nat) (psn : R32) : State :=
  match (s.ch c).unacked.find? (fun t => t.pkt.psn == psn) with
  | none => s
  | some t => if s.rto t ≤ s.now.toNat - t.sentAt.toNat then s.chAgain c t false else s

/-- A record starts (R567): the row's OP decides what it sends; a malformed record stops the channel. -/
def State.recStart (s : State) (c : Nat) (op : Nat) (bytes : Bytes) (resps : List Resp) : State :=
  let h := s.ch c
  let ws := words64 8 bytes
  let n := s.f (F.ETH_CH_SQ_LO_LOG2_SIZE c)
  if !s.chOn c ∨ s.f (F.ETH_CH_STAT_ERR c) ≠ 0 ∨ h.sqNext = ringIx n h.sqTail then s
  else
    let s := s.emit (.hostRead (s.sqBase c + BitVec.ofNat 64 (64 * h.sqNext.toNat)) 64)
    if recordBad ws then (s.setF (F.ETH_CH_STAT_ERR c) 1)
    else
      let r : SRec := ⟨h.sqNext, ws, h.nextMsg, 0, 0, stOk, 0, .running⟩
      if r.op ≠ op then s
      else
        let s := s.setCh c { h with sqNext := ringSucc n h.sqNext, nextMsg := h.nextMsg + 1 }
        let p := { s.pkt0 c (BitVec.ofNat 4 (if op = 3 then 4 else op)) with
          msg := r.msg, imm := BitVec.ofNat 32 (w64 (r.w 6) 31 0), immEn := decide (op = 1) && bitAt (r.w 0).toNat 9 }
        let remote := if op = 3 then 0 else (r.w 4).toNat
        if op = 2 then
          let p := { p with
            first := true, last := true, offset := BitVec.ofNat 64 remote, nak := BitVec.ofNat 8 (r.len / 2 ^ 24), len24 := BitVec.ofNat 24 r.len }
          let s := s.setCh c { s.ch c with recs := (s.ch c).recs ++ [{ r with left := r.len }], txq := (s.ch c).txq ++ [p] }
          s.chSend c
        else
          let (bs, i) := (s.spillIo c resps).readR 3 (r.w 3).toNat r.len
          let s := i.s
          let out := i.outcome 3
          let ps := s.parts p remote s.ethMss (bs.length + 1) true bs
          let s := s.setCh c { s.ch c with recs := (s.ch c).recs ++ [{ r with left := ps.length }] }
          if out.1 ≠ stOk then s.recEnd c r.msg out.1 out.2
          else (s.setCh c { s.ch c with txq := (s.ch c).txq ++ ps }).chSend c

/-! ### Receiving (R568-R571) -/

/-- The selective bits of an ACK: bit i for ACK_PSN + 1 + i. -/
def ackBits (h : Chan) : R64 :=
  BitVec.ofNat 64 (((List.range 64).filter (fun i => h.got.contains (h.ackPsn + 1 + BitVec.ofNat 32 i))).foldl (fun a i => a + 2 ^ i) 0)

/-- Send an ACK. -/
def State.sendAck (s : State) (c : Nat) : State :=
  let h := s.ch c
  if !s.chOn c then s
  else (s.setCh c { h with since := 0, ce := false }).spillOut c
    { s.pkt0 c 8 with ackPsn := h.ackPsn, ece := h.ce, offset := ackBits h }

/-- Send a NAK for a packet. -/
def State.sendNakFor (s : State) (c : Nat) (p : Spill) (code : BitVec 8) : State :=
  s.spillOut c { s.pkt0 c 9 with dstCh := p.srcCh, ackPsn := (s.ch c).ackPsn, msg := p.msg, nak := code }

/-- ACK_PSN moves across the numbers received. -/
def Chan.settle : Nat → Chan → Chan
  | 0, h => h
  | n + 1, h => if h.got.contains h.ackPsn then Chan.settle n { h with ackPsn := h.ackPsn + 1, got := dropWhere (· == h.ackPsn) h.got } else h

/-- A packet has been taken: ACK after 16, or at once on a gap (R570). -/
def State.noteGot (s : State) (c : Nat) (p : Spill) : State :=
  let h := s.ch c
  let h := Chan.settle 4096 { h with got := p.psn :: h.got, since := h.since + 1, ce := h.ce || p.ce }
  let s := s.setCh c h
  if 16 ≤ h.since ∨ h.got ≠ [] then s.sendAck c else s

/-- What taking a packet leads to: the state, and the NAK that refuses it. -/
abbrev Took := State × BitVec 8

/-- A packet of a channel arrives (R570): a number below ACK_PSN is acknowledged again, one beyond the window is discarded; of a NAK of
0x2 alone nothing has been received. -/
def State.rxPacket (s : State) (e : Nat) (p : Spill) (take : State → Took) : State :=
  let c := p.dstCh.toNat
  let h := s.ch c
  let d := (p.psn - h.ackPsn).toNat
  if p.ver ≠ 1 ∨ !s.on F.ETH_CTL_EN then s
  else if !s.chOn c ∨ s.chPort c ≠ e then s.sendNakFor c p 3
  else if 2 ^ 31 ≤ d then s.sendAck c
  else if 4096 ≤ d ∨ h.got.contains p.psn then s
  else
    let (s', code) := take s
    if code = 2 then s'.sendNakFor c p 2
    else
      let s' := if code = 0 then s' else s'.sendNakFor c p code
      s'.noteGot c p

/-- The window of a channel holds a span, with the right asked for (R568). -/
def State.winHas (s : State) (c : Nat) (right : Bool) (off len : Nat) : Bool :=
  s.on (F.ETH_CH_WIN_LEN_VALID c) && right && decide (off + len ≤ 4096 * (s.f (F.ETH_CH_WIN_LEN_LEN c)).toNat)

/-- The virtual address of a window's byte. -/
def State.winVa (s : State) (c off : Nat) : Nat := (s.f (F.ETH_CH_WIN_HI_VA_HI c)).toNat * 2 ^ 32 + (s.f (F.ETH_CH_WIN_LO_VA_LO c)).toNat * 4096 + off

/-- The record of a message that arrives. -/
def State.rmsg (s : State) (c : Nat) (p : Spill) : Option RMsg := (s.ch c).msgs.find? (fun m => m.msg == p.msg)
def State.putRmsg (s : State) (c : Nat) (m : RMsg) : State :=
  s.setCh c { s.ch c with msgs := dropWhere (fun x => x.msg == m.msg) (s.ch c).msgs ++ [m] }

/-- A part of a message has been written; the whole one posts SPILL_RECV where it is a SEND or asks for it. -/
def State.msgPart (s : State) (c : Nat) (m : RMsg) (p : Spill) (put : Bool) : State :=
  let off := p.offset.toNat
  let m := { m with
    got := m.got + p.payload.length, lo := if p.first then some off else m.lo, hi := if p.last then some (off + p.payload.length) else m.hi }
  let whole : Bool := match m.lo, m.hi with | some a, some b => decide (b - a ≤ m.got) | _, _ => false
  if !whole then s.putRmsg c m
  else
    let s := s.setCh c { s.ch c with msgs := dropWhere (fun x => x.msg == m.msg) (s.ch c).msgs }
    if put ∧ !p.immEn then s
    else s.post (s.evSpill c 0xB2 stOk (2 ^ 32 * p.imm.toNat + 2 ^ 24 * b2n put + 2 ^ 16 * c + (if put then 0 else m.rq.toNat)) m.got)

/-- PUT (R568). -/
def State.takePut (s : State) (p : Spill) (resps : List Resp) : Took :=
  let c := p.dstCh.toNat
  let off := p.offset.toNat
  if !s.winHas c (s.on (F.ETH_CH_WIN_LEN_W c)) off p.payload.length then (s, 1)
  else
    let i := (s.spillIo c resps).writeW 0 (s.winVa c off) p.payload
    if i.live then (i.s.msgPart c ((i.s.rmsg c p).getD ⟨p.msg, 0, none, none, 0, 0, 0⟩) p true, 0) else (i.s, 1)

/-- GET_REQ (R568): the responder reads its window and sends GET_RESP in its own series. -/
def State.takeGetReq (s : State) (p : Spill) (resps : List Resp) : Took :=
  let c := p.dstCh.toNat
  let off := p.offset.toNat
  let len := p.nak.toNat * 2 ^ 24 + p.len24.toNat
  if !s.winHas c (s.on (F.ETH_CH_WIN_LEN_R c)) off len then (s, 1)
  else
    let (bs, i) := (s.spillIo c resps).readR 0 (s.winVa c off) len
    if !i.live then (i.s, 1)
    else
      let s := i.s
      let ps := s.parts { s.pkt0 c 3 with dstCh := p.srcCh, msg := p.msg } off s.ethMss (bs.length + 1) true bs
      ((s.setCh c { s.ch c with txq := (s.ch c).txq ++ ps }).chSend c, 0)

/-- GET_RESP (R567): written to LOCAL; the record completes with its last byte. -/
def State.takeGetResp (s : State) (p : Spill) (resps : List Resp) : Took :=
  let c := p.dstCh.toNat
  match s.recOf c p.msg with
  | none => (s, 0)
  | some r =>
    if r.op ≠ 2 then (s, 0)
    else
      let i := (s.spillIo c resps).writeW 3 ((r.w 3).toNat + (p.offset.toNat - (r.w 4).toNat)) p.payload
      let out := i.outcome 3
      let n := p.payload.length
      let r' := { r with bytes := r.bytes + n, left := r.left - n }
      if out.1 ≠ stOk then (i.s.recEnd c p.msg out.1 out.2, 0)
      else if r'.left = 0 then (i.s.recDone c r', 0)
      else (i.s.mapRec c p.msg (fun _ => r'), 0)

/-- SEND (R568): the next receive buffer, from its start. -/
def State.takeSend (s : State) (p : Spill) (buf : Bytes) (resps : List Resp) : Took :=
  let c := p.dstCh.toNat
  let h := s.ch c
  let fresh := (s.rmsg c p).isNone
  if fresh ∧ h.rqNext = ringIx (s.f (F.ETH_CH_RQ_LO_LOG2_SIZE c)) h.rqTail then (s, 2)
  else
    let ws := words64 2 buf
    let m := (s.rmsg c p).getD ⟨p.msg, 0, none, none, h.rqNext, ws.getD 0 0, w64 (ws.getD 1 0) 31 0⟩
    let s := if fresh then
        let nxt := ringSucc (s.f (F.ETH_CH_RQ_LO_LOG2_SIZE c)) h.rqNext
        let s := s.emit (.hostRead (s.rqBase c + BitVec.ofNat 64 (16 * h.rqNext.toNat)) 16)
        ((s.setCh c { s.ch c with rqNext := nxt }).setF (F.ETH_CH_SQ_PTR_RQ_HEAD c) nxt).putRmsg c m
      else s
    if m.len < p.offset.toNat + p.payload.length then (s, 4)
    else
      let i := (s.spillIo c resps).writeW 0 (m.va.toNat + p.offset.toNat) p.payload
      if i.live then (i.s.msgPart c m p false, 0) else (i.s, 1)

/-- The packet of a record is acknowledged. -/
def State.ackedPkt (s : State) (c : Nat) (t : TxPkt) : State :=
  if t.pkt.kind ≠ 1 ∧ t.pkt.kind ≠ 4 then s
  else match s.recOf c t.pkt.msg with
    | none => s
    | some r =>
      let r' := { r with bytes := r.bytes + t.pkt.payload.length, left := r.left - 1 }
      if r'.left = 0 then s.recDone c r' else s.mapRec c t.pkt.msg (fun _ => r')

/-- An ACK or a NAK shows a number received. -/
def ackShows (p : Spill) (psn : R32) : Bool :=
  let d := (psn - p.ackPsn).toNat
  decide (2 ^ 31 ≤ d) || (p.kind == 8 && decide (1 ≤ d ∧ d ≤ 64) && bitAt p.offset.toNat (d - 1))

/-- Numbers above one that an ACK shows received. -/
def laterShown (p : Spill) (psn : R32) : Nat :=
  ((List.range 64).filter (fun i => bitAt p.offset.toNat i && decide (0 < (p.ackPsn + 1 + BitVec.ofNat 32 i - psn).toNat ∧
    (p.ackPsn + 1 + BitVec.ofNat 32 i - psn).toNat < 2 ^ 31))).length

/-- An ACK with ECE halves the window, at most once per 64 µs (R572). -/
def State.eceCut (s : State) (c : Nat) : State :=
  let h := s.ch c
  let may := match h.lastCut with | some t => decide (16000 ≤ s.now.toNat - t.toNat) | none => true
  let h := { h with lastEce := s.now }
  s.setCh c (if may then { h with win := max (h.win / 2) 65536, lastCut := some s.now } else h)

/-- ACK (R570-R572). -/
def State.ackArrive (s : State) (e : Nat) (p : Spill) : State :=
  let c := p.dstCh.toNat
  if p.ver ≠ 1 ∨ !s.chOn c ∨ s.chPort c ≠ e then s
  else
    let got := (s.ch c).unacked.filter (fun t => ackShows p t.pkt.psn)
    let s := s.setCh c { s.ch c with unacked := (s.ch c).unacked.filter (fun t => !ackShows p t.pkt.psn) }
    let s := got.foldl (fun s t => s.ackedPkt c t) s
    let s := (s.ch c).unacked.foldl (fun s t => if 3 ≤ laterShown p t.pkt.psn ∧ !t.fast then s.chAgain c t true else s) s
    (if p.ece then s.eceCut c else s).chSend c

/-- A NAK (R571). -/
def State.spillNak (s : State) (e : Nat) (p : Spill) : State :=
  let c := p.dstCh.toNat
  if p.ver ≠ 1 ∨ !s.chOn c ∨ s.chPort c ≠ e then s
  else
    let got := (s.ch c).unacked.filter (fun t => ackShows p t.pkt.psn)
    let s := s.setCh c { s.ch c with unacked := (s.ch c).unacked.filter (fun t => !ackShows p t.pkt.psn) }
    let s := got.foldl (fun s t => s.ackedPkt c t) s
    if p.nak = 2 then
      s.setCh c { s.ch c with unacked := (s.ch c).unacked.map (fun t => if t.pkt.msg == p.msg && t.pkt.kind == 4 then
        { t with uncounted := true, sentAt := s.now } else t) }
    else if p.nak = 1 ∨ p.nak = 4 then (s.recEnd c p.msg stRights 0).chSend c
    else if p.nak = 3 then (s.recEnd c p.msg stTargetLost 0).chSend c
    else s

/-- The channel's window grows after each 64 µs without ECE (R572). -/
def State.spillGrow (s : State) (c : Nat) : State :=
  let h := s.ch c
  if s.now.toNat - h.lastEce.toNat < 16000 then s
  else (s.setCh c { h with win := min (h.win + 65536) 4194304, lastEce := s.now }).chSend c

/-! ### Ports and registers -/

/-- The channels with a state of their own on a port. -/
def State.chansOf (s : State) (e : Nat) : List Nat := (s.eth.chans.map (·.1)).filter (fun c => decide (s.chPort c = e))

/-- The lanes of an Ethernet port are ACTIVE while its link is up, training while EN seeks it, DEEP while EN is 0 (R35; DEDUCED,
DEDUCED, log entry 100). -/
def State.ethLaneState (s : State) (e : Nat) : State :=
  let st := if s.on (F.ETH_P_STAT_UP e) then laActive else if s.on (F.ETH_P_CTL_EN e) then laTraining else laDeep
  (ethLanes e).foldl (fun s i => (s.setF (F.LAN_L_STAT_STATE i) st).setF (F.LAN_L_STAT_ALIGNED i) (s.f (F.ETH_P_STAT_UP e))) s

/-- A port comes up or goes down (R563, R574). -/
def State.ethLink (s : State) (e : Nat) (up : Bool) : State :=
  let up := up && s.on (F.ETH_P_CTL_EN e)
  if s.on (F.ETH_P_STAT_UP e) = up then s
  else
    let s := (s.setF (F.ETH_P_STAT_UP e) (bit1 up)).setF (F.ETH_P_STAT_FEC_LOCK e) (bit1 up)
    let s := (s.ethLaneState e).post (ev 0xB4 stOk (2 ^ 16 * e + b2n up) 0)
    if up then (s.chansOf e).foldl (fun s c => s.chSend c) s else s

/-- A write to ETH_CH_CFG: SLOT waits for EN to be 0 (R22), the rest takes effect at once; EN rising clears ERR. -/
def State.chCfg (s : State) (c : Nat) (v : R32) : State :=
  let was := s.on (F.ETH_CH_CFG_EN c)
  let now := fget (F.ETH_CH_CFG_EN c) v == 1
  let s := s.partWr (was && now) (Reg.ETH_CH_CFG c) chSlotBits (v &&& 0xBFFFFFF0)
  if was ∧ !now then s.chOff c
  else if !was ∧ now then (s.setF (F.ETH_CH_STAT_ERR c) 0).chSend c
  else s.chSend c

/-- The registers of a port that wait for its EN to be 0. -/
def ethPortLater (e : Nat) : List Nat :=
  [Reg.ETH_P_MAC_LO e, Reg.ETH_P_MAC_HI e, Reg.ETH_P_IP e 0, Reg.ETH_P_IP e 1, Reg.ETH_P_IP e 2, Reg.ETH_P_IP e 3]

/-- A write to ETH_P_CTL: CR8 waits for EN to be 0 (R22); EN falling ends the link. -/
def State.ethCtlP (s : State) (e : Nat) (v : R32) : State :=
  let was := s.on (F.ETH_P_CTL_EN e)
  let now := fget (F.ETH_P_CTL_EN e) v == 1
  let s := s.partWr (was && now) (Reg.ETH_P_CTL e) 0x40000000 (v &&& 0xC0000000)
  if was ∧ !now then ((s.takeWrs (ethPortLater e)).ethLink e false).ethLaneState e else if !was ∧ now then s.ethLaneState e else s

/-- A write to ETH_CTL; ETH_UDP takes effect while EN is 0. -/
def State.ethCtl (s : State) (v : R32) : State :=
  let s := s.wr Reg.ETH_CTL (v &&& 3)
  if s.on F.ETH_CTL_EN then (s.eth.chans.map (·.1)).foldl (fun s c => s.chSend c) s else s.takeWr Reg.ETH_UDP

/-- A frame that the port does not serve (R564). -/
def State.ethOther (s : State) (e : Nat) : State := s.incF (F.ETH_P_OTHER_COUNT e) 1

/-! ### Commands -/

/-- ETH_LINK_CHANGE (R563). -/
def execEthLinkChange (e : Fin 4) (up : Bool) (s : State) : Host.Outcome State Fault Refusal := whenUp s (fun s => s.ethLink e.val up)

/-- SEND_DOORBELL (R565). -/
def execSendDoorbell (ch : BitVec 8) (tail : BitVec 16) (s : State) : Host.Outcome State Fault Refusal :=
  whenWr s (fun s => s.setCh ch.toNat { s.ch ch.toNat with sqTail := tail })

/-- RECEIVE_DOORBELL (R565). -/
def execReceiveDoorbell (ch : BitVec 8) (tail : BitVec 16) (s : State) : Host.Outcome State Fault Refusal :=
  whenWr s (fun s => s.setCh ch.toNat { s.ch ch.toNat with rqTail := tail })

/-- PUT_RECORD (R567). -/
def execPutRecord (ch : BitVec 8) (rec : Bytes) (resps : List Resp) (s : State) : Host.Outcome State Fault Refusal :=
  whenUp s (fun s => s.recStart ch.toNat 1 rec resps)

/-- GET_RECORD (R567). -/
def execGetRecord (ch : BitVec 8) (rec : Bytes) (resps : List Resp) (s : State) : Host.Outcome State Fault Refusal :=
  whenUp s (fun s => s.recStart ch.toNat 2 rec resps)

/-- SEND_RECORD (R567). -/
def execSendRecord (ch : BitVec 8) (rec : Bytes) (resps : List Resp) (s : State) : Host.Outcome State Fault Refusal :=
  whenUp s (fun s => s.recStart ch.toNat 3 rec resps)

/-- PUT (R568). -/
def execPut (e : Fin 4) (p : Spill) (resps : List Resp) (s : State) : Host.Outcome State Fault Refusal :=
  whenUp s (fun s => s.rxPacket e.val p (fun s => s.takePut p resps))

/-- GET_REQ (R568). -/
def execGetReq (e : Fin 4) (p : Spill) (resps : List Resp) (s : State) : Host.Outcome State Fault Refusal :=
  whenUp s (fun s => s.rxPacket e.val p (fun s => s.takeGetReq p resps))

/-- GET_RESP (R567). -/
def execGetResp (e : Fin 4) (p : Spill) (resps : List Resp) (s : State) : Host.Outcome State Fault Refusal :=
  whenUp s (fun s => s.rxPacket e.val p (fun s => s.takeGetResp p resps))

/-- SEND (R568). -/
def execSend (e : Fin 4) (p : Spill) (buf : Bytes) (resps : List Resp) (s : State) : Host.Outcome State Fault Refusal :=
  whenUp s (fun s => s.rxPacket e.val p (fun s => s.takeSend p buf resps))

/-- ACK (R570). -/
def execAck (e : Fin 4) (p : Spill) (s : State) : Host.Outcome State Fault Refusal := whenUp s (fun s => s.ackArrive e.val p)

/-- SPILL_NAK (R571). -/
def execSpillNak (e : Fin 4) (p : Spill) (s : State) : Host.Outcome State Fault Refusal := whenUp s (fun s => s.spillNak e.val p)

/-- SPILL_ACK_TIMER (R570). -/
def execSpillAckTimer (ch : BitVec 8) (s : State) : Host.Outcome State Fault Refusal :=
  whenUp s (fun s => if 0 < (s.ch ch.toNat).since then s.sendAck ch.toNat else s)

/-- SPILL_RTO (R571). -/
def execSpillRto (ch : BitVec 8) (psn : R32) (s : State) : Host.Outcome State Fault Refusal := whenUp s (fun s => s.chTimeout ch.toNat psn)

/-- SPILL_WINDOW_GROW (R572). -/
def execSpillWindowGrow (ch : BitVec 8) (s : State) : Host.Outcome State Fault Refusal := whenUp s (fun s => s.spillGrow ch.toNat)

/-- NEIGHBOUR_SOLICITATION (R564). -/
def execNeighbourSolicitation (e : Fin 4) (target src : BitVec 128) (s : State) : Host.Outcome State Fault Refusal :=
  whenUp s (fun s => if !s.on (F.ETH_P_STAT_UP e.val) then s
    else if target = s.ethIp e.val then s.ethAnswer e.val 90 (.neighbourAdv e.val target src (s.ethMac e.val)) else s.ethOther e.val)

/-- ECHO_REQUEST (R564). -/
def execEchoRequest (e : Fin 4) (src dst : BitVec 128) (body : Bytes) (s : State) : Host.Outcome State Fault Refusal :=
  whenUp s (fun s => if !s.on (F.ETH_P_STAT_UP e.val) then s
    else if dst = s.ethIp e.val then s.ethAnswer e.val (58 + body.length) (.echoReply e.val dst src body) else s.ethOther e.val)

/-- OTHER_FRAME (R564). -/
def execOtherFrame (e : Fin 4) (s : State) : Host.Outcome State Fault Refusal :=
  whenUp s (fun s => if s.on (F.ETH_P_STAT_UP e.val) then s.ethOther e.val else s)

end Sys2Proof.Machine
end

