-- ==== Sys2Proof/Machine/HomeBase.lean ====
section
/-!
DEFINITION. What the home holds: the extent table (R230-R240), pool bytes under their keys (R226-R228, R276, R589), the lost-line
log (R261, R262), the coherence directory (R248, R249), engine windows (R344-R347), extent commands up to their application.
-/

namespace Sys2Proof.Machine

/-! ### Extents -/

/-- Bytes of the pool (R226). -/
def poolSize : Nat := 1600000000000

/-- An extent entry (R230). -/
structure ExtE where
  job : JobId
  state : BitVec 3
  base : Nat
  keySlot : BitVec 10
  admitGens : BitVec 2
  dgen : Bool
  rot : Bool
  partner : NodeId
  mirrored : Bool
  mcopy : Bool
  coherent : Bool
  accum : Bool
  a : Bool
  w : Bool
  r : Bool
  len : Nat
  deadline : R64
  rotCur : Nat
  shadow : Nat
  dirBase : Nat
  /-- A reserved bit is not zero (R240 ERR 0x1). -/
  dirty : Bool
  deriving DecidableEq, Repr

def exFree : BitVec 3 := 0
def exActive : BitVec 3 := 1
def exRevoking : BitVec 3 := 2
def exExpired : BitVec 3 := 3

/-- A word of an extent entry. -/
def State.extW (s : State) (i w : Nat) : Nat := leNat (Mem.rdN s.mems.ext (64 * i + 8 * w) 8)

/-- Store a word of an extent entry. -/
def State.setExtW (s : State) (i w : Nat) (v : Nat) : State :=
  { s with mems := { s.mems with ext := Mem.wrN s.mems.ext (64 * i + 8 * w) (natLe 8 v) } }

/-- Change bits [lo + n - 1 : lo] of a word. -/
def putBits (x lo n v : Nat) : Nat := x - bitsAt x lo n * 2 ^ lo + v % 2 ^ n * 2 ^ lo

/-- Change a field of an extent entry. -/
def State.setExtF (s : State) (i w lo n v : Nat) : State := s.setExtW i w (putBits (s.extW i w) lo n v)

/-- Read an extent entry (R230). -/
def State.ext (s : State) (i : Nat) : ExtE :=
  let w0 := s.extW i 0
  let w1 := s.extW i 1
  let w4 := s.extW i 4
  let w5 := s.extW i 5
  { job := fieldAt 16 w0 48, state := fieldAt 3 w0 45, base := 4096 * bitsAt w0 12 32, keySlot := fieldAt 10 w1 54,
    admitGens := fieldAt 2 w1 52, dgen := bitAt w1 51, rot := bitAt w1 50, partner := fieldAt 6 w1 44, mirrored := bitAt w1 43,
    mcopy := bitAt w1 42, coherent := bitAt w1 41, accum := bitAt w1 40, a := bitAt w1 39, w := bitAt w1 38, r := bitAt w1 37,
    len := 4096 * bitsAt w1 0 29, deadline := BitVec.ofNat 64 (s.extW i 2), rotCur := bitsAt (s.extW i 3) 8 36,
    shadow := 16 * bitsAt w4 4 36, dirBase := bitsAt w5 0 22,
    dirty := decide (bitsAt w0 44 1 ≠ 0 ∨ bitsAt w0 0 12 ≠ 0 ∨ bitsAt w1 29 8 ≠ 0 ∨ bitsAt (s.extW i 3) 44 20 ≠ 0 ∨
      bitsAt (s.extW i 3) 0 8 ≠ 0 ∨ bitsAt w4 40 24 ≠ 0 ∨ bitsAt w4 0 4 ≠ 0 ∨ bitsAt w5 22 42 ≠ 0 ∨ s.extW i 6 ≠ 0 ∨
      s.extW i 7 ≠ 0) }

def State.setExtState (s : State) (i : Nat) (v : BitVec 3) : State := s.setExtF i 0 45 3 v.toNat
def State.setExtAdmit (s : State) (i : Nat) (v : BitVec 2) : State := s.setExtF i 1 52 2 v.toNat

/-- Entries that are not FREE. -/
def State.liveExts (s : State) : List Nat :=
  (nub (s.mems.ext.map (fun c => c.1 / 64))).filter (fun i => decide ((s.ext i).state ≠ exFree))

/-- The extent that holds a span of the pool (R92 check 3). -/
def State.findExt (s : State) (off len : Nat) : Option Nat :=
  s.liveExts.find? (fun i => decide ((s.ext i).base ≤ off) && decide (off + len ≤ (s.ext i).base + (s.ext i).len))

/-- Elements and shadow span of an ACCUM extent (R234). -/
def ExtE.elems (e : ExtE) : Nat := e.len / 4
def ExtE.shadowEnd (e : ExtE) : Nat := e.shadow + 16 * e.elems

/-! ### Engine windows -/

/-- The logical tiles a grade exposes (R46). -/
def exposedTile (gradeB : Bool) (n : Nat) : Bool := if gradeB then decide (n < 20 ∨ (24 ≤ n ∧ n < 44)) else decide (n < 48)

/-- Bytes of a slice, and where its working store starts (R343). -/
def sliceSize : Nat := 0x5000000
def workMiB (w : BitVec 7) : Nat := if 1 ≤ w.toNat ∧ w.toNat ≤ 80 then w.toNat else 32
def State.workStart (s : State) (tile : Nat) : Nat := sliceSize - 0x100000 * workMiB (s.f (F.ENG_T_CTL_WORK tile))

/-- A span of class 0b01 lies in exposed slices, outside their working stores (R344). -/
def State.sramValid (s : State) (off len : Nat) : Bool :=
  let t := off / sliceSize
  decide (off + len ≤ 0xF0000000) && exposedTile s.part.gradeB t && decide ((off + len - 1) / sliceSize = t) &&
    decide (off % sliceSize + len ≤ s.workStart t)

/-- A span touches an allotted accumulate shadow (R347). -/
def State.touchesShadow (s : State) (off len : Nat) : Bool :=
  s.liveExts.any (fun i =>
    let e := s.ext i
    e.accum && decide (e.shadow < off + len) && decide (off < e.shadowEnd))

/-- An engine window of the job holds the span with the rights (R345). -/
def State.winHolds (s : State) (job : JobId) (off len : Nat) (need : Need) : Bool :=
  (List.range 64).any (fun w =>
    let base := 4096 * (s.f (F.ENG_WIN_BASE_BASE w)).toNat
    let n := 4096 * ((s.f (F.ENG_WIN_LEN_LEN_M1 w)).toNat + 1)
    s.on (F.ENG_WIN_LEN_VALID w) && decide (s.f (F.ENG_WIN_JOB_JOB w) = job) && decide (base ≤ off) &&
      decide (off + len ≤ base + n) &&
      need.ok (s.on (F.ENG_WIN_LEN_R w)) (s.on (F.ENG_WIN_LEN_W w)) (s.on (F.ENG_WIN_LEN_A w)))

/-! ### Directory -/

/-- An uncached line (R249). -/
def dirNone : Nat → DirE := fun _ => ⟨0, false, false, 0, [], 0⟩

/-- The directory index of a line of a coherent extent (R248), complex 1 above complex 0. -/
def dirIndex (e : ExtE) (line : Nat) : Nat :=
  let off := 64 * line
  3145728 * (off / 256 % 2) + e.dirBase + (off - e.base) / 512 * 4 + line % 4

def State.dirAt (s : State) (e : ExtE) (line : Nat) : DirE := sget dirNone s.mems.dir (dirIndex e line)
def State.setDir (s : State) (e : ExtE) (line : Nat) (d : DirE) : State :=
  { s with mems := { s.mems with dir := sset dirNone s.mems.dir (dirIndex e line) d } }

/-- The lines of an extent that some agent holds, from the directory's own entries. -/
def State.cachedLines (s : State) (e : ExtE) : List Nat :=
  let n := e.len / 4096 * 32
  s.mems.dir.filterMap (fun kv =>
    let c := kv.1 / 3145728
    let i := kv.1 % 3145728
    if e.dirBase ≤ i ∧ i < e.dirBase + n ∧ kv.2.st ≠ 0 then
      -- 256 B lines alternate between the complexes, and a base is a multiple of 4 KiB (R230, R248)
      let j := i - e.dirBase
      some ((e.base + 512 * (j / 4) + 256 * c) / 64 + j % 4)
    else none)

/-! ### Lost lines -/

/-- The DPA of a pool offset of this node. -/
def State.poolDpa (s : State) (off : Nat) : Dpa := mkDpa s.node 0 off

/-- LINES_LOST for the record at an index (R262, R278). -/
def State.postLost (s : State) (i : Nat) : State :=
  let w0 := leNat (Mem.rdN s.mems.llog (32 * i) 8)
  let cause := bitsAt w0 52 4
  s.post (ev 0x22 (if cause = 1 ∨ cause = 2 ∨ cause = 5 then stDataLost else stOk) (bitsAt w0 0 52)
    (2 ^ 16 * i + leNat (Mem.rdN s.mems.llog (32 * i + 24) 2)))

/-- Log the loss of one granule (R261, R262): coalesced into the newest unread record, or written at TAIL. -/
def State.logLoss (s : State) (cause : Nat) (line : Nat) (job : JobId) (agent : AgentId) (ext : Nat) : State :=
  let tail := (s.f F.HOM_LLOG_TAIL_TAIL).toNat
  let head := (s.f F.HOM_LLOG_HEAD_HEAD).toNat
  let last := (tail + 1023) % 1024
  let dpa := (s.poolDpa (64 * line)).toNat
  let w (k : Nat) : Nat := leNat (Mem.rdN s.mems.llog (32 * last + 8 * k) 8)
  let w2 := putAt 48 job + putAt 32 agent + ext
  if head ≠ tail ∧ bitsAt (w 0) 52 4 = cause ∧ w 2 = w2 ∧ bitsAt (w 0) 0 52 + 64 * (w 3) = dpa ∧ w 3 < 65535 then
    State.postLost { s with mems := { s.mems with llog := Mem.wrN s.mems.llog (32 * last + 24) (natLe 8 (w 3 + 1)) } } last
  else if (tail + 1) % 1024 = head then s.setF F.HOM_STAT_LLOG_OVF 1
  else
    let rec_ := natLe 8 (cause * 2 ^ 52 + dpa) ++ natLe 8 s.now.toNat ++ natLe 8 w2 ++ natLe 8 1
    let s := State.setF { s with mems := { s.mems with llog := Mem.wrN s.mems.llog (32 * tail) rec_ } } F.HOM_LLOG_TAIL_TAIL
      (BitVec.ofNat 10 ((tail + 1) % 1024))
    s.postLost tail

/-! ### Pool bytes -/

/-- The key generation that a line of an extent stands under (R276). -/
def ExtE.gen (e : ExtE) (off : Nat) : Bool := if e.rot ∧ off < e.rotCur * 256 then !e.dgen else e.dgen

/-- The number of a generation of a key slot. -/
def keyIx (slot : BitVec 10) (gen : Bool) : Nat := 2 * slot.toNat + b2n gen

def noKey : Nat → Option (BitVec 512) := fun _ => none

/-- The memory key of a slot and generation (R588). -/
def State.memKey (s : State) (slot : BitVec 10) (gen : Bool) : Option (BitVec 512) := sget noKey s.sec.keys (keyIx slot gen)

/-- A key's mark beside the granules it encrypted; 0 stands for no key. -/
def keyMark (k : BitVec 512) : Nat := k.toNat + 1

def noMark : Nat → Nat := fun _ => 0

/-- Read a 64 B granule under a key (R589): its bytes where they stand under that key, else free values (DESIGN CHOICE, log entry 7). -/
def State.granule (s : State) (key : BitVec 512) (g : Nat) : Bytes × State :=
  if sget noMark s.mems.poolKey g = keyMark key then (Mem.rdN s.mems.pool (64 * g) 64, s) else s.drawBytes 64

/-- Write bytes within one granule under a key: the rest of the granule is what reading it gave. -/
def State.putGranule (s : State) (key : BitVec 512) (g off : Nat) (bs : Bytes) : State :=
  let (old, s) := if off = 0 ∧ bs.length = 64 then (bs, s) else s.granule key g
  let new := old.take off ++ bs ++ old.drop (off + bs.length)
  { s with mems := { s.mems with
      pool := Mem.wrN s.mems.pool (64 * g) new
      poolKey := sset noMark s.mems.poolKey g (keyMark key) } }

/-- The 64 B granules that a span touches. -/
def granulesOf (off len : Nat) : List Nat := (List.range ((off + len - 1) / 64 + 1 - off / 64)).map (· + off / 64)

/-- The keys of a span of an extent; none where a generation is erased. -/
def State.spanKey (s : State) (e : ExtE) (off : Nat) : Option (BitVec 512) := s.memKey e.keySlot (e.gen off)

/-- What a request meets that reaches the pool under an erased generation (R593). -/
def State.erasedStatus (s : State) (e : ExtE) (off : Nat) : Status :=
  if s.sec.alarmErased.contains (keyIx e.keySlot (e.gen off)) then stAlarm else stRights

/-- Read a run of granules of an extent. -/
def State.readGranules (s : State) (e : ExtE) : List Nat → Bytes × State
  | [] => ([], s)
  | g :: gs =>
    let (b, s) := match s.spanKey e (64 * g) with
      | some k => s.granule k g
      | none => s.drawBytes 64
    let (bs, s) := s.readGranules e gs
    (b ++ bs, s)

/-- Read a span of an extent's pool bytes. -/
def State.poolRead (s : State) (e : ExtE) (off len : Nat) : Bytes × State :=
  let (bs, s) := s.readGranules e (granulesOf off len)
  (slice bs (off % 64) len, s)

/-- Write a span, granule by granule. -/
def State.writeGranules (s : State) (e : ExtE) (off : Nat) (bs : Bytes) : List Nat → State
  | [] => s
  | g :: gs =>
    let lo := if off / 64 = g then off % 64 else 0
    let start := 64 * g + lo - off
    let piece := (bs.drop start).take (64 - lo)
    let s := match s.spanKey e (64 * g) with
      | some k => s.putGranule k g lo piece
      | none => s
    s.writeGranules e off bs gs

def State.poolWrite (s : State) (e : ExtE) (off : Nat) (bs : Bytes) : State := s.writeGranules e off bs (granulesOf off bs.length)

/-- The device of a pool offset (R227). -/
def poolDevice (off : Nat) : Nat := off / 256 % 2 * 10 + off / 512 % 10

/-- Ticks of an hour. -/
def hourTicks : Nat := 900000000000

/-- Count one corrected error of a device; CE_ALERT once in an hour in which the count rises by more than the threshold (R273). -/
def State.countCe (s : State) (dev : Nat) : State :=
  let h := s.now.toNat / hourTicks
  let s := if h = s.home.hour then s else { s with home := { s.home with hour := h, ceHour := [] } }
  let (n, alerted) := sget (fun _ => (0, false)) s.home.ceHour dev
  let excess := decide ((s.f F.HOM_CE_THR_THRESHOLD).toNat < n + 1)
  let s := s.incF (F.HOM_CE_CNT_COUNT dev) 1
  let s := { s with home := { s.home with ceHour := sset (fun _ => (0, false)) s.home.ceHour dev (n + 1, alerted || excess) } }
  if excess && !alerted then s.post (ev 0x26 stOk dev (n + 1)) else s

/-- Count the corrected errors among some granules. -/
def State.countCes (s : State) (m : MemCond) : List Nat → State
  | [] => s
  | g :: gs => ((if m.ce.contains g then s.countCe (poolDevice (64 * g)) else s)).countCes m gs

/-- A read of a granule is uncorrectable (R271): the device signals it, or link ECC reports an error that two re-reads do not clear. -/
def memBad (m : MemCond) (g : Nat) : Bool := m.die.contains g || m.link.any (fun x => x.1 == g && decide (3 ≤ x.2))

/-- The granules of a list that read uncorrectable (R271), each counted (HOM_UE_CNT). -/
def badGranules (m : MemCond) (gs : List Nat) : List Nat := gs.filter (memBad m)
def State.countUes (s : State) (bad : List Nat) : State := s.incF F.HOM_UE_CNT_COUNT bad.length

/-! ### Extent commands -/

/-- Ticks of the lease length (R236, HOM_LEASE). -/
def State.leaseTicks (s : State) : R64 := BitVec.ofNat 64 (250000 * max 1 (s.f F.HOM_LEASE_LEN_MS).toNat)

/-- 16 MiB granules of a span (R231). -/
def bigGranules (e : ExtE) : Nat × Nat := (e.base / 0x1000000, (e.base + e.len - 1) / 0x1000000)

/-- Some 16 MiB granule would hold parts of more than four extents (R231). -/
def State.crowded (s : State) (i : Nat) (e : ExtE) : Bool :=
  let (a, b) := bigGranules e
  let ends := s.liveExts.filter (fun j => decide (j ≠ i) &&
    (let (c, d) := bigGranules (s.ext j)
     decide (c ≤ b) && decide (a ≤ d)))
  -- extents overlap a granule most where one of them, or the new one, begins or ends
  let spots := (a :: b :: ends.flatMap (fun j => [(bigGranules (s.ext j)).1, (bigGranules (s.ext j)).2])).filter
    (fun g => decide (a ≤ g) && decide (g ≤ b))
  spots.any (fun g => decide (4 ≤ (ends.filter (fun j =>
    decide ((bigGranules (s.ext j)).1 ≤ g) && decide (g ≤ (bigGranules (s.ext j)).2))).length))

/-- Directory entries of a coherent extent in each complex (R248). -/
def ExtE.dirLen (e : ExtE) : Nat := e.len / 4096 * 32

def State.cohExts (s : State) : List Nat := s.liveExts.filter (fun j => (s.ext j).coherent)
def State.accExts (s : State) : List Nat := s.liveExts.filter (fun j => (s.ext j).accum)

/-- Bytes of coherent windows, accumulate elements granted (R248, R201). -/
def State.cohBytes (s : State) : Nat := (s.cohExts.map (fun j => (s.ext j).len)).foldl (· + ·) 0
def State.accElems (s : State) : Nat := (s.accExts.map (fun j => (s.ext j).elems)).foldl (· + ·) 0

/-- The shadows of an extent lie in exposed slices outside working stores and apart from others (R240 ERR 0x6). -/
def State.shadowsFit (s : State) (i : Nat) (e : ExtE) : Bool :=
  (List.range ((e.shadowEnd - 1) / sliceSize + 1 - e.shadow / sliceSize)).all (fun k =>
    let t := e.shadow / sliceSize + k
    exposedTile s.part.gradeB t && decide (min e.shadowEnd ((t + 1) * sliceSize) ≤ t * sliceSize + s.workStart t)) &&
  s.accExts.all (fun j => decide (j = i) || decide (e.shadowEnd ≤ (s.ext j).shadow ∨ (s.ext j).shadowEnd ≤ e.shadow))

/-- Validation of an entry for GRANT (R240). -/
def State.grantErr (s : State) (i : Nat) : BitVec 4 :=
  let e := s.ext i
  if e.state ≠ exFree then 8
  else if e.dirty then 1
  else if e.len = 0 ∨ poolSize < e.base + e.len then 2
  else if s.crowded i e then 3
  else if s.liveExts.any (fun j => decide ((s.ext j).base < e.base + e.len) && decide (e.base < (s.ext j).base + (s.ext j).len)) then 4
  else if e.coherent ∧ (402653184 < s.cohBytes + e.len ∨ 3145728 < e.dirBase + e.dirLen ∨
      s.cohExts.any (fun j => decide ((s.ext j).dirBase < e.dirBase + e.dirLen) && decide (e.dirBase < (s.ext j).dirBase + (s.ext j).dirLen)))
    then 5
  else if e.accum ∧ (16777216 < s.accElems + e.elems ∨ !s.shadowsFit i e ∨ e.coherent ∨ e.mirrored ∨ e.mcopy ∨ !e.a ∨ !e.r) then 6
  else if ((e.mirrored ∨ e.mcopy) ∧ e.partner = s.node) ∨ (e.mirrored ∧ e.mcopy) ∨ (e.coherent ∧ (e.mirrored ∨ e.mcopy)) then 7
  else 0

/-- Background operations that R239 counts: revokes, reclaims, rotations, mirror repairs (FLT_RM_CMD). -/
def State.bgCount (s : State) : Nat := s.home.bg.length

/-- Validation of a command word (R236, R240). -/
def State.cmdErr (s : State) (c : R32) : BitVec 4 :=
  let op := fget F.HOM_EXT_CMD_OP c
  let i := (fget F.HOM_EXT_CMD_EXTENT c).toNat
  let gen := (fget F.HOM_EXT_CMD_GEN c).toNat
  let e := s.ext i
  if op = 1 then s.grantErr i
  else if op = 2 then (if e.state = exActive ∨ e.state = exRevoking then 0 else 8)
  else if op = 3 then
    (if e.state = exActive ∧ bitAt e.admitGens.toNat gen then (if 16 ≤ s.bgCount then 9 else 0) else 8)
  else if op = 4 then (if e.state = exActive ∨ e.state = exRevoking then (if 16 ≤ s.bgCount then 9 else 0) else 8)
  else if op = 5 then (if e.state = exActive then 0 else 8)
  else if op = 6 then
    (if e.state = exActive ∧ e.admitGens = 3 ∧ !e.rot then (if 16 ≤ s.bgCount then 9 else 0) else 8)
  else if op = 7 then 0
  else 8

/-- The tick of a timed extent command. -/
def State.extTick (s : State) : R64 := s.rd Reg.HOM_EXT_TICK_HI ++ s.rd Reg.HOM_EXT_TICK_LO

/-- A write to HOM_EXT_CMD (R237, R238): ignored while BUSY or while 64 timed commands wait. A timed command is validated at once
and waits; another sets BUSY until EXT_CMD_DONE. -/
def State.extCmd (s : State) (c : R32) : State :=
  if s.on F.HOM_EXT_RES_BUSY ∨ 64 ≤ s.home.timed.length then s
  else
    let s := s.setF F.HOM_EXT_RES_EXTENT (fget F.HOM_EXT_CMD_EXTENT c)
    if fget F.HOM_EXT_CMD_TIMED c = 1 then
      let e := s.cmdErr c
      let s := s.setF F.HOM_EXT_RES_ERR e
      if e = 0 then { s with home := { s.home with timed := s.home.timed ++ [(s.extTick, c)] } } else s
    else State.setF { s with home := { s.home with cmd := some c } } F.HOM_EXT_RES_BUSY 1

/-- A command word of HOM_EXT_CMD. -/
def extCmdWord (op : Nat) (timed gen : Bool) (agent : AgentId) (ext : BitVec 14) : R32 :=
  BitVec.ofNat 32 (op * 2 ^ 28 + 2 ^ 27 * b2n timed + 2 ^ 26 * b2n gen + putAt 14 agent + ext.toNat)

/-- The address in the extent table of an offset in HOM_EXTWIN. -/
def State.extWinAddr (s : State) (off : Nat) : Nat := (s.f F.HOM_EXTWIN_PAGE_PAGE).toNat * 262144 + off

/-- A word of an entry as a window write leaves it: the fields that only the home writes stay (R230, R232). -/
def winExtWord (w old new : Nat) : Nat :=
  if w = 0 then putBits new 45 3 (bitsAt old 45 3)
  else if w = 1 then putBits (putBits new 52 2 (bitsAt old 52 2)) 50 1 (bitsAt old 50 1)
  else if w = 2 then old
  else if w = 3 then putBits new 8 36 (bitsAt old 8 36)
  else new

/-- A write through HOM_EXTWIN (R232): discarded on an entry that is not FREE. -/
def State.extWinWrite (s : State) (off : Nat) (wide : Bool) (v : R64) : State :=
  let a := s.extWinAddr off
  let i := a / 64
  if (s.ext i).state ≠ exFree then s.setF F.HOM_STAT_LIVE_WR 1
  else
    let w := a % 64 / 8
    let new := leNat (Mem.rdN (winWrite s.mems.ext a wide v) (64 * i + 8 * w) 8)
    s.setExtW i w (winExtWord w (s.extW i w) new)

/-- LEASE_EN rising from 0 to 1 renews every live lease (R241). -/
def State.renewAll (s : State) : List Nat → State
  | [] => s
  | i :: is =>
    let st := (s.ext i).state
    (if st = exActive ∨ st = exRevoking then s.setExtW i 2 (s.now + s.leaseTicks).toNat else s).renewAll is

/-- A write to HOM_CTL (R241). -/
def State.homCtl (s : State) (v : R32) : State :=
  let rise := !s.on F.HOM_CTL_LEASE_EN && fget F.HOM_CTL_LEASE_EN v == 1
  let s := s.wr Reg.HOM_CTL (v &&& 7)
  if rise then s.renewAll s.liveExts else s

/-! ### Commands of the extent registers -/

/-- GRANT (R236): the command word reaches HOM_EXT_CMD. -/
def execGrant (ext : BitVec 14) (timed : Bool) (s : State) : Host.Outcome State Fault Refusal :=
  whenWr s (fun s => s.extCmd (extCmdWord 1 timed false 0 ext))

/-- RENEW (R236). -/
def execRenew (ext : BitVec 14) (timed : Bool) (s : State) : Host.Outcome State Fault Refusal :=
  whenWr s (fun s => s.extCmd (extCmdWord 2 timed false 0 ext))

/-- REVOKE (R246). -/
def execRevoke (ext : BitVec 14) (gen timed : Bool) (s : State) : Host.Outcome State Fault Refusal :=
  whenWr s (fun s => s.extCmd (extCmdWord 3 timed gen 0 ext))

/-- EXPIRE (R243). -/
def execExpire (ext : BitVec 14) (timed : Bool) (s : State) : Host.Outcome State Fault Refusal :=
  whenWr s (fun s => s.extCmd (extCmdWord 4 timed false 0 ext))

/-- ADMIT (R236). -/
def execExtAdmit (ext : BitVec 14) (gen timed : Bool) (s : State) : Host.Outcome State Fault Refusal :=
  whenWr s (fun s => s.extCmd (extCmdWord 5 timed gen 0 ext))

/-- ROTATE (R276). -/
def execRotate (ext : BitVec 14) (timed : Bool) (s : State) : Host.Outcome State Fault Refusal :=
  whenWr s (fun s => s.extCmd (extCmdWord 6 timed false 0 ext))

/-- AGENT_DROP (R260). -/
def execAgentDrop (agent : AgentId) (timed : Bool) (s : State) : Host.Outcome State Fault Refusal :=
  whenWr s (fun s => s.extCmd (extCmdWord 7 timed false agent 0))

/-- EXTWIN_WRITE (R232). -/
def execExtwinWrite (off : BitVec 18) (wide : Bool) (v : R64) (s : State) : Host.Outcome State Fault Refusal :=
  whenWr s (fun s => s.extWinWrite off.toNat wide v)

/-- HOM_CTL_WRITE (R241). -/
def execHomCtlWrite (v : R32) (s : State) : Host.Outcome State Fault Refusal := whenWr s (fun s => s.homCtl v)

end Sys2Proof.Machine
end

