-- ==== Sys2Proof/Machine/ReqForm.lean ====
section
/-!
DEFINITION. Forms of a request as a home reads them: bytes touched, rights needed, exact adds (R79, R162, R194, R197, R233).
-/

namespace Sys2Proof

open Sys2Proof.Machine

/-- Bytes a request touches. -/
def Req.bytes (r : Req) : Nat := 2 ^ r.size.toNat

/-- Rights a request needs (R79; for coherent-window requests DEDUCED, log entry 14). -/
def Req.need (r : Req) : Need :=
  if r.opc = 1 ∨ r.opc = 8 ∨ r.opc = 0xC then needR
  else if r.opc = 2 ∨ r.opc = 0xB then needW
  else if r.opc = 9 ∨ r.opc = 0xA then needRW
  else needA

/-- The request carries an exact add (R197, R233). -/
def Req.exact (r : Req) : Bool := decide (r.opc = 3) && decide (r.atype = 2) && r.attr.accum

/-- An integer atomic or a CAS. -/
def Req.intAtomic (r : Req) : Bool := decide (r.opc = 6) || (decide (3 ≤ r.opc.toNat ∧ r.opc.toNat ≤ 5) && decide (r.atype ≠ 2))

def Req.coh (r : Req) : Bool := decide (8 ≤ r.opc.toNat)

/-- The lines of a pool request. -/
def Req.lines (r : Req) : List Nat := granulesOf (dpaOff r.dpa) r.bytes

/-- The key of a series at this home. -/
def Req.key (r : Req) : Nat := seriesKey r.src (dpaNode r.dpa) r.cls

/-- The class is put back in order (R177, R181). -/
def Req.ordered (r : Req) : Bool := (decide (r.cls = 0) || decide (r.cls = 2)) && !r.tamp.on

end Sys2Proof
end

