-- ==== Sys2Proof/Machine/Home.lean ====
section
/-!
DEFINITION. The home at work: resequencing and duplicates (R181, R183), the checks of R92, execution at the ordering point (R189-R215),
coherence (R250-R258), mirroring (R263-R268), errors (R270-R273), the sediment log's capture and replay (R491-R494).
-/

namespace Sys2Proof.Machine

/-- The register window as the home reaches it (R621): a read and a write of 4 or 8 bytes. -/
structure Win where
  rd : State → Nat → Bool → R64 × State
  wr : State → Nat → Bool → R64 → State

def noCopy : Nat → Option (BitVec 16) := fun _ => none

/-! ### Completions -/

/-- The completion of a request by this home (R544); a tamped operation's goes to the node that tamped it (R213). -/
def cplFor (s : State) (r : Req) (st : Status) (sat : Bool) (data : Bytes) : Cpl :=
  let data := if st = stOk then data else []
  { opc := if data = [] then 0x30 else 0x31, cls := r.cls, size := r.size, status := st, ce := r.ce, sat := sat, way := way0,
    src := s.node, agent := r.src, seq := r.seq, colour := r.colour, iso := r.iso, tampId := r.tamp.id, tamped := r.tamp.on,
    dst := if r.tamp.on then r.tamp.id.extractLsb' 14 6 else agentNode r.src, data := data }

/-- Keep a completion until it is acknowledged: every one but a LOAD's (R183). -/
def State.keep (s : State) (r : Req) (c : Cpl) : State :=
  if r.opc = 1 then s
  else { s with home := { s.home with kept := s.home.kept ++ [⟨r.src, dpaNode r.dpa, r.cls, r.seq, r.tamp.id, r.tamp.on, c⟩] } }

/-- Complete a request. -/
def State.reply (s : State) (r : Req) (st : Status) (sat : Bool) (data : Bytes) : State :=
  let c := cplFor s r st sat data
  (s.keep r c).sendCpl c

/-- The completion kept for a request, by its series and number, or by its tamping identity (R183, R214). -/
def State.keptFor (s : State) (r : Req) : Option Cpl :=
  (s.home.kept.find? (fun k => if r.tamp.on then k.tamped && k.tamp == r.tamp.id
    else !k.tamped && k.agent == r.src && k.home == dpaNode r.dpa && k.cls == r.cls && k.seq == r.seq)).map (·.cpl)

def noNums : Nat → List (BitVec 16) := fun _ => []
def noOp : Nat → Option (AgentId × BitVec 16) := fun _ => none

/-- Acknowledged numbers of a series with one more; those that lie half the numbers or more behind it are forgotten (R183). -/
def ackNum (n : BitVec 16) (l : List (BitVec 16)) : List (BitVec 16) :=
  n :: l.filter (fun x => decide (x ≠ n ∧ ((n - x).toNat < 32768 ∨ 49152 ≤ (n - x).toNat)))

/-- Two copies of one request: its series and number, and its tamping identity (R183, R214). -/
def sameReq (a b : Req) : Bool := a.key == b.key && a.seq == b.seq && a.tamp.on == b.tamp.on && (!a.tamp.on || a.tamp.id == b.tamp.id)

/-- The home has executed a request and its completion is acknowledged. -/
def State.ackedFor (s : State) (r : Req) : Bool :=
  if r.tamp.on then sget noOp s.home.ackedTamps r.tamp.id.toNat == some (r.src, r.seq) else (sget noNums s.home.acked r.key).contains r.seq

/-- A copy of a request is at this home and not complete. -/
def State.inHome (s : State) (r : Req) : Bool :=
  s.home.held.any (fun h => sameReq h.1 r) || s.home.waits.any (fun w => sameReq w.1 r) || s.home.awaitMack.any (fun w => sameReq w.1 r) ||
    s.home.txns.any (fun t => match t.req with | some (q, _) => sameReq q r | none => false) ||
    s.flt.sedHeld.any (fun h => sameReq h.1 r) || s.ep.own.any (fun o => match o.kind with | .mirrorRead q _ _ => sameReq q r | _ => false)

/-! ### Checks -/

/-- What the checks of R92 find. -/
inductive Chk where
  | fail (st : Status)
  | pool (ext : Nat)
  | sram
  | sync (obj : Nat)
  | bar
  deriving DecidableEq, Repr

/-- Checks of a pool request (R92), and the refusals of R203 and R233 after them. -/
def State.chkPool (s : State) (r : Req) (off : Nat) : Chk :=
  if !s.on F.HOM_CTL_EN then .fail stRights
  else if poolSize < off + r.bytes then .fail stRights
  else match s.findExt off r.bytes with
    | none => .fail stRights
    | some i =>
      let e := s.ext i
      if e.job ≠ r.job then .fail stRights
      else if s.jobStopped r.job then .fail stJobStopped
      else if e.state = exExpired then .fail stLeaseExpired
      else if e.keySlot ≠ r.attr.keySlot then .fail stRights
      else if !bitAt e.admitGens.toNat (b2n r.attr.kgen) then .fail stRevoked
      else if !r.need.ok e.r e.w e.a then .fail stRights
      else if r.exact ≠ (e.accum && decide (r.opc = 3) && decide (r.atype = 2)) then .fail stRights
      else if e.accum ∧ (r.intAtomic ∨ (r.atype = 2 ∧ (r.opc = 4 ∨ r.opc = 5)) ∨ r.coh) then .fail stRights
      else if r.coh ∧ !e.coherent then .fail stRights
      else .pool i

/-- Checks of an engine-window request (R344-R347). -/
def State.chkSram (s : State) (r : Req) (off : Nat) : Chk :=
  if !s.sramValid off r.bytes then .fail stRights
  else if !s.winHolds r.job off r.bytes needNone then .fail stRights
  else if s.jobStopped r.job then .fail stJobStopped
  else if !s.winHolds r.job off r.bytes r.need then .fail stRights
  else if s.touchesShadow off r.bytes then .fail stRights
  else if r.coh ∨ r.exact ∨ (r.atype = 2 ∧ (r.opc = 4 ∨ r.opc = 5 ∨ (r.opc = 3 ∧ !r.unord))) then .fail stRights
  else .sram

/-- Checks of a sync-object request (R151, R152). -/
def State.chkSync (s : State) (r : Req) (off : Nat) : Chk :=
  let ok : Bool := (r.opc = 1 && r.size = 3) || ((r.opc = 3 || r.opc = 6) && r.width = 1 && (r.atype ≠ 2 || r.opc = 6))
  if !ok ∨ off % 16 ≠ 0 ∨ 0x40000 ≤ off then .fail stRights
  else
    let st := s.objCheck (off / 16) r.job
    if st ≠ stOk then .fail st else .sync (off / 16)

/-- Checks of a register-window request (R621). -/
def State.chkBar (s : State) (r : Req) (off : Nat) : Chk :=
  if 0x2000000 ≤ off then .fail stRights
  else if r.job ≠ 0 then .fail stRights
  else if s.jobStopped r.job then .fail stJobStopped
  else if (r.opc = 1 ∨ r.opc = 2) ∧ (r.size = 2 ∨ r.size = 3) then .bar
  else .fail stRights

/-- The checks of R92 by class (R16). -/
def State.homeCheck (s : State) (r : Req) : Chk :=
  let off := dpaOff r.dpa
  if dpaClass r.dpa = 0 then s.chkPool r off
  else if dpaClass r.dpa = 1 then s.chkSram r off
  else if dpaClass r.dpa = 2 then s.chkSync r off
  else s.chkBar r off

/-- A request ended with REVOKED: the revokes in progress of its extent and generation count it (R246). -/
def State.countRevoked (s : State) (r : Req) : State :=
  let ext := s.findExt (dpaOff r.dpa) r.bytes
  { s with home := { s.home with bg := s.home.bg.map (fun b =>
      match b.kind with
      | .revoke g n => if some b.ext.toNat = ext ∧ g = r.attr.kgen then { b with kind := .revoke g (n + 1) } else b
      | _ => b) } }

/-! ### Execution -/

/-- The old and the new value of an atomic on bytes of memory. -/
def atomicNew (r : Req) (old : Bytes) : Bytes :=
  let n := widthBytes r.width
  let o := leNat old
  let x := leNat (r.data.take n)
  if r.opc = 6 then (if o = leNat ((r.data.drop 16).take n) then natLe n x else old)
  else natLe n (atomicOp r.opc r.atype (8 * n) o x)

/-- The data unit that returns an old value (R164). -/
def oldUnit (r : Req) (old : Bytes) : Bytes := if r.nr then [] else old ++ zeros (16 - old.length)

/-- Elements of an ACCUM extent that a span touches, as shadow addresses (R234). -/
def shadowAddrs (e : ExtE) (off len : Nat) : List Nat :=
  (List.range ((off + len - 1 - e.base) / 4 + 1 - (off - e.base) / 4)).map (fun k => e.shadow + 16 * ((off - e.base) / 4 + k))

/-- Read the elements of an accumulate region (R206). -/
def State.loadElems (s : State) : List Nat → Bytes × Bool
  | [] => ([], false)
  | a :: rest =>
    let (v, sat) := (shadowOf (Mem.rdN s.mems.sram a 16)).load
    let (bs, sat') := s.loadElems rest
    (natLe 4 v ++ bs, sat || sat')

/-- Clear the shadows of elements (R207). -/
def State.clearElems (s : State) : List Nat → State
  | [] => s
  | a :: rest => State.clearElems { s with mems := { s.mems with sram := Mem.wrN s.mems.sram a (zeros 16) } } rest

/-- An exact add to an element (R205): SAT of the completion is the contribution's own, or a different EW; of a tamped operation
only the latter (R213). -/
def State.exactAdd (s : State) (e : ExtE) (r : Req) : State :=
  let a := e.shadow + 16 * ((dpaOff r.dpa - e.base) / 4)
  let (h, differs) := (shadowOf (Mem.rdN s.mems.sram a 16)).add (exactOf r.data) r.ew r.tamp.n.toNat r.tamp.sat
  let s := { s with mems := { s.mems with sram := Mem.wrN s.mems.sram a (shadowBytes h) } }
  s.reply r stOk (differs || (!r.tamp.on && r.tamp.sat)) []

/-- Execute on an accumulate region (R205-R207). -/
def State.execAccum (s : State) (e : ExtE) (r : Req) : State :=
  let off := dpaOff r.dpa
  let els := shadowAddrs e off r.bytes
  if r.opc = 1 then
    let (bs, sat) := s.loadElems els
    s.reply r stOk sat (loadUnits (slice bs ((off - e.base) % 4) r.bytes) off r.bytes)
  else if r.opc = 2 then
    if (storeBytes r.data off r.bytes).all (· == 0) then (s.clearElems els).reply r stOk false []
    else s.reply r stRights false []
  else s.exactAdd e r

def noWr : Nat → Option (BitVec 16) := fun _ => none

/-- The write copy that a home sends itself, for a request whose own range made none or for an atomic's result (R265, R489): it names the
write of its series whose copy this home sent before it (R264). -/
def State.copyOf (s : State) (e : ExtE) (r : Req) (bytes : Bytes) : Req :=
  let off := dpaOff r.dpa
  let unit := if bytes.length < 16 then slice (zeros (off % 16) ++ bytes) 0 16 else bytes
  { r with opc := 2, mc := true, dst := e.partner, prevSeq := (sget noWr s.home.lastCopy r.key).getD r.seq, tamp := ⟨false, 0, 1, false⟩, data := unit }

def State.sendCopy (s : State) (c : Req) : State :=
  State.sendReq { s with home := { s.home with lastCopy := sset noWr s.home.lastCopy c.key (some c.seq) } } c

/-- The completion of a mirrored write, once its MACK has come (R189, R263, R557): RIGHTS where the partner held no copy extent, and CE the
OR over both paths. -/
def afterMack (s : State) (r : Req) (c m : Cpl) : Cpl :=
  let base := if m.status = stOk then c else cplFor s r m.status false []
  { base with ce := base.ce || m.ce }

/-- A mirrored write completes once the partner has it (R189, R265): at once where its MACK came first. -/
def State.awaitCopy (s : State) (r : Req) (c : Cpl) (copy : Req) : State :=
  match s.home.earlyMack.find? (fun m => m.agent == r.src && m.cls == r.cls && m.seq == r.seq) with
  | some m =>
    let s := { s with home := { s.home with earlyMack := s.home.earlyMack.eraseP (fun x => decide (x = m)) } }
    let done := afterMack s r c m
    (s.keep r done).sendCpl done
  | none => { s with home := { s.home with awaitMack := s.home.awaitMack ++ [(r, c, copy)] } }

/-- A write has reached some granules: what is read of them from a partner is older (R266). -/
def OwnKind.reached (gs : List Nat) : OwnKind → OwnKind
  | .mirrorRead r g st => .mirrorRead r g (st || gs.contains g)
  | .granuleRead g c st => .granuleRead g c (st || gs.contains g)
  | k => k

def State.reach (s : State) (gs : List Nat) : State :=
  { s with ep := { s.ep with own := s.ep.own.map (fun o => { o with kind := OwnKind.reached gs o.kind }) } }

/-- Finish a write to an extent: complete it, or wait for the mirror copy; a STORE whose range is MIRRORED was copied where it set out (R72). -/
def State.finishWrite (s : State) (e : ExtE) (r : Req) (bytes unit : Bytes) : State :=
  let s := s.reach (granulesOf (dpaOff r.dpa) bytes.length)
  if !e.mirrored then s.reply r stOk false unit
  else if r.opc = 2 ∧ r.attr.mirrored then s.awaitCopy r (cplFor s r stOk false unit) { r with mc := true, dst := e.partner }
  else
    let c := s.copyOf e r bytes
    (s.sendCopy c).awaitCopy r (cplFor s r stOk false unit) c

/-- Losses of granules are logged, in order (R270). -/
def State.logAll (s : State) (cause : Nat) (job : JobId) (ext : Nat) : List Nat → State
  | [] => s
  | g :: gs => (s.logLoss cause g job 0x3FF ext).logAll cause job ext gs

/-- Read a granule from the partner of a mirrored extent (R266). -/
def State.partnerRead (s : State) (e : ExtE) (g : Nat) (kind : OwnKind) : State :=
  let r := req0 1 1 6 (s.poolDpa (64 * g)) (s.agent 9) e.job
  s.issueOwn { r with dst := e.partner, mc := true, attr := ⟨e.keySlot, e.dgen, false, false, true, e.partner⟩ } kind

/-- Execute a LOAD from the pool (R193, R270): the partner of a mirrored extent serves the granules that cannot be corrected (R266). -/
def State.execLoad (s : State) (i : Nat) (r : Req) (m : MemCond) : State :=
  let e := s.ext i
  let off := dpaOff r.dpa
  let gs := granulesOf off r.bytes
  let s := s.countCes m gs
  let bad := badGranules m gs
  if bad ≠ [] then
    let s := s.countUes bad
    if e.mirrored then bad.foldl (fun s g => s.partnerRead e g (.mirrorRead r g false)) s
    else (s.logAll 1 e.job i bad).reply r stDataLost false []
  else
    let (bs, s) := s.poolRead e off r.bytes
    s.reply r stOk false (loadUnits bs off r.bytes)

/-- A partial write meets granules that cannot be corrected (R272): nothing is written. With a partner's copy no granule is lost, so that
none is logged (R270; DEDUCED, log entry 105). -/
def State.partLost (s : State) (e : ExtE) (i : Nat) (r : Req) (bad : List Nat) : State :=
  let s := s.countUes bad
  (if e.mirrored then s else s.logAll 1 e.job i bad).reply r stDataLost false []

/-- Execute a STORE to the pool (R189, R272). -/
def State.execStore (s : State) (i : Nat) (r : Req) (m : MemCond) : State :=
  let e := s.ext i
  let off := dpaOff r.dpa
  let bs := storeBytes r.data off r.bytes
  let gs := if r.bytes < 64 then granulesOf off r.bytes else []
  let s := s.countCes m gs
  let bad := badGranules m gs
  if bad ≠ [] then s.partLost e i r bad
  else (s.poolWrite e off bs).finishWrite e r bs []

/-- Execute an atomic on the pool (R194, R196, R272). -/
def State.execAtomic (s : State) (i : Nat) (r : Req) (m : MemCond) : State :=
  let e := s.ext i
  let off := dpaOff r.dpa
  let n := widthBytes r.width
  let gs := granulesOf off n
  let s := s.countCes m gs
  let bad := badGranules m gs
  if bad ≠ [] then s.partLost e i r bad
  else
    let (old, s) := s.poolRead e off n
    let new := atomicNew r old
    (s.poolWrite e off new).finishWrite e r new (oldUnit r old)

/-- Execute a request on the pool that has passed the checks; under an erased key it ends as R593 says. -/
def State.execPool (s : State) (i : Nat) (r : Req) (m : MemCond) : State :=
  let e := s.ext i
  let off := dpaOff r.dpa
  if e.accum then s.execAccum e r
  else if (granulesOf off r.bytes).any (fun g => (s.spanKey e (64 * g)).isNone) then s.reply r (s.erasedStatus e off) false []
  else if r.opc = 1 then s.execLoad i r m
  else if r.opc = 2 then s.execStore i r m
  else s.execAtomic i r m

/-- Execute on engine SRAM (R346). -/
def State.execSram (s : State) (r : Req) : State :=
  let off := dpaOff r.dpa
  if r.opc = 1 then s.reply r stOk false (loadUnits (Mem.rdN s.mems.sram off r.bytes) off r.bytes)
  else if r.opc = 2 then
    State.reply { s with mems := { s.mems with sram := Mem.wrN s.mems.sram off (storeBytes r.data off r.bytes) } } r stOk false []
  else
    let old := Mem.rdN s.mems.sram off (widthBytes r.width)
    State.reply { s with mems := { s.mems with sram := Mem.wrN s.mems.sram off (atomicNew r old) } } r stOk false (oldUnit r old)

/-- Execute on a sync object (R149, R151). -/
def State.execSync (s : State) (i : Nat) (r : Req) : State :=
  let old := natLe 8 (s.obj i).toNat
  if r.opc = 1 then s.reply r stOk false (loadUnits old (16 * i) 8)
  else
    let new : R64 := BitVec.ofNat 64 (leNat (atomicNew r old))
    (if r.opc = 6 ∧ new = s.obj i then s else s.objTakes i new).reply r stOk false (oldUnit r old)

section
variable (bw : Win)

/-- Execute on the register window (R621). -/
def State.execBar (s : State) (r : Req) : State :=
  let off := dpaOff r.dpa
  let wide := decide (r.size = 3)
  if r.opc = 1 then
    let (v, s) := bw.rd s off wide
    s.reply r stOk false (loadUnits (natLe r.bytes v.toNat) off r.bytes)
  else (bw.wr s off wide (BitVec.ofNat 64 (leNat (storeBytes r.data off r.bytes)))).reply r stOk false []

/-! ### Sediment (R491-R494) -/

/-- The request is one that capture and replay are about. -/
def State.sedJob (s : State) (r : Req) : Bool :=
  decide (r.cls ≠ 3) && !r.tamp.on && (List.range 16).any (fun j => decide (s.e (F.FLT_SED_JOB_VALID j) = 1) && decide (s.e (F.FLT_SED_JOB_JOB j) = r.job))

def sedPos0 : Nat → Nat := fun _ => 0

/-- The position of a request in its series since capture began (R491, ORD). -/
def State.sedOrd (s : State) (r : Req) : Nat := sget sedPos0 s.flt.sedPos (seriesKey r.src 0 r.cls)
def State.sedStep (s : State) (r : Req) : State :=
  { s with flt := { s.flt with sedPos := sset sedPos0 s.flt.sedPos (seriesKey r.src 0 r.cls) (s.sedOrd r + 1) } }

/-- The record of a request (R491). -/
def sedRecord (s : State) (r : Req) (ord : Nat) : Bytes :=
  let opc : BitVec 6 := if 8 ≤ (agentLocal r.src).toNat then 0x3F else r.opc
  natLe 8 s.now.toNat ++ natLe 8 r.dpa.toNat ++
    natLe 8 (ord % 2 ^ 32 * 2 ^ 32 + putAt 30 r.cls + putAt 24 opc + putAt 20 r.size + putAt 10 r.src) ++ natLe 8 (putAt 48 r.job)

/-- The registers of the host ring, whose writes wait while capture or replay runs (FLT_SED_BASE, FLT_SED_CFG). -/
def sedRegs : List Nat := [Reg.FLT_SED_BASE_LO, Reg.FLT_SED_BASE_HI, Reg.FLT_SED_CFG]

/-- Capture one request (R491): when the region is full, capture stops and SED_OVF is posted (R492). -/
def State.capture (s : State) (r : Req) : State :=
  if s.f F.FLT_SED_STAT_MODE ≠ 1 ∨ !s.sedJob r then s
  else if 2097152 ≤ s.flt.sedWr - s.flt.sedRd then
    (((s.setF F.FLT_SED_STAT_OVF 1).setF F.FLT_SED_STAT_MODE 0).takeWrs sedRegs).post (ev 0x89 stOk s.flt.sedWr 0)
  else
    let a := 32 * (s.flt.sedWr % 2097152)
    let rec_ := sedRecord s r (s.sedOrd r)
    State.sedStep { s with
      mems := { s.mems with sed := Mem.wrN s.mems.sed a rec_ }
      flt := { s.flt with sedWr := s.flt.sedWr + 1 } } r

/-! ### Coherence -/

/-- A line is BUSY (R255). -/
def State.lineBusy (s : State) (line : Nat) : Bool := s.home.txns.any (fun t => t.lines.contains line)

/-- The attach agents of the nodes of a set. -/
def agentsOf (nodes : BitVec 64) : List AgentId :=
  (List.range 64).flatMap (fun n => if bitAt nodes.toNat n then (List.range 8).map (fun l => BitVec.ofNat 10 (16 * n + l)) else [])

/-- Holders of a line other than one agent (R249, R255). -/
def DirE.holders (d : DirE) (but : Option AgentId) : List AgentId :=
  (if d.st = 1 then d.sharers else if d.st = 2 then [d.owner] else if d.st = 3 then agentsOf d.nodes else []).filter
    (fun a => decide (some a ≠ but))

/-- The snoops that a request causes on a line in a directory state (R255): opcode and agents. -/
def DirE.snoops (d : DirE) (r : Req) : List (BitVec 6 × AgentId) :=
  if r.opc = 1 ∨ r.opc = 8 then (if d.st = 2 then [(0x21, d.owner)] else [])
  else if r.opc = 9 ∨ r.opc = 0xA then
    (if d.st = 2 then [(0x20, d.owner)] else (d.holders (some r.src)).map (fun a => (0x20, a)))
  else if r.opc = 0xB ∨ r.opc = 0xC then []
  else (d.holders none).map (fun a => (0x20, a))

/-- A line that no agent holds (R255). -/
def DirE.uncached : DirE := ⟨0, false, false, 0, [], 0⟩

/-- The bit of an agent's node. -/
def nodeBit (a : AgentId) : BitVec 64 := BitVec.ofNat 64 (2 ^ (agentNode a).toNat)

/-- Add a sharer; a fifth makes the line BROADCAST (R255). -/
def DirE.addSharer (d : DirE) (a : AgentId) : DirE :=
  if d.sharers.contains a then { d with nodes := d.nodes ||| nodeBit a }
  else if d.sharers.length < 4 then { d with sharers := d.sharers ++ [a], nodes := d.nodes ||| nodeBit a }
  else { d with st := 3, nodes := d.nodes ||| nodeBit a }

/-- The directory entry of a line after a request, its snoops answered (R255). -/
def DirE.after (d : DirE) (r : Req) : DirE :=
  let d := { d with busy := false }
  let k := r.attr.kgen
  if r.opc = 1 then (if d.st = 2 then { d with st := 1, sharers := [d.owner], nodes := nodeBit d.owner } else d)
  else if r.opc = 8 then
    if d.st = 0 then ⟨1, false, k, 0, [r.src], nodeBit r.src⟩
    else if d.st = 2 then (DirE.addSharer { d with st := 1, sharers := [d.owner], nodes := nodeBit d.owner, kgen := k } r.src)
    else DirE.addSharer { d with kgen := k } r.src
  else if r.opc = 9 ∨ r.opc = 0xA then ⟨2, false, k, r.src, [], nodeBit r.src⟩
  else if r.opc = 0xB then (if d.st = 2 ∧ d.owner = r.src then DirE.uncached else d)
  else if r.opc = 0xC then
    if d.st = 2 ∧ d.owner = r.src then DirE.uncached
    else if d.st = 1 ∧ d.sharers = [r.src] then DirE.uncached
    else { d with sharers := d.sharers.filter (· ≠ r.src) }
  else DirE.uncached

/-- Change the entries of some lines. -/
def State.mapDir (s : State) (e : ExtE) (f : DirE → DirE) : List Nat → State
  | [] => s
  | l :: ls => (s.setDir e l (f (s.dirAt e l))).mapDir e f ls

/-- Send the snoops of one line; the identifiers they take. -/
def State.snoopLine (s : State) (line : Nat) : List (BitVec 6 × AgentId) → List (BitVec 16 × AgentId × Nat) × State
  | [] => ([], s)
  | (opc, a) :: rest =>
    let sid := s.home.nextSid
    let s := { s with home := { s.home with nextSid := sid + 1 } }
    let s := s.sendSnp ⟨opc, s.node, s.poolDpa (64 * line), a, sid, way0, agentNode a, []⟩
    let (ids, s) := s.snoopLine line rest
    ((sid, a, line) :: ids, s)

/-- Send the snoops of several lines. -/
def State.snoopLines (s : State) (f : Nat → List (BitVec 6 × AgentId)) : List Nat → List (BitVec 16 × AgentId × Nat) × State
  | [] => ([], s)
  | l :: ls =>
    let (a, s) := s.snoopLine l (f l)
    let (b, s) := s.snoopLines f ls
    (a ++ b, s)

/-- The agent is a recorded sharer (R250, R251). -/
def DirE.recorded (d : DirE) (a : AgentId) : Bool :=
  (decide (d.st = 1 ∨ d.st = 3) && d.sharers.contains a) || (decide (d.st = 3) && decide (d.nodes &&& nodeBit a ≠ 0))

/-- Execute a coherent-window request whose snoops are answered (R250, R255). -/
def State.execCoh (s : State) (i : Nat) (r : Req) (m : MemCond) : State :=
  let e := s.ext i
  let line := dpaOff r.dpa / 64
  let d := s.dirAt e line
  let s := s.setDir e line (d.after r)
  if r.opc = 0xB then
    if d.st = 2 ∧ d.owner = r.src then
      if (s.spanKey e (64 * line)).isNone then s.reply r (s.erasedStatus e (64 * line)) false []
      else (s.poolWrite e (64 * line) (slice r.data 0 64)).reply r stOk false []
    else s.reply r stRights false []
  else if r.opc = 0xC ∨ (r.opc = 0xA ∧ d.recorded r.src) then s.reply r stOk false []
  else if (s.spanKey e (64 * line)).isNone then s.reply r (s.erasedStatus e (64 * line)) false []
  else s.execLoad i r m

/-- Execute a request whose checks have passed and whose lines are settled. -/
def State.perform (s : State) (c : Chk) (r : Req) (m : MemCond) : State :=
  let s := s.capture r
  match c with
  | .fail st => s.reply r st false []
  | .sram => s.execSram r
  | .sync i => s.execSync i r
  | .bar => s.execBar bw r
  | .pool i =>
    if r.coh then s.execCoh i r m
    else
      let e := s.ext i
      (if e.coherent then s.mapDir e (fun d => d.after r) r.lines else s).execPool i r m

/-- Bring a checked request to execution: it waits on a BUSY line, sends snoops first, or executes (R255). -/
def State.settle (s : State) (c : Chk) (r : Req) (m : MemCond) : State :=
  match c with
  | .pool i =>
    let e := s.ext i
    if !e.coherent then s.perform bw c r m
    else if r.lines.any s.lineBusy then { s with home := { s.home with waits := s.home.waits ++ [(r, m)] } }
    else if r.lines.all (fun l => ((s.dirAt e l).snoops r).isEmpty) then s.perform bw c r m
    else
      let (ids, s) := s.snoopLines (fun l => (s.dirAt e l).snoops r) r.lines
      let s := s.mapDir e (fun d => { d with busy := true }) r.lines
      { s with home := { s.home with txns := s.home.txns ++ [⟨r.lines, BitVec.ofNat 14 i, some (r, m), ids, false, s.now⟩] } }
  | _ => s.perform bw c r m

/-- Check a request in its turn and bring it to execution (R92); in a hold-up the home holds it unchecked (R649). A WRITEBACK whose data
a snooped line already has writes nothing more (R256). -/
def State.admitReq (s : State) (r : Req) (m : MemCond) : State :=
  if s.pwr.holdUp then { s with home := { s.home with held := s.home.held ++ [(r, m)] } }
  else
    let early := s.home.supplied.any (fun q => sameReq q r)
    let s := if early then { s with home := { s.home with supplied := dropWhere (fun q => sameReq q r) s.home.supplied } } else s
    match s.homeCheck r with
    | .fail st =>
      let s := if st = stRevoked then s.countRevoked r else s
      s.reply r st false []
    | c => if early then (s.capture r).reply r stOk false [] else s.settle bw c r m

/-- The next record awaited in replay names the request (R493). -/
def State.sedMatches (s : State) (r : Req) (ord : Nat) : Bool :=
  match s.flt.sedIn with
  | [] => false
  | b :: _ =>
    let w2 := leNat (slice b 16 8)
    decide (bitsAt w2 10 10 = r.src.toNat ∧ bitsAt w2 30 2 = r.cls.toNat ∧ bitsAt w2 32 32 = ord)

/-- Take the held requests that the awaited records now name, in order. -/
def State.sedDrain : Nat → State → State
  | 0, s => s
  | n + 1, s =>
    match s.flt.sedHeld.find? (fun h => s.sedMatches h.1 h.2.2.1) with
    | none => s
    | some h =>
      let s := { s with flt := { s.flt with
        sedIn := s.flt.sedIn.drop 1, sedHeld := dropWhere (fun x => decide (x = h)) s.flt.sedHeld } }
      State.sedDrain n (s.admitReq bw h.1 h.2.1)

/-- Run a request in the home's order: in replay a captured job's request waits for its record (R493). -/
def State.runReq (s : State) (r : Req) (m : MemCond) : State :=
  if s.f F.FLT_SED_STAT_MODE ≠ 2 ∨ !s.sedJob r then s.admitReq bw r m
  else
    let ord := s.sedOrd r
    let s := s.sedStep r
    let s := { s with flt := { s.flt with sedHeld := s.flt.sedHeld ++ [(r, m, ord, s.now)] } }
    State.sedDrain bw s.flt.sedHeld.length s

/-! ### Resequencer -/

/-- An earlier request of the series has not executed yet. -/
def State.seriesBlocked (s : State) (r : Req) : Bool :=
  s.home.waits.any (fun w => w.1.key == r.key) ||
  s.home.txns.any (fun t => match t.req with | some (q, _) => q.key == r.key | none => false) ||
  s.flt.sedHeld.any (fun h => h.1.key == r.key)

def State.seriesNext (s : State) (r : Req) : BitVec 16 := sget seq0 s.home.next r.key
def State.seriesAdvance (s : State) (r : Req) : State :=
  { s with home := { s.home with next := sset seq0 s.home.next r.key (r.seq + 1) } }

/-- Release the held requests whose turn has come (R181); none in a hold-up (R649). -/
def State.drainHeld : Nat → State → State
  | 0, s => s
  | n + 1, s =>
    match s.home.held.find? (fun h => !s.pwr.holdUp && decide (h.1.seq = s.seriesNext h.1) && !s.seriesBlocked h.1) with
    | none => s
    | some h =>
      let s := { s with home := { s.home with held := dropWhere (fun x => decide (x = h)) s.home.held } }
      State.drainHeld n ((s.seriesAdvance h.1).runReq bw h.1 h.2)

/-- Release what one execution may have let through. -/
def State.release (s : State) : State := State.drainHeld bw s.home.held.length s

/-- A duplicate (R183): one still at this home is dropped (R184), a LOAD executes again, any other is answered with the kept completion. -/
def State.duplicate (s : State) (r : Req) (m : MemCond) : State :=
  if s.inHome r then s
  else if r.opc = 1 then s.admitReq bw r m
  else match s.keptFor r with
    | some c => s.sendCpl c
    | none => s

/-- The home has met a request that no order tells (R183): it holds it, or keeps or has sent for good its completion. -/
def State.known (s : State) (r : Req) : Bool := s.inHome r || (s.keptFor r).isSome || (decide (r.opc ≠ 1) && s.ackedFor r)

/-- An extent that took over from an expelled primary holds a span (R267). -/
def State.adoptedExt (s : State) (d : Dpa) (len : Nat) : Bool :=
  s.home.adopted.any (fun a => decide (a.2 = dpaNode d) && decide (dpaClass d = 0) &&
    (let e := s.ext a.1.toNat
     decide (e.base ≤ dpaOff d ∧ dpaOff d + len ≤ e.base + e.len)))

/-- The home takes a request for a node: itself, or an expelled primary whose copy it adopted (R92 check 1, R267). -/
def State.homesFor (s : State) (r : Req) : Bool := decide (dpaNode r.dpa = s.node) || s.adoptedExt r.dpa r.bytes

/-- The series of an adopted home starts at the first request that arrives (R267). -/
def State.adoptSeries (s : State) (r : Req) : State :=
  if dpaNode r.dpa = s.node ∨ s.home.next.any (fun e => e.1 == r.key) then s
  else { s with home := { s.home with next := sset seq0 s.home.next r.key r.seq } }

/-- A write to an adopted home that ran here as a write copy before the failover (R183, R267). -/
def State.ranAsCopy (s : State) (r : Req) : Bool :=
  decide (dpaNode r.dpa ≠ s.node) && decide (r.opc ≠ 1) && r.ordered &&
    (match sget noCopy s.home.copyDone r.key with | some n => decide ((n - r.seq).toNat < 32768) | none => false)

/-- Its answer: OK, an atomic's old value being free (DESIGN CHOICE, log entry 3). -/
def State.copyAnswer (s : State) (r : Req) : State :=
  if r.opc = 2 ∨ r.nr then s.reply r stOk false []
  else
    let (bs, s) := s.drawBytes 16
    s.reply r stOk false bs

/-- A WRITEBACK of the owner that a snoop is on its way to supplies the line's data at once, whatever its turn and its end (R256). -/
def State.supply (s : State) (r : Req) : State :=
  let line := dpaOff r.dpa / 64
  let crosses := s.home.txns.any (fun t => t.sids.any (fun x => x.2.1 == r.src && x.2.2 == line))
  match (if r.opc = 0xB ∧ dpaClass r.dpa = 0 ∧ crosses ∧ !s.inHome r then s.findExt (dpaOff r.dpa) 64 else none) with
  | none => s
  | some i =>
    let e := s.ext i
    let d := s.dirAt e line
    if e.coherent ∧ d.st = 2 ∧ d.owner = r.src then
      let s := s.poolWrite e (64 * line) (slice r.data 0 64)
      { s with home := { s.home with supplied := s.home.supplied ++ [r] } }
    else s

/-- A request reaches the home that it is for (R181, R183). In a hold-up the home holds every request that arrives (R649). Of an adopted
home the numbers done there are not known, so one below the first that came is a duplicate only where this home has met it
(R267; DESIGN CHOICE, log entry 106). -/
def State.homeTake (s : State) (r : Req) (m : MemCond) : State :=
  if s.pwr.holdUp then s.admitReq bw r m
  else if s.ranAsCopy r then (match s.keptFor r with | some c => s.sendCpl c | none => s.copyAnswer r)
  else if !r.ordered then
    if s.known r then s.duplicate bw r m else s.runReq bw r m
  else
    let s := s.adoptSeries r
    let d := (r.seq - s.seriesNext r).toNat
    if 32768 ≤ d then
      if dpaNode r.dpa ≠ s.node ∧ !s.known r ∧ !s.ackedFor r then s.runReq bw r m else s.duplicate bw r m
    else if d = 0 ∧ !s.seriesBlocked r then ((s.seriesAdvance r).runReq bw r m).release bw
    else if s.home.held.any (fun h => sameReq h.1 r) then s
    else { s with home := { s.home with held := s.home.held ++ [(r, m)] } }

/-- The copy extent that matches a write copy or a mirror read (R263, R266): the primary's span, job, key slot and the right that the
access needs; the node's own copies of lines and reads of granules need none. -/
def State.copyExt (s : State) (r : Req) : Option Nat :=
  s.liveExts.find? (fun i =>
    let e := s.ext i
    e.mcopy && decide (e.partner = dpaNode r.dpa) && decide (e.base ≤ dpaOff r.dpa) &&
      decide (dpaOff r.dpa + r.bytes ≤ e.base + e.len) && decide (e.job = r.job) && decide (e.state = exActive) &&
      decide (e.keySlot = r.attr.keySlot) && (decide (agentLocal r.src = 9) || (if r.cls.toNat < 2 then e.w else e.a)))

/-- The partner serves a granule that the primary cannot read (R266). -/
def State.serveMirror (s : State) (r : Req) (m : MemCond) : State :=
  match s.copyExt r with
  | none => s.reply r stRights false []
  | some i =>
    let e := s.ext i
    let off := dpaOff r.dpa
    let gs := granulesOf off r.bytes
    let s := s.countCes m gs
    let bad := badGranules m gs
    if bad ≠ [] then (s.countUes bad).reply r stDataLost false []
    else if gs.any (fun g => (s.spanKey e (64 * g)).isNone) then s.reply r (s.erasedStatus e off) false []
    else
      let (bs, s) := s.poolRead e off r.bytes
      s.reply r stOk false (loadUnits bs off r.bytes)

/-- A request reaches a home (R92 check 1): one that neither homes here nor reads a copy here is dropped and counted. -/
def State.homeArrive (s : State) (r : Req) (m : MemCond) : State :=
  if r.mc ∧ r.opc = 1 ∧ dpaNode r.dpa ≠ s.node ∧ !s.adoptedExt r.dpa r.bytes then s.serveMirror r m
  else if !s.homesFor r then s.incF F.FLT_MISROUTE_CNT_COUNT 1
  else (if s.pwr.holdUp then s else s.supply r).homeTake bw r m

/-! ### Snoop responses -/

/-- Requests that waited on lines now free go on, in arrival order (R255). -/
def State.drainBusy : Nat → State → State
  | 0, s => s
  | n + 1, s =>
    match s.home.waits.find? (fun w => !(w.1.lines.any s.lineBusy)) with
    | none => s
    | some w =>
      let s := { s with home := { s.home with waits := dropWhere (fun x => decide (x = w)) s.home.waits } }
      let s := match s.findExt (dpaOff w.1.dpa) w.1.bytes with
        | some i => s.settle bw (.pool i) w.1 w.2
        | none => s.reply w.1 stRights false []
      State.drainBusy n s

/-- A transaction whose snoops are all answered ends: its request executes (R255), a recall or reclaim leaves its lines uncached. -/
def State.txnEnd (s : State) (t : Txn) : State :=
  let s := { s with home := { s.home with txns := dropWhere (fun u => decide (u = t)) s.home.txns } }
  let s := match t.req with
    | some (r, m) => s.perform bw (.pool t.ext.toNat) r m
    | none => s.mapDir (s.ext t.ext.toNat) (fun _ => DirE.uncached) t.lines
  State.release bw (State.drainBusy bw s.home.waits.length s)

/-- One snoop is over: its transaction goes on with the rest. -/
def State.sidDone (s : State) (t : Txn) (sid : BitVec 16) : State :=
  let t' := { t with sids := t.sids.filter (fun x => x.1 ≠ sid) }
  let s := { s with home := { s.home with txns := s.home.txns.map (fun u => if u = t then t' else u) } }
  if t'.sids.isEmpty then s.txnEnd bw t' else s

/-- The condition of the memory that a waiting request meets is that of the moment it executes. -/
def Txn.meets (t : Txn) (m : MemCond) : Txn := { t with req := t.req.map (fun x => (x.1, m)) }

/-- A snoop response arrives (R253, R255): its data stand in the pool before the request executes; a dirty line dropped without
data is lost (R245). -/
def State.snoopResponse (s : State) (p : Snp) (m : MemCond) : State :=
  match s.home.txns.find? (fun t => t.sids.any (fun x => x.1 == p.sid && x.2.1 == p.agent)) with
  | none => s
  | some t =>
    let s := { s with home := { s.home with txns := s.home.txns.map (fun u => if u = t then t.meets m else u) } }
    let t := t.meets m
    let e := s.ext t.ext.toNat
    let line := ((t.sids.find? (fun x => x.1 == p.sid)).map (fun x => x.2.2)).getD 0
    let s := if p.opc = 0x29 then s.poolWrite e (64 * line) (slice p.data 0 64)
      else if p.opc = 0x2A then s.logLoss 3 line e.job p.agent t.ext.toNat
      else s
    s.sidDone bw t p.sid

end

/-! ### Mirror copies -/

/-- A MACK to the primary (R544): OK, or RIGHTS where no copy extent matches (R263). -/
def mackFor (s : State) (r : Req) (st : Status) : Cpl :=
  { cplFor s r st false [] with opc := 0x34, dst := dpaNode r.dpa, tamped := false, ce := r.ce }

/-- Execute one write copy at the partner. -/
def State.execCopy (s : State) (r : Req) : State :=
  match s.copyExt r with
  | none => s.sendCpl (mackFor s r stRights)
  | some i =>
    let s := s.poolWrite (s.ext i) (dpaOff r.dpa) (storeBytes r.data (dpaOff r.dpa) r.bytes)
    let s := { s with home := { s.home with copyDone := sset noCopy s.home.copyDone r.key (some r.seq) } }
    s.sendCpl (mackFor s r stOk)

/-- Copies held for an earlier write of their series that has now executed (R264). -/
def State.drainCopies : Nat → State → State
  | 0, s => s
  | n + 1, s =>
    match s.home.copyHeld.find? (fun r => decide (sget noCopy s.home.copyDone r.key = some r.prevSeq)) with
    | none => s
    | some r =>
      State.drainCopies n (State.execCopy { s with home := { s.home with copyHeld := dropWhere (fun x => decide (x = r)) s.home.copyHeld } } r)

/-- A write copy arrives (R264): ORDERED copies execute in their series' order; one already executed is dropped, its MACK sent again. -/
def State.writeCopy (s : State) (r : Req) : State :=
  let last := sget noCopy s.home.copyDone r.key
  if r.cls ≠ 0 then s.execCopy r
  else match last with
    | some n =>
      if (n - r.seq).toNat < 32768 then s.sendCpl (mackFor s r stOk)
      else if r.prevSeq = n ∨ r.prevSeq = r.seq then State.drainCopies s.home.copyHeld.length (s.execCopy r)
      else { s with home := { s.home with copyHeld := s.home.copyHeld ++ [r] } }
    | none =>
      if r.prevSeq = r.seq ∨ (s.copyExt r).isNone then State.drainCopies s.home.copyHeld.length (s.execCopy r)
      else { s with home := { s.home with copyHeld := s.home.copyHeld ++ [r] } }

/-- Writes of an extent that await its partner complete (R268). -/
def State.endAwaits (s : State) (i : Nat) : State :=
  let mine : Req × Cpl × Req → Bool := fun w => decide (s.findExt (dpaOff w.1.dpa) w.1.bytes = some i)
  let done := s.home.awaitMack.filter mine
  let s := { s with home := { s.home with awaitMack := dropWhere mine s.home.awaitMack } }
  done.foldl (fun s w => (s.keep w.1 w.2.1).sendCpl w.2.1) s

/-- The extent of a granule and its job: job 0 and extent 0 for space in no extent (R261). -/
def State.granuleExt (s : State) (g : Nat) : Option Nat := s.findExt (64 * g) 64

/-- No read of a partner is outstanding for a LOAD any more: it ends (R266, R270). -/
def State.mirrorEnd (s : State) (r : Req) : State :=
  if s.ep.own.any (fun o => match o.kind with | .mirrorRead q _ _ => decide (q = r) | _ => false) then s
  else
    let lost := s.home.mirrorBad.contains r
    let s := { s with home := { s.home with mirrorBad := dropWhere (· == r) s.home.mirrorBad } }
    let off := dpaOff r.dpa
    match s.findExt off r.bytes with
    | none => s.reply r stRights false []
    | some i =>
      if lost then s.reply r stDataLost false []
      else
        let (bs, s) := s.poolRead (s.ext i) off r.bytes
        s.reply r stOk false (loadUnits bs off r.bytes)

/-- The partner answers the read of a granule that this home could not read (R266, R270, R275): the home's copy is rewritten with it, unless a write
has come between; what neither copy holds is logged with cause 5, and where there is no partner any more, with the cause of the home's own. -/
def State.granuleAnswer (s : State) (g cause : Nat) (stale : Bool) (c : Cpl) : Bool × State :=
  match s.granuleExt g with
  | none => (false, s)
  | some i =>
    let e := s.ext i
    if stale then (true, s)
    else if c.status = stOk then (true, s.poolWrite e (64 * g) (slice c.data 0 64))
    else (false, s.logLoss (if c.status = stDataLost then 5 else cause) g e.job 0x3FF i)

/-- The answer to a granule of a LOAD. -/
def State.mirrorAnswer (s : State) (r : Req) (g : Nat) (stale : Bool) (c : Cpl) : State :=
  let (ok, s) := s.granuleAnswer g 1 stale c
  let s := if ok then s else { s with home := { s.home with mirrorBad := s.home.mirrorBad ++ [r] } }
  s.mirrorEnd r

/-- A CACK releases a kept completion (R183); of two series that meet here after a failover it names the one kept first (R544). -/
def State.cackArrive (s : State) (c : Cpl) : State :=
  let mine : Kept → Bool := fun k => if c.tamped then k.tamped && k.tamp == c.tampId
    else !k.tamped && k.agent == c.agent && k.cls == c.cls && k.seq == c.seq
  match s.home.kept.find? mine with
  | none => s
  | some k =>
    let h := { s.home with kept := s.home.kept.eraseP (fun x => decide (x = k)) }
    { s with home :=
      if k.tamped then { h with ackedTamps := sset noOp h.ackedTamps k.tamp.toNat (some (k.agent, k.seq)) }
      else
        let key := seriesKey k.agent k.home k.cls
        { h with acked := sset noNums h.acked key (ackNum k.seq (sget noNums h.acked key)) } }

end Sys2Proof.Machine
end

