-- ==== Sys2Proof/Machine/Clay.lean ====
section
/-!
DEFINITION. The clay registers (R633-R638).
-/

namespace Sys2Proof.Machine

/-- The words of the disabled-unit map as manufactured on a grade A part: logical tiles 0-23 on physical 0-23, 24-47 on 28-51, GEN 0,
copy A (DESIGN CHOICE, log entry 6). -/
def mapMfg : List R32 :=
  [0, 0, 0x40c2040, 0x9207185, 0xe34c2ca, 0x1349140f, 0x1c5d6554, 0x2181f79d, 0x269648e2, 0x2baa9a27, 0x30beeb6c, 0x3fff3cb1, 0xfec01f73]

/-- The clay words as manufactured (DESIGN CHOICE, log entry 6): the map, the alarm policy (SEC_ALARM_POL), zero elsewhere. -/
def clayMfg : Nat → R32 := fun w => if 0x60 ≤ w ∧ w < 0x6D then mapMfg.getD (w - 0x60) 0 else if w = 0xD0 then 0x1D5 else 0

/-- Wear as manufactured: helper data, map and policy have been written once (DESIGN CHOICE, log entry 6). -/
def wearMfg : Nat → BitVec 24 := fun w => if w < 0x6D ∨ w = 0xD0 then 1 else 0

/-- The two copies of a word, and the one a read returns (R634, R638). -/
def State.clay0 (s : State) (w : Nat) : R32 := sget clayMfg s.clay.k0 w
def State.clay1 (s : State) (w : Nat) : R32 := sget clayMfg s.clay.k1 w
def State.clayWord (s : State) (w : Nat) : R32 :=
  if (s.on F.FWM_STAT_ROLE ∧ s.clay.bank1) ∨ !s.clay.bank0 then s.clay1 w else s.clay0 w

def State.wear (s : State) (w : Nat) : BitVec 24 := sget wearMfg s.clay.wear w

/-- CLAY_FAULT (R650). -/
def evClayFault (w : Nat) (worn : Bool) : Ev := ev 0xE9 stOk (w + 2 ^ 16 * b2n worn) 0

/-- One more write of a word (R637). -/
def State.wearOne (s : State) (w : Nat) : State :=
  let n := satAdd (s.wear w) 1
  let s := { s with clay := { s.clay with wear := sset wearMfg s.clay.wear w n } }
  if 2000000 < n.toNat then
    let s := if n.toNat = 2000001 then s.post (evClayFault w true) else s
    s.setF F.CLY_STAT_WORN 1
  else s

/-- What a copy of each bank holds after a write (R634). -/
def State.putClay (s : State) (w : Nat) (v0 v1 : R32) : State :=
  let c := s.clay
  { s with clay := { c with k0 := if c.bank0 then sset clayMfg c.k0 w v0 else c.k0, k1 := if c.bank1 then sset clayMfg c.k1 w v1 else c.k1 } }

/-- A write of the node's own, durable in the command that causes it (DESIGN CHOICE, log entry 6). -/
def State.nodeClay (s : State) (w : Nat) (v : R32) : State := (s.wearOne w).putClay w v v

/-- A manager key slot is valid (R470, R633). -/
def State.keySlotValid (s : State) (k : Nat) : Bool := (s.clayWord (0x80 + 16 * k)).getLsbD 0
def State.anyKey (s : State) : Bool := (List.range 5).any s.keySlotValid

/-- A word takes a write from software (R633, R636, R470, R611). A LOCK that a write under way sets locks the policy at once. -/
def State.clayTakes (s : State) (w : Nat) : Bool :=
  if w < 0x60 then decide (s.wear w = 0)
  else if w < 0x80 then false
  else if w < 0xD0 then !s.anyKey
  else if w = 0xD0 then !(s.clayWord 0xD0).getLsbD 31 && !s.clay.pend.any (fun p => p.1 == 0xD0 && p.2.1.getLsbD 31)
  else if w = 0x100 ∨ (0x110 ≤ w ∧ w ≤ 0x11D) ∨ (0x120 ≤ w ∧ w ≤ 0x1FF) then !s.on F.CLY_CTL_CAL_LOCK
  else decide (0x300 ≤ w)

/-- The part of a written value that a word holds: the policy has no reserved bits of its own (SEC_ALARM_POL). -/
def clayMask (w : Nat) (v : R32) : R32 := if w = 0xD0 then v &&& 0x800003FF else v

/-- PENDING of CLY_STAT (R635): a write beyond the sixteenth waits on the link and is not lost. -/
def State.clayPending (s : State) : State := s.setF F.CLY_STAT_PENDING (BitVec.ofNat 5 (min 16 s.clay.pend.length))

/-- A write to CLY_WORD or to an RWP field (R634-R637): ignored where R633 refuses it, else queued. -/
def State.clayWrite (s : State) (w : Nat) (v : R32) : State :=
  if !s.clayTakes w then s
  else
    let s := s.wearOne w
    State.clayPending { s with clay := { s.clay with pend := s.clay.pend ++ [(BitVec.ofNat 10 w, clayMask w v, false)] } }

/-- The oldest pending write is durable and both copies are read back (R634): a copy that reads back wrong is written once more, and a
second failure sets VFAIL. -/
def State.clayDone (s : State) (b0 b1 : R32) : State :=
  match s.clay.pend with
  | [] => s
  | (w, v, again) :: rest =>
    let bad := (s.clay.bank0 && b0 != v) || (s.clay.bank1 && b1 != v)
    let s := s.putClay w.toNat b0 b1
    if bad && !again then { s with clay := { s.clay with pend := (w, v, true) :: rest } }
    else
      let s := State.clayPending { s with clay := { s.clay with pend := rest } }
      if bad then (s.setF F.CLY_STAT_VFAIL 1).post (evClayFault w.toNat false) else s

/-- Writes that are still pending become durable (R649). -/
def State.clayFlush (s : State) : List (BitVec 10 × R32 × Bool) → State
  | [] => State.clayPending { s with clay := { s.clay with pend := [] } }
  | (w, v, _) :: rest => (s.putClay w.toNat v v).clayFlush rest

/-- The words that some copy holds otherwise than as manufactured, and those of the map. -/
def State.clayKeys (s : State) : List Nat := nub (s.clay.k0.map (·.1) ++ s.clay.k1.map (·.1))

/-- At each deassertion of RST_N, K1 takes the K0 copy where they differ (R638). -/
def State.clayReconcile (s : State) : State :=
  if !(s.clay.bank0 && s.clay.bank1) then s.setF F.CLY_STAT_SINGLE 1
  else if s.clayKeys.all (fun w => s.clay0 w == s.clay1 w) then s
  else State.setF { s with clay := { s.clay with k1 := s.clay.k0 } } F.CLY_STAT_DIVERGED 1

/-- CLAY_WRITE (R634). -/
def execClayWrite (w : BitVec 10) (v : R32) (s : State) : Host.Outcome State Fault Refusal := whenWr s (fun s => s.clayWrite w.toNat v)

/-- CLAY_WRITE_DONE (R634). -/
def execClayWriteDone (back0 back1 : R32) (s : State) : Host.Outcome State Fault Refusal := whenUp s (fun s => s.clayDone back0 back1)

end Sys2Proof.Machine
end

