-- ==== Sys2Proof/Machine/Eng.lean ====
section
/-!
DEFINITION. Engine tiles: the disabled-unit map, spares (R374-R381), working stores (R343), doppio pairs (R382-R386).
-/

namespace Sys2Proof.Machine

/-! ### The map -/

/-- The tile is exposed (R46). -/
def State.exposed (s : State) (n : Nat) : Bool := exposedTile s.part.gradeB n

/-- The physical tile that drives a logical tile. -/
def State.phys (s : State) (n : Nat) : Nat := (s.f (F.ENG_T_STAT_PHYS n)).toNat

/-- The logical tile that a physical tile drives. -/
def State.logicalOf (s : State) (p : Nat) : Option Nat := (List.range 48).find? (fun n => s.phys n == p)

/-- The complex of a physical tile, of a logical tile (R374, R46). -/
def physCx (p : Nat) : Nat := p / 28
def logCx (n : Nat) : Nat := n / 24

def State.disabled (s : State) (p : Nat) : Bool := bitAt s.eng.dis.toNat p

/-- Spares of a complex, the lowest-numbered first (R375). -/
def State.spares (s : State) (c : Nat) : List Nat :=
  (List.range 56).filter (fun p => decide (physCx p = c) && !s.disabled p && (s.logicalOf p).isNone)

/-- SPARE0, SPARE1 of GLB_TILES follow the map. -/
def State.countSpares (s : State) : State :=
  (s.setF F.GLB_TILES_SPARE0 (BitVec.ofNat 4 (s.spares 0).length)).setF F.GLB_TILES_SPARE1 (BitVec.ofNat 4 (s.spares 1).length)

/-- The words 0-11 of a map (R374). -/
def State.mapWords (s : State) (gen : BitVec 8) : List R32 :=
  let bound : Nat → Nat := fun n => if n < 48 then s.phys n else 0x3F
  [s.eng.dis.extractLsb' 0 32, gen ++ s.eng.dis.extractLsb' 32 24] ++
    (List.range 10).map (fun w => BitVec.ofNat 32 (((List.range 5).map (fun j => bound (5 * w + j) * 2 ^ (6 * j))).foldl (· + ·) 0))

/-- The bytes of words. -/
def bytes32 (l : List R32) : Bytes := l.flatMap (fun w => natLe 4 w.toNat)

/-- Write the words of a map copy, from the first on. -/
def State.putWords (s : State) (base : Nat) : List R32 → State
  | [] => s
  | w :: ws => (s.nodeClay base w).putWords (base + 1) ws

/-- Write the map over the older copy, GEN one greater, the CRC last (R377); the copy written is in force. -/
def State.writeMap (s : State) : State :=
  let gen := s.f F.ENG_STAT_GEN + 1
  let b := !s.on F.ENG_STAT_MAP_B
  let ws := s.mapWords gen
  let s := s.putWords (if b then 0x70 else 0x60) (ws ++ [crc32 (bytes32 ws)])
  ((s.setF F.ENG_STAT_GEN gen).setF F.ENG_STAT_MAP_B (bit1 b)).countSpares

/-- The binding of a logical tile in a map copy. -/
def mapBind (ws : List R32) (n : Nat) : Nat := bitsAt (ws.getD (2 + n / 5) 0).toNat (6 * (n % 5)) 6

/-- A map copy is valid (R375). -/
def State.mapValid (s : State) (ws : List R32) : Bool :=
  let dis := (ws.getD 0 0).toNat + bitsAt (ws.getD 1 0).toNat 0 24 * 2 ^ 32
  decide (ws.getD 12 0 = crc32 (bytes32 (ws.take 12))) &&
  (List.range 48).all (fun n => if s.exposed n then
      decide (mapBind ws n < 56) && decide (physCx (mapBind ws n) = logCx n) && !bitAt dis (mapBind ws n) &&
      (List.range n).all (fun m => !s.exposed m || decide (mapBind ws m ≠ mapBind ws n))
    else decide (mapBind ws n = 0x3F))

/-- The words of copy A or B. -/
def State.mapCopy (s : State) (b : Bool) : List R32 := (List.range 13).map (fun i => s.clayWord ((if b then 0x70 else 0x60) + i))

/-- MAP_INVALID, TILE_SPARED, TILE_FAILED, SPARE_RESULT (R388). -/
def evMapInvalid : Ev := ev 0x67 stOk 0 0
def evTileSpared (old new n : Nat) (gen : BitVec 8) : Ev := ev 0x62 stOk (2 ^ 16 * old + 256 * new + n) gen.toNat

/-- An event that names a context where a single one was affected (R388). -/
def evOne (l : List (BitVec 12 × JobId)) (code : BitVec 8) (st : Status) (i0 i1 : Nat) : Ev :=
  match l with
  | [x] => evCtx code st x.1 x.2 i0 i1
  | _ => ev code st i0 i1

def evTileFailed (l : List (BitVec 12 × JobId)) (p n : Nat) : Ev := evOne l 0x63 stDataLost (256 * p + n) 0

/-! ### Work on a tile -/

/-- A descriptor of opcode 1 to 5 runs on a tile (R127, R380). -/
def Desc.onTile (d : Desc) (n : Nat) : Bool :=
  decide (d.st = .running) && decide (1 ≤ d.opcode ∧ d.opcode ≤ 5) && decide (d.tile = n)

/-- The descriptors that run on a tile: queue and ring index. -/
def State.tileDescs (s : State) (n : Nat) : List (Nat × BitVec 16) :=
  s.qmg.qs.flatMap (fun x => (x.2.descs.filter (fun d => Desc.onTile d n)).map (fun d => (x.1, d.idx)))

/-- The contexts and jobs of queues, each once. -/
def State.queueCtxs (s : State) (qs : List Nat) : List (BitVec 12 × JobId) :=
  (qs.map (fun q => (s.slotCtx (s.qSlot q), s.slotJob (s.qSlot q)))).foldl (fun l x => if l.contains x then l else l ++ [x]) []

/-- The contexts of the work on a tile: of its descriptors and of the members of the instances that it serves. -/
def State.tileCtxs (s : State) (n : Nat) : List (BitVec 12 × JobId) :=
  s.queueCtxs ((s.tileDescs n).map (·.1) ++ (s.grp.runs.filter (fun r => r.tiles.contains n)).flatMap (fun r => r.mems.map (fun m => m.2.1.toNat)))

/-- Take a map copy into force. -/
def State.takeMap (s : State) (b : Bool) : State :=
  let ws := s.mapCopy b
  let dis := (ws.getD 0 0).toNat + bitsAt (ws.getD 1 0).toNat 0 24 * 2 ^ 32
  let s := { s with eng := { s.eng with dis := BitVec.ofNat 56 dis } }
  let s := upto (fun n s => (s.setF (F.ENG_T_STAT_PHYS n) (BitVec.ofNat 6 (mapBind ws n))).setF (F.ENG_T_STAT_STATE n)
    (if mapBind ws n = 0x3F then 2 else 0)) 48 s
  ((s.setF F.ENG_STAT_MAP_B (bit1 b)).setF F.ENG_STAT_GEN (fieldAt 8 (ws.getD 1 0).toNat 24)).countSpares

/-- At reset the valid copy whose GEN is later is loaded (R376). With no valid copy SPARE0 and SPARE1 keep their reset value (DESIGN
CHOICE, DESIGN CHOICE, log entry 111). -/
def State.loadMap (s : State) : State :=
  let a := s.mapValid (s.mapCopy false)
  let b := s.mapValid (s.mapCopy true)
  let ga := fieldAt 8 ((s.mapCopy false).getD 1 0).toNat 24
  let gb := fieldAt 8 ((s.mapCopy true).getD 1 0).toNat 24
  if a ∧ (!b ∨ (ga - gb).toNat < 128) then s.takeMap false
  else if b then s.takeMap true
  else
    let s := upto (fun n s => (s.setF (F.ENG_T_STAT_PHYS n) 0x3F).setF (F.ENG_T_STAT_STATE n) 2) 48 s
    (s.setF F.GLB_TILES_SHORT 1).post evMapInvalid

/-! ### Failure and spares (R378-R381) -/

/-- Failed tiles of a complex that wait for a spare. -/
def State.waiting (s : State) (c : Nat) : Nat := (s.eng.failed.filter (fun f => decide (logCx f.1 = c))).length

/-- A physical tile is marked disabled. -/
def State.disable (s : State) (p : Nat) : State := { s with eng := { s.eng with dis := s.eng.dis ||| BitVec.ofNat 56 (2 ^ p) } }

/-- A tile fails (R378-R380). With no spare the complex is short; the runs it served end with DATA_LOST by their own rule. -/
def State.tileFail (s : State) (p : Nat) : State :=
  match s.logicalOf p with
  | none => if s.disabled p then s else (s.disable p).writeMap
  | some n =>
    if s.eng.failed.any (fun f => f.2.1 == p) then s
    else if s.waiting (logCx n) < (s.spares (logCx n)).length then
      { s with eng := { s.eng with failed := s.eng.failed ++ [(n, p, s.clk.slot)] } }
    else
      let l := s.tileCtxs n
      let s := ((s.disable p).setF (F.ENG_T_STAT_PHYS n) 0x3F).setF (F.ENG_T_STAT_STATE n) 2
      ((s.countSpares).setF F.GLB_TILES_SHORT 1).post (evTileFailed l p n)

/-- The tile has no spare to go to: it fails as R380 says rather than as R379. -/
def State.noSpare (s : State) (p : Nat) : Bool :=
  match s.logicalOf p with
  | none => false
  | some n => !s.eng.failed.any (fun f => f.2.1 == p) && decide ((s.spares (logCx n)).length ≤ s.waiting (logCx n))

/-- Every exposed tile is bound. -/
def State.allBound (s : State) : Bool := (List.range 48).all (fun n => !s.exposed n || s.phys n != 0x3F)

/-- Bind the lowest-numbered spare to a logical tile, at a slot boundary after it failed (R379), or after ENABLE made a spare (R381). -/
def State.substitute (s : State) (n : Nat) : State :=
  let old := s.phys n
  if !(s.eng.failed.any (fun f => f.1 == n && f.2.2 != s.clk.slot) || (s.exposed n && old == 0x3F && s.eng.spareAt != some s.clk.slot)) then s
  else match s.spares (logCx n) with
    | [] => s
    | q :: _ =>
      let s := { s with eng := { s.eng with failed := dropWhere (fun f => f.1 == n) s.eng.failed } }
      let s := if old = 0x3F then s else s.disable old
      let s := ((s.setF (F.ENG_T_STAT_PHYS n) (BitVec.ofNat 6 q)).setF (F.ENG_T_STAT_STATE n) 0).writeMap
      let s := if s.allBound then s.setF F.GLB_TILES_SHORT 0 else s
      s.post (evTileSpared old q n (s.f F.ENG_STAT_GEN))

/-- The result of a spare command (R388). -/
def State.spareResult (s : State) (err : BitVec 4) (p : Nat) : State :=
  let s := s.setF F.ENG_SPARE_RES_ERR err
  s.post (ev 0x66 stOk (2 ^ 30 * (s.f F.ENG_SPARE_RES_PASS).toNat + 2 ^ 24 * err.toNat + p) 0)

/-- A write to ENG_SPARE_CMD (R380): 1 TEST, 2 ENABLE, 3 DISABLE; ignored while BUSY. `fail` is what the failure of a tile does. -/
def State.spareCmd (s : State) (fail : State → Nat → State) (op p : Nat) : State :=
  if s.on F.ENG_SPARE_RES_BUSY then s
  else
    let bound := (s.logicalOf p).isSome
    let s := s.setF F.ENG_SPARE_RES_TILE (BitVec.ofNat 6 p)
    if op = 0 ∨ 3 < op ∨ 55 < p then s.spareResult 4 p
    else if op = 3 then (if bound then (fail s p).spareResult 0 p else s.spareResult 3 p)
    else if bound then s.spareResult 1 p
    else if op = 1 then
      State.setF (State.setF { s with eng := { s.eng with test := some (BitVec.ofNat 6 p) } } F.ENG_SPARE_RES_BUSY 1) F.ENG_SPARE_RES_ERR 0
    else if !s.eng.passed.contains p then s.spareResult 2 p
    else
      let s := { s with eng := { s.eng with dis := s.eng.dis &&& ~~~ BitVec.ofNat 56 (2 ^ p), spareAt := some s.clk.slot } }
      s.writeMap.spareResult 0 p

/-- The self-test ends (R380). -/
def State.spareDone (s : State) (pass : Bool) : State :=
  match s.eng.test with
  | none => s
  | some p =>
    let s := s.fwDone 2
    let l := dropWhere (· == p.toNat) s.eng.passed
    let s := { s with eng := { s.eng with test := none, passed := if pass then p.toNat :: l else l } }
    ((s.setF F.ENG_SPARE_RES_BUSY 0).setF F.ENG_SPARE_RES_PASS (bit1 pass)).spareResult 0 p.toNat

/-! ### Working stores (R343) -/

/-- A tile serves an instance, or runs a descriptor. -/
def State.tileBusy (s : State) (n : Nat) : Bool := s.grp.runs.any (fun r => r.tiles.contains n) || !(s.tileDescs n).isEmpty

/-- WORK takes effect, unless an allotted shadow would lie in the working store. -/
def State.setWork (s : State) (n : Nat) (v : R32) : State :=
  let w := fget (F.ENG_T_CTL_WORK n) v
  let lo := n * sliceSize + (sliceSize - 0x100000 * workMiB w)
  if s.accExts.any (fun j => decide ((s.ext j).shadow < (n + 1) * sliceSize) && decide (lo < (s.ext j).shadowEnd)) then s
  else s.setF (F.ENG_T_CTL_WORK n) w

/-- A write to ENG_T_CTL: kept while the tile is not idle. -/
def State.engTCtl (s : State) (n : Nat) (v : R32) : State :=
  if 48 ≤ n then s else if s.tileBusy n then s.keepWr (Reg.ENG_T_CTL n) v else s.setWork n v

/-- A tile becomes idle: a kept WORK takes effect. -/
def State.tileIdle (s : State) (n : Nat) : State :=
  match sget noLater s.later (Reg.ENG_T_CTL n) with
  | some v => if s.tileBusy n then s else
      State.setWork { s with later := sset noLater s.later (Reg.ENG_T_CTL n) none } n v
  | none => s

/-- WORK of the tiles that have become idle takes effect. -/
def State.workIdle (s : State) : State := if s.later = [] then s else upto (fun n s => s.tileIdle n) 48 s

/-- Bytes in a tile's working store (R341, R342): nothing is written beyond its slice. -/
def State.workWrite (s : State) (n place : Nat) (bs : Bytes) : State :=
  let lo := s.workStart n + place
  if sliceSize < lo + bs.length then s else { s with mems := { s.mems with sram := Mem.wrN s.mems.sram (n * sliceSize + lo) bs } }

/-! ### Doppio pairs (R382-R386) -/

def noHash : Nat → List (List R64) := fun _ => []
def State.hashesOf (s : State) (i : Nat) : List (List R64) := sget noHash s.eng.hashes i
def State.setHashes (s : State) (i : Nat) (l : List (List R64)) : State := { s with eng := { s.eng with hashes := sset noHash s.eng.hashes i l } }

/-- The pair ends at this node (R386). -/
def State.dopLost (s : State) (i : Nat) : State :=
  let s := ((s.setF (F.ENG_DOP_CTL_EN i) 0).setF (F.ENG_DOP_STAT_LOST i) 1).setHashes i []
  (s.setF (F.ENG_DOP_STAT_BEHIND i) 0).post (ev 0x65 stOk i (s.f (F.ENG_DOP_CNT_STEPS i)).toNat)

/-- A tile is a follower while an entry that makes it one is enabled (R382, R383). -/
def State.follower (s : State) (n : Nat) : Bool := (List.range 4).any (fun i =>
  s.on (F.ENG_DOP_CTL_EN i) && s.on (F.ENG_DOP_CTL_ROLE i) && decide ((s.f (F.ENG_DOP_CTL_TILE i)).toNat = n))

/-- STATE of ENG_T_STAT: unbound, a doppio follower, running an instance, idle. -/
def State.tileState (s : State) (n : Nat) : BitVec 2 :=
  if s.phys n = 0x3F then 2 else if s.follower n then 3 else if s.tileBusy n then 1 else 0

/-- A leader's node sends the follower's node what the leader read in a step (R384), as local agent 9 in class RELAXED (R681). The form of
the request is the model's (DESIGN CHOICE, log entry 115). -/
def State.sendDoppio (s : State) (i : Nat) (reads : List Bytes) : State :=
  let peer := s.f (F.ENG_DOP_CTL_PEER i)
  let (seq, s) := s.nextSeq (s.agent 9) peer 1
  s.emit (.doppioIn (s.agent 9) peer (s.f (F.ENG_DOP_CTL_PEER_TILE i)) seq reads)

/-- A leader's step: the follower's node gets what it read, and its output hashes wait for the follower's (R384-R386). -/
def State.leaderStep (s : State) (n : Nat) (reads outs : List Bytes) : State :=
  upto (fun i s =>
    if s.on (F.ENG_DOP_CTL_EN i) ∧ !s.on (F.ENG_DOP_CTL_ROLE i) ∧ (s.f (F.ENG_DOP_CTL_TILE i)).toNat = n then
      let s := s.sendDoppio i reads
      let l := s.hashesOf i ++ [outs.map crc64]
      let s := (s.setHashes i l).setF (F.ENG_DOP_STAT_BEHIND i) (BitVec.ofNat 7 l.length)
      if 64 ≤ l.length then s.dopLost i else s
    else s) 4 s

/-- A follower runs a step, its inputs standing in its working store and its outputs written only there, and returns its hashes (R384, R385). -/
def State.followStep (s : State) (i : Nat) (inPlace : Nat) (reads : List Bytes) (outPlace : Nat) (blocks : List Bytes) : State :=
  if s.on (F.ENG_DOP_CTL_EN i) ∧ s.on (F.ENG_DOP_CTL_ROLE i) then
    let h := blocks.map crc64
    let t := (s.f (F.ENG_DOP_CTL_TILE i)).toNat
    let s := s.setHashes i (s.hashesOf i ++ [h])
    let s := if t < 48 then ((s.workWrite t inPlace reads.flatten).workWrite t outPlace blocks.flatten).incF (F.ENG_T_STEPS_COUNT t) 1 else s
    s.emit (.doppio (s.f (F.ENG_DOP_CTL_PEER i)) (s.f (F.ENG_DOP_CTL_PEER_TILE i)) h)
  else s

/-- Report the blocks whose hashes differ (R385). -/
def State.dopDiffer (s : State) (i step : Nat) : List Nat → State
  | [] => s
  | b :: bs =>
    let s := ((s.setF (F.ENG_DOP_STAT_MISMATCH i) 1).setF F.ENG_STAT_DOPPIO 1).satF (F.ENG_DOP_CNT_MISMATCHES i) 1
    (s.post (ev 0x64 stOk (2 ^ 32 * i + step) b)).dopDiffer i step bs

/-- The other tile's hashes of a step arrive (R385); the leader returns its own. -/
def State.dopCompare (s : State) (i : Nat) (theirs : List R64) : State :=
  match s.on (F.ENG_DOP_CTL_EN i), s.hashesOf i with
  | true, own :: rest =>
    let bad := (List.range (max own.length theirs.length)).filter (fun b => own[b]? != theirs[b]?)
    let s := (s.setHashes i rest).incF (F.ENG_DOP_CNT_STEPS i) 1
    let s := if s.on (F.ENG_DOP_CTL_ROLE i) then s
      else (s.setF (F.ENG_DOP_STAT_BEHIND i) (BitVec.ofNat 7 rest.length)).emit
        (.doppio (s.f (F.ENG_DOP_CTL_PEER i)) (s.f (F.ENG_DOP_CTL_PEER_TILE i)) own)
    s.dopDiffer i (s.f (F.ENG_DOP_CNT_STEPS i)).toNat bad
  | _, _ => s

/-! ### Commands -/

/-- SPARE_SUBSTITUTION (R379, R381). -/
def execSpareSubstitution (tile : BitVec 6) (s : State) : Host.Outcome State Fault Refusal := whenUp s (fun s => s.substitute tile.toNat)

/-- SPARE_TEST (R380). -/
def execSpareTest (phys : BitVec 6) (s : State) : Host.Outcome State Fault Refusal := whenWr s (fun s => s.spareCmd State.tileFail 1 phys.toNat)

/-- SPARE_TEST_DONE (R380). -/
def execSpareTestDone (pass : Bool) (s : State) : Host.Outcome State Fault Refusal :=
  whenUp s (fun s => if s.fwServes 2 then s.spareDone pass else s)

/-- SPARE_ENABLE (R381). -/
def execSpareEnable (phys : BitVec 6) (s : State) : Host.Outcome State Fault Refusal := whenWr s (fun s => s.spareCmd State.tileFail 2 phys.toNat)

/-- ENG_T_CTL_WRITE (R343). -/
def execEngTCtlWrite (tile : BitVec 6) (v : R32) (s : State) : Host.Outcome State Fault Refusal := whenWr s (fun s => s.engTCtl tile.toNat v)

/-- DOPPIO_STEP (R384). -/
def execDoppioStep (pair : BitVec 2) (work : FollowX) (s : State) : Host.Outcome State Fault Refusal :=
  whenUp s (fun s => s.followStep pair.toNat work.inPlace.toNat work.reads work.outPlace.toNat work.blocks)

/-- DOPPIO_COMPARE (R385). -/
def execDoppioCompare (pair : BitVec 2) (hashes : List R64) (s : State) : Host.Outcome State Fault Refusal :=
  whenUp s (fun s => s.dopCompare pair.toNat hashes)

end Sys2Proof.Machine
end

