-- ==== Sys2Proof/Machine/Grp.lean ====
section
/-!
DEFINITION. Group table and expert maps (R389-R395, R443-R447): validation, commands, windows.
-/

namespace Sys2Proof.Machine

/-! ### Group entries (R390) -/

/-- A word of a group entry. -/
def State.grpW (s : State) (g w : Nat) : Nat := leNat (Mem.rdN s.mems.grp (1024 * g + 8 * w) 8)
def State.grpLive (s : State) (g : Nat) : Bool := bitAt (s.grpW g 0) 0
def State.grpJob (s : State) (g : Nat) : JobId := fieldAt 16 (s.grpW g 0) 48
def State.grpN (s : State) (g : Nat) : Nat := bitsAt (s.grpW g 0) 32 9
def State.grpRound (s : State) (g : Nat) : Nat := bitsAt (s.grpW g 0) 24 8
def State.grpStrands (s : State) (g : Nat) : Nat := bitsAt (s.grpW g 0) 16 3 + 1
def State.grpSeg (s : State) (g : Nat) : Nat := bitsAt (s.grpW g 1) 0 24

/-- The 16-bit field of a member index, and the members. -/
def State.grpField (s : State) (g i : Nat) : Nat := bitsAt (s.grpW g (64 + i / 4)) (16 * (i % 4)) 16
def State.grpMember (s : State) (g i : Nat) : AgentId := BitVec.ofNat 10 (s.grpField g i)
def State.grpMembers (s : State) (g : Nat) : List AgentId := (List.range (s.grpN g)).map (s.grpMember g)

/-- The member index of an agent. -/
def State.memberIx (s : State) (g : Nat) (a : AgentId) : Option Nat := (List.range (s.grpN g)).find? (fun i => s.grpMember g i == a)

/-- The nodes that hold members, without repeats. -/
def State.grpNodes (s : State) (g : Nat) : List Nat := nub ((s.grpMembers g).map (fun a => (agentNode a).toNat))

/-- Coordinates of an axis that the nodes of a group use (R392). -/
def State.grpAxis (s : State) (g a : Nat) : List Nat :=
  (List.range 4).filter (fun v => (s.grpNodes g).any (fun n => coord (BitVec.ofNat 6 n) a == v))

/-- Ring length of an axis. -/
def State.ringLen (s : State) (g a : Nat) : Nat := (s.grpAxis g a).length

/-- The member nodes form a product set (R392). -/
def State.grpProduct (s : State) (g : Nat) : Bool :=
  decide ((s.grpNodes g).length = s.ringLen g 0 * s.ringLen g 1 * s.ringLen g 2)

/-- A stream-map field (R391): map 0 or 1, direction and strand. -/
def State.mapField (s : State) (g set d st : Nat) : Nat :=
  let f := 8 * d + st
  bitsAt (s.grpW g ((if set = 0 then 8 else 32) + f / 2)) (32 * (f % 2)) 32
def fieldIn (x : Nat) : Nat := bitsAt x 16 12
def fieldOut (x : Nat) : Nat := bitsAt x 0 12

/-- The fields of a map, all 48. -/
def State.mapFields (s : State) (g set : Nat) : List (Nat × Nat × Nat) :=
  (List.range 6).flatMap (fun d => (List.range 8).map (fun st => (d, st, s.mapField g set d st)))

/-- No value appears twice. -/
def distinct : List Nat → Bool
  | [] => true
  | x :: xs => !xs.contains x && distinct xs

/-- A reserved bit of an entry is not zero (R390, R391). -/
def State.grpDirty (s : State) (g : Nat) : Bool :=
  bitsAt (s.grpW g 0) 41 7 != 0 || bitsAt (s.grpW g 0) 19 5 != 0 || bitsAt (s.grpW g 0) 1 15 != 0 || bitsAt (s.grpW g 1) 24 40 != 0 ||
  (List.range 6).any (fun w => s.grpW g (2 + w) != 0) || (List.range 8).any (fun w => s.grpW g (56 + w) != 0) ||
  (List.range 256).any (fun i => bitsAt (s.grpField g i) 10 6 != 0) ||
  [0, 1].any (fun set => (s.mapFields g set).any (fun f => bitsAt f.2.2 28 4 != 0 || bitsAt f.2.2 12 4 != 0))

/-- A map of a group is wrong (R394 ERR 0x7). -/
def State.badMap (s : State) (g set : Nat) : Bool :=
  let fs := s.mapFields g set
  fs.any (fun f =>
    if 1 < s.ringLen g (f.1 / 2) ∧ f.2.1 < s.grpStrands g then fieldIn f.2.2 == 0 || fieldOut f.2.2 == 0 else f.2.2 != 0) ||
  !distinct ((fs.flatMap (fun f => [fieldIn f.2.2, fieldOut f.2.2])).filter (· != 0))

/-- Validation for ENABLE (R394), 0x1 to 0x7. -/
def State.grpErr (s : State) (g : Nat) : BitVec 4 :=
  let n := s.grpN g
  if s.grpDirty g then 1
  else if n = 0 ∨ 256 < n ∨ (List.range 256).any (fun i => decide (n ≤ i) && s.grpField g i != 0) then 2
  else if !distinct ((s.grpMembers g).map (·.toNat)) ∨ (s.grpMembers g).any (fun a => decide (9 ≤ (agentLocal a).toNat)) then 3
  else if !s.grpProduct g then 4
  else if !(s.grpNodes g).contains s.node.toNat then 5
  else if s.grpRound g = 0 ∨ s.grpSeg g = 0 then 6
  else if s.badMap g 0 ∨ s.badMap g 1 then 7
  else 0

/-- Change the VALID bit of an entry, of an expert map. -/
def State.setGrpLive (s : State) (g : Nat) (v : Bool) : State :=
  { s with mems := { s.mems with grp := Mem.wrN s.mems.grp (1024 * g) (natLe 8 (2 * (s.grpW g 0 / 2) + b2n v)) } }

/-- An instance of the group runs or waits at the node (R393). -/
def State.grpUsed (s : State) (g : Nat) : Bool := s.grp.runs.any (fun r => decide (r.group.toNat = g))

/-- A write to GRP_CMD (R393): ignored while BUSY. -/
def State.grpCmd (s : State) (v : R32) : State :=
  if s.on F.GRP_RES_BUSY then s
  else
    let s := { s with grp := { s.grp with cmd := some v } }
    ((s.setF F.GRP_RES_GROUP (fget F.GRP_CMD_GROUP v)).setF F.GRP_RES_ERR 0).setF F.GRP_RES_BUSY 1

/-- The group command finishes (R393, R394). -/
def State.grpDone (s : State) : State :=
  match s.grp.cmd with
  | none => s
  | some v =>
    let op := fget F.GRP_CMD_OP v
    let g := (fget F.GRP_CMD_GROUP v).toNat
    let err : BitVec 4 :=
      if op = 1 then (if s.grpLive g then 8 else s.grpErr g)
      else if op = 2 then (if !s.grpLive g ∨ s.grpUsed g then 8 else 0)
      else 8
    let s := { s with grp := { s.grp with cmd := none } }
    let s := (s.setF F.GRP_RES_BUSY 0).setF F.GRP_RES_ERR err
    if err = 0 then s.setGrpLive g (decide (op = 1)) else s

/-- The words of a live entry that a window write may change (R395): the map of a set that is neither active nor armed. -/
def State.mapFree (s : State) (w : Nat) : Bool :=
  if 8 ≤ w ∧ w < 32 then !s.setLive 0 else if 32 ≤ w ∧ w < 56 then !s.setLive 1 else false

/-- A write through GRP_GWIN (R395): VALID stays the node's. -/
def State.gwinWrite (s : State) (off : Nat) (wide : Bool) (v : R64) : State :=
  let a := (s.f F.GRP_GWIN_PAGE_PAGE).toNat * 262144 + off
  let g := a / 1024
  if s.grpLive g ∧ !s.mapFree (a % 1024 / 8) then s.setF F.GRP_STAT_LIVE_WR 1
  else
    let live := s.grpLive g
    State.setGrpLive { s with mems := { s.mems with grp := winWrite s.mems.grp a wide v } } g live

/-! ### Expert maps (R443, R444) -/

def State.ehW (s : State) (m w : Nat) : Nat := leNat (Mem.rdN s.mems.ehdr (32 * m + 8 * w) 8)
def State.emLive (s : State) (m : Nat) : Bool := bitAt (s.ehW m 0) 0
def State.emJob (s : State) (m : Nat) : JobId := fieldAt 16 (s.ehW m 0) 48
def State.emGroup (s : State) (m : Nat) : Nat := bitsAt (s.ehW m 0) 32 10
def State.emCount (s : State) (m : Nat) : Nat := bitsAt (s.ehW m 0) 16 13
def State.emOvf (s : State) (m : Nat) : Nat := bitsAt (s.ehW m 1) 40 24
def State.emBase (s : State) (m : Nat) : Nat := bitsAt (s.ehW m 1) 0 18
def State.emDigest (s : State) (m : Nat) : R64 := BitVec.ofNat 64 (s.ehW m 2)

/-- Entry `e` of a map: its agent, buffer and capacity. -/
def State.eeW (s : State) (i w : Nat) : Nat := leNat (Mem.rdN s.mems.eent (16 * i + 8 * w) 8)
def State.exAgent (s : State) (m e : Nat) : AgentId := fieldAt 10 (s.eeW (s.emBase m + e) 0) 54
def State.exBuf (s : State) (m e : Nat) : Dpa := BitVec.ofNat 52 (256 * bitsAt (s.eeW (s.emBase m + e) 0) 8 44)
def State.exCap (s : State) (m e : Nat) : Nat := bitsAt (s.eeW (s.emBase m + e) 1) 0 24

/-- The live maps. -/
def State.liveMaps (s : State) : List Nat := (List.range 1024).filter s.emLive

/-- Entry ranges of two maps overlap. -/
def State.emMeet (s : State) (a b : Nat) : Bool :=
  decide (s.emBase a < s.emBase b + s.emCount b) && decide (s.emBase b < s.emBase a + s.emCount a)

/-- Validation for ENABLE (R445), 0x1 to 0x6. -/
def State.emErr (s : State) (m : Nat) : BitVec 4 :=
  let n := s.emCount m
  let es := List.range n
  let dirty := bitsAt (s.ehW m 0) 42 6 != 0 || bitsAt (s.ehW m 0) 29 3 != 0 || bitsAt (s.ehW m 0) 1 15 != 0 ||
    bitsAt (s.ehW m 1) 18 22 != 0 || s.ehW m 3 != 0 ||
    es.any (fun e => bitsAt (s.eeW (s.emBase m + e) 0) 52 2 != 0 || bitsAt (s.eeW (s.emBase m + e) 0) 0 8 != 0 ||
      bitsAt (s.eeW (s.emBase m + e) 1) 24 40 != 0)
  if dirty then 1
  else if n = 0 ∨ 4096 < n ∨ 262144 < s.emBase m + n then 2
  else if !s.grpLive (s.emGroup m) ∨ s.grpJob (s.emGroup m) ≠ s.emJob m then 3
  else if es.any (fun e => (s.memberIx (s.emGroup m) (s.exAgent m e)).isNone) then 4
  else if es.any (fun e => dpaClass (s.exBuf m e) != 1 || dpaNode (s.exBuf m e) != agentNode (s.exAgent m e)) then 5
  else if s.liveMaps.any (fun k => decide (k ≠ m) && s.emMeet m k) then 6
  else 0

/-- DIGEST (R447). -/
def State.emDigestOf (s : State) (m : Nat) : R64 :=
  crc64 (natLe 8 (2 * (s.ehW m 0 / 2)) ++ natLe 8 (s.ehW m 1) ++ Mem.rdN s.mems.eent (16 * s.emBase m) (16 * s.emCount m))

def State.setEhW (s : State) (m w v : Nat) : State :=
  { s with mems := { s.mems with ehdr := Mem.wrN s.mems.ehdr (32 * m + 8 * w) (natLe 8 v) } }

/-- A write to GRP_EMAP_CMD (R445): ignored while BUSY. -/
def State.emapCmd (s : State) (v : R32) : State :=
  if s.on F.GRP_EMAP_RES_BUSY then s
  else
    let s := { s with grp := { s.grp with emap := some v } }
    ((s.setF F.GRP_EMAP_RES_MAP (fget F.GRP_EMAP_CMD_MAP v)).setF F.GRP_EMAP_RES_ERR 0).setF F.GRP_EMAP_RES_BUSY 1

/-- The expert-map command finishes (R445, R447). `used`: an instance uses the map at the node. -/
def State.emapDone (s : State) (used : Nat → Bool) : State :=
  match s.grp.emap with
  | none => s
  | some v =>
    let op := fget F.GRP_EMAP_CMD_OP v
    let m := (fget F.GRP_EMAP_CMD_MAP v).toNat
    let err : BitVec 4 :=
      if op = 1 then (if s.emLive m then 7 else s.emErr m)
      else if op = 2 then (if !s.emLive m ∨ used m then 7 else 0)
      else 7
    let s := { s with grp := { s.grp with emap := none } }
    let s := (s.setF F.GRP_EMAP_RES_BUSY 0).setF F.GRP_EMAP_RES_ERR err
    if err ≠ 0 then s
    else if op = 1 then
      let d := s.emDigestOf m
      ((s.setEhW m 2 d.toNat).setEhW m 0 (2 * (s.ehW m 0 / 2) + 1)).incF F.GRP_EMAP_STAT_LIVE 1
    else
      let s := s.setEhW m 0 (2 * (s.ehW m 0 / 2))
      s.setF F.GRP_EMAP_STAT_LIVE (s.f F.GRP_EMAP_STAT_LIVE - 1)

/-- A write through GRP_EHDR (R443, R446): VALID and DIGEST stay the node's. -/
def State.ehdrWrite (s : State) (off : Nat) (wide : Bool) (v : R64) : State :=
  let m := off / 32
  if s.emLive m then s.setF F.GRP_EMAP_STAT_LIVE_WR 1
  else
    let d := s.ehW m 2
    let s := { s with mems := { s.mems with ehdr := winWrite s.mems.ehdr off wide v } }
    (s.setEhW m 2 d).setEhW m 0 (2 * (s.ehW m 0 / 2))

/-- A write through GRP_EWIN (R444, R446). -/
def State.ewinWrite (s : State) (off : Nat) (wide : Bool) (v : R64) : State :=
  let a := (s.f F.GRP_EWIN_PAGE_PAGE).toNat * 131072 + off
  let i := a / 16
  if s.liveMaps.any (fun m => decide (s.emBase m ≤ i ∧ i < s.emBase m + s.emCount m)) then s.setF F.GRP_EMAP_STAT_LIVE_WR 1
  else { s with mems := { s.mems with eent := winWrite s.mems.eent a wide v } }

/-! ### Commands -/

def cmdWord (op : Nat) (i : BitVec 10) : R32 := BitVec.ofNat 32 (op * 2 ^ 28 + i.toNat)

/-- GROUP_ENABLE (R393). -/
def execGroupEnable (g : BitVec 10) (s : State) : Host.Outcome State Fault Refusal := whenWr s (fun s => s.grpCmd (cmdWord 1 g))

/-- GROUP_DISABLE (R393). -/
def execGroupDisable (g : BitVec 10) (s : State) : Host.Outcome State Fault Refusal := whenWr s (fun s => s.grpCmd (cmdWord 2 g))

/-- GROUP_CMD_DONE (R393). -/
def execGroupCmdDone (s : State) : Host.Outcome State Fault Refusal := whenUp s State.grpDone

/-- GWIN_WRITE (R395). -/
def execGwinWrite (off : BitVec 18) (wide : Bool) (v : R64) (s : State) : Host.Outcome State Fault Refusal :=
  whenWr s (fun s => s.gwinWrite off.toNat wide v)

/-- EMAP_ENABLE (R445). -/
def execEmapEnable (m : BitVec 10) (s : State) : Host.Outcome State Fault Refusal := whenWr s (fun s => s.emapCmd (cmdWord 1 m))

/-- EMAP_DISABLE (R445). -/
def execEmapDisable (m : BitVec 10) (s : State) : Host.Outcome State Fault Refusal := whenWr s (fun s => s.emapCmd (cmdWord 2 m))

/-- EMAP_WIN_WRITE (R446). -/
def execEmapWinWrite (hdr : Bool) (off : BitVec 17) (wide : Bool) (v : R64) (s : State) : Host.Outcome State Fault Refusal :=
  whenWr s (fun s => if hdr then s.ehdrWrite (off.toNat % 32768) wide v else s.ewinWrite off.toNat wide v)

end Sys2Proof.Machine
end

