-- ==== Sys2Proof/Machine/Coll.lean ====
section
/-!
DEFINITION. Instances of collectives (R396-R422): joining, the signature record and the verdict, rounds, pauses, aborts; the step
of a tile (R371-R373).
-/

namespace Sys2Proof.Machine

/-! ### Descriptor fields (R124) -/

def Desc.group (d : Desc) : Nat := w64 (d.w 3) 27 18
def Desc.emap (d : Desc) : Nat := w64 (d.w 3) 51 42
def Desc.capMode (d : Desc) : Nat := w64 (d.w 3) 41 40
def Desc.topk (d : Desc) : Nat := w64 (d.w 3) 39 36
def Desc.redOp (d : Desc) : Nat := w64 (d.w 3) 17 16
def Desc.outTy (d : Desc) : Nat := w64 (d.w 3) 15 12
def Desc.inTy (d : Desc) : Nat := w64 (d.w 3) 11 8
def Desc.subop (d : Desc) : Nat := w64 (d.w 3) 7 0
def Desc.seq (d : Desc) : R32 := (d.w 4).setWidth 32
def Desc.count (d : Desc) : Nat := w64 (d.w 5) 39 0
def Desc.tokens (d : Desc) : Nat := w64 (d.w 12) 31 0

/-- The kind of an instance: the subop of a COLL (1-5), 6 DISPATCH, 7 COMBINE. -/
def Desc.kind (d : Desc) : Nat := if d.opcode = 16 then d.subop else if d.opcode = 17 then 6 else 7

/-! ### Instances -/

/-- A local member of an instance: its index, its queue, its descriptor's ring index. -/
abbrev RunMember := Nat × BitVec 10 × BitVec 16

def State.run (s : State) (i : Nat) : Option Run := s.grp.runs.find? (fun r => r.inst == i)
def State.runOf (s : State) (g : Nat) : Option Run := s.grp.runs.find? (fun r => r.group.toNat == g)

/-- GRP_INST state codes. -/
def Run.code (r : Run) : BitVec 3 :=
  if r.own.isNone then 1 else if r.paused then 4 else if r.verdict.isNone then 2 else 3

/-- The registers of an instance follow it. -/
def State.showRun (s : State) (r : Run) : State :=
  let i := r.inst
  let s := ((s.setF (F.GRP_INST_STAT_STATE i) r.code).setF (F.GRP_INST_STAT_GROUP i) r.group).setF (F.GRP_INST_STAT_JOINED i)
    (BitVec.ofNat 4 r.mems.length)
  ((s.setF (F.GRP_INST_SEQ_SEQ i) r.seq).setF (F.GRP_INST_ROUND_DONE i) (BitVec.ofNat 32 r.done)).setF (F.GRP_INST_TOTAL_TOTAL i)
    (BitVec.ofNat 32 r.total)

/-- Store an instance. -/
def State.setRun (s : State) (r : Run) : State :=
  let l := if (s.run r.inst).isSome then s.grp.runs.map (fun x => if x.inst == r.inst then r else x) else s.grp.runs ++ [r]
  State.showRun { s with grp := { s.grp with runs := l } } r

/-- The working-store bytes that an instance's steps used read zero before another instance has them (R415). -/
def State.zeroKept (s : State) (r : Run) : State :=
  { s with mems := { s.mems with sram := r.kept.foldl (fun m x => Mem.wrN m x.1 (zeros x.2)) s.mems.sram } }

/-- An instance ends: its working store is zeroed, its slot is free, its tiles are idle. -/
def State.dropRun (s : State) (r : Run) : State :=
  let s := s.zeroKept ((s.run r.inst).getD r)
  let s := { s with grp := { s.grp with runs := dropWhere (fun x => x.inst == r.inst) s.grp.runs } }
  let s := (((s.wr (Reg.GRP_INST_STAT r.inst) 0).wr (Reg.GRP_INST_SEQ r.inst) 0).wr (Reg.GRP_INST_ROUND r.inst) 0).wr
    (Reg.GRP_INST_TOTAL r.inst) 0
  (nub r.tiles).foldl State.tileIdle s

/-- Members of a group at this node (R391). -/
def State.localMems (s : State) (g : Nat) : List Nat := (List.range (s.grpN g)).filter (fun i => agentNode (s.grpMember g i) == s.node)

/-- The descriptor of a member that joined. -/
def State.memDesc (s : State) (m : RunMember) : Option Desc := s.desc m.2.1.toNat m.2.2

/-- The joined member of the lowest index. -/
def Run.lowest (r : Run) : Option RunMember :=
  r.mems.foldl (fun b m => match b with | some x => if m.1 < x.1 then some m else b | none => some m) none

/-- An event of an instance, with the context of its lowest-numbered local member (R429). -/
def State.postRun (s : State) (r : Run) (code : BitVec 8) (st : Status) (i1 : Nat) : State :=
  let i0 := 2 ^ 32 * r.group.toNat + r.seq.toNat
  match r.lowest with
  | some (_, q, _) => s.post (evCtx code st (s.slotCtx (s.qSlot q.toNat)) (s.slotJob (s.qSlot q.toNat)) i0 i1)
  | none => s.post (ev code st i0 i1)

/-- Local members' descriptors end with a status. -/
def State.finishMems (s : State) (r : Run) (st : Status) : State :=
  r.mems.foldl (fun s m => s.finish m.2.1.toNat m.2.2 st (fun d => { d with prog := r.done })) s

/-- An instance ends under R422: an abort record goes out, the members complete with the lowest status. `who`: the member whose operand
failed, and the operand's word (R116). -/
def State.abortRun (s : State) (r : Run) (st : Status) (origin : NodeId) (who : Option (RunMember × Nat)) : State :=
  let s := (s.emit (.abortRec r.group r.seq st origin)).incF F.GRP_ABORT_CNT_COUNT 1
  let s := s.finishMems r st
  let s := match who with
    | some (m, w) => s.setDesc m.2.1.toNat m.2.2 (fun d => { d with faultWord := BitVec.ofNat 4 w })
    | none => s
  (s.postRun r 0x6A st (256 * origin.toNat + st.toNat)).dropRun r

/-- The work on a tile ends with DATA_LOST: its descriptors, and the instances that it serves (R373, R380). -/
def State.abortTile (s : State) (n : Nat) : State :=
  let s := (s.tileDescs n).foldl (fun s x => s.completeDesc x.1 x.2 stDataLost) s
  (s.grp.runs.filter (fun r => r.tiles.contains n)).foldl (fun s r => s.abortRun r stDataLost s.node none) s

/-! ### Depth, segments, streams (R402, R407-R415) -/

/-- Greatest ring length minus one; the depth of an exchange (R411). -/
def State.ringM (s : State) (g : Nat) : Nat := max (s.ringLen g 0) (max (s.ringLen g 1) (s.ringLen g 2)) - 1
def State.ringDa (s : State) (g : Nat) : Nat := s.ringLen g 0 / 2 + s.ringLen g 1 / 2 + s.ringLen g 2 / 2 + 1

/-- Depth D in rounds (R411, R441, R454, R459). -/
def State.depthOf (s : State) (g : Nat) (d : Desc) : Nat :=
  let m := s.ringM g
  let fp := decide (d.redOp = 0) && tyFloat d.inTy
  if d.kind ≤ 2 then s.ringDa g
  else if d.kind = 3 then (if fp then 9 * m + 3 else 3 * m + 2)
  else if d.kind = 4 then 3 * m + 1
  else if d.kind = 5 then (if fp then 12 * m + 3 else 6 * m + 2)
  else if d.kind = 6 then 2 * s.ringDa g + 1
  else s.ringDa g + 2

/-- Columns of a member's share (R410, R441). -/
def State.columns (s : State) (g : Nat) (d : Desc) : Nat :=
  if d.kind = 5 then (d.count + 32 * s.grpN g - 1) / (32 * s.grpN g) else (d.count + 31) / 32

/-- Rounds of an instance, D + n − 1 (R411); none where COUNT is 0 (R398). -/
def State.roundsOf (s : State) (g : Nat) (d : Desc) : Nat :=
  let c := s.columns g d
  if c = 0 then 0 else s.depthOf g d + (c - 1) / s.grpSeg g / (6 * s.grpStrands g)

/-- The map fields that a group uses: direction, strand, field (R394, R402). -/
def State.usedFields (s : State) (g : Nat) : List (Nat × Nat × Nat) :=
  (s.mapFields g ((s.activeSet).getD 0)).filter (fun f => decide (1 < s.ringLen g (f.1 / 2)) && decide (f.2.1 < s.grpStrands g))

/-- The streams of one field serve the group (R402). -/
def State.fieldGood (s : State) (g : Nat) (f : Nat × Nat × Nat) : Bool :=
  match s.stream (fieldOut f.2.2), s.stream (fieldIn f.2.2) with
  | some o, some i =>
    decide (o.job = s.grpJob g) && decide (o.src = 6) && bitAt o.out f.1 && s.exposed o.tile &&
    decide (i.job = s.grpJob g) && decide (i.src = peerPort f.1) && i.tileOut && decide (i.tile = o.tile)
  | _, _ => false

/-- The stream of a queue serves the group. -/
def State.queueStream (s : State) (q : Nat) : Nat := (s.f (F.QMG_Q_SCHED_STREAM q)).toNat
def State.queueGood (s : State) (g q : Nat) : Bool :=
  match s.stream (s.queueStream q) with | some e => decide (e.job = s.grpJob g) | none => false

/-- The first stream that fails the checks of R402, with the queue that the event names. -/
def State.badStreamOf (s : State) (r : Run) : Option (Nat × Nat) :=
  let g := r.group.toNat
  let q0 := match r.lowest with | some m => m.2.1.toNat | none => 0
  match (s.usedFields g).find? (fun f => !s.fieldGood g f) with
  | some f => some (q0, fieldOut f.2.2)
  | none => match r.mems.find? (fun m => !s.queueGood g m.2.1.toNat) with
    | some m => some (m.2.1.toNat, s.queueStream m.2.1.toNat)
    | none => none

/-- Strand tiles, one entry for each strand and direction (R415). -/
def State.strandTiles (s : State) (g : Nat) : List Nat :=
  (s.usedFields g).filterMap (fun f => (s.stream (fieldOut f.2.2)).map (·.tile))

/-- The greatest LAG of the torus ports (R415). -/
def State.lagMax (s : State) : Nat := (List.range 6).foldl (fun m p => max m (s.f (F.DTT_PORT_LAG_LAG p)).toNat) 0

/-- Bytes that instances reserve on a tile. -/
def State.reserved (s : State) (t : Nat) : Nat :=
  (s.grp.runs.map (fun r => r.space * (r.tiles.filter (· == t)).length)).foldl (· + ·) 0

/-! ### Signature and verdict (R403-R407) -/

/-- The SIG that a record carries: for DISPATCH and COMBINE, SIG XOR DIGEST (R447). -/
def State.recSig (s : State) (d : Desc) : R64 := if d.opcode = 16 then d.sig else d.sig ^^^ s.emDigest d.emap

/-- The node's own record (R403). -/
def State.ownRec (s : State) (r : Run) : SigRec :=
  let ds := r.mems.filterMap s.memDesc
  let d0 := ds.head?
  let sig := match d0 with | some d => s.recSig d | none => 0
  let timed := match d0 with | some d => d.timed | none => false
  let start := match d0 with | some d => if d.timed then d.w 1 else 0 | none => 0
  let q0 := match r.mems with | m :: _ => s.queueStream m.2.1.toNat | [] => 0
  let reason : BitVec 4 :=
    if ds.any (fun d => s.recSig d != sig) then 1
    else if ds.any (fun d => d.timed != timed || (timed && d.w 1 != start)) then 3
    else if r.mems.any (fun m => s.queueStream m.2.1.toNat != q0) then 4
    else if r.excess then 5 else 0
  ⟨r.group, r.seq, sig, timed, start, r.formed, decide (reason ≠ 0), reason, s.node⟩

/-- What a received record differs in from the node's own; 0 for nothing (R405, R429). -/
def SigRec_differs (own x : SigRec) : BitVec 4 :=
  if x.bad then 6 else if x.sig ≠ own.sig then 2 else if x.timed ≠ own.timed ∨ x.start ≠ own.start then 3 else 0

/-- An instance ends with SIG_MISMATCH (R405). -/
def State.mismatchRun (s : State) (r : Run) (node : NodeId) (reason : BitVec 4) : State :=
  let s := (s.incF F.GRP_MISMATCH_CNT_COUNT 1).finishMems r stSigMismatch
  (s.postRun r 0x69 stSigMismatch (2 ^ 24 * node.toNat + reason.toNat)).dropRun r

/-- The greatest start slot in the records known (R407). -/
def Run.lastSlot (r : Run) (own : SigRec) : Nat := r.recs.foldl (fun m x => max m x.slot.toNat) own.slot.toNat

/-- The verdict, once every node's record is here (R405-R407): of an instance that is paused, once it has resumed. -/
def State.verdictRun (s : State) (r : Run) : State :=
  match r.own with
  | none => s
  | some own =>
    if r.verdict.isSome ∨ r.paused ∨ r.recs.length + 1 < (s.grpNodes r.group.toNat).length then s
    else if own.bad then s.mismatchRun r s.node own.reason
    else match r.recs.find? (fun x => SigRec_differs own x != 0) with
      | some x => s.mismatchRun r x.node (SigRec_differs own x)
      | none =>
        let start := if own.timed then r.start else BitVec.ofNat 64 (max (r.lastSlot own + 8) r.start.toNat)
        s.setRun { r with verdict := some true, start := start }

/-- Every local member has joined (R400). -/
def State.allJoined (s : State) (r : Run) : Bool := decide (r.mems.length = (s.localMems r.group.toNat).length)

/-- An instance whose local members have all joined begins (R402, R404, R415): refused, waiting for working store, or its record goes out.
A doppio follower starts no work of its own: an instance with strands on one waits too (R383). (DESIGN CHOICE, log entry 116.) -/
def State.beginRun (s : State) (r : Run) : State :=
  if r.own.isSome ∨ !s.allJoined r then s
  else match s.badStreamOf r with
    | some (q, st) =>
      let s := (s.finishMems r stRights).post (ev 0x4A stRights (2 ^ 16 * q + st) 0)
      s.dropRun r
    | none =>
      let g := r.group.toNat
      let tiles := s.strandTiles g
      let depth := match r.mems with
        | m :: _ => (match s.memDesc m with | some d => s.depthOf g d | none => 0)
        | [] => 0
      let space := 392 * s.grpSeg g * (depth + s.lagMax + 1)
      if tiles.any s.follower then s
      else if tiles.any (fun t => decide (0x100000 * workMiB (s.f (F.ENG_T_CTL_WORK t)) <
          s.reserved t + space * (tiles.filter (· == t)).length)) then s
      else
        let own := s.ownRec r
        let start := if own.timed then s.slotAt own.start else 0
        let r := { r with own := some own, start := start, tiles := tiles, space := space, since := s.now }
        ((s.emit (.sigRec r.inst own)).setRun r).verdictRun r

/-- Space may have freed: instances that wait for it try again. -/
def State.retryRuns (s : State) : State := (s.grp.runs.filter (fun r => r.own.isNone)).foldl State.beginRun s

/-- A record arrives on an IN stream (R404, R405): compared, kept, forwarded. -/
def State.recArrive (s : State) (i : Nat) (x : SigRec) : State :=
  match s.run i with
  | none => s
  | some r =>
    if x.group ≠ r.group ∨ x.node = s.node ∨ r.recs.any (fun y => y.node == x.node) ∨
        !(s.grpNodes r.group.toNat).contains x.node.toNat then s
    else
      let r := { r with recs := r.recs ++ [x] }
      ((s.emit (.sigRec i x)).setRun r).verdictRun r

/-! ### Joining (R399-R401, R416, R417) -/

/-- What the start of a COLL, DISPATCH or COMBINE comes to. -/
inductive Join where
  | wait
  | refuse
  | done (s : State)
  deriving DecidableEq, Repr

/-- A new instance of a descriptor. -/
def State.newRun (s : State) (g : Nat) (d : Desc) : Run :=
  { inst := ((List.range 64).find? (fun i => (s.run i).isNone)).getD 0, group := BitVec.ofNat 10 g, seq := d.seq, mems := [],
    formed := s.clk.slot, own := none, recs := [], verdict := none, start := 0, total := s.roundsOf g d, done := 0, inRound := false,
    paused := false, heldPosted := false, decisions := [], routes := none, trunc := false, tiles := [], space := 0, excess := false, sentOut := false,
    kept := [], since := s.now }

/-- The descriptor may join (R399, R448). -/
def State.mayJoin (s : State) (q : Nat) (d : Desc) : Bool :=
  let g := d.group
  let job := s.slotJob (s.qSlot q)
  s.grpLive g && (s.memberIx g (s.qAgent q)).isSome && decide (job = s.grpJob g) &&
  (decide (d.opcode = 16) || (s.emLive d.emap && decide (s.emGroup d.emap = g) && decide (s.emJob d.emap = job)))

/-- A member joins an instance, new, joining or paused (R400, R417). -/
def State.joinRun (s : State) (r : Run) (q : Nat) (idx : BitVec 16) (ix : Nat) (excess : Bool) : State :=
  let s := s.setDesc q idx (fun d => { d with st := .running })
  let r := { r with mems := r.mems ++ [(ix, BitVec.ofNat 10 q, idx)], excess := r.excess || excess }
  if !r.paused then (s.setRun r).beginRun r
  else if !s.allJoined r then s.setRun r
  else
    let from_ := r.mems.foldl (fun m x => max m (s.q x.2.1.toNat).runSlot.toNat) 0
    let start := BitVec.ofNat 64 from_ - BitVec.ofNat 64 (r.done * s.grpRound r.group.toNat)
    let r := { r with paused := false, start := start }
    (s.setRun r).verdictRun r

/-- A COLL, DISPATCH or COMBINE reaches its start. `over`: an ALLTOALLV SEND lies above COUNT. -/
def State.startColl (s : State) (q : Nat) (d : Desc) (excess : Bool) : Join :=
  if !s.mayJoin q d then .refuse
  else
    let ix := (s.memberIx d.group (s.qAgent q)).getD 0
    match s.runOf d.group with
    | some r =>
      if r.mems.any (fun m => m.1 == ix) ∨ (r.own.isSome ∧ !r.paused) then .wait else .done (s.joinRun r q d.idx ix excess)
    | none => if 64 ≤ s.grp.runs.length then .wait else .done (s.joinRun (s.newRun d.group d) q d.idx ix excess)

/-! ### Rounds (R408, R409, R414, R416) -/

/-- The slot in which round `n`, counted from 0, starts nominally. -/
def State.nominal (s : State) (r : Run) (n : Nat) : Nat := (r.start + BitVec.ofNat 64 (n * s.grpRound r.group.toNat)).toNat

/-- The instance's present round boundary lies at or after a slot (R416): while it waits for local members, for space or for a resume any slot
has come; the reference slot of an untimed one without verdict lies 8 slots after every start slot known at least. -/
def State.reached (s : State) (r : Run) (slot : R64) : Bool :=
  match r.own with
  | none => true
  | some o => r.paused || decide (slot.toNat ≤ if o.timed ∨ r.verdict.isSome then s.nominal r r.done else r.lastSlot o + 8)

/-- Members whose queue stops under RUN 0, the instance having reached the round that the stop names (R416). -/
def State.pausing (s : State) (r : Run) : List RunMember :=
  r.mems.filter (fun m =>
    decide (s.qState m.2.1.toNat = qStopping) && !(s.q m.2.1.toNat).jobStop &&
    s.reached r (s.q m.2.1.toNat).stopSlot)

/-- The instance pauses: word 2 of each pausing member says PAUSED with its rounds (R133, R416). One that has not begun goes on waiting for its
local members, and is gone without any. -/
def State.pauseRun (s : State) (r : Run) (ms : List RunMember) : State :=
  let s := ms.foldl (fun s m => match s.memDesc m with
    | some d =>
      s.pauseDesc m.2.1.toNat d.idx (fun d => { d with prog := r.done, st := .translated })
    | none => s) s
  let r := { r with paused := r.own.isSome, mems := r.mems.filter (fun m => !ms.contains m) }
  if r.own.isNone ∧ r.mems = [] then s.dropRun r else s.setRun r

/-- The instance knows its reference slot and may run rounds. -/
def Run.mayRound (r : Run) : Bool :=
  match r.own with | some o => !r.paused && (r.verdict.isSome || o.timed) | none => false

/-- Rounds that an instance without a verdict may start: until its working store is full (R406, R415; DEDUCED, log entry 130). -/
def State.storeRounds (s : State) (r : Run) : Nat := r.space / (392 * max 1 (s.grpSeg r.group.toNat))

/-- ROUND_START (R408). -/
def State.roundStart (s : State) (i : Nat) : State :=
  match s.run i with
  | none => s
  | some r =>
    if !r.mayRound ∨ r.inRound ∨ r.total ≤ r.done ∨ (r.verdict.isNone ∧ s.storeRounds r ≤ r.done) then s
    else match s.pausing r with
      | [] => if s.nominal r r.done ≤ s.clk.slot.toNat then s.setRun { r with inRound := true } else s
      | ms => s.pauseRun r ms

/-- ROUND_END (R414, R416). -/
def State.roundEnd (s : State) (i : Nat) : State :=
  match s.run i with
  | none => s
  | some r =>
    if !r.inRound then s
    else
      let r := { r with inRound := false, done := r.done + 1, since := s.now }
      let s := r.mems.foldl (fun s m => s.setDesc m.2.1.toNat m.2.2 (fun d => { d with prog := r.done })) (s.setRun r)
      match s.pausing r with
      | [] => s
      | ms => s.pauseRun r ms

/-- The instances of a stopping queue that run no round pause where they hold (R138, R141, R416). -/
def State.pauseHeld (s : State) (q : Nat) : State :=
  if !s.stopping q then s
  else (s.grp.runs.filter (fun r => !r.inRound && r.mems.any (fun m => m.2.1.toNat == q))).foldl (fun s r =>
    match s.pausing r with
    | [] => s
    | ms => s.pauseRun r ms) s

/-- An instance has held at its round boundary for more than HOLD × 1,024 tk: that long ago it stood there already, its round's nominal start,
where it has one, had come, and the tick lies in a slot after it (R408, R420). -/
def State.heldLong (s : State) (r : Run) : Bool :=
  let t := s.now.toNat - 1024 * (s.f F.GRP_CTL_HOLD).toNat
  decide (r.since.toNat < t) && (!r.mayRound || decide (s.nominal r r.done < (s.slotAt (BitVec.ofNat 64 (t + 1))).toNat))

/-- COLL_HELD (R420): once for an instance, while HOLD is not 0. -/
def State.collHeld (s : State) (i : Nat) : State :=
  match s.run i with
  | none => s
  | some r =>
    if r.heldPosted ∨ s.f F.GRP_CTL_HOLD = 0 ∨ r.inRound ∨ r.paused ∨ r.own.isNone ∨ !s.heldLong r then s
    else
      let s := (s.setRun { r with heldPosted := true }).setF (F.GRP_INST_STAT_STATE i) 5
      (s.postRun r 0x68 stOk r.done).setF F.GRP_STAT_HELD 1

/-- An abort record arrives (R422). -/
def State.abortArrive (s : State) (g : BitVec 10) (seq : R32) (st : Status) (origin : NodeId) : State :=
  match s.runOf g.toNat with
  | none => s
  | some r => if r.seq = seq then s.abortRun r st origin none else s

/-- Instances of a job end when it is stopped; their descriptors complete with their queues (R421, R685). -/
def State.dropRunsOf (s : State) (all : Bool) (j : JobId) : State :=
  (s.grp.runs.filter (fun r => decide (s.grpJob r.group.toNat = j) || (all && decide (s.grpJob r.group.toNat ≠ 0)))).foldl
    (fun s r => (s.finishMems r stJobStopped).dropRun r) s

/-- Instances that hold members at an expelled node end with TARGET_LOST (R421). -/
def State.expelRuns (s : State) (n : NodeId) : State :=
  (s.grp.runs.filter (fun r => (s.grpNodes r.group.toNat).contains n.toNat)).foldl
    (fun s r => (s.finishMems r stTargetLost).dropRun r) s

/-! ### Tiles -/

/-- RESIDUE_RETRY, RESIDUE_FAIL (R388). -/
def evResidueRetry (p n b : Nat) : Ev := ev 0x60 stOk (256 * p + n) b
def evResidueFail (l : List (BitVec 12 × JobId)) (received ended : Bool) (p n b : Nat) : Ev :=
  evOne (if ended then l else []) 0x61 (if ended then stDataLost else stOk) (2 ^ 16 * b2n received + 256 * p + n) b

/-- A tile's failure, with the end of the work it ran where no spare takes it (R378-R380). -/
def State.loseTile (s : State) (p : Nat) : State :=
  let n := (s.logicalOf p).getD 48
  if s.noSpare p then (s.tileFail p).abortTile n else s.tileFail p

/-- A step writes its outputs into the tile's slice, within the working store (R341-R343), and the instance it worked for keeps the place. The
place is the step's own (DESIGN CHOICE, log entry 118). -/
def State.tileWrite (s : State) (n : Nat) (w : TileWork) : State :=
  let bs := w.outs.flatten
  let keeps (r : Run) : Bool := w.run.any (fun i => decide (r.inst = i.toNat)) && r.tiles.contains n
  let s := s.workWrite n w.place.toNat bs
  { s with grp := { s.grp with runs := s.grp.runs.map (fun r =>
    if keeps r then { r with kept := r.kept ++ [(n * sliceSize + s.workStart n + w.place.toNat, bs.length)] } else r) } }

/-- The flits that a step produces wait in the staging of their streams' ports (R307, R310). -/
def State.tileFlits (s : State) (n : Nat) : List (BitVec 12 × Bytes) → State
  | [] => s
  | f :: fs => State.tileFlits (s.tileFlit n f.1.toNat f.2) n fs

/-- The first block that entered a tile's step, from a link or from the slice, with a residue that its header does not have (R371). -/
def badEntered (w : TileWork) : Option Nat :=
  let good := w.links.map (packedGood 32) ++ w.received.map residueGood
  (List.range good.length).find? (fun i => !good.getD i true)

/-- The first add of a run that does not check (R361, R371). -/
def badAdd (l : List AddRun) : Option Nat := (List.range l.length).find? (fun i => match l[i]? with | some x => !addGood x | none => false)

/-- A tile runs no step of its own: it is not exposed, unbound, waits for a spare (R379), or is a doppio follower (R383). -/
def State.tileStands (s : State) (n : Nat) : Bool :=
  !s.exposed n || s.phys n == 0x3F || s.eng.failed.any (fun f => f.1 == n) || s.follower n

/-- What a step that checks does: its outputs in the slice, its hashes, its flits. -/
def State.stepDone (s : State) (n : Nat) (w : TileWork) : State :=
  (((s.tileWrite n w).incF (F.ENG_T_STEPS_COUNT n) 1).leaderStep n (w.links ++ w.received) w.outs).tileFlits n w.flits

/-- One step of a tile (R371-R373, R384). -/
def State.tileStep (s : State) (n : Nat) (w : TileWork) : State :=
  if s.tileStands n then s
  else
    let p := s.phys n
    match badEntered w, badAdd w.adds, badAdd w.again with
    | some b, _, _ =>
      let l := s.tileCtxs n
      let s := (s.setF F.ENG_STAT_RESID 1).satF (F.ENG_T_RESID_FAILS n) 1
      (s.post (evResidueFail l true true p n b)).abortTile n
    | none, none, _ => s.stepDone n w
    | none, some b, none =>
      (((s.setF F.ENG_STAT_RESID 1).satF (F.ENG_T_RESID_RETRIES n) 1).post (evResidueRetry p n b)).stepDone n w
    | none, some b, some b2 =>
      let l := s.tileCtxs n
      let s := ((s.setF F.ENG_STAT_RESID 1).satF (F.ENG_T_RESID_RETRIES n) 1).post (evResidueRetry p n b)
      let s := (s.satF (F.ENG_T_RESID_FAILS n) 1).post (evResidueFail l false (s.noSpare p) p n b2)
      s.loseTile p

/-- The logical tile that works on column `q` (R410, R413): that of its strand, on the first axis of its part and in its half. -/
def State.colTile (s : State) (g q : Nat) : Nat :=
  let cg := q / max 1 (s.grpSeg g)
  let strand := cg / 2 % s.grpStrands g
  let part := cg / (2 * s.grpStrands g) % 3
  match s.stream (fieldOut (s.mapField g ((s.activeSet).getD 0) (2 * part + cg % 2) strand)) with
  | some e => e.tile
  | none => ((s.strandTiles g).head?).getD 0

/-- The event of a received block that fails its check, at the tile of its column (R373, R388). The tile and the index are read from R410
(DEDUCED, log entry 117). -/
def State.colFail (s : State) (r : Run) (q : Nat) : Ev :=
  let g := r.group.toNat
  let n := s.colTile g q
  evResidueFail (s.queueCtxs (r.mems.map (fun m => m.2.1.toNat))) true true (s.phys n) n
    (q % max 1 (s.grpSeg g))

/-- The counts of such a failure. -/
def State.colCount (s : State) (g q : Nat) : State := (s.setF F.ENG_STAT_RESID 1).satF (F.ENG_T_RESID_FAILS (s.colTile g q)) 1

/-! ### Commands -/

/-- TILE_STEP (R371). -/
def execTileStep (tile : BitVec 6) (work : TileWork) (s : State) : Host.Outcome State Fault Refusal :=
  whenUp s (fun s => s.tileStep tile.toNat work)

/-- TILE_FAILURE (R378). -/
def execTileFailure (phys : BitVec 6) (s : State) : Host.Outcome State Fault Refusal :=
  whenUp s (fun s => if phys.toNat < 56 then s.loseTile phys.toNat else s)

/-- SPARE_DISABLE (R378). -/
def execSpareDisable (phys : BitVec 6) (s : State) : Host.Outcome State Fault Refusal :=
  whenWr s (fun s => s.spareCmd State.loseTile 3 phys.toNat)

/-- SIGNATURE_RECORD (R405). -/
def execSignatureRecord (run : BitVec 6) (r : SigRec) (s : State) : Host.Outcome State Fault Refusal :=
  whenUp s (fun s => s.recArrive run.toNat r)

/-- ROUND_START (R408). -/
def execRoundStart (run : BitVec 6) (s : State) : Host.Outcome State Fault Refusal := whenUp s (fun s => s.roundStart run.toNat)

/-- ROUND_END (R416). -/
def execRoundEnd (run : BitVec 6) (s : State) : Host.Outcome State Fault Refusal := whenUp s (fun s => s.roundEnd run.toNat)

/-- QUEUE_IDLE (R138): what holds at a round boundary pauses; then a queue with nothing running is IDLE. -/
def execQueueIdle (q : BitVec 10) (s : State) : Host.Outcome State Fault Refusal := whenUp s (fun s => (s.pauseHeld q.toNat).queueIdle q.toNat)

/-- ABORT_RECORD (R422). -/
def execAbortRecord (group : BitVec 10) (seq : R32) (status : Status) (origin : NodeId) (s : State) : Host.Outcome State Fault Refusal :=
  whenUp s (fun s => s.abortArrive group seq status origin)

/-- COLL_HOLD_TIMEOUT (R420). -/
def execCollHoldTimeout (run : BitVec 6) (s : State) : Host.Outcome State Fault Refusal := whenUp s (fun s => s.collHeld run.toNat)

/-- EMAP_CMD_DONE (R445). -/
def execEmapCmdDone (s : State) : Host.Outcome State Fault Refusal :=
  whenUp s (fun s => s.emapDone (fun m => s.grp.runs.any (fun r =>
    r.mems.any (fun x => match s.memDesc x with | some d => decide (d.opcode ≠ 16) && decide (d.emap = m) | none => false))))

end Sys2Proof.Machine
end

