-- ==== Sys2Proof/Machine/DescXlt.lean ====
section
/-!
DEFINITION. A descriptor's operands, their translation, parking and waking, and the presence commands that wait for descriptors (R80-R91,
R120-R126, R132, R683).
-/

namespace Sys2Proof.Machine

/-! ### Fields of the 64-byte opcodes (R120, R121, R123) -/

def Desc.length (d : Desc) : Nat := w64 (d.w 5) 39 0
def Desc.srcBus (d : Desc) : Bool := bitAt (d.w 6).toNat 0
def Desc.dstBus (d : Desc) : Bool := bitAt (d.w 6).toNat 1
def Desc.rowSize (d : Desc) : Nat := w64 (d.w 6) 63 32
def Desc.indexCount (d : Desc) : Nat := w64 (d.w 6) 31 0
def Desc.mode (d : Desc) : Nat := w64 (d.w 7) 3 0
def Desc.gIn (d : Desc) : Nat := w64 (d.w 7) 7 4
def Desc.gOut (d : Desc) : Nat := w64 (d.w 7) 11 8
def Desc.atop (d : Desc) : Nat := w64 (d.w 6) 3 0
def Desc.awidth (d : Desc) : Nat := w64 (d.w 6) 5 4
def Desc.dtype (d : Desc) : Nat := w64 (d.w 6) 11 8
def Desc.records (d : Desc) : Nat := w64 (d.w 5) 31 0
def Desc.arm (d : Desc) : Bool := bitAt (d.w 5).toNat 0
def Desc.timeoutTk (d : Desc) : Nat := w64 (d.w 5) 31 0

/-- NOPRES of a COPY or a FILL (R122). -/
def Desc.nopres (d : Desc) : Bool := (d.opcode == 1 || d.opcode == 4) && bitAt (d.w 6).toNat 2

/-- COLL, DISPATCH, COMBINE. -/
def Desc.isColl (d : Desc) : Bool := decide (16 ≤ d.opcode ∧ d.opcode ≤ 18)

/-- An engine descriptor: one that moves or computes data on a tile (DEDUCED, log entry 30). -/
def Desc.isEngine (d : Desc) : Bool := d.isColl || decide (1 ≤ d.opcode ∧ d.opcode ≤ 5)

/-! ### Rows and experts that operands count (R448, R452) -/

/-- Experts of a map that an agent serves, in expert order. -/
def State.served (s : State) (m : Nat) (a : AgentId) : List Nat := (List.range (s.emCount m)).filter (fun e => s.exAgent m e == a)

/-- Blocks of a row, mask words of a row. -/
def Desc.rowBlocks (d : Desc) : Nat := (d.count + 31) / 32
def Desc.rowWords (d : Desc) : Nat := (d.rowBlocks + 63) / 64

/-- Rows of a member's experts (R452). -/
def State.capSum (s : State) (m : Nat) (a : AgentId) : Nat := ((s.served m a).map (s.exCap m)).foldl (· + ·) 0

/-! ### Translation (R86-R90, R126, R683) -/

/-- An operand to translate: its word, its extent in bytes, the rights it needs. An extent of 0 is translated by its first byte. -/
structure Opd where
  word : Nat
  len : Nat
  need : Need
  deriving DecidableEq, Repr

/-- Rows of a member's plan (R452), by its queue's agent. -/
def State.planBytes (s : State) (a : AgentId) (d : Desc) : Nat :=
  64 + 32 * (s.served d.emap a).length + 8 * (s.capSum d.emap a + s.emOvf d.emap) + 8 * (d.tokens * d.topk)

/-- The address operands of a descriptor, in word order (R120, R123, R124, R126, R396, R448, R456). -/
def State.operands (s : State) (q : Nat) (d : Desc) : List Opd :=
  let o := d.opcode
  let n := d.indexCount
  let m := s.grpN d.group
  let a := s.qAgent q
  let row := runBytes d.inTy d.count
  let mask (blocks : Nat) : Nat := 8 * ((blocks + 63) / 64)
  if o = 1 then
    (if d.length = 0 then [] else
      (if d.srcBus then [] else [⟨3, d.length, needR⟩]) ++ (if d.dstBus then [] else [⟨4, d.length, needW⟩]))
  else if o = 2 then [⟨3, d.rowSize, needR⟩, ⟨4, if d.mode = 1 then 1 else n * d.rowSize, needW⟩, ⟨5, 4 * n, needR⟩]
  else if o = 3 then [⟨3, n * d.rowSize, needR⟩, ⟨4, d.rowSize, needW⟩, ⟨5, 4 * n, needR⟩]
  else if o = 4 then (if d.length = 0 ∨ d.dstBus then [] else [⟨3, d.length, needW⟩])
  else if o = 5 then ⟨3, 32 * d.records, needR⟩ :: (if d.w 4 = 0 then [] else [⟨4, 8 * d.records, needW⟩])
  else if o = 6 then [⟨3, 8, needR⟩]
  else if o = 7 then [⟨3, 8, needA⟩]
  else if o = 16 then
    let src := if d.subop = 2 ∨ d.subop = 5 then 1 else runBytes d.inTy (if d.subop = 4 then d.count else m * d.count)
    let dst := if d.subop = 5 then 1 else runBytes d.outTy (if d.subop = 3 then d.count else m * d.count)
    let nb := d.count / 32
    [⟨6, src, needR⟩, ⟨7, dst, needW⟩] ++
    (if d.subop = 2 then [⟨8, 16 * m, needRW⟩] else if d.subop = 5 then [⟨8, 32, needRW⟩] else []) ++
    (if d.sieve then
      [⟨9, if d.subop = 2 then 1 else mask (if d.subop = 4 then nb else m * nb), needR⟩,
       ⟨10, mask (if d.subop = 3 then nb else m * nb), needW⟩]
     else [])
  else if o = 17 then
    [⟨6, d.tokens * row, needR⟩, ⟨8, 8 * (d.tokens * d.topk), needR⟩] ++
    (if d.sieve then [⟨9, 8 * (d.rowWords * d.tokens), needR⟩] else []) ++
    (if d.capMode = 1 then [⟨10, s.emOvf d.emap * row, needW⟩] else []) ++ [⟨11, s.planBytes a d, needW⟩]
  else if o = 18 then
    [⟨6, (s.capSum d.emap a + s.emOvf d.emap) * row, needR⟩, ⟨7, d.tokens * runBytes d.outTy d.count, needW⟩,
     ⟨8, 8 * (d.tokens * d.topk), needR⟩] ++
    (if d.sieve then
      [⟨9, 8 * (d.rowWords * (s.capSum d.emap a + s.emOvf d.emap)), needR⟩, ⟨10, 8 * (d.rowWords * d.tokens), needW⟩]
     else []) ++ [⟨11, s.planBytes a d, needR⟩]
  else []

/-- What the translation of a descriptor comes to: a failure with the operand word; the addresses of its absent pages, in operand order; or
its translation. -/
inductive XDesc where
  | fail (st : Status) (word : Nat)
  | absent (pages : List Nat)
  | ok
  deriving DecidableEq, Repr

/-- The addresses of the absent pages of an operand. -/
def pageVas (e : RangeE) (pages : List Nat) : List Nat := pages.map (fun p => e.vaStart + 65536 * p)

/-- Operands in order: the first failure of checks 1 to 4 (R88), else the absent pages (R89). -/
def State.xlateAll (s : State) (slot : Nat) (d : Desc) : List Opd → XDesc
  | [] => .ok
  | p :: ps =>
    match s.translate slot (d.w p.word) (max 1 p.len) p.need (!d.nopres), s.xlateAll slot d ps with
    | .fail st, _ => .fail st p.word
    | _, .fail st w => .fail st w
    | .ok _, x => x
    | .absent e _ _, x =>
      .absent (pageVas e (s.absentPages e (d.w p.word).toNat (max 1 p.len)) ++ (match x with | .absent l => l | _ => []))

/-- The pause page of a descriptor is absent (R90). -/
def State.pauseAbsent (s : State) (slot : Nat) (d : Desc) : List Nat :=
  match d.pauseVa with
  | none => []
  | some va =>
    match s.findRange slot va.toNat 1 with
    | some e => if e.presEn && !s.present e ((va.toNat - e.vaStart) / 65536) then [va.toNat] else []
    | none => []

/-- Translate a descriptor under the table in force; a pause page that is absent counts as its first absent page (R90). -/
def State.xlateDesc (s : State) (q : Nat) (d : Desc) : XDesc :=
  match s.xlateAll (s.qSlot q) d (s.operands q d), s.pauseAbsent (s.qSlot q) d with
  | .fail st w, _ => .fail st w
  | x, [] => x
  | .absent l, p => .absent (p ++ l)
  | .ok, p => .absent p

/-- A descriptor enters the fault queue (R89, R132): its event names the first absent page and how many its operands have (R85). While the
queue is full it waits, translated again when its start comes (DESIGN CHOICE, log entry 88). -/
def State.park (s : State) (q : Nat) (idx : BitVec 16) (pages : List Nat) : State :=
  if 1023 ≤ s.parkedCount then s.setDesc q idx (fun d => { d with st := .held })
  else
    let s := s.setDesc q idx (fun d => { d with st := .parked, faultVa := BitVec.ofNat 64 (pages.headD 0) })
    let s := if 1023 ≤ s.parkedCount then s.setF F.QMG_STAT_FQ_FULL 1 else s
    s.faultDesc q idx (pages.headD 0) (nub pages).length

/-- A running descriptor parks at a page that it met absent (R91): the page is its pause page, and the first of its absent pages. -/
def State.parkAt (s : State) (q : Nat) (idx : BitVec 16) (va : Nat) (f : Desc → Desc) : State :=
  let s := s.pauseDesc q idx (fun d => { f d with st := .held, pauseVa := some (BitVec.ofNat 64 va) })
  match s.desc q idx with
  | none => s
  | some d => s.park q idx (va :: (match s.xlateAll (s.qSlot q) d (s.operands q d) with | .absent l => l | _ => []))

/-- The operand at a word fails check 2: the queue's binding names no resident context, where check 1 holds (R78). -/
def State.absentAt (s : State) (q : Nat) (d : Desc) (word : Nat) : Bool :=
  s.on F.XLT_CTL_EN && decide ((d.w word).toNat < 2 ^ 57) && !s.resident (s.qSlot q)

/-- The result of a descriptor's translation takes effect: done with the failure, parked, or translated (R127). -/
def State.applyXlate (s : State) (q : Nat) (idx : BitVec 16) : State :=
  match s.desc q idx with
  | none => s
  | some d =>
    let slot := s.qSlot q
    let s := s.setDesc q idx (fun d => { d with epoch := s.slotEpoch slot, tbl := s.slotTbl slot, job := s.slotJob slot })
    match s.xlateDesc q d with
    | .fail st w =>
      let s := if s.absentAt q d w then s.absentDesc q else s
      (s.setDesc q idx (fun d => { d with faultWord := BitVec.ofNat 4 w })).completeDesc q idx st
    | .absent l => if d.st = .parked ∧ d.faultVa = BitVec.ofNat 64 (l.headD 0) then s else s.park q idx l
    | .ok => s.setDesc q idx (fun d => { d with st := .translated, pauseVa := none })

/-- Translate the parked descriptors of some queues again (R90). -/
def State.wakeQueues (s : State) : List Nat → State
  | [] => s
  | q :: qs =>
    let s := ((s.q q).descs.filter (fun d => decide (d.st = .parked))).foldl (fun s d => s.applyXlate q d.idx) s
    s.wakeQueues qs

/-! ### SET and CLEAR (R80-R82, R90) -/

/-- SET (R80, R81, R90). -/
def State.presSet (s : State) (wake : Bool) (slot count : Nat) : State :=
  s.presCmd slot count (fun ps s =>
    let s := s.presAll (s.slotCtx slot) true ps
    if wake then s.wakeQueues (s.queuesOf slot) else s)

/-- The request has read one of the pages as present. -/
def Ent.touches (e : Ent) (slot : Nat) (vas : List Nat) : Bool :=
  decide (e.slot.toNat = slot) && e.req.isSome && vas.any (fun v => decide (e.va.toNat / 65536 = v / 65536))

/-- A step of a descriptor that reads presence is in progress: an engine descriptor runs, its instance being in a round where it is a
collective (R81, R91). -/
def State.stepRuns (s : State) (q : Nat) (d : Desc) : Bool :=
  decide (d.st = .running) && d.isEngine && !d.nopres &&
  (!d.isColl || s.grp.runs.any (fun r => r.inRound && r.mems.any (fun m => m.2.1.toNat == q && m.2.2 == d.idx)))

/-- A descriptor's step read one of some pages as present: an operand, as translated, holds it. -/
def State.stepTouches (s : State) (q : Nat) (d : Desc) (vas : List Nat) : Bool :=
  s.stepRuns q d && (s.operands q d).any (fun p =>
    let a := (d.w p.word).toNat
    vas.any (fun v => decide (a / 65536 ≤ v / 65536 ∧ v / 65536 ≤ (a + (max 1 p.len - 1)) / 65536)))

/-- CLEAR (R81): the bits fall; BUSY stays until the requests and the steps that saw them present are done. -/
def State.presClear (s : State) (slot count : Nat) : State :=
  s.presCmd slot count (fun ps s =>
    let vas := ps.map (fun p => p.1.vaStart + 65536 * p.2)
    let readers := (s.ep.ents.filter (fun e => e.live && e.touches slot vas)).map (·.id)
    let descs := (s.queuesOf slot).flatMap (fun q =>
      ((s.q q).descs.filter (fun d => s.stepTouches q d vas)).map (fun d => (BitVec.ofNat 10 q, d.idx)))
    let s := s.presAll (s.slotCtx slot) false ps
    { (s.setF F.XLT_PRES_STAT_BUSY 1) with xlt := { s.xlt with clearing := some (readers, descs) } })

/-- A step of a descriptor is still in progress. -/
def State.descSteps (s : State) (q : BitVec 10) (idx : BitVec 16) : Bool :=
  (s.q q.toNat).descs.any (fun d => d.idx == idx && s.stepRuns q.toNat d)

/-- The readers of a CLEAR are done (R81): BUSY falls; while one remains, nothing happens. -/
def State.clearDone (s : State) : State :=
  match s.xlt.clearing with
  | some (ids, ds) =>
    if s.ep.ents.any (fun e => e.live && ids.contains e.id) || ds.any (fun d => s.descSteps d.1 d.2) then s
    else { (s.setF F.XLT_PRES_STAT_BUSY 0) with xlt := { s.xlt with clearing := none } }
  | none => s

/-- SET (R81). -/
def execSet (wake : Bool) (countM1 : BitVec 12) (slot : BitVec 10) (s : State) : Host.Outcome State Fault Refusal :=
  whenWr s (fun s => s.presSet wake slot.toNat (countM1.toNat + 1))

/-- CLEAR (R81). -/
def execClear (countM1 : BitVec 12) (slot : BitVec 10) (s : State) : Host.Outcome State Fault Refusal :=
  whenWr s (fun s => s.presClear slot.toNat (countM1.toNat + 1))

/-- CLEAR_DRAIN_DONE (R81). -/
def execClearDrainDone (s : State) : Host.Outcome State Fault Refusal := whenUp s State.clearDone

end Sys2Proof.Machine
end

