-- ==== Sys2Proof/Machine/CollOps.lean ====
section
/-!
DEFINITION. What a collective computes and writes (R396-R398, R411-R413, R421, R430-R441): the exchange, the reductions, the sparse
reduction. The elements of members at other nodes arrive as operands.
-/

namespace Sys2Proof.Machine

/-- How many of a list satisfy a test. -/
def countIf {α : Type} (p : α → Bool) (l : List α) : Nat := (l.filter p).length

/-! ### Operands of a member -/

/-- Work goes on with another member's descriptor. -/
def Io.at (i : Io) (q : Nat) (d : Desc) : Io :=
  { i with q := q, agent := i.s.qAgent q, job := d.job, slot := i.s.qSlot q, tbl := some d.tbl, err := none, pause := none, sat := false }

/-- The work of an instance starts with the answers of its operations. -/
def State.runIo (s : State) (resps : List Resp) : Io := ⟨s, 0, 0, 0, 0, none, false, resps, none, none, false, false⟩

/-- What stops the work at a member: a failure, with its operand word; an absent page at which a DISPATCH or a COMBINE pauses (R91). -/
inductive RunStop where
  | fail (m : RunMember) (st : Status) (word : Nat)
  | page (m : RunMember) (va : Nat)
  deriving DecidableEq, Repr

/-- The stop of a member's work: in a COLL an absent page is a failure with XLATE_FAULT (R683). -/
def Io.stop (i : Io) (coll : Bool) (m : RunMember) : Option RunStop :=
  match i.err, i.pause with
  | some (st, w), _ => some (.fail m st w)
  | none, some (va, w) => some (if coll then .fail m stXlate w else .page m va)
  | none, none => none

/-- Blocks of 32 elements of a run, the last one padded with zeros (R410). -/
def blocksOf (c n : Nat) (bs : Bytes) : List Bytes := (List.range ((n + 31) / 32)).map (fun b => slice bs (b * blkBytes c) (blkBytes c))

/-- The bits of a mask (R430). -/
def maskBits (bs : Bytes) (n : Nat) : List Bool := (List.range n).map (fun i => bitAt (bs.getD (i / 8) 0).toNat (i % 8))

/-- A mask as bytes of whole words. -/
def maskBytes (l : List Bool) : Bytes :=
  (List.range ((l.length + 63) / 64)).flatMap (fun w =>
    natLe 8 (((List.range 64).map (fun i => b2n (l.getD (64 * w + i) false) * 2 ^ i)).foldl (· + ·) 0))

/-- The source mask of a descriptor over `n` blocks, where SIEVE is set (R431). -/
def Io.mask (i : Io) (d : Desc) (n : Nat) : Option (List Bool) × Io :=
  if d.sieve then
    let (bs, i) := i.loadOp d 9 (d.w 9).toNat (8 * ((n + 63) / 64))
    (some (maskBits bs n), i)
  else (none, i)

/-- Read present blocks one by one; an absent one is not read (R432). -/
def Io.readBlocks (d : Desc) (word va c : Nat) : Nat → List Bool → Io → List (Option Bytes) × Io
  | _, [], i => ([], i)
  | b, p :: ps, i =>
    let (x, i) := if p then
        let (bs, i) := i.loadOp d word (va + b * blkBytes c) (blkBytes c)
        (some bs, i)
      else (none, i)
    let (xs, i) := Io.readBlocks d word va c (b + 1) ps i
    (x :: xs, i)

/-- Read `n` elements of an operand as blocks. -/
def Io.readRun (i : Io) (d : Desc) (word va c n : Nat) (mask : Option (List Bool)) : List (Option Bytes) × Io :=
  match mask with
  | some m => Io.readBlocks d word va c 0 m i
  | none =>
    let (bs, i) := i.loadOp d word va (runBytes c n)
    ((blocksOf c n bs).map some, i)

/-- Write blocks: a block not sent leaves the bytes unchanged with SIEVE and is written as zeros without (R434). -/
def Io.writeBlocks (d : Desc) (word va c : Nat) (sieve : Bool) : Nat → Nat → List (Option Bytes) → Io → Io
  | _, _, [], i => i
  | b, left, x :: xs, i =>
    let n := runBytes c (min 32 left)
    let i := match x with
      | some bs => i.storeOp d word (va + b * blkBytes c) (bs.take n)
      | none => if sieve then i else i.storeOp d word (va + b * blkBytes c) (zeros n)
    Io.writeBlocks d word va c sieve (b + 1) (left - 32) xs i

/-- Write regions of `n` elements and stride `cap`, then the destination mask (R430, R434, R435). -/
def Io.writeRegions (d : Desc) (c cap : Nat) : Nat → List (Nat × List (Option Bytes)) → Io → Io
  | _, [], i => i
  | k, (n, bl) :: rest, i =>
    Io.writeRegions d c cap (k + 1) rest (Io.writeBlocks d 7 ((d.w 7).toNat + runBytes c (k * cap)) c d.sieve 0 n bl i)

def Io.writeOut (i : Io) (d : Desc) (c cap : Nat) (regs : List (Nat × List (Option Bytes))) : Io :=
  let i := Io.writeRegions d c cap 0 regs i
  if d.sieve then
    i.storeOp d 10 (d.w 10).toNat (maskBytes (regs.flatMap (fun r =>
      (List.range ((cap + 31) / 32)).map (fun b => match r.2[b]? with | some (some _) => true | _ => false))))
  else i

/-- The sender's rule (R433): a block of zero bytes is not sent. -/
def sentBlock : Option Bytes → Option Bytes
  | some bs => if bs.all (· == 0) then none else some bs
  | none => none

/-! ### Sieve groups (R433) -/

/-- A group of up to 64 blocks: the mask of those sent, then those, in block order. -/
def sieveGroup (l : List (Option Bytes)) : Bytes := maskBytes (l.map (·.isSome)) ++ (l.filterMap id).flatten

/-- Blocks in sieve groups, from block 0 on. -/
def sieveGroups (l : List (Option Bytes)) : Bytes := (List.range ((l.length + 63) / 64)).flatMap (fun g => sieveGroup ((l.drop (64 * g)).take 64))

/-- The blocks of one group, by its mask, and what follows it. -/
def readGroup (size : Nat) : List Bool → Bytes → List (Option Bytes) × Bytes
  | [], bs => ([], bs)
  | p :: ps, bs =>
    let (l, rest) := readGroup size ps (if p then bs.drop size else bs)
    ((if p then some (bs.take size) else none) :: l, rest)

/-- The `n` blocks that some groups hold. -/
def readGroups (size : Nat) : Nat → Nat → Bytes → List (Option Bytes)
  | 0, _, _ => []
  | g + 1, n, bs =>
    let (l, rest) := readGroup size (maskBits (bs.take 8) (min 64 n)) (bs.drop 8)
    l ++ readGroups size g (n - 64) rest

/-- The `n` blocks of a type that arrived. -/
def groupBlocks (c n : Nat) (bs : Bytes) : List (Option Bytes) := readGroups (blkBytes c) ((n + 63) / 64) n bs

/-! ### The end of an instance -/

/-- A member's result: its status with the operand word of a failure, SAT, DROP. -/
structure MemEnd where
  m : RunMember
  st : Status
  word : Nat
  sat : Bool
  drop : Bool
  deriving DecidableEq, Repr

/-- The members' descriptors finish, and the instance is over. -/
def State.endRun (s : State) (r : Run) (l : List MemEnd) : State :=
  let s := l.foldl (fun s e => s.finish e.m.2.1.toNat e.m.2.2 e.st (fun d =>
    { d with prog := r.done, sat := d.sat || e.sat, drop := d.drop || e.drop, faultWord := BitVec.ofNat 4 e.word })) s
  (s.dropRun r).retryRuns

/-- Members of a DISPATCH or a COMBINE pause at absent pages (R91): each is parked with its rounds as PROGRESS, and the instance waits for
them as one that is paused. -/
def State.parkMems (s : State) (r : Run) (l : List (RunMember × Nat)) : State :=
  let s := l.foldl (fun s x => s.parkAt x.1.2.1.toNat x.1.2.2 x.2 (fun d => { d with prog := r.done })) s
  s.setRun { r with paused := true, mems := r.mems.filter (fun m => !l.any (fun x => x.1 == m)) }

/-- The instance's data are due: agreement, and every round done (R406, R408). -/
def Run.due (r : Run) : Bool := decide (r.verdict = some true) && !r.inRound && decide (r.total ≤ r.done) && !r.paused

/-- Local members in the order of their indices, with their descriptors. -/
def State.runMems (s : State) (r : Run) : List ((Nat × BitVec 10 × BitVec 16) × Desc) :=
  (s.localMems r.group.toNat).filterMap (fun ix =>
    match r.mems.find? (fun m => m.1 == ix) with
    | some m => (s.memDesc m).map (fun d => (m, d))
    | none => none)

/-- Read something at every local member; the first stop ends the reading (R91, R421). -/
def Io.readAll {β : Type} (coll : Bool) (f : Desc → Io → β × Io) : List (RunMember × Desc) → Io → List (Nat × β) × Option RunStop × Io
  | [], i => ([], none, i)
  | (m, d) :: rest, i =>
    let (x, i) := f d (i.at m.2.1.toNat d)
    match i.stop coll m with
    | some st => ([], some st, i)
    | none =>
      let (xs, st, i) := Io.readAll coll f rest i
      ((m.1, x) :: xs, st, i)

/-- Write something at every local member; a failure is that member's alone (R421). With the members that meet an absent page. -/
def Io.writeAll (coll : Bool) (f : Nat → Desc → Io → Bool × Io) : List (RunMember × Desc) → Io → List MemEnd × List (RunMember × Nat) × Io
  | [], i => ([], [], i)
  | (m, d) :: rest, i =>
    let (drop, i) := f m.1 d (i.at m.2.1.toNat d)
    let stop := i.stop coll m
    let sat := i.sat
    let (es, ps, i) := Io.writeAll coll f rest i
    match stop with
    | some (.page _ va) => (es, (m, va) :: ps, i)
    | some (.fail _ st w) => (⟨m, st, w, sat, drop⟩ :: es, ps, i)
    | none => (⟨m, stOk, 0, sat, drop⟩ :: es, ps, i)

/-- Run the data stage of an instance of one kind: read, check, send once, write, end; nothing is written where COUNT is 0 (R398). At an
absent page of a DISPATCH or a COMBINE its member parks, and the stage is done again in full once that has resumed (R91, R134). `check`: what
else ends the instance under R422, with the column of a received block that failed its own check (R373). -/
def State.stage {β : Type} (s : State) (inst : Nat) (kind : Nat) (resps : List Resp) (read : Run → Desc → Io → β × Io)
    (write : Run → List (Nat × β) → Nat → Desc → Io → Bool × Io) (send : State → Run → Desc → List (Nat × β) → State)
    (check : State → Run → Desc → List (Nat × β) → Option (Status × Option Nat)) : State :=
  match s.run inst with
  | none => s
  | some r =>
    let ms := s.runMems r
    let coll := decide (kind ≤ 5)
    match ms with
    | [] => s
    | (_, d) :: _ =>
      if !r.due ∨ d.kind ≠ kind then s
      else if d.count = 0 then s.endRun r (ms.map (fun m => ⟨m.1, stOk, 0, false, false⟩))
      else
        let (xs, stop, i) := Io.readAll coll (read r) ms (s.runIo resps)
        match stop, check i.s r d xs with
        | some (.page m va), _ => i.s.parkMems r [(m, va)]
        | some (.fail m st w), _ => i.s.abortRun r st s.node (some (m, w))
        | none, some (st, none) => i.s.abortRun r st s.node none
        | none, some (st, some q) =>
          ((i.s.colCount r.group.toNat q).post (i.s.colFail r q)).abortRun r st s.node none
        | none, none =>
          let i := if r.sentOut then i else { i with s := send i.s r d xs }
          let (es, ps, i) := Io.writeAll coll (write r xs) ms i
          if ps = [] then i.s.endRun r es else i.s.parkMems { r with sentOut := true } ps

/-! ### Movement and dense reduction -/

/-- The blocks that member `a` gives to member `b`, `n` of its elements: a local member's own, or those that arrived. -/
def blocksFrom (c : Nat) (xs : List (Nat × List (Nat × List (Option Bytes)))) (others : List Xfer) (a b : Nat) : Nat × List (Option Bytes) :=
  match xs.find? (fun x => x.1 == a) with
  | some x => x.2.getD b (0, [])
  | none => match others.find? (fun o => o.src.toNat == a && o.dst.toNat == b) with
    | some o => (o.n.toNat, groupBlocks c ((o.n.toNat + 31) / 32) o.groups)
    | none => (0, [])

/-- Regions of an operand, one for each member: `n` elements each, in member order (R396). -/
def Io.readRegions (d : Desc) (word va c n : Nat) : Nat → Nat → Option (List Bool) → Io → List (Nat × List (Option Bytes)) × Io
  | 0, _, _, i => ([], i)
  | k + 1, at_, mask, i =>
    let nb := (n + 31) / 32
    let (bl, i) := i.readRun d word (va + runBytes c at_) c n (mask.map (fun m => (m.drop (at_ / 32)).take nb))
    let (rest, i) := Io.readRegions d word va c n k (at_ + n) mask i
    ((n, bl) :: rest, i)

/-- What goes to members at other nodes. -/
def State.sendXfers (s : State) (r : Run) (xs : List (Nat × List (Nat × List (Option Bytes)))) : State :=
  xs.foldl (fun s x => ((List.range x.2.length).filter (fun b => agentNode (s.grpMember r.group.toNat b) != s.node)).foldl (fun s b =>
    let y := x.2.getD b (0, [])
    s.emit (.collData r.inst ⟨BitVec.ofNat 8 x.1, BitVec.ofNat 8 b, BitVec.ofNat 40 y.1, sieveGroups y.2⟩)) s) s

/-- ALLTOALL and REDUCE_SCATTER read NMEM regions of COUNT elements; ALL_GATHER reads COUNT elements for every member (R396). -/
def State.readSrc (s : State) (r : Run) (d : Desc) (i : Io) : List (Nat × List (Option Bytes)) × Io :=
  let n := s.grpN r.group.toNat
  if d.kind = 4 then
    let (m, i) := i.mask d ((d.count + 31) / 32)
    let (bl, i) := i.readRun d 6 (d.w 6).toNat d.inTy d.count m
    (List.replicate n (d.count, bl.map sentBlock), i)
  else
    let (m, i) := i.mask d (n * ((d.count + 31) / 32))
    let (rs, i) := Io.readRegions d 6 (d.w 6).toNat d.inTy d.count n 0 m i
    (if d.kind = 1 then rs.map (fun x => (x.1, x.2.map sentBlock)) else rs, i)

/-- Count saturated blocks (R366). -/
def Io.countSat (i : Io) (n : Nat) : Io := if n = 0 then i else { i with s := i.s.incF F.ENG_SAT_CNT_COUNT n, sat := true }

/-- ALLTOALL (R396), ALL_GATHER. -/
def State.dense (s : State) (inst kind : Nat) (others : List Xfer) (resps : List Resp) : State :=
  s.stage inst kind resps (fun r d i => s.readSrc r d i)
    (fun r xs ix d i =>
      let from_ := (List.range (s.grpN r.group.toNat)).map (fun a => blocksFrom d.inTy xs others a ix)
      (false, i.writeOut d d.outTy d.count (from_.map (fun x => (d.count, x.2.map sentBlock)))))
    (fun s r _ xs => s.sendXfers r xs) (fun _ _ _ _ => none)

/-! ### REDUCE_SCATTER (R411-R413) -/

/-- What the members of this node read: for each, its regions. -/
abbrev Reads := List (Nat × List (Nat × List (Option Bytes)))

/-- Columns of a descriptor's output. -/
def Desc.cols (d : Desc) : Nat := (d.count + 31) / 32

/-- A floating-point add sums in a window that the contributors agree on first (R353, R411). -/
def Desc.sumFp (d : Desc) : Bool := decide (d.redOp = 0) && tyFloat d.inTy

/-- The local members' contributions to block `k` of member `b`, in the order of the members. -/
def localParts (xs : Reads) (b k : Nat) : List (Option Bytes) := xs.map (fun x => (x.2.getD b (0, [])).2.getD k none)

/-- This node's exponent byte for each block of member `b` (R355); none are sent where the reduction needs none. -/
def ownExps (d : Desc) (xs : Reads) (b : Nat) : List (BitVec 8) :=
  if d.sumFp then (List.range d.cols).map (fun k => BitVec.ofInt 8 (blockExp d.inTy (localParts xs b k))) else []

/-- The exponent E_b of block `k` of member `b` (R356, R412): the greatest of all nodes' bytes. -/
def colExp (d : Desc) (xs : Reads) (others : List PartX) (b k : Nat) : Int :=
  if d.sumFp then maxInt (blockExp d.inTy (localParts xs b k) ::
    (others.filter (fun o => o.dst.toNat == b)).map (fun o => (o.exps.getD k 0x80).toInt))
  else 0

/-- This node's share of each block of member `b` (R413). -/
def nodeParts (d : Desc) (xs : Reads) (others : List PartX) (b : Nat) : List (Option Share) :=
  (List.range d.cols).map (fun k => nodeShare d.inTy d.redOp (colExp d xs others b k) (localParts xs b k))

/-- The nodes of a group other than this one. -/
def State.otherNodes (s : State) (g : Nat) : List Nat := dropWhere (· == s.node.toNat) (s.grpNodes g)

/-- The block that a node gives to column `k` of member `b`, as it arrived. -/
def partFrom (others : List PartX) (b k node : Nat) : Option Bytes :=
  (others.find? (fun o => o.node.toNat == node && o.dst.toNat == b)).bind (fun o => o.blocks.getD k none)

/-- What goes to the other nodes (R363, R411-R413): the exponent bytes of every member's blocks, and the shares of the blocks of members
there. -/
def State.sendParts (s : State) (r : Run) (d : Desc) (xs : Reads) (others : List PartX) : State :=
  (List.range (s.grpN r.group.toNat)).foldl (fun s b =>
    let here := decide (agentNode (s.grpMember r.group.toNat b) = s.node)
    let blocks := if here then [] else (nodeParts d xs others b).map (fun x => x.map (Share.wire d.inTy))
    s.emit (.collPart r.inst ⟨s.node, BitVec.ofNat 8 b, ownExps d xs b, blocks⟩)) s

/-- The output blocks of member `b`, and how many count under R366 (R364-R368, R413). -/
def State.reduced (s : State) (g : Nat) (d : Desc) (xs : Reads) (others : List PartX) (b : Nat) : List (Option Bytes) × Nat :=
  let mine := nodeParts d xs others b
  let out := (List.range d.cols).map (fun k =>
    mergeShares d.inTy d.outTy d.redOp (mine.getD k none ::
      (s.otherNodes g).map (fun m => (partFrom others b k m).map (readShare d.inTy d.redOp))))
  (out.map (fun x => x.map (fun y => patBytes d.outTy y.1)), countIf (fun (x : Option (List Nat × Bool)) => match x with | some y => y.2 | none => false) out)

/-- The first column with a received block that ends the instance (R371, R373). -/
def State.badPart (s : State) (r : Run) (d : Desc) (xs : Reads) (others : List PartX) : Option Nat :=
  if d.redOp ≠ 0 then none
  else (List.range d.cols).find? (fun k => xs.any (fun x => (s.otherNodes r.group.toNat).any (fun m =>
    match partFrom others x.1 k m with | some bs => partBad d.inTy 32 (colExp d xs others x.1 k) bs | none => false)))

/-- REDUCE_SCATTER (R411-R413). -/
def State.reduceScatter (s : State) (inst : Nat) (others : List PartX) (resps : List Resp) : State :=
  s.stage inst 3 resps (fun r d i => s.readSrc r d i)
    (fun r xs ix d i =>
      let (bl, sats) := s.reduced r.group.toNat d xs others ix
      (false, (i.countSat sats).writeOut d d.outTy d.count [(d.count, bl)]))
    (fun s r d xs => s.sendParts r d xs others)
    (fun s r d xs => (s.badPart r d xs others).map (fun q => (stDataLost, some q)))

/-! ### ALLTOALLV (R397) -/

/-- The SEND counts of the AUX records. -/
def sendsOf (bs : Bytes) (n : Nat) : List Nat := (List.range n).map (fun j => bitsAt (leNat (slice bs (16 * j) 8)) 0 40)

/-- Read the packed elements for each destination. -/
def Io.readPacked (d : Desc) : List Nat → Nat → Option (List Bool) → Io → List (Nat × List (Option Bytes)) × Io
  | [], _, _, i => ([], i)
  | n :: ns, at_, mask, i =>
    let (bl, i) := i.readRun d 6 ((d.w 6).toNat + runBytes d.inTy at_) d.inTy n (mask.map (fun m => (m.drop (at_ / 32)).take ((n + 31) / 32)))
    let (rest, i) := Io.readPacked d ns (at_ + n) mask i
    ((n, bl.map sentBlock) :: rest, i)

/-- Write RECV of each record (R397). -/
def Io.writeRecv (d : Desc) : Nat → List (Nat × List (Option Bytes)) → Io → Io
  | _, [], i => i
  | j, x :: xs, i => Io.writeRecv d (j + 1) xs (i.storeOp d 8 ((d.w 8).toNat + 16 * j + 8) (natLe 8 x.1))

/-- ALLTOALLV (R397): region `a` of DST takes member `a`'s elements from its start. -/
def State.exchangeV (s : State) (inst : Nat) (others : List Xfer) (resps : List Resp) : State :=
  s.stage inst 2 resps
    (fun r d i =>
      let n := s.grpN r.group.toNat
      let (bs, i) := i.loadOp d 8 (d.w 8).toNat (16 * n)
      let sends := sendsOf bs n
      let (m, i) := i.mask d ((sends.foldl (· + ·) 0 + 31) / 32)
      Io.readPacked d sends 0 m i)
    (fun r xs ix d i =>
      let from_ := (List.range (s.grpN r.group.toNat)).map (fun a => blocksFrom d.inTy xs others a ix)
      let i := i.writeOut d d.outTy d.count (from_.map (fun x => (x.1, x.2.map sentBlock)))
      (false, Io.writeRecv d 0 from_ i))
    (fun s r _ xs => s.sendXfers r xs) (fun _ _ _ _ => none)

/-! ### SPARSE_REDUCE (R437-R441) -/

/-- One pair: index, and its block of values with the place of its own (R437). -/
structure Pair where
  ix : Nat
  blk : Bytes
  pos : Nat
  deriving DecidableEq, Repr

/-- Pairs of one pair block. -/
def pairsOf (c : Nat) (bs : Bytes) (n : Nat) : List Pair :=
  (List.range (min 32 n)).map (fun j => ⟨leNat (slice bs (4 * j) 4), slice bs 128 (blkBytes c), j⟩)

/-- Pairs of a run of pair blocks. -/
def pairRun (c : Nat) : List Bytes → Nat → List Pair
  | [], _ => []
  | b :: bs, n => pairsOf c b n ++ pairRun c bs (n - 32)

/-- The fault of a list of pairs (R439): an index out of range, or one that decreases. -/
def pairFault (count : Nat) : Option Nat → List Pair → Option Status
  | _, [] => none
  | last, p :: ps =>
    if count ≤ p.ix then some stXlate
    else if last.any (fun l => decide (p.ix < l)) then some stRights
    else pairFault count (some p.ix) ps

/-- Insert into a sorted list. -/
def insertBy {α : Type} (le : α → α → Bool) (x : α) : List α → List α
  | [] => [x]
  | y :: ys => if le x y then x :: y :: ys else y :: insertBy le x ys
def sortBy {α : Type} (le : α → α → Bool) (l : List α) : List α := l.foldr (insertBy le) []

/-- Columns that pairs fall in, ascending. -/
def colsOf (ps : List Pair) : List Nat := sortBy (fun a b => decide (a ≤ b)) (nub (ps.map (fun p => p.ix / 32)))

/-- A column of 32 indices at one node (R440, R441): the lanes occupied, and its share, all 32 lanes wide. -/
structure Col where
  mask : Nat
  share : Share
  deriving DecidableEq, Repr

/-- The pairs of a column, and those of one of its indices. -/
def inCol (ps : List Pair) (q : Nat) : List Pair := ps.filter (fun p => decide (p.ix / 32 = q))
def inLane (ps : List Pair) (q i : Nat) : List Pair := ps.filter (fun p => decide (p.ix = 32 * q + i))

/-- The mask of a column (R441). -/
def colMask (ps : List Pair) (q : Nat) : Nat :=
  ((List.range 32).map (fun i => if (inLane ps q i).isEmpty then 0 else 2 ^ i)).foldl (· + ·) 0

/-- The values of a pair as a contribution to its column: zero but in its own lane. -/
def pairVals (c : Nat) (p : Pair) : List FpVal :=
  (List.range 32).map (fun j => if j = p.ix % 32 then elemVal c p.blk p.pos else .fin false 0 0)

/-- A node's exponent byte for a column (R355, R440). -/
def pairExp (c : Nat) (ps : List Pair) (q : Nat) : Int := maxInt ((inCol ps q).map (fun p => expByte (tyEmax c) (pairVals c p)))

/-- A node's share of a column at its exponent: each pair is one contribution (R361, R439, R440). (COUNT: DEDUCED, log entry 119.) -/
def pairShare (ci op : Nat) (eb : Int) (ps : List Pair) (q : Nat) : Share :=
  let l := inCol ps q
  let pats : Nat → List Nat := fun i => (inLane ps q i).map (fun p => elemPat ci p.blk p.pos)
  if op ≠ 0 then .vals ((List.range 32).map (fun i => minMaxAll ci (decide (op = 2)) (pats i)))
  else if tyFloat ci then .part (partBlock ci eb l.length (l.map (pairVals ci)))
  else .part ⟨0, l.length, false, (List.range 32).map (fun i => intSum ci (pats i))⟩

/-- The occupied ones of 32 lanes, and lanes put back at their places. -/
def laneIxs (mask : Nat) : List Nat := (List.range 32).filter (bitAt mask)
def pick {α : Type} (z : α) (mask : Nat) (l : List α) : List α := (laneIxs mask).map (fun i => l.getD i z)
def spread {α : Type} (z : α) (mask : Nat) (l : List α) : List α :=
  (List.range 32).map (fun i => if bitAt mask i then l.getD (countIf (fun (j : Nat) => decide (j < i)) (laneIxs mask)) z else z)

/-- A column on a link (R441): its mask, then its occupied lanes, packed in an add. -/
def Col.wire (ci : Nat) (x : Col) : Bytes :=
  natLe 4 x.mask ++ (match x.share with
    | .part p => packBlock ci { p with lanes := pick 0 x.mask p.lanes }
    | .vals l => patBytes ci (pick 0 x.mask l))

/-- A column read from a link. -/
def readCol (ci op : Nat) (bs : Bytes) : Col :=
  let m := leNat (bs.take 4)
  let k := (laneIxs m).length
  let rest := bs.drop 4
  ⟨m, if op = 0 then (let p := unpackBlock k rest; .part { p with lanes := spread 0 m p.lanes })
    else .vals (spread 0 m ((List.range k).map (elemPat ci rest)))⟩

/-- The exponent of a column over all nodes (R356, R440). -/
def sparseExp (d : Desc) (ps : List Pair) (others : List ColX) (q : Nat) : Int :=
  if d.sumFp then maxInt (pairExp d.inTy ps q :: (others.filter (fun o => o.q.toNat == q)).map (fun o => o.exp.toInt)) else 0

/-- This node's column. -/
def ownCol (d : Desc) (ps : List Pair) (others : List ColX) (q : Nat) : Col :=
  ⟨colMask ps q, pairShare d.inTy d.redOp (sparseExp d ps others q) ps q⟩

/-- The nodes' columns of one number. -/
def sparseCols (d : Desc) (ps : List Pair) (others : List ColX) (q : Nat) : List Col :=
  (if inCol ps q = [] then [] else [ownCol d ps others q]) ++
    (others.filter (fun o => o.q.toNat == q)).map (fun o => readCol d.inTy d.redOp o.col)

/-- The reduced pairs of one column, and whether it counts under R366 (R440): one for each index that any node's column names. -/
def sparseMerge (d : Desc) (q : Nat) (l : List Col) : List (Nat × Nat) × Bool :=
  let named := (List.range 32).filter (fun i => l.any (fun x => bitAt x.mask i))
  if d.redOp = 0 then
    match mergeShares d.inTy d.outTy 0 (l.map (fun x => some x.share)) with
    | some (pats, sat) => (named.map (fun i => (32 * q + i, pats.getD i 0)), sat)
    | none => ([], false)
  else (named.map (fun i => (32 * q + i, minMaxAll d.inTy (decide (d.redOp = 2))
    ((l.filter (fun x => bitAt x.mask i)).map (fun x => Share.pat (some x.share) i)))), false)

/-- The reduced list and the columns of it that count under R366 (R440). -/
def sparseList (d : Desc) (ps : List Pair) (others : List ColX) : List (Nat × Nat) × Nat :=
  let qs := sortBy (fun a b => decide (a ≤ b)) (nub (colsOf ps ++ others.map (·.q.toNat)))
  let l := qs.map (fun q => sparseMerge d q (sparseCols d ps others q))
  (l.flatMap (·.1), countIf (fun (x : List (Nat × Nat) × Bool) => x.2) l)

/-- Pair blocks of a list (R437): index 0xFFFFFFFF and zero values beyond its end. -/
def pairBlocks (co : Nat) (l : List (Nat × Nat)) : Bytes :=
  (List.range ((l.length + 31) / 32)).flatMap (fun b =>
    (List.range 32).flatMap (fun j => natLe 4 ((l[32 * b + j]?).map (·.1) |>.getD 0xFFFFFFFF)) ++
    (List.range 32).flatMap (fun j => natLe (tyBits co / 8) ((l[32 * b + j]?).map (·.2) |>.getD 0)))

/-- Bytes of the pair blocks of `n` pairs. -/
def pairBytes (c n : Nat) : Nat := (n + 31) / 32 * (128 + blkBytes c)

/-- What the members of this node read: each its pairs' count and its pair blocks. -/
abbrev PairReads := List (Nat × Nat × List Bytes)

/-- The pairs of the members of this node. -/
def localPairs (c : Nat) (xs : PairReads) : List Pair := xs.flatMap (fun x => pairRun c x.2.2 x.2.1)

/-- Read a member's SRC (R437-R439). -/
def Io.readPairs (d : Desc) (i : Io) : (Nat × List Bytes) × Io :=
  let (bs, i) := i.loadOp d 8 (d.w 8).toNat 8
  let n := bitsAt (leNat bs) 0 40
  let (src, i) := i.loadOp d 6 (d.w 6).toNat (pairBytes d.inTy n)
  let blks := (List.range ((n + 31) / 32)).map (fun b => slice src (b * (128 + blkBytes d.inTy)) (128 + blkBytes d.inTy))
  match pairFault d.count none (pairRun d.inTy blks n) with
  | some st => ((n, blks), i.fail st 6)
  | none => ((n, blks), i)

/-- SPARSE_TRUNC, once for an instance (R463). -/
def State.truncOnce (s : State) (r : Run) (n : Nat) : State :=
  match s.run r.inst with
  | none => s
  | some x =>
    if x.trunc then s
    else State.postRun { s with grp := { s.grp with runs := s.grp.runs.map (fun y => if y.inst == r.inst then { y with trunc := true } else y) } }
      r 0x72 stOk n

/-- Write the reduced list at a member (R440). -/
def Io.writePairs (r : Run) (d : Desc) (l : List (Nat × Nat)) (sats : Nat) (i : Io) : Bool × Io :=
  let (cb, i) := i.loadOp d 8 ((d.w 8).toNat + 16) 8
  let cap := bitsAt (leNat cb) 0 40
  let i := i.countSat sats
  let i := i.storeOp d 8 ((d.w 8).toNat + 8) (natLe 8 l.length)
  let i := i.storeOp d 7 (d.w 7).toNat (pairBlocks d.outTy (l.take cap))
  if cap < l.length then (true, { i with s := (i.s.setF F.GRP_EMAP_STAT_TRUNC 1).truncOnce r l.length }) else (false, i)

/-- The columns of this node's pairs go to the group's other nodes (R441). -/
def State.sendCols (s : State) (r : Run) (d : Desc) (ps : List Pair) (others : List ColX) : State :=
  if s.otherNodes r.group.toNat = [] then s
  else (colsOf ps).foldl (fun s q =>
    s.emit (.collCol r.inst ⟨s.node, BitVec.ofNat 40 q, BitVec.ofInt 8 (if d.sumFp then pairExp d.inTy ps q else 0),
      (ownCol d ps others q).wire d.inTy⟩)) s

/-- The first received column that ends the instance (R371, R373). -/
def badCol (d : Desc) (ps : List Pair) (others : List ColX) : Option Nat :=
  if d.redOp ≠ 0 then none
  else (others.find? (fun o => partBad d.inTy (laneIxs (leNat (o.col.take 4))).length (sparseExp d ps others o.q.toNat) (o.col.drop 4))).map
    (·.q.toNat)

/-- SPARSE_REDUCE (R437-R441). -/
def State.sparse (s : State) (inst : Nat) (others : List ColX) (resps : List Resp) : State :=
  s.stage inst 5 resps (fun _ d i => i.readPairs d)
    (fun r xs _ d i =>
      let (l, sats) := sparseList d (localPairs d.inTy xs) others
      Io.writePairs r d l sats i)
    (fun s r d xs => s.sendCols r d (localPairs d.inTy xs) others)
    (fun s r d xs => (badCol d (localPairs d.inTy xs) others).map (fun q => (stDataLost, some (q % max 1 (s.columns r.group.toNat d)))))

/-! ### Commands -/

/-- ALLTOALL (R396). -/
def execAlltoall (run : BitVec 6) (others : List Xfer) (resps : List Resp) (s : State) : Host.Outcome State Fault Refusal :=
  whenUp s (fun s => s.dense run.toNat 1 others resps)

/-- ALLTOALLV (R397). -/
def execAlltoallv (run : BitVec 6) (others : List Xfer) (resps : List Resp) (s : State) : Host.Outcome State Fault Refusal :=
  whenUp s (fun s => s.exchangeV run.toNat others resps)

/-- REDUCE_SCATTER (R411). -/
def execReduceScatter (run : BitVec 6) (others : List PartX) (resps : List Resp) (s : State) : Host.Outcome State Fault Refusal :=
  whenUp s (fun s => s.reduceScatter run.toNat others resps)

/-- ALL_GATHER (R411). -/
def execAllGather (run : BitVec 6) (others : List Xfer) (resps : List Resp) (s : State) : Host.Outcome State Fault Refusal :=
  whenUp s (fun s => s.dense run.toNat 4 others resps)

/-- SPARSE_REDUCE (R441). -/
def execSparseReduce (run : BitVec 6) (others : List ColX) (resps : List Resp) (s : State) : Host.Outcome State Fault Refusal :=
  whenUp s (fun s => s.sparse run.toNat others resps)

end Sys2Proof.Machine
end

