-- ==== Sys2Proof/Machine/CollMoe.lean ====
section
/-!
DEFINITION. DISPATCH and COMBINE (R448-R459): route records, the experts' decisions, the plan, rows and their sums.
-/

namespace Sys2Proof.Machine

/-! ### Decisions (R449-R451) -/

/-- A gate as the decision orders it: -0 and +0 alike, NaN below every other value (R450). -/
def gateKey (g : R32) : Int :=
  let mag : Nat := g.toNat % 2 ^ 31
  if fp32Fmt.read g.toNat = .nan then -(2 ^ 32) else if bitAt g.toNat 31 then -(mag : Int) else mag

/-- The order of assignments: member, token, k (R450). -/
def Assign_ix (a : Assign) : Nat := (a.member ++ a.token ++ a.k).toNat
def assignLe (a b : Assign) : Bool := decide (Assign_ix a ≤ Assign_ix b)
def gateLe (a b : Assign) : Bool :=
  decide (gateKey b.gate < gateKey a.gate) || (decide (gateKey a.gate = gateKey b.gate) && assignLe a b)

/-- The decision of one expert over its candidates (R450). -/
def decideFor (e cap : Nat) (cand : List Assign) : Decision :=
  let l := sortBy gateLe cand
  ⟨e, sortBy assignLe (l.take cap), sortBy assignLe (l.drop cap)⟩

/-- The descriptor of an instance's first joined member. -/
def State.runDesc (s : State) (r : Run) : Option Desc := match r.mems with | m :: _ => s.memDesc m | [] => none

/-- Experts of a map that agents of this node serve. -/
def State.localExperts (s : State) (m : Nat) : List Nat := (List.range (s.emCount m)).filter (fun e => agentNode (s.exAgent m e) == s.node)

/-- An expert's decision. -/
def Run.decision (r : Run) (e : Nat) : Decision := (r.decisions.find? (fun x => x.expert == e)).getD ⟨e, [], []⟩

/-- The over lists of the experts that one agent serves (R451). -/
def State.overOf (s : State) (r : Run) (m : Nat) (a : AgentId) : List Assign := (s.served m a).flatMap (fun e => (r.decision e).excess)

/-- Rows of OVERFLOW that a spilling DISPATCH may use. -/
def State.ovfRows (s : State) (d : Desc) : Nat := if d.capMode = 1 then s.emOvf d.emap else 0

/-- The assignment is this one. -/
def Assign_is (a : Assign) (ix t k : Nat) : Bool := decide (a.member.toNat = ix ∧ a.token.toNat = t ∧ a.k.toNat = k)

/-! ### Routes (R449) -/

/-- The routes of a member from their bytes. -/
def routesOf (d : Desc) (bs : Bytes) : List MRoute :=
  let w : Nat → Nat := fun i => leNat (slice bs (8 * i) 8)
  (List.range d.tokens).flatMap (fun t => (List.range d.topk).map (fun k =>
    let i := t * d.topk + k
    let e := bitsAt (w i) 0 16
    ⟨t, k, fieldAt 32 (w i) 32, e, decide (e ≠ 0xFFFF) && (List.range k).all (fun j => decide (bitsAt (w (t * d.topk + j)) 0 16 ≠ e))⟩))

/-- Reading ROUTES ends with RIGHTS (R449). -/
def routesBad (d : Desc) (count : Nat) (bs : Bytes) : Bool :=
  (List.range (d.tokens * d.topk)).any (fun i =>
    let w := leNat (slice bs (8 * i) 8)
    decide (bitsAt w 16 16 ≠ 0) || (decide (count ≤ bitsAt w 0 16) && decide (bitsAt w 0 16 ≠ 0xFFFF)))

/-- Read a member's routes. -/
def Io.routes (i : Io) (d : Desc) (count : Nat) : List MRoute × Io :=
  let (bs, i) := i.loadOp d 8 (d.w 8).toNat (8 * d.tokens * d.topk)
  (routesOf d bs, if routesBad d count bs then i.fail stRights 8 else i)

/-- Route records go to the nodes of the experts that a member's routes name (R454). -/
def State.sendRoutes (s : State) (r : Run) (d : Desc) (x : Nat × List MRoute) : State :=
  (x.2.filter (fun y => y.used && agentNode (s.exAgent d.emap y.expert) != s.node)).foldl (fun s y =>
    s.emit (.collRoute r.inst (BitVec.ofNat 16 y.expert) ⟨BitVec.ofNat 8 x.1, BitVec.ofNat 24 y.t, BitVec.ofNat 3 y.k, y.gate⟩)) s

/-- The routes of this node's members are read once, and their records go out (R449, R454); what stops the reading, if anything. -/
def State.takeRoutes (s : State) (r : Run) (d : Desc) (resps : List Resp) : Option RunStop × State :=
  match r.routes with
  | some _ => (none, s)
  | none =>
    let (xs, stop, i) := Io.readAll false (fun d i => i.routes d (i.s.emCount d.emap)) (s.runMems r) (s.runIo resps)
    match stop with
    | some x => (some x, i.s)
    | none =>
      let s := { i.s with grp := { i.s.grp with runs := i.s.grp.runs.map (fun y => if y.inst == r.inst then { y with routes := some xs } else y) } }
      (none, xs.foldl (fun s x => s.sendRoutes r d x) s)

/-- The assignments to an expert among the routes of this node's members. -/
def Run.assigned (r : Run) (e : Nat) : List Assign :=
  (r.routes.getD []).flatMap (fun x => (x.2.filter (fun y => y.used && decide (y.expert = e))).map (fun y =>
    ⟨BitVec.ofNat 8 x.1, BitVec.ofNat 24 y.t, BitVec.ofNat 3 y.k, y.gate⟩))

/-- The work of an instance stops at a member (R91, R421). -/
def State.stopRun (s : State) (r : Run) : RunStop → State
  | .page m va => s.parkMems r [(m, va)]
  | .fail m st w => s.abortRun r st s.node (some (m, w))

/-- EXPERT_DECISION (R450): once for each expert of this node, over its members' routes and the route records that arrived. -/
def State.expertDecide (s : State) (i e : Nat) (others : List Assign) (resps : List Resp) : State :=
  match s.run i with
  | none => s
  | some r => match s.runDesc r with
    | none => s
    | some d =>
      if d.kind ≠ 6 ∨ r.own.isNone ∨ r.paused ∨ !(s.localExperts d.emap).contains e ∨ r.decisions.any (fun x => x.expert == e) then s
      else match s.takeRoutes r d resps with
        | (some x, s) => s.stopRun r x
        | (none, s) => match s.run i with
          | none => s
          | some r =>
            let far := others.filter (fun a => agentNode (s.grpMember r.group.toNat a.member.toNat) != s.node)
            let x := decideFor e (s.exCap d.emap e) (r.assigned e ++ far)
            let s := if x.excess = [] then s else s.setF F.GRP_EMAP_STAT_OVER 1
            s.setRun { r with decisions := r.decisions ++ [x] }

/-! ### Rows -/

/-- Read rows of an operand, with their masks (R430-R432). -/
def Io.rows (d : Desc) (word : Nat) : List Nat → Io → List (Nat × List (Option Bytes)) × Io
  | [], i => ([], i)
  | j :: js, i =>
    let (m, i) := if d.sieve then
        let (bs, i) := i.loadOp d 9 ((d.w 9).toNat + 8 * d.rowWords * j) (8 * d.rowWords)
        (some (maskBits bs d.rowBlocks), i)
      else (none, i)
    let (bl, i) := i.readRun d word ((d.w word).toNat + j * runBytes d.inTy d.count) d.inTy d.count m
    let (rest, i) := Io.rows d word js i
    ((j, bl.map sentBlock) :: rest, i)

/-- The bytes of a row as its receiver writes them: a block not sent is zeros (R434). -/
def rowBytes (c n : Nat) (bl : List (Option Bytes)) : Bytes :=
  ((List.range ((n + 31) / 32)).flatMap (fun b => match bl[b]? with | some (some x) => slice x 0 (blkBytes c) | _ => zeros (blkBytes c))).take
    (runBytes c n)

/-- Write bytes of an engine window for a job, one 4 KiB page after another (R345, R347). -/
def State.bufWrite (s : State) (job : JobId) : Nat → Nat → Bytes → Status × State
  | 0, _, _ => (stOk, s)
  | fuel + 1, off, bs =>
    let n := min bs.length (4096 - off % 4096)
    if bs = [] then (stOk, s)
    else if !s.sramValid off n ∨ !s.winHolds job off n needW ∨ s.touchesShadow off n then (stRights, s)
    else State.bufWrite { s with mems := { s.mems with sram := Mem.wrN s.mems.sram off (bs.take n) } } job fuel (off + n) (bs.drop n)

/-! ### DISPATCH (R448-R454) -/

/-- What a DISPATCH reads at a member: routes and token rows. -/
structure DispIn where
  routes : List MRoute
  rows : List (Nat × List (Option Bytes))
  deriving DecidableEq, Repr

/-- The fate and row of an assignment: from this node's decisions, or from the plan record that came back (R450-R452). -/
def State.fateOf (s : State) (r : Run) (d : Desc) (plans : List PlanX) (ix : Nat) (x : MRoute) : Nat × Nat :=
  let a := s.exAgent d.emap x.expert
  if agentNode a = s.node then
    match (r.decision x.expert).placed.findIdx? (fun y => Assign_is y ix x.t x.k) with
    | some j => (1, j)
    | none => match ((s.overOf r d.emap a).take (s.ovfRows d)).findIdx? (fun y => Assign_is y ix x.t x.k) with
      | some j => (2, j)
      | none => (3, 0)
  else match plans.find? (fun p => decide (p.member.toNat = ix ∧ p.token.toNat = x.t ∧ p.k.toNat = x.k)) with
    | some p => (w64 p.fate 63 62, w64 p.fate 39 16)
    | none => (3, 0)

/-- A route record (R452). -/
def fateWord (f : Nat × Nat) (e : Nat) : Nat := f.1 % 4 * 2 ^ 62 + f.2 % 2 ^ 24 * 2 ^ 16 + e % 2 ^ 16

/-- An origin record (R452). -/
def origWord (a : Assign) (e : Nat) : Nat := 2 ^ 63 + putAt 60 a.k + putAt 52 a.member + putAt 28 a.token + e

/-- The blocks of a token row, read here or sent by its node (R453). -/
def rowOf (d : Desc) (xs : List (Nat × DispIn)) (rows : List RowX) (a : Assign) : List (Option Bytes) :=
  match xs.find? (fun x => x.1 == a.member.toNat) with
  | some x => ((x.2.rows.find? (fun y => y.1 == a.token.toNat)).map (·.2)).getD []
  | none => ((rows.find? (fun y => y.member == a.member && y.token == a.token)).map (fun y => groupBlocks d.inTy d.rowBlocks y.groups)).getD []

/-- Write the placed rows of one expert. -/
def State.placeRows (s : State) (d : Desc) (e : Nat) (row : Assign → List (Option Bytes)) : Nat → List Assign → Status × State
  | _, [] => (stOk, s)
  | j, a :: l =>
    let n := runBytes d.outTy d.count
    let (st, s) := s.bufWrite (s.emJob d.emap) (n / 4096 + 2) (dpaOff (s.exBuf d.emap e) + j * n) (rowBytes d.outTy d.count (row a))
    if st ≠ stOk then (st, s) else s.placeRows d e row (j + 1) l

/-- Write the buffers of several experts. -/
def Io.placeAll (d : Desc) (r : Run) (row : Assign → List (Option Bytes)) : List Nat → Io → Io
  | [], i => i
  | e :: es, i =>
    if !i.live then i
    else
      let (st, s) := i.s.placeRows d e row 0 (r.decision e).placed
      let i := { i with s := s }
      Io.placeAll d r row es (if st = stOk then i else i.fail st 0)

/-- Write rows of OVERFLOW. -/
def Io.overRows (d : Desc) (row : Assign → List (Option Bytes)) : Nat → List Assign → Io → Io
  | _, [], i => i
  | j, a :: l, i =>
    Io.overRows d row (j + 1) l (i.storeOp d 10 ((d.w 10).toNat + j * runBytes d.outTy d.count) (rowBytes d.outTy d.count (row a)))

/-- The EXP part for one expert: routed, placed, spilled, dropped (R452). -/
def State.expWords (s : State) (r : Run) (d : Desc) (a : AgentId) (e : Nat) : Bytes :=
  let x := r.decision e
  let kept := (s.overOf r d.emap a).take (s.ovfRows d)
  let spilled := countIf (fun y => kept.any (fun z => decide (Assign_ix z = Assign_ix y))) x.excess
  bytes64 ([x.placed.length + x.excess.length, x.placed.length, spilled, x.excess.length - spilled].map (BitVec.ofNat 64))

/-- The ORIG part (R452). -/
def State.origWords (s : State) (r : Run) (d : Desc) (a : AgentId) : Bytes :=
  let es := s.served d.emap a
  let part := es.flatMap (fun e =>
    let pl := (r.decision e).placed
    (List.range (s.exCap d.emap e)).flatMap (fun j => natLe 8 (match pl[j]? with | some y => origWord y e | none => 0)))
  let excess := es.flatMap (fun e => (r.decision e).excess.map (fun y => (y, e)))
  part ++ (List.range (s.emOvf d.emap)).flatMap (fun j =>
    natLe 8 (match (excess.take (s.ovfRows d))[j]? with | some (y, e) => origWord y e | none => 0))

/-- Write a member's rows and plan (R452, R453); the flag is DROP. -/
def State.dispatchAt (s : State) (rows : List RowX) (plans : List PlanX) (r : Run) (xs : List (Nat × DispIn)) (ix : Nat) (d : Desc) (i : Io) :
    Bool × Io :=
  let a := s.grpMember r.group.toNat ix
  let es := s.served d.emap a
  let row := rowOf d xs rows
  let excess := s.overOf r d.emap a
  let used := excess.take (s.ovfRows d)
  let mine := match xs.find? (fun x => x.1 == ix) with | some x => x.2.routes | none => []
  let fates := mine.map (fun x => if x.used then s.fateOf r d plans ix x else (0, 0))
  let n (f : Nat) : Nat := countIf (fun (x : Nat × Nat) => decide (x.1 = f)) fates
  let sum := bytes64 ([n 1 + n 2 + n 3, n 1, n 2, n 3, used.length, 0, 0, 0].map (BitVec.ofNat 64))
  let tok := ((mine.zip fates).flatMap (fun x => natLe 8 (if x.1.used then fateWord x.2 x.1.expert else fateWord (0, 0) x.1.expert)))
  let i := Io.placeAll d r row es i
  let i := if d.capMode = 1 then Io.overRows d row 0 used i else i
  let i := i.storeOp d 11 (d.w 11).toNat
    (sum ++ es.flatMap (fun e => s.expWords r d a e) ++ s.origWords r d a ++ tok)
  (decide (n 2 + n 3 ≠ 0) || !excess.isEmpty, i)

/-- Nodes that hold an assignment of a token. -/
def State.tokenNodes (s : State) (d : Desc) (l : List MRoute) (t : Nat) : List Nat :=
  nub ((l.filter (fun x => x.used && decide (x.t = t))).map (fun x => (agentNode (s.exAgent d.emap x.expert)).toNat))

/-- What a member of a DISPATCH sends to other nodes: each token row once for each node (R453). -/
def State.sendRows (s : State) (r : Run) (d : Desc) (x : Nat × DispIn) : State :=
  x.2.rows.foldl (fun s y => ((s.tokenNodes d x.2.routes y.1).filter (fun n => n ≠ s.node.toNat)).foldl
    (fun s n => s.emit (.collRow r.inst (BitVec.ofNat 6 n) ⟨BitVec.ofNat 8 x.1, BitVec.ofNat 24 y.1, 0, sieveGroups y.2⟩)) s) s

/-- The plan records that go back to other nodes (R454). -/
def State.sendPlans (s : State) (r : Run) (d : Desc) : State :=
  (s.localExperts d.emap).foldl (fun s e =>
    let x := r.decision e
    ((x.placed ++ x.excess).filter (fun y => agentNode (s.grpMember r.group.toNat y.member.toNat) != s.node)).foldl (fun s y =>
      let f := s.fateOf r d [] y.member.toNat ⟨y.token.toNat, y.k.toNat, y.gate, e, true⟩
      s.emit (.collPlan r.inst ⟨y.member, y.token, y.k, BitVec.ofNat 64 (fateWord f e)⟩)) s) s

/-- The counts and events of this node's decisions (R451, R463). -/
def State.countDecisions (s : State) (r : Run) (d : Desc) : State :=
  let excess := r.decisions.filter (fun x => !x.excess.isEmpty)
  let total := (excess.map (fun x => x.excess.length)).foldl (· + ·) 0
  let agents := (s.localMems r.group.toNat).map (s.grpMember r.group.toNat)
  let spilled := (agents.map (fun a => min (s.ovfRows d) (s.overOf r d.emap a).length)).foldl (· + ·) 0
  let s := (s.incF F.GRP_DROP_CNT_COUNT (total - spilled)).incF F.GRP_SPILL_CNT_COUNT spilled
  let s := if excess.isEmpty then s else s.postRun r 0x70 stOk (2 ^ 32 * excess.length + total)
  match agents.find? (fun a => decide (d.capMode = 1) && decide (s.ovfRows d < (s.overOf r d.emap a).length)) with
  | some a => s.postRun r 0x71 stOk (putAt 40 a + ((s.overOf r d.emap a).length - s.ovfRows d))
  | none => s

/-- The routes that were read at the member whose work this is, or read now. -/
def Io.memRoutes (r : Run) (d : Desc) (i : Io) : List MRoute × Io :=
  match r.routes with
  | some l => (((l.find? (fun x => some x.1 == i.s.memberIx r.group.toNat i.agent)).map (·.2)).getD [], i)
  | none => i.routes d (i.s.emCount d.emap)

/-- DISPATCH (R448-R454): due once every expert of this node is decided. -/
def State.dispatch (s : State) (inst : Nat) (rows : List RowX) (plans : List PlanX) (resps : List Resp) : State :=
  match s.run inst with
  | none => s
  | some r => match s.runDesc r with
    | none => s
    | some d0 =>
      if !(s.localExperts d0.emap).all (fun e => r.decisions.any (fun x => x.expert == e)) then s
      else s.stage inst 6 resps
        (fun r d i =>
          let (rs, i) := Io.memRoutes r d i
          let (tr, i) := Io.rows d 6 (List.range d.tokens) i
          (⟨rs, tr⟩, i))
        (s.dispatchAt rows plans)
        (fun s r _ xs =>
          let s := if r.routes.isSome then s else xs.foldl (fun s x => s.sendRoutes r d0 (x.1, x.2.routes)) s
          ((xs.foldl (fun s x => s.sendRows r d0 x) s).sendPlans r d0).countDecisions r d0)
        (fun _ _ _ _ => none)

/-! ### COMBINE (R456-R459) -/

/-- An output row with the assignment that it belongs to. -/
structure CombRow where
  member : Nat
  token : Nat
  k : Nat
  blocks : List (Option Bytes)
  deriving DecidableEq, Repr

/-- What a COMBINE reads at a member: routes, their fates, and the output rows that its ORIG names. -/
structure CombIn where
  routes : List MRoute
  toks : List Nat
  outs : List CombRow
  deriving DecidableEq, Repr

/-- Read the output rows that origin records name. -/
def Io.outRows (d : Desc) (rs : List (Nat × Nat)) (i : Io) : List CombRow × Io :=
  let (l, i) := Io.rows d 6 (rs.map (·.1)) i
  ((rs.zip l).map (fun x =>
    let w := x.1.2
    ⟨bitsAt w 52 8, bitsAt w 28 24, bitsAt w 60 3, x.2.2⟩), i)

/-- Read a COMBINE's operands at a member (R456). -/
def State.combineRead (s : State) (r : Run) (ix : Nat) (d : Desc) (i : Io) : CombIn × Io :=
  let a := s.grpMember r.group.toNat ix
  let em := (s.served d.emap a).length
  let rowsN := s.capSum d.emap a + s.emOvf d.emap
  let (rs, i) := i.routes d (s.emCount d.emap)
  let (ob, i) := i.loadOp d 11 ((d.w 11).toNat + 64 + 32 * em) (8 * rowsN)
  let (tb, i) := i.loadOp d 11 ((d.w 11).toNat + 64 + 32 * em + 8 * rowsN) (8 * d.tokens * d.topk)
  let named := ((List.range rowsN).map (fun j => (j, leNat (slice ob (8 * j) 8)))).filter (fun x => bitAt x.2 63)
  let (outs, i) := Io.outRows d named i
  (⟨rs, (List.range (d.tokens * d.topk)).map (fun j => leNat (slice tb (8 * j) 8)), outs⟩, i)

/-- A fate that names a row. -/
def fateHas (w : Nat) : Bool := decide (bitsAt w 62 2 = 1 ∨ bitsAt w 62 2 = 2)

/-- A row that arrived. -/
def RowX_row (d : Desc) (y : RowX) : CombRow := ⟨y.member.toNat, y.token.toNat, y.k.toNat, groupBlocks d.inTy d.rowBlocks y.groups⟩

/-- Rows that arrive for a member: its own node's, and those of others. -/
def combRows (d : Desc) (xs : List (Nat × CombIn)) (rows : List RowX) (ix : Nat) : List CombRow :=
  (xs.flatMap (fun x => x.2.outs) ++ rows.map (RowX_row d)).filter (fun y => decide (y.member = ix))

/-- The rows that a member's TOK expects: token, k and expert. -/
def CombIn.expects (x : CombIn) : List (Nat × Nat × Nat) :=
  ((x.routes.zip x.toks).filter (fun y => fateHas y.2)).map (fun y => (y.1.t, y.1.k, y.1.expert))

/-- Each row that arrived is expected, and each that is expected arrived once (R458). -/
def CombIn.agrees (x : CombIn) (got : List CombRow) : Bool :=
  got.all (fun y => x.expects.any (fun e => decide (e.1 = y.token ∧ e.2.1 = y.k))) &&
  x.expects.all (fun e => decide (countIf (fun (y : CombRow) => decide (e.1 = y.token ∧ e.2.1 = y.k)) got = 1))

/-- The counts that other nodes sent agree with the rows that this node's members expect of their experts (R458). -/
def State.countsAgree (s : State) (r : Run) (d : Desc) (xs : List (Nat × CombIn)) (counts : List CountX) : Bool :=
  (s.otherNodes r.group.toNat).all (fun m =>
    let want := (xs.map (fun x => countIf (fun (e : Nat × Nat × Nat) => decide ((agentNode (s.exAgent d.emap e.2.2)).toNat = m)) x.2.expects)).foldl
      (· + ·) 0
    let sent := match counts.find? (fun c => decide (c.node.toNat = m)) with | some c => c.n.toNat | none => 0
    decide (sent = want))

/-- What goes to other nodes: each output row to the node of its token, and the count of them to each (R457, R458). -/
def State.sendOuts (s : State) (r : Run) (xs : List (Nat × CombIn)) : State :=
  let dst (y : CombRow) : NodeId := agentNode (s.grpMember r.group.toNat y.member)
  let rows := (xs.flatMap (fun x => x.2.outs)).filter (fun y => dst y != s.node)
  let s := rows.foldl (fun s y => s.emit (.collRow r.inst (dst y)
    ⟨BitVec.ofNat 8 y.member, BitVec.ofNat 24 y.token, BitVec.ofNat 3 y.k, sieveGroups y.blocks⟩)) s
  (s.otherNodes r.group.toNat).foldl (fun s m => s.emit (.collCount r.inst (BitVec.ofNat 6 m)
    ⟨s.node, BitVec.ofNat 32 (countIf (fun (y : CombRow) => decide ((dst y).toNat = m)) rows)⟩)) s

/-- The sum of one block of a token's row (R457); none where no block came. -/
def combBlock (d : Desc) (l : List (FpVal × List (Option Bytes))) (b : Nat) : Option Bytes × Bool :=
  let here := l.filterMap (fun x => match x.2[b]? with | some (some bs) => some (x.1, bs) | _ => none)
  match here, tyFmt d.outTy with
  | [], _ => (none, false)
  | _, none => (none, false)
  | _, some o =>
    let (p, sat) := roundBlock o d.inTy (sumBlock d.inTy here.length (here.map (fun x => (blockVals d.inTy x.2 0).map (mulVal x.1))))
    (some (patBytes d.outTy p), sat)

/-- The rows of DST at a member, and the blocks that saturated. -/
def combOut (d : Desc) (x : CombIn) (got : List CombRow) : List (List (Option Bytes)) × Nat :=
  let rows := (List.range d.tokens).map (fun t =>
    let l := ((x.routes.zip x.toks).filter (fun y => decide (y.1.t = t) && fateHas y.2)).map (fun y =>
      (fp32Fmt.read y.1.gate.toNat,
        ((got.find? (fun g => decide (g.token = t ∧ g.k = y.1.k))).map (·.blocks)).getD []))
    (List.range d.rowBlocks).map (combBlock d l))
  (rows.map (fun r => r.map (·.1)), (rows.map (fun r => countIf (fun (b : Option Bytes × Bool) => b.2) r)).foldl (· + ·) 0)

/-- Write rows of DST. -/
def Io.dstRows (d : Desc) : Nat → List (List (Option Bytes)) → Io → Io
  | _, [], i => i
  | t, bl :: rest, i =>
    Io.dstRows d (t + 1) rest (Io.writeBlocks d 7 ((d.w 7).toNat + t * runBytes d.outTy d.count) d.outTy d.sieve 0 d.count bl i)

/-- COMBINE (R456-R459). -/
def State.combine (s : State) (inst : Nat) (rows : List RowX) (counts : List CountX) (resps : List Resp) : State :=
  s.stage inst 7 resps
    (fun r d i =>
      let ix := (s.memberIx r.group.toNat (s.qAgent i.q)).getD 0
      s.combineRead r ix d i)
    (fun _ xs ix d i =>
      match xs.find? (fun x => x.1 == ix) with
      | none => (false, i)
      | some x =>
        let (out, sats) := combOut d x.2 (combRows d xs rows ix)
        let i := Io.dstRows d 0 out (i.countSat sats)
        let i := if d.sieve then i.storeOp d 10 (d.w 10).toNat (out.flatMap (fun bl => maskBytes (bl.map (·.isSome)))) else i
        (x.2.toks.any (fun w => decide (bitsAt w 62 2 = 3)), i))
    (fun s r _ xs => s.sendOuts r xs)
    (fun s r d xs =>
      if xs.all (fun x => x.2.agrees (combRows d xs rows x.1)) && s.countsAgree r d xs counts then none else some (stRights, none))

/-! ### Commands -/

/-- EXPERT_DECISION (R450). -/
def execExpertDecision (run : BitVec 6) (expert : BitVec 16) (held : DecideX) (s : State) : Host.Outcome State Fault Refusal :=
  whenUp s (fun s => s.expertDecide run.toNat expert.toNat held.others held.resps)

/-- DISPATCH (R448). -/
def execDispatch (run : BitVec 6) (rows : List RowX) (plans : List PlanX) (resps : List Resp) (s : State) :
    Host.Outcome State Fault Refusal := whenUp s (fun s => s.dispatch run.toNat rows plans resps)

/-- COMBINE (R456). -/
def execCombine (run : BitVec 6) (sent : CombineX) (resps : List Resp) (s : State) : Host.Outcome State Fault Refusal :=
  whenUp s (fun s => s.combine run.toNat sent.rows sent.counts resps)

end Sys2Proof.Machine
end

