-- ==== Sys2Proof/Machine/Stop.lean ====
section
/-!
DEFINITION. Stopping and resuming jobs (R482-R485).
-/

namespace Sys2Proof.Machine

/-- JOB_STOPPED, STOP_TABLE_FULL (R496). -/
def evJobStopped (job : JobId) (origin : NodeId) (here : Bool) : Ev := ev 0x87 stJobStopped (putAt 48 job + putAt 8 origin + b2n here) 0
def evStopFull (job : JobId) : Ev := ev 0x88 stOk (putAt 48 job) 0

/-- The order of messages of one job (R485): TIME, STOP before RESUME, origin. -/
def stopKey (time : R64) (resume : Bool) (origin : NodeId) : Nat := time.toNat * 128 + b2n resume * 64 + origin.toNat

/-- The entry of a job (R484). -/
def State.stopOf (s : State) (j : JobId) : Option StopE := s.flt.stops.find? (fun e => e.job == j)

/-- An entry that a job may take: a free one, or that of a job resumed more than 1 ms ago (R484). -/
def State.stopSlot (s : State) : Option Nat :=
  match (List.range 256).find? (fun i => !s.flt.stops.any (fun e => e.i == i)) with
  | some i => some i
  | none => (s.flt.stops.find? (fun e => e.resumed && decide (e.at_.toNat + 250000 < s.now.toNat))).map (·.i)

/-- Put an entry into the table. -/
def State.putStop (s : State) (e : StopE) : State :=
  { s with flt := { s.flt with stops := dropWhere (fun x => x.i == e.i) s.flt.stops ++ [e] } }

/-- The work of a stopped job ends here (R421, R483, R685). -/
def State.haltJob (s : State) (all : Bool) (j : JobId) : State := (s.dropRunsOf all j).stopQueuesOf all j s.liveQueues

/-- Stop a job at this node (R483, R484): with no entry to take, every user job stops. -/
def State.stopHere (s : State) (j : JobId) (origin : NodeId) (here : Bool) (time : R64) : State :=
  let was := s.jobStopped j
  match ((s.stopOf j).map (·.i)).or s.stopSlot with
  | some i =>
    let s := s.putStop ⟨i, j, false, here, origin, time, s.now⟩
    if was then s else (s.haltJob false j).post (evJobStopped j origin here)
  | none =>
    let s := State.setF { s with flt := { s.flt with stopAll := true } } F.FLT_STAT_STOP_FULL 1
    (s.haltJob true j).post (evStopFull j)

/-- Resume a job at this node (R484, R485): the entry stays for 1 ms at least. -/
def State.resumeHere (s : State) (j : JobId) (origin : NodeId) (time : R64) : State :=
  match ((s.stopOf j).map (fun e => (e.i, e.here))).or (s.stopSlot.map (fun i => (i, false))) with
  | some (i, here) =>
    let s := s.putStop ⟨i, j, true, here, origin, time, s.now⟩
    { s with flt := { s.flt with stopAll := false } }
  | none => s

def noMsgKey : Nat → Option Nat := fun _ => none

/-- A stop or a resume acts here; the node keeps its place in the order of the job's messages (R485). -/
def State.jobAct (s : State) (m : StopMsg) (here : Bool) : State :=
  let key := stopKey m.time m.resume m.origin
  let s := { s with flt := { s.flt with stopMsgs := sset noMsgKey s.flt.stopMsgs m.job.toNat (some key) } }
  if m.resume then s.resumeHere m.job m.origin m.time else s.stopHere m.job m.origin here m.time

/-- A STOP message arrives (R485): applied and forwarded where it comes later than the last one applied for the job. -/
def State.stopArrive (s : State) (m : StopMsg) : State :=
  let newer := match sget noMsgKey s.flt.stopMsgs m.job.toNat with
    | some k => decide (k < stopKey m.time m.resume m.origin)
    | none => true
  if newer then (s.jobAct m false).ctrlAll (.stop m) none else s

/-- A job stops or resumes by a command of this node, here or at every node (R484). -/
def State.jobCmd (s : State) (flood resume : Bool) (j : JobId) : State :=
  if j = 0 then s
  else
    let m : StopMsg := ⟨j, s.node, resume, s.now⟩
    let s := s.jobAct m true
    if flood then s.ctrlAll (.stop m) none else s

/-- Something of a job has completed with TARGET_LOST (R482). -/
def State.lostJob (s : State) (j : JobId) : State :=
  if s.jobStopped j then s
  else
    let m : StopMsg := ⟨j, s.node, false, s.now⟩
    (s.jobAct m true).ctrlAll (.stop m) none

/-- STOP (R485). -/
def execStop (_port : Fin 6) (msg : StopMsg) (s : State) : Host.Outcome State Fault Refusal := whenUp s (fun s => s.stopArrive msg)

/-- JOB_STOP_CMD (R484). -/
def execJobStopCmd (flood : Bool) (job : JobId) (s : State) : Host.Outcome State Fault Refusal :=
  whenWr s (fun s => s.jobCmd flood false job)

/-- JOB_RESUME_CMD (R484). -/
def execJobResumeCmd (flood : Bool) (job : JobId) (s : State) : Host.Outcome State Fault Refusal :=
  whenWr s (fun s => s.jobCmd flood true job)

end Sys2Proof.Machine
end

