-- ==== Sys2Proof/Machine/Attach.lean ====
section
/-!
DEFINITION. The attach ports and the end point (R157-R188, R197-R204, R216-R222, R254): admission, translation, fences, pacing,
completions, snoops.
-/

namespace Sys2Proof.Machine

/-! ### Admission (R168-R176) -/

/-- Reserved entries of each class, shared entries, of a port's request table (R171). -/
def State.entReserve (s : State) (port : Nat) : Nat := if s.isSplit (6 + port) then 256 else 512
def State.entShared (s : State) (port : Nat) : Nat :=
  let n := 8 * (s.entReserve port * 2) - 4 * s.entReserve port
  if s.isolated then n / max 1 s.isoCount else n

/-- The isolation class that a header's entry counts for: that of its context slot (R560, R561). -/
def State.handleIso (s : State) (port : Nat) (h : BitVec 4) : BitVec 3 :=
  match (if s.on (F.XLT_AGT_VALID port h.toNat) then s.slotOf (s.f (F.XLT_AGT_CTX_ID port h.toNat)) else none) with
  | some slot => s.slotIso slot
  | none => BitVec.ofNat 3 (((List.range 8).find? (fun i => bitAt s.isoMask.toNat i)).getD 0)

/-- Entries in use or held, reserved for a class. -/
def State.usedReserved (s : State) (port : Nat) (c : BitVec 2) : Nat :=
  (s.ep.ents.filter (fun e => decide (e.port = port) && e.cls == c && !e.shared)).length +
  (s.ep.reserved.filter (fun h => decide (h.port = port) && h.cls == c && !h.shared)).length

/-- Shared entries in use or held, in isolated mode of one class. -/
def State.usedShared (s : State) (port : Nat) (iso : BitVec 3) : Nat :=
  (s.ep.ents.filter (fun e => decide (e.port = port) && e.shared && (!s.isolated || e.iso == iso))).length +
  (s.ep.reserved.filter (fun h => decide (h.port = port) && h.shared && (!s.isolated || h.iso == iso))).length

/-- Take an entry for a header: one held for RESEND, a reserved one, a shared one (R171, R175); whether it is shared. -/
def State.takeEntry (s : State) (port : Nat) (c : BitVec 2) (iso : BitVec 3) (resend : Bool) : Option Bool × State :=
  match (if resend then s.ep.reserved.find? (fun h => decide (h.port = port) && h.cls == c) else none) with
  | some h => (some h.shared, { s with ep := { s.ep with reserved := s.ep.reserved.eraseP (fun x => decide (x = h)) } })
  | none =>
    if s.usedReserved port c < s.entReserve port then (some false, s)
    else if s.usedShared port iso < s.entShared port then (some true, s)
    else (none, s)

/-- The defer chain of a class on a port (R173). -/
def State.chain (s : State) (port : Nat) (c : BitVec 2) : Option Chain := s.ep.chains.find? (fun x => decide (x.port = port) && x.cls == c)

/-- Set a chain's count; at zero it closes. -/
def State.setChain (s : State) (port : Nat) (c : BitVec 2) (d : Nat) : State :=
  let rest := dropWhere (fun (x : Chain) => decide (x.port = port) && x.cls == c) s.ep.chains
  { s with ep := { s.ep with chains := if d = 0 then rest else rest ++ [⟨port, c, d⟩] } }

/-- Accept a header into the request table, or defer it (R170, R173); the number of an accepted one. -/
def State.admitHdr (s : State) (port : Nat) (w0 va : R64) : Option Nat × State :=
  let c := fieldAt 2 w0.toNat 56
  let resend := bitAt w0.toNat 32
  let chained := decide (c = 0) || decide (c = 2)
  if s.pwr.holdUp then (none, s)
  else match (if chained && !resend then s.chain port c else none) with
    | some x => (none, s.setChain port c (x.d + 1))
    | none =>
      let iso := s.handleIso port (fieldAt 4 w0.toNat 52)
      match s.takeEntry port c iso (chained && resend) with
      | (some sh, s) =>
        let h := (fieldAt 4 w0.toNat 52 : BitVec 4).toNat
        let ctx := if s.on (F.XLT_AGT_VALID port h) then some (s.f (F.XLT_AGT_CTX_ID port h)) else none
        let e : Ent := ⟨s.ep.nextId, port, w0, va, [], false, .waiting, ctx, 0, 0, none, sh, iso⟩
        let s := { s with ep := { s.ep with nextId := s.ep.nextId + 1, ents := s.ep.ents ++ [e] } }
        let s := match (if chained then s.chain port c else none) with
          | some x => s.setChain port c (x.d - 1)
          | none => s
        (some e.id, s)
      | (none, s) => (none, if chained && (s.chain port c).isNone then s.setChain port c 1 else s)

/-! ### Snoops at the end point (R252-R258) -/

/-- The first 16 COHERENT ranges of a slot's table, in VA order (R254). -/
def State.cohRanges (s : State) (slot : Nat) : List RangeE :=
  let first := tblFirst (s.ctxId slot) (s.ctxTbl slot)
  (((List.range (tblCount (s.ctxTbl slot))).map (fun i => s.rangeAt (first + i))).filter (·.coherent)).take 16

/-- The handle and address under which an agent holds a line (R254). -/
def State.mapSnoop (s : State) (port : Nat) (d : Dpa) : Option (Nat × Nat) :=
  (List.range 16).findSome? (fun h =>
    if !s.on (F.XLT_AGT_VALID port h) then none
    else match s.slotOf (s.f (F.XLT_AGT_CTX_ID port h)) with
      | none => none
      | some slot => ((s.cohRanges slot).find? (fun e => decide (e.dpaBase.toNat ≤ d.toNat ∧ d.toNat < e.dpaBase.toNat + e.len))).map
          (fun e => (h, e.vaStart + (d.toNat - e.dpaBase.toNat))))

/-- A snoop response to a home. -/
def State.snoopReply (s : State) (p : Snp) (opc : BitVec 6) (data : Bytes) : State :=
  s.sendSnp { p with opc := opc, way := way0, dst := p.home, data := data }

/-- The end point answers for the agent (R258): a line that the agent owned here is logged. -/
def State.snoopUnmapped (s : State) (p : Snp) : State :=
  let line := dpaOff p.dpa / 64
  let s := if p.home ≠ s.node then s else
    match s.findExt (dpaOff p.dpa) 64 with
    | some i =>
      let d := s.dirAt (s.ext i) line
      if (s.ext i).coherent ∧ d.st = 2 ∧ d.owner = p.agent then s.logLoss 4 line (s.ext i).job p.agent i else s
    | none => s
  s.snoopReply p 0x28 []

/-- A snoop reaches the end point of its agent (R254, R257). -/
def State.snoopArrive (s : State) (p : Snp) : State :=
  let port := (agentLocal p.agent).toNat
  if agentNode p.agent ≠ s.node ∨ 8 ≤ port ∨ !p.isSnoop then s
  else if !s.trained (6 + port) && !decide (s.pState (6 + port) = pQuiet) then
    { s with ep := { s.ep with snoopHeld := s.ep.snoopHeld ++ [p] } }
  else match s.mapSnoop port p.dpa with
    | none => s.snoopUnmapped p
    | some (h, va) =>
      let s := { s with ep := { s.ep with snoopOut := s.ep.snoopOut ++ [p] } }
      s.tx (6 + port) (.att 2 (BitVec.ofNat 64 (putAt 58 p.opc + h * 2 ^ 52 + putAt 36 p.sid)) (BitVec.ofNat 64 va) [])

/-- The link of an attach port has returned: the snoops held for its agent go on (R257). -/
def State.flushSnoops (s : State) (port : Nat) : State :=
  let mine := s.ep.snoopHeld.filter (fun p => decide ((agentLocal p.agent).toNat = port))
  let s := { s with ep := { s.ep with snoopHeld := dropWhere (fun p => decide ((agentLocal p.agent).toNat = port)) s.ep.snoopHeld } }
  mine.foldl State.snoopArrive s

/-- A snoop response of an agent goes to the home that asked (R253). -/
def State.agentResponse (s : State) (port : Nat) (w0 : R64) (data : Bytes) : State :=
  let sid := fieldAt 16 w0.toNat 36
  match s.ep.snoopOut.find? (fun p => p.sid == sid && decide ((agentLocal p.agent).toNat = port)) with
  | none => s
  | some p =>
    let s := { s with ep := { s.ep with snoopOut := s.ep.snoopOut.eraseP (fun x => decide (x = p)) } }
    s.snoopReply p (fieldAt 6 w0.toNat 58) data

/-! ### Flits (R157-R160, R168) -/

/-- A flit while its units are taken: the message that is not whole, the entry of the request that was whole last, the answers so far, the
headers counted. -/
structure Rx where
  s : State
  part : Option Part
  last : Option Nat
  acc : Nat
  n : Nat
  deriving DecidableEq, Repr

/-- A message is over: a request's data reach its entry, a snoop response goes on. -/
def Rx.close (x : Rx) (p : Part) : Rx :=
  let s := if p.vc = 0 then
      match p.keep with
      | some id => x.s.setEnt id (fun e => { e with data := p.data, bad := decide (p.need ≠ 0) })
      | none => x.s
    else if p.need = 0 then x.s.agentResponse p.port (p.hdr.setWidth 64) p.data
    else x.s
  { x with s := s, part := none, last := if p.vc = 0 then p.keep else none }

/-- A header begins. -/
def Rx.start (x : Rx) (port : Nat) (vc : BitVec 2) (u : BitVec 128) : Rx :=
  let x := match x.part with | some p => x.close p | none => x
  let w0 : R64 := u.setWidth 64
  let w1 : R64 := u.extractLsb' 64 64
  let opc := fieldAt 6 w0.toNat 58
  let need := if vc = 0 then reqUnits opc (fieldAt 4 w0.toNat 36) else if opc = 0x29 then 4 else 0
  let x := if vc = 0 then
      let (id, s) := x.s.admitHdr port w0 w1
      { x with s := s, part := some ⟨port, vc, u, [], need, id⟩, acc := x.acc + b2n id.isSome * 2 ^ x.n, n := x.n + 1 }
    else { x with part := some ⟨port, vc, u, [], need, none⟩ }
  match x.part with
  | some p => if need = 0 then x.close p else x
  | none => x

/-- A unit that begins no message: data of the message before it. Where that has all its data, and another message begins in the flit, the
unit is one too many (R179; DEDUCED, log entry 42). -/
def Rx.data (x : Rx) (u : BitVec 128) (more : Bool) : Rx :=
  match x.part with
  | none =>
    match (if more then x.last else none) with
    | some id => { x with s := x.s.setEnt id (fun e => { e with bad := true }) }
    | none => x
  | some p =>
    let p := { p with data := p.data ++ natLe 16 u.toNat, need := p.need - 1 }
    if p.need = 0 then x.close p else { x with part := some p }

/-- The fourteen units of a flit, in order. -/
def Rx.units (port : Nat) (vc : BitVec 2) (start : Nat) : Nat → List (BitVec 128) → Rx → Rx
  | _, [], x => x
  | i, u :: us, x => Rx.units port vc start (i + 1) us (if bitAt start i then x.start port vc u else x.data u (decide (2 ^ i ≤ start)))

/-- An attach flit is delivered (R168): every header is decided, and an answer is due where it held one (R169). -/
def State.attachFlit (s : State) (port : Nat) (f : AFlit) : State :=
  if !s.trained (6 + port) ∨ !(f.vc = 0 ∨ f.vc = 3) then s
  else
    let mine : Part → Bool := fun p => decide (p.port = port) && p.vc == f.vc
    let x := Rx.units port f.vc (bitsAt f.map.toNat 83 14) 0 (f.units.take 14)
      ⟨{ s with ep := { s.ep with parts := dropWhere mine s.ep.parts } }, s.ep.parts.find? mine, none, 0, 0⟩
    let s := match x.part with
      | some p => { x.s with ep := { x.s.ep with parts := x.s.ep.parts ++ [p] } }
      | none => x.s
    if x.n = 0 then s
    else { s with ep := { s.ep with answers := s.ep.answers ++ [(port, fieldAt 8 f.map.toNat 120, BitVec.ofNat 14 x.acc)] } }

/-- The oldest answer due on a port leaves (R160, R169), in the map unit of a flit whose FNUM counts the idle flits since the last, a free
number of them. -/
def State.answerSend (s : State) (port : Nat) : State :=
  match s.ep.answers.find? (fun a => decide (a.1 = port)) with
  | none => s
  | some a =>
    let (w, s) := State.drawWord { s with ep := { s.ep with answers := s.ep.answers.eraseP (fun x => decide (x = a)) } }
    let n := (s.lp (6 + port)).fnum + w.setWidth 8
    (s.setLp (6 + port) { s.lp (6 + port) with fnum := n + 1 }).emit (.answer port (attachMap n 0 (some a.2)))

/-- A held entry is let go (R175). -/
def State.holdExpiry (s : State) (port : Nat) (c : BitVec 2) : State :=
  { s with ep := { s.ep with reserved := s.ep.reserved.eraseP (fun h => decide (h.port = port) && h.cls == c) } }

/-! ### Completion (R165, R171, R186) -/

/-- A class in the scope of a fence. -/
def Ent.covers (f : Ent) (c : BitVec 2) : Bool := bitAt f.fscope.toNat c.toNat

/-- An output of the attach port marks a completion of a request that has been translated (R220, R541, R559): its queue's depth against
the profile of its colour. -/
def State.markOut (s : State) (e : Ent) : Bool × State :=
  match e.req with
  | none => (false, s)
  | some r =>
    let p := 6 + e.port
    let (b, s) := s.redMark p (s.depth p r.iso) (s.f (F.SWC_RED_MIN r.colour.toNat)).toNat (s.f (F.SWC_RED_MAX r.colour.toNat)).toNat
      (s.f (F.SWC_RED_PMAX r.colour.toNat)).toNat
    (b, if b then s.incF (F.SWC_P_MARK_COUNT p) 1 else s)

/-- A completion to the agent sets out; its entry stays until it has left the port (R171). -/
def State.endEnt (s : State) (e : Ent) (st : Status) (ce sat : Bool) (w1 : R64) (data : Bytes) : State :=
  let (b, s) := s.markOut e
  (s.setEnt e.id (fun x => { x with st := .leaving })).attachCpl e.port e.tag e.size st (ce || b) sat w1 data

/-- The fence of a port completes once every covered request has (R186): with the first failed NC request. -/
def State.fenceCheck (s : State) (port : Nat) : State :=
  match s.ep.ents.find? (fun e => decide (e.port = port) && decide (e.st = .fencing)) with
  | none => s
  | some f =>
    if s.ep.ents.any (fun e => decide (e.port = port ∧ e.id < f.id) && e.live && f.covers e.cls) then s
    else
      let mine : NcFail → Bool := fun x => decide (x.port = port ∧ x.id < f.id) && f.covers x.cls
      let bad := (s.ep.ncFails.filter mine).foldl (fun b x => match b with
        | some (y : NcFail) => if x.id < y.id then some x else some y
        | none => some x) none
      let s := { s with ep := { s.ep with ncFails := dropWhere mine s.ep.ncFails } }
      match bad with
      | some x => s.endEnt f x.status false false x.va []
      | none => s.endEnt f stOk false false 0 []

/-- A request completes: to its agent, or, with NC, as a failure that a fence reports, its entry then free (R171); TARGET_LOST stops its
job (R482). -/
def State.completeEnt (s : State) (e : Ent) (job : Option JobId) (st : Status) (ce sat : Bool) (data : Bytes) : State :=
  let s := s.countXlate st
  let s := if e.nc && !e.isFence then
      State.freeEnt
        (if st = stOk then s else { s with ep := { s.ep with ncFails := s.ep.ncFails ++ [⟨e.port, e.cls, e.id, st, e.va⟩] } }) e
    else s.endEnt e st ce sat 0 data
  let s := match job with
    | some j => if st = stTargetLost then s.lostJob j else s
    | none => s
  s.fenceCheck e.port

/-! ### Checks (R177-R179, R194, R195) -/

/-- A class admits an opcode (R177). -/
def classAdmits (c : BitVec 2) (opc : BitVec 6) (nr : Bool) : Bool :=
  let ls := decide (opc = 1 ∨ opc = 2)
  let at_ := decide (3 ≤ opc.toNat ∧ opc.toNat ≤ 6)
  if c = 0 then ls || decide (8 ≤ opc.toNat) else if c = 1 then ls else if c = 2 then at_ else at_ && decide (opc ≠ 6) && nr

/-- An atomic's width, type and size combine (R194, R195). -/
def atomicGood (e : Ent) : Bool :=
  decide (e.wid ≠ 3) && decide (e.size.toNat = 2 + e.wid.toNat) &&
    (if e.opc = 6 then !e.nr
     else decide (e.wid ≠ 2) && decide (e.atype ≠ 3) && (decide (e.atype ≠ 2) || decide (e.wid = 0)))

/-- A request is malformed (R178, R179, R185). -/
def malformed (e : Ent) : Bool :=
  if e.isFence then decide (e.fscope = 0) || decide (bitsAt e.w0.toNat 0 16 ≠ 0)
  else
    !(decide (1 ≤ e.opc.toNat ∧ e.opc.toNat ≤ 6) || e.coh) || decide (bitsAt e.w0.toNat 0 16 ≠ 0) || !classAdmits e.cls e.opc e.nr ||
    decide (8 < e.size.toNat) || decide (e.va.toNat % e.bytes ≠ 0) || e.bad ||
    (decide (3 ≤ e.opc.toNat ∧ e.opc.toNat ≤ 6) && !atomicGood e)

/-- What translating a request comes to. -/
inductive Sent where
  | fail (slot : Option Nat) (st : Status) (s : State)
  | bad
  | ok (slot : Nat) (dst : NodeId) (r : Req)
  deriving DecidableEq, Repr

/-- The torus form of a request of a range (R71, R204). -/
def State.entReq (s : State) (slot : Nat) (e : Ent) (x : RangeE) : Req :=
  let r := req0 e.opc e.cls e.size (dpaOf x e.va.toNat) (s.agent (BitVec.ofNat 4 e.port)) (s.slotJob slot)
  let r := { r with nc := e.nc, nr := e.nr, unord := e.unord, width := e.wid, atype := e.atype, attr := attrOf x, data := e.data }
  if r.exact then
    let (c, sat) := exactConv (leNat (e.data.take 4)) e.ew
    { r with ew := e.ew, data := exactBytes c, tamp := ⟨false, 0, 1, sat⟩ }
  else r

/-- The checks of R78 in their order, with R197, R202, R251 and R254 after check 4. -/
def State.translateEnt (s : State) (e : Ent) : Sent :=
  let agent := s.agent (BitVec.ofNat 4 e.port)
  let ctx := s.f (F.XLT_AGT_CTX_ID e.port e.handle.toNat)
  if 2 ^ 57 ≤ e.va.toNat ∨ !s.on F.XLT_CTL_EN ∨ !s.on (F.XLT_AGT_VALID e.port e.handle.toNat) then .fail none stXlate s
  else match s.slotOf ctx with
    | none => .fail none stXlate (s.faultAbsent ctx e.handle agent)
    | some slot =>
      let need := (req0 e.opc e.cls e.size 0 agent 0).need
      match s.translate slot e.va e.bytes need false with
      | .fail st => .fail (some slot) st s
      | .absent _ _ _ => .fail (some slot) stXlate s
      | .ok x =>
        let fpAdd := decide (e.opc = 3) && decide (e.atype = 2)
        if fpAdd ∧ !x.accum ∧ !e.unord then .fail (some slot) stRights s
        else if fpAdd ∧ x.accum ∧ !ewOk e.ew then .bad
        else if fpAdd ∧ x.accum ∧ !(e.nr ∧ (e.cls = 2 ∨ e.cls = 3)) then .fail (some slot) stRights s
        else if e.coh ∧ (e.size ≠ 6 ∨ e.nc ∨ !(s.cohRanges slot).contains x) then .fail (some slot) stRights s
        else match s.absentPages x e.va.toNat e.bytes with
          | p :: ps => .fail (some slot) stXlate (s.faultAttach slot agent (x.vaStart + 65536 * p) (ps.length + 1))
          | [] =>
            if s.jobStopped (s.slotJob slot) then .fail (some slot) stJobStopped s
            else match s.homeOf (attrOf x) (dpaOf x e.va.toNat) with
              | none => .fail (some slot) stTargetLost s
              | some d => .ok slot d (s.entReq slot e x)

/-! ### Pacing (R221, R222) -/

/-- What a request counts against its window. -/
def Ent.paceBytes (e : Ent) : Nat := max 16 e.bytes

/-- The window lets a request go: no other waits before it, and it fits or is alone (R222). -/
def State.mayPace (s : State) (e : Ent) (home : NodeId) : Bool :=
  let w := s.paceOf e.port home
  decide (w.out = 0) || decide (w.out + e.paceBytes ≤ w.w)

/-- Send a translated request. -/
def State.sendEnt (s : State) (e : Ent) (slot : Nat) (dst : NodeId) (r : Req) : State :=
  let w := s.paceOf e.port dst
  let s := s.setPace e.port dst { w with out := w.out + e.paceBytes }
  let (r, s) := s.issueReq slot dst r
  s.setEnt e.id (fun x => { x with st := .sent, req := some r })

/-- Requests of a port that wait on their window to a home. -/
def State.pacedOf (s : State) (port : Nat) (home : NodeId) : List Ent :=
  s.ep.ents.filter (fun e => decide (e.port = port) && decide (e.st = .paced) && (match e.req with | some r => r.dst == home | none => false))

/-- One request that waits on its window is sent, or ends (R222). -/
def State.releaseEnt (s : State) (home : NodeId) (e : Ent) : State :=
  match e.req with
  | none => s
  | some r =>
    let job := r.job
    if s.jobStopped job then s.completeEnt e (some job) stJobStopped false false []
    else match s.homeOf r.attr r.dpa with
      | none => s.completeEnt e (some job) stTargetLost false false []
      | some d => if s.mayPace e home then s.sendEnt e e.slot.toNat d r else s

/-- Waiting requests go in issue order while the window lets them (R222). -/
def State.pacedRelease (s : State) (home : NodeId) : List Ent → State
  | [] => s
  | e :: es =>
    let t := s.releaseEnt home e
    if t.ep.ents.any (fun x => decide (x.id = e.id ∧ x.st = .paced)) then t else t.pacedRelease home es

/-- 64 tk have passed without CE from a home (R221). -/
def State.paceGrow (s : State) (port : Nat) (home : NodeId) : State :=
  let w := s.paceOf port home
  if s.now.toNat < w.lastCe.toNat + 64 then s
  else s.setPace port home { w with w := min (w.w + 0x4000) 0x100000, lastCe := s.now }

/-- A request is no longer outstanding: its bytes leave its window. -/
def State.unpace (s : State) (e : Ent) (home : NodeId) : State :=
  let w := s.paceOf e.port home
  s.setPace e.port home { w with out := w.out - e.paceBytes }

/-- A completion frees its bytes; a marked one halves the window (R221). -/
def State.paceDone (s : State) (e : Ent) (home : NodeId) (ce : Bool) : State := (s.unpace e home).paceCe e.port home ce

/-! ### Issue (R78, R188) -/

/-- The oldest accepted request of a port that has not left ingress, its message whole. -/
def State.oldest (s : State) (port : Nat) : Option Ent :=
  match s.ep.ents.find? (fun e => decide (e.port = port ∧ e.st = .waiting)) with
  | some e => if s.ep.parts.any (fun p => p.keep == some e.id) then none else some e
  | none => none

/-- A request leaves ingress; after a FENCE none does until it completes (R188). -/
def State.issueAttach (s : State) (port : Nat) : State :=
  if s.ep.ents.any (fun e => decide (e.port = port ∧ e.st = .fencing)) then s
  else match s.oldest port with
    | none => s
    | some e =>
      if malformed e then (s.incF (F.SWC_P_MALF_COUNT (6 + port)) 1).completeEnt e none stRights false false []
      else if s.on F.FLT_STAT_SELF_EXP then s.completeEnt e none stTargetLost false false []
      else if e.isFence then (s.setEnt e.id (fun x => { x with st := .fencing })).fenceCheck port
      else match s.translateEnt e with
        | .bad => (s.incF (F.SWC_P_MALF_COUNT (6 + port)) 1).completeEnt e none stRights false false []
        | .fail slot st s => s.completeEnt e (slot.map s.slotJob) st false false []
        | .ok slot dst r =>
          let s := s.setEnt e.id (fun x => { x with slot := BitVec.ofNat 10 slot, epoch := s.slotEpoch slot, req := some { r with dst := dst } })
          if (s.pacedOf port dst).isEmpty && s.mayPace e dst then s.sendEnt e slot dst r
          else s.setEnt e.id (fun x => { x with st := .paced })

/-! ### Completions of homes (R187) -/

/-- The request that a completion answers, by series and number. -/
def State.entFor (s : State) (c : Cpl) : Option (Ent × Req) :=
  s.ep.ents.findSome? (fun e => match e.req with
    | some r => if e.st = .sent ∧ r.src = c.agent ∧ r.cls = c.cls ∧ r.seq = c.seq ∧ r.dst = c.src then some (e, r) else none
    | none => none)

/-- The operation of the node's own that a completion answers (R681). -/
def State.ownFor (s : State) (c : Cpl) : Option Own :=
  s.ep.own.find? (fun o => o.agent == c.agent && o.cls == c.cls && o.seq == c.seq && o.home == c.src)

/-- An operation of the node's own completes. -/
def State.ownDone (s : State) (o : Own) (c : Cpl) : State :=
  let s := { s with ep := { s.ep with own := s.ep.own.eraseP (fun x => decide (x = o)) } }
  match o.kind with
  | .sigEn q idx => s.signalled q.toNat idx
  | .spillSig ch idx => s.recSignalled ch.toNat idx
  | .signal q idx => s.finish q.toNat idx c.status (fun d => { d with faultWord := if c.status = stOk then 0 else 3 })
  | .armed e d => if c.status = stOk then s else s.post (evArmFailed d e.toNat c.status)
  | .mirrorRead r g stale => s.mirrorAnswer r g stale c
  | .copy => s
  | .granuleRead g cause stale => (s.granuleAnswer g cause stale c).2

/-- A home completion reaches the end point (R183, R187, R221): it is acknowledged but for a LOAD's. -/
def State.completionArrive (s : State) (c : Cpl) : State :=
  if c.opc ≠ 0x30 ∧ c.opc ≠ 0x31 then s
  else match s.entFor c with
    | some (e, r) =>
      let s := if r.opc = 1 then s else s.sendCpl (cackFor s c)
      (s.paceDone e r.dst c.ce).completeEnt e (some r.job) c.status c.ce c.sat c.data
    | none => match s.ownFor c with
      | some o => (if o.req.opc = 1 then s else s.sendCpl (cackFor s c)).ownDone o c
      | none => s

/-! ### Commands -/

/-- ATTACH_FLIT_RECEIVE (R168). -/
def execAttachFlitReceive (port : Fin 8) (flit : AFlit) (s : State) : Host.Outcome State Fault Refusal :=
  whenUp s (fun s => s.attachFlit port.val flit)

/-- ANSWER_SEND (R169). -/
def execAnswerSend (port : Fin 8) (s : State) : Host.Outcome State Fault Refusal := whenUp s (fun s => s.answerSend port.val)

/-- DEFER_RESERVE_EXPIRY (R175). -/
def execDeferReserveExpiry (port : Fin 8) (cls : BitVec 2) (s : State) : Host.Outcome State Fault Refusal :=
  whenUp s (fun s => s.holdExpiry port.val cls)

/-- ATTACH_REQUEST_ISSUE (R78). -/
def execAttachRequestIssue (port : Fin 8) (s : State) : Host.Outcome State Fault Refusal := whenUp s (fun s => s.issueAttach port.val)

/-- FENCE (R185): the port's oldest waiting request, where it is a FENCE. -/
def execFence (port : Fin 8) (s : State) : Host.Outcome State Fault Refusal :=
  whenUp s (fun s => match s.oldest port.val with
    | some e => if e.isFence then s.issueAttach port.val else s
    | none => s)

/-- PACED_REQUEST_RELEASE (R222). -/
def execPacedRequestRelease (port : Fin 8) (home : NodeId) (s : State) : Host.Outcome State Fault Refusal :=
  whenUp s (fun s => s.pacedRelease home (s.pacedOf port.val home))

/-- PACING_WINDOW_GROW (R221). -/
def execPacingWindowGrow (port : Fin 8) (home : NodeId) (s : State) : Host.Outcome State Fault Refusal :=
  whenUp s (fun s => s.paceGrow port.val home)

/-- COMPLETION_RECEIVE (R187). -/
def execCompletionReceive (c : Cpl) (s : State) : Host.Outcome State Fault Refusal := whenUp s (fun s => s.completionArrive c)

/-- SNOOP_DELIVERY (R254). -/
def execSnoopDelivery (p : Snp) (s : State) : Host.Outcome State Fault Refusal := whenUp s (fun s => s.snoopArrive p)

/-- PORT_ID (R506): an attach port that comes up lets the snoops held for its agent go on. -/
def execPortId (port : Fin 14) (peer : PortId) (s : State) : Host.Outcome State Fault Refusal :=
  whenUp s (fun s =>
    let s := s.portIdArrive port.val peer
    if 6 ≤ port.val ∧ s.trained port.val then s.flushSnoops (port.val - 6) else s)

end Sys2Proof.Machine
end

