-- ==== Sys2Proof/Machine/DescOps.lean ====
section
/-!
DEFINITION. The life of a descriptor (R113-R137, R682-R685): fetch and its checks, translation, parking and waking, the start, the
work of the 64-byte opcodes, completion.
-/

namespace Sys2Proof.Machine

/-! ### Checks at the fetch (R139) -/

/-- ERR 0x05: a reserved value, or SIEVE or UNORDERED where it is not taken. -/
def Desc.badCode (d : Desc) : Bool :=
  let o := d.opcode
  (d.sieve && !d.isColl) || (d.unordered && o != 5) ||
  (if o = 2 then
    (if d.mode = 0 then !tyPair 0 false d.gIn d.gOut else if d.mode = 1 then !tyPair 1 false d.gIn d.gOut else true)
  else if o = 3 then d.mode != 0
  else if o = 5 then
    decide (3 < d.atop) || decide (1 < d.awidth) ||
      !(d.dtype == 0 || ((d.dtype == 1 || d.dtype == 12) && d.awidth == 0) || (d.dtype == 13 && d.awidth == 1))
  else if o = 16 then
    d.subop == 0 || decide (5 < d.subop) || d.redOp == 3 || (d.sieve && d.subop == 5) ||
      (if d.subop = 3 ∨ d.subop = 5 then !tyPair (if d.redOp = 0 then 1 else 2) true d.inTy d.outTy
       else d.redOp != 0 || !tyPair 0 false d.inTy d.outTy)
  else if o = 17 then decide (2 ≤ d.capMode) || !tyPair 0 false d.inTy d.outTy
  else if o = 18 then !tyPair 1 false d.inTy d.outTy
  else false)

/-- ERR 0x06: a count out of range (R120, R155, R351, R398, R431, R448, R461). -/
def State.badRange (s : State) (d : Desc) : Bool :=
  let o := d.opcode
  if o = 2 ∨ o = 3 then
    d.rowSize % 4 != 0 || d.rowSize == 0 || decide (16777216 < d.rowSize) ||
      (o == 2 && (d.mode == 1 || tyMx d.gIn) && d.rowSize % blkBytes d.gIn != 0)
  else if o = 7 then d.arm && decide (65535 < (d.w 4).toNat)
  else if o = 16 then
    decide (2 ^ 40 ≤ s.grpN d.group * d.count) ||
      (d.count % 32 != 0 && (tyMx d.inTy || d.sieve || ((d.subop == 3 || d.subop == 5) && d.redOp == 0 && tyFloat d.inTy)))
  else if o = 17 ∨ o = 18 then
    d.topk == 0 || decide (8 < d.topk) || d.count == 0 || decide (1048576 < d.count) || decide (16777216 < d.tokens) ||
      (d.count % 32 != 0 && (tyMx d.inTy || d.sieve))
  else false

/-- The lowest error code of a descriptor; 0 for none (R139). -/
def State.descErr (s : State) (q : Nat) (d : Desc) : BitVec 5 :=
  if !(decide (d.opcode ≤ 8) || d.isColl) then 1
  else if d.double != d.isColl then 2
  else if d.double ∧ d.idx.toNat + 1 = 2 ^ s.qLog2 q then 3
  else if d.isColl ∧ s.queueStream q = 0 then 4
  else if d.badCode then 5
  else if s.badRange d then 6
  else if d.timed ∧ d.barrier then 8
  else if s.f (F.QMG_Q_CFG_POSTER q) ≠ 8 ∧
      ((d.opcode = 1 ∧ (d.srcBus ∨ d.dstBus ∨ d.nopres)) ∨ (d.opcode = 4 ∧ (d.dstBus ∨ d.nopres))) then 9
  else 0

/-! ### Fetch (R127, R682, R685) -/

/-- SIG (R125): the reserved bits of words 3 to 5 taken as zero. -/
def Desc.sigOf (d : Desc) : R64 :=
  let m3 : R64 := if d.opcode = 16 then 0x0000000FFFFFFFFF else if d.opcode = 17 then 0x000FFFF00FFCFF00 else 0x000FFCF00FFCFF00
  crc64 (natLe 1 d.opcode ++ zeros 7 ++ natLe 8 (d.w 3 &&& m3).toNat ++ natLe 8 (w64 (d.w 4) 31 0) ++ natLe 8 (w64 (d.w 5) 39 0))

/-- The descriptors that a FENCE covers (R682). -/
def State.coversOf (s : State) (q : Nat) (d : Desc) : List (BitVec 10 × Nat) :=
  let qs := q :: (if bitAt (d.w 3).toNat 0 then (s.queuesOf (s.qSlot q)).filter (fun p => p != q) else [])
  qs.flatMap (fun p =>
    ((s.q p).descs.filter (fun d => decide (d.st ≠ .done))).map (fun d => (BitVec.ofNat 10 p, d.order)) ++
    (if p = q then [] else (s.q p).kept.map (fun k => (BitVec.ofNat 10 p, k.2))))

/-- A fetched descriptor, its resumption from a paused one included (R117). -/
def State.newDesc (s : State) (q : Nat) (words : List R64) : Desc :=
  let idx := (s.q q).fetch
  let w2 := words.getD 2 0
  let again := bitAt w2.toNat 1 && !bitAt w2.toNat 0
  let order := match (s.q q).kept.find? (fun k => k.1 == idx && again) with | some k => k.2 | none => s.qmg.nextOrder
  { idx := idx, words := words, st := .translated, prog := if again then w64 w2 63 24 else 0, epoch := 0, tbl := (0, 0), job := 0,
    status := 0, faultWord := 0, late := again && bitAt w2.toNat 4, sat := again && bitAt w2.toNat 2, drop := again && bitAt w2.toNat 5,
    timeout := false, pauseVa := none, faultVa := 0, begun := again, started := 0, tile := 0, watching := false, polling := false, order := order, covers := [],
    sig := 0 }

/-- The words of a slot. -/
def slotWords (bs : Bytes) : List R64 := (List.range 16).map (fun i => BitVec.ofNat 64 (leNat (slice bs (8 * i) 8)))

/-- A fetched descriptor joins its queue. -/
def State.pushDesc (s : State) (q : Nat) (d : Desc) : State :=
  let r := s.q q
  let r := { r with descs := r.descs ++ [d], fetch := s.ringNext q d.idx d.slots, kept := r.kept.filter (fun k => k.1 != d.idx || k.2 == d.order) }
  State.setQ { s with qmg := { s.qmg with nextOrder := s.qmg.nextOrder + 1 } } q r

/-- A slot that a stopped job's queue had not fetched (R685): word 2 only, its size from DOUBLE. R685 makes no other check of such a slot, so
one whose word 2 had DONE already is written too (DESIGN CHOICE, log entry 98). -/
def State.stopFetched (s : State) (q : Nat) (d : Desc) : State :=
  let d := { d with st := .done, status := stJobStopped, prog := 0, late := false, sat := false, drop := false }
  let s := (s.pushDesc q d).writeSlot q d.idx 2 (d.word2 false true)
  s.advance q (s.q q).descs

/-- A fetched slot is passed over where it is done, else checked and translated (R117, R127, R139). -/
def State.fetched (s : State) (q : Nat) (words : List R64) : State :=
  let d := s.newDesc q words
  if (s.q q).jobStop then s.stopFetched q d
  else if bitAt (d.w 2).toNat 0 then
    let s := s.pushDesc q { d with st := .done }
    s.advance q (s.q q).descs
  else if s.descErr q d ≠ 0 then s.queueError q d.idx (s.descErr q d)
  else
    let d := { d with covers := if d.opcode = 8 then s.coversOf q d else [], sig := if d.double then d.sigOf else 0 }
    (s.pushDesc q d).applyXlate q d.idx

/-- The end of a fetch: a slot, or a failure (R139 ERR 0x07). What a queue no longer wants is dropped. -/
def State.fetchDone (s : State) (q : Nat) (res : Fetched) : State :=
  if !(s.q q).fetching then s
  else
    let s := s.setQ q { s.q q with fetching := false }
    let run := decide (s.qState q = qRunning)
    if !run && !(s.q q).jobStop then s
    else match res with
      | .failed => if run then s.queueError q (s.q q).fetch 7 else s
      | .slot bs => s.fetched q (slotWords (if s.qInSram q then s.sramSlot q (s.q q).fetch 128 else bs))

/-! ### Start (R128-R131, R298, R309) -/

/-- A descriptor still stands at its queue's start position: it has not started, or is a SYNC_SIGNAL that has no arm entry yet. -/
def Desc.unstarted (d : Desc) : Bool :=
  decide (d.st = .translated) || decide (d.st = .held) || decide (d.st = .parked) || decide (d.st = .armWait) ||
  (decide (d.st = .running) && d.opcode == 7 && d.arm)

/-- The descriptor at a queue's start position, where every condition of R128 but its issue slot and a barrier start holds. -/
def State.startable (s : State) (q : Nat) : Option Desc :=
  let ds := (s.q q).descs
  if s.qState q ≠ qRunning ∧ s.qState q ≠ qError then none
  else match ds.find? Desc.unstarted with
    | none => none
    | some d =>
      let earlier := ds.takeWhile (fun e => !e.unstarted)
      if d.st ≠ .translated ∧ d.st ≠ .held then none
      else if earlier.any (fun e => decide (e.st ≠ .done) && (e.opcode == 6 || e.opcode == 8)) then none
      else if d.fencePrev && earlier.any (fun e => decide (e.st ≠ .done)) then none
      else if d.timed && !s.due (d.w 1) then none
      else if d.isEngine && !s.on F.ENG_CTL_EN then none
      else if d.isColl && !s.on F.GRP_CTL_EN then none
      else some d

/-- Some tile's present slot is one that no timetable owns (R131, R305); a doppio follower's is none to start a descriptor in (R383).
The lowest is taken (DESIGN CHOICE, log entry 131). -/
def State.freeTile (s : State) : Option Nat :=
  (List.range 48).find? (fun n => s.exposed n && s.phys n != 0x3F && !s.follower n && kindOf (s.entry (15 + n)) == 0)

/-- The tile whose present slot is a stream's (R131, R305): its TILE, where the record uses one, else a tile whose table names the stream
(R307); never a doppio follower (R383). -/
def State.streamTile (s : State) (id : Nat) (e : StreamE) : Option Nat :=
  ((List.range 48).filter (fun n => s.exposed n && !s.follower n && (!e.usesTile || n == e.tile))).find? (fun n =>
    kindOf (s.entry (15 + n)) == 1 && idOf (s.entry (15 + n)) == id)

/-- A BARRIER descriptor that has not started yet waits for a barrier start (R128, R296). -/
def Desc.waitsBar (d : Desc) : Bool := d.barrier && !d.begun

/-- Weighted round robin among unscheduled queues whose next descriptor could start now (R131): the queue whose turn it is, in the order of
their numbers. -/
def State.turnOf (s : State) : Option Nat :=
  let ready := (s.qmg.qs.map (·.1)).filter (fun q =>
    decide (s.queueStream q = 0) && (match s.startable q with | some d => !d.waitsBar | none => false))
  let c := s.qmg.turn.1.toNat
  if s.qmg.turn.2 ≠ 0 ∧ ready.contains c then some c
  else match ready.find? (fun q => decide (c < q)) with
    | some q => some q
    | none => ready.head?

/-- A start uses one slot of the turn. -/
def State.takeTurn (s : State) (q : Nat) : State :=
  let left := if s.qmg.turn.1.toNat = q ∧ s.qmg.turn.2 ≠ 0 then s.qmg.turn.2 else max 1 (s.f (F.QMG_Q_SCHED_WEIGHT q)).toNat
  { s with qmg := { s.qmg with turn := (BitVec.ofNat 10 q, left - 1) } }

/-- A TIMED descriptor starts late (R116, R129): after START_TIME, or, on a scheduled queue, after the first slot at or after it that
its stream had (R298). -/
def State.lateStart (s : State) (id : Nat) (tile : Nat) (d : Desc) : Bool :=
  let t := (d.w 1).toNat
  if id = 0 then decide (t < s.now.toNat)
  else match s.activeSet with
    | none => decide (t < s.now.toNat)
    | some a =>
      let first := max (s.slotAt (d.w 1)).toNat s.dtt.sSwap.toNat
      let n := min (s.clk.slot.toNat - first) (s.ttLen a)
      (List.range n).any (fun j =>
        let e := s.ttEntry a (15 + tile) ((first + j - s.dtt.sSwap.toNat) % s.ttLen a)
        kindOf e == 1 && idOf e == id)

/-- An ALLTOALLV count of AUX lies above COUNT (R405), read at the start. -/
def State.sendsOver (s : State) (q : Nat) (d : Desc) (resps : List Resp) : Bool × State :=
  if d.kind ≠ 2 ∨ !s.mayJoin q d then (false, s)
  else
    let n := s.grpN d.group
    let (bs, i) := (s.io q d false resps).loadOp d 8 (d.w 8).toNat (16 * n)
    (i.live && (sendsOf bs n).any (fun x => decide (d.count < x)), i.s)

/-- A descriptor whose conditions hold starts (R127, R129); a COLL, DISPATCH or COMBINE joins its instance (R399-R401). -/
def State.beginDesc (s : State) (q : Nat) (d : Desc) (tile : Nat) (resps : List Resp) : State :=
  let late := d.late || (d.timed && !d.begun && s.lateStart (s.queueStream q) tile d)
  let go (s : State) : State := s.setDesc q d.idx (fun d => { d with begun := true, started := s.now, late := late, tile := tile })
  if d.isColl then
    let (excess, s1) := s.sendsOver q d resps
    match (go s1).startColl q d excess with
    | .wait => s
    | .refuse => s.completeDesc q d.idx stRights
    | .done s' => s'
  else (go s).setDesc q d.idx (fun d => { d with st := .running })

/-- A translated descriptor at the start position of its queue starts where it has an issue slot (R131, R309, R380). At a barrier start an
unscheduled one waits for no turn (R296). -/
def State.startNow (s : State) (q : Nat) (d : Desc) (bar : Bool) (resps : List Resp) : State :=
  let id := s.queueStream q
  if id = 0 then
    if d.isEngine ∧ s.on F.GLB_TILES_SHORT then s.completeDesc q d.idx stDataLost
    else match s.freeTile with
      | none => s
      | some n => if !bar ∧ (s.turnOf).getD q ≠ q then s else (if bar then s else s.takeTurn q).beginDesc q d n resps
  else match s.stream id with
    | some e =>
      if e.job ≠ s.slotJob (s.qSlot q) then
        (s.completeDesc q d.idx stRights).post (ev 0x4A stRights (2 ^ 16 * q + id) 0)
      else if d.isEngine ∧ s.on F.GLB_TILES_SHORT then s.completeDesc q d.idx stDataLost
      else match s.streamTile id e with
        | some n => s.beginDesc q d n resps
        | none => s
    | none => (s.completeDesc q d.idx stRights).post (ev 0x4A stRights (2 ^ 16 * q + id) 0)

/-- A descriptor at the start position was translated under the present commit, and was not held for room in the fault queue (R99, R132). -/
def State.fresh (s : State) (q : Nat) (d : Desc) : Bool := decide (d.st ≠ .held) && decide (d.epoch = s.slotEpoch (s.qSlot q))

/-- The start position of a queue: a stale translation is made anew first (R99). -/
def State.startDesc (s : State) (q : Nat) (d : Desc) (bar : Bool) (resps : List Resp) : State :=
  if s.fresh q d then s.startNow q d bar resps
  else
    let s := s.applyXlate q d.idx
    match s.desc q d.idx with
    | some d => if d.st = .translated then s.startNow q d bar resps else s
    | none => s

/-- Start the descriptor at a queue's start position: at a barrier start one that waits for it, otherwise one that does not (R128, R296). -/
def State.startHead (s : State) (q : Nat) (bar : Bool) (resps : List Resp) : State :=
  match s.startable q with
  | some d => if d.waitsBar = bar then s.startDesc q d bar resps else s
  | none => s

/-- The remaining delay of a barrier has passed (R294, R296): at a member every BARRIER descriptor starts. -/
def State.barrierFire (s : State) : State :=
  match s.dtt.firing with
  | none => s
  | some f =>
    if s.units < f.units then s
    else
      let here := decide (s.dtt.bar = some (f.seq, true))
      let s := s.fireBar f
      if here then (s.qmg.qs.map (·.1)).foldl (fun s q => s.startHead q true []) s else s

/-! ### The end of a descriptor's work (R91, R133, R135) -/

/-- Its work ended: with a failure, at an absent page, at a stop, or well; `p` units of PROGRESS. -/
def Io.settle (i : Io) (idx : BitVec 16) (p : Nat) : State :=
  let upd (d : Desc) : Desc := { d with prog := p, sat := d.sat || i.sat }
  match i.err with
  | some (st, w) => i.s.finish i.q idx st (fun d => { upd d with faultWord := BitVec.ofNat 4 w })
  | none => match i.pause with
    | some (va, _) => i.s.parkAt i.q idx va upd
    | none =>
      if i.halt then i.s.pauseDesc i.q idx (fun d => { upd d with st := .translated })
      else i.s.finish i.q idx stOk upd

/-- Run the work of a running descriptor of one kind. -/
def State.work (s : State) (q : Nat) (idx : BitVec 16) (resps : List Resp) (kind : Desc → Bool) (f : Desc → Io → Nat × Io) : State :=
  match s.desc q idx with
  | none => s
  | some d =>
    if d.st ≠ .running ∨ !kind d then s
    else
      let (p, i) := f d (s.io q d d.nopres resps)
      i.settle idx p

/-- Bounds and presence of a whole unit, before it is touched (R87, R91). -/
def Io.span (i : Io) (e : RangeE) (word va n : Nat) : Io :=
  if !i.live then i
  else if va < e.vaStart ∨ e.vaStart + e.len < va + n then i.fail stXlate word
  else if i.nopres then i
  else match i.s.absentPages e va n with
    | p :: _ => { i with pause := some (e.vaStart + 65536 * p, word) }
    | [] => i

/-! ### COPY and FILL (R120, R133) -/

/-- Bytes of the next operation at an address: a bus address has no bound of its own (R122). -/
def sideLen (bus : Bool) (a len : Nat) : Nat := if bus then min 256 len else pieceLen a len

/-- Move bytes from one place to another, operation by operation, from `pos` on. `src` gives the bytes at a position; `pt` tells a
pause point; `stop`: the queue stops. -/
def Io.move (src : Nat → Nat → Io → Bytes × Io) (dst : Nat → Bytes → Io → Nat × Io) (size : Nat → Nat) (pt : Nat → Bool) (stop : Bool)
    (len : Nat) : Nat → Nat → Io → Nat × Io
  | 0, pos, i => (pos, i)
  | fuel + 1, pos, i =>
    if len ≤ pos then (pos, i)
    else if stop && pt pos then (pos, { i with halt := true })
    else
      let (bs, i) := src pos (size pos) i
      if !i.live then (pos, i)
      else
        let (n, i) := dst pos bs i
        if !i.live then (pos + n, i) else Io.move src dst size pt stop len fuel (pos + size pos) i

/-- The writing side of a COPY or a FILL. -/
def Io.putAt (e : Option RangeE) (word base : Nat) (pos : Nat) (bs : Bytes) (i : Io) : Nat × Io :=
  match e with
  | some e => i.store e word (base + pos) bs
  | none => (bs.length, i.busStore (base + pos) bs)

/-- The range of an operand that is no bus address. -/
def Io.side (i : Io) (bus : Bool) (va word : Nat) : Option RangeE × Io := if bus then (none, i) else i.range va word

/-- COPY. -/
def Io.copy (d : Desc) (i : Io) : Nat × Io :=
  let a := (d.w 3).toNat
  let b := (d.w 4).toNat
  if d.length = 0 then (0, i)
  else
    let (ea, i) := i.side d.srcBus a 3
    let (eb, i) := i.side d.dstBus b 4
    if !i.live then (d.prog, i)
    else
      Io.move
        (fun pos n i => match ea with
          | some e => i.load e 3 (a + pos) n
          | none => i.busLoad 3 (a + pos) n)
        (Io.putAt eb 4 b)
        (fun pos => min (sideLen d.srcBus (a + pos) (d.length - pos)) (sideLen d.dstBus (b + pos) (d.length - pos)))
        (fun pos => (!d.srcBus && (a + pos) % 65536 == 0) || (!d.dstBus && (b + pos) % 65536 == 0))
        (i.s.stopping i.q) d.length (d.length - d.prog) d.prog i

/-- FILL: the pattern repeats from DST. -/
def Io.fill (d : Desc) (i : Io) : Nat × Io :=
  let b := (d.w 3).toNat
  let pat := natLe 8 (d.w 4).toNat
  if d.length = 0 then (0, i)
  else
    let (eb, i) := i.side d.dstBus b 3
    if !i.live then (d.prog, i)
    else
      Io.move (fun pos n i => ((List.range n).map (fun j => pat.getD ((pos + j) % 8) 0), i)) (Io.putAt eb 3 b)
        (fun pos => sideLen d.dstBus (b + pos) (d.length - pos)) (fun pos => !d.dstBus && (b + pos) % 65536 == 0)
        (i.s.stopping i.q) d.length (d.length - d.prog) d.prog i

/-! ### GATHER, EMBED_BAG, SCATTER (R87, R133, R460-R462) -/

/-- Run numbered units while the work goes on: `n` units from `t` on; how many are done. -/
def Io.units (f : Nat → Io → Io) : Nat → Nat → Io → Nat × Io
  | 0, t, i => (t, i)
  | n + 1, t, i =>
    let i := f t i
    if i.live then Io.units f n (t + 1) i else (t, i)

/-- The ranges of three operands. -/
def Io.ranges3 (i : Io) (d : Desc) (f : RangeE → RangeE → RangeE → Io → Nat × Io) : Nat × Io :=
  let (e3, i) := i.range (d.w 3).toNat 3
  let (e4, i) := i.range (d.w 4).toNat 4
  let (e5, i) := i.range (d.w 5).toNat 5
  match e3, e4, e5 with
  | some e3, some e4, some e5 => f e3 e4 e5 i
  | _, _, _ => (d.prog, i)

/-- An index word (R460). -/
def Io.index (i : Io) (e : RangeE) (d : Desc) (t : Nat) : Nat × Io :=
  let va := (d.w 5).toNat + 4 * t
  let i := i.span e 5 va 4
  if !i.live then (0, i)
  else
    let (bs, i) := i.load e 5 va 4
    (leNat bs, i)

/-- Move one row between two ranges once both are present. -/
def Io.row (i : Io) (es ed : RangeE) (ws wd sva dva n : Nat) : Io :=
  let i := (i.span es ws sva n).span ed wd dva n
  if !i.live then i
  else
    let (bs, i) := i.load es ws sva n
    if i.live then (i.store ed wd dva bs).2 else i

/-- Plain GATHER. -/
def Io.gather (d : Desc) (i : Io) : Nat × Io :=
  if d.indexCount = 0 then (0, i)
  else i.ranges3 d (fun e3 e4 e5 i =>
    Io.units (fun t i =>
      let (x, i) := i.index e5 d t
      i.row e3 e4 3 4 ((d.w 3).toNat + x * d.rowSize) ((d.w 4).toNat + t * d.rowSize) d.rowSize) (d.indexCount - d.prog) d.prog i)

/-- SCATTER. -/
def Io.scatter (d : Desc) (i : Io) : Nat × Io :=
  if d.indexCount = 0 then (0, i)
  else i.ranges3 d (fun e3 e4 e5 i =>
    Io.units (fun t i =>
      let (x, i) := i.index e5 d t
      i.row e3 e4 3 4 ((d.w 3).toNat + t * d.rowSize) ((d.w 4).toNat + x * d.rowSize) d.rowSize) (d.indexCount - d.prog) d.prog i)

/-- The bags that index words open (R460). -/
def bagsOf : List Nat → List (List Nat)
  | [] => []
  | x :: xs =>
    match bagsOf xs, xs with
    | b :: bs, y :: _ => if bitAt y 31 then [bitsAt x 0 31] :: b :: bs else (bitsAt x 0 31 :: b) :: bs
    | bs, _ => [bitsAt x 0 31] :: bs

/-- The rows of a bag, each once present. -/
def Io.bagRows (e : RangeE) (d : Desc) : List Nat → Io → List Bytes × Io
  | [], i => ([], i)
  | x :: xs, i =>
    let (bs, i) := i.load e 3 ((d.w 3).toNat + x * d.rowSize) d.rowSize
    if !i.live then ([], i)
    else
      let (rest, i) := Io.bagRows e d xs i
      (bs :: rest, i)

/-- The exact sum of a bag's rows, block by block (R461), and how many blocks count under R366. -/
def bagSum (d : Desc) (rows : List Bytes) : Bytes × Nat :=
  let nb := blkBytes d.gIn
  let out := (List.range (d.rowSize / nb)).map (fun b => reduceBlock d.gIn d.gOut 0 (rows.map (fun r => some (slice r (b * nb) nb))))
  (out.flatMap (fun x => patBytes d.gOut x.1), (out.filter (·.2)).length)

/-- EMBED_BAG. -/
def Io.embedBag (d : Desc) (i : Io) : Nat × Io :=
  if d.indexCount = 0 then (0, i)
  else i.ranges3 d (fun e3 e4 e5 i =>
    let i := i.span e5 5 (d.w 5).toNat (4 * d.indexCount)
    let (bs, i) := if i.live then i.load e5 5 (d.w 5).toNat (4 * d.indexCount) else ([], i)
    if !i.live then (d.prog, i)
    else
      let bags := bagsOf ((List.range d.indexCount).map (fun t => leNat (slice bs (4 * t) 4)))
      let n := runBytes d.gOut (d.rowSize / blkBytes d.gIn * 32)
      Io.units (fun t i =>
        let bag := bags.getD t []
        let dva := (d.w 4).toNat + t * n
        let i := bag.foldl (fun i x => i.span e3 3 ((d.w 3).toNat + x * d.rowSize) d.rowSize) i
        let i := i.span e4 4 dva n
        if !i.live then i
        else
          let (rows, i) := Io.bagRows e3 d bag i
          if !i.live then i
          else
            let (out, sats) := bagSum d rows
            ((i.countSat sats).store e4 4 dva out).2) (bags.length - d.prog) d.prog i)

/-! ### ATOMIC_BATCH (R121) -/

/-- The records are FP32 adds. -/
def Desc.fpAdd (d : Desc) : Bool := decide (d.atop = 0 ∧ d.dtype = 1)

/-- The request of a record for a target in a range: an exact add carries the converted contribution (R121, R204). -/
def Desc.atomicReq (d : Desc) (e : RangeE) (va : Nat) (src : AgentId) (job : JobId) (ew op cmp : Nat) : Req :=
  let r := { req0 (BitVec.ofNat 6 (3 + d.atop)) 2 (BitVec.ofNat 4 (2 + d.awidth)) (dpaOf e va) src job with
    unord := d.unordered, width := BitVec.ofNat 2 d.awidth, atype := if d.dtype = 0 then 0 else if d.dtype = 1 then 2 else 1 }
  if d.fpAdd ∧ e.accum then
    let (c, sat) := exactConv (op % 2 ^ 32) (BitVec.ofNat 8 ew)
    { r with nr := true, ew := BitVec.ofNat 8 ew, data := exactBytes c, tamp := ⟨false, 0, 1, sat⟩ }
  else
    { r with data := natLe (4 * (d.awidth + 1)) op ++ zeros (12 - 4 * d.awidth) ++
      (if d.atop = 3 then natLe (4 * (d.awidth + 1)) cmp ++ zeros (12 - 4 * d.awidth) else []) }

/-- One record: its target is translated on its own when it is reached (R683), and an FP32 add refused directly after check 4 (R135, R197). -/
def Io.record (d : Desc) (e3 : RangeE) (e4 : Option RangeE) (t : Nat) (i : Io) : Io :=
  let va := (d.w 3).toNat + 32 * t
  let i := i.span e3 3 va 32
  let (bs, i) := if i.live then i.load e3 3 va 32 else ([], i)
  if !i.live then i
  else
    let word (k : Nat) : Nat := leNat (slice bs (8 * k) 8)
    let n := 4 * (d.awidth + 1)
    match i.s.translate i.slot (BitVec.ofNat 64 (word 0)) n needA false with
    | .fail st => i.fail st 3
    | .absent .. => i
    | .ok e =>
      let exact := d.fpAdd && e.accum
      let ew := bitsAt (word 1) 0 8
      let i := if d.fpAdd ∧ !e.accum ∧ !d.unordered then i.fail stRights 3 else i.span e 3 (word 0) n
      let i := match e4 with
        | some r => i.span r 4 ((d.w 4).toNat + 8 * t) 8
        | none => i
      if !i.live then i
      else if exact ∧ (ew = 128 ∨ ew = 129) then i.fail stRights 3
      else
        let (a, i) := i.send e 3 n (d.atomicReq e (word 0) i.agent i.job ew (word 2) (word 3))
        match e4 with
        | some r =>
          if i.live then (i.store r 4 ((d.w 4).toNat + 8 * t) (if exact then zeros 8 else slice (slice a.data 0 n) 0 8)).2 else i
        | none => i

/-- ATOMIC_BATCH. -/
def Io.atomicBatch (d : Desc) (i : Io) : Nat × Io :=
  if d.records = 0 then (0, i)
  else
    let (e3, i) := i.range (d.w 3).toNat 3
    let (e4, i) := if d.w 4 = 0 then (none, i) else i.range (d.w 4).toNat 4
    match e3 with
    | none => (d.prog, i)
    | some e3 =>
      Io.units (fun t i => if i.s.stopping i.q then { i with halt := true } else Io.record d e3 e4 t i) (d.records - d.prog) d.prog i

/-! ### SYNC_WAIT, SYNC_SIGNAL, FENCE (R153-R155, R682, R684) -/

/-- A running descriptor of an opcode does its work on the range of OBJ. -/
def State.withObj (s : State) (q : Nat) (idx : BitVec 16) (op : Nat) (f : Desc → RangeE → Dpa → State → State) : State :=
  match s.desc q idx with
  | none => s
  | some d =>
    if (d.st ≠ .running ∧ d.st ≠ .armWait) ∨ d.opcode ≠ op then s
    else match s.findIn d.tbl (d.w 3).toNat 1 with
      | none => s.finish q idx stXlate (fun d => { d with faultWord := 3 })
      | some e => f d e (dpaOf e (d.w 3).toNat) s

/-- A descriptor finishes with a status of OBJ. -/
def State.finishObj (s : State) (q : Nat) (idx : BitVec 16) (st : Status) : State :=
  s.finish q idx st (fun d => { d with faultWord := if st = stOk then 0 else 3, watching := false, polling := false })

/-- SYNC_WAIT registers its watch (R153); `full`: the home has answered that its watches are all in use, and the node reads the object from
now on. -/
def State.syncWait (s : State) (q : Nat) (idx : BitVec 16) (full : Bool) : State :=
  s.withObj q idx 6 (fun d _ dpa s =>
    if d.polling then s
    else if d.watching then (if full then s.setDesc q idx (fun d => { d with watching := false, polling := true }) else s)
    else match objOf dpa with
      | none => s.finishObj q idx stRights
      | some _ =>
        if s.expelled (dpaNode dpa) then s.finishObj q idx stTargetLost
        else
          (s.emit (.watchReg dpa d.job (d.w 4) d.watchTag)).setDesc q idx (fun d => { d with watching := !full, polling := full }))

/-- A WAKE reaches the waiting node (R153). -/
def State.wakeHere (s : State) (c : Cpl) : State :=
  if c.opc ≠ 0x32 then s
  else
    let ws := s.qmg.qs.flatMap (fun e => (e.2.descs.filter (fun d => decide (d.st = .running) && d.watching && d.watchTag == c.seq)).map
      (fun d => (e.1, d.idx)))
    match ws with
    | (q, idx) :: _ => s.finishObj q idx c.status
    | [] => s

/-- Every 256 tk a wait without a watch reads its object (R153). -/
def State.syncPoll (s : State) (q : Nat) (idx : BitVec 16) (resps : List Resp) : State :=
  s.withObj q idx 6 (fun d e _ s =>
    if !d.polling ∨ s.now = d.started ∨ (s.now - d.started).toNat % 256 ≠ 0 then s
    else
      let (bs, i) := (s.io q d true resps).load e 3 (d.w 3).toNat 8
      match i.err with
      | some (st, _) => i.s.finishObj q idx st
      | none => if (d.w 4).toNat ≤ leNat bs then i.s.finishObj q idx stOk else i.s)

/-- A wait is not met within TIMEOUT (R154). -/
def State.waitTimeout (s : State) (q : Nat) (idx : BitVec 16) : State :=
  match s.desc q idx with
  | none => s
  | some d =>
    if d.st ≠ .running ∨ d.opcode ≠ 6 ∨ d.timeoutTk = 0 ∨ (s.now - d.started).toNat < d.timeoutTk then s
    else
      let s := if d.watching then s.dropWatch (s.watchHome d) d.watchTag else s
      s.finish q idx stOk (fun d => { d with timeout := true, watching := false, polling := false })

/-- A free descriptor entry (R155). -/
def State.freeArm (s : State) : Option Nat := ((List.range 192).map (· + 64)).find? (fun e => !s.on (F.SYN_ARM_CTL_ARMED e))

/-- A descriptor's arm entry is written, and it completes (R155). -/
def State.takeArm (s : State) (q : Nat) (d : Desc) (dpa : Dpa) (o : BitVec 14) (e : Nat) : State :=
  let s := (s.wr (Reg.SYN_ARM_TICK_LO e) ((d.w 6).setWidth 32)).wr (Reg.SYN_ARM_TICK_HI e) ((d.w 6).extractLsb' 32 32)
  let s := (s.setF (F.SYN_ARM_ADD_JOB e) d.job).setF (F.SYN_ARM_ADD_ADD e) ((d.w 4).setWidth 16)
  let s := ((s.setF (F.SYN_ARM_CTL_NODE e) (dpaNode dpa)).setF (F.SYN_ARM_CTL_OBJ e) o).setF (F.SYN_ARM_CTL_ARMED e) 1
  let s := { s with syn := { s.syn with armAgent := sset (fun _ => 0) s.syn.armAgent e (s.qAgent q) } }
  s.finish q d.idx stOk id

/-- A SYNC_SIGNAL that has no arm entry yet stands at its start (R155), so a translation made under an earlier commit is made anew (R99): the
descriptor, where it is then translated and no page is absent. -/
def State.armFresh (s : State) (q : Nat) (idx : BitVec 16) : Option Desc × State :=
  match s.desc q idx with
  | none => (none, s)
  | some d =>
    if s.fresh q d then (some d, s)
    else
      let s := s.applyXlate q idx
      match s.desc q idx with
      | some e => if e.st = .translated then (some { e with st := d.st }, s.setDesc q idx (fun e => { e with st := d.st })) else (none, s)
      | none => (none, s)

/-- An arm entry for a SYNC_SIGNAL, where one is free and no other waits before it; else it waits (R155). -/
def State.armSignal (s : State) (q : Nat) (d : Desc) (first : Bool) : State :=
  match s.findIn d.tbl (d.w 3).toNat 1 with
  | none => s.finish q d.idx stXlate (fun d => { d with faultWord := 3 })
  | some e =>
    let dpa := dpaOf e (d.w 3).toNat
    match objOf dpa, (if first || s.qmg.armWait.isEmpty then s.freeArm else none) with
    | none, _ => s.finishObj q d.idx stRights
    | some o, some n => s.takeArm q d dpa o n
    | some _, none =>
      State.setDesc { s with qmg := { s.qmg with armWait := s.qmg.armWait ++ [(BitVec.ofNat 10 q, d.idx)] } } q d.idx
        (fun d => { d with st := .armWait })

/-- SYNC_SIGNAL (R123, R155, R684): an add at once, or an arm entry; with none free it waits at its start. The add goes to the DPA of OBJ
whatever lies there, and the home's checks decide (DESIGN CHOICE, log entry 99). -/
def State.syncSignal (s : State) (q : Nat) (idx : BitVec 16) : State :=
  s.withObj q idx 7 (fun d e dpa s =>
    if d.st ≠ .running then s
    else if d.arm then
      match s.armFresh q idx with
      | (some d, s) => s.armSignal q d false
      | (none, s) => s
    else if s.ep.own.any (fun o => decide (o.kind = .signal (BitVec.ofNat 10 q) idx)) then s
    else match s.homeOf (attrOf e) dpa with
      | none => s.finishObj q idx stTargetLost
      | some h =>
        let (r, s) := s.issueReq (s.qSlot q) h
          { syncAddReq h 0 (s.qAgent q) d.job (d.w 4) with dpa := dpa, attr := attrOf e }
        { s with ep := { s.ep with own := s.ep.own ++ [Own.mk r.src h r.cls r.seq (.signal (BitVec.ofNat 10 q) idx) r] } })

/-- The longest-waiting SYNC_SIGNAL takes an entry that has freed (R155). -/
def State.armTaken (s : State) : State :=
  match s.qmg.armWait with
  | [] => s
  | (q, idx) :: rest =>
    if s.freeArm.isNone then s
    else match State.armFresh { s with qmg := { s.qmg with armWait := rest } } q.toNat idx with
      | (some d, s) => s.armSignal q.toNat d true
      | (none, s) => s

/-- A covered descriptor is still to complete (R682). -/
def State.outstanding (s : State) (c : BitVec 10 × Nat) : Bool :=
  (s.q c.1.toNat).descs.any (fun d => d.order == c.2 && decide (d.st ≠ .done)) ||
  (s.q c.1.toNat).kept.any (fun k => k.2 == c.2)

/-- FENCE (R682). -/
def State.descFence (s : State) (q : Nat) (idx : BitVec 16) : State :=
  match s.desc q idx with
  | none => s
  | some d =>
    if d.st ≠ .running ∨ d.opcode ≠ 8 ∨ d.covers.any s.outstanding then s else s.finish q idx stOk id

/-! ### Pauses and completion -/

/-- The range of one of a descriptor's operands that holds an address; for ATOMIC_BATCH any range may be a target (R91). -/
def State.pageRange (s : State) (q : Nat) (d : Desc) (va : Nat) : Option RangeE :=
  match s.findIn d.tbl va 1 with
  | none => none
  | some e =>
    if d.opcode = 5 ∨ (s.operands q d).any (fun p => decide (s.findIn d.tbl (d.w p.word).toNat 1 = some e)) then some e else none

/-- An engine reaches a page of a PRES_EN operand and its bit is clear (R91). -/
def State.pageBoundary (s : State) (q : Nat) (idx : BitVec 16) (va : Nat) : State :=
  match s.desc q idx with
  | none => s
  | some d =>
    if d.st ≠ .running ∨ d.opcode = 16 ∨ !d.isEngine ∨ d.nopres then s
    else match s.pageRange q d va with
      | none => s
      | some e =>
        let p := (va - e.vaStart) / 65536
        if !e.presEn || s.present e p then s
        else if d.isColl then
          match s.grp.runs.find? (fun r => r.mems.any (fun m => m.2.1.toNat == q && m.2.2 == idx)) with
          | some r => s.parkMems { r with inRound := false } ((r.mems.filter (fun m => m.2.1.toNat == q && m.2.2 == idx)).map
              (fun m => (m, e.vaStart + 65536 * p)))
          | none => s
        else Io.settle { s.io q d false [] with pause := some (e.vaStart + 65536 * p, 0) } idx d.prog

/-- DESCRIPTOR_COMPLETE (R136, R482). -/
def State.descComplete (s : State) (q : Nat) (idx : BitVec 16) : State :=
  match s.desc q idx with
  | none => s
  | some d =>
    if d.st ≠ .finished then s
    else
      let s := s.completeDesc q idx d.status
      if d.status = stTargetLost then s.lostJob (s.slotJob (s.qSlot q)) else s

/-- A running NOP of a queue completes. -/
def State.nopDone (s : State) (q : Nat) : State :=
  match (s.q q).descs.find? (fun d => decide (d.st = .running) && d.opcode == 0) with
  | some d => s.finish q d.idx stOk id
  | none => s

/-! ### Commands -/

/-- DESCRIPTOR_FETCH_DONE (R127). -/
def execDescriptorFetchDone (q : BitVec 10) (res : Fetched) (s : State) : Host.Outcome State Fault Refusal :=
  whenUp s (fun s => s.fetchDone q.toNat res)

/-- DESCRIPTOR_START (R128). -/
def execDescriptorStart (q : BitVec 10) (resps : List Resp) (s : State) : Host.Outcome State Fault Refusal :=
  whenUp s (fun s => s.startHead q.toNat false resps)

/-- NOP (R118). -/
def execNop (q : BitVec 10) (s : State) : Host.Outcome State Fault Refusal := whenUp s (fun s => s.nopDone q.toNat)

/-- COPY (R120). -/
def execCopy (q : BitVec 10) (idx : BitVec 16) (resps : List Resp) (s : State) : Host.Outcome State Fault Refusal :=
  whenUp s (fun s => s.work q.toNat idx resps (fun d => d.opcode == 1) Io.copy)

/-- FILL (R120). -/
def execFill (q : BitVec 10) (idx : BitVec 16) (resps : List Resp) (s : State) : Host.Outcome State Fault Refusal :=
  whenUp s (fun s => s.work q.toNat idx resps (fun d => d.opcode == 4) Io.fill)

/-- GATHER (R460). -/
def execGather (q : BitVec 10) (idx : BitVec 16) (resps : List Resp) (s : State) : Host.Outcome State Fault Refusal :=
  whenUp s (fun s => s.work q.toNat idx resps (fun d => d.opcode == 2 && d.mode == 0) Io.gather)

/-- EMBED_BAG (R461). -/
def execEmbedBag (q : BitVec 10) (idx : BitVec 16) (resps : List Resp) (s : State) : Host.Outcome State Fault Refusal :=
  whenUp s (fun s => s.work q.toNat idx resps (fun d => d.opcode == 2 && d.mode == 1) Io.embedBag)

/-- SCATTER (R120). -/
def execScatter (q : BitVec 10) (idx : BitVec 16) (resps : List Resp) (s : State) : Host.Outcome State Fault Refusal :=
  whenUp s (fun s => s.work q.toNat idx resps (fun d => d.opcode == 3) Io.scatter)

/-- ATOMIC_BATCH (R121). -/
def execAtomicBatch (q : BitVec 10) (idx : BitVec 16) (resps : List Resp) (s : State) : Host.Outcome State Fault Refusal :=
  whenUp s (fun s => s.work q.toNat idx resps (fun d => d.opcode == 5) Io.atomicBatch)

/-- SYNC_WAIT (R153). -/
def execSyncWait (q : BitVec 10) (idx : BitVec 16) (full : Bool) (s : State) : Host.Outcome State Fault Refusal :=
  whenUp s (fun s => s.syncWait q.toNat idx full)

/-- SYNC_SIGNAL (R155). -/
def execSyncSignal (q : BitVec 10) (idx : BitVec 16) (s : State) : Host.Outcome State Fault Refusal :=
  whenUp s (fun s => s.syncSignal q.toNat idx)

/-- DESCRIPTOR_FENCE (R682). -/
def execDescriptorFence (q : BitVec 10) (idx : BitVec 16) (s : State) : Host.Outcome State Fault Refusal :=
  whenUp s (fun s => s.descFence q.toNat idx)

/-- ENGINE_PAGE_BOUNDARY (R91). -/
def execEnginePageBoundary (q : BitVec 10) (idx : BitVec 16) (va : Va) (s : State) : Host.Outcome State Fault Refusal :=
  whenUp s (fun s => s.pageBoundary q.toNat idx va.toNat)

/-- DESCRIPTOR_COMPLETE (R136). -/
def execDescriptorComplete (q : BitVec 10) (idx : BitVec 16) (s : State) : Host.Outcome State Fault Refusal :=
  whenUp s (fun s => s.descComplete q.toNat idx)

/-- WAKE (R153). -/
def execWake (c : Cpl) (s : State) : Host.Outcome State Fault Refusal := whenUp s (fun s => s.wakeHere c)

/-- SYNC_POLL (R153). -/
def execSyncPoll (q : BitVec 10) (idx : BitVec 16) (resps : List Resp) (s : State) : Host.Outcome State Fault Refusal :=
  whenUp s (fun s => s.syncPoll q.toNat idx resps)

/-- SYNC_WAIT_TIMEOUT (R154). -/
def execSyncWaitTimeout (q : BitVec 10) (idx : BitVec 16) (s : State) : Host.Outcome State Fault Refusal :=
  whenUp s (fun s => s.waitTimeout q.toNat idx)

/-- ARM_ENTRY_TAKEN (R155). -/
def execArmEntryTaken (s : State) : Host.Outcome State Fault Refusal := whenUp s State.armTaken

/-- BARRIER_FIRE (R296). -/
def execBarrierFire (s : State) : Host.Outcome State Fault Refusal := whenUp s State.barrierFire

end Sys2Proof.Machine
end

