-- ==== Sys2Proof/Machine/HomeOps.lean ====
section
/-!
DEFINITION. Extent commands as they are applied (R236-R247, R260), leases, revokes, reclaims, and the work of HOME slots: scrub, key
rotation, mirror repair (R274-R277, R489).
-/

namespace Sys2Proof.Machine

/-! ### Events (R278) -/

def evLeaseLapsed (job : JobId) (i : Nat) (deadline : R64) : Ev := ev 0x20 stOk (putAt 48 job + i) deadline.toNat
def evRevokeDone (job : JobId) (lapsed gen : Bool) (i n : Nat) : Ev :=
  ev 0x21 stOk (putAt 48 job + 2 ^ 17 * b2n lapsed + 2 ^ 16 * b2n gen + i) (n % 2 ^ 32)
def evMirrorBroken (partner : NodeId) (i : Nat) : Ev := ev 0x23 stOk (putAt 16 partner + i) 0
def evFailover (former : NodeId) (i : Nat) : Ev := ev 0x24 stOk (putAt 16 former + i) 0
def evRotationDone (gen : Bool) (i : Nat) : Ev := ev 0x25 stOk (2 ^ 16 * b2n gen + i) 0
def evCmdApplied (c : R32) (err : BitVec 4) : Ev := ev 0x27 stOk c.toNat err.toNat

/-! ### Background operations of an extent -/

/-- An operation of HOME slots, as the round of turns names it (R274). -/
def Bg.key (b : Bg) : BitVec 14 × Bool := (b.ext, match b.kind with | .rotate => true | _ => false)

/-- Background operations of which a test holds end; they leave the round of turns. -/
def State.dropBg (s : State) (t : Bg → Bool) : State :=
  let gone := (s.home.bg.filter t).map Bg.key
  { s with home := { s.home with bg := dropWhere t s.home.bg, served := dropWhere gone.contains s.home.served } }
def State.addBg (s : State) (i : Nat) (k : BgKind) : State := { s with home := { s.home with bg := s.home.bg ++ [⟨BitVec.ofNat 14 i, k⟩] } }

def Bg.isRevoke (b : Bg) : Bool := match b.kind with | .revoke _ _ => true | _ => false
def Bg.isReclaim (b : Bg) : Bool := match b.kind with | .reclaim _ => true | _ => false
def Bg.isRotate (b : Bg) : Bool := match b.kind with | .rotate => true | _ => false
def Bg.isRepair (b : Bg) : Bool := match b.kind with | .repair _ => true | _ => false
def Bg.isMove (b : Bg) : Bool := b.isRotate || b.isRepair

/-- The running revoke of an extent: its generation, and the requests it has ended. -/
def State.revokeOf (s : State) (i : Nat) : Option (Bool × Nat) :=
  s.home.bg.findSome? (fun b => match b.kind with
    | .revoke g n => if b.ext.toNat = i then some (g, n) else none
    | _ => none)

/-- A reclaim of the extent runs; its step 2 has begun. -/
def State.reclaims (s : State) (i : Nat) : Bool := s.home.bg.any (fun b => decide (b.ext.toNat = i) && b.isReclaim)
def State.dropping (s : State) (i : Nat) : Bool := s.home.bg.any (fun b => decide (b.ext.toNat = i) && decide (b.kind = .reclaim true))

/-! ### Recalls -/

/-- Recall lines of an extent (R245, R246): one transaction for each that is not BUSY, its holders snooped. -/
def State.recall (s : State) (i : Nat) (opc : BitVec 6) : List Nat → State
  | [] => s
  | l :: ls =>
    let e := s.ext i
    let d := s.dirAt e l
    let s :=
      if s.lineBusy l then s
      else if d.holders none = [] then s.setDir e l DirE.uncached
      else
        let (ids, s) := s.snoopLine l ((d.holders none).map (fun a => (opc, a)))
        let s := s.setDir e l { d with busy := true }
        { s with home := { s.home with txns := s.home.txns ++ [⟨[l], BitVec.ofNat 14 i, none, ids, decide (opc = 0x22), s.now⟩] } }
    s.recall i opc ls

/-- Cached lines of an extent under one generation. -/
def State.linesOfGen (s : State) (i : Nat) (g : Bool) : List Nat :=
  (s.cachedLines (s.ext i)).filter (fun l => (s.dirAt (s.ext i) l).kgen == g)

/-- A request of an extent, under one generation or any, has passed its checks and is not complete. -/
def State.inFlight (s : State) (i : Nat) (g : Option Bool) : Bool :=
  let mine : Req → Bool := fun r => decide (s.findExt (dpaOff r.dpa) r.bytes = some i) && decide (dpaClass r.dpa = 0) &&
    (match g with | some b => r.attr.kgen == b | none => true)
  s.home.waits.any (fun w => mine w.1) || s.home.awaitMack.any (fun w => mine w.1) ||
    s.home.txns.any (fun t => match t.req with | some (r, _) => mine r | none => false) ||
    s.ep.own.any (fun o => match o.kind with | .mirrorRead r _ _ => mine r | _ => false)

/-- A recall of the extent's lines is not answered. -/
def State.recalling (s : State) (i : Nat) : Bool := s.home.txns.any (fun t => decide (t.ext.toNat = i) && t.req.isNone)

/-! ### Mirrors (R263, R268) -/

/-- A mirror breaks: the writes that await the partner complete, MIRRORED falls. -/
def State.breakMirror (s : State) (i : Nat) : State :=
  let e := s.ext i
  let s := (s.endAwaits i).dropBg (fun b => decide (b.ext.toNat = i) && b.isRepair)
  (s.setExtF i 1 43 1 0).post (evMirrorBroken e.partner i)

/-- A MACK arrives (R189, R263): the mirrored write completes. RIGHTS says that the copy extent is not ACTIVE any more, or is none of this extent's:
the mirror breaks (R268; DEDUCED, log entry 109). -/
def State.mackArrive (s : State) (c : Cpl) : State :=
  match s.home.awaitMack.find? (fun w => w.1.src == c.agent && w.1.cls == c.cls && w.1.seq == c.seq) with
  | none => { s with home := { s.home with earlyMack := s.home.earlyMack ++ [c] } }
  | some w =>
    let s := { s with home := { s.home with awaitMack := s.home.awaitMack.eraseP (fun x => decide (x = w)) } }
    let done := afterMack s w.1 w.2.1 c
    let s := (s.keep w.1 done).sendCpl done
    match (if c.status = stOk then none else s.findExt (dpaOff w.1.dpa) w.1.bytes) with
    | some i => if (s.ext i).mirrored then s.breakMirror i else s
    | none => s

/-- A copy extent leaves ACTIVE: the copies that it holds back find no extent (R263, R268). -/
def State.leaveCopies (s : State) (i : Nat) : State :=
  let e := s.ext i
  let mine : Req → Bool := fun r => e.mcopy && decide (e.partner = dpaNode r.dpa ∧ e.base ≤ dpaOff r.dpa ∧ dpaOff r.dpa + r.bytes ≤ e.base + e.len)
  let gone := s.home.copyHeld.filter mine
  gone.foldl (fun s r => s.sendCpl (mackFor s r stRights)) { s with home := { s.home with copyHeld := dropWhere mine s.home.copyHeld } }

/-! ### Leases (R241, R243) -/

/-- Reclaim steps 1 and 2 (R245): once no request of the extent is under way, SNP_DROP goes out for every line that an agent holds. -/
def State.dropStep (s : State) (i : Nat) : State :=
  if s.inFlight i none then s
  else
    let begun : Bg → Bg := fun b => if b.ext.toNat = i ∧ b.isReclaim then { b with kind := .reclaim true } else b
    State.recall { s with home := { s.home with bg := s.home.bg.map begun } } i 0x22 (s.cachedLines (s.ext i))

/-- A reclaim begins, where fewer than sixteen background operations run (R239, R245). -/
def State.startReclaim (s : State) (i : Nat) : State :=
  if s.reclaims i ∨ 16 ≤ s.bgCount then s else (s.addBg i (.reclaim false)).dropStep i

/-- A lease lapses (R243): a revoke in progress ends marked LAPSED, a rotation or a repair stops, the reclaim begins. -/
def State.lapse (s : State) (i : Nat) : State :=
  let e := s.ext i
  let s := (s.setExtState i exExpired).post (evLeaseLapsed e.job i e.deadline)
  let s := match s.revokeOf i with
    | some (g, n) => s.post (evRevokeDone e.job true g i n)
    | none => s
  ((s.dropBg (fun b => decide (b.ext.toNat = i))).leaveCopies i).startReclaim i

/-- Domain time reaches DEADLINE while LEASE_EN is 1 (R241). -/
def State.leaseLapse (s : State) (i : Nat) : State :=
  let e := s.ext i
  if s.on F.HOM_CTL_LEASE_EN ∧ (e.state = exActive ∨ e.state = exRevoking) ∧ s.due e.deadline then s.lapse i else s

/-! ### Revoke and reclaim (R245-R247) -/

/-- Revoke steps 1 and 3 begin. -/
def State.revoke (s : State) (i : Nat) (g : Bool) : State :=
  let e := s.ext i
  let s := s.setExtAdmit i (e.admitGens &&& ~~~ BitVec.ofNat 2 (2 ^ b2n g))
  (((s.setExtState i exRevoking).leaveCopies i).addBg i (.revoke g 0)).recall i 0x20 (s.linesOfGen i g)

/-- An extent becomes FREE: ADMIT, ROT and DEADLINE are cleared, its directory entries with them (R243, R245, R277); it stands for no other
home any more (R267). -/
def State.freeExt (s : State) (i : Nat) : State :=
  let s := s.mapDir (s.ext i) (fun _ => DirE.uncached) (s.cachedLines (s.ext i))
  let s := s.dropBg (fun b => decide (b.ext.toNat = i))
  let s := { s with home := { s.home with adopted := dropWhere (fun a => decide (a.1.toNat = i)) s.home.adopted } }
  (((s.setExtAdmit i 0).setExtF i 1 50 1 0).setExtW i 2 0).setExtState i exFree

/-- Revoke step 4, once the drain of step 3 is over; lines that were BUSY when the revoke began are recalled first. -/
def State.revokeDone (s : State) (i : Nat) : State :=
  match s.revokeOf i with
  | none => s
  | some (g, n) =>
    if s.inFlight i (some g) ∨ s.recalling i then s
    else if s.linesOfGen i g ≠ [] then s.recall i 0x20 (s.linesOfGen i g)
    else
      let e := s.ext i
      let s := (s.dropBg (fun b => decide (b.ext.toNat = i) && b.isRevoke)).post (evRevokeDone e.job false g i n)
      if e.admitGens = 0 then s.freeExt i else s.setExtState i exActive

/-- Reclaim steps 1, 3 and 4, once nothing of the extent is under way; lines that were BUSY are recalled first. -/
def State.reclaimDone (s : State) (i : Nat) : State :=
  if (s.ext i).state ≠ exExpired then s
  else if !s.reclaims i then s.startReclaim i
  else if !s.dropping i then s.dropStep i
  else if s.inFlight i none ∨ s.recalling i then s
  else if s.cachedLines (s.ext i) ≠ [] then s.recall i 0x22 (s.cachedLines (s.ext i))
  else s.freeExt i

/-! ### Rotation (R276, R277) -/

/-- The rotation has passed the end of its extent. -/
def State.rotationDone (s : State) (i : Nat) : State :=
  let g := !(s.ext i).dgen
  let s := (s.setExtF i 1 51 1 (b2n g)).setExtF i 1 50 1 0
  (s.dropBg (fun b => decide (b.ext.toNat = i) && b.isRotate)).post (evRotationDone g i)

/-- ROTATE: on an ACCUM extent at once, else from the extent's first line on. -/
def State.rotate (s : State) (i : Nat) : State :=
  let e := s.ext i
  if e.accum then s.rotationDone i
  else ((s.setExtF i 3 8 36 (e.base / 256)).setExtF i 1 50 1 1).addBg i .rotate

/-- Decrypt a granule under one key and encrypt it under another; a granule whose keys are not both held stays as it is. -/
def State.rekeyGranule (s : State) (old new : Option (BitVec 512)) (g : Nat) : State :=
  match old, new with
  | some k, some k' =>
    let (bs, s) := s.granule k g
    s.putGranule k' g 0 bs
  | _, _ => s

/-- A granule that the home's own work read uncorrectable (R270, R275): of a mirrored extent it is read from the partner, else its loss is logged. -/
def State.badRead (s : State) (g cause : Nat) : State :=
  match s.granuleExt g with
  | none => s.logLoss cause g 0 0x3FF 0
  | some i =>
    let e := s.ext i
    if e.mirrored then s.partnerRead e g (.granuleRead g cause false) else s.logLoss cause g e.job 0x3FF i

/-- What the home's own work meets in the granules it reads: corrected and uncorrectable errors counted (R273, HOM_UE_CNT), and those that it can
use. -/
def State.workReads (s : State) (m : MemCond) (gs : List Nat) : List Nat × List Nat × State :=
  let bad := badGranules m gs
  (gs.filter (fun g => !bad.contains g), bad, (s.countCes m gs).countUes bad)

/-- The next 20 lines of a rotation (R276); a granule that reads uncorrectable meets R270. -/
def State.rotateStep (s : State) (i : Nat) (m : MemCond) : State :=
  let e := s.ext i
  let stop := (e.base + e.len) / 256
  let n := min 20 (stop - e.rotCur)
  let old := s.memKey e.keySlot e.dgen
  let new := s.memKey e.keySlot (!e.dgen)
  let (good, bad, s) := s.workReads m ((List.range (4 * n)).map (· + 4 * e.rotCur))
  let s := good.foldl (fun s g => s.rekeyGranule old new g) s
  let s := bad.foldl (fun s g => s.badRead g 1) (s.setExtF i 3 8 36 (e.rotCur + n))
  if stop ≤ e.rotCur + n then s.rotationDone i else s

/-! ### Mirror repair (R489) -/

/-- Copy a 256 B line to the partner; of a line with a granule that reads uncorrectable, each other granule. -/
def State.copyLine (s : State) (i line : Nat) (m : MemCond) : State :=
  let e := s.ext i
  let copy (off size : Nat) (s : State) : State :=
    let (bs, s) := s.poolRead e off (2 ^ size)
    let r := req0 2 1 (BitVec.ofNat 4 size) (s.poolDpa off) (s.agent 9) e.job
    s.issueOwn { r with dst := e.partner, mc := true, attr := ⟨e.keySlot, e.dgen, false, false, true, e.partner⟩, data := bs } .copy
  let (good, bad, s) := s.workReads m (granulesOf (256 * line) 256)
  if bad = [] then copy (256 * line) 8 s
  else bad.foldl (fun s g => s.logLoss 1 g e.job 0x3FF i) (good.foldl (fun s g => copy (64 * g) 6 s) s)

/-- The next 20 lines of a mirror repair. The partner has no copy yet of what it has not got to: a granule that reads uncorrectable is lost
(DEDUCED, log entry 105). -/
def State.repairStep (s : State) (i cur : Nat) (m : MemCond) : State :=
  let e := s.ext i
  let total := e.len / 256
  let n := min 20 (total - cur)
  let s := ((List.range n).map (· + (e.base / 256 + cur))).foldl (fun s l => s.copyLine i l m) s
  let mine : Bg → Bool := fun b => decide (b.ext.toNat = i) && b.isRepair
  if total ≤ cur + n then (s.dropBg mine).post (ev 0x8B stOk (putAt 16 e.partner + i) total)
  else { s with home := { s.home with bg := s.home.bg.map (fun b => if mine b then { b with kind := .repair (cur + n) } else b) } }

/-- FLT_RM_CMD is checked (FLT_RM_RES.ERR). -/
def State.repairErr (s : State) (i : Nat) (p : NodeId) (copy : Bool) : BitVec 4 :=
  let e := s.ext i
  if e.state ≠ exActive ∨ e.mirrored ∨ e.accum ∨ e.coherent then 1
  else if s.expelled p ∨ p = s.node then 2
  else if !copy then 3
  else if 16 ≤ s.home.bg.length then 4
  else 0

/-- A mirror repair starts (R489). -/
def State.repairStart (s : State) (v : R32) (copy : Bool) : State :=
  let i := (fget F.FLT_RM_CMD_EXTENT v).toNat
  let p := fget F.FLT_RM_CMD_PARTNER v
  let err := s.repairErr i p copy
  let s := (s.setF F.FLT_RM_RES_EXTENT (BitVec.ofNat 14 i)).setF F.FLT_RM_RES_ERR err
  if err ≠ 0 then s else ((s.setExtF i 1 43 1 1).setExtF i 1 44 6 p.toNat).addBg i (.repair 0)

/-! ### Scrub (R275) -/

/-- Lines of the pool. -/
def poolLines : Nat := poolSize / 256

/-- Ticks of the running scrub period; 0 acts as 1 hour. -/
def State.scrubPeriod (s : State) : Nat := hourTicks * max 1 s.home.scrubHours.toNat

/-- A pass begins: it reads PERIOD and the tick (HOM_SCRUB), and the devices start their own check (R275; DESIGN CHOICE, log entry 110). -/
def State.scrubBegin (s : State) : State :=
  State.emit { s with home := { s.home with scrubAt := s.now, scrubHours := s.f F.HOM_SCRUB_PERIOD, scrubLine := 0 } } .poolScrub

/-- The next 20 lines of a pass; a pass that is done waits for its period's end. -/
def State.scrubStep (s : State) (m : MemCond) : State :=
  let excess := decide (poolLines ≤ s.home.scrubLine)
  if !s.on F.HOM_CTL_SCRUB_EN ∨ (excess ∧ s.now.toNat < s.home.scrubAt.toNat + s.scrubPeriod) then s
  else
    let s := if excess ∨ s.home.scrubLine = 0 then s.scrubBegin else s
    let start := s.home.scrubLine
    let n := min 20 (poolLines - start)
    let (_, bad, s) := s.workReads m ((List.range (4 * n)).map (· + 4 * start))
    bad.foldl (fun s g => s.badRead g 2) { s with home := { s.home with scrubLine := start + n } }

/-- The rotation or repair whose turn it is (R274): the first, in the order in which they started, not yet served in this round; a new round begins
once all have been. -/
def State.nextMove (s : State) : Option (Bg × List (BitVec 14 × Bool)) :=
  let ops := s.home.bg.filter Bg.isMove
  match ops.find? (fun b => !s.home.served.contains b.key) with
  | some b => some (b, s.home.served ++ [b.key])
  | none => ops.head?.map (fun b => (b, [b.key]))

/-- One HOME slot (R274): every 64th is scrub's, and every one in which nothing else runs. -/
def State.homeSlot (s : State) (m : MemCond) : State :=
  let n := s.home.slots + 1
  let s := { s with home := { s.home with slots := n } }
  if n % 64 = 0 then s.scrubStep m
  else match s.nextMove with
    | none => s.scrubStep m
    | some (b, served) =>
      let s := { s with home := { s.home with served := served } }
      match b.kind with
      | .rotate => s.rotateStep b.ext.toNat m
      | .repair c => s.repairStep b.ext.toNat c m
      | _ => s

/-! ### Dropped agents (R260) -/

section
variable (bw : Win)

/-- Every snoop outstanding to an agent, or of an extent's recalls, is resolved as answered. -/
def State.resolveSids (mine : Txn → AgentId → Bool) : Nat → State → State
  | 0, s => s
  | n + 1, s =>
    match s.home.txns.findSome? (fun t => (t.sids.find? (fun x => mine t x.2.1)).map (fun x => (t, x.1))) with
    | none => s
    | some (t, sid) => State.resolveSids mine n (s.sidDone bw t sid)

/-- How many snoops are outstanding. -/
def State.sidCount (s : State) : Nat := (s.home.txns.map (fun t => t.sids.length)).foldl (· + ·) 0

/-- Remove an agent from the lines of an extent; a line that it owned is lost. -/
def State.dropLines (s : State) (i : Nat) (a : AgentId) : List Nat → State
  | [] => s
  | l :: ls =>
    let e := s.ext i
    let d := s.dirAt e l
    let s :=
      if d.st = 2 ∧ d.owner = a then (s.setDir e l { DirE.uncached with busy := d.busy }).logLoss 4 l e.job a i
      else
        let sh := d.sharers.filter (· ≠ a)
        s.setDir e l (if d.st = 1 ∧ sh = [] then { DirE.uncached with busy := d.busy } else { d with sharers := sh })
    s.dropLines i a ls

/-- AGENT_DROP at this home. -/
def State.agentDrop (s : State) (a : AgentId) : State :=
  let s := s.cohExts.foldl (fun s i => s.dropLines i a (s.cachedLines (s.ext i))) s
  let s := { s with ep := { s.ep with snoopHeld := dropWhere (fun p => p.agent == a && p.home == s.node) s.ep.snoopHeld } }
  State.resolveSids bw (fun _ x => x == a) s.sidCount s

/-- Ticks of 1 ms. -/
def msTicks : Nat := 250000

/-- Snoops of an extent have gone unanswered for 1 ms in a reclaim (R245): the lines whose owners did not answer are logged, the snoops are over. -/
def State.reclaimTimeout (s : State) (i : Nat) : State :=
  if !s.reclaims i then s
  else
    let e := s.ext i
    let late : Txn → Bool := fun t => decide (t.ext.toNat = i) && decide (t.sentAt.toNat + msTicks ≤ s.now.toNat)
    let lost := (s.home.txns.filter late).flatMap (fun t => t.sids.filterMap (fun x =>
      let d := s.dirAt e x.2.2
      if d.st = 2 ∧ d.owner = x.2.1 then some (x.2.1, x.2.2) else none))
    let s := lost.foldl (fun s x => s.logLoss 3 x.2 e.job x.1 i) s
    State.resolveSids bw (fun t _ => late t) s.sidCount s

/-! ### Commands -/

/-- Apply a command that has passed validation (R236). -/
def State.applyCmd (s : State) (c : R32) : State :=
  let op := fget F.HOM_EXT_CMD_OP c
  let i := (fget F.HOM_EXT_CMD_EXTENT c).toNat
  let g := fget F.HOM_EXT_CMD_GEN c == 1
  let e := s.ext i
  if op = 1 then
    ((s.setExtState i exActive).setExtW i 2 (s.now + s.leaseTicks).toNat).setExtAdmit i (BitVec.ofNat 2 (2 ^ b2n e.dgen))
  else if op = 2 then s.setExtW i 2 (s.now + s.leaseTicks).toNat
  else if op = 3 then s.revoke i g
  else if op = 4 then s.lapse i
  else if op = 5 then s.setExtAdmit i (e.admitGens ||| BitVec.ofNat 2 (2 ^ b2n g))
  else if op = 6 then s.rotate i
  else if op = 7 then s.agentDrop bw (fget F.HOM_EXT_CMD_AGENT c)
  else s

/-- A command without TIMED is applied (R237). -/
def State.extDone (s : State) : State :=
  match s.home.cmd with
  | none => s
  | some c =>
    let err := s.cmdErr c
    let s := { s with home := { s.home with cmd := none } }
    let s := (s.setF F.HOM_EXT_RES_BUSY 0).setF F.HOM_EXT_RES_ERR err
    if err = 0 then s.applyCmd bw c else s

/-- Domain time reaches the tick of a timed command (R237): it is checked again, applied, and reported. -/
def State.extTimed (s : State) : State :=
  match s.home.timed.find? (fun x => s.due x.1) with
  | none => s
  | some x =>
    let err := s.cmdErr x.2
    let s := { s with home := { s.home with timed := s.home.timed.eraseP (fun y => decide (y = x)) } }
    (if err = 0 then s.applyCmd bw x.2 else s).post (evCmdApplied x.2 err)

end

end Sys2Proof.Machine
end

