-- ==== Sys2Proof/Machine/Flt.lean ====
section
/-!
DEFINITION. Orders (R469-R478), what applying them does (R479, R480, R490, R471), and the sediment log's commands (R491-R494).
-/

namespace Sys2Proof.Machine

/-! ### Fields of an order (R471, R472) -/

def ordW (o : Bytes) (i : Nat) : Nat := leNat (slice o (8 * i) 8)
def ordSeq (o : Bytes) : R32 := fieldAt 32 (ordW o 0) 32
def ordType (o : Bytes) : Nat := bitsAt (ordW o 0) 0 8
def ordInc (o : Bytes) : BitVec 16 := fieldAt 16 (ordW o 1) 32
def ordTarget (o : Bytes) : BitVec 6 := fieldAt 6 (ordW o 1) 0
def ordNotAfter (o : Bytes) : Nat := ordW o 2
def ordEffective (o : Bytes) : Nat := ordW o 3
def ordSigners (o : Bytes) : Nat := bitsAt (ordW o 15) 0 5

def otExpel : Nat := 1
def otAdmit : Nat := 2
def otKeys : Nat := 3

/-- Signer slots of an order, in ascending order. -/
def ordSlots (o : Bytes) : List Nat := (List.range 5).filter (fun i => bitAt (ordSigners o) i)

/-- The length that an order's SIGNERS call for. -/
def ordLen (o : Bytes) : Nat := 128 + 5376 * (ordSlots o).length

/-- Some reserved bit of the header is not zero, or a field that its TYPE leaves zero. -/
def ordDirty (o : Bytes) : Bool :=
  let t := ordType o
  decide (bitsAt (ordW o 0) 8 24 ≠ 0 ∨ bitsAt (ordW o 1) 48 16 ≠ 0 ∨ bitsAt (ordW o 1) 6 26 ≠ 0 ∨ bitsAt (ordW o 15) 5 59 ≠ 0) ||
    !(slice o 96 24).all (· == 0) || (decide (t = otKeys) && decide (ordInc o ≠ 0)) || (decide (t ≠ otAdmit) && decide (ordEffective o ≠ 0)) ||
    (decide (t ≠ otKeys) && !(slice o 32 48).all (· == 0)) || (decide (t ≠ otAdmit) && !(slice o 80 16).all (· == 0))

/-- A slot of an order counts towards the quorum (R473): the `j`-th block of the order is that of slot `k`. -/
def State.slotCounts (s : State) (o : Bytes) (j k : Nat) : Bool :=
  let b := slice o (128 + 5376 * j) 5376
  let digest := (List.range 12).flatMap (fun i => natLe 4 (s.clayWord (0x81 + 16 * k + i)).toNat)
  let msg := slice o 0 120
  s.keySlotValid k && decide (Config.sha384 (slice b 0 1984) = digest) &&
    Config.ed25519Verify (slice b 0 32) msg (slice b 1984 64) && Config.mldsaVerify (slice b 32 1952) msg (slice b 2048 3309)

/-- How many slots of an order count. -/
def State.quorum (s : State) (o : Bytes) : Nat :=
  ((ordSlots o).zipIdx.filter (fun x => s.slotCounts o x.2 x.1)).length

/-- SEQ of the last order applied (R478). -/
def State.orderSeq (s : State) : R32 := s.f F.FLT_ORD_SEQ_SEQ

/-- Checks 1 to 4 of R475. -/
def State.orderErr (s : State) (o : Bytes) : BitVec 4 :=
  if o.length < 128 ∨ o.length ≠ ordLen o ∨ !(decide (1 ≤ ordType o) && decide (ordType o ≤ 3)) ∨ ordDirty o ∨ ordSigners o = 0 then 1
  else if (ordSeq o).toNat ≤ s.orderSeq.toNat then 2
  else if ordNotAfter o < s.now.toNat ∨ !s.inTime then 3
  else if s.quorum o < 3 then 4
  else 0

/-- A tick is a slot boundary of the grid in force. -/
def State.onGrid (s : State) (t : Nat) : Bool := decide (s.boundary ≤ t) && decide ((t - s.boundary) % s.k = 0)

/-- Checks 5 to 7 of R475, when the order's turn comes. An ADMIT that names this node needs no expelled bit here (R490). -/
def State.orderErr2 (s : State) (o : Bytes) : BitVec 4 :=
  let n := ordTarget o
  let known := s.incOf n
  if ordType o = otExpel then (if s.expelled n ∨ (known.isSome ∧ known ≠ some (ordInc o)) then 5 else 0)
  else if ordType o = otAdmit then
    let last := if n = s.node then some (s.f F.FLT_INC_INC) else known
    let low : Bool := match last with | some i => decide ((ordInc o).toNat ≤ i.toNat) | none => false
    if (n ≠ s.node ∧ !s.expelled n) ∨ low ∨ !s.onGrid (ordEffective o) ∨ ordEffective o < s.now.toNat + 25000 then 6 else 0
  else if 4 < n.toNat then 7
  else 0

/-! ### Events (R496) -/

def evOrderApplied (o : Bytes) (n : Nat) : Ev := ev 0x83 stOk ((ordSeq o).toNat * 2 ^ 32 + putAt 8 (ordTarget o) + ordType o) n
def evOrderRefused (o : Bytes) (err : BitVec 4) : Ev := ev 0x84 stOk ((ordSeq o).toNat * 2 ^ 32 + ordType o) err.toNat

/-! ### Arrival (R474, R476) -/

/-- The ORDER_FRAG messages of an order (R533): 224 bytes each. -/
def ordFrags (o : Bytes) : List CtrlMsg :=
  (List.range ((o.length + 223) / 224)).map (fun i =>
    .orderFrag (ordSeq o) (BitVec.ofNat 16 (224 * i)) (BitVec.ofNat 16 o.length) ((o.drop (224 * i)).take 224))

/-- Send an order on one torus port. -/
def State.sendOrder (s : State) (p : Nat) (o : Bytes) : State := (ordFrags o).foldl (fun s m => s.ctrl p m) s

/-- Forward an order once on every trained torus link (R474). -/
def State.forwardOrder (s : State) (o : Bytes) : State :=
  let h := o.take 128
  if s.flt.seen.contains h then s
  else upto (fun p s => s.sendOrder p o) 6 { s with flt := { s.flt with seen := (h :: s.flt.seen).take 256 } }

/-- FLT_ORD_RES shows the result of the submitted order. -/
def State.ordResult (s : State) (sub : Bool) (err : BitVec 4) : State :=
  if sub then (s.setF F.FLT_ORD_RES_BUSY 0).setF F.FLT_ORD_RES_ERR err else s

/-- Refuse an order. -/
def State.refuseOrder (s : State) (o : Bytes) (sub : Bool) (err : BitVec 4) : State := (s.ordResult sub err).post (evOrderRefused o err)

/-- Orders held for SEQ order (R476, FLT_STAT). -/
def State.setHeld (s : State) (l : List Bytes) : State :=
  State.setF { s with flt := { s.flt with held := l } } F.FLT_STAT_HELD (BitVec.ofNat 7 l.length)

/-- An order has arrived whole: a copy of one that the node has is ignored; with 64 held it is refused unverified (R476). -/
def State.takeOrder (s : State) (o : Bytes) (sub : Bool) : State :=
  let f := s.flt
  if !sub ∧ (f.verifying.any (fun x => x.1 == o) ∨ f.held.contains o ∨ f.todo.contains o ∨ f.admits.contains o ∨ f.applied.contains o) then s
  else if 64 ≤ f.held.length ∧ !f.held.contains o then s.refuseOrder o sub 9
  else { s with flt := { f with verifying := f.verifying ++ [(o, sub)] } }

/-- SUBMIT (R474): the order in FLT_ORDWIN. -/
def State.orderSubmit (s : State) : State :=
  let o := Mem.rdN s.mems.ordwin 0 (ordLen (Mem.rdN s.mems.ordwin 0 128))
  if s.on F.FLT_ORD_RES_BUSY then (s.setF F.FLT_ORD_RES_ERR 8).post (evOrderRefused o 8)
  else
    let s := ((s.setF F.FLT_ORD_RES_BUSY 1).setF F.FLT_ORD_RES_ERR 0).setF F.FLT_ORD_RES_SEQ_LO ((ordSeq o).setWidth 24)
    (s.forwardOrder o).takeOrder o true

/-- The fragments of an order, put together where none is missing. -/
def joinFrags : Nat → List (Nat × Bytes) → Bytes → Option Bytes
  | total, [], acc => if acc.length = total then some acc else none
  | total, (off, d) :: rest, acc => if off = acc.length then joinFrags total rest (acc ++ d) else none

/-- An ORDER_FRAG arrives (R474). -/
def State.orderPiece (s : State) (seq : R32) (off total : Nat) (data : Bytes) : State :=
  let mine : Frag → Bool := fun f => f.seq == seq && decide (f.total = total)
  let old := ((s.flt.frags.find? mine).map (·.pieces)).getD []
  let ps := if old.any (fun x => decide (x.1 = off)) then old else insertBy (fun a b => decide (a.1 ≤ b.1)) (off, data) old
  let rest := dropWhere mine s.flt.frags
  match joinFrags total ps [] with
  | some o => (State.forwardOrder { s with flt := { s.flt with frags := rest } } o).takeOrder o false
  | none => { s with flt := { s.flt with frags := rest ++ [⟨seq, total, ps⟩] } }

/-! ### Acceptance -/

/-- Store an order's SEQ and keep the order (R477, R478). -/
def State.noteApplied (s : State) (o : Bytes) : State :=
  let s := (s.setF F.FLT_ORD_SEQ_SEQ (ordSeq o)).nodeClay 0xD2 (ordSeq o)
  let l := s.flt.applied ++ [o]
  State.post { s with flt := { s.flt with applied := l.drop (l.length - 64) } } (evOrderApplied o (s.quorum o))

/-- An order's turn has come (R475 checks 5 to 7): an EXPEL or a KEYS order is applied, its effect following; an ADMIT waits for EFFECTIVE. -/
def State.acceptOrder (s : State) (o : Bytes) (sub : Bool) : State :=
  let err := s.orderErr2 o
  if err ≠ 0 then s.refuseOrder o sub err
  else
    let s := s.ordResult sub 0
    let s := if ordType o = otAdmit then s else s.noteApplied o
    { s with flt := { s.flt with todo := s.flt.todo ++ [o] } }

/-- Nothing is under way that a later order must wait for. -/
def State.ordersFree (s : State) : Bool := s.flt.todo.isEmpty && s.flt.admits.isEmpty

/-- Held orders whose turn has come (R476). -/
def State.nextHeld : Nat → State → State
  | 0, s => s
  | n + 1, s =>
    match (if s.ordersFree then s.flt.held.find? (fun o => decide ((ordSeq o).toNat ≤ s.orderSeq.toNat + 1)) else none) with
    | none => s
    | some o =>
      let s := s.setHeld (s.flt.held.eraseP (· == o))
      State.nextHeld n (if (ordSeq o).toNat ≤ s.orderSeq.toNat then s.refuseOrder o false 2 else s.acceptOrder o false)

def State.moveOn (s : State) : State := State.nextHeld s.flt.held.length s

/-- Verification of the order that arrived first ends (R475, R476). -/
def State.orderVerified (s : State) : State :=
  match s.flt.verifying with
  | [] => s
  | (o, sub) :: rest =>
    let s := { (s.fwDone 1) with flt := { s.flt with verifying := rest } }
    let err : BitVec 4 := s.orderErr o
    let self_ : Bool := decide (ordType o = otAdmit) && decide (ordTarget o = s.node)
    if err ≠ 0 then s.refuseOrder o sub err
    else if !self_ ∧ (s.orderSeq.toNat + 1 < (ordSeq o).toNat ∨ !s.ordersFree) then
      if s.flt.held.contains o then s.ordResult sub 0
      else if 64 ≤ s.flt.held.length then s.refuseOrder o sub 9
      else (s.ordResult sub 0).setHeld (s.flt.held ++ [o])
    else (s.acceptOrder o sub).moveOn

/-- No neighbour can fill the gap below the held orders (R477): ORDER_GAP, once for a gap. -/
def State.checkGap (s : State) : State :=
  let low := s.flt.held.foldl (fun b o => min b (ordSeq o).toNat) (2 ^ 32)
  let ports := (List.range 6).filter s.trained
  if s.flt.held = [] ∨ !s.ordersFree ∨ s.flt.gapAt = some s.orderSeq ∨
      ports.any (fun p => !(s.pt p).heard || decide (s.orderSeq.toNat < (s.pt p).orderSeq.toNat)) then s
  else
    let s := State.setF { s with flt := { s.flt with gapAt := some s.orderSeq } } F.FLT_STAT_GAP 1
    s.post (ev 0x85 stOk (s.orderSeq.toNat * 2 ^ 32) low)

/-- A neighbour lacks orders that this node has applied (R477). -/
def State.fillGap (s : State) (p : Nat) (theirs : R32) : State :=
  (s.flt.applied.filter (fun o => decide (theirs.toNat < (ordSeq o).toNat))).foldl (fun s o => s.sendOrder p o) s

/-! ### EXPEL (R479, R480) -/

/-- Set the bit of a node in FLT_EXP. -/
def State.setExpelled (s : State) (n : NodeId) (b : Bool) : State :=
  let off := if n.toNat < 32 then Reg.FLT_EXP_LO else Reg.FLT_EXP_HI
  let m : R32 := BitVec.ofNat 32 (2 ^ (n.toNat % 32))
  s.wr off (if b then s.rd off ||| m else s.rd off &&& ~~~ m)

/-- Learn an incarnation (R481). -/
def State.learnInc (s : State) (n : NodeId) (i : BitVec 16) : State :=
  { s with flt := { s.flt with incs := sset noInc s.flt.incs n.toNat (some i) } }

/-- A torus port's link goes into probation (R488); its waiting traffic is routed again. -/
def State.toProbation (s : State) (p : Nat) : State :=
  if s.pState p = pUp then
    ((s.toState p pProbation laActive).setF (F.FLT_PORT_HB_PROB p) 1).requeue p
  else s

/-- A torus port's link leaves probation (R490). -/
def State.fromProbation (s : State) (p : Nat) : State :=
  if s.pState p = pProbation then (s.toState p pUp laActive).setF (F.FLT_PORT_HB_PROB p) 0 else s

/-- A request that has no completion when a node is expelled (R184, R215, R267, R479): homed there, it fails over or ends. Homed elsewhere, it
is sent again, but where a record of this node holds it, whose operation is, and where a record of the lost node held it: of class TAMPED
with the node on its path, whether one did is not known here (DESIGN CHOICE, log entry 18). -/
def State.expelReq (s : State) (n : NodeId) (e : Ent) : State :=
  match e.req with
  | none => s
  | some r =>
    let job := some r.job
    let sent := decide (e.st = .sent)
    if dpaNode r.dpa = n then
      let s := if sent then s.unpace e r.dst else s
      match s.homeOf r.attr r.dpa with
      | none => s.completeEnt e job stTargetLost false false []
      | some d =>
        let s := s.setEnt e.id (fun x => { x with req := some { r with dst := d } })
        if !sent then s
        else
          let w := s.paceOf e.port d
          (s.setPace e.port d { w with out := w.out + e.paceBytes }).sendReq { r with dst := d }
    else if !sent ∨ s.contributes r then s
    else
      let (x, s) := if r.cls = 3 ∧ s.onPath n r.dst then s.drawWord else (0, s)
      if x.getLsbD 0 then (s.unpace e r.dst).completeEnt e job stTargetLost false false []
      else
        let s := s.sendReq r
        if r.opc = 2 ∧ r.attr.mirrored ∧ r.dst = dpaNode r.dpa ∧ !s.expelled r.attr.partner
        then s.sendReq { r with mc := true, dst := r.attr.partner } else s

/-- Give an operation of the node's own another home. -/
def State.moveOwn (s : State) (o : Own) (d : NodeId) : State :=
  { s with ep := { s.ep with own := s.ep.own.map (fun x => if x = o then { x with home := d, req := { x.req with dst := d } } else x) } }

/-- An operation of the node's own when a node is expelled: homed there, it fails over or ends (R267, R479). -/
def State.expelOwn (s : State) (n : NodeId) (o : Own) : State :=
  if o.home = n then
    match (if dpaNode o.req.dpa = n then s.homeOf o.req.attr o.req.dpa else none) with
    | some d => (s.moveOwn o d).sendReq { o.req with dst := d }
    | none => s.ownDone o (cplFor s o.req stTargetLost false [])
  else if s.contributes o.req then s
  else
    let (x, s) := if o.cls = 3 ∧ s.onPath n o.home then s.drawWord else (0, s)
    if x.getLsbD 0 then s.ownDone o (cplFor s o.req stTargetLost false []) else s.sendReq o.req

/-- The write copies that this home still awaits from a partner other than the lost one are sent again, as they were (R184). -/
def State.resendCopies (s : State) (n : NodeId) : State :=
  s.home.awaitMack.foldl (fun (s : State) (w : Req × Cpl × Req) => if w.2.2.dst = n then s else s.sendReq w.2.2) s

/-- Copy extents of an expelled primary take over (R267). -/
def State.failover (s : State) (n : NodeId) : State :=
  (s.liveExts.filter (fun i => (s.ext i).mcopy && decide ((s.ext i).partner = n))).foldl (fun s i =>
    let s := { s with home := { s.home with adopted := s.home.adopted ++ [(BitVec.ofNat 14 i, n)] } }
    ((s.setExtF i 1 42 1 0).setExtF i 1 43 1 0).post (evFailover n i)) s

/-- EXPEL of another node. -/
def State.expelOther (s : State) (n : NodeId) : State :=
  let ports := (List.range 6).filter (fun p => decide (neighbour s.node p = n))
  let s := ports.foldl State.toProbation s
  let s := (s.liveExts.filter (fun i => (s.ext i).mirrored && decide ((s.ext i).partner = n))).foldl State.breakMirror s
  let s := s.failover n
  let s := { s with home := { s.home with
    held := dropWhere (fun h => decide (agentNode h.1.src = n)) s.home.held
    copyHeld := dropWhere (fun r => decide (dpaNode r.dpa = n) || decide (agentNode r.src = n)) s.home.copyHeld } }
  let s := (s.ep.ents.filter Ent.live).foldl (fun s e => s.expelReq n e) s
  let s := s.ep.own.foldl (fun s o => s.expelOwn n o) s
  let s := (s.resendCopies n).resendTamps n
  let s := s.expelRuns n
  (List.range 4).foldl (fun s i =>
    if s.on (F.ENG_DOP_CTL_EN i) ∧ !s.on (F.ENG_DOP_CTL_ROLE i) ∧ s.f (F.ENG_DOP_CTL_PEER i) = n then s.dopLost i else s) s

/-- A request that is not complete ends with TARGET_LOST, as this node is expelled. -/
def State.loseEnt (s : State) (id : Nat) : State :=
  match s.ep.ents.find? (fun e => decide (e.id = id) && e.live) with
  | none => s
  | some e =>
    let s := match (if e.st = .sent then e.req else none) with
      | some r => s.unpace e r.dst
      | none => s
    s.completeEnt e (e.req.map (fun (r : Req) => r.job)) stTargetLost false false []

/-- EXPEL of this node (R480). -/
def State.expelSelf (s : State) (seq : R32) : State :=
  let s := (s.setF F.FLT_STAT_SELF_EXP 1).post (ev 0x86 stTargetLost (seq.toNat * 2 ^ 32) 0)
  let s := s.ep.ents.foldl (fun s e => s.loseEnt e.id) s
  (List.range 6).foldl State.toProbation s

/-- The first order whose effect is due, where it is as a test says. -/
def State.dueOrder (s : State) (t : Bytes → Bool) : Option Bytes := s.flt.todo.head?.filter t

def State.popTodo (s : State) : State := { s with flt := { s.flt with todo := s.flt.todo.drop 1 } }

/-- The effect of an EXPEL order (R479). -/
def State.expel (s : State) (n : NodeId) : State :=
  match s.dueOrder (fun o => decide (ordType o = otExpel) && ordTarget o == n) with
  | none => s
  | some o =>
    let s := ((s.popTodo.setExpelled n true).learnInc n (ordInc o))
    (if n = s.node then s.expelSelf (ordSeq o) else s.expelOther n).moveOn

/-- The effect of a KEYS order (R471): the slot takes the new digest and is valid. -/
def State.keysOrder (s : State) (slot : Nat) (key : Bytes) : State :=
  match s.dueOrder (fun o => decide (ordType o = otKeys) && decide ((ordTarget o).toNat = slot) && decide (slice o 32 48 = key)) with
  | none => s
  | some _ =>
    let s := s.popTodo
    let s := upto (fun i s => s.nodeClay (0x81 + 16 * slot + i) (BitVec.ofNat 32 (leNat (slice key (4 * i) 4)))) 12 s
    (s.nodeClay (0x80 + 16 * slot) (s.clayWord (0x80 + 16 * slot) ||| 1)).moveOn

/-- An ADMIT order waits for EFFECTIVE (R490). -/
def State.admitOrder (s : State) (n : NodeId) (inc : BitVec 16) (tick : R64) : State :=
  match s.dueOrder (fun o => decide (ordType o = otAdmit) && ordTarget o == n && ordInc o == inc && decide (ordEffective o = tick.toNat)) with
  | none => s
  | some o => { s.popTodo with flt := { s.popTodo.flt with admits := s.flt.admits ++ [o] } }

/-- EFFECTIVE is reached: this node is admitted, or another one is (R490). -/
def State.admitEffective (s : State) (n : NodeId) : State :=
  match s.flt.admits.find? (fun o => ordTarget o == n && decide (ordEffective o ≤ s.now.toNat)) with
  | none => s
  | some o =>
    let s := { s with flt := { s.flt with admits := s.flt.admits.eraseP (· == o) } }
    let s := s.noteApplied o
    let s :=
      if n = s.node then
        let x := BitVec.ofNat 64 (ordW o 10)
        let s := (s.wr Reg.FLT_EXP_LO (x.setWidth 32)).wr Reg.FLT_EXP_HI (x.extractLsb' 32 32)
        let s := (s.setF F.FLT_INC_INC (ordInc o)).nodeClay 0xD3 ((ordInc o).setWidth 32)
        s.post (ev 0x8C stOk ((ordSeq o).toNat * 2 ^ 32 + (ordInc o).toNat) (ordEffective o))
      else
        let s := (s.setExpelled n false).learnInc n (ordInc o)
        ((List.range 6).filter (fun p => decide (neighbour s.node p = n))).foldl State.fromProbation s
    s.reroute.moveOn

/-! ### Sediment commands (R492-R494) -/

/-- The effective tick of a sediment command. -/
def State.sedTick (s : State) : R64 := s.rd Reg.FLT_SED_TICK_HI ++ s.rd Reg.FLT_SED_TICK_LO

/-- FLT_SED_JOB takes effect at START and REPLAY. -/
def State.sedJobs (s : State) : State := upto (fun j s => s.effWr (Reg.FLT_SED_JOB j) (s.rd (Reg.FLT_SED_JOB j))) 16 s

/-- A write of FLT_SED_CMD: the command waits for its tick. -/
def State.sedCmdWrite (s : State) (op : BitVec 4) : State :=
  if 1 ≤ op.toNat ∧ op.toNat ≤ 3 then { s with flt := { s.flt with sedCmd := some (op, s.sedTick) } } else s

section
variable (bw : Win)

/-- The requests that replay still holds run in the order of their arrival. -/
def State.sedRelease : List (Req × MemCond × Nat × R64) → State → State
  | [], s => s
  | h :: hs, s => State.sedRelease hs (s.admitReq bw h.1 h.2.1)

/-- A sediment command takes effect. -/
def State.sedAct (s : State) (op : BitVec 4) : State :=
  let s := { s with flt := { s.flt with sedCmd := none } }
  if op = 2 then
    let held := s.flt.sedHeld
    let s := { s with flt := { s.flt with sedHeld := [], sedIn := [] } }
    let s := (s.setF F.FLT_SED_STAT_MODE 0).takeWrs sedRegs
    State.release bw (State.sedRelease bw held s)
  else if op = 3 ∧ s.on F.FLT_SED_STAT_OVF then s
  else
    let f := s.flt
    let empty := decide (f.sedWr = f.sedRd)
    let s := { s with flt := { f with
      sedPos := [], sedIn := [], sedDiverged := false, sedWr := if empty then 0 else f.sedWr, sedRd := if empty then 0 else f.sedRd } }
    (s.sedJobs).setF F.FLT_SED_STAT_MODE (if op = 1 then 1 else 2)

/-- A row of FLT_SED_CMD: the command waits until its tick, and acts then. -/
def State.sedOp (s : State) (op : BitVec 4) : State :=
  match s.flt.sedCmd with
  | some (o, t) => if o = op then (if s.due t then s.sedAct bw op else s) else s.sedCmdWrite op
  | none => if s.due s.sedTick then s.sedAct bw op else s.sedCmdWrite op

/-- Records of the host ring as a power of two. -/
def State.sedLog2 (s : State) : Nat :=
  let m := (s.f F.FLT_SED_CFG_LOG2_SIZE).toNat
  if 10 ≤ m ∧ m ≤ 24 then m else 16

/-- The bus address of a record of the host ring. -/
def State.sedAddr (s : State) (i : Nat) : R64 :=
  (s.rd Reg.FLT_SED_BASE_HI ++ s.f F.FLT_SED_BASE_LO_BASE_LO ++ (0 : BitVec 12)) + BitVec.ofNat 64 (32 * i)

/-- Drain up to `n` records while the ring is not full (R492). -/
def State.sedOut : Nat → State → State
  | 0, s => s
  | n + 1, s =>
    let tail := (s.f F.FLT_SED_TAIL_TAIL).toNat
    let next := (tail + 1) % 2 ^ s.sedLog2
    if s.flt.sedWr = s.flt.sedRd ∨ next = (s.f F.FLT_SED_HEAD_HEAD).toNat % 2 ^ s.sedLog2 then s
    else
      let s := s.emit (.hostWrite (s.sedAddr tail) (Mem.rdN s.mems.sed (32 * (s.flt.sedRd % 2097152)) 32))
      State.sedOut n (State.setF { s with flt := { s.flt with sedRd := s.flt.sedRd + 1 } } F.FLT_SED_TAIL_TAIL (BitVec.ofNat 24 next))

/-- Read records while TAIL differs from HEAD (R492). -/
def State.sedFill : List Bytes → State → State
  | [], s => s
  | b :: bs, s =>
    let tail := (s.f F.FLT_SED_TAIL_TAIL).toNat
    if tail = (s.f F.FLT_SED_HEAD_HEAD).toNat % 2 ^ s.sedLog2 then s
    else
      let s := s.emit (.hostRead (s.sedAddr tail) 32)
      State.sedFill bs (State.setF { s with flt := { s.flt with sedIn := s.flt.sedIn ++ [b] } } F.FLT_SED_TAIL_TAIL
        (BitVec.ofNat 24 ((tail + 1) % 2 ^ s.sedLog2)))

/-- A SEDIMENT slot. -/
def State.sedSlot (s : State) (recs : List Bytes) : State :=
  if s.f F.FLT_SED_STAT_MODE = 2 then
    let s := State.sedFill (recs.take 128) s
    State.release bw (State.sedDrain bw s.flt.sedHeld.length s)
  else State.sedOut 128 s

end

/-- A request has been held in replay for more than WAIT units of 1,024 ticks (R494). -/
def State.sedOverdue (s : State) : Bool :=
  s.flt.sedHeld.any (fun h => decide (1024 * (s.f F.FLT_SED_CTL_WAIT).toNat < s.now.toNat - h.2.2.2.toNat))

/-- A request is held too long: SED_DIVERGED, once for a capture (R494). -/
def State.sedTimeout (s : State) : State :=
  if s.f F.FLT_SED_STAT_MODE ≠ 2 ∨ s.f F.FLT_SED_CTL_WAIT = 0 ∨ !s.sedOverdue ∨ s.flt.sedDiverged then s
  else
    let b := s.flt.sedIn.headD []
    let s := State.setF { s with flt := { s.flt with sedDiverged := true } } F.FLT_SED_STAT_DIVERGED 1
    s.post (ev 0x8A stOk (leNat (slice b 16 8)) (leNat (slice b 8 8)))

/-! ### Commands -/

/-- ORDER_SUBMIT (R474). -/
def execOrderSubmit (s : State) : Host.Outcome State Fault Refusal := whenWr s State.orderSubmit

/-- ORDER_FRAG (R474). -/
def execOrderFrag (_port : Fin 6) (seq : R32) (off total : BitVec 16) (data : Bytes) (s : State) : Host.Outcome State Fault Refusal :=
  whenUp s (fun s => s.orderPiece seq off.toNat total.toNat data)

/-- ORDER_VERIFY_DONE (R476). -/
def execOrderVerifyDone (s : State) : Host.Outcome State Fault Refusal :=
  whenUp s (fun s => if s.fwServes 1 then s.orderVerified else s)

/-- EXPEL (R479). -/
def execExpel (n : NodeId) (s : State) : Host.Outcome State Fault Refusal := whenUp s (fun s => s.expel n)

/-- ADMIT_ORDER (R490). -/
def execAdmitOrder (n : NodeId) (inc : BitVec 16) (tick : R64) (s : State) : Host.Outcome State Fault Refusal :=
  whenUp s (fun s => s.admitOrder n inc tick)

/-- ADMIT_EFFECTIVE (R490). -/
def execAdmitEffective (n : NodeId) (s : State) : Host.Outcome State Fault Refusal := whenUp s (fun s => s.admitEffective n)

/-- KEYS (R471). -/
def execKeys (slot : BitVec 3) (key : Bytes) (s : State) : Host.Outcome State Fault Refusal := whenUp s (fun s => s.keysOrder slot.toNat key)

/-- MIRROR_REPAIR_START (R489). -/
def execMirrorRepairStart (v : R32) (copy : Bool) (s : State) : Host.Outcome State Fault Refusal :=
  whenWr s (fun s => s.repairStart v copy)

/-- SED_REPLAY_HOLD_TIMEOUT (R494). -/
def execSedReplayHoldTimeout (s : State) : Host.Outcome State Fault Refusal := whenUp s State.sedTimeout

end Sys2Proof.Machine
end

