-- ==== Sys2Proof/Machine/Fwm.lean ====
section
/-!
DEFINITION. Firmware (R622-R632), timed commits (R640, R641), the mailbox (R651), voltage and temperature (R642-R646).
-/

namespace Sys2Proof.Machine

/-! BOOT and HSTATE of FWM_STAT. -/
def bRom : BitVec 3 := 0
def bAwait : BitVec 3 := 1
def bVerifying : BitVec 3 := 2
def bRunning : BitVec 3 := 3
def bTest : BitVec 3 := 4
def hIdle : BitVec 3 := 0
def hLoading : BitVec 3 := 1
def hSyncing : BitVec 3 := 2
def hReady : BitVec 3 := 3
def hSwitching : BitVec 3 := 4

def State.boot (s : State) : BitVec 3 := s.f F.FWM_STAT_BOOT
/-- Firmware runs the loops of R622; none is left where the role die has failed without a standby (R623; DEDUCED, log entry 132). -/
def State.fwLoops (s : State) : Bool := decide (s.boot = bRunning) && !s.fwm.dead
def State.hstate (s : State) : BitVec 3 := s.f F.FWM_STAT_HSTATE

/-! Events of R650. -/
def evFwReady (i : Image) (stby : Bool) : Ev := ev 0xE0 stOk i.ver.toNat (2 ^ 16 * b2n stby + i.svn.toNat)
def evHandover (ver : R32) : Ev := ev 0xE1 stOk 3 ver.toNat
def evHandoverDone (role : BitVec 1) (ver : R32) (slot : R64) : Ev := ev 0xE2 stOk (putAt 32 role + ver.toNat) slot.toNat
def evHandoverAborted (err : BitVec 4) (h : BitVec 3) : Ev := ev 0xE3 stOk err.toNat h.toNat
def evTakeover (role : BitVec 1) (n : Nat) : Ev := ev 0xE4 stOk role.toNat n
def evCommitLate (group : BitVec 16) (t : R64) : Ev := ev 0xE5 stOk group.toNat t.toNat
def evThermWarn (die : BitVec 5) (tmax : BitVec 16) : Ev := ev 0xE6 stOk (putAt 16 die + tmax.toNat) 0
def evAvsLimit (mv : BitVec 16) : Ev := ev 0xE7 stOk mv.toNat 0
def evMailboxDone (op : Nat) (err : BitVec 4) (n : Nat) : Ev := ev 0xEB stOk (2 ^ 24 * op + err.toNat) n

/-! ### Images (R625, R626) -/

/-- A field of the staged header. -/
def State.imgF (s : State) (off n : Nat) : Nat := leNat (Mem.rdN s.mems.img off n)

/-- Bytes of the staged header that must be zero. -/
def State.imgZero (s : State) : Bool :=
  [(18, 2), (24, 8), (80, 48), (5485, 19)].all (fun (x : Nat × Nat) => decide (s.imgF x.1 x.2 = 0))

/-- The staged image of `len` bytes as it would run. -/
def State.staged (s : State) (len : Nat) : Image :=
  ⟨BitVec.ofNat 32 (s.imgF 12 4), BitVec.ofNat 16 (s.imgF 16 2), Config.sha384 (Mem.rdN s.mems.img 0 len)⟩

/-- FW_SVN (R633). -/
def State.fwSvn (s : State) : BitVec 16 := (s.clayWord 0xD4).setWidth 16

/-- Why the staged image is refused (R626, R632); with a running image, HCOMPAT counts too (R629). -/
def State.imgErr (s : State) (len : Nat) (excess : Option Image) : BitVec 4 :=
  let key (off n : Nat) : Bytes := Mem.rdN s.mems.img off n
  let old : Bool := match excess with | some i => decide (i.ver.toNat < s.imgF 20 4) | none => false
  if len < 5505 ∨ 16777216 < len ∨ s.imgF 0 8 ≠ 0x53544C4600010000 ∨ len ≠ 5504 + s.imgF 8 4 ∨ !s.imgZero then 1
  else if key 32 48 ≠ Config.sha384 (key 5504 (len - 5504)) then 2
  else if !Config.romDigests.contains (Config.sha384 (key 128 1984)) then 3
  else if !Config.ed25519Verify (key 128 32) (key 0 128) (key 2112 64) then 4
  else if !Config.mldsaVerify (key 160 1952) (key 0 128) (key 2176 3309) then 5
  else if s.imgF 16 2 < s.fwSvn.toNat ∨ old then 6
  else 0

def State.fwErr (s : State) (e : BitVec 4) : State := s.setF F.FWM_STAT_ERR e

/-- A write through FWM_IMGWIN (R627). -/
def State.imgWrite (s : State) (off : Nat) (wide : Bool) (v : R64) : State :=
  if s.hstate ≠ hIdle ∨ s.boot = bVerifying then s
  else
    let a := (s.f F.FWM_IMG_PAGE_PAGE).toNat * 131072 + off
    { s with mems := { s.mems with img := winWrite s.mems.img a wide v } }

/-- The role die runs an image. -/
def State.runImage (s : State) (i : Image) : State :=
  ((State.wr { s with fwm := { s.fwm with run := some i } } Reg.FWM_VER i.ver).setF F.FWM_SVN_RUN i.svn)

/-- The standby runs an image and follows. -/
def State.follow (s : State) (i : Image) : State :=
  (State.wr { s with fwm := { s.fwm with stby := some i } } Reg.FWM_VER_STBY i.ver).setF F.FWM_STAT_STANDBY_VALID 1

/-! ### Boot (R628) -/

/-- The ROM is ready: AWAIT_IMAGE, or TEST under BOOT_SEL 0b10 (R624). -/
def State.romReady (s : State) : State :=
  if s.boot ≠ bRom then s else s.setF F.FWM_STAT_BOOT (if s.pwr.straps.bootSel = 2 then bTest else bAwait)

/-- BOOT verifies the staged image. -/
def State.bootCmd (s : State) : State :=
  if s.boot ≠ bAwait then s.fwErr 8
  else State.setF { s with fwm := { s.fwm with len := (s.f F.FWM_IMG_LEN_LEN).toNat } } F.FWM_STAT_BOOT bVerifying

/-- The image starts, or the ROM stays in AWAIT_IMAGE (R628). -/
def State.bootDone (s : State) (standbyOk : Bool) : State :=
  if s.boot ≠ bVerifying then s
  else
    let err := s.imgErr s.fwm.len none
    if err ≠ 0 then (s.setF F.FWM_STAT_BOOT bAwait).fwErr err
    else
      let i := s.staged s.fwm.len
      let s := (s.setF F.FWM_STAT_BOOT bRunning).runImage i
      let s := if standbyOk then s.follow i else State.fwErr { s with fwm := { s.fwm with lost := true } } 9
      s.post (evFwReady i standbyOk)

/-! ### The mailbox (R651) -/

/-- A mailbox operation completes. -/
def State.mbDone (s : State) (op : Nat) (err : BitVec 4) (data : Bytes) : State :=
  let s := { s with mems := { s.mems with mbwin := Mem.wrN s.mems.mbwin 0 data } }
  let s := ((s.setF F.FWM_MB_RES_BUSY 0).setF F.FWM_MB_RES_ERR err).setF F.FWM_MB_RES_LEN (BitVec.ofNat 16 data.length)
  s.post (evMailboxDone op err data.length)

/-- VERSION; with no image running its measurement has no stated value. -/
def State.mbVersion (s : State) : State :=
  let head := natLe 4 (s.rd Reg.FWM_VER).toNat ++ natLe 2 (s.f F.FWM_SVN_RUN).toNat ++ zeros 2
  match s.fwm.run with
  | some i => s.mbDone 1 0 (head ++ slice i.meas 0 48)
  | none =>
    let (b, s) := s.drawBytes 48
    s.mbDone 1 0 (head ++ b)

/-- SENSORS. -/
def State.mbSensors (s : State) : State :=
  s.mbDone 2 0 ((List.range 20).flatMap (fun d => natLe 2 (s.f (F.PWR_TDIE_TEMP d)).toNat) ++ natLe 2 (s.f F.PWR_VCORE_MV).toNat ++
    natLe 2 (s.f F.PWR_VCORE_AMPS).toNat ++ natLe 2 (s.f F.PWR_POWER_WATTS).toNat)

/-- A mailbox command that no die serves any more: BUSY stays (R623). -/
def State.mbHang (s : State) : State := s.setF F.FWM_MB_RES_BUSY 1

/-- VERSION or SENSORS: during SWITCHING it waits for the die that takes the role (R630). -/
def State.mbRead (s : State) (sensors : Bool) : State :=
  if s.on F.FWM_MB_RES_BUSY then s
  else if s.fwm.dead then s.mbHang
  else if s.hstate = hSwitching then State.setF { s with fwm := { s.fwm with mbWait := some sensors } } F.FWM_MB_RES_BUSY 1
  else if sensors then s.mbSensors else s.mbVersion

/-- A mailbox command with a reserved OP or ARG. -/
def State.mbReserved (s : State) (op : Nat) : State := 
  if s.on F.FWM_MB_RES_BUSY then s else if s.fwm.dead then s.mbHang else s.mbDone op 1 []

/-- POOL_TEST starts. -/
def State.poolTestCmd (s : State) (dev : BitVec 5) : State :=
  if s.on F.FWM_MB_RES_BUSY then s
  else if s.fwm.dead then s.mbHang
  else if 19 < dev.toNat then s.mbDone 3 1 []
  else if s.on F.HOM_CTL_EN ∨ s.liveExts ≠ [] then s.mbDone 3 2 []
  else State.setF { s with fwm := { s.fwm with poolTest := some dev } } F.FWM_MB_RES_BUSY 1

/-- POOL_TEST ends: the march has overwritten the device. -/
def State.poolTestDone (s : State) (pass : Bool) (lines : R64) : State :=
  match s.fwm.poolTest with
  | none => s
  | some d =>
    let keep (a : Nat) : Bool := decide (poolDevice a ≠ d.toNat)
    let s := { (s.fwDone 4) with
      mems := { s.mems with pool := s.mems.pool.filter (fun c => keep c.1), poolKey := s.mems.poolKey.filter (fun c => keep (64 * c.1)) } }
    State.mbDone { s with fwm := { s.fwm with poolTest := none } } 3 0 (natLe 8 (b2n pass) ++ natLe 8 lines.toNat)

/-! ### Live handover (R629-R631) -/

/-- Firmware-served commands in progress (R622). -/
def State.fwInProgress (s : State) : List Nat :=
  (if s.sec.cmd.isSome then [0] else []) ++ (if s.flt.verifying.isEmpty then [] else [1]) ++ (if s.eng.test.isSome then [2] else []) ++
    (if s.lan.cmis.isSome then [3] else []) ++ (if s.fwm.poolTest.isSome then [4] else [])

/-- SWITCHING is over: the die with the role takes what waited (R630). -/
def State.takeWaiting (s : State) : State :=
  let w := s.fwm.mbWait
  let s := { s with fwm := { s.fwm with busy := [], timed := false, mbWait := none } }
  match w with
  | some true => s.mbSensors
  | some false => s.mbVersion
  | none => s

/-- A handover aborts: HANDOVER_ABORTED. -/
def State.hoAbort (s : State) (err : BitVec 4) : State :=
  let h := s.hstate
  if h = hIdle then s
  else ((s.fwErr err).setF F.FWM_STAT_HSTATE hIdle).takeWaiting.post (evHandoverAborted err h)

/-- UPDATE: the standby stops following and checks the staged image. -/
def State.updateCmd (s : State) : State :=
  if s.hstate ≠ hIdle ∨ s.boot ≠ bRunning then s.fwErr 8
  else if !s.on F.FWM_STAT_STANDBY_VALID then s.fwErr (if s.fwm.lost then 9 else 8)
  else State.setF { (s.setF F.FWM_STAT_STANDBY_VALID 0) with
    fwm := { s.fwm with len := (s.f F.FWM_IMG_LEN_LEN).toNat } } F.FWM_STAT_HSTATE hLoading

/-- The standby's checks end. -/
def State.loadDone (s : State) (standbyOk : Bool) : State :=
  if s.hstate ≠ hLoading then s
  else
    let err := s.imgErr s.fwm.len s.fwm.run
    if err ≠ 0 then s.hoAbort err
    else if !standbyOk then s.hoAbort 9
    else
      let i := s.staged s.fwm.len
      (State.wr { s with fwm := { s.fwm with stby := some i, hoAt := s.now } } Reg.FWM_VER_STBY i.ver).setF F.FWM_STAT_HSTATE hSyncing

/-- The digests of control state are compared. -/
def State.syncDone (s : State) (agree : Bool) : State :=
  if s.hstate ≠ hSyncing then s
  else if agree then (s.setF F.FWM_STAT_HSTATE hReady).post (evHandover (s.rd Reg.FWM_VER_STBY))
  else s.hoAbort 7

/-- The node enters SWITCHING. -/
def State.enterSwitching (s : State) : State :=
  State.setF { s with fwm := { s.fwm with timed := false, busy := s.fwInProgress, hoAt := s.now } } F.FWM_STAT_HSTATE hSwitching

/-- The tick of a timed SWITCH. -/
def State.hoTick (s : State) : R64 := s.rd Reg.FWM_HO_TICK_HI ++ s.rd Reg.FWM_HO_TICK_LO

/-- A timed SWITCH whose tick has come takes effect (R629). -/
def State.hoDue (s : State) : State := if s.fwm.timed && decide (s.hstate = hReady) && s.due s.hoTick then s.enterSwitching else s

/-- One tick of domain time (R279; DESIGN CHOICE, log entry 16): each torus port sends one message of its output queue, the
home takes one of its own, the lanes of every port go on, missed heartbeats count (R465), the Ethernet egress queues drain (R573), and a timed SWITCH whose tick has come takes effect (R629). -/
def State.tickAll (s : State) : State :=
  State.hoDue (State.workIdle (upto (fun e s => s.ethTick e) 4 (upto (fun p s => s.hbTick p) 6 (upto (fun p s => s.laneTick p) 14
    (upto (fun p s => s.serve p) 6 s.tick.serveHome)))))

/-- SWITCH. -/
def State.switchCmd (s : State) (timed : Bool) : State :=
  if s.hstate ≠ hReady then s.fwErr 8
  else if timed then State.hoDue { s with fwm := { s.fwm with timed := true } }
  else s.enterSwitching

/-- A quiescent boundary (R630): the standby takes the role. -/
def State.quiescent (s : State) : State :=
  let s := s.hoDue
  if s.hstate ≠ hSwitching ∨ s.fwm.busy ≠ [] ∨ s.now.toNat ≠ s.boundary then s
  else match s.fwm.stby with
    | none => s
    | some i =>
      let role := ~~~ s.f F.FWM_STAT_ROLE
      let old := s.fwm.run
      let s := (s.setF F.FWM_STAT_ROLE role).setF F.FWM_STAT_HSTATE hIdle
      let s := s.runImage i
      let s := State.wr { s with fwm := { s.fwm with stby := old } } Reg.FWM_VER_STBY (match old with | some o => o.ver | none => 0)
      s.takeWaiting.post (evHandoverDone role i.ver s.clk.slot)

/-- ABORT. -/
def State.abortCmd (s : State) : State := if s.hstate = hIdle then s.fwErr 8 else s.hoAbort 0xA

/-- Ticks since HSTATE became what it is (SYNCING, SWITCHING). -/
def State.hoAge (s : State) : Nat := (s.now - s.fwm.hoAt).toNat

/-- SYNCING over 500 ms, or no quiescent boundary in 100 ms; before that it is void (DESIGN CHOICE, log entry 20). -/
def State.hoTimeout (s : State) : State :=
  if s.hstate = hSyncing ∧ 125000000 < s.hoAge then s.hoAbort 7
  else if s.hstate = hSwitching ∧ 25000000 ≤ s.hoAge then s.hoAbort 0xB else s

/-- The standby has been loaded and follows again. -/
def State.standbyFollows (s : State) : State :=
  if s.hstate ≠ hIdle ∨ s.boot ≠ bRunning ∨ s.on F.FWM_STAT_STANDBY_VALID ∨ s.fwm.lost then s
  else match s.fwm.run with
    | some i => s.follow i
    | none => s

/-- SVN_COMMIT (R632). -/
def State.svnCommit (s : State) : State :=
  if s.hstate ≠ hIdle ∨ !s.on F.FWM_STAT_STANDBY_VALID then s.fwErr 8
  else if s.fwSvn.toNat < (s.f F.FWM_SVN_RUN).toNat then s.nodeClay 0xD4 ((s.f F.FWM_SVN_RUN).setWidth 32)
  else s

/-- What a hardware failure of the role die takes with it: the link of K0, and its clay bank (R615, R638). -/
def State.dieGone (s : State) : State :=
  let k0 := s.f F.FWM_STAT_ROLE == 0
  State.setF { s with
    pwr := { s.pwr with pcieUp := s.pwr.pcieUp && !k0 }
    clay := { s.clay with bank0 := s.clay.bank0 && !k0, bank1 := s.clay.bank1 && k0 } } F.CLY_STAT_SINGLE 1

/-- The role die fails (R623): the standby takes the role; with STANDBY_VALID 0 the firmware-served commands stay BUSY and the node serves
on in hardware. -/
def State.takeover (s : State) (hardware : Bool) : State :=
  let s := if hardware then s.dieGone else s
  if !s.on F.FWM_STAT_STANDBY_VALID then { s with fwm := { s.fwm with dead := true } }
  else match s.fwm.stby with
    | none => s
    | some i =>
      let role := ~~~ s.f F.FWM_STAT_ROLE
      let n := s.fwInProgress.length
      let s := ((s.setF F.FWM_STAT_ROLE role).setF F.FWM_STAT_STANDBY_VALID 0).runImage i
      State.post { s with fwm := { s.fwm with lost := true } } (evTakeover role n)

/-! ### Timed commits (R640, R641) -/

/-- The group that FWM_TC_GROUP names. -/
def State.tcGroup (s : State) : BitVec 4 × BitVec 10 := (s.f F.FWM_TC_GROUP_TYPE, s.f F.FWM_TC_GROUP_INDEX)
def State.tcTick (s : State) : R64 := s.rd Reg.FWM_TC_TICK_HI ++ s.rd Reg.FWM_TC_TICK_LO

/-- A timed commit pends for a group. -/
def State.tcPends (s : State) (g : BitVec 4 × BitVec 10) : Bool := s.fwm.tcs.any (fun t => t.2.1 == g.1 && t.2.2 == g.2)

/-- Commit a group for a tick as a direct commit would (R639, R641). -/
def State.commitGroup (s : State) (ty : BitVec 4) (ix : BitVec 10) (t : R64) : State :=
  if ty = 1 then s.xltCommit ix else if ty = 2 then s.queueCommit ix.toNat t else s.swcCommit

/-- A reserved TYPE or INDEX. -/
def tcReserved (g : BitVec 4 × BitVec 10) : Bool := decide (g.1 = 0 ∨ 3 < g.1.toNat ∨ (g.1 = 3 ∧ g.2 ≠ 0))

/-- ARM. -/
def State.tcArm (s : State) : State :=
  let g := s.tcGroup
  let t := s.tcTick
  let err : BitVec 4 := if tcReserved g then 1 else if 64 ≤ s.fwm.tcs.length then 2 else if s.tcPends g then 3
    else if !s.inTime then 4 else 0
  let s := s.setF F.FWM_TC_RES_ERR err
  if err ≠ 0 then s
  else if t.toNat < s.now.toNat then (s.commitGroup g.1 g.2 t).post (evCommitLate ((s.rd Reg.FWM_TC_GROUP).setWidth 16) t)
  else { s with fwm := { s.fwm with tcs := s.fwm.tcs ++ [(t, g.1, g.2)] } }

/-- CANCEL. -/
def State.tcCancel (s : State) : State :=
  let g := s.tcGroup
  let err : BitVec 4 := if tcReserved g then 1 else if !s.tcPends g then 3 else 0
  let s := s.setF F.FWM_TC_RES_ERR err
  if err ≠ 0 then s else { s with fwm := { s.fwm with tcs := dropWhere (fun t => t.2.1 == g.1 && t.2.2 == g.2) s.fwm.tcs } }

/-- Every timed commit that is due takes effect. -/
def State.tcApply (s : State) : List (R64 × BitVec 4 × BitVec 10) → State
  | [] => s
  | t :: ts => (if s.due t.1 then
      (State.commitGroup { s with fwm := { s.fwm with tcs := s.fwm.tcs.filter (fun x => decide (x ≠ t)) } } t.2.1 t.2.2 t.1) else s).tcApply ts

/-! ### Voltage and temperature -/

/-- Set the VDD_CORE setpoint over AVSBus (R643, R668). -/
def State.setMv (s : State) (mv : Nat) : State :=
  if (s.f F.PWR_VCORE_MV).toNat = mv then s else (s.setF F.PWR_VCORE_MV (BitVec.ofNat 16 mv)).emit (.avs (BitVec.ofNat 16 mv))

/-- A step of the voltage loop (R642); none before FW_READY (R668). -/
def State.avsStep (s : State) (margin : BitVec 8) (amps : BitVec 16) : State :=
  if !s.fwLoops then s
  else
    let s := s.setF F.PWR_VCORE_AMPS amps
    let mv := (s.f F.PWR_VCORE_MV).toNat
    let want : Int := (s.f F.PWR_AVS_MARGIN).toNat
    if !s.on F.PWR_AVS_EN then s.setMv (max 650 (min 800 (s.f F.PWR_AVS_FIX_MV).toNat))
    else if margin.toInt < want then
      if 800 ≤ mv then (s.setF F.PWR_STAT_AVS_LIM 1).post (evAvsLimit (s.f F.PWR_VCORE_MV)) else s.setMv (min 800 (mv + 5))
    else if want + 2 < margin.toInt then s.setMv (max 650 (mv - 5))
    else s

/-- The thresholds of PWR_THERM in °C. -/
def State.dilC (s : State) : Nat :=
  let d := (s.f F.PWR_THERM_DIL).toNat
  if 80 ≤ d ∧ d ≤ 105 then d else 100
def State.warnC (s : State) : Nat :=
  let w := (s.f F.PWR_THERM_WARN).toNat
  if w ≤ s.dilC then w else 95

/-- The highest reading and its die: the first of equals. -/
def hottest : Nat → List (BitVec 16) → Nat × BitVec 16
  | d, [] => (d, 0)
  | d, [t] => (d, t)
  | d, t :: ts =>
    let m := hottest (d + 1) ts
    if t.toInt < m.2.toInt then m else (d, t)

/-- SMB_ALERT_N falls (R662). -/
def State.smbAlert (s : State) : State := { s with pwr := { s.pwr with smbAlertN := false } }

/-- The warn stage (R645). -/
def State.warnStage (s : State) (die : BitVec 5) (tmax : BitVec 16) : State :=
  let w : Int := s.warnC
  if w * 16 ≤ tmax.toInt ∧ s.fwm.warnArmed then
    let s := { s with fwm := { s.fwm with warnArmed := false } }
    let s := if s.on F.PWR_STAT_WARN then s else s.smbAlert
    (s.setF F.PWR_STAT_WARN 1).post (evThermWarn die tmax)
  else if tmax.toInt ≤ (w - 2) * 16 then { s with fwm := { s.fwm with warnArmed := true } }
  else s

/-- The trip stage (R645, R660): the core clock stops until the supply is removed. -/
def State.thermTrip (s : State) : State :=
  { s with pwr := { s.pwr with thermtripN := false, hold := .thermal, driven := false, alarmN := true, smbAlertN := true } }

/-- A sample of the junction sensors (R645). -/
def State.thermSample (s : State) (temps : List (BitVec 16)) : State :=
  let temps := temps.take 20
  let s := upto (fun d s => s.setF (F.PWR_TDIE_TEMP d) (temps.getD d 0)) temps.length s
  let m := hottest 0 temps
  let s := (s.setF F.PWR_TMAX_DIE (BitVec.ofNat 5 m.1)).setF F.PWR_TMAX_TMAX m.2
  let s := s.warnStage (BitVec.ofNat 5 m.1) m.2
  if 1760 ≤ m.2.toInt then s.thermTrip else s

/-- The node's own thermal request (R646), once a millisecond; the firmware's, so only while an image runs. -/
def State.thermRequest (s : State) (watts : BitVec 16) : State :=
  let s := s.setF F.PWR_POWER_WATTS watts
  if !s.fwLoops then s
  else
    let d : Int := s.dilC
    let t := (s.f F.PWR_TMAX_TMAX).toInt
    let k := (s.f F.PWR_KREQ_K).toNat
    let k' := if d * 16 ≤ t then min 32 (k + 2) else if t < (d - 3) * 16 then max 16 (k - 1) else k
    let s := (s.setF F.PWR_KREQ_K (BitVec.ofNat 6 k')).setF F.PWR_STAT_DIL (bit1 (decide (16 < k')))
    State.thermal { s with dtt := { s.dtt with thermReq := BitVec.ofNat 6 k' } }

/-! ### Commands -/

/-- BOOT_ROM_READY (R628). -/
def execBootRomReady (s : State) : Host.Outcome State Fault Refusal := whenUp s State.romReady

/-- IMGWIN_WRITE (R627). -/
def execImgwinWrite (off : BitVec 17) (wide : Bool) (v : R64) (s : State) : Host.Outcome State Fault Refusal :=
  whenWr s (fun s => s.imgWrite off.toNat wide v)

/-- BOOT (R628). -/
def execBoot (s : State) : Host.Outcome State Fault Refusal := whenWr s State.bootCmd

/-- BOOT_DONE (R628). -/
def execBootDone (standbyOk : Bool) (s : State) : Host.Outcome State Fault Refusal := whenUp s (fun s => s.bootDone standbyOk)

/-- UPDATE (R629). -/
def execUpdate (s : State) : Host.Outcome State Fault Refusal := whenWr s State.updateCmd

/-- HANDOVER_LOAD_DONE (R629). -/
def execHandoverLoadDone (standbyOk : Bool) (s : State) : Host.Outcome State Fault Refusal := whenUp s (fun s => s.loadDone standbyOk)

/-- HANDOVER_SYNC_DONE (R629). -/
def execHandoverSyncDone (agree : Bool) (s : State) : Host.Outcome State Fault Refusal := whenUp s (fun s => s.syncDone agree)

/-- SWITCH (R629). -/
def execSwitch (timed : Bool) (s : State) : Host.Outcome State Fault Refusal := whenWr s (fun s => s.switchCmd timed)

/-- QUIESCENT_BOUNDARY (R630). -/
def execQuiescentBoundary (s : State) : Host.Outcome State Fault Refusal := whenUp s State.quiescent

/-- ABORT (R629). -/
def execAbort (s : State) : Host.Outcome State Fault Refusal := whenWr s State.abortCmd

/-- HANDOVER_TIMEOUT (R629). -/
def execHandoverTimeout (s : State) : Host.Outcome State Fault Refusal := whenUp s State.hoTimeout

/-- STANDBY_FOLLOWS (R629). -/
def execStandbyFollows (s : State) : Host.Outcome State Fault Refusal := whenUp s State.standbyFollows

/-- SVN_COMMIT (R632). -/
def execSvnCommit (s : State) : Host.Outcome State Fault Refusal := whenWr s State.svnCommit

/-- STANDBY_TAKEOVER (R623). -/
def execStandbyTakeover (hardware : Bool) (s : State) : Host.Outcome State Fault Refusal := whenUp s (fun s => s.takeover hardware)

/-- TIMED_COMMIT_ARM (R640). -/
def execTimedCommitArm (s : State) : Host.Outcome State Fault Refusal := whenWr s State.tcArm

/-- TIMED_COMMIT_CANCEL (R640). -/
def execTimedCommitCancel (s : State) : Host.Outcome State Fault Refusal := whenWr s State.tcCancel

/-- TIMED_COMMIT (R640). -/
def execTimedCommit (s : State) : Host.Outcome State Fault Refusal := whenUp s (fun s => s.tcApply s.fwm.tcs)

/-- VERSION (R651). -/
def execVersion (s : State) : Host.Outcome State Fault Refusal := whenWr s (fun s => s.mbRead false)

/-- SENSORS (R651). -/
def execSensors (s : State) : Host.Outcome State Fault Refusal := whenWr s (fun s => s.mbRead true)

/-- POOL_TEST (R651). -/
def execPoolTest (dev : BitVec 5) (s : State) : Host.Outcome State Fault Refusal := whenWr s (fun s => s.poolTestCmd dev)

/-- POOL_TEST_DONE (R651). -/
def execPoolTestDone (pass : Bool) (lines : R64) (s : State) : Host.Outcome State Fault Refusal :=
  whenUp s (fun s => if s.fwServes 4 then s.poolTestDone pass lines else s)

/-- AVS_STEP (R642). -/
def execAvsStep (margin : BitVec 8) (amps : BitVec 16) (s : State) : Host.Outcome State Fault Refusal :=
  whenUp s (fun s => s.avsStep margin amps)

/-- AVS_STATUS_ALERT (R668): the node reads the regulator's status; it sends nothing before FW_READY. -/
def execAvsStatusAlert (s : State) : Host.Outcome State Fault Refusal :=
  whenUp s (fun s => if s.fwLoops then s.emit .avsStatus else s)

/-- THERMAL_SAMPLE (R645). -/
def execThermalSample (temps : List Reading) (s : State) : Host.Outcome State Fault Refusal := whenUp s (fun s => s.thermSample temps)

/-- THERMAL_REQUEST (R646). -/
def execThermalRequest (watts : BitVec 16) (s : State) : Host.Outcome State Fault Refusal := whenUp s (fun s => s.thermRequest watts)

end Sys2Proof.Machine
end

