-- ==== Sys2Proof/Machine/Sec.lean ====
section
/-!
DEFINITION. Security: identity and reports (R575-R583), sessions (R584-R587), keys (R588-R601), sensors and alarms (R606-R613).
-/

namespace Sys2Proof.Machine

/-! Events of R612. -/
def evAlarm (level : Nat) (tripped : BitVec 5) (port : Nat) : Ev :=
  ev 0xC0 (if 2 ≤ level then stAlarm else stOk) (256 * level + tripped.toNat) (2 ^ 16 * port)
def evSessionClosed (i why : Nat) : Ev := ev 0xC2 stOk (256 * why + i) 0

/-! ### Identity (R576-R579) -/

/-- The device keys' seeds. -/
def edSeed : Bytes := Config.hkdf (Config.identitySeed 0) [] (ascii "STL-ID-ED25519") 32
def mlSeed : Bytes := Config.hkdf (Config.identitySeed 0) [] (ascii "STL-ID-MLDSA65") 32

/-- The public keys and DEVICE_ID. -/
def publicKeys : Bytes := slice (Config.ed25519Public edSeed) 0 32 ++ slice (Config.mldsaPublic mlSeed) 0 1952
def deviceId : Bytes := slice (Config.sha384 publicKeys) 0 48

/-- SEC_IDWIN; without an identity it shows zeros. -/
def State.idWin (s : State) : Bytes := if s.on F.SEC_STAT_ID_OK then publicKeys ++ deviceId ++ zeros 16 else zeros 2048

/-! ### Sessions -/

def sess0 : Nat → Sess := fun _ => ⟨.free, 0, [], [], none, 0⟩
def State.sess (s : State) (i : Nat) : Sess := sget sess0 s.sec.sess i

/-- Change a session slot; SEC_STAT.OPEN follows. -/
def State.setSess (s : State) (i : Nat) (v : Sess) : State :=
  let s := { s with sec := { s.sec with sess := sset sess0 s.sec.sess i v } }
  let bit := BitVec.ofNat 16 (2 ^ i)
  s.setF F.SEC_STAT_OPEN (if v.st = .opened then s.f F.SEC_STAT_OPEN ||| bit else s.f F.SEC_STAT_OPEN &&& ~~~ bit)

/-- A session ends: every key of the slot is erased, SESSION_CLOSED. -/
def State.closeSess (s : State) (i why : Nat) : State := (s.setSess i (sess0 i)).post (evSessionClosed i why)

/-! ### Keys -/

/-- Store or erase a memory-key generation (R588). -/
def State.setKey (s : State) (ix : Nat) (v : Option (BitVec 512)) : State :=
  { s with sec := { s.sec with keys := sset noKey s.sec.keys ix v, alarmErased := dropWhere (fun k => k == ix) s.sec.alarmErased } }

/-- A generation is in use (R591). -/
def State.genInUse (s : State) (slot : BitVec 10) (gen : Bool) : Bool :=
  s.liveExts.any (fun i =>
    let e := s.ext i
    e.keySlot == slot && (e.admitGens.getLsbD (b2n gen) || e.dgen == gen || e.rot))

/-- A link seed is loaded (R595): at once, or at the next training of a port that is trained. -/
def State.loadSeed (s : State) (p : Nat) (seed : Bytes) : State :=
  let busy := s.trained p || decide (s.pState p = pQuiet) || decide (s.pState p = pDeep)
  let s := if busy then { s with sec := { s.sec with newSeeds := sset noSeed s.sec.newSeeds p (some seed) } }
    else State.newIndices { s with sec := { s.sec with
      seeds := sset noSeed s.sec.seeds p (some seed), newSeeds := sset noSeed s.sec.newSeeds p none } } p
  (s.setF (F.SEC_PORT_ST_ERASED p) 0).showSeed p

/-- A link seed is erased by command. -/
def State.eraseSeed (s : State) (p : Nat) : State :=
  State.showSeed { s with sec := { s.sec with
    seeds := sset noSeed s.sec.seeds p none, newSeeds := sset noSeed s.sec.newSeeds p none } } p

/-! ### Commands of SEC_CMD (R609, R613) -/

/-- The effect and the ERR of a command are computed when it is taken; BUSY shows until SEC_CMD_DONE. -/
def State.secTake (s : State) (op sess err : BitVec 4) (undo : SecUndo) : State :=
  let s := { s with sec := { s.sec with cmd := some ⟨op, err, undo⟩ } }
  (s.setF F.SEC_RES_BUSY 1).setF F.SEC_RES_SESSION sess

/-- A command is ignored while another is in progress. -/
def State.secIf (s : State) (f : State → State) : State := if s.on F.SEC_RES_BUSY then s else f s

/-- The measurement of an image; with no image running there is no stated value. -/
def State.measOf (s : State) (i : Option Image) : Bytes × State :=
  match i with
  | some i => (slice i.meas 0 48, s)
  | none => s.drawBytes 48

/-- The clay digest (R582): the key table, the alarm policy, the board calibration. -/
def State.clayDigest (s : State) : Bytes :=
  let words := (List.range 0x50).map (· + 0x80) ++ [0xD0] ++ (List.range 0x100).map (· + 0x100)
  slice (Config.sha384 (words.flatMap (fun w => natLe 4 (s.clayWord w).toNat))) 0 48

/-- A register of the head of the device as GLB_IDENT reads. -/
def State.ident (s : State) : R32 :=
  fput F.GLB_IDENT_STEPPING (fput F.GLB_IDENT_GRADE (s.rd Reg.GLB_IDENT) (if s.part.gradeB then 2 else 1)) s.part.stepping

/-- Bytes 0-1,535 of a report (R581). -/
def State.reportBody (s : State) (sess draw : Nat) (run stby : Bytes) : Bytes :=
  natLe 8 0x53544C5200011330 ++ Mem.rdN s.mems.cmdwin 0 32 ++ deviceId ++ natLe 4 s.ident.toNat ++
    [BitVec.ofNat 8 (128 * (s.f F.GLB_NODE_NODE_LOCK).toNat + s.node.toNat)] ++
    [BitVec.ofNat 8 (4 * (s.f F.FWM_STAT_STANDBY_VALID).toNat + 2 * (s.f F.SEC_ALARM_STAT_LATCH).toNat + b2n ((s.clayWord 0xD0).getLsbD 31))] ++
    [BitVec.ofNat 8 sess] ++ zeros 1 ++ natLe 8 s.now.toNat ++ natLe 4 s.orderSeq.toNat ++ natLe 2 (s.clayWord 0xD3).toNat ++ zeros 2 ++
    run ++ stby ++ s.clayDigest ++ bytes32 (s.mapCopy (s.on F.ENG_STAT_MAP_B)) ++ zeros 12 ++
    slice (Config.x25519Public draw) 0 32 ++ slice (Config.mlkemPublic draw) 0 1184

/-- REPORT (R581, R584). -/
def State.reportCmd (s : State) (i : BitVec 4) : State :=
  if !s.on F.SEC_STAT_ID_OK then s.secTake 1 i 2 .none
  else
    let draw := s.free
    let s := { s with free := s.free + 1 }
    let (run, s) := s.measOf s.fwm.run
    let (stby, s) := if s.on F.FWM_STAT_STANDBY_VALID then s.measOf s.fwm.stby else (zeros 48, s)
    let body := s.reportBody i.toNat draw run stby
    let rep := body ++ slice (Config.ed25519Sign edSeed body) 0 64 ++ slice (Config.mldsaSign mlSeed body) 0 3309 ++ zeros 3
    let s := { s with mems := { s.mems with rptwin := Mem.wrN s.mems.rptwin 0 rep } }
    (s.setSess i.toNat ⟨.reported, draw, Config.sha384 body, [], none, s.now⟩).secTake 1 i 0 .none

/-- OPEN (R585). -/
def State.openCmd (s : State) (i : BitVec 4) : State :=
  let x := s.sess i.toNat
  let ssx := Config.x25519Shared x.draw (Mem.rdN s.mems.cmdwin 0 32)
  if x.st ≠ .reported then s.secTake 2 i 3 .none
  else if ssx.all (· == 0) then s.secTake 2 i 4 .none
  else
    let ssk := Config.mlkemShared x.draw (Mem.rdN s.mems.cmdwin 32 1088)
    let sk := Config.hkdf (ssx ++ ssk) x.salt (ascii "STL-SESSION") 32
    (s.setSess i.toNat { x with st := .opened, draw := 0, sk := sk }).secTake 2 i 0 (.sess i.toNat x)

/-- CLOSE (R584). -/
def State.closeCmd (s : State) (i : BitVec 4) : State :=
  if (s.sess i.toNat).st ≠ .opened then s.secTake 3 i 3 .none else (s.closeSess i.toNat 0).secTake 3 i 0 .none

/-- The two halves of a memory key are equal (R592). -/
def halvesEqual (k : Bytes) : Bool := decide (k.take 32 = (k.drop 32).take 32)

/-- LOAD of an opened blob. -/
def State.loadPlain (s : State) (i : BitVec 4) (w : Nat) (key : Bytes) : State :=
  let slot : BitVec 10 := fieldAt 10 w 50
  let gen := bitAt w 49
  let ix := keyIx slot gen
  let p := bitsAt w 45 4
  if bitsAt w 60 4 = 2 then
    (s.loadSeed p key).secTake 4 i 0 (.seed p (sget noSeed s.sec.seeds p) (sget noSeed s.sec.newSeeds p))
  else if s.genInUse slot gen then s.secTake 4 i 6 .none
  else if halvesEqual key then s.secTake 4 i 7 .none
  else (s.setKey ix (some (BitVec.ofNat 512 (leNat key)))).secTake 4 i 0 (.key ix (sget noKey s.sec.keys ix))

/-- LOAD (R586, R587). -/
def State.loadCmd (s : State) (i : BitVec 4) : State :=
  let x := s.sess i.toNat
  let head := Mem.rdN s.mems.cmdwin 0 16
  let w := leNat (head.take 8)
  let counter := leNat (head.drop 8)
  let kind := bitsAt w 60 4
  let n := if kind = 2 then 32 else 64
  let iv := zeros 3 ++ [BitVec.ofNat 8 i.toNat] ++ natBe 8 counter
  let fresh := match x.counter with | some c => decide (c.toNat < counter) | none => true
  if (kind ≠ 1 ∧ kind ≠ 2) ∨ bitsAt w 0 45 ≠ 0 ∨ (kind = 2 ∧ 13 < bitsAt w 45 4) then s.secTake 4 i 1 .none
  else if x.st ≠ .opened then s.secTake 4 i 3 .none
  else match Config.gcmOpen x.sk iv head (Mem.rdN s.mems.cmdwin 16 n) (Mem.rdN s.mems.cmdwin (16 + n) 16) with
    | none => s.secTake 4 i 5 .none
    | some key =>
      if !fresh then s.secTake 4 i 5 .none
      else
        let s' := s.loadPlain i w (slice key 0 n)
        if s'.sec.cmd.any (fun c => c.err == 0) then s'.setSess i.toNat { x with counter := some (BitVec.ofNat 64 counter) } else s'

/-- ERASE (R591). -/
def State.eraseCmd (s : State) (kind : BitVec 2) (slot : BitVec 10) (gen : Bool) (p : Nat) : State :=
  if 1 < kind.toNat ∨ (kind = 1 ∧ 13 < p) then s.secTake 5 0 1 .none
  else if kind = 1 then (s.eraseSeed p).secTake 5 0 0 .none
  else if s.genInUse slot gen then s.secTake 5 0 6 .none
  else (s.setKey (keyIx slot gen) none).secTake 5 0 0 .none

/-- LINK_REKEY (R599). -/
def State.rekeyCmd (s : State) (p : Nat) : State :=
  if 13 < p then s.secTake 6 0 1 .none
  else (if s.on (F.LAN_P_STAT_ENC_ON p) then (s.closeFrame p).advTx p else s).secTake 6 0 0 .none

/-- The command finishes: BUSY falls with its ERR. -/
def State.secDone (s : State) : State :=
  match s.sec.cmd with
  | none => s
  | some c =>
    let s := { (s.fwDone 0) with sec := { s.sec with cmd := none } }
    (s.setF F.SEC_RES_BUSY 0).setF F.SEC_RES_ERR c.err

/-- A LOAD or OPEN in progress is overtaken by an alarm (R609): it changes nothing and shows ERR 0x8. -/
def State.overtake (s : State) : State :=
  match s.sec.cmd with
  | none => s
  | some c =>
    if c.op ≠ 4 ∧ c.op ≠ 2 then s
    else
      let s := match c.undo with
        | .none => s
        | .key ix old => s.setKey ix old
        | .sess i old => s.setSess i old
        | .seed p old new => State.showSeed { s with sec := { s.sec with
            seeds := sset noSeed s.sec.seeds p old, newSeeds := sset noSeed s.sec.newSeeds p new } } p
      { s with sec := { s.sec with cmd := some ⟨c.op, 8, .none⟩ } }

/-- A REPORTED session waits 10 s without OPEN (R584). -/
def State.sessExpiry (s : State) (i : Nat) : State :=
  let x := s.sess i
  if x.st = .reported ∧ 2500000000 ≤ s.now.toNat - x.at_.toNat then s.closeSess i 1 else s

/-! ### Alarms (R606-R611) -/

/-- The level that the policy assigns to a sensor: 0 VOLT, 1 CLOCK, 2 TEMP, 3 MESH, 4 AUTH; VOLT is at most 1 during a hold-up. -/
def State.alarmLevel (s : State) (k : Nat) : Nat :=
  let l := bitsAt (s.clayWord 0xD0).toNat (2 * k) 2
  if k = 0 ∧ s.pwr.holdUp then min 1 l else l

/-- A port with encryption in force fails its link (R607, R511). -/
def State.failEnc (s : State) (p : Nat) : State :=
  if s.on (F.LAN_P_STAT_ENC_ON p) ∧ (s.trained p ∨ s.pState p = pQuiet ∨ s.pState p = pDeep) then
    ((s.dropLink p).reportDown p).startTraining p false
  else s

/-- Sessions and link seeds are erased, and links with encryption fail (R607 level 2). -/
def State.level2 (s : State) : State :=
  let s := upto (fun i s => if (s.sess i).st = .free then s else s.closeSess i 2) 16 s
  let s := upto (fun p s => s.eraseSeed p) 14 s
  upto (fun p s => s.failEnc p) 14 s

/-- Every memory-key generation is erased (R607 level 3). -/
def State.eraseKeys (s : State) : State :=
  { s with sec := { s.sec with keys := [], alarmErased := nub (s.sec.alarmErased ++ s.sec.keys.map (·.1)), level3 := true } }

/-- A sensor trips (R606, R607). -/
def State.trip (s : State) (k port : Nat) : State :=
  let level := s.alarmLevel k
  let old := s.f F.SEC_ALARM_STAT_TRIPPED
  let bit := BitVec.ofNat 5 (2 ^ k)
  let s := if old &&& bit = 0 then s.smbAlert else s
  let s := s.setF F.SEC_ALARM_STAT_TRIPPED (old ||| bit)
  let s := if (s.f F.SEC_ALARM_STAT_MAXLVL).toNat < level then s.setF F.SEC_ALARM_STAT_MAXLVL (BitVec.ofNat 2 level) else s
  let s := s.post (evAlarm level (old ||| bit) port)
  if level < 2 then s
  else
    let s := (State.overtake { s with pwr := { s.pwr with alarmN := false } }).hoAbort 0xA
    if level = 2 then s.level2 else s.eraseKeys

/-- The node holds itself in reset (R654): outputs are high-impedance and the open drains release. -/
def State.holdReset (s : State) (h : Hold) : State :=
  { s with pwr := { s.pwr with hold := h, driven := false, alarmN := true, smbAlertN := true } }

/-- A level-3 alarm goes on (R607): level 2, then slices and the system region are zeroed, LATCH is set, and the node holds itself in
reset. -/
def State.escalate (s : State) : State :=
  if !s.sec.level3 then s
  else
    let s := s.level2
    let s := { s with mems := { s.mems with
      sram := [], rt := [], pres := [], ext := [], dir := [], tt := [], grp := [], ehdr := [], eent := [], llog := [], sed := [] } }
    let s := (s.nodeClay 0xD1 0x80000000).setF F.SEC_ALARM_STAT_LATCH 1
    s.holdReset .alarm

/-- A write to SEC_ALARM_STAT (R610, R659). -/
def State.alarmClear (s : State) (v : R32) : State :=
  let s := if v.getLsbD 31 ∧ s.on F.SEC_ALARM_STAT_LATCH then (s.nodeClay 0xD1 0).setF F.SEC_ALARM_STAT_LATCH 0 else s
  let t := s.f F.SEC_ALARM_STAT_TRIPPED &&& ~~~ fget F.SEC_ALARM_STAT_TRIPPED v
  let s := s.setF F.SEC_ALARM_STAT_TRIPPED t
  if t = 0 then State.setF { s with pwr := { s.pwr with alarmN := true } } F.SEC_ALARM_STAT_MAXLVL 0 else s

/-! ### Frames (R535-R538, R595-R600) -/

/-- Put the plaintext back into the flits of a frame. -/
def putPlain : List Bytes → Bytes → List Bytes
  | [], _ => []
  | f :: fs, pt => (slice f 0 (cipherFrom f) ++ slice pt 0 (256 - cipherFrom f)) :: putPlain fs (pt.drop (256 - cipherFrom f))

/-- Open a frame under index n of the receive direction (R537). -/
def State.openFrame (s : State) (p : Nat) (n : R32) (f : R64) (mac : Bytes) : Option Bytes :=
  match sget noSeed s.sec.seeds p with
  | none => none
  | some seed =>
    let k := linkKey seed (s.peerId p) (s.endId p) n
    let fr := (s.lp p).frame
    Config.gcmOpen (k.take 32) (k.drop 32 ++ natBe 8 f.toNat) (fr.flatMap clearOf) (fr.flatMap cipherOf) mac

/-- AUTH_FAIL (R540). -/
def evAuthFail (p : Nat) (f : R64) : Ev := ev 0xA3 stOk (2 ^ 16 * p) f.toNat

/-- A frame's tag fails (R538, R600). -/
def State.tagFail (s : State) (p : Nat) (f : R64) (first : Bool) (n : R32) : State :=
  let s := (s.setLp p { s.lp p with frame := [] }).post (evAuthFail p f)
  let s := if first then s.loseSeed p true n else s
  (s.linkFail p).trip 4 p

/-- A frame verifies: its flits are delivered (R538). -/
def State.tagGood (s : State) (p : Nat) (pt : Bytes) : State :=
  let fr := putPlain (s.lp p).frame pt
  fr.foldl (fun s f => s.deliverFlit p f) (s.setLp p { s.lp p with frame := [], firstFrame := false })

/-- TAG closes a frame (R538): under the index whose parity it shows, else under the next (a rekey), else under the one before. -/
def State.tagArrive (s : State) (p : Nat) (f : R64) (kgen : Bool) (mac : BitVec 128) : State :=
  let l := s.lp p
  let m := natLe 16 mac.toNat
  let n := l.rxIndex
  if !s.trained p ∨ !s.on (F.LAN_P_STAT_ENC_ON p) ∨ l.nak.isSome then s
  else if n.getLsbD 0 == kgen then
    match s.openFrame p n f m with
    | some pt => s.tagGood p pt
    | none => s.tagFail p f l.firstFrame n
  else match s.openFrame p (n + 1) f m with
    | some pt => (s.advRx p).tagGood p pt
    | none => match s.openFrame p (n - 1) f m with
      | some pt => s.tagGood p pt
      | none => s.tagFail p f true (n + 1)

/-! ### Commands -/

/-- REPORT (R581). -/
def execReport (sess : BitVec 4) (s : State) : Host.Outcome State Fault Refusal := whenWr s (fun s => s.secIf (fun s => s.reportCmd sess))

/-- OPEN (R585). -/
def execSecOpen (sess : BitVec 4) (s : State) : Host.Outcome State Fault Refusal := whenWr s (fun s => s.secIf (fun s => s.openCmd sess))

/-- CLOSE (R584). -/
def execClose (sess : BitVec 4) (s : State) : Host.Outcome State Fault Refusal := whenWr s (fun s => s.secIf (fun s => s.closeCmd sess))

/-- LOAD (R587). -/
def execSecLoad (sess : BitVec 4) (s : State) : Host.Outcome State Fault Refusal := whenWr s (fun s => s.secIf (fun s => s.loadCmd sess))

/-- ERASE (R591). -/
def execErase (kind : BitVec 2) (slot : BitVec 10) (gen : Bool) (port : BitVec 4) (s : State) : Host.Outcome State Fault Refusal :=
  whenWr s (fun s => s.secIf (fun s => s.eraseCmd kind slot gen port.toNat))

/-- LINK_REKEY (R599). -/
def execLinkRekey (port : BitVec 4) (s : State) : Host.Outcome State Fault Refusal :=
  whenWr s (fun s => s.secIf (fun s => s.rekeyCmd port.toNat))

/-- SEC_CMD_DONE (R613). -/
def execSecCmdDone (s : State) : Host.Outcome State Fault Refusal := whenUp s (fun s => if s.fwServes 0 then s.secDone else s)

/-- SESSION_EXPIRY (R584). -/
def execSessionExpiry (sess : BitVec 4) (s : State) : Host.Outcome State Fault Refusal := whenUp s (fun s => s.sessExpiry sess.toNat)

/-- SENSOR_TRIP (R606). AUTH trips in the step whose tag fails; here it names no port. -/
def execSensorTrip (kind : BitVec 3) (s : State) : Host.Outcome State Fault Refusal :=
  whenUp s (fun s => if kind.toNat < 5 then s.trip kind.toNat 0 else s)

/-- ALARM_ESCALATE (R607). -/
def execAlarmEscalate (s : State) : Host.Outcome State Fault Refusal := whenUp s State.escalate

/-- ALARM_LATCH_CLEAR (R610). -/
def execAlarmLatchClear (v : R32) (s : State) : Host.Outcome State Fault Refusal := whenWr s (fun s => s.alarmClear v)

/-- TAG (R538). -/
def execTag (port : Fin 14) (f : R64) (kgen : Bool) (_n : BitVec 16) (mac : BitVec 128) (s : State) :
    Host.Outcome State Fault Refusal := whenUp s (fun s => s.tagArrive port.val f kgen mac)

end Sys2Proof.Machine
end

