-- ==== Sys2Proof/Machine/TimeHb.lean ====
section
/-!
DEFINITION. Time messages and heartbeats (R283-R289, R333, R464-R468, R534): sending one, and what one that arrives does.
-/

namespace Sys2Proof.Machine

/-! ### Sending -/

/-- The root's sequence: it advances every 1 µs of its time (R283). -/
def State.rootSeqNow (s : State) : BitVec 16 :=
  if s.sync = syRoot then BitVec.ofNat 16 (s.now.toNat / 250) else s.f F.DTT_SYNC_STAT_ROOT_SEQ

/-- Torus ports declared down (R464). -/
def State.downMask (s : State) : BitVec 6 :=
  BitVec.ofNat 6 (((List.range 6).map (fun p => if s.on (F.FLT_PORT_HB_DOWN p) then 2 ^ p else 0)).foldl (· + ·) 0)

/-- The message that a port sends now (R534). -/
def State.hbMessage (s : State) (p : Nat) : TimeHb :=
  let t := s.pt p
  { txTick := s.now, echoTick := t.rxStamp.tick, txPhase := s.clk.phase, echoPhase := t.rxStamp.phase, seq := t.txSeq + 1,
    echoSeq := t.rxSeq, state := s.sync, root := s.f F.DTT_SYNC_STAT_ROOT, hops := s.f F.DTT_SYNC_STAT_HOPS,
    child := decide ((s.f F.DTT_SYNC_STAT_PARENT).toNat = p), k := s.f F.DTT_DIL_K, thermK := s.f F.DTT_DIL_K_THERM,
    fixed := s.fixed, rootSeq := s.rootSeqNow, delay := s.f (F.DTT_PORT_LAG_DELAY p), gridTick := s.clk.gridTick,
    gridSlot := s.clk.gridSlot, envTick := s.dtt.plan.e, envSeq := s.dtt.plan.seq, kFrom := s.dtt.plan.kFrom,
    kTo := s.dtt.plan.kTo, ramp := s.dtt.plan.ramp, orderSeq := s.orderSeq, inc := s.f F.FLT_INC_INC, node := s.node,
    going := s.pwr.stage.isSome, probation := s.on F.FLT_STAT_SELF_EXP, down := s.downMask }

/-- The last message left a port 1 µs ago or more, or none has left it (R283, R464). -/
def State.hbDue (s : State) (p : Nat) : Bool :=
  match (s.pt p).sent with
  | [] => true
  | (_, st) :: _ => decide (250 ≤ s.now.toNat - st.tick.toNat)

/-- Send the message on a trained torus link, one every 1 µs (R283, R464). -/
def State.hbSend (s : State) (p : Nat) : State :=
  if !s.trained p ∨ !s.hbDue p then s
  else
    let m := s.hbMessage p
    let s := s.setF F.DTT_SYNC_STAT_ROOT_SEQ s.rootSeqNow
    let t := s.pt p
    (s.setPt p { t with txSeq := m.seq }).ctrl p (.timeHb m)

/-! ### The exchange (R283) and LAG (R311, R539) -/

/-- The link delay in phase units and the peer's offset, where the message echoes one that this node sent. -/
def PortTime.exchange (t : PortTime) (m : TimeHb) (rx : Stamp) : Option (Int × Int) :=
  match t.sent.find? (fun e => e.1 == m.echoSeq) with
  | none => none
  | some (_, st) =>
    let t1 : Int := unitsOf st.tick st.phase
    let t2 : Int := unitsOf m.echoTick m.echoPhase
    let t3 : Int := unitsOf m.txTick m.txPhase
    let t4 : Int := unitsOf rx.tick rx.phase
    let delay := ((t4 - t1) - (t3 - t2)).tdiv 2
    some (delay, (t2 - t1) - delay)

/-- LAG of a link of `d` phase units: 31 ns are 868 of them and 64 ns are 1,792; one more slot on an encrypted port (R539). -/
def lagOf (d : Nat) (enc : Bool) : Nat := min 15 (1 + (d + 868 + 1791) / 1792 + b2n enc)

/-- A delay has been measured on a port's link. -/
def State.setDelay (s : State) (p : Nat) (d : Int) : State :=
  let s := (s.setF (F.DTT_PORT_LAG_DELAY p) (BitVec.ofNat 24 d.toNat)).setF (F.DTT_PORT_LAG_VALID p) 1
  s.setF (F.DTT_PORT_LAG_LAG p) (BitVec.ofNat 4 (lagOf d.toNat (s.on (F.LAN_P_STAT_ENC_ON p))))

/-! ### Stepping the count -/

/-- An instant moved by phase units. -/
def moveStamp (d : Int) (t : Stamp) : Stamp :=
  let u := ((unitsOf t.tick t.phase : Int) + d).toNat
  ⟨BitVec.ofNat 64 (u / 112), BitVec.ofNat 7 (u % 112)⟩

/-- A tick moved by phase units. -/
def moveTick (d : Int) (t : R64) : R64 := (moveStamp d ⟨t, 0⟩).tick

def PortTime.move (d : Int) (t : PortTime) : PortTime :=
  { t with tick := moveTick d t.tick, rxStamp := moveStamp d t.rxStamp, sent := t.sent.map (fun e => (e.1, moveStamp d e.2)) }

def Firing.move (d : Int) (f : Firing) : Firing := { f with units := ((f.units : Int) + d).toNat }

def LPort.move (d : Int) (l : LPort) : LPort :=
  { l with goodAt := moveTick d l.goodAt, since := moveTick d l.since, nakAt := moveTick d l.nakAt, ctrlAt := l.ctrlAt.map (moveTick d) }

/-- Slot numbers and boundaries follow the grid (R299). -/
def State.regrid (s : State) : State :=
  { s with clk := { s.clk with slot := BitVec.ofNat 64 (s.clk.gridSlot.toNat + (s.now.toNat - s.clk.gridTick.toNat) / s.k) } }

/-- The count steps by some phase units, and with it the instants this node keeps to measure by (R289). -/
def State.stepTime (s : State) (d : Int) : State :=
  let n := moveStamp d ⟨s.now, s.clk.phase⟩
  let s := { s with
    clk := { s.clk with now := n.tick, phase := n.phase }
    lan := { s.lan with ports := s.lan.ports.map (fun (e : Nat × LPort) => (e.1, e.2.move d)) }
    dtt := { s.dtt with
      firing := s.dtt.firing.map (Firing.move d)
      ports := s.dtt.ports.map (fun (e : Nat × PortTime) => (e.1, e.2.move d)), listen := moveTick d s.dtt.listen,
      roots := s.dtt.roots.map (fun (e : Nat × BitVec 16 × R64) => (e.1, (e.2.1, moveTick d e.2.2))), parentAt := moveTick d s.dtt.parentAt, offsets := [] } }
  s.regrid

/-! ### Roots and parents (R286, R287, R293) -/

/-- A message names a root other than this node with a new ROOT_SEQ: one that lies ahead of the last, modulo 2^16 (DEDUCED, log entry
103). A peer in ACQUIRE whose HOPS is still 7 follows no root yet. -/
def State.noteRoot (s : State) (m : TimeHb) : State :=
  let old := s.dtt.roots.find? (fun e => e.1 == m.root.toNat)
  let new := match old with | some (_, q, _) => decide (0 < (m.rootSeq - q).toInt) | none => true
  if m.root = s.node ∨ (m.state = syAcquire ∧ m.hops = 7) ∨ !new then s
  else { s with dtt := { s.dtt with
    roots := (m.root.toNat, (m.rootSeq, s.now)) :: s.dtt.roots.filter (fun e => e.1 != m.root.toNat) } }

/-- A root's place in the order of the list; roots off the list come last. -/
def State.rankOr (s : State) (n : Nat) : Nat := (s.rank (BitVec.ofNat 6 n)).getD (64 + n)

/-- The live root that stands first in the list. -/
def State.bestRoot (s : State) : Option Nat :=
  (s.dtt.roots.filter (fun e => decide (s.now.toNat - e.2.2.toNat ≤ 4000))).foldl
    (fun (b : Option Nat) e => match b with
      | none => some e.1
      | some r => if s.rankOr e.1 < s.rankOr r then some e.1 else b) none

/-- A peer may be this node's parent under a root: CONVERGED or ROOT, or in ACQUIRE on a path to the root before convergence (R293). -/
def State.eligible (s : State) (root p : Nat) : Bool :=
  let t := s.pt p
  s.trained p && t.heard && decide (s.now.toNat - t.tick.toNat < 2000) && decide (t.root.toNat = root) &&
    (decide (t.state = syConverged) || decide (t.state = syRoot) ||
      (decide (s.sync = syAcquire) && decide (t.state = syAcquire) && decide (t.hops ≠ 7) && !t.child))

/-- The eligible peer with the smallest HOPS, the lowest port among equals (R287). -/
def State.bestParent (s : State) (root : Nat) : Option Nat :=
  ((List.range 6).filter (s.eligible root)).foldl
    (fun (b : Option Nat) p => match b with
      | none => some p
      | some q => if (s.pt p).hops.toNat < (s.pt q).hops.toNat then some p else b) none

/-- The node follows a parent. -/
def State.setParent (s : State) (p root : Nat) : State :=
  let t := s.pt p
  let was := (s.f F.DTT_SYNC_STAT_PARENT).toNat
  let s := if was = p then s else { s with dtt := { s.dtt with offsets := [], parentAt := t.tick } }
  let s := (s.setF F.DTT_SYNC_STAT_PARENT (BitVec.ofNat 3 p)).setF F.DTT_SYNC_STAT_HOPS (BitVec.ofNat 3 (min 7 (t.hops.toNat + 1)))
  (s.setF F.DTT_SYNC_STAT_ROOT (BitVec.ofNat 6 root)).setF F.DTT_SYNC_STAT_ROOT_SEQ t.rootSeq

/-- Choose a parent among the peers heard; arrivals that waited for one go on (R287, R293). -/
def State.chooseParent (s : State) : State :=
  match s.bestRoot with
  | none => s
  | some root =>
    match s.bestParent root with
    | none => s
    | some p => (s.setParent p root).flushArrivals

/-- A root that hears another live root before it in the list yields to it (R286, R289). -/
def State.yieldRoot (s : State) : State :=
  match s.bestRoot with
  | some r => if s.sync = syRoot ∧ s.rankOr r < s.rankOr s.node.toNat then s.holdover else s
  | none => s

/-! ### Following the parent (R283, R288, R289) -/

/-- A plan that a message carries, its step flags not told (DESIGN CHOICE, log entry 3). -/
def planOf (m : TimeHb) (flags : R64) (done : Nat) (now : R64) : Plan :=
  ⟨m.envSeq, m.kFrom, m.kTo, m.envTick, m.ramp, flags.getLsbD 0, flags.getLsbD 1, done, now⟩

/-- A new plan arrives from the parent (R330-R333). -/
def State.newPlan (s : State) (m : TimeHb) : State :=
  let (w, s) := s.drawWord
  s.takePlan (planOf m w 0 s.now)

/-- On first reaching CONVERGED the node adopts its parent's factor, grid and plan (R288). -/
def State.adopt (s : State) (m : TimeHb) : State :=
  let (w, s) := s.drawWord
  let done := if m.envTick.toNat ≤ s.now.toNat then (m.k.toNat - m.kFrom.toNat) + (m.kFrom.toNat - m.k.toNat) else 0
  let p := planOf m w done s.now
  let s := s.setF F.DTT_DIL_K m.k
  let s := { s with clk := { s.clk with gridTick := m.gridTick, gridSlot := m.gridSlot } }
  let s := (s.takePlan p).setF F.DTT_ENV_STAT_BUSY (bit1 (decide (done < p.delta)))
  State.regrid { s with dtt := { s.dtt with olds := [], adopted := true } }

/-- The servo sets the rate correction: a free value within ±250,000 ppb (R282, DESIGN CHOICE, log entry 3). -/
def State.servo (s : State) : State :=
  let (w, s) := s.drawWord
  s.setF F.DTT_FREQ_PPB (BitVec.ofInt 32 (((w.toNat % 500001 : Nat) : Int) - 250000))

/-- The last 16 offsets all lie within ±8 phase units. -/
def State.settled (s : State) : Bool :=
  decide (s.dtt.offsets.length = 16) && s.dtt.offsets.all (fun o => decide (-8 ≤ o ∧ o ≤ 8))

/-- The node reaches CONVERGED under its parent; the first time, it adopts (R288). -/
def State.converge (s : State) (m : TimeHb) : State :=
  let s := s.syncTo syConverged
  let s := if m.fixed then s.setF F.DTT_SYNC_STAT_FIXED 1 else s
  if s.dtt.adopted then s else s.adopt m

/-- An offset from the parent (R289). -/
def State.takeOffset (s : State) (m : TimeHb) (off : Int) : State :=
  let s := s.setF F.DTT_OFFSET_OFFSET (BitVec.ofInt 32 off)
  if s.sync = syAcquire ∧ !s.fixed ∧ (off ≤ -112 ∨ 112 ≤ off) then s.stepTime off
  else
    let s := State.servo { s with dtt := { s.dtt with offsets := (off :: s.dtt.offsets).take 16 } }
    if (s.sync = syAcquire ∨ s.sync = syHoldover) ∧ s.settled ∧ (m.state = syConverged ∨ m.state = syRoot) then s.converge m
    else if s.inTime ∧ m.envSeq ≠ s.dtt.plan.seq then s.newPlan m
    else s

/-- A time message of the parent: this node follows a root now, and its own root listening starts again (R286). -/
def State.fromParent (s : State) (m : TimeHb) (x : Option (Int × Int)) : State :=
  let s := { s with dtt := { s.dtt with parentAt := s.now, listen := s.now } }
  match x with
  | some (_, off) => s.takeOffset m off
  | none => s

/-- The time part of a message, at a node that takes part (R283-R289). -/
def State.timePart (s : State) (p : Nat) (m : TimeHb) (x : Option (Int × Int)) : State :=
  let s := if m.state = syDisabled then s else s.noteRoot m
  let s := s.yieldRoot
  let isParent := decide ((s.f F.DTT_SYNC_STAT_PARENT).toNat = p)
  let s := if isParent ∧ s.sync = syConverged ∧ m.state ≠ syConverged ∧ m.state ≠ syRoot then s.holdover else s
  let s := if s.sync = syRoot then s else s.chooseParent
  if s.sync ≠ syRoot ∧ (s.f F.DTT_SYNC_STAT_PARENT).toNat = p then s.fromParent m x else s

/-! ### The heartbeat (R464, R465, R468, R477, R481) -/

/-- What the port keeps of a message. -/
def PortTime.record (t : PortTime) (m : TimeHb) (rx : Stamp) (now : R64) : PortTime :=
  { t with heard := true, tick := now, rxSeq := m.seq, rxStamp := rx, state := m.state, root := m.root, rootSeq := m.rootSeq,
           hops := m.hops, child := m.child, fixed := m.fixed, thermK := m.thermK, orderSeq := m.orderSeq }

/-- NODE_GOING (R496). -/
def evGoing (p : Nat) (n : NodeId) : Ev := ev 0x82 stOk (2 ^ 16 * p + 256 * n.toNat) 0

/-- The heartbeat's own fields; one with GOING set declares the port down. -/
def State.hbPart (s : State) (p : Nat) (m : TimeHb) : State :=
  let was := s.on (F.FLT_PORT_HB_GOING p)
  let s := (s.setF (F.FLT_PORT_HB_PEER p) m.node).setF (F.FLT_PORT_HB_PEER_INC p) m.inc
  let s := (s.setF (F.FLT_PORT_HB_MISSED p) 0).setF (F.FLT_PORT_HB_GOING p) (bit1 m.going)
  let s := s.learnInc m.node m.inc
  let s := if m.going ∧ !was then (s.post (evGoing p m.node)).declareDown p 2 else s
  let s := if m.orderSeq.toNat < s.orderSeq.toNat then s.fillGap p m.orderSeq else s
  s.checkGap

/-- A TIME_HB message arrives (R534). -/
def State.hbArrive (s : State) (p : Nat) (m : TimeHb) (rx : Stamp) : State :=
  if !s.trained p then s
  else
    let x := (s.pt p).exchange m rx
    let s := s.setPt p ((s.pt p).record m rx s.now)
    let s := s.hbPart p m
    let s := match x with | some (d, _) => s.setDelay p d | none => s
    let s := if s.on F.DTT_CTL_EN then s.timePart p m x else s
    s.thermal

/-! ### Commands -/

/-- TIME_HB_SEND (R283). -/
def execTimeHbSend (port : Fin 6) (s : State) : Host.Outcome State Fault Refusal := whenUp s (fun s => s.hbSend port.val)

/-- TIME_HB (R534). -/
def execTimeHb (port : Fin 6) (msg : TimeHb) (rx : Stamp) (s : State) : Host.Outcome State Fault Refusal :=
  whenUp s (fun s => s.hbArrive port.val msg rx)

end Sys2Proof.Machine
end

