-- ==== Sys2Proof/Machine/Pins.lean ====
section
/-!
DEFINITION. Power, reset, hold-up and pins (R52, R53, R644, R648-R668), the PCIe resets (R620), SMBus and JTAG (R662, R663).
-/

namespace Sys2Proof.Machine

/-! ### RST_N, supply and clocks (R53, R644, R654-R658, R665, R666) -/

/-- RST_N falls (R658): pulses shorter than 100 ns are ignored; outputs go high-impedance. -/
def State.resetAssert (s : State) (ns : Nat) : State :=
  if ns < 100 ∨ !s.pwr.powered then s
  else { s with pwr := { s.pwr with rstN := false, driven := false, alarmN := true, smbAlertN := true } }

/-- Registers that RST_N takes from straps and clay words (GLB_NODE, FWM_STAT.ROLE, SEC_STAT.ID_OK, SEC_ALARM_STAT.LATCH, FLT_INC,
FLT_ORD_SEQ). -/
def State.loadStraps (s : State) (st : Straps) : State :=
  let s := (s.setF F.GLB_NODE_TRAY_POS st.trayPos).setF F.GLB_NODE_NODE_ID st.trayPos
  let s := (s.setF F.FWM_STAT_ROLE (bit1 (decide (st.bootSel = 1)))).setF F.SEC_STAT_ID_OK (bit1 (st.puf0 || st.puf1))
  let s := s.setF F.SEC_ALARM_STAT_LATCH (bit1 ((s.clayWord 0xD1).getLsbD 31))
  (s.setF F.FLT_INC_INC ((s.clayWord 0xD3).setWidth 16)).setF F.FLT_ORD_SEQ_SEQ (s.clayWord 0xD2)

/-- RST_N rises on a powered node (R657): everything but the clay bank, the free draws, what has left the node and the commands that wait
is as at reset; clay copies are reconciled, straps sampled and the map loaded. A level-3 hold and a thermal trip stand (R610, R660).
PWRFAIL_N low at the edge holds the node in reset (R658). -/
def State.resetDeassert (s : State) (st : Straps) : State :=
  if !s.pwr.powered ∨ s.pwr.rstN then s
  else
    let s := s.clayFlush s.clay.pend
    let held := decide (s.pwr.hold = .alarm) || decide (s.pwr.hold = .thermal)
    let up := s.pwr.refclk && s.pwr.perstN
    let r := { State.reset with
      part := s.part
      clay := { s.clay with bank0 := st.bank0, bank1 := st.bank1 }
      out := s.out
      free := s.free
      pending := s.pending
      pwr := { State.reset.pwr with
        hold := if held then s.pwr.hold else if st.pwrfailN then .none else .holdUpEnd
        perstN := s.pwr.perstN
        pcieUp := up
        refclk := s.pwr.refclk
        thermtripN := s.pwr.thermtripN
        jtag := s.pwr.jtag
        driven := !held && st.pwrfailN
        straps := st } }
    ((State.clayReconcile r).loadStraps st).loadMap

/-- The root PLL locks (R644). -/
def State.pllLocked (s : State) : State := s.setF F.PWR_STAT_PLL_LOCK 1

/-- The root PLL loses lock (R53, R644): the node holds itself in reset. -/
def State.pllLost (s : State) : State := (s.setF F.PWR_STAT_PLL_LOCK 0).holdReset .pll

/-- The rails are removed (R654, R660, R666): nothing is driven, and a hold or a trip ends. -/
def State.supplyRemoved (s : State) : State :=
  let s := s.clayFlush s.clay.pend
  { s with pwr := { s.pwr with
      powered := false, rstN := false, hold := .none, holdUp := false, stage := none, alarmN := true, thermtripN := true,
      smbAlertN := true, pcieUp := false, driven := false } }

/-- The rails rise with RST_N low (R665). -/
def State.powerUp (s : State) : State :=
  if s.pwr.powered then s
  else { s with pwr := { s.pwr with
      powered := true, rstN := false, hold := .none, perstN := false, pcieUp := false, refclk := true, jtag := .idcode, driven := false } }

/-! ### Hold-up (R648-R650) -/

/-- A hold-up starts (R649): 0.5 µs, 125 tk, after the fall. A handover aborts. -/
def State.holdUp (s : State) : State :=
  if s.pwr.holdUp then s
  else State.hoAbort { s with pwr := { s.pwr with holdUp := true, failAt := s.now - 125 } } 0xA

/-- POWER_FAIL (R650). -/
def State.evPowerFail (s : State) : Ev := ev 0xE8 stOk (s.clayWord 0xD5).toNat s.pwr.failAt.toNat

/-- Ticks after the fall of PWRFAIL_N at which a stage falls due (R649). -/
def holdUpTicks : HoldStage → Nat
  | .going => 250
  | .clayEnd => 5000
  | .powerFail => 7500
  | .selfReset => 12500

/-- The next stage of a hold-up falls due (R649, R468); stages come in their order, none before its time. -/
def State.holdUpStage (s : State) (g : HoldStage) : State :=
  if !s.pwr.holdUp ∨ (s.now - s.pwr.failAt).toNat < holdUpTicks g then s
  else
    let s' := { s with pwr := { s.pwr with stage := some g } }
    match s.pwr.stage, g with
    | none, .going => upto (fun p s => s.hbSend p) 6 s'
    | some .going, .clayEnd => (s'.clayFlush s'.clay.pend).nodeClay 0xD5 (s'.clayWord 0xD5 + 1)
    | some .clayEnd, .powerFail => s'.post s'.evPowerFail
    | some .powerFail, .selfReset => s'.holdReset .holdUpEnd
    | _, _ => s

/-! ### PCIe (R52, R620) -/

/-- A host queue stops at a PCIe reset: its ring lies in host memory or agent 8 posts to it. -/
def State.pcieStopQueue (s : State) (q : Nat) : State :=
  if s.on (F.QMG_Q_CFG_LOC q) ∧ s.f (F.QMG_Q_CFG_POSTER q) ≠ 8 then s
  else
    let s := if s.on (F.QMG_Q_CTL_RUN q) ∨ s.e (F.QMG_Q_CTL_RUN q) = 1
      then (s.setF (F.QMG_Q_CTL_RUN q) 0).queueCommit q s.now else s
    if s.on (F.QMG_Q_CFG_LOC q) ∨ (s.q q).descs = [] then s else s.setQ q { s.q q with dead := true }

/-- PERST_N, a hot reset or an FLR (R620). -/
def State.pcieReset (s : State) (k : PcieReset) : State :=
  let s := { s with mems := { s.mems with msix := msixReset, pba := 0 } }
  let s := upto (fun a s => ((s.wr (Reg.GLB_APT_BASE a) 0).wr (Reg.GLB_APT_ATTR a) 0).wr (Reg.GLB_APT_JOB a) 0) 16 s
  let s := upto (fun r s => if s.on (F.QMG_EVT_CFG_EN r) then (s.setF (F.QMG_EVT_CFG_EN r) 0).ringOff r else s) 16 s
  let s := upto (fun q s => s.pcieStopQueue q) 1024 s
  let s := upto (fun c s => if s.on (F.ETH_CH_CFG_EN c) then s.chOff c else s) 256 s
  if k = .perst then { s with pwr := { s.pwr with perstN := true, pcieUp := s.pwr.refclk } } else s

/-- PCIE_REFCLK is lost: the PCIe link stops, nothing else (R52). -/
def State.refclkLost (s : State) : State := { s with pwr := { s.pwr with refclk := false, pcieUp := false } }

/-! ### SMBus and JTAG (R662, R663) -/

/-- The register that an SMBus command code names. -/
def State.smbusReg (s : State) (code : BitVec 8) : Option R32 :=
  match code.toNat with
  | 1 => some s.ident
  | 2 => some (s.rd Reg.GLB_NODE)
  | 3 => some (s.rd Reg.PWR_TMAX)
  | 4 => some (s.rd Reg.PWR_POWER)
  | 5 => some (s.rd Reg.PWR_STAT)
  | 6 => some (s.rd Reg.SEC_ALARM_STAT)
  | 7 => some (s.rd Reg.FWM_STAT)
  | _ => none

/-- One bit of the SMBus packet error code, CRC-8 with the polynomial 0x07 (SMBus 3.2; PRESUMED, log entry 128). -/
def pecBit (c : BitVec 8) : BitVec 8 := if c.getLsbD 7 then (c <<< 1) ^^^ 0x07 else c <<< 1

/-- The packet error code over the bytes of a transfer, from its address byte on. -/
def pec (bs : Bytes) : BitVec 8 :=
  bs.foldl (fun (c : BitVec 8) (b : BitVec 8) => pecBit (pecBit (pecBit (pecBit (pecBit (pecBit (pecBit (pecBit (c ^^^ b)))))))))
    0

/-- A Block Read: the byte count 4, 4 bytes, little-endian, and the packet error code; any other command is not acknowledged. -/
def State.smbusRead (s : State) (code : BitVec 8) : State :=
  match s.smbusReg code with
  | some v =>
    let sent : Bytes := 4 :: natLe 4 v.toNat
    s.emit (.smbus (sent ++ [pec ([0xB4, code, 0xB5] ++ sent)]))
  | none => s

/-- The Alert Response Address is answered while SMB_ALERT_N is low, with the target address 0x5A, and the pin is released. -/
def State.smbusAlert (s : State) : State :=
  if s.pwr.smbAlertN then s
  else State.emit { s with pwr := { s.pwr with smbAlertN := true } } (.smbus [0xB4, pec [0x19, 0xB4]])

/-- An instruction that is always admitted. -/
def State.jtagLoad (s : State) (j : Jtag) : State :=
  if s.pwr.powered then { s with pwr := { s.pwr with jtag := j, driven := s.up } } else s

/-- An instruction admitted only while the node runs with BOOT_SEL 0b10 sampled; elsewhere the TAP bypasses (PRESUMED, log entry 5). -/
def State.jtagTest (s : State) (j : Jtag) : State :=
  if s.up ∧ s.pwr.straps.bootSel = 2 then { s with pwr := { s.pwr with jtag := j, driven := decide (j ≠ .highz) } }
  else s.jtagLoad .bypass

/-- The IDCODE of the part. -/
def State.idcode (s : State) : Nat := s.part.stepping.toNat * 2 ^ 28 + 0x07264B47

/-! ### Commands -/

/-- RESET_ASSERT (R658). -/
def execResetAssert (ns : Nat) (s : State) : Host.Outcome State Fault Refusal := .next (s.resetAssert ns)

/-- RESET_DEASSERT (R657). -/
def execResetDeassert (st : Straps) (s : State) : Host.Outcome State Fault Refusal := .next (s.resetDeassert st)

/-- PLL_LOCK (R644). -/
def execPllLock (s : State) : Host.Outcome State Fault Refusal := whenUp s State.pllLocked

/-- PLL_LOSS_OF_LOCK (R53). -/
def execPllLossOfLock (s : State) : Host.Outcome State Fault Refusal := whenUp s State.pllLost

/-- HOLD_UP (R649). -/
def execHoldUp (s : State) : Host.Outcome State Fault Refusal := whenUp s State.holdUp

/-- HOLD_UP_STAGE (R649). -/
def execHoldUpStage (g : HoldStage) (s : State) : Host.Outcome State Fault Refusal := whenUp s (fun s => s.holdUpStage g)

/-- PCIE_RESET (R620). -/
def execPcieReset (k : PcieReset) (s : State) : Host.Outcome State Fault Refusal := whenUp s (fun s => s.pcieReset k)

/-- SUPPLY_REMOVED (R666). -/
def execSupplyRemoved (s : State) : Host.Outcome State Fault Refusal := .next s.supplyRemoved

/-- POWER_UP (R665). -/
def execPowerUp (s : State) : Host.Outcome State Fault Refusal := .next s.powerUp

/-- PCIE_REFCLK_LOSS (R52). -/
def execPcieRefclkLoss (s : State) : Host.Outcome State Fault Refusal := .next s.refclkLost

/-- SMBUS_BLOCK_READ (R662). -/
def execSmbusBlockRead (code : BitVec 8) (s : State) : Host.Outcome State Fault Refusal := whenUp s (fun s => s.smbusRead code)

/-- SMBUS_ALERT_RESPONSE (R662). -/
def execSmbusAlertResponse (s : State) : Host.Outcome State Fault Refusal := whenUp s State.smbusAlert

/-- BYPASS (R663). -/
def execBypass (s : State) : Host.Outcome State Fault Refusal := .next (s.jtagLoad .bypass)

/-- IDCODE (R663). -/
def execIdcode (s : State) : Host.Outcome State Fault Refusal :=
  .next (if s.pwr.powered then (s.jtagLoad .idcode).emit (.jtag s.idcode) else s)

/-- SAMPLE_PRELOAD (R663). -/
def execSamplePreload (s : State) : Host.Outcome State Fault Refusal := .next (s.jtagLoad .samplePreload)

/-- EXTEST (R663). -/
def execExtest (s : State) : Host.Outcome State Fault Refusal := .next (s.jtagTest .extest)

/-- EXTEST_PULSE (R663). -/
def execExtestPulse (s : State) : Host.Outcome State Fault Refusal := .next (s.jtagTest .extestPulse)

/-- EXTEST_TRAIN (R663). -/
def execExtestTrain (s : State) : Host.Outcome State Fault Refusal := .next (s.jtagTest .extestTrain)

/-- CLAMP (R663). -/
def execClamp (s : State) : Host.Outcome State Fault Refusal := .next (s.jtagTest .clamp)

/-- HIGHZ (R663). -/
def execHighz (s : State) : Host.Outcome State Fault Refusal := .next (s.jtagTest .highz)

end Sys2Proof.Machine
end

