-- ==== Sys2Proof/Machine/Bar.lean ====
section
/-!
DEFINITION. BAR0, its registers and windows (R22, R616, R617, R679), and the BAR2 apertures (R618, R619).
-/

namespace Sys2Proof.Machine

/-! ### Reads -/

/-- The index of a register of an array: its first offset, its stride, how many. -/
def ixOf (off base stride n : Nat) : Option Nat :=
  if base ≤ off ∧ (off - base) % stride = 0 ∧ (off - base) / stride < n then some ((off - base) / stride) else none

/-- A 32-bit word of a memory. -/
def memWord (m : Mem) (a : Nat) : R32 := BitVec.ofNat 32 (leNat (Mem.rdN m a 4))

/-- What a window shows at an offset; none where there is no window. -/
def State.winRd (s : State) (off : Nat) : Option R32 :=
  if 0x8000 ≤ off ∧ off < 0x8100 then some (memWord s.mems.msix (off - 0x8000))
  else if off = 0x9000 then some (s.mems.pba.setWidth 32)
  else if 0x41000 ≤ off ∧ off < 0x42000 then some (memWord s.mems.mbwin (off - 0x41000))
  else if 0x60000 ≤ off ∧ off < 0x80000 then some (memWord s.mems.img ((s.f F.FWM_IMG_PAGE_PAGE).toNat * 131072 + (off - 0x60000)))
  else if 0x140000 ≤ off ∧ off < 0x180000 then some (memWord s.mems.rt (s.rtAddr (off - 0x140000)))
  else if 0x188000 ≤ off ∧ off < 0x190000 then some (memWord s.mems.llog (off - 0x188000))
  else if 0x1C0000 ≤ off ∧ off < 0x200000 then some (memWord s.mems.ext (s.extWinAddr (off - 0x1C0000)))
  else if 0x220000 ≤ off ∧ off < 0x240000 then
    some (memWord s.mems.tt (ttBase (s.f F.DTT_TTWIN_PAGE_SET).toNat (s.f F.DTT_TTWIN_PAGE_PAGE).toNat + (off - 0x220000)))
  else if 0x310000 ≤ off ∧ off < 0x318000 then some (memWord s.mems.ehdr (off - 0x310000))
  else if 0x320000 ≤ off ∧ off < 0x340000 then some (memWord s.mems.eent ((s.f F.GRP_EWIN_PAGE_PAGE).toNat * 131072 + (off - 0x320000)))
  else if 0x340000 ≤ off ∧ off < 0x380000 then some (memWord s.mems.grp ((s.f F.GRP_GWIN_PAGE_PAGE).toNat * 262144 + (off - 0x340000)))
  else if 0x510000 ≤ off ∧ off < 0x510800 then some (BitVec.ofNat 32 (leNat (slice s.idWin (off - 0x510000) 4)))
  else if 0x520000 ≤ off ∧ off < 0x522000 then some (memWord s.mems.rptwin (off - 0x520000))
  else if 0x530000 ≤ off ∧ off < 0x530800 then some (memWord s.mems.cmdwin (off - 0x530000))
  else if 0x5C0000 ≤ off ∧ off < 0x5C8000 then some (memWord s.mems.ordwin (off - 0x5C0000))
  else none

/-- Directory entries free in each complex, in units of 256 (HOM_DIR_FREE): a granted window uses LEN * 32 of them (R248). -/
def State.dirFree (s : State) : Nat := (3145728 - s.cohBytes / 4096 * 32) / 256

/-- FLT_JSTOP. -/
def State.jstop (s : State) (i : Nat) : R32 :=
  match s.flt.stops.find? (fun e => e.i == i) with
  | some e => BitVec.ofNat 32 (2 ^ 31 + 2 ^ 30 * b2n e.here + 2 ^ 29 * b2n e.resumed + putAt 16 e.origin + e.job.toNat)
  | none => 0

/-- The exposed tiles as a mask (GLB_TMASK). -/
def State.tmask (s : State) : Nat := ((List.range 48).map (fun n => if s.exposed n then 2 ^ n else 0)).foldl (· + ·) 0

/-- A field of a stored word replaced by what its structure holds. -/
def State.shown {w : Nat} (s : State) (f : Fld w) (n : Nat) : R32 := fput f (s.rd f.off) (BitVec.ofNat w n)

/-- Registers that show a structure of GLB, CLY, PWR, FWM, SEC. -/
def State.viewSys (s : State) (off : Nat) : Option R32 :=
  if off = Reg.GLB_IDENT then some s.ident
  else if off = Reg.GLB_TILES then some (s.shown F.GLB_TILES_EXPOSED (if s.part.gradeB then 40 else 48))
  else if off = Reg.GLB_TMASK_LO then some (BitVec.ofNat 32 s.tmask)
  else if off = Reg.GLB_TMASK_HI then some (BitVec.ofNat 32 (s.tmask / 2 ^ 32))
  else if off = Reg.PWR_FAILS then some (s.clayWord 0xD5)
  else if off = Reg.FWM_SVN then some (s.shown F.FWM_SVN_FLOOR (s.clayWord 0xD4).toNat)
  else if off = Reg.FWM_TC_RES then some (s.shown F.FWM_TC_RES_PENDING s.fwm.tcs.length)
  else if off = Reg.SEC_ALARM_POL then some (s.clayWord 0xD0)
  else match ixOf off (Reg.CLY_WORD 0) 4 1024 with
    | some i => some (s.clayWord i)
    | none => (ixOf off (Reg.CLY_WEAR 0) 4 1024).map (fun i => (s.wear i).setWidth 32)

/-- Registers that show a structure of QMG, XLT, SYN. -/
def State.viewQmg (s : State) (off : Nat) : Option R32 :=
  if off = Reg.QMG_STAT then some (s.shown F.QMG_STAT_PARKED (min 1023 s.parkedCount))
  else if off = Reg.SYN_STAT then
    some (BitVec.ofNat 32 (2 ^ 16 * s.home.watches.length +
      ((List.range 256).filter (fun e => s.on (F.SYN_ARM_CTL_ARMED e))).length))
  else match ixOf off (Reg.QMG_Q_STAT 0) 0x20 1024 with
    | some q => some (s.shown (F.QMG_Q_STAT_INFLIGHT q) ((s.q q).descs.filter (fun d => decide (d.st ≠ .done))).length)
    | none => match ixOf off (Reg.XLT_CTX_STAT 0) 0x10 1024 with
      | some n => some (s.shown (F.XLT_CTX_STAT_PARKED n)
          (((s.queuesOf n).map (fun q => ((s.q q).descs.filter (fun d => decide (d.st = .parked))).length)).foldl (· + ·) 0))
      | none => (ixOf off (Reg.SYN_VAL_LO 0) 0x10 16384).map (fun i => (s.obj i).setWidth 32)

/-- Registers that show a structure of HOM, DTT, GRP, FLT, SWC. -/
def State.viewRest (s : State) (off : Nat) : Option R32 :=
  if off = Reg.HOM_STAT then
    some (fput F.HOM_STAT_BGOPS (s.shown F.HOM_STAT_PENDING s.home.timed.length) (BitVec.ofNat 5 s.bgCount))
  else if off = Reg.HOM_DIR_FREE then some (BitVec.ofNat 32 (2 ^ 16 * s.dirFree + s.dirFree))
  else if off = Reg.HOM_ACC_FREE then some (BitVec.ofNat 32 (16777216 - s.accElems))
  else if off = Reg.HOM_SCRUB_POS then some (BitVec.ofNat 32 (s.home.scrubLine / 256))
  else if off = Reg.DTT_NOW_LO then some (s.now.setWidth 32)
  else if off = Reg.DTT_SLOT_LO then some (s.clk.slot.setWidth 32)
  else if off = Reg.GRP_STAT then some (s.shown F.GRP_STAT_INSTANCES s.grp.runs.length)
  else if off = Reg.FLT_STAT then some (s.shown F.FLT_STAT_HELD s.flt.held.length)
  else if off = Reg.FLT_JOB_RES then some (BitVec.ofNat 32 (s.flt.stops.filter (fun e => !e.resumed)).length)
  else if off = Reg.FLT_SED_STAT then some (s.shown F.FLT_SED_STAT_HELD (s.flt.sedWr - s.flt.sedRd))
  else if off = Reg.SWC_STAT then some (s.shown F.SWC_STAT_HOLD_FLITS (sumFlits (s.swc.hold.map (·.2))))
  else match ixOf off (Reg.FLT_JSTOP 0) 4 256, ixOf off (Reg.ENG_T_STAT 0) 0x1000 48 with
    | some i, _ => some (s.jstop i)
    | none, some n => some (s.shown (F.ENG_T_STAT_STATE n) (s.tileState n).toNat)
    | none, none => (ixOf off (Reg.SWC_P_DEPTH 0) 0x10 14).map (fun p => BitVec.ofNat 32 (s.depthAll p))

/-- The low halves whose 32-bit read latches the upper half, and that upper half (R616). -/
def State.pairHi (s : State) (off : Nat) : Option R32 :=
  if off = Reg.DTT_NOW_LO then some ((s.now >>> 32).setWidth 32)
  else if off = Reg.DTT_SLOT_LO then some ((s.clk.slot >>> 32).setWidth 32)
  else (ixOf off (Reg.SYN_VAL_LO 0) 0x10 16384).map (fun i => ((s.obj i) >>> 32).setWidth 32)

/-- The upper halves of those pairs. -/
def isPairHi (off : Nat) : Bool :=
  decide (off = Reg.DTT_NOW_HI) || decide (off = Reg.DTT_SLOT_HI) || (ixOf off (Reg.SYN_VAL_HI 0) 0x10 16384).isSome

/-- The value that a 32-bit read returns (R22, R679). -/
def State.view (s : State) (off : Nat) : R32 :=
  if isPairHi off then sget (fun _ => 0) s.lat off
  else ((((s.viewSys off).or (s.viewQmg off)).or (s.viewRest off)).or (s.winRd off)).getD (s.rd off)

/-- A 32-bit read: the low half of a pair latches the upper half (R616). -/
def State.read32 (s : State) (off : Nat) : R32 × State :=
  match s.pairHi off with
  | some h => (s.view off, { s with lat := sset (fun _ => 0) s.lat (off + 4) h })
  | none => (s.view off, s)

/-- A read of 4 or 8 bytes (R616): 8 bytes are two accesses, lower address first, but for the pairs that return both halves at once. -/
def State.barRead (s : State) (off : Nat) (wide : Bool) : R64 × State :=
  if wide then
    match s.pairHi off with
    | some h => (h ++ s.view off, s)
    | none =>
      let (lo, s) := s.read32 off
      let (hi, s) := s.read32 (off + 4)
      (hi ++ lo, s)
  else
    let (v, s) := s.read32 off
    (v.setWidth 64, s)

/-! ### Writes -/

/-- A register's word after a plain write (R20, R22). -/
def State.merged (s : State) (off : Nat) (v : R32) : R32 :=
  match regRow off with
  | some r => r.merge (s.rd off) v
  | none => 0

/-- A plain write: nothing where no row covers the offset (R679). -/
def State.plainWr (s : State) (off : Nat) (v : R32) : State := if (regRow off).isSome then s.wr off (s.merged off v) else s

/-- A write that takes effect at once, or waits while a condition holds. -/
def State.waitWr (s : State) (c : Bool) (off : Nat) (v : R32) : State :=
  if c then s.keepWr off (s.merged off v) else s.wr off (s.merged off v)

/-- A write to the MSI-X table (R148, R617): a vector that is unmasked with its pending bit set is raised. -/
def State.msixWr (s : State) (a : Nat) (v : R32) : State :=
  let r := a / 16
  if a % 16 ≠ 12 then { s with mems := { s.mems with msix := Mem.wrN s.mems.msix a (natLe 4 v.toNat) } }
  else
    let s := { s with mems := { s.mems with msix := Mem.wrN s.mems.msix a (natLe 4 (v &&& 1).toNat) } }
    if !bitAt v.toNat 0 ∧ bitAt s.mems.pba.toNat r then
      State.vectorDue { s with mems := { s.mems with pba := s.mems.pba &&& ~~~ BitVec.ofNat 64 (2 ^ r) } } r
    else s

/-- GLB, CLY, PWR. -/
def State.wrSys (s : State) (off : Nat) (v : R32) : State :=
  if off = Reg.GLB_NODE then s.glbNode v
  else if 0x8000 ≤ off ∧ off < 0x8100 then s.msixWr (off - 0x8000) v
  else if off = Reg.CLY_CTL then s.wr off (s.rd off ||| (v &&& 0x80000000))
  else match ixOf off (Reg.CLY_WORD 0) 4 1024 with
    | some i => s.clayWrite i v
    | none => s.plainWr off v

/-- FWM. -/
def State.wrFwm (s : State) (off : Nat) (v : R32) : State :=
  if off = Reg.FWM_CMD then
    let op := fget F.FWM_CMD_OP v
    if op = 1 then s.bootCmd
    else if op = 2 then s.updateCmd
    else if op = 3 then s.switchCmd (fget F.FWM_CMD_TIMED v == 1)
    else if op = 4 then s.abortCmd
    else if op = 5 then s.svnCommit
    else s.fwErr 8
  else if off = Reg.FWM_TC_CMD then
    let op := fget F.FWM_TC_CMD_OP v
    if op = 1 then s.tcArm else if op = 2 then s.tcCancel else s.setF F.FWM_TC_RES_ERR 1
  else if off = Reg.FWM_MB_CMD then
    let op := (fget F.FWM_MB_CMD_OP v).toNat
    let arg := (fget F.FWM_MB_CMD_ARG v).toNat
    if (op = 1 ∨ op = 2) ∧ arg = 0 then s.mbRead (decide (op = 2))
    else if op = 3 ∧ arg < 32 then s.poolTestCmd (BitVec.ofNat 5 arg)
    else s.mbReserved op
  else s.plainWr off v

/-- QMG. -/
def State.wrQmg (s : State) (off : Nat) (v : R32) : State :=
  if off = Reg.QMG_STAT then (s.plainWr off v).when (decide (1023 ≤ s.parkedCount)) (fun s => s.setF F.QMG_STAT_FQ_FULL 1)
  else if off = Reg.QMG_COMMIT then s.queueCommit (fget F.QMG_COMMIT_QUEUE v).toNat s.now
  else if 0x80100 ≤ off ∧ off < 0x80300 then
    let r := (off - 0x80100) / 32
    let k := (off - 0x80100) % 32
    if k = 0 ∨ k = 4 then s.evtBaseWrite r off (s.merged off v)
    else if k = 8 then s.evtCfgWrite r (s.merged off v)
    else if k = 12 then s.evtHeadWrite r (s.merged off v)
    else s.plainWr off v
  else if 0x81000 ≤ off ∧ off < 0x89000 then
    let q := (off - 0x81000) / 32
    if (Reg.QMG_Q_PTR q :: qLaterRegs q).contains off then s.qRegWrite q off (s.merged off v) else s.plainWr off v
  else match ixOf off (Reg.QMG_DB 0) 0x40 1024 with
    | some q => s.doorbell q (fget (F.QMG_DB_TAIL q) v)
    | none => s.plainWr off v

/-- XLT. -/
def State.wrXlt (s : State) (off : Nat) (v : R32) : State :=
  if off = Reg.XLT_PRES_CMD then
    let op := fget F.XLT_PRES_CMD_OP v
    let slot := (fget F.XLT_PRES_CMD_SLOT v).toNat
    let n := (fget F.XLT_PRES_CMD_COUNT_M1 v).toNat + 1
    if op = 0 then s.presQuery slot
    else if op = 1 then s.presSet (fget F.XLT_PRES_CMD_WAKE v == 1) slot n
    else if op = 2 then s.presClear slot n
    else if s.on F.XLT_PRES_STAT_BUSY then s else s.setF F.XLT_PRES_STAT_ERR 3
  else if off = Reg.XLT_COMMIT then s.xltCommit (fget F.XLT_COMMIT_SLOT v)
  else match ixOf off (Reg.XLT_CTX_DRAIN 0) 0x10 1024 with
    | some n => if fget (F.XLT_CTX_DRAIN_REQ n) v = 1 then s.drainReq (BitVec.ofNat 10 n) else s
    | none => s.plainWr off v

/-- SYN. -/
def State.wrSyn (s : State) (off : Nat) (v : R32) : State :=
  match ixOf off (Reg.SYN_ADD 0) 0x10 16384 with
  | some i => s.signal i (v.setWidth 64)
  | none => match ixOf off (Reg.SYN_CTL 0) 0x10 16384 with
    | some i => (s.plainWr off v).when (fget (F.SYN_CTL_RESET i) v == 1) (fun s => s.objTakes i 0)
    | none => match ixOf off (Reg.SYN_ARM_CTL 0) 0x10 256 with
      | some e => s.armWrite e v
      | none =>
        if 0x640400 ≤ off ∧ off < 0x641000 then s else s.plainWr off v

/-- HOM. -/
def State.wrHom (s : State) (off : Nat) (v : R32) : State :=
  if off = Reg.HOM_CTL then s.homCtl (s.merged off v)
  else if off = Reg.HOM_EXT_CMD then s.extCmd v
  else s.plainWr off v

/-- DTT. -/
def State.wrDtt (s : State) (off : Nat) (v : R32) : State :=
  if off = Reg.DTT_CTL then s.dttCtl (s.merged off v)
  else if off = Reg.DTT_ROOTS then s.dttRoots (s.merged off v)
  else if off = Reg.DTT_BAR_CTL then
    if fget F.DTT_BAR_CTL_ARM v = 1 then s.barArm v
    else if fget F.DTT_BAR_CTL_DISARM v = 1 then s.barDisarm
    else s.plainWr off v
  else if off = Reg.DTT_TT_CMD then
    let op := fget F.DTT_TT_CMD_OP v
    let set := (fget F.DTT_TT_CMD_SET v).toNat
    if op = 1 then s.ttCheck set false
    else if op = 2 then s.ttCheck set true
    else if op = 3 then (if s.activeSet = some set then s.setF F.DTT_TT_STAT_ERR 9 else s.ttDisarm)
    else s
  else if off = Reg.DTT_ENV_CMD then
    let op := fget F.DTT_ENV_CMD_OP v
    if op = 1 then s.envCmd none else if op = 2 then s.envCmd (some (fget F.DTT_ENV_CMD_K v)) else s
  else match ixOf off (Reg.DTT_TT_LEN 0) 4 2 with
    | some set => if s.setLive set then s else s.plainWr off v
    | none => s.plainWr off v

/-- ENG. -/
def State.wrEng (s : State) (off : Nat) (v : R32) : State :=
  if off = Reg.ENG_SPARE_CMD then
    let op := (fget F.ENG_SPARE_CMD_OP v).toNat
    s.spareCmd (if op = 3 then State.loseTile else State.tileFail) op (fget F.ENG_SPARE_CMD_TILE v).toNat
  else match ixOf off (Reg.ENG_T_CTL 0) 0x1000 48 with
    | some n => s.engTCtl n (s.merged off v)
    | none => s.plainWr off v

/-- GRP. -/
def State.wrGrp (s : State) (off : Nat) (v : R32) : State :=
  if off = Reg.GRP_CMD then s.grpCmd v
  else if off = Reg.GRP_EMAP_CMD then s.emapCmd v
  else s.plainWr off v

/-- A write to LAN_P_CTL (R507-R511): the plain bits, then EN, TEST, DEEP where they change, then RETRAIN. -/
def State.portCtl (s : State) (p : Nat) (v : R32) : State :=
  let s := (s.setF (F.LAN_P_CTL_ENC p) (fget (F.LAN_P_CTL_ENC p) v)).setF (F.LAN_P_CTL_QUIET_EN p) (fget (F.LAN_P_CTL_QUIET_EN p) v)
  let en := fget (F.LAN_P_CTL_EN p) v == 1
  let test := fget (F.LAN_P_CTL_TEST p) v == 1
  let deep := fget (F.LAN_P_CTL_DEEP p) v == 1
  let s := s.when (s.on (F.LAN_P_CTL_EN p) != en) (fun s => s.portEnable p en)
  let s := s.when (s.on (F.LAN_P_CTL_TEST p) != test) (fun s => s.portTest p test)
  let s := s.when (s.on (F.LAN_P_CTL_DEEP p) != deep) (fun s => s.deepWrite p deep)
  s.when (fget (F.LAN_P_CTL_RETRAIN p) v == 1) (fun s => s.retrain p)

/-- LAN. -/
def State.wrLan (s : State) (off : Nat) (v : R32) : State :=
  if off = Reg.LAN_CMIS_CMD then (if fget F.LAN_CMIS_CMD_GO v = 1 then s.cmisAccess v else s)
  else match ixOf off (Reg.LAN_P_CTL 0) 0x100 14 with
    | some p => s.portCtl p v
    | none => match ixOf off (Reg.LAN_L_CTL 0) 0x100 512 with
      | some i => s.laneCtl i (s.merged off v) (fget (F.LAN_L_CTL_CLR i) v == 1)
      | none => match ixOf off (Reg.LAN_L_INJ 0) 0x100 512 with
        | some i =>
          let s := s.when (fget (F.LAN_L_INJ_SINGLE i) v == 1) (fun s => s.emit (.invert i 1))
          s.when (fget (F.LAN_L_INJ_BURST i) v == 1) (fun s => s.emit (.invert i (max 1 (fget (F.LAN_L_INJ_BURST_LEN i) v).toNat)))
        | none => s.plainWr off v

/-- SWC and ETH. -/
def State.wrEth (s : State) (off : Nat) (v : R32) : State :=
  if off = Reg.SWC_COMMIT then (if fget F.SWC_COMMIT_GO v = 1 then s.swcCommit else s)
  else if off = Reg.ETH_CTL then s.ethCtl v
  else if off = Reg.ETH_UDP then s.waitWr (s.on F.ETH_CTL_EN) off v
  else if 0x480100 ≤ off ∧ off < 0x480200 then
    let e := (off - 0x480100) / 0x40
    if off = Reg.ETH_P_CTL e then s.ethCtlP e v
    else if (ethPortLater e).contains off then s.waitWr (s.on (F.ETH_P_CTL_EN e)) off v
    else s.plainWr off v
  else if 0x490000 ≤ off ∧ off < 0x494000 then
    let c := (off - 0x490000) / 0x40
    if off = Reg.ETH_CH_CFG c then s.chCfg c v
    else if off = Reg.ETH_CH_SQ_DB c then s.setCh c { s.ch c with sqTail := fget (F.ETH_CH_SQ_DB_TAIL c) v }
    else if off = Reg.ETH_CH_RQ_DB c then s.setCh c { s.ch c with rqTail := fget (F.ETH_CH_RQ_DB_TAIL c) v }
    else if (chLater c).contains off then s.waitWr (s.on (F.ETH_CH_CFG_EN c)) off v
    else s.plainWr off v
  else s.plainWr off v

/-- SEC. -/
def State.wrSec (s : State) (off : Nat) (v : R32) : State :=
  if off = Reg.SEC_CMD then
    s.secIf (fun s =>
      let op := fget F.SEC_CMD_OP v
      let i := fget F.SEC_CMD_SESSION v
      let p := (fget F.SEC_CMD_PORT v).toNat
      if op = 1 then s.reportCmd i
      else if op = 2 then s.openCmd i
      else if op = 3 then s.closeCmd i
      else if op = 4 then s.loadCmd i
      else if op = 5 then s.eraseCmd (fget F.SEC_CMD_KIND v) (fget F.SEC_CMD_SLOT v) (fget F.SEC_CMD_GEN v == 1) p
      else if op = 6 then s.rekeyCmd p
      else s.secTake op i 1 .none)
  else if off = Reg.SEC_ALARM_POL then s.clayWrite 0xD0 v
  else if off = Reg.SEC_ALARM_STAT then s.alarmClear v
  else s.plainWr off v

/-- FLT. -/
def State.wrFlt (s : State) (off : Nat) (v : R32) : State :=
  if off = Reg.FLT_ORD_CMD then (if fget F.FLT_ORD_CMD_SUBMIT v = 1 then s.orderSubmit else s)
  else if off = Reg.FLT_JOB_CMD then
    let op := fget F.FLT_JOB_CMD_OP v
    if op = 1 ∨ op = 2 then s.jobCmd (fget F.FLT_JOB_CMD_FLOOD v == 1) (decide (op = 2)) (fget F.FLT_JOB_CMD_JOB v) else s
  else if off = Reg.FLT_RM_CMD then
    if fget F.FLT_RM_CMD_START v = 1 then
      let (x, s) := s.drawWord
      s.repairStart v (bitAt x.toNat 0)
    else s
  else if off = Reg.FLT_SED_CMD then s.sedCmdWrite (fget F.FLT_SED_CMD_OP v)
  else if sedRegs.contains off then s.waitWr (decide (s.f F.FLT_SED_STAT_MODE ≠ 0)) off v
  else s.plainWr off v

/-- A 32-bit write to a register (R22, R679). -/
def State.write32 (s : State) (off : Nat) (v : R32) : State :=
  if off < 0x40000 then s.wrSys off v
  else if off < 0x80000 then s.wrFwm off v
  else if off < 0x100000 then s.wrQmg off v
  else if off < 0x180000 then s.wrXlt off v
  else if off < 0x200000 then s.wrHom off v
  else if off < 0x280000 then s.wrDtt off v
  else if off < 0x300000 then s.wrEng off v
  else if off < 0x380000 then s.wrGrp off v
  else if off < 0x400000 then s.wrEth off v
  else if off < 0x480000 then s.wrLan off v
  else if off < 0x500000 then s.wrEth off v
  else if off < 0x580000 then s.wrSec off v
  else if off < 0x600000 then s.wrFlt off v
  else s.wrSyn off v

/-- A write through a window; none where the offset lies in no window. Windows that are read only take nothing. -/
def State.winWr (s : State) (off : Nat) (wide : Bool) (v : R64) : Option State :=
  if 0x41000 ≤ off ∧ off < 0x42000 then
    some { s with mems := { s.mems with mbwin := winWrite s.mems.mbwin (off - 0x41000) wide v } }
  else if 0x60000 ≤ off ∧ off < 0x80000 then some (s.imgWrite (off - 0x60000) wide v)
  else if 0x140000 ≤ off ∧ off < 0x180000 then some (s.rtWrite (off - 0x140000) wide v)
  else if 0x188000 ≤ off ∧ off < 0x190000 then some s
  else if 0x1C0000 ≤ off ∧ off < 0x200000 then some (s.extWinWrite (off - 0x1C0000) wide v)
  else if 0x220000 ≤ off ∧ off < 0x240000 then some (s.ttWrite (off - 0x220000) wide v)
  else if 0x310000 ≤ off ∧ off < 0x318000 then some (s.ehdrWrite (off - 0x310000) wide v)
  else if 0x320000 ≤ off ∧ off < 0x340000 then some (s.ewinWrite (off - 0x320000) wide v)
  else if 0x340000 ≤ off ∧ off < 0x380000 then some (s.gwinWrite (off - 0x340000) wide v)
  else if (0x510000 ≤ off ∧ off < 0x510800) ∨ (0x520000 ≤ off ∧ off < 0x522000) then some s
  else if 0x530000 ≤ off ∧ off < 0x530800 then
    some (if s.on F.SEC_RES_BUSY then s else { s with mems := { s.mems with cmdwin := winWrite s.mems.cmdwin (off - 0x530000) wide v } })
  else if 0x5C0000 ≤ off ∧ off < 0x5C8000 then
    some (if s.on F.FLT_ORD_RES_BUSY then s else { s with mems := { s.mems with ordwin := winWrite s.mems.ordwin (off - 0x5C0000) wide v } })
  else none

/-- A write of 4 or 8 bytes (R616): 8 bytes are two accesses to registers, lower address first, and one to a window. -/
def State.barWrite (s : State) (off : Nat) (wide : Bool) (v : R64) : State :=
  match s.winWr off wide v with
  | some s => s
  | none =>
    let s := s.write32 off (v.setWidth 32)
    if wide then s.write32 (off + 4) ((v >>> 32).setWidth 32) else s

/-- BAR0 as the home reaches it through DPA class 0b11 (R621). -/
def barWin : Win := ⟨State.barRead, State.barWrite⟩

/-- The access is naturally aligned (R616). -/
def barAligned (off : Nat) (wide : Bool) : Bool := decide (off % (if wide then 8 else 4) = 0)

/-- A register write from the host (R22, R616). -/
def State.hostWriteReg (s : State) (off : Nat) (wide : Bool) (v : R64) : State :=
  if barAligned off wide then s.barWrite off wide v else s.emit .pcieUnsupported

/-- A 32-bit register read from the host (R616). -/
def State.hostReadReg (s : State) (off : Nat) : State :=
  if barAligned off false then
    let (v, s) := s.read32 off
    s.emit (.pcieData (natLe 4 v.toNat))
  else s.emit .pcieUnsupported

/-! ### BAR2 (R618, R619) -/

/-- BAR_FAULT (R650). -/
def evBarFault (dpa : Dpa) (st : Status) (wr : Bool) : Ev := ev 0xEA st dpa.toNat (16 * b2n wr + st.toNat)

/-- The attributes of an aperture's requests (R618). -/
def State.aptAttr (s : State) (a : Nat) : Attr :=
  ⟨s.f (F.GLB_APT_ATTR_KEY_SLOT a), s.on (F.GLB_APT_ATTR_KGEN a), false, false, s.on (F.GLB_APT_ATTR_MIRRORED a),
    s.f (F.GLB_APT_ATTR_PARTNER a)⟩

/-- Send one request of an aperture, with the mirror copy of a store (R264). -/
def State.issueApt (s : State) (dst : NodeId) (r : Req) : Req × State :=
  let home := dpaNode r.dpa
  let (n, s) := s.nextSeq r.src home r.cls
  let wr := decide (r.opc = 2) && r.attr.mirrored
  let (prev, s) := if wr then s.prevWrite r.src home r.cls n else (0, s)
  let r := { r with seq := n, prevSeq := prev, dst := dst }
  let s := s.sendReq r
  let s := if wr ∧ dst = home ∧ !s.expelled r.attr.partner then s.sendReq { r with mc := true, dst := r.attr.partner } else s
  (r, s)

/-- One request of an access and its answer; a failure posts BAR_FAULT. -/
def State.aptOne (s : State) (a : Nat) (r : Req) (n : Nat) (resps : List Resp) : Resp × List Resp × State :=
  let at_ := s.aptAttr a
  let wr := decide (r.opc = 2)
  let out : Resp × List Resp × State :=
    match s.homeOf at_ r.dpa with
    | none => (⟨stTargetLost, false, false, []⟩, resps, s)
    | some d =>
      let (r, s) := s.issueApt d { r with attr := at_, job := s.f (F.GLB_APT_JOB_JOB a) }
      match resps with
      | x :: rest => (x, rest, s.ackReq r)
      | [] =>
        let (bs, s) := s.drawBytes n
        (⟨stOk, false, false, bs⟩, [], s.ackReq r)
  let (x, rest, s) := out
  (x, rest, if x.status = stOk then s else s.post (evBarFault r.dpa x.status wr))

/-- The requests of a read: its bytes, and whether all of them succeeded. -/
def State.aptReads (a : Nat) : Nat → Dpa → Nat → List Resp → State → Bytes × Bool × State
  | 0, _, _, _, s => ([], true, s)
  | fuel + 1, d, len, resps, s =>
    if len = 0 then ([], true, s)
    else
      let n := pieceLen d.toNat len
      let (x, rest, s) := s.aptOne a (req0 1 0 (BitVec.ofNat 4 (Nat.log2 n)) d (s.agent 8) 0) n resps
      let (bs, ok, s) := State.aptReads a fuel (d + BitVec.ofNat 52 n) (len - n) rest s
      (slice x.data 0 n ++ bs, ok && decide (x.status = stOk), s)

/-- The requests of a write. -/
def State.aptWrites (a : Nat) : Nat → Dpa → Bytes → List Resp → State → State
  | 0, _, _, _, s => s
  | fuel + 1, d, bs, resps, s =>
    if bs = [] then s
    else
      let n := pieceLen d.toNat bs.length
      let (_, rest, s) := s.aptOne a
        { req0 2 0 (BitVec.ofNat 4 (Nat.log2 n)) d (s.agent 8) 0 with data := storeUnits d.toNat (bs.take n) } n resps
      State.aptWrites a fuel (d + BitVec.ofNat 52 n) (bs.drop n) rest s

/-- The DPA of an offset in BAR2 (R618). -/
def State.aptDpa (s : State) (off : Nat) : Dpa :=
  s.f (F.GLB_APT_BASE_DPA_HI (off / 2 ^ 32)) ++ BitVec.ofNat 32 (off % 2 ^ 32)

/-- A host read of BAR2. -/
def State.bar2Read (s : State) (off len : Nat) (resps : List Resp) : State :=
  let a := off / 2 ^ 32
  if !s.on (F.GLB_APT_BASE_VALID a) then s.emit .pcieUnsupported
  else
    let (bs, ok, s) := State.aptReads a len (s.aptDpa off) len resps s
    s.emit (if ok then .pcieData bs else .pcieAbort)

/-- A host write of BAR2. -/
def State.bar2Write (s : State) (off : Nat) (data : Bytes) (resps : List Resp) : State :=
  let a := off / 2 ^ 32
  if !s.on (F.GLB_APT_BASE_VALID a) then s.emit .pcieUnsupported
  else State.aptWrites a data.length (s.aptDpa off) data resps s

/-! ### Commands -/

/-- REGISTER_WRITE (R22). -/
def execRegisterWrite (off : BitVec 25) (wide : Bool) (v : R64) (s : State) : Host.Outcome State Fault Refusal :=
  whenWr s (fun s => s.hostWriteReg off.toNat wide v)

/-- LATCHED_READ (R616). -/
def execLatchedRead (off : BitVec 25) (s : State) : Host.Outcome State Fault Refusal := whenUp s (fun s => s.hostReadReg off.toNat)

/-- BAR2_READ (R618). BAR2 has 16 apertures of 4 GiB, 2^36 bytes. -/
def execBar2Read (off : BitVec 48) (len : BitVec 13) (resps : List Resp) (s : State) : Host.Outcome State Fault Refusal :=
  whenUp s (fun s => s.bar2Read (off.toNat % 2 ^ 36) len.toNat resps)

/-- BAR2_WRITE (R618). -/
def execBar2Write (off : BitVec 48) (data : Bytes) (resps : List Resp) (s : State) : Host.Outcome State Fault Refusal :=
  whenUp s (fun s => s.bar2Write (off.toNat % 2 ^ 36) data resps)

end Sys2Proof.Machine
end

