-- ==== Sys2Proof/Machine/HomeCmd.lean ====
section
/-!
DEFINITION. The rows of home memory that reach the register window: requests at their home, snoop responses, copies, extent
commands, background slots, and sediment.
-/

namespace Sys2Proof.Machine

/-- A request row: the request, under the row's opcode, reaches its home. -/
def requestRow (opc : BitVec 6) (r : Req) (m : MemCond) (s : State) : Host.Outcome State Fault Refusal :=
  whenUp s (fun s => s.homeArrive barWin { r with opc := opc } m)

/-- A snoop response row: the response, under the row's opcode, reaches the home. -/
def responseRow (opc : BitVec 6) (p : Snp) (m : MemCond) (s : State) : Host.Outcome State Fault Refusal :=
  whenUp s (fun s => s.snoopResponse barWin { p with opc := opc } m)

/-- LOAD (R193). -/
def execLoad (r : Req) (m : MemCond) (s : State) : Host.Outcome State Fault Refusal := requestRow 1 r m s

/-- STORE (R189). -/
def execStore (r : Req) (m : MemCond) (s : State) : Host.Outcome State Fault Refusal := requestRow 2 r m s

/-- ATOMIC_ADD (R194). -/
def execAtomicAdd (r : Req) (m : MemCond) (s : State) : Host.Outcome State Fault Refusal := requestRow 3 r m s

/-- ATOMIC_MIN (R194). -/
def execAtomicMin (r : Req) (m : MemCond) (s : State) : Host.Outcome State Fault Refusal := requestRow 4 r m s

/-- ATOMIC_MAX (R194). -/
def execAtomicMax (r : Req) (m : MemCond) (s : State) : Host.Outcome State Fault Refusal := requestRow 5 r m s

/-- ATOMIC_CAS (R194). -/
def execAtomicCas (r : Req) (m : MemCond) (s : State) : Host.Outcome State Fault Refusal := requestRow 6 r m s

/-- RD_SHARED (R250, R255). -/
def execRdShared (r : Req) (m : MemCond) (s : State) : Host.Outcome State Fault Refusal := requestRow 8 r m s

/-- RD_OWN (R250, R255). -/
def execRdOwn (r : Req) (m : MemCond) (s : State) : Host.Outcome State Fault Refusal := requestRow 9 r m s

/-- UPGRADE (R250, R255). -/
def execUpgrade (r : Req) (m : MemCond) (s : State) : Host.Outcome State Fault Refusal := requestRow 0xA r m s

/-- WRITEBACK (R250, R256). A write reads no granule, so it meets no condition of the memory. -/
def execWriteback (r : Req) (s : State) : Host.Outcome State Fault Refusal := requestRow 0xB r ⟨[], [], []⟩ s

/-- EVICT (R250, R256). -/
def execEvict (r : Req) (s : State) : Host.Outcome State Fault Refusal := requestRow 0xC r ⟨[], [], []⟩ s

/-- CACK (R183). -/
def execCack (c : Cpl) (s : State) : Host.Outcome State Fault Refusal := whenUp s (fun s => s.cackArrive c)

/-- A MACK: the repair copy of a line (R489), or the copy of a mirrored write, is at the partner. -/
def State.mack (s : State) (c : Cpl) : State :=
  match s.ep.own.find? (fun o => o.agent == c.agent && o.cls == c.cls && o.seq == c.seq && o.home == c.src && o.kind == .copy) with
  | some o => s.ownDone o c
  | none => s.mackArrive c

/-- MACK (R189). -/
def execMack (c : Cpl) (s : State) : Host.Outcome State Fault Refusal := whenUp s (fun s => s.mack c)

/-- WRITE_COPY (R264). -/
def execWriteCopy (r : Req) (s : State) : Host.Outcome State Fault Refusal := whenUp s (fun s => s.writeCopy r)

/-- RSP_ACK (R253). -/
def execRspAck (p : Snp) (m : MemCond) (s : State) : Host.Outcome State Fault Refusal := responseRow 0x28 p m s

/-- RSP_DATA (R255). -/
def execRspData (p : Snp) (m : MemCond) (s : State) : Host.Outcome State Fault Refusal := responseRow 0x29 p m s

/-- RSP_DIRTY (R253, R245). -/
def execRspDirty (p : Snp) (m : MemCond) (s : State) : Host.Outcome State Fault Refusal := responseRow 0x2A p m s

/-- EXT_CMD_DONE (R235, R236). -/
def execExtCmdDone (s : State) : Host.Outcome State Fault Refusal := whenUp s (fun s => s.extDone barWin)

/-- EXT_TIMED_APPLY (R237). -/
def execExtTimedApply (s : State) : Host.Outcome State Fault Refusal := whenUp s (fun s => s.extTimed barWin)

/-- LEASE_LAPSE (R241). -/
def execLeaseLapse (ext : BitVec 14) (s : State) : Host.Outcome State Fault Refusal := whenUp s (fun s => s.leaseLapse ext.toNat)

/-- REVOKE_DRAIN_DONE (R246). -/
def execRevokeDrainDone (ext : BitVec 14) (s : State) : Host.Outcome State Fault Refusal := whenUp s (fun s => s.revokeDone ext.toNat)

/-- RECLAIM_SNOOP_TIMEOUT (R245). -/
def execReclaimSnoopTimeout (ext : BitVec 14) (s : State) : Host.Outcome State Fault Refusal :=
  whenUp s (fun s => s.reclaimTimeout barWin ext.toNat)

/-- RECLAIM_DONE (R245). -/
def execReclaimDone (ext : BitVec 14) (s : State) : Host.Outcome State Fault Refusal := whenUp s (fun s => s.reclaimDone ext.toNat)

/-- HOME_SLOT (R274). -/
def execHomeSlot (m : MemCond) (s : State) : Host.Outcome State Fault Refusal :=
  whenUp s (fun s => s.inBackground bgHome (fun s => s.homeSlot m))

/-- SED_START (R492). -/
def execSedStart (s : State) : Host.Outcome State Fault Refusal := whenWr s (fun s => s.sedOp barWin 1)

/-- SED_STOP (R492). -/
def execSedStop (s : State) : Host.Outcome State Fault Refusal := whenWr s (fun s => s.sedOp barWin 2)

/-- SED_REPLAY (R492, R493). -/
def execSedReplay (s : State) : Host.Outcome State Fault Refusal := whenWr s (fun s => s.sedOp barWin 3)

/-- SEDIMENT_SLOT (R491, R492). -/
def execSedimentSlot (recs : List Bytes) (s : State) : Host.Outcome State Fault Refusal :=
  whenUp s (fun s => s.inBackground bgSediment (fun s => s.sedSlot barWin recs))

end Sys2Proof.Machine
end

