-- ==== Sys2Proof/Machine/Dispatch.lean ====
section
/-!
DEFINITION. One arm for each command of the table, in its order: the call of its meaning.
-/

namespace Sys2Proof.Machine

def exec (i : Instr) (s : State) : Host.Outcome State Fault Refusal :=
  match i with
  | .resetAssert ns => Sys2Proof.Machine.execResetAssert ns s
  | .resetDeassert st => Sys2Proof.Machine.execResetDeassert st s
  | .pllLock => Sys2Proof.Machine.execPllLock s
  | .pllLossOfLock => Sys2Proof.Machine.execPllLossOfLock s
  | .holdUp => Sys2Proof.Machine.execHoldUp s
  | .holdUpStage g => Sys2Proof.Machine.execHoldUpStage g s
  | .pcieReset k => Sys2Proof.Machine.execPcieReset k s
  | .registerWrite off wide v => Sys2Proof.Machine.execRegisterWrite off wide v s
  | .glbNodeWrite v => Sys2Proof.Machine.execGlbNodeWrite v s
  | .bar2Read off len resps => Sys2Proof.Machine.execBar2Read off len resps s
  | .bar2Write off data resps => Sys2Proof.Machine.execBar2Write off data resps s
  | .smbusBlockRead code => Sys2Proof.Machine.execSmbusBlockRead code s
  | .smbusAlertResponse => Sys2Proof.Machine.execSmbusAlertResponse s
  | .bypass => Sys2Proof.Machine.execBypass s
  | .idcode => Sys2Proof.Machine.execIdcode s
  | .samplePreload => Sys2Proof.Machine.execSamplePreload s
  | .extest => Sys2Proof.Machine.execExtest s
  | .extestPulse => Sys2Proof.Machine.execExtestPulse s
  | .extestTrain => Sys2Proof.Machine.execExtestTrain s
  | .clamp => Sys2Proof.Machine.execClamp s
  | .highz => Sys2Proof.Machine.execHighz s
  | .query countM1 slot => Sys2Proof.Machine.execQuery countM1 slot s
  | .set wake countM1 slot => Sys2Proof.Machine.execSet wake countM1 slot s
  | .clear countM1 slot => Sys2Proof.Machine.execClear countM1 slot s
  | .clearDrainDone => Sys2Proof.Machine.execClearDrainDone s
  | .xltCommit slot => Sys2Proof.Machine.execXltCommit slot s
  | .tableValidationEnd slot => Sys2Proof.Machine.execTableValidationEnd slot s
  | .drainReq slot => Sys2Proof.Machine.execDrainReq slot s
  | .drainDone slot => Sys2Proof.Machine.execDrainDone slot s
  | .rtwinWrite off wide v => Sys2Proof.Machine.execRtwinWrite off wide v s
  | .attachFlitReceive port flit => Sys2Proof.Machine.execAttachFlitReceive port flit s
  | .answerSend port => Sys2Proof.Machine.execAnswerSend port s
  | .deferReserveExpiry port cls => Sys2Proof.Machine.execDeferReserveExpiry port cls s
  | .attachRequestIssue port => Sys2Proof.Machine.execAttachRequestIssue port s
  | .pacedRequestRelease port home => Sys2Proof.Machine.execPacedRequestRelease port home s
  | .pacingWindowGrow port home => Sys2Proof.Machine.execPacingWindowGrow port home s
  | .completionReceive c => Sys2Proof.Machine.execCompletionReceive c s
  | .load r m => Sys2Proof.Machine.execLoad r m s
  | .store r m => Sys2Proof.Machine.execStore r m s
  | .atomicAdd r m => Sys2Proof.Machine.execAtomicAdd r m s
  | .atomicMin r m => Sys2Proof.Machine.execAtomicMin r m s
  | .atomicMax r m => Sys2Proof.Machine.execAtomicMax r m s
  | .atomicCas r m => Sys2Proof.Machine.execAtomicCas r m s
  | .fence port => Sys2Proof.Machine.execFence port s
  | .cack c => Sys2Proof.Machine.execCack c s
  | .tampedCompletion c => Sys2Proof.Machine.execTampedCompletion c s
  | .mack c => Sys2Proof.Machine.execMack c s
  | .writeCopy r => Sys2Proof.Machine.execWriteCopy r s
  | .rdShared r m => Sys2Proof.Machine.execRdShared r m s
  | .rdOwn r m => Sys2Proof.Machine.execRdOwn r m s
  | .upgrade r m => Sys2Proof.Machine.execUpgrade r m s
  | .writeback r => Sys2Proof.Machine.execWriteback r s
  | .evict r => Sys2Proof.Machine.execEvict r s
  | .snoopDelivery p => Sys2Proof.Machine.execSnoopDelivery p s
  | .rspAck p m => Sys2Proof.Machine.execRspAck p m s
  | .rspData p m => Sys2Proof.Machine.execRspData p m s
  | .rspDirty p m => Sys2Proof.Machine.execRspDirty p m s
  | .grant ext timed => Sys2Proof.Machine.execGrant ext timed s
  | .renew ext timed => Sys2Proof.Machine.execRenew ext timed s
  | .revoke ext gen timed => Sys2Proof.Machine.execRevoke ext gen timed s
  | .expire ext timed => Sys2Proof.Machine.execExpire ext timed s
  | .extAdmit ext gen timed => Sys2Proof.Machine.execExtAdmit ext gen timed s
  | .rotate ext timed => Sys2Proof.Machine.execRotate ext timed s
  | .agentDrop agent timed => Sys2Proof.Machine.execAgentDrop agent timed s
  | .extTimedApply => Sys2Proof.Machine.execExtTimedApply s
  | .extwinWrite off wide v => Sys2Proof.Machine.execExtwinWrite off wide v s
  | .homCtlWrite v => Sys2Proof.Machine.execHomCtlWrite v s
  | .leaseLapse ext => Sys2Proof.Machine.execLeaseLapse ext s
  | .revokeDrainDone ext => Sys2Proof.Machine.execRevokeDrainDone ext s
  | .reclaimSnoopTimeout ext => Sys2Proof.Machine.execReclaimSnoopTimeout ext s
  | .reclaimDone ext => Sys2Proof.Machine.execReclaimDone ext s
  | .homeSlot m => Sys2Proof.Machine.execHomeSlot m s
  | .doorbell q tail => Sys2Proof.Machine.execDoorbell q tail s
  | .descriptorFetch q => Sys2Proof.Machine.execDescriptorFetch q s
  | .descriptorFetchDone q res => Sys2Proof.Machine.execDescriptorFetchDone q res s
  | .descriptorStart q resps => Sys2Proof.Machine.execDescriptorStart q resps s
  | .nop q => Sys2Proof.Machine.execNop q s
  | .copy q idx resps => Sys2Proof.Machine.execCopy q idx resps s
  | .fill q idx resps => Sys2Proof.Machine.execFill q idx resps s
  | .gather q idx resps => Sys2Proof.Machine.execGather q idx resps s
  | .embedBag q idx resps => Sys2Proof.Machine.execEmbedBag q idx resps s
  | .scatter q idx resps => Sys2Proof.Machine.execScatter q idx resps s
  | .atomicBatch q idx resps => Sys2Proof.Machine.execAtomicBatch q idx resps s
  | .syncWait q idx full => Sys2Proof.Machine.execSyncWait q idx full s
  | .syncSignal q idx => Sys2Proof.Machine.execSyncSignal q idx s
  | .descriptorFence q idx => Sys2Proof.Machine.execDescriptorFence q idx s
  | .alltoall run others resps => Sys2Proof.Machine.execAlltoall run others resps s
  | .alltoallv run others resps => Sys2Proof.Machine.execAlltoallv run others resps s
  | .reduceScatter run others resps => Sys2Proof.Machine.execReduceScatter run others resps s
  | .allGather run others resps => Sys2Proof.Machine.execAllGather run others resps s
  | .sparseReduce run others resps => Sys2Proof.Machine.execSparseReduce run others resps s
  | .dispatch run rows plans resps => Sys2Proof.Machine.execDispatch run rows plans resps s
  | .combine run sent resps => Sys2Proof.Machine.execCombine run sent resps s
  | .enginePageBoundary q idx va => Sys2Proof.Machine.execEnginePageBoundary q idx va s
  | .descriptorComplete q idx => Sys2Proof.Machine.execDescriptorComplete q idx s
  | .holdoffExpiry ring => Sys2Proof.Machine.execHoldoffExpiry ring s
  | .queueCommit q => Sys2Proof.Machine.execQueueCommit q s
  | .queueIdle q => Sys2Proof.Machine.execQueueIdle q s
  | .evtCfgWrite ring v => Sys2Proof.Machine.execEvtCfgWrite ring v s
  | .evtHeadWrite ring v => Sys2Proof.Machine.execEvtHeadWrite ring v s
  | .synAdd obj v => Sys2Proof.Machine.execSynAdd obj v s
  | .syncReset obj => Sys2Proof.Machine.execSyncReset obj s
  | .watchRegister watch job thr node tag => Sys2Proof.Machine.execWatchRegister watch job thr node tag s
  | .wake c => Sys2Proof.Machine.execWake c s
  | .syncPoll q idx resps => Sys2Proof.Machine.execSyncPoll q idx resps s
  | .syncWaitTimeout q idx => Sys2Proof.Machine.execSyncWaitTimeout q idx s
  | .synArm e v => Sys2Proof.Machine.execSynArm e v s
  | .synDisarm e => Sys2Proof.Machine.execSynDisarm e s
  | .armTickExpiry e => Sys2Proof.Machine.execArmTickExpiry e s
  | .armEntryTaken => Sys2Proof.Machine.execArmEntryTaken s
  | .timeHbSend port => Sys2Proof.Machine.execTimeHbSend port s
  | .timeHb port msg rx => Sys2Proof.Machine.execTimeHb port msg rx s
  | .rootElection => Sys2Proof.Machine.execRootElection s
  | .parentTimeout => Sys2Proof.Machine.execParentTimeout s
  | .dttCtlWrite v => Sys2Proof.Machine.execDttCtlWrite v s
  | .dttRootsWrite v => Sys2Proof.Machine.execDttRootsWrite v s
  | .barrierArm v => Sys2Proof.Machine.execBarrierArm v s
  | .barrierDisarm => Sys2Proof.Machine.execBarrierDisarm s
  | .arrive port seq n => Sys2Proof.Machine.execArrive port seq n s
  | .release port seq hasLoad remain val => Sys2Proof.Machine.execRelease port seq hasLoad remain val s
  | .barrierFire => Sys2Proof.Machine.execBarrierFire s
  | .dtSyncEdge => Sys2Proof.Machine.execDtSyncEdge s
  | .slotBoundary => Sys2Proof.Machine.execSlotBoundary s
  | .schedFlitReceive port f => Sys2Proof.Machine.execSchedFlitReceive port f s
  | .validate set => Sys2Proof.Machine.execValidate set s
  | .ttArm set => Sys2Proof.Machine.execTtArm set s
  | .ttDisarm set => Sys2Proof.Machine.execTtDisarm set s
  | .ttCheckDone => Sys2Proof.Machine.execTtCheckDone s
  | .timetableSwap => Sys2Proof.Machine.execTimetableSwap s
  | .ttwinWrite off wide v => Sys2Proof.Machine.execTtwinWrite off wide v s
  | .apply => Sys2Proof.Machine.execApply s
  | .forceK env => Sys2Proof.Machine.execForceK env s
  | .dilationStep => Sys2Proof.Machine.execDilationStep s
  | .kThermDecay => Sys2Proof.Machine.execKThermDecay s
  | .tileStep tile work => Sys2Proof.Machine.execTileStep tile work s
  | .tileFailure phys => Sys2Proof.Machine.execTileFailure phys s
  | .spareSubstitution tile => Sys2Proof.Machine.execSpareSubstitution tile s
  | .spareTest phys => Sys2Proof.Machine.execSpareTest phys s
  | .spareTestDone pass => Sys2Proof.Machine.execSpareTestDone pass s
  | .spareEnable phys => Sys2Proof.Machine.execSpareEnable phys s
  | .spareDisable phys => Sys2Proof.Machine.execSpareDisable phys s
  | .engTCtlWrite tile v => Sys2Proof.Machine.execEngTCtlWrite tile v s
  | .doppioStep pair work => Sys2Proof.Machine.execDoppioStep pair work s
  | .doppioCompare pair hashes => Sys2Proof.Machine.execDoppioCompare pair hashes s
  | .groupEnable g => Sys2Proof.Machine.execGroupEnable g s
  | .groupDisable g => Sys2Proof.Machine.execGroupDisable g s
  | .groupCmdDone => Sys2Proof.Machine.execGroupCmdDone s
  | .gwinWrite off wide v => Sys2Proof.Machine.execGwinWrite off wide v s
  | .signatureRecord run r => Sys2Proof.Machine.execSignatureRecord run r s
  | .roundStart run => Sys2Proof.Machine.execRoundStart run s
  | .roundEnd run => Sys2Proof.Machine.execRoundEnd run s
  | .abortRecord group seq status origin => Sys2Proof.Machine.execAbortRecord group seq status origin s
  | .collHoldTimeout run => Sys2Proof.Machine.execCollHoldTimeout run s
  | .emapEnable m => Sys2Proof.Machine.execEmapEnable m s
  | .emapDisable m => Sys2Proof.Machine.execEmapDisable m s
  | .emapCmdDone => Sys2Proof.Machine.execEmapCmdDone s
  | .emapWinWrite hdr off wide v => Sys2Proof.Machine.execEmapWinWrite hdr off wide v s
  | .expertDecision run expert held => Sys2Proof.Machine.execExpertDecision run expert held s
  | .heartbeatMiss port => Sys2Proof.Machine.execHeartbeatMiss port s
  | .orderSubmit => Sys2Proof.Machine.execOrderSubmit s
  | .orderFrag port seq off total data => Sys2Proof.Machine.execOrderFrag port seq off total data s
  | .orderVerifyDone => Sys2Proof.Machine.execOrderVerifyDone s
  | .expel n => Sys2Proof.Machine.execExpel n s
  | .admitOrder n inc tick => Sys2Proof.Machine.execAdmitOrder n inc tick s
  | .admitEffective n => Sys2Proof.Machine.execAdmitEffective n s
  | .keys slot key => Sys2Proof.Machine.execKeys slot key s
  | .stop port msg => Sys2Proof.Machine.execStop port msg s
  | .jobStopCmd flood job => Sys2Proof.Machine.execJobStopCmd flood job s
  | .jobResumeCmd flood job => Sys2Proof.Machine.execJobResumeCmd flood job s
  | .mirrorRepairStart v copy => Sys2Proof.Machine.execMirrorRepairStart v copy s
  | .sedStart => Sys2Proof.Machine.execSedStart s
  | .sedStop => Sys2Proof.Machine.execSedStop s
  | .sedReplay => Sys2Proof.Machine.execSedReplay s
  | .sedimentSlot recs => Sys2Proof.Machine.execSedimentSlot recs s
  | .sedReplayHoldTimeout => Sys2Proof.Machine.execSedReplayHoldTimeout s
  | .dirSweepSlot => Sys2Proof.Machine.execDirSweepSlot s
  | .telemetrySlot => Sys2Proof.Machine.execTelemetrySlot s
  | .laneCalSlot port meas => Sys2Proof.Machine.execLaneCalSlot port meas s
  | .portEnable port en => Sys2Proof.Machine.execPortEnable port en s
  | .portTest port on => Sys2Proof.Machine.execPortTest port on s
  | .retrain port => Sys2Proof.Machine.execRetrain port s
  | .deep port on => Sys2Proof.Machine.execDeep port on s
  | .trainingPhaseDone port failed => Sys2Proof.Machine.execTrainingPhaseDone port failed s
  | .trainingTimeout port => Sys2Proof.Machine.execTrainingTimeout port s
  | .failedRetry port => Sys2Proof.Machine.execFailedRetry port s
  | .portId port peer => Sys2Proof.Machine.execPortId port peer s
  | .fecGroupReceive port lane syms commas => Sys2Proof.Machine.execFecGroupReceive port lane syms commas s
  | .flitReceive port flit => Sys2Proof.Machine.execFlitReceive port flit s
  | .linkNak port e => Sys2Proof.Machine.execLinkNak port e s
  | .replay port e => Sys2Proof.Machine.execReplay port e s
  | .nakTimeout port => Sys2Proof.Machine.execNakTimeout port s
  | .crcSilenceTimeout port => Sys2Proof.Machine.execCrcSilenceTimeout port s
  | .tag port f kgen n mac => Sys2Proof.Machine.execTag port f kgen n mac s
  | .quietReq port => Sys2Proof.Machine.execQuietReq port s
  | .quietAck port => Sys2Proof.Machine.execQuietAck port s
  | .quietResume port => Sys2Proof.Machine.execQuietResume port s
  | .deepAck port => Sys2Proof.Machine.execDeepAck port s
  | .single lane => Sys2Proof.Machine.execSingle lane s
  | .burst lane len => Sys2Proof.Machine.execBurst lane len s
  | .laneClr lane => Sys2Proof.Machine.execLaneClr lane s
  | .cmisAccess v => Sys2Proof.Machine.execCmisAccess v s
  | .cmisAccessDone err data => Sys2Proof.Machine.execCmisAccessDone err data s
  | .cmisPoll bus module flags => Sys2Proof.Machine.execCmisPoll bus module flags s
  | .switchForward inp msg => Sys2Proof.Machine.execSwitchForward inp msg s
  | .escapeReroute => Sys2Proof.Machine.execEscapeReroute s
  | .swcCommit => Sys2Proof.Machine.execSwcCommit s
  | .ethLinkChange e up => Sys2Proof.Machine.execEthLinkChange e up s
  | .sendDoorbell ch tail => Sys2Proof.Machine.execSendDoorbell ch tail s
  | .receiveDoorbell ch tail => Sys2Proof.Machine.execReceiveDoorbell ch tail s
  | .putRecord ch rec resps => Sys2Proof.Machine.execPutRecord ch rec resps s
  | .getRecord ch rec resps => Sys2Proof.Machine.execGetRecord ch rec resps s
  | .sendRecord ch rec resps => Sys2Proof.Machine.execSendRecord ch rec resps s
  | .put e p resps => Sys2Proof.Machine.execPut e p resps s
  | .getReq e p resps => Sys2Proof.Machine.execGetReq e p resps s
  | .getResp e p resps => Sys2Proof.Machine.execGetResp e p resps s
  | .send e p buf resps => Sys2Proof.Machine.execSend e p buf resps s
  | .ack e p => Sys2Proof.Machine.execAck e p s
  | .spillNak e p => Sys2Proof.Machine.execSpillNak e p s
  | .spillAckTimer ch => Sys2Proof.Machine.execSpillAckTimer ch s
  | .spillRto ch psn => Sys2Proof.Machine.execSpillRto ch psn s
  | .spillWindowGrow ch => Sys2Proof.Machine.execSpillWindowGrow ch s
  | .neighbourSolicitation e target src => Sys2Proof.Machine.execNeighbourSolicitation e target src s
  | .echoRequest e src dst body => Sys2Proof.Machine.execEchoRequest e src dst body s
  | .otherFrame e => Sys2Proof.Machine.execOtherFrame e s
  | .report sess => Sys2Proof.Machine.execReport sess s
  | .secOpen sess => Sys2Proof.Machine.execSecOpen sess s
  | .close sess => Sys2Proof.Machine.execClose sess s
  | .secLoad sess => Sys2Proof.Machine.execSecLoad sess s
  | .erase kind slot gen port => Sys2Proof.Machine.execErase kind slot gen port s
  | .linkRekey port => Sys2Proof.Machine.execLinkRekey port s
  | .secCmdDone => Sys2Proof.Machine.execSecCmdDone s
  | .sessionExpiry sess => Sys2Proof.Machine.execSessionExpiry sess s
  | .sensorTrip kind => Sys2Proof.Machine.execSensorTrip kind s
  | .alarmEscalate => Sys2Proof.Machine.execAlarmEscalate s
  | .alarmLatchClear v => Sys2Proof.Machine.execAlarmLatchClear v s
  | .bootRomReady => Sys2Proof.Machine.execBootRomReady s
  | .imgwinWrite off wide v => Sys2Proof.Machine.execImgwinWrite off wide v s
  | .boot => Sys2Proof.Machine.execBoot s
  | .bootDone standbyOk => Sys2Proof.Machine.execBootDone standbyOk s
  | .update => Sys2Proof.Machine.execUpdate s
  | .handoverLoadDone standbyOk => Sys2Proof.Machine.execHandoverLoadDone standbyOk s
  | .handoverSyncDone agree => Sys2Proof.Machine.execHandoverSyncDone agree s
  | .switch timed => Sys2Proof.Machine.execSwitch timed s
  | .quiescentBoundary => Sys2Proof.Machine.execQuiescentBoundary s
  | .abort => Sys2Proof.Machine.execAbort s
  | .handoverTimeout => Sys2Proof.Machine.execHandoverTimeout s
  | .svnCommit => Sys2Proof.Machine.execSvnCommit s
  | .standbyTakeover hardware => Sys2Proof.Machine.execStandbyTakeover hardware s
  | .clayWrite w v => Sys2Proof.Machine.execClayWrite w v s
  | .clayWriteDone back0 back1 => Sys2Proof.Machine.execClayWriteDone back0 back1 s
  | .timedCommitArm => Sys2Proof.Machine.execTimedCommitArm s
  | .timedCommitCancel => Sys2Proof.Machine.execTimedCommitCancel s
  | .timedCommit => Sys2Proof.Machine.execTimedCommit s
  | .version => Sys2Proof.Machine.execVersion s
  | .sensors => Sys2Proof.Machine.execSensors s
  | .poolTest dev => Sys2Proof.Machine.execPoolTest dev s
  | .poolTestDone pass lines => Sys2Proof.Machine.execPoolTestDone pass lines s
  | .avsStep margin amps => Sys2Proof.Machine.execAvsStep margin amps s
  | .avsStatusAlert => Sys2Proof.Machine.execAvsStatusAlert s
  | .thermalSample temps => Sys2Proof.Machine.execThermalSample temps s
  | .thermalRequest watts => Sys2Proof.Machine.execThermalRequest watts s
  | .supplyRemoved => Sys2Proof.Machine.execSupplyRemoved s
  | .powerUp => Sys2Proof.Machine.execPowerUp s
  | .pcieRefclkLoss => Sys2Proof.Machine.execPcieRefclkLoss s
  | .deepExit port => Sys2Proof.Machine.execDeepExit port s
  | .prbsLock lane bits errs => Sys2Proof.Machine.execPrbsLock lane bits errs s
  | .latchedRead off => Sys2Proof.Machine.execLatchedRead off s
  | .extCmdDone => Sys2Proof.Machine.execExtCmdDone s
  | .standbyFollows => Sys2Proof.Machine.execStandbyFollows s

end Sys2Proof.Machine
end

