-- ==== Sys2Proof/WellFormed.lean ====
section
/-!
DEFINITION. Which commands are well formed: the sizes that the spec gives to what a command carries. A step does not rest on it
(a command that is not well formed is still taken, its missing bytes reading as zero and its extra bytes as absent); it says
which commands can come from hardware.
-/

namespace Sys2Proof

/-- Every granule named is one of the pool's (R226: 20 devices of 80 GB, in 64 B granules), and an access reads a granule three times at most (R271). -/
def MemCond.wf (m : MemCond) : Bool :=
  (m.die ++ m.link.map (·.1) ++ m.ce).all (fun g => decide (g < 25000000000)) && m.link.all (fun x => decide (1 ≤ x.2 ∧ x.2 ≤ 3))

/-- SIZE is at most 256 B, and the data are whole 16-byte units, at most sixteen of them (R162, R163, R543). -/
def Req.wf (r : Req) : Bool := decide (r.size.toNat ≤ 8) && decide (r.data.length % 16 = 0) && decide (r.data.length ≤ 256)

/-- A descriptor is 64 or 128 bytes (R104, R120). -/
def Fetched.wf : Fetched → Bool
  | .slot b => decide (b.length = 64) || decide (b.length = 128)
  | .failed => true

/-- A payload has the length that its header states, at most 8,192 B (R569). -/
def Spill.wf (p : Spill) : Bool := decide (p.payload.length ≤ 8192) && decide (p.payload.length ≤ p.len24.toNat)

/-- A packed partial block takes at most 8 + 4 * 96 bytes (R363); a column has its mask before it (R441). -/
def PartX.wf (x : PartX) : Bool := x.blocks.all (fun b => match b with | some b => decide (b.length ≤ 392) | none => true)
def ColX.wf (x : ColX) : Bool := decide (4 ≤ x.col.length ∧ x.col.length ≤ 396)

/-- A sieve group has its mask word first (R433). -/
def Xfer.wf (x : Xfer) : Bool := decide (x.groups = [] ∨ 8 ≤ x.groups.length)
def RowX.wf (x : RowX) : Bool := decide (x.groups = [] ∨ 8 ≤ x.groups.length)

/-- A window is accessed at a multiple of the access's size (R616). -/
def aligned (off : Nat) (wide : Bool) : Bool := decide (off % (if wide then 8 else 4) = 0)

/-- A command is well formed. -/
def Instr.wf : Instr → Bool
  | .resetAssert _ => true
  | .resetDeassert _ => true
  | .pllLock => true
  | .pllLossOfLock => true
  | .holdUp => true
  | .holdUpStage _ => true
  | .pcieReset _ => true
  | .registerWrite _ _ _ => true
  | .glbNodeWrite _ => true
  | .bar2Read off len _ => decide (1 ≤ len.toNat ∧ len.toNat ≤ 4096) && decide (off.toNat + len.toNat ≤ 2 ^ 48)
  | .bar2Write off data _ => decide (1 ≤ data.length ∧ data.length ≤ 4096) && decide (off.toNat + data.length ≤ 2 ^ 48)
  | .smbusBlockRead _ => true
  | .smbusAlertResponse => true
  | .bypass => true
  | .idcode => true
  | .samplePreload => true
  | .extest => true
  | .extestPulse => true
  | .extestTrain => true
  | .clamp => true
  | .highz => true
  | .query _ _ => true
  | .set _ _ _ => true
  | .clear _ _ => true
  | .clearDrainDone => true
  | .xltCommit _ => true
  | .tableValidationEnd _ => true
  | .drainReq _ => true
  | .drainDone _ => true
  | .rtwinWrite off wide _ => aligned off.toNat wide
  | .attachFlitReceive _ f => decide (f.units.length = 14)
  | .answerSend _ => true
  | .deferReserveExpiry _ _ => true
  | .attachRequestIssue _ => true
  | .pacedRequestRelease _ _ => true
  | .pacingWindowGrow _ _ => true
  | .completionReceive _ => true
  | .load r m => r.wf && m.wf
  | .store r m => r.wf && m.wf
  | .atomicAdd r m => r.wf && m.wf
  | .atomicMin r m => r.wf && m.wf
  | .atomicMax r m => r.wf && m.wf
  | .atomicCas r m => r.wf && m.wf
  | .fence _ => true
  | .cack _ => true
  | .tampedCompletion _ => true
  | .mack _ => true
  | .writeCopy r => r.wf
  | .rdShared r m => r.wf && m.wf
  | .rdOwn r m => r.wf && m.wf
  | .upgrade r m => r.wf && m.wf
  | .writeback r => r.wf && decide (r.data.length = 64)
  | .evict r => r.wf
  | .snoopDelivery _ => true
  | .rspAck p m => m.wf && p.data.isEmpty
  | .rspData p m => m.wf && decide (p.data.length = 64)
  | .rspDirty p m => m.wf && p.data.isEmpty
  | .grant _ _ => true
  | .renew _ _ => true
  | .revoke _ _ _ => true
  | .expire _ _ => true
  | .extAdmit _ _ _ => true
  | .rotate _ _ => true
  | .agentDrop _ _ => true
  | .extTimedApply => true
  | .extwinWrite off wide _ => aligned off.toNat wide
  | .homCtlWrite _ => true
  | .leaseLapse _ => true
  | .revokeDrainDone _ => true
  | .reclaimSnoopTimeout _ => true
  | .reclaimDone _ => true
  | .homeSlot m => m.wf
  | .doorbell _ _ => true
  | .descriptorFetch _ => true
  | .descriptorFetchDone _ r => r.wf
  | .descriptorStart _ _ => true
  | .nop _ => true
  | .copy _ _ _ => true
  | .fill _ _ _ => true
  | .gather _ _ _ => true
  | .embedBag _ _ _ => true
  | .scatter _ _ _ => true
  | .atomicBatch _ _ _ => true
  | .syncWait _ _ _ => true
  | .syncSignal _ _ => true
  | .descriptorFence _ _ => true
  | .alltoall _ xs _ => xs.all Xfer.wf
  | .alltoallv _ xs _ => xs.all Xfer.wf
  | .reduceScatter _ xs _ => xs.all PartX.wf
  | .allGather _ xs _ => xs.all Xfer.wf
  | .sparseReduce _ xs _ => xs.all ColX.wf
  | .dispatch _ xs _ _ => xs.all RowX.wf
  | .combine _ x _ => x.rows.all RowX.wf
  | .enginePageBoundary _ _ _ => true
  | .descriptorComplete _ _ => true
  | .holdoffExpiry _ => true
  | .queueCommit _ => true
  | .queueIdle _ => true
  | .evtCfgWrite _ _ => true
  | .evtHeadWrite _ _ => true
  | .synAdd _ _ => true
  | .syncReset _ => true
  | .watchRegister _ _ _ _ _ => true
  | .wake _ => true
  | .syncPoll _ _ _ => true
  | .syncWaitTimeout _ _ => true
  | .synArm _ _ => true
  | .synDisarm _ => true
  | .armTickExpiry _ => true
  | .armEntryTaken => true
  | .timeHbSend _ => true
  | .timeHb _ _ _ => true
  | .rootElection => true
  | .parentTimeout => true
  | .dttCtlWrite _ => true
  | .dttRootsWrite _ => true
  | .barrierArm _ => true
  | .barrierDisarm => true
  | .arrive _ _ _ => true
  | .release _ _ _ _ _ => true
  | .barrierFire => true
  | .dtSyncEdge => true
  | .slotBoundary => true
  | .schedFlitReceive _ f => decide (f.data.length = 248)
  | .validate _ => true
  | .ttArm _ => true
  | .ttDisarm _ => true
  | .ttCheckDone => true
  | .timetableSwap => true
  | .ttwinWrite off wide _ => aligned off.toNat wide
  | .apply => true
  | .forceK _ => true
  | .dilationStep => true
  | .kThermDecay => true
  | .tileStep _ _ => true
  | .tileFailure _ => true
  | .spareSubstitution _ => true
  | .spareTest _ => true
  | .spareTestDone _ => true
  | .spareEnable _ => true
  | .spareDisable _ => true
  | .engTCtlWrite _ _ => true
  | .doppioStep _ _ => true
  | .doppioCompare _ _ => true
  | .groupEnable _ => true
  | .groupDisable _ => true
  | .groupCmdDone => true
  | .gwinWrite off wide _ => aligned off.toNat wide
  | .signatureRecord _ _ => true
  | .roundStart _ => true
  | .roundEnd _ => true
  | .abortRecord _ _ _ _ => true
  | .collHoldTimeout _ => true
  | .emapEnable _ => true
  | .emapDisable _ => true
  | .emapCmdDone => true
  | .emapWinWrite _ off wide _ => aligned off.toNat wide
  | .expertDecision _ _ _ => true
  | .heartbeatMiss _ => true
  | .orderSubmit => true
  | .orderFrag _ _ off total data => decide (off.toNat + data.length ≤ total.toNat)
  | .orderVerifyDone => true
  | .expel _ => true
  | .admitOrder _ _ _ => true
  | .admitEffective _ => true
  | .keys slot key => decide (slot.toNat < 5) && decide (key.length = 48)
  | .stop _ _ => true
  | .jobStopCmd _ _ => true
  | .jobResumeCmd _ _ => true
  | .mirrorRepairStart _ _ => true
  | .sedStart => true
  | .sedStop => true
  | .sedReplay => true
  | .sedimentSlot recs => recs.all (fun b => decide (b.length = 32))
  | .sedReplayHoldTimeout => true
  | .dirSweepSlot => true
  | .telemetrySlot => true
  | .laneCalSlot _ _ => true
  | .portEnable _ _ => true
  | .portTest _ _ => true
  | .retrain _ => true
  | .deep _ _ => true
  | .trainingPhaseDone _ _ => true
  | .trainingTimeout _ => true
  | .failedRetry _ => true
  | .portId _ m => decide (m.grants.length = 16)
  | .fecGroupReceive _ _ syms _ => decide (syms.length = 2304)
  | .flitReceive _ f => decide (f.length = 256)
  | .linkNak _ _ => true
  | .replay _ _ => true
  | .nakTimeout _ => true
  | .crcSilenceTimeout _ => true
  | .tag _ _ _ _ _ => true
  | .quietReq _ => true
  | .quietAck _ => true
  | .quietResume _ => true
  | .deepAck _ => true
  | .single _ => true
  | .burst _ _ => true
  | .laneClr _ => true
  | .cmisAccess _ => true
  | .cmisAccessDone _ d => decide (d.length ≤ 32)
  | .cmisPoll _ _ fl => decide (fl.length ≤ 256)
  | .switchForward _ _ => true
  | .escapeReroute => true
  | .swcCommit => true
  | .ethLinkChange _ _ => true
  | .sendDoorbell _ _ => true
  | .receiveDoorbell _ _ => true
  | .putRecord _ b _ => decide (b.length = 64)
  | .getRecord _ b _ => decide (b.length = 64)
  | .sendRecord _ b _ => decide (b.length = 64)
  | .put _ p _ => p.wf
  | .getReq _ p _ => p.wf
  | .getResp _ p _ => p.wf
  | .send _ p _ _ => p.wf
  | .ack _ p => p.wf
  | .spillNak _ p => p.wf
  | .spillAckTimer _ => true
  | .spillRto _ _ => true
  | .spillWindowGrow _ => true
  | .neighbourSolicitation _ _ _ => true
  | .echoRequest _ _ _ _ => true
  | .otherFrame _ => true
  | .report _ => true
  | .secOpen _ => true
  | .close _ => true
  | .secLoad _ => true
  | .erase _ _ _ _ => true
  | .linkRekey _ => true
  | .secCmdDone => true
  | .sessionExpiry _ => true
  | .sensorTrip _ => true
  | .alarmEscalate => true
  | .alarmLatchClear _ => true
  | .bootRomReady => true
  | .imgwinWrite off wide _ => aligned off.toNat wide
  | .boot => true
  | .bootDone _ => true
  | .update => true
  | .handoverLoadDone _ => true
  | .handoverSyncDone _ => true
  | .switch _ => true
  | .quiescentBoundary => true
  | .abort => true
  | .handoverTimeout => true
  | .svnCommit => true
  | .standbyTakeover _ => true
  | .clayWrite _ _ => true
  | .clayWriteDone _ _ => true
  | .timedCommitArm => true
  | .timedCommitCancel => true
  | .timedCommit => true
  | .version => true
  | .sensors => true
  | .poolTest _ => true
  | .poolTestDone _ _ => true
  | .avsStep _ _ => true
  | .avsStatusAlert => true
  | .thermalSample _ => true
  | .thermalRequest _ => true
  | .supplyRemoved => true
  | .powerUp => true
  | .pcieRefclkLoss => true
  | .deepExit _ => true
  | .prbsLock _ _ _ => true
  | .latchedRead off => decide (off.toNat % 4 = 0)
  | .extCmdDone => true
  | .standbyFollows => true

end Sys2Proof
end

