-- ==== Sys2Proof/Safety.lean ====
section
/-!
DEFINITION. The terms that statements use: what a command leaves behind, and which states are sound.
-/

namespace Sys2Proof

/-! ### Kinds of commands -/

/-- Commands that act on a node that is down: RST_N, the supplies, PCIE_REFCLK and the JTAG port (DESIGN CHOICE, log entry 11). -/
def Instr.outside : Instr → Bool
  | .resetAssert _ | .resetDeassert _ | .supplyRemoved | .powerUp | .pcieRefclkLoss | .bypass | .idcode | .samplePreload | .extest
  | .extestPulse | .extestTrain | .clamp | .highz => true
  | _ => false

/-- Writes of software or of a host, and commands written to a command register: none is taken in a hold-up (R649). -/
def Instr.isWrite : Instr → Bool
  | .registerWrite _ _ _ | .glbNodeWrite _ | .query _ _ | .set _ _ _ | .clear _ _ | .xltCommit _ | .drainReq _ | .rtwinWrite _ _ _
  | .grant _ _ | .renew _ _ | .revoke _ _ _ | .expire _ _ | .extAdmit _ _ _ | .rotate _ _ | .agentDrop _ _ | .extwinWrite _ _ _
  | .homCtlWrite _ | .doorbell _ _ | .queueCommit _ | .evtCfgWrite _ _ | .evtHeadWrite _ _ | .synAdd _ _ | .syncReset _ | .synArm _ _
  | .synDisarm _ | .dttCtlWrite _ | .dttRootsWrite _ | .barrierArm _ | .barrierDisarm | .validate _ | .ttArm _ | .ttDisarm _
  | .ttwinWrite _ _ _ | .apply | .forceK (.written _) | .spareTest _ | .spareEnable _ | .spareDisable _ | .engTCtlWrite _ _ | .groupEnable _
  | .groupDisable _ | .gwinWrite _ _ _ | .emapEnable _ | .emapDisable _ | .emapWinWrite _ _ _ _ | .orderSubmit | .jobStopCmd _ _
  | .jobResumeCmd _ _ | .mirrorRepairStart _ _ | .sedStart | .sedStop | .sedReplay | .portEnable _ _ | .portTest _ _ | .retrain _
  | .deep _ _ | .single _ | .burst _ _ | .laneClr _ | .cmisAccess _ | .swcCommit | .sendDoorbell _ _ | .receiveDoorbell _ _ | .report _
  | .secOpen _ | .close _ | .secLoad _ | .erase _ _ _ _ | .linkRekey _ | .alarmLatchClear _ | .imgwinWrite _ _ _ | .boot | .update
  | .switch _ | .abort | .svnCommit | .clayWrite _ _ | .timedCommitArm | .timedCommitCancel | .version | .sensors | .poolTest _ => true
  | _ => false

/-- Commands that may change the clock, the slot number and the phase. -/
def Instr.movesClock : Instr → Bool
  | .resetDeassert _ | .timeHb _ _ _ | .barrierFire | .dtSyncEdge | .slotBoundary | .dilationStep => true
  | _ => false

/-- Commands that may change the clay bank or its pending writes. -/
def Instr.writesClay : Instr → Bool
  | .resetDeassert _ | .holdUpStage _ | .registerWrite _ _ _ | .load _ _ | .store _ _ | .atomicAdd _ _ | .atomicMin _ _ | .atomicMax _ _
  | .atomicCas _ _ | .writeCopy _ | .rdShared _ _ | .rdOwn _ _ | .upgrade _ _ | .writeback _ | .evict _ | .rspAck _ _ | .rspData _ _
  | .rspDirty _ _ | .extTimedApply | .reclaimSnoopTimeout _ | .tileStep _ _ | .tileFailure _ | .spareSubstitution _ | .spareTest _
  | .spareEnable _ | .spareDisable _ | .doppioCompare _ _ | .orderVerifyDone | .expel _ | .admitOrder _ _ _ | .admitEffective _
  | .keys _ _ | .sedStart | .sedStop | .sedReplay | .sedimentSlot _ | .alarmEscalate | .alarmLatchClear _ | .svnCommit
  | .standbyTakeover _ | .clayWrite _ _ | .clayWriteDone _ _ | .supplyRemoved | .extCmdDone => true
  | _ => false

end Sys2Proof

namespace Sys2Proof.Machine

/-- The command goes through on the state: `exec` answers a next state, and `P` holds of it. -/
def Goes (c : Instr) (s : State) (P : State → Prop) : Prop := ∃ t, exec c s = .next t ∧ P t

/-- The node takes host writes and firmware commands: it is up and no hold-up runs (R649). -/
def State.takes (s : State) : Bool := s.up && !s.pwr.holdUp

/-- The pins are sound: outputs are driven only by a node that is up (R654), and a stage of a hold-up has fallen due only in a
hold-up (R649). -/
def State.pinsOk (s : State) : Prop := (s.pwr.driven = true → s.up = true) ∧ (s.pwr.stage.isSome = true → s.pwr.holdUp = true)

/-- Every addressed memory of the block is in canonical form. -/
def Mems.wf (m : Mems) : Bool :=
  Mem.wf m.pool && Mem.wf m.sram && Mem.wf m.rt && Mem.wf m.ext && Mem.wf m.tt && Mem.wf m.grp && Mem.wf m.ehdr && Mem.wf m.eent &&
    Mem.wf m.llog && Mem.wf m.sed && Mem.wf m.rptwin && Mem.wf m.cmdwin && Mem.wf m.ordwin && Mem.wf m.mbwin && Mem.wf m.img &&
    Mem.wf m.msix

/-- The state is one that a run can be in: its queue apart, the pins are sound and the memories canonical. -/
def State.sound (s : State) : Prop := s.pinsOk ∧ s.mems.wf = true

end Sys2Proof.Machine
end

