-- ==== Sys2Proof/Certificates/Slice0/Obligations.lean ====
section
/-!
DEFINITION. The statements for the provers, in the order of OBLIGATIONS.json: what each command does by the rules of spec/, then the whole block.
A statement that a command answers a next state is an equation of `exec`, or `Goes c s P`: `exec c s` is the next state and P holds of it.
Premises `swf d xs` and `Mem.wf` say that a store is in its canonical form, which every step keeps.
-/

open Sys2Proof Sys2Proof.Machine

/-- RESET_ASSERT of 100 ns or more on a powered package sets RST_N low and releases every output; a shorter pulse changes nothing (R658). RESET_DEASSERT
on a powered package in reset samples the straps (R657), leaves home, end point, translation, sessions and the clock as State.reset has them, and the
node then runs, with its outputs driven, exactly if PWRFAIL_N was high and no alarm or thermal hold stands. SUPPLY_REMOVED leaves the package
unpowered, nothing driven, no hold-up and no PCIe link (R654). POWER_UP powers the package with RST_N low and nothing driven, and keeps registers,
memories and clay (R665). PCIE_REFCLK_LOSS ends the PCIe link and changes nothing else (R52). PLL_LOCK on a running node sets PLL_LOCK of PWR_STAT
(R644). PLL_LOSS_OF_LOCK clears it, holds the node in reset, and keeps the memories (R53). A PCIE_RESET leaves the node running; after a PERST_N reset
the link is up exactly if its reference clock is, after the others it is as before. What is not due, or finds no case for it, changes nothing: the
model's choice (log entry 20). -/
def Obligations.PowerAndReset : Prop :=
  ((∀ (s : State) (ns : Nat), s.pwr.powered = true → 100 ≤ ns →
    exec (.resetAssert ns) s = .next { s with pwr := { s.pwr with rstN := false, driven := false, alarmN := true, smbAlertN := true } }) ∧
  (∀ (s : State) (ns : Nat), ns < 100 → exec (.resetAssert ns) s = .next s) ∧
  (∀ (s : State) (st : Straps), s.pwr.powered = true → s.pwr.rstN = false →
    Goes (.resetDeassert st) s (fun t => t.pwr.straps = st ∧ t.pwr.rstN = true ∧ t.pwr.holdUp = false ∧ t.pending = s.pending ∧
      t.home = State.reset.home ∧ t.ep = State.reset.ep ∧ t.xlt = State.reset.xlt ∧ t.sec = State.reset.sec ∧ t.clk = State.reset.clk ∧
      (t.up = true ↔ st.pwrfailN = true ∧ s.pwr.hold ≠ .alarm ∧ s.pwr.hold ≠ .thermal) ∧ (t.pwr.driven = true ↔ t.up = true)))) ∧
  ((∀ s : State, Goes .supplyRemoved s (fun t => t.up = false ∧ t.pwr.powered = false ∧ t.pwr.driven = false ∧ t.pwr.holdUp = false ∧
    t.pwr.pcieUp = false ∧ t.regs = (s.clayFlush s.clay.pend).regs)) ∧
  (∀ s : State, s.pwr.powered = false → Goes .powerUp s (fun t => t.pwr.powered = true ∧ t.pwr.rstN = false ∧ t.up = false ∧
    t.pwr.driven = false ∧ t.pwr.jtag = .idcode ∧ t.regs = s.regs ∧ t.mems = s.mems ∧ t.clay = s.clay)) ∧
  (∀ s : State, exec .pcieRefclkLoss s = .next { s with pwr := { s.pwr with refclk := false, pcieUp := false } })) ∧
  ((∀ s : State, s.up = true → exec .pllLock s = .next (s.setF F.PWR_STAT_PLL_LOCK 1)) ∧
  (∀ s : State, s.up = true → swf regReset s.regs = true → Goes .pllLossOfLock s (fun t => t.pwr.hold = .pll ∧ t.up = false ∧ t.pwr.driven = false ∧
    t.f F.PWR_STAT_PLL_LOCK = 0 ∧ t.mems = s.mems)) ∧
  (∀ (s : State) (k : PcieReset), s.up = true → Goes (.pcieReset k) s (fun t => t.up = true ∧
    t.pwr.perstN = (s.pwr.perstN || decide (k = .perst)) ∧ t.pwr.pcieUp = (if k = .perst then s.pwr.refclk else s.pwr.pcieUp))))

/-- HOLD_UP starts a hold-up, dated 125 ticks back, on a node that runs on, and ends a handover in progress. HOLD_UP_STAGE: the four stages come in their
order, none before its time after the fall (250, 5,000, 7,500, 12,500 ticks); the second leaves no clay write pending, and the last holds the node in
reset with nothing driven (R649). Before its time, or with no hold-up, a stage changes nothing. What is not due, or finds no case for it, changes
nothing: the model's choice (log entry 20). -/
def Obligations.HoldUp : Prop :=
  (∀ s : State, s.up = true → Goes .holdUp s (fun t => t.pwr.holdUp = true ∧ t.up = true ∧ (s.fwm.mbWait = none → t.mems = s.mems) ∧
    (s.pwr.holdUp = false → t.pwr.failAt = s.now - 125) ∧ (s.hstate ≠ 0 → s.pwr.holdUp = false → swf regReset s.regs = true → t.hstate = 0))) ∧
  (∀ s : State, s.up = true → s.pwr.holdUp = true → s.pwr.stage = none → 250 ≤ (s.now - s.pwr.failAt).toNat →
    Goes (.holdUpStage .going) s (fun t => t.pwr.stage = some .going ∧ t.up = true)) ∧
  (∀ s : State, s.up = true → s.pwr.holdUp = true → s.pwr.stage = some .going → 5000 ≤ (s.now - s.pwr.failAt).toNat →
    Goes (.holdUpStage .clayEnd) s (fun t => t.pwr.stage = some .clayEnd ∧ t.clay.pend = [])) ∧
  (∀ s : State, s.up = true → s.pwr.holdUp = true → s.pwr.stage = some .clayEnd → 7500 ≤ (s.now - s.pwr.failAt).toNat →
    Goes (.holdUpStage .powerFail) s (fun t => t.pwr.stage = some .powerFail ∧ t.up = true)) ∧
  (∀ s : State, s.up = true → s.pwr.holdUp = true → s.pwr.stage = some .powerFail → 12500 ≤ (s.now - s.pwr.failAt).toNat →
    exec (.holdUpStage .selfReset) s = .next { s with pwr := { s.pwr with stage := some .selfReset, hold := .holdUpEnd, driven := false, alarmN := true, smbAlertN := true } }) ∧
  (∀ (s : State) (g : HoldStage), s.up = true → s.pwr.holdUp = false → exec (.holdUpStage g) s = .next s) ∧
  (∀ (s : State) (g : HoldStage), s.up = true → (s.now - s.pwr.failAt).toNat < holdUpTicks g → exec (.holdUpStage g) s = .next s)

/-- The JTAG instructions on a powered package: BYPASS, SAMPLE/PRELOAD and IDCODE are always admitted, and IDCODE shifts out 0x07264B47 with the stepping
above it; EXTEST, EXTEST_PULSE, EXTEST_TRAIN, CLAMP and HIGHZ are admitted on a node that runs with BOOT_SEL 0b10, and elsewhere leave the TAP in
bypass (R663; the bypass is the model's, log entry 5, PRESUMED). Unpowered, none of them changes anything. SMBUS_BLOCK_READ: seven command codes read
a register each: the count 4, 4 bytes, little-endian, and the packet error code; another code is not acknowledged. SMBUS_ALERT_RESPONSE: while
SMB_ALERT_N is low the node answers with its address and the packet error code and releases the pin; while it is high nothing happens (R662; the
code's polynomial is that of SMBus, log entry 128, PRESUMED). What is not due, or finds no case for it, changes nothing: the model's choice (log entry
20). -/
def Obligations.SideBands : Prop :=
  ((∀ s : State, s.pwr.powered = true → exec .bypass s = .next { s with pwr := { s.pwr with jtag := .bypass, driven := s.up } }) ∧
  (∀ s : State, s.pwr.powered = true →
    exec .samplePreload s = .next { s with pwr := { s.pwr with jtag := .samplePreload, driven := s.up } }) ∧
  (∀ s : State, s.pwr.powered = true → exec .idcode s =
    .next { s with pwr := { s.pwr with jtag := .idcode, driven := s.up }, out := s.out ++ [.jtag (s.part.stepping.toNat * 2 ^ 28 + 0x07264B47)] }) ∧
  (∀ (s : State) (c : Instr) (j : Jtag), (c, j) ∈ [(Instr.extest, Jtag.extest), (.extestPulse, .extestPulse), (.extestTrain, .extestTrain),
      (.clamp, .clamp), (.highz, .highz)] →
    (s.up = true ∧ s.pwr.straps.bootSel = 2 → exec c s = .next { s with pwr := { s.pwr with jtag := j, driven := decide (c ≠ .highz) } }) ∧
    (s.pwr.powered = true ∧ (s.up = false ∨ s.pwr.straps.bootSel ≠ 2) →
      exec c s = .next { s with pwr := { s.pwr with jtag := .bypass, driven := s.up } })) ∧
  (∀ (s : State) (c : Instr), c ∈ [Instr.bypass, .idcode, .samplePreload, .extest, .extestPulse, .extestTrain, .clamp, .highz] →
    s.pwr.powered = false → exec c s = .next s)) ∧
  ((∀ (s : State) (code : BitVec 8) (v : R32), s.up = true →
    (code, v) ∈ [((1 : BitVec 8), s.ident), (2, s.rd Reg.GLB_NODE), (3, s.rd Reg.PWR_TMAX), (4, s.rd Reg.PWR_POWER), (5, s.rd Reg.PWR_STAT),
      (6, s.rd Reg.SEC_ALARM_STAT), (7, s.rd Reg.FWM_STAT)] →
    exec (.smbusBlockRead code) s = .next { s with out := s.out ++ [.smbus (4 :: natLe 4 v.toNat ++ [pec ([0xB4, code, 0xB5] ++ 4 :: natLe 4 v.toNat)])] }) ∧
  (∀ (s : State) (code : BitVec 8), s.up = true → (code = 0 ∨ 8 ≤ code.toNat) → exec (.smbusBlockRead code) s = .next s) ∧
  (∀ s : State, s.up = true → s.pwr.smbAlertN = false →
    exec .smbusAlertResponse s = .next { s with pwr := { s.pwr with smbAlertN := true }, out := s.out ++ [.smbus [0xB4, pec [0x19, 0xB4]]] }) ∧
  (∀ s : State, s.up = true → s.pwr.smbAlertN = true → exec .smbusAlertResponse s = .next s))

/-- REGISTER_WRITE: an access that is not naturally aligned completes with Unsupported Request; 4 bytes to a register are one write, 8 bytes two, lower
address first, and a write to a window goes to the window (R616); at seven registers without side effects of their own the write leaves the register's
bits merged by access class, and XLT_PRES_VA_LO takes bits [31:16] (R20, R22). LATCHED_READ: an access that is not aligned to 4 completes with
Unsupported Request; a read of DTT_NOW_LO returns the low half of domain time and latches the upper half (R616). GLB_NODE_WRITE. With NODE_LOCK set
the write changes nothing; with it clear, NODE_ID takes bits [5:0] and TRAY_POS stays; a write that sets NODE_LOCK keeps pins, clay and translation,
and where no torus port waits in its ID exchange it sets the two fields and nothing else (R34, R58). BAR2_READ, BAR2_WRITE. An access through an
aperture that is not VALID completes with Unsupported Request (R618). An aligned read of 4 bytes returns the bytes of its completion, or Completer
Abort where that is not OK; a write of one byte to a home that is lost posts BAR_FAULT and does nothing else (R619); a write of one byte keeps clay,
translation and pins. What is not due, or finds no case for it, changes nothing: the model's choice (log entry 20). -/
def Obligations.HostAccesses : Prop :=
  ((∀ (s : State) (off : BitVec 25) (wide : Bool) (v : R64), s.takes = true → off.toNat % (if wide then 8 else 4) ≠ 0 →
    exec (.registerWrite off wide v) s = .next (s.emit .pcieUnsupported)) ∧
  (∀ (s : State) (off : BitVec 25) (v : R64), s.takes = true → off.toNat % 4 = 0 → s.winWr off.toNat false v = none →
    exec (.registerWrite off false v) s = .next (s.write32 off.toNat (v.setWidth 32))) ∧
  (∀ (s t : State) (off : BitVec 25) (wide : Bool) (v : R64), s.takes = true → off.toNat % (if wide then 8 else 4) = 0 →
    s.winWr off.toNat wide v = some t → exec (.registerWrite off wide v) s = .next t) ∧
  (∀ (s : State) (off : Nat) (v : R64), s.takes = true →
    off ∈ [Reg.FWM_IMG_PAGE, Reg.FWM_TC_TICK_LO, Reg.PWR_AVS, Reg.HOM_LEASE, Reg.HOM_EXT_TICK_LO, Reg.XLT_PRES_VA_HI, Reg.FWM_TC_GROUP] →
    exec (.registerWrite (BitVec.ofNat 25 off) false v) s = .next (s.wr off (s.merged off (v.setWidth 32)))) ∧
  (∀ (s : State) (off : BitVec 25) (v : R64), s.takes = true → off.toNat % 8 = 0 → s.winWr off.toNat true v = none →
    exec (.registerWrite off true v) s =
      .next ((s.write32 off.toNat (v.setWidth 32)).write32 (off.toNat + 4) ((v >>> 32).setWidth 32))) ∧
  (∀ (s : State) (v : R64), s.takes = true →
    exec (.registerWrite (BitVec.ofNat 25 Reg.XLT_PRES_VA_LO) false v) s = .next (s.wr Reg.XLT_PRES_VA_LO
      ((s.rd Reg.XLT_PRES_VA_LO &&& 0xFFFF) ||| (v.setWidth 32 &&& 0xFFFF0000)))) ∧
  (∀ (s : State) (off : BitVec 25), s.up = true → off.toNat % 4 ≠ 0 → exec (.latchedRead off) s = .next (s.emit .pcieUnsupported)) ∧
  (∀ s : State, s.up = true → exec (.latchedRead (BitVec.ofNat 25 Reg.DTT_NOW_LO)) s =
    .next { s with lat := sset (fun _ => 0) s.lat Reg.DTT_NOW_HI ((s.now >>> 32).setWidth 32),
                   out := s.out ++ [.pcieData (natLe 4 ((s.now.setWidth 32 : R32)).toNat)] })) ∧
  ((∀ (s : State) (v : R32), s.takes = true → s.on F.GLB_NODE_NODE_LOCK = true → exec (.glbNodeWrite v) s = .next s) ∧
  (∀ (s : State) (v : R32), s.takes = true → swf regReset s.regs = true → s.on F.GLB_NODE_NODE_LOCK = false → v.getLsbD 31 = false →
    Goes (.glbNodeWrite v) s (fun t => t.node = v.extractLsb' 0 6 ∧ t.on F.GLB_NODE_NODE_LOCK = false ∧
      t.f F.GLB_NODE_TRAY_POS = s.f F.GLB_NODE_TRAY_POS ∧ t.mems = s.mems ∧ t.xlt = s.xlt)) ∧
  (∀ (s : State) (v : R32), s.takes = true → s.on F.GLB_NODE_NODE_LOCK = false → v.getLsbD 31 = true →
    Goes (.glbNodeWrite v) s (fun t => t.pwr = s.pwr ∧ t.clay = s.clay ∧ t.xlt = s.xlt ∧ t.pending = s.pending)) ∧
  (∀ (s : State) (v : R32), s.takes = true → swf regReset s.regs = true → s.on F.GLB_NODE_NODE_LOCK = false → v.getLsbD 31 = true →
    (∀ p : Fin 6, s.pState p.val ≠ pTraining ∨ s.f (F.LAN_P_STAT_PHASE p.val) ≠ 4) →
    exec (.glbNodeWrite v) s = .next ((s.setF F.GLB_NODE_NODE_ID (v.extractLsb' 0 6)).setF F.GLB_NODE_NODE_LOCK 1))) ∧
  ((∀ (s : State) (off : BitVec 48) (len : BitVec 13) (rs : List Resp), s.up = true →
    s.on (F.GLB_APT_BASE_VALID (off.toNat % 2 ^ 36 / 2 ^ 32)) = false → exec (.bar2Read off len rs) s = .next (s.emit .pcieUnsupported)) ∧
  (∀ (s : State) (off : BitVec 48) (d : Bytes) (rs : List Resp), s.up = true →
    s.on (F.GLB_APT_BASE_VALID (off.toNat % 2 ^ 36 / 2 ^ 32)) = false → exec (.bar2Write off d rs) s = .next (s.emit .pcieUnsupported)) ∧
  (∀ (s : State) (off : BitVec 48) (x : Resp) (h : NodeId), s.up = true → off.toNat % 4 = 0 →
    s.on (F.GLB_APT_BASE_VALID (off.toNat % 2 ^ 36 / 2 ^ 32)) = true →
    s.homeOf (s.aptAttr (off.toNat % 2 ^ 36 / 2 ^ 32)) (s.aptDpa (off.toNat % 2 ^ 36)) = some h →
    Goes (.bar2Read off 4 [x]) s (fun t =>
      t.out.getLast? = some (if x.status = stOk then .pcieData (slice x.data 0 4) else .pcieAbort) ∧ t.clay = s.clay ∧ t.xlt = s.xlt)) ∧
  (∀ (s : State) (off : BitVec 48) (b : Byte) (rs : List Resp), s.up = true →
    s.on (F.GLB_APT_BASE_VALID (off.toNat % 2 ^ 36 / 2 ^ 32)) = true →
    s.homeOf (s.aptAttr (off.toNat % 2 ^ 36 / 2 ^ 32)) (s.aptDpa (off.toNat % 2 ^ 36)) = none →
    exec (.bar2Write off [b] rs) s = .next (s.post (evBarFault (s.aptDpa (off.toNat % 2 ^ 36)) stTargetLost true))) ∧
  (∀ (s : State) (off : BitVec 48) (b : Byte) (rs : List Resp), s.up = true →
    s.on (F.GLB_APT_BASE_VALID (off.toNat % 2 ^ 36 / 2 ^ 32)) = true →
    Goes (.bar2Write off [b] rs) s (fun t => t.clay = s.clay ∧ t.xlt = s.xlt ∧ t.pwr = s.pwr ∧ t.pending = s.pending)))

/-- QUERY, SET and CLEAR while XLT_PRES_STAT is not BUSY: a slot that is not resident is refused with ERR 1, pages that are not all in ranges of the
slot's table with presence with ERR 2, and nothing else changes (R80). QUERY shows the bit of the first page; SET without WAKE sets every bit of its
pages; SET with WAKE keeps lanes, clay and pins; CLEAR leaves BUSY set and a clear running. CLEAR_DRAIN_DONE ends it once no request and no
descriptor's step that read a cleared bit is left (R81). XLT_COMMIT of a slot with no validation running starts one on the slot's shadow words; one on
a slot whose validation runs is held (R95). TABLE_VALIDATION_END, where no commit is held: a table without fault makes the captured words effective;
one with a fault leaves the effective words as they were (R96, R97). DRAIN_REQ sets BUSY and records the slot's epoch; DRAIN_DONE clears BUSY and
shows the epoch drained up to once nothing older is left (R100). RTWIN_WRITE to an entry of a live table sets LIVE_WR and writes nothing; elsewhere it
writes the window (R98). -/
def Obligations.TranslationCommands : Prop :=
  ((∀ (s : State) (c : Instr) (n : BitVec 12) (w : Bool) (slot : BitVec 10), s.takes = true → c ∈ [.query n slot, .set w n slot, .clear n slot] →
    s.on F.XLT_PRES_STAT_BUSY = false →
    (s.resident slot.toNat = false → exec c s = .next (s.setF F.XLT_PRES_STAT_ERR 1)) ∧
    (s.resident slot.toNat = true → s.presPages slot.toNat (if c = .query n slot then 1 else n.toNat + 1) = none →
      exec c s = .next (s.setF F.XLT_PRES_STAT_ERR 2))) ∧
  (∀ (s : State) (n : BitVec 12) (slot : BitVec 10) (e : RangeE) (p : Nat) (ps : List (RangeE × Nat)), s.takes = true →
    s.on F.XLT_PRES_STAT_BUSY = false → s.resident slot.toNat = true → s.presPages slot.toNat 1 = some ((e, p) :: ps) →
    exec (.query n slot) s = .next ((s.setF F.XLT_PRES_STAT_ERR 0).setF F.XLT_PRES_STAT_BIT (bit1 (s.present e p)))) ∧
  (∀ (s : State) (n : BitVec 12) (slot : BitVec 10) (ps : List (RangeE × Nat)), s.takes = true → swf regReset s.regs = true →
    s.on F.XLT_PRES_STAT_BUSY = false → s.resident slot.toNat = true → s.presPages slot.toNat (n.toNat + 1) = some ps →
    exec (.set false n slot) s = .next ((s.setF F.XLT_PRES_STAT_ERR 0).presAll (s.slotCtx slot.toNat) true ps) ∧
    Goes (.set true n slot) s (fun t => t.lan = s.lan ∧ t.clay = s.clay ∧ t.pwr = s.pwr) ∧
    Goes (.clear n slot) s (fun t => t.on F.XLT_PRES_STAT_BUSY = true ∧ t.xlt.clearing.isSome = true ∧ t.home = s.home ∧ t.qmg = s.qmg)) ∧
  (∀ (s : State) (ids : List Nat) (ds : List (BitVec 10 × BitVec 16)), s.up = true → s.xlt.clearing = some (ids, ds) →
    (s.ep.ents.any (fun e => e.live && ids.contains e.id) || ds.any (fun d => s.descSteps d.1 d.2)) = false →
    exec .clearDrainDone s = .next { (s.setF F.XLT_PRES_STAT_BUSY 0) with xlt := { s.xlt with clearing := none } })) ∧
  ((∀ (s : State) (slot : BitVec 10), s.takes = true → s.xlt.vals.any (fun v => v.slot == slot) = false →
    exec (.xltCommit slot) s = .next (State.setF { s with xlt := { s.xlt with vals := s.xlt.vals ++ [⟨slot, s.rd (Reg.XLT_CTX_ID slot.toNat),
      s.rd (Reg.XLT_CTX_TBL slot.toNat), s.rd (Reg.SWC_TCM_CLS slot.toNat)⟩] } } F.XLT_STAT_VALIDATING 1)) ∧
  (∀ (s : State) (slot : BitVec 10), s.takes = true → s.xlt.vals.any (fun v => v.slot == slot) = true →
    Goes (.xltCommit slot) s (fun t => t.xlt.heldCommits.contains slot = true ∧ t.xlt.vals = s.xlt.vals ∧ t.regs = s.regs ∧ t.eff = s.eff)) ∧
  (∀ (s : State) (v : Valid), s.up = true → s.xlt.vals = [v] → s.xlt.heldCommits = [] → s.validateErr v = 0 →
    Goes (.tableValidationEnd v.slot) s (fun t => t.xlt.vals = [] ∧ t.lat = s.lat ∧ t.eff =
      (((s.effWr (Reg.XLT_CTX_ID v.slot.toNat) v.id).effWr (Reg.XLT_CTX_TBL v.slot.toNat) v.tbl).effWr (Reg.SWC_TCM_CLS v.slot.toNat) v.cls).eff)) ∧
  (∀ (s : State) (v : Valid), s.up = true → s.xlt.vals = [v] → s.xlt.heldCommits = [] → s.validateErr v ≠ 0 →
    Goes (.tableValidationEnd v.slot) s (fun t => t.xlt.vals = [] ∧ t.eff = s.eff)) ∧
  (∀ (s : State) (slot : BitVec 10), s.takes = true → swf regReset s.regs = true →
    Goes (.drainReq slot) s (fun t => t.on (F.XLT_CTX_DRAIN_BUSY slot.toNat) = true ∧ (slot, s.slotEpoch slot.toNat) ∈ t.xlt.drains ∧
      t.mems = s.mems)) ∧
  (∀ (s : State) (slot : BitVec 10) (cur : Nat), s.up = true → s.xlt.drains = [(slot, cur)] → s.drainWaits slot cur = false →
    exec (.drainDone slot) s = .next { ((s.setF (F.XLT_CTX_DRAIN_BUSY slot.toNat) 0).setF (F.XLT_CTX_DRAIN_UPTO slot.toNat) (BitVec.ofNat 8 cur - 1)) with
      xlt := { s.xlt with drains := [] } }) ∧
  (∀ (s : State) (off : BitVec 18) (wide : Bool) (v : R64), s.takes = true →
    exec (.rtwinWrite off wide v) s = .next (if s.entryLive (s.rtAddr off.toNat / 32) then s.setF F.XLT_STAT_LIVE_WR 1
      else { s with mems := { s.mems with rt := winWrite s.mems.rt (s.rtAddr off.toNat) wide v } })))

/-- ATTACH_FLIT_RECEIVE: a flit of VC 0 with one request header on a trained attach link adds one answer for its number and port; with the request table
empty, no chain, no reserve and no hold-up the header is accepted into the table (R168, R170, R171); on a link that is not trained nothing happens.
ANSWER_SEND: the port's oldest answer leaves in a map unit (R169). DEFER_RESERVE_EXPIRY: one entry held for the class is let go (R175). What is not
due, or finds no case for it, changes nothing: the model's choice (log entry 20). -/
def Obligations.AttachAdmission : Prop :=
  (∀ (s : State) (port : Fin 8) (f : AFlit) (u : BitVec 128), s.up = true → s.trained (6 + port.val) = true → f.vc = 0 → f.units = [u] →
    bitsAt f.map.toNat 83 14 = 1 → s.ep.parts = [] →
    Goes (.attachFlitReceive port f) s (fun t => t.ep.answers.length = s.ep.answers.length + 1 ∧
      (t.ep.answers.getLast?.map (fun a => (a.1, a.2.1))) = some (port.val, fieldAt 8 f.map.toNat 120) ∧ t.mems = s.mems)) ∧
  (∀ (s : State) (port : Fin 8) (f : AFlit) (u : BitVec 128), s.up = true → s.trained (6 + port.val) = true → f.vc = 0 → f.units = [u] →
    bitsAt f.map.toNat 83 14 = 1 → s.ep.parts = [] → s.ep.ents = [] → s.ep.chains = [] → s.ep.reserved = [] → s.pwr.holdUp = false →
    Goes (.attachFlitReceive port f) s (fun t => t.ep.ents.length = 1 ∧ t.ep.nextId = s.ep.nextId + 1 ∧
      t.ep.answers = s.ep.answers ++ [(port.val, fieldAt 8 f.map.toNat 120, 1)])) ∧
  (∀ (s : State) (port : Fin 8) (f : AFlit), s.up = true → s.trained (6 + port.val) = false → exec (.attachFlitReceive port f) s = .next s) ∧
  (∀ (s : State) (port : Fin 8) (a : Nat × BitVec 8 × BitVec 14), s.up = true → s.ep.answers.find? (fun a => decide (a.1 = port.val)) = some a →
    Goes (.answerSend port) s (fun t => t.ep = { s.ep with answers := s.ep.answers.eraseP (fun x => decide (x = a)) } ∧
      (∃ n : BitVec 8, t.out = s.out ++ [.answer port.val (attachMap n 0 (some a.2))]) ∧ t.mems = s.mems ∧ t.home = s.home)) ∧
  (∀ (s : State) (port : Fin 8), s.up = true → s.ep.answers.find? (fun a => decide (a.1 = port.val)) = none →
    exec (.answerSend port) s = .next s) ∧
  (∀ (s : State) (port : Fin 8) (c : BitVec 2), s.up = true → exec (.deferReserveExpiry port c) s =
    .next { s with ep := { s.ep with reserved := s.ep.reserved.eraseP (fun h => decide (h.port = port.val) && h.cls == c) } })

/-- ATTACH_REQUEST_ISSUE of the port's oldest request, no FENCE standing: a malformed one is counted and ends RIGHTS (R179); one whose translation gives a
home is sent where nothing waits before it and its window has room, else it waits paced (R78, R222). FENCE, and the issue of a FENCE that is the only
entry: it completes, and what is left of it only leaves the port (R186). PACED_REQUEST_RELEASE: the one waiting request of a home is sent when its
window has room; with none waiting nothing changes (R222). PACING_WINDOW_GROW: 64 ticks after the last marked completion the window grows by 16 KiB up
to 1 MiB, else nothing changes (R221). -/
def Obligations.AttachIssue : Prop :=
  (∀ (s : State) (port : Fin 8) (e : Ent), s.up = true → s.ep.ents.any (fun e => decide (e.port = port.val ∧ e.st = .fencing)) = false →
    s.oldest port.val = some e → malformed e = true →
    exec (.attachRequestIssue port) s =
      .next ((s.incF (F.SWC_P_MALF_COUNT (6 + port.val)) 1).completeEnt e none stRights false false [])) ∧
  (∀ (s : State) (port : Fin 8) (e : Ent) (slot : Nat) (dst : NodeId) (r : Req), s.up = true →
    s.ep.ents.any (fun e => decide (e.port = port.val ∧ e.st = .fencing)) = false →
    s.oldest port.val = some e → s.on F.FLT_STAT_SELF_EXP = false → malformed e = false → e.isFence = false →
    s.translateEnt e = .ok slot dst r → (s.pacedOf port.val dst).isEmpty = true → s.mayPace e dst = true →
    exec (.attachRequestIssue port) s = .next ((s.setEnt e.id (fun x =>
      { x with slot := BitVec.ofNat 10 slot, epoch := s.slotEpoch slot, req := some { r with dst := dst } })).sendEnt e slot dst r)) ∧
  (∀ (s : State) (port : Fin 8) (e : Ent) (slot : Nat) (dst : NodeId) (r : Req), s.up = true →
    s.ep.ents.any (fun e => decide (e.port = port.val ∧ e.st = .fencing)) = false →
    s.oldest port.val = some e → s.on F.FLT_STAT_SELF_EXP = false → malformed e = false → e.isFence = false →
    s.translateEnt e = .ok slot dst r → s.mayPace e dst = false →
    exec (.attachRequestIssue port) s = .next ((s.setEnt e.id (fun x =>
      { x with slot := BitVec.ofNat 10 slot, epoch := s.slotEpoch slot, req := some { r with dst := dst } })).setEnt e.id (fun x => { x with st := .paced }))) ∧
  (∀ (s : State) (port : Fin 8) (e : Ent), s.up = true → s.ep.ents = [e] → e.port = port.val → e.st = .waiting → s.ep.parts = [] →
    e.isFence = true → malformed e = false → s.on F.FLT_STAT_SELF_EXP = false → s.ep.ncFails = [] →
    ∀ c ∈ [Instr.fence port, .attachRequestIssue port], Goes c s (fun t => (∀ x ∈ t.ep.ents, x.st = .leaving) ∧ t.xlt = s.xlt)) ∧
  (∀ (s : State) (port : Fin 8) (home d : NodeId) (e : Ent) (r : Req), s.up = true → s.pacedOf port.val home = [e] → e.req = some r →
    s.jobStopped r.job = false → s.homeOf r.attr r.dpa = some d → s.mayPace e home = true →
    exec (.pacedRequestRelease port home) s = .next (s.sendEnt e e.slot.toNat d r)) ∧
  (∀ (s : State) (port : Fin 8) (home : NodeId), s.up = true → s.pacedOf port.val home = [] →
    exec (.pacedRequestRelease port home) s = .next s) ∧
  (∀ (s : State) (port : Fin 8) (home : NodeId), s.up = true → exec (.pacingWindowGrow port home) s =
    .next (if s.now.toNat < (s.paceOf port.val home).lastCe.toNat + 64 then s
      else s.setPace port.val home { s.paceOf port.val home with w := min ((s.paceOf port.val home).w + 0x4000) 0x100000, lastCe := s.now }))

/-- COMPLETION_RECEIVE of a completion without data for the only entry of the request table ends it: what is left of it only leaves the port (R187); one
that answers nothing changes nothing. CACK releases the completion kept for its number, or for its tamped operation, and notes that number (R183,
R214); one for nothing kept changes nothing. TAMPED_COMPLETION for no record changes nothing; one for the only record ends it and keeps memories and
the home (R213). MACK with OK ends the wait of the mirrored write for its copy; one that comes before its write is kept (R189). What is not due, or
finds no case for it, changes nothing: the model's choice (log entry 20). -/
def Obligations.Completions : Prop :=
  (∀ (s : State) (c : Cpl) (e : Ent) (r : Req), s.up = true → c.opc = 0x30 → s.ep.ents = [e] → s.entFor c = some (e, r) →
    Goes (.completionReceive c) s (fun t => (∀ x ∈ t.ep.ents, x.st = .leaving) ∧ t.clay = s.clay ∧ t.xlt = s.xlt)) ∧
  (∀ (s : State) (c : Cpl), s.up = true → s.entFor c = none → s.ownFor c = none → exec (.completionReceive c) s = .next s) ∧
  (∀ (s : State) (c : Cpl) (k : Kept), s.up = true → c.tamped = false → k.tamped = false →
    s.home.kept.find? (fun k => !k.tamped && k.agent == c.agent && k.cls == c.cls && k.seq == c.seq) = some k →
    exec (.cack c) s = .next { s with home := { s.home with
      kept := s.home.kept.eraseP (fun x => decide (x = k))
      acked := sset noNums s.home.acked (seriesKey k.agent k.home k.cls) (ackNum k.seq (sget noNums s.home.acked (seriesKey k.agent k.home k.cls))) } }) ∧
  (∀ (s : State) (c : Cpl) (k : Kept), s.up = true → c.tamped = true → k.tamped = true →
    s.home.kept.find? (fun k => k.tamped && k.tamp == c.tampId) = some k →
    exec (.cack c) s = .next { s with home := { s.home with
      kept := s.home.kept.eraseP (fun x => decide (x = k))
      ackedTamps := sset noOp s.home.ackedTamps k.tamp.toNat (some (k.agent, k.seq)) } }) ∧
  (∀ (s : State) (c : Cpl), s.up = true → s.home.kept = [] → exec (.cack c) s = .next s) ∧
  (∀ (s : State) (c : Cpl), s.up = true → s.swc.tamps = [] → exec (.tampedCompletion c) s = .next s) ∧
  (∀ (s : State) (c : Cpl) (x : TampRec), s.up = true → s.swc.tamps = [x] → (s.tampId x.index x.gen == c.tampId) = true →
    Goes (.tampedCompletion c) s (fun t => t.swc = { s.swc with tamps := [] } ∧ t.mems = s.mems ∧ t.home = s.home ∧ t.regs = s.regs)) ∧
  (∀ (s : State) (c : Cpl) (r : Req) (d : Cpl) (q : Req), s.up = true → s.ep.own = [] → s.home.awaitMack = [(r, d, q)] → r.src = c.agent → r.cls = c.cls →
    r.seq = c.seq → c.status = stOk →
    Goes (.mack c) s (fun t => t.home.awaitMack = [] ∧ t.mems = s.mems ∧ t.clay = s.clay)) ∧
  (∀ (s : State) (c : Cpl), s.up = true → s.ep.own = [] → s.home.awaitMack = [] →
    exec (.mack c) s = .next { s with home := { s.home with earlyMack := s.home.earlyMack ++ [c] } })

/-- LOAD, STORE and the atomics at their home, for a request that is new, for this node and, in a series, next in it, with sediment off and no hold-up.
Where a check fails (R92) with a status other than REVOKED the request completes with that status. Where the address is engine SRAM (R346) LOAD
returns the bytes (R193), STORE writes them (R189), an atomic writes its result and returns the old value unless NR (R194), each with OK. LOAD, STORE
and the atomics on a pool extent that is neither accumulating, coherent nor mirrored and whose granules stand under a key, where no granule reads
uncorrectable or corrected, for a request as above: a load returns what the pool holds (R193, R589); a store writes its bytes, and an atomic its
result, under the extent's key, and SRAM, extents, translation and queues stay (R189, R194). -/
def Obligations.PlainRequests : Prop :=
  (∀ (s : State) (r : Req) (m : MemCond) (c : Instr) (op : BitVec 6),
    (c, op) ∈ [(Instr.load r m, (1 : BitVec 6)), (.store r m, 2), (.atomicAdd r m, 3), (.atomicMin r m, 4), (.atomicMax r m, 5), (.atomicCas r m, 6)] →
    s.up = true → s.pwr.holdUp = false → dpaNode r.dpa = s.node → r.mc = false → s.f F.FLT_SED_STAT_MODE = 0 →
    s.known { r with opc := op } = false → s.home.supplied = [] →
    (r.ordered = true → r.seq = s.seriesNext r ∧ s.seriesBlocked r = false ∧ s.home.held = []) →
    let u := if r.ordered then s.seriesAdvance r else s
    (∀ st : Status, s.homeCheck { r with opc := op } = .fail st → st ≠ stRevoked → exec c s = .next (u.reply { r with opc := op } st false [])) ∧
    (s.homeCheck { r with opc := op } = .sram → op = 1 → exec c s = .next (u.reply { r with opc := op } stOk false
      (loadUnits (Mem.rdN s.mems.sram (dpaOff r.dpa) r.bytes) (dpaOff r.dpa) r.bytes))) ∧
    (s.homeCheck { r with opc := op } = .sram → op = 2 → exec c s = .next (State.reply { u with mems := { u.mems with
      sram := Mem.wrN s.mems.sram (dpaOff r.dpa) (storeBytes r.data (dpaOff r.dpa) r.bytes) } } { r with opc := op } stOk false [])) ∧
    (s.homeCheck { r with opc := op } = .sram → 3 ≤ op.toNat → exec c s = .next (State.reply { u with mems := { u.mems with
        sram := Mem.wrN s.mems.sram (dpaOff r.dpa) (atomicNew { r with opc := op } (Mem.rdN s.mems.sram (dpaOff r.dpa) (widthBytes r.width))) } }
      { r with opc := op } stOk false (oldUnit r (Mem.rdN s.mems.sram (dpaOff r.dpa) (widthBytes r.width)))))) ∧
  (∀ (s : State) (r : Req) (i : Nat), s.up = true → s.pwr.holdUp = false → dpaNode r.dpa = s.node → r.mc = false →
    s.f F.FLT_SED_STAT_MODE = 0 → s.home.supplied = [] → (s.ext i).accum = false → (s.ext i).coherent = false → (s.ext i).mirrored = false →
    (granulesOf (dpaOff r.dpa) r.bytes).any (fun g => (s.spanKey (s.ext i) (64 * g)).isNone) = false →
    (r.ordered = true → r.seq = s.seriesNext r ∧ s.seriesBlocked r = false ∧ s.home.held = []) →
    let u := if r.ordered then s.seriesAdvance r else s
    (s.known { r with opc := 1 } = false → s.homeCheck { r with opc := 1 } = .pool i → exec (.load r ⟨[], [], []⟩) s =
      .next ((u.poolRead (s.ext i) (dpaOff r.dpa) r.bytes).2.reply { r with opc := 1 } stOk false
        (loadUnits (u.poolRead (s.ext i) (dpaOff r.dpa) r.bytes).1 (dpaOff r.dpa) r.bytes))) ∧
    (s.known { r with opc := 2 } = false → s.homeCheck { r with opc := 2 } = .pool i → Goes (.store r ⟨[], [], []⟩) s (fun t =>
      t.mems.pool = (s.poolWrite (s.ext i) (dpaOff r.dpa) (storeBytes r.data (dpaOff r.dpa) r.bytes)).mems.pool ∧
      t.mems.sram = s.mems.sram ∧ t.mems.ext = s.mems.ext ∧ t.xlt = s.xlt ∧ t.qmg = s.qmg)) ∧
    (∀ (c : Instr) (op : BitVec 6), (c, op) ∈ [(Instr.atomicAdd r ⟨[], [], []⟩, (3 : BitVec 6)), (.atomicMin r ⟨[], [], []⟩, 4),
        (.atomicMax r ⟨[], [], []⟩, 5), (.atomicCas r ⟨[], [], []⟩, 6)] →
      s.known { r with opc := op } = false → s.homeCheck { r with opc := op } = .pool i → Goes c s (fun t =>
      t.mems.pool = ((u.poolRead (s.ext i) (dpaOff r.dpa) (widthBytes r.width)).2.poolWrite (s.ext i) (dpaOff r.dpa)
        (atomicNew { r with opc := op } (u.poolRead (s.ext i) (dpaOff r.dpa) (widthBytes r.width)).1)).mems.pool ∧
      t.mems.sram = s.mems.sram ∧ t.mems.ext = s.mems.ext ∧ t.xlt = s.xlt ∧ t.qmg = s.qmg)))

/-- RD_SHARED, RD_OWN, UPGRADE, WRITEBACK, EVICT at their home, on a coherent extent, for a request that is new, for this node and, in a series, next in
it, with sediment off, no hold-up and no snoop awaited (R250, R255): one on a BUSY line waits; one that needs snoops starts a transaction, with the
pool as before; with none needed the directory entry moves as the request says, and EVICT and an UPGRADE of a recorded sharer complete with OK, a
WRITEBACK of the owner writes its line and completes with OK, one of another agent completes with RIGHTS, and the others load the line. RSP_ACK,
RSP_DATA, RSP_DIRTY, of one of two snoops that a transaction without a request awaits: that snoop is answered and the other stays awaited; RSP_ACK
leaves the memories, RSP_DATA writes its line to the pool (R253, R255), RSP_DIRTY logs the line's loss with cause 3 (R245). With no transaction at all
none of the three changes anything. WRITE_COPY (R263, R264). A copy of a class other than ORDERED for which no copy extent stands answers RIGHTS; one
for which an extent stands is written to the pool and noted as done. An ORDERED copy already done answers OK again; one next in its series, with none
held, is done; one whose predecessor is not done is held. -/
def Obligations.CoherenceAtHome : Prop :=
  (∀ (s : State) (r : Req) (m : MemCond) (i : Nat) (c : Instr) (op : BitVec 6),
    (c, op) ∈ [(Instr.rdShared r m, (8 : BitVec 6)), (.rdOwn r m, 9), (.upgrade r m, 10), (.writeback r, 11), (.evict r, 12)] →
    s.up = true → s.pwr.holdUp = false → dpaNode r.dpa = s.node → r.mc = false → s.f F.FLT_SED_STAT_MODE = 0 →
    s.known { r with opc := op } = false → s.home.supplied = [] → s.homeCheck { r with opc := op } = .pool i → (s.ext i).coherent = true →
    (r.ordered = true → r.seq = s.seriesNext r ∧ s.seriesBlocked r = false) → s.home.held = [] → (∀ t ∈ s.home.txns, t.sids = []) →
    let u := if r.ordered then s.seriesAdvance r else s
    ((({ r with opc := op } : Req).lines.any s.lineBusy) = true → ∃ m' : MemCond, exec c s =
      .next { u with home := { u.home with waits := s.home.waits ++ [({ r with opc := op }, m')] } }) ∧
    ((({ r with opc := op } : Req).lines.any s.lineBusy) = false →
      (({ r with opc := op } : Req).lines.all (fun l => ((s.dirAt (s.ext i) l).snoops { r with opc := op }).isEmpty)) = false →
      Goes c s (fun t => t.home.txns.length = s.home.txns.length + 1 ∧ t.home.waits = s.home.waits ∧ t.mems.pool = s.mems.pool)) ∧
    ((({ r with opc := op } : Req).lines.any s.lineBusy) = false →
      (({ r with opc := op } : Req).lines.all (fun l => ((s.dirAt (s.ext i) l).snoops { r with opc := op }).isEmpty)) = true →
      let d := s.dirAt (s.ext i) (dpaOff r.dpa / 64)
      let v := u.setDir (s.ext i) (dpaOff r.dpa / 64) (d.after { r with opc := op })
      (op = 12 ∨ (op = 10 ∧ d.recorded r.src = true) → exec c s = .next (v.reply { r with opc := op } stOk false [])) ∧
      (op = 11 → d.st = 2 → d.owner = r.src → (s.spanKey (s.ext i) (64 * (dpaOff r.dpa / 64))).isSome = true →
        exec c s = .next ((v.poolWrite (s.ext i) (64 * (dpaOff r.dpa / 64)) (slice r.data 0 64)).reply { r with opc := op } stOk false [])) ∧
      (op = 11 → ¬ (d.st = 2 ∧ d.owner = r.src) → exec c s = .next (v.reply { r with opc := op } stRights false [])) ∧
      (op = 8 ∨ op = 9 ∨ (op = 10 ∧ d.recorded r.src = false) → (s.spanKey (s.ext i) (64 * (dpaOff r.dpa / 64))).isSome = true →
        exec c s = .next (v.execLoad i { r with opc := op } m)))) ∧
  ((∀ (s : State) (p : Snp) (m : MemCond) (t : Txn) (x y : BitVec 16 × AgentId × Nat), s.up = true → s.home.txns = [t] → t.sids = [x, y] →
    x.1 = p.sid → x.2.1 = p.agent → y.1 ≠ p.sid → t.req = none →
    Goes (.rspAck p m) s (fun u => u.home.txns = [{ t with sids := [y] }] ∧ u.mems = s.mems) ∧
    Goes (.rspData p m) s (fun u => u.home.txns = [{ t with sids := [y] }] ∧
      u.mems = (s.poolWrite (s.ext t.ext.toNat) (64 * x.2.2) (slice p.data 0 64)).mems) ∧
    Goes (.rspDirty p m) s (fun u => u.home.txns = [{ t with sids := [y] }] ∧
      u.mems = (s.logLoss 3 x.2.2 (s.ext t.ext.toNat).job p.agent t.ext.toNat).mems)) ∧
  (∀ (s : State) (p : Snp) (m : MemCond) (c : Instr), s.up = true → c ∈ [.rspAck p m, .rspData p m, .rspDirty p m] →
    s.home.txns = [] → exec c s = .next s)) ∧
  ((∀ (s : State) (r : Req), s.up = true → r.cls ≠ 0 → s.copyExt r = none →
    exec (.writeCopy r) s = .next (s.sendCpl (mackFor s r stRights))) ∧
  (∀ (s : State) (r : Req) (i : Nat), s.up = true → r.cls ≠ 0 → s.copyExt r = some i →
    Goes (.writeCopy r) s (fun t => t.mems = (s.poolWrite (s.ext i) (dpaOff r.dpa) (storeBytes r.data (dpaOff r.dpa) r.bytes)).mems ∧
      t.home.copyDone = sset noCopy s.home.copyDone r.key (some r.seq))) ∧
  (∀ (s : State) (r : Req) (n : BitVec 16), s.up = true → r.cls = 0 → sget noCopy s.home.copyDone r.key = some n →
    (n - r.seq).toNat < 32768 → exec (.writeCopy r) s = .next (s.sendCpl (mackFor s r stOk))) ∧
  (∀ (s : State) (r : Req) (n : BitVec 16), s.up = true → r.cls = 0 → sget noCopy s.home.copyDone r.key = some n → 32768 ≤ (n - r.seq).toNat →
    (r.prevSeq = n → s.home.copyHeld = [] → exec (.writeCopy r) s = .next (s.execCopy r)) ∧
    (r.prevSeq ≠ n → r.prevSeq ≠ r.seq → exec (.writeCopy r) s =
      .next { s with home := { s.home with copyHeld := s.home.copyHeld ++ [r] } })))

/-- GRANT, RENEW, REVOKE, EXPIRE, EXT_ADMIT, ROTATE, AGENT_DROP: with BUSY clear and room a command is kept, with BUSY set and the memories as before,
until EXT_CMD_DONE (R235); with BUSY set it is not taken; a timed one is checked, ERR shown, and kept with its tick where no check fails (R237).
EXT_CMD_DONE clears BUSY and shows ERR; a command that fails its check has no other effect, one that passes is applied (R236): GRANT makes the extent
ACTIVE with a new deadline and only its default generation admitted, RENEW gives a new deadline, ADMIT admits one generation more. EXT_TIMED_APPLY
applies a command that is due, where no check fails, and posts EXT_CMD_APPLIED; with none kept it changes nothing. LEASE_LAPSE: with LEASE_EN set, an
ACTIVE or REVOKING extent whose deadline is due lapses: it is EXPIRED, and LEASE_LAPSED posted; with LEASE_EN clear or the deadline not due nothing
changes (R241, R243). REVOKE_DRAIN_DONE: once no request and no recall of the generation is in flight and no line of it is cached, REVOKE_DONE is
posted and the extent is FREE where it admits no generation, else ACTIVE (R246). RECLAIM_SNOOP_TIMEOUT: a snoop of the reclaim that is unanswered for
1 ms counts as answered, its line UNCACHED, and the line of a lost owner is logged with cause 3; with no reclaim of the extent, or no snoop, nothing
changes. RECLAIM_DONE frees the extent once nothing is in flight and no line is cached (R245). HOME_SLOT in a HOUSEKEEPING entry HOME does one share
of background work, once a slot (R274). EXTWIN_WRITE to an extent that is not FREE only sets LIVE_WR; to a FREE one a wide write of word 4 is what the
word then reads (R232). HOM_CTL_WRITE writes the register, and a rise of LEASE_EN renews every lease (R241). What is not due, or finds no case for it,
changes nothing: the model's choice (log entry 20). -/
def Obligations.Extents : Prop :=
  ((∀ (s : State) (c : Instr) (e : BitVec 14) (g : Bool) (a : AgentId), s.takes = true → s.on F.HOM_EXT_RES_BUSY = false →
    s.home.timed.length < 64 → swf regReset s.regs = true →
    c ∈ [.grant e false, .renew e false, .revoke e g false, .expire e false, .extAdmit e g false, .rotate e false, .agentDrop a false] →
    Goes c s (fun t => t.home.cmd.isSome = true ∧ t.on F.HOM_EXT_RES_BUSY = true ∧ t.mems = s.mems)) ∧
  (∀ (s : State) (c : Instr) (e : BitVec 14) (g : Bool) (a : AgentId), s.takes = true → s.on F.HOM_EXT_RES_BUSY = true →
    c ∈ [.grant e false, .renew e false, .revoke e g false, .expire e false, .extAdmit e g false, .rotate e false, .agentDrop a false] →
    exec c s = .next s) ∧
  (∀ (s : State) (v : R32), s.up = true → s.home.cmd = some v → s.cmdErr v ≠ 0 → exec .extCmdDone s = .next
    ((State.setF { s with home := { s.home with cmd := none } } F.HOM_EXT_RES_BUSY 0).setF F.HOM_EXT_RES_ERR (s.cmdErr v))) ∧
  (∀ (s : State) (v : R32) (i : Nat), s.up = true → s.home.cmd = some v → fget F.HOM_EXT_CMD_OP v = 1 →
    i = (fget F.HOM_EXT_CMD_EXTENT v).toNat → s.grantErr i = 0 → Mem.wf s.mems.ext = true →
    Goes .extCmdDone s (fun t => t.home.cmd = none ∧ (t.ext i).state = exActive ∧ (t.ext i).deadline = s.now + s.leaseTicks ∧
      (t.ext i).admitGens = BitVec.ofNat 2 (2 ^ b2n (s.ext i).dgen) ∧ t.mems.pool = s.mems.pool ∧ t.pending = s.pending)) ∧
  (∀ (s : State) (v : R32), s.up = true → s.home.cmd = some v → s.cmdErr v = 0 → exec .extCmdDone s = .next (State.applyCmd barWin
    ((State.setF { s with home := { s.home with cmd := none } } F.HOM_EXT_RES_BUSY 0).setF F.HOM_EXT_RES_ERR 0) v)) ∧
  (∀ (s : State) (v : R32) (i : Nat), s.up = true → s.home.cmd = some v → s.cmdErr v = 0 → Mem.wf s.mems.ext = true →
    i = (fget F.HOM_EXT_CMD_EXTENT v).toNat →
    (fget F.HOM_EXT_CMD_OP v = 2 → Goes .extCmdDone s (fun t => (t.ext i).deadline = s.now + s.leaseTicks ∧ (t.ext i).state = (s.ext i).state)) ∧
    (fget F.HOM_EXT_CMD_OP v = 5 → Goes .extCmdDone s (fun t => (t.ext i).admitGens = (s.ext i).admitGens ||| (if fget F.HOM_EXT_CMD_GEN v = 1 then 2 else 1) ∧
      (t.ext i).state = exActive))) ∧
  (∀ (s : State) (c : Instr) (e : BitVec 14) (g : Bool) (a : AgentId) (v : R32), s.takes = true → s.on F.HOM_EXT_RES_BUSY = false →
    s.home.timed.length < 64 → swf regReset s.regs = true →
    (c, v) ∈ [(Instr.grant e true, extCmdWord 1 true false 0 e), (.renew e true, extCmdWord 2 true false 0 e),
      (.revoke e g true, extCmdWord 3 true g 0 e), (.expire e true, extCmdWord 4 true false 0 e), (.extAdmit e g true, extCmdWord 5 true g 0 e),
      (.rotate e true, extCmdWord 6 true false 0 e), (.agentDrop a true, extCmdWord 7 true false a 0)] →
    Goes c s (fun t => t.home.timed = (if s.cmdErr v = 0 then s.home.timed ++ [(s.extTick, v)] else s.home.timed) ∧
      t.f F.HOM_EXT_RES_ERR = s.cmdErr v ∧ t.mems = s.mems)) ∧
  (∀ (s : State) (t : R64) (v : R32), s.up = true → s.home.timed = [(t, v)] → s.due t = true → s.cmdErr v ≠ 0 →
    exec .extTimedApply s = .next (State.post { s with home := { s.home with timed := [] } } (evCmdApplied v (s.cmdErr v)))) ∧
  (∀ (s : State) (t : R64) (v : R32), s.up = true → s.home.timed = [(t, v)] → s.due t = true → s.cmdErr v = 0 →
    exec .extTimedApply s = .next (State.post (State.applyCmd barWin { s with home := { s.home with timed := [] } } v) (evCmdApplied v 0))) ∧
  (∀ (s : State), s.up = true → s.home.timed = [] → exec .extTimedApply s = .next s)) ∧
  ((∀ (s : State) (x : BitVec 14), s.up = true → s.on F.HOM_CTL_LEASE_EN = true → ((s.ext x.toNat).state = exActive ∨ (s.ext x.toNat).state = exRevoking) →
    s.due (s.ext x.toNat).deadline = true → exec (.leaseLapse x) s = .next (s.lapse x.toNat)) ∧
  (∀ (s : State) (x : BitVec 14), s.up = true → (s.on F.HOM_CTL_LEASE_EN = false ∨ s.due (s.ext x.toNat).deadline = false) →
    exec (.leaseLapse x) s = .next s) ∧
  (∀ (s : State) (x : BitVec 14) (g : Bool) (n : Nat), s.up = true → s.revokeOf x.toNat = some (g, n) → s.inFlight x.toNat (some g) = false →
    s.recalling x.toNat = false → s.linesOfGen x.toNat g = [] →
    exec (.revokeDrainDone x) s = .next (
      let u := (s.dropBg (fun b => decide (b.ext.toNat = x.toNat) && b.isRevoke)).post (evRevokeDone (s.ext x.toNat).job false g x.toNat n)
      if (s.ext x.toNat).admitGens = 0 then u.freeExt x.toNat else u.setExtState x.toNat exActive)) ∧
  (∀ (s : State) (x : BitVec 14), s.up = true → s.reclaims x.toNat = false → exec (.reclaimSnoopTimeout x) s = .next s) ∧
  (∀ (s : State) (x : BitVec 14), s.up = true → s.reclaims x.toNat = true → s.home.txns = [] → exec (.reclaimSnoopTimeout x) s = .next s) ∧
  (∀ (s : State) (x : BitVec 14) (t : Txn) (y : BitVec 16 × AgentId × Nat), s.up = true → s.reclaims x.toNat = true → s.home.txns = [t] →
    t.ext = x → t.req = none → t.sids = [y] → t.lines = [y.2.2] → t.sentAt.toNat + 250000 ≤ s.now.toNat → s.home.waits = [] → s.home.held = [] →
    let d := s.dirAt (s.ext x.toNat) y.2.2
    Goes (.reclaimSnoopTimeout x) s (fun u => u.home.txns = [] ∧
      u.mems = ((if d.st = 2 ∧ d.owner = y.2.1 then s.logLoss 3 y.2.2 (s.ext x.toNat).job y.2.1 x.toNat else s).setDir (s.ext x.toNat) y.2.2 DirE.uncached).mems)) ∧
  (∀ (s : State) (x : BitVec 14), s.up = true → (s.ext x.toNat).state = exExpired → s.reclaims x.toNat = true → s.dropping x.toNat = true → s.inFlight x.toNat none = false →
    s.recalling x.toNat = false → s.cachedLines (s.ext x.toNat) = [] → exec (.reclaimDone x) s = .next (s.freeExt x.toNat)) ∧
  (∀ (s : State) (m : MemCond), s.up = true → isBg bgHome (s.entry 63) = true → s.dtt.bgDone = false →
    exec (.homeSlot m) s = .next (State.homeSlot { s with dtt := { s.dtt with bgDone := true } } m)) ∧
  (∀ (s : State) (m : MemCond), s.up = true → s.dtt.bgDone = true → exec (.homeSlot m) s = .next s) ∧
  (∀ (s : State) (off : BitVec 18) (wide : Bool) (v : R64), s.takes = true → (s.ext (s.extWinAddr off.toNat / 64)).state ≠ exFree →
    exec (.extwinWrite off wide v) s = .next (s.setF F.HOM_STAT_LIVE_WR 1)) ∧
  (∀ (s : State) (off : BitVec 18) (v : R64), s.takes = true → (s.ext (s.extWinAddr off.toNat / 64)).state = exFree →
    s.extWinAddr off.toNat % 64 = 32 → Mem.wf s.mems.ext = true →
    Goes (.extwinWrite off true v) s (fun t => t.extW (s.extWinAddr off.toNat / 64) 4 = v.toNat ∧ t.regs = s.regs)) ∧
  (∀ (s : State) (v : R32), s.takes = true → s.on F.HOM_CTL_LEASE_EN = true → exec (.homCtlWrite v) s = .next (s.wr Reg.HOM_CTL (v &&& 7))) ∧
  (∀ (s : State) (v : R32), s.takes = true → s.on F.HOM_CTL_LEASE_EN = false → fget F.HOM_CTL_LEASE_EN v = 1 →
    exec (.homCtlWrite v) s = .next (State.renewAll (s.wr Reg.HOM_CTL (v &&& 7)) s.liveExts)))

/-- DOORBELL sets TAIL of a queue whose POSTER is 8 or 9 and is ignored elsewhere (R108, R112). QUEUE_COMMIT with RUN 1 takes an IDLE queue, whose job is
not stopped, to RUNNING with ERR 0 and fetching from HEAD; with RUN 0 it takes a RUNNING one that holds no descriptor to STOPPING, HEAD as before;
memories and home stay (R138, R141). QUEUE_IDLE makes a STOPPING queue that holds no descriptor, with RUN 0 and no job stop, IDLE; in another state
nothing changes. EVT_CFG_WRITE: enabling a ring that holds nothing sets TAIL 0, PHASE 1 and the size written; disabling it drops what it holds and
adds that to LOST. EVT_HEAD_WRITE sets HEAD, and on an enabled ring lets records go (R147). HOLDOFF_EXPIRY: a hold-off whose time is due ends, and a
call made during it raises the ring's vector (R148); with no hold-off, or before its time, nothing changes. -/
def Obligations.QueuesAndRings : Prop :=
  ((∀ (s : State) (q : BitVec 10) (tail : BitVec 16), s.takes = true → s.f (F.QMG_Q_CFG_POSTER q.toNat) ∈ [(8 : BitVec 4), 9] →
    exec (.doorbell q tail) s = .next (s.setF (F.QMG_Q_PTR_TAIL q.toNat) tail)) ∧
  (∀ (s : State) (q : BitVec 10) (tail : BitVec 16), s.f (F.QMG_Q_CFG_POSTER q.toNat) ∉ [(8 : BitVec 4), 9] →
    exec (.doorbell q tail) s = .next s) ∧
  (∀ (s : State) (q : BitVec 10), s.takes = true → s.qState q.toNat = qIdle → s.on (F.QMG_Q_CTL_RUN q.toNat) = true →
    s.jobStopped (s.slotJob (s.qSlot q.toNat)) = false → swf regReset s.regs = true → swf regReset s.eff = true → swf QRec.idle s.qmg.qs = true →
    Goes (.queueCommit q) s (fun t => t.qState q.toNat = qRunning ∧ t.f (F.QMG_Q_STAT_ERR q.toNat) = 0 ∧
      (t.q q.toNat).fetch = s.qHead q.toNat ∧ (t.q q.toNat).descs = [] ∧ t.mems = s.mems ∧ t.home = s.home)) ∧
  (∀ (s : State) (q : BitVec 10), s.takes = true → s.qState q.toNat = qRunning → s.on (F.QMG_Q_CTL_RUN q.toNat) = false →
    (s.q q.toNat).descs = [] → swf regReset s.regs = true → swf regReset s.eff = true →
    Goes (.queueCommit q) s (fun t => t.qState q.toNat = qStopping ∧ t.f (F.QMG_Q_PTR_HEAD q.toNat) = s.f (F.QMG_Q_PTR_HEAD q.toNat) ∧
      t.mems = s.mems ∧ t.home = s.home)) ∧
  (∀ (s : State) (q : BitVec 10), s.up = true → s.qState q.toNat = qStopping → (s.q q.toNat).descs = [] → (s.q q.toNat).jobStop = false →
    s.e (F.QMG_Q_CTL_RUN q.toNat) = 0 → swf regReset s.regs = true → swf QRec.idle s.qmg.qs = true →
    Goes (.queueIdle q) s (fun t => t.qState q.toNat = qIdle ∧ (t.q q.toNat).descs = [] ∧ t.home = s.home ∧ t.syn = s.syn)) ∧
  (∀ (s : State) (q : BitVec 10), s.qState q.toNat ≠ qStopping → exec (.queueIdle q) s = .next s)) ∧
  ((∀ (s : State) (r : BitVec 4) (v : R32), s.takes = true → s.on (F.QMG_EVT_CFG_EN r.toNat) = false → fget (F.QMG_EVT_CFG_EN r.toNat) v = 1 →
    (s.ring r.toNat).held = [] → (s.ring r.toNat).dropped = 0 → swf regReset s.regs = true →
    Goes (.evtCfgWrite r v) s (fun t => t.on (F.QMG_EVT_CFG_EN r.toNat) = true ∧ t.f (F.QMG_EVT_TAIL_TAIL r.toNat) = 0 ∧
      t.f (F.QMG_EVT_TAIL_PHASE r.toNat) = 1 ∧ t.f (F.QMG_EVT_CFG_LOG2_SIZE r.toNat) = fget (F.QMG_EVT_CFG_LOG2_SIZE r.toNat) v ∧ t.mems = s.mems ∧ t.out = s.out)) ∧
  (∀ (s : State) (r : BitVec 4) (v : R32), s.takes = true → s.on (F.QMG_EVT_CFG_EN r.toNat) = true → fget (F.QMG_EVT_CFG_EN r.toNat) v = 0 →
    swf regReset s.regs = true → swf ringNone s.qmg.rings = true →
    Goes (.evtCfgWrite r v) s (fun t => t.on (F.QMG_EVT_CFG_EN r.toNat) = false ∧ (t.ring r.toNat).held = [] ∧
      t.f (F.QMG_EVT_LOST_COUNT r.toNat) = s.f (F.QMG_EVT_LOST_COUNT r.toNat) + BitVec.ofNat _ (s.ring r.toNat).held.length ∧ t.out = s.out)) ∧
  (∀ (s : State) (r : BitVec 4) (v : R32), s.takes = true → s.on (F.QMG_EVT_CFG_EN r.toNat) = false →
    exec (.evtHeadWrite r v) s = .next (s.setF (F.QMG_EVT_HEAD_HEAD r.toNat) (fget (F.QMG_EVT_HEAD_HEAD r.toNat) v))) ∧
  (∀ (s : State) (r : BitVec 4) (v : R32), s.takes = true → s.on (F.QMG_EVT_CFG_EN r.toNat) = true → swf regReset s.regs = true →
    exec (.evtHeadWrite r v) s = .next ((s.setF (F.QMG_EVT_HEAD_HEAD r.toNat) (fget (F.QMG_EVT_HEAD_HEAD r.toNat) v)).flushRing r.toNat)) ∧
  (∀ (s : State) (r : BitVec 4) (v : R32), s.takes = true → s.on (F.QMG_EVT_CFG_EN r.toNat) = true → (s.ring r.toNat).held = [] →
    (s.ring r.toNat).dropped = 0 → swf regReset s.regs = true →
    Goes (.evtHeadWrite r v) s (fun t => t.f (F.QMG_EVT_HEAD_HEAD r.toNat) = fget (F.QMG_EVT_HEAD_HEAD r.toNat) v ∧ t.out = s.out ∧ t.mems = s.mems)) ∧
  (∀ (s : State) (r : BitVec 4) (w : R64), s.up = true → (s.ring r.toNat).holdoff = some w → s.due w = true → (s.ring r.toNat).call = false →
    exec (.holdoffExpiry r) s = .next (s.setRing r.toNat { s.ring r.toNat with holdoff := none, call := false })) ∧
  (∀ (s : State) (r : BitVec 4) (w : R64), s.up = true → (s.ring r.toNat).holdoff = some w → s.due w = true → (s.ring r.toNat).call = true →
    exec (.holdoffExpiry r) s = .next ((s.setRing r.toNat { s.ring r.toNat with holdoff := none, call := false }).raise r.toNat)) ∧
  (∀ (s : State) (r : BitVec 4) (w : R64), s.up = true → (s.ring r.toNat).holdoff = none ∨ ((s.ring r.toNat).holdoff = some w ∧ s.due w = false) →
    exec (.holdoffExpiry r) s = .next s))

/-- DESCRIPTOR_FETCH: a queue in host memory that may fetch reads 64 bytes at its fetch index; one that may not fetch changes nothing (R127).
DESCRIPTOR_FETCH_DONE, of a RUNNING queue without a job stop: a read that failed makes the queue ERROR with ERR 0x07 and ERRPOS the index, HEAD as
before; a slot without DONE that fails a check makes it ERROR with the code of that check (R139); a slot of zeros is a NOP, translated.
DESCRIPTOR_START of the only descriptor of a RUNNING unscheduled queue: translated by the table in force, neither TIMED nor BARRIER nor a collective,
with a free tile and the queue's turn, it runs, in that tile, its start time noted, and registers, memories and outputs stay (R128, R131). A TIMED one
whose START_TIME is not due does not start (R129). NOP: a running NOP is finished with OK, and nothing else changes. What is not due, or finds no case
for it, changes nothing: the model's choice (log entry 20). -/
def Obligations.DescriptorIntake : Prop :=
  ((∀ (s : State) (q : BitVec 10), s.up = true → s.mayFetch q.toNat = true → s.qInSram q.toNat = false → s.pwr.pcieUp = true →
    Goes (.descriptorFetch q) s (fun t => t.out = s.out ++ [.hostRead (s.qBase q.toNat + BitVec.ofNat 64 (64 * (s.q q.toNat).fetch.toNat)) 64] ∧
      t.regs = s.regs ∧ t.mems = s.mems ∧ (swf QRec.idle s.qmg.qs = true → (t.q q.toNat).fetching = true ∧ (t.q q.toNat).descs = (s.q q.toNat).descs))) ∧
  (∀ (s : State) (q : BitVec 10), s.up = true → s.mayFetch q.toNat = false → exec (.descriptorFetch q) s = .next s) ∧
  (∀ (s : State) (q : BitVec 10), s.up = true → (s.q q.toNat).fetching = true → s.qState q.toNat = qRunning → swf regReset s.regs = true →
    swf QRec.idle s.qmg.qs = true →
    Goes (.descriptorFetchDone q .failed) s (fun t => t.qState q.toNat = qError ∧ t.f (F.QMG_Q_STAT_ERR q.toNat) = 7 ∧
      t.f (F.QMG_Q_STAT_ERRPOS q.toNat) = (s.q q.toNat).fetch ∧ t.f (F.QMG_Q_PTR_HEAD q.toNat) = s.f (F.QMG_Q_PTR_HEAD q.toNat))) ∧
  (∀ (s : State) (q : BitVec 10) (bs : Bytes), s.up = true → (s.q q.toNat).fetching = true → s.qState q.toNat = qRunning →
    (s.q q.toNat).jobStop = false → s.qInSram q.toNat = false → swf regReset s.regs = true → swf QRec.idle s.qmg.qs = true →
    bitAt ((slotWords bs).getD 2 0).toNat 0 = false → s.descErr q.toNat (s.newDesc q.toNat (slotWords bs)) ≠ 0 →
    Goes (.descriptorFetchDone q (.slot bs)) s (fun t => t.qState q.toNat = qError ∧
      t.f (F.QMG_Q_STAT_ERR q.toNat) = s.descErr q.toNat (s.newDesc q.toNat (slotWords bs)) ∧
      t.f (F.QMG_Q_STAT_ERRPOS q.toNat) = (s.q q.toNat).fetch ∧ (t.q q.toNat).descs = (s.q q.toNat).descs)) ∧
  (∀ (s : State) (q : BitVec 10) (bs : Bytes), s.up = true → (s.q q.toNat).fetching = true → s.qState q.toNat = qRunning →
    (s.q q.toNat).jobStop = false → s.qInSram q.toNat = false → (s.q q.toNat).descs = [] → swf QRec.idle s.qmg.qs = true →
    slotWords bs = List.replicate 16 0 →
    Goes (.descriptorFetchDone q (.slot bs)) s (fun t => (t.desc q.toNat (s.q q.toNat).fetch).map (fun d => (d.st, d.opcode)) = some (.translated, 0) ∧
      t.regs = s.regs ∧ t.mems = s.mems))) ∧
  ((∀ (s : State) (q : BitVec 10) (d : Desc) (n : Nat) (resps : List Resp), s.up = true → s.qState q.toNat = qRunning → (s.q q.toNat).descs = [d] →
    d.st = .translated → d.timed = false → d.barrier = false → d.isColl = false → (d.isEngine = true → s.on F.ENG_CTL_EN = true ∧ s.on F.GLB_TILES_SHORT = false) →
    d.epoch = s.slotEpoch (s.qSlot q.toNat) → s.queueStream q.toNat = 0 → s.freeTile = some n → s.turnOf = some q.toNat → swf QRec.idle s.qmg.qs = true →
    Goes (.descriptorStart q resps) s (fun t => t.desc q.toNat d.idx = some { d with st := .running, begun := true, started := s.now, tile := n } ∧
      t.regs = s.regs ∧ t.mems = s.mems ∧ t.out = s.out)) ∧
  (∀ (s : State) (q : BitVec 10) (d : Desc) (resps : List Resp), s.up = true → (s.q q.toNat).descs = [d] →
    d.st = .translated → d.timed = true → s.due (d.w 1) = false → exec (.descriptorStart q resps) s = .next s) ∧
  (∀ (s : State) (q : BitVec 10) (d : Desc), s.up = true → (s.q q.toNat).descs = [d] → d.st = .running → d.opcode = 0 → swf QRec.idle s.qmg.qs = true →
    Goes (.nop q) s (fun t => t.desc q.toNat d.idx = some { d with st := .finished, status := stOk } ∧ t.regs = s.regs ∧ t.mems = s.mems ∧ t.out = s.out)))

/-- COPY and FILL of a queue that is not STOPPING: a COPY of up to 256 bytes from one bus address to another reads them and writes what was read, a FILL
of 8 bytes to a bus address writes its pattern; each is finished with OK and PROGRESS the bytes, registers and memories as before (R120, R122). For a
descriptor that is not running COPY, FILL, GATHER, EMBED_BAG, SCATTER and ATOMIC_BATCH change nothing. GATHER, EMBED_BAG, SCATTER and ATOMIC_BATCH of
the queue's only descriptor, running: the command's own work is done and its end, failure or pause settled (R460, R461, R121). Of the first three, one
whose source no range of its table holds is finished with XLATE_FAULT, word 3 and PROGRESS as before (R87), and one with no index at all is finished
with OK and PROGRESS 0; registers, memories and outputs stay. -/
def Obligations.DataMoves : Prop :=
  ((∀ (s : State) (q : BitVec 10) (d : Desc) (bs : Bytes), s.up = true → s.pwr.pcieUp = true → s.qState q.toNat ≠ qStopping → (s.q q.toNat).descs = [d] →
    d.st = .running → d.opcode = 1 → d.srcBus = true → d.dstBus = true → d.prog = 0 → 0 < d.length → d.length ≤ 256 → bs.length = d.length →
    swf QRec.idle s.qmg.qs = true →
    Goes (.copy q d.idx [⟨stOk, false, false, bs⟩]) s (fun t => t.out = s.out ++ [.hostRead (d.w 3) d.length, .hostWrite (d.w 4) bs] ∧
      (t.desc q.toNat d.idx).map (fun e => (e.st, e.status, e.prog)) = some (.finished, stOk, d.length) ∧ t.regs = s.regs ∧ t.mems = s.mems)) ∧
  (∀ (s : State) (q : BitVec 10) (d : Desc), s.up = true → s.pwr.pcieUp = true → s.qState q.toNat ≠ qStopping → (s.q q.toNat).descs = [d] →
    d.st = .running → d.opcode = 4 → d.dstBus = true → d.prog = 0 → d.length = 8 → swf QRec.idle s.qmg.qs = true →
    Goes (.fill q d.idx []) s (fun t => t.out = s.out ++ [.hostWrite (d.w 3) (natLe 8 (d.w 4).toNat)] ∧
      (t.desc q.toNat d.idx).map (fun e => (e.st, e.status, e.prog)) = some (.finished, stOk, 8) ∧ t.regs = s.regs ∧ t.mems = s.mems)) ∧
  (∀ (s : State) (q : BitVec 10) (d : Desc) (c : Instr) (resps : List Resp), s.up = true → (s.q q.toNat).descs = [d] → d.st ≠ .running →
    c ∈ [.copy q d.idx resps, .fill q d.idx resps, .gather q d.idx resps, .embedBag q d.idx resps, .scatter q d.idx resps, .atomicBatch q d.idx resps] →
    exec c s = .next s)) ∧
  ((∀ (s : State) (q : BitVec 10) (d : Desc) (resps : List Resp) (c : Instr) (f : Desc → Io → Nat × Io), s.up = true → (s.q q.toNat).descs = [d] →
    d.st = .running → ((c = .gather q d.idx resps ∧ f = Io.gather ∧ d.opcode = 2 ∧ d.mode = 0) ∨
      (c = .embedBag q d.idx resps ∧ f = Io.embedBag ∧ d.opcode = 2 ∧ d.mode = 1) ∨ (c = .scatter q d.idx resps ∧ f = Io.scatter ∧ d.opcode = 3) ∨
      (c = .atomicBatch q d.idx resps ∧ f = Io.atomicBatch ∧ d.opcode = 5)) →
    exec c s = .next ((f d (s.io q.toNat d d.nopres resps)).2.settle d.idx (f d (s.io q.toNat d d.nopres resps)).1)) ∧
  (∀ (s : State) (q : BitVec 10) (d : Desc) (resps : List Resp) (c : Instr), s.up = true → (s.q q.toNat).descs = [d] →
    d.st = .running → ((c = .gather q d.idx resps ∧ d.opcode = 2 ∧ d.mode = 0) ∨ (c = .embedBag q d.idx resps ∧ d.opcode = 2 ∧ d.mode = 1) ∨
      (c = .scatter q d.idx resps ∧ d.opcode = 3)) → d.indexCount ≠ 0 → s.findIn d.tbl (d.w 3).toNat 1 = none → swf QRec.idle s.qmg.qs = true →
    Goes c s (fun t => (t.desc q.toNat d.idx).map (fun e => (e.st, e.status, e.faultWord, e.prog)) = some (.finished, stXlate, 3, d.prog) ∧
      t.regs = s.regs ∧ t.mems = s.mems ∧ t.out = s.out)) ∧
  (∀ (s : State) (q : BitVec 10) (d : Desc) (resps : List Resp) (c : Instr), s.up = true → (s.q q.toNat).descs = [d] →
    d.st = .running → ((c = .gather q d.idx resps ∧ d.opcode = 2 ∧ d.mode = 0) ∨ (c = .embedBag q d.idx resps ∧ d.opcode = 2 ∧ d.mode = 1) ∨
      (c = .scatter q d.idx resps ∧ d.opcode = 3)) → d.indexCount = 0 → swf QRec.idle s.qmg.qs = true →
    Goes c s (fun t => (t.desc q.toNat d.idx).map (fun e => (e.st, e.status, e.prog)) = some (.finished, stOk, 0) ∧
      t.regs = s.regs ∧ t.mems = s.mems ∧ t.out = s.out)))

/-- DESCRIPTOR_COMPLETE of the only descriptor of a queue in host memory, finished with OK, without SIG_EN and EVT: its word 2 is written to its slot and
HEAD moves past it, TAIL and memories as before (R136, R137); with SIG_EN it waits for the add that is issued to its sync object (R681). One that is
not finished is not touched. DESCRIPTOR_FENCE: a running FENCE is finished with OK when nothing it covers is outstanding, else nothing changes (R682).
ENGINE_PAGE_BOUNDARY: at an absent page of one of its ranges a running engine descriptor that is no collective, with fewer than 1,023 parked, is
parked at that page with its PROGRESS (R91); at an address of none of its ranges nothing changes. What is not due, or finds no case for it, changes
nothing: the model's choice (log entry 20). -/
def Obligations.DescriptorEnds : Prop :=
  (∀ (s : State) (q : BitVec 10) (d : Desc), s.up = true → s.pwr.pcieUp = true → s.qInSram q.toNat = false → (s.q q.toNat).dead = false →
    (s.q q.toNat).descs = [d] → d.st = .finished → d.status = stOk → d.double = false → d.sigEn = false → d.evt = false →
    d.idx = s.qHead q.toNat → swf QRec.idle s.qmg.qs = true → swf regReset s.regs = true →
    Goes (.descriptorComplete q d.idx) s (fun t => t.out = s.out ++ [.hostWrite (s.qBase q.toNat + BitVec.ofNat 64 (64 * d.idx.toNat + 16))
        (natLe 8 (d.word2 false true).toNat)] ∧ t.f (F.QMG_Q_PTR_HEAD q.toNat) = s.ringNext q.toNat d.idx 1 ∧
      t.f (F.QMG_Q_PTR_TAIL q.toNat) = s.f (F.QMG_Q_PTR_TAIL q.toNat) ∧ (t.q q.toNat).descs = [] ∧ t.mems = s.mems)) ∧
  (∀ (s : State) (q : BitVec 10) (d : Desc), s.up = true → (s.q q.toNat).descs = [d] → d.st = .finished → d.status = stOk → d.sigEn = true → swf QRec.idle s.qmg.qs = true →
    Goes (.descriptorComplete q d.idx) s (fun t => (t.desc q.toNat d.idx).map (fun e => e.st) = some .signalling ∧ t.ep.own.length = s.ep.own.length + 1)) ∧
  (∀ (s : State) (q : BitVec 10) (d : Desc), s.up = true → (s.q q.toNat).descs = [d] → d.st ≠ .finished → exec (.descriptorComplete q d.idx) s = .next s) ∧
  (∀ (s : State) (q : BitVec 10) (d : Desc), s.up = true → (s.q q.toNat).descs = [d] → d.st = .running → d.opcode = 8 →
    d.covers.any s.outstanding = false → swf QRec.idle s.qmg.qs = true →
    Goes (.descriptorFence q d.idx) s (fun t => t.desc q.toNat d.idx = some { d with st := .finished, status := stOk } ∧ t.mems = s.mems ∧ t.regs = s.regs)) ∧
  (∀ (s : State) (q : BitVec 10) (d : Desc), s.up = true → (s.q q.toNat).descs = [d] → d.covers.any s.outstanding = true →
    exec (.descriptorFence q d.idx) s = .next s) ∧
  (∀ (s : State) (q : BitVec 10) (d : Desc) (va : Va) (e : RangeE), s.up = true → (s.q q.toNat).descs = [d] → d.st = .running → d.isColl = false →
    d.isEngine = true → d.nopres = false → s.parkedCount < 1023 → s.pageRange q.toNat d va.toNat = some e → e.presEn = true →
    s.present e ((va.toNat - e.vaStart) / 65536) = false → swf QRec.idle s.qmg.qs = true →
    Goes (.enginePageBoundary q d.idx va) s (fun t => (t.desc q.toNat d.idx).map (fun x => (x.st, x.prog, x.pauseVa)) =
      some (.parked, d.prog, some (BitVec.ofNat 64 (e.vaStart + 65536 * ((va.toNat - e.vaStart) / 65536)))) ∧ t.home = s.home)) ∧
  (∀ (s : State) (q : BitVec 10) (d : Desc) (va : Va), s.up = true → (s.q q.toNat).descs = [d] → s.pageRange q.toNat d va.toNat = none →
    exec (.enginePageBoundary q d.idx va) s = .next s)

/-- SYN_ADD adds its value to the object modulo 2^64 and SYNC_RESET makes it zero (R149); every other object and the memories stay; with no watch held and
no queue ringing through the object nothing else changes at all, and the only watch held, of that object, that the sum meets is gone (R153).
WATCH_REGISTER, for this home: an object that fails its checks answers a WAKE with the failing status (R152), one that already meets the threshold a
WAKE with OK, else the watch is held while fewer than 4,096 are, and beyond that another node is told that the watches are full (R153); a DPA of no
object answers RIGHTS, one of another node is counted. A withdrawal drops the watch (R154). SYN_ARM arms a host entry (0 to 63) with the node and
object written, SYN_DISARM frees one, and neither touches a descriptor entry (R155). ARM_TICK_EXPIRY: an armed entry whose tick is due is free; its
add is issued, or, to an expelled home, ARM_FAILED is posted (R155, R156); one not armed or not due changes nothing. ARM_ENTRY_TAKEN: the
longest-waiting SYNC_SIGNAL, with the table it was translated by in force, takes a free descriptor entry, which holds its object, value, tick and job,
and is finished with OK; with none waiting or none free nothing changes. What is not due, or finds no case for it, changes nothing: the model's choice
(log entry 20). -/
def Obligations.SyncObjectsAndEntries : Prop :=
  ((∀ (s : State) (o : BitVec 14) (v : R32), s.takes = true → swf obj0 s.syn.objs = true →
    Goes (.synAdd o v) s (fun t => t.obj o.toNat = s.obj o.toNat + v.setWidth 64 ∧ (∀ k, k ≠ o.toNat → t.obj k = s.obj k) ∧ t.mems = s.mems)) ∧
  (∀ (s : State) (o : BitVec 14), s.takes = true → swf obj0 s.syn.objs = true →
    Goes (.syncReset o) s (fun t => t.obj o.toNat = 0 ∧ (∀ k, k ≠ o.toNat → t.obj k = s.obj k) ∧ t.mems = s.mems)) ∧
  (∀ (s : State) (o : BitVec 14) (v : R32), s.takes = true → s.home.watches = [] → s.doorbellQueues o.toNat = [] →
    exec (.synAdd o v) s = .next (s.setObj o.toNat (s.obj o.toNat + v.setWidth 64)) ∧ exec (.syncReset o) s = .next (s.setObj o.toNat 0)) ∧
  (∀ (s : State) (o : BitVec 14) (v : R32) (w : Watch), s.takes = true → s.home.watches = [w] → w.obj = o →
    w.thr.toNat ≤ (s.obj o.toNat + v.setWidth 64).toNat → Goes (.synAdd o v) s (fun t => t.home.watches = [])) ∧
  (∀ (s : State) (d : Dpa) (o : BitVec 14) (j : JobId) (thr : R64) (n : NodeId) (tag : BitVec 16), s.up = true → dpaNode d = s.node → objOf d = some o →
    (s.objCheck o.toNat j ≠ stOk → exec (.watchRegister (.register d) j thr n tag) s = .next (s.sendCpl (wakeCpl s n tag (s.objCheck o.toNat j)))) ∧
    (s.objCheck o.toNat j = stOk → thr.toNat ≤ (s.obj o.toNat).toNat →
      exec (.watchRegister (.register d) j thr n tag) s = .next (s.sendCpl (wakeCpl s n tag stOk))) ∧
    (s.objCheck o.toNat j = stOk → (s.obj o.toNat).toNat < thr.toNat → s.home.watches.length < 4096 →
      exec (.watchRegister (.register d) j thr n tag) s = .next { s with home := { s.home with watches := s.home.watches ++ [⟨o, thr, n, tag, j⟩] } }) ∧
    (s.objCheck o.toNat j = stOk → (s.obj o.toNat).toNat < thr.toNat → 4096 ≤ s.home.watches.length → n ≠ s.node →
      exec (.watchRegister (.register d) j thr n tag) s = .next { s with out := s.out ++ [.watchFull n tag] })) ∧
  (∀ (s : State) (d : Dpa) (j : JobId) (thr : R64) (n : NodeId) (tag : BitVec 16), s.up = true →
    (dpaNode d = s.node → objOf d = none → exec (.watchRegister (.register d) j thr n tag) s = .next (s.sendCpl (wakeCpl s n tag stRights))) ∧
    (dpaNode d ≠ s.node → exec (.watchRegister (.register d) j thr n tag) s = .next (s.incF F.FLT_MISROUTE_CNT_COUNT 1)) ∧
    exec (.watchRegister .withdraw j thr n tag) s =
      .next { s with home := { s.home with watches := dropWhere (fun w => w.node == n && w.tag == tag) s.home.watches } })) ∧
  ((∀ (s : State) (e : BitVec 8) (v : R32), s.takes = true → e.toNat < 64 → swf regReset s.regs = true →
    Goes (.synArm e v) s (fun t => t.on (F.SYN_ARM_CTL_ARMED e.toNat) = true ∧ t.f (F.SYN_ARM_CTL_NODE e.toNat) = fget (F.SYN_ARM_CTL_NODE e.toNat) v ∧
      t.f (F.SYN_ARM_CTL_OBJ e.toNat) = fget (F.SYN_ARM_CTL_OBJ e.toNat) v ∧ t.syn = s.syn ∧ t.mems = s.mems)) ∧
  (∀ (s : State) (e : BitVec 8), s.takes = true → e.toNat < 64 → exec (.synDisarm e) s = .next (s.setF (F.SYN_ARM_CTL_ARMED e.toNat) 0)) ∧
  (∀ (s : State) (e : BitVec 8) (v : R32), 64 ≤ e.toNat → exec (.synArm e v) s = .next s ∧ exec (.synDisarm e) s = .next s) ∧
  (∀ (s : State) (e : BitVec 8), s.up = true → s.on (F.SYN_ARM_CTL_ARMED e.toNat) = true → s.due (s.armTick e.toNat) = true → swf regReset s.regs = true →
    Goes (.armTickExpiry e) s (fun t => t.on (F.SYN_ARM_CTL_ARMED e.toNat) = false ∧ t.mems = s.mems ∧ t.syn = s.syn ∧ t.qmg.qs = s.qmg.qs)) ∧
  (∀ (s : State) (e : BitVec 8), s.up = true → s.on (F.SYN_ARM_CTL_ARMED e.toNat) = true → s.due (s.armTick e.toNat) = true →
    (s.expelled (s.f (F.SYN_ARM_CTL_NODE e.toNat)) = false → Goes (.armTickExpiry e) s (fun t => t.ep.own.length = s.ep.own.length + 1)) ∧
    (s.expelled (s.f (F.SYN_ARM_CTL_NODE e.toNat)) = true → Goes (.armTickExpiry e) s (fun t => t.ep = s.ep))) ∧
  (∀ (s : State) (e : BitVec 8), s.on (F.SYN_ARM_CTL_ARMED e.toNat) = false ∨ s.due (s.armTick e.toNat) = false →
    exec (.armTickExpiry e) s = .next s) ∧
  (∀ (s : State) (q : BitVec 10) (d : Desc) (n : Nat) (r : RangeE) (o : BitVec 14), s.up = true → s.qmg.armWait = [(q, d.idx)] →
    s.freeArm = some n → (s.q q.toNat).descs = [d] → d.st = .armWait → d.opcode = 7 → d.epoch = s.slotEpoch (s.qSlot q.toNat) → s.findIn d.tbl (d.w 3).toNat 1 = some r →
    objOf (dpaOf r (d.w 3).toNat) = some o → swf regReset s.regs = true → swf QRec.idle s.qmg.qs = true →
    Goes .armEntryTaken s (fun t => t.qmg.armWait = [] ∧ t.on (F.SYN_ARM_CTL_ARMED n) = true ∧ t.f (F.SYN_ARM_CTL_OBJ n) = o ∧
      t.f (F.SYN_ARM_CTL_NODE n) = dpaNode (dpaOf r (d.w 3).toNat) ∧ t.f (F.SYN_ARM_ADD_ADD n) = (d.w 4).setWidth 16 ∧ t.armTick n = d.w 6 ∧
      t.desc q.toNat d.idx = some { d with st := .finished, status := stOk } ∧ t.mems = s.mems)) ∧
  (∀ (s : State), s.qmg.armWait = [] ∨ s.freeArm = none → exec .armEntryTaken s = .next s))

/-- SYNC_WAIT, running: it sends its registration to the object's home and then waits for the WAKE, or polls where the home told it that its watches are
full (R153), also when that is told later; a range that holds no sync object finishes it with RIGHTS and word 3. WAKE: a waiting descriptor that its
index names is finished with its status; with no descriptor at all nothing changes. SYNC_POLL: a polling one reads the object at each multiple of 256
ticks since its start and is finished with OK once the threshold is met; at another tick nothing changes. SYNC_WAIT_TIMEOUT: not met within TIMEOUT it
is finished with OK and T set; with TIMEOUT 0 or before its time nothing changes (R154). SYNC_SIGNAL, running, nothing else waiting for an arm entry
and, with ARM, the table it was translated by in force: with ARM it takes a free entry, whose tick, object, job and value it writes, and is finished
with OK; with none free it waits (R155). Without ARM its add goes to the object's home, in the queue's agent's name, and it goes on until that
completes; where no home is left for it, it is finished with TARGET_LOST (R123, R684). What is not due, or finds no case for it, changes nothing: the
model's choice (log entry 20). -/
def Obligations.SyncDescriptors : Prop :=
  ((∀ (s : State) (q : BitVec 10) (d : Desc) (full : Bool) (r : RangeE) (o : BitVec 14), s.up = true → (s.q q.toNat).descs = [d] →
    d.st = .running → d.opcode = 6 → d.watching = false → d.polling = false → s.findIn d.tbl (d.w 3).toNat 1 = some r →
    objOf (dpaOf r (d.w 3).toNat) = some o → s.expelled (dpaNode (dpaOf r (d.w 3).toNat)) = false → swf QRec.idle s.qmg.qs = true →
    Goes (.syncWait q d.idx full) s (fun t => t.desc q.toNat d.idx = some { d with watching := !full, polling := full } ∧
      t.out = s.out ++ [.watchReg (dpaOf r (d.w 3).toNat) d.job (d.w 4) d.watchTag] ∧
      t.regs = s.regs ∧ t.mems = s.mems)) ∧
  (∀ (s : State) (q : BitVec 10) (d : Desc) (r : RangeE), s.up = true → (s.q q.toNat).descs = [d] → d.st = .running → d.opcode = 6 →
    d.watching = true → d.polling = false → s.findIn d.tbl (d.w 3).toNat 1 = some r → swf QRec.idle s.qmg.qs = true →
    Goes (.syncWait q d.idx true) s (fun t => t.desc q.toNat d.idx = some { d with watching := false, polling := true } ∧ t.out = s.out)) ∧
  (∀ (s : State) (q : BitVec 10) (d : Desc) (full : Bool) (r : RangeE), s.up = true → (s.q q.toNat).descs = [d] →
    d.st = .running → d.opcode = 6 → d.watching = false → d.polling = false → s.findIn d.tbl (d.w 3).toNat 1 = some r →
    objOf (dpaOf r (d.w 3).toNat) = none → swf QRec.idle s.qmg.qs = true →
    Goes (.syncWait q d.idx full) s (fun t => (t.desc q.toNat d.idx).map (fun x => (x.st, x.status, x.faultWord)) = some (.finished, stRights, 3) ∧
      t.regs = s.regs ∧ t.mems = s.mems ∧ t.out = s.out)) ∧
  (∀ (s : State) (q : BitVec 10) (c : Cpl) (r : QRec) (d : Desc), s.up = true → c.opc = 0x32 → s.qmg.qs = [(q.toNat, r)] → r.descs = [d] →
    d.st = .running → d.watching = true → d.watchTag = c.seq →
    Goes (.wake c) s (fun t => (t.desc q.toNat d.idx).map (fun x => (x.st, x.status, x.watching)) = some (.finished, c.status, false) ∧
      t.regs = s.regs ∧ t.mems = s.mems ∧ t.out = s.out)) ∧
  (∀ (s : State) (c : Cpl), s.qmg.qs = [] → exec (.wake c) s = .next s) ∧
  (∀ (s : State) (q : BitVec 10) (d : Desc) (r : RangeE) (resps : List Resp) (bs : Bytes) (i : Io), s.up = true → (s.q q.toNat).descs = [d] →
    d.st = .running → d.opcode = 6 → d.polling = true → s.now ≠ d.started → (s.now - d.started).toNat % 256 = 0 →
    s.findIn d.tbl (d.w 3).toNat 1 = some r → (s.io q.toNat d true resps).load r 3 (d.w 3).toNat 8 = (bs, i) → i.err = none →
    exec (.syncPoll q d.idx resps) s = .next (if (d.w 4).toNat ≤ leNat bs then i.s.finishObj q.toNat d.idx stOk else i.s)) ∧
  (∀ (s : State) (q : BitVec 10) (d : Desc) (resps : List Resp), s.up = true → (s.q q.toNat).descs = [d] →
    (s.now - d.started).toNat % 256 ≠ 0 → d.st = .running → d.opcode = 6 → (s.findIn d.tbl (d.w 3).toNat 1).isSome = true →
    exec (.syncPoll q d.idx resps) s = .next s) ∧
  (∀ (s : State) (q : BitVec 10) (d : Desc), s.up = true → (s.q q.toNat).descs = [d] → d.st = .running → d.opcode = 6 → d.watching = false →
    0 < d.timeoutTk → d.timeoutTk ≤ (s.now - d.started).toNat → swf QRec.idle s.qmg.qs = true →
    Goes (.syncWaitTimeout q d.idx) s (fun t =>
      t.desc q.toNat d.idx = some { d with st := .finished, status := stOk, timeout := true, polling := false } ∧ t.regs = s.regs ∧ t.mems = s.mems)) ∧
  (∀ (s : State) (q : BitVec 10) (d : Desc), s.up = true → (s.q q.toNat).descs = [d] →
    (d.timeoutTk = 0 ∨ (s.now - d.started).toNat < d.timeoutTk) → exec (.syncWaitTimeout q d.idx) s = .next s)) ∧
  ((∀ (s : State) (q : BitVec 10) (d : Desc) (n : Nat) (r : RangeE) (o : BitVec 14), s.up = true → s.qmg.armWait = [] →
    s.freeArm = some n → (s.q q.toNat).descs = [d] → d.st = .running → d.opcode = 7 → d.arm = true → d.epoch = s.slotEpoch (s.qSlot q.toNat) → s.findIn d.tbl (d.w 3).toNat 1 = some r →
    objOf (dpaOf r (d.w 3).toNat) = some o → swf regReset s.regs = true → swf QRec.idle s.qmg.qs = true →
    Goes (.syncSignal q d.idx) s (fun t => t.on (F.SYN_ARM_CTL_ARMED n) = true ∧ t.f (F.SYN_ARM_CTL_OBJ n) = o ∧
      t.f (F.SYN_ARM_CTL_NODE n) = dpaNode (dpaOf r (d.w 3).toNat) ∧ t.f (F.SYN_ARM_ADD_ADD n) = (d.w 4).setWidth 16 ∧
      t.f (F.SYN_ARM_ADD_JOB n) = d.job ∧ t.armTick n = d.w 6 ∧
      t.desc q.toNat d.idx = some { d with st := .finished, status := stOk } ∧ t.mems = s.mems)) ∧
  (∀ (s : State) (q : BitVec 10) (d : Desc) (r : RangeE) (o : BitVec 14), s.up = true → s.qmg.armWait = [] →
    s.freeArm = none → (s.q q.toNat).descs = [d] → d.st = .running → d.opcode = 7 → d.arm = true → d.epoch = s.slotEpoch (s.qSlot q.toNat) → s.findIn d.tbl (d.w 3).toNat 1 = some r →
    objOf (dpaOf r (d.w 3).toNat) = some o → swf QRec.idle s.qmg.qs = true →
    Goes (.syncSignal q d.idx) s (fun t => t.qmg.armWait = [(q, d.idx)] ∧ t.desc q.toNat d.idx = some { d with st := .armWait } ∧
      t.regs = s.regs ∧ t.mems = s.mems)) ∧
  (∀ (s : State) (q : BitVec 10) (d : Desc) (r : RangeE), s.up = true → s.ep.own = [] →
    (s.q q.toNat).descs = [d] → d.st = .running → d.opcode = 7 → d.arm = false → s.findIn d.tbl (d.w 3).toNat 1 = some r →
    s.homeOf (attrOf r) (dpaOf r (d.w 3).toNat) = none → swf QRec.idle s.qmg.qs = true →
    Goes (.syncSignal q d.idx) s (fun t => (t.desc q.toNat d.idx).map (fun x => (x.st, x.status)) = some (.finished, stTargetLost) ∧
      t.regs = s.regs ∧ t.mems = s.mems ∧ t.out = s.out)) ∧
  (∀ (s : State) (q : BitVec 10) (d : Desc) (r : RangeE) (h : NodeId), s.up = true → s.ep.own = [] →
    (s.q q.toNat).descs = [d] → d.st = .running → d.opcode = 7 → d.arm = false → s.findIn d.tbl (d.w 3).toNat 1 = some r →
    s.homeOf (attrOf r) (dpaOf r (d.w 3).toNat) = some h →
    Goes (.syncSignal q d.idx) s (fun t => t.ep.own.map (fun o => (o.kind, o.home, o.agent)) =
      [(.signal q d.idx, h, s.qAgent q.toNat)] ∧ (t.q q.toNat).descs = [d] ∧ t.mems = s.mems)))

/-- ALLTOALL, ALLTOALLV, REDUCE_SCATTER, ALL_GATHER, SPARSE_REDUCE, DISPATCH, COMBINE at a node with one member of the instance, which is agreed on, has
done its rounds and, for DISPATCH, has the decisions of the node's experts (R406, R408): where COUNT is 0 the member is finished with OK, its rounds
as PROGRESS, the instance is over, and neither pool nor outputs change (R398). Else, of the first five, the instance is over too and its member
finished with its rounds as PROGRESS, and of the last two this, or the member is parked and the instance paused (R91). An instance not that far, or
none, is not touched. The data stage of ALLTOALL, ALL_GATHER and REDUCE_SCATTER at a node with one member of the instance, due and with nothing sent
yet: an operand that cannot be read aborts the instance with the failing status and word (R421); else what the source operands give goes to the
members elsewhere, and the blocks for this member, its own and those that came, are written to DST (R396), for REDUCE_SCATTER their reduction, where
no received share fails its check (R411-R413); the member's status is that of the writing. -/
def Obligations.Collectives : Prop :=
  ((∀ (s : State) (i : BitVec 6) (r : Run) (m : Nat × BitVec 10 × BitVec 16) (d : Desc) (c : Instr) (k : Nat) (xs : List Xfer) (parts : List PartX)
      (cols : List ColX) (rows : List RowX) (plans : List PlanX) (counts : List CountX) (resps : List Resp),
    (c, k) ∈ [(Instr.alltoall i xs resps, 1), (.alltoallv i xs resps, 2), (.reduceScatter i parts resps, 3), (.allGather i xs resps, 4),
      (.sparseReduce i cols resps, 5), (.dispatch i rows plans resps, 6), (.combine i ⟨rows, counts⟩ resps, 7)] →
    s.up = true → s.grp.runs = [r] → r.inst = i.toNat → r.mems = [m] → s.memDesc m = some d → s.runMems r = [(m, d)] → r.due = true → d.kind = k →
    (k = 6 → (s.localExperts d.emap).all (fun e => r.decisions.any (fun x => x.expert == e)) = true) → swf QRec.idle s.qmg.qs = true →
    (d.count = 0 → Goes c s (fun t => t.grp.runs = [] ∧ (t.memDesc m).map (fun x => (x.st, x.status, x.prog)) = some (.finished, stOk, r.done) ∧
      t.mems.pool = s.mems.pool ∧ t.out = s.out)) ∧
    (k ≤ 5 → Goes c s (fun t => t.grp.runs = [] ∧ (t.memDesc m).map (fun x => (x.st, x.prog)) = some (.finished, r.done))) ∧
    (6 ≤ k → Goes c s (fun t => (t.grp.runs = [] ∧ (t.memDesc m).map (fun x => (x.st, x.prog)) = some (.finished, r.done)) ∨
      (∃ u : Run, t.grp.runs = [u] ∧ u.paused = true ∧ u.mems = [])))) ∧
  (∀ (s : State) (i : BitVec 6) (c : Instr) (xs : List Xfer) (parts : List PartX) (cols : List ColX) (rows : List RowX) (plans : List PlanX)
      (counts : List CountX) (resps : List Resp),
    c ∈ [Instr.alltoall i xs resps, .alltoallv i xs resps, .reduceScatter i parts resps, .allGather i xs resps,
      .sparseReduce i cols resps, .dispatch i rows plans resps, .combine i ⟨rows, counts⟩ resps] → s.up = true →
    (∀ r, s.run i.toNat = some r → r.due = false) → exec c s = .next s)) ∧
  (∀ (s : State) (i : BitVec 6) (r : Run) (m : Nat × BitVec 10 × BitVec 16) (d : Desc) (resps : List Resp) (src : List (Nat × List (Option Bytes))) (j : Io),
    s.up = true → s.run i.toNat = some r → s.runMems r = [(m, d)] → r.due = true → r.sentOut = false → d.count ≠ 0 →
    s.readSrc r d ((s.runIo resps).at m.2.1.toNat d) = (src, j) →
    (∀ (c : Instr) (k : Nat) (others : List Xfer), (c, k) ∈ [(Instr.alltoall i others resps, 1), (.allGather i others resps, 4)] → d.kind = k →
      (∀ st w, j.err = some (st, w) → exec c s = .next (j.s.abortRun r st s.node (some (m, w)))) ∧
      (j.err = none → j.pause = none →
        let w := (({ j with s := j.s.sendXfers r [(m.1, src)] } : Io).at m.2.1.toNat d).writeOut d d.outTy d.count (((List.range (s.grpN r.group.toNat)).map (fun a => blocksFrom d.inTy [(m.1, src)] others a m.1)).map (fun x => (d.count, x.2.map sentBlock)))
        (w.err = none → w.pause = none → exec c s = .next (w.s.endRun r [⟨m, stOk, 0, w.sat, false⟩])) ∧
        (∀ st n, w.err = some (st, n) → exec c s = .next (w.s.endRun r [⟨m, st, n, w.sat, false⟩])))) ∧
    (∀ others : List PartX, d.kind = 3 →
      (∀ st w, j.err = some (st, w) → exec (.reduceScatter i others resps) s = .next (j.s.abortRun r st s.node (some (m, w)))) ∧
      (j.err = none → j.pause = none → j.s.badPart r d [(m.1, src)] others = none →
        let red := s.reduced r.group.toNat d [(m.1, src)] others m.1
        let w := ((({ j with s := j.s.sendParts r d [(m.1, src)] others } : Io).at m.2.1.toNat d).countSat red.2).writeOut d d.outTy d.count [(d.count, red.1)]
        (w.err = none → w.pause = none → exec (.reduceScatter i others resps) s = .next (w.s.endRun r [⟨m, stOk, 0, w.sat, false⟩])) ∧
        (∀ st n, w.err = some (st, n) → exec (.reduceScatter i others resps) s = .next (w.s.endRun r [⟨m, st, n, w.sat, false⟩])))))

/-- GROUP_ENABLE, GROUP_DISABLE: with BUSY clear the command is kept, BUSY is set, GROUP names it and ERR is 0, memories as before; with BUSY set it is
ignored (R393). GROUP_CMD_DONE clears BUSY; an ENABLE of a group not live whose checks pass makes it live, a DISABLE of a live group that no instance
uses makes it not live, ERR 0; an ENABLE whose checks fail changes no group and shows its ERR (R394). GWIN_WRITE to a live entry, outside its maps
that are free, only sets LIVE_WR; a wide aligned write of a word other than 0 of an entry not live is what that word then reads, the entry still not
live (R395). EMAP_ENABLE, EMAP_DISABLE: with BUSY clear the command is kept, BUSY is set, MAP names it and ERR is 0, memories as before; with BUSY set
it is ignored. EMAP_CMD_DONE: an ENABLE of a map not live whose checks pass makes it live with its digest (R447) and counts it, a DISABLE of a live
map with no instance at all makes it not live and counts it out, BUSY 0; an ENABLE whose checks fail only shows its ERR (R445). EMAP_WIN_WRITE to a
live map, or to an entry of one, only sets LIVE_WR; a wide write of word 1 of a header not live is what the word then reads, and a write of an entry
of no live map is done (R446). What is not due, or finds no case for it, changes nothing: the model's choice (log entry 20). -/
def Obligations.GroupsAndMaps : Prop :=
  ((∀ (s : State) (g : BitVec 10) (c : Instr) (v : R32), s.takes = true → s.on F.GRP_RES_BUSY = false → swf regReset s.regs = true →
    (c, v) ∈ [(Instr.groupEnable g, cmdWord 1 g), (.groupDisable g, cmdWord 2 g)] →
    Goes c s (fun t => t.grp.cmd = some v ∧ t.on F.GRP_RES_BUSY = true ∧ t.f F.GRP_RES_GROUP = g ∧ t.f F.GRP_RES_ERR = 0 ∧ t.mems = s.mems)) ∧
  (∀ (s : State) (g : BitVec 10), s.on F.GRP_RES_BUSY = true → exec (.groupEnable g) s = .next s ∧ exec (.groupDisable g) s = .next s) ∧
  (∀ (s : State) (g : BitVec 10), s.up = true → s.grp.cmd = some (cmdWord 1 g) → s.grpLive g.toNat = false → s.grpErr g.toNat = 0 →
    swf regReset s.regs = true → Mem.wf s.mems.grp = true →
    Goes .groupCmdDone s (fun t => t.grp.cmd = none ∧ t.grpLive g.toNat = true ∧ t.on F.GRP_RES_BUSY = false ∧ t.f F.GRP_RES_ERR = 0)) ∧
  (∀ (s : State) (g : BitVec 10), s.up = true → s.grp.cmd = some (cmdWord 2 g) → s.grpLive g.toNat = true → s.grpUsed g.toNat = false →
    swf regReset s.regs = true → Mem.wf s.mems.grp = true →
    Goes .groupCmdDone s (fun t => t.grp.cmd = none ∧ t.grpLive g.toNat = false ∧ t.on F.GRP_RES_BUSY = false ∧ t.f F.GRP_RES_ERR = 0)) ∧
  (∀ (s : State) (g : BitVec 10), s.up = true → s.grp.cmd = some (cmdWord 1 g) → s.grpLive g.toNat = false → s.grpErr g.toNat ≠ 0 →
    exec .groupCmdDone s = .next ((State.setF { s with grp := { s.grp with cmd := none } } F.GRP_RES_BUSY 0).setF F.GRP_RES_ERR (s.grpErr g.toNat))) ∧
  (∀ (s : State) (off : BitVec 18) (wide : Bool) (v : R64), s.takes = true →
    s.grpLive (((s.f F.GRP_GWIN_PAGE_PAGE).toNat * 262144 + off.toNat) / 1024) = true →
    s.mapFree (((s.f F.GRP_GWIN_PAGE_PAGE).toNat * 262144 + off.toNat) % 1024 / 8) = false →
    exec (.gwinWrite off wide v) s = .next (s.setF F.GRP_STAT_LIVE_WR 1)) ∧
  (∀ (s : State) (off : BitVec 18) (v : R64) (a : Nat), s.takes = true → a = (s.f F.GRP_GWIN_PAGE_PAGE).toNat * 262144 + off.toNat →
    s.grpLive (a / 1024) = false → a % 8 = 0 → a % 1024 / 8 ≠ 0 → Mem.wf s.mems.grp = true →
    Goes (.gwinWrite off true v) s (fun t => t.grpW (a / 1024) (a % 1024 / 8) = v.toNat ∧ t.grpLive (a / 1024) = false ∧ t.regs = s.regs))) ∧
  ((∀ (s : State) (m : BitVec 10) (c : Instr) (v : R32), s.takes = true → s.on F.GRP_EMAP_RES_BUSY = false → swf regReset s.regs = true →
    (c, v) ∈ [(Instr.emapEnable m, cmdWord 1 m), (.emapDisable m, cmdWord 2 m)] →
    Goes c s (fun t => t.grp.emap = some v ∧ t.on F.GRP_EMAP_RES_BUSY = true ∧ t.f F.GRP_EMAP_RES_MAP = m ∧ t.f F.GRP_EMAP_RES_ERR = 0 ∧
      t.mems = s.mems)) ∧
  (∀ (s : State) (m : BitVec 10), s.on F.GRP_EMAP_RES_BUSY = true → exec (.emapEnable m) s = .next s ∧ exec (.emapDisable m) s = .next s) ∧
  (∀ (s : State) (m : BitVec 10), s.up = true → s.grp.emap = some (cmdWord 1 m) → s.emLive m.toNat = false → s.emErr m.toNat = 0 →
    swf regReset s.regs = true → Mem.wf s.mems.ehdr = true →
    Goes .emapCmdDone s (fun t => t.grp.emap = none ∧ t.emLive m.toNat = true ∧ t.emDigest m.toNat = s.emDigestOf m.toNat ∧
      t.f F.GRP_EMAP_STAT_LIVE = s.f F.GRP_EMAP_STAT_LIVE + 1 ∧ t.on F.GRP_EMAP_RES_BUSY = false)) ∧
  (∀ (s : State) (m : BitVec 10), s.up = true → s.grp.emap = some (cmdWord 2 m) → s.emLive m.toNat = true → s.grp.runs = [] →
    swf regReset s.regs = true → Mem.wf s.mems.ehdr = true →
    Goes .emapCmdDone s (fun t => t.grp.emap = none ∧ t.emLive m.toNat = false ∧ t.f F.GRP_EMAP_RES_ERR = 0 ∧
      t.f F.GRP_EMAP_STAT_LIVE = s.f F.GRP_EMAP_STAT_LIVE - 1)) ∧
  (∀ (s : State) (m : BitVec 10), s.up = true → s.grp.emap = some (cmdWord 1 m) → s.emLive m.toNat = false → s.emErr m.toNat ≠ 0 →
    exec .emapCmdDone s = .next ((State.setF { s with grp := { s.grp with emap := none } } F.GRP_EMAP_RES_BUSY 0).setF F.GRP_EMAP_RES_ERR
      (s.emErr m.toNat))) ∧
  (∀ (s : State) (off : BitVec 17) (wide : Bool) (v : R64), s.takes = true → s.emLive (off.toNat % 32768 / 32) = true →
    exec (.emapWinWrite true off wide v) s = .next (s.setF F.GRP_EMAP_STAT_LIVE_WR 1)) ∧
  (∀ (s : State) (off : BitVec 17) (v : R64), s.takes = true → s.emLive (off.toNat % 32768 / 32) = false → off.toNat % 32 = 8 →
    Mem.wf s.mems.ehdr = true →
    Goes (.emapWinWrite true off true v) s (fun t => t.ehW (off.toNat % 32768 / 32) 1 = v.toNat ∧ t.emLive (off.toNat % 32768 / 32) = false ∧
      t.regs = s.regs ∧ t.mems.eent = s.mems.eent)) ∧
  (∀ (s : State) (off : BitVec 17) (wide : Bool) (v : R64) (a : Nat), s.takes = true → a = (s.f F.GRP_EWIN_PAGE_PAGE).toNat * 131072 + off.toNat →
    (∀ m ∈ s.liveMaps, ¬ (s.emBase m ≤ a / 16 ∧ a / 16 < s.emBase m + s.emCount m)) →
    exec (.emapWinWrite false off wide v) s = .next { s with mems := { s.mems with eent := winWrite s.mems.eent a wide v } }) ∧
  (∀ (s : State) (off : BitVec 17) (wide : Bool) (v : R64) (m : Nat), s.takes = true → m ∈ s.liveMaps →
    s.emBase m ≤ ((s.f F.GRP_EWIN_PAGE_PAGE).toNat * 131072 + off.toNat) / 16 →
    ((s.f F.GRP_EWIN_PAGE_PAGE).toNat * 131072 + off.toNat) / 16 < s.emBase m + s.emCount m →
    exec (.emapWinWrite false off wide v) s = .next (s.setF F.GRP_EMAP_STAT_LIVE_WR 1)))

/-- SIGNATURE_RECORD, for an instance with its own record, without verdict, not paused and with no other record yet, of another node of its group: it is
kept and sent on, with more than two nodes nothing more; with two, where both agree, the instance has its verdict, and without START_TIME starts 8
slots after the later of both slots (R404-R407); where they differ its member is finished with SIG_MISMATCH and the instance is over (R405). For no
instance nothing changes. ROUND_START of the only instance, agreed on, between rounds with rounds left and no queue stopping: it is in its round once
that round's slot has come, before that nothing changes (R408). ROUND_END: its round counts, also as its member's PROGRESS; with no round running
nothing changes (R414). ABORT_RECORD of its group and SEQ: it is over, counted, and its member finished with the record's status; of another nothing
changes (R422). COLL_HOLD_TIMEOUT, with HOLD not 0: an instance held that long at its boundary is reported once, by HELD; with HOLD 0, already
reported, or not held that long, nothing changes (R420). EXPERT_DECISION of an expert of the node, its members' routes read: the expert's rows are
decided over those routes and the records of other nodes, memories and outputs as before (R450); for an expert of another node nothing changes. What
is not due, or finds no case for it, changes nothing: the model's choice (log entry 20). -/
def Obligations.CollectiveAgreement : Prop :=
  ((∀ (s : State) (i : BitVec 6) (x : SigRec), s.up = true → s.run i.toNat = none → exec (.signatureRecord i x) s = .next s) ∧
  (∀ (s : State) (i : BitVec 6) (x own : SigRec) (r : Run), s.up = true → s.grp.runs = [r] → r.inst = i.toNat → r.own = some own → r.verdict = none →
    r.paused = false → r.recs = [] → x.group = r.group → x.node ≠ s.node → (s.grpNodes r.group.toNat).contains x.node.toNat = true →
    (2 < (s.grpNodes r.group.toNat).length →
      Goes (.signatureRecord i x) s (fun t => t.grp.runs = [{ r with recs := [x] }] ∧ t.out = s.out ++ [.sigRec i.toNat x] ∧ t.mems = s.mems)) ∧
    ((s.grpNodes r.group.toNat).length = 2 → own.bad = false → own.timed = false → SigRec_differs own x = 0 →
      Goes (.signatureRecord i x) s (fun t => t.grp.runs =
        [{ r with recs := [x], verdict := some true, start := BitVec.ofNat 64 (max (max own.slot.toNat x.slot.toNat + 8) r.start.toNat) }] ∧
        t.out = s.out ++ [.sigRec i.toNat x] ∧ t.mems = s.mems)) ∧
    (∀ (m : Nat × BitVec 10 × BitVec 16) (d : Desc), r.mems = [m] → s.memDesc m = some d → swf QRec.idle s.qmg.qs = true →
      (s.grpNodes r.group.toNat).length = 2 → own.bad = false → SigRec_differs own x ≠ 0 →
      Goes (.signatureRecord i x) s (fun t => t.grp.runs = [] ∧ (t.memDesc m).map (fun y => (y.st, y.status)) = some (.finished, stSigMismatch))))) ∧
  ((∀ (s : State) (i : BitVec 6) (r : Run), s.up = true → s.grp.runs = [r] → r.inst = i.toNat → r.mayRound = true → r.verdict = some true → r.inRound = false →
    r.done < r.total → (∀ m ∈ r.mems, s.qState m.2.1.toNat ≠ qStopping) →
    (s.nominal r r.done ≤ s.clk.slot.toNat →
      Goes (.roundStart i) s (fun t => t.grp.runs = [{ r with inRound := true }] ∧ t.mems = s.mems ∧ t.out = s.out)) ∧
    (s.clk.slot.toNat < s.nominal r r.done → exec (.roundStart i) s = .next s)) ∧
  (∀ (s : State) (i : BitVec 6) (r : Run), s.up = true → s.grp.runs = [r] → r.inst = i.toNat → r.inRound = true →
    (∀ m ∈ r.mems, s.qState m.2.1.toNat ≠ qStopping) →
    Goes (.roundEnd i) s (fun t => t.grp.runs = [{ r with inRound := false, done := r.done + 1, since := s.now }] ∧ t.mems = s.mems ∧ t.out = s.out ∧
      (∀ (m : Nat × BitVec 10 × BitVec 16) (d : Desc), r.mems = [m] → s.memDesc m = some d → swf QRec.idle s.qmg.qs = true →
        (t.memDesc m).map (fun y => y.prog) = some (r.done + 1)))) ∧
  (∀ (s : State) (i : BitVec 6) (r : Run), s.up = true → s.run i.toNat = some r → r.inRound = false → exec (.roundEnd i) s = .next s) ∧
  (∀ (s : State) (r : Run) (m : Nat × BitVec 10 × BitVec 16) (d : Desc) (st : Status) (n : NodeId), s.up = true → s.grp.runs = [r] → r.mems = [m] →
    r.inst < 64 → r.tiles = [] → s.memDesc m = some d → swf QRec.idle s.qmg.qs = true → swf regReset s.regs = true →
    Goes (.abortRecord r.group r.seq st n) s (fun t => t.grp.runs = [] ∧
      (t.memDesc m).map (fun y => (y.st, y.status, y.prog)) = some (.finished, st, r.done) ∧
      t.f F.GRP_ABORT_CNT_COUNT = s.f F.GRP_ABORT_CNT_COUNT + 1)) ∧
  (∀ (s : State) (g : BitVec 10) (q : R32) (st : Status) (n : NodeId), s.up = true → (∀ r, s.runOf g.toNat = some r → r.seq ≠ q) →
    exec (.abortRecord g q st n) s = .next s) ∧
  (∀ (s : State) (i : BitVec 6) (r : Run), s.up = true → s.grp.runs = [r] → r.inst = i.toNat → r.heldPosted = false → s.f F.GRP_CTL_HOLD ≠ 0 →
    r.inRound = false → r.paused = false → r.own.isSome = true → s.heldLong r = true → swf regReset s.regs = true →
    Goes (.collHoldTimeout i) s (fun t => t.grp.runs = [{ r with heldPosted := true }] ∧ t.on F.GRP_STAT_HELD = true ∧ t.mems.pool = s.mems.pool)) ∧
  (∀ (s : State) (i : BitVec 6) (r : Run), s.up = true → s.run i.toNat = some r → (r.heldPosted = true ∨ s.f F.GRP_CTL_HOLD = 0 ∨ s.heldLong r = false) →
    exec (.collHoldTimeout i) s = .next s) ∧
  (∀ (s : State) (i : BitVec 6) (e : BitVec 16) (l : List Assign) (resps : List Resp) (r : Run) (d : Desc) (x : List (Nat × List MRoute)), s.up = true →
    s.grp.runs = [r] → r.inst = i.toNat → s.runDesc r = some d → d.kind = 6 → r.own.isSome = true → r.paused = false →
    (s.localExperts d.emap).contains e.toNat = true → r.decisions = [] → r.routes = some x →
    Goes (.expertDecision i e ⟨l, resps⟩) s (fun t => t.grp.runs = [{ r with decisions := [decideFor e.toNat (s.exCap d.emap e.toNat)
        (r.assigned e.toNat ++ l.filter (fun a => agentNode (s.grpMember r.group.toNat a.member.toNat) != s.node))] }] ∧ t.mems = s.mems ∧ t.out = s.out)) ∧
  (∀ (s : State) (i : BitVec 6) (e : BitVec 16) (l : List Assign) (resps : List Resp) (r : Run) (d : Desc), s.up = true → s.run i.toNat = some r →
    s.runDesc r = some d → (s.localExperts d.emap).contains e.toNat = false → exec (.expertDecision i e ⟨l, resps⟩) s = .next s))

/-- TIME_HB_SEND on a trained torus link, when one is due and nothing waits before it there: the message goes out with the next sequence number, and its
instant is kept (R283, R464); clock and memories stay. On a link that is not trained neither it nor TIME_HB does anything. TIME_HB at a node with EN
clear and no root, of a peer that is not going and has the same orders, none being held: the port notes the sender, its incarnation and its sequence,
and MISSED is 0 (R465); clock and memories stay. ROOT_ELECTION: a candidate that may become ROOT does, with HOPS 0, itself as root and no parent, and
keeps its time; another does not (R286). PARENT_TIMEOUT: a parent silent for 2,000 ticks is given up, and a CONVERGED node goes to HOLDOVER; with no
parent or before that nothing changes (R289). DTT_CTL_WRITE: EN rising starts ACQUIRE with no root heard, EN falling ends synchronisation with HOPS 7
and no parent, the count running on. DTT_ROOTS_WRITE writes the list and listening starts again (R286); a ROOT that is no longer listed goes to
HOLDOVER. What is not due, or finds no case for it, changes nothing: the model's choice (log entry 20). -/
def Obligations.DomainTime : Prop :=
  ((∀ (s : State) (p : Fin 6), s.up = true → s.trained p.val = true → s.hbDue p.val = true → (s.lp p.val).queue = [] →
    s.mayGo p.val (.ctrl (.timeHb (s.hbMessage p.val))) = true → swf noPort s.dtt.ports = true →
    Goes (.timeHbSend p) s (fun t => (t.pt p.val).txSeq = (s.pt p.val).txSeq + 1 ∧
      (t.pt p.val).sent.head? = some ((s.pt p.val).txSeq + 1, ⟨s.now, s.clk.phase⟩) ∧ t.clk = s.clk ∧ t.mems = s.mems)) ∧
  (∀ (s : State) (p : Fin 6) (m : TimeHb) (rx : Stamp), s.trained p.val = false →
    exec (.timeHbSend p) s = .next s ∧ exec (.timeHb p m rx) s = .next s) ∧
  (∀ (s : State) (p : Fin 6) (m : TimeHb) (rx : Stamp), s.up = true → s.trained p.val = true → s.on F.DTT_CTL_EN = false → m.going = false →
    m.orderSeq = s.orderSeq → s.flt.held = [] → s.sync ≠ syRoot → swf noPort s.dtt.ports = true → swf regReset s.regs = true →
    Goes (.timeHb p m rx) s (fun t => t.f (F.FLT_PORT_HB_PEER p.val) = m.node ∧ t.f (F.FLT_PORT_HB_PEER_INC p.val) = m.inc ∧
      t.f (F.FLT_PORT_HB_MISSED p.val) = 0 ∧ (t.pt p.val).heard = true ∧ (t.pt p.val).tick = s.now ∧ (t.pt p.val).rxSeq = m.seq ∧
      t.clk = s.clk ∧ t.mems = s.mems))) ∧
  ((∀ s : State, s.up = true → s.mayRoot = true → swf regReset s.regs = true →
    Goes .rootElection s (fun t => t.sync = syRoot ∧ t.f F.DTT_SYNC_STAT_HOPS = 0 ∧ t.f F.DTT_SYNC_STAT_ROOT = s.node ∧
      t.f F.DTT_SYNC_STAT_PARENT = 7 ∧ t.clk = s.clk)) ∧
  (∀ s : State, s.mayRoot = false → exec .rootElection s = .next s) ∧
  (∀ s : State, s.up = true → s.f F.DTT_SYNC_STAT_PARENT ≠ 7 → 2000 ≤ s.now.toNat - s.dtt.parentAt.toNat → s.sync = syConverged →
    swf regReset s.regs = true →
    Goes .parentTimeout s (fun t => t.sync = syHoldover ∧ t.f F.DTT_SYNC_STAT_PARENT = 7 ∧ t.dtt.offsets = [] ∧ t.clk = s.clk)) ∧
  (∀ s : State, s.up = true → s.f F.DTT_SYNC_STAT_PARENT ≠ 7 → 2000 ≤ s.now.toNat - s.dtt.parentAt.toNat → s.sync ≠ syConverged →
    exec .parentTimeout s = .next s.noParent) ∧
  (∀ s : State, s.f F.DTT_SYNC_STAT_PARENT = 7 ∨ s.now.toNat - s.dtt.parentAt.toNat < 2000 → exec .parentTimeout s = .next s) ∧
  (∀ (s : State) (v : R32), s.takes = true → s.on F.DTT_CTL_EN = false → fget F.DTT_CTL_EN v = 1 → swf regReset s.regs = true →
    Goes (.dttCtlWrite v) s (fun t => t.sync = syAcquire ∧ t.rd Reg.DTT_CTL = v &&& 15 ∧ t.dtt.listen = s.now ∧ t.dtt.roots = [] ∧ t.clk = s.clk)) ∧
  (∀ (s : State) (v : R32), s.takes = true → s.on F.DTT_CTL_EN = true → fget F.DTT_CTL_EN v = 0 → swf regReset s.regs = true →
    Goes (.dttCtlWrite v) s (fun t => t.sync = syDisabled ∧ t.f F.DTT_SYNC_STAT_HOPS = 7 ∧ t.f F.DTT_SYNC_STAT_PARENT = 7 ∧ t.clk = s.clk)) ∧
  (∀ (s : State) (v : R32), s.takes = true → s.sync ≠ syRoot → exec (.dttRootsWrite v) s =
    .next { s.wr Reg.DTT_ROOTS (v &&& 0xBFBFBFBF) with dtt := { s.dtt with listen := s.now } }) ∧
  (∀ (s : State) (v : R32), s.takes = true → s.sync = syRoot → ((s.wr Reg.DTT_ROOTS (v &&& 0xBFBFBFBF)).rank s.node) = none →
    swf regReset s.regs = true →
    Goes (.dttRootsWrite v) s (fun t => t.sync = syHoldover ∧ t.rd Reg.DTT_ROOTS = v &&& 0xBFBFBFBF ∧ t.clk = s.clk)))

/-- BARRIER_ARM at a node that is not ROOT: with no barrier armed the one written is, a member without parent keeps its arrival, one that is no member
does not arrive; with one armed nothing changes (R292). BARRIER_DISARM leaves none armed. ARRIVE: a node that is not ROOT sends it to its parent, or
keeps it without one; a ROOT counts it for its armed barrier, and at EXPECT the instant of firing is set, FIRE 16-cycle steps ahead and at least one,
and the count is 0 (R293, R294). RELEASE sets the instant of firing from the remaining delay, late where that is negative, with its load (R294, R295).
BARRIER_FIRE at that instant, with no queue in use: a member's armed barrier has fired, is counted and no longer armed (R296); a load sets the count
of a node whose time is not fixed, with factor 16, and fixes it (R294); before the instant, or with none set, nothing changes. DT_SYNC_EDGE with
EXT_BAR set and the pin no output sets the instant of the armed barrier 16 core cycles ahead, without load; else nothing changes (R297, R661). What is
not due, or finds no case for it, changes nothing: the model's choice (log entry 20). -/
def Obligations.Barriers : Prop :=
  ((∀ (s : State) (v : R32), s.takes = true → s.dtt.bar = none → fget F.DTT_BAR_CTL_MEMBER v = 1 → s.sync ≠ syRoot →
    s.f F.DTT_SYNC_STAT_PARENT = 7 → swf regReset s.regs = true →
    Goes (.barrierArm v) s (fun t => t.dtt.bar = some (fget F.DTT_BAR_CTL_SEQ v, true) ∧ t.f F.DTT_BAR_STAT_STATE = 2 ∧
      t.dtt.arrHold = s.dtt.arrHold ++ [(fget F.DTT_BAR_CTL_SEQ v, 1)] ∧ t.clk = s.clk ∧ t.mems = s.mems)) ∧
  (∀ (s : State) (v : R32), s.takes = true → s.dtt.bar = none → fget F.DTT_BAR_CTL_MEMBER v = 0 → s.sync ≠ syRoot → swf regReset s.regs = true →
    Goes (.barrierArm v) s (fun t => t.dtt = { s.dtt with bar := some (fget F.DTT_BAR_CTL_SEQ v, false) } ∧ t.f F.DTT_BAR_STAT_STATE = 1 ∧
      t.clk = s.clk ∧ t.mems = s.mems)) ∧
  (∀ (s : State) (v : R32), s.dtt.bar.isSome = true → exec (.barrierArm v) s = .next s) ∧
  (∀ (s : State), s.takes = true →
    exec .barrierDisarm s = .next (State.setF { s with dtt := { s.dtt with bar := none } } F.DTT_BAR_STAT_STATE 0)) ∧
  (∀ (s : State) (p : Fin 6) (q : BitVec 8) (n : BitVec 7), s.up = true → s.sync ≠ syRoot → s.f F.DTT_SYNC_STAT_PARENT ≠ 7 →
    exec (.arrive p q n) s = .next (s.ctrl (s.f F.DTT_SYNC_STAT_PARENT).toNat (.arrive q n))) ∧
  (∀ (s : State) (p : Fin 6) (q : BitVec 8) (n : BitVec 7), s.up = true → s.sync ≠ syRoot → s.f F.DTT_SYNC_STAT_PARENT = 7 →
    exec (.arrive p q n) s = .next { s with dtt := { s.dtt with arrHold := s.dtt.arrHold ++ [(q, n)] } }) ∧
  (∀ (s : State) (p : Fin 6) (q : BitVec 8) (n : BitVec 7) (m : Bool), s.up = true → s.sync = syRoot → s.dtt.bar = some (q, m) →
    sget noArr s.dtt.arrivals q.toNat + n.toNat < (s.f F.DTT_BAR_CTL_EXPECT).toNat → swf noArr s.dtt.arrivals = true →
    exec (.arrive p q n) s = .next { s with dtt := { s.dtt with
      arrivals := sset noArr s.dtt.arrivals q.toNat (sget noArr s.dtt.arrivals q.toNat + n.toNat) } }) ∧
  (∀ (s : State) (p : Fin 6) (q : BitVec 8) (n : BitVec 7) (m : Bool), s.up = true → s.sync = syRoot → s.dtt.bar = some (q, m) →
    s.dtt.firing = none → (s.f F.DTT_BAR_CTL_EXPECT).toNat ≤ sget noArr s.dtt.arrivals q.toNat + n.toNat → swf noArr s.dtt.arrivals = true →
    Goes (.arrive p q n) s (fun t => t.dtt.firing = some ⟨q, s.units + 256 * max 1 (s.f F.DTT_BAR_CTL_FIRE).toNat,
      (if s.on F.DTT_BAR_CTL_LOAD then some s.barLoad else none), false⟩ ∧ sget noArr t.dtt.arrivals q.toNat = 0 ∧ t.clk = s.clk))) ∧
  ((∀ (s : State) (p : Fin 6) (q : BitVec 8) (ld : Bool) (r v : R64), s.up = true →
    Goes (.release p q ld r v) s (fun t => t.dtt.firing = some ⟨q, s.units + r.toInt.toNat, (if ld then some v else none), decide (r.toInt < 0)⟩ ∧
      t.dtt.bar = s.dtt.bar ∧ t.dtt.plan = s.dtt.plan ∧ t.clk = s.clk ∧ t.mems = s.mems)) ∧
  (∀ (s : State) (f : Firing), s.up = true → s.dtt.firing = some f → f.units ≤ s.units → f.load = none → s.dtt.bar = some (f.seq, true) →
    s.qmg.qs = [] → swf regReset s.regs = true →
    Goes .barrierFire s (fun t => t.dtt.firing = none ∧ t.dtt.bar = none ∧ t.f F.DTT_BAR_STAT_LAST_SEQ = f.seq ∧
      t.f F.DTT_BAR_STAT_FIRED = s.f F.DTT_BAR_STAT_FIRED + 1 ∧ t.f F.DTT_BAR_STAT_STATE = 0 ∧ t.clk = s.clk)) ∧
  (∀ (s : State) (f : Firing) (v : R64), s.up = true → s.dtt.firing = some f → f.units ≤ s.units → f.load = some v → s.fixed = false →
    s.dtt.bar = none → swf regReset s.regs = true →
    Goes .barrierFire s (fun t => t.clk.now = v ∧ t.clk.phase = 0 ∧ t.fixed = true ∧ t.f F.DTT_DIL_K = 16 ∧ t.dtt.firing = none)) ∧
  (∀ (s : State) (f : Firing), s.dtt.firing = some f → s.units < f.units → exec .barrierFire s = .next s) ∧
  (∀ (s : State), s.dtt.firing = none → exec .barrierFire s = .next s) ∧
  (∀ (s : State) (q : BitVec 8) (m : Bool), s.up = true → s.dtt.bar = some (q, m) → s.on F.DTT_CTL_EXT_BAR = true → s.on F.DTT_CTL_DTSYNC_OUT = false → s.on F.DTT_CTL_DTSYNC_SWAP = false →
    exec .dtSyncEdge s = .next { s with dtt := { s.dtt with firing := some ⟨q, s.units + 256, none, false⟩ } }) ∧
  (∀ (s : State), s.dtt.bar = none ∨ s.on F.DTT_CTL_EXT_BAR = false ∨ s.on F.DTT_CTL_DTSYNC_OUT = true ∨ s.on F.DTT_CTL_DTSYNC_SWAP = true →
    exec .dtSyncEdge s = .next s))

/-- APPLY and FORCE_K written at a node that is neither CONVERGED nor ROOT only show ERR 3; at another node that is not ROOT they go on towards the root
with ERR 0, a FORCE_K outside 16 to 32 only showing ERR 4; at the ROOT one outside 16 to 32 is refused with ERR 4, one whose tick is less than 16,000
ticks ahead with ERR 1, and else becomes the next plan at that tick, towards its factor, the first of the table that meets the target, or the greater
thermal factor (R329, R330, R339). A command on its way is taken by the ROOT, answered with ERR 3 without parent, and else sent on; a result that
comes back is shown. DILATION_STEP: a due step of the plan in force moves the factor by one at the present boundary, where the grid is anchored
(R331); one not due moves nothing, and before E, with no earlier plan, nothing changes. K_THERM_DECAY: at the ROOT a millisecond after the requests
fell the thermal factor is one less; elsewhere or before that nothing changes (R334). What is not due, or finds no case for it, changes nothing: the
model's choice (log entry 20). -/
def Obligations.PowerPlans : Prop :=
  (∀ (s : State) (k : BitVec 6) (c : Instr), s.takes = true → s.inTime = false → c ∈ [.apply, .forceK (.written k)] →
    exec c s = .next (s.setF F.DTT_ENV_STAT_ERR 3)) ∧
  (∀ (s : State), s.takes = true → s.inTime = true → s.sync ≠ syRoot → exec .apply s =
    .next ((s.setF F.DTT_ENV_STAT_ERR 0).emit (.envelope s.node (s.rd Reg.DTT_ENV_TARGET) s.envTick none))) ∧
  (∀ (s : State) (k : BitVec 6), s.takes = true → s.inTime = true → s.sync ≠ syRoot →
    (16 ≤ k.toNat → k.toNat ≤ 32 → exec (.forceK (.written k)) s =
      .next ((s.setF F.DTT_ENV_STAT_ERR 0).emit (.envelope s.node (s.rd Reg.DTT_ENV_TARGET) s.envTick (some k)))) ∧
    (k.toNat < 16 ∨ 32 < k.toNat → exec (.forceK (.written k)) s = .next (s.setF F.DTT_ENV_STAT_ERR 4))) ∧
  (∀ (s : State) (k : BitVec 6), s.takes = true → s.sync = syRoot → (k.toNat < 16 ∨ 32 < k.toNat) →
    exec (.forceK (.written k)) s = .next ((s.post (ev 0x48 stOk 4 0)).setF F.DTT_ENV_STAT_ERR 4)) ∧
  (∀ (s : State) (k : BitVec 6) (c : Instr), s.takes = true → s.sync = syRoot → 16 ≤ k.toNat → k.toNat ≤ 32 →
    s.envTick.toNat < s.now.toNat + 16000 → c ∈ [.apply, .forceK (.written k)] →
    exec c s = .next ((s.post (ev 0x48 stOk 1 0)).setF F.DTT_ENV_STAT_ERR 1)) ∧
  (∀ (s : State) (k : BitVec 6), s.takes = true → s.sync = syRoot → 16 ≤ k.toNat → k.toNat ≤ 32 →
    s.now.toNat + 16000 ≤ s.envTick.toNat → swf regReset s.regs = true →
    Goes (.forceK (.written k)) s (fun t => t.dtt.kEnv = k ∧ t.dtt.plan.e = s.envTick ∧ t.dtt.plan.seq = s.dtt.plan.seq + 1 ∧
      t.dtt.plan.kTo = (if k.toNat < s.dtt.kTherm.toNat then s.dtt.kTherm else k) ∧ t.f F.DTT_ENV_STAT_ERR = 0 ∧
      t.clk = s.clk ∧ t.mems = s.mems)) ∧
  (∀ (s : State), s.takes = true → s.sync = syRoot → s.now.toNat + 16000 ≤ s.envTick.toNat → s.tabFalls = true → swf regReset s.regs = true →
    Goes .apply s (fun t => t.dtt.kEnv = BitVec.ofNat 6 ((((List.range 17).map (16 + ·)).find?
        (fun k => decide (s.dilTab k ≤ (s.f F.DTT_ENV_TARGET_TARGET).toNat))).getD 32) ∧ t.dtt.plan.e = s.envTick ∧
      t.dtt.plan.ramp = s.f F.DTT_ENV_TARGET_RAMP ∧ t.f F.DTT_ENV_STAT_ERR = 0 ∧ t.clk = s.clk)) ∧
  (∀ (s : State) (e : BitVec 4), s.up = true → exec (.forceK (.result e)) s = .next (s.setF F.DTT_ENV_STAT_ERR e)) ∧
  (∀ (s : State) (f : Option (BitVec 6)) (n : NodeId) (target : R32) (tick : R64), s.up = true →
    (s.sync = syRoot → exec (.forceK (.command f n target tick)) s =
      .next ((s.envRoot target tick f).2.emit (.envResult n (s.envRoot target tick f).1))) ∧
    (s.sync ≠ syRoot → s.f F.DTT_SYNC_STAT_PARENT = 7 → exec (.forceK (.command f n target tick)) s = .next (s.emit (.envResult n 3))) ∧
    (s.sync ≠ syRoot → s.f F.DTT_SYNC_STAT_PARENT ≠ 7 → exec (.forceK (.command f n target tick)) s =
      .next (s.emit (.envelope n target tick f)))) ∧
  (∀ (s : State), s.up = true → s.dtt.plan.e.toNat ≤ s.boundary → s.stepDue s.dtt.plan = true → swf regReset s.regs = true →
    Goes .dilationStep s (fun t => t.f F.DTT_DIL_K = BitVec.ofNat 6 (s.dtt.plan.stepK s.k) ∧ t.dtt.plan.done = s.dtt.plan.done + 1 ∧
      t.clk.gridTick = BitVec.ofNat 64 s.boundary ∧ t.clk.gridSlot = s.clk.slot ∧ t.clk.now = s.clk.now)) ∧
  (∀ (s : State), s.up = true → s.dtt.plan.e.toNat ≤ s.boundary → s.stepDue s.dtt.plan = false →
    exec .dilationStep s = .next { s with dtt := { s.dtt with olds := [] } }) ∧
  (∀ (s : State), s.boundary < s.dtt.plan.e.toNat → s.dtt.olds = [] → exec .dilationStep s = .next s) ∧
  (∀ (s : State), s.up = true → s.sync = syRoot → s.greatestTherm.toNat < s.dtt.kTherm.toNat → 250000 ≤ s.now.toNat - s.dtt.thermAt.toNat →
    Goes .kThermDecay s (fun t => t.dtt.kTherm = s.dtt.kTherm - 1 ∧ t.dtt.thermAt = s.now ∧ t.clk = s.clk)) ∧
  (∀ (s : State), s.sync ≠ syRoot ∨ s.now.toNat - s.dtt.thermAt.toNat < 250000 → exec .kThermDecay s = .next s)

/-- SLOT_BOUNDARY: at the next boundary's tick the slot number rises by one and no other part of the time moves, the home and the pool as before; before
that tick nothing changes (R299). DIR_SWEEP_SLOT and TELEMETRY_SLOT in a HOUSEKEEPING entry of their code, once a slot: the sweep changes nothing but
that it is done, telemetry takes the tick; done already, nothing changes (R315). SCHED_FLIT_RECEIVE: a flit of a stream that the active set does not
know at that input is kept for a set that does; one in time is staged for each output of its stream and goes to its tile, registers and memories as
before (R310); one that comes late is counted and LATE set (R312). What is not due, or finds no case for it, changes nothing: the model's choice (log
entry 20). -/
def Obligations.SlotsAndFlits : Prop :=
  ((∀ s : State, s.up = true → s.nextBoundary ≤ s.now.toNat →
    Goes .slotBoundary s (fun t => t.clk = { s.clk with slot := s.clk.slot + 1 } ∧ t.home = s.home ∧ t.mems.pool = s.mems.pool)) ∧
  (∀ s : State, s.now.toNat < s.nextBoundary → exec .slotBoundary s = .next s) ∧
  (∀ s : State, s.up = true → isBg bgDirSweep (s.entry 63) = true → s.dtt.bgDone = false →
    exec .dirSweepSlot s = .next { s with dtt := { s.dtt with bgDone := true } }) ∧
  (∀ s : State, s.up = true → isBg bgTelemetry (s.entry 63) = true → s.dtt.bgDone = false → swf regReset s.regs = true →
    Goes .telemetrySlot s (fun t => t.rd Reg.FLT_TEL_TICK_LO = s.now.setWidth 32 ∧ t.rd Reg.FLT_TEL_TICK_HI = s.now.extractLsb' 32 32 ∧
      t.dtt = { s.dtt with bgDone := true } ∧ t.mems = s.mems)) ∧
  (∀ s : State, s.dtt.bgDone = true → exec .dirSweepSlot s = .next s ∧ exec .telemetrySlot s = .next s)) ∧
  ((∀ (s : State) (p : Fin 6) (f : SFlit), s.up = true → (∀ e, s.stream f.stream.toNat = some e → e.src ≠ p.val) →
    exec (.schedFlitReceive p f) s = .next { s with dtt := { s.dtt with orphans := s.dtt.orphans ++ [(p.val, f)] } }) ∧
  (∀ (s : State) (p : Fin 6) (f : SFlit) (e : StreamE), s.up = true → s.stream f.stream.toNat = some e → e.src = p.val → e.out ≠ 0 →
    (s.clk.slot.setWidth 8 - f.slot).toNat < (s.f (F.DTT_PORT_LAG_LAG p.val)).toNat → swf noStaged s.dtt.staged = true →
    Goes (.schedFlitReceive p f) s (fun t => (∀ k ∈ List.range 6, t.stagedAt k =
      (if bitAt e.out k then s.stagedAt k ++ [⟨f.stream, some p.val, s.dtt.nextMark, f.data, 0⟩] else s.stagedAt k)) ∧
      t.out = (if e.tileOut then s.out ++ [.schedTile e.tile f] else s.out) ∧ t.regs = s.regs ∧ t.mems = s.mems)) ∧
  (∀ (s : State) (p : Fin 6) (f : SFlit) (e : StreamE), s.up = true → s.stream f.stream.toNat = some e → e.src = p.val →
    (s.f (F.DTT_PORT_LAG_LAG p.val)).toNat ≤ (s.clk.slot.setWidth 8 - f.slot).toNat → swf regReset s.regs = true →
    Goes (.schedFlitReceive p f) s (fun t => t.f F.DTT_LATE_CNT_COUNT = s.f F.DTT_LATE_CNT_COUNT + 1 ∧ t.on F.DTT_STAT_LATE = true)))

/-- VALIDATE and TT_ARM of the active set complete with ERR 9; of another while one is armed or under check with the first failure of its own, or ERR 9
without one; else the check starts, with BUSY set and the swap tick as it is now (R318). TT_DISARM of a set that is not active ends an arming whose
boundary has not come, and does nothing at or after it; of the active set it shows ERR 9 (R320). TT_CHECK_DONE shows the result with BUSY 0, and an
ARM that passes is armed (R319); with no check nothing changes. TIMETABLE_SWAP at or after the swap tick, and after the end of the check: the set is
active from this slot on, no longer armed, and the clock as before; before that, or with none armed, nothing changes. TTWIN_WRITE to a set active or
armed only sets LIVE_WR, to another it is done (R321). What is not due, or finds no case for it, changes nothing: the model's choice (log entry 20). -/
def Obligations.TimetableSets : Prop :=
  (∀ (s : State) (b : Bool) (c : Instr) (arm : Bool), s.takes = true → (c, arm) ∈ [(Instr.validate b, false), (.ttArm b, true)] →
    (s.activeSet = some (b2n b) → exec c s = .next (s.ttResult (b2n b) arm (9, 0, 0))) ∧
    (s.activeSet ≠ some (b2n b) → (s.dtt.armed.isSome = true ∨ s.dtt.checking.isSome = true) →
      exec c s = .next (s.ttResult (b2n b) arm (if (s.checkSet (b2n b) arm).1 = 0 then (9, 0, 0) else s.checkSet (b2n b) arm)))) ∧
  (∀ (s : State) (b : Bool) (c : Instr) (arm : Bool), s.takes = true → (c, arm) ∈ [(Instr.validate b, false), (.ttArm b, true)] →
    s.activeSet ≠ some (b2n b) → s.dtt.armed = none → s.dtt.checking = none →
    exec c s = .next (State.setF { s with dtt := { s.dtt with checking := some (b2n b, arm, s.swapTick) } } F.DTT_TT_STAT_BUSY 1)) ∧
  (∀ (s : State) (b : Bool), s.takes = true → s.activeSet ≠ some (b2n b) →
    (s.swapDue = false → exec (.ttDisarm b) s = .next (State.setF { s with dtt := { s.dtt with armed := none } } F.DTT_TT_STAT_ARMED 0)) ∧
    (s.swapDue = true → exec (.ttDisarm b) s = .next s)) ∧
  (∀ (s : State) (b : Bool), s.takes = true → s.activeSet = some (b2n b) → exec (.ttDisarm b) s = .next (s.setF F.DTT_TT_STAT_ERR 9)) ∧
  (∀ (s : State) (set : Nat) (arm : Bool) (tick : R64) (r : BitVec 4 × Nat × Nat), s.up = true → s.dtt.checking = some (set, arm, tick) → s.checkSet set arm = r →
    swf regReset s.regs = true →
    Goes .ttCheckDone s (fun t => t.dtt.checking = none ∧ t.on F.DTT_TT_STAT_BUSY = false ∧ t.f F.DTT_TT_STAT_ERR = r.1 ∧
      t.f F.DTT_TT_STAT_PAGE = BitVec.ofNat 6 r.2.1 ∧ t.f F.DTT_TT_STAT_INDEX = BitVec.ofNat 16 r.2.2 ∧
      t.dtt.armed = (if r.1 = 0 ∧ arm = true then some (set, tick, s.now) else s.dtt.armed) ∧ t.clk = s.clk)) ∧
  (∀ (s : State), s.dtt.checking = none → exec .ttCheckDone s = .next s) ∧
  (∀ (s : State) (set : Nat) (tick d : R64), s.up = true → s.dtt.armed = some (set, tick, d) → tick.toNat ≤ s.boundary → d.toNat < s.boundary →
    swf regReset s.regs = true →
    Goes .timetableSwap s (fun t => t.dtt.armed = none ∧ t.dtt.sSwap = s.clk.slot ∧ t.f F.DTT_TT_STAT_ACTIVE = BitVec.ofNat 1 set ∧
      t.on F.DTT_TT_STAT_DEFAULT = false ∧ t.on F.DTT_TT_STAT_ARMED = false ∧ t.clk = s.clk)) ∧
  (∀ (s : State) (set : Nat) (tick d : R64), s.dtt.armed = some (set, tick, d) → s.boundary < tick.toNat ∨ s.boundary ≤ d.toNat →
    exec .timetableSwap s = .next s) ∧
  (∀ (s : State), s.dtt.armed = none → exec .timetableSwap s = .next s) ∧
  (∀ (s : State) (off : BitVec 17) (wide : Bool) (v : R64), s.takes = true → s.setLive (s.f F.DTT_TTWIN_PAGE_SET).toNat = true →
    exec (.ttwinWrite off wide v) s = .next (s.setF F.DTT_STAT_LIVE_WR 1)) ∧
  (∀ (s : State) (off : BitVec 17) (wide : Bool) (v : R64), s.takes = true → s.setLive (s.f F.DTT_TTWIN_PAGE_SET).toNat = false →
    exec (.ttwinWrite off wide v) s = .next { s with mems := { s.mems with tt := winWrite s.mems.tt (ttBase (s.f F.DTT_TTWIN_PAGE_SET).toNat (s.f F.DTT_TTWIN_PAGE_PAGE).toNat + off.toNat) wide v } })

/-- TILE_STEP: a step whose blocks and adds check is done: its outputs, its flits and its hashes for a follower, and it counts (R371); one whose adds
check only when run again is reported, its retry counted, and done (R372); a block that enters with a wrong residue, on a tile with no other work, is
counted and reported, and the step does not count (R371); a tile that stands runs nothing. TILE_FAILURE of a bound tile with a spare free waits for it
(R379); with none free, and no work on the tile, the logical tile is unbound, its complex short and the tile disabled (R380); of a number beyond 55,
or of a tile that is neither bound nor enabled, nothing changes. ENG_T_CTL_WRITE of a tile with work is kept; of an idle one, with no accumulating
extent, WORK takes effect; beyond tile 47 nothing changes (R343). DOPPIO_STEP at a follower: its inputs and outputs stand in its tile's working store,
the step counts, and its hashes are noted and go to the peer (R384); at no enabled follower nothing changes. DOPPIO_COMPARE: the first step's own
hashes that wait are compared with those that came and counted; where the only block's hash differs, MISMATCH and DOPPIO are set and it is counted
(R385); with none waiting nothing changes. What is not due, or finds no case for it, changes nothing: the model's choice (log entry 20). -/
def Obligations.Tiles : Prop :=
  ((∀ (s : State) (n : BitVec 6) (w : TileWork), s.up = true → s.tileStands n.toNat = false → badEntered w = none → badAdd w.adds = none →
    exec (.tileStep n w) s = .next (s.stepDone n.toNat w) ∧
    (swf regReset s.regs = true → Goes (.tileStep n w) s (fun t =>
      t.f (F.ENG_T_STEPS_COUNT n.toNat) = s.f (F.ENG_T_STEPS_COUNT n.toNat) + 1 ∧ t.mems.sram = (s.tileWrite n.toNat w).mems.sram ∧ t.clk = s.clk))) ∧
  (∀ (s : State) (n : BitVec 6) (w : TileWork), s.tileStands n.toNat = true → exec (.tileStep n w) s = .next s) ∧
  (∀ (s : State) (n : BitVec 6) (w : TileWork) (b : Nat), s.up = true → s.tileStands n.toNat = false → badEntered w = some b →
    s.grp.runs = [] → s.tileDescs n.toNat = [] → swf regReset s.regs = true →
    Goes (.tileStep n w) s (fun t => t.on F.ENG_STAT_RESID = true ∧ t.f (F.ENG_T_RESID_FAILS n.toNat) = satAdd (s.f (F.ENG_T_RESID_FAILS n.toNat)) 1 ∧
      t.f (F.ENG_T_STEPS_COUNT n.toNat) = s.f (F.ENG_T_STEPS_COUNT n.toNat) ∧ t.eng = s.eng)) ∧
  (∀ (s : State) (n : BitVec 6) (w : TileWork) (b : Nat), s.up = true → s.tileStands n.toNat = false → badEntered w = none →
    badAdd w.adds = some b → badAdd w.again = none → swf regReset s.regs = true →
    Goes (.tileStep n w) s (fun t => t.on F.ENG_STAT_RESID = true ∧
      t.f (F.ENG_T_RESID_RETRIES n.toNat) = satAdd (s.f (F.ENG_T_RESID_RETRIES n.toNat)) 1 ∧
      t.f (F.ENG_T_STEPS_COUNT n.toNat) = s.f (F.ENG_T_STEPS_COUNT n.toNat) + 1)) ∧
  (∀ (s : State) (p : BitVec 6) (n : Nat), s.up = true → p.toNat < 56 → s.logicalOf p.toNat = some n → s.eng.failed = [] →
    0 < (s.spares (logCx n)).length →
    exec (.tileFailure p) s = .next { s with eng := { s.eng with failed := [(n, p.toNat, s.clk.slot)] } }) ∧
  (∀ (s : State) (p : BitVec 6) (n : Nat), s.up = true → p.toNat < 56 → s.logicalOf p.toNat = some n → s.eng.failed = [] →
    s.spares (logCx n) = [] → s.grp.runs = [] → s.tileDescs n = [] → swf regReset s.regs = true →
    Goes (.tileFailure p) s (fun t => t.phys n = 0x3F ∧ t.f (F.ENG_T_STAT_STATE n) = 2 ∧ t.on F.GLB_TILES_SHORT = true ∧ t.disabled p.toNat = true)) ∧
  (∀ (s : State) (p : BitVec 6), 56 ≤ p.toNat ∨ (s.logicalOf p.toNat = none ∧ s.disabled p.toNat = true) → exec (.tileFailure p) s = .next s)) ∧
  ((∀ (s : State) (n : BitVec 6) (v : R32), s.takes = true → n.toNat < 48 → s.tileBusy n.toNat = true →
    exec (.engTCtlWrite n v) s = .next (s.keepWr (Reg.ENG_T_CTL n.toNat) v)) ∧
  (∀ (s : State) (n : BitVec 6) (v : R32), s.takes = true → n.toNat < 48 → s.tileBusy n.toNat = false → s.accExts = [] →
    exec (.engTCtlWrite n v) s = .next (s.setF (F.ENG_T_CTL_WORK n.toNat) (fget (F.ENG_T_CTL_WORK n.toNat) v))) ∧
  (∀ (s : State) (n : BitVec 6) (v : R32), 48 ≤ n.toNat → exec (.engTCtlWrite n v) s = .next s) ∧
  (∀ (s : State) (i : BitVec 2) (a b : BitVec 27) (rd bl : List Bytes) (n : Nat), s.up = true → s.on (F.ENG_DOP_CTL_EN i.toNat) = true →
    s.on (F.ENG_DOP_CTL_ROLE i.toNat) = true → n = (s.f (F.ENG_DOP_CTL_TILE i.toNat)).toNat → n < 48 → swf noHash s.eng.hashes = true → swf regReset s.regs = true →
    Goes (.doppioStep i ⟨a, rd, b, bl⟩) s (fun t => t.hashesOf i.toNat = s.hashesOf i.toNat ++ [bl.map crc64] ∧
      t.out = s.out ++ [.doppio (s.f (F.ENG_DOP_CTL_PEER i.toNat)) (s.f (F.ENG_DOP_CTL_PEER_TILE i.toNat)) (bl.map crc64)] ∧
      t.mems = ((s.workWrite n a.toNat rd.flatten).workWrite n b.toNat bl.flatten).mems ∧
      t.f (F.ENG_T_STEPS_COUNT n) = s.f (F.ENG_T_STEPS_COUNT n) + 1)) ∧
  (∀ (s : State) (i : BitVec 2) (a b : BitVec 27) (rd bl : List Bytes), s.on (F.ENG_DOP_CTL_EN i.toNat) = false ∨ s.on (F.ENG_DOP_CTL_ROLE i.toNat) = false →
    exec (.doppioStep i ⟨a, rd, b, bl⟩) s = .next s) ∧
  (∀ (s : State) (i : BitVec 2) (h : List R64) (l : List (List R64)), s.up = true → s.on (F.ENG_DOP_CTL_EN i.toNat) = true →
    s.hashesOf i.toNat = h :: l → swf noHash s.eng.hashes = true → swf regReset s.regs = true →
    Goes (.doppioCompare i h) s (fun t => t.hashesOf i.toNat = l ∧ t.f (F.ENG_DOP_CNT_STEPS i.toNat) = s.f (F.ENG_DOP_CNT_STEPS i.toNat) + 1 ∧
      t.f (F.ENG_DOP_STAT_MISMATCH i.toNat) = s.f (F.ENG_DOP_STAT_MISMATCH i.toNat) ∧ t.mems = s.mems)) ∧
  (∀ (s : State) (i : BitVec 2) (h x : R64) (l : List (List R64)), s.up = true → s.on (F.ENG_DOP_CTL_EN i.toNat) = true →
    s.hashesOf i.toNat = [h] :: l → h ≠ x → swf noHash s.eng.hashes = true → swf regReset s.regs = true →
    Goes (.doppioCompare i [x]) s (fun t => t.hashesOf i.toNat = l ∧ t.f (F.ENG_DOP_STAT_MISMATCH i.toNat) = 1 ∧ t.on F.ENG_STAT_DOPPIO = true ∧
      t.f (F.ENG_DOP_CNT_MISMATCHES i.toNat) = satAdd (s.f (F.ENG_DOP_CNT_MISMATCHES i.toNat)) 1)) ∧
  (∀ (s : State) (i : BitVec 2) (h : List R64), s.hashesOf i.toNat = [] → exec (.doppioCompare i h) s = .next s))

/-- SPARE_SUBSTITUTION of a tile that failed in an earlier slot: the lowest-numbered spare of its complex takes the logical tile, the map is written anew,
the other copy in force, and the old tile is disabled (R379, R381); in the slot of the failure, or with no tile to bind, nothing changes. SPARE_TEST,
SPARE_ENABLE, SPARE_DISABLE: with BUSY set they are ignored; TEST and ENABLE of a bound tile show ERR 1, DISABLE of one that is not bound ERR 3,
ENABLE of one that has passed no test ERR 2 (R388). TEST of a tile not bound starts with BUSY set and ERR 0; ENABLE of one that has passed enables it
and writes the map anew (R381); DISABLE of a bound tile fails it (R378), ERR 0. SPARE_TEST_DONE, where firmware serves: BUSY 0, PASS and the tile's
standing as the test says; with no test nothing changes (R380). -/
def Obligations.Spares : Prop :=
  ((∀ (s : State) (n : BitVec 6) (q : Nat) (l : List Nat) (k : R64), s.up = true → n.toNat < 48 → s.eng.failed = [(n.toNat, s.phys n.toNat, k)] →
    k ≠ s.clk.slot → s.phys n.toNat < 56 → s.spares (logCx n.toNat) = q :: l → swf regReset s.regs = true →
    Goes (.spareSubstitution n) s (fun t => t.phys n.toNat = q ∧ t.eng.failed = [] ∧ t.disabled (s.phys n.toNat) = true ∧
      t.f F.ENG_STAT_GEN = s.f F.ENG_STAT_GEN + 1 ∧ t.on F.ENG_STAT_MAP_B = !s.on F.ENG_STAT_MAP_B ∧ t.mems.pool = s.mems.pool)) ∧
  (∀ (s : State) (n : BitVec 6) (p : Nat), s.phys n.toNat ≠ 0x3F → (s.eng.failed = [] ∨ s.eng.failed = [(n.toNat, p, s.clk.slot)]) →
    exec (.spareSubstitution n) s = .next s)) ∧
  ((∀ (s : State) (p : BitVec 6) (c : Instr), s.on F.ENG_SPARE_RES_BUSY = true → c ∈ [.spareTest p, .spareEnable p, .spareDisable p] →
    exec c s = .next s) ∧
  (∀ (s : State) (p : BitVec 6) (c : Instr), s.takes = true → s.on F.ENG_SPARE_RES_BUSY = false → p.toNat < 56 → (s.logicalOf p.toNat).isSome = true →
    c ∈ [.spareTest p, .spareEnable p] → exec c s = .next ((s.setF F.ENG_SPARE_RES_TILE p).spareResult 1 p.toNat)) ∧
  (∀ (s : State) (p : BitVec 6), s.takes = true → s.on F.ENG_SPARE_RES_BUSY = false → p.toNat < 56 → s.logicalOf p.toNat = none → swf regReset s.regs = true →
    Goes (.spareTest p) s (fun t => t.eng = { s.eng with test := some p } ∧ t.on F.ENG_SPARE_RES_BUSY = true ∧ t.f F.ENG_SPARE_RES_ERR = 0 ∧
      t.f F.ENG_SPARE_RES_TILE = p ∧ t.mems = s.mems)) ∧
  (∀ (s : State) (p : BitVec 6), s.takes = true → s.on F.ENG_SPARE_RES_BUSY = false → p.toNat < 56 → s.logicalOf p.toNat = none →
    exec (.spareDisable p) s = .next ((s.setF F.ENG_SPARE_RES_TILE p).spareResult 3 p.toNat)) ∧
  (∀ (s : State) (p : BitVec 6), s.takes = true → s.on F.ENG_SPARE_RES_BUSY = false → p.toNat < 56 → (s.logicalOf p.toNat).isSome = true →
    exec (.spareDisable p) s = .next (((s.setF F.ENG_SPARE_RES_TILE p).loseTile p.toNat).spareResult 0 p.toNat)) ∧
  (∀ (s : State) (p : BitVec 6), s.takes = true → s.on F.ENG_SPARE_RES_BUSY = false → p.toNat < 56 → s.logicalOf p.toNat = none →
    s.eng.passed.contains p.toNat = false → exec (.spareEnable p) s = .next ((s.setF F.ENG_SPARE_RES_TILE p).spareResult 2 p.toNat)) ∧
  (∀ (s : State) (p : BitVec 6), s.takes = true → s.on F.ENG_SPARE_RES_BUSY = false → p.toNat < 56 → s.logicalOf p.toNat = none →
    s.eng.passed.contains p.toNat = true → swf regReset s.regs = true →
    Goes (.spareEnable p) s (fun t => t.disabled p.toNat = false ∧ t.f F.ENG_SPARE_RES_ERR = 0 ∧ t.f F.ENG_STAT_GEN = s.f F.ENG_STAT_GEN + 1)) ∧
  (∀ (s : State) (p : BitVec 6) (pass : Bool), s.up = true → s.fwServes 2 = true → s.eng.test = some p → swf regReset s.regs = true →
    Goes (.spareTestDone pass) s (fun t => t.eng.test = none ∧ t.eng.passed.contains p.toNat = pass ∧ t.on F.ENG_SPARE_RES_BUSY = false ∧
      t.on F.ENG_SPARE_RES_PASS = pass ∧ t.f F.ENG_SPARE_RES_ERR = 0)) ∧
  (∀ (s : State) (pass : Bool), s.eng.test = none → exec (.spareTestDone pass) s = .next s))

/-- ORDER_SUBMIT: with BUSY set it is refused with ERR 8 and ORDER_REFUSED; else, with fewer than 64 orders held, the order in FLT_ORDWIN goes to
verification and its header is noted as forwarded (R474). ORDER_FRAG: a fragment that is the whole order gives it to verification; a first fragment
that is not waits (R474). ORDER_VERIFY_DONE, where firmware serves: an order that fails checks 1 to 4 is refused with that error (R475); with nothing
held or waiting, one that is not an ADMIT, is next in SEQ and passes every check is applied and its SEQ stored (R476, R478); with nothing to verify,
or while firmware does not serve, nothing changes. EXPEL of this node, with no link UP and no request open: its bit is set and SELF_EXP with it
(R480); EXPEL of another that is no neighbour, with nothing of it open here: its bit is set and its incarnation learnt (R479). ADMIT_ORDER: the order
waits for EFFECTIVE. ADMIT_EFFECTIVE at or after EFFECTIVE: another node's bit is cleared and its incarnation learnt; of this node, the incarnation
and the expelled bits come from the order; the order's SEQ is stored (R490). KEYS: the slot's digest is written to clay and the slot made valid
(R471). With no such order due, none of the four changes anything. What is not due, or finds no case for it, changes nothing: the model's choice (log
entry 20). -/
def Obligations.ManagerOrders : Prop :=
  ((∀ (s : State), s.takes = true → s.on F.FLT_ORD_RES_BUSY = true → exec .orderSubmit s = .next ((s.setF F.FLT_ORD_RES_ERR 8).post
    (evOrderRefused (Mem.rdN s.mems.ordwin 0 (ordLen (Mem.rdN s.mems.ordwin 0 128))) 8))) ∧
  (∀ (s : State) (o : Bytes), s.takes = true → s.on F.FLT_ORD_RES_BUSY = false → o = Mem.rdN s.mems.ordwin 0 (ordLen (Mem.rdN s.mems.ordwin 0 128)) →
    s.flt.held.length < 64 →
    Goes .orderSubmit s (fun t => t.flt.verifying = s.flt.verifying ++ [(o, true)] ∧ (o.take 128) ∈ t.flt.seen ∧ t.clk = s.clk ∧ t.mems = s.mems)) ∧
  (∀ (s : State) (p : Fin 6) (q : R32) (n : BitVec 16) (o : Bytes), s.up = true → s.flt.frags = [] → o.length = n.toNat → s.flt.verifying = [] →
    s.flt.held = [] → s.flt.todo = [] → s.flt.admits = [] → s.flt.applied = [] →
    Goes (.orderFrag p q 0 n o) s (fun t => t.flt.verifying = [(o, false)] ∧ t.flt.frags = [] ∧ t.mems = s.mems)) ∧
  (∀ (s : State) (p : Fin 6) (q : R32) (n : BitVec 16) (d : Bytes), s.up = true → s.flt.frags = [] → d.length < n.toNat →
    exec (.orderFrag p q 0 n d) s = .next { s with flt := { s.flt with frags := [⟨q, n.toNat, [(0, d)]⟩] } }) ∧
  (∀ (s : State) (o : Bytes) (b : Bool) (l : List (Bytes × Bool)), s.up = true → s.fwServes 1 = true → s.flt.verifying = (o, b) :: l → s.orderErr o ≠ 0 →
    exec .orderVerifyDone s = .next (State.refuseOrder { (s.fwDone 1) with flt := { s.flt with verifying := l } } o b (s.orderErr o))) ∧
  (∀ (s : State) (o : Bytes) (b : Bool), s.up = true → s.fwServes 1 = true → s.flt.verifying = [(o, b)] → s.orderErr2 o = 0 →
    s.flt.held = [] → s.flt.todo = [] → s.flt.admits = [] → ordType o ≠ otAdmit → (ordSeq o).toNat = s.orderSeq.toNat + 1 → swf regReset s.regs = true →
    Goes .orderVerifyDone s (fun t => t.flt.verifying = [] ∧ t.clk = s.clk ∧ (s.orderErr o = 0 → t.flt.todo = [o] ∧ t.orderSeq = ordSeq o))) ∧
  (∀ (s : State), s.flt.verifying = [] ∨ s.fwServes 1 = false → exec .orderVerifyDone s = .next s)) ∧
  ((∀ (s : State) (n : NodeId) (o : Bytes), s.up = true → s.flt.todo = [o] → ordType o = otExpel → ordTarget o = n → n = s.node → s.ep.ents = [] →
    (∀ p ∈ List.range 6, s.pState p ≠ pUp) → s.flt.held = [] → swf regReset s.regs = true →
    Goes (.expel n) s (fun t => t.expelled n = true ∧ t.on F.FLT_STAT_SELF_EXP = true ∧ t.flt.todo = [] ∧ t.clk = s.clk ∧ t.home = s.home)) ∧
  (∀ (s : State) (n : NodeId) (o : Bytes), s.up = true → s.flt.todo = [o] → ordType o = otExpel → ordTarget o = n → n ≠ s.node → s.ep.ents = [] →
    s.ep.own = [] → s.home.awaitMack = [] → s.swc.tamps = [] → s.grp.runs = [] → s.liveExts = [] → (∀ p ∈ List.range 6, neighbour s.node p ≠ n) →
    (∀ i ∈ List.range 4, s.on (F.ENG_DOP_CTL_EN i) = false) → s.flt.held = [] → swf noInc s.flt.incs = true → swf regReset s.regs = true →
    Goes (.expel n) s (fun t => t.expelled n = true ∧ t.incOf n = some (ordInc o) ∧ t.flt.todo = [] ∧ t.mems = s.mems ∧ t.clk = s.clk)) ∧
  (∀ (s : State) (n : NodeId), s.flt.todo = [] → exec (.expel n) s = .next s) ∧
  (∀ (s : State) (o : Bytes), s.up = true → s.flt.todo = [o] → ordType o = otAdmit → ordEffective o < 2 ^ 64 →
    exec (.admitOrder (ordTarget o) (ordInc o) (BitVec.ofNat 64 (ordEffective o))) s =
      .next { s with flt := { s.flt with todo := [], admits := s.flt.admits ++ [o] } }) ∧
  (∀ (s : State) (n : NodeId) (i : BitVec 16) (t : R64), s.flt.todo = [] → exec (.admitOrder n i t) s = .next s) ∧
  (∀ (s : State) (o : Bytes), s.up = true → s.flt.admits = [o] → ordEffective o ≤ s.now.toNat → ordTarget o ≠ s.node → s.flt.held = [] →
    (∀ p ∈ List.range 6, neighbour s.node p ≠ ordTarget o) → s.swc.hold = [] → s.swc.stopped = [] → swf noInc s.flt.incs = true →
    swf regReset s.regs = true →
    Goes (.admitEffective (ordTarget o)) s (fun t => t.expelled (ordTarget o) = false ∧ t.incOf (ordTarget o) = some (ordInc o) ∧ t.flt.admits = [] ∧
      t.orderSeq = ordSeq o ∧ t.clk = s.clk)) ∧
  (∀ (s : State) (o : Bytes), s.up = true → s.flt.admits = [o] → ordEffective o ≤ s.now.toNat → ordTarget o = s.node → s.flt.held = [] →
    s.swc.hold = [] → s.swc.stopped = [] → swf regReset s.regs = true →
    Goes (.admitEffective (ordTarget o)) s (fun t => t.f F.FLT_INC_INC = ordInc o ∧ t.rd Reg.FLT_EXP_LO = (BitVec.ofNat 64 (ordW o 10)).setWidth 32 ∧
      t.flt.admits = [] ∧ t.orderSeq = ordSeq o)) ∧
  (∀ (s : State) (n : NodeId), s.flt.admits = [] → exec (.admitEffective n) s = .next s) ∧
  (∀ (s : State) (k : BitVec 3) (o : Bytes), s.up = true → s.flt.todo = [o] → s.flt.held = [] → ordType o = otKeys → (ordTarget o).toNat = k.toNat →
    exec (.keys k (slice o 32 48)) s = .next (
      let u := upto (fun i s => s.nodeClay (0x81 + 16 * k.toNat + i) (BitVec.ofNat 32 (leNat (slice (slice o 32 48) (4 * i) 4)))) 12 s.popTodo
      u.nodeClay (0x80 + 16 * k.toNat) (u.clayWord (0x80 + 16 * k.toNat) ||| 1))) ∧
  (∀ (s : State) (k : BitVec 3) (key : Bytes), s.flt.todo = [] → exec (.keys k key) s = .next s))

/-- HEARTBEAT_MISS: a port that is trained and has had no heartbeat for HB_MISS periods shows the number of them and is declared down (R465); else nothing
changes. STOP: of a job with no message before, it takes entry 0 of an empty table and the job is stopped; a RESUME that comes later than the last
message stands in its entry and the job runs on; one that comes no later changes nothing (R484, R485). JOB_STOP_CMD and JOB_RESUME_CMD do the same
with this node as the origin and now as the time; of job 0 they change nothing (R484). What is not due, or finds no case for it, changes nothing: the
model's choice (log entry 20). -/
def Obligations.JobStops : Prop :=
  (∀ (s : State) (p : Fin 6) (n : Nat), s.up = true → n = (if s.f F.FLT_CTL_HB_MISS = 0 then 8 else (s.f F.FLT_CTL_HB_MISS).toNat) →
    s.trained p.val = true → 250 * n ≤ s.now.toNat - (s.pt p.val).tick.toNat →
    exec (.heartbeatMiss p) s = .next ((s.showMissed p.val).declareDown p.val 0)) ∧
  (∀ (s : State) (p : Fin 6), s.up = true → s.trained p.val = true → s.f F.FLT_CTL_HB_MISS = 0 → 2000 ≤ s.now.toNat - (s.pt p.val).tick.toNat →
    s.on (F.FLT_PORT_HB_DOWN p.val) = false → swf regReset s.regs = true →
    Goes (.heartbeatMiss p) s (fun t => t.on (F.FLT_PORT_HB_DOWN p.val) = true ∧
      t.f (F.FLT_PORT_HB_MISSED p.val) = BitVec.ofNat 7 (min 127 ((s.now.toNat - (s.pt p.val).tick.toNat) / 250)))) ∧
  (∀ (s : State) (p : Fin 6), s.trained p.val = false ∨ s.now.toNat - (s.pt p.val).tick.toNat < 250 → exec (.heartbeatMiss p) s = .next s) ∧
  (∀ (s : State) (p : Fin 6) (m : StopMsg), s.up = true → sget noMsgKey s.flt.stopMsgs m.job.toNat = none → s.flt.stops = [] → s.flt.stopAll = false →
    m.resume = false → s.grp.runs = [] → s.liveQueues = [] →
    Goes (.stop p m) s (fun t => t.flt.stops = [⟨0, m.job, false, false, m.origin, m.time, s.now⟩] ∧ t.jobStopped m.job = true ∧ t.clk = s.clk)) ∧
  (∀ (s : State) (p : Fin 6) (m : StopMsg) (e : StopE) (k : Nat), s.up = true → s.flt.stops = [e] → e.job = m.job → m.resume = true →
    sget noMsgKey s.flt.stopMsgs m.job.toNat = some k → k < stopKey m.time true m.origin →
    Goes (.stop p m) s (fun t => t.flt.stops = [⟨e.i, m.job, true, e.here, m.origin, m.time, s.now⟩] ∧ t.jobStopped m.job = false ∧ t.mems = s.mems)) ∧
  (∀ (s : State) (p : Fin 6) (m : StopMsg) (k : Nat), sget noMsgKey s.flt.stopMsgs m.job.toNat = some k →
    stopKey m.time m.resume m.origin ≤ k → exec (.stop p m) s = .next s) ∧
  (∀ (s : State) (fl : Bool) (j : JobId), s.takes = true → j ≠ 0 → s.flt.stops = [] → s.flt.stopAll = false → s.grp.runs = [] → s.liveQueues = [] →
    Goes (.jobStopCmd fl j) s (fun t => t.flt.stops = [⟨0, j, false, true, s.node, s.now, s.now⟩] ∧ t.jobStopped j = true)) ∧
  (∀ (s : State) (fl : Bool) (j : JobId) (e : StopE), s.takes = true → j ≠ 0 → s.flt.stops = [e] → e.job = j →
    Goes (.jobResumeCmd fl j) s (fun t => t.flt.stops = [⟨e.i, j, true, e.here, s.node, s.now, s.now⟩] ∧ t.jobStopped j = false ∧ t.mems = s.mems)) ∧
  (∀ (s : State) (fl : Bool), exec (.jobStopCmd fl 0) s = .next s ∧ exec (.jobResumeCmd fl 0) s = .next s)

/-- MIRROR_REPAIR_START: refused with its error in FLT_RM_RES, or the extent is MIRRORED with that partner and the repair runs in the background (R489).
SED_START, SED_STOP, SED_REPLAY: before its tick the command waits; at its tick START and REPLAY set the mode and empty the replay's state, STOP sets
mode 0, takes the kept writes and lets held requests run (R492, R493). SEDIMENT_SLOT in a slot whose housekeeping entry is SEDIMENT, outside replay,
drains up to 128 records; once in a slot (R492). SED_REPLAY_HOLD_TIMEOUT: a request held in replay for more than WAIT is reported once, with DIVERGED
set, and stays held; else nothing changes (R494). What is not due, or finds no case for it, changes nothing: the model's choice (log entry 20). -/
def Obligations.RepairAndSediment : Prop :=
  (∀ (s : State) (v : R32) (cp : Bool) (i : Nat), s.takes = true → i = (fget F.FLT_RM_CMD_EXTENT v).toNat →
    s.repairErr i (fget F.FLT_RM_CMD_PARTNER v) cp ≠ 0 →
    exec (.mirrorRepairStart v cp) s = .next ((s.setF F.FLT_RM_RES_EXTENT (BitVec.ofNat 14 i)).setF F.FLT_RM_RES_ERR
      (s.repairErr i (fget F.FLT_RM_CMD_PARTNER v) cp))) ∧
  (∀ (s : State) (v : R32) (cp : Bool) (i : Nat), s.takes = true → i = (fget F.FLT_RM_CMD_EXTENT v).toNat →
    s.repairErr i (fget F.FLT_RM_CMD_PARTNER v) cp = 0 → swf regReset s.regs = true → Mem.wf s.mems.ext = true →
    Goes (.mirrorRepairStart v cp) s (fun t => (t.ext i).mirrored = true ∧ (t.ext i).partner = fget F.FLT_RM_CMD_PARTNER v ∧
      t.home.bg = s.home.bg ++ [⟨BitVec.ofNat 14 i, .repair 0⟩] ∧ t.f F.FLT_RM_RES_ERR = 0 ∧ t.mems.pool = s.mems.pool)) ∧
  (∀ (s : State) (c : Instr) (op : BitVec 4), s.takes = true → s.flt.sedCmd = none → s.due s.sedTick = false →
    (c, op) ∈ [(Instr.sedStart, 1), (.sedStop, 2), (.sedReplay, 3)] →
    exec c s = .next { s with flt := { s.flt with sedCmd := some (op, s.sedTick) } }) ∧
  (∀ (s : State) (c : Instr) (op : BitVec 4) (t : R64), s.takes = true → s.flt.sedCmd = some (op, t) → s.due t = false →
    (c, op) ∈ [(Instr.sedStart, 1), (.sedStop, 2), (.sedReplay, 3)] → exec c s = .next s) ∧
  (∀ (s : State) (c : Instr) (op : BitVec 4) (t : R64), s.takes = true → s.flt.sedCmd = some (op, t) → s.due t = true →
    (c, op) ∈ [(Instr.sedStart, 1), (.sedReplay, 3)] → s.on F.FLT_SED_STAT_OVF = false → swf regReset s.regs = true →
    Goes c s (fun u => u.f F.FLT_SED_STAT_MODE = (if op = 1 then 1 else 2) ∧ u.flt.sedCmd = none ∧ u.flt.sedPos = [] ∧ u.flt.sedIn = [] ∧
      u.flt.sedDiverged = false ∧ u.mems = s.mems)) ∧
  (∀ (s : State) (t : R64), s.takes = true → s.flt.sedCmd = some (2, t) → s.due t = true → s.flt.sedHeld = [] → s.flt.sedIn = [] →
    exec .sedStop s = .next (State.release barWin ((State.setF { s with flt := { s.flt with sedCmd := none } } F.FLT_SED_STAT_MODE 0).takeWrs sedRegs))) ∧
  (∀ (s : State) (l : List Bytes), s.up = true → isBg bgSediment (s.entry 63) = true → s.dtt.bgDone = false → s.f F.FLT_SED_STAT_MODE ≠ 2 →
    exec (.sedimentSlot l) s = .next (State.sedOut 128 { s with dtt := { s.dtt with bgDone := true } })) ∧
  (∀ (s : State) (l : List Bytes), s.dtt.bgDone = true ∨ isBg bgSediment (s.entry 63) = false → exec (.sedimentSlot l) s = .next s) ∧
  (∀ (s : State), s.up = true → s.f F.FLT_SED_STAT_MODE = 2 → s.f F.FLT_SED_CTL_WAIT ≠ 0 → s.sedOverdue = true → s.flt.sedDiverged = false →
    swf regReset s.regs = true →
    Goes .sedReplayHoldTimeout s (fun t => t.flt.sedDiverged = true ∧ t.on F.FLT_SED_STAT_DIVERGED = true ∧ t.flt.sedHeld = s.flt.sedHeld)) ∧
  (∀ (s : State), s.f F.FLT_SED_STAT_MODE ≠ 2 ∨ s.f F.FLT_SED_CTL_WAIT = 0 ∨ s.sedOverdue = false ∨ s.flt.sedDiverged = true →
    exec .sedReplayHoldTimeout s = .next s)

/-- PORT_ENABLE: EN set on a port that is OFF, in TEST or HELD starts a full training, the port having lanes and its split setting being in force; EN set
again changes only the register; EN cleared in training turns the port OFF (R505, R507). PORT_TEST acts on a port that is OFF with EN 0, and back; of
an UP port it only writes the bit (R507). RETRAIN: a HELD port trains in full, a trained one fails its link and trains; any other is unchanged (R507,
R511). DEEP of a torus port only writes the bit; of an attach port that is UP, or in QUIET once it resumes, it sends DEEP_REQ; cleared in DEEP, and
DEEP_EXIT in DEEP, start a short training; elsewhere DEEP_EXIT changes nothing (R507, R509). What is not due, or finds no case for it, changes
nothing: the model's choice (log entry 20). -/
def Obligations.PortControl : Prop :=
  (∀ (s : State) (p : Fin 14), s.takes = true → s.on (F.LAN_P_CTL_EN p.val) = false → s.pState p.val ∈ [pOff, pTest, pHeld] →
    0 < s.width p.val → (6 ≤ p.val → s.isSplit p.val = bitAt (s.f F.SWC_SPLIT_SPLIT).toNat ((p.val - 6) % 4)) →
    swf regReset s.regs = true → swf lport0 s.lan.ports = true →
    Goes (.portEnable p true) s (fun t => t.pState p.val = pTraining ∧ t.on (F.LAN_P_CTL_EN p.val) = true ∧ t.f (F.LAN_P_STAT_PHASE p.val) = 0 ∧
      (t.lp p.val).full = true ∧ t.out = s.out ++ [.train p.val true] ∧ t.mems = s.mems)) ∧
  (∀ (s : State) (p : Fin 14), s.takes = true → s.on (F.LAN_P_CTL_EN p.val) = true → exec (.portEnable p true) s = .next (s.setF (F.LAN_P_CTL_EN p.val) 1)) ∧
  (∀ (s : State) (p : Fin 14), s.takes = true → s.pState p.val = pTraining → swf regReset s.regs = true →
    Goes (.portEnable p false) s (fun t => t.pState p.val = pOff ∧ t.on (F.LAN_P_CTL_EN p.val) = false ∧ t.mems = s.mems)) ∧
  (∀ (s : State) (p : Fin 14), s.takes = true → s.pState p.val = pOff → s.on (F.LAN_P_CTL_EN p.val) = false → swf regReset s.regs = true →
    Goes (.portTest p true) s (fun t => t.pState p.val = pTest ∧ t.on (F.LAN_P_CTL_TEST p.val) = true ∧ t.mems = s.mems)) ∧
  (∀ (s : State) (p : Fin 14), s.takes = true → s.pState p.val = pTest → swf regReset s.regs = true →
    Goes (.portTest p false) s (fun t => t.pState p.val = pOff ∧ t.on (F.LAN_P_CTL_TEST p.val) = false ∧ t.mems = s.mems)) ∧
  (∀ (s : State) (p : Fin 14) (b : Bool), s.takes = true → s.pState p.val = pUp → exec (.portTest p b) s = .next (s.setF (F.LAN_P_CTL_TEST p.val) (bit1 b))) ∧
  (∀ (s : State) (p : Fin 14), s.takes = true → s.pState p.val = pHeld → exec (.retrain p) s = .next (s.startTraining p.val true)) ∧
  (∀ (s : State) (p : Fin 14), s.takes = true → s.trained p.val = true →
    exec (.retrain p) s = .next (((s.dropLink p.val).reportDown p.val).startTraining p.val false)) ∧
  (∀ (s : State) (p : Fin 14), s.takes = true → s.trained p.val = false → s.pState p.val ≠ pHeld → exec (.retrain p) s = .next s) ∧
  (∀ (s : State) (p : Fin 14) (b : Bool), s.takes = true → p.val < 6 → exec (.deep p b) s = .next (s.setF (F.LAN_P_CTL_DEEP p.val) (bit1 b))) ∧
  (∀ (s : State) (p : Fin 14), s.takes = true → 6 ≤ p.val → s.pState p.val = pUp →
    exec (.deep p true) s = .next ((s.setF (F.LAN_P_CTL_DEEP p.val) 1).sendLink p.val .deepReq)) ∧
  (∀ (s : State) (p : Fin 14), s.takes = true → 6 ≤ p.val → s.pState p.val = pQuiet →
    exec (.deep p true) s = .next (((s.setF (F.LAN_P_CTL_DEEP p.val) 1).resume p.val).sendLink p.val .deepReq)) ∧
  (∀ (s : State) (p : Fin 14), s.takes = true → 6 ≤ p.val → s.pState p.val = pDeep →
    exec (.deep p false) s = .next ((s.setF (F.LAN_P_CTL_DEEP p.val) 0).startTraining p.val false)) ∧
  (∀ (s : State) (p : Fin 14), s.up = true → s.pState p.val = pDeep → 0 < s.width p.val → (6 ≤ p.val → s.isSplit p.val = bitAt (s.f F.SWC_SPLIT_SPLIT).toNat ((p.val - 6) % 4)) →
    swf regReset s.regs = true → swf lport0 s.lan.ports = true →
    Goes (.deepExit p) s (fun t => t.pState p.val = pTraining ∧ (t.lp p.val).full = false ∧ t.out = s.out ++ [.train p.val false] ∧ t.mems = s.mems)) ∧
  (∀ (s : State) (p : Fin 14), s.pState p.val ≠ pDeep → exec (.deepExit p) s = .next s)

/-- TRAINING_PHASE_DONE within the phase's limit with no lane failed: the next phase; with two lanes failed, or after the limit, the training fails
(R505). TRAINING_TIMEOUT, but while the port waits for NODE_LOCK: a full training that fails is counted and leaves the port FAILED (R34, R505).
FAILED_RETRY after 100 ms, EN set: a full training (R507). PORT_ID in LINK_INIT: a record with no fault brings the port UP, or a torus port in
PROBATION where an end is expelled, unencrypted where neither end asks (R488, R506); a record with a fault holds the port and shows why (R506); while
NODE_LOCK is 0 it waits (R34). In any other state the four change nothing. What is not due, or finds no case for it, changes nothing: the model's
choice (log entry 20). -/
def Obligations.PortTraining : Prop :=
  (∀ (s : State) (p : Fin 14), s.up = true → s.pState p.val = pTraining → (s.f (F.LAN_P_STAT_PHASE p.val)).toNat < 3 → (s.lp p.val).failed = [] →
    s.phaseOver p.val = false → swf regReset s.regs = true →
    Goes (.trainingPhaseDone p []) s (fun t => t.f (F.LAN_P_STAT_PHASE p.val) = s.f (F.LAN_P_STAT_PHASE p.val) + 1 ∧ t.pState p.val = pTraining ∧
      t.mems = s.mems ∧ t.out = s.out)) ∧
  (∀ (s : State) (p : Fin 14) (a b : BitVec 6), s.up = true → s.pState p.val = pTraining → (s.f (F.LAN_P_STAT_PHASE p.val)).toNat < 4 →
    (s.lp p.val).failed = [] → a ≠ b → exec (.trainingPhaseDone p [a, b]) s = .next (s.trainFail p.val)) ∧
  (∀ (s : State) (p : Fin 14) (l : List (BitVec 6)), s.up = true → s.pState p.val = pTraining → (s.f (F.LAN_P_STAT_PHASE p.val)).toNat < 4 →
    s.phaseOver p.val = true → exec (.trainingPhaseDone p l) s = .next (s.trainFail p.val)) ∧
  (∀ (s : State) (p : Fin 14), s.up = true → s.pState p.val = pTraining → s.heldForLock p.val = false → (s.lp p.val).full = true → swf regReset s.regs = true →
    swf lport0 s.lan.ports = true →
    Goes (.trainingTimeout p) s (fun t => t.pState p.val = pFailed ∧ t.f (F.LAN_P_TRAIN_FAILS p.val) = s.f (F.LAN_P_TRAIN_FAILS p.val) + 1 ∧
      (t.lp p.val).fullFails = (s.lp p.val).fullFails + 1)) ∧
  (∀ (s : State) (p : Fin 14) (l : List (BitVec 6)) (q : PortId), s.pState p.val ≠ pTraining →
    exec (.trainingPhaseDone p l) s = .next s ∧ exec (.trainingTimeout p) s = .next s ∧
    (p.val < 6 ∨ s.trained p.val = false → exec (.portId p q) s = .next s)) ∧
  (∀ (s : State) (p : Fin 14), s.up = true → s.pState p.val = pFailed → s.on (F.LAN_P_CTL_EN p.val) = true →
    25000000 ≤ s.now.toNat - (s.lp p.val).since.toNat → 0 < s.width p.val → (6 ≤ p.val → s.isSplit p.val = bitAt (s.f F.SWC_SPLIT_SPLIT).toNat ((p.val - 6) % 4)) →
    swf regReset s.regs = true →
    Goes (.failedRetry p) s (fun t => t.pState p.val = pTraining ∧ t.out = s.out ++ [.train p.val true] ∧ t.mems = s.mems)) ∧
  (∀ (s : State) (p : Fin 14), s.pState p.val ≠ pFailed ∨ s.now.toNat - (s.lp p.val).since.toNat < 25000000 → exec (.failedRetry p) s = .next s) ∧
  (∀ (s : State) (p : Fin 14) (q : PortId), s.up = true → s.pState p.val = pTraining → s.f (F.LAN_P_STAT_PHASE p.val) = 4 → s.waitsLock p.val = false →
    s.heldWhy p.val q = 0 → s.on (F.LAN_P_CTL_ENC p.val) = false → q.encReq = false → (s.lp p.val).failed = [] → s.ep.snoopHeld = [] → swf regReset s.regs = true →
    swf lport0 s.lan.ports = true →
    Goes (.portId p q) s (fun t => t.pState p.val = (if p.val < 6 ∧ (s.expelled q.node = true ∨ s.on F.FLT_STAT_SELF_EXP = true) then pProbation else pUp) ∧
      t.f (F.LAN_P_STAT_PEER_NODE p.val) = q.node ∧ t.f (F.LAN_P_TRAIN_DONE p.val) = s.f (F.LAN_P_TRAIN_DONE p.val) + 1 ∧
      t.on (F.LAN_P_STAT_ENC_ON p.val) = false ∧ (t.lp p.val).grants = q.grants)) ∧
  (∀ (s : State) (p : Fin 14) (q : PortId), s.up = true → s.pState p.val = pTraining → s.f (F.LAN_P_STAT_PHASE p.val) = 4 → s.waitsLock p.val = false →
    s.heldWhy p.val q ≠ 0 → swf regReset s.regs = true →
    Goes (.portId p q) s (fun t => t.pState p.val = pHeld ∧ t.f (F.LAN_P_STAT_HELD_WHY p.val) = s.heldWhy p.val q ∧
      t.f (F.LAN_P_STAT_PEER_NODE p.val) = q.node ∧ t.f (F.LAN_P_STAT_PEER_PORT p.val) = q.port)) ∧
  (∀ (s : State) (p : Fin 14) (q : PortId), s.up = true → s.pState p.val = pTraining → s.f (F.LAN_P_STAT_PHASE p.val) = 4 → s.waitsLock p.val = true →
    exec (.portId p q) s = .next (s.setLp p.val { s.lp p.val with peer := some q }))

/-- FLIT_RECEIVE: on a port that is neither trained nor in QUIET nothing changes; a flit with a bad CRC is counted and answered by one NAK with the
expected number; a good numbered flit, unencrypted and with no NAK open, is delivered and the expected number advances (R525, R527). TAG of the key
generation in use, under encryption: the open frame is delivered if the tag verifies, and else fails authentication (R538); on a port not trained or
not encrypted nothing changes. What is not due, or finds no case for it, changes nothing: the model's choice (log entry 20). -/
def Obligations.FlitsReceived : Prop :=
  (∀ (s : State) (p : Fin 14) (f : Bytes), s.trained p.val = false → s.pState p.val ≠ pQuiet → exec (.flitReceive p f) s = .next s) ∧
  (∀ (s : State) (p : Fin 14) (f : Bytes), s.up = true → s.trained p.val = true → flitGood f = false → (s.lp p.val).nak = none → (s.lp p.val).naks < 7 →
    s.calSlot p.val = false → swf regReset s.regs = true → swf lport0 s.lan.ports = true →
    Goes (.flitReceive p f) s (fun t => t.f (F.LAN_P_CRC_COUNT p.val) = s.f (F.LAN_P_CRC_COUNT p.val) + 1 ∧
      (t.lp p.val).nak = some (s.lp p.val).rxNum ∧ (∃ b, t.out = s.out ++ [.link p.val (.nak (s.lp p.val).rxNum) b]) ∧ t.pState p.val = s.pState p.val ∧
      t.mems = s.mems)) ∧
  (∀ (s : State) (p : Fin 14) (f : Bytes), s.up = true → s.trained p.val = true → flitGood f = true → bitsAt (leNat (slice f 0 4)) 30 2 ≠ 0 →
    (s.lp p.val).nak = none → (s.lp p.val).kept = [] → (s.lp p.val).queue = [] → s.on (F.LAN_P_STAT_ENC_ON p.val) = false →
    swf lport0 s.lan.ports = true →
    Goes (.flitReceive p f) s (fun t => (t.lp p.val).rxNum = (s.lp p.val).rxNum + 1 ∧ (t.lp p.val).goodAt = s.now ∧
      t.out = s.out ++ [.delivered p.val f] ∧ t.regs = s.regs ∧ t.mems = s.mems)) ∧
  (∀ (s : State) (p : Fin 14) (f : R64) (g : Bool) (n : BitVec 16) (mac : BitVec 128), s.up = true → s.trained p.val = true →
    s.on (F.LAN_P_STAT_ENC_ON p.val) = true → (s.lp p.val).nak = none → (s.lp p.val).rxIndex.getLsbD 0 = g →
    exec (.tag p f g n mac) s = .next (match s.openFrame p.val (s.lp p.val).rxIndex f (natLe 16 mac.toNat) with
      | some pt => s.tagGood p.val pt
      | none => s.tagFail p.val f (s.lp p.val).firstFrame (s.lp p.val).rxIndex)) ∧
  (∀ (s : State) (p : Fin 14) (f : R64) (g : Bool) (n : BitVec 16) (mac : BitVec 128), s.trained p.val = false ∨ s.on (F.LAN_P_STAT_ENC_ON p.val) = false →
    exec (.tag p f g n mac) s = .next s)

/-- NAK that names a kept flit, unencrypted: a REPLAY goes, the flit goes again and stays kept, and the replay is counted (R528). REPLAY of the number
that a NAK waits for ends the wait (R527). NAK_TIMEOUT 2 us after a NAK repeats it (R529). CRC_SILENCE_TIMEOUT after 2 us without a good CRC on a
trained port: the link fails and a short training starts (R511, R512). Where none of these stands, nothing changes. QUIET_REQ on an attach port that
may stop signalling, unencrypted: it is answered and the port is in QUIET; QUIET_ACK: the port is in QUIET (R508); where the port may not, nothing
changes. QUIET_RESUME: the port is UP again and sends two commas (R507). DEEP_ACK with DEEP set, unencrypted: an UP attach port is in DEEP (R509).
From any other state the last two change nothing. What is not due, or finds no case for it, changes nothing: the model's choice (log entry 20). -/
def Obligations.LinkStates : Prop :=
  ((∀ (s : State) (p : Fin 14) (e : R32) (it : TxItem) (fs : List Bytes), s.up = true → s.trained p.val = true → (s.lp p.val).kept = [(e, it, fs)] →
    0 < it.flits → e.toNat + it.flits < 2 ^ 32 → s.calSlot p.val = false → s.on (F.LAN_P_STAT_ENC_ON p.val) = false → swf lport0 s.lan.ports = true →
    Goes (.linkNak p e) s (fun t => (∃ b g, t.out = s.out ++ [.link p.val (.replay e) b, .flit p.val e (s.stamp p.val it).1 g]) ∧
      (t.lp p.val).kept = [(e, it, fs)] ∧ t.mems = s.mems ∧
      (swf regReset s.regs = true → t.f (F.LAN_P_REPLAY_COUNT p.val) = s.f (F.LAN_P_REPLAY_COUNT p.val) + 1))) ∧
  (∀ (s : State) (p : Fin 14) (e : R32), (s.lp p.val).kept = [] → exec (.linkNak p e) s = .next s) ∧
  (∀ (s : State) (p : Fin 14) (e : R32), s.up = true → (s.lp p.val).nak = some e →
    exec (.replay p e) s = .next (s.setLp p.val { s.lp p.val with nak := none })) ∧
  (∀ (s : State) (p : Fin 14) (e : R32), (s.lp p.val).nak ≠ some e → exec (.replay p e) s = .next s) ∧
  (∀ (s : State) (p : Fin 14), s.up = true → s.trained p.val = true → (s.lp p.val).nak.isSome = true →
    500 ≤ s.now.toNat - (s.lp p.val).nakAt.toNat → (s.lp p.val).naks < 7 → s.calSlot p.val = false → swf lport0 s.lan.ports = true →
    Goes (.nakTimeout p) s (fun t => (∃ b, t.out = s.out ++ [.link p.val (.nak (s.lp p.val).rxNum) b]) ∧ (t.lp p.val).nak = some (s.lp p.val).rxNum ∧
      (t.lp p.val).naks = (s.lp p.val).naks + 1 ∧ t.regs = s.regs ∧ t.mems = s.mems)) ∧
  (∀ (s : State) (p : Fin 14), (s.lp p.val).nak = none ∨ s.now.toNat - (s.lp p.val).nakAt.toNat < 500 → exec (.nakTimeout p) s = .next s) ∧
  (∀ (s : State) (p : Fin 14), s.up = true → s.trained p.val = true → 500 ≤ s.now.toNat - (s.lp p.val).goodAt.toNat →
    exec (.crcSilenceTimeout p) s = .next (((s.dropLink p.val).reportDown p.val).startTraining p.val false)) ∧
  (∀ (s : State) (p : Fin 14), s.now.toNat - (s.lp p.val).goodAt.toNat < 500 → exec (.crcSilenceTimeout p) s = .next s)) ∧
  ((∀ (s : State) (p : Fin 14), s.up = true → s.mayQuiet p.val = true → s.on (F.LAN_P_STAT_ENC_ON p.val) = false → s.calSlot p.val = false →
    swf regReset s.regs = true →
    Goes (.quietReq p) s (fun t => t.pState p.val = pQuiet ∧ (∃ b, t.out = s.out ++ [.link p.val .quietAck b]) ∧ t.mems = s.mems) ∧
    Goes (.quietAck p) s (fun t => t.pState p.val = pQuiet ∧ t.out = s.out ∧ t.mems = s.mems ∧ t.lan = s.lan)) ∧
  (∀ (s : State) (p : Fin 14), s.mayQuiet p.val = false → exec (.quietReq p) s = .next s ∧ exec (.quietAck p) s = .next s) ∧
  (∀ (s : State) (p : Fin 14), s.up = true → s.pState p.val = pQuiet → swf regReset s.regs = true →
    Goes (.quietResume p) s (fun t => t.pState p.val = pUp ∧ t.out = s.out ++ [.comma p.val commaBlock, .comma p.val commaBlock] ∧ t.mems = s.mems)) ∧
  (∀ (s : State) (p : Fin 14), s.pState p.val ≠ pQuiet → exec (.quietResume p) s = .next s) ∧
  (∀ (s : State) (p : Fin 14), s.up = true → 6 ≤ p.val → s.pState p.val = pUp → s.on (F.LAN_P_CTL_DEEP p.val) = true →
    s.on (F.LAN_P_STAT_ENC_ON p.val) = false → swf regReset s.regs = true →
    Goes (.deepAck p) s (fun t => t.pState p.val = pDeep ∧ t.out = s.out ∧ t.mems = s.mems)) ∧
  (∀ (s : State) (p : Fin 14), p.val < 6 ∨ s.pState p.val ≠ pUp → exec (.deepAck p) s = .next s))

/-- LANE_CAL_SLOT in a slot whose entry for the port is LANE_CAL, the port UP: its measurements are counted and it sends a calibration run of the slot's
length; otherwise nothing changes (R315, R513). FEC_GROUP_RECEIVE of a trained port: a group that decodes with no error is cut into flits, and the
commas due are looked at (R499, R500, R503, R504); a group with no corrected symbol adds its uncorrectable codewords to every lane of the port (R516);
a lane under test adds its own group's to its two counters, the counters stopping at their greatest value (R514, R516). SINGLE, BURST: the lane
inverts one bit, or a run of them, 0 acting as 1 (R515). LANE_CLR: the lane's four counters are 0 (R516). PRBS_LOCK of a lane in TEST with a pattern:
it shows the lock and counts; with no pattern nothing changes (R514). CMIS_ACCESS: without GO, or while BUSY, ignored; on a bus or module that is not
there, ERR 2; a read runs with BUSY set and ERR 0 and goes out on the module's bus (R521). CMIS_ACCESS_DONE, where firmware serves: BUSY 0 and its
error; a read without error leaves the bytes in LAN_CMIS_DATA, anything else leaves them as they were; with no access nothing changes (R521).
CMIS_POLL: a flag byte that is not 0 and names no lane fault is posted, one that is 0 is not (R519, R520). What is not due, or finds no case for it,
changes nothing: the model's choice (log entry 20). -/
def Obligations.LanesAndModules : Prop :=
  ((∀ (s : State) (p : Fin 14) (m : List (BitVec 9 × Nat × Nat)), s.up = true → s.calSlot p.val = true → s.pState p.val = pUp →
    exec (.laneCalSlot p m) s = .next ((s.pattern m).emit (.calibrate p.val (calRun (laneTickBits * (s.f F.DTT_DIL_K).toNat))))) ∧
  (∀ (s : State) (p : Fin 14) (m : List (BitVec 9 × Nat × Nat)), s.calSlot p.val = false ∨ s.trained p.val = false →
    exec (.laneCalSlot p m) s = .next s) ∧
  (∀ (s : State) (p : Fin 14) (g : List Sym) (c : List (BitVec 9)) (bits : List Bool), s.up = true → s.trained p.val = true →
    decodeGroup 544 32 (s.width p.val) (s.failedLanes p.val) g = ⟨[], 0, bits⟩ → ((s.groupBits p.val bits).commaDue p.val).1 = false →
    swf regReset s.regs = true → swf lport0 s.lan.ports = true →
    Goes (.fecGroupReceive p none g c) s (fun t => t.lan = (((s.groupBits p.val bits).commaDue p.val).2).lan ∧ t.out = (s.groupBits p.val bits).out ∧
      t.mems = s.mems)) ∧
  (∀ (s : State) (p : Fin 14) (g : List Sym) (c : List (BitVec 9)), s.up = true → s.trained p.val = true →
    (decodeGroup 544 32 (s.width p.val) (s.failedLanes p.val) g).fixed = [] → swf regReset s.regs = true →
    Goes (.fecGroupReceive p none g c) s (fun t => t.mems.pool = s.mems.pool ∧ ∀ i ∈ s.laneOf p.val, t.f (F.LAN_L_POST_COUNT i) =
      satAdd (s.f (F.LAN_L_POST_COUNT i)) (decodeGroup 544 32 (s.width p.val) (s.failedLanes p.val) g).lost)) ∧
  (∀ (s : State) (p : Fin 14) (g : List Sym) (c : List (BitVec 9)), s.trained p.val = false → exec (.fecGroupReceive p none g c) s = .next s) ∧
  (∀ (s : State) (p : Fin 14) (i : BitVec 9) (g : List Sym) (c : List (BitVec 9)), s.up = true → s.testing i.toNat = true →
    s.on (F.LAN_L_CTL_FEC_TEST i.toNat) = true → swf regReset s.regs = true →
    Goes (.fecGroupReceive p (some i) g c) s (fun t => t.f (F.LAN_L_PRE_COUNT i.toNat) = satAdd (s.f (F.LAN_L_PRE_COUNT i.toNat)) (decodeGroup 544 32 1 [] g).fixed.length ∧
      t.f (F.LAN_L_POST_COUNT i.toNat) = satAdd (s.f (F.LAN_L_POST_COUNT i.toNat)) (decodeGroup 544 32 1 [] g).lost ∧ t.lan = s.lan ∧ t.mems = s.mems)) ∧
  (∀ (s : State) (i : BitVec 9) (n : BitVec 10), s.takes = true → exec (.single i) s = .next { s with out := s.out ++ [.invert i.toNat 1] } ∧
    exec (.burst i n) s = .next { s with out := s.out ++ [.invert i.toNat (max 1 n.toNat)] }) ∧
  (∀ (s : State) (i : BitVec 9), s.takes = true → swf regReset s.regs = true →
    Goes (.laneClr i) s (fun t => t.rd (Reg.LAN_L_PRE i.toNat) = 0 ∧ t.rd (Reg.LAN_L_POST i.toNat) = 0 ∧ t.rd (Reg.LAN_L_PRBS_ERR i.toNat) = 0 ∧
      t.rd (Reg.LAN_L_PRBS_BITS i.toNat) = 0 ∧ t.lan = s.lan ∧ t.mems = s.mems)) ∧
  (∀ (s : State) (i : BitVec 9) (b e : Nat) (p : Nat), s.up = true → s.portOfLane i.toNat = some p → s.pState p = pTest →
    1 ≤ (s.f (F.LAN_L_CTL_RX_PAT i.toNat)).toNat → (s.f (F.LAN_L_CTL_RX_PAT i.toNat)).toNat ≤ 5 → swf regReset s.regs = true →
    Goes (.prbsLock i b e) s (fun t => t.on (F.LAN_L_STAT_PRBS_LOCK i.toNat) = true ∧
      t.f (F.LAN_L_PRBS_ERR_COUNT i.toNat) = satAdd (s.f (F.LAN_L_PRBS_ERR_COUNT i.toNat)) e ∧
      t.f (F.LAN_L_PRBS_BITS_COUNT i.toNat) = satAdd (s.f (F.LAN_L_PRBS_BITS_COUNT i.toNat)) b ∧ t.lan = s.lan)) ∧
  (∀ (s : State) (i : BitVec 9) (b e : Nat), s.f (F.LAN_L_CTL_RX_PAT i.toNat) = 0 → exec (.prbsLock i b e) s = .next s)) ∧
  ((∀ (s : State) (v : R32), s.on F.LAN_CMIS_RES_BUSY = true ∨ fget F.LAN_CMIS_CMD_GO v = 0 → exec (.cmisAccess v) s = .next s) ∧
  (∀ (s : State) (v : R32), s.takes = true → s.on F.LAN_CMIS_RES_BUSY = false → fget F.LAN_CMIS_CMD_GO v = 1 →
    (9 < (fget F.LAN_CMIS_CMD_BUS v).toNat ∨ 5 < (fget F.LAN_CMIS_CMD_MOD v).toNat) →
    exec (.cmisAccess v) s = .next (s.setF F.LAN_CMIS_RES_ERR 2)) ∧
  (∀ (s : State) (v : R32), s.takes = true → s.on F.LAN_CMIS_RES_BUSY = false → fget F.LAN_CMIS_CMD_GO v = 1 →
    (fget F.LAN_CMIS_CMD_BUS v).toNat ≤ 9 → (fget F.LAN_CMIS_CMD_MOD v).toNat ≤ 5 → fget F.LAN_CMIS_CMD_WR v = 0 → swf regReset s.regs = true →
    Goes (.cmisAccess v) s (fun t => t.on F.LAN_CMIS_RES_BUSY = true ∧ t.f F.LAN_CMIS_RES_ERR = 0 ∧ t.lan = { s.lan with cmis := some v } ∧
      t.out = s.out ++ [.i3c (fget F.LAN_CMIS_CMD_BUS v).toNat (fget F.LAN_CMIS_CMD_MOD v).toNat false (fget F.LAN_CMIS_CMD_PAGE v)
        (fget F.LAN_CMIS_CMD_ADDR v) (zeros ((fget F.LAN_CMIS_CMD_LEN_M1 v).toNat + 1))] ∧ t.mems = s.mems)) ∧
  (∀ (s : State) (v : R32) (e : BitVec 3) (d : Bytes), s.up = true → s.fwServes 3 = true → s.lan.cmis = some v →
    (fget F.LAN_CMIS_CMD_WR v = 1 ∨ e ≠ 0) → swf regReset s.regs = true →
    Goes (.cmisAccessDone e d) s (fun t => t.lan.cmis = none ∧ t.on F.LAN_CMIS_RES_BUSY = false ∧ t.f F.LAN_CMIS_RES_ERR = e ∧
      t.rd (Reg.LAN_CMIS_DATA 0) = s.rd (Reg.LAN_CMIS_DATA 0))) ∧
  (∀ (s : State) (v : R32) (d : Bytes), s.up = true → s.fwServes 3 = true → s.lan.cmis = some v → fget F.LAN_CMIS_CMD_WR v = 0 → 0 < d.length →
    swf regReset s.regs = true →
    Goes (.cmisAccessDone 0 d) s (fun t => t.lan.cmis = none ∧ t.on F.LAN_CMIS_RES_BUSY = false ∧
      t.rd (Reg.LAN_CMIS_DATA 0) = BitVec.ofNat 32 (leNat (slice d 0 4)))) ∧
  (∀ (s : State) (e : BitVec 3) (d : Bytes), s.lan.cmis = none → exec (.cmisAccessDone e d) s = .next s) ∧
  (∀ (s : State) (b : Fin 10) (m : Fin 6) (a : BitVec 8) (x : Byte), s.up = true → x ≠ 0 → cmisFault a.toNat = false →
    exec (.cmisPoll b m [(a, x)]) s = .next (s.post (ev 0xA4 stOk (2 ^ 16 * b.val + 256 * m.val + a.toNat) x.toNat))) ∧
  (∀ (s : State) (b : Fin 10) (m : Fin 6) (a : BitVec 8), exec (.cmisPoll b m [(a, 0)]) s = .next s))

/-- SWITCH_FORWARD of a message that stands behind no stopped one: one for this node is delivered, but a request that can be tamped waits in the home's
queue (R210, R548); one from or to an expelled node is discarded at its input (R479); in dimension order a message joins the queue of the first axis
where it differs, a snoop unmarked, while that port is not down (R548); one on its escape with no valid route is held (R550). ESCAPE_REROUTE: a held
message is forwarded again; with none held nothing changes (R551). SWC_COMMIT: SWC_CTL takes effect and nothing else changes (R639). What is not due,
or finds no case for it, changes nothing: the model's choice (log entry 20). -/
def Obligations.SwitchCommands : Prop :=
  (∀ (s : State) (i : Option (Fin 14)) (m : TMsg), s.up = true → s.behind (i.map (·.val)) m = false → s.expelled m.origin = false → m.dst = s.node →
    (∀ r, m = .req r → tampable r = false) → exec (.switchForward i m) s = .next (s.emit (.deliver m))) ∧
  (∀ (s : State) (i : Option (Fin 14)) (r : Req), s.up = true → s.behind (i.map (·.val)) (.req r) = false → s.expelled (agentNode r.src) = false →
    r.dst = s.node → tampable r = true → s.contributes r = false → s.outq homeQ = [] →
    exec (.switchForward i (.req r)) s = .next (s.setOutq homeQ [⟨0, i.map (·.val), .req r⟩])) ∧
  (∀ (s : State) (i : Fin 14) (m : TMsg), s.up = true → s.behind (some i.val) m = false → m.probation = false →
     s.expelled m.origin = true ∨ (s.expelled m.dst = true ∧ m.dst ≠ s.node) →
    exec (.switchForward (some i) m) s = .next (s.incF (F.SWC_P_DISC_COUNT i.val) 1) ∧ exec (.switchForward none m) s = .next s) ∧
  (∀ (s : State) (i : Option (Fin 14)) (m : TMsg) (a p vc : Nat) (m' : TMsg), s.up = true → s.behind (i.map (·.val)) m = false →
    s.expelled m.origin = false → s.expelled m.dst = false → m.way.esc = false → s.axis m.dst = some a → s.leave (i.map (·.val)) m a = (p, vc, m') → s.portDown p = false →
    exec (.switchForward i m) s = .next (s.enqueue (i.map (·.val)) p vc m')) ∧
  (∀ (s : State) (i : Option (Fin 14)) (m : Snp) (a p vc : Nat) (m' : TMsg), s.up = true →
    s.behind (i.map (·.val)) (.snp m) = false → s.expelled (TMsg.snp m).origin = false →
    s.expelled m.dst = false → m.way.esc = false → s.axis m.dst = some a → s.leave (i.map (·.val)) (.snp m) a = (p, vc, m') → s.portDown p = false →
    exec (.switchForward i (.snp m)) s = .next (s.setOutq p (s.outq p ++ [⟨vc, i.map (·.val), m'⟩]))) ∧
  (∀ (s : State) (i : Option (Fin 14)) (m : TMsg), s.up = true → s.behind (i.map (·.val)) m = false → s.expelled m.origin = false →
    s.expelled m.dst = false → m.dst ≠ s.node →
    m.way.esc = true → s.on (F.SWC_ESC_VALID m.dst.toNat) = false → exec (.switchForward i m) s = .next (s.escHold (i.map (·.val)) m)) ∧
  (∀ (s : State) (i : Option (Fin 14)) (m : TMsg), s.swc.hold = [(i.map (·.val), m)] → s.swc.stopped = [] →
    exec .escapeReroute s = exec (.switchForward i m) { s with swc := { s.swc with hold := [] } }) ∧
  (∀ (s : State) (i : Option (Fin 14)) (m : Snp) (a p vc : Nat) (m' : TMsg), s.up = true → s.swc.hold = [(i.map (·.val), .snp m)] →
    s.swc.stopped = [] → s.expelled (TMsg.snp m).origin = false → s.expelled m.dst = false → m.way.esc = false → s.axis m.dst = some a →
    s.leave (i.map (·.val)) (.snp m) a = (p, vc, m') → s.portDown p = false →
    exec .escapeReroute s = .next (State.setOutq { s with swc := { s.swc with hold := [] } } p (s.outq p ++ [⟨vc, i.map (·.val), m'⟩]))) ∧
  (∀ s : State, s.swc.hold = [] → s.swc.stopped = [] → exec .escapeReroute s = .next s) ∧
  (∀ s : State, s.takes = true → swf regReset s.eff = true →
    Goes .swcCommit s (fun t => t.effRd Reg.SWC_CTL = s.rd Reg.SWC_CTL ∧ t.regs = s.regs ∧ t.out = s.out ∧ t.swc = s.swc ∧ t.mems = s.mems ∧
      ∀ r, r ≠ Reg.SWC_CTL → t.effRd r = s.effRd r))

/-- ETH_LINK_CHANGE: with EN set a port comes up, and any goes down, UP, FEC_LOCK and its lanes following, with an event (R35, R563, R574); where UP does
not change nothing does. NEIGHBOUR_SOLICITATION and ECHO_REQUEST for the port's own address go to its egress queue, and out where that is empty and
admits them; they and OTHER_FRAME are counted otherwise (R564, R573). While the port is down the three change nothing. What is not due, or finds no
case for it, changes nothing: the model's choice (log entry 20). -/
def Obligations.EthernetPorts : Prop :=
  (∀ (s : State) (e : Fin 4), s.up = true → s.on (F.ETH_P_CTL_EN e.val) = true → s.on (F.ETH_P_STAT_UP e.val) = false → s.eth.chans = [] →
    exec (.ethLinkChange e true) s = .next ((((s.setF (F.ETH_P_STAT_UP e.val) 1).setF (F.ETH_P_STAT_FEC_LOCK e.val) 1).ethLaneState e.val).post
      (ev 0xB4 stOk (2 ^ 16 * e.val + 1) 0))) ∧
  (∀ (s : State) (e : Fin 4), s.up = true → s.on (F.ETH_P_STAT_UP e.val) = true →
    exec (.ethLinkChange e false) s = .next ((((s.setF (F.ETH_P_STAT_UP e.val) 0).setF (F.ETH_P_STAT_FEC_LOCK e.val) 0).ethLaneState e.val).post
      (ev 0xB4 stOk (2 ^ 16 * e.val) 0))) ∧
  (∀ (s : State) (e : Fin 4) (b : Bool), s.on (F.ETH_P_STAT_UP e.val) = (b && s.on (F.ETH_P_CTL_EN e.val)) → exec (.ethLinkChange e b) s = .next s) ∧
  (∀ (s : State) (e : Fin 4) (a : BitVec 128) (b : Bytes), s.up = true → s.on (F.ETH_P_STAT_UP e.val) = true →
    exec (.neighbourSolicitation e (s.ethIp e.val) a) s = .next (s.ethAnswer e.val 90 (.neighbourAdv e.val (s.ethIp e.val) a (s.ethMac e.val))) ∧
    exec (.echoRequest e a (s.ethIp e.val) b) s = .next (s.ethAnswer e.val (58 + b.length) (.echoReply e.val (s.ethIp e.val) a b))) ∧
  (∀ (s : State) (e : Fin 4) (a : BitVec 128) (b : Bytes), s.up = true → s.on (F.ETH_P_STAT_UP e.val) = true → s.ethQ e.val = ⟨0, 0⟩ →
    0 < (s.f (F.ETH_RED_MIN 0)).toNat → 0 < (s.f (F.ETH_RED_MAX 0)).toNat → b.length ≤ 8192 →
    Goes (.neighbourSolicitation e (s.ethIp e.val) a) s (fun t => t.out = s.out ++ [.neighbourAdv e.val (s.ethIp e.val) a (s.ethMac e.val)] ∧
      t.regs = s.regs ∧ t.mems = s.mems ∧ t.eth.chans = s.eth.chans) ∧
    Goes (.echoRequest e a (s.ethIp e.val) b) s (fun t => t.out = s.out ++ [.echoReply e.val (s.ethIp e.val) a b] ∧
      t.regs = s.regs ∧ t.mems = s.mems ∧ t.eth.chans = s.eth.chans)) ∧
  (∀ (s : State) (e : Fin 4) (a b : BitVec 128) (d : Bytes), s.up = true → s.on (F.ETH_P_STAT_UP e.val) = true → b ≠ s.ethIp e.val →
    exec (.neighbourSolicitation e b a) s = .next (s.incF (F.ETH_P_OTHER_COUNT e.val) 1) ∧
    exec (.echoRequest e a b d) s = .next (s.incF (F.ETH_P_OTHER_COUNT e.val) 1) ∧
    exec (.otherFrame e) s = .next (s.incF (F.ETH_P_OTHER_COUNT e.val) 1)) ∧
  (∀ (s : State) (e : Fin 4), s.up = true → s.on (F.ETH_P_STAT_UP e.val) = true → swf regReset s.regs = true →
    Goes (.otherFrame e) s (fun t => t.f (F.ETH_P_OTHER_COUNT e.val) = s.f (F.ETH_P_OTHER_COUNT e.val) + 1 ∧ t.out = s.out ∧ t.eth = s.eth ∧
      t.mems = s.mems ∧ ∀ r, r ≠ Reg.ETH_P_OTHER e.val → t.rd r = s.rd r)) ∧
  (∀ (s : State) (e : Fin 4) (a b : BitVec 128) (d : Bytes), s.on (F.ETH_P_STAT_UP e.val) = false → exec (.neighbourSolicitation e b a) s = .next s ∧
    exec (.echoRequest e a b d) s = .next s ∧ exec (.otherFrame e) s = .next s)

/-- SEND_DOORBELL, RECEIVE_DOORBELL: the ring's tail takes the value (R565). PUT_RECORD, GET_RECORD, SEND_RECORD of a channel that is on, without error
and with a record posted: a malformed record sets ERR 1; a good one runs under the next message number and queues its packet, of kind 1, 2 or 4 (R566,
R567, R569); else nothing changes. SPILL_ACK_TIMER with packets to acknowledge sends an ACK (R570), with none nothing changes. SPILL_RTO: a packet
whose timeout has passed is sent again and counted, or fails the channel when its retransmissions are used up (R571); before, nothing changes.
SPILL_WINDOW_GROW 64 us after the last ECE: the window grows by 65,536 bytes to 4 MiB at most (R572); before, nothing changes. What is not due, or
finds no case for it, changes nothing: the model's choice (log entry 20). -/
def Obligations.SpillSending : Prop :=
  (∀ (s : State) (c : BitVec 8) (n : BitVec 16), s.takes = true →
    exec (.sendDoorbell c n) s = .next (s.setCh c.toNat { s.ch c.toNat with sqTail := n }) ∧
    exec (.receiveDoorbell c n) s = .next (s.setCh c.toNat { s.ch c.toNat with rqTail := n })) ∧
  (∀ (s : State) (c : BitVec 8) (b : Bytes) (l : List Resp), s.up = true → s.chOn c.toNat = true → s.f (F.ETH_CH_STAT_ERR c.toNat) = 0 →
    (s.ch c.toNat).sqNext ≠ ringIx (s.f (F.ETH_CH_SQ_LO_LOG2_SIZE c.toNat)) (s.ch c.toNat).sqTail → recordBad (words64 8 b) = true →
    let t := (s.emit (.hostRead (s.sqBase c.toNat + BitVec.ofNat 64 (64 * (s.ch c.toNat).sqNext.toNat)) 64)).setF (F.ETH_CH_STAT_ERR c.toNat) 1
    exec (.putRecord c b l) s = .next t ∧ exec (.getRecord c b l) s = .next t ∧ exec (.sendRecord c b l) s = .next t) ∧
  (∀ (s : State) (c : BitVec 8) (b : Bytes) (l : List Resp), s.chOn c.toNat = false ∨ s.f (F.ETH_CH_STAT_ERR c.toNat) ≠ 0 ∨
      (s.ch c.toNat).sqNext = ringIx (s.f (F.ETH_CH_SQ_LO_LOG2_SIZE c.toNat)) (s.ch c.toNat).sqTail →
    exec (.putRecord c b l) s = .next s ∧ exec (.getRecord c b l) s = .next s ∧ exec (.sendRecord c b l) s = .next s) ∧
  (∀ (s : State) (c : BitVec 8) (b : Bytes) (l : List Resp), s.up = true → s.chOn c.toNat = true → s.f (F.ETH_CH_STAT_ERR c.toNat) = 0 →
    (s.ch c.toNat).sqNext ≠ ringIx (s.f (F.ETH_CH_SQ_LO_LOG2_SIZE c.toNat)) (s.ch c.toNat).sqTail → recordBad (words64 8 b) = false → s.on (F.ETH_P_STAT_UP (s.chPort c.toNat)) = false →
    s.pwr.pcieUp = true → swf chan0 s.eth.chans = true →
    let h := s.ch c.toNat
    let w (i : Nat) : R64 := (words64 8 b).getD i 0
    let n := w64 (w 5) 31 0
    let begun (k : BitVec 4) (left : Nat) (t : State) : Prop := t.out = s.out ++ [.hostRead (s.sqBase c.toNat + BitVec.ofNat 64 (64 * h.sqNext.toNat)) 64] ∧
      (t.ch c.toNat).sqNext = ringSucc (s.f (F.ETH_CH_SQ_LO_LOG2_SIZE c.toNat)) h.sqNext ∧ (t.ch c.toNat).nextMsg = h.nextMsg + 1 ∧
      (t.ch c.toNat).recs = h.recs ++ [⟨h.sqNext, words64 8 b, h.nextMsg, 0, left, stOk, 0, .running⟩] ∧ t.regs = s.regs ∧ t.mems = s.mems ∧
      ∃ p : Spill, (t.ch c.toNat).txq = h.txq ++ [p] ∧ p.kind = k ∧ p.first = true ∧ p.last = true ∧ p.msg = h.nextMsg ∧ p.payload = [] ∧
        p.dstCh = s.f (F.ETH_CH_CFG_RCH c.toNat) ∧ p.srcCh = c ∧ p.imm = BitVec.ofNat 32 (w64 (w 6) 31 0) ∧
        p.offset = (if k = 4 then 0 else w 4) ∧ (k = 2 → p.nak.toNat * 2 ^ 24 + p.len24.toNat = n)
    (w64 (w 0) 7 0 = 2 → Goes (.getRecord c b l) s (begun 2 n)) ∧
    (w64 (w 0) 7 0 = 1 → n = 0 → Goes (.putRecord c b l) s (begun 1 1)) ∧
    (w64 (w 0) 7 0 = 3 → n = 0 → Goes (.sendRecord c b l) s (begun 4 1))) ∧
  (∀ (s : State) (c : BitVec 8), s.up = true → s.chOn c.toNat = true → 0 < (s.ch c.toNat).since →
    exec (.spillAckTimer c) s = .next ((s.setCh c.toNat { s.ch c.toNat with since := 0, ce := false }).spillOut c.toNat
      { s.pkt0 c.toNat 8 with ackPsn := (s.ch c.toNat).ackPsn, ece := (s.ch c.toNat).ce, offset := ackBits (s.ch c.toNat) })) ∧
  (∀ (s : State) (c : BitVec 8), (s.ch c.toNat).since = 0 ∨ s.chOn c.toNat = false → exec (.spillAckTimer c) s = .next s) ∧
  (∀ (s : State) (c : BitVec 8) (n : R32) (x : TxPkt), s.up = true → s.chOn c.toNat = true → s.on (F.ETH_P_STAT_UP (s.chPort c.toNat)) = true →
    (s.ch c.toNat).unacked = [x] → x.pkt.psn = n → s.rto x ≤ s.now.toNat - x.sentAt.toNat → x.uncounted = false →
    x.tries < max 1 (s.f F.ETH_RTO_RETRIES).toNat →
    exec (.spillRto c n) s = .next (((s.setCh c.toNat { s.ch c.toNat with
      unacked := [{ x with tries := x.tries + 1, sentAt := s.now, fast := false }] }).incF (F.ETH_CH_STAT_RETX c.toNat) 1).spillOut c.toNat x.pkt) ∧
    (swf chan0 s.eth.chans = true → swf regReset s.regs = true → Goes (.spillRto c n) s (fun t =>
      (t.ch c.toNat).unacked = [{ x with tries := x.tries + 1, sentAt := s.now, fast := false }] ∧
      t.f (F.ETH_CH_STAT_RETX c.toNat) = s.f (F.ETH_CH_STAT_RETX c.toNat) + 1 ∧ t.mems = s.mems))) ∧
  (∀ (s : State) (c : BitVec 8) (n : R32) (x : TxPkt), s.up = true → s.chOn c.toNat = true → s.on (F.ETH_P_STAT_UP (s.chPort c.toNat)) = true →
    (s.ch c.toNat).unacked = [x] → x.pkt.psn = n → s.rto x ≤ s.now.toNat - x.sentAt.toNat → x.uncounted = false →
    max 1 (s.f F.ETH_RTO_RETRIES).toNat ≤ x.tries → exec (.spillRto c n) s = .next (s.chFail c.toNat n)) ∧
  (∀ (s : State) (c : BitVec 8) (n : R32), (∀ x ∈ (s.ch c.toNat).unacked, x.pkt.psn = n → s.now.toNat - x.sentAt.toNat < s.rto x) →
    exec (.spillRto c n) s = .next s) ∧
  (∀ (s : State) (c : BitVec 8), s.up = true → 16000 ≤ s.now.toNat - (s.ch c.toNat).lastEce.toNat → (s.ch c.toNat).txq = [] → swf chan0 s.eth.chans = true →
    exec (.spillWindowGrow c) s = .next (s.setCh c.toNat { s.ch c.toNat with win := min ((s.ch c.toNat).win + 65536) 4194304, lastEce := s.now })) ∧
  (∀ (s : State) (c : BitVec 8), s.now.toNat - (s.ch c.toNat).lastEce.toNat < 16000 → exec (.spillWindowGrow c) s = .next s)

/-- PUT, GET_REQ, GET_RESP, SEND of another version, or with the ports off, change nothing; on a port that is not the channel's, or with the channel off,
they are answered by NAK 0x3; numbered below what is acknowledged, by an ACK (R568, R570). PUT or GET_REQ of a span outside the window is answered by
NAK 0x1 and its number taken (R568); an empty one inside is taken, and a GET_REQ answered by a GET_RESP in the queue (R568). GET_RESP writes the
record's buffer, and the record completes with its last byte (R567). SEND with no receive buffer is answered by NAK 0x2 and not taken; its first
packet takes the next buffer (R568). ACK: an acknowledged packet of a record counts for it (R567, R570). SPILL_NAK 0x1, 0x4 and 0x3 end the message's
record with RIGHTS, RIGHTS and TARGET_LOST (R571). ACK and NAK of a channel that is off, or on another port, change nothing. -/
def Obligations.SpillReceiving : Prop :=
  (∀ (s : State) (e : Fin 4) (p : Spill) (l : List Resp) (b : Bytes), p.ver ≠ 1 ∨ s.on F.ETH_CTL_EN = false →
    exec (.put e p l) s = .next s ∧ exec (.getReq e p l) s = .next s ∧ exec (.getResp e p l) s = .next s ∧ exec (.send e p b l) s = .next s) ∧
  (∀ (s : State) (e : Fin 4) (p : Spill) (l : List Resp) (b : Bytes), s.up = true → p.ver = 1 → s.on F.ETH_CTL_EN = true →
    s.chOn p.dstCh.toNat = false ∨ s.chPort p.dstCh.toNat ≠ e.val →
    exec (.put e p l) s = .next (s.sendNakFor p.dstCh.toNat p 3) ∧ exec (.getReq e p l) s = .next (s.sendNakFor p.dstCh.toNat p 3) ∧
    exec (.getResp e p l) s = .next (s.sendNakFor p.dstCh.toNat p 3) ∧ exec (.send e p b l) s = .next (s.sendNakFor p.dstCh.toNat p 3)) ∧
  (∀ (s : State) (e : Fin 4) (p : Spill) (l : List Resp) (b : Bytes), s.up = true → p.ver = 1 → s.chOn p.dstCh.toNat = true →
    s.chPort p.dstCh.toNat = e.val → 2 ^ 31 ≤ (p.psn - (s.ch p.dstCh.toNat).ackPsn).toNat →
    exec (.put e p l) s = .next (s.sendAck p.dstCh.toNat) ∧ exec (.getReq e p l) s = .next (s.sendAck p.dstCh.toNat) ∧
    exec (.getResp e p l) s = .next (s.sendAck p.dstCh.toNat) ∧ exec (.send e p b l) s = .next (s.sendAck p.dstCh.toNat)) ∧
  (∀ (s : State) (e : Fin 4) (p : Spill) (l : List Resp), s.up = true → p.ver = 1 → s.chOn p.dstCh.toNat = true → s.chPort p.dstCh.toNat = e.val →
    (p.psn - (s.ch p.dstCh.toNat).ackPsn).toNat < 4096 → (s.ch p.dstCh.toNat).got.contains p.psn = false →
    s.winHas p.dstCh.toNat (s.on (F.ETH_CH_WIN_LEN_W p.dstCh.toNat)) p.offset.toNat p.payload.length = false →
    exec (.put e p l) s = .next ((s.sendNakFor p.dstCh.toNat p 1).noteGot p.dstCh.toNat p)) ∧
  (∀ (s : State) (e : Fin 4) (p : Spill) (l : List Resp), s.up = true → p.ver = 1 → s.chOn p.dstCh.toNat = true → s.chPort p.dstCh.toNat = e.val →
    p.psn = (s.ch p.dstCh.toNat).ackPsn → (s.ch p.dstCh.toNat).got = [] → (s.ch p.dstCh.toNat).msgs = [] → (s.ch p.dstCh.toNat).since < 15 →
    s.winHas p.dstCh.toNat (s.on (F.ETH_CH_WIN_LEN_W p.dstCh.toNat)) p.offset.toNat 0 = true → p.payload = [] → p.first = true → p.last = true →
    p.immEn = false → swf chan0 s.eth.chans = true →
    Goes (.put e p l) s (fun t => (t.ch p.dstCh.toNat).ackPsn = (s.ch p.dstCh.toNat).ackPsn + 1 ∧ (t.ch p.dstCh.toNat).msgs = [] ∧ t.out = s.out ∧
      t.regs = s.regs ∧ t.mems = s.mems)) ∧
  (∀ (s : State) (e : Fin 4) (p : Spill) (l : List Resp), s.up = true → p.ver = 1 → s.chOn p.dstCh.toNat = true → s.chPort p.dstCh.toNat = e.val →
    p.psn = (s.ch p.dstCh.toNat).ackPsn → (s.ch p.dstCh.toNat).got = [] → (s.ch p.dstCh.toNat).since < 15 → (s.ch p.dstCh.toNat).txq = [] →
    s.on (F.ETH_P_STAT_UP e.val) = false → s.winHas p.dstCh.toNat (s.on (F.ETH_CH_WIN_LEN_R p.dstCh.toNat)) p.offset.toNat 0 = true → p.nak = 0 →
    p.len24 = 0 → swf chan0 s.eth.chans = true →
    Goes (.getReq e p l) s (fun t => (t.ch p.dstCh.toNat).ackPsn = (s.ch p.dstCh.toNat).ackPsn + 1 ∧ t.out = s.out ∧ t.regs = s.regs ∧ t.mems = s.mems ∧
      ∃ q : Spill, (t.ch p.dstCh.toNat).txq = [q] ∧ q.kind = 3 ∧ q.msg = p.msg ∧ q.dstCh = p.srcCh ∧ q.srcCh = p.dstCh ∧ q.payload = [] ∧
        q.offset = p.offset)) ∧
  (∀ (s : State) (e : Fin 4) (p : Spill) (l : List Resp), s.up = true → p.ver = 1 → s.chOn p.dstCh.toNat = true → s.chPort p.dstCh.toNat = e.val →
    (p.psn - (s.ch p.dstCh.toNat).ackPsn).toNat < 4096 → (s.ch p.dstCh.toNat).got.contains p.psn = false →
    s.winHas p.dstCh.toNat (s.on (F.ETH_CH_WIN_LEN_R p.dstCh.toNat)) p.offset.toNat (p.nak.toNat * 2 ^ 24 + p.len24.toNat) = false →
    exec (.getReq e p l) s = .next ((s.sendNakFor p.dstCh.toNat p 1).noteGot p.dstCh.toNat p)) ∧
  (∀ (s : State) (e : Fin 4) (p : Spill) (l : List Resp) (r : SRec), s.up = true → p.ver = 1 → s.chOn p.dstCh.toNat = true →
    s.chPort p.dstCh.toNat = e.val → (p.psn - (s.ch p.dstCh.toNat).ackPsn).toNat < 4096 → (s.ch p.dstCh.toNat).got.contains p.psn = false →
    s.recOf p.dstCh.toNat p.msg = some r → r.op = 2 → r.left = 0 → p.payload = [] →
    exec (.getResp e p l) s = .next ((s.recDone p.dstCh.toNat r).noteGot p.dstCh.toNat p)) ∧
  (∀ (s : State) (e : Fin 4) (p : Spill) (l : List Resp) (r : SRec), s.up = true → p.ver = 1 → s.chOn p.dstCh.toNat = true →
    s.chPort p.dstCh.toNat = e.val → (p.psn - (s.ch p.dstCh.toNat).ackPsn).toNat < 4096 → (s.ch p.dstCh.toNat).got.contains p.psn = false →
    s.recOf p.dstCh.toNat p.msg = some r → r.op = 2 →
    let i := (s.spillIo p.dstCh.toNat l).writeW 3 ((r.w 3).toNat + (p.offset.toNat - (r.w 4).toNat)) p.payload
    i.err = none → i.pause = none → p.payload.length < r.left →
    exec (.getResp e p l) s = .next ((i.s.mapRec p.dstCh.toNat p.msg (fun _ =>
      { r with bytes := r.bytes + p.payload.length, left := r.left - p.payload.length })).noteGot p.dstCh.toNat p)) ∧
  (∀ (s : State) (e : Fin 4) (p : Spill) (b : Bytes) (l : List Resp), s.up = true → p.ver = 1 → s.chOn p.dstCh.toNat = true →
    s.chPort p.dstCh.toNat = e.val → (p.psn - (s.ch p.dstCh.toNat).ackPsn).toNat < 4096 → (s.ch p.dstCh.toNat).got.contains p.psn = false →
    s.rmsg p.dstCh.toNat p = none → (s.ch p.dstCh.toNat).rqNext =
      ringIx (s.f (F.ETH_CH_RQ_LO_LOG2_SIZE p.dstCh.toNat)) (s.ch p.dstCh.toNat).rqTail →
    exec (.send e p b l) s = .next (s.sendNakFor p.dstCh.toNat p 2)) ∧
  (∀ (s : State) (e : Fin 4) (p : Spill) (b : Bytes) (l : List Resp), s.up = true → p.ver = 1 → s.chOn p.dstCh.toNat = true →
    s.chPort p.dstCh.toNat = e.val → p.psn = (s.ch p.dstCh.toNat).ackPsn → (s.ch p.dstCh.toNat).got = [] → (s.ch p.dstCh.toNat).since < 15 →
    (s.ch p.dstCh.toNat).msgs = [] → (s.ch p.dstCh.toNat).rqNext ≠
      ringIx (s.f (F.ETH_CH_RQ_LO_LOG2_SIZE p.dstCh.toNat)) (s.ch p.dstCh.toNat).rqTail → s.pwr.pcieUp = true → p.first = true →
    p.last = false → p.offset = 0 → p.payload = [] → swf chan0 s.eth.chans = true →
    Goes (.send e p b l) s (fun t => (t.ch p.dstCh.toNat).ackPsn = (s.ch p.dstCh.toNat).ackPsn + 1 ∧
      (t.ch p.dstCh.toNat).rqNext = ringSucc (s.f (F.ETH_CH_RQ_LO_LOG2_SIZE p.dstCh.toNat)) (s.ch p.dstCh.toNat).rqNext ∧
      (t.ch p.dstCh.toNat).msgs = [⟨p.msg, 0, some 0, none, (s.ch p.dstCh.toNat).rqNext, (words64 2 b).getD 0 0, w64 ((words64 2 b).getD 1 0) 31 0⟩] ∧
      t.out = s.out ++ [.hostRead (s.rqBase p.dstCh.toNat + BitVec.ofNat 64 (16 * (s.ch p.dstCh.toNat).rqNext.toNat)) 16] ∧ t.mems = s.mems)) ∧
  (∀ (s : State) (e : Fin 4) (p : Spill) (x : TxPkt) (r : SRec), s.up = true → p.ver = 1 → s.chOn p.dstCh.toNat = true →
    s.chPort p.dstCh.toNat = e.val → (s.ch p.dstCh.toNat).unacked = [x] → (s.ch p.dstCh.toNat).txq = [] → ackShows p x.pkt.psn = true →
    x.pkt.kind = 1 ∨ x.pkt.kind = 4 → s.recOf p.dstCh.toNat x.pkt.msg = some r → p.ece = false → 1 < r.left → swf chan0 s.eth.chans = true →
    Goes (.ack e p) s (fun t => (t.ch p.dstCh.toNat).unacked = [] ∧ t.out = s.out ∧ t.regs = s.regs ∧ t.mems = s.mems ∧
      ({ r with bytes := r.bytes + x.pkt.payload.length, left := r.left - 1 } ∈ (t.ch p.dstCh.toNat).recs))) ∧
  (∀ (s : State) (e : Fin 4) (p : Spill), p.ver ≠ 1 ∨ s.chOn p.dstCh.toNat = false ∨ s.chPort p.dstCh.toNat ≠ e.val →
    exec (.ack e p) s = .next s ∧ exec (.spillNak e p) s = .next s) ∧
  (∀ (s : State) (e : Fin 4) (p : Spill) (st : Status), s.up = true → p.ver = 1 → s.chOn p.dstCh.toNat = true → s.chPort p.dstCh.toNat = e.val →
    (s.ch p.dstCh.toNat).unacked = [] → swf chan0 s.eth.chans = true →
    (st = stRights ∧ (p.nak = 1 ∨ p.nak = 4)) ∨ (st = stTargetLost ∧ p.nak = 3) →
    exec (.spillNak e p) s = .next ((s.recEnd p.dstCh.toNat p.msg st 0).chSend p.dstCh.toNat))

/-- REPORT with an identity writes the report's window and makes the slot REPORTED; with none it shows ERR 2 (R581, R584). OPEN of a REPORTED slot derives
the session's key from the peer's material in SEC_CMDWIN, or shows ERR 4 (R585); CLOSE erases an OPEN slot (R584); of a slot not so, either shows ERR
3. LOAD in an OPEN slot of a memory key's blob with a fresh counter for a generation that no extent uses: one that does not open shows ERR 5, a key
with equal halves ERR 7, else the key is stored; a malformed blob shows ERR 1 (R586, R587, R592). ERASE takes a memory key that no extent uses, shows
ERR 6 for one in use and ERR 1 for a reserved target, and takes a port's seed (R591). LINK_REKEY of an encrypted port closes its frame and moves it to
its next index; beyond port 13 it shows ERR 1 (R599). While BUSY all six are ignored; SEC_CMD_DONE, where firmware serves, ends BUSY with the
command's ERR (R613). SESSION_EXPIRY closes a slot REPORTED for 10 s (R584). Otherwise these two change nothing. What is not due, or finds no case for
it, changes nothing: the model's choice (log entry 20). Free values and opaque standards (log entries 3, 8) take any value. -/
def Obligations.SecurityCommands : Prop :=
  let shows (i e : BitVec 4) (u : SecUndo) (op : BitVec 4) (t : State) : Prop := t.f F.SEC_RES_BUSY = 1 ∧ t.f F.SEC_RES_SESSION = i ∧
    t.sec.cmd = some ⟨op, e, u⟩
  (∀ (s : State) (i : BitVec 4), s.takes = true → s.on F.SEC_RES_BUSY = false → s.on F.SEC_STAT_ID_OK = true → swf regReset s.regs = true →
    swf sess0 s.sec.sess = true →
    Goes (.report i) s (fun t => shows i 0 .none 1 t ∧ (t.sess i.toNat).st = .reported ∧ (t.sess i.toNat).draw = s.free ∧ s.free < t.free ∧
      t.out = s.out ∧ (∀ a, 4912 ≤ a → Mem.rd t.mems.rptwin a = Mem.rd s.mems.rptwin a) ∧ t.mems.pool = s.mems.pool ∧ t.mems.sram = s.mems.sram ∧
      t.sec.keys = s.sec.keys)) ∧
  (∀ (s : State) (i : BitVec 4), s.takes = true → s.on F.SEC_RES_BUSY = false → s.on F.SEC_STAT_ID_OK = false →
    exec (.report i) s = .next (s.secTake 1 i 2 .none)) ∧
  (∀ (s : State) (i : BitVec 4), s.takes = true → s.on F.SEC_RES_BUSY = false → (s.sess i.toNat).st = .reported → swf regReset s.regs = true →
    swf sess0 s.sec.sess = true →
    Goes (.secOpen i) s (fun t => if (Config.x25519Shared (s.sess i.toNat).draw (Mem.rdN s.mems.cmdwin 0 32)).all (· == 0) = true
      then t = s.secTake 2 i 4 .none
      else shows i 0 (.sess i.toNat (s.sess i.toNat)) 2 t ∧ (t.sess i.toNat).st = .opened ∧
        (t.sess i.toNat).sk = Config.hkdf (Config.x25519Shared (s.sess i.toNat).draw (Mem.rdN s.mems.cmdwin 0 32) ++
          Config.mlkemShared (s.sess i.toNat).draw (Mem.rdN s.mems.cmdwin 32 1088)) (s.sess i.toNat).salt (ascii "STL-SESSION") 32 ∧
        t.out = s.out ∧ t.mems = s.mems)) ∧
  (∀ (s : State) (i : BitVec 4), s.takes = true → s.on F.SEC_RES_BUSY = false →
    ((s.sess i.toNat).st ≠ .reported → exec (.secOpen i) s = .next (s.secTake 2 i 3 .none)) ∧
    ((s.sess i.toNat).st ≠ .opened → exec (.close i) s = .next (s.secTake 3 i 3 .none))) ∧
  (∀ (s : State) (i : BitVec 4), s.takes = true → s.on F.SEC_RES_BUSY = false → (s.sess i.toNat).st = .opened →
    exec (.close i) s = .next (((s.setSess i.toNat (sess0 i.toNat)).post (evSessionClosed i.toNat 0)).secTake 3 i 0 .none)) ∧
  (∀ (s : State) (i : BitVec 4) (w c : Nat), s.takes = true → s.on F.SEC_RES_BUSY = false → (s.sess i.toNat).st = .opened →
    leNat ((Mem.rdN s.mems.cmdwin 0 16).take 8) = w → leNat ((Mem.rdN s.mems.cmdwin 0 16).drop 8) = c → bitsAt w 60 4 = 1 → bitsAt w 0 45 = 0 →
    (s.sess i.toNat).counter.all (fun n => decide (n.toNat < c)) = true → s.genInUse (fieldAt 10 w 50) (bitAt w 49) = false →
    swf regReset s.regs = true → swf noKey s.sec.keys = true → swf sess0 s.sec.sess = true →
    Goes (.secLoad i) s (fun t =>
      match Config.gcmOpen (s.sess i.toNat).sk (zeros 3 ++ [BitVec.ofNat 8 i.toNat] ++ natBe 8 c) (Mem.rdN s.mems.cmdwin 0 16)
        (Mem.rdN s.mems.cmdwin 16 64) (Mem.rdN s.mems.cmdwin 80 16) with
      | none => t = s.secTake 4 i 5 .none
      | some k =>
        if halvesEqual (slice k 0 64) = true then t = s.secTake 4 i 7 .none
        else shows i 0 (.key (keyIx (fieldAt 10 w 50) (bitAt w 49)) (sget noKey s.sec.keys (keyIx (fieldAt 10 w 50) (bitAt w 49)))) 4 t ∧
          sget noKey t.sec.keys (keyIx (fieldAt 10 w 50) (bitAt w 49)) = some (BitVec.ofNat 512 (leNat (slice k 0 64))) ∧
          (t.sess i.toNat).counter = some (BitVec.ofNat 64 c) ∧ t.mems = s.mems ∧ t.out = s.out)) ∧
  (∀ (s : State) (i : BitVec 4) (w : Nat), s.takes = true → s.on F.SEC_RES_BUSY = false → leNat ((Mem.rdN s.mems.cmdwin 0 16).take 8) = w →
    (bitsAt w 60 4 ≠ 1 ∧ bitsAt w 60 4 ≠ 2) ∨ bitsAt w 0 45 ≠ 0 → exec (.secLoad i) s = .next (s.secTake 4 i 1 .none)) ∧
  (∀ (s : State) (g : BitVec 10) (b : Bool) (p : BitVec 4), s.takes = true → s.on F.SEC_RES_BUSY = false → s.genInUse g b = false →
    swf noKey s.sec.keys = true → swf regReset s.regs = true →
    Goes (.erase 0 g b p) s (fun t => shows 0 0 .none 5 t ∧ sget noKey t.sec.keys (keyIx g b) = none ∧ t.mems = s.mems ∧ t.out = s.out ∧
      ∀ k, k ≠ keyIx g b → sget noKey t.sec.keys k = sget noKey s.sec.keys k)) ∧
  (∀ (s : State) (g : BitVec 10) (b : Bool) (p : BitVec 4), s.takes = true → s.on F.SEC_RES_BUSY = false → s.genInUse g b = true →
    exec (.erase 0 g b p) s = .next (s.secTake 5 0 6 .none)) ∧
  (∀ (s : State) (g : BitVec 10) (b : Bool) (p : BitVec 4), s.takes = true → s.on F.SEC_RES_BUSY = false → p.toNat ≤ 13 →
    exec (.erase 1 g b p) s = .next ((s.eraseSeed p.toNat).secTake 5 0 0 .none)) ∧
  (∀ (s : State) (k : BitVec 2) (g : BitVec 10) (b : Bool) (p : BitVec 4), s.takes = true → s.on F.SEC_RES_BUSY = false →
    1 < k.toNat ∨ (k = 1 ∧ 13 < p.toNat) → exec (.erase k g b p) s = .next (s.secTake 5 0 1 .none)) ∧
  (∀ (s : State) (p : BitVec 4), s.takes = true → s.on F.SEC_RES_BUSY = false →
    (13 < p.toNat → exec (.linkRekey p) s = .next (s.secTake 6 0 1 .none)) ∧
    (p.toNat ≤ 13 → s.on (F.LAN_P_STAT_ENC_ON p.toNat) = true → exec (.linkRekey p) s = .next (((s.closeFrame p.toNat).advTx p.toNat).secTake 6 0 0 .none)) ∧
    (p.toNat ≤ 13 → s.on (F.LAN_P_STAT_ENC_ON p.toNat) = false → exec (.linkRekey p) s = .next (s.secTake 6 0 0 .none))) ∧
  (∀ (s : State) (i p : BitVec 4) (k : BitVec 2) (g : BitVec 10) (b : Bool), s.on F.SEC_RES_BUSY = true → exec (.report i) s = .next s ∧
    exec (.secOpen i) s = .next s ∧ exec (.close i) s = .next s ∧ exec (.secLoad i) s = .next s ∧ exec (.erase k g b p) s = .next s ∧
    exec (.linkRekey p) s = .next s) ∧
  (∀ (s : State) (c : SecCmd), s.up = true → s.fwServes 0 = true → s.sec.cmd = some c → swf regReset s.regs = true →
    Goes .secCmdDone s (fun t => t.f F.SEC_RES_BUSY = 0 ∧ t.f F.SEC_RES_ERR = c.err ∧ t.sec = { s.sec with cmd := none } ∧ t.mems = s.mems ∧
      t.out = s.out)) ∧
  (∀ s : State, s.sec.cmd = none ∨ s.fwServes 0 = false → exec .secCmdDone s = .next s) ∧
  (∀ (s : State) (i : BitVec 4), s.up = true → (s.sess i.toNat).st = .reported → 2500000000 ≤ s.now.toNat - (s.sess i.toNat).at_.toNat →
    exec (.sessionExpiry i) s = .next ((s.setSess i.toNat (sess0 i.toNat)).post (evSessionClosed i.toNat 1))) ∧
  (∀ (s : State) (i : BitVec 4), (s.sess i.toNat).st ≠ .reported ∨ s.now.toNat - (s.sess i.toNat).at_.toNat < 2500000000 →
    exec (.sessionExpiry i) s = .next s)

/-- SENSOR_TRIP: the sensor shows in SEC_ALARM_STAT with the greatest level, and a new one in SMB_ALERT_N; at level 2 every session and link seed is
erased, at level 3 every memory key, and ALARM_N falls (R606, R607); sensors 5 to 7 do not exist. ALARM_ESCALATE of a level-3 alarm erases sessions,
seeds, slices and the system region, sets LATCH and holds the node in reset (R607); with none it changes nothing. ALARM_LATCH_CLEAR clears LATCH, and
the trips written as 1, ALARM_N rising with the last (R610). What is not due, or finds no case for it, changes nothing: the model's choice (log entry
20). -/
def Obligations.Alarms : Prop :=
  (∀ (s : State) (k : BitVec 3), s.up = true → k.toNat < 5 → s.alarmLevel k.toNat < 2 → swf regReset s.regs = true →
    Goes (.sensorTrip k) s (fun t => t.f F.SEC_ALARM_STAT_TRIPPED = s.f F.SEC_ALARM_STAT_TRIPPED ||| BitVec.ofNat 5 (2 ^ k.toNat) ∧
      (t.f F.SEC_ALARM_STAT_MAXLVL).toNat = max (s.f F.SEC_ALARM_STAT_MAXLVL).toNat (s.alarmLevel k.toNat) ∧ t.sec = s.sec ∧ t.mems = s.mems ∧
      (s.f F.SEC_ALARM_STAT_TRIPPED &&& BitVec.ofNat 5 (2 ^ k.toNat) = 0 → t.pwr.smbAlertN = false))) ∧
  (∀ (s : State) (k : BitVec 3), s.up = true → k.toNat < 5 → s.alarmLevel k.toNat = 3 → s.sec.cmd = none → s.hstate = hIdle →
    Goes (.sensorTrip k) s (fun t => t.sec.keys = [] ∧ t.sec.level3 = true ∧ t.pwr.alarmN = false ∧ t.sec.sess = s.sec.sess ∧ t.mems = s.mems)) ∧
  (∀ (s : State) (k : BitVec 3), s.up = true → k.toNat < 5 → s.alarmLevel k.toNat = 2 → s.sec.cmd = none → s.hstate = hIdle →
    swf sess0 s.sec.sess = true → swf noSeed s.sec.seeds = true → swf noSeed s.sec.newSeeds = true →
    Goes (.sensorTrip k) s (fun t => (∀ i ∈ List.range 16, (t.sess i).st = .free) ∧ (∀ p ∈ List.range 14, sget noSeed t.sec.seeds p = none) ∧
      t.sec.keys = s.sec.keys ∧ t.pwr.alarmN = false)) ∧
  (∀ (s : State) (k : BitVec 3), 5 ≤ k.toNat → exec (.sensorTrip k) s = .next s) ∧
  (∀ s : State, s.up = true → s.sec.level3 = true → swf sess0 s.sec.sess = true → swf noSeed s.sec.seeds = true → swf noSeed s.sec.newSeeds = true →
    Goes .alarmEscalate s (fun t => t.pwr.hold = .alarm ∧ t.pwr.driven = false ∧ t.up = false ∧
      ∃ u : State, t = (u.setF F.SEC_ALARM_STAT_LATCH 1).holdReset .alarm ∧ (∀ i ∈ List.range 16, (u.sess i).st = .free) ∧
        (∀ p ∈ List.range 14, sget noSeed u.sec.seeds p = none) ∧ u.mems.sram = [] ∧ u.mems.rt = [] ∧ u.mems.ext = [] ∧ u.mems.tt = [] ∧ u.mems.grp = [] ∧
        u.mems.llog = [] ∧ u.mems.sed = [] ∧ u.mems.pool = s.mems.pool)) ∧
  (∀ s : State, s.sec.level3 = false → exec .alarmEscalate s = .next s) ∧
  (∀ (s : State) (v : R32), s.takes = true → v.getLsbD 31 = true → s.on F.SEC_ALARM_STAT_LATCH = true → swf regReset s.regs = true →
    swf clayMfg s.clay.k0 = true → swf clayMfg s.clay.k1 = true →
    Goes (.alarmLatchClear v) s (fun t => t.f F.SEC_ALARM_STAT_LATCH = 0 ∧
      (s.clay.bank0 = true → s.clay.bank1 = true → t.clayWord 0xD1 = 0) ∧
      t.f F.SEC_ALARM_STAT_TRIPPED = s.f F.SEC_ALARM_STAT_TRIPPED &&& ~~~ fget F.SEC_ALARM_STAT_TRIPPED v ∧ t.mems = s.mems)) ∧
  (∀ (s : State) (v : R32), s.takes = true → v.getLsbD 31 = false ∨ s.on F.SEC_ALARM_STAT_LATCH = false → swf regReset s.regs = true →
    Goes (.alarmLatchClear v) s (fun t => t.f F.SEC_ALARM_STAT_LATCH = s.f F.SEC_ALARM_STAT_LATCH ∧ t.clay = s.clay ∧
      t.f F.SEC_ALARM_STAT_TRIPPED = s.f F.SEC_ALARM_STAT_TRIPPED &&& ~~~ fget F.SEC_ALARM_STAT_TRIPPED v ∧ t.out = s.out ∧ t.mems = s.mems ∧
      (t.f F.SEC_ALARM_STAT_TRIPPED = 0 → t.pwr.alarmN = true)))

/-- BOOT_ROM_READY: the ROM awaits an image, or is in TEST under BOOT_SEL 0b10 (R624, R628). IMGWIN_WRITE is taken while no check uses the window (R627).
BOOT in AWAIT_IMAGE: the staged image is verified; elsewhere ERR 8 (R628). BOOT_DONE: a refused image leaves AWAIT_IMAGE with its error; one that
passes runs, and the standby follows it or is lost with ERR 9 (R626, R628). Out of their state BOOT_ROM_READY, IMGWIN_WRITE and BOOT_DONE change
nothing. What is not due, or finds no case for it, changes nothing: the model's choice (log entry 20). -/
def Obligations.BootCommands : Prop :=
  (∀ s : State, s.up = true → s.boot = bRom →
    exec .bootRomReady s = .next (s.setF F.FWM_STAT_BOOT (if s.pwr.straps.bootSel = 2 then bTest else bAwait))) ∧
  (∀ s : State, s.boot ≠ bRom → exec .bootRomReady s = .next s) ∧
  (∀ (s : State) (a : BitVec 17) (w : Bool) (v : R64), s.takes = true → s.hstate = hIdle → s.boot ≠ bVerifying →
    exec (.imgwinWrite a w v) s = .next { s with mems := { s.mems with
      img := winWrite s.mems.img ((s.f F.FWM_IMG_PAGE_PAGE).toNat * 131072 + a.toNat) w v } }) ∧
  (∀ (s : State) (a : BitVec 17) (w : Bool) (v : R64), s.hstate ≠ hIdle ∨ s.boot = bVerifying → exec (.imgwinWrite a w v) s = .next s) ∧
  (∀ s : State, s.takes = true → s.boot = bAwait → swf regReset s.regs = true →
    Goes .boot s (fun t => t.boot = bVerifying ∧ t.fwm = { s.fwm with len := (s.f F.FWM_IMG_LEN_LEN).toNat } ∧ t.mems = s.mems ∧ t.out = s.out)) ∧
  (∀ s : State, s.takes = true → s.boot ≠ bAwait → exec .boot s = .next (s.setF F.FWM_STAT_ERR 8)) ∧
  (∀ (s : State) (b : Bool), s.up = true → s.boot = bVerifying → swf regReset s.regs = true →
    let i := s.staged s.fwm.len
    let e := s.imgErr s.fwm.len none
    ∃ u : State, exec (.bootDone b) s = .next (if e = 0 then u.post (evFwReady i b) else u) ∧
      (e ≠ 0 → u = (s.setF F.FWM_STAT_BOOT bAwait).setF F.FWM_STAT_ERR e) ∧
      (e = 0 → u.boot = bRunning ∧ u.fwm.run = some i ∧ u.rd Reg.FWM_VER = i.ver ∧ u.f F.FWM_SVN_RUN = i.svn ∧
        u.on F.FWM_STAT_STANDBY_VALID = (b || s.on F.FWM_STAT_STANDBY_VALID) ∧ (b = true → u.fwm.stby = some i ∧ u.rd Reg.FWM_VER_STBY = i.ver) ∧
        (b = false → u.f F.FWM_STAT_ERR = 9) ∧ u.mems = s.mems ∧ u.out = s.out)) ∧
  (∀ (s : State) (b : Bool), s.boot ≠ bVerifying → exec (.bootDone b) s = .next s)

/-- UPDATE in IDLE with the standby valid: LOADING; with none running, ERR 8. HANDOVER_LOAD_DONE: SYNCING with the staged image on the standby, or an
abort with its error. HANDOVER_SYNC_DONE: READY, or an abort with ERR 7. SWITCH in READY: SWITCHING, or at its tick; elsewhere ERR 8. ABORT under way:
an abort with ERR 0xA; in IDLE ERR 8. HANDOVER_TIMEOUT: an abort with ERR 7 after 500 ms of SYNCING, with 0xB after 100 ms of SWITCHING (R629).
QUIESCENT_BOUNDARY in SWITCHING with nothing open: the standby takes the role (R630). STANDBY_FOLLOWS: the standby has the running image (R629).
SVN_COMMIT raises FW_SVN to the running image's, where IDLE with the standby valid; else ERR 8 (R632). STANDBY_TAKEOVER: the standby takes the role, a
hardware failure taking its die's link and clay bank; with no standby the node serves on without firmware (R615, R623, R638). Out of their state the
commands of the node's own change nothing. What is not due, or finds no case for it, changes nothing: the model's choice (log entry 20). -/
def Obligations.HandoverCommands : Prop :=
  (∀ s : State, s.takes = true → s.hstate = hIdle → s.boot = bRunning → s.on F.FWM_STAT_STANDBY_VALID = true → swf regReset s.regs = true →
    Goes .update s (fun t => t.hstate = hLoading ∧ t.on F.FWM_STAT_STANDBY_VALID = false ∧
      t.fwm = { s.fwm with len := (s.f F.FWM_IMG_LEN_LEN).toNat } ∧ t.mems = s.mems ∧ t.out = s.out)) ∧
  (∀ s : State, s.takes = true → s.hstate ≠ hIdle ∨ s.boot ≠ bRunning → exec .update s = .next (s.setF F.FWM_STAT_ERR 8)) ∧
  (∀ s : State, s.up = true → s.hstate = hLoading → swf regReset s.regs = true →
    let e := s.imgErr s.fwm.len s.fwm.run
    Goes (.handoverLoadDone true) s (fun t => (e ≠ 0 → t = s.hoAbort e) ∧ (e = 0 → t.hstate = hSyncing ∧ t.fwm.stby = some (s.staged s.fwm.len) ∧
      t.rd Reg.FWM_VER_STBY = (s.staged s.fwm.len).ver ∧ t.mems = s.mems ∧ t.out = s.out)) ∧
    exec (.handoverLoadDone false) s = .next (s.hoAbort (if e = 0 then 9 else e))) ∧
  (∀ (s : State) (b : Bool), s.hstate ≠ hLoading → exec (.handoverLoadDone b) s = .next s) ∧
  (∀ s : State, s.up = true → s.hstate = hSyncing →
    exec (.handoverSyncDone true) s = .next ((s.setF F.FWM_STAT_HSTATE hReady).post (evHandover (s.rd Reg.FWM_VER_STBY))) ∧
    exec (.handoverSyncDone false) s = .next (s.hoAbort 7) ∧ (125000000 < s.hoAge → exec .handoverTimeout s = .next (s.hoAbort 7))) ∧
  (∀ (s : State) (b : Bool), s.hstate ≠ hSyncing → exec (.handoverSyncDone b) s = .next s) ∧
  (∀ s : State, s.takes = true → s.hstate = hReady → swf regReset s.regs = true →
    Goes (.switch false) s (fun t => t.hstate = hSwitching ∧ t.fwm = { s.fwm with timed := false, busy := s.fwInProgress, hoAt := s.now } ∧ t.mems = s.mems ∧
      t.out = s.out)) ∧
  (∀ s : State, s.takes = true → s.hstate = hReady → s.due s.hoTick = false → exec (.switch true) s = .next { s with fwm := { s.fwm with timed := true } }) ∧
  (∀ (s : State) (b : Bool), s.takes = true → s.hstate ≠ hReady → exec (.switch b) s = .next (s.setF F.FWM_STAT_ERR 8)) ∧
  (∀ (s : State) (i : Image), s.up = true → s.hstate = hSwitching → s.fwm.busy = [] → s.now.toNat = s.boundary → s.fwm.timed = false →
    s.fwm.stby = some i → s.fwm.mbWait = none → swf regReset s.regs = true →
    ∃ u : State, exec .quiescentBoundary s = .next (u.post (evHandoverDone (~~~ s.f F.FWM_STAT_ROLE) i.ver s.clk.slot)) ∧
      u.f F.FWM_STAT_ROLE = ~~~ s.f F.FWM_STAT_ROLE ∧ u.hstate = hIdle ∧ u.fwm.run = some i ∧ u.fwm.stby = s.fwm.run ∧ u.rd Reg.FWM_VER = i.ver ∧
      u.f F.FWM_SVN_RUN = i.svn ∧ u.mems = s.mems ∧ u.out = s.out) ∧
  (∀ s : State, s.fwm.timed = false → s.hstate ≠ hSwitching ∨ s.fwm.busy ≠ [] ∨ s.now.toNat ≠ s.boundary → exec .quiescentBoundary s = .next s) ∧
  (∀ s : State, s.takes = true → (s.hstate = hIdle → exec .abort s = .next (s.setF F.FWM_STAT_ERR 8)) ∧
    (s.hstate ≠ hIdle → exec .abort s = .next (s.hoAbort 0xA))) ∧
  (∀ s : State, s.up = true → s.hstate = hSwitching → 25000000 ≤ s.hoAge → exec .handoverTimeout s = .next (s.hoAbort 0xB)) ∧
  (∀ s : State, (s.hstate = hSyncing → s.hoAge ≤ 125000000) → (s.hstate = hSwitching → s.hoAge < 25000000) → exec .handoverTimeout s = .next s) ∧
  (∀ (s : State) (i : Image), s.up = true → s.hstate = hIdle → s.boot = bRunning → s.on F.FWM_STAT_STANDBY_VALID = false → s.fwm.lost = false →
    s.fwm.run = some i → swf regReset s.regs = true →
    Goes .standbyFollows s (fun t => t.fwm = { s.fwm with stby := some i } ∧ t.rd Reg.FWM_VER_STBY = i.ver ∧ t.on F.FWM_STAT_STANDBY_VALID = true ∧
      t.mems = s.mems ∧ t.out = s.out)) ∧
  (∀ s : State, s.hstate ≠ hIdle ∨ s.boot ≠ bRunning ∨ s.on F.FWM_STAT_STANDBY_VALID = true ∨ s.fwm.lost = true → exec .standbyFollows s = .next s) ∧
  (∀ s : State, s.takes = true → s.hstate = hIdle → s.on F.FWM_STAT_STANDBY_VALID = true →
    (s.fwSvn.toNat < (s.f F.FWM_SVN_RUN).toNat → exec .svnCommit s = .next (s.nodeClay 0xD4 ((s.f F.FWM_SVN_RUN).setWidth 32))) ∧
    ((s.f F.FWM_SVN_RUN).toNat ≤ s.fwSvn.toNat → exec .svnCommit s = .next s)) ∧
  (∀ s : State, s.takes = true → s.hstate ≠ hIdle ∨ s.on F.FWM_STAT_STANDBY_VALID = false → exec .svnCommit s = .next (s.setF F.FWM_STAT_ERR 8)) ∧
  (∀ (s : State) (h : Bool) (i : Image), s.up = true → s.on F.FWM_STAT_STANDBY_VALID = true → s.fwm.stby = some i → swf regReset s.regs = true →
    ∃ u : State, exec (.standbyTakeover h) s = .next (u.post (evTakeover (~~~ s.f F.FWM_STAT_ROLE) s.fwInProgress.length)) ∧
      u.f F.FWM_STAT_ROLE = ~~~ s.f F.FWM_STAT_ROLE ∧ u.on F.FWM_STAT_STANDBY_VALID = false ∧ u.fwm.run = some i ∧ u.fwm.lost = true ∧
      u.rd Reg.FWM_VER = i.ver ∧ u.f F.FWM_SVN_RUN = i.svn ∧ u.mems = s.mems ∧ u.out = s.out ∧ (h = false → u.clay = s.clay ∧ u.pwr = s.pwr) ∧
      (h = true → u.f F.CLY_STAT_SINGLE = 1 ∧ (s.f F.FWM_STAT_ROLE = 0 → u.pwr.pcieUp = false ∧ u.clay.bank0 = false) ∧
        (s.f F.FWM_STAT_ROLE = 1 → u.clay.bank1 = false ∧ u.pwr.pcieUp = s.pwr.pcieUp))) ∧
  (∀ s : State, s.up = true → s.on F.FWM_STAT_STANDBY_VALID = false → swf regReset s.regs = true →
    exec (.standbyTakeover false) s = .next { s with fwm := { s.fwm with dead := true } } ∧
    exec (.standbyTakeover true) s = .next { s.dieGone with fwm := { s.fwm with dead := true } })

/-- CLAY_WRITE of a word that takes it, not worn out: it is queued last, its wear counted, PENDING shown (R634, R635, R637); of a word that R633 or a lock
protects, nothing changes. CLAY_WRITE_DONE with both banks: the copies hold what was read back; where one reads back wrong the write stays for one
more try, else it is done (R634); with none pending nothing changes. What is not due, or finds no case for it, changes nothing: the model's choice
(log entry 20). -/
def Obligations.ClayCommands : Prop :=
  (∀ (s : State) (w : BitVec 10) (v : R32), s.takes = true → s.clayTakes w.toNat = true → (s.wear w.toNat).toNat < 2000000 → swf regReset s.regs = true →
    swf wearMfg s.clay.wear = true →
    Goes (.clayWrite w v) s (fun t => t.clay.pend = s.clay.pend ++ [(w, clayMask w.toNat v, false)] ∧ t.wear w.toNat = s.wear w.toNat + 1 ∧
      t.f F.CLY_STAT_PENDING = BitVec.ofNat 5 (min 16 (s.clay.pend.length + 1)) ∧ t.clay.k0 = s.clay.k0 ∧ t.clay.k1 = s.clay.k1 ∧ t.out = s.out ∧
      t.mems = s.mems)) ∧
  (∀ (s : State) (w : BitVec 10) (v : R32), s.clayTakes w.toNat = false → exec (.clayWrite w v) s = .next s) ∧
  (∀ (s : State) (w : BitVec 10) (v b0 b1 : R32) (a : Bool) (r : List (BitVec 10 × R32 × Bool)), s.up = true → s.clay.pend = (w, v, a) :: r →
    s.clay.bank0 = true → s.clay.bank1 = true → swf clayMfg s.clay.k0 = true → swf clayMfg s.clay.k1 = true → swf regReset s.regs = true →
    Goes (.clayWriteDone b0 b1) s (fun t => t.clay0 w.toNat = b0 ∧ t.clay1 w.toNat = b1 ∧ t.mems = s.mems ∧
      t.clay.pend = (if (b0 ≠ v ∨ b1 ≠ v) ∧ a = false then (w, v, true) :: r else r) ∧ (b0 = v → b1 = v → t.out = s.out) ∧
      (∀ k, k ≠ w.toNat → t.clay0 k = s.clay0 k ∧ t.clay1 k = s.clay1 k))) ∧
  (∀ (s : State) (b0 b1 : R32), s.clay.pend = [] → exec (.clayWriteDone b0 b1) s = .next s)

/-- TIMED_COMMIT_ARM: with no error the commit pends for its tick, a tick that has passed commits at once with COMMIT_LATE; a reserved group, a full
table, a group that pends already and a node not in time show ERR 1 to 4 (R640). TIMED_COMMIT_CANCEL withdraws the group's commit, or shows ERR 1 or 3
(R640). TIMED_COMMIT: a commit that is due takes effect as a direct one (R640, R641); with none due nothing changes. What is not due, or finds no case
for it, changes nothing: the model's choice (log entry 20). -/
def Obligations.TimedCommits : Prop :=
  (∀ s : State, s.takes = true → tcReserved s.tcGroup = false → s.fwm.tcs.length < 64 → s.tcPends s.tcGroup = false → s.inTime = true →
    s.now.toNat ≤ s.tcTick.toNat → swf regReset s.regs = true →
    Goes .timedCommitArm s (fun t => t.fwm = { s.fwm with tcs := s.fwm.tcs ++ [(s.tcTick, s.tcGroup)] } ∧ t.f F.FWM_TC_RES_ERR = 0 ∧ t.mems = s.mems ∧
      t.out = s.out)) ∧
  (∀ s : State, s.takes = true → tcReserved s.tcGroup = false → s.fwm.tcs.length < 64 → s.tcPends s.tcGroup = false → s.inTime = true →
    s.tcTick.toNat < s.now.toNat →
    exec .timedCommitArm s = .next (((s.setF F.FWM_TC_RES_ERR 0).commitGroup s.tcGroup.1 s.tcGroup.2 s.tcTick).post
      (evCommitLate ((s.rd Reg.FWM_TC_GROUP).setWidth 16) s.tcTick))) ∧
  (∀ s : State, s.takes = true → (tcReserved s.tcGroup = true → exec .timedCommitArm s = .next (s.setF F.FWM_TC_RES_ERR 1) ∧
      exec .timedCommitCancel s = .next (s.setF F.FWM_TC_RES_ERR 1)) ∧
    (tcReserved s.tcGroup = false → 64 ≤ s.fwm.tcs.length → exec .timedCommitArm s = .next (s.setF F.FWM_TC_RES_ERR 2)) ∧
    (tcReserved s.tcGroup = false → s.fwm.tcs.length < 64 → s.tcPends s.tcGroup = true → exec .timedCommitArm s = .next (s.setF F.FWM_TC_RES_ERR 3)) ∧
    (tcReserved s.tcGroup = false → s.fwm.tcs.length < 64 → s.tcPends s.tcGroup = false → s.inTime = false →
      exec .timedCommitArm s = .next (s.setF F.FWM_TC_RES_ERR 4)) ∧
    (tcReserved s.tcGroup = false → s.tcPends s.tcGroup = false → exec .timedCommitCancel s = .next (s.setF F.FWM_TC_RES_ERR 3))) ∧
  (∀ s : State, s.takes = true → tcReserved s.tcGroup = false → s.tcPends s.tcGroup = true → swf regReset s.regs = true →
    Goes .timedCommitCancel s (fun t => t.tcPends s.tcGroup = false ∧ t.f F.FWM_TC_RES_ERR = 0 ∧ (∀ x ∈ s.fwm.tcs, x.2 ≠ s.tcGroup → x ∈ t.fwm.tcs) ∧
      t.mems = s.mems ∧ t.out = s.out)) ∧
  (∀ (s : State) (x : R64) (g : BitVec 4 × BitVec 10), s.up = true → s.fwm.tcs = [(x, g)] → s.due x = true →
    exec .timedCommit s = .next (State.commitGroup { s with fwm := { s.fwm with tcs := [] } } g.1 g.2 x)) ∧
  (∀ s : State, (∀ x ∈ s.fwm.tcs, s.due x.1 = false) → exec .timedCommit s = .next s)

/-- VERSION and SENSORS, with a die serving and no handover switching, put their answer into the window, BUSY 0, ERR 0, with an event (R651); during
SWITCHING they wait with BUSY set (R630). POOL_TEST of a device, the home disabled with no extent, runs with BUSY set; of a device that is not there
ERR 1, with extents or the home enabled ERR 2 (R651). POOL_TEST_DONE, where firmware serves: its answer stands in the window and the device's contents
are gone (R651). While BUSY the three commands are ignored; with no die serving they leave BUSY set (R623); POOL_TEST_DONE with no test changes
nothing. What is not due, or finds no case for it, changes nothing: the model's choice (log entry 20). -/
def Obligations.MailboxCommands : Prop :=
  (∀ (s : State) (i : Image), s.takes = true → s.on F.FWM_MB_RES_BUSY = false → s.fwm.dead = false → s.hstate ≠ hSwitching → s.fwm.run = some i →
    exec .version s = .next (s.mbDone 1 0 (natLe 4 (s.rd Reg.FWM_VER).toNat ++ natLe 2 (s.f F.FWM_SVN_RUN).toNat ++ zeros 2 ++ slice i.meas 0 48))) ∧
  (∀ s : State, s.takes = true → s.on F.FWM_MB_RES_BUSY = false → s.fwm.dead = false → s.hstate ≠ hSwitching → swf regReset s.regs = true →
    ∃ u : State, exec .sensors s = .next (u.post (evMailboxDone 2 0 46)) ∧ u.f F.FWM_MB_RES_BUSY = 0 ∧ u.f F.FWM_MB_RES_ERR = 0 ∧
      u.f F.FWM_MB_RES_LEN = 46 ∧ u.out = s.out ∧ u.mems.pool = s.mems.pool ∧ (∀ a, 46 ≤ a → Mem.rd u.mems.mbwin a = Mem.rd s.mems.mbwin a)) ∧
  (∀ s : State, s.takes = true → s.on F.FWM_MB_RES_BUSY = false → s.fwm.dead = false → s.hstate = hSwitching →
    exec .version s = .next (State.setF { s with fwm := { s.fwm with mbWait := some false } } F.FWM_MB_RES_BUSY 1) ∧
    exec .sensors s = .next (State.setF { s with fwm := { s.fwm with mbWait := some true } } F.FWM_MB_RES_BUSY 1)) ∧
  (∀ (s : State) (d : BitVec 5) (c : Instr), s.takes = true → s.on F.FWM_MB_RES_BUSY = false → s.fwm.dead = true →
    c ∈ [.version, .sensors, .poolTest d] → exec c s = .next (s.setF F.FWM_MB_RES_BUSY 1)) ∧
  (∀ (s : State) (d : BitVec 5), s.on F.FWM_MB_RES_BUSY = true → exec .version s = .next s ∧ exec .sensors s = .next s ∧ exec (.poolTest d) s = .next s) ∧
  (∀ (s : State) (d : BitVec 5), s.takes = true → s.on F.FWM_MB_RES_BUSY = false → s.fwm.dead = false → d.toNat ≤ 19 → s.on F.HOM_CTL_EN = false → s.liveExts = [] →
    exec (.poolTest d) s = .next (State.setF { s with fwm := { s.fwm with poolTest := some d } } F.FWM_MB_RES_BUSY 1)) ∧
  (∀ (s : State) (d : BitVec 5), s.takes = true → s.on F.FWM_MB_RES_BUSY = false → s.fwm.dead = false → (19 < d.toNat → exec (.poolTest d) s = .next (s.mbDone 3 1 [])) ∧
    (d.toNat ≤ 19 → s.on F.HOM_CTL_EN = true ∨ s.liveExts ≠ [] → exec (.poolTest d) s = .next (s.mbDone 3 2 []))) ∧
  (∀ (s : State) (d : BitVec 5) (b : Bool) (n : R64), s.up = true → s.fwServes 4 = true → s.fwm.poolTest = some d → swf regReset s.regs = true →
    ∃ u : State, exec (.poolTestDone b n) s = .next (u.post (evMailboxDone 3 0 16)) ∧ u.fwm.poolTest = none ∧ u.f F.FWM_MB_RES_BUSY = 0 ∧
      u.f F.FWM_MB_RES_ERR = 0 ∧ u.f F.FWM_MB_RES_LEN = 16 ∧ u.out = s.out ∧
      u.mems.pool = s.mems.pool.filter (fun c => decide (poolDevice c.1 ≠ d.toNat)) ∧
      u.mems.poolKey = s.mems.poolKey.filter (fun c => decide (poolDevice (64 * c.1) ≠ d.toNat))) ∧
  (∀ (s : State) (b : Bool) (n : R64), s.fwm.poolTest = none → exec (.poolTestDone b n) s = .next s)

/-- AVS_STEP while firmware runs the loops: below its margin VDD_CORE rises by 5 mV, above it by more than 2 it falls by 5, and with EN 0 it is FIX_MV
within 650 to 800 (R642, R643); AVS_STATUS_ALERT reads the regulator's status; without the loops neither does anything (R668). THERMAL_SAMPLE shows
every reading and the highest; at the warn threshold it warns, below it by 2 degrees it arms again, at 110 degrees the node trips (R645).
THERMAL_REQUEST shows the power; with the loops running the request rises by 2 to 32 at most at the dilation threshold and falls by 1 to 16 at least 3
degrees below it (R646). What is not due, or finds no case for it, changes nothing: the model's choice (log entry 20). -/
def Obligations.VoltageAndTemperature : Prop :=
  (∀ (s : State) (m : BitVec 8) (a : BitVec 16), s.up = true → s.fwLoops = true → s.on F.PWR_AVS_EN = true → swf regReset s.regs = true →
    m.toInt < ((s.f F.PWR_AVS_MARGIN).toNat : Int) → (s.f F.PWR_VCORE_MV).toNat < 796 →
    Goes (.avsStep m a) s (fun t => (t.f F.PWR_VCORE_MV).toNat = (s.f F.PWR_VCORE_MV).toNat + 5 ∧ t.f F.PWR_VCORE_AMPS = a ∧
      t.out = s.out ++ [.avs (s.f F.PWR_VCORE_MV + 5)] ∧ t.mems = s.mems)) ∧
  (∀ (s : State) (m : BitVec 8) (a : BitVec 16), s.up = true → s.fwLoops = true → s.on F.PWR_AVS_EN = true → swf regReset s.regs = true →
    ((s.f F.PWR_AVS_MARGIN).toNat : Int) + 2 < m.toInt → 655 ≤ (s.f F.PWR_VCORE_MV).toNat →
    Goes (.avsStep m a) s (fun t => (t.f F.PWR_VCORE_MV).toNat = (s.f F.PWR_VCORE_MV).toNat - 5 ∧ t.f F.PWR_VCORE_AMPS = a ∧
      t.out = s.out ++ [.avs (s.f F.PWR_VCORE_MV - 5)] ∧ t.mems = s.mems)) ∧
  (∀ (s : State) (m : BitVec 8) (a : BitVec 16), s.up = true → s.fwLoops = true → s.on F.PWR_AVS_EN = false → swf regReset s.regs = true →
    Goes (.avsStep m a) s (fun t => (t.f F.PWR_VCORE_MV).toNat = max 650 (min 800 (s.f F.PWR_AVS_FIX_MV).toNat) ∧ t.f F.PWR_VCORE_AMPS = a ∧
      t.mems = s.mems)) ∧
  (∀ (s : State) (m : BitVec 8) (a : BitVec 16), s.fwLoops = false → exec (.avsStep m a) s = .next s ∧ exec .avsStatusAlert s = .next s) ∧
  (∀ s : State, s.up = true → s.fwLoops = true → exec .avsStatusAlert s = .next { s with out := s.out ++ [.avsStatus] }) ∧
  (∀ (s : State) (l : List Reading), s.up = true → l.length = 20 → (∀ x ∈ l, x.toInt < 1760) → (hottest 0 l).2.toInt < ((s.warnC : Int) - 2) * 16 →
    swf regReset s.regs = true →
    Goes (.thermalSample l) s (fun t => (∀ d ∈ List.range 20, t.f (F.PWR_TDIE_TEMP d) = l.getD d 0) ∧ t.f F.PWR_TMAX_TMAX = (hottest 0 l).2 ∧
      (t.f F.PWR_TMAX_DIE).toNat = (hottest 0 l).1 ∧ (∀ x ∈ l, x.toInt ≤ (t.f F.PWR_TMAX_TMAX).toInt) ∧ t.fwm.warnArmed = true ∧ t.pwr = s.pwr ∧
      t.out = s.out ∧ t.mems = s.mems)) ∧
  (∀ (s : State) (l : List Reading) (d : Nat), s.up = true → l.length ≤ 20 → d < l.length → 1760 ≤ (l.getD d 0).toInt →
    Goes (.thermalSample l) s (fun t => t.pwr.thermtripN = false ∧ t.pwr.hold = .thermal ∧ t.pwr.driven = false ∧ t.up = false)) ∧
  (∀ (s : State) (l : List Reading), s.up = true → l.length ≤ 20 → (s.warnC : Int) * 16 ≤ (hottest 0 l).2.toInt → (hottest 0 l).2.toInt < 1760 →
    s.fwm.warnArmed = true → s.on F.PWR_STAT_WARN = false →
    ∃ u : State, exec (.thermalSample l) s = .next (((u.smbAlert).setF F.PWR_STAT_WARN 1).post (evThermWarn (BitVec.ofNat 5 (hottest 0 l).1) (hottest 0 l).2)) ∧
      u.fwm = { s.fwm with warnArmed := false } ∧ u.out = s.out ∧ u.mems = s.mems) ∧
  (∀ (s : State) (w : BitVec 16), s.up = true → s.fwLoops = false → exec (.thermalRequest w) s = .next (s.setF F.PWR_POWER_WATTS w)) ∧
  (∀ (s : State) (w : BitVec 16), s.up = true → s.fwLoops = true → (s.dilC : Int) * 16 ≤ (s.f F.PWR_TMAX_TMAX).toInt → swf regReset s.regs = true →
    (s.f F.PWR_KREQ_K).toNat ≤ 32 →
    ∃ u : State, exec (.thermalRequest w) s = .next u.thermal ∧ u.f F.PWR_POWER_WATTS = w ∧
      (u.f F.PWR_KREQ_K).toNat = min 32 ((s.f F.PWR_KREQ_K).toNat + 2) ∧ u.dtt.thermReq = u.f F.PWR_KREQ_K ∧ u.mems = s.mems ∧ u.out = s.out) ∧
  (∀ (s : State) (w : BitVec 16), s.up = true → s.fwLoops = true → (s.f F.PWR_TMAX_TMAX).toInt < ((s.dilC : Int) - 3) * 16 → swf regReset s.regs = true →
    ∃ u : State, exec (.thermalRequest w) s = .next u.thermal ∧ u.f F.PWR_POWER_WATTS = w ∧
      (u.f F.PWR_KREQ_K).toNat = max 16 ((s.f F.PWR_KREQ_K).toNat - 1) ∧ u.dtt.thermReq = u.f F.PWR_KREQ_K ∧ u.mems = s.mems ∧ u.out = s.out)

/-- SNOOP_DELIVERY for an agent of this node: while its link is down the snoop is held (R257); else it goes out on the agent's attach port as an HDM
address (R254), or, for a line that no context of the agent maps and that another node homes, the end point answers it with RSP_ACK (R258). A message
for another node, or that is no snoop, changes nothing. What is not due, or finds no case for it, changes nothing: the model's choice (log entry 20). -/
def Obligations.SnoopDeliveries : Prop :=
  (∀ (s : State) (p : Snp), s.up = true → agentNode p.agent = s.node → (agentLocal p.agent).toNat < 8 → p.isSnoop = true →
    s.trained (6 + (agentLocal p.agent).toNat) = false → s.pState (6 + (agentLocal p.agent).toNat) ≠ pQuiet →
    exec (.snoopDelivery p) s = .next { s with ep := { s.ep with snoopHeld := s.ep.snoopHeld ++ [p] } }) ∧
  (∀ (s : State) (p : Snp) (h va : Nat), s.up = true → agentNode p.agent = s.node → (agentLocal p.agent).toNat < 8 → p.isSnoop = true →
    s.trained (6 + (agentLocal p.agent).toNat) = true → s.mapSnoop (agentLocal p.agent).toNat p.dpa = some (h, va) →
    exec (.snoopDelivery p) s = .next (State.tx { s with ep := { s.ep with snoopOut := s.ep.snoopOut ++ [p] } } (6 + (agentLocal p.agent).toNat)
      (.att 2 (BitVec.ofNat 64 (putAt 58 p.opc + h * 2 ^ 52 + putAt 36 p.sid)) (BitVec.ofNat 64 va) []))) ∧
  (∀ (s : State) (p : Snp), s.up = true → agentNode p.agent = s.node → (agentLocal p.agent).toNat < 8 → p.isSnoop = true →
    s.trained (6 + (agentLocal p.agent).toNat) = true → s.mapSnoop (agentLocal p.agent).toNat p.dpa = none → p.home ≠ s.node →
    exec (.snoopDelivery p) s = .next (s.snoopReply p 0x28 [])) ∧
  (∀ (s : State) (p : Snp), agentNode p.agent ≠ s.node ∨ 8 ≤ (agentLocal p.agent).toNat ∨ p.isSnoop = false → exec (.snoopDelivery p) s = .next s)

/-- The model's own step (log entry 1): a step runs the command at the front of the queue on the state whose queue is the rest. -/
def Obligations.StepRunsTheFront : Prop :=
  ∀ (c : Instr) (s : State), step { s with pending := c :: s.pending } = exec c s

/-- The model's own choice (log entry 16): with no command waiting, a block that is down idles; one that is up lets a tick of domain time pass, with no
change to its pins, its clay or its queue. -/
def Obligations.IdleStep : Prop :=
  (∀ s : State, s.pending = [] → s.up = false → step s = .next s) ∧
  (∀ s : State, s.pending = [] → s.up = true → ∃ t, step s = .next t ∧ t.clk.now = s.clk.now + 1 ∧ t.pwr = s.pwr ∧ t.clay = s.clay ∧ t.pending = [])

/-- Every command on every state answers a next state with the same queue: the block never stops a run (00_scope.md). The queue is the model's own (log
entry 1). -/
def Obligations.CommandsGoThrough : Prop :=
  ∀ (c : Instr) (s : State), Goes c s (fun t => t.pending = s.pending)

/-- A node that is down takes nothing (the model's choice, log entry 11): only RST_N, the supplies, PCIE_REFCLK and JTAG act on it. In a hold-up no write
of software or of a host has an effect (R649). -/
def Obligations.DownAndHoldUp : Prop :=
  (∀ (c : Instr) (s : State), c.outside = false → s.up = false → exec c s = .next s) ∧
  (∀ (c : Instr) (s : State), c.isWrite = true → s.pwr.holdUp = true → exec c s = .next s)

/-- A hold-up ends only by a reset at RST_N or by the loss of the supply: no other command clears it (R649). -/
def Obligations.HoldUpStays : Prop :=
  ∀ (c : Instr) (s t : State), (∀ st, c ≠ .resetDeassert st) → c ≠ .supplyRemoved → s.pwr.holdUp = true → exec c s = .next t → t.pwr.holdUp = true

/-- Of the commands, six move the node's clock, slot and phase, and forty-four may change the clay bank; every other leaves the clock, or clay, as it was. -/
def Obligations.ClockAndClayFrames : Prop :=
  (∀ (c : Instr) (s t : State), c.movesClock = false → exec c s = .next t → t.clk = s.clk) ∧
  (∀ (c : Instr) (s t : State), c.writesClay = false → exec c s = .next t → t.clay = s.clay)

/-- In every step: outputs are driven only by a node that is up (R654), and a stage of a hold-up has fallen due only in a hold-up (R649). -/
def Obligations.PinsStaySound : Prop :=
  ∀ s t : State, s.pinsOk → step s = .next t → t.pinsOk

/-- In every step every addressed memory of the block keeps its canonical form: equal memories are equal data. The form is the model's own (log entry 7). -/
def Obligations.MemoriesStayCanonical : Prop :=
  ∀ s t : State, s.mems.wf = true → step s = .next t → t.mems.wf = true

/-- Reset: the reset values that the register tables give for fifteen registers, the node up with BOOT in ROM, no handover, no PLL lock and no trip
(R657), every MSI-X vector masked, empty tables, and the model's own empty queue, canonical memories and sound pins. Empty stores where the spec names
no contents are the model's choice (log entries 2, 7, 19). -/
def Obligations.ResetValues : Prop :=
  State.reset.pending = [] ∧ State.reset.up = true ∧ State.reset.pinsOk ∧ State.reset.mems.wf = true ∧ State.reset.out = [] ∧
  State.reset.f F.SEC_ALARM_STAT_TRIPPED = 0 ∧ State.reset.boot = bRom ∧ State.reset.hstate = hIdle ∧ State.reset.f F.PWR_STAT_PLL_LOCK = 0 ∧
  State.reset.home.txns = [] ∧ State.reset.ep.ents = [] ∧ State.reset.swc.hold = [] ∧ State.reset.sec.keys = [] ∧ State.reset.sec.seeds = [] ∧
  State.reset.mems.sram = [] ∧ State.reset.mems.ext = [] ∧ (∀ r ∈ List.range 16, bitAt (Mem.rd State.reset.mems.msix (16 * r + 12)).toNat 0 = true) ∧
  (∀ x ∈ [(Reg.PWR_AVS, 0x80040320), (Reg.PWR_VCORE, 0x320), (Reg.PWR_THERM, 0x6e645f), (Reg.PWR_KREQ, 0x10), (Reg.XLT_CTL, 2),
    (Reg.HOM_LEASE, 0x2710), (Reg.HOM_SCRUB, 0x18), (Reg.DTT_SYNC_STAT, 0x1f800000), (Reg.DTT_DIL, 0x101010), (Reg.GRP_CTL, 0x4000000),
    (Reg.SWC_CTL, 1), (Reg.SWC_ARB, 0x422), (Reg.ETH_UDP, 0xc5a0), (Reg.ETH_RTO, 0xc000040), (Reg.FLT_CTL, 8)], State.reset.rd x.1 = x.2)

/-- XLT_RTWIN, DTT_TTWIN, GRP_EHDR and GRP_EWIN writes to a table in use. R98, R321, R446: the write is discarded and LIVE_WR is set. -/
def Obligations.LiveTableWrites : Prop :=
  (∀ (s : State) (off : BitVec 18) (w : Bool) (v : R64) (n : Nat), s.takes = true → swf regReset s.regs = true → n ∈ s.residentSlots →
    tblFirst (s.ctxId n) (s.ctxTbl n) ≤ s.rtAddr off.toNat / 32 →
    s.rtAddr off.toNat / 32 < tblFirst (s.ctxId n) (s.ctxTbl n) + tblCount (s.ctxTbl n) →
    Goes (.rtwinWrite off w v) s (fun t => t.f F.XLT_STAT_LIVE_WR = 1 ∧ t.mems = s.mems ∧ t.out = s.out ∧ ∀ r, r ≠ Reg.XLT_STAT → t.rd r = s.rd r)) ∧
  (∀ (s : State) (off : BitVec 17) (w : Bool) (v x y : R64), s.takes = true → swf regReset s.regs = true →
    s.activeSet = some (s.f F.DTT_TTWIN_PAGE_SET).toNat ∨ s.dtt.armed = some ((s.f F.DTT_TTWIN_PAGE_SET).toNat, x, y) →
    Goes (.ttwinWrite off w v) s (fun t => t.f F.DTT_STAT_LIVE_WR = 1 ∧ t.mems = s.mems ∧ t.out = s.out ∧ ∀ r, r ≠ Reg.DTT_STAT → t.rd r = s.rd r)) ∧
  (∀ (s : State) (off : BitVec 17) (w : Bool) (v : R64), s.takes = true → swf regReset s.regs = true → s.emLive (off.toNat % 32768 / 32) = true →
    Goes (.emapWinWrite true off w v) s (fun t => t.f F.GRP_EMAP_STAT_LIVE_WR = 1 ∧ t.mems = s.mems ∧ t.out = s.out ∧
      ∀ r, r ≠ Reg.GRP_EMAP_STAT → t.rd r = s.rd r)) ∧
  (∀ (s : State) (off : BitVec 17) (w : Bool) (v : R64) (m : Nat), s.takes = true → swf regReset s.regs = true → m ∈ s.liveMaps →
    s.emBase m ≤ ((s.f F.GRP_EWIN_PAGE_PAGE).toNat * 131072 + off.toNat) / 16 →
    ((s.f F.GRP_EWIN_PAGE_PAGE).toNat * 131072 + off.toNat) / 16 < s.emBase m + s.emCount m →
    Goes (.emapWinWrite false off w v) s (fun t => t.f F.GRP_EMAP_STAT_LIVE_WR = 1 ∧ t.mems = s.mems ∧ t.out = s.out ∧
      ∀ r, r ≠ Reg.GRP_EMAP_STAT → t.rd r = s.rd r))

/-- LOAD. R592: a LOAD of a memory key whose two halves are equal is refused with ERR 0x7; no key and no session changes. Free values and opaque standards
(log entries 3, 8) take any value. -/
def Obligations.EqualKeyHalves : Prop :=
  ∀ (s : State) (i : BitVec 4) (w c : Nat), s.takes = true → s.on F.SEC_RES_BUSY = false → (s.sess i.toNat).st = .opened →
    leNat ((Mem.rdN s.mems.cmdwin 0 16).take 8) = w → leNat ((Mem.rdN s.mems.cmdwin 0 16).drop 8) = c → bitsAt w 60 4 = 1 → bitsAt w 0 45 = 0 →
    (s.sess i.toNat).counter.all (fun n => decide (n.toNat < c)) = true → s.genInUse (fieldAt 10 w 50) (bitAt w 49) = false → swf regReset s.regs = true →
    Goes (.secLoad i) s (fun t => ∀ k, Config.gcmOpen (s.sess i.toNat).sk (zeros 3 ++ [BitVec.ofNat 8 i.toNat] ++ natBe 8 c)
        (Mem.rdN s.mems.cmdwin 0 16) (Mem.rdN s.mems.cmdwin 16 64) (Mem.rdN s.mems.cmdwin 80 16) = some k →
      (slice k 0 64).take 32 = ((slice k 0 64).drop 32).take 32 →
      t.sec.cmd = some ⟨4, 7, .none⟩ ∧ t.f F.SEC_RES_BUSY = 1 ∧ t.sec.keys = s.sec.keys ∧ t.sec.sess = s.sec.sess ∧
      t.mems = s.mems ∧
      (t.fwServes 0 = true → Goes .secCmdDone t (fun u => u.f F.SEC_RES_BUSY = 0 ∧ u.f F.SEC_RES_ERR = 7 ∧ u.sec.keys = s.sec.keys)))

/-- A partial block of 32 lanes, each of 96 bits, whose EB and COUNT fit their fields: the receiver restores from its packed form the block itself, and
the packed form takes 8 bytes and 32 lanes of the least width that holds every shifted lane (R360, R363). -/
def Obligations.PackedBlocks : Prop :=
  ∀ (c : Nat) (p : PBlock), p.lanes.length = 32 → (∀ x ∈ p.lanes, fitsS 96 x = true) → p.count ≤ 8191 → -128 ≤ p.eb → p.eb < 128 →
    unpackBlock 32 (packBlock c p) = p ∧
    (packBlock c p).length = 8 + 32 * packCode (p.lanes.map (· / 2 ^ packShift p.lanes))
end

