-- ==== Sys2Proof/Laws/Store.lean ====
section
/-!
SUPPORT. The laws of the sparse stores: a read after a write, and that every write keeps the canonical form.
-/

namespace Sys2Proof.Machine

/-- A read of the key just written gives the value written, whatever the store. -/
theorem sget_sset_same {α : Type} [DecidableEq α] (d : Nat → α) (m : SMap α) (k : Nat) (v : α) (h : swf d m = true) :
    sget d (sset d m k v) k = v := by
  suffices ∀ (m : SMap α) (lo : Nat), swfFrom d lo m = true → sget d (sset d m k v) k = v from this m 0 h
  intro m
  induction m with
  | nil => intro lo _; by_cases hv : v = d k <;> simp [sset, sget, hv]
  | cons e m ih =>
    obtain ⟨j, w⟩ := e
    intro lo h
    simp only [swfFrom, Bool.and_eq_true, decide_eq_true_eq] at h
    have tail : ∀ (m : SMap α) (lo : Nat), k < lo → swfFrom d lo m = true → sget d m k = d k := by
      intro m
      induction m with
      | nil => intros; rfl
      | cons e m ih =>
        intro lo hl h
        simp only [swfFrom, Bool.and_eq_true, decide_eq_true_eq] at h
        have : e.1 ≠ k := by omega
        simp only [sget, this, if_false]
        exact ih (e.1 + 1) (by omega) h.2
    simp only [sset]
    split
    · rename_i hk
      split
      · rename_i hv
        have : j ≠ k := by omega
        simp only [sget, this, if_false]
        rw [tail m (j + 1) (by omega) h.2, hv]
      · simp [sget]
    · split
      · rename_i hk
        subst hk
        split
        · rename_i hv; rw [tail m _ (by omega) h.2, hv]
        · simp [sget]
      · rename_i h1 h2
        have : j ≠ k := fun h => h2 h.symm
        simp only [sget, this, if_false]
        exact ih (j + 1) h.2

/-- A write leaves every other key as it was. -/
theorem sget_sset_other {α : Type} [DecidableEq α] (d : Nat → α) (m : SMap α) (k j : Nat) (v : α) (hk : j ≠ k) :
    sget d (sset d m k v) j = sget d m j := by
  induction m with
  | nil => by_cases hv : v = d k <;> simp [sset, sget, hv, hk.symm]
  | cons e m ih =>
    obtain ⟨i, w⟩ := e
    simp only [sset]
    split
    · split <;> simp [sget, hk.symm]
    · split
      · rename_i hi
        have : i ≠ j := fun h => hk (h.symm.trans hi.symm)
        split <;> simp [sget, hk.symm, this]
      · simp only [sget, ih]

/-- Every write keeps the canonical form. -/
theorem swf_sset {α : Type} [DecidableEq α] (d : Nat → α) (m : SMap α) (k : Nat) (v : α) (h : swf d m = true) :
    swf d (sset d m k v) = true := by
  suffices ∀ (m : SMap α) (lo : Nat), lo ≤ k → swfFrom d lo m = true → swfFrom d lo (sset d m k v) = true from this m 0 (by omega) h
  have low : ∀ (m : SMap α) (a b : Nat), a ≤ b → swfFrom d b m = true → swfFrom d a m = true := by
    intro m a b hab h
    cases m with
    | nil => rfl
    | cons e m =>
      simp only [swfFrom, Bool.and_eq_true, decide_eq_true_eq] at h ⊢
      exact ⟨⟨by omega, h.1.2⟩, h.2⟩
  intro m
  induction m with
  | nil => intro lo hl _; by_cases hv : v = d k <;> simp [sset, swfFrom, hv, hl]
  | cons e m ih =>
    obtain ⟨j, w⟩ := e
    intro lo hl h
    simp only [swfFrom, Bool.and_eq_true, decide_eq_true_eq] at h
    simp only [sset]
    split
    · split
      · simp [swfFrom, h]
      · rename_i hk hv
        simp only [swfFrom, Bool.and_eq_true, decide_eq_true_eq]
        exact ⟨⟨hl, hv⟩, ⟨⟨by omega, h.1.2⟩, h.2⟩⟩
    · split
      · rename_i hk
        subst hk
        split
        · exact low m lo _ (by omega) h.2
        · rename_i hv
          simp only [swfFrom, Bool.and_eq_true, decide_eq_true_eq]
          exact ⟨⟨hl, hv⟩, h.2⟩
      · simp only [swfFrom, Bool.and_eq_true, decide_eq_true_eq]
        exact ⟨h.1, ih (j + 1) (by omega) h.2⟩

/-- Leaving entries out keeps the canonical form. -/
theorem swf_filter {α : Type} [DecidableEq α] (d : Nat → α) (m : SMap α) (p : Nat × α → Bool) (h : swf d m = true) :
    swf d (m.filter p) = true := by
  suffices ∀ (m : SMap α) (lo : Nat), swfFrom d lo m = true → swfFrom d lo (m.filter p) = true from this m 0 h
  have low : ∀ (m : SMap α) (a b : Nat), a ≤ b → swfFrom d b m = true → swfFrom d a m = true := by
    intro m a b hab h
    cases m with
    | nil => rfl
    | cons e m =>
      simp only [swfFrom, Bool.and_eq_true, decide_eq_true_eq] at h ⊢
      exact ⟨⟨by omega, h.1.2⟩, h.2⟩
  intro m
  induction m with
  | nil => intros; rfl
  | cons e m ih =>
    intro lo h
    simp only [swfFrom, Bool.and_eq_true, decide_eq_true_eq] at h
    simp only [List.filter]
    split
    · simp only [swfFrom, Bool.and_eq_true, decide_eq_true_eq]
      exact ⟨h.1, ih _ h.2⟩
    · exact low _ _ _ (by omega) (ih _ h.2)

/-- One byte of a memory after a write of one byte. -/
theorem Mem.rd_wr (m : Mem) (a b : Nat) (v : Byte) (h : Mem.wf m = true) :
    Mem.rd (Mem.wr m a v) b = if b = a then v else Mem.rd m b := by
  split
  · rename_i hb; subst hb; exact sget_sset_same _ _ _ _ h
  · rename_i hb; exact sget_sset_other _ _ _ _ _ hb

/-- Writing a byte keeps the canonical form. -/
theorem Mem.wf_wr (m : Mem) (a : Nat) (v : Byte) (h : Mem.wf m = true) : Mem.wf (Mem.wr m a v) = true := swf_sset _ _ _ _ h

/-- Writing a run of bytes keeps the canonical form. -/
theorem Mem.wf_wrN (m : Mem) (a : Nat) (bs : Bytes) (h : Mem.wf m = true) : Mem.wf (Mem.wrN m a bs) = true := by
  induction bs generalizing m a with
  | nil => exact h
  | cons b bs ih => exact ih _ _ (Mem.wf_wr m a b h)

/-- A write through a window keeps the canonical form. -/
theorem wf_winWrite (m : Mem) (a : Nat) (wide : Bool) (v : R64) (h : Mem.wf m = true) : Mem.wf (winWrite m a wide v) = true :=
  Mem.wf_wrN _ _ _ h

/-- A run of bytes leaves every address outside it as it was. -/
theorem Mem.rd_wrN_other (m : Mem) (a b : Nat) (bs : Bytes) (h : b < a ∨ a + bs.length ≤ b) :
    Mem.rd (Mem.wrN m a bs) b = Mem.rd m b := by
  induction bs generalizing m a with
  | nil => rfl
  | cons v bs ih =>
    simp only [List.length_cons] at h
    have h1 : Mem.rd (Mem.wrN (Mem.wr m a v) (a + 1) bs) b = Mem.rd (Mem.wr m a v) b := ih _ _ (by omega)
    exact h1.trans (sget_sset_other _ _ _ _ _ (by omega))

end Sys2Proof.Machine
end

