-- ==== Sys2Proof/Laws/State.lean ====
section
/-!
SUPPORT. The laws of registers and their fields: what a read gives after a write.
-/

namespace Sys2Proof.Machine

/-! ### Fields of a word -/

/-- A field just set reads what was set. -/
theorem fget_fput_same {w : Nat} (f : Fld w) (x : R32) (v : BitVec w) (h : f.lo + w ≤ 32) : fget f (fput f x v) = v := by
  apply BitVec.eq_of_getLsbD_eq
  intro i hi
  have h1 : f.lo + i < 32 := by omega
  have h2 : ¬ f.lo + i < f.lo := by omega
  have h3 : f.lo + i - f.lo = i := by omega
  simp [fget, fput, hi, h1, h2, h3]

/-- A field of other bits of the word is as it was. -/
theorem fget_fput_other {w u : Nat} (f : Fld w) (g : Fld u) (x : R32) (v : BitVec w) (h : g.lo + u ≤ f.lo ∨ f.lo + w ≤ g.lo) :
    fget g (fput f x v) = fget g x := by
  apply BitVec.eq_of_getLsbD_eq
  intro i hi
  simp [fget, fput, hi]
  rcases h with h | h
  · have : g.lo + i < f.lo := by omega
    simp [this]
    exact fun h => BitVec.lt_of_getLsbD h
  · by_cases h1 : g.lo + i < f.lo
    · omega
    · have h2 : ¬ g.lo + i - f.lo < w := by omega
      simp [h1, h2]
      have : v.getLsbD (g.lo + i - f.lo) = false := by
        apply BitVec.getLsbD_of_ge; omega
      simp [this]
      exact fun h => BitVec.lt_of_getLsbD h

/-! ### Registers -/

/-- A register just written reads what was written. -/
theorem State.rd_wr_same (s : State) (off : Nat) (v : R32) (h : swf regReset s.regs = true) : (s.wr off v).rd off = v :=
  sget_sset_same _ _ _ _ h

/-- A write leaves the other registers as they were. -/
theorem State.rd_wr_other (s : State) (off o : Nat) (v : R32) (h : o ≠ off) : (s.wr off v).rd o = s.rd o :=
  sget_sset_other _ _ _ _ _ h

/-- A field just set reads what was set. -/
theorem State.f_setF_same {w : Nat} (s : State) (f : Fld w) (v : BitVec w) (hl : f.lo + w ≤ 32) (h : swf regReset s.regs = true) :
    (s.setF f v).f f = v := by
  unfold State.f State.setF
  rw [State.rd_wr_same s _ _ h, fget_fput_same f _ v hl]

/-- A field of another register, or of other bits of the same, is as it was. -/
theorem State.f_setF_other {w u : Nat} (s : State) (f : Fld w) (g : Fld u) (v : BitVec w) (h : swf regReset s.regs = true)
    (hd : g.off ≠ f.off ∨ g.lo + u ≤ f.lo ∨ f.lo + w ≤ g.lo) : (s.setF f v).f g = s.f g := by
  unfold State.f State.setF
  by_cases ho : g.off = f.off
  · rw [ho, State.rd_wr_same s _ _ h]
    exact fget_fput_other f g _ v (hd.resolve_left (fun h => h ho))
  · rw [State.rd_wr_other s _ _ _ ho]

/-- Writing a register keeps the registers in canonical form. -/
theorem State.regs_wr (s : State) (off : Nat) (v : R32) (h : swf regReset s.regs = true) : swf regReset (s.wr off v).regs = true :=
  swf_sset _ _ _ _ h

/-- Setting a field keeps the registers in canonical form. -/
theorem State.regs_setF {w : Nat} (s : State) (f : Fld w) (v : BitVec w) (h : swf regReset s.regs = true) :
    swf regReset (s.setF f v).regs = true := s.regs_wr _ _ h

end Sys2Proof.Machine
end

