-- ==== Sys2Proof/Laws/Exec.lean ====
section
/-!
SUPPORT. How a command goes through: on a node that is up, or that takes host writes, its effect is the next state.
-/

namespace Sys2Proof.Machine

/-- A command on a node that is up answers its effect. -/
theorem goes_up {c : Instr} {s : State} {f : State → State} {P : State → Prop} (hc : exec c s = whenUp s f) (h : s.up = true)
    (hp : P (f s)) : Goes c s P := ⟨f s, by simp [hc, whenUp, h], hp⟩

/-- A host write on a node that takes host writes answers its effect. -/
theorem goes_wr {c : Instr} {s : State} {f : State → State} {P : State → Prop} (hc : exec c s = whenWr s f) (h : s.takes = true)
    (hp : P (f s)) : Goes c s P := by
  refine ⟨f s, ?_, hp⟩
  simp only [State.takes] at h
  simp [hc, whenWr, h]

/-- The same, where the statement gives the next state itself. -/
theorem exec_up {c : Instr} {s t : State} {f : State → State} (hc : exec c s = whenUp s f) (h : s.up = true) (ht : f s = t) :
    exec c s = .next t := by simp [hc, whenUp, h, ht]

theorem exec_wr {c : Instr} {s t : State} {f : State → State} (hc : exec c s = whenWr s f) (h : s.takes = true) (ht : f s = t) :
    exec c s = .next t := by
  simp only [State.takes] at h
  simp [hc, whenWr, h, ht]

end Sys2Proof.Machine
end

