-- ==== Sys2Proof/Laws/FrameCore.lean ====
section
/-!
SUPPORT. Frames of registers, events, translation, links, queues, the switch: which of the pins, the clock, clay, the memories and the queue each function leaves as they were.
A lemma `f_frame` names those that `f` never changes; a component that it does not name may change.
-/

set_option linter.all false

namespace Sys2Proof.Machine

@[simp] theorem upto_powered (f : Nat → State → State) (n : Nat) (s : State) (h : ∀ i s, (f i s).pwr.powered = s.pwr.powered) : (upto f n s).pwr.powered = s.pwr.powered := by
  induction n with
  | zero => rfl
  | succ n ih => simp only [upto, h, ih]
@[simp] theorem foldl_powered {α : Type} (f : State → α → State) (l : List α) (s : State) (h : ∀ s a, (f s a).pwr.powered = s.pwr.powered) : (l.foldl f s).pwr.powered = s.pwr.powered := by
  induction l generalizing s with
  | nil => rfl
  | cons a l ih => simp only [List.foldl_cons, ih, h]
@[simp] theorem upto_rstN (f : Nat → State → State) (n : Nat) (s : State) (h : ∀ i s, (f i s).pwr.rstN = s.pwr.rstN) : (upto f n s).pwr.rstN = s.pwr.rstN := by
  induction n with
  | zero => rfl
  | succ n ih => simp only [upto, h, ih]
@[simp] theorem foldl_rstN {α : Type} (f : State → α → State) (l : List α) (s : State) (h : ∀ s a, (f s a).pwr.rstN = s.pwr.rstN) : (l.foldl f s).pwr.rstN = s.pwr.rstN := by
  induction l generalizing s with
  | nil => rfl
  | cons a l ih => simp only [List.foldl_cons, ih, h]
@[simp] theorem upto_hold (f : Nat → State → State) (n : Nat) (s : State) (h : ∀ i s, (f i s).pwr.hold = s.pwr.hold) : (upto f n s).pwr.hold = s.pwr.hold := by
  induction n with
  | zero => rfl
  | succ n ih => simp only [upto, h, ih]
@[simp] theorem foldl_hold {α : Type} (f : State → α → State) (l : List α) (s : State) (h : ∀ s a, (f s a).pwr.hold = s.pwr.hold) : (l.foldl f s).pwr.hold = s.pwr.hold := by
  induction l generalizing s with
  | nil => rfl
  | cons a l ih => simp only [List.foldl_cons, ih, h]
@[simp] theorem upto_holdUp (f : Nat → State → State) (n : Nat) (s : State) (h : ∀ i s, (f i s).pwr.holdUp = s.pwr.holdUp) : (upto f n s).pwr.holdUp = s.pwr.holdUp := by
  induction n with
  | zero => rfl
  | succ n ih => simp only [upto, h, ih]
@[simp] theorem foldl_holdUp {α : Type} (f : State → α → State) (l : List α) (s : State) (h : ∀ s a, (f s a).pwr.holdUp = s.pwr.holdUp) : (l.foldl f s).pwr.holdUp = s.pwr.holdUp := by
  induction l generalizing s with
  | nil => rfl
  | cons a l ih => simp only [List.foldl_cons, ih, h]
@[simp] theorem upto_stage (f : Nat → State → State) (n : Nat) (s : State) (h : ∀ i s, (f i s).pwr.stage = s.pwr.stage) : (upto f n s).pwr.stage = s.pwr.stage := by
  induction n with
  | zero => rfl
  | succ n ih => simp only [upto, h, ih]
@[simp] theorem foldl_stage {α : Type} (f : State → α → State) (l : List α) (s : State) (h : ∀ s a, (f s a).pwr.stage = s.pwr.stage) : (l.foldl f s).pwr.stage = s.pwr.stage := by
  induction l generalizing s with
  | nil => rfl
  | cons a l ih => simp only [List.foldl_cons, ih, h]
@[simp] theorem upto_driven (f : Nat → State → State) (n : Nat) (s : State) (h : ∀ i s, (f i s).pwr.driven = s.pwr.driven) : (upto f n s).pwr.driven = s.pwr.driven := by
  induction n with
  | zero => rfl
  | succ n ih => simp only [upto, h, ih]
@[simp] theorem foldl_driven {α : Type} (f : State → α → State) (l : List α) (s : State) (h : ∀ s a, (f s a).pwr.driven = s.pwr.driven) : (l.foldl f s).pwr.driven = s.pwr.driven := by
  induction l generalizing s with
  | nil => rfl
  | cons a l ih => simp only [List.foldl_cons, ih, h]
@[simp] theorem upto_pwr (f : Nat → State → State) (n : Nat) (s : State) (h : ∀ i s, (f i s).pwr = s.pwr) : (upto f n s).pwr = s.pwr := by
  induction n with
  | zero => rfl
  | succ n ih => simp only [upto, h, ih]
@[simp] theorem foldl_pwr {α : Type} (f : State → α → State) (l : List α) (s : State) (h : ∀ s a, (f s a).pwr = s.pwr) : (l.foldl f s).pwr = s.pwr := by
  induction l generalizing s with
  | nil => rfl
  | cons a l ih => simp only [List.foldl_cons, ih, h]
@[simp] theorem foldl_io_pwr {α : Type} (f : Io → α → Io) (l : List α) (s : Io) (h : ∀ s a, (f s a).s.pwr = s.s.pwr) : (l.foldl f s).s.pwr = s.s.pwr := by
  induction l generalizing s with
  | nil => rfl
  | cons a l ih => simp only [List.foldl_cons, ih, h]
@[simp] theorem upto_clk (f : Nat → State → State) (n : Nat) (s : State) (h : ∀ i s, (f i s).clk = s.clk) : (upto f n s).clk = s.clk := by
  induction n with
  | zero => rfl
  | succ n ih => simp only [upto, h, ih]
@[simp] theorem foldl_clk {α : Type} (f : State → α → State) (l : List α) (s : State) (h : ∀ s a, (f s a).clk = s.clk) : (l.foldl f s).clk = s.clk := by
  induction l generalizing s with
  | nil => rfl
  | cons a l ih => simp only [List.foldl_cons, ih, h]
@[simp] theorem foldl_io_clk {α : Type} (f : Io → α → Io) (l : List α) (s : Io) (h : ∀ s a, (f s a).s.clk = s.s.clk) : (l.foldl f s).s.clk = s.s.clk := by
  induction l generalizing s with
  | nil => rfl
  | cons a l ih => simp only [List.foldl_cons, ih, h]
@[simp] theorem upto_clay (f : Nat → State → State) (n : Nat) (s : State) (h : ∀ i s, (f i s).clay = s.clay) : (upto f n s).clay = s.clay := by
  induction n with
  | zero => rfl
  | succ n ih => simp only [upto, h, ih]
@[simp] theorem foldl_clay {α : Type} (f : State → α → State) (l : List α) (s : State) (h : ∀ s a, (f s a).clay = s.clay) : (l.foldl f s).clay = s.clay := by
  induction l generalizing s with
  | nil => rfl
  | cons a l ih => simp only [List.foldl_cons, ih, h]
@[simp] theorem foldl_io_clay {α : Type} (f : Io → α → Io) (l : List α) (s : Io) (h : ∀ s a, (f s a).s.clay = s.s.clay) : (l.foldl f s).s.clay = s.s.clay := by
  induction l generalizing s with
  | nil => rfl
  | cons a l ih => simp only [List.foldl_cons, ih, h]
@[simp] theorem upto_mems (f : Nat → State → State) (n : Nat) (s : State) (h : ∀ i s, (f i s).mems = s.mems) : (upto f n s).mems = s.mems := by
  induction n with
  | zero => rfl
  | succ n ih => simp only [upto, h, ih]
@[simp] theorem foldl_mems {α : Type} (f : State → α → State) (l : List α) (s : State) (h : ∀ s a, (f s a).mems = s.mems) : (l.foldl f s).mems = s.mems := by
  induction l generalizing s with
  | nil => rfl
  | cons a l ih => simp only [List.foldl_cons, ih, h]
@[simp] theorem foldl_io_mems {α : Type} (f : Io → α → Io) (l : List α) (s : Io) (h : ∀ s a, (f s a).s.mems = s.s.mems) : (l.foldl f s).s.mems = s.s.mems := by
  induction l generalizing s with
  | nil => rfl
  | cons a l ih => simp only [List.foldl_cons, ih, h]
@[simp] theorem upto_pending (f : Nat → State → State) (n : Nat) (s : State) (h : ∀ i s, (f i s).pending = s.pending) : (upto f n s).pending = s.pending := by
  induction n with
  | zero => rfl
  | succ n ih => simp only [upto, h, ih]
@[simp] theorem foldl_pending {α : Type} (f : State → α → State) (l : List α) (s : State) (h : ∀ s a, (f s a).pending = s.pending) : (l.foldl f s).pending = s.pending := by
  induction l generalizing s with
  | nil => rfl
  | cons a l ih => simp only [List.foldl_cons, ih, h]
@[simp] theorem foldl_io_pending {α : Type} (f : Io → α → Io) (l : List α) (s : Io) (h : ∀ s a, (f s a).s.pending = s.s.pending) : (l.foldl f s).s.pending = s.s.pending := by
  induction l generalizing s with
  | nil => rfl
  | cons a l ih => simp only [List.foldl_cons, ih, h]

@[simp] theorem State.wr_frame (x0 x1 x2) : (State.wr x0 x1 x2).pwr = x0.pwr ∧ (State.wr x0 x1 x2).clk = x0.clk ∧ (State.wr x0 x1 x2).clay = x0.clay ∧ (State.wr x0 x1 x2).mems = x0.mems ∧ (State.wr x0 x1 x2).pending = x0.pending := by
  unfold State.wr; (try dsimp only); (repeat' split) <;> simp only [foldl_pwr, foldl_clk, foldl_clay, foldl_mems, foldl_pending, and_self]

@[simp] theorem State.setF_frame (x0 x1 x2 x3) : (@State.setF x0 x1 x2 x3).pwr = x1.pwr ∧ (@State.setF x0 x1 x2 x3).clk = x1.clk ∧ (@State.setF x0 x1 x2 x3).clay = x1.clay ∧ (@State.setF x0 x1 x2 x3).mems = x1.mems ∧ (@State.setF x0 x1 x2 x3).pending = x1.pending := by
  unfold State.setF; (try dsimp only); (repeat' split) <;> simp only [State.wr_frame, foldl_pwr, foldl_clk, foldl_clay, foldl_mems, foldl_pending, and_self]

@[simp] theorem State.incF_frame (x0 x1 x2 x3) : (@State.incF x0 x1 x2 x3).pwr = x1.pwr ∧ (@State.incF x0 x1 x2 x3).clk = x1.clk ∧ (@State.incF x0 x1 x2 x3).clay = x1.clay ∧ (@State.incF x0 x1 x2 x3).mems = x1.mems ∧ (@State.incF x0 x1 x2 x3).pending = x1.pending := by
  unfold State.incF; (try dsimp only); (repeat' split) <;> simp only [State.setF_frame, foldl_pwr, foldl_clk, foldl_clay, foldl_mems, foldl_pending, and_self]

@[simp] theorem State.satF_frame (x0 x1 x2 x3) : (@State.satF x0 x1 x2 x3).pwr = x1.pwr ∧ (@State.satF x0 x1 x2 x3).clk = x1.clk ∧ (@State.satF x0 x1 x2 x3).clay = x1.clay ∧ (@State.satF x0 x1 x2 x3).mems = x1.mems ∧ (@State.satF x0 x1 x2 x3).pending = x1.pending := by
  unfold State.satF; (try dsimp only); (repeat' split) <;> simp only [State.setF_frame, foldl_pwr, foldl_clk, foldl_clay, foldl_mems, foldl_pending, and_self]

@[simp] theorem State.effWr_frame (x0 x1 x2) : (State.effWr x0 x1 x2).pwr = x0.pwr ∧ (State.effWr x0 x1 x2).clk = x0.clk ∧ (State.effWr x0 x1 x2).clay = x0.clay ∧ (State.effWr x0 x1 x2).mems = x0.mems ∧ (State.effWr x0 x1 x2).pending = x0.pending := by
  unfold State.effWr; (try dsimp only); (repeat' split) <;> simp only [foldl_pwr, foldl_clk, foldl_clay, foldl_mems, foldl_pending, and_self]

@[simp] theorem State.keepWr_frame (x0 x1 x2) : (State.keepWr x0 x1 x2).pwr = x0.pwr ∧ (State.keepWr x0 x1 x2).clk = x0.clk ∧ (State.keepWr x0 x1 x2).clay = x0.clay ∧ (State.keepWr x0 x1 x2).mems = x0.mems ∧ (State.keepWr x0 x1 x2).pending = x0.pending := by
  unfold State.keepWr; (try dsimp only); (repeat' split) <;> simp only [foldl_pwr, foldl_clk, foldl_clay, foldl_mems, foldl_pending, and_self]

@[simp] theorem State.takeWr_frame (x0 x1) : (State.takeWr x0 x1).pwr = x0.pwr ∧ (State.takeWr x0 x1).clk = x0.clk ∧ (State.takeWr x0 x1).clay = x0.clay ∧ (State.takeWr x0 x1).mems = x0.mems ∧ (State.takeWr x0 x1).pending = x0.pending := by
  unfold State.takeWr; (try dsimp only); (repeat' split) <;> simp only [State.wr_frame, foldl_pwr, foldl_clk, foldl_clay, foldl_mems, foldl_pending, and_self]

@[simp] theorem State.takeWrs_frame (x0 x1) : (State.takeWrs x0 x1).pwr = x0.pwr ∧ (State.takeWrs x0 x1).clk = x0.clk ∧ (State.takeWrs x0 x1).clay = x0.clay ∧ (State.takeWrs x0 x1).mems = x0.mems ∧ (State.takeWrs x0 x1).pending = x0.pending := by
  induction x1 generalizing x0 <;> simp only [State.takeWrs, *, and_self, apply_ite State.pwr, apply_ite State.clk, apply_ite State.clay, apply_ite State.mems, apply_ite State.pending] <;> (repeat' split) <;> simp [*, apply_ite State.pwr, apply_ite State.clk, apply_ite State.clay, apply_ite State.mems, apply_ite State.pending]

@[simp] theorem State.partWr_frame (x0 x1 x2 x3 x4) : (State.partWr x0 x1 x2 x3 x4).pwr = x0.pwr ∧ (State.partWr x0 x1 x2 x3 x4).clk = x0.clk ∧ (State.partWr x0 x1 x2 x3 x4).clay = x0.clay ∧ (State.partWr x0 x1 x2 x3 x4).mems = x0.mems ∧ (State.partWr x0 x1 x2 x3 x4).pending = x0.pending := by
  unfold State.partWr; (try dsimp only); (repeat' split) <;> simp only [State.keepWr_frame, State.wr_frame, foldl_pwr, foldl_clk, foldl_clay, foldl_mems, foldl_pending, and_self]

@[simp] theorem State.takePart_frame (x0 x1 x2) : (State.takePart x0 x1 x2).pwr = x0.pwr ∧ (State.takePart x0 x1 x2).clk = x0.clk ∧ (State.takePart x0 x1 x2).clay = x0.clay ∧ (State.takePart x0 x1 x2).mems = x0.mems ∧ (State.takePart x0 x1 x2).pending = x0.pending := by
  unfold State.takePart; (try dsimp only); (repeat' split) <;> simp only [State.wr_frame, foldl_pwr, foldl_clk, foldl_clay, foldl_mems, foldl_pending, and_self]

@[simp] theorem State.when_pwr (x0 x1 x2) (h2 : ∀ y0, (x2 y0).pwr = y0.pwr) : (State.when x0 x1 x2).pwr = x0.pwr := by
  unfold State.when; (try dsimp only); (repeat' split) <;> simp [*]

@[simp] theorem State.when_clk (x0 x1 x2) (h2 : ∀ y0, (x2 y0).clk = y0.clk) : (State.when x0 x1 x2).clk = x0.clk := by
  unfold State.when; (try dsimp only); (repeat' split) <;> simp [*]

@[simp] theorem State.when_clay (x0 x1 x2) (h2 : ∀ y0, (x2 y0).clay = y0.clay) : (State.when x0 x1 x2).clay = x0.clay := by
  unfold State.when; (try dsimp only); (repeat' split) <;> simp [*]

@[simp] theorem State.when_mems (x0 x1 x2) (h2 : ∀ y0, (x2 y0).mems = y0.mems) : (State.when x0 x1 x2).mems = x0.mems := by
  unfold State.when; (try dsimp only); (repeat' split) <;> simp [*]

@[simp] theorem State.when_pending (x0 x1 x2) (h2 : ∀ y0, (x2 y0).pending = y0.pending) : (State.when x0 x1 x2).pending = x0.pending := by
  unfold State.when; (try dsimp only); (repeat' split) <;> simp [*]

@[simp] theorem State.emit_frame (x0 x1) : (State.emit x0 x1).pwr = x0.pwr ∧ (State.emit x0 x1).clk = x0.clk ∧ (State.emit x0 x1).clay = x0.clay ∧ (State.emit x0 x1).mems = x0.mems ∧ (State.emit x0 x1).pending = x0.pending := by
  unfold State.emit; (try dsimp only); (repeat' split) <;> simp only [foldl_pwr, foldl_clk, foldl_clay, foldl_mems, foldl_pending, and_self]

@[simp] theorem State.drawBytes_frame (x0 x1) : (State.drawBytes x0 x1).2.pwr = x0.pwr ∧ (State.drawBytes x0 x1).2.clk = x0.clk ∧ (State.drawBytes x0 x1).2.clay = x0.clay ∧ (State.drawBytes x0 x1).2.mems = x0.mems ∧ (State.drawBytes x0 x1).2.pending = x0.pending := by
  unfold State.drawBytes; (try dsimp only); (repeat' split) <;> simp only [foldl_pwr, foldl_clk, foldl_clay, foldl_mems, foldl_pending, and_self]

@[simp] theorem State.drawWord_frame (x0) : (State.drawWord x0).2.pwr = x0.pwr ∧ (State.drawWord x0).2.clk = x0.clk ∧ (State.drawWord x0).2.clay = x0.clay ∧ (State.drawWord x0).2.mems = x0.mems ∧ (State.drawWord x0).2.pending = x0.pending := by
  unfold State.drawWord; (try dsimp only); (repeat' split) <;> simp only [foldl_pwr, foldl_clk, foldl_clay, foldl_mems, foldl_pending, and_self]

@[simp] theorem State.fwDone_frame (x0 x1) : (State.fwDone x0 x1).pwr = x0.pwr ∧ (State.fwDone x0 x1).clk = x0.clk ∧ (State.fwDone x0 x1).clay = x0.clay ∧ (State.fwDone x0 x1).mems = x0.mems ∧ (State.fwDone x0 x1).pending = x0.pending := by
  unfold State.fwDone; (try dsimp only); (repeat' split) <;> simp only [foldl_pwr, foldl_clk, foldl_clay, foldl_mems, foldl_pending, and_self]

@[simp] theorem State.setRing_frame (x0 x1 x2) : (State.setRing x0 x1 x2).pwr = x0.pwr ∧ (State.setRing x0 x1 x2).clk = x0.clk ∧ (State.setRing x0 x1 x2).clay = x0.clay ∧ (State.setRing x0 x1 x2).mems = x0.mems ∧ (State.setRing x0 x1 x2).pending = x0.pending := by
  unfold State.setRing; (try dsimp only); (repeat' split) <;> simp only [foldl_pwr, foldl_clk, foldl_clay, foldl_mems, foldl_pending, and_self]

@[simp] theorem State.vector_frame (x0 x1) : (State.vector x0 x1).pwr = x0.pwr ∧ (State.vector x0 x1).clk = x0.clk ∧ (State.vector x0 x1).clay = x0.clay ∧ (State.vector x0 x1).pending = x0.pending := by
  unfold State.vector; (try dsimp only); (repeat' split) <;> simp only [State.emit_frame, foldl_pwr, foldl_clk, foldl_clay, foldl_pending, and_self]

@[simp] theorem State.vectorDue_frame (x0 x1) : (State.vectorDue x0 x1).pwr = x0.pwr ∧ (State.vectorDue x0 x1).clk = x0.clk ∧ (State.vectorDue x0 x1).clay = x0.clay ∧ (State.vectorDue x0 x1).pending = x0.pending := by
  unfold State.vectorDue; (try dsimp only); (repeat' split) <;> simp only [State.setRing_frame, State.vector_frame, foldl_pwr, foldl_clk, foldl_clay, foldl_pending, and_self]

@[simp] theorem State.raise_frame (x0 x1) : (State.raise x0 x1).pwr = x0.pwr ∧ (State.raise x0 x1).clk = x0.clk ∧ (State.raise x0 x1).clay = x0.clay ∧ (State.raise x0 x1).pending = x0.pending := by
  unfold State.raise; (try dsimp only); (repeat' split) <;> simp [*]

@[simp] theorem State.putRecord_frame (x0 x1 x2 x3 x4) : (State.putRecord x0 x1 x2 x3 x4).pwr = x0.pwr ∧ (State.putRecord x0 x1 x2 x3 x4).clk = x0.clk ∧ (State.putRecord x0 x1 x2 x3 x4).clay = x0.clay ∧ (State.putRecord x0 x1 x2 x3 x4).pending = x0.pending := by
  unfold State.putRecord; (try dsimp only); (repeat' split) <;> simp only [State.emit_frame, State.setF_frame, State.raise_frame, foldl_pwr, foldl_clk, foldl_clay, foldl_pending, and_self]

@[simp] theorem State.noteLost_frame (x0 x1) : (State.noteLost x0 x1).pwr = x0.pwr ∧ (State.noteLost x0 x1).clk = x0.clk ∧ (State.noteLost x0 x1).clay = x0.clay ∧ (State.noteLost x0 x1).pending = x0.pending := by
  unfold State.noteLost; (try dsimp only); (repeat' split) <;> simp only [State.setRing_frame, State.putRecord_frame, foldl_pwr, foldl_clk, foldl_clay, foldl_pending, and_self]

@[simp] theorem State.dropEvent_frame (x0 x1) : (State.dropEvent x0 x1).pwr = x0.pwr ∧ (State.dropEvent x0 x1).clk = x0.clk ∧ (State.dropEvent x0 x1).clay = x0.clay ∧ (State.dropEvent x0 x1).mems = x0.mems ∧ (State.dropEvent x0 x1).pending = x0.pending := by
  unfold State.dropEvent; (try dsimp only); (repeat' split) <;> simp only [State.setRing_frame, State.incF_frame, foldl_pwr, foldl_clk, foldl_clay, foldl_mems, foldl_pending, and_self]

@[simp] theorem State.postTo_frame (x0 x1 x2 x3) : (State.postTo x0 x1 x2 x3).pwr = x0.pwr ∧ (State.postTo x0 x1 x2 x3).clk = x0.clk ∧ (State.postTo x0 x1 x2 x3).clay = x0.clay ∧ (State.postTo x0 x1 x2 x3).pending = x0.pending := by
  unfold State.postTo; (try dsimp only); (repeat' split) <;> simp only [State.dropEvent_frame, State.noteLost_frame, State.putRecord_frame, State.setRing_frame, foldl_pwr, foldl_clk, foldl_clay, foldl_pending, and_self]

@[simp] theorem State.post_frame (x0 x1) : (State.post x0 x1).pwr = x0.pwr ∧ (State.post x0 x1).clk = x0.clk ∧ (State.post x0 x1).clay = x0.clay ∧ (State.post x0 x1).pending = x0.pending := by
  unfold State.post; (try dsimp only); (repeat' split) <;> simp only [State.postTo_frame, foldl_pwr, foldl_clk, foldl_clay, foldl_pending, and_self]

@[simp] theorem State.flushHeld_frame (x0 x1 x2) : (State.flushHeld x0 x1 x2).pwr = x0.pwr ∧ (State.flushHeld x0 x1 x2).clk = x0.clk ∧ (State.flushHeld x0 x1 x2).clay = x0.clay ∧ (State.flushHeld x0 x1 x2).pending = x0.pending := by
  induction x2 generalizing x0 x1 <;> simp only [State.flushHeld, *, and_self, apply_ite State.pwr, apply_ite State.clk, apply_ite State.clay, apply_ite State.pending] <;> (repeat' split) <;> simp [*, apply_ite State.pwr, apply_ite State.clk, apply_ite State.clay, apply_ite State.pending]

@[simp] theorem State.flushRing_frame (x0 x1) : (State.flushRing x0 x1).pwr = x0.pwr ∧ (State.flushRing x0 x1).clk = x0.clk ∧ (State.flushRing x0 x1).clay = x0.clay ∧ (State.flushRing x0 x1).pending = x0.pending := by
  unfold State.flushRing; (try dsimp only); (repeat' split) <;> simp only [State.noteLost_frame, State.flushHeld_frame, foldl_pwr, foldl_clk, foldl_clay, foldl_pending, and_self]

@[simp] theorem State.ringOff_frame (x0 x1) : (State.ringOff x0 x1).pwr = x0.pwr ∧ (State.ringOff x0 x1).clk = x0.clk ∧ (State.ringOff x0 x1).clay = x0.clay ∧ (State.ringOff x0 x1).mems = x0.mems ∧ (State.ringOff x0 x1).pending = x0.pending := by
  unfold State.ringOff; (try dsimp only); (repeat' split) <;> simp only [State.setRing_frame, State.incF_frame, State.takePart_frame, State.takeWrs_frame, foldl_pwr, foldl_clk, foldl_clay, foldl_mems, foldl_pending, and_self]

@[simp] theorem State.evtCfgWrite_frame (x0 x1 x2) : (State.evtCfgWrite x0 x1 x2).pwr = x0.pwr ∧ (State.evtCfgWrite x0 x1 x2).clk = x0.clk ∧ (State.evtCfgWrite x0 x1 x2).clay = x0.clay ∧ (State.evtCfgWrite x0 x1 x2).pending = x0.pending := by
  unfold State.evtCfgWrite; (try dsimp only); (repeat' split) <;> simp only [State.partWr_frame, State.ringOff_frame, State.flushRing_frame, State.setF_frame, foldl_pwr, foldl_clk, foldl_clay, foldl_pending, and_self]

@[simp] theorem State.evtHeadWrite_frame (x0 x1 x2) : (State.evtHeadWrite x0 x1 x2).pwr = x0.pwr ∧ (State.evtHeadWrite x0 x1 x2).clk = x0.clk ∧ (State.evtHeadWrite x0 x1 x2).clay = x0.clay ∧ (State.evtHeadWrite x0 x1 x2).pending = x0.pending := by
  unfold State.evtHeadWrite; (try dsimp only); (repeat' split) <;> simp only [State.setF_frame, State.flushRing_frame, foldl_pwr, foldl_clk, foldl_clay, foldl_pending, and_self]

@[simp] theorem State.evtBaseWrite_frame (x0 x1 x2 x3) : (State.evtBaseWrite x0 x1 x2 x3).pwr = x0.pwr ∧ (State.evtBaseWrite x0 x1 x2 x3).clk = x0.clk ∧ (State.evtBaseWrite x0 x1 x2 x3).clay = x0.clay ∧ (State.evtBaseWrite x0 x1 x2 x3).mems = x0.mems ∧ (State.evtBaseWrite x0 x1 x2 x3).pending = x0.pending := by
  unfold State.evtBaseWrite; (try dsimp only); (repeat' split) <;> simp only [State.keepWr_frame, State.wr_frame, foldl_pwr, foldl_clk, foldl_clay, foldl_mems, foldl_pending, and_self]

@[simp] theorem State.holdoffEnd_frame (x0 x1) : (State.holdoffEnd x0 x1).pwr = x0.pwr ∧ (State.holdoffEnd x0 x1).clk = x0.clk ∧ (State.holdoffEnd x0 x1).clay = x0.clay ∧ (State.holdoffEnd x0 x1).pending = x0.pending := by
  unfold State.holdoffEnd; (try dsimp only); (repeat' split) <;> simp only [State.setRing_frame, State.raise_frame, foldl_pwr, foldl_clk, foldl_clay, foldl_pending, and_self]

@[simp] theorem State.countXlate_frame (x0 x1) : (State.countXlate x0 x1).pwr = x0.pwr ∧ (State.countXlate x0 x1).clk = x0.clk ∧ (State.countXlate x0 x1).clay = x0.clay ∧ (State.countXlate x0 x1).mems = x0.mems ∧ (State.countXlate x0 x1).pending = x0.pending := by
  unfold State.countXlate; (try dsimp only); (repeat' split) <;> simp only [State.incF_frame, foldl_pwr, foldl_clk, foldl_clay, foldl_mems, foldl_pending, and_self]

@[simp] theorem State.faultAttach_frame (x0 x1 x2 x3 x4) : (State.faultAttach x0 x1 x2 x3 x4).pwr = x0.pwr ∧ (State.faultAttach x0 x1 x2 x3 x4).clk = x0.clk ∧ (State.faultAttach x0 x1 x2 x3 x4).clay = x0.clay ∧ (State.faultAttach x0 x1 x2 x3 x4).pending = x0.pending := by
  unfold State.faultAttach; (try dsimp only); (repeat' split) <;> simp only [State.post_frame, State.setF_frame, foldl_pwr, foldl_clk, foldl_clay, foldl_pending, and_self]

@[simp] theorem State.faultAbsent_frame (x0 x1 x2 x3) : (State.faultAbsent x0 x1 x2 x3).pwr = x0.pwr ∧ (State.faultAbsent x0 x1 x2 x3).clk = x0.clk ∧ (State.faultAbsent x0 x1 x2 x3).clay = x0.clay ∧ (State.faultAbsent x0 x1 x2 x3).pending = x0.pending := by
  unfold State.faultAbsent; (try dsimp only); (repeat' split) <;> simp only [State.post_frame, foldl_pwr, foldl_clk, foldl_clay, foldl_pending, and_self]

@[simp] theorem State.setPres_frame (x0 x1 x2 x3) : (State.setPres x0 x1 x2 x3).pwr = x0.pwr ∧ (State.setPres x0 x1 x2 x3).clk = x0.clk ∧ (State.setPres x0 x1 x2 x3).clay = x0.clay ∧ (State.setPres x0 x1 x2 x3).pending = x0.pending := by
  unfold State.setPres; (try dsimp only); (repeat' split) <;> simp only [foldl_pwr, foldl_clk, foldl_clay, foldl_pending, and_self]

@[simp] theorem State.presCmd_pwr (x0 x1 x2 x3) (h3 : ∀ y0 y1, (x3 y0 y1).pwr = y1.pwr) : (State.presCmd x0 x1 x2 x3).pwr = x0.pwr := by
  unfold State.presCmd; (try dsimp only); (repeat' split) <;> simp [*]

@[simp] theorem State.presCmd_clk (x0 x1 x2 x3) (h3 : ∀ y0 y1, (x3 y0 y1).clk = y1.clk) : (State.presCmd x0 x1 x2 x3).clk = x0.clk := by
  unfold State.presCmd; (try dsimp only); (repeat' split) <;> simp [*]

@[simp] theorem State.presCmd_clay (x0 x1 x2 x3) (h3 : ∀ y0 y1, (x3 y0 y1).clay = y1.clay) : (State.presCmd x0 x1 x2 x3).clay = x0.clay := by
  unfold State.presCmd; (try dsimp only); (repeat' split) <;> simp [*]

@[simp] theorem State.presCmd_mems (x0 x1 x2 x3) (h3 : ∀ y0 y1, (x3 y0 y1).mems = y1.mems) : (State.presCmd x0 x1 x2 x3).mems = x0.mems := by
  unfold State.presCmd; (try dsimp only); (repeat' split) <;> simp [*]

@[simp] theorem State.presCmd_pending (x0 x1 x2 x3) (h3 : ∀ y0 y1, (x3 y0 y1).pending = y1.pending) : (State.presCmd x0 x1 x2 x3).pending = x0.pending := by
  unfold State.presCmd; (try dsimp only); (repeat' split) <;> simp [*]

@[simp] theorem State.presQuery_frame (x0 x1) : (State.presQuery x0 x1).pwr = x0.pwr ∧ (State.presQuery x0 x1).clk = x0.clk ∧ (State.presQuery x0 x1).clay = x0.clay ∧ (State.presQuery x0 x1).mems = x0.mems ∧ (State.presQuery x0 x1).pending = x0.pending := by
  unfold State.presQuery
  exact ⟨State.presCmd_pwr _ _ _ _ (by intros; split <;> simp), State.presCmd_clk _ _ _ _ (by intros; split <;> simp), State.presCmd_clay _ _ _ _ (by intros; split <;> simp), State.presCmd_mems _ _ _ _ (by intros; split <;> simp), State.presCmd_pending _ _ _ _ (by intros; split <;> simp)⟩

@[simp] theorem State.presAll_frame (x0 x1 x2 x3) : (State.presAll x0 x1 x2 x3).pwr = x0.pwr ∧ (State.presAll x0 x1 x2 x3).clk = x0.clk ∧ (State.presAll x0 x1 x2 x3).clay = x0.clay ∧ (State.presAll x0 x1 x2 x3).pending = x0.pending := by
  induction x3 generalizing x0 <;> simp only [State.presAll, *, and_self, apply_ite State.pwr, apply_ite State.clk, apply_ite State.clay, apply_ite State.pending] <;> (repeat' split) <;> simp [*, apply_ite State.pwr, apply_ite State.clk, apply_ite State.clay, apply_ite State.pending]

@[simp] theorem State.setQ_frame (x0 x1 x2) : (State.setQ x0 x1 x2).pwr = x0.pwr ∧ (State.setQ x0 x1 x2).clk = x0.clk ∧ (State.setQ x0 x1 x2).clay = x0.clay ∧ (State.setQ x0 x1 x2).mems = x0.mems ∧ (State.setQ x0 x1 x2).pending = x0.pending := by
  unfold State.setQ; (try dsimp only); (repeat' split) <;> simp only [foldl_pwr, foldl_clk, foldl_clay, foldl_mems, foldl_pending, and_self]

@[simp] theorem State.startValid_frame (x0 x1) : (State.startValid x0 x1).pwr = x0.pwr ∧ (State.startValid x0 x1).clk = x0.clk ∧ (State.startValid x0 x1).clay = x0.clay ∧ (State.startValid x0 x1).mems = x0.mems ∧ (State.startValid x0 x1).pending = x0.pending := by
  unfold State.startValid; (try dsimp only); (repeat' split) <;> simp only [State.setF_frame, foldl_pwr, foldl_clk, foldl_clay, foldl_mems, foldl_pending, and_self]

@[simp] theorem State.xltCommit_frame (x0 x1) : (State.xltCommit x0 x1).pwr = x0.pwr ∧ (State.xltCommit x0 x1).clk = x0.clk ∧ (State.xltCommit x0 x1).clay = x0.clay ∧ (State.xltCommit x0 x1).mems = x0.mems ∧ (State.xltCommit x0 x1).pending = x0.pending := by
  unfold State.xltCommit; (try dsimp only); (repeat' split) <;> simp only [State.startValid_frame, foldl_pwr, foldl_clk, foldl_clay, foldl_mems, foldl_pending, and_self]

@[simp] theorem State.commitResult_frame (x0 x1) : (State.commitResult x0 x1).pwr = x0.pwr ∧ (State.commitResult x0 x1).clk = x0.clk ∧ (State.commitResult x0 x1).clay = x0.clay ∧ (State.commitResult x0 x1).pending = x0.pending := by
  unfold State.commitResult; (try dsimp only); (repeat' split) <;> simp only [State.incF_frame, State.effWr_frame, State.post_frame, State.setF_frame, foldl_pwr, foldl_clk, foldl_clay, foldl_pending, and_self]

@[simp] theorem State.validEnd_frame (x0 x1) : (State.validEnd x0 x1).pwr = x0.pwr ∧ (State.validEnd x0 x1).clk = x0.clk ∧ (State.validEnd x0 x1).clay = x0.clay ∧ (State.validEnd x0 x1).pending = x0.pending := by
  unfold State.validEnd; (try dsimp only); (repeat' split) <;> simp only [State.commitResult_frame, State.setF_frame, State.startValid_frame, foldl_pwr, foldl_clk, foldl_clay, foldl_pending, and_self]

@[simp] theorem State.drainReq_frame (x0 x1) : (State.drainReq x0 x1).pwr = x0.pwr ∧ (State.drainReq x0 x1).clk = x0.clk ∧ (State.drainReq x0 x1).clay = x0.clay ∧ (State.drainReq x0 x1).mems = x0.mems ∧ (State.drainReq x0 x1).pending = x0.pending := by
  unfold State.drainReq; (try dsimp only); (repeat' split) <;> simp only [State.setF_frame, foldl_pwr, foldl_clk, foldl_clay, foldl_mems, foldl_pending, and_self]

@[simp] theorem State.drainDone_frame (x0 x1) : (State.drainDone x0 x1).pwr = x0.pwr ∧ (State.drainDone x0 x1).clk = x0.clk ∧ (State.drainDone x0 x1).clay = x0.clay ∧ (State.drainDone x0 x1).mems = x0.mems ∧ (State.drainDone x0 x1).pending = x0.pending := by
  unfold State.drainDone; (try dsimp only); (repeat' split) <;> simp only [State.setF_frame, foldl_pwr, foldl_clk, foldl_clay, foldl_mems, foldl_pending, and_self]

@[simp] theorem State.rtWrite_frame (x0 x1 x2 x3) : (State.rtWrite x0 x1 x2 x3).pwr = x0.pwr ∧ (State.rtWrite x0 x1 x2 x3).clk = x0.clk ∧ (State.rtWrite x0 x1 x2 x3).clay = x0.clay ∧ (State.rtWrite x0 x1 x2 x3).pending = x0.pending := by
  unfold State.rtWrite; (try dsimp only); (repeat' split) <;> simp only [State.setF_frame, foldl_pwr, foldl_clk, foldl_clay, foldl_pending, and_self]

@[simp] theorem State.setStaged_frame (x0 x1 x2) : (State.setStaged x0 x1 x2).pwr = x0.pwr ∧ (State.setStaged x0 x1 x2).clk = x0.clk ∧ (State.setStaged x0 x1 x2).clay = x0.clay ∧ (State.setStaged x0 x1 x2).mems = x0.mems ∧ (State.setStaged x0 x1 x2).pending = x0.pending := by
  unfold State.setStaged; (try dsimp only); (repeat' split) <;> simp only [foldl_pwr, foldl_clk, foldl_clay, foldl_mems, foldl_pending, and_self]

@[simp] theorem State.setLp_frame (x0 x1 x2) : (State.setLp x0 x1 x2).pwr = x0.pwr ∧ (State.setLp x0 x1 x2).clk = x0.clk ∧ (State.setLp x0 x1 x2).clay = x0.clay ∧ (State.setLp x0 x1 x2).mems = x0.mems ∧ (State.setLp x0 x1 x2).pending = x0.pending := by
  unfold State.setLp; (try dsimp only); (repeat' split) <;> simp only [foldl_pwr, foldl_clk, foldl_clay, foldl_mems, foldl_pending, and_self]

@[simp] theorem State.lanes_frame (x0 x1 x2) : (State.lanes x0 x1 x2).pwr = x0.pwr ∧ (State.lanes x0 x1 x2).clk = x0.clk ∧ (State.lanes x0 x1 x2).clay = x0.clay ∧ (State.lanes x0 x1 x2).mems = x0.mems ∧ (State.lanes x0 x1 x2).pending = x0.pending := by
  unfold State.lanes; (try dsimp only); (repeat' split) <;> simp [*]

@[simp] theorem State.toState_frame (x0 x1 x2 x3) : (State.toState x0 x1 x2 x3).pwr = x0.pwr ∧ (State.toState x0 x1 x2 x3).clk = x0.clk ∧ (State.toState x0 x1 x2 x3).clay = x0.clay ∧ (State.toState x0 x1 x2 x3).mems = x0.mems ∧ (State.toState x0 x1 x2 x3).pending = x0.pending := by
  unfold State.toState; (try dsimp only); (repeat' split) <;> simp only [State.lanes_frame, State.setF_frame, foldl_pwr, foldl_clk, foldl_clay, foldl_mems, foldl_pending, and_self]

@[simp] theorem State.setEnt_frame (x0 x1 x2) : (State.setEnt x0 x1 x2).pwr = x0.pwr ∧ (State.setEnt x0 x1 x2).clk = x0.clk ∧ (State.setEnt x0 x1 x2).clay = x0.clay ∧ (State.setEnt x0 x1 x2).mems = x0.mems ∧ (State.setEnt x0 x1 x2).pending = x0.pending := by
  unfold State.setEnt; (try dsimp only); (repeat' split) <;> simp only [foldl_pwr, foldl_clk, foldl_clay, foldl_mems, foldl_pending, and_self]

@[simp] theorem State.freeEnt_frame (x0 x1) : (State.freeEnt x0 x1).pwr = x0.pwr ∧ (State.freeEnt x0 x1).clk = x0.clk ∧ (State.freeEnt x0 x1).clay = x0.clay ∧ (State.freeEnt x0 x1).mems = x0.mems ∧ (State.freeEnt x0 x1).pending = x0.pending := by
  unfold State.freeEnt; (try dsimp only); (repeat' split) <;> simp only [foldl_pwr, foldl_clk, foldl_clay, foldl_mems, foldl_pending, and_self]

@[simp] theorem State.leftPort_frame (x0 x1 x2) : (State.leftPort x0 x1 x2).pwr = x0.pwr ∧ (State.leftPort x0 x1 x2).clk = x0.clk ∧ (State.leftPort x0 x1 x2).clay = x0.clay ∧ (State.leftPort x0 x1 x2).mems = x0.mems ∧ (State.leftPort x0 x1 x2).pending = x0.pending := by
  unfold State.leftPort; (try dsimp only); (repeat' split) <;> simp only [State.freeEnt_frame, foldl_pwr, foldl_clk, foldl_clay, foldl_mems, foldl_pending, and_self]

@[simp] theorem State.showSeed_frame (x0 x1) : (State.showSeed x0 x1).pwr = x0.pwr ∧ (State.showSeed x0 x1).clk = x0.clk ∧ (State.showSeed x0 x1).clay = x0.clay ∧ (State.showSeed x0 x1).mems = x0.mems ∧ (State.showSeed x0 x1).pending = x0.pending := by
  unfold State.showSeed; (try dsimp only); (repeat' split) <;> simp only [State.setF_frame, foldl_pwr, foldl_clk, foldl_clay, foldl_mems, foldl_pending, and_self]

@[simp] theorem State.loseSeed_frame (x0 x1 x2 x3) : (State.loseSeed x0 x1 x2 x3).pwr = x0.pwr ∧ (State.loseSeed x0 x1 x2 x3).clk = x0.clk ∧ (State.loseSeed x0 x1 x2 x3).clay = x0.clay ∧ (State.loseSeed x0 x1 x2 x3).pending = x0.pending := by
  unfold State.loseSeed; (try dsimp only); (repeat' split) <;> simp only [State.showSeed_frame, State.post_frame, State.setF_frame, foldl_pwr, foldl_clk, foldl_clay, foldl_pending, and_self]

@[simp] theorem State.newIndices_frame (x0 x1) : (State.newIndices x0 x1).pwr = x0.pwr ∧ (State.newIndices x0 x1).clk = x0.clk ∧ (State.newIndices x0 x1).clay = x0.clay ∧ (State.newIndices x0 x1).mems = x0.mems ∧ (State.newIndices x0 x1).pending = x0.pending := by
  unfold State.newIndices; (try dsimp only); (repeat' split) <;> simp only [State.setLp_frame, State.setF_frame, foldl_pwr, foldl_clk, foldl_clay, foldl_mems, foldl_pending, and_self]

@[simp] theorem State.takeSeed_frame (x0 x1) : (State.takeSeed x0 x1).pwr = x0.pwr ∧ (State.takeSeed x0 x1).clk = x0.clk ∧ (State.takeSeed x0 x1).clay = x0.clay ∧ (State.takeSeed x0 x1).mems = x0.mems ∧ (State.takeSeed x0 x1).pending = x0.pending := by
  unfold State.takeSeed; (try dsimp only); (repeat' split) <;> simp only [State.newIndices_frame, foldl_pwr, foldl_clk, foldl_clay, foldl_mems, foldl_pending, and_self]

@[simp] theorem State.advTx_frame (x0 x1) : (State.advTx x0 x1).pwr = x0.pwr ∧ (State.advTx x0 x1).clk = x0.clk ∧ (State.advTx x0 x1).clay = x0.clay ∧ (State.advTx x0 x1).pending = x0.pending := by
  unfold State.advTx; (try dsimp only); (repeat' split) <;> simp only [State.setLp_frame, State.incF_frame, State.loseSeed_frame, foldl_pwr, foldl_clk, foldl_clay, foldl_pending, and_self]

@[simp] theorem State.advRx_frame (x0 x1) : (State.advRx x0 x1).pwr = x0.pwr ∧ (State.advRx x0 x1).clk = x0.clk ∧ (State.advRx x0 x1).clay = x0.clay ∧ (State.advRx x0 x1).pending = x0.pending := by
  unfold State.advRx; (try dsimp only); (repeat' split) <;> simp only [State.setLp_frame, State.loseSeed_frame, foldl_pwr, foldl_clk, foldl_clay, foldl_pending, and_self]

@[simp] theorem State.seal_frame (x0 x1 x2) : (State.seal x0 x1 x2).2.pwr = x0.pwr ∧ (State.seal x0 x1 x2).2.clk = x0.clk ∧ (State.seal x0 x1 x2).2.clay = x0.clay ∧ (State.seal x0 x1 x2).2.mems = x0.mems ∧ (State.seal x0 x1 x2).2.pending = x0.pending := by
  unfold State.seal; (try dsimp only); (repeat' split) <;> simp only [State.setLp_frame, foldl_pwr, foldl_clk, foldl_clay, foldl_mems, foldl_pending, and_self]

@[simp] theorem State.sealAll_frame (x0 x1 x2) : (State.sealAll x0 x1 x2).2.pwr = x0.pwr ∧ (State.sealAll x0 x1 x2).2.clk = x0.clk ∧ (State.sealAll x0 x1 x2).2.clay = x0.clay ∧ (State.sealAll x0 x1 x2).2.mems = x0.mems ∧ (State.sealAll x0 x1 x2).2.pending = x0.pending := by
  induction x2 generalizing x0 x1 <;> simp only [State.sealAll, *, and_self, apply_ite State.pwr, apply_ite State.clk, apply_ite State.clay, apply_ite State.mems, apply_ite State.pending] <;> (repeat' split) <;> simp [*, apply_ite State.pwr, apply_ite State.clk, apply_ite State.clay, apply_ite State.mems, apply_ite State.pending]

@[simp] theorem State.linkNow_frame (x0 x1 x2) : (State.linkNow x0 x1 x2).pwr = x0.pwr ∧ (State.linkNow x0 x1 x2).clk = x0.clk ∧ (State.linkNow x0 x1 x2).clay = x0.clay ∧ (State.linkNow x0 x1 x2).mems = x0.mems ∧ (State.linkNow x0 x1 x2).pending = x0.pending := by
  unfold State.linkNow; (try dsimp only); (repeat' split) <;> simp only [State.sealAll_frame, State.setLp_frame, State.emit_frame, foldl_pwr, foldl_clk, foldl_clay, foldl_mems, foldl_pending, and_self]

@[simp] theorem State.sendLink_frame (x0 x1 x2) : (State.sendLink x0 x1 x2).pwr = x0.pwr ∧ (State.sendLink x0 x1 x2).clk = x0.clk ∧ (State.sendLink x0 x1 x2).clay = x0.clay ∧ (State.sendLink x0 x1 x2).mems = x0.mems ∧ (State.sendLink x0 x1 x2).pending = x0.pending := by
  unfold State.sendLink; (try dsimp only); (repeat' split) <;> simp only [State.setLp_frame, State.linkNow_frame, foldl_pwr, foldl_clk, foldl_clay, foldl_mems, foldl_pending, and_self]

@[simp] theorem State.flushLink_frame (x0 x1) : (State.flushLink x0 x1).pwr = x0.pwr ∧ (State.flushLink x0 x1).clk = x0.clk ∧ (State.flushLink x0 x1).clay = x0.clay ∧ (State.flushLink x0 x1).mems = x0.mems ∧ (State.flushLink x0 x1).pending = x0.pending := by
  unfold State.flushLink; (try dsimp only); (repeat' split) <;> simp [*]

@[simp] theorem State.closeFrame_frame (x0 x1) : (State.closeFrame x0 x1).pwr = x0.pwr ∧ (State.closeFrame x0 x1).clk = x0.clk ∧ (State.closeFrame x0 x1).clay = x0.clay ∧ (State.closeFrame x0 x1).pending = x0.pending := by
  unfold State.closeFrame; (try dsimp only); (repeat' split) <;> simp only [State.sendLink_frame, State.setLp_frame, State.advTx_frame, foldl_pwr, foldl_clk, foldl_clay, foldl_pending, and_self]

@[simp] theorem State.setPt_frame (x0 x1 x2) : (State.setPt x0 x1 x2).pwr = x0.pwr ∧ (State.setPt x0 x1 x2).clk = x0.clk ∧ (State.setPt x0 x1 x2).clay = x0.clay ∧ (State.setPt x0 x1 x2).mems = x0.mems ∧ (State.setPt x0 x1 x2).pending = x0.pending := by
  unfold State.setPt; (try dsimp only); (repeat' split) <;> simp only [foldl_pwr, foldl_clk, foldl_clay, foldl_mems, foldl_pending, and_self]

@[simp] theorem State.stamp_frame (x0 x1 x2) : (State.stamp x0 x1 x2).2.pwr = x0.pwr ∧ (State.stamp x0 x1 x2).2.clk = x0.clk ∧ (State.stamp x0 x1 x2).2.clay = x0.clay ∧ (State.stamp x0 x1 x2).2.mems = x0.mems ∧ (State.stamp x0 x1 x2).2.pending = x0.pending := by
  unfold State.stamp; (try dsimp only); (repeat' split) <;> simp only [State.setPt_frame, foldl_pwr, foldl_clk, foldl_clay, foldl_mems, foldl_pending, and_self]

@[simp] theorem State.sendNow_frame (x0 x1 x2) : (State.sendNow x0 x1 x2).pwr = x0.pwr ∧ (State.sendNow x0 x1 x2).clk = x0.clk ∧ (State.sendNow x0 x1 x2).clay = x0.clay ∧ (State.sendNow x0 x1 x2).mems = x0.mems ∧ (State.sendNow x0 x1 x2).pending = x0.pending := by
  unfold State.sendNow; (try dsimp only); (repeat' split) <;> simp only [State.stamp_frame, State.drawWord_frame, State.sealAll_frame, State.setLp_frame, State.leftPort_frame, State.emit_frame, foldl_pwr, foldl_clk, foldl_clay, foldl_mems, foldl_pending, and_self]

@[simp] theorem State.pump_frame (x0 x1 x2) : (State.pump x0 x1 x2).pwr = x0.pwr ∧ (State.pump x0 x1 x2).clk = x0.clk ∧ (State.pump x0 x1 x2).clay = x0.clay ∧ (State.pump x0 x1 x2).mems = x0.mems ∧ (State.pump x0 x1 x2).pending = x0.pending := by
  induction x2 generalizing x0 x1 <;> simp only [State.pump, *, and_self, apply_ite State.pwr, apply_ite State.clk, apply_ite State.clay, apply_ite State.mems, apply_ite State.pending] <;> (repeat' split) <;> simp [*, apply_ite State.pwr, apply_ite State.clk, apply_ite State.clay, apply_ite State.mems, apply_ite State.pending]

@[simp] theorem State.resume_frame (x0 x1) : (State.resume x0 x1).pwr = x0.pwr ∧ (State.resume x0 x1).clk = x0.clk ∧ (State.resume x0 x1).clay = x0.clay ∧ (State.resume x0 x1).mems = x0.mems ∧ (State.resume x0 x1).pending = x0.pending := by
  unfold State.resume; (try dsimp only); (repeat' split) <;> simp only [State.emit_frame, State.toState_frame, foldl_pwr, foldl_clk, foldl_clay, foldl_mems, foldl_pending, and_self]

@[simp] theorem State.tx_frame (x0 x1 x2) : (State.tx x0 x1 x2).pwr = x0.pwr ∧ (State.tx x0 x1 x2).clk = x0.clk ∧ (State.tx x0 x1 x2).clay = x0.clay ∧ (State.tx x0 x1 x2).mems = x0.mems ∧ (State.tx x0 x1 x2).pending = x0.pending := by
  unfold State.tx; (try dsimp only); (repeat' split) <;> simp only [State.resume_frame, State.pump_frame, State.setLp_frame, foldl_pwr, foldl_clk, foldl_clay, foldl_mems, foldl_pending, and_self]

@[simp] theorem State.repump_frame (x0 x1) : (State.repump x0 x1).pwr = x0.pwr ∧ (State.repump x0 x1).clk = x0.clk ∧ (State.repump x0 x1).clay = x0.clay ∧ (State.repump x0 x1).mems = x0.mems ∧ (State.repump x0 x1).pending = x0.pending := by
  unfold State.repump; (try dsimp only); (repeat' split) <;> simp only [State.pump_frame, State.setLp_frame, foldl_pwr, foldl_clk, foldl_clay, foldl_mems, foldl_pending, and_self]

@[simp] theorem State.toAttach_frame (x0 x1 x2 x3 x4 x5) : (State.toAttach x0 x1 x2 x3 x4 x5).pwr = x0.pwr ∧ (State.toAttach x0 x1 x2 x3 x4 x5).clk = x0.clk ∧ (State.toAttach x0 x1 x2 x3 x4 x5).clay = x0.clay ∧ (State.toAttach x0 x1 x2 x3 x4 x5).mems = x0.mems ∧ (State.toAttach x0 x1 x2 x3 x4 x5).pending = x0.pending := by
  unfold State.toAttach; (try dsimp only); (repeat' split) <;> simp only [State.tx_frame, State.leftPort_frame, foldl_pwr, foldl_clk, foldl_clay, foldl_mems, foldl_pending, and_self]

@[simp] theorem State.ctrl_frame (x0 x1 x2) : (State.ctrl x0 x1 x2).pwr = x0.pwr ∧ (State.ctrl x0 x1 x2).clk = x0.clk ∧ (State.ctrl x0 x1 x2).clay = x0.clay ∧ (State.ctrl x0 x1 x2).mems = x0.mems ∧ (State.ctrl x0 x1 x2).pending = x0.pending := by
  unfold State.ctrl; (try dsimp only); (repeat' split) <;> simp only [State.tx_frame, foldl_pwr, foldl_clk, foldl_clay, foldl_mems, foldl_pending, and_self]

@[simp] theorem State.freeVc_frame (x0 x1 x2) : (State.freeVc x0 x1 x2).pwr = x0.pwr ∧ (State.freeVc x0 x1 x2).clk = x0.clk ∧ (State.freeVc x0 x1 x2).clay = x0.clay ∧ (State.freeVc x0 x1 x2).mems = x0.mems ∧ (State.freeVc x0 x1 x2).pending = x0.pending := by
  unfold State.freeVc; (try dsimp only); (repeat' split) <;> simp only [State.setLp_frame, foldl_pwr, foldl_clk, foldl_clay, foldl_mems, foldl_pending, and_self]

@[simp] theorem State.reports_frame (x0 x1) : (State.reports x0 x1).pwr = x0.pwr ∧ (State.reports x0 x1).clk = x0.clk ∧ (State.reports x0 x1).clay = x0.clay ∧ (State.reports x0 x1).mems = x0.mems ∧ (State.reports x0 x1).pending = x0.pending := by
  unfold State.reports; (try dsimp only); (repeat' split) <;> simp only [State.sendNow_frame, State.linkNow_frame, foldl_pwr, foldl_clk, foldl_clay, foldl_mems, foldl_pending, and_self]

@[simp] theorem State.laneGroup_frame (x0 x1) : (State.laneGroup x0 x1).pwr = x0.pwr ∧ (State.laneGroup x0 x1).clk = x0.clk ∧ (State.laneGroup x0 x1).clay = x0.clay ∧ (State.laneGroup x0 x1).mems = x0.mems ∧ (State.laneGroup x0 x1).pending = x0.pending := by
  unfold State.laneGroup; (try dsimp only); (repeat' split) <;> simp only [State.emit_frame, State.setLp_frame, foldl_pwr, foldl_clk, foldl_clay, foldl_mems, foldl_pending, and_self]

@[simp] theorem State.laneTick_frame (x0 x1) : (State.laneTick x0 x1).pwr = x0.pwr ∧ (State.laneTick x0 x1).clk = x0.clk ∧ (State.laneTick x0 x1).clay = x0.clay ∧ (State.laneTick x0 x1).mems = x0.mems ∧ (State.laneTick x0 x1).pending = x0.pending := by
  unfold State.laneTick; (try dsimp only); (repeat' split) <;> simp only [State.setLp_frame, State.emit_frame, State.reports_frame, State.flushLink_frame, State.laneGroup_frame, State.repump_frame, foldl_pwr, foldl_clk, foldl_clay, foldl_mems, foldl_pending, and_self]

@[simp] theorem State.ctrlAll_frame (x0 x1 x2) : (State.ctrlAll x0 x1 x2).pwr = x0.pwr ∧ (State.ctrlAll x0 x1 x2).clk = x0.clk ∧ (State.ctrlAll x0 x1 x2).clay = x0.clay ∧ (State.ctrlAll x0 x1 x2).mems = x0.mems ∧ (State.ctrlAll x0 x1 x2).pending = x0.pending := by
  simp [State.ctrlAll, apply_ite State.pwr, apply_ite State.clk, apply_ite State.clay, apply_ite State.mems, apply_ite State.pending]

@[simp] theorem State.nextSeq_frame (x0 x1 x2 x3) : (State.nextSeq x0 x1 x2 x3).2.pwr = x0.pwr ∧ (State.nextSeq x0 x1 x2 x3).2.clk = x0.clk ∧ (State.nextSeq x0 x1 x2 x3).2.clay = x0.clay ∧ (State.nextSeq x0 x1 x2 x3).2.mems = x0.mems ∧ (State.nextSeq x0 x1 x2 x3).2.pending = x0.pending := by
  unfold State.nextSeq; (try dsimp only); (repeat' split) <;> simp only [foldl_pwr, foldl_clk, foldl_clay, foldl_mems, foldl_pending, and_self]

@[simp] theorem State.prevWrite_frame (x0 x1 x2 x3 x4) : (State.prevWrite x0 x1 x2 x3 x4).2.pwr = x0.pwr ∧ (State.prevWrite x0 x1 x2 x3 x4).2.clk = x0.clk ∧ (State.prevWrite x0 x1 x2 x3 x4).2.clay = x0.clay ∧ (State.prevWrite x0 x1 x2 x3 x4).2.mems = x0.mems ∧ (State.prevWrite x0 x1 x2 x3 x4).2.pending = x0.pending := by
  unfold State.prevWrite; (try dsimp only); (repeat' split) <;> simp only [foldl_pwr, foldl_clk, foldl_clay, foldl_mems, foldl_pending, and_self]

@[simp] theorem State.aim_frame (x0 x1) : (State.aim x0 x1).2.pwr = x0.pwr ∧ (State.aim x0 x1).2.clk = x0.clk ∧ (State.aim x0 x1).2.clay = x0.clay ∧ (State.aim x0 x1).2.mems = x0.mems ∧ (State.aim x0 x1).2.pending = x0.pending := by
  unfold State.aim; (try dsimp only); (repeat' split) <;> simp only [foldl_pwr, foldl_clk, foldl_clay, foldl_mems, foldl_pending, and_self]

@[simp] theorem State.sendReq_frame (x0 x1) : (State.sendReq x0 x1).pwr = x0.pwr ∧ (State.sendReq x0 x1).clk = x0.clk ∧ (State.sendReq x0 x1).clay = x0.clay ∧ (State.sendReq x0 x1).mems = x0.mems ∧ (State.sendReq x0 x1).pending = x0.pending := by
  unfold State.sendReq; (try dsimp only); (repeat' split) <;> simp only [State.aim_frame, State.emit_frame, foldl_pwr, foldl_clk, foldl_clay, foldl_mems, foldl_pending, and_self]

@[simp] theorem State.sendCpl_frame (x0 x1) : (State.sendCpl x0 x1).pwr = x0.pwr ∧ (State.sendCpl x0 x1).clk = x0.clk ∧ (State.sendCpl x0 x1).clay = x0.clay ∧ (State.sendCpl x0 x1).mems = x0.mems ∧ (State.sendCpl x0 x1).pending = x0.pending := by
  unfold State.sendCpl; (try dsimp only); (repeat' split) <;> simp only [State.aim_frame, State.emit_frame, foldl_pwr, foldl_clk, foldl_clay, foldl_mems, foldl_pending, and_self]

@[simp] theorem State.sendSnp_frame (x0 x1) : (State.sendSnp x0 x1).pwr = x0.pwr ∧ (State.sendSnp x0 x1).clk = x0.clk ∧ (State.sendSnp x0 x1).clay = x0.clay ∧ (State.sendSnp x0 x1).mems = x0.mems ∧ (State.sendSnp x0 x1).pending = x0.pending := by
  unfold State.sendSnp; (try dsimp only); (repeat' split) <;> simp only [State.aim_frame, State.emit_frame, foldl_pwr, foldl_clk, foldl_clay, foldl_mems, foldl_pending, and_self]

@[simp] theorem State.colour_frame (x0 x1 x2) : (State.colour x0 x1 x2).2.pwr = x0.pwr ∧ (State.colour x0 x1 x2).2.clk = x0.clk ∧ (State.colour x0 x1 x2).2.clay = x0.clay ∧ (State.colour x0 x1 x2).2.mems = x0.mems ∧ (State.colour x0 x1 x2).2.pending = x0.pending := by
  unfold State.colour; (try dsimp only); (repeat' split) <;> simp only [foldl_pwr, foldl_clk, foldl_clay, foldl_mems, foldl_pending, and_self]

@[simp] theorem State.issueOwn_frame (x0 x1 x2) : (State.issueOwn x0 x1 x2).pwr = x0.pwr ∧ (State.issueOwn x0 x1 x2).clk = x0.clk ∧ (State.issueOwn x0 x1 x2).clay = x0.clay ∧ (State.issueOwn x0 x1 x2).mems = x0.mems ∧ (State.issueOwn x0 x1 x2).pending = x0.pending := by
  unfold State.issueOwn; (try dsimp only); (repeat' split) <;> simp only [State.nextSeq_frame, State.sendReq_frame, foldl_pwr, foldl_clk, foldl_clay, foldl_mems, foldl_pending, and_self]

@[simp] theorem State.attachCpl_frame (x0 x1 x2 x3 x4 x5 x6 x7 x8) : (State.attachCpl x0 x1 x2 x3 x4 x5 x6 x7 x8).pwr = x0.pwr ∧ (State.attachCpl x0 x1 x2 x3 x4 x5 x6 x7 x8).clk = x0.clk ∧ (State.attachCpl x0 x1 x2 x3 x4 x5 x6 x7 x8).clay = x0.clay ∧ (State.attachCpl x0 x1 x2 x3 x4 x5 x6 x7 x8).mems = x0.mems ∧ (State.attachCpl x0 x1 x2 x3 x4 x5 x6 x7 x8).pending = x0.pending := by
  unfold State.attachCpl; (try dsimp only); (repeat' split) <;> simp only [State.toAttach_frame, foldl_pwr, foldl_clk, foldl_clay, foldl_mems, foldl_pending, and_self]

@[simp] theorem State.setObj_frame (x0 x1 x2) : (State.setObj x0 x1 x2).pwr = x0.pwr ∧ (State.setObj x0 x1 x2).clk = x0.clk ∧ (State.setObj x0 x1 x2).clay = x0.clay ∧ (State.setObj x0 x1 x2).mems = x0.mems ∧ (State.setObj x0 x1 x2).pending = x0.pending := by
  unfold State.setObj; (try dsimp only); (repeat' split) <;> simp only [foldl_pwr, foldl_clk, foldl_clay, foldl_mems, foldl_pending, and_self]

@[simp] theorem State.wakeMet_frame (x0 x1 x2 x3) : (State.wakeMet x0 x1 x2 x3).pwr = x0.pwr ∧ (State.wakeMet x0 x1 x2 x3).clk = x0.clk ∧ (State.wakeMet x0 x1 x2 x3).clay = x0.clay ∧ (State.wakeMet x0 x1 x2 x3).mems = x0.mems ∧ (State.wakeMet x0 x1 x2 x3).pending = x0.pending := by
  induction x3 generalizing x0 x1 <;> simp only [State.wakeMet, *, and_self, apply_ite State.pwr, apply_ite State.clk, apply_ite State.clay, apply_ite State.mems, apply_ite State.pending] <;> (repeat' split) <;> simp [*, apply_ite State.pwr, apply_ite State.clk, apply_ite State.clay, apply_ite State.mems, apply_ite State.pending]

@[simp] theorem State.ringAll_frame (x0 x1 x2) : (State.ringAll x0 x1 x2).pwr = x0.pwr ∧ (State.ringAll x0 x1 x2).clk = x0.clk ∧ (State.ringAll x0 x1 x2).clay = x0.clay ∧ (State.ringAll x0 x1 x2).mems = x0.mems ∧ (State.ringAll x0 x1 x2).pending = x0.pending := by
  induction x2 generalizing x0 <;> simp only [State.ringAll, *, and_self, apply_ite State.pwr, apply_ite State.clk, apply_ite State.clay, apply_ite State.mems, apply_ite State.pending] <;> (repeat' split) <;> simp [*, apply_ite State.pwr, apply_ite State.clk, apply_ite State.clay, apply_ite State.mems, apply_ite State.pending]

@[simp] theorem State.ringObj_frame (x0 x1) : (State.ringObj x0 x1).pwr = x0.pwr ∧ (State.ringObj x0 x1).clk = x0.clk ∧ (State.ringObj x0 x1).clay = x0.clay ∧ (State.ringObj x0 x1).mems = x0.mems ∧ (State.ringObj x0 x1).pending = x0.pending := by
  unfold State.ringObj; (try dsimp only); (repeat' split) <;> simp only [State.ringAll_frame, foldl_pwr, foldl_clk, foldl_clay, foldl_mems, foldl_pending, and_self]

@[simp] theorem State.objTakes_frame (x0 x1 x2) : (State.objTakes x0 x1 x2).pwr = x0.pwr ∧ (State.objTakes x0 x1 x2).clk = x0.clk ∧ (State.objTakes x0 x1 x2).clay = x0.clay ∧ (State.objTakes x0 x1 x2).mems = x0.mems ∧ (State.objTakes x0 x1 x2).pending = x0.pending := by
  unfold State.objTakes; (try dsimp only); (repeat' split) <;> simp only [State.setObj_frame, State.ringAll_frame, State.wakeMet_frame, foldl_pwr, foldl_clk, foldl_clay, foldl_mems, foldl_pending, and_self]

@[simp] theorem State.signal_frame (x0 x1 x2) : (State.signal x0 x1 x2).pwr = x0.pwr ∧ (State.signal x0 x1 x2).clk = x0.clk ∧ (State.signal x0 x1 x2).clay = x0.clay ∧ (State.signal x0 x1 x2).mems = x0.mems ∧ (State.signal x0 x1 x2).pending = x0.pending := by
  unfold State.signal; (try dsimp only); (repeat' split) <;> simp only [State.objTakes_frame, foldl_pwr, foldl_clk, foldl_clay, foldl_mems, foldl_pending, and_self]

@[simp] theorem State.unwatch_frame (x0 x1 x2) : (State.unwatch x0 x1 x2).pwr = x0.pwr ∧ (State.unwatch x0 x1 x2).clk = x0.clk ∧ (State.unwatch x0 x1 x2).clay = x0.clay ∧ (State.unwatch x0 x1 x2).mems = x0.mems ∧ (State.unwatch x0 x1 x2).pending = x0.pending := by
  unfold State.unwatch; (try dsimp only); (repeat' split) <;> simp only [foldl_pwr, foldl_clk, foldl_clay, foldl_mems, foldl_pending, and_self]

@[simp] theorem State.pollFrom_frame (x0 x1) : (State.pollFrom x0 x1).pwr = x0.pwr ∧ (State.pollFrom x0 x1).clk = x0.clk ∧ (State.pollFrom x0 x1).clay = x0.clay ∧ (State.pollFrom x0 x1).mems = x0.mems ∧ (State.pollFrom x0 x1).pending = x0.pending := by
  unfold State.pollFrom; (try dsimp only); (repeat' split) <;> simp only [foldl_pwr, foldl_clk, foldl_clay, foldl_mems, foldl_pending, and_self]

@[simp] theorem State.watchRegister_frame (x0 x1 x2 x3 x4 x5) : (State.watchRegister x0 x1 x2 x3 x4 x5).pwr = x0.pwr ∧ (State.watchRegister x0 x1 x2 x3 x4 x5).clk = x0.clk ∧ (State.watchRegister x0 x1 x2 x3 x4 x5).clay = x0.clay ∧ (State.watchRegister x0 x1 x2 x3 x4 x5).mems = x0.mems ∧ (State.watchRegister x0 x1 x2 x3 x4 x5).pending = x0.pending := by
  unfold State.watchRegister; (try dsimp only); (repeat' split) <;> simp only [State.incF_frame, State.sendCpl_frame, State.pollFrom_frame, State.emit_frame, foldl_pwr, foldl_clk, foldl_clay, foldl_mems, foldl_pending, and_self]

@[simp] theorem State.armFire_frame (x0 x1) : (State.armFire x0 x1).pwr = x0.pwr ∧ (State.armFire x0 x1).clk = x0.clk ∧ (State.armFire x0 x1).clay = x0.clay ∧ (State.armFire x0 x1).pending = x0.pending := by
  unfold State.armFire; (try dsimp only); (repeat' split) <;> simp only [State.setF_frame, State.post_frame, State.issueOwn_frame, foldl_pwr, foldl_clk, foldl_clay, foldl_pending, and_self]

@[simp] theorem State.armWrite_frame (x0 x1 x2) : (State.armWrite x0 x1 x2).pwr = x0.pwr ∧ (State.armWrite x0 x1 x2).clk = x0.clk ∧ (State.armWrite x0 x1 x2).clay = x0.clay ∧ (State.armWrite x0 x1 x2).mems = x0.mems ∧ (State.armWrite x0 x1 x2).pending = x0.pending := by
  unfold State.armWrite; (try dsimp only); (repeat' split) <;> simp only [State.setF_frame, foldl_pwr, foldl_clk, foldl_clay, foldl_mems, foldl_pending, and_self]

@[simp] theorem State.tick_frame (x0) : (State.tick x0).pwr = x0.pwr ∧ (State.tick x0).clay = x0.clay ∧ (State.tick x0).mems = x0.mems ∧ (State.tick x0).pending = x0.pending := by
  unfold State.tick; (try dsimp only); (repeat' split) <;> simp only [foldl_pwr, foldl_clay, foldl_mems, foldl_pending, and_self]

@[simp] theorem State.pulse_frame (x0 x1) : (State.pulse x0 x1).pwr = x0.pwr ∧ (State.pulse x0 x1).clk = x0.clk ∧ (State.pulse x0 x1).clay = x0.clay ∧ (State.pulse x0 x1).mems = x0.mems ∧ (State.pulse x0 x1).pending = x0.pending := by
  unfold State.pulse; (try dsimp only); (repeat' split) <;> simp only [State.emit_frame, foldl_pwr, foldl_clk, foldl_clay, foldl_mems, foldl_pending, and_self]

@[simp] theorem State.syncTo_frame (x0 x1) : (State.syncTo x0 x1).pwr = x0.pwr ∧ (State.syncTo x0 x1).clk = x0.clk ∧ (State.syncTo x0 x1).clay = x0.clay ∧ (State.syncTo x0 x1).pending = x0.pending := by
  unfold State.syncTo; (try dsimp only); (repeat' split) <;> simp only [State.post_frame, State.setF_frame, foldl_pwr, foldl_clk, foldl_clay, foldl_pending, and_self]

@[simp] theorem State.noParent_frame (x0) : (State.noParent x0).pwr = x0.pwr ∧ (State.noParent x0).clk = x0.clk ∧ (State.noParent x0).clay = x0.clay ∧ (State.noParent x0).mems = x0.mems ∧ (State.noParent x0).pending = x0.pending := by
  unfold State.noParent; (try dsimp only); (repeat' split) <;> simp only [State.setF_frame, foldl_pwr, foldl_clk, foldl_clay, foldl_mems, foldl_pending, and_self]

@[simp] theorem State.holdover_frame (x0) : (State.holdover x0).pwr = x0.pwr ∧ (State.holdover x0).clk = x0.clk ∧ (State.holdover x0).clay = x0.clay ∧ (State.holdover x0).pending = x0.pending := by
  unfold State.holdover; (try dsimp only); (repeat' split) <;> simp only [State.syncTo_frame, State.noParent_frame, foldl_pwr, foldl_clk, foldl_clay, foldl_pending, and_self]

@[simp] theorem State.becomeRoot_frame (x0) : (State.becomeRoot x0).pwr = x0.pwr ∧ (State.becomeRoot x0).clk = x0.clk ∧ (State.becomeRoot x0).clay = x0.clay ∧ (State.becomeRoot x0).pending = x0.pending := by
  unfold State.becomeRoot; (try dsimp only); (repeat' split) <;> simp only [State.setF_frame, State.noParent_frame, State.post_frame, foldl_pwr, foldl_clk, foldl_clay, foldl_pending, and_self]

@[simp] theorem State.dttCtl_frame (x0 x1) : (State.dttCtl x0 x1).pwr = x0.pwr ∧ (State.dttCtl x0 x1).clk = x0.clk ∧ (State.dttCtl x0 x1).clay = x0.clay ∧ (State.dttCtl x0 x1).mems = x0.mems ∧ (State.dttCtl x0 x1).pending = x0.pending := by
  unfold State.dttCtl; (try dsimp only); (repeat' split) <;> simp only [State.wr_frame, State.setF_frame, State.noParent_frame, foldl_pwr, foldl_clk, foldl_clay, foldl_mems, foldl_pending, and_self]

@[simp] theorem State.dttRoots_frame (x0 x1) : (State.dttRoots x0 x1).pwr = x0.pwr ∧ (State.dttRoots x0 x1).clk = x0.clk ∧ (State.dttRoots x0 x1).clay = x0.clay ∧ (State.dttRoots x0 x1).pending = x0.pending := by
  unfold State.dttRoots; (try dsimp only); (repeat' split) <;> simp only [State.wr_frame, State.holdover_frame, foldl_pwr, foldl_clk, foldl_clay, foldl_pending, and_self]

@[simp] theorem State.parentTimeout_frame (x0) : (State.parentTimeout x0).pwr = x0.pwr ∧ (State.parentTimeout x0).clk = x0.clk ∧ (State.parentTimeout x0).clay = x0.clay ∧ (State.parentTimeout x0).pending = x0.pending := by
  unfold State.parentTimeout; (try dsimp only); (repeat' split) <;> simp only [State.holdover_frame, State.noParent_frame, foldl_pwr, foldl_clk, foldl_clay, foldl_pending, and_self]

@[simp] theorem State.sendRelease_frame (x0 x1 x2 x3 x4) : (State.sendRelease x0 x1 x2 x3 x4).pwr = x0.pwr ∧ (State.sendRelease x0 x1 x2 x3 x4).clk = x0.clk ∧ (State.sendRelease x0 x1 x2 x3 x4).clay = x0.clay ∧ (State.sendRelease x0 x1 x2 x3 x4).mems = x0.mems ∧ (State.sendRelease x0 x1 x2 x3 x4).pending = x0.pending := by
  induction x4 generalizing x0 <;> simp only [State.sendRelease, *, and_self, apply_ite State.pwr, apply_ite State.clk, apply_ite State.clay, apply_ite State.mems, apply_ite State.pending] <;> (repeat' split) <;> simp [*, apply_ite State.pwr, apply_ite State.clk, apply_ite State.clay, apply_ite State.mems, apply_ite State.pending]

@[simp] theorem State.checkRelease_frame (x0) : (State.checkRelease x0).pwr = x0.pwr ∧ (State.checkRelease x0).clk = x0.clk ∧ (State.checkRelease x0).clay = x0.clay ∧ (State.checkRelease x0).mems = x0.mems ∧ (State.checkRelease x0).pending = x0.pending := by
  unfold State.checkRelease; (try dsimp only); (repeat' split) <;> simp only [State.sendRelease_frame, foldl_pwr, foldl_clk, foldl_clay, foldl_mems, foldl_pending, and_self]

@[simp] theorem State.arriveHere_frame (x0 x1 x2) : (State.arriveHere x0 x1 x2).pwr = x0.pwr ∧ (State.arriveHere x0 x1 x2).clk = x0.clk ∧ (State.arriveHere x0 x1 x2).clay = x0.clay ∧ (State.arriveHere x0 x1 x2).mems = x0.mems ∧ (State.arriveHere x0 x1 x2).pending = x0.pending := by
  unfold State.arriveHere; (try dsimp only); (repeat' split) <;> simp only [State.checkRelease_frame, State.ctrl_frame, foldl_pwr, foldl_clk, foldl_clay, foldl_mems, foldl_pending, and_self]

@[simp] theorem State.flushArrivals_frame (x0) : (State.flushArrivals x0).pwr = x0.pwr ∧ (State.flushArrivals x0).clk = x0.clk ∧ (State.flushArrivals x0).clay = x0.clay ∧ (State.flushArrivals x0).mems = x0.mems ∧ (State.flushArrivals x0).pending = x0.pending := by
  unfold State.flushArrivals; (try dsimp only); (repeat' split) <;> simp [*]

@[simp] theorem State.barArm_frame (x0 x1) : (State.barArm x0 x1).pwr = x0.pwr ∧ (State.barArm x0 x1).clk = x0.clk ∧ (State.barArm x0 x1).clay = x0.clay ∧ (State.barArm x0 x1).mems = x0.mems ∧ (State.barArm x0 x1).pending = x0.pending := by
  unfold State.barArm; (try dsimp only); (repeat' split) <;> simp only [State.wr_frame, State.arriveHere_frame, State.setF_frame, State.checkRelease_frame, foldl_pwr, foldl_clk, foldl_clay, foldl_mems, foldl_pending, and_self]

@[simp] theorem State.barDisarm_frame (x0) : (State.barDisarm x0).pwr = x0.pwr ∧ (State.barDisarm x0).clk = x0.clk ∧ (State.barDisarm x0).clay = x0.clay ∧ (State.barDisarm x0).mems = x0.mems ∧ (State.barDisarm x0).pending = x0.pending := by
  unfold State.barDisarm; (try dsimp only); (repeat' split) <;> simp only [State.setF_frame, foldl_pwr, foldl_clk, foldl_clay, foldl_mems, foldl_pending, and_self]

@[simp] theorem State.releaseHere_frame (x0 x1 x2 x3) : (State.releaseHere x0 x1 x2 x3).pwr = x0.pwr ∧ (State.releaseHere x0 x1 x2 x3).clk = x0.clk ∧ (State.releaseHere x0 x1 x2 x3).clay = x0.clay ∧ (State.releaseHere x0 x1 x2 x3).mems = x0.mems ∧ (State.releaseHere x0 x1 x2 x3).pending = x0.pending := by
  unfold State.releaseHere; (try dsimp only); (repeat' split) <;> simp only [State.sendRelease_frame, foldl_pwr, foldl_clk, foldl_clay, foldl_mems, foldl_pending, and_self]

@[simp] theorem State.loadTime_frame (x0 x1) : (State.loadTime x0 x1).pwr = x0.pwr ∧ (State.loadTime x0 x1).clay = x0.clay ∧ (State.loadTime x0 x1).mems = x0.mems ∧ (State.loadTime x0 x1).pending = x0.pending := by
  unfold State.loadTime; (try dsimp only); (repeat' split) <;> simp only [State.setF_frame, foldl_pwr, foldl_clay, foldl_mems, foldl_pending, and_self]

@[simp] theorem State.fireBar_frame (x0 x1) : (State.fireBar x0 x1).pwr = x0.pwr ∧ (State.fireBar x0 x1).clay = x0.clay ∧ (State.fireBar x0 x1).pending = x0.pending := by
  unfold State.fireBar; (try dsimp only); (repeat' split) <;> simp [*]

@[simp] theorem State.dtSyncEdge_frame (x0) : (State.dtSyncEdge x0).pwr = x0.pwr ∧ (State.dtSyncEdge x0).clay = x0.clay ∧ (State.dtSyncEdge x0).pending = x0.pending := by
  unfold State.dtSyncEdge; (try dsimp only); (repeat' split) <;> simp only [foldl_pwr, foldl_clay, foldl_pending, and_self]

@[simp] theorem State.takePlan_frame (x0 x1) : (State.takePlan x0 x1).pwr = x0.pwr ∧ (State.takePlan x0 x1).clk = x0.clk ∧ (State.takePlan x0 x1).clay = x0.clay ∧ (State.takePlan x0 x1).mems = x0.mems ∧ (State.takePlan x0 x1).pending = x0.pending := by
  unfold State.takePlan; (try dsimp only); (repeat' split) <;> simp only [State.setF_frame, foldl_pwr, foldl_clk, foldl_clay, foldl_mems, foldl_pending, and_self]

@[simp] theorem State.issuePlan_frame (x0 x1 x2 x3 x4) : (State.issuePlan x0 x1 x2 x3 x4).pwr = x0.pwr ∧ (State.issuePlan x0 x1 x2 x3 x4).clk = x0.clk ∧ (State.issuePlan x0 x1 x2 x3 x4).clay = x0.clay ∧ (State.issuePlan x0 x1 x2 x3 x4).mems = x0.mems ∧ (State.issuePlan x0 x1 x2 x3 x4).pending = x0.pending := by
  unfold State.issuePlan; (try dsimp only); (repeat' split) <;> simp only [State.takePlan_frame, foldl_pwr, foldl_clk, foldl_clay, foldl_mems, foldl_pending, and_self]

@[simp] theorem State.envRoot_frame (x0 x1 x2 x3) : (State.envRoot x0 x1 x2 x3).2.pwr = x0.pwr ∧ (State.envRoot x0 x1 x2 x3).2.clk = x0.clk ∧ (State.envRoot x0 x1 x2 x3).2.clay = x0.clay ∧ (State.envRoot x0 x1 x2 x3).2.pending = x0.pending := by
  unfold State.envRoot; (try dsimp only); (repeat' split) <;> simp only [State.post_frame, State.issuePlan_frame, foldl_pwr, foldl_clk, foldl_clay, foldl_pending, and_self]

@[simp] theorem State.envCmd_frame (x0 x1) : (State.envCmd x0 x1).pwr = x0.pwr ∧ (State.envCmd x0 x1).clk = x0.clk ∧ (State.envCmd x0 x1).clay = x0.clay ∧ (State.envCmd x0 x1).pending = x0.pending := by
  unfold State.envCmd; (try dsimp only); (repeat' split) <;> simp only [State.setF_frame, State.envRoot_frame, State.emit_frame, foldl_pwr, foldl_clk, foldl_clay, foldl_pending, and_self]

@[simp] theorem State.envForward_frame (x0 x1 x2 x3 x4) : (State.envForward x0 x1 x2 x3 x4).pwr = x0.pwr ∧ (State.envForward x0 x1 x2 x3 x4).clk = x0.clk ∧ (State.envForward x0 x1 x2 x3 x4).clay = x0.clay ∧ (State.envForward x0 x1 x2 x3 x4).pending = x0.pending := by
  unfold State.envForward; (try dsimp only); (repeat' split) <;> simp only [State.setF_frame, State.envRoot_frame, State.emit_frame, foldl_pwr, foldl_clk, foldl_clay, foldl_pending, and_self]

@[simp] theorem State.stepPlan_frame (x0 x1) : (State.stepPlan x0 x1).pwr = x0.pwr ∧ (State.stepPlan x0 x1).clay = x0.clay ∧ (State.stepPlan x0 x1).pending = x0.pending := by
  unfold State.stepPlan; (try dsimp only); (repeat' split) <;> simp only [State.post_frame, State.setF_frame, foldl_pwr, foldl_clay, foldl_pending, and_self]

@[simp] theorem State.dilationStep_frame (x0) : (State.dilationStep x0).pwr = x0.pwr ∧ (State.dilationStep x0).clay = x0.clay ∧ (State.dilationStep x0).pending = x0.pending := by
  unfold State.dilationStep; (try dsimp only); (repeat' split) <;> simp only [State.stepPlan_frame, State.setF_frame, foldl_pwr, foldl_clay, foldl_pending, and_self]

@[simp] theorem State.thermal_frame (x0) : (State.thermal x0).pwr = x0.pwr ∧ (State.thermal x0).clk = x0.clk ∧ (State.thermal x0).clay = x0.clay ∧ (State.thermal x0).mems = x0.mems ∧ (State.thermal x0).pending = x0.pending := by
  unfold State.thermal; (try dsimp only); (repeat' split) <;> simp only [State.setF_frame, State.issuePlan_frame, foldl_pwr, foldl_clk, foldl_clay, foldl_mems, foldl_pending, and_self]

@[simp] theorem State.thermDecay_frame (x0) : (State.thermDecay x0).pwr = x0.pwr ∧ (State.thermDecay x0).clk = x0.clk ∧ (State.thermDecay x0).clay = x0.clay ∧ (State.thermDecay x0).mems = x0.mems ∧ (State.thermDecay x0).pending = x0.pending := by
  unfold State.thermDecay; (try dsimp only); (repeat' split) <;> simp only [State.issuePlan_frame, foldl_pwr, foldl_clk, foldl_clay, foldl_mems, foldl_pending, and_self]

@[simp] theorem State.writeSlot_frame (x0 x1 x2 x3 x4) : (State.writeSlot x0 x1 x2 x3 x4).pwr = x0.pwr ∧ (State.writeSlot x0 x1 x2 x3 x4).clk = x0.clk ∧ (State.writeSlot x0 x1 x2 x3 x4).clay = x0.clay ∧ (State.writeSlot x0 x1 x2 x3 x4).pending = x0.pending := by
  unfold State.writeSlot; (try dsimp only); (repeat' split) <;> simp only [State.emit_frame, foldl_pwr, foldl_clk, foldl_clay, foldl_pending, and_self]

@[simp] theorem State.setDesc_frame (x0 x1 x2 x3) : (State.setDesc x0 x1 x2 x3).pwr = x0.pwr ∧ (State.setDesc x0 x1 x2 x3).clk = x0.clk ∧ (State.setDesc x0 x1 x2 x3).clay = x0.clay ∧ (State.setDesc x0 x1 x2 x3).mems = x0.mems ∧ (State.setDesc x0 x1 x2 x3).pending = x0.pending := by
  unfold State.setDesc; (try dsimp only); (repeat' split) <;> simp only [State.setQ_frame, foldl_pwr, foldl_clk, foldl_clay, foldl_mems, foldl_pending, and_self]

@[simp] theorem State.postQ_frame (x0 x1 x2 x3 x4 x5 x6) : (State.postQ x0 x1 x2 x3 x4 x5 x6).pwr = x0.pwr ∧ (State.postQ x0 x1 x2 x3 x4 x5 x6).clk = x0.clk ∧ (State.postQ x0 x1 x2 x3 x4 x5 x6).clay = x0.clay ∧ (State.postQ x0 x1 x2 x3 x4 x5 x6).pending = x0.pending := by
  unfold State.postQ; (try dsimp only); (repeat' split) <;> simp only [State.postTo_frame, foldl_pwr, foldl_clk, foldl_clay, foldl_pending, and_self]

@[simp] theorem State.faultDesc_frame (x0 x1 x2 x3 x4) : (State.faultDesc x0 x1 x2 x3 x4).pwr = x0.pwr ∧ (State.faultDesc x0 x1 x2 x3 x4).clk = x0.clk ∧ (State.faultDesc x0 x1 x2 x3 x4).clay = x0.clay ∧ (State.faultDesc x0 x1 x2 x3 x4).pending = x0.pending := by
  unfold State.faultDesc; (try dsimp only); (repeat' split) <;> simp only [State.postQ_frame, foldl_pwr, foldl_clk, foldl_clay, foldl_pending, and_self]

@[simp] theorem State.absentDesc_frame (x0 x1) : (State.absentDesc x0 x1).pwr = x0.pwr ∧ (State.absentDesc x0 x1).clk = x0.clk ∧ (State.absentDesc x0 x1).clay = x0.clay ∧ (State.absentDesc x0 x1).pending = x0.pending := by
  unfold State.absentDesc; (try dsimp only); (repeat' split) <;> simp only [State.postTo_frame, foldl_pwr, foldl_clk, foldl_clay, foldl_pending, and_self]

@[simp] theorem State.pauseDesc_frame (x0 x1 x2 x3) : (State.pauseDesc x0 x1 x2 x3).pwr = x0.pwr ∧ (State.pauseDesc x0 x1 x2 x3).clk = x0.clk ∧ (State.pauseDesc x0 x1 x2 x3).clay = x0.clay ∧ (State.pauseDesc x0 x1 x2 x3).pending = x0.pending := by
  unfold State.pauseDesc; (try dsimp only); (repeat' split) <;> simp [*]

@[simp] theorem State.advance_frame (x0 x1 x2) : (State.advance x0 x1 x2).pwr = x0.pwr ∧ (State.advance x0 x1 x2).clk = x0.clk ∧ (State.advance x0 x1 x2).clay = x0.clay ∧ (State.advance x0 x1 x2).mems = x0.mems ∧ (State.advance x0 x1 x2).pending = x0.pending := by
  induction x2 generalizing x0 x1 <;> simp only [State.advance, *, and_self, apply_ite State.pwr, apply_ite State.clk, apply_ite State.clay, apply_ite State.mems, apply_ite State.pending] <;> (repeat' split) <;> simp [*, apply_ite State.pwr, apply_ite State.clk, apply_ite State.clay, apply_ite State.mems, apply_ite State.pending]

@[simp] theorem State.doneDesc_frame (x0 x1 x2) : (State.doneDesc x0 x1 x2).pwr = x0.pwr ∧ (State.doneDesc x0 x1 x2).clk = x0.clk ∧ (State.doneDesc x0 x1 x2).clay = x0.clay ∧ (State.doneDesc x0 x1 x2).pending = x0.pending := by
  unfold State.doneDesc; (try dsimp only); (repeat' split) <;> simp [*]

@[simp] theorem State.completeDesc_frame (x0 x1 x2 x3) : (State.completeDesc x0 x1 x2 x3).pwr = x0.pwr ∧ (State.completeDesc x0 x1 x2 x3).clk = x0.clk ∧ (State.completeDesc x0 x1 x2 x3).clay = x0.clay ∧ (State.completeDesc x0 x1 x2 x3).pending = x0.pending := by
  unfold State.completeDesc; (try dsimp only); (repeat' split) <;> simp [*]

@[simp] theorem State.signalled_frame (x0 x1 x2) : (State.signalled x0 x1 x2).pwr = x0.pwr ∧ (State.signalled x0 x1 x2).clk = x0.clk ∧ (State.signalled x0 x1 x2).clay = x0.clay ∧ (State.signalled x0 x1 x2).pending = x0.pending := by
  unfold State.signalled; (try dsimp only); (repeat' split) <;> simp [*]

@[simp] theorem State.finish_frame (x0 x1 x2 x3 x4) : (State.finish x0 x1 x2 x3 x4).pwr = x0.pwr ∧ (State.finish x0 x1 x2 x3 x4).clk = x0.clk ∧ (State.finish x0 x1 x2 x3 x4).clay = x0.clay ∧ (State.finish x0 x1 x2 x3 x4).mems = x0.mems ∧ (State.finish x0 x1 x2 x3 x4).pending = x0.pending := by
  unfold State.finish; (try dsimp only); (repeat' split) <;> simp [*]

@[simp] theorem State.qRegWrite_frame (x0 x1 x2 x3) : (State.qRegWrite x0 x1 x2 x3).pwr = x0.pwr ∧ (State.qRegWrite x0 x1 x2 x3).clk = x0.clk ∧ (State.qRegWrite x0 x1 x2 x3).clay = x0.clay ∧ (State.qRegWrite x0 x1 x2 x3).mems = x0.mems ∧ (State.qRegWrite x0 x1 x2 x3).pending = x0.pending := by
  unfold State.qRegWrite; (try dsimp only); (repeat' split) <;> simp only [State.ringObj_frame, State.wr_frame, State.keepWr_frame, foldl_pwr, foldl_clk, foldl_clay, foldl_mems, foldl_pending, and_self]

@[simp] theorem State.qTakeWrs_frame (x0 x1) : (State.qTakeWrs x0 x1).pwr = x0.pwr ∧ (State.qTakeWrs x0 x1).clk = x0.clk ∧ (State.qTakeWrs x0 x1).clay = x0.clay ∧ (State.qTakeWrs x0 x1).mems = x0.mems ∧ (State.qTakeWrs x0 x1).pending = x0.pending := by
  unfold State.qTakeWrs; (try dsimp only); (repeat' split) <;> simp only [State.ringObj_frame, State.takeWrs_frame, State.takePart_frame, foldl_pwr, foldl_clk, foldl_clay, foldl_mems, foldl_pending, and_self]

@[simp] theorem State.dropWatch_frame (x0 x1 x2) : (State.dropWatch x0 x1 x2).pwr = x0.pwr ∧ (State.dropWatch x0 x1 x2).clk = x0.clk ∧ (State.dropWatch x0 x1 x2).clay = x0.clay ∧ (State.dropWatch x0 x1 x2).mems = x0.mems ∧ (State.dropWatch x0 x1 x2).pending = x0.pending := by
  unfold State.dropWatch; (try dsimp only); (repeat' split) <;> simp only [State.unwatch_frame, State.emit_frame, foldl_pwr, foldl_clk, foldl_clay, foldl_mems, foldl_pending, and_self]

@[simp] theorem State.stopWaits_frame (x0 x1 x2) : (State.stopWaits x0 x1 x2).pwr = x0.pwr ∧ (State.stopWaits x0 x1 x2).clk = x0.clk ∧ (State.stopWaits x0 x1 x2).clay = x0.clay ∧ (State.stopWaits x0 x1 x2).pending = x0.pending := by
  induction x2 generalizing x0 x1 <;> simp only [State.stopWaits, *, and_self, apply_ite State.pwr, apply_ite State.clk, apply_ite State.clay, apply_ite State.pending] <;> (repeat' split) <;> simp [*, apply_ite State.pwr, apply_ite State.clk, apply_ite State.clay, apply_ite State.pending]

@[simp] theorem State.stopQueue_frame (x0 x1 x2) : (State.stopQueue x0 x1 x2).pwr = x0.pwr ∧ (State.stopQueue x0 x1 x2).clk = x0.clk ∧ (State.stopQueue x0 x1 x2).clay = x0.clay ∧ (State.stopQueue x0 x1 x2).pending = x0.pending := by
  unfold State.stopQueue; (try dsimp only); (repeat' split) <;> simp only [State.setQ_frame, State.setF_frame, State.stopWaits_frame, foldl_pwr, foldl_clk, foldl_clay, foldl_pending, and_self]

@[simp] theorem State.stopDescs_frame (x0 x1 x2) : (State.stopDescs x0 x1 x2).pwr = x0.pwr ∧ (State.stopDescs x0 x1 x2).clk = x0.clk ∧ (State.stopDescs x0 x1 x2).clay = x0.clay ∧ (State.stopDescs x0 x1 x2).pending = x0.pending := by
  induction x2 generalizing x0 x1 <;> simp only [State.stopDescs, *, and_self, apply_ite State.pwr, apply_ite State.clk, apply_ite State.clay, apply_ite State.pending] <;> (repeat' split) <;> simp [*, apply_ite State.pwr, apply_ite State.clk, apply_ite State.clay, apply_ite State.pending]

@[simp] theorem State.stopQueueJob_frame (x0 x1) : (State.stopQueueJob x0 x1).pwr = x0.pwr ∧ (State.stopQueueJob x0 x1).clk = x0.clk ∧ (State.stopQueueJob x0 x1).clay = x0.clay ∧ (State.stopQueueJob x0 x1).pending = x0.pending := by
  unfold State.stopQueueJob; (try dsimp only); (repeat' split) <;> simp [*]

@[simp] theorem State.runQueue_frame (x0 x1) : (State.runQueue x0 x1).pwr = x0.pwr ∧ (State.runQueue x0 x1).clk = x0.clk ∧ (State.runQueue x0 x1).clay = x0.clay ∧ (State.runQueue x0 x1).pending = x0.pending := by
  unfold State.runQueue; (try dsimp only); (repeat' split) <;> simp only [State.setF_frame, State.setQ_frame, State.ringObj_frame, State.stopQueueJob_frame, foldl_pwr, foldl_clk, foldl_clay, foldl_pending, and_self]

@[simp] theorem State.queueCommit_frame (x0 x1 x2) : (State.queueCommit x0 x1 x2).pwr = x0.pwr ∧ (State.queueCommit x0 x1 x2).clk = x0.clk ∧ (State.queueCommit x0 x1 x2).clay = x0.clay ∧ (State.queueCommit x0 x1 x2).pending = x0.pending := by
  unfold State.queueCommit; (try dsimp only); (repeat' split) <;> simp only [State.effWr_frame, State.runQueue_frame, State.setQ_frame, State.stopQueue_frame, foldl_pwr, foldl_clk, foldl_clay, foldl_pending, and_self]

@[simp] theorem State.queueIdle_frame (x0 x1) : (State.queueIdle x0 x1).pwr = x0.pwr ∧ (State.queueIdle x0 x1).clk = x0.clk ∧ (State.queueIdle x0 x1).clay = x0.clay ∧ (State.queueIdle x0 x1).pending = x0.pending := by
  unfold State.queueIdle; (try dsimp only); (repeat' split) <;> simp only [State.setQ_frame, State.setF_frame, State.postQ_frame, State.qTakeWrs_frame, State.runQueue_frame, foldl_pwr, foldl_clk, foldl_clay, foldl_pending, and_self]

@[simp] theorem State.queueError_frame (x0 x1 x2 x3) : (State.queueError x0 x1 x2 x3).pwr = x0.pwr ∧ (State.queueError x0 x1 x2 x3).clk = x0.clk ∧ (State.queueError x0 x1 x2 x3).clay = x0.clay ∧ (State.queueError x0 x1 x2 x3).pending = x0.pending := by
  unfold State.queueError; (try dsimp only); (repeat' split) <;> simp only [State.setF_frame, State.postQ_frame, foldl_pwr, foldl_clk, foldl_clay, foldl_pending, and_self]

@[simp] theorem State.doorbell_frame (x0 x1 x2) : (State.doorbell x0 x1 x2).pwr = x0.pwr ∧ (State.doorbell x0 x1 x2).clk = x0.clk ∧ (State.doorbell x0 x1 x2).clay = x0.clay ∧ (State.doorbell x0 x1 x2).mems = x0.mems ∧ (State.doorbell x0 x1 x2).pending = x0.pending := by
  unfold State.doorbell; (try dsimp only); (repeat' split) <;> simp only [State.setF_frame, foldl_pwr, foldl_clk, foldl_clay, foldl_mems, foldl_pending, and_self]

@[simp] theorem State.fetchSlot_frame (x0 x1) : (State.fetchSlot x0 x1).pwr = x0.pwr ∧ (State.fetchSlot x0 x1).clk = x0.clk ∧ (State.fetchSlot x0 x1).clay = x0.clay ∧ (State.fetchSlot x0 x1).mems = x0.mems ∧ (State.fetchSlot x0 x1).pending = x0.pending := by
  unfold State.fetchSlot; (try dsimp only); (repeat' split) <;> simp only [State.emit_frame, State.setQ_frame, foldl_pwr, foldl_clk, foldl_clay, foldl_mems, foldl_pending, and_self]

@[simp] theorem State.stopQueuesOf_frame (x0 x1 x2 x3) : (State.stopQueuesOf x0 x1 x2 x3).pwr = x0.pwr ∧ (State.stopQueuesOf x0 x1 x2 x3).clk = x0.clk ∧ (State.stopQueuesOf x0 x1 x2 x3).clay = x0.clay ∧ (State.stopQueuesOf x0 x1 x2 x3).pending = x0.pending := by
  induction x3 generalizing x0 <;> simp only [State.stopQueuesOf, *, and_self, apply_ite State.pwr, apply_ite State.clk, apply_ite State.clay, apply_ite State.pending] <;> (repeat' split) <;> simp [*, apply_ite State.pwr, apply_ite State.clk, apply_ite State.clay, apply_ite State.pending]

@[simp] theorem State.ttResult_frame (x0 x1 x2 x3) : (State.ttResult x0 x1 x2 x3).pwr = x0.pwr ∧ (State.ttResult x0 x1 x2 x3).clk = x0.clk ∧ (State.ttResult x0 x1 x2 x3).clay = x0.clay ∧ (State.ttResult x0 x1 x2 x3).pending = x0.pending := by
  unfold State.ttResult; (try dsimp only); (repeat' split) <;> simp only [State.setF_frame, State.post_frame, foldl_pwr, foldl_clk, foldl_clay, foldl_pending, and_self]

@[simp] theorem State.ttCheck_frame (x0 x1 x2) : (State.ttCheck x0 x1 x2).pwr = x0.pwr ∧ (State.ttCheck x0 x1 x2).clk = x0.clk ∧ (State.ttCheck x0 x1 x2).clay = x0.clay ∧ (State.ttCheck x0 x1 x2).pending = x0.pending := by
  unfold State.ttCheck; (try dsimp only); (repeat' split) <;> simp only [State.ttResult_frame, State.setF_frame, foldl_pwr, foldl_clk, foldl_clay, foldl_pending, and_self]

@[simp] theorem State.ttDone_frame (x0) : (State.ttDone x0).pwr = x0.pwr ∧ (State.ttDone x0).clk = x0.clk ∧ (State.ttDone x0).clay = x0.clay ∧ (State.ttDone x0).pending = x0.pending := by
  unfold State.ttDone; (try dsimp only); (repeat' split) <;> simp only [State.setF_frame, State.ttResult_frame, foldl_pwr, foldl_clk, foldl_clay, foldl_pending, and_self]

@[simp] theorem State.unarm_frame (x0) : (State.unarm x0).pwr = x0.pwr ∧ (State.unarm x0).clk = x0.clk ∧ (State.unarm x0).clay = x0.clay ∧ (State.unarm x0).mems = x0.mems ∧ (State.unarm x0).pending = x0.pending := by
  unfold State.unarm; (try dsimp only); (repeat' split) <;> simp only [State.setF_frame, foldl_pwr, foldl_clk, foldl_clay, foldl_mems, foldl_pending, and_self]

@[simp] theorem State.ttDisarm_frame (x0) : (State.ttDisarm x0).pwr = x0.pwr ∧ (State.ttDisarm x0).clk = x0.clk ∧ (State.ttDisarm x0).clay = x0.clay ∧ (State.ttDisarm x0).mems = x0.mems ∧ (State.ttDisarm x0).pending = x0.pending := by
  unfold State.ttDisarm; (try dsimp only); (repeat' split) <;> simp only [State.unarm_frame, foldl_pwr, foldl_clk, foldl_clay, foldl_mems, foldl_pending, and_self]

@[simp] theorem State.ttWrite_frame (x0 x1 x2 x3) : (State.ttWrite x0 x1 x2 x3).pwr = x0.pwr ∧ (State.ttWrite x0 x1 x2 x3).clk = x0.clk ∧ (State.ttWrite x0 x1 x2 x3).clay = x0.clay ∧ (State.ttWrite x0 x1 x2 x3).pending = x0.pending := by
  unfold State.ttWrite; (try dsimp only); (repeat' split) <;> simp only [State.setF_frame, foldl_pwr, foldl_clk, foldl_clay, foldl_pending, and_self]

@[simp] theorem State.freeStaged_frame (x0 x1) : (State.freeStaged x0 x1).pwr = x0.pwr ∧ (State.freeStaged x0 x1).clk = x0.clk ∧ (State.freeStaged x0 x1).clay = x0.clay ∧ (State.freeStaged x0 x1).mems = x0.mems ∧ (State.freeStaged x0 x1).pending = x0.pending := by
  unfold State.freeStaged; (try dsimp only); (repeat' split) <;> simp only [State.freeVc_frame, foldl_pwr, foldl_clk, foldl_clay, foldl_mems, foldl_pending, and_self]

@[simp] theorem State.creditStall_frame (x0 x1 x2) : (State.creditStall x0 x1 x2).pwr = x0.pwr ∧ (State.creditStall x0 x1 x2).clk = x0.clk ∧ (State.creditStall x0 x1 x2).clay = x0.clay ∧ (State.creditStall x0 x1 x2).pending = x0.pending := by
  unfold State.creditStall; (try dsimp only); (repeat' split) <;> simp only [State.post_frame, State.setF_frame, foldl_pwr, foldl_clk, foldl_clay, foldl_pending, and_self]

@[simp] theorem State.sendStaged_frame (x0 x1 x2 x3) : (State.sendStaged x0 x1 x2 x3).pwr = x0.pwr ∧ (State.sendStaged x0 x1 x2 x3).clk = x0.clk ∧ (State.sendStaged x0 x1 x2 x3).clay = x0.clay ∧ (State.sendStaged x0 x1 x2 x3).pending = x0.pending := by
  induction x3 generalizing x0 x1 x2 <;> simp only [State.sendStaged, *, and_self, apply_ite State.pwr, apply_ite State.clk, apply_ite State.clay, apply_ite State.pending] <;> (repeat' split) <;> simp [*, apply_ite State.pwr, apply_ite State.clk, apply_ite State.clay, apply_ite State.pending]

@[simp] theorem State.portSlot_frame (x0 x1) : (State.portSlot x0 x1).pwr = x0.pwr ∧ (State.portSlot x0 x1).clk = x0.clk ∧ (State.portSlot x0 x1).clay = x0.clay ∧ (State.portSlot x0 x1).pending = x0.pending := by
  unfold State.portSlot; (try dsimp only); (repeat' split) <;> simp only [State.sendStaged_frame, foldl_pwr, foldl_clk, foldl_clay, foldl_pending, and_self]

@[simp] theorem State.portsSlot_frame (x0) : (State.portsSlot x0).pwr = x0.pwr ∧ (State.portsSlot x0).clk = x0.clk ∧ (State.portsSlot x0).clay = x0.clay ∧ (State.portsSlot x0).pending = x0.pending := by
  simp [State.portsSlot, apply_ite State.pwr, apply_ite State.clk, apply_ite State.clay, apply_ite State.pending]

@[simp] theorem State.slotBoundary_frame (x0) : (State.slotBoundary x0).pwr = x0.pwr ∧ (State.slotBoundary x0).clay = x0.clay ∧ (State.slotBoundary x0).pending = x0.pending := by
  unfold State.slotBoundary; (try dsimp only); (repeat' split) <;> simp [*]

@[simp] theorem State.stageFlit_frame (x0 x1 x2 x3 x4 x5) : (State.stageFlit x0 x1 x2 x3 x4 x5).pwr = x0.pwr ∧ (State.stageFlit x0 x1 x2 x3 x4 x5).clk = x0.clk ∧ (State.stageFlit x0 x1 x2 x3 x4 x5).clay = x0.clay ∧ (State.stageFlit x0 x1 x2 x3 x4 x5).mems = x0.mems ∧ (State.stageFlit x0 x1 x2 x3 x4 x5).pending = x0.pending := by
  simp [State.stageFlit, apply_ite State.pwr, apply_ite State.clk, apply_ite State.clay, apply_ite State.mems, apply_ite State.pending]

@[simp] theorem State.tileFlit_frame (x0 x1 x2 x3) : (State.tileFlit x0 x1 x2 x3).pwr = x0.pwr ∧ (State.tileFlit x0 x1 x2 x3).clk = x0.clk ∧ (State.tileFlit x0 x1 x2 x3).clay = x0.clay ∧ (State.tileFlit x0 x1 x2 x3).mems = x0.mems ∧ (State.tileFlit x0 x1 x2 x3).pending = x0.pending := by
  unfold State.tileFlit; (try dsimp only); (repeat' split) <;> simp only [State.stageFlit_frame, foldl_pwr, foldl_clk, foldl_clay, foldl_mems, foldl_pending, and_self]

@[simp] theorem State.lateFlit_frame (x0 x1 x2) : (State.lateFlit x0 x1 x2).pwr = x0.pwr ∧ (State.lateFlit x0 x1 x2).clk = x0.clk ∧ (State.lateFlit x0 x1 x2).clay = x0.clay ∧ (State.lateFlit x0 x1 x2).pending = x0.pending := by
  unfold State.lateFlit; (try dsimp only); (repeat' split) <;> simp only [State.setF_frame, State.incF_frame, State.post_frame, foldl_pwr, foldl_clk, foldl_clay, foldl_pending, and_self]

@[simp] theorem State.schedArrive_frame (x0 x1 x2) : (State.schedArrive x0 x1 x2).pwr = x0.pwr ∧ (State.schedArrive x0 x1 x2).clk = x0.clk ∧ (State.schedArrive x0 x1 x2).clay = x0.clay ∧ (State.schedArrive x0 x1 x2).pending = x0.pending := by
  unfold State.schedArrive; (try dsimp only); (repeat' split) <;> simp only [State.lateFlit_frame, State.emit_frame, State.freeStaged_frame, State.stageFlit_frame, foldl_pwr, foldl_clk, foldl_clay, foldl_pending, and_self]

@[simp] theorem State.dropStaged_frame (x0 x1) : (State.dropStaged x0 x1).pwr = x0.pwr ∧ (State.dropStaged x0 x1).clk = x0.clk ∧ (State.dropStaged x0 x1).clay = x0.clay ∧ (State.dropStaged x0 x1).mems = x0.mems ∧ (State.dropStaged x0 x1).pending = x0.pending := by
  unfold State.dropStaged; (try dsimp only); (repeat' split) <;> simp [*]

@[simp] theorem State.ttSwap_frame (x0) : (State.ttSwap x0).pwr = x0.pwr ∧ (State.ttSwap x0).clk = x0.clk ∧ (State.ttSwap x0).clay = x0.clay ∧ (State.ttSwap x0).pending = x0.pending := by
  unfold State.ttSwap; (try dsimp only); (repeat' split) <;> simp [*]

@[simp] theorem State.inBackground_pwr (x0 x1 x2) (h2 : ∀ y0, (x2 y0).pwr = y0.pwr) : (State.inBackground x0 x1 x2).pwr = x0.pwr := by
  unfold State.inBackground; (try dsimp only); (repeat' split) <;> simp [*]

@[simp] theorem State.inBackground_clk (x0 x1 x2) (h2 : ∀ y0, (x2 y0).clk = y0.clk) : (State.inBackground x0 x1 x2).clk = x0.clk := by
  unfold State.inBackground; (try dsimp only); (repeat' split) <;> simp [*]

@[simp] theorem State.inBackground_clay (x0 x1 x2) (h2 : ∀ y0, (x2 y0).clay = y0.clay) : (State.inBackground x0 x1 x2).clay = x0.clay := by
  unfold State.inBackground; (try dsimp only); (repeat' split) <;> simp [*]

@[simp] theorem State.inBackground_mems (x0 x1 x2) (h2 : ∀ y0, (x2 y0).mems = y0.mems) : (State.inBackground x0 x1 x2).mems = x0.mems := by
  unfold State.inBackground; (try dsimp only); (repeat' split) <;> simp [*]

@[simp] theorem State.inBackground_pending (x0 x1 x2) (h2 : ∀ y0, (x2 y0).pending = y0.pending) : (State.inBackground x0 x1 x2).pending = x0.pending := by
  unfold State.inBackground; (try dsimp only); (repeat' split) <;> simp [*]

@[simp] theorem State.telemetry_frame (x0) : (State.telemetry x0).pwr = x0.pwr ∧ (State.telemetry x0).clk = x0.clk ∧ (State.telemetry x0).clay = x0.clay ∧ (State.telemetry x0).mems = x0.mems ∧ (State.telemetry x0).pending = x0.pending := by
  unfold State.telemetry; (try dsimp only); (repeat' split) <;> simp only [State.wr_frame, foldl_pwr, foldl_clk, foldl_clay, foldl_mems, foldl_pending, and_self]

@[simp] theorem State.setOutq_frame (x0 x1 x2) : (State.setOutq x0 x1 x2).pwr = x0.pwr ∧ (State.setOutq x0 x1 x2).clk = x0.clk ∧ (State.setOutq x0 x1 x2).clay = x0.clay ∧ (State.setOutq x0 x1 x2).mems = x0.mems ∧ (State.setOutq x0 x1 x2).pending = x0.pending := by
  unfold State.setOutq; (try dsimp only); (repeat' split) <;> simp only [foldl_pwr, foldl_clk, foldl_clay, foldl_mems, foldl_pending, and_self]

@[simp] theorem State.redMark_frame (x0 x1 x2 x3 x4 x5) : (State.redMark x0 x1 x2 x3 x4 x5).2.pwr = x0.pwr ∧ (State.redMark x0 x1 x2 x3 x4 x5).2.clk = x0.clk ∧ (State.redMark x0 x1 x2 x3 x4 x5).2.clay = x0.clay ∧ (State.redMark x0 x1 x2 x3 x4 x5).2.mems = x0.mems ∧ (State.redMark x0 x1 x2 x3 x4 x5).2.pending = x0.pending := by
  unfold State.redMark; (try dsimp only); (repeat' split) <;> simp only [foldl_pwr, foldl_clk, foldl_clay, foldl_mems, foldl_pending, and_self]

@[simp] theorem State.mark_frame (x0 x1 x2) : (State.mark x0 x1 x2).2.pwr = x0.pwr ∧ (State.mark x0 x1 x2).2.clk = x0.clk ∧ (State.mark x0 x1 x2).2.clay = x0.clay ∧ (State.mark x0 x1 x2).2.mems = x0.mems ∧ (State.mark x0 x1 x2).2.pending = x0.pending := by
  unfold State.mark; (try dsimp only); (repeat' split) <;> simp only [State.redMark_frame, State.incF_frame, foldl_pwr, foldl_clk, foldl_clay, foldl_mems, foldl_pending, and_self]

@[simp] theorem State.tampInto_frame (x0 x1 x2 x3) : (State.tampInto x0 x1 x2 x3).2.pwr = x0.pwr ∧ (State.tampInto x0 x1 x2 x3).2.clk = x0.clk ∧ (State.tampInto x0 x1 x2 x3).2.clay = x0.clay ∧ (State.tampInto x0 x1 x2 x3).2.mems = x0.mems ∧ (State.tampInto x0 x1 x2 x3).2.pending = x0.pending := by
  unfold State.tampInto; (try dsimp only); (repeat' split) <;> simp only [foldl_pwr, foldl_clk, foldl_clay, foldl_mems, foldl_pending, and_self]

@[simp] theorem State.tampNew_frame (x0 x1 x2 x3) : (State.tampNew x0 x1 x2 x3).2.pwr = x0.pwr ∧ (State.tampNew x0 x1 x2 x3).2.clk = x0.clk ∧ (State.tampNew x0 x1 x2 x3).2.clay = x0.clay ∧ (State.tampNew x0 x1 x2 x3).2.mems = x0.mems ∧ (State.tampNew x0 x1 x2 x3).2.pending = x0.pending := by
  unfold State.tampNew; (try dsimp only); (repeat' split) <;> simp only [foldl_pwr, foldl_clk, foldl_clay, foldl_mems, foldl_pending, and_self]

theorem State.tamp_frame (x0 x1 x2) (t : State) (h : (State.tamp x0 x1 x2) = some t) : t.pwr = x0.pwr ∧ t.clk = x0.clk ∧ t.clay = x0.clay ∧ t.mems = x0.mems ∧ t.pending = x0.pending := by
  simp only [State.tamp] at h
  split at h
  · cases h
  · split at h
    · cases h
      split <;> simp
    · cases h

@[simp] theorem State.completeContrib_frame (x0 x1 x2) : (State.completeContrib x0 x1 x2).pwr = x0.pwr ∧ (State.completeContrib x0 x1 x2).clk = x0.clk ∧ (State.completeContrib x0 x1 x2).clay = x0.clay ∧ (State.completeContrib x0 x1 x2).mems = x0.mems ∧ (State.completeContrib x0 x1 x2).pending = x0.pending := by
  unfold State.completeContrib; (try dsimp only); (repeat' split) <;> simp only [State.sendCpl_frame, foldl_pwr, foldl_clk, foldl_clay, foldl_mems, foldl_pending, and_self]

@[simp] theorem State.tampedCpl_frame (x0 x1) : (State.tampedCpl x0 x1).pwr = x0.pwr ∧ (State.tampedCpl x0 x1).clk = x0.clk ∧ (State.tampedCpl x0 x1).clay = x0.clay ∧ (State.tampedCpl x0 x1).mems = x0.mems ∧ (State.tampedCpl x0 x1).pending = x0.pending := by
  unfold State.tampedCpl; (try dsimp only); (repeat' split) <;> simp [*]

@[simp] theorem State.escHold_frame (x0 x1 x2) : (State.escHold x0 x1 x2).pwr = x0.pwr ∧ (State.escHold x0 x1 x2).clk = x0.clk ∧ (State.escHold x0 x1 x2).clay = x0.clay ∧ (State.escHold x0 x1 x2).pending = x0.pending := by
  unfold State.escHold; (try dsimp only); (repeat' split) <;> simp only [State.setF_frame, State.post_frame, foldl_pwr, foldl_clk, foldl_clay, foldl_pending, and_self]

@[simp] theorem State.join_frame (x0 x1 x2 x3 x4) : (State.join x0 x1 x2 x3 x4).pwr = x0.pwr ∧ (State.join x0 x1 x2 x3 x4).clk = x0.clk ∧ (State.join x0 x1 x2 x3 x4).clay = x0.clay ∧ (State.join x0 x1 x2 x3 x4).mems = x0.mems ∧ (State.join x0 x1 x2 x3 x4).pending = x0.pending := by
  unfold State.join
  dsimp only
  split
  · rename_i r
    rcases ht : State.tamp x0 x2 r with _ | t
    · simp [apply_ite State.pwr, apply_ite State.clk, apply_ite State.clay, apply_ite State.mems, apply_ite State.pending]
    · have := State.tamp_frame _ _ _ t ht
      simp [this, apply_ite State.pwr, apply_ite State.clk, apply_ite State.clay, apply_ite State.mems, apply_ite State.pending]
  · simp

@[simp] theorem State.enqueue_frame (x0 x1 x2 x3 x4) : (State.enqueue x0 x1 x2 x3 x4).pwr = x0.pwr ∧ (State.enqueue x0 x1 x2 x3 x4).clk = x0.clk ∧ (State.enqueue x0 x1 x2 x3 x4).clay = x0.clay ∧ (State.enqueue x0 x1 x2 x3 x4).mems = x0.mems ∧ (State.enqueue x0 x1 x2 x3 x4).pending = x0.pending := by
  unfold State.enqueue; (try dsimp only); (repeat' split) <;> simp only [State.mark_frame, State.join_frame, State.setF_frame, foldl_pwr, foldl_clk, foldl_clay, foldl_mems, foldl_pending, and_self]

@[simp] theorem State.arrived_frame (x0 x1 x2) : (State.arrived x0 x1 x2).pwr = x0.pwr ∧ (State.arrived x0 x1 x2).clk = x0.clk ∧ (State.arrived x0 x1 x2).clay = x0.clay ∧ (State.arrived x0 x1 x2).mems = x0.mems ∧ (State.arrived x0 x1 x2).pending = x0.pending := by
  unfold State.arrived; (try dsimp only); (repeat' split) <;> simp only [State.join_frame, State.emit_frame, foldl_pwr, foldl_clk, foldl_clay, foldl_mems, foldl_pending, and_self]

@[simp] theorem State.serveHome_frame (x0) : (State.serveHome x0).pwr = x0.pwr ∧ (State.serveHome x0).clk = x0.clk ∧ (State.serveHome x0).clay = x0.clay ∧ (State.serveHome x0).mems = x0.mems ∧ (State.serveHome x0).pending = x0.pending := by
  unfold State.serveHome; (try dsimp only); (repeat' split) <;> simp only [State.emit_frame, State.setOutq_frame, foldl_pwr, foldl_clk, foldl_clay, foldl_mems, foldl_pending, and_self]

@[simp] theorem State.discard_frame (x0 x1) : (State.discard x0 x1).pwr = x0.pwr ∧ (State.discard x0 x1).clk = x0.clk ∧ (State.discard x0 x1).clay = x0.clay ∧ (State.discard x0 x1).mems = x0.mems ∧ (State.discard x0 x1).pending = x0.pending := by
  unfold State.discard; (try dsimp only); (repeat' split) <;> simp only [State.incF_frame, foldl_pwr, foldl_clk, foldl_clay, foldl_mems, foldl_pending, and_self]

@[simp] theorem State.forward_frame (x0 x1 x2) : (State.forward x0 x1 x2).pwr = x0.pwr ∧ (State.forward x0 x1 x2).clk = x0.clk ∧ (State.forward x0 x1 x2).clay = x0.clay ∧ (State.forward x0 x1 x2).pending = x0.pending := by
  unfold State.forward; (try dsimp only); (repeat' split) <;> simp only [State.discard_frame, State.enqueue_frame, State.arrived_frame, State.escHold_frame, foldl_pwr, foldl_clk, foldl_clay, foldl_pending, and_self]

@[simp] theorem State.reroute_frame (x0) : (State.reroute x0).pwr = x0.pwr ∧ (State.reroute x0).clk = x0.clk ∧ (State.reroute x0).clay = x0.clay ∧ (State.reroute x0).pending = x0.pending := by
  unfold State.reroute; (try dsimp only); (repeat' split) <;> simp [*]

@[simp] theorem State.requeue_frame (x0 x1) : (State.requeue x0 x1).pwr = x0.pwr ∧ (State.requeue x0 x1).clk = x0.clk ∧ (State.requeue x0 x1).clay = x0.clay ∧ (State.requeue x0 x1).pending = x0.pending := by
  unfold State.requeue; (try dsimp only); (repeat' split) <;> simp [*]

@[simp] theorem State.serve_frame (x0 x1) : (State.serve x0 x1).pwr = x0.pwr ∧ (State.serve x0 x1).clk = x0.clk ∧ (State.serve x0 x1).clay = x0.clay ∧ (State.serve x0 x1).mems = x0.mems ∧ (State.serve x0 x1).pending = x0.pending := by
  unfold State.serve; (try dsimp only); (repeat' split) <;> simp only [State.setOutq_frame, State.sendNow_frame, foldl_pwr, foldl_clk, foldl_clay, foldl_mems, foldl_pending, and_self]

@[simp] theorem State.expelTamp_frame (x0 x1 x2) : (State.expelTamp x0 x1 x2).pwr = x0.pwr ∧ (State.expelTamp x0 x1 x2).clk = x0.clk ∧ (State.expelTamp x0 x1 x2).clay = x0.clay ∧ (State.expelTamp x0 x1 x2).mems = x0.mems ∧ (State.expelTamp x0 x1 x2).pending = x0.pending := by
  unfold State.expelTamp; (try dsimp only); (repeat' split) <;> simp [*]

@[simp] theorem State.resendTamps_frame (x0 x1) : (State.resendTamps x0 x1).pwr = x0.pwr ∧ (State.resendTamps x0 x1).clk = x0.clk ∧ (State.resendTamps x0 x1).clay = x0.clay ∧ (State.resendTamps x0 x1).mems = x0.mems ∧ (State.resendTamps x0 x1).pending = x0.pending := by
  unfold State.resendTamps; (try dsimp only); (repeat' split) <;> simp [*]

@[simp] theorem State.swcCommit_frame (x0) : (State.swcCommit x0).pwr = x0.pwr ∧ (State.swcCommit x0).clk = x0.clk ∧ (State.swcCommit x0).clay = x0.clay ∧ (State.swcCommit x0).mems = x0.mems ∧ (State.swcCommit x0).pending = x0.pending := by
  unfold State.swcCommit; (try dsimp only); (repeat' split) <;> simp only [State.effWr_frame, foldl_pwr, foldl_clk, foldl_clay, foldl_mems, foldl_pending, and_self]

@[simp] theorem State.issueReq_frame (x0 x1 x2 x3) : (State.issueReq x0 x1 x2 x3).2.pwr = x0.pwr ∧ (State.issueReq x0 x1 x2 x3).2.clk = x0.clk ∧ (State.issueReq x0 x1 x2 x3).2.clay = x0.clay ∧ (State.issueReq x0 x1 x2 x3).2.mems = x0.mems ∧ (State.issueReq x0 x1 x2 x3).2.pending = x0.pending := by
  unfold State.issueReq; (try dsimp only); (repeat' split) <;> simp only [State.nextSeq_frame, State.prevWrite_frame, State.colour_frame, State.sendReq_frame, foldl_pwr, foldl_clk, foldl_clay, foldl_mems, foldl_pending, and_self]

@[simp] theorem State.setPace_frame (x0 x1 x2 x3) : (State.setPace x0 x1 x2 x3).pwr = x0.pwr ∧ (State.setPace x0 x1 x2 x3).clk = x0.clk ∧ (State.setPace x0 x1 x2 x3).clay = x0.clay ∧ (State.setPace x0 x1 x2 x3).mems = x0.mems ∧ (State.setPace x0 x1 x2 x3).pending = x0.pending := by
  unfold State.setPace; (try dsimp only); (repeat' split) <;> simp only [foldl_pwr, foldl_clk, foldl_clay, foldl_mems, foldl_pending, and_self]

@[simp] theorem State.paceCe_frame (x0 x1 x2 x3) : (State.paceCe x0 x1 x2 x3).pwr = x0.pwr ∧ (State.paceCe x0 x1 x2 x3).clk = x0.clk ∧ (State.paceCe x0 x1 x2 x3).clay = x0.clay ∧ (State.paceCe x0 x1 x2 x3).mems = x0.mems ∧ (State.paceCe x0 x1 x2 x3).pending = x0.pending := by
  unfold State.paceCe; (try dsimp only); (repeat' split) <;> simp only [State.setPace_frame, foldl_pwr, foldl_clk, foldl_clay, foldl_mems, foldl_pending, and_self]

@[simp] theorem State.ackReq_frame (x0 x1) : (State.ackReq x0 x1).pwr = x0.pwr ∧ (State.ackReq x0 x1).clk = x0.clk ∧ (State.ackReq x0 x1).clay = x0.clay ∧ (State.ackReq x0 x1).mems = x0.mems ∧ (State.ackReq x0 x1).pending = x0.pending := by
  unfold State.ackReq; (try dsimp only); (repeat' split) <;> simp only [State.sendCpl_frame, foldl_pwr, foldl_clk, foldl_clay, foldl_mems, foldl_pending, and_self]

@[simp] theorem State.io_frame (x0 x1 x2 x3 x4) : (State.io x0 x1 x2 x3 x4).s.pwr = x0.pwr ∧ (State.io x0 x1 x2 x3 x4).s.clk = x0.clk ∧ (State.io x0 x1 x2 x3 x4).s.clay = x0.clay ∧ (State.io x0 x1 x2 x3 x4).s.mems = x0.mems ∧ (State.io x0 x1 x2 x3 x4).s.pending = x0.pending := by
  unfold State.io; (try dsimp only); (repeat' split) <;> simp only [foldl_pwr, foldl_clk, foldl_clay, foldl_mems, foldl_pending, and_self]

@[simp] theorem Io.fail_frame (x0 x1 x2) : (Io.fail x0 x1 x2).s.pwr = x0.s.pwr ∧ (Io.fail x0 x1 x2).s.clk = x0.s.clk ∧ (Io.fail x0 x1 x2).s.clay = x0.s.clay ∧ (Io.fail x0 x1 x2).s.mems = x0.s.mems ∧ (Io.fail x0 x1 x2).s.pending = x0.s.pending := by
  unfold Io.fail; (try dsimp only); (repeat' split) <;> simp only [foldl_pwr, foldl_clk, foldl_clay, foldl_mems, foldl_pending, and_self]

@[simp] theorem Io.answer_frame (x0 x1) : (Io.answer x0 x1).2.s.pwr = x0.s.pwr ∧ (Io.answer x0 x1).2.s.clk = x0.s.clk ∧ (Io.answer x0 x1).2.s.clay = x0.s.clay ∧ (Io.answer x0 x1).2.s.mems = x0.s.mems ∧ (Io.answer x0 x1).2.s.pending = x0.s.pending := by
  unfold Io.answer; (try dsimp only); (repeat' split) <;> simp only [State.drawBytes_frame, foldl_pwr, foldl_clk, foldl_clay, foldl_mems, foldl_pending, and_self]

@[simp] theorem Io.range_frame (x0 x1 x2) : (Io.range x0 x1 x2).2.s.pwr = x0.s.pwr ∧ (Io.range x0 x1 x2).2.s.clk = x0.s.clk ∧ (Io.range x0 x1 x2).2.s.clay = x0.s.clay ∧ (Io.range x0 x1 x2).2.s.mems = x0.s.mems ∧ (Io.range x0 x1 x2).2.s.pending = x0.s.pending := by
  unfold Io.range; (try dsimp only); (repeat' split) <;> simp only [Io.fail_frame, foldl_pwr, foldl_clk, foldl_clay, foldl_mems, foldl_pending, and_self]

@[simp] theorem Io.touch_frame (x0 x1 x2 x3 x4) : (Io.touch x0 x1 x2 x3 x4).s.pwr = x0.s.pwr ∧ (Io.touch x0 x1 x2 x3 x4).s.clk = x0.s.clk ∧ (Io.touch x0 x1 x2 x3 x4).s.clay = x0.s.clay ∧ (Io.touch x0 x1 x2 x3 x4).s.mems = x0.s.mems ∧ (Io.touch x0 x1 x2 x3 x4).s.pending = x0.s.pending := by
  unfold Io.touch; (try dsimp only); (repeat' split) <;> simp only [Io.fail_frame, foldl_pwr, foldl_clk, foldl_clay, foldl_mems, foldl_pending, and_self]

@[simp] theorem Io.send_frame (x0 x1 x2 x3 x4) : (Io.send x0 x1 x2 x3 x4).2.s.pwr = x0.s.pwr ∧ (Io.send x0 x1 x2 x3 x4).2.s.clk = x0.s.clk ∧ (Io.send x0 x1 x2 x3 x4).2.s.clay = x0.s.clay ∧ (Io.send x0 x1 x2 x3 x4).2.s.mems = x0.s.mems ∧ (Io.send x0 x1 x2 x3 x4).2.s.pending = x0.s.pending := by
  unfold Io.send; (try dsimp only); (repeat' split) <;> simp only [Io.fail_frame, State.issueReq_frame, Io.answer_frame, State.paceCe_frame, State.ackReq_frame, foldl_pwr, foldl_clk, foldl_clay, foldl_mems, foldl_pending, and_self]

@[simp] theorem Io.loads_frame (x0 x1 x2 x3 x4 x5) : (Io.loads x0 x1 x2 x3 x4 x5).2.s.pwr = x5.s.pwr ∧ (Io.loads x0 x1 x2 x3 x4 x5).2.s.clk = x5.s.clk ∧ (Io.loads x0 x1 x2 x3 x4 x5).2.s.clay = x5.s.clay ∧ (Io.loads x0 x1 x2 x3 x4 x5).2.s.mems = x5.s.mems ∧ (Io.loads x0 x1 x2 x3 x4 x5).2.s.pending = x5.s.pending := by
  induction x2 generalizing x1 x3 x4 x5 <;> simp only [Io.loads, *, and_self, apply_ite State.pwr, apply_ite State.clk, apply_ite State.clay, apply_ite State.mems, apply_ite State.pending] <;> (repeat' split) <;> simp [*, apply_ite State.pwr, apply_ite State.clk, apply_ite State.clay, apply_ite State.mems, apply_ite State.pending]

@[simp] theorem Io.load_frame (x0 x1 x2 x3 x4) : (Io.load x0 x1 x2 x3 x4).2.s.pwr = x0.s.pwr ∧ (Io.load x0 x1 x2 x3 x4).2.s.clk = x0.s.clk ∧ (Io.load x0 x1 x2 x3 x4).2.s.clay = x0.s.clay ∧ (Io.load x0 x1 x2 x3 x4).2.s.mems = x0.s.mems ∧ (Io.load x0 x1 x2 x3 x4).2.s.pending = x0.s.pending := by
  unfold Io.load; (try dsimp only); (repeat' split) <;> simp only [Io.loads_frame, foldl_pwr, foldl_clk, foldl_clay, foldl_mems, foldl_pending, and_self]

@[simp] theorem Io.stores_frame (x0 x1 x2 x3 x4 x5) : (Io.stores x0 x1 x2 x3 x4 x5).2.s.pwr = x5.s.pwr ∧ (Io.stores x0 x1 x2 x3 x4 x5).2.s.clk = x5.s.clk ∧ (Io.stores x0 x1 x2 x3 x4 x5).2.s.clay = x5.s.clay ∧ (Io.stores x0 x1 x2 x3 x4 x5).2.s.mems = x5.s.mems ∧ (Io.stores x0 x1 x2 x3 x4 x5).2.s.pending = x5.s.pending := by
  induction x2 generalizing x1 x3 x4 x5 <;> simp only [Io.stores, *, and_self, apply_ite State.pwr, apply_ite State.clk, apply_ite State.clay, apply_ite State.mems, apply_ite State.pending] <;> (repeat' split) <;> simp [*, apply_ite State.pwr, apply_ite State.clk, apply_ite State.clay, apply_ite State.mems, apply_ite State.pending]

@[simp] theorem Io.store_frame (x0 x1 x2 x3 x4) : (Io.store x0 x1 x2 x3 x4).2.s.pwr = x0.s.pwr ∧ (Io.store x0 x1 x2 x3 x4).2.s.clk = x0.s.clk ∧ (Io.store x0 x1 x2 x3 x4).2.s.clay = x0.s.clay ∧ (Io.store x0 x1 x2 x3 x4).2.s.mems = x0.s.mems ∧ (Io.store x0 x1 x2 x3 x4).2.s.pending = x0.s.pending := by
  unfold Io.store; (try dsimp only); (repeat' split) <;> simp only [Io.stores_frame, foldl_pwr, foldl_clk, foldl_clay, foldl_mems, foldl_pending, and_self]

@[simp] theorem Io.loadOp_frame (x0 x1 x2 x3 x4) : (Io.loadOp x0 x1 x2 x3 x4).2.s.pwr = x0.s.pwr ∧ (Io.loadOp x0 x1 x2 x3 x4).2.s.clk = x0.s.clk ∧ (Io.loadOp x0 x1 x2 x3 x4).2.s.clay = x0.s.clay ∧ (Io.loadOp x0 x1 x2 x3 x4).2.s.mems = x0.s.mems ∧ (Io.loadOp x0 x1 x2 x3 x4).2.s.pending = x0.s.pending := by
  unfold Io.loadOp
  split
  · simp
  · have h := Io.range_frame x0 (x1.w x2).toNat x2
    rcases hr : x0.range (x1.w x2).toNat x2 with ⟨o, i⟩
    rw [hr] at h
    rcases o with _ | e <;> simp_all

@[simp] theorem Io.storeOp_frame (x0 x1 x2 x3 x4) : (Io.storeOp x0 x1 x2 x3 x4).s.pwr = x0.s.pwr ∧ (Io.storeOp x0 x1 x2 x3 x4).s.clk = x0.s.clk ∧ (Io.storeOp x0 x1 x2 x3 x4).s.clay = x0.s.clay ∧ (Io.storeOp x0 x1 x2 x3 x4).s.mems = x0.s.mems ∧ (Io.storeOp x0 x1 x2 x3 x4).s.pending = x0.s.pending := by
  unfold Io.storeOp
  split
  · simp
  · have h := Io.range_frame x0 (x1.w x2).toNat x2
    rcases hr : x0.range (x1.w x2).toNat x2 with ⟨o, i⟩
    rw [hr] at h
    rcases o with _ | e <;> simp_all

@[simp] theorem Io.busLoad_frame (x0 x1 x2 x3) : (Io.busLoad x0 x1 x2 x3).2.s.pwr = x0.s.pwr ∧ (Io.busLoad x0 x1 x2 x3).2.s.clk = x0.s.clk ∧ (Io.busLoad x0 x1 x2 x3).2.s.clay = x0.s.clay ∧ (Io.busLoad x0 x1 x2 x3).2.s.mems = x0.s.mems ∧ (Io.busLoad x0 x1 x2 x3).2.s.pending = x0.s.pending := by
  unfold Io.busLoad; (try dsimp only); (repeat' split) <;> simp only [Io.answer_frame, State.emit_frame, Io.fail_frame, foldl_pwr, foldl_clk, foldl_clay, foldl_mems, foldl_pending, and_self]

@[simp] theorem Io.busStore_frame (x0 x1 x2) : (Io.busStore x0 x1 x2).s.pwr = x0.s.pwr ∧ (Io.busStore x0 x1 x2).s.clk = x0.s.clk ∧ (Io.busStore x0 x1 x2).s.clay = x0.s.clay ∧ (Io.busStore x0 x1 x2).s.mems = x0.s.mems ∧ (Io.busStore x0 x1 x2).s.pending = x0.s.pending := by
  unfold Io.busStore; (try dsimp only); (repeat' split) <;> simp only [State.emit_frame, foldl_pwr, foldl_clk, foldl_clay, foldl_mems, foldl_pending, and_self]

end Sys2Proof.Machine
end

