-- ==== Sys2Proof/Laws/FrameHome.lean ====
section
/-!
SUPPORT. Frames of groups, the memory home, clay: which of the pins, the clock, clay, the memories and the queue each function leaves as they were.
A lemma `f_frame` names those that `f` never changes; a component that it does not name may change.
-/

set_option linter.all false

namespace Sys2Proof.Machine

@[simp] theorem State.setGrpLive_frame (x0 x1 x2) : (State.setGrpLive x0 x1 x2).pwr = x0.pwr ∧ (State.setGrpLive x0 x1 x2).clk = x0.clk ∧ (State.setGrpLive x0 x1 x2).clay = x0.clay ∧ (State.setGrpLive x0 x1 x2).pending = x0.pending := by
  unfold State.setGrpLive; (try dsimp only); (repeat' split) <;> simp only [foldl_pwr, foldl_clk, foldl_clay, foldl_pending, and_self]

@[simp] theorem State.grpCmd_frame (x0 x1) : (State.grpCmd x0 x1).pwr = x0.pwr ∧ (State.grpCmd x0 x1).clk = x0.clk ∧ (State.grpCmd x0 x1).clay = x0.clay ∧ (State.grpCmd x0 x1).mems = x0.mems ∧ (State.grpCmd x0 x1).pending = x0.pending := by
  unfold State.grpCmd; (try dsimp only); (repeat' split) <;> simp only [State.setF_frame, foldl_pwr, foldl_clk, foldl_clay, foldl_mems, foldl_pending, and_self]

@[simp] theorem State.grpDone_frame (x0) : (State.grpDone x0).pwr = x0.pwr ∧ (State.grpDone x0).clk = x0.clk ∧ (State.grpDone x0).clay = x0.clay ∧ (State.grpDone x0).pending = x0.pending := by
  unfold State.grpDone; (try dsimp only); (repeat' split) <;> simp only [State.setF_frame, State.setGrpLive_frame, foldl_pwr, foldl_clk, foldl_clay, foldl_pending, and_self]

@[simp] theorem State.gwinWrite_frame (x0 x1 x2 x3) : (State.gwinWrite x0 x1 x2 x3).pwr = x0.pwr ∧ (State.gwinWrite x0 x1 x2 x3).clk = x0.clk ∧ (State.gwinWrite x0 x1 x2 x3).clay = x0.clay ∧ (State.gwinWrite x0 x1 x2 x3).pending = x0.pending := by
  unfold State.gwinWrite; (try dsimp only); (repeat' split) <;> simp only [State.setF_frame, State.setGrpLive_frame, foldl_pwr, foldl_clk, foldl_clay, foldl_pending, and_self]

@[simp] theorem State.setEhW_frame (x0 x1 x2 x3) : (State.setEhW x0 x1 x2 x3).pwr = x0.pwr ∧ (State.setEhW x0 x1 x2 x3).clk = x0.clk ∧ (State.setEhW x0 x1 x2 x3).clay = x0.clay ∧ (State.setEhW x0 x1 x2 x3).pending = x0.pending := by
  unfold State.setEhW; (try dsimp only); (repeat' split) <;> simp only [foldl_pwr, foldl_clk, foldl_clay, foldl_pending, and_self]

@[simp] theorem State.emapCmd_frame (x0 x1) : (State.emapCmd x0 x1).pwr = x0.pwr ∧ (State.emapCmd x0 x1).clk = x0.clk ∧ (State.emapCmd x0 x1).clay = x0.clay ∧ (State.emapCmd x0 x1).mems = x0.mems ∧ (State.emapCmd x0 x1).pending = x0.pending := by
  unfold State.emapCmd; (try dsimp only); (repeat' split) <;> simp only [State.setF_frame, foldl_pwr, foldl_clk, foldl_clay, foldl_mems, foldl_pending, and_self]

@[simp] theorem State.emapDone_frame (x0 x1) : (State.emapDone x0 x1).pwr = x0.pwr ∧ (State.emapDone x0 x1).clk = x0.clk ∧ (State.emapDone x0 x1).clay = x0.clay ∧ (State.emapDone x0 x1).pending = x0.pending := by
  unfold State.emapDone; (try dsimp only); (repeat' split) <;> simp only [State.setF_frame, State.incF_frame, State.setEhW_frame, foldl_pwr, foldl_clk, foldl_clay, foldl_pending, and_self]

@[simp] theorem State.ehdrWrite_frame (x0 x1 x2 x3) : (State.ehdrWrite x0 x1 x2 x3).pwr = x0.pwr ∧ (State.ehdrWrite x0 x1 x2 x3).clk = x0.clk ∧ (State.ehdrWrite x0 x1 x2 x3).clay = x0.clay ∧ (State.ehdrWrite x0 x1 x2 x3).pending = x0.pending := by
  unfold State.ehdrWrite; (try dsimp only); (repeat' split) <;> simp only [State.setF_frame, State.setEhW_frame, foldl_pwr, foldl_clk, foldl_clay, foldl_pending, and_self]

@[simp] theorem State.ewinWrite_frame (x0 x1 x2 x3) : (State.ewinWrite x0 x1 x2 x3).pwr = x0.pwr ∧ (State.ewinWrite x0 x1 x2 x3).clk = x0.clk ∧ (State.ewinWrite x0 x1 x2 x3).clay = x0.clay ∧ (State.ewinWrite x0 x1 x2 x3).pending = x0.pending := by
  unfold State.ewinWrite; (try dsimp only); (repeat' split) <;> simp only [State.setF_frame, foldl_pwr, foldl_clk, foldl_clay, foldl_pending, and_self]

@[simp] theorem State.setExtW_frame (x0 x1 x2 x3) : (State.setExtW x0 x1 x2 x3).pwr = x0.pwr ∧ (State.setExtW x0 x1 x2 x3).clk = x0.clk ∧ (State.setExtW x0 x1 x2 x3).clay = x0.clay ∧ (State.setExtW x0 x1 x2 x3).pending = x0.pending := by
  unfold State.setExtW; (try dsimp only); (repeat' split) <;> simp only [foldl_pwr, foldl_clk, foldl_clay, foldl_pending, and_self]

@[simp] theorem State.setExtF_frame (x0 x1 x2 x3 x4 x5) : (State.setExtF x0 x1 x2 x3 x4 x5).pwr = x0.pwr ∧ (State.setExtF x0 x1 x2 x3 x4 x5).clk = x0.clk ∧ (State.setExtF x0 x1 x2 x3 x4 x5).clay = x0.clay ∧ (State.setExtF x0 x1 x2 x3 x4 x5).pending = x0.pending := by
  unfold State.setExtF; (try dsimp only); (repeat' split) <;> simp only [State.setExtW_frame, foldl_pwr, foldl_clk, foldl_clay, foldl_pending, and_self]

@[simp] theorem State.setExtState_frame (x0 x1 x2) : (State.setExtState x0 x1 x2).pwr = x0.pwr ∧ (State.setExtState x0 x1 x2).clk = x0.clk ∧ (State.setExtState x0 x1 x2).clay = x0.clay ∧ (State.setExtState x0 x1 x2).pending = x0.pending := by
  unfold State.setExtState; (try dsimp only); (repeat' split) <;> simp only [State.setExtF_frame, foldl_pwr, foldl_clk, foldl_clay, foldl_pending, and_self]

@[simp] theorem State.setExtAdmit_frame (x0 x1 x2) : (State.setExtAdmit x0 x1 x2).pwr = x0.pwr ∧ (State.setExtAdmit x0 x1 x2).clk = x0.clk ∧ (State.setExtAdmit x0 x1 x2).clay = x0.clay ∧ (State.setExtAdmit x0 x1 x2).pending = x0.pending := by
  unfold State.setExtAdmit; (try dsimp only); (repeat' split) <;> simp only [State.setExtF_frame, foldl_pwr, foldl_clk, foldl_clay, foldl_pending, and_self]

@[simp] theorem State.setDir_frame (x0 x1 x2 x3) : (State.setDir x0 x1 x2 x3).pwr = x0.pwr ∧ (State.setDir x0 x1 x2 x3).clk = x0.clk ∧ (State.setDir x0 x1 x2 x3).clay = x0.clay ∧ (State.setDir x0 x1 x2 x3).pending = x0.pending := by
  unfold State.setDir; (try dsimp only); (repeat' split) <;> simp only [foldl_pwr, foldl_clk, foldl_clay, foldl_pending, and_self]

@[simp] theorem State.postLost_frame (x0 x1) : (State.postLost x0 x1).pwr = x0.pwr ∧ (State.postLost x0 x1).clk = x0.clk ∧ (State.postLost x0 x1).clay = x0.clay ∧ (State.postLost x0 x1).pending = x0.pending := by
  unfold State.postLost; (try dsimp only); (repeat' split) <;> simp only [State.post_frame, foldl_pwr, foldl_clk, foldl_clay, foldl_pending, and_self]

@[simp] theorem State.logLoss_frame (x0 x1 x2 x3 x4 x5) : (State.logLoss x0 x1 x2 x3 x4 x5).pwr = x0.pwr ∧ (State.logLoss x0 x1 x2 x3 x4 x5).clk = x0.clk ∧ (State.logLoss x0 x1 x2 x3 x4 x5).clay = x0.clay ∧ (State.logLoss x0 x1 x2 x3 x4 x5).pending = x0.pending := by
  unfold State.logLoss; (try dsimp only); (repeat' split) <;> simp only [State.postLost_frame, State.setF_frame, foldl_pwr, foldl_clk, foldl_clay, foldl_pending, and_self]

@[simp] theorem State.granule_frame (x0 x1 x2) : (State.granule x0 x1 x2).2.pwr = x0.pwr ∧ (State.granule x0 x1 x2).2.clk = x0.clk ∧ (State.granule x0 x1 x2).2.clay = x0.clay ∧ (State.granule x0 x1 x2).2.mems = x0.mems ∧ (State.granule x0 x1 x2).2.pending = x0.pending := by
  unfold State.granule; (try dsimp only); (repeat' split) <;> simp only [State.drawBytes_frame, foldl_pwr, foldl_clk, foldl_clay, foldl_mems, foldl_pending, and_self]

@[simp] theorem State.putGranule_frame (x0 x1 x2 x3 x4) : (State.putGranule x0 x1 x2 x3 x4).pwr = x0.pwr ∧ (State.putGranule x0 x1 x2 x3 x4).clk = x0.clk ∧ (State.putGranule x0 x1 x2 x3 x4).clay = x0.clay ∧ (State.putGranule x0 x1 x2 x3 x4).pending = x0.pending := by
  unfold State.putGranule; (try dsimp only); (repeat' split) <;> simp only [State.granule_frame, foldl_pwr, foldl_clk, foldl_clay, foldl_pending, and_self]

@[simp] theorem State.readGranules_frame (x0 x1 x2) : (State.readGranules x0 x1 x2).2.pwr = x0.pwr ∧ (State.readGranules x0 x1 x2).2.clk = x0.clk ∧ (State.readGranules x0 x1 x2).2.clay = x0.clay ∧ (State.readGranules x0 x1 x2).2.pending = x0.pending := by
  induction x2 generalizing x0 <;> simp only [State.readGranules, *, and_self, apply_ite State.pwr, apply_ite State.clk, apply_ite State.clay, apply_ite State.pending] <;> (repeat' split) <;> simp [*, apply_ite State.pwr, apply_ite State.clk, apply_ite State.clay, apply_ite State.pending]

@[simp] theorem State.poolRead_frame (x0 x1 x2 x3) : (State.poolRead x0 x1 x2 x3).2.pwr = x0.pwr ∧ (State.poolRead x0 x1 x2 x3).2.clk = x0.clk ∧ (State.poolRead x0 x1 x2 x3).2.clay = x0.clay ∧ (State.poolRead x0 x1 x2 x3).2.pending = x0.pending := by
  unfold State.poolRead; (try dsimp only); (repeat' split) <;> simp only [State.readGranules_frame, foldl_pwr, foldl_clk, foldl_clay, foldl_pending, and_self]

@[simp] theorem State.writeGranules_frame (x0 x1 x2 x3 x4) : (State.writeGranules x0 x1 x2 x3 x4).pwr = x0.pwr ∧ (State.writeGranules x0 x1 x2 x3 x4).clk = x0.clk ∧ (State.writeGranules x0 x1 x2 x3 x4).clay = x0.clay ∧ (State.writeGranules x0 x1 x2 x3 x4).pending = x0.pending := by
  induction x4 generalizing x0 x2 x3 <;> simp only [State.writeGranules, *, and_self, apply_ite State.pwr, apply_ite State.clk, apply_ite State.clay, apply_ite State.pending] <;> (repeat' split) <;> simp [*, apply_ite State.pwr, apply_ite State.clk, apply_ite State.clay, apply_ite State.pending]

@[simp] theorem State.poolWrite_frame (x0 x1 x2 x3) : (State.poolWrite x0 x1 x2 x3).pwr = x0.pwr ∧ (State.poolWrite x0 x1 x2 x3).clk = x0.clk ∧ (State.poolWrite x0 x1 x2 x3).clay = x0.clay ∧ (State.poolWrite x0 x1 x2 x3).pending = x0.pending := by
  unfold State.poolWrite; (try dsimp only); (repeat' split) <;> simp only [State.writeGranules_frame, foldl_pwr, foldl_clk, foldl_clay, foldl_pending, and_self]

@[simp] theorem State.countCe_frame (x0 x1) : (State.countCe x0 x1).pwr = x0.pwr ∧ (State.countCe x0 x1).clk = x0.clk ∧ (State.countCe x0 x1).clay = x0.clay ∧ (State.countCe x0 x1).pending = x0.pending := by
  unfold State.countCe; (try dsimp only); (repeat' split) <;> simp only [State.incF_frame, State.post_frame, foldl_pwr, foldl_clk, foldl_clay, foldl_pending, and_self]

@[simp] theorem State.countCes_frame (x0 x1 x2) : (State.countCes x0 x1 x2).pwr = x0.pwr ∧ (State.countCes x0 x1 x2).clk = x0.clk ∧ (State.countCes x0 x1 x2).clay = x0.clay ∧ (State.countCes x0 x1 x2).pending = x0.pending := by
  induction x2 generalizing x0 <;> simp only [State.countCes, *, and_self, apply_ite State.pwr, apply_ite State.clk, apply_ite State.clay, apply_ite State.pending] <;> (repeat' split) <;> simp [*, apply_ite State.pwr, apply_ite State.clk, apply_ite State.clay, apply_ite State.pending]

@[simp] theorem State.countUes_frame (x0 x1) : (State.countUes x0 x1).pwr = x0.pwr ∧ (State.countUes x0 x1).clk = x0.clk ∧ (State.countUes x0 x1).clay = x0.clay ∧ (State.countUes x0 x1).mems = x0.mems ∧ (State.countUes x0 x1).pending = x0.pending := by
  unfold State.countUes; (try dsimp only); (repeat' split) <;> simp only [State.incF_frame, foldl_pwr, foldl_clk, foldl_clay, foldl_mems, foldl_pending, and_self]

@[simp] theorem State.extCmd_frame (x0 x1) : (State.extCmd x0 x1).pwr = x0.pwr ∧ (State.extCmd x0 x1).clk = x0.clk ∧ (State.extCmd x0 x1).clay = x0.clay ∧ (State.extCmd x0 x1).mems = x0.mems ∧ (State.extCmd x0 x1).pending = x0.pending := by
  unfold State.extCmd; (try dsimp only); (repeat' split) <;> simp only [State.setF_frame, foldl_pwr, foldl_clk, foldl_clay, foldl_mems, foldl_pending, and_self]

@[simp] theorem State.extWinWrite_frame (x0 x1 x2 x3) : (State.extWinWrite x0 x1 x2 x3).pwr = x0.pwr ∧ (State.extWinWrite x0 x1 x2 x3).clk = x0.clk ∧ (State.extWinWrite x0 x1 x2 x3).clay = x0.clay ∧ (State.extWinWrite x0 x1 x2 x3).pending = x0.pending := by
  unfold State.extWinWrite; (try dsimp only); (repeat' split) <;> simp only [State.setF_frame, State.setExtW_frame, foldl_pwr, foldl_clk, foldl_clay, foldl_pending, and_self]

@[simp] theorem State.renewAll_frame (x0 x1) : (State.renewAll x0 x1).pwr = x0.pwr ∧ (State.renewAll x0 x1).clk = x0.clk ∧ (State.renewAll x0 x1).clay = x0.clay ∧ (State.renewAll x0 x1).pending = x0.pending := by
  induction x1 generalizing x0 <;> simp only [State.renewAll, *, and_self, apply_ite State.pwr, apply_ite State.clk, apply_ite State.clay, apply_ite State.pending] <;> (repeat' split) <;> simp [*, apply_ite State.pwr, apply_ite State.clk, apply_ite State.clay, apply_ite State.pending]

@[simp] theorem State.homCtl_frame (x0 x1) : (State.homCtl x0 x1).pwr = x0.pwr ∧ (State.homCtl x0 x1).clk = x0.clk ∧ (State.homCtl x0 x1).clay = x0.clay ∧ (State.homCtl x0 x1).pending = x0.pending := by
  unfold State.homCtl; (try dsimp only); (repeat' split) <;> simp only [State.wr_frame, State.renewAll_frame, foldl_pwr, foldl_clk, foldl_clay, foldl_pending, and_self]

@[simp] theorem State.keep_frame (x0 x1 x2) : (State.keep x0 x1 x2).pwr = x0.pwr ∧ (State.keep x0 x1 x2).clk = x0.clk ∧ (State.keep x0 x1 x2).clay = x0.clay ∧ (State.keep x0 x1 x2).mems = x0.mems ∧ (State.keep x0 x1 x2).pending = x0.pending := by
  unfold State.keep; (try dsimp only); (repeat' split) <;> simp only [foldl_pwr, foldl_clk, foldl_clay, foldl_mems, foldl_pending, and_self]

@[simp] theorem State.reply_frame (x0 x1 x2 x3 x4) : (State.reply x0 x1 x2 x3 x4).pwr = x0.pwr ∧ (State.reply x0 x1 x2 x3 x4).clk = x0.clk ∧ (State.reply x0 x1 x2 x3 x4).clay = x0.clay ∧ (State.reply x0 x1 x2 x3 x4).mems = x0.mems ∧ (State.reply x0 x1 x2 x3 x4).pending = x0.pending := by
  unfold State.reply; (try dsimp only); (repeat' split) <;> simp only [State.sendCpl_frame, State.keep_frame, foldl_pwr, foldl_clk, foldl_clay, foldl_mems, foldl_pending, and_self]

@[simp] theorem State.countRevoked_frame (x0 x1) : (State.countRevoked x0 x1).pwr = x0.pwr ∧ (State.countRevoked x0 x1).clk = x0.clk ∧ (State.countRevoked x0 x1).clay = x0.clay ∧ (State.countRevoked x0 x1).mems = x0.mems ∧ (State.countRevoked x0 x1).pending = x0.pending := by
  unfold State.countRevoked; (try dsimp only); (repeat' split) <;> simp only [foldl_pwr, foldl_clk, foldl_clay, foldl_mems, foldl_pending, and_self]

@[simp] theorem State.clearElems_frame (x0 x1) : (State.clearElems x0 x1).pwr = x0.pwr ∧ (State.clearElems x0 x1).clk = x0.clk ∧ (State.clearElems x0 x1).clay = x0.clay ∧ (State.clearElems x0 x1).pending = x0.pending := by
  induction x1 generalizing x0 <;> simp only [State.clearElems, *, and_self, apply_ite State.pwr, apply_ite State.clk, apply_ite State.clay, apply_ite State.pending] <;> (repeat' split) <;> simp [*, apply_ite State.pwr, apply_ite State.clk, apply_ite State.clay, apply_ite State.pending]

@[simp] theorem State.exactAdd_frame (x0 x1 x2) : (State.exactAdd x0 x1 x2).pwr = x0.pwr ∧ (State.exactAdd x0 x1 x2).clk = x0.clk ∧ (State.exactAdd x0 x1 x2).clay = x0.clay ∧ (State.exactAdd x0 x1 x2).pending = x0.pending := by
  unfold State.exactAdd; (try dsimp only); (repeat' split) <;> simp only [State.reply_frame, foldl_pwr, foldl_clk, foldl_clay, foldl_pending, and_self]

@[simp] theorem State.execAccum_frame (x0 x1 x2) : (State.execAccum x0 x1 x2).pwr = x0.pwr ∧ (State.execAccum x0 x1 x2).clk = x0.clk ∧ (State.execAccum x0 x1 x2).clay = x0.clay ∧ (State.execAccum x0 x1 x2).pending = x0.pending := by
  unfold State.execAccum; (try dsimp only); (repeat' split) <;> simp only [State.reply_frame, State.clearElems_frame, State.exactAdd_frame, foldl_pwr, foldl_clk, foldl_clay, foldl_pending, and_self]

@[simp] theorem State.sendCopy_frame (x0 x1) : (State.sendCopy x0 x1).pwr = x0.pwr ∧ (State.sendCopy x0 x1).clk = x0.clk ∧ (State.sendCopy x0 x1).clay = x0.clay ∧ (State.sendCopy x0 x1).mems = x0.mems ∧ (State.sendCopy x0 x1).pending = x0.pending := by
  unfold State.sendCopy; (try dsimp only); (repeat' split) <;> simp only [State.sendReq_frame, foldl_pwr, foldl_clk, foldl_clay, foldl_mems, foldl_pending, and_self]

@[simp] theorem State.awaitCopy_frame (x0 x1 x2 x3) : (State.awaitCopy x0 x1 x2 x3).pwr = x0.pwr ∧ (State.awaitCopy x0 x1 x2 x3).clk = x0.clk ∧ (State.awaitCopy x0 x1 x2 x3).clay = x0.clay ∧ (State.awaitCopy x0 x1 x2 x3).mems = x0.mems ∧ (State.awaitCopy x0 x1 x2 x3).pending = x0.pending := by
  unfold State.awaitCopy; (try dsimp only); (repeat' split) <;> simp only [State.sendCpl_frame, State.keep_frame, foldl_pwr, foldl_clk, foldl_clay, foldl_mems, foldl_pending, and_self]

@[simp] theorem State.reach_frame (x0 x1) : (State.reach x0 x1).pwr = x0.pwr ∧ (State.reach x0 x1).clk = x0.clk ∧ (State.reach x0 x1).clay = x0.clay ∧ (State.reach x0 x1).mems = x0.mems ∧ (State.reach x0 x1).pending = x0.pending := by
  unfold State.reach; (try dsimp only); (repeat' split) <;> simp only [foldl_pwr, foldl_clk, foldl_clay, foldl_mems, foldl_pending, and_self]

@[simp] theorem State.finishWrite_frame (x0 x1 x2 x3 x4) : (State.finishWrite x0 x1 x2 x3 x4).pwr = x0.pwr ∧ (State.finishWrite x0 x1 x2 x3 x4).clk = x0.clk ∧ (State.finishWrite x0 x1 x2 x3 x4).clay = x0.clay ∧ (State.finishWrite x0 x1 x2 x3 x4).mems = x0.mems ∧ (State.finishWrite x0 x1 x2 x3 x4).pending = x0.pending := by
  unfold State.finishWrite; (try dsimp only); (repeat' split) <;> simp only [State.reach_frame, State.reply_frame, State.awaitCopy_frame, State.sendCopy_frame, foldl_pwr, foldl_clk, foldl_clay, foldl_mems, foldl_pending, and_self]

@[simp] theorem State.logAll_frame (x0 x1 x2 x3 x4) : (State.logAll x0 x1 x2 x3 x4).pwr = x0.pwr ∧ (State.logAll x0 x1 x2 x3 x4).clk = x0.clk ∧ (State.logAll x0 x1 x2 x3 x4).clay = x0.clay ∧ (State.logAll x0 x1 x2 x3 x4).pending = x0.pending := by
  induction x4 generalizing x0 x1 x3 <;> simp only [State.logAll, *, and_self, apply_ite State.pwr, apply_ite State.clk, apply_ite State.clay, apply_ite State.pending] <;> (repeat' split) <;> simp [*, apply_ite State.pwr, apply_ite State.clk, apply_ite State.clay, apply_ite State.pending]

@[simp] theorem State.partnerRead_frame (x0 x1 x2 x3) : (State.partnerRead x0 x1 x2 x3).pwr = x0.pwr ∧ (State.partnerRead x0 x1 x2 x3).clk = x0.clk ∧ (State.partnerRead x0 x1 x2 x3).clay = x0.clay ∧ (State.partnerRead x0 x1 x2 x3).mems = x0.mems ∧ (State.partnerRead x0 x1 x2 x3).pending = x0.pending := by
  unfold State.partnerRead; (try dsimp only); (repeat' split) <;> simp only [State.issueOwn_frame, foldl_pwr, foldl_clk, foldl_clay, foldl_mems, foldl_pending, and_self]

@[simp] theorem State.execLoad_frame (x0 x1 x2 x3) : (State.execLoad x0 x1 x2 x3).pwr = x0.pwr ∧ (State.execLoad x0 x1 x2 x3).clk = x0.clk ∧ (State.execLoad x0 x1 x2 x3).clay = x0.clay ∧ (State.execLoad x0 x1 x2 x3).pending = x0.pending := by
  unfold State.execLoad; (try dsimp only); (repeat' split) <;> simp [*]

@[simp] theorem State.partLost_frame (x0 x1 x2 x3 x4) : (State.partLost x0 x1 x2 x3 x4).pwr = x0.pwr ∧ (State.partLost x0 x1 x2 x3 x4).clk = x0.clk ∧ (State.partLost x0 x1 x2 x3 x4).clay = x0.clay ∧ (State.partLost x0 x1 x2 x3 x4).pending = x0.pending := by
  unfold State.partLost; (try dsimp only); (repeat' split) <;> simp only [State.countUes_frame, State.reply_frame, State.logAll_frame, foldl_pwr, foldl_clk, foldl_clay, foldl_pending, and_self]

@[simp] theorem State.execStore_frame (x0 x1 x2 x3) : (State.execStore x0 x1 x2 x3).pwr = x0.pwr ∧ (State.execStore x0 x1 x2 x3).clk = x0.clk ∧ (State.execStore x0 x1 x2 x3).clay = x0.clay ∧ (State.execStore x0 x1 x2 x3).pending = x0.pending := by
  unfold State.execStore; (try dsimp only); (repeat' split) <;> simp only [State.countCes_frame, State.partLost_frame, State.finishWrite_frame, State.poolWrite_frame, foldl_pwr, foldl_clk, foldl_clay, foldl_pending, and_self]

@[simp] theorem State.execAtomic_frame (x0 x1 x2 x3) : (State.execAtomic x0 x1 x2 x3).pwr = x0.pwr ∧ (State.execAtomic x0 x1 x2 x3).clk = x0.clk ∧ (State.execAtomic x0 x1 x2 x3).clay = x0.clay ∧ (State.execAtomic x0 x1 x2 x3).pending = x0.pending := by
  unfold State.execAtomic; (try dsimp only); (repeat' split) <;> simp only [State.countCes_frame, State.partLost_frame, State.poolRead_frame, State.finishWrite_frame, State.poolWrite_frame, foldl_pwr, foldl_clk, foldl_clay, foldl_pending, and_self]

@[simp] theorem State.execPool_frame (x0 x1 x2 x3) : (State.execPool x0 x1 x2 x3).pwr = x0.pwr ∧ (State.execPool x0 x1 x2 x3).clk = x0.clk ∧ (State.execPool x0 x1 x2 x3).clay = x0.clay ∧ (State.execPool x0 x1 x2 x3).pending = x0.pending := by
  unfold State.execPool; (try dsimp only); (repeat' split) <;> simp only [State.execAccum_frame, State.reply_frame, State.execLoad_frame, State.execStore_frame, State.execAtomic_frame, foldl_pwr, foldl_clk, foldl_clay, foldl_pending, and_self]

@[simp] theorem State.execSram_frame (x0 x1) : (State.execSram x0 x1).pwr = x0.pwr ∧ (State.execSram x0 x1).clk = x0.clk ∧ (State.execSram x0 x1).clay = x0.clay ∧ (State.execSram x0 x1).pending = x0.pending := by
  unfold State.execSram; (try dsimp only); (repeat' split) <;> simp only [State.reply_frame, foldl_pwr, foldl_clk, foldl_clay, foldl_pending, and_self]

@[simp] theorem State.execSync_frame (x0 x1 x2) : (State.execSync x0 x1 x2).pwr = x0.pwr ∧ (State.execSync x0 x1 x2).clk = x0.clk ∧ (State.execSync x0 x1 x2).clay = x0.clay ∧ (State.execSync x0 x1 x2).mems = x0.mems ∧ (State.execSync x0 x1 x2).pending = x0.pending := by
  unfold State.execSync; (try dsimp only); (repeat' split) <;> simp only [State.reply_frame, State.objTakes_frame, foldl_pwr, foldl_clk, foldl_clay, foldl_mems, foldl_pending, and_self]

@[simp] theorem State.sedStep_frame (x0 x1) : (State.sedStep x0 x1).pwr = x0.pwr ∧ (State.sedStep x0 x1).clk = x0.clk ∧ (State.sedStep x0 x1).clay = x0.clay ∧ (State.sedStep x0 x1).mems = x0.mems ∧ (State.sedStep x0 x1).pending = x0.pending := by
  unfold State.sedStep; (try dsimp only); (repeat' split) <;> simp only [foldl_pwr, foldl_clk, foldl_clay, foldl_mems, foldl_pending, and_self]

@[simp] theorem State.capture_frame (x0 x1) : (State.capture x0 x1).pwr = x0.pwr ∧ (State.capture x0 x1).clk = x0.clk ∧ (State.capture x0 x1).clay = x0.clay ∧ (State.capture x0 x1).pending = x0.pending := by
  unfold State.capture; (try dsimp only); (repeat' split) <;> simp only [State.post_frame, State.takeWrs_frame, State.setF_frame, State.sedStep_frame, foldl_pwr, foldl_clk, foldl_clay, foldl_pending, and_self]

@[simp] theorem State.mapDir_frame (x0 x1 x2 x3) : (State.mapDir x0 x1 x2 x3).pwr = x0.pwr ∧ (State.mapDir x0 x1 x2 x3).clk = x0.clk ∧ (State.mapDir x0 x1 x2 x3).clay = x0.clay ∧ (State.mapDir x0 x1 x2 x3).pending = x0.pending := by
  induction x3 generalizing x0 <;> simp only [State.mapDir, *, and_self, apply_ite State.pwr, apply_ite State.clk, apply_ite State.clay, apply_ite State.pending] <;> (repeat' split) <;> simp [*, apply_ite State.pwr, apply_ite State.clk, apply_ite State.clay, apply_ite State.pending]

@[simp] theorem State.snoopLine_frame (x0 x1 x2) : (State.snoopLine x0 x1 x2).2.pwr = x0.pwr ∧ (State.snoopLine x0 x1 x2).2.clk = x0.clk ∧ (State.snoopLine x0 x1 x2).2.clay = x0.clay ∧ (State.snoopLine x0 x1 x2).2.mems = x0.mems ∧ (State.snoopLine x0 x1 x2).2.pending = x0.pending := by
  induction x2 generalizing x0 x1 <;> simp only [State.snoopLine, *, and_self, apply_ite State.pwr, apply_ite State.clk, apply_ite State.clay, apply_ite State.mems, apply_ite State.pending] <;> (repeat' split) <;> simp [*, apply_ite State.pwr, apply_ite State.clk, apply_ite State.clay, apply_ite State.mems, apply_ite State.pending]

@[simp] theorem State.snoopLines_frame (x0 x1 x2) : (State.snoopLines x0 x1 x2).2.pwr = x0.pwr ∧ (State.snoopLines x0 x1 x2).2.clk = x0.clk ∧ (State.snoopLines x0 x1 x2).2.clay = x0.clay ∧ (State.snoopLines x0 x1 x2).2.mems = x0.mems ∧ (State.snoopLines x0 x1 x2).2.pending = x0.pending := by
  induction x2 generalizing x0 <;> simp only [State.snoopLines, *, and_self, apply_ite State.pwr, apply_ite State.clk, apply_ite State.clay, apply_ite State.mems, apply_ite State.pending] <;> (repeat' split) <;> simp [*, apply_ite State.pwr, apply_ite State.clk, apply_ite State.clay, apply_ite State.mems, apply_ite State.pending]

@[simp] theorem State.execCoh_frame (x0 x1 x2 x3) : (State.execCoh x0 x1 x2 x3).pwr = x0.pwr ∧ (State.execCoh x0 x1 x2 x3).clk = x0.clk ∧ (State.execCoh x0 x1 x2 x3).clay = x0.clay ∧ (State.execCoh x0 x1 x2 x3).pending = x0.pending := by
  unfold State.execCoh; (try dsimp only); (repeat' split) <;> simp [*]

@[simp] theorem State.seriesAdvance_frame (x0 x1) : (State.seriesAdvance x0 x1).pwr = x0.pwr ∧ (State.seriesAdvance x0 x1).clk = x0.clk ∧ (State.seriesAdvance x0 x1).clay = x0.clay ∧ (State.seriesAdvance x0 x1).mems = x0.mems ∧ (State.seriesAdvance x0 x1).pending = x0.pending := by
  unfold State.seriesAdvance; (try dsimp only); (repeat' split) <;> simp only [foldl_pwr, foldl_clk, foldl_clay, foldl_mems, foldl_pending, and_self]

@[simp] theorem State.adoptSeries_frame (x0 x1) : (State.adoptSeries x0 x1).pwr = x0.pwr ∧ (State.adoptSeries x0 x1).clk = x0.clk ∧ (State.adoptSeries x0 x1).clay = x0.clay ∧ (State.adoptSeries x0 x1).mems = x0.mems ∧ (State.adoptSeries x0 x1).pending = x0.pending := by
  unfold State.adoptSeries; (try dsimp only); (repeat' split) <;> simp only [foldl_pwr, foldl_clk, foldl_clay, foldl_mems, foldl_pending, and_self]

@[simp] theorem State.copyAnswer_frame (x0 x1) : (State.copyAnswer x0 x1).pwr = x0.pwr ∧ (State.copyAnswer x0 x1).clk = x0.clk ∧ (State.copyAnswer x0 x1).clay = x0.clay ∧ (State.copyAnswer x0 x1).pending = x0.pending := by
  unfold State.copyAnswer; (try dsimp only); (repeat' split) <;> simp only [State.reply_frame, State.drawBytes_frame, foldl_pwr, foldl_clk, foldl_clay, foldl_pending, and_self]

@[simp] theorem State.supply_frame (x0 x1) : (State.supply x0 x1).pwr = x0.pwr ∧ (State.supply x0 x1).clk = x0.clk ∧ (State.supply x0 x1).clay = x0.clay ∧ (State.supply x0 x1).pending = x0.pending := by
  unfold State.supply; (try dsimp only); (repeat' split) <;> simp only [State.poolWrite_frame, foldl_pwr, foldl_clk, foldl_clay, foldl_pending, and_self]

@[simp] theorem State.serveMirror_frame (x0 x1 x2) : (State.serveMirror x0 x1 x2).pwr = x0.pwr ∧ (State.serveMirror x0 x1 x2).clk = x0.clk ∧ (State.serveMirror x0 x1 x2).clay = x0.clay ∧ (State.serveMirror x0 x1 x2).pending = x0.pending := by
  unfold State.serveMirror; (try dsimp only); (repeat' split) <;> simp only [State.reply_frame, State.countCes_frame, State.countUes_frame, State.poolRead_frame, foldl_pwr, foldl_clk, foldl_clay, foldl_pending, and_self]

@[simp] theorem State.execCopy_frame (x0 x1) : (State.execCopy x0 x1).pwr = x0.pwr ∧ (State.execCopy x0 x1).clk = x0.clk ∧ (State.execCopy x0 x1).clay = x0.clay ∧ (State.execCopy x0 x1).pending = x0.pending := by
  unfold State.execCopy; (try dsimp only); (repeat' split) <;> simp only [State.sendCpl_frame, State.poolWrite_frame, foldl_pwr, foldl_clk, foldl_clay, foldl_pending, and_self]

@[simp] theorem State.drainCopies_frame (x0 x1) : (State.drainCopies x0 x1).pwr.powered = x1.pwr.powered ∧ (State.drainCopies x0 x1).pwr.rstN = x1.pwr.rstN ∧ (State.drainCopies x0 x1).pwr.hold = x1.pwr.hold ∧ (State.drainCopies x0 x1).pwr.holdUp = x1.pwr.holdUp ∧ (State.drainCopies x0 x1).pwr.stage = x1.pwr.stage ∧ (State.drainCopies x0 x1).pwr.driven = x1.pwr.driven ∧ (State.drainCopies x0 x1).clk = x1.clk ∧ (State.drainCopies x0 x1).pending = x1.pending := by
  induction x0 generalizing x1 <;> simp only [State.drainCopies, *, and_self, apply_ite State.pwr, apply_ite Pwr.powered, apply_ite Pwr.rstN, apply_ite Pwr.hold, apply_ite Pwr.holdUp, apply_ite Pwr.stage, apply_ite Pwr.driven, apply_ite State.clk, apply_ite State.pending] <;> (repeat' split) <;> simp [*, apply_ite State.pwr, apply_ite Pwr.powered, apply_ite Pwr.rstN, apply_ite Pwr.hold, apply_ite Pwr.holdUp, apply_ite Pwr.stage, apply_ite Pwr.driven, apply_ite State.clk, apply_ite State.pending]

@[simp] theorem State.writeCopy_frame (x0 x1) : (State.writeCopy x0 x1).pwr.powered = x0.pwr.powered ∧ (State.writeCopy x0 x1).pwr.rstN = x0.pwr.rstN ∧ (State.writeCopy x0 x1).pwr.hold = x0.pwr.hold ∧ (State.writeCopy x0 x1).pwr.holdUp = x0.pwr.holdUp ∧ (State.writeCopy x0 x1).pwr.stage = x0.pwr.stage ∧ (State.writeCopy x0 x1).pwr.driven = x0.pwr.driven ∧ (State.writeCopy x0 x1).clk = x0.clk ∧ (State.writeCopy x0 x1).pending = x0.pending := by
  unfold State.writeCopy; (try dsimp only); (repeat' split) <;> simp only [State.execCopy_frame, State.sendCpl_frame, State.drainCopies_frame, foldl_powered, foldl_rstN, foldl_hold, foldl_holdUp, foldl_stage, foldl_driven, foldl_clk, foldl_pending, and_self]

@[simp] theorem State.endAwaits_frame (x0 x1) : (State.endAwaits x0 x1).pwr = x0.pwr ∧ (State.endAwaits x0 x1).clk = x0.clk ∧ (State.endAwaits x0 x1).clay = x0.clay ∧ (State.endAwaits x0 x1).mems = x0.mems ∧ (State.endAwaits x0 x1).pending = x0.pending := by
  unfold State.endAwaits; (try dsimp only); (repeat' split) <;> simp [*]

@[simp] theorem State.mirrorEnd_frame (x0 x1) : (State.mirrorEnd x0 x1).pwr = x0.pwr ∧ (State.mirrorEnd x0 x1).clk = x0.clk ∧ (State.mirrorEnd x0 x1).clay = x0.clay ∧ (State.mirrorEnd x0 x1).pending = x0.pending := by
  unfold State.mirrorEnd; (try dsimp only); (repeat' split) <;> simp only [State.reply_frame, State.poolRead_frame, foldl_pwr, foldl_clk, foldl_clay, foldl_pending, and_self]

@[simp] theorem State.granuleAnswer_frame (x0 x1 x2 x3 x4) : (State.granuleAnswer x0 x1 x2 x3 x4).2.pwr = x0.pwr ∧ (State.granuleAnswer x0 x1 x2 x3 x4).2.clk = x0.clk ∧ (State.granuleAnswer x0 x1 x2 x3 x4).2.clay = x0.clay ∧ (State.granuleAnswer x0 x1 x2 x3 x4).2.pending = x0.pending := by
  unfold State.granuleAnswer; (try dsimp only); (repeat' split) <;> simp only [State.poolWrite_frame, State.logLoss_frame, foldl_pwr, foldl_clk, foldl_clay, foldl_pending, and_self]

@[simp] theorem State.mirrorAnswer_frame (x0 x1 x2 x3 x4) : (State.mirrorAnswer x0 x1 x2 x3 x4).pwr = x0.pwr ∧ (State.mirrorAnswer x0 x1 x2 x3 x4).clk = x0.clk ∧ (State.mirrorAnswer x0 x1 x2 x3 x4).clay = x0.clay ∧ (State.mirrorAnswer x0 x1 x2 x3 x4).pending = x0.pending := by
  unfold State.mirrorAnswer; (try dsimp only); (repeat' split) <;> simp only [State.granuleAnswer_frame, State.mirrorEnd_frame, foldl_pwr, foldl_clk, foldl_clay, foldl_pending, and_self]

@[simp] theorem State.cackArrive_frame (x0 x1) : (State.cackArrive x0 x1).pwr = x0.pwr ∧ (State.cackArrive x0 x1).clk = x0.clk ∧ (State.cackArrive x0 x1).clay = x0.clay ∧ (State.cackArrive x0 x1).mems = x0.mems ∧ (State.cackArrive x0 x1).pending = x0.pending := by
  unfold State.cackArrive; (try dsimp only); (repeat' split) <;> simp only [foldl_pwr, foldl_clk, foldl_clay, foldl_mems, foldl_pending, and_self]

@[simp] theorem State.wearOne_frame (x0 x1) : (State.wearOne x0 x1).pwr = x0.pwr ∧ (State.wearOne x0 x1).clk = x0.clk ∧ (State.wearOne x0 x1).pending = x0.pending := by
  unfold State.wearOne; (try dsimp only); (repeat' split) <;> simp only [State.post_frame, State.setF_frame, foldl_pwr, foldl_clk, foldl_pending, and_self]

@[simp] theorem State.putClay_frame (x0 x1 x2 x3) : (State.putClay x0 x1 x2 x3).pwr = x0.pwr ∧ (State.putClay x0 x1 x2 x3).clk = x0.clk ∧ (State.putClay x0 x1 x2 x3).mems = x0.mems ∧ (State.putClay x0 x1 x2 x3).pending = x0.pending := by
  unfold State.putClay; (try dsimp only); (repeat' split) <;> simp only [foldl_pwr, foldl_clk, foldl_mems, foldl_pending, and_self]

@[simp] theorem State.nodeClay_frame (x0 x1 x2) : (State.nodeClay x0 x1 x2).pwr = x0.pwr ∧ (State.nodeClay x0 x1 x2).clk = x0.clk ∧ (State.nodeClay x0 x1 x2).pending = x0.pending := by
  unfold State.nodeClay; (try dsimp only); (repeat' split) <;> simp only [State.putClay_frame, State.wearOne_frame, foldl_pwr, foldl_clk, foldl_pending, and_self]

@[simp] theorem State.clayPending_frame (x0) : (State.clayPending x0).pwr = x0.pwr ∧ (State.clayPending x0).clk = x0.clk ∧ (State.clayPending x0).clay = x0.clay ∧ (State.clayPending x0).mems = x0.mems ∧ (State.clayPending x0).pending = x0.pending := by
  unfold State.clayPending; (try dsimp only); (repeat' split) <;> simp only [State.setF_frame, foldl_pwr, foldl_clk, foldl_clay, foldl_mems, foldl_pending, and_self]

@[simp] theorem State.clayWrite_frame (x0 x1 x2) : (State.clayWrite x0 x1 x2).pwr = x0.pwr ∧ (State.clayWrite x0 x1 x2).clk = x0.clk ∧ (State.clayWrite x0 x1 x2).pending = x0.pending := by
  unfold State.clayWrite; (try dsimp only); (repeat' split) <;> simp only [State.wearOne_frame, State.clayPending_frame, foldl_pwr, foldl_clk, foldl_pending, and_self]

@[simp] theorem State.clayDone_frame (x0 x1 x2) : (State.clayDone x0 x1 x2).pwr = x0.pwr ∧ (State.clayDone x0 x1 x2).clk = x0.clk ∧ (State.clayDone x0 x1 x2).pending = x0.pending := by
  unfold State.clayDone; (try dsimp only); (repeat' split) <;> simp only [State.putClay_frame, State.clayPending_frame, State.post_frame, State.setF_frame, foldl_pwr, foldl_clk, foldl_pending, and_self]

@[simp] theorem State.clayFlush_frame (x0 x1) : (State.clayFlush x0 x1).pwr = x0.pwr ∧ (State.clayFlush x0 x1).clk = x0.clk ∧ (State.clayFlush x0 x1).pending = x0.pending := by
  induction x1 generalizing x0 <;> simp only [State.clayFlush, *, and_self, apply_ite State.pwr, apply_ite State.clk, apply_ite State.pending] <;> (repeat' split) <;> simp [*, apply_ite State.pwr, apply_ite State.clk, apply_ite State.pending]

@[simp] theorem State.clayReconcile_frame (x0) : (State.clayReconcile x0).pwr = x0.pwr ∧ (State.clayReconcile x0).clk = x0.clk ∧ (State.clayReconcile x0).mems = x0.mems ∧ (State.clayReconcile x0).pending = x0.pending := by
  unfold State.clayReconcile; (try dsimp only); (repeat' split) <;> simp only [State.setF_frame, foldl_pwr, foldl_clk, foldl_mems, foldl_pending, and_self]

end Sys2Proof.Machine
end

