-- ==== Sys2Proof/Laws/FrameEngines.lean ====
section
/-!
SUPPORT. Frames of tiles, collectives, lanes, attach ports, descriptors: which of the pins, the clock, clay, the memories and the queue each function leaves as they were.
A lemma `f_frame` names those that `f` never changes; a component that it does not name may change.
-/

set_option linter.all false

namespace Sys2Proof.Machine

@[simp] theorem State.countSpares_frame (x0) : (State.countSpares x0).pwr = x0.pwr ∧ (State.countSpares x0).clk = x0.clk ∧ (State.countSpares x0).clay = x0.clay ∧ (State.countSpares x0).mems = x0.mems ∧ (State.countSpares x0).pending = x0.pending := by
  unfold State.countSpares; (try dsimp only); (repeat' split) <;> simp only [State.setF_frame, foldl_pwr, foldl_clk, foldl_clay, foldl_mems, foldl_pending, and_self]

@[simp] theorem State.putWords_frame (x0 x1 x2) : (State.putWords x0 x1 x2).pwr = x0.pwr ∧ (State.putWords x0 x1 x2).clk = x0.clk ∧ (State.putWords x0 x1 x2).pending = x0.pending := by
  induction x2 generalizing x0 x1 <;> simp only [State.putWords, *, and_self, apply_ite State.pwr, apply_ite State.clk, apply_ite State.pending] <;> (repeat' split) <;> simp [*, apply_ite State.pwr, apply_ite State.clk, apply_ite State.pending]

@[simp] theorem State.writeMap_frame (x0) : (State.writeMap x0).pwr = x0.pwr ∧ (State.writeMap x0).clk = x0.clk ∧ (State.writeMap x0).pending = x0.pending := by
  unfold State.writeMap; (try dsimp only); (repeat' split) <;> simp only [State.putWords_frame, State.countSpares_frame, State.setF_frame, foldl_pwr, foldl_clk, foldl_pending, and_self]

@[simp] theorem State.takeMap_frame (x0 x1) : (State.takeMap x0 x1).pwr = x0.pwr ∧ (State.takeMap x0 x1).clk = x0.clk ∧ (State.takeMap x0 x1).clay = x0.clay ∧ (State.takeMap x0 x1).mems = x0.mems ∧ (State.takeMap x0 x1).pending = x0.pending := by
  unfold State.takeMap; (try dsimp only); (repeat' split) <;> simp [*]

@[simp] theorem State.loadMap_frame (x0) : (State.loadMap x0).pwr = x0.pwr ∧ (State.loadMap x0).clk = x0.clk ∧ (State.loadMap x0).clay = x0.clay ∧ (State.loadMap x0).pending = x0.pending := by
  unfold State.loadMap; (try dsimp only); (repeat' split) <;> simp [*]

@[simp] theorem State.disable_frame (x0 x1) : (State.disable x0 x1).pwr = x0.pwr ∧ (State.disable x0 x1).clk = x0.clk ∧ (State.disable x0 x1).clay = x0.clay ∧ (State.disable x0 x1).mems = x0.mems ∧ (State.disable x0 x1).pending = x0.pending := by
  unfold State.disable; (try dsimp only); (repeat' split) <;> simp only [foldl_pwr, foldl_clk, foldl_clay, foldl_mems, foldl_pending, and_self]

@[simp] theorem State.tileFail_frame (x0 x1) : (State.tileFail x0 x1).pwr = x0.pwr ∧ (State.tileFail x0 x1).clk = x0.clk ∧ (State.tileFail x0 x1).pending = x0.pending := by
  unfold State.tileFail; (try dsimp only); (repeat' split) <;> simp only [State.writeMap_frame, State.disable_frame, State.setF_frame, State.post_frame, State.countSpares_frame, foldl_pwr, foldl_clk, foldl_pending, and_self]

@[simp] theorem State.substitute_frame (x0 x1) : (State.substitute x0 x1).pwr = x0.pwr ∧ (State.substitute x0 x1).clk = x0.clk ∧ (State.substitute x0 x1).pending = x0.pending := by
  unfold State.substitute; (try dsimp only); (repeat' split) <;> simp only [State.disable_frame, State.writeMap_frame, State.setF_frame, State.post_frame, foldl_pwr, foldl_clk, foldl_pending, and_self]

@[simp] theorem State.spareResult_frame (x0 x1 x2) : (State.spareResult x0 x1 x2).pwr = x0.pwr ∧ (State.spareResult x0 x1 x2).clk = x0.clk ∧ (State.spareResult x0 x1 x2).clay = x0.clay ∧ (State.spareResult x0 x1 x2).pending = x0.pending := by
  unfold State.spareResult; (try dsimp only); (repeat' split) <;> simp only [State.setF_frame, State.post_frame, foldl_pwr, foldl_clk, foldl_clay, foldl_pending, and_self]

@[simp] theorem State.spareCmd_pwr (x0 x1 x2 x3) (h1 : ∀ y0 y1, (x1 y0 y1).pwr = y0.pwr) : (State.spareCmd x0 x1 x2 x3).pwr = x0.pwr := by
  unfold State.spareCmd; (try dsimp only); (repeat' split) <;> simp [*]

@[simp] theorem State.spareCmd_clk (x0 x1 x2 x3) (h1 : ∀ y0 y1, (x1 y0 y1).clk = y0.clk) : (State.spareCmd x0 x1 x2 x3).clk = x0.clk := by
  unfold State.spareCmd; (try dsimp only); (repeat' split) <;> simp [*]

@[simp] theorem State.spareCmd_pending (x0 x1 x2 x3) (h1 : ∀ y0 y1, (x1 y0 y1).pending = y0.pending) : (State.spareCmd x0 x1 x2 x3).pending = x0.pending := by
  unfold State.spareCmd; (try dsimp only); (repeat' split) <;> simp [*]

@[simp] theorem State.spareDone_frame (x0 x1) : (State.spareDone x0 x1).pwr = x0.pwr ∧ (State.spareDone x0 x1).clk = x0.clk ∧ (State.spareDone x0 x1).clay = x0.clay ∧ (State.spareDone x0 x1).pending = x0.pending := by
  unfold State.spareDone; (try dsimp only); (repeat' split) <;> simp [*]

@[simp] theorem State.setWork_frame (x0 x1 x2) : (State.setWork x0 x1 x2).pwr = x0.pwr ∧ (State.setWork x0 x1 x2).clk = x0.clk ∧ (State.setWork x0 x1 x2).clay = x0.clay ∧ (State.setWork x0 x1 x2).mems = x0.mems ∧ (State.setWork x0 x1 x2).pending = x0.pending := by
  unfold State.setWork; (try dsimp only); (repeat' split) <;> simp only [State.setF_frame, foldl_pwr, foldl_clk, foldl_clay, foldl_mems, foldl_pending, and_self]

@[simp] theorem State.engTCtl_frame (x0 x1 x2) : (State.engTCtl x0 x1 x2).pwr = x0.pwr ∧ (State.engTCtl x0 x1 x2).clk = x0.clk ∧ (State.engTCtl x0 x1 x2).clay = x0.clay ∧ (State.engTCtl x0 x1 x2).mems = x0.mems ∧ (State.engTCtl x0 x1 x2).pending = x0.pending := by
  unfold State.engTCtl; (try dsimp only); (repeat' split) <;> simp only [State.keepWr_frame, State.setWork_frame, foldl_pwr, foldl_clk, foldl_clay, foldl_mems, foldl_pending, and_self]

@[simp] theorem State.tileIdle_frame (x0 x1) : (State.tileIdle x0 x1).pwr = x0.pwr ∧ (State.tileIdle x0 x1).clk = x0.clk ∧ (State.tileIdle x0 x1).clay = x0.clay ∧ (State.tileIdle x0 x1).mems = x0.mems ∧ (State.tileIdle x0 x1).pending = x0.pending := by
  unfold State.tileIdle; (try dsimp only); (repeat' split) <;> simp only [State.setWork_frame, foldl_pwr, foldl_clk, foldl_clay, foldl_mems, foldl_pending, and_self]

@[simp] theorem State.workIdle_frame (x0) : (State.workIdle x0).pwr = x0.pwr ∧ (State.workIdle x0).clk = x0.clk ∧ (State.workIdle x0).clay = x0.clay ∧ (State.workIdle x0).mems = x0.mems ∧ (State.workIdle x0).pending = x0.pending := by
  unfold State.workIdle; (try dsimp only); (repeat' split) <;> simp [*]

@[simp] theorem State.workWrite_frame (x0 x1 x2 x3) : (State.workWrite x0 x1 x2 x3).pwr = x0.pwr ∧ (State.workWrite x0 x1 x2 x3).clk = x0.clk ∧ (State.workWrite x0 x1 x2 x3).clay = x0.clay ∧ (State.workWrite x0 x1 x2 x3).pending = x0.pending := by
  unfold State.workWrite; (try dsimp only); (repeat' split) <;> simp only [foldl_pwr, foldl_clk, foldl_clay, foldl_pending, and_self]

@[simp] theorem State.setHashes_frame (x0 x1 x2) : (State.setHashes x0 x1 x2).pwr = x0.pwr ∧ (State.setHashes x0 x1 x2).clk = x0.clk ∧ (State.setHashes x0 x1 x2).clay = x0.clay ∧ (State.setHashes x0 x1 x2).mems = x0.mems ∧ (State.setHashes x0 x1 x2).pending = x0.pending := by
  unfold State.setHashes; (try dsimp only); (repeat' split) <;> simp only [foldl_pwr, foldl_clk, foldl_clay, foldl_mems, foldl_pending, and_self]

@[simp] theorem State.dopLost_frame (x0 x1) : (State.dopLost x0 x1).pwr = x0.pwr ∧ (State.dopLost x0 x1).clk = x0.clk ∧ (State.dopLost x0 x1).clay = x0.clay ∧ (State.dopLost x0 x1).pending = x0.pending := by
  unfold State.dopLost; (try dsimp only); (repeat' split) <;> simp only [State.setHashes_frame, State.setF_frame, State.post_frame, foldl_pwr, foldl_clk, foldl_clay, foldl_pending, and_self]

@[simp] theorem State.sendDoppio_frame (x0 x1 x2) : (State.sendDoppio x0 x1 x2).pwr = x0.pwr ∧ (State.sendDoppio x0 x1 x2).clk = x0.clk ∧ (State.sendDoppio x0 x1 x2).clay = x0.clay ∧ (State.sendDoppio x0 x1 x2).mems = x0.mems ∧ (State.sendDoppio x0 x1 x2).pending = x0.pending := by
  unfold State.sendDoppio; (try dsimp only); (repeat' split) <;> simp only [State.nextSeq_frame, State.emit_frame, foldl_pwr, foldl_clk, foldl_clay, foldl_mems, foldl_pending, and_self]

@[simp] theorem State.leaderStep_frame (x0 x1 x2 x3) : (State.leaderStep x0 x1 x2 x3).pwr = x0.pwr ∧ (State.leaderStep x0 x1 x2 x3).clk = x0.clk ∧ (State.leaderStep x0 x1 x2 x3).clay = x0.clay ∧ (State.leaderStep x0 x1 x2 x3).pending = x0.pending := by
  simp [State.leaderStep, apply_ite State.pwr, apply_ite State.clk, apply_ite State.clay, apply_ite State.pending]

@[simp] theorem State.followStep_frame (x0 x1 x2 x3 x4 x5) : (State.followStep x0 x1 x2 x3 x4 x5).pwr = x0.pwr ∧ (State.followStep x0 x1 x2 x3 x4 x5).clk = x0.clk ∧ (State.followStep x0 x1 x2 x3 x4 x5).clay = x0.clay ∧ (State.followStep x0 x1 x2 x3 x4 x5).pending = x0.pending := by
  unfold State.followStep; (try dsimp only); (repeat' split) <;> simp only [State.setHashes_frame, State.incF_frame, State.workWrite_frame, State.emit_frame, foldl_pwr, foldl_clk, foldl_clay, foldl_pending, and_self]

@[simp] theorem State.dopDiffer_frame (x0 x1 x2 x3) : (State.dopDiffer x0 x1 x2 x3).pwr = x0.pwr ∧ (State.dopDiffer x0 x1 x2 x3).clk = x0.clk ∧ (State.dopDiffer x0 x1 x2 x3).pending = x0.pending := by
  induction x3 generalizing x0 x1 x2 <;> simp only [State.dopDiffer, *, and_self, apply_ite State.pwr, apply_ite State.clk, apply_ite State.pending] <;> (repeat' split) <;> simp [*, apply_ite State.pwr, apply_ite State.clk, apply_ite State.pending]

@[simp] theorem State.dopCompare_frame (x0 x1 x2) : (State.dopCompare x0 x1 x2).pwr = x0.pwr ∧ (State.dopCompare x0 x1 x2).clk = x0.clk ∧ (State.dopCompare x0 x1 x2).pending = x0.pending := by
  unfold State.dopCompare; (try dsimp only); (repeat' split) <;> simp [*]

@[simp] theorem State.showRun_frame (x0 x1) : (State.showRun x0 x1).pwr = x0.pwr ∧ (State.showRun x0 x1).clk = x0.clk ∧ (State.showRun x0 x1).clay = x0.clay ∧ (State.showRun x0 x1).mems = x0.mems ∧ (State.showRun x0 x1).pending = x0.pending := by
  unfold State.showRun; (try dsimp only); (repeat' split) <;> simp only [State.setF_frame, foldl_pwr, foldl_clk, foldl_clay, foldl_mems, foldl_pending, and_self]

@[simp] theorem State.setRun_frame (x0 x1) : (State.setRun x0 x1).pwr = x0.pwr ∧ (State.setRun x0 x1).clk = x0.clk ∧ (State.setRun x0 x1).clay = x0.clay ∧ (State.setRun x0 x1).mems = x0.mems ∧ (State.setRun x0 x1).pending = x0.pending := by
  unfold State.setRun; (try dsimp only); (repeat' split) <;> simp only [State.showRun_frame, foldl_pwr, foldl_clk, foldl_clay, foldl_mems, foldl_pending, and_self]

@[simp] theorem State.zeroKept_frame (x0 x1) : (State.zeroKept x0 x1).pwr = x0.pwr ∧ (State.zeroKept x0 x1).clk = x0.clk ∧ (State.zeroKept x0 x1).clay = x0.clay ∧ (State.zeroKept x0 x1).pending = x0.pending := by
  unfold State.zeroKept; (try dsimp only); (repeat' split) <;> simp only [foldl_pwr, foldl_clk, foldl_clay, foldl_pending, and_self]

@[simp] theorem State.dropRun_frame (x0 x1) : (State.dropRun x0 x1).pwr = x0.pwr ∧ (State.dropRun x0 x1).clk = x0.clk ∧ (State.dropRun x0 x1).clay = x0.clay ∧ (State.dropRun x0 x1).pending = x0.pending := by
  unfold State.dropRun; (try dsimp only); (repeat' split) <;> simp [*]

@[simp] theorem State.postRun_frame (x0 x1 x2 x3 x4) : (State.postRun x0 x1 x2 x3 x4).pwr = x0.pwr ∧ (State.postRun x0 x1 x2 x3 x4).clk = x0.clk ∧ (State.postRun x0 x1 x2 x3 x4).clay = x0.clay ∧ (State.postRun x0 x1 x2 x3 x4).pending = x0.pending := by
  unfold State.postRun; (try dsimp only); (repeat' split) <;> simp only [State.post_frame, foldl_pwr, foldl_clk, foldl_clay, foldl_pending, and_self]

@[simp] theorem State.finishMems_frame (x0 x1 x2) : (State.finishMems x0 x1 x2).pwr = x0.pwr ∧ (State.finishMems x0 x1 x2).clk = x0.clk ∧ (State.finishMems x0 x1 x2).clay = x0.clay ∧ (State.finishMems x0 x1 x2).mems = x0.mems ∧ (State.finishMems x0 x1 x2).pending = x0.pending := by
  unfold State.finishMems; (try dsimp only); (repeat' split) <;> simp [*]

@[simp] theorem State.abortRun_frame (x0 x1 x2 x3 x4) : (State.abortRun x0 x1 x2 x3 x4).pwr = x0.pwr ∧ (State.abortRun x0 x1 x2 x3 x4).clk = x0.clk ∧ (State.abortRun x0 x1 x2 x3 x4).clay = x0.clay ∧ (State.abortRun x0 x1 x2 x3 x4).pending = x0.pending := by
  unfold State.abortRun; (try dsimp only); (repeat' split) <;> simp [*]

@[simp] theorem State.abortTile_frame (x0 x1) : (State.abortTile x0 x1).pwr = x0.pwr ∧ (State.abortTile x0 x1).clk = x0.clk ∧ (State.abortTile x0 x1).clay = x0.clay ∧ (State.abortTile x0 x1).pending = x0.pending := by
  unfold State.abortTile; (try dsimp only); (repeat' split) <;> simp [*]

@[simp] theorem State.mismatchRun_frame (x0 x1 x2 x3) : (State.mismatchRun x0 x1 x2 x3).pwr = x0.pwr ∧ (State.mismatchRun x0 x1 x2 x3).clk = x0.clk ∧ (State.mismatchRun x0 x1 x2 x3).clay = x0.clay ∧ (State.mismatchRun x0 x1 x2 x3).pending = x0.pending := by
  unfold State.mismatchRun; (try dsimp only); (repeat' split) <;> simp only [State.finishMems_frame, State.incF_frame, State.dropRun_frame, State.postRun_frame, foldl_pwr, foldl_clk, foldl_clay, foldl_pending, and_self]

@[simp] theorem State.verdictRun_frame (x0 x1) : (State.verdictRun x0 x1).pwr = x0.pwr ∧ (State.verdictRun x0 x1).clk = x0.clk ∧ (State.verdictRun x0 x1).clay = x0.clay ∧ (State.verdictRun x0 x1).pending = x0.pending := by
  unfold State.verdictRun; (try dsimp only); (repeat' split) <;> simp only [State.mismatchRun_frame, State.setRun_frame, foldl_pwr, foldl_clk, foldl_clay, foldl_pending, and_self]

@[simp] theorem State.beginRun_frame (x0 x1) : (State.beginRun x0 x1).pwr = x0.pwr ∧ (State.beginRun x0 x1).clk = x0.clk ∧ (State.beginRun x0 x1).clay = x0.clay ∧ (State.beginRun x0 x1).pending = x0.pending := by
  unfold State.beginRun
  split
  · simp
  · split
    · simp
    · dsimp only
      split
      · simp only [and_self]
      · exact ⟨(by rw [apply_ite State.pwr]; simp), (by rw [apply_ite State.clk]; simp), (by rw [apply_ite State.clay]; simp), (by rw [apply_ite State.pending]; simp)⟩

@[simp] theorem State.retryRuns_frame (x0) : (State.retryRuns x0).pwr = x0.pwr ∧ (State.retryRuns x0).clk = x0.clk ∧ (State.retryRuns x0).clay = x0.clay ∧ (State.retryRuns x0).pending = x0.pending := by
  unfold State.retryRuns; (try dsimp only); (repeat' split) <;> simp [*]

@[simp] theorem State.recArrive_frame (x0 x1 x2) : (State.recArrive x0 x1 x2).pwr = x0.pwr ∧ (State.recArrive x0 x1 x2).clk = x0.clk ∧ (State.recArrive x0 x1 x2).clay = x0.clay ∧ (State.recArrive x0 x1 x2).pending = x0.pending := by
  unfold State.recArrive; (try dsimp only); (repeat' split) <;> simp only [State.verdictRun_frame, State.setRun_frame, State.emit_frame, foldl_pwr, foldl_clk, foldl_clay, foldl_pending, and_self]

@[simp] theorem State.joinRun_frame (x0 x1 x2 x3 x4 x5) : (State.joinRun x0 x1 x2 x3 x4 x5).pwr = x0.pwr ∧ (State.joinRun x0 x1 x2 x3 x4 x5).clk = x0.clk ∧ (State.joinRun x0 x1 x2 x3 x4 x5).clay = x0.clay ∧ (State.joinRun x0 x1 x2 x3 x4 x5).pending = x0.pending := by
  unfold State.joinRun; (try dsimp only); (repeat' split) <;> simp [*]

@[simp] theorem State.pauseRun_frame (x0 x1 x2) : (State.pauseRun x0 x1 x2).pwr = x0.pwr ∧ (State.pauseRun x0 x1 x2).clk = x0.clk ∧ (State.pauseRun x0 x1 x2).clay = x0.clay ∧ (State.pauseRun x0 x1 x2).pending = x0.pending := by
  unfold State.pauseRun
  dsimp only
  split <;> simp only [State.setRun_frame, State.dropRun_frame] <;> exact ⟨foldl_pwr _ _ _ (by intros; split <;> simp), foldl_clk _ _ _ (by intros; split <;> simp), foldl_clay _ _ _ (by intros; split <;> simp), foldl_pending _ _ _ (by intros; split <;> simp)⟩

@[simp] theorem State.roundStart_frame (x0 x1) : (State.roundStart x0 x1).pwr = x0.pwr ∧ (State.roundStart x0 x1).clk = x0.clk ∧ (State.roundStart x0 x1).clay = x0.clay ∧ (State.roundStart x0 x1).pending = x0.pending := by
  unfold State.roundStart; (try dsimp only); (repeat' split) <;> simp only [State.setRun_frame, State.pauseRun_frame, foldl_pwr, foldl_clk, foldl_clay, foldl_pending, and_self]

@[simp] theorem State.roundEnd_frame (x0 x1) : (State.roundEnd x0 x1).pwr = x0.pwr ∧ (State.roundEnd x0 x1).clk = x0.clk ∧ (State.roundEnd x0 x1).clay = x0.clay ∧ (State.roundEnd x0 x1).pending = x0.pending := by
  unfold State.roundEnd; (try dsimp only); (repeat' split) <;> simp [*]

@[simp] theorem State.pauseHeld_frame (x0 x1) : (State.pauseHeld x0 x1).pwr = x0.pwr ∧ (State.pauseHeld x0 x1).clk = x0.clk ∧ (State.pauseHeld x0 x1).clay = x0.clay ∧ (State.pauseHeld x0 x1).pending = x0.pending := by
  unfold State.pauseHeld
  split
  · simp
  · exact ⟨foldl_pwr _ _ _ (by intros; split <;> simp), foldl_clk _ _ _ (by intros; split <;> simp), foldl_clay _ _ _ (by intros; split <;> simp), foldl_pending _ _ _ (by intros; split <;> simp)⟩

@[simp] theorem State.collHeld_frame (x0 x1) : (State.collHeld x0 x1).pwr = x0.pwr ∧ (State.collHeld x0 x1).clk = x0.clk ∧ (State.collHeld x0 x1).clay = x0.clay ∧ (State.collHeld x0 x1).pending = x0.pending := by
  unfold State.collHeld; (try dsimp only); (repeat' split) <;> simp only [State.setF_frame, State.setRun_frame, State.postRun_frame, foldl_pwr, foldl_clk, foldl_clay, foldl_pending, and_self]

@[simp] theorem State.abortArrive_frame (x0 x1 x2 x3 x4) : (State.abortArrive x0 x1 x2 x3 x4).pwr = x0.pwr ∧ (State.abortArrive x0 x1 x2 x3 x4).clk = x0.clk ∧ (State.abortArrive x0 x1 x2 x3 x4).clay = x0.clay ∧ (State.abortArrive x0 x1 x2 x3 x4).pending = x0.pending := by
  unfold State.abortArrive; (try dsimp only); (repeat' split) <;> simp only [State.abortRun_frame, foldl_pwr, foldl_clk, foldl_clay, foldl_pending, and_self]

@[simp] theorem State.dropRunsOf_frame (x0 x1 x2) : (State.dropRunsOf x0 x1 x2).pwr = x0.pwr ∧ (State.dropRunsOf x0 x1 x2).clk = x0.clk ∧ (State.dropRunsOf x0 x1 x2).clay = x0.clay ∧ (State.dropRunsOf x0 x1 x2).pending = x0.pending := by
  unfold State.dropRunsOf; (try dsimp only); (repeat' split) <;> simp [*]

@[simp] theorem State.expelRuns_frame (x0 x1) : (State.expelRuns x0 x1).pwr = x0.pwr ∧ (State.expelRuns x0 x1).clk = x0.clk ∧ (State.expelRuns x0 x1).clay = x0.clay ∧ (State.expelRuns x0 x1).pending = x0.pending := by
  unfold State.expelRuns; (try dsimp only); (repeat' split) <;> simp [*]

@[simp] theorem State.loseTile_frame (x0 x1) : (State.loseTile x0 x1).pwr = x0.pwr ∧ (State.loseTile x0 x1).clk = x0.clk ∧ (State.loseTile x0 x1).pending = x0.pending := by
  unfold State.loseTile; (try dsimp only); (repeat' split) <;> simp only [State.abortTile_frame, State.tileFail_frame, foldl_pwr, foldl_clk, foldl_pending, and_self]

@[simp] theorem State.tileWrite_frame (x0 x1 x2) : (State.tileWrite x0 x1 x2).pwr = x0.pwr ∧ (State.tileWrite x0 x1 x2).clk = x0.clk ∧ (State.tileWrite x0 x1 x2).clay = x0.clay ∧ (State.tileWrite x0 x1 x2).pending = x0.pending := by
  unfold State.tileWrite; (try dsimp only); (repeat' split) <;> simp only [State.workWrite_frame, foldl_pwr, foldl_clk, foldl_clay, foldl_pending, and_self]

@[simp] theorem State.tileFlits_frame (x0 x1 x2) : (State.tileFlits x0 x1 x2).pwr = x0.pwr ∧ (State.tileFlits x0 x1 x2).clk = x0.clk ∧ (State.tileFlits x0 x1 x2).clay = x0.clay ∧ (State.tileFlits x0 x1 x2).mems = x0.mems ∧ (State.tileFlits x0 x1 x2).pending = x0.pending := by
  induction x2 generalizing x0 x1 <;> simp only [State.tileFlits, *, and_self, apply_ite State.pwr, apply_ite State.clk, apply_ite State.clay, apply_ite State.mems, apply_ite State.pending] <;> (repeat' split) <;> simp [*, apply_ite State.pwr, apply_ite State.clk, apply_ite State.clay, apply_ite State.mems, apply_ite State.pending]

@[simp] theorem State.stepDone_frame (x0 x1 x2) : (State.stepDone x0 x1 x2).pwr = x0.pwr ∧ (State.stepDone x0 x1 x2).clk = x0.clk ∧ (State.stepDone x0 x1 x2).clay = x0.clay ∧ (State.stepDone x0 x1 x2).pending = x0.pending := by
  unfold State.stepDone; (try dsimp only); (repeat' split) <;> simp only [State.tileFlits_frame, State.leaderStep_frame, State.incF_frame, State.tileWrite_frame, foldl_pwr, foldl_clk, foldl_clay, foldl_pending, and_self]

@[simp] theorem State.tileStep_frame (x0 x1 x2) : (State.tileStep x0 x1 x2).pwr = x0.pwr ∧ (State.tileStep x0 x1 x2).clk = x0.clk ∧ (State.tileStep x0 x1 x2).pending = x0.pending := by
  unfold State.tileStep; (try dsimp only); (repeat' split) <;> simp [*]

@[simp] theorem State.colCount_frame (x0 x1 x2) : (State.colCount x0 x1 x2).pwr = x0.pwr ∧ (State.colCount x0 x1 x2).clk = x0.clk ∧ (State.colCount x0 x1 x2).clay = x0.clay ∧ (State.colCount x0 x1 x2).mems = x0.mems ∧ (State.colCount x0 x1 x2).pending = x0.pending := by
  unfold State.colCount; (try dsimp only); (repeat' split) <;> simp only [State.satF_frame, State.setF_frame, foldl_pwr, foldl_clk, foldl_clay, foldl_mems, foldl_pending, and_self]

@[simp] theorem State.park_frame (x0 x1 x2 x3) : (State.park x0 x1 x2 x3).pwr = x0.pwr ∧ (State.park x0 x1 x2 x3).clk = x0.clk ∧ (State.park x0 x1 x2 x3).clay = x0.clay ∧ (State.park x0 x1 x2 x3).pending = x0.pending := by
  unfold State.park; (try dsimp only); (repeat' split) <;> simp [*]

@[simp] theorem State.parkAt_frame (x0 x1 x2 x3 x4) : (State.parkAt x0 x1 x2 x3 x4).pwr = x0.pwr ∧ (State.parkAt x0 x1 x2 x3 x4).clk = x0.clk ∧ (State.parkAt x0 x1 x2 x3 x4).clay = x0.clay ∧ (State.parkAt x0 x1 x2 x3 x4).pending = x0.pending := by
  unfold State.parkAt; (try dsimp only); (repeat' split) <;> simp [*]

@[simp] theorem State.applyXlate_frame (x0 x1 x2) : (State.applyXlate x0 x1 x2).pwr = x0.pwr ∧ (State.applyXlate x0 x1 x2).clk = x0.clk ∧ (State.applyXlate x0 x1 x2).clay = x0.clay ∧ (State.applyXlate x0 x1 x2).pending = x0.pending := by
  unfold State.applyXlate; (try dsimp only); (repeat' split) <;> simp [*]

@[simp] theorem State.wakeQueues_frame (x0 x1) : (State.wakeQueues x0 x1).pwr = x0.pwr ∧ (State.wakeQueues x0 x1).clk = x0.clk ∧ (State.wakeQueues x0 x1).clay = x0.clay ∧ (State.wakeQueues x0 x1).pending = x0.pending := by
  induction x1 generalizing x0 <;> simp only [State.wakeQueues, *, and_self, apply_ite State.pwr, apply_ite State.clk, apply_ite State.clay, apply_ite State.pending] <;> (repeat' split) <;> simp [*, apply_ite State.pwr, apply_ite State.clk, apply_ite State.clay, apply_ite State.pending]

@[simp] theorem State.presSet_frame (x0 x1 x2 x3) : (State.presSet x0 x1 x2 x3).pwr = x0.pwr ∧ (State.presSet x0 x1 x2 x3).clk = x0.clk ∧ (State.presSet x0 x1 x2 x3).clay = x0.clay ∧ (State.presSet x0 x1 x2 x3).pending = x0.pending := by
  unfold State.presSet; (try dsimp only); (repeat' split) <;> simp [*]

@[simp] theorem State.presClear_frame (x0 x1 x2) : (State.presClear x0 x1 x2).pwr = x0.pwr ∧ (State.presClear x0 x1 x2).clk = x0.clk ∧ (State.presClear x0 x1 x2).clay = x0.clay ∧ (State.presClear x0 x1 x2).pending = x0.pending := by
  unfold State.presClear; (try dsimp only); (repeat' split) <;> simp [*]

@[simp] theorem State.clearDone_frame (x0) : (State.clearDone x0).pwr = x0.pwr ∧ (State.clearDone x0).clk = x0.clk ∧ (State.clearDone x0).clay = x0.clay ∧ (State.clearDone x0).mems = x0.mems ∧ (State.clearDone x0).pending = x0.pending := by
  unfold State.clearDone; (try dsimp only); (repeat' split) <;> simp only [State.setF_frame, foldl_pwr, foldl_clk, foldl_clay, foldl_mems, foldl_pending, and_self]

@[simp] theorem Io.at_frame (x0 x1 x2) : (Io.at x0 x1 x2).s.pwr = x0.s.pwr ∧ (Io.at x0 x1 x2).s.clk = x0.s.clk ∧ (Io.at x0 x1 x2).s.clay = x0.s.clay ∧ (Io.at x0 x1 x2).s.mems = x0.s.mems ∧ (Io.at x0 x1 x2).s.pending = x0.s.pending := by
  unfold Io.at; (try dsimp only); (repeat' split) <;> simp only [foldl_pwr, foldl_clk, foldl_clay, foldl_mems, foldl_pending, and_self]

@[simp] theorem State.runIo_frame (x0 x1) : (State.runIo x0 x1).s.pwr = x0.pwr ∧ (State.runIo x0 x1).s.clk = x0.clk ∧ (State.runIo x0 x1).s.clay = x0.clay ∧ (State.runIo x0 x1).s.mems = x0.mems ∧ (State.runIo x0 x1).s.pending = x0.pending := by
  unfold State.runIo; (try dsimp only); (repeat' split) <;> simp only [foldl_pwr, foldl_clk, foldl_clay, foldl_mems, foldl_pending, and_self]

@[simp] theorem Io.mask_frame (x0 x1 x2) : (Io.mask x0 x1 x2).2.s.pwr = x0.s.pwr ∧ (Io.mask x0 x1 x2).2.s.clk = x0.s.clk ∧ (Io.mask x0 x1 x2).2.s.clay = x0.s.clay ∧ (Io.mask x0 x1 x2).2.s.mems = x0.s.mems ∧ (Io.mask x0 x1 x2).2.s.pending = x0.s.pending := by
  unfold Io.mask; (try dsimp only); (repeat' split) <;> simp only [Io.loadOp_frame, foldl_pwr, foldl_clk, foldl_clay, foldl_mems, foldl_pending, and_self]

@[simp] theorem Io.readBlocks_frame (x0 x1 x2 x3 x4 x5 x6) : (Io.readBlocks x0 x1 x2 x3 x4 x5 x6).2.s.pwr = x6.s.pwr ∧ (Io.readBlocks x0 x1 x2 x3 x4 x5 x6).2.s.clk = x6.s.clk ∧ (Io.readBlocks x0 x1 x2 x3 x4 x5 x6).2.s.clay = x6.s.clay ∧ (Io.readBlocks x0 x1 x2 x3 x4 x5 x6).2.s.mems = x6.s.mems ∧ (Io.readBlocks x0 x1 x2 x3 x4 x5 x6).2.s.pending = x6.s.pending := by
  induction x5 generalizing x1 x2 x3 x4 x6 <;> simp only [Io.readBlocks, *, and_self, apply_ite State.pwr, apply_ite State.clk, apply_ite State.clay, apply_ite State.mems, apply_ite State.pending] <;> (repeat' split) <;> simp [*, apply_ite State.pwr, apply_ite State.clk, apply_ite State.clay, apply_ite State.mems, apply_ite State.pending]

@[simp] theorem Io.readRun_frame (x0 x1 x2 x3 x4 x5 x6) : (Io.readRun x0 x1 x2 x3 x4 x5 x6).2.s.pwr = x0.s.pwr ∧ (Io.readRun x0 x1 x2 x3 x4 x5 x6).2.s.clk = x0.s.clk ∧ (Io.readRun x0 x1 x2 x3 x4 x5 x6).2.s.clay = x0.s.clay ∧ (Io.readRun x0 x1 x2 x3 x4 x5 x6).2.s.mems = x0.s.mems ∧ (Io.readRun x0 x1 x2 x3 x4 x5 x6).2.s.pending = x0.s.pending := by
  unfold Io.readRun; (try dsimp only); (repeat' split) <;> simp only [Io.readBlocks_frame, Io.loadOp_frame, foldl_pwr, foldl_clk, foldl_clay, foldl_mems, foldl_pending, and_self]

@[simp] theorem Io.writeBlocks_frame (x0 x1 x2 x3 x4 x5 x6 x7 x8) : (Io.writeBlocks x0 x1 x2 x3 x4 x5 x6 x7 x8).s.pwr = x8.s.pwr ∧ (Io.writeBlocks x0 x1 x2 x3 x4 x5 x6 x7 x8).s.clk = x8.s.clk ∧ (Io.writeBlocks x0 x1 x2 x3 x4 x5 x6 x7 x8).s.clay = x8.s.clay ∧ (Io.writeBlocks x0 x1 x2 x3 x4 x5 x6 x7 x8).s.mems = x8.s.mems ∧ (Io.writeBlocks x0 x1 x2 x3 x4 x5 x6 x7 x8).s.pending = x8.s.pending := by
  induction x7 generalizing x1 x2 x3 x5 x6 x8 <;> simp only [Io.writeBlocks, *, and_self, apply_ite State.pwr, apply_ite State.clk, apply_ite State.clay, apply_ite State.mems, apply_ite State.pending] <;> (repeat' split) <;> simp [*, apply_ite State.pwr, apply_ite State.clk, apply_ite State.clay, apply_ite State.mems, apply_ite State.pending]

@[simp] theorem Io.writeRegions_frame (x0 x1 x2 x3 x4 x5) : (Io.writeRegions x0 x1 x2 x3 x4 x5).s.pwr = x5.s.pwr ∧ (Io.writeRegions x0 x1 x2 x3 x4 x5).s.clk = x5.s.clk ∧ (Io.writeRegions x0 x1 x2 x3 x4 x5).s.clay = x5.s.clay ∧ (Io.writeRegions x0 x1 x2 x3 x4 x5).s.mems = x5.s.mems ∧ (Io.writeRegions x0 x1 x2 x3 x4 x5).s.pending = x5.s.pending := by
  induction x4 generalizing x1 x2 x3 x5 <;> simp only [Io.writeRegions, *, and_self, apply_ite State.pwr, apply_ite State.clk, apply_ite State.clay, apply_ite State.mems, apply_ite State.pending] <;> (repeat' split) <;> simp [*, apply_ite State.pwr, apply_ite State.clk, apply_ite State.clay, apply_ite State.mems, apply_ite State.pending]

@[simp] theorem Io.writeOut_frame (x0 x1 x2 x3 x4) : (Io.writeOut x0 x1 x2 x3 x4).s.pwr = x0.s.pwr ∧ (Io.writeOut x0 x1 x2 x3 x4).s.clk = x0.s.clk ∧ (Io.writeOut x0 x1 x2 x3 x4).s.clay = x0.s.clay ∧ (Io.writeOut x0 x1 x2 x3 x4).s.mems = x0.s.mems ∧ (Io.writeOut x0 x1 x2 x3 x4).s.pending = x0.s.pending := by
  unfold Io.writeOut; (try dsimp only); (repeat' split) <;> simp only [Io.writeRegions_frame, Io.storeOp_frame, foldl_pwr, foldl_clk, foldl_clay, foldl_mems, foldl_pending, and_self]

@[simp] theorem State.endRun_frame (x0 x1 x2) : (State.endRun x0 x1 x2).pwr = x0.pwr ∧ (State.endRun x0 x1 x2).clk = x0.clk ∧ (State.endRun x0 x1 x2).clay = x0.clay ∧ (State.endRun x0 x1 x2).pending = x0.pending := by
  unfold State.endRun; (try dsimp only); (repeat' split) <;> simp [*]

@[simp] theorem State.parkMems_frame (x0 x1 x2) : (State.parkMems x0 x1 x2).pwr = x0.pwr ∧ (State.parkMems x0 x1 x2).clk = x0.clk ∧ (State.parkMems x0 x1 x2).clay = x0.clay ∧ (State.parkMems x0 x1 x2).pending = x0.pending := by
  unfold State.parkMems; (try dsimp only); (repeat' split) <;> simp [*]

@[simp] theorem Io.readAll_pwr (x0 x1 x2 x3 x4) (h2 : ∀ y0 y1, (x2 y0 y1).2.s.pwr = y1.s.pwr) : (@Io.readAll x0 x1 x2 x3 x4).2.2.s.pwr = x4.s.pwr := by
  induction x3 generalizing x4 <;> simp only [Io.readAll, *, and_self, apply_ite State.pwr] <;> (repeat' split) <;> simp [*, apply_ite State.pwr]

@[simp] theorem Io.readAll_clk (x0 x1 x2 x3 x4) (h2 : ∀ y0 y1, (x2 y0 y1).2.s.clk = y1.s.clk) : (@Io.readAll x0 x1 x2 x3 x4).2.2.s.clk = x4.s.clk := by
  induction x3 generalizing x4 <;> simp only [Io.readAll, *, and_self, apply_ite State.clk] <;> (repeat' split) <;> simp [*, apply_ite State.clk]

@[simp] theorem Io.readAll_clay (x0 x1 x2 x3 x4) (h2 : ∀ y0 y1, (x2 y0 y1).2.s.clay = y1.s.clay) : (@Io.readAll x0 x1 x2 x3 x4).2.2.s.clay = x4.s.clay := by
  induction x3 generalizing x4 <;> simp only [Io.readAll, *, and_self, apply_ite State.clay] <;> (repeat' split) <;> simp [*, apply_ite State.clay]

@[simp] theorem Io.readAll_mems (x0 x1 x2 x3 x4) (h2 : ∀ y0 y1, (x2 y0 y1).2.s.mems = y1.s.mems) : (@Io.readAll x0 x1 x2 x3 x4).2.2.s.mems = x4.s.mems := by
  induction x3 generalizing x4 <;> simp only [Io.readAll, *, and_self, apply_ite State.mems] <;> (repeat' split) <;> simp [*, apply_ite State.mems]

@[simp] theorem Io.readAll_pending (x0 x1 x2 x3 x4) (h2 : ∀ y0 y1, (x2 y0 y1).2.s.pending = y1.s.pending) : (@Io.readAll x0 x1 x2 x3 x4).2.2.s.pending = x4.s.pending := by
  induction x3 generalizing x4 <;> simp only [Io.readAll, *, and_self, apply_ite State.pending] <;> (repeat' split) <;> simp [*, apply_ite State.pending]

@[simp] theorem Io.writeAll_pwr (x0 x1 x2 x3) (h1 : ∀ y0 y1 y2, (x1 y0 y1 y2).2.s.pwr = y2.s.pwr) : (Io.writeAll x0 x1 x2 x3).2.2.s.pwr = x3.s.pwr := by
  induction x2 generalizing x3 <;> simp only [Io.writeAll, *, and_self, apply_ite State.pwr] <;> (repeat' split) <;> simp [*, apply_ite State.pwr]

@[simp] theorem Io.writeAll_clk (x0 x1 x2 x3) (h1 : ∀ y0 y1 y2, (x1 y0 y1 y2).2.s.clk = y2.s.clk) : (Io.writeAll x0 x1 x2 x3).2.2.s.clk = x3.s.clk := by
  induction x2 generalizing x3 <;> simp only [Io.writeAll, *, and_self, apply_ite State.clk] <;> (repeat' split) <;> simp [*, apply_ite State.clk]

@[simp] theorem Io.writeAll_clay (x0 x1 x2 x3) (h1 : ∀ y0 y1 y2, (x1 y0 y1 y2).2.s.clay = y2.s.clay) : (Io.writeAll x0 x1 x2 x3).2.2.s.clay = x3.s.clay := by
  induction x2 generalizing x3 <;> simp only [Io.writeAll, *, and_self, apply_ite State.clay] <;> (repeat' split) <;> simp [*, apply_ite State.clay]

@[simp] theorem Io.writeAll_mems (x0 x1 x2 x3) (h1 : ∀ y0 y1 y2, (x1 y0 y1 y2).2.s.mems = y2.s.mems) : (Io.writeAll x0 x1 x2 x3).2.2.s.mems = x3.s.mems := by
  induction x2 generalizing x3 <;> simp only [Io.writeAll, *, and_self, apply_ite State.mems] <;> (repeat' split) <;> simp [*, apply_ite State.mems]

@[simp] theorem Io.writeAll_pending (x0 x1 x2 x3) (h1 : ∀ y0 y1 y2, (x1 y0 y1 y2).2.s.pending = y2.s.pending) : (Io.writeAll x0 x1 x2 x3).2.2.s.pending = x3.s.pending := by
  induction x2 generalizing x3 <;> simp only [Io.writeAll, *, and_self, apply_ite State.pending] <;> (repeat' split) <;> simp [*, apply_ite State.pending]

@[simp] theorem State.stage_pwr (x0 x1 x2 x3 x4 x5 x6 x7 x8) (h5 : ∀ y0 y1 y2, (x5 y0 y1 y2).2.s.pwr = y2.s.pwr) (h6 : ∀ y0 y1 y2 y3 y4, (x6 y0 y1 y2 y3 y4).2.s.pwr = y4.s.pwr) (h7 : ∀ y0 y1 y2 y3, (x7 y0 y1 y2 y3).pwr = y0.pwr) : (@State.stage x0 x1 x2 x3 x4 x5 x6 x7 x8).pwr = x1.pwr := by
  unfold State.stage; (try dsimp only); (repeat' split) <;> simp [*]

@[simp] theorem State.stage_clk (x0 x1 x2 x3 x4 x5 x6 x7 x8) (h5 : ∀ y0 y1 y2, (x5 y0 y1 y2).2.s.clk = y2.s.clk) (h6 : ∀ y0 y1 y2 y3 y4, (x6 y0 y1 y2 y3 y4).2.s.clk = y4.s.clk) (h7 : ∀ y0 y1 y2 y3, (x7 y0 y1 y2 y3).clk = y0.clk) : (@State.stage x0 x1 x2 x3 x4 x5 x6 x7 x8).clk = x1.clk := by
  unfold State.stage; (try dsimp only); (repeat' split) <;> simp [*]

@[simp] theorem State.stage_clay (x0 x1 x2 x3 x4 x5 x6 x7 x8) (h5 : ∀ y0 y1 y2, (x5 y0 y1 y2).2.s.clay = y2.s.clay) (h6 : ∀ y0 y1 y2 y3 y4, (x6 y0 y1 y2 y3 y4).2.s.clay = y4.s.clay) (h7 : ∀ y0 y1 y2 y3, (x7 y0 y1 y2 y3).clay = y0.clay) : (@State.stage x0 x1 x2 x3 x4 x5 x6 x7 x8).clay = x1.clay := by
  unfold State.stage; (try dsimp only); (repeat' split) <;> simp [*]

@[simp] theorem State.stage_pending (x0 x1 x2 x3 x4 x5 x6 x7 x8) (h5 : ∀ y0 y1 y2, (x5 y0 y1 y2).2.s.pending = y2.s.pending) (h6 : ∀ y0 y1 y2 y3 y4, (x6 y0 y1 y2 y3 y4).2.s.pending = y4.s.pending) (h7 : ∀ y0 y1 y2 y3, (x7 y0 y1 y2 y3).pending = y0.pending) : (@State.stage x0 x1 x2 x3 x4 x5 x6 x7 x8).pending = x1.pending := by
  unfold State.stage; (try dsimp only); (repeat' split) <;> simp [*]

@[simp] theorem Io.readRegions_frame (x0 x1 x2 x3 x4 x5 x6 x7 x8) : (Io.readRegions x0 x1 x2 x3 x4 x5 x6 x7 x8).2.s.pwr = x8.s.pwr ∧ (Io.readRegions x0 x1 x2 x3 x4 x5 x6 x7 x8).2.s.clk = x8.s.clk ∧ (Io.readRegions x0 x1 x2 x3 x4 x5 x6 x7 x8).2.s.clay = x8.s.clay ∧ (Io.readRegions x0 x1 x2 x3 x4 x5 x6 x7 x8).2.s.mems = x8.s.mems ∧ (Io.readRegions x0 x1 x2 x3 x4 x5 x6 x7 x8).2.s.pending = x8.s.pending := by
  induction x5 generalizing x1 x2 x3 x4 x6 x8 <;> simp only [Io.readRegions, *, and_self, apply_ite State.pwr, apply_ite State.clk, apply_ite State.clay, apply_ite State.mems, apply_ite State.pending] <;> (repeat' split) <;> simp [*, apply_ite State.pwr, apply_ite State.clk, apply_ite State.clay, apply_ite State.mems, apply_ite State.pending]

@[simp] theorem State.sendXfers_frame (x0 x1 x2) : (State.sendXfers x0 x1 x2).pwr = x0.pwr ∧ (State.sendXfers x0 x1 x2).clk = x0.clk ∧ (State.sendXfers x0 x1 x2).clay = x0.clay ∧ (State.sendXfers x0 x1 x2).mems = x0.mems ∧ (State.sendXfers x0 x1 x2).pending = x0.pending := by
  unfold State.sendXfers; (try dsimp only); (repeat' split) <;> simp [*]

@[simp] theorem State.readSrc_frame (x0 x1 x2 x3) : (State.readSrc x0 x1 x2 x3).2.s.pwr = x3.s.pwr ∧ (State.readSrc x0 x1 x2 x3).2.s.clk = x3.s.clk ∧ (State.readSrc x0 x1 x2 x3).2.s.clay = x3.s.clay ∧ (State.readSrc x0 x1 x2 x3).2.s.mems = x3.s.mems ∧ (State.readSrc x0 x1 x2 x3).2.s.pending = x3.s.pending := by
  unfold State.readSrc; (try dsimp only); (repeat' split) <;> simp only [Io.mask_frame, Io.readRun_frame, Io.readRegions_frame, foldl_pwr, foldl_clk, foldl_clay, foldl_mems, foldl_pending, and_self]

@[simp] theorem Io.countSat_frame (x0 x1) : (Io.countSat x0 x1).s.pwr = x0.s.pwr ∧ (Io.countSat x0 x1).s.clk = x0.s.clk ∧ (Io.countSat x0 x1).s.clay = x0.s.clay ∧ (Io.countSat x0 x1).s.mems = x0.s.mems ∧ (Io.countSat x0 x1).s.pending = x0.s.pending := by
  unfold Io.countSat; (try dsimp only); (repeat' split) <;> simp only [State.incF_frame, foldl_pwr, foldl_clk, foldl_clay, foldl_mems, foldl_pending, and_self]

@[simp] theorem State.dense_frame (x0 x1 x2 x3 x4) : (State.dense x0 x1 x2 x3 x4).pwr = x0.pwr ∧ (State.dense x0 x1 x2 x3 x4).clk = x0.clk ∧ (State.dense x0 x1 x2 x3 x4).clay = x0.clay ∧ (State.dense x0 x1 x2 x3 x4).pending = x0.pending := by
  unfold State.dense; (try dsimp only); (repeat' split) <;> simp [*]

@[simp] theorem State.sendParts_frame (x0 x1 x2 x3 x4) : (State.sendParts x0 x1 x2 x3 x4).pwr = x0.pwr ∧ (State.sendParts x0 x1 x2 x3 x4).clk = x0.clk ∧ (State.sendParts x0 x1 x2 x3 x4).clay = x0.clay ∧ (State.sendParts x0 x1 x2 x3 x4).mems = x0.mems ∧ (State.sendParts x0 x1 x2 x3 x4).pending = x0.pending := by
  unfold State.sendParts; (try dsimp only); (repeat' split) <;> simp [*]

@[simp] theorem State.reduceScatter_frame (x0 x1 x2 x3) : (State.reduceScatter x0 x1 x2 x3).pwr = x0.pwr ∧ (State.reduceScatter x0 x1 x2 x3).clk = x0.clk ∧ (State.reduceScatter x0 x1 x2 x3).clay = x0.clay ∧ (State.reduceScatter x0 x1 x2 x3).pending = x0.pending := by
  unfold State.reduceScatter; (try dsimp only); (repeat' split) <;> simp [*]

@[simp] theorem Io.readPacked_frame (x0 x1 x2 x3 x4) : (Io.readPacked x0 x1 x2 x3 x4).2.s.pwr = x4.s.pwr ∧ (Io.readPacked x0 x1 x2 x3 x4).2.s.clk = x4.s.clk ∧ (Io.readPacked x0 x1 x2 x3 x4).2.s.clay = x4.s.clay ∧ (Io.readPacked x0 x1 x2 x3 x4).2.s.mems = x4.s.mems ∧ (Io.readPacked x0 x1 x2 x3 x4).2.s.pending = x4.s.pending := by
  induction x1 generalizing x2 x4 <;> simp only [Io.readPacked, *, and_self, apply_ite State.pwr, apply_ite State.clk, apply_ite State.clay, apply_ite State.mems, apply_ite State.pending] <;> (repeat' split) <;> simp [*, apply_ite State.pwr, apply_ite State.clk, apply_ite State.clay, apply_ite State.mems, apply_ite State.pending]

@[simp] theorem Io.writeRecv_frame (x0 x1 x2 x3) : (Io.writeRecv x0 x1 x2 x3).s.pwr = x3.s.pwr ∧ (Io.writeRecv x0 x1 x2 x3).s.clk = x3.s.clk ∧ (Io.writeRecv x0 x1 x2 x3).s.clay = x3.s.clay ∧ (Io.writeRecv x0 x1 x2 x3).s.mems = x3.s.mems ∧ (Io.writeRecv x0 x1 x2 x3).s.pending = x3.s.pending := by
  induction x2 generalizing x1 x3 <;> simp only [Io.writeRecv, *, and_self, apply_ite State.pwr, apply_ite State.clk, apply_ite State.clay, apply_ite State.mems, apply_ite State.pending] <;> (repeat' split) <;> simp [*, apply_ite State.pwr, apply_ite State.clk, apply_ite State.clay, apply_ite State.mems, apply_ite State.pending]

@[simp] theorem State.exchangeV_frame (x0 x1 x2 x3) : (State.exchangeV x0 x1 x2 x3).pwr = x0.pwr ∧ (State.exchangeV x0 x1 x2 x3).clk = x0.clk ∧ (State.exchangeV x0 x1 x2 x3).clay = x0.clay ∧ (State.exchangeV x0 x1 x2 x3).pending = x0.pending := by
  unfold State.exchangeV; (try dsimp only); (repeat' split) <;> simp [*]

@[simp] theorem Io.readPairs_frame (x0 x1) : (Io.readPairs x0 x1).2.s.pwr = x1.s.pwr ∧ (Io.readPairs x0 x1).2.s.clk = x1.s.clk ∧ (Io.readPairs x0 x1).2.s.clay = x1.s.clay ∧ (Io.readPairs x0 x1).2.s.mems = x1.s.mems ∧ (Io.readPairs x0 x1).2.s.pending = x1.s.pending := by
  unfold Io.readPairs; (try dsimp only); (repeat' split) <;> simp only [Io.loadOp_frame, Io.fail_frame, foldl_pwr, foldl_clk, foldl_clay, foldl_mems, foldl_pending, and_self]

@[simp] theorem State.truncOnce_frame (x0 x1 x2) : (State.truncOnce x0 x1 x2).pwr = x0.pwr ∧ (State.truncOnce x0 x1 x2).clk = x0.clk ∧ (State.truncOnce x0 x1 x2).clay = x0.clay ∧ (State.truncOnce x0 x1 x2).pending = x0.pending := by
  unfold State.truncOnce; (try dsimp only); (repeat' split) <;> simp only [State.postRun_frame, foldl_pwr, foldl_clk, foldl_clay, foldl_pending, and_self]

@[simp] theorem Io.writePairs_frame (x0 x1 x2 x3 x4) : (Io.writePairs x0 x1 x2 x3 x4).2.s.pwr = x4.s.pwr ∧ (Io.writePairs x0 x1 x2 x3 x4).2.s.clk = x4.s.clk ∧ (Io.writePairs x0 x1 x2 x3 x4).2.s.clay = x4.s.clay ∧ (Io.writePairs x0 x1 x2 x3 x4).2.s.pending = x4.s.pending := by
  unfold Io.writePairs; (try dsimp only); (repeat' split) <;> simp only [Io.loadOp_frame, Io.countSat_frame, Io.storeOp_frame, State.truncOnce_frame, State.setF_frame, foldl_pwr, foldl_clk, foldl_clay, foldl_pending, and_self]

@[simp] theorem State.sendCols_frame (x0 x1 x2 x3 x4) : (State.sendCols x0 x1 x2 x3 x4).pwr = x0.pwr ∧ (State.sendCols x0 x1 x2 x3 x4).clk = x0.clk ∧ (State.sendCols x0 x1 x2 x3 x4).clay = x0.clay ∧ (State.sendCols x0 x1 x2 x3 x4).mems = x0.mems ∧ (State.sendCols x0 x1 x2 x3 x4).pending = x0.pending := by
  unfold State.sendCols; (try dsimp only); (repeat' split) <;> simp [*]

@[simp] theorem State.sparse_frame (x0 x1 x2 x3) : (State.sparse x0 x1 x2 x3).pwr = x0.pwr ∧ (State.sparse x0 x1 x2 x3).clk = x0.clk ∧ (State.sparse x0 x1 x2 x3).clay = x0.clay ∧ (State.sparse x0 x1 x2 x3).pending = x0.pending := by
  unfold State.sparse; (try dsimp only); (repeat' split) <;> simp [*]

@[simp] theorem Io.routes_frame (x0 x1 x2) : (Io.routes x0 x1 x2).2.s.pwr = x0.s.pwr ∧ (Io.routes x0 x1 x2).2.s.clk = x0.s.clk ∧ (Io.routes x0 x1 x2).2.s.clay = x0.s.clay ∧ (Io.routes x0 x1 x2).2.s.mems = x0.s.mems ∧ (Io.routes x0 x1 x2).2.s.pending = x0.s.pending := by
  unfold Io.routes; (try dsimp only); (repeat' split) <;> simp only [Io.loadOp_frame, Io.fail_frame, foldl_pwr, foldl_clk, foldl_clay, foldl_mems, foldl_pending, and_self]

@[simp] theorem State.sendRoutes_frame (x0 x1 x2 x3) : (State.sendRoutes x0 x1 x2 x3).pwr = x0.pwr ∧ (State.sendRoutes x0 x1 x2 x3).clk = x0.clk ∧ (State.sendRoutes x0 x1 x2 x3).clay = x0.clay ∧ (State.sendRoutes x0 x1 x2 x3).mems = x0.mems ∧ (State.sendRoutes x0 x1 x2 x3).pending = x0.pending := by
  unfold State.sendRoutes; (try dsimp only); (repeat' split) <;> simp [*]

@[simp] theorem State.takeRoutes_frame (x0 x1 x2 x3) : (State.takeRoutes x0 x1 x2 x3).2.pwr = x0.pwr ∧ (State.takeRoutes x0 x1 x2 x3).2.clk = x0.clk ∧ (State.takeRoutes x0 x1 x2 x3).2.clay = x0.clay ∧ (State.takeRoutes x0 x1 x2 x3).2.mems = x0.mems ∧ (State.takeRoutes x0 x1 x2 x3).2.pending = x0.pending := by
  unfold State.takeRoutes; (try dsimp only); (repeat' split) <;> simp [*]

@[simp] theorem State.stopRun_frame (x0 x1 x2) : (State.stopRun x0 x1 x2).pwr = x0.pwr ∧ (State.stopRun x0 x1 x2).clk = x0.clk ∧ (State.stopRun x0 x1 x2).clay = x0.clay ∧ (State.stopRun x0 x1 x2).pending = x0.pending := by
  unfold State.stopRun; (try dsimp only); (repeat' split) <;> simp only [State.parkMems_frame, State.abortRun_frame, foldl_pwr, foldl_clk, foldl_clay, foldl_pending, and_self]

@[simp] theorem State.expertDecide_frame (x0 x1 x2 x3 x4) : (State.expertDecide x0 x1 x2 x3 x4).pwr = x0.pwr ∧ (State.expertDecide x0 x1 x2 x3 x4).clk = x0.clk ∧ (State.expertDecide x0 x1 x2 x3 x4).clay = x0.clay ∧ (State.expertDecide x0 x1 x2 x3 x4).pending = x0.pending := by
  unfold State.expertDecide
  split
  · simp
  · rename_i r hr
    split
    · simp
    · rename_i d hd
      split
      · simp
      · have h := State.takeRoutes_frame x0 r d x4
        rcases ht : x0.takeRoutes r d x4 with ⟨o, t⟩
        rw [ht] at h
        rcases o with _ | x
        · dsimp only
          split
          · simp_all
          · simp only [State.setRun_frame]
            split <;> simp_all
        · simp_all

@[simp] theorem Io.rows_frame (x0 x1 x2 x3) : (Io.rows x0 x1 x2 x3).2.s.pwr = x3.s.pwr ∧ (Io.rows x0 x1 x2 x3).2.s.clk = x3.s.clk ∧ (Io.rows x0 x1 x2 x3).2.s.clay = x3.s.clay ∧ (Io.rows x0 x1 x2 x3).2.s.mems = x3.s.mems ∧ (Io.rows x0 x1 x2 x3).2.s.pending = x3.s.pending := by
  induction x2 generalizing x1 x3 <;> simp only [Io.rows, *, and_self, apply_ite State.pwr, apply_ite State.clk, apply_ite State.clay, apply_ite State.mems, apply_ite State.pending] <;> (repeat' split) <;> simp [*, apply_ite State.pwr, apply_ite State.clk, apply_ite State.clay, apply_ite State.mems, apply_ite State.pending]

@[simp] theorem State.bufWrite_frame (x0 x1 x2 x3 x4) : (State.bufWrite x0 x1 x2 x3 x4).2.pwr = x0.pwr ∧ (State.bufWrite x0 x1 x2 x3 x4).2.clk = x0.clk ∧ (State.bufWrite x0 x1 x2 x3 x4).2.clay = x0.clay ∧ (State.bufWrite x0 x1 x2 x3 x4).2.pending = x0.pending := by
  induction x2 generalizing x0 x3 x4 <;> simp only [State.bufWrite, *, and_self, apply_ite State.pwr, apply_ite State.clk, apply_ite State.clay, apply_ite State.pending] <;> (repeat' split) <;> simp [*, apply_ite State.pwr, apply_ite State.clk, apply_ite State.clay, apply_ite State.pending]

@[simp] theorem State.placeRows_frame (x0 x1 x2 x3 x4 x5) : (State.placeRows x0 x1 x2 x3 x4 x5).2.pwr = x0.pwr ∧ (State.placeRows x0 x1 x2 x3 x4 x5).2.clk = x0.clk ∧ (State.placeRows x0 x1 x2 x3 x4 x5).2.clay = x0.clay ∧ (State.placeRows x0 x1 x2 x3 x4 x5).2.pending = x0.pending := by
  induction x5 generalizing x0 x2 x4 <;> simp only [State.placeRows, *, and_self, apply_ite State.pwr, apply_ite State.clk, apply_ite State.clay, apply_ite State.pending] <;> (repeat' split) <;> simp [*, apply_ite State.pwr, apply_ite State.clk, apply_ite State.clay, apply_ite State.pending]

@[simp] theorem Io.placeAll_frame (x0 x1 x2 x3 x4) : (Io.placeAll x0 x1 x2 x3 x4).s.pwr = x4.s.pwr ∧ (Io.placeAll x0 x1 x2 x3 x4).s.clk = x4.s.clk ∧ (Io.placeAll x0 x1 x2 x3 x4).s.clay = x4.s.clay ∧ (Io.placeAll x0 x1 x2 x3 x4).s.pending = x4.s.pending := by
  induction x3 generalizing x4 <;> simp only [Io.placeAll, *, and_self, apply_ite State.pwr, apply_ite State.clk, apply_ite State.clay, apply_ite State.pending] <;> (repeat' split) <;> simp [*, apply_ite State.pwr, apply_ite State.clk, apply_ite State.clay, apply_ite State.pending]

@[simp] theorem Io.overRows_frame (x0 x1 x2 x3 x4) : (Io.overRows x0 x1 x2 x3 x4).s.pwr = x4.s.pwr ∧ (Io.overRows x0 x1 x2 x3 x4).s.clk = x4.s.clk ∧ (Io.overRows x0 x1 x2 x3 x4).s.clay = x4.s.clay ∧ (Io.overRows x0 x1 x2 x3 x4).s.mems = x4.s.mems ∧ (Io.overRows x0 x1 x2 x3 x4).s.pending = x4.s.pending := by
  induction x3 generalizing x2 x4 <;> simp only [Io.overRows, *, and_self, apply_ite State.pwr, apply_ite State.clk, apply_ite State.clay, apply_ite State.mems, apply_ite State.pending] <;> (repeat' split) <;> simp [*, apply_ite State.pwr, apply_ite State.clk, apply_ite State.clay, apply_ite State.mems, apply_ite State.pending]

@[simp] theorem State.dispatchAt_frame (x0 x1 x2 x3 x4 x5 x6 x7) : (State.dispatchAt x0 x1 x2 x3 x4 x5 x6 x7).2.s.pwr = x7.s.pwr ∧ (State.dispatchAt x0 x1 x2 x3 x4 x5 x6 x7).2.s.clk = x7.s.clk ∧ (State.dispatchAt x0 x1 x2 x3 x4 x5 x6 x7).2.s.clay = x7.s.clay ∧ (State.dispatchAt x0 x1 x2 x3 x4 x5 x6 x7).2.s.pending = x7.s.pending := by
  unfold State.dispatchAt; (try dsimp only); (repeat' split) <;> simp only [Io.placeAll_frame, Io.overRows_frame, Io.storeOp_frame, foldl_pwr, foldl_clk, foldl_clay, foldl_pending, and_self]

@[simp] theorem State.sendRows_frame (x0 x1 x2 x3) : (State.sendRows x0 x1 x2 x3).pwr = x0.pwr ∧ (State.sendRows x0 x1 x2 x3).clk = x0.clk ∧ (State.sendRows x0 x1 x2 x3).clay = x0.clay ∧ (State.sendRows x0 x1 x2 x3).mems = x0.mems ∧ (State.sendRows x0 x1 x2 x3).pending = x0.pending := by
  unfold State.sendRows; (try dsimp only); (repeat' split) <;> simp [*]

@[simp] theorem State.sendPlans_frame (x0 x1 x2) : (State.sendPlans x0 x1 x2).pwr = x0.pwr ∧ (State.sendPlans x0 x1 x2).clk = x0.clk ∧ (State.sendPlans x0 x1 x2).clay = x0.clay ∧ (State.sendPlans x0 x1 x2).mems = x0.mems ∧ (State.sendPlans x0 x1 x2).pending = x0.pending := by
  unfold State.sendPlans; (try dsimp only); (repeat' split) <;> simp [*]

@[simp] theorem State.countDecisions_frame (x0 x1 x2) : (State.countDecisions x0 x1 x2).pwr = x0.pwr ∧ (State.countDecisions x0 x1 x2).clk = x0.clk ∧ (State.countDecisions x0 x1 x2).clay = x0.clay ∧ (State.countDecisions x0 x1 x2).pending = x0.pending := by
  unfold State.countDecisions; (try dsimp only); (repeat' split) <;> simp only [State.incF_frame, State.postRun_frame, foldl_pwr, foldl_clk, foldl_clay, foldl_pending, and_self]

@[simp] theorem Io.memRoutes_frame (x0 x1 x2) : (Io.memRoutes x0 x1 x2).2.s.pwr = x2.s.pwr ∧ (Io.memRoutes x0 x1 x2).2.s.clk = x2.s.clk ∧ (Io.memRoutes x0 x1 x2).2.s.clay = x2.s.clay ∧ (Io.memRoutes x0 x1 x2).2.s.mems = x2.s.mems ∧ (Io.memRoutes x0 x1 x2).2.s.pending = x2.s.pending := by
  unfold Io.memRoutes; (try dsimp only); (repeat' split) <;> simp only [Io.routes_frame, foldl_pwr, foldl_clk, foldl_clay, foldl_mems, foldl_pending, and_self]

@[simp] theorem State.dispatch_frame (x0 x1 x2 x3 x4) : (State.dispatch x0 x1 x2 x3 x4).pwr = x0.pwr ∧ (State.dispatch x0 x1 x2 x3 x4).clk = x0.clk ∧ (State.dispatch x0 x1 x2 x3 x4).clay = x0.clay ∧ (State.dispatch x0 x1 x2 x3 x4).pending = x0.pending := by
  unfold State.dispatch; (try dsimp only); (repeat' split) <;> simp_all [apply_ite State.pwr, apply_ite State.clk, apply_ite State.clay, apply_ite State.pending, apply_ite Io.s, apply_ite (@Prod.snd _ _)]

@[simp] theorem Io.outRows_frame (x0 x1 x2) : (Io.outRows x0 x1 x2).2.s.pwr = x2.s.pwr ∧ (Io.outRows x0 x1 x2).2.s.clk = x2.s.clk ∧ (Io.outRows x0 x1 x2).2.s.clay = x2.s.clay ∧ (Io.outRows x0 x1 x2).2.s.mems = x2.s.mems ∧ (Io.outRows x0 x1 x2).2.s.pending = x2.s.pending := by
  unfold Io.outRows; (try dsimp only); (repeat' split) <;> simp only [Io.rows_frame, foldl_pwr, foldl_clk, foldl_clay, foldl_mems, foldl_pending, and_self]

@[simp] theorem State.combineRead_frame (x0 x1 x2 x3 x4) : (State.combineRead x0 x1 x2 x3 x4).2.s.pwr = x4.s.pwr ∧ (State.combineRead x0 x1 x2 x3 x4).2.s.clk = x4.s.clk ∧ (State.combineRead x0 x1 x2 x3 x4).2.s.clay = x4.s.clay ∧ (State.combineRead x0 x1 x2 x3 x4).2.s.pending = x4.s.pending := by
  unfold State.combineRead; (try dsimp only); (repeat' split) <;> simp only [Io.routes_frame, Io.loadOp_frame, Io.outRows_frame, foldl_pwr, foldl_clk, foldl_clay, foldl_pending, and_self]

@[simp] theorem State.sendOuts_frame (x0 x1 x2) : (State.sendOuts x0 x1 x2).pwr = x0.pwr ∧ (State.sendOuts x0 x1 x2).clk = x0.clk ∧ (State.sendOuts x0 x1 x2).clay = x0.clay ∧ (State.sendOuts x0 x1 x2).mems = x0.mems ∧ (State.sendOuts x0 x1 x2).pending = x0.pending := by
  unfold State.sendOuts; (try dsimp only); (repeat' split) <;> simp [*]

@[simp] theorem Io.dstRows_frame (x0 x1 x2 x3) : (Io.dstRows x0 x1 x2 x3).s.pwr = x3.s.pwr ∧ (Io.dstRows x0 x1 x2 x3).s.clk = x3.s.clk ∧ (Io.dstRows x0 x1 x2 x3).s.clay = x3.s.clay ∧ (Io.dstRows x0 x1 x2 x3).s.mems = x3.s.mems ∧ (Io.dstRows x0 x1 x2 x3).s.pending = x3.s.pending := by
  induction x2 generalizing x1 x3 <;> simp only [Io.dstRows, *, and_self, apply_ite State.pwr, apply_ite State.clk, apply_ite State.clay, apply_ite State.mems, apply_ite State.pending] <;> (repeat' split) <;> simp [*, apply_ite State.pwr, apply_ite State.clk, apply_ite State.clay, apply_ite State.mems, apply_ite State.pending]

@[simp] theorem State.combine_frame (x0 x1 x2 x3 x4) : (State.combine x0 x1 x2 x3 x4).pwr = x0.pwr ∧ (State.combine x0 x1 x2 x3 x4).clk = x0.clk ∧ (State.combine x0 x1 x2 x3 x4).clay = x0.clay ∧ (State.combine x0 x1 x2 x3 x4).pending = x0.pending := by
  unfold State.combine
  exact ⟨State.stage_pwr _ _ _ _ _ _ _ _ _ (by intros; simp) (by intros; dsimp only; split <;> simp [apply_ite Io.s, apply_ite State.pwr, apply_ite State.clk, apply_ite State.clay, apply_ite State.pending]) (by intros; simp), State.stage_clk _ _ _ _ _ _ _ _ _ (by intros; simp) (by intros; dsimp only; split <;> simp [apply_ite Io.s, apply_ite State.pwr, apply_ite State.clk, apply_ite State.clay, apply_ite State.pending]) (by intros; simp), State.stage_clay _ _ _ _ _ _ _ _ _ (by intros; simp) (by intros; dsimp only; split <;> simp [apply_ite Io.s, apply_ite State.pwr, apply_ite State.clk, apply_ite State.clay, apply_ite State.pending]) (by intros; simp), State.stage_pending _ _ _ _ _ _ _ _ _ (by intros; simp) (by intros; dsimp only; split <;> simp [apply_ite Io.s, apply_ite State.pwr, apply_ite State.clk, apply_ite State.clay, apply_ite State.pending]) (by intros; simp)⟩

@[simp] theorem State.putStop_frame (x0 x1) : (State.putStop x0 x1).pwr = x0.pwr ∧ (State.putStop x0 x1).clk = x0.clk ∧ (State.putStop x0 x1).clay = x0.clay ∧ (State.putStop x0 x1).mems = x0.mems ∧ (State.putStop x0 x1).pending = x0.pending := by
  unfold State.putStop; (try dsimp only); (repeat' split) <;> simp only [foldl_pwr, foldl_clk, foldl_clay, foldl_mems, foldl_pending, and_self]

@[simp] theorem State.haltJob_frame (x0 x1 x2) : (State.haltJob x0 x1 x2).pwr = x0.pwr ∧ (State.haltJob x0 x1 x2).clk = x0.clk ∧ (State.haltJob x0 x1 x2).clay = x0.clay ∧ (State.haltJob x0 x1 x2).pending = x0.pending := by
  unfold State.haltJob; (try dsimp only); (repeat' split) <;> simp only [State.stopQueuesOf_frame, State.dropRunsOf_frame, foldl_pwr, foldl_clk, foldl_clay, foldl_pending, and_self]

@[simp] theorem State.stopHere_frame (x0 x1 x2 x3 x4) : (State.stopHere x0 x1 x2 x3 x4).pwr = x0.pwr ∧ (State.stopHere x0 x1 x2 x3 x4).clk = x0.clk ∧ (State.stopHere x0 x1 x2 x3 x4).clay = x0.clay ∧ (State.stopHere x0 x1 x2 x3 x4).pending = x0.pending := by
  unfold State.stopHere; (try dsimp only); (repeat' split) <;> simp only [State.putStop_frame, State.post_frame, State.haltJob_frame, State.setF_frame, foldl_pwr, foldl_clk, foldl_clay, foldl_pending, and_self]

@[simp] theorem State.resumeHere_frame (x0 x1 x2 x3) : (State.resumeHere x0 x1 x2 x3).pwr = x0.pwr ∧ (State.resumeHere x0 x1 x2 x3).clk = x0.clk ∧ (State.resumeHere x0 x1 x2 x3).clay = x0.clay ∧ (State.resumeHere x0 x1 x2 x3).mems = x0.mems ∧ (State.resumeHere x0 x1 x2 x3).pending = x0.pending := by
  unfold State.resumeHere; (try dsimp only); (repeat' split) <;> simp only [State.putStop_frame, foldl_pwr, foldl_clk, foldl_clay, foldl_mems, foldl_pending, and_self]

@[simp] theorem State.jobAct_frame (x0 x1 x2) : (State.jobAct x0 x1 x2).pwr = x0.pwr ∧ (State.jobAct x0 x1 x2).clk = x0.clk ∧ (State.jobAct x0 x1 x2).clay = x0.clay ∧ (State.jobAct x0 x1 x2).pending = x0.pending := by
  unfold State.jobAct; (try dsimp only); (repeat' split) <;> simp only [State.resumeHere_frame, State.stopHere_frame, foldl_pwr, foldl_clk, foldl_clay, foldl_pending, and_self]

@[simp] theorem State.stopArrive_frame (x0 x1) : (State.stopArrive x0 x1).pwr = x0.pwr ∧ (State.stopArrive x0 x1).clk = x0.clk ∧ (State.stopArrive x0 x1).clay = x0.clay ∧ (State.stopArrive x0 x1).pending = x0.pending := by
  unfold State.stopArrive; (try dsimp only); (repeat' split) <;> simp only [State.ctrlAll_frame, State.jobAct_frame, foldl_pwr, foldl_clk, foldl_clay, foldl_pending, and_self]

@[simp] theorem State.jobCmd_frame (x0 x1 x2 x3) : (State.jobCmd x0 x1 x2 x3).pwr = x0.pwr ∧ (State.jobCmd x0 x1 x2 x3).clk = x0.clk ∧ (State.jobCmd x0 x1 x2 x3).clay = x0.clay ∧ (State.jobCmd x0 x1 x2 x3).pending = x0.pending := by
  unfold State.jobCmd; (try dsimp only); (repeat' split) <;> simp only [State.jobAct_frame, State.ctrlAll_frame, foldl_pwr, foldl_clk, foldl_clay, foldl_pending, and_self]

@[simp] theorem State.lostJob_frame (x0 x1) : (State.lostJob x0 x1).pwr = x0.pwr ∧ (State.lostJob x0 x1).clk = x0.clk ∧ (State.lostJob x0 x1).clay = x0.clay ∧ (State.lostJob x0 x1).pending = x0.pending := by
  unfold State.lostJob; (try dsimp only); (repeat' split) <;> simp only [State.ctrlAll_frame, State.jobAct_frame, foldl_pwr, foldl_clk, foldl_clay, foldl_pending, and_self]

@[simp] theorem State.declareDown_frame (x0 x1 x2) : (State.declareDown x0 x1 x2).pwr = x0.pwr ∧ (State.declareDown x0 x1 x2).clk = x0.clk ∧ (State.declareDown x0 x1 x2).clay = x0.clay ∧ (State.declareDown x0 x1 x2).pending = x0.pending := by
  unfold State.declareDown; (try dsimp only); (repeat' split) <;> simp only [State.setF_frame, State.requeue_frame, State.post_frame, foldl_pwr, foldl_clk, foldl_clay, foldl_pending, and_self]

@[simp] theorem State.reportDown_frame (x0 x1) : (State.reportDown x0 x1).pwr = x0.pwr ∧ (State.reportDown x0 x1).clk = x0.clk ∧ (State.reportDown x0 x1).clay = x0.clay ∧ (State.reportDown x0 x1).pending = x0.pending := by
  unfold State.reportDown; (try dsimp only); (repeat' split) <;> simp [*]

@[simp] theorem State.handOver_frame (x0 x1 x2) : (State.handOver x0 x1 x2).pwr = x0.pwr ∧ (State.handOver x0 x1 x2).clk = x0.clk ∧ (State.handOver x0 x1 x2).clay = x0.clay ∧ (State.handOver x0 x1 x2).mems = x0.mems ∧ (State.handOver x0 x1 x2).pending = x0.pending := by
  induction x2 generalizing x0 x1 <;> simp only [State.handOver, *, and_self, apply_ite State.pwr, apply_ite State.clk, apply_ite State.clay, apply_ite State.mems, apply_ite State.pending] <;> (repeat' split) <;> simp [*, apply_ite State.pwr, apply_ite State.clk, apply_ite State.clay, apply_ite State.mems, apply_ite State.pending]

@[simp] theorem State.dropLink_frame (x0 x1) : (State.dropLink x0 x1).pwr = x0.pwr ∧ (State.dropLink x0 x1).clk = x0.clk ∧ (State.dropLink x0 x1).clay = x0.clay ∧ (State.dropLink x0 x1).mems = x0.mems ∧ (State.dropLink x0 x1).pending = x0.pending := by
  unfold State.dropLink; (try dsimp only); (repeat' split) <;> simp only [State.setF_frame, State.setStaged_frame, State.handOver_frame, State.setLp_frame, foldl_pwr, foldl_clk, foldl_clay, foldl_mems, foldl_pending, and_self]

@[simp] theorem State.takeSplit_frame (x0 x1) : (State.takeSplit x0 x1).pwr = x0.pwr ∧ (State.takeSplit x0 x1).clk = x0.clk ∧ (State.takeSplit x0 x1).clay = x0.clay ∧ (State.takeSplit x0 x1).mems = x0.mems ∧ (State.takeSplit x0 x1).pending = x0.pending := by
  unfold State.takeSplit; (try dsimp only); (repeat' split) <;> simp only [State.toState_frame, foldl_pwr, foldl_clk, foldl_clay, foldl_mems, foldl_pending, and_self]

@[simp] theorem State.beginTraining_frame (x0 x1 x2) : (State.beginTraining x0 x1 x2).pwr = x0.pwr ∧ (State.beginTraining x0 x1 x2).clk = x0.clk ∧ (State.beginTraining x0 x1 x2).clay = x0.clay ∧ (State.beginTraining x0 x1 x2).mems = x0.mems ∧ (State.beginTraining x0 x1 x2).pending = x0.pending := by
  unfold State.beginTraining; (try dsimp only); (repeat' split) <;> simp [*]

@[simp] theorem State.startTraining_frame (x0 x1 x2) : (State.startTraining x0 x1 x2).pwr = x0.pwr ∧ (State.startTraining x0 x1 x2).clk = x0.clk ∧ (State.startTraining x0 x1 x2).clay = x0.clay ∧ (State.startTraining x0 x1 x2).mems = x0.mems ∧ (State.startTraining x0 x1 x2).pending = x0.pending := by
  unfold State.startTraining; (try dsimp only); (repeat' split) <;> simp [*]

@[simp] theorem State.linkFail_frame (x0 x1) : (State.linkFail x0 x1).pwr = x0.pwr ∧ (State.linkFail x0 x1).clk = x0.clk ∧ (State.linkFail x0 x1).clay = x0.clay ∧ (State.linkFail x0 x1).pending = x0.pending := by
  unfold State.linkFail; (try dsimp only); (repeat' split) <;> simp [*]

@[simp] theorem State.portOff_frame (x0 x1) : (State.portOff x0 x1).pwr = x0.pwr ∧ (State.portOff x0 x1).clk = x0.clk ∧ (State.portOff x0 x1).clay = x0.clay ∧ (State.portOff x0 x1).pending = x0.pending := by
  unfold State.portOff; (try dsimp only); (repeat' split) <;> simp [*]

@[simp] theorem State.portEnable_frame (x0 x1 x2) : (State.portEnable x0 x1 x2).pwr = x0.pwr ∧ (State.portEnable x0 x1 x2).clk = x0.clk ∧ (State.portEnable x0 x1 x2).clay = x0.clay ∧ (State.portEnable x0 x1 x2).pending = x0.pending := by
  unfold State.portEnable; (try dsimp only); (repeat' split) <;> simp only [State.setF_frame, State.startTraining_frame, State.portOff_frame, foldl_pwr, foldl_clk, foldl_clay, foldl_pending, and_self]

@[simp] theorem State.sendPattern_frame (x0 x1) : (State.sendPattern x0 x1).pwr = x0.pwr ∧ (State.sendPattern x0 x1).clk = x0.clk ∧ (State.sendPattern x0 x1).clay = x0.clay ∧ (State.sendPattern x0 x1).mems = x0.mems ∧ (State.sendPattern x0 x1).pending = x0.pending := by
  unfold State.sendPattern; (try dsimp only); (repeat' split) <;> simp only [State.emit_frame, foldl_pwr, foldl_clk, foldl_clay, foldl_mems, foldl_pending, and_self]

@[simp] theorem State.portTest_frame (x0 x1 x2) : (State.portTest x0 x1 x2).pwr = x0.pwr ∧ (State.portTest x0 x1 x2).clk = x0.clk ∧ (State.portTest x0 x1 x2).clay = x0.clay ∧ (State.portTest x0 x1 x2).mems = x0.mems ∧ (State.portTest x0 x1 x2).pending = x0.pending := by
  unfold State.portTest; (try dsimp only); (repeat' split) <;> simp [*]

@[simp] theorem State.retrain_frame (x0 x1) : (State.retrain x0 x1).pwr = x0.pwr ∧ (State.retrain x0 x1).clk = x0.clk ∧ (State.retrain x0 x1).clay = x0.clay ∧ (State.retrain x0 x1).pending = x0.pending := by
  unfold State.retrain; (try dsimp only); (repeat' split) <;> simp only [State.startTraining_frame, State.linkFail_frame, foldl_pwr, foldl_clk, foldl_clay, foldl_pending, and_self]

@[simp] theorem State.sendPortId_frame (x0 x1) : (State.sendPortId x0 x1).pwr = x0.pwr ∧ (State.sendPortId x0 x1).clk = x0.clk ∧ (State.sendPortId x0 x1).clay = x0.clay ∧ (State.sendPortId x0 x1).mems = x0.mems ∧ (State.sendPortId x0 x1).pending = x0.pending := by
  unfold State.sendPortId; (try dsimp only); (repeat' split) <;> simp only [State.sendNow_frame, foldl_pwr, foldl_clk, foldl_clay, foldl_mems, foldl_pending, and_self]

@[simp] theorem State.trainFail_frame (x0 x1) : (State.trainFail x0 x1).pwr = x0.pwr ∧ (State.trainFail x0 x1).clk = x0.clk ∧ (State.trainFail x0 x1).clay = x0.clay ∧ (State.trainFail x0 x1).pending = x0.pending := by
  unfold State.trainFail; (try dsimp only); (repeat' split) <;> simp only [State.incF_frame, State.setLp_frame, State.post_frame, State.startTraining_frame, State.toState_frame, foldl_pwr, foldl_clk, foldl_clay, foldl_pending, and_self]

@[simp] theorem State.phaseDone_frame (x0 x1 x2) : (State.phaseDone x0 x1 x2).pwr = x0.pwr ∧ (State.phaseDone x0 x1 x2).clk = x0.clk ∧ (State.phaseDone x0 x1 x2).clay = x0.clay ∧ (State.phaseDone x0 x1 x2).pending = x0.pending := by
  simp [State.phaseDone, apply_ite State.pwr, apply_ite State.clk, apply_ite State.clay, apply_ite State.pending]

@[simp] theorem State.portUp_frame (x0 x1 x2) : (State.portUp x0 x1 x2).pwr = x0.pwr ∧ (State.portUp x0 x1 x2).clk = x0.clk ∧ (State.portUp x0 x1 x2).clay = x0.clay ∧ (State.portUp x0 x1 x2).pending = x0.pending := by
  unfold State.portUp; (try dsimp only); (repeat' split) <;> simp only [State.setLp_frame, State.advRx_frame, State.advTx_frame, State.setF_frame, State.incF_frame, State.toState_frame, State.setPt_frame, State.post_frame, State.sendLink_frame, foldl_pwr, foldl_clk, foldl_clay, foldl_pending, and_self]

@[simp] theorem State.checkPortId_frame (x0 x1 x2) : (State.checkPortId x0 x1 x2).pwr = x0.pwr ∧ (State.checkPortId x0 x1 x2).clk = x0.clk ∧ (State.checkPortId x0 x1 x2).clay = x0.clay ∧ (State.checkPortId x0 x1 x2).pending = x0.pending := by
  unfold State.checkPortId; (try dsimp only); (repeat' split) <;> simp only [State.portUp_frame, State.toState_frame, State.setF_frame, State.post_frame, foldl_pwr, foldl_clk, foldl_clay, foldl_pending, and_self]

@[simp] theorem State.portIdArrive_frame (x0 x1 x2) : (State.portIdArrive x0 x1 x2).pwr = x0.pwr ∧ (State.portIdArrive x0 x1 x2).clk = x0.clk ∧ (State.portIdArrive x0 x1 x2).clay = x0.clay ∧ (State.portIdArrive x0 x1 x2).pending = x0.pending := by
  unfold State.portIdArrive; (try dsimp only); (repeat' split) <;> simp only [State.setLp_frame, State.checkPortId_frame, foldl_pwr, foldl_clk, foldl_clay, foldl_pending, and_self]

@[simp] theorem State.glbNode_frame (x0 x1) : (State.glbNode x0 x1).pwr = x0.pwr ∧ (State.glbNode x0 x1).clk = x0.clk ∧ (State.glbNode x0 x1).clay = x0.clay ∧ (State.glbNode x0 x1).pending = x0.pending := by
  unfold State.glbNode
  dsimp only
  split
  · simp
  · split
    · simp
    · exact ⟨(upto_pwr _ _ _ (by intro i s; (try dsimp only); (repeat' split) <;> simp)).trans (by simp), (upto_clk _ _ _ (by intro i s; (try dsimp only); (repeat' split) <;> simp)).trans (by simp), (upto_clay _ _ _ (by intro i s; (try dsimp only); (repeat' split) <;> simp)).trans (by simp), (upto_pending _ _ _ (by intro i s; (try dsimp only); (repeat' split) <;> simp)).trans (by simp)⟩

@[simp] theorem State.laneFail_frame (x0 x1 x2 x3) : (State.laneFail x0 x1 x2 x3).pwr = x0.pwr ∧ (State.laneFail x0 x1 x2 x3).clk = x0.clk ∧ (State.laneFail x0 x1 x2 x3).clay = x0.clay ∧ (State.laneFail x0 x1 x2 x3).pending = x0.pending := by
  unfold State.laneFail; (try dsimp only); (repeat' split) <;> simp only [State.post_frame, State.setF_frame, State.linkFail_frame, foldl_pwr, foldl_clk, foldl_clay, foldl_pending, and_self]

@[simp] theorem State.corrected_frame (x0 x1 x2 x3) : (State.corrected x0 x1 x2 x3).pwr = x0.pwr ∧ (State.corrected x0 x1 x2 x3).clk = x0.clk ∧ (State.corrected x0 x1 x2 x3).clay = x0.clay ∧ (State.corrected x0 x1 x2 x3).pending = x0.pending := by
  unfold State.corrected; (try dsimp only); (repeat' split) <;> simp only [State.satF_frame, State.setLp_frame, State.laneFail_frame, foldl_pwr, foldl_clk, foldl_clay, foldl_pending, and_self]

@[simp] theorem State.comma_frame (x0 x1 x2 x3) : (State.comma x0 x1 x2 x3).pwr = x0.pwr ∧ (State.comma x0 x1 x2 x3).clk = x0.clk ∧ (State.comma x0 x1 x2 x3).clay = x0.clay ∧ (State.comma x0 x1 x2 x3).pending = x0.pending := by
  unfold State.comma; (try dsimp only); (repeat' split) <;> simp only [State.setLp_frame, State.laneFail_frame, State.setF_frame, foldl_pwr, foldl_clk, foldl_clay, foldl_pending, and_self]

@[simp] theorem State.commaDue_frame (x0 x1) : (State.commaDue x0 x1).2.pwr = x0.pwr ∧ (State.commaDue x0 x1).2.clk = x0.clk ∧ (State.commaDue x0 x1).2.clay = x0.clay ∧ (State.commaDue x0 x1).2.mems = x0.mems ∧ (State.commaDue x0 x1).2.pending = x0.pending := by
  unfold State.commaDue; (try dsimp only); (repeat' split) <;> simp only [State.setLp_frame, foldl_pwr, foldl_clk, foldl_clay, foldl_mems, foldl_pending, and_self]

@[simp] theorem State.groupBits_frame (x0 x1 x2) : (State.groupBits x0 x1 x2).pwr = x0.pwr ∧ (State.groupBits x0 x1 x2).clk = x0.clk ∧ (State.groupBits x0 x1 x2).clay = x0.clay ∧ (State.groupBits x0 x1 x2).mems = x0.mems ∧ (State.groupBits x0 x1 x2).pending = x0.pending := by
  unfold State.groupBits; (try dsimp only); (repeat' split) <;> simp [*]

@[simp] theorem State.fecGroup_frame (x0 x1 x2 x3) : (State.fecGroup x0 x1 x2 x3).pwr = x0.pwr ∧ (State.fecGroup x0 x1 x2 x3).clk = x0.clk ∧ (State.fecGroup x0 x1 x2 x3).clay = x0.clay ∧ (State.fecGroup x0 x1 x2 x3).pending = x0.pending := by
  simp [State.fecGroup, apply_ite State.pwr, apply_ite State.clk, apply_ite State.clay, apply_ite State.pending]

@[simp] theorem State.fecLane_frame (x0 x1 x2) : (State.fecLane x0 x1 x2).pwr = x0.pwr ∧ (State.fecLane x0 x1 x2).clk = x0.clk ∧ (State.fecLane x0 x1 x2).clay = x0.clay ∧ (State.fecLane x0 x1 x2).mems = x0.mems ∧ (State.fecLane x0 x1 x2).pending = x0.pending := by
  unfold State.fecLane; (try dsimp only); (repeat' split) <;> simp only [State.satF_frame, foldl_pwr, foldl_clk, foldl_clay, foldl_mems, foldl_pending, and_self]

@[simp] theorem State.acked_frame (x0 x1 x2) : (State.acked x0 x1 x2).pwr = x0.pwr ∧ (State.acked x0 x1 x2).clk = x0.clk ∧ (State.acked x0 x1 x2).clay = x0.clay ∧ (State.acked x0 x1 x2).mems = x0.mems ∧ (State.acked x0 x1 x2).pending = x0.pending := by
  unfold State.acked; (try dsimp only); (repeat' split) <;> simp only [State.setLp_frame, foldl_pwr, foldl_clk, foldl_clay, foldl_mems, foldl_pending, and_self]

@[simp] theorem State.creditField_frame (x0 x1 x2 x3 x4) : (State.creditField x0 x1 x2 x3 x4).pwr = x0.pwr ∧ (State.creditField x0 x1 x2 x3 x4).clk = x0.clk ∧ (State.creditField x0 x1 x2 x3 x4).clay = x0.clay ∧ (State.creditField x0 x1 x2 x3 x4).mems = x0.mems ∧ (State.creditField x0 x1 x2 x3 x4).pending = x0.pending := by
  unfold State.creditField; (try dsimp only); (repeat' split) <;> simp only [State.setLp_frame, foldl_pwr, foldl_clk, foldl_clay, foldl_mems, foldl_pending, and_self]

@[simp] theorem State.credits_frame (x0 x1 x2) : (State.credits x0 x1 x2).pwr = x0.pwr ∧ (State.credits x0 x1 x2).clk = x0.clk ∧ (State.credits x0 x1 x2).clay = x0.clay ∧ (State.credits x0 x1 x2).mems = x0.mems ∧ (State.credits x0 x1 x2).pending = x0.pending := by
  unfold State.credits; (try dsimp only); (repeat' split) <;> simp only [State.repump_frame, State.creditField_frame, foldl_pwr, foldl_clk, foldl_clay, foldl_mems, foldl_pending, and_self]

@[simp] theorem State.sendNak_frame (x0 x1) : (State.sendNak x0 x1).pwr = x0.pwr ∧ (State.sendNak x0 x1).clk = x0.clk ∧ (State.sendNak x0 x1).clay = x0.clay ∧ (State.sendNak x0 x1).pending = x0.pending := by
  unfold State.sendNak; (try dsimp only); (repeat' split) <;> simp only [State.sendLink_frame, State.setLp_frame, State.linkFail_frame, foldl_pwr, foldl_clk, foldl_clay, foldl_pending, and_self]

@[simp] theorem State.freeMem_frame (x0 x1 x2) : (State.freeMem x0 x1 x2).pwr = x0.pwr ∧ (State.freeMem x0 x1 x2).clk = x0.clk ∧ (State.freeMem x0 x1 x2).clay = x0.clay ∧ (State.freeMem x0 x1 x2).mems = x0.mems ∧ (State.freeMem x0 x1 x2).pending = x0.pending := by
  unfold State.freeMem; (try dsimp only); (repeat' split) <;> simp only [State.freeVc_frame, State.setLp_frame, foldl_pwr, foldl_clk, foldl_clay, foldl_mems, foldl_pending, and_self]

@[simp] theorem State.deliverFlit_frame (x0 x1 x2) : (State.deliverFlit x0 x1 x2).pwr = x0.pwr ∧ (State.deliverFlit x0 x1 x2).clk = x0.clk ∧ (State.deliverFlit x0 x1 x2).clay = x0.clay ∧ (State.deliverFlit x0 x1 x2).mems = x0.mems ∧ (State.deliverFlit x0 x1 x2).pending = x0.pending := by
  unfold State.deliverFlit; (try dsimp only); (repeat' split) <;> simp only [State.setLp_frame, State.repump_frame, State.freeMem_frame, State.emit_frame, foldl_pwr, foldl_clk, foldl_clay, foldl_mems, foldl_pending, and_self]

@[simp] theorem State.flitArrive_frame (x0 x1 x2) : (State.flitArrive x0 x1 x2).pwr = x0.pwr ∧ (State.flitArrive x0 x1 x2).clk = x0.clk ∧ (State.flitArrive x0 x1 x2).clay = x0.clay ∧ (State.flitArrive x0 x1 x2).pending = x0.pending := by
  unfold State.flitArrive; (try dsimp only); (repeat' split) <;> simp only [State.resume_frame, State.incF_frame, State.sendNak_frame, State.setLp_frame, State.acked_frame, State.repump_frame, State.credits_frame, State.emit_frame, State.deliverFlit_frame, foldl_pwr, foldl_clk, foldl_clay, foldl_pending, and_self]

@[simp] theorem State.resend_frame (x0 x1 x2 x3) : (State.resend x0 x1 x2 x3).pwr = x0.pwr ∧ (State.resend x0 x1 x2 x3).clk = x0.clk ∧ (State.resend x0 x1 x2 x3).clay = x0.clay ∧ (State.resend x0 x1 x2 x3).mems = x0.mems ∧ (State.resend x0 x1 x2 x3).pending = x0.pending := by
  induction x3 generalizing x0 x1 <;> simp only [State.resend, *, and_self, apply_ite State.pwr, apply_ite State.clk, apply_ite State.clay, apply_ite State.mems, apply_ite State.pending] <;> (repeat' split) <;> simp [*, apply_ite State.pwr, apply_ite State.clk, apply_ite State.clay, apply_ite State.mems, apply_ite State.pending]

@[simp] theorem State.nakArrive_frame (x0 x1 x2) : (State.nakArrive x0 x1 x2).pwr = x0.pwr ∧ (State.nakArrive x0 x1 x2).clk = x0.clk ∧ (State.nakArrive x0 x1 x2).clay = x0.clay ∧ (State.nakArrive x0 x1 x2).pending = x0.pending := by
  unfold State.nakArrive; (try dsimp only); (repeat' split) <;> simp only [State.resend_frame, State.sendLink_frame, State.incF_frame, State.closeFrame_frame, foldl_pwr, foldl_clk, foldl_clay, foldl_pending, and_self]

@[simp] theorem State.replayArrive_frame (x0 x1 x2) : (State.replayArrive x0 x1 x2).pwr = x0.pwr ∧ (State.replayArrive x0 x1 x2).clk = x0.clk ∧ (State.replayArrive x0 x1 x2).clay = x0.clay ∧ (State.replayArrive x0 x1 x2).mems = x0.mems ∧ (State.replayArrive x0 x1 x2).pending = x0.pending := by
  unfold State.replayArrive; (try dsimp only); (repeat' split) <;> simp only [State.setLp_frame, foldl_pwr, foldl_clk, foldl_clay, foldl_mems, foldl_pending, and_self]

@[simp] theorem State.nakTimeout_frame (x0 x1) : (State.nakTimeout x0 x1).pwr = x0.pwr ∧ (State.nakTimeout x0 x1).clk = x0.clk ∧ (State.nakTimeout x0 x1).clay = x0.clay ∧ (State.nakTimeout x0 x1).pending = x0.pending := by
  unfold State.nakTimeout; (try dsimp only); (repeat' split) <;> simp only [State.sendNak_frame, foldl_pwr, foldl_clk, foldl_clay, foldl_pending, and_self]

@[simp] theorem State.crcSilence_frame (x0 x1) : (State.crcSilence x0 x1).pwr = x0.pwr ∧ (State.crcSilence x0 x1).clk = x0.clk ∧ (State.crcSilence x0 x1).clay = x0.clay ∧ (State.crcSilence x0 x1).pending = x0.pending := by
  unfold State.crcSilence; (try dsimp only); (repeat' split) <;> simp only [State.linkFail_frame, foldl_pwr, foldl_clk, foldl_clay, foldl_pending, and_self]

@[simp] theorem State.deepWrite_frame (x0 x1 x2) : (State.deepWrite x0 x1 x2).pwr = x0.pwr ∧ (State.deepWrite x0 x1 x2).clk = x0.clk ∧ (State.deepWrite x0 x1 x2).clay = x0.clay ∧ (State.deepWrite x0 x1 x2).mems = x0.mems ∧ (State.deepWrite x0 x1 x2).pending = x0.pending := by
  unfold State.deepWrite; (try dsimp only); (repeat' split) <;> simp only [State.setF_frame, State.sendLink_frame, State.resume_frame, State.startTraining_frame, foldl_pwr, foldl_clk, foldl_clay, foldl_mems, foldl_pending, and_self]

@[simp] theorem State.pattern_frame (x0 x1) : (State.pattern x0 x1).pwr = x0.pwr ∧ (State.pattern x0 x1).clk = x0.clk ∧ (State.pattern x0 x1).clay = x0.clay ∧ (State.pattern x0 x1).mems = x0.mems ∧ (State.pattern x0 x1).pending = x0.pending := by
  unfold State.pattern; (try dsimp only); (repeat' split) <;> simp [*]

@[simp] theorem State.laneCal_frame (x0 x1 x2) : (State.laneCal x0 x1 x2).pwr = x0.pwr ∧ (State.laneCal x0 x1 x2).clk = x0.clk ∧ (State.laneCal x0 x1 x2).clay = x0.clay ∧ (State.laneCal x0 x1 x2).mems = x0.mems ∧ (State.laneCal x0 x1 x2).pending = x0.pending := by
  unfold State.laneCal; (try dsimp only); (repeat' split) <;> simp only [State.emit_frame, State.pattern_frame, foldl_pwr, foldl_clk, foldl_clay, foldl_mems, foldl_pending, and_self]

@[simp] theorem State.laneClr_frame (x0 x1) : (State.laneClr x0 x1).pwr = x0.pwr ∧ (State.laneClr x0 x1).clk = x0.clk ∧ (State.laneClr x0 x1).clay = x0.clay ∧ (State.laneClr x0 x1).mems = x0.mems ∧ (State.laneClr x0 x1).pending = x0.pending := by
  unfold State.laneClr; (try dsimp only); (repeat' split) <;> simp only [State.wr_frame, foldl_pwr, foldl_clk, foldl_clay, foldl_mems, foldl_pending, and_self]

@[simp] theorem State.laneCtl_frame (x0 x1 x2 x3) : (State.laneCtl x0 x1 x2 x3).pwr = x0.pwr ∧ (State.laneCtl x0 x1 x2 x3).clk = x0.clk ∧ (State.laneCtl x0 x1 x2 x3).clay = x0.clay ∧ (State.laneCtl x0 x1 x2 x3).mems = x0.mems ∧ (State.laneCtl x0 x1 x2 x3).pending = x0.pending := by
  unfold State.laneCtl; (try dsimp only); (repeat' split) <;> simp only [State.wr_frame, State.setF_frame, State.sendPattern_frame, State.laneClr_frame, foldl_pwr, foldl_clk, foldl_clay, foldl_mems, foldl_pending, and_self]

@[simp] theorem State.prbsLock_frame (x0 x1 x2 x3) : (State.prbsLock x0 x1 x2 x3).pwr = x0.pwr ∧ (State.prbsLock x0 x1 x2 x3).clk = x0.clk ∧ (State.prbsLock x0 x1 x2 x3).clay = x0.clay ∧ (State.prbsLock x0 x1 x2 x3).mems = x0.mems ∧ (State.prbsLock x0 x1 x2 x3).pending = x0.pending := by
  unfold State.prbsLock; (try dsimp only); (repeat' split) <;> simp only [State.pattern_frame, State.setF_frame, foldl_pwr, foldl_clk, foldl_clay, foldl_mems, foldl_pending, and_self]

@[simp] theorem State.cmisAccess_frame (x0 x1) : (State.cmisAccess x0 x1).pwr = x0.pwr ∧ (State.cmisAccess x0 x1).clk = x0.clk ∧ (State.cmisAccess x0 x1).clay = x0.clay ∧ (State.cmisAccess x0 x1).mems = x0.mems ∧ (State.cmisAccess x0 x1).pending = x0.pending := by
  unfold State.cmisAccess; (try dsimp only); (repeat' split) <;> simp only [State.setF_frame, State.emit_frame, foldl_pwr, foldl_clk, foldl_clay, foldl_mems, foldl_pending, and_self]

@[simp] theorem State.cmisDone_frame (x0 x1 x2) : (State.cmisDone x0 x1 x2).pwr = x0.pwr ∧ (State.cmisDone x0 x1 x2).clk = x0.clk ∧ (State.cmisDone x0 x1 x2).clay = x0.clay ∧ (State.cmisDone x0 x1 x2).mems = x0.mems ∧ (State.cmisDone x0 x1 x2).pending = x0.pending := by
  unfold State.cmisDone; (try dsimp only); (repeat' split) <;> simp_all [apply_ite State.pwr, apply_ite State.clk, apply_ite State.clay, apply_ite State.mems, apply_ite State.pending, apply_ite Io.s, apply_ite (@Prod.snd _ _)]

@[simp] theorem State.cmisFlag_frame (x0 x1 x2 x3) : (State.cmisFlag x0 x1 x2 x3).pwr = x0.pwr ∧ (State.cmisFlag x0 x1 x2 x3).clk = x0.clk ∧ (State.cmisFlag x0 x1 x2 x3).clay = x0.clay ∧ (State.cmisFlag x0 x1 x2 x3).pending = x0.pending := by
  unfold State.cmisFlag
  split
  · simp
  · dsimp only
    split
    · exact ⟨(upto_pwr _ _ _ (by intro i s; (try dsimp only); (repeat' split) <;> simp)).trans (by simp), (upto_clk _ _ _ (by intro i s; (try dsimp only); (repeat' split) <;> simp)).trans (by simp), (upto_clay _ _ _ (by intro i s; (try dsimp only); (repeat' split) <;> simp)).trans (by simp), (upto_pending _ _ _ (by intro i s; (try dsimp only); (repeat' split) <;> simp)).trans (by simp)⟩
    · simp

@[simp] theorem State.showMissed_frame (x0 x1) : (State.showMissed x0 x1).pwr = x0.pwr ∧ (State.showMissed x0 x1).clk = x0.clk ∧ (State.showMissed x0 x1).clay = x0.clay ∧ (State.showMissed x0 x1).mems = x0.mems ∧ (State.showMissed x0 x1).pending = x0.pending := by
  unfold State.showMissed; (try dsimp only); (repeat' split) <;> simp only [State.setF_frame, foldl_pwr, foldl_clk, foldl_clay, foldl_mems, foldl_pending, and_self]

@[simp] theorem State.hbTick_frame (x0 x1) : (State.hbTick x0 x1).pwr = x0.pwr ∧ (State.hbTick x0 x1).clk = x0.clk ∧ (State.hbTick x0 x1).clay = x0.clay ∧ (State.hbTick x0 x1).mems = x0.mems ∧ (State.hbTick x0 x1).pending = x0.pending := by
  unfold State.hbTick; (try dsimp only); (repeat' split) <;> simp only [State.showMissed_frame, foldl_pwr, foldl_clk, foldl_clay, foldl_mems, foldl_pending, and_self]

@[simp] theorem State.setCh_frame (x0 x1 x2) : (State.setCh x0 x1 x2).pwr = x0.pwr ∧ (State.setCh x0 x1 x2).clk = x0.clk ∧ (State.setCh x0 x1 x2).clay = x0.clay ∧ (State.setCh x0 x1 x2).mems = x0.mems ∧ (State.setCh x0 x1 x2).pending = x0.pending := by
  unfold State.setCh; (try dsimp only); (repeat' split) <;> simp only [foldl_pwr, foldl_clk, foldl_clay, foldl_mems, foldl_pending, and_self]

@[simp] theorem State.spillIo_frame (x0 x1 x2) : (State.spillIo x0 x1 x2).s.pwr = x0.pwr ∧ (State.spillIo x0 x1 x2).s.clk = x0.clk ∧ (State.spillIo x0 x1 x2).s.clay = x0.clay ∧ (State.spillIo x0 x1 x2).s.mems = x0.mems ∧ (State.spillIo x0 x1 x2).s.pending = x0.pending := by
  unfold State.spillIo; (try dsimp only); (repeat' split) <;> simp only [foldl_pwr, foldl_clk, foldl_clay, foldl_mems, foldl_pending, and_self]

@[simp] theorem Io.readR_frame (x0 x1 x2 x3) : (Io.readR x0 x1 x2 x3).2.s.pwr = x0.s.pwr ∧ (Io.readR x0 x1 x2 x3).2.s.clk = x0.s.clk ∧ (Io.readR x0 x1 x2 x3).2.s.clay = x0.s.clay ∧ (Io.readR x0 x1 x2 x3).2.s.mems = x0.s.mems ∧ (Io.readR x0 x1 x2 x3).2.s.pending = x0.s.pending := by
  unfold Io.readR
  have h := Io.range_frame x0 x2 x1
  generalize x0.range x2 x1 = p at h ⊢
  rcases p with ⟨_ | e, i⟩ <;> (try split) <;> simp_all [apply_ite State.pwr, apply_ite State.clk, apply_ite State.clay, apply_ite State.mems, apply_ite State.pending, apply_ite Io.s, apply_ite (@Prod.snd _ _)]

@[simp] theorem Io.writeW_frame (x0 x1 x2 x3) : (Io.writeW x0 x1 x2 x3).s.pwr = x0.s.pwr ∧ (Io.writeW x0 x1 x2 x3).s.clk = x0.s.clk ∧ (Io.writeW x0 x1 x2 x3).s.clay = x0.s.clay ∧ (Io.writeW x0 x1 x2 x3).s.mems = x0.s.mems ∧ (Io.writeW x0 x1 x2 x3).s.pending = x0.s.pending := by
  unfold Io.writeW
  have h := Io.range_frame x0 x2 x1
  generalize x0.range x2 x1 = p at h ⊢
  rcases p with ⟨_ | e, i⟩ <;> (try split) <;> simp_all [apply_ite State.pwr, apply_ite State.clk, apply_ite State.clay, apply_ite State.mems, apply_ite State.pending, apply_ite Io.s, apply_ite (@Prod.snd _ _)]

@[simp] theorem State.sqAdvance_frame (x0 x1 x2) : (State.sqAdvance x0 x1 x2).pwr = x0.pwr ∧ (State.sqAdvance x0 x1 x2).clk = x0.clk ∧ (State.sqAdvance x0 x1 x2).clay = x0.clay ∧ (State.sqAdvance x0 x1 x2).mems = x0.mems ∧ (State.sqAdvance x0 x1 x2).pending = x0.pending := by
  induction x2 generalizing x0 x1 <;> simp only [State.sqAdvance, *, and_self, apply_ite State.pwr, apply_ite State.clk, apply_ite State.clay, apply_ite State.mems, apply_ite State.pending] <;> (repeat' split) <;> simp [*, apply_ite State.pwr, apply_ite State.clk, apply_ite State.clay, apply_ite State.mems, apply_ite State.pending]

@[simp] theorem State.mapRec_frame (x0 x1 x2 x3) : (State.mapRec x0 x1 x2 x3).pwr = x0.pwr ∧ (State.mapRec x0 x1 x2 x3).clk = x0.clk ∧ (State.mapRec x0 x1 x2 x3).clay = x0.clay ∧ (State.mapRec x0 x1 x2 x3).mems = x0.mems ∧ (State.mapRec x0 x1 x2 x3).pending = x0.pending := by
  unfold State.mapRec; (try dsimp only); (repeat' split) <;> simp only [State.setCh_frame, foldl_pwr, foldl_clk, foldl_clay, foldl_mems, foldl_pending, and_self]

@[simp] theorem State.recTail_frame (x0 x1 x2) : (State.recTail x0 x1 x2).pwr = x0.pwr ∧ (State.recTail x0 x1 x2).clk = x0.clk ∧ (State.recTail x0 x1 x2).clay = x0.clay ∧ (State.recTail x0 x1 x2).pending = x0.pending := by
  unfold State.recTail; (try dsimp only); (repeat' split) <;> simp only [State.postTo_frame, State.mapRec_frame, State.sqAdvance_frame, foldl_pwr, foldl_clk, foldl_clay, foldl_pending, and_self]

@[simp] theorem State.recDone_frame (x0 x1 x2) : (State.recDone x0 x1 x2).pwr = x0.pwr ∧ (State.recDone x0 x1 x2).clk = x0.clk ∧ (State.recDone x0 x1 x2).clay = x0.clay ∧ (State.recDone x0 x1 x2).pending = x0.pending := by
  unfold State.recDone; (try dsimp only); (repeat' split) <;> simp only [State.emit_frame, State.issueOwn_frame, State.mapRec_frame, State.recTail_frame, foldl_pwr, foldl_clk, foldl_clay, foldl_pending, and_self]

@[simp] theorem State.recSignalled_frame (x0 x1 x2) : (State.recSignalled x0 x1 x2).pwr = x0.pwr ∧ (State.recSignalled x0 x1 x2).clk = x0.clk ∧ (State.recSignalled x0 x1 x2).clay = x0.clay ∧ (State.recSignalled x0 x1 x2).pending = x0.pending := by
  unfold State.recSignalled; (try dsimp only); (repeat' split) <;> simp only [State.recTail_frame, foldl_pwr, foldl_clk, foldl_clay, foldl_pending, and_self]

@[simp] theorem State.recEnd_frame (x0 x1 x2 x3 x4) : (State.recEnd x0 x1 x2 x3 x4).pwr = x0.pwr ∧ (State.recEnd x0 x1 x2 x3 x4).clk = x0.clk ∧ (State.recEnd x0 x1 x2 x3 x4).clay = x0.clay ∧ (State.recEnd x0 x1 x2 x3 x4).pending = x0.pending := by
  unfold State.recEnd; (try dsimp only); (repeat' split) <;> simp [*]

@[simp] theorem State.setEthQ_frame (x0 x1 x2) : (State.setEthQ x0 x1 x2).pwr = x0.pwr ∧ (State.setEthQ x0 x1 x2).clk = x0.clk ∧ (State.setEthQ x0 x1 x2).clay = x0.clay ∧ (State.setEthQ x0 x1 x2).mems = x0.mems ∧ (State.setEthQ x0 x1 x2).pending = x0.pending := by
  unfold State.setEthQ; (try dsimp only); (repeat' split) <;> simp only [foldl_pwr, foldl_clk, foldl_clay, foldl_mems, foldl_pending, and_self]

@[simp] theorem State.egress_frame (x0 x1 x2 x3 x4) : (State.egress x0 x1 x2 x3 x4).2.pwr = x0.pwr ∧ (State.egress x0 x1 x2 x3 x4).2.clk = x0.clk ∧ (State.egress x0 x1 x2 x3 x4).2.clay = x0.clay ∧ (State.egress x0 x1 x2 x3 x4).2.mems = x0.mems ∧ (State.egress x0 x1 x2 x3 x4).2.pending = x0.pending := by
  unfold State.egress; (try dsimp only); (repeat' split) <;> simp only [State.incF_frame, State.setEthQ_frame, State.redMark_frame, foldl_pwr, foldl_clk, foldl_clay, foldl_mems, foldl_pending, and_self]

@[simp] theorem State.ethTick_frame (x0 x1) : (State.ethTick x0 x1).pwr = x0.pwr ∧ (State.ethTick x0 x1).clk = x0.clk ∧ (State.ethTick x0 x1).clay = x0.clay ∧ (State.ethTick x0 x1).mems = x0.mems ∧ (State.ethTick x0 x1).pending = x0.pending := by
  unfold State.ethTick; (try dsimp only); (repeat' split) <;> simp only [State.setEthQ_frame, foldl_pwr, foldl_clk, foldl_clay, foldl_mems, foldl_pending, and_self]

@[simp] theorem State.spillOut_frame (x0 x1 x2) : (State.spillOut x0 x1 x2).pwr = x0.pwr ∧ (State.spillOut x0 x1 x2).clk = x0.clk ∧ (State.spillOut x0 x1 x2).clay = x0.clay ∧ (State.spillOut x0 x1 x2).mems = x0.mems ∧ (State.spillOut x0 x1 x2).pending = x0.pending := by
  unfold State.spillOut; (try dsimp only); (repeat' split) <;> simp only [State.egress_frame, State.emit_frame, foldl_pwr, foldl_clk, foldl_clay, foldl_mems, foldl_pending, and_self]

@[simp] theorem State.ethAnswer_frame (x0 x1 x2 x3) : (State.ethAnswer x0 x1 x2 x3).pwr = x0.pwr ∧ (State.ethAnswer x0 x1 x2 x3).clk = x0.clk ∧ (State.ethAnswer x0 x1 x2 x3).clay = x0.clay ∧ (State.ethAnswer x0 x1 x2 x3).mems = x0.mems ∧ (State.ethAnswer x0 x1 x2 x3).pending = x0.pending := by
  unfold State.ethAnswer; (try dsimp only); (repeat' split) <;> simp only [State.egress_frame, State.emit_frame, foldl_pwr, foldl_clk, foldl_clay, foldl_mems, foldl_pending, and_self]

@[simp] theorem State.chPump_frame (x0 x1 x2) : (State.chPump x0 x1 x2).pwr = x0.pwr ∧ (State.chPump x0 x1 x2).clk = x0.clk ∧ (State.chPump x0 x1 x2).clay = x0.clay ∧ (State.chPump x0 x1 x2).mems = x0.mems ∧ (State.chPump x0 x1 x2).pending = x0.pending := by
  induction x2 generalizing x0 x1 <;> simp only [State.chPump, *, and_self, apply_ite State.pwr, apply_ite State.clk, apply_ite State.clay, apply_ite State.mems, apply_ite State.pending] <;> (repeat' split) <;> simp [*, apply_ite State.pwr, apply_ite State.clk, apply_ite State.clay, apply_ite State.mems, apply_ite State.pending]

@[simp] theorem State.chSend_frame (x0 x1) : (State.chSend x0 x1).pwr = x0.pwr ∧ (State.chSend x0 x1).clk = x0.clk ∧ (State.chSend x0 x1).clay = x0.clay ∧ (State.chSend x0 x1).mems = x0.mems ∧ (State.chSend x0 x1).pending = x0.pending := by
  unfold State.chSend; (try dsimp only); (repeat' split) <;> simp only [State.chPump_frame, foldl_pwr, foldl_clk, foldl_clay, foldl_mems, foldl_pending, and_self]

@[simp] theorem State.chOff_frame (x0 x1) : (State.chOff x0 x1).pwr = x0.pwr ∧ (State.chOff x0 x1).clk = x0.clk ∧ (State.chOff x0 x1).clay = x0.clay ∧ (State.chOff x0 x1).mems = x0.mems ∧ (State.chOff x0 x1).pending = x0.pending := by
  unfold State.chOff; (try dsimp only); (repeat' split) <;> simp only [State.takePart_frame, State.takeWrs_frame, State.setF_frame, foldl_pwr, foldl_clk, foldl_clay, foldl_mems, foldl_pending, and_self]

@[simp] theorem State.chFail_frame (x0 x1 x2) : (State.chFail x0 x1 x2).pwr = x0.pwr ∧ (State.chFail x0 x1 x2).clk = x0.clk ∧ (State.chFail x0 x1 x2).clay = x0.clay ∧ (State.chFail x0 x1 x2).pending = x0.pending := by
  simp [State.chFail, apply_ite State.pwr, apply_ite State.clk, apply_ite State.clay, apply_ite State.pending]

@[simp] theorem State.chAgain_frame (x0 x1 x2 x3) : (State.chAgain x0 x1 x2 x3).pwr = x0.pwr ∧ (State.chAgain x0 x1 x2 x3).clk = x0.clk ∧ (State.chAgain x0 x1 x2 x3).clay = x0.clay ∧ (State.chAgain x0 x1 x2 x3).pending = x0.pending := by
  unfold State.chAgain; (try dsimp only); (repeat' split) <;> simp only [State.chFail_frame, State.setCh_frame, State.spillOut_frame, State.incF_frame, foldl_pwr, foldl_clk, foldl_clay, foldl_pending, and_self]

@[simp] theorem State.chTimeout_frame (x0 x1 x2) : (State.chTimeout x0 x1 x2).pwr = x0.pwr ∧ (State.chTimeout x0 x1 x2).clk = x0.clk ∧ (State.chTimeout x0 x1 x2).clay = x0.clay ∧ (State.chTimeout x0 x1 x2).pending = x0.pending := by
  unfold State.chTimeout; (try dsimp only); (repeat' split) <;> simp only [State.chAgain_frame, foldl_pwr, foldl_clk, foldl_clay, foldl_pending, and_self]

@[simp] theorem State.recStart_frame (x0 x1 x2 x3 x4) : (State.recStart x0 x1 x2 x3 x4).pwr = x0.pwr ∧ (State.recStart x0 x1 x2 x3 x4).clk = x0.clk ∧ (State.recStart x0 x1 x2 x3 x4).clay = x0.clay ∧ (State.recStart x0 x1 x2 x3 x4).pending = x0.pending := by
  unfold State.recStart; (try dsimp only); (repeat' split) <;> simp only [State.emit_frame, State.setF_frame, State.setCh_frame, State.chSend_frame, Io.readR_frame, State.spillIo_frame, State.recEnd_frame, foldl_pwr, foldl_clk, foldl_clay, foldl_pending, and_self]

@[simp] theorem State.sendAck_frame (x0 x1) : (State.sendAck x0 x1).pwr = x0.pwr ∧ (State.sendAck x0 x1).clk = x0.clk ∧ (State.sendAck x0 x1).clay = x0.clay ∧ (State.sendAck x0 x1).mems = x0.mems ∧ (State.sendAck x0 x1).pending = x0.pending := by
  unfold State.sendAck; (try dsimp only); (repeat' split) <;> simp only [State.spillOut_frame, State.setCh_frame, foldl_pwr, foldl_clk, foldl_clay, foldl_mems, foldl_pending, and_self]

@[simp] theorem State.sendNakFor_frame (x0 x1 x2 x3) : (State.sendNakFor x0 x1 x2 x3).pwr = x0.pwr ∧ (State.sendNakFor x0 x1 x2 x3).clk = x0.clk ∧ (State.sendNakFor x0 x1 x2 x3).clay = x0.clay ∧ (State.sendNakFor x0 x1 x2 x3).mems = x0.mems ∧ (State.sendNakFor x0 x1 x2 x3).pending = x0.pending := by
  unfold State.sendNakFor; (try dsimp only); (repeat' split) <;> simp only [State.spillOut_frame, foldl_pwr, foldl_clk, foldl_clay, foldl_mems, foldl_pending, and_self]

@[simp] theorem State.noteGot_frame (x0 x1 x2) : (State.noteGot x0 x1 x2).pwr = x0.pwr ∧ (State.noteGot x0 x1 x2).clk = x0.clk ∧ (State.noteGot x0 x1 x2).clay = x0.clay ∧ (State.noteGot x0 x1 x2).mems = x0.mems ∧ (State.noteGot x0 x1 x2).pending = x0.pending := by
  unfold State.noteGot; (try dsimp only); (repeat' split) <;> simp only [State.setCh_frame, State.sendAck_frame, foldl_pwr, foldl_clk, foldl_clay, foldl_mems, foldl_pending, and_self]

@[simp] theorem State.rxPacket_pwr (x0 x1 x2 x3) (h3 : ∀ y0, (x3 y0).1.pwr = y0.pwr) : (State.rxPacket x0 x1 x2 x3).pwr = x0.pwr := by
  unfold State.rxPacket; (try dsimp only); (repeat' split) <;> simp [*]

@[simp] theorem State.rxPacket_clk (x0 x1 x2 x3) (h3 : ∀ y0, (x3 y0).1.clk = y0.clk) : (State.rxPacket x0 x1 x2 x3).clk = x0.clk := by
  unfold State.rxPacket; (try dsimp only); (repeat' split) <;> simp [*]

@[simp] theorem State.rxPacket_clay (x0 x1 x2 x3) (h3 : ∀ y0, (x3 y0).1.clay = y0.clay) : (State.rxPacket x0 x1 x2 x3).clay = x0.clay := by
  unfold State.rxPacket; (try dsimp only); (repeat' split) <;> simp [*]

@[simp] theorem State.rxPacket_mems (x0 x1 x2 x3) (h3 : ∀ y0, (x3 y0).1.mems = y0.mems) : (State.rxPacket x0 x1 x2 x3).mems = x0.mems := by
  unfold State.rxPacket; (try dsimp only); (repeat' split) <;> simp [*]

@[simp] theorem State.rxPacket_pending (x0 x1 x2 x3) (h3 : ∀ y0, (x3 y0).1.pending = y0.pending) : (State.rxPacket x0 x1 x2 x3).pending = x0.pending := by
  unfold State.rxPacket; (try dsimp only); (repeat' split) <;> simp [*]

@[simp] theorem State.putRmsg_frame (x0 x1 x2) : (State.putRmsg x0 x1 x2).pwr = x0.pwr ∧ (State.putRmsg x0 x1 x2).clk = x0.clk ∧ (State.putRmsg x0 x1 x2).clay = x0.clay ∧ (State.putRmsg x0 x1 x2).mems = x0.mems ∧ (State.putRmsg x0 x1 x2).pending = x0.pending := by
  unfold State.putRmsg; (try dsimp only); (repeat' split) <;> simp only [State.setCh_frame, foldl_pwr, foldl_clk, foldl_clay, foldl_mems, foldl_pending, and_self]

@[simp] theorem State.msgPart_frame (x0 x1 x2 x3 x4) : (State.msgPart x0 x1 x2 x3 x4).pwr = x0.pwr ∧ (State.msgPart x0 x1 x2 x3 x4).clk = x0.clk ∧ (State.msgPart x0 x1 x2 x3 x4).clay = x0.clay ∧ (State.msgPart x0 x1 x2 x3 x4).pending = x0.pending := by
  unfold State.msgPart; (try dsimp only); (repeat' split) <;> simp only [State.putRmsg_frame, State.setCh_frame, State.post_frame, foldl_pwr, foldl_clk, foldl_clay, foldl_pending, and_self]

@[simp] theorem State.takePut_frame (x0 x1 x2) : (State.takePut x0 x1 x2).1.pwr = x0.pwr ∧ (State.takePut x0 x1 x2).1.clk = x0.clk ∧ (State.takePut x0 x1 x2).1.clay = x0.clay ∧ (State.takePut x0 x1 x2).1.pending = x0.pending := by
  unfold State.takePut; (try dsimp only); (repeat' split) <;> simp only [Io.writeW_frame, State.spillIo_frame, State.msgPart_frame, foldl_pwr, foldl_clk, foldl_clay, foldl_pending, and_self]

@[simp] theorem State.takeGetReq_frame (x0 x1 x2) : (State.takeGetReq x0 x1 x2).1.pwr = x0.pwr ∧ (State.takeGetReq x0 x1 x2).1.clk = x0.clk ∧ (State.takeGetReq x0 x1 x2).1.clay = x0.clay ∧ (State.takeGetReq x0 x1 x2).1.pending = x0.pending := by
  unfold State.takeGetReq
  extract_lets c off len
  clear_value c off len
  split
  · (repeat' apply And.intro) <;> rfl
  · have h := Io.readR_frame (x0.spillIo c x2) 0 (x0.winVa c off) len
    have h3 : (x0.spillIo c x2).s = x0 := rfl
    rw [h3] at h
    generalize (x0.spillIo c x2).readR 0 (x0.winVa c off) len = p at h ⊢
    obtain ⟨bs, i⟩ := p
    dsimp only at h ⊢
    split
    · simp only [h, and_self]
    · simp only [State.chSend_frame, State.setCh_frame, h, and_self]

@[simp] theorem State.takeGetResp_frame (x0 x1 x2) : (State.takeGetResp x0 x1 x2).1.pwr = x0.pwr ∧ (State.takeGetResp x0 x1 x2).1.clk = x0.clk ∧ (State.takeGetResp x0 x1 x2).1.clay = x0.clay ∧ (State.takeGetResp x0 x1 x2).1.pending = x0.pending := by
  unfold State.takeGetResp; (try dsimp only); (repeat' split) <;> simp [*]

@[simp] theorem State.takeSend_frame (x0 x1 x2 x3) : (State.takeSend x0 x1 x2 x3).1.pwr = x0.pwr ∧ (State.takeSend x0 x1 x2 x3).1.clk = x0.clk ∧ (State.takeSend x0 x1 x2 x3).1.clay = x0.clay ∧ (State.takeSend x0 x1 x2 x3).1.pending = x0.pending := by
  unfold State.takeSend; (try dsimp only); (repeat' split) <;> simp only [State.emit_frame, State.putRmsg_frame, State.setF_frame, State.setCh_frame, Io.writeW_frame, State.spillIo_frame, State.msgPart_frame, foldl_pwr, foldl_clk, foldl_clay, foldl_pending, and_self]

@[simp] theorem State.ackedPkt_frame (x0 x1 x2) : (State.ackedPkt x0 x1 x2).pwr = x0.pwr ∧ (State.ackedPkt x0 x1 x2).clk = x0.clk ∧ (State.ackedPkt x0 x1 x2).clay = x0.clay ∧ (State.ackedPkt x0 x1 x2).pending = x0.pending := by
  unfold State.ackedPkt; (try dsimp only); (repeat' split) <;> simp [*]

@[simp] theorem State.eceCut_frame (x0 x1) : (State.eceCut x0 x1).pwr = x0.pwr ∧ (State.eceCut x0 x1).clk = x0.clk ∧ (State.eceCut x0 x1).clay = x0.clay ∧ (State.eceCut x0 x1).mems = x0.mems ∧ (State.eceCut x0 x1).pending = x0.pending := by
  unfold State.eceCut; (try dsimp only); (repeat' split) <;> simp only [State.setCh_frame, foldl_pwr, foldl_clk, foldl_clay, foldl_mems, foldl_pending, and_self]

@[simp] theorem State.ackArrive_frame (x0 x1 x2) : (State.ackArrive x0 x1 x2).pwr = x0.pwr ∧ (State.ackArrive x0 x1 x2).clk = x0.clk ∧ (State.ackArrive x0 x1 x2).clay = x0.clay ∧ (State.ackArrive x0 x1 x2).pending = x0.pending := by
  simp [State.ackArrive, apply_ite State.pwr, apply_ite State.clk, apply_ite State.clay, apply_ite State.pending]

@[simp] theorem State.spillNak_frame (x0 x1 x2) : (State.spillNak x0 x1 x2).pwr = x0.pwr ∧ (State.spillNak x0 x1 x2).clk = x0.clk ∧ (State.spillNak x0 x1 x2).clay = x0.clay ∧ (State.spillNak x0 x1 x2).pending = x0.pending := by
  unfold State.spillNak; (try dsimp only); (repeat' split) <;> simp [*]

@[simp] theorem State.spillGrow_frame (x0 x1) : (State.spillGrow x0 x1).pwr = x0.pwr ∧ (State.spillGrow x0 x1).clk = x0.clk ∧ (State.spillGrow x0 x1).clay = x0.clay ∧ (State.spillGrow x0 x1).mems = x0.mems ∧ (State.spillGrow x0 x1).pending = x0.pending := by
  unfold State.spillGrow; (try dsimp only); (repeat' split) <;> simp only [State.chSend_frame, State.setCh_frame, foldl_pwr, foldl_clk, foldl_clay, foldl_mems, foldl_pending, and_self]

@[simp] theorem State.ethLaneState_frame (x0 x1) : (State.ethLaneState x0 x1).pwr = x0.pwr ∧ (State.ethLaneState x0 x1).clk = x0.clk ∧ (State.ethLaneState x0 x1).clay = x0.clay ∧ (State.ethLaneState x0 x1).mems = x0.mems ∧ (State.ethLaneState x0 x1).pending = x0.pending := by
  unfold State.ethLaneState; (try dsimp only); (repeat' split) <;> simp [*]

@[simp] theorem State.ethLink_frame (x0 x1 x2) : (State.ethLink x0 x1 x2).pwr = x0.pwr ∧ (State.ethLink x0 x1 x2).clk = x0.clk ∧ (State.ethLink x0 x1 x2).clay = x0.clay ∧ (State.ethLink x0 x1 x2).pending = x0.pending := by
  unfold State.ethLink; (try dsimp only); (repeat' split) <;> simp [*]

@[simp] theorem State.chCfg_frame (x0 x1 x2) : (State.chCfg x0 x1 x2).pwr = x0.pwr ∧ (State.chCfg x0 x1 x2).clk = x0.clk ∧ (State.chCfg x0 x1 x2).clay = x0.clay ∧ (State.chCfg x0 x1 x2).mems = x0.mems ∧ (State.chCfg x0 x1 x2).pending = x0.pending := by
  unfold State.chCfg; (try dsimp only); (repeat' split) <;> simp only [State.partWr_frame, State.chOff_frame, State.chSend_frame, State.setF_frame, foldl_pwr, foldl_clk, foldl_clay, foldl_mems, foldl_pending, and_self]

@[simp] theorem State.ethCtlP_frame (x0 x1 x2) : (State.ethCtlP x0 x1 x2).pwr = x0.pwr ∧ (State.ethCtlP x0 x1 x2).clk = x0.clk ∧ (State.ethCtlP x0 x1 x2).clay = x0.clay ∧ (State.ethCtlP x0 x1 x2).pending = x0.pending := by
  unfold State.ethCtlP; (try dsimp only); (repeat' split) <;> simp only [State.partWr_frame, State.ethLaneState_frame, State.ethLink_frame, State.takeWrs_frame, foldl_pwr, foldl_clk, foldl_clay, foldl_pending, and_self]

@[simp] theorem State.ethCtl_frame (x0 x1) : (State.ethCtl x0 x1).pwr = x0.pwr ∧ (State.ethCtl x0 x1).clk = x0.clk ∧ (State.ethCtl x0 x1).clay = x0.clay ∧ (State.ethCtl x0 x1).mems = x0.mems ∧ (State.ethCtl x0 x1).pending = x0.pending := by
  unfold State.ethCtl; (try dsimp only); (repeat' split) <;> simp [*]

@[simp] theorem State.ethOther_frame (x0 x1) : (State.ethOther x0 x1).pwr = x0.pwr ∧ (State.ethOther x0 x1).clk = x0.clk ∧ (State.ethOther x0 x1).clay = x0.clay ∧ (State.ethOther x0 x1).mems = x0.mems ∧ (State.ethOther x0 x1).pending = x0.pending := by
  unfold State.ethOther; (try dsimp only); (repeat' split) <;> simp only [State.incF_frame, foldl_pwr, foldl_clk, foldl_clay, foldl_mems, foldl_pending, and_self]

@[simp] theorem State.takeEntry_frame (x0 x1 x2 x3 x4) : (State.takeEntry x0 x1 x2 x3 x4).2.pwr = x0.pwr ∧ (State.takeEntry x0 x1 x2 x3 x4).2.clk = x0.clk ∧ (State.takeEntry x0 x1 x2 x3 x4).2.clay = x0.clay ∧ (State.takeEntry x0 x1 x2 x3 x4).2.mems = x0.mems ∧ (State.takeEntry x0 x1 x2 x3 x4).2.pending = x0.pending := by
  unfold State.takeEntry; (try dsimp only); (repeat' split) <;> simp only [foldl_pwr, foldl_clk, foldl_clay, foldl_mems, foldl_pending, and_self]

@[simp] theorem State.setChain_frame (x0 x1 x2 x3) : (State.setChain x0 x1 x2 x3).pwr = x0.pwr ∧ (State.setChain x0 x1 x2 x3).clk = x0.clk ∧ (State.setChain x0 x1 x2 x3).clay = x0.clay ∧ (State.setChain x0 x1 x2 x3).mems = x0.mems ∧ (State.setChain x0 x1 x2 x3).pending = x0.pending := by
  unfold State.setChain; (try dsimp only); (repeat' split) <;> simp only [foldl_pwr, foldl_clk, foldl_clay, foldl_mems, foldl_pending, and_self]

@[simp] theorem State.admitHdr_frame (x0 x1 x2 x3) : (State.admitHdr x0 x1 x2 x3).2.pwr = x0.pwr ∧ (State.admitHdr x0 x1 x2 x3).2.clk = x0.clk ∧ (State.admitHdr x0 x1 x2 x3).2.clay = x0.clay ∧ (State.admitHdr x0 x1 x2 x3).2.mems = x0.mems ∧ (State.admitHdr x0 x1 x2 x3).2.pending = x0.pending := by
  unfold State.admitHdr
  dsimp only
  split
  · simp
  · split
    · simp
    · have h := State.takeEntry_frame x0 x1 (fieldAt 2 x2.toNat 56) (x0.handleIso x1 (fieldAt 4 x2.toNat 52)) ((decide (fieldAt 2 x2.toNat 56 = 0) || decide (fieldAt 2 x2.toNat 56 = 2)) && bitAt x2.toNat 32)
      generalize State.takeEntry _ _ _ _ _ = p at h ⊢
      rcases p with ⟨_ | b, t⟩
      · simp_all [apply_ite State.pwr, apply_ite State.clk, apply_ite State.clay, apply_ite State.mems, apply_ite State.pending]
      · dsimp only at h ⊢; split <;> simp [h]

@[simp] theorem State.snoopReply_frame (x0 x1 x2 x3) : (State.snoopReply x0 x1 x2 x3).pwr = x0.pwr ∧ (State.snoopReply x0 x1 x2 x3).clk = x0.clk ∧ (State.snoopReply x0 x1 x2 x3).clay = x0.clay ∧ (State.snoopReply x0 x1 x2 x3).mems = x0.mems ∧ (State.snoopReply x0 x1 x2 x3).pending = x0.pending := by
  unfold State.snoopReply; (try dsimp only); (repeat' split) <;> simp only [State.sendSnp_frame, foldl_pwr, foldl_clk, foldl_clay, foldl_mems, foldl_pending, and_self]

@[simp] theorem State.snoopUnmapped_frame (x0 x1) : (State.snoopUnmapped x0 x1).pwr = x0.pwr ∧ (State.snoopUnmapped x0 x1).clk = x0.clk ∧ (State.snoopUnmapped x0 x1).clay = x0.clay ∧ (State.snoopUnmapped x0 x1).pending = x0.pending := by
  unfold State.snoopUnmapped; (try dsimp only); (repeat' split) <;> simp only [State.logLoss_frame, State.snoopReply_frame, foldl_pwr, foldl_clk, foldl_clay, foldl_pending, and_self]

@[simp] theorem State.snoopArrive_frame (x0 x1) : (State.snoopArrive x0 x1).pwr = x0.pwr ∧ (State.snoopArrive x0 x1).clk = x0.clk ∧ (State.snoopArrive x0 x1).clay = x0.clay ∧ (State.snoopArrive x0 x1).pending = x0.pending := by
  unfold State.snoopArrive; (try dsimp only); (repeat' split) <;> simp only [State.snoopUnmapped_frame, State.tx_frame, foldl_pwr, foldl_clk, foldl_clay, foldl_pending, and_self]

@[simp] theorem State.flushSnoops_frame (x0 x1) : (State.flushSnoops x0 x1).pwr = x0.pwr ∧ (State.flushSnoops x0 x1).clk = x0.clk ∧ (State.flushSnoops x0 x1).clay = x0.clay ∧ (State.flushSnoops x0 x1).pending = x0.pending := by
  unfold State.flushSnoops; (try dsimp only); (repeat' split) <;> simp [*]

@[simp] theorem State.agentResponse_frame (x0 x1 x2 x3) : (State.agentResponse x0 x1 x2 x3).pwr = x0.pwr ∧ (State.agentResponse x0 x1 x2 x3).clk = x0.clk ∧ (State.agentResponse x0 x1 x2 x3).clay = x0.clay ∧ (State.agentResponse x0 x1 x2 x3).mems = x0.mems ∧ (State.agentResponse x0 x1 x2 x3).pending = x0.pending := by
  unfold State.agentResponse; (try dsimp only); (repeat' split) <;> simp only [State.snoopReply_frame, foldl_pwr, foldl_clk, foldl_clay, foldl_mems, foldl_pending, and_self]

@[simp] theorem Rx.close_frame (x0 x1) : (Rx.close x0 x1).s.pwr = x0.s.pwr ∧ (Rx.close x0 x1).s.clk = x0.s.clk ∧ (Rx.close x0 x1).s.clay = x0.s.clay ∧ (Rx.close x0 x1).s.mems = x0.s.mems ∧ (Rx.close x0 x1).s.pending = x0.s.pending := by
  unfold Rx.close; (try dsimp only); (repeat' split) <;> simp only [State.setEnt_frame, State.agentResponse_frame, foldl_pwr, foldl_clk, foldl_clay, foldl_mems, foldl_pending, and_self]

@[simp] theorem Rx.start_frame (x0 x1 x2 x3) : (Rx.start x0 x1 x2 x3).s.pwr = x0.s.pwr ∧ (Rx.start x0 x1 x2 x3).s.clk = x0.s.clk ∧ (Rx.start x0 x1 x2 x3).s.clay = x0.s.clay ∧ (Rx.start x0 x1 x2 x3).s.mems = x0.s.mems ∧ (Rx.start x0 x1 x2 x3).s.pending = x0.s.pending := by
  unfold Rx.start; (try dsimp only); (repeat' split) <;> simp only [Rx.close_frame, State.admitHdr_frame, foldl_pwr, foldl_clk, foldl_clay, foldl_mems, foldl_pending, and_self]

@[simp] theorem Rx.data_frame (x0 x1 x2) : (Rx.data x0 x1 x2).s.pwr = x0.s.pwr ∧ (Rx.data x0 x1 x2).s.clk = x0.s.clk ∧ (Rx.data x0 x1 x2).s.clay = x0.s.clay ∧ (Rx.data x0 x1 x2).s.mems = x0.s.mems ∧ (Rx.data x0 x1 x2).s.pending = x0.s.pending := by
  unfold Rx.data; (try dsimp only); (repeat' split) <;> simp only [State.setEnt_frame, Rx.close_frame, foldl_pwr, foldl_clk, foldl_clay, foldl_mems, foldl_pending, and_self]

@[simp] theorem Rx.units_frame (x0 x1 x2 x3 x4 x5) : (Rx.units x0 x1 x2 x3 x4 x5).s.pwr = x5.s.pwr ∧ (Rx.units x0 x1 x2 x3 x4 x5).s.clk = x5.s.clk ∧ (Rx.units x0 x1 x2 x3 x4 x5).s.clay = x5.s.clay ∧ (Rx.units x0 x1 x2 x3 x4 x5).s.mems = x5.s.mems ∧ (Rx.units x0 x1 x2 x3 x4 x5).s.pending = x5.s.pending := by
  fun_induction Rx.units <;> (try simp [*]) <;> (repeat' split) <;> simp_all

@[simp] theorem State.attachFlit_frame (x0 x1 x2) : (State.attachFlit x0 x1 x2).pwr = x0.pwr ∧ (State.attachFlit x0 x1 x2).clk = x0.clk ∧ (State.attachFlit x0 x1 x2).clay = x0.clay ∧ (State.attachFlit x0 x1 x2).mems = x0.mems ∧ (State.attachFlit x0 x1 x2).pending = x0.pending := by
  unfold State.attachFlit; (try dsimp only); (repeat' split) <;> simp only [Rx.units_frame, foldl_pwr, foldl_clk, foldl_clay, foldl_mems, foldl_pending, and_self]

@[simp] theorem State.answerSend_frame (x0 x1) : (State.answerSend x0 x1).pwr = x0.pwr ∧ (State.answerSend x0 x1).clk = x0.clk ∧ (State.answerSend x0 x1).clay = x0.clay ∧ (State.answerSend x0 x1).mems = x0.mems ∧ (State.answerSend x0 x1).pending = x0.pending := by
  unfold State.answerSend; (try dsimp only); (repeat' split) <;> simp only [State.drawWord_frame, State.emit_frame, State.setLp_frame, foldl_pwr, foldl_clk, foldl_clay, foldl_mems, foldl_pending, and_self]

@[simp] theorem State.holdExpiry_frame (x0 x1 x2) : (State.holdExpiry x0 x1 x2).pwr = x0.pwr ∧ (State.holdExpiry x0 x1 x2).clk = x0.clk ∧ (State.holdExpiry x0 x1 x2).clay = x0.clay ∧ (State.holdExpiry x0 x1 x2).mems = x0.mems ∧ (State.holdExpiry x0 x1 x2).pending = x0.pending := by
  unfold State.holdExpiry; (try dsimp only); (repeat' split) <;> simp only [foldl_pwr, foldl_clk, foldl_clay, foldl_mems, foldl_pending, and_self]

@[simp] theorem State.markOut_frame (x0 x1) : (State.markOut x0 x1).2.pwr = x0.pwr ∧ (State.markOut x0 x1).2.clk = x0.clk ∧ (State.markOut x0 x1).2.clay = x0.clay ∧ (State.markOut x0 x1).2.mems = x0.mems ∧ (State.markOut x0 x1).2.pending = x0.pending := by
  unfold State.markOut; (try dsimp only); (repeat' split) <;> simp only [State.redMark_frame, State.incF_frame, foldl_pwr, foldl_clk, foldl_clay, foldl_mems, foldl_pending, and_self]

@[simp] theorem State.endEnt_frame (x0 x1 x2 x3 x4 x5 x6) : (State.endEnt x0 x1 x2 x3 x4 x5 x6).pwr = x0.pwr ∧ (State.endEnt x0 x1 x2 x3 x4 x5 x6).clk = x0.clk ∧ (State.endEnt x0 x1 x2 x3 x4 x5 x6).clay = x0.clay ∧ (State.endEnt x0 x1 x2 x3 x4 x5 x6).mems = x0.mems ∧ (State.endEnt x0 x1 x2 x3 x4 x5 x6).pending = x0.pending := by
  unfold State.endEnt; (try dsimp only); (repeat' split) <;> simp only [State.markOut_frame, State.attachCpl_frame, State.setEnt_frame, foldl_pwr, foldl_clk, foldl_clay, foldl_mems, foldl_pending, and_self]

@[simp] theorem State.fenceCheck_frame (x0 x1) : (State.fenceCheck x0 x1).pwr = x0.pwr ∧ (State.fenceCheck x0 x1).clk = x0.clk ∧ (State.fenceCheck x0 x1).clay = x0.clay ∧ (State.fenceCheck x0 x1).mems = x0.mems ∧ (State.fenceCheck x0 x1).pending = x0.pending := by
  unfold State.fenceCheck; (try dsimp only); (repeat' split) <;> simp only [State.endEnt_frame, foldl_pwr, foldl_clk, foldl_clay, foldl_mems, foldl_pending, and_self]

@[simp] theorem State.completeEnt_frame (x0 x1 x2 x3 x4 x5 x6) : (State.completeEnt x0 x1 x2 x3 x4 x5 x6).pwr = x0.pwr ∧ (State.completeEnt x0 x1 x2 x3 x4 x5 x6).clk = x0.clk ∧ (State.completeEnt x0 x1 x2 x3 x4 x5 x6).clay = x0.clay ∧ (State.completeEnt x0 x1 x2 x3 x4 x5 x6).pending = x0.pending := by
  unfold State.completeEnt; (try dsimp only); (repeat' split) <;> simp only [State.countXlate_frame, State.freeEnt_frame, State.endEnt_frame, State.lostJob_frame, State.fenceCheck_frame, foldl_pwr, foldl_clk, foldl_clay, foldl_pending, and_self]

@[simp] theorem State.sendEnt_frame (x0 x1 x2 x3 x4) : (State.sendEnt x0 x1 x2 x3 x4).pwr = x0.pwr ∧ (State.sendEnt x0 x1 x2 x3 x4).clk = x0.clk ∧ (State.sendEnt x0 x1 x2 x3 x4).clay = x0.clay ∧ (State.sendEnt x0 x1 x2 x3 x4).mems = x0.mems ∧ (State.sendEnt x0 x1 x2 x3 x4).pending = x0.pending := by
  unfold State.sendEnt; (try dsimp only); (repeat' split) <;> simp only [State.setPace_frame, State.issueReq_frame, State.setEnt_frame, foldl_pwr, foldl_clk, foldl_clay, foldl_mems, foldl_pending, and_self]

@[simp] theorem State.releaseEnt_frame (x0 x1 x2) : (State.releaseEnt x0 x1 x2).pwr = x0.pwr ∧ (State.releaseEnt x0 x1 x2).clk = x0.clk ∧ (State.releaseEnt x0 x1 x2).clay = x0.clay ∧ (State.releaseEnt x0 x1 x2).pending = x0.pending := by
  unfold State.releaseEnt; (try dsimp only); (repeat' split) <;> simp only [State.completeEnt_frame, State.sendEnt_frame, foldl_pwr, foldl_clk, foldl_clay, foldl_pending, and_self]

@[simp] theorem State.pacedRelease_frame (x0 x1 x2) : (State.pacedRelease x0 x1 x2).pwr = x0.pwr ∧ (State.pacedRelease x0 x1 x2).clk = x0.clk ∧ (State.pacedRelease x0 x1 x2).clay = x0.clay ∧ (State.pacedRelease x0 x1 x2).pending = x0.pending := by
  induction x2 generalizing x0 <;> simp only [State.pacedRelease, *, and_self, apply_ite State.pwr, apply_ite State.clk, apply_ite State.clay, apply_ite State.pending] <;> (repeat' split) <;> simp [*, apply_ite State.pwr, apply_ite State.clk, apply_ite State.clay, apply_ite State.pending]

@[simp] theorem State.paceGrow_frame (x0 x1 x2) : (State.paceGrow x0 x1 x2).pwr = x0.pwr ∧ (State.paceGrow x0 x1 x2).clk = x0.clk ∧ (State.paceGrow x0 x1 x2).clay = x0.clay ∧ (State.paceGrow x0 x1 x2).mems = x0.mems ∧ (State.paceGrow x0 x1 x2).pending = x0.pending := by
  unfold State.paceGrow; (try dsimp only); (repeat' split) <;> simp only [State.setPace_frame, foldl_pwr, foldl_clk, foldl_clay, foldl_mems, foldl_pending, and_self]

@[simp] theorem State.unpace_frame (x0 x1 x2) : (State.unpace x0 x1 x2).pwr = x0.pwr ∧ (State.unpace x0 x1 x2).clk = x0.clk ∧ (State.unpace x0 x1 x2).clay = x0.clay ∧ (State.unpace x0 x1 x2).mems = x0.mems ∧ (State.unpace x0 x1 x2).pending = x0.pending := by
  unfold State.unpace; (try dsimp only); (repeat' split) <;> simp only [State.setPace_frame, foldl_pwr, foldl_clk, foldl_clay, foldl_mems, foldl_pending, and_self]

@[simp] theorem State.paceDone_frame (x0 x1 x2 x3) : (State.paceDone x0 x1 x2 x3).pwr = x0.pwr ∧ (State.paceDone x0 x1 x2 x3).clk = x0.clk ∧ (State.paceDone x0 x1 x2 x3).clay = x0.clay ∧ (State.paceDone x0 x1 x2 x3).mems = x0.mems ∧ (State.paceDone x0 x1 x2 x3).pending = x0.pending := by
  unfold State.paceDone; (try dsimp only); (repeat' split) <;> simp only [State.paceCe_frame, State.unpace_frame, foldl_pwr, foldl_clk, foldl_clay, foldl_mems, foldl_pending, and_self]

theorem translateEnt_frame (s : State) (e : Ent) (slot : Option Nat) (st : Status) (t : State) (h : s.translateEnt e = .fail slot st t) :
    t.pwr = s.pwr ∧ t.clk = s.clk ∧ t.clay = s.clay ∧ t.pending = s.pending := by
  unfold State.translateEnt at h
  dsimp only at h
  (repeat' split at h) <;> first | (cases h; simp; done) | cases h

@[simp] theorem State.issueAttach_frame (x0 x1) : (State.issueAttach x0 x1).pwr = x0.pwr ∧ (State.issueAttach x0 x1).clk = x0.clk ∧ (State.issueAttach x0 x1).clay = x0.clay ∧ (State.issueAttach x0 x1).pending = x0.pending := by
  unfold State.issueAttach
  dsimp only
  (repeat' split) <;> first | simp; done | (have := translateEnt_frame _ _ _ _ _ ‹_ = Sent.fail _ _ _›; simp [this])

@[simp] theorem State.ownDone_frame (x0 x1 x2) : (State.ownDone x0 x1 x2).pwr = x0.pwr ∧ (State.ownDone x0 x1 x2).clk = x0.clk ∧ (State.ownDone x0 x1 x2).clay = x0.clay ∧ (State.ownDone x0 x1 x2).pending = x0.pending := by
  unfold State.ownDone; (try dsimp only); (repeat' split) <;> simp only [State.signalled_frame, State.recSignalled_frame, State.finish_frame, State.post_frame, State.mirrorAnswer_frame, State.granuleAnswer_frame, foldl_pwr, foldl_clk, foldl_clay, foldl_pending, and_self]

@[simp] theorem State.completionArrive_frame (x0 x1) : (State.completionArrive x0 x1).pwr = x0.pwr ∧ (State.completionArrive x0 x1).clk = x0.clk ∧ (State.completionArrive x0 x1).clay = x0.clay ∧ (State.completionArrive x0 x1).pending = x0.pending := by
  unfold State.completionArrive; (try dsimp only); (repeat' split) <;> simp [*]

@[simp] theorem State.pushDesc_frame (x0 x1 x2) : (State.pushDesc x0 x1 x2).pwr = x0.pwr ∧ (State.pushDesc x0 x1 x2).clk = x0.clk ∧ (State.pushDesc x0 x1 x2).clay = x0.clay ∧ (State.pushDesc x0 x1 x2).mems = x0.mems ∧ (State.pushDesc x0 x1 x2).pending = x0.pending := by
  unfold State.pushDesc; (try dsimp only); (repeat' split) <;> simp only [State.setQ_frame, foldl_pwr, foldl_clk, foldl_clay, foldl_mems, foldl_pending, and_self]

@[simp] theorem State.stopFetched_frame (x0 x1 x2) : (State.stopFetched x0 x1 x2).pwr = x0.pwr ∧ (State.stopFetched x0 x1 x2).clk = x0.clk ∧ (State.stopFetched x0 x1 x2).clay = x0.clay ∧ (State.stopFetched x0 x1 x2).pending = x0.pending := by
  unfold State.stopFetched; (try dsimp only); (repeat' split) <;> simp [*]

@[simp] theorem State.fetched_frame (x0 x1 x2) : (State.fetched x0 x1 x2).pwr = x0.pwr ∧ (State.fetched x0 x1 x2).clk = x0.clk ∧ (State.fetched x0 x1 x2).clay = x0.clay ∧ (State.fetched x0 x1 x2).pending = x0.pending := by
  unfold State.fetched; (try dsimp only); (repeat' split) <;> simp [*]

@[simp] theorem State.fetchDone_frame (x0 x1 x2) : (State.fetchDone x0 x1 x2).pwr = x0.pwr ∧ (State.fetchDone x0 x1 x2).clk = x0.clk ∧ (State.fetchDone x0 x1 x2).clay = x0.clay ∧ (State.fetchDone x0 x1 x2).pending = x0.pending := by
  unfold State.fetchDone; (try dsimp only); (repeat' split) <;> simp only [State.setQ_frame, State.queueError_frame, State.fetched_frame, foldl_pwr, foldl_clk, foldl_clay, foldl_pending, and_self]

@[simp] theorem State.takeTurn_frame (x0 x1) : (State.takeTurn x0 x1).pwr = x0.pwr ∧ (State.takeTurn x0 x1).clk = x0.clk ∧ (State.takeTurn x0 x1).clay = x0.clay ∧ (State.takeTurn x0 x1).mems = x0.mems ∧ (State.takeTurn x0 x1).pending = x0.pending := by
  unfold State.takeTurn; (try dsimp only); (repeat' split) <;> simp only [foldl_pwr, foldl_clk, foldl_clay, foldl_mems, foldl_pending, and_self]

@[simp] theorem State.sendsOver_frame (x0 x1 x2 x3) : (State.sendsOver x0 x1 x2 x3).2.pwr = x0.pwr ∧ (State.sendsOver x0 x1 x2 x3).2.clk = x0.clk ∧ (State.sendsOver x0 x1 x2 x3).2.clay = x0.clay ∧ (State.sendsOver x0 x1 x2 x3).2.mems = x0.mems ∧ (State.sendsOver x0 x1 x2 x3).2.pending = x0.pending := by
  unfold State.sendsOver; (try dsimp only); (repeat' split) <;> simp only [Io.loadOp_frame, State.io_frame, foldl_pwr, foldl_clk, foldl_clay, foldl_mems, foldl_pending, and_self]

theorem startColl_frame (s : State) (q : Nat) (d : Desc) (sends : Bool) (t : State) (h : s.startColl q d sends = .done t) :
    t.pwr = s.pwr ∧ t.clk = s.clk ∧ t.clay = s.clay ∧ t.pending = s.pending := by
  unfold State.startColl at h
  dsimp only at h
  (repeat' split at h) <;> first | (cases h; simp; done) | cases h

@[simp] theorem State.beginDesc_frame (x0 x1 x2 x3 x4) : (State.beginDesc x0 x1 x2 x3 x4).pwr = x0.pwr ∧ (State.beginDesc x0 x1 x2 x3 x4).clk = x0.clk ∧ (State.beginDesc x0 x1 x2 x3 x4).clay = x0.clay ∧ (State.beginDesc x0 x1 x2 x3 x4).pending = x0.pending := by
  unfold State.beginDesc
  dsimp only
  (repeat' split) <;> first | simp; done | (have := startColl_frame _ _ _ _ _ ‹_ = Join.done _›; simp [this])

@[simp] theorem State.startNow_frame (x0 x1 x2 x3 x4) : (State.startNow x0 x1 x2 x3 x4).pwr = x0.pwr ∧ (State.startNow x0 x1 x2 x3 x4).clk = x0.clk ∧ (State.startNow x0 x1 x2 x3 x4).clay = x0.clay ∧ (State.startNow x0 x1 x2 x3 x4).pending = x0.pending := by
  unfold State.startNow; (try dsimp only); (repeat' split) <;> simp [*]

@[simp] theorem State.startDesc_frame (x0 x1 x2 x3 x4) : (State.startDesc x0 x1 x2 x3 x4).pwr = x0.pwr ∧ (State.startDesc x0 x1 x2 x3 x4).clk = x0.clk ∧ (State.startDesc x0 x1 x2 x3 x4).clay = x0.clay ∧ (State.startDesc x0 x1 x2 x3 x4).pending = x0.pending := by
  unfold State.startDesc; (try dsimp only); (repeat' split) <;> simp only [State.startNow_frame, State.applyXlate_frame, foldl_pwr, foldl_clk, foldl_clay, foldl_pending, and_self]

@[simp] theorem State.startHead_frame (x0 x1 x2 x3) : (State.startHead x0 x1 x2 x3).pwr = x0.pwr ∧ (State.startHead x0 x1 x2 x3).clk = x0.clk ∧ (State.startHead x0 x1 x2 x3).clay = x0.clay ∧ (State.startHead x0 x1 x2 x3).pending = x0.pending := by
  unfold State.startHead; (try dsimp only); (repeat' split) <;> simp [*]

@[simp] theorem State.barrierFire_frame (x0) : (State.barrierFire x0).pwr = x0.pwr ∧ (State.barrierFire x0).clay = x0.clay ∧ (State.barrierFire x0).pending = x0.pending := by
  unfold State.barrierFire; (try dsimp only); (repeat' split) <;> simp [*]

@[simp] theorem Io.settle_frame (x0 x1 x2) : (Io.settle x0 x1 x2).pwr = x0.s.pwr ∧ (Io.settle x0 x1 x2).clk = x0.s.clk ∧ (Io.settle x0 x1 x2).clay = x0.s.clay ∧ (Io.settle x0 x1 x2).pending = x0.s.pending := by
  unfold Io.settle; (try dsimp only); (repeat' split) <;> simp [*]

@[simp] theorem State.work_pwr (x0 x1 x2 x3 x4 x5) (h5 : ∀ y0 y1, (x5 y0 y1).2.s.pwr = y1.s.pwr) : (State.work x0 x1 x2 x3 x4 x5).pwr = x0.pwr := by
  unfold State.work; (try dsimp only); (repeat' split) <;> simp [*]

@[simp] theorem State.work_clk (x0 x1 x2 x3 x4 x5) (h5 : ∀ y0 y1, (x5 y0 y1).2.s.clk = y1.s.clk) : (State.work x0 x1 x2 x3 x4 x5).clk = x0.clk := by
  unfold State.work; (try dsimp only); (repeat' split) <;> simp [*]

@[simp] theorem State.work_clay (x0 x1 x2 x3 x4 x5) (h5 : ∀ y0 y1, (x5 y0 y1).2.s.clay = y1.s.clay) : (State.work x0 x1 x2 x3 x4 x5).clay = x0.clay := by
  unfold State.work; (try dsimp only); (repeat' split) <;> simp [*]

@[simp] theorem State.work_pending (x0 x1 x2 x3 x4 x5) (h5 : ∀ y0 y1, (x5 y0 y1).2.s.pending = y1.s.pending) : (State.work x0 x1 x2 x3 x4 x5).pending = x0.pending := by
  unfold State.work; (try dsimp only); (repeat' split) <;> simp [*]

@[simp] theorem Io.span_frame (x0 x1 x2 x3 x4) : (Io.span x0 x1 x2 x3 x4).s.pwr = x0.s.pwr ∧ (Io.span x0 x1 x2 x3 x4).s.clk = x0.s.clk ∧ (Io.span x0 x1 x2 x3 x4).s.clay = x0.s.clay ∧ (Io.span x0 x1 x2 x3 x4).s.mems = x0.s.mems ∧ (Io.span x0 x1 x2 x3 x4).s.pending = x0.s.pending := by
  unfold Io.span; (try dsimp only); (repeat' split) <;> simp only [Io.fail_frame, foldl_pwr, foldl_clk, foldl_clay, foldl_mems, foldl_pending, and_self]

@[simp] theorem Io.move_pwr (x0 x1 x2 x3 x4 x5 x6 x7 x8) (h0 : ∀ y0 y1 y2, (x0 y0 y1 y2).2.s.pwr = y2.s.pwr) (h1 : ∀ y0 y1 y2, (x1 y0 y1 y2).2.s.pwr = y2.s.pwr) : (Io.move x0 x1 x2 x3 x4 x5 x6 x7 x8).2.s.pwr = x8.s.pwr := by
  induction x6 generalizing x5 x7 x8 <;> simp only [Io.move, *, and_self, apply_ite State.pwr] <;> (repeat' split) <;> simp [*, apply_ite State.pwr]

@[simp] theorem Io.move_clk (x0 x1 x2 x3 x4 x5 x6 x7 x8) (h0 : ∀ y0 y1 y2, (x0 y0 y1 y2).2.s.clk = y2.s.clk) (h1 : ∀ y0 y1 y2, (x1 y0 y1 y2).2.s.clk = y2.s.clk) : (Io.move x0 x1 x2 x3 x4 x5 x6 x7 x8).2.s.clk = x8.s.clk := by
  induction x6 generalizing x5 x7 x8 <;> simp only [Io.move, *, and_self, apply_ite State.clk] <;> (repeat' split) <;> simp [*, apply_ite State.clk]

@[simp] theorem Io.move_clay (x0 x1 x2 x3 x4 x5 x6 x7 x8) (h0 : ∀ y0 y1 y2, (x0 y0 y1 y2).2.s.clay = y2.s.clay) (h1 : ∀ y0 y1 y2, (x1 y0 y1 y2).2.s.clay = y2.s.clay) : (Io.move x0 x1 x2 x3 x4 x5 x6 x7 x8).2.s.clay = x8.s.clay := by
  induction x6 generalizing x5 x7 x8 <;> simp only [Io.move, *, and_self, apply_ite State.clay] <;> (repeat' split) <;> simp [*, apply_ite State.clay]

@[simp] theorem Io.move_pending (x0 x1 x2 x3 x4 x5 x6 x7 x8) (h0 : ∀ y0 y1 y2, (x0 y0 y1 y2).2.s.pending = y2.s.pending) (h1 : ∀ y0 y1 y2, (x1 y0 y1 y2).2.s.pending = y2.s.pending) : (Io.move x0 x1 x2 x3 x4 x5 x6 x7 x8).2.s.pending = x8.s.pending := by
  induction x6 generalizing x5 x7 x8 <;> simp only [Io.move, *, and_self, apply_ite State.pending] <;> (repeat' split) <;> simp [*, apply_ite State.pending]

@[simp] theorem Io.putAt_frame (x0 x1 x2 x3 x4 x5) : (Io.putAt x0 x1 x2 x3 x4 x5).2.s.pwr = x5.s.pwr ∧ (Io.putAt x0 x1 x2 x3 x4 x5).2.s.clk = x5.s.clk ∧ (Io.putAt x0 x1 x2 x3 x4 x5).2.s.clay = x5.s.clay ∧ (Io.putAt x0 x1 x2 x3 x4 x5).2.s.mems = x5.s.mems ∧ (Io.putAt x0 x1 x2 x3 x4 x5).2.s.pending = x5.s.pending := by
  unfold Io.putAt; (try dsimp only); (repeat' split) <;> simp only [Io.store_frame, Io.busStore_frame, foldl_pwr, foldl_clk, foldl_clay, foldl_mems, foldl_pending, and_self]

@[simp] theorem Io.side_frame (x0 x1 x2 x3) : (Io.side x0 x1 x2 x3).2.s.pwr = x0.s.pwr ∧ (Io.side x0 x1 x2 x3).2.s.clk = x0.s.clk ∧ (Io.side x0 x1 x2 x3).2.s.clay = x0.s.clay ∧ (Io.side x0 x1 x2 x3).2.s.mems = x0.s.mems ∧ (Io.side x0 x1 x2 x3).2.s.pending = x0.s.pending := by
  unfold Io.side; (try dsimp only); (repeat' split) <;> simp only [Io.range_frame, foldl_pwr, foldl_clk, foldl_clay, foldl_mems, foldl_pending, and_self]

@[simp] theorem Io.copy_frame (x0 x1) : (Io.copy x0 x1).2.s.pwr = x1.s.pwr ∧ (Io.copy x0 x1).2.s.clk = x1.s.clk ∧ (Io.copy x0 x1).2.s.clay = x1.s.clay ∧ (Io.copy x0 x1).2.s.pending = x1.s.pending := by
  unfold Io.copy; (try dsimp only); (repeat' split) <;> simp [*]

@[simp] theorem Io.fill_frame (x0 x1) : (Io.fill x0 x1).2.s.pwr = x1.s.pwr ∧ (Io.fill x0 x1).2.s.clk = x1.s.clk ∧ (Io.fill x0 x1).2.s.clay = x1.s.clay ∧ (Io.fill x0 x1).2.s.pending = x1.s.pending := by
  unfold Io.fill; (try dsimp only); (repeat' split) <;> simp [*]

@[simp] theorem Io.units_pwr (x0 x1 x2 x3) (h0 : ∀ y0 y1, (x0 y0 y1).s.pwr = y1.s.pwr) : (Io.units x0 x1 x2 x3).2.s.pwr = x3.s.pwr := by
  induction x1 generalizing x2 x3 <;> simp only [Io.units, *, and_self, apply_ite State.pwr] <;> (repeat' split) <;> simp [*, apply_ite State.pwr]

@[simp] theorem Io.units_clk (x0 x1 x2 x3) (h0 : ∀ y0 y1, (x0 y0 y1).s.clk = y1.s.clk) : (Io.units x0 x1 x2 x3).2.s.clk = x3.s.clk := by
  induction x1 generalizing x2 x3 <;> simp only [Io.units, *, and_self, apply_ite State.clk] <;> (repeat' split) <;> simp [*, apply_ite State.clk]

@[simp] theorem Io.units_clay (x0 x1 x2 x3) (h0 : ∀ y0 y1, (x0 y0 y1).s.clay = y1.s.clay) : (Io.units x0 x1 x2 x3).2.s.clay = x3.s.clay := by
  induction x1 generalizing x2 x3 <;> simp only [Io.units, *, and_self, apply_ite State.clay] <;> (repeat' split) <;> simp [*, apply_ite State.clay]

@[simp] theorem Io.units_pending (x0 x1 x2 x3) (h0 : ∀ y0 y1, (x0 y0 y1).s.pending = y1.s.pending) : (Io.units x0 x1 x2 x3).2.s.pending = x3.s.pending := by
  induction x1 generalizing x2 x3 <;> simp only [Io.units, *, and_self, apply_ite State.pending] <;> (repeat' split) <;> simp [*, apply_ite State.pending]

@[simp] theorem Io.ranges3_pwr (x0 x1 x2) (h2 : ∀ y0 y1 y2 y3, (x2 y0 y1 y2 y3).2.s.pwr = y3.s.pwr) : (Io.ranges3 x0 x1 x2).2.s.pwr = x0.s.pwr := by
  unfold Io.ranges3; (try dsimp only); (repeat' split) <;> simp [*]

@[simp] theorem Io.ranges3_clk (x0 x1 x2) (h2 : ∀ y0 y1 y2 y3, (x2 y0 y1 y2 y3).2.s.clk = y3.s.clk) : (Io.ranges3 x0 x1 x2).2.s.clk = x0.s.clk := by
  unfold Io.ranges3; (try dsimp only); (repeat' split) <;> simp [*]

@[simp] theorem Io.ranges3_clay (x0 x1 x2) (h2 : ∀ y0 y1 y2 y3, (x2 y0 y1 y2 y3).2.s.clay = y3.s.clay) : (Io.ranges3 x0 x1 x2).2.s.clay = x0.s.clay := by
  unfold Io.ranges3; (try dsimp only); (repeat' split) <;> simp [*]

@[simp] theorem Io.ranges3_pending (x0 x1 x2) (h2 : ∀ y0 y1 y2 y3, (x2 y0 y1 y2 y3).2.s.pending = y3.s.pending) : (Io.ranges3 x0 x1 x2).2.s.pending = x0.s.pending := by
  unfold Io.ranges3; (try dsimp only); (repeat' split) <;> simp [*]

@[simp] theorem Io.index_frame (x0 x1 x2 x3) : (Io.index x0 x1 x2 x3).2.s.pwr = x0.s.pwr ∧ (Io.index x0 x1 x2 x3).2.s.clk = x0.s.clk ∧ (Io.index x0 x1 x2 x3).2.s.clay = x0.s.clay ∧ (Io.index x0 x1 x2 x3).2.s.mems = x0.s.mems ∧ (Io.index x0 x1 x2 x3).2.s.pending = x0.s.pending := by
  unfold Io.index; (try dsimp only); (repeat' split) <;> simp only [Io.span_frame, Io.load_frame, foldl_pwr, foldl_clk, foldl_clay, foldl_mems, foldl_pending, and_self]

@[simp] theorem Io.row_frame (x0 x1 x2 x3 x4 x5 x6 x7) : (Io.row x0 x1 x2 x3 x4 x5 x6 x7).s.pwr = x0.s.pwr ∧ (Io.row x0 x1 x2 x3 x4 x5 x6 x7).s.clk = x0.s.clk ∧ (Io.row x0 x1 x2 x3 x4 x5 x6 x7).s.clay = x0.s.clay ∧ (Io.row x0 x1 x2 x3 x4 x5 x6 x7).s.mems = x0.s.mems ∧ (Io.row x0 x1 x2 x3 x4 x5 x6 x7).s.pending = x0.s.pending := by
  unfold Io.row; (try dsimp only); (repeat' split) <;> simp only [Io.span_frame, Io.load_frame, Io.store_frame, foldl_pwr, foldl_clk, foldl_clay, foldl_mems, foldl_pending, and_self]

@[simp] theorem Io.gather_frame (x0 x1) : (Io.gather x0 x1).2.s.pwr = x1.s.pwr ∧ (Io.gather x0 x1).2.s.clk = x1.s.clk ∧ (Io.gather x0 x1).2.s.clay = x1.s.clay ∧ (Io.gather x0 x1).2.s.pending = x1.s.pending := by
  unfold Io.gather; (try dsimp only); (repeat' split) <;> simp [*]

@[simp] theorem Io.scatter_frame (x0 x1) : (Io.scatter x0 x1).2.s.pwr = x1.s.pwr ∧ (Io.scatter x0 x1).2.s.clk = x1.s.clk ∧ (Io.scatter x0 x1).2.s.clay = x1.s.clay ∧ (Io.scatter x0 x1).2.s.pending = x1.s.pending := by
  unfold Io.scatter; (try dsimp only); (repeat' split) <;> simp [*]

@[simp] theorem Io.bagRows_frame (x0 x1 x2 x3) : (Io.bagRows x0 x1 x2 x3).2.s.pwr = x3.s.pwr ∧ (Io.bagRows x0 x1 x2 x3).2.s.clk = x3.s.clk ∧ (Io.bagRows x0 x1 x2 x3).2.s.clay = x3.s.clay ∧ (Io.bagRows x0 x1 x2 x3).2.s.mems = x3.s.mems ∧ (Io.bagRows x0 x1 x2 x3).2.s.pending = x3.s.pending := by
  induction x2 generalizing x3 <;> simp only [Io.bagRows, *, and_self, apply_ite State.pwr, apply_ite State.clk, apply_ite State.clay, apply_ite State.mems, apply_ite State.pending] <;> (repeat' split) <;> simp [*, apply_ite State.pwr, apply_ite State.clk, apply_ite State.clay, apply_ite State.mems, apply_ite State.pending]

@[simp] theorem Io.embedBag_frame (x0 x1) : (Io.embedBag x0 x1).2.s.pwr = x1.s.pwr ∧ (Io.embedBag x0 x1).2.s.clk = x1.s.clk ∧ (Io.embedBag x0 x1).2.s.clay = x1.s.clay ∧ (Io.embedBag x0 x1).2.s.pending = x1.s.pending := by
  unfold Io.embedBag
  split
  · simp
  · exact ⟨Io.ranges3_pwr _ _ _ (by
      intro e3 e4 e5 i
      have h : (if (i.span e5 5 (x0.w 5).toNat (4 * x0.indexCount)).live then (i.span e5 5 (x0.w 5).toNat (4 * x0.indexCount)).load e5 5 (x0.w 5).toNat (4 * x0.indexCount) else ([], i.span e5 5 (x0.w 5).toNat (4 * x0.indexCount))).2.s.pwr = i.s.pwr := by split <;> simp
      (try dsimp only)
      generalize (if (i.span e5 5 (x0.w 5).toNat (4 * x0.indexCount)).live then (i.span e5 5 (x0.w 5).toNat (4 * x0.indexCount)).load e5 5 (x0.w 5).toNat (4 * x0.indexCount) else ([], i.span e5 5 (x0.w 5).toNat (4 * x0.indexCount))) = p at h ⊢
      split
      · exact h
      · rw [← h]
        apply Io.units_pwr
        intro t i
        (try dsimp only)
        (repeat' split) <;> simp), Io.ranges3_clk _ _ _ (by
      intro e3 e4 e5 i
      have h : (if (i.span e5 5 (x0.w 5).toNat (4 * x0.indexCount)).live then (i.span e5 5 (x0.w 5).toNat (4 * x0.indexCount)).load e5 5 (x0.w 5).toNat (4 * x0.indexCount) else ([], i.span e5 5 (x0.w 5).toNat (4 * x0.indexCount))).2.s.clk = i.s.clk := by split <;> simp
      (try dsimp only)
      generalize (if (i.span e5 5 (x0.w 5).toNat (4 * x0.indexCount)).live then (i.span e5 5 (x0.w 5).toNat (4 * x0.indexCount)).load e5 5 (x0.w 5).toNat (4 * x0.indexCount) else ([], i.span e5 5 (x0.w 5).toNat (4 * x0.indexCount))) = p at h ⊢
      split
      · exact h
      · rw [← h]
        apply Io.units_clk
        intro t i
        (try dsimp only)
        (repeat' split) <;> simp), Io.ranges3_clay _ _ _ (by
      intro e3 e4 e5 i
      have h : (if (i.span e5 5 (x0.w 5).toNat (4 * x0.indexCount)).live then (i.span e5 5 (x0.w 5).toNat (4 * x0.indexCount)).load e5 5 (x0.w 5).toNat (4 * x0.indexCount) else ([], i.span e5 5 (x0.w 5).toNat (4 * x0.indexCount))).2.s.clay = i.s.clay := by split <;> simp
      (try dsimp only)
      generalize (if (i.span e5 5 (x0.w 5).toNat (4 * x0.indexCount)).live then (i.span e5 5 (x0.w 5).toNat (4 * x0.indexCount)).load e5 5 (x0.w 5).toNat (4 * x0.indexCount) else ([], i.span e5 5 (x0.w 5).toNat (4 * x0.indexCount))) = p at h ⊢
      split
      · exact h
      · rw [← h]
        apply Io.units_clay
        intro t i
        (try dsimp only)
        (repeat' split) <;> simp), Io.ranges3_pending _ _ _ (by
      intro e3 e4 e5 i
      have h : (if (i.span e5 5 (x0.w 5).toNat (4 * x0.indexCount)).live then (i.span e5 5 (x0.w 5).toNat (4 * x0.indexCount)).load e5 5 (x0.w 5).toNat (4 * x0.indexCount) else ([], i.span e5 5 (x0.w 5).toNat (4 * x0.indexCount))).2.s.pending = i.s.pending := by split <;> simp
      (try dsimp only)
      generalize (if (i.span e5 5 (x0.w 5).toNat (4 * x0.indexCount)).live then (i.span e5 5 (x0.w 5).toNat (4 * x0.indexCount)).load e5 5 (x0.w 5).toNat (4 * x0.indexCount) else ([], i.span e5 5 (x0.w 5).toNat (4 * x0.indexCount))) = p at h ⊢
      split
      · exact h
      · rw [← h]
        apply Io.units_pending
        intro t i
        (try dsimp only)
        (repeat' split) <;> simp)⟩

@[simp] theorem Io.record_frame (x0 x1 x2 x3 x4) : (Io.record x0 x1 x2 x3 x4).s.pwr = x4.s.pwr ∧ (Io.record x0 x1 x2 x3 x4).s.clk = x4.s.clk ∧ (Io.record x0 x1 x2 x3 x4).s.clay = x4.s.clay ∧ (Io.record x0 x1 x2 x3 x4).s.mems = x4.s.mems ∧ (Io.record x0 x1 x2 x3 x4).s.pending = x4.s.pending := by
  unfold Io.record; (try dsimp only); (repeat' split) <;> simp only [Io.span_frame, Io.load_frame, Io.fail_frame, Io.send_frame, Io.store_frame, foldl_pwr, foldl_clk, foldl_clay, foldl_mems, foldl_pending, and_self]

@[simp] theorem Io.atomicBatch_frame (x0 x1) : (Io.atomicBatch x0 x1).2.s.pwr = x1.s.pwr ∧ (Io.atomicBatch x0 x1).2.s.clk = x1.s.clk ∧ (Io.atomicBatch x0 x1).2.s.clay = x1.s.clay ∧ (Io.atomicBatch x0 x1).2.s.pending = x1.s.pending := by
  unfold Io.atomicBatch; (try dsimp only); (repeat' split) <;> simp_all [apply_ite State.pwr, apply_ite State.clk, apply_ite State.clay, apply_ite State.pending, apply_ite Io.s, apply_ite (@Prod.snd _ _)]

@[simp] theorem State.withObj_pwr (x0 x1 x2 x3 x4) (h4 : ∀ y0 y1 y2 y3, (x4 y0 y1 y2 y3).pwr = y3.pwr) : (State.withObj x0 x1 x2 x3 x4).pwr = x0.pwr := by
  unfold State.withObj; (try dsimp only); (repeat' split) <;> simp [*]

@[simp] theorem State.withObj_clk (x0 x1 x2 x3 x4) (h4 : ∀ y0 y1 y2 y3, (x4 y0 y1 y2 y3).clk = y3.clk) : (State.withObj x0 x1 x2 x3 x4).clk = x0.clk := by
  unfold State.withObj; (try dsimp only); (repeat' split) <;> simp [*]

@[simp] theorem State.withObj_clay (x0 x1 x2 x3 x4) (h4 : ∀ y0 y1 y2 y3, (x4 y0 y1 y2 y3).clay = y3.clay) : (State.withObj x0 x1 x2 x3 x4).clay = x0.clay := by
  unfold State.withObj; (try dsimp only); (repeat' split) <;> simp [*]

@[simp] theorem State.withObj_pending (x0 x1 x2 x3 x4) (h4 : ∀ y0 y1 y2 y3, (x4 y0 y1 y2 y3).pending = y3.pending) : (State.withObj x0 x1 x2 x3 x4).pending = x0.pending := by
  unfold State.withObj; (try dsimp only); (repeat' split) <;> simp [*]

@[simp] theorem State.finishObj_frame (x0 x1 x2 x3) : (State.finishObj x0 x1 x2 x3).pwr = x0.pwr ∧ (State.finishObj x0 x1 x2 x3).clk = x0.clk ∧ (State.finishObj x0 x1 x2 x3).clay = x0.clay ∧ (State.finishObj x0 x1 x2 x3).mems = x0.mems ∧ (State.finishObj x0 x1 x2 x3).pending = x0.pending := by
  unfold State.finishObj; (try dsimp only); (repeat' split) <;> simp only [State.finish_frame, foldl_pwr, foldl_clk, foldl_clay, foldl_mems, foldl_pending, and_self]

@[simp] theorem State.syncWait_frame (x0 x1 x2 x3) : (State.syncWait x0 x1 x2 x3).pwr = x0.pwr ∧ (State.syncWait x0 x1 x2 x3).clk = x0.clk ∧ (State.syncWait x0 x1 x2 x3).clay = x0.clay ∧ (State.syncWait x0 x1 x2 x3).pending = x0.pending := by
  unfold State.syncWait
  exact ⟨State.withObj_pwr _ _ _ _ _ (by intros; (repeat' split) <;> simp), State.withObj_clk _ _ _ _ _ (by intros; (repeat' split) <;> simp), State.withObj_clay _ _ _ _ _ (by intros; (repeat' split) <;> simp), State.withObj_pending _ _ _ _ _ (by intros; (repeat' split) <;> simp)⟩

@[simp] theorem State.wakeHere_frame (x0 x1) : (State.wakeHere x0 x1).pwr = x0.pwr ∧ (State.wakeHere x0 x1).clk = x0.clk ∧ (State.wakeHere x0 x1).clay = x0.clay ∧ (State.wakeHere x0 x1).mems = x0.mems ∧ (State.wakeHere x0 x1).pending = x0.pending := by
  unfold State.wakeHere; (try dsimp only); (repeat' split) <;> simp only [State.finishObj_frame, foldl_pwr, foldl_clk, foldl_clay, foldl_mems, foldl_pending, and_self]

@[simp] theorem State.syncPoll_frame (x0 x1 x2 x3) : (State.syncPoll x0 x1 x2 x3).pwr = x0.pwr ∧ (State.syncPoll x0 x1 x2 x3).clk = x0.clk ∧ (State.syncPoll x0 x1 x2 x3).clay = x0.clay ∧ (State.syncPoll x0 x1 x2 x3).pending = x0.pending := by
  unfold State.syncPoll
  exact ⟨State.withObj_pwr _ _ _ _ _ (by intros; dsimp only; (repeat' split) <;> simp), State.withObj_clk _ _ _ _ _ (by intros; dsimp only; (repeat' split) <;> simp), State.withObj_clay _ _ _ _ _ (by intros; dsimp only; (repeat' split) <;> simp), State.withObj_pending _ _ _ _ _ (by intros; dsimp only; (repeat' split) <;> simp)⟩

@[simp] theorem State.waitTimeout_frame (x0 x1 x2) : (State.waitTimeout x0 x1 x2).pwr = x0.pwr ∧ (State.waitTimeout x0 x1 x2).clk = x0.clk ∧ (State.waitTimeout x0 x1 x2).clay = x0.clay ∧ (State.waitTimeout x0 x1 x2).mems = x0.mems ∧ (State.waitTimeout x0 x1 x2).pending = x0.pending := by
  unfold State.waitTimeout; (try dsimp only); (repeat' split) <;> simp only [State.dropWatch_frame, State.finish_frame, foldl_pwr, foldl_clk, foldl_clay, foldl_mems, foldl_pending, and_self]

@[simp] theorem State.takeArm_frame (x0 x1 x2 x3 x4 x5) : (State.takeArm x0 x1 x2 x3 x4 x5).pwr = x0.pwr ∧ (State.takeArm x0 x1 x2 x3 x4 x5).clk = x0.clk ∧ (State.takeArm x0 x1 x2 x3 x4 x5).clay = x0.clay ∧ (State.takeArm x0 x1 x2 x3 x4 x5).mems = x0.mems ∧ (State.takeArm x0 x1 x2 x3 x4 x5).pending = x0.pending := by
  unfold State.takeArm; (try dsimp only); (repeat' split) <;> simp only [State.wr_frame, State.setF_frame, State.finish_frame, foldl_pwr, foldl_clk, foldl_clay, foldl_mems, foldl_pending, and_self]

@[simp] theorem State.armFresh_frame (x0 x1 x2) : (State.armFresh x0 x1 x2).2.pwr = x0.pwr ∧ (State.armFresh x0 x1 x2).2.clk = x0.clk ∧ (State.armFresh x0 x1 x2).2.clay = x0.clay ∧ (State.armFresh x0 x1 x2).2.pending = x0.pending := by
  unfold State.armFresh; (try dsimp only); (repeat' split) <;> simp [*]

@[simp] theorem State.armSignal_frame (x0 x1 x2 x3) : (State.armSignal x0 x1 x2 x3).pwr = x0.pwr ∧ (State.armSignal x0 x1 x2 x3).clk = x0.clk ∧ (State.armSignal x0 x1 x2 x3).clay = x0.clay ∧ (State.armSignal x0 x1 x2 x3).pending = x0.pending := by
  unfold State.armSignal; (try dsimp only); (repeat' split) <;> simp [*]

@[simp] theorem State.syncSignal_frame (x0 x1 x2) : (State.syncSignal x0 x1 x2).pwr = x0.pwr ∧ (State.syncSignal x0 x1 x2).clk = x0.clk ∧ (State.syncSignal x0 x1 x2).clay = x0.clay ∧ (State.syncSignal x0 x1 x2).pending = x0.pending := by
  unfold State.syncSignal
  exact ⟨State.withObj_pwr _ _ _ _ _ (by
    intro d e dpa s
    dsimp only
    split
    · rfl
    split
    · have h := State.armFresh_frame s x1 x2
      rcases ht : s.armFresh x1 x2 with ⟨o, t⟩
      rw [ht] at h
      rcases o with _ | d' <;> simp_all
    · (repeat' split) <;> simp), State.withObj_clk _ _ _ _ _ (by
    intro d e dpa s
    dsimp only
    split
    · rfl
    split
    · have h := State.armFresh_frame s x1 x2
      rcases ht : s.armFresh x1 x2 with ⟨o, t⟩
      rw [ht] at h
      rcases o with _ | d' <;> simp_all
    · (repeat' split) <;> simp), State.withObj_clay _ _ _ _ _ (by
    intro d e dpa s
    dsimp only
    split
    · rfl
    split
    · have h := State.armFresh_frame s x1 x2
      rcases ht : s.armFresh x1 x2 with ⟨o, t⟩
      rw [ht] at h
      rcases o with _ | d' <;> simp_all
    · (repeat' split) <;> simp), State.withObj_pending _ _ _ _ _ (by
    intro d e dpa s
    dsimp only
    split
    · rfl
    split
    · have h := State.armFresh_frame s x1 x2
      rcases ht : s.armFresh x1 x2 with ⟨o, t⟩
      rw [ht] at h
      rcases o with _ | d' <;> simp_all
    · (repeat' split) <;> simp)⟩

@[simp] theorem State.armTaken_frame (x0) : (State.armTaken x0).pwr = x0.pwr ∧ (State.armTaken x0).clk = x0.clk ∧ (State.armTaken x0).clay = x0.clay ∧ (State.armTaken x0).pending = x0.pending := by
  unfold State.armTaken
  split
  · simp
  · split
    · simp
    · rename_i q idx rest _ _
      have h := State.armFresh_frame { x0 with qmg := { x0.qmg with armWait := rest } } q.toNat idx
      generalize State.armFresh _ _ _ = p at h ⊢
      rcases p with ⟨_ | d', t⟩ <;> simp_all

@[simp] theorem State.descFence_frame (x0 x1 x2) : (State.descFence x0 x1 x2).pwr = x0.pwr ∧ (State.descFence x0 x1 x2).clk = x0.clk ∧ (State.descFence x0 x1 x2).clay = x0.clay ∧ (State.descFence x0 x1 x2).mems = x0.mems ∧ (State.descFence x0 x1 x2).pending = x0.pending := by
  unfold State.descFence; (try dsimp only); (repeat' split) <;> simp only [State.finish_frame, foldl_pwr, foldl_clk, foldl_clay, foldl_mems, foldl_pending, and_self]

@[simp] theorem State.pageBoundary_frame (x0 x1 x2 x3) : (State.pageBoundary x0 x1 x2 x3).pwr = x0.pwr ∧ (State.pageBoundary x0 x1 x2 x3).clk = x0.clk ∧ (State.pageBoundary x0 x1 x2 x3).clay = x0.clay ∧ (State.pageBoundary x0 x1 x2 x3).pending = x0.pending := by
  unfold State.pageBoundary; (try dsimp only); (repeat' split) <;> simp only [State.parkMems_frame, Io.settle_frame, State.io_frame, foldl_pwr, foldl_clk, foldl_clay, foldl_pending, and_self]

@[simp] theorem State.descComplete_frame (x0 x1 x2) : (State.descComplete x0 x1 x2).pwr = x0.pwr ∧ (State.descComplete x0 x1 x2).clk = x0.clk ∧ (State.descComplete x0 x1 x2).clay = x0.clay ∧ (State.descComplete x0 x1 x2).pending = x0.pending := by
  unfold State.descComplete; (try dsimp only); (repeat' split) <;> simp [*]

@[simp] theorem State.nopDone_frame (x0 x1) : (State.nopDone x0 x1).pwr = x0.pwr ∧ (State.nopDone x0 x1).clk = x0.clk ∧ (State.nopDone x0 x1).clay = x0.clay ∧ (State.nopDone x0 x1).mems = x0.mems ∧ (State.nopDone x0 x1).pending = x0.pending := by
  unfold State.nopDone; (try dsimp only); (repeat' split) <;> simp only [State.finish_frame, foldl_pwr, foldl_clk, foldl_clay, foldl_mems, foldl_pending, and_self]

end Sys2Proof.Machine
end

