-- ==== Sys2Proof/Laws/FrameBlock.lean ====
section
/-!
SUPPORT. Frames of the rest of the block and every command: which of the pins, the clock, clay, the memories and the queue each function leaves as they were.
A lemma `f_frame` names those that `f` never changes; a component that it does not name may change.
-/

set_option linter.all false

namespace Sys2Proof.Machine

@[simp] theorem State.dropBg_frame (x0 x1) : (State.dropBg x0 x1).pwr = x0.pwr ∧ (State.dropBg x0 x1).clk = x0.clk ∧ (State.dropBg x0 x1).clay = x0.clay ∧ (State.dropBg x0 x1).mems = x0.mems ∧ (State.dropBg x0 x1).pending = x0.pending := by
  unfold State.dropBg; (try dsimp only); (repeat' split) <;> simp only [foldl_pwr, foldl_clk, foldl_clay, foldl_mems, foldl_pending, and_self]

@[simp] theorem State.addBg_frame (x0 x1 x2) : (State.addBg x0 x1 x2).pwr = x0.pwr ∧ (State.addBg x0 x1 x2).clk = x0.clk ∧ (State.addBg x0 x1 x2).clay = x0.clay ∧ (State.addBg x0 x1 x2).mems = x0.mems ∧ (State.addBg x0 x1 x2).pending = x0.pending := by
  unfold State.addBg; (try dsimp only); (repeat' split) <;> simp only [foldl_pwr, foldl_clk, foldl_clay, foldl_mems, foldl_pending, and_self]

@[simp] theorem State.recall_frame (x0 x1 x2 x3) : (State.recall x0 x1 x2 x3).pwr = x0.pwr ∧ (State.recall x0 x1 x2 x3).clk = x0.clk ∧ (State.recall x0 x1 x2 x3).clay = x0.clay ∧ (State.recall x0 x1 x2 x3).pending = x0.pending := by
  induction x3 generalizing x0 x1 <;> simp only [State.recall, *, and_self, apply_ite State.pwr, apply_ite State.clk, apply_ite State.clay, apply_ite State.pending] <;> (repeat' split) <;> simp [*, apply_ite State.pwr, apply_ite State.clk, apply_ite State.clay, apply_ite State.pending]

@[simp] theorem State.breakMirror_frame (x0 x1) : (State.breakMirror x0 x1).pwr = x0.pwr ∧ (State.breakMirror x0 x1).clk = x0.clk ∧ (State.breakMirror x0 x1).clay = x0.clay ∧ (State.breakMirror x0 x1).pending = x0.pending := by
  unfold State.breakMirror; (try dsimp only); (repeat' split) <;> simp [*]

@[simp] theorem State.mackArrive_frame (x0 x1) : (State.mackArrive x0 x1).pwr = x0.pwr ∧ (State.mackArrive x0 x1).clk = x0.clk ∧ (State.mackArrive x0 x1).clay = x0.clay ∧ (State.mackArrive x0 x1).pending = x0.pending := by
  unfold State.mackArrive; (try dsimp only); (repeat' split) <;> simp only [State.sendCpl_frame, State.keep_frame, State.breakMirror_frame, foldl_pwr, foldl_clk, foldl_clay, foldl_pending, and_self]

@[simp] theorem State.leaveCopies_frame (x0 x1) : (State.leaveCopies x0 x1).pwr = x0.pwr ∧ (State.leaveCopies x0 x1).clk = x0.clk ∧ (State.leaveCopies x0 x1).clay = x0.clay ∧ (State.leaveCopies x0 x1).mems = x0.mems ∧ (State.leaveCopies x0 x1).pending = x0.pending := by
  unfold State.leaveCopies; (try dsimp only); (repeat' split) <;> simp [*]

@[simp] theorem State.dropStep_frame (x0 x1) : (State.dropStep x0 x1).pwr = x0.pwr ∧ (State.dropStep x0 x1).clk = x0.clk ∧ (State.dropStep x0 x1).clay = x0.clay ∧ (State.dropStep x0 x1).pending = x0.pending := by
  unfold State.dropStep; (try dsimp only); (repeat' split) <;> simp only [State.recall_frame, foldl_pwr, foldl_clk, foldl_clay, foldl_pending, and_self]

@[simp] theorem State.startReclaim_frame (x0 x1) : (State.startReclaim x0 x1).pwr = x0.pwr ∧ (State.startReclaim x0 x1).clk = x0.clk ∧ (State.startReclaim x0 x1).clay = x0.clay ∧ (State.startReclaim x0 x1).pending = x0.pending := by
  unfold State.startReclaim; (try dsimp only); (repeat' split) <;> simp only [State.dropStep_frame, State.addBg_frame, foldl_pwr, foldl_clk, foldl_clay, foldl_pending, and_self]

@[simp] theorem State.lapse_frame (x0 x1) : (State.lapse x0 x1).pwr = x0.pwr ∧ (State.lapse x0 x1).clk = x0.clk ∧ (State.lapse x0 x1).clay = x0.clay ∧ (State.lapse x0 x1).pending = x0.pending := by
  unfold State.lapse; (try dsimp only); (repeat' split) <;> simp only [State.post_frame, State.setExtState_frame, State.startReclaim_frame, State.leaveCopies_frame, State.dropBg_frame, foldl_pwr, foldl_clk, foldl_clay, foldl_pending, and_self]

@[simp] theorem State.leaseLapse_frame (x0 x1) : (State.leaseLapse x0 x1).pwr = x0.pwr ∧ (State.leaseLapse x0 x1).clk = x0.clk ∧ (State.leaseLapse x0 x1).clay = x0.clay ∧ (State.leaseLapse x0 x1).pending = x0.pending := by
  unfold State.leaseLapse; (try dsimp only); (repeat' split) <;> simp only [State.lapse_frame, foldl_pwr, foldl_clk, foldl_clay, foldl_pending, and_self]

@[simp] theorem State.revoke_frame (x0 x1 x2) : (State.revoke x0 x1 x2).pwr = x0.pwr ∧ (State.revoke x0 x1 x2).clk = x0.clk ∧ (State.revoke x0 x1 x2).clay = x0.clay ∧ (State.revoke x0 x1 x2).pending = x0.pending := by
  unfold State.revoke; (try dsimp only); (repeat' split) <;> simp only [State.setExtAdmit_frame, State.recall_frame, State.addBg_frame, State.leaveCopies_frame, State.setExtState_frame, foldl_pwr, foldl_clk, foldl_clay, foldl_pending, and_self]

@[simp] theorem State.freeExt_frame (x0 x1) : (State.freeExt x0 x1).pwr = x0.pwr ∧ (State.freeExt x0 x1).clk = x0.clk ∧ (State.freeExt x0 x1).clay = x0.clay ∧ (State.freeExt x0 x1).pending = x0.pending := by
  unfold State.freeExt; (try dsimp only); (repeat' split) <;> simp [*]

@[simp] theorem State.revokeDone_frame (x0 x1) : (State.revokeDone x0 x1).pwr = x0.pwr ∧ (State.revokeDone x0 x1).clk = x0.clk ∧ (State.revokeDone x0 x1).clay = x0.clay ∧ (State.revokeDone x0 x1).pending = x0.pending := by
  unfold State.revokeDone; (try dsimp only); (repeat' split) <;> simp only [State.recall_frame, State.post_frame, State.dropBg_frame, State.freeExt_frame, State.setExtState_frame, foldl_pwr, foldl_clk, foldl_clay, foldl_pending, and_self]

@[simp] theorem State.reclaimDone_frame (x0 x1) : (State.reclaimDone x0 x1).pwr = x0.pwr ∧ (State.reclaimDone x0 x1).clk = x0.clk ∧ (State.reclaimDone x0 x1).clay = x0.clay ∧ (State.reclaimDone x0 x1).pending = x0.pending := by
  unfold State.reclaimDone; (try dsimp only); (repeat' split) <;> simp only [State.startReclaim_frame, State.dropStep_frame, State.recall_frame, State.freeExt_frame, foldl_pwr, foldl_clk, foldl_clay, foldl_pending, and_self]

@[simp] theorem State.rotationDone_frame (x0 x1) : (State.rotationDone x0 x1).pwr = x0.pwr ∧ (State.rotationDone x0 x1).clk = x0.clk ∧ (State.rotationDone x0 x1).clay = x0.clay ∧ (State.rotationDone x0 x1).pending = x0.pending := by
  unfold State.rotationDone; (try dsimp only); (repeat' split) <;> simp only [State.setExtF_frame, State.post_frame, State.dropBg_frame, foldl_pwr, foldl_clk, foldl_clay, foldl_pending, and_self]

@[simp] theorem State.rotate_frame (x0 x1) : (State.rotate x0 x1).pwr = x0.pwr ∧ (State.rotate x0 x1).clk = x0.clk ∧ (State.rotate x0 x1).clay = x0.clay ∧ (State.rotate x0 x1).pending = x0.pending := by
  unfold State.rotate; (try dsimp only); (repeat' split) <;> simp [*]

@[simp] theorem State.rekeyGranule_frame (x0 x1 x2 x3) : (State.rekeyGranule x0 x1 x2 x3).pwr = x0.pwr ∧ (State.rekeyGranule x0 x1 x2 x3).clk = x0.clk ∧ (State.rekeyGranule x0 x1 x2 x3).clay = x0.clay ∧ (State.rekeyGranule x0 x1 x2 x3).pending = x0.pending := by
  unfold State.rekeyGranule; (try dsimp only); (repeat' split) <;> simp only [State.granule_frame, State.putGranule_frame, foldl_pwr, foldl_clk, foldl_clay, foldl_pending, and_self]

@[simp] theorem State.badRead_frame (x0 x1 x2) : (State.badRead x0 x1 x2).pwr = x0.pwr ∧ (State.badRead x0 x1 x2).clk = x0.clk ∧ (State.badRead x0 x1 x2).clay = x0.clay ∧ (State.badRead x0 x1 x2).pending = x0.pending := by
  unfold State.badRead; (try dsimp only); (repeat' split) <;> simp only [State.logLoss_frame, State.partnerRead_frame, foldl_pwr, foldl_clk, foldl_clay, foldl_pending, and_self]

@[simp] theorem State.workReads_frame (x0 x1 x2) : (State.workReads x0 x1 x2).2.2.pwr = x0.pwr ∧ (State.workReads x0 x1 x2).2.2.clk = x0.clk ∧ (State.workReads x0 x1 x2).2.2.clay = x0.clay ∧ (State.workReads x0 x1 x2).2.2.pending = x0.pending := by
  unfold State.workReads; (try dsimp only); (repeat' split) <;> simp only [State.countUes_frame, State.countCes_frame, foldl_pwr, foldl_clk, foldl_clay, foldl_pending, and_self]

@[simp] theorem State.rotateStep_frame (x0 x1 x2) : (State.rotateStep x0 x1 x2).pwr = x0.pwr ∧ (State.rotateStep x0 x1 x2).clk = x0.clk ∧ (State.rotateStep x0 x1 x2).clay = x0.clay ∧ (State.rotateStep x0 x1 x2).pending = x0.pending := by
  unfold State.rotateStep; (try dsimp only); (repeat' split) <;> simp [*]

@[simp] theorem State.copyLine_frame (x0 x1 x2 x3) : (State.copyLine x0 x1 x2 x3).pwr = x0.pwr ∧ (State.copyLine x0 x1 x2 x3).clk = x0.clk ∧ (State.copyLine x0 x1 x2 x3).clay = x0.clay ∧ (State.copyLine x0 x1 x2 x3).pending = x0.pending := by
  unfold State.copyLine; (try dsimp only); (repeat' split) <;> simp [*]

@[simp] theorem State.repairStep_frame (x0 x1 x2 x3) : (State.repairStep x0 x1 x2 x3).pwr = x0.pwr ∧ (State.repairStep x0 x1 x2 x3).clk = x0.clk ∧ (State.repairStep x0 x1 x2 x3).clay = x0.clay ∧ (State.repairStep x0 x1 x2 x3).pending = x0.pending := by
  unfold State.repairStep; (try dsimp only); (repeat' split) <;> simp [*]

@[simp] theorem State.repairStart_frame (x0 x1 x2) : (State.repairStart x0 x1 x2).pwr = x0.pwr ∧ (State.repairStart x0 x1 x2).clk = x0.clk ∧ (State.repairStart x0 x1 x2).clay = x0.clay ∧ (State.repairStart x0 x1 x2).pending = x0.pending := by
  unfold State.repairStart; (try dsimp only); (repeat' split) <;> simp only [State.setF_frame, State.addBg_frame, State.setExtF_frame, foldl_pwr, foldl_clk, foldl_clay, foldl_pending, and_self]

@[simp] theorem State.scrubBegin_frame (x0) : (State.scrubBegin x0).pwr = x0.pwr ∧ (State.scrubBegin x0).clk = x0.clk ∧ (State.scrubBegin x0).clay = x0.clay ∧ (State.scrubBegin x0).mems = x0.mems ∧ (State.scrubBegin x0).pending = x0.pending := by
  unfold State.scrubBegin; (try dsimp only); (repeat' split) <;> simp only [State.emit_frame, foldl_pwr, foldl_clk, foldl_clay, foldl_mems, foldl_pending, and_self]

@[simp] theorem State.scrubStep_frame (x0 x1) : (State.scrubStep x0 x1).pwr = x0.pwr ∧ (State.scrubStep x0 x1).clk = x0.clk ∧ (State.scrubStep x0 x1).clay = x0.clay ∧ (State.scrubStep x0 x1).pending = x0.pending := by
  unfold State.scrubStep; (try dsimp only); (repeat' split) <;> simp [*]

@[simp] theorem State.homeSlot_frame (x0 x1) : (State.homeSlot x0 x1).pwr = x0.pwr ∧ (State.homeSlot x0 x1).clk = x0.clk ∧ (State.homeSlot x0 x1).clay = x0.clay ∧ (State.homeSlot x0 x1).pending = x0.pending := by
  unfold State.homeSlot; (try dsimp only); (repeat' split) <;> simp only [State.scrubStep_frame, State.rotateStep_frame, State.repairStep_frame, foldl_pwr, foldl_clk, foldl_clay, foldl_pending, and_self]

@[simp] theorem State.dropLines_frame (x0 x1 x2 x3) : (State.dropLines x0 x1 x2 x3).pwr = x0.pwr ∧ (State.dropLines x0 x1 x2 x3).clk = x0.clk ∧ (State.dropLines x0 x1 x2 x3).clay = x0.clay ∧ (State.dropLines x0 x1 x2 x3).pending = x0.pending := by
  induction x3 generalizing x0 x1 <;> simp only [State.dropLines, *, and_self, apply_ite State.pwr, apply_ite State.clk, apply_ite State.clay, apply_ite State.pending] <;> (repeat' split) <;> simp [*, apply_ite State.pwr, apply_ite State.clk, apply_ite State.clay, apply_ite State.pending]

@[simp] theorem State.sendOrder_frame (x0 x1 x2) : (State.sendOrder x0 x1 x2).pwr = x0.pwr ∧ (State.sendOrder x0 x1 x2).clk = x0.clk ∧ (State.sendOrder x0 x1 x2).clay = x0.clay ∧ (State.sendOrder x0 x1 x2).mems = x0.mems ∧ (State.sendOrder x0 x1 x2).pending = x0.pending := by
  unfold State.sendOrder; (try dsimp only); (repeat' split) <;> simp [*]

@[simp] theorem State.forwardOrder_frame (x0 x1) : (State.forwardOrder x0 x1).pwr = x0.pwr ∧ (State.forwardOrder x0 x1).clk = x0.clk ∧ (State.forwardOrder x0 x1).clay = x0.clay ∧ (State.forwardOrder x0 x1).mems = x0.mems ∧ (State.forwardOrder x0 x1).pending = x0.pending := by
  unfold State.forwardOrder; (try dsimp only); (repeat' split) <;> simp [*]

@[simp] theorem State.ordResult_frame (x0 x1 x2) : (State.ordResult x0 x1 x2).pwr = x0.pwr ∧ (State.ordResult x0 x1 x2).clk = x0.clk ∧ (State.ordResult x0 x1 x2).clay = x0.clay ∧ (State.ordResult x0 x1 x2).mems = x0.mems ∧ (State.ordResult x0 x1 x2).pending = x0.pending := by
  unfold State.ordResult; (try dsimp only); (repeat' split) <;> simp only [State.setF_frame, foldl_pwr, foldl_clk, foldl_clay, foldl_mems, foldl_pending, and_self]

@[simp] theorem State.refuseOrder_frame (x0 x1 x2 x3) : (State.refuseOrder x0 x1 x2 x3).pwr = x0.pwr ∧ (State.refuseOrder x0 x1 x2 x3).clk = x0.clk ∧ (State.refuseOrder x0 x1 x2 x3).clay = x0.clay ∧ (State.refuseOrder x0 x1 x2 x3).pending = x0.pending := by
  unfold State.refuseOrder; (try dsimp only); (repeat' split) <;> simp only [State.post_frame, State.ordResult_frame, foldl_pwr, foldl_clk, foldl_clay, foldl_pending, and_self]

@[simp] theorem State.setHeld_frame (x0 x1) : (State.setHeld x0 x1).pwr = x0.pwr ∧ (State.setHeld x0 x1).clk = x0.clk ∧ (State.setHeld x0 x1).clay = x0.clay ∧ (State.setHeld x0 x1).mems = x0.mems ∧ (State.setHeld x0 x1).pending = x0.pending := by
  unfold State.setHeld; (try dsimp only); (repeat' split) <;> simp only [State.setF_frame, foldl_pwr, foldl_clk, foldl_clay, foldl_mems, foldl_pending, and_self]

@[simp] theorem State.takeOrder_frame (x0 x1 x2) : (State.takeOrder x0 x1 x2).pwr = x0.pwr ∧ (State.takeOrder x0 x1 x2).clk = x0.clk ∧ (State.takeOrder x0 x1 x2).clay = x0.clay ∧ (State.takeOrder x0 x1 x2).pending = x0.pending := by
  unfold State.takeOrder; (try dsimp only); (repeat' split) <;> simp only [State.refuseOrder_frame, foldl_pwr, foldl_clk, foldl_clay, foldl_pending, and_self]

@[simp] theorem State.orderSubmit_frame (x0) : (State.orderSubmit x0).pwr = x0.pwr ∧ (State.orderSubmit x0).clk = x0.clk ∧ (State.orderSubmit x0).clay = x0.clay ∧ (State.orderSubmit x0).pending = x0.pending := by
  unfold State.orderSubmit; (try dsimp only); (repeat' split) <;> simp only [State.post_frame, State.setF_frame, State.takeOrder_frame, State.forwardOrder_frame, foldl_pwr, foldl_clk, foldl_clay, foldl_pending, and_self]

@[simp] theorem State.orderPiece_frame (x0 x1 x2 x3 x4) : (State.orderPiece x0 x1 x2 x3 x4).pwr = x0.pwr ∧ (State.orderPiece x0 x1 x2 x3 x4).clk = x0.clk ∧ (State.orderPiece x0 x1 x2 x3 x4).clay = x0.clay ∧ (State.orderPiece x0 x1 x2 x3 x4).pending = x0.pending := by
  unfold State.orderPiece; (try dsimp only); (repeat' split) <;> simp only [State.takeOrder_frame, State.forwardOrder_frame, foldl_pwr, foldl_clk, foldl_clay, foldl_pending, and_self]

@[simp] theorem State.noteApplied_frame (x0 x1) : (State.noteApplied x0 x1).pwr = x0.pwr ∧ (State.noteApplied x0 x1).clk = x0.clk ∧ (State.noteApplied x0 x1).pending = x0.pending := by
  unfold State.noteApplied; (try dsimp only); (repeat' split) <;> simp only [State.nodeClay_frame, State.setF_frame, State.post_frame, foldl_pwr, foldl_clk, foldl_pending, and_self]

@[simp] theorem State.acceptOrder_frame (x0 x1 x2) : (State.acceptOrder x0 x1 x2).pwr = x0.pwr ∧ (State.acceptOrder x0 x1 x2).clk = x0.clk ∧ (State.acceptOrder x0 x1 x2).pending = x0.pending := by
  unfold State.acceptOrder; (try dsimp only); (repeat' split) <;> simp only [State.refuseOrder_frame, State.ordResult_frame, State.noteApplied_frame, foldl_pwr, foldl_clk, foldl_pending, and_self]

@[simp] theorem State.nextHeld_frame (x0 x1) : (State.nextHeld x0 x1).pwr = x1.pwr ∧ (State.nextHeld x0 x1).clk = x1.clk ∧ (State.nextHeld x0 x1).pending = x1.pending := by
  induction x0 generalizing x1 <;> simp only [State.nextHeld, *, and_self, apply_ite State.pwr, apply_ite State.clk, apply_ite State.pending] <;> (repeat' split) <;> simp [*, apply_ite State.pwr, apply_ite State.clk, apply_ite State.pending]

@[simp] theorem State.moveOn_frame (x0) : (State.moveOn x0).pwr = x0.pwr ∧ (State.moveOn x0).clk = x0.clk ∧ (State.moveOn x0).pending = x0.pending := by
  unfold State.moveOn; (try dsimp only); (repeat' split) <;> simp only [State.nextHeld_frame, foldl_pwr, foldl_clk, foldl_pending, and_self]

@[simp] theorem State.orderVerified_frame (x0) : (State.orderVerified x0).pwr = x0.pwr ∧ (State.orderVerified x0).clk = x0.clk ∧ (State.orderVerified x0).pending = x0.pending := by
  unfold State.orderVerified; (try dsimp only); (repeat' split) <;> simp [*]

@[simp] theorem State.checkGap_frame (x0) : (State.checkGap x0).pwr = x0.pwr ∧ (State.checkGap x0).clk = x0.clk ∧ (State.checkGap x0).clay = x0.clay ∧ (State.checkGap x0).pending = x0.pending := by
  unfold State.checkGap; (try dsimp only); (repeat' split) <;> simp only [State.setF_frame, State.post_frame, foldl_pwr, foldl_clk, foldl_clay, foldl_pending, and_self]

@[simp] theorem State.fillGap_frame (x0 x1 x2) : (State.fillGap x0 x1 x2).pwr = x0.pwr ∧ (State.fillGap x0 x1 x2).clk = x0.clk ∧ (State.fillGap x0 x1 x2).clay = x0.clay ∧ (State.fillGap x0 x1 x2).mems = x0.mems ∧ (State.fillGap x0 x1 x2).pending = x0.pending := by
  unfold State.fillGap; (try dsimp only); (repeat' split) <;> simp [*]

@[simp] theorem State.setExpelled_frame (x0 x1 x2) : (State.setExpelled x0 x1 x2).pwr = x0.pwr ∧ (State.setExpelled x0 x1 x2).clk = x0.clk ∧ (State.setExpelled x0 x1 x2).clay = x0.clay ∧ (State.setExpelled x0 x1 x2).mems = x0.mems ∧ (State.setExpelled x0 x1 x2).pending = x0.pending := by
  unfold State.setExpelled; (try dsimp only); (repeat' split) <;> simp only [State.wr_frame, foldl_pwr, foldl_clk, foldl_clay, foldl_mems, foldl_pending, and_self]

@[simp] theorem State.learnInc_frame (x0 x1 x2) : (State.learnInc x0 x1 x2).pwr = x0.pwr ∧ (State.learnInc x0 x1 x2).clk = x0.clk ∧ (State.learnInc x0 x1 x2).clay = x0.clay ∧ (State.learnInc x0 x1 x2).mems = x0.mems ∧ (State.learnInc x0 x1 x2).pending = x0.pending := by
  unfold State.learnInc; (try dsimp only); (repeat' split) <;> simp only [foldl_pwr, foldl_clk, foldl_clay, foldl_mems, foldl_pending, and_self]

@[simp] theorem State.toProbation_frame (x0 x1) : (State.toProbation x0 x1).pwr = x0.pwr ∧ (State.toProbation x0 x1).clk = x0.clk ∧ (State.toProbation x0 x1).clay = x0.clay ∧ (State.toProbation x0 x1).pending = x0.pending := by
  unfold State.toProbation; (try dsimp only); (repeat' split) <;> simp only [State.requeue_frame, State.setF_frame, State.toState_frame, foldl_pwr, foldl_clk, foldl_clay, foldl_pending, and_self]

@[simp] theorem State.fromProbation_frame (x0 x1) : (State.fromProbation x0 x1).pwr = x0.pwr ∧ (State.fromProbation x0 x1).clk = x0.clk ∧ (State.fromProbation x0 x1).clay = x0.clay ∧ (State.fromProbation x0 x1).mems = x0.mems ∧ (State.fromProbation x0 x1).pending = x0.pending := by
  unfold State.fromProbation; (try dsimp only); (repeat' split) <;> simp only [State.setF_frame, State.toState_frame, foldl_pwr, foldl_clk, foldl_clay, foldl_mems, foldl_pending, and_self]

@[simp] theorem State.expelReq_frame (x0 x1 x2) : (State.expelReq x0 x1 x2).pwr = x0.pwr ∧ (State.expelReq x0 x1 x2).clk = x0.clk ∧ (State.expelReq x0 x1 x2).clay = x0.clay ∧ (State.expelReq x0 x1 x2).pending = x0.pending := by
  unfold State.expelReq; (try dsimp only); (repeat' split) <;> simp only [State.unpace_frame, State.completeEnt_frame, State.setEnt_frame, State.sendReq_frame, State.setPace_frame, State.drawWord_frame, foldl_pwr, foldl_clk, foldl_clay, foldl_pending, and_self]

@[simp] theorem State.moveOwn_frame (x0 x1 x2) : (State.moveOwn x0 x1 x2).pwr = x0.pwr ∧ (State.moveOwn x0 x1 x2).clk = x0.clk ∧ (State.moveOwn x0 x1 x2).clay = x0.clay ∧ (State.moveOwn x0 x1 x2).mems = x0.mems ∧ (State.moveOwn x0 x1 x2).pending = x0.pending := by
  unfold State.moveOwn; (try dsimp only); (repeat' split) <;> simp only [foldl_pwr, foldl_clk, foldl_clay, foldl_mems, foldl_pending, and_self]

@[simp] theorem State.expelOwn_frame (x0 x1 x2) : (State.expelOwn x0 x1 x2).pwr = x0.pwr ∧ (State.expelOwn x0 x1 x2).clk = x0.clk ∧ (State.expelOwn x0 x1 x2).clay = x0.clay ∧ (State.expelOwn x0 x1 x2).pending = x0.pending := by
  unfold State.expelOwn; (try dsimp only); (repeat' split) <;> simp [*]

@[simp] theorem State.resendCopies_frame (x0 x1) : (State.resendCopies x0 x1).pwr = x0.pwr ∧ (State.resendCopies x0 x1).clk = x0.clk ∧ (State.resendCopies x0 x1).clay = x0.clay ∧ (State.resendCopies x0 x1).mems = x0.mems ∧ (State.resendCopies x0 x1).pending = x0.pending := by
  simp [State.resendCopies, apply_ite State.pwr, apply_ite State.clk, apply_ite State.clay, apply_ite State.mems, apply_ite State.pending]

@[simp] theorem State.failover_frame (x0 x1) : (State.failover x0 x1).pwr = x0.pwr ∧ (State.failover x0 x1).clk = x0.clk ∧ (State.failover x0 x1).clay = x0.clay ∧ (State.failover x0 x1).pending = x0.pending := by
  unfold State.failover; (try dsimp only); (repeat' split) <;> simp [*]

@[simp] theorem State.expelOther_frame (x0 x1) : (State.expelOther x0 x1).pwr = x0.pwr ∧ (State.expelOther x0 x1).clk = x0.clk ∧ (State.expelOther x0 x1).clay = x0.clay ∧ (State.expelOther x0 x1).pending = x0.pending := by
  simp [State.expelOther, apply_ite State.pwr, apply_ite State.clk, apply_ite State.clay, apply_ite State.pending]

@[simp] theorem State.loseEnt_frame (x0 x1) : (State.loseEnt x0 x1).pwr = x0.pwr ∧ (State.loseEnt x0 x1).clk = x0.clk ∧ (State.loseEnt x0 x1).clay = x0.clay ∧ (State.loseEnt x0 x1).pending = x0.pending := by
  unfold State.loseEnt; (try dsimp only); (repeat' split) <;> simp only [State.unpace_frame, State.completeEnt_frame, foldl_pwr, foldl_clk, foldl_clay, foldl_pending, and_self]

@[simp] theorem State.expelSelf_frame (x0 x1) : (State.expelSelf x0 x1).pwr = x0.pwr ∧ (State.expelSelf x0 x1).clk = x0.clk ∧ (State.expelSelf x0 x1).clay = x0.clay ∧ (State.expelSelf x0 x1).pending = x0.pending := by
  unfold State.expelSelf; (try dsimp only); (repeat' split) <;> simp [*]

@[simp] theorem State.popTodo_frame (x0) : (State.popTodo x0).pwr = x0.pwr ∧ (State.popTodo x0).clk = x0.clk ∧ (State.popTodo x0).clay = x0.clay ∧ (State.popTodo x0).mems = x0.mems ∧ (State.popTodo x0).pending = x0.pending := by
  unfold State.popTodo; (try dsimp only); (repeat' split) <;> simp only [foldl_pwr, foldl_clk, foldl_clay, foldl_mems, foldl_pending, and_self]

@[simp] theorem State.expel_frame (x0 x1) : (State.expel x0 x1).pwr = x0.pwr ∧ (State.expel x0 x1).clk = x0.clk ∧ (State.expel x0 x1).pending = x0.pending := by
  unfold State.expel; (try dsimp only); (repeat' split) <;> simp only [State.learnInc_frame, State.setExpelled_frame, State.popTodo_frame, State.moveOn_frame, State.expelSelf_frame, State.expelOther_frame, foldl_pwr, foldl_clk, foldl_pending, and_self]

@[simp] theorem State.keysOrder_frame (x0 x1 x2) : (State.keysOrder x0 x1 x2).pwr = x0.pwr ∧ (State.keysOrder x0 x1 x2).clk = x0.clk ∧ (State.keysOrder x0 x1 x2).pending = x0.pending := by
  unfold State.keysOrder; (try dsimp only); (repeat' split) <;> simp [*]

@[simp] theorem State.admitOrder_frame (x0 x1 x2 x3) : (State.admitOrder x0 x1 x2 x3).pwr = x0.pwr ∧ (State.admitOrder x0 x1 x2 x3).clk = x0.clk ∧ (State.admitOrder x0 x1 x2 x3).pending = x0.pending := by
  unfold State.admitOrder; (try dsimp only); (repeat' split) <;> simp only [State.popTodo_frame, foldl_pwr, foldl_clk, foldl_pending, and_self]

@[simp] theorem State.admitEffective_frame (x0 x1) : (State.admitEffective x0 x1).pwr = x0.pwr ∧ (State.admitEffective x0 x1).clk = x0.clk ∧ (State.admitEffective x0 x1).pending = x0.pending := by
  unfold State.admitEffective; (try dsimp only); (repeat' split) <;> simp [*]

@[simp] theorem State.sedJobs_frame (x0) : (State.sedJobs x0).pwr = x0.pwr ∧ (State.sedJobs x0).clk = x0.clk ∧ (State.sedJobs x0).clay = x0.clay ∧ (State.sedJobs x0).mems = x0.mems ∧ (State.sedJobs x0).pending = x0.pending := by
  unfold State.sedJobs; (try dsimp only); (repeat' split) <;> simp [*]

@[simp] theorem State.sedCmdWrite_frame (x0 x1) : (State.sedCmdWrite x0 x1).pwr = x0.pwr ∧ (State.sedCmdWrite x0 x1).clk = x0.clk ∧ (State.sedCmdWrite x0 x1).clay = x0.clay ∧ (State.sedCmdWrite x0 x1).mems = x0.mems ∧ (State.sedCmdWrite x0 x1).pending = x0.pending := by
  unfold State.sedCmdWrite; (try dsimp only); (repeat' split) <;> simp only [foldl_pwr, foldl_clk, foldl_clay, foldl_mems, foldl_pending, and_self]

@[simp] theorem State.sedOut_frame (x0 x1) : (State.sedOut x0 x1).pwr = x1.pwr ∧ (State.sedOut x0 x1).clk = x1.clk ∧ (State.sedOut x0 x1).pending = x1.pending := by
  induction x0 generalizing x1 <;> simp only [State.sedOut, *, and_self, apply_ite State.pwr, apply_ite State.clk, apply_ite State.pending] <;> (repeat' split) <;> simp [*, apply_ite State.pwr, apply_ite State.clk, apply_ite State.pending]

@[simp] theorem State.sedFill_frame (x0 x1) : (State.sedFill x0 x1).pwr = x1.pwr ∧ (State.sedFill x0 x1).clk = x1.clk ∧ (State.sedFill x0 x1).clay = x1.clay ∧ (State.sedFill x0 x1).mems = x1.mems ∧ (State.sedFill x0 x1).pending = x1.pending := by
  induction x0 generalizing x1 <;> simp only [State.sedFill, *, and_self, apply_ite State.pwr, apply_ite State.clk, apply_ite State.clay, apply_ite State.mems, apply_ite State.pending] <;> (repeat' split) <;> simp [*, apply_ite State.pwr, apply_ite State.clk, apply_ite State.clay, apply_ite State.mems, apply_ite State.pending]

@[simp] theorem State.sedTimeout_frame (x0) : (State.sedTimeout x0).pwr = x0.pwr ∧ (State.sedTimeout x0).clk = x0.clk ∧ (State.sedTimeout x0).clay = x0.clay ∧ (State.sedTimeout x0).pending = x0.pending := by
  unfold State.sedTimeout; (try dsimp only); (repeat' split) <;> simp only [State.setF_frame, State.post_frame, foldl_pwr, foldl_clk, foldl_clay, foldl_pending, and_self]

@[simp] theorem State.hbSend_frame (x0 x1) : (State.hbSend x0 x1).pwr = x0.pwr ∧ (State.hbSend x0 x1).clk = x0.clk ∧ (State.hbSend x0 x1).clay = x0.clay ∧ (State.hbSend x0 x1).mems = x0.mems ∧ (State.hbSend x0 x1).pending = x0.pending := by
  unfold State.hbSend; (try dsimp only); (repeat' split) <;> simp only [State.setF_frame, State.ctrl_frame, State.setPt_frame, foldl_pwr, foldl_clk, foldl_clay, foldl_mems, foldl_pending, and_self]

@[simp] theorem State.setDelay_frame (x0 x1 x2) : (State.setDelay x0 x1 x2).pwr = x0.pwr ∧ (State.setDelay x0 x1 x2).clk = x0.clk ∧ (State.setDelay x0 x1 x2).clay = x0.clay ∧ (State.setDelay x0 x1 x2).mems = x0.mems ∧ (State.setDelay x0 x1 x2).pending = x0.pending := by
  unfold State.setDelay; (try dsimp only); (repeat' split) <;> simp only [State.setF_frame, foldl_pwr, foldl_clk, foldl_clay, foldl_mems, foldl_pending, and_self]

@[simp] theorem State.regrid_frame (x0) : (State.regrid x0).pwr = x0.pwr ∧ (State.regrid x0).clay = x0.clay ∧ (State.regrid x0).mems = x0.mems ∧ (State.regrid x0).pending = x0.pending := by
  unfold State.regrid; (try dsimp only); (repeat' split) <;> simp only [foldl_pwr, foldl_clay, foldl_mems, foldl_pending, and_self]

@[simp] theorem State.stepTime_frame (x0 x1) : (State.stepTime x0 x1).pwr = x0.pwr ∧ (State.stepTime x0 x1).clay = x0.clay ∧ (State.stepTime x0 x1).mems = x0.mems ∧ (State.stepTime x0 x1).pending = x0.pending := by
  unfold State.stepTime; (try dsimp only); (repeat' split) <;> simp only [State.regrid_frame, foldl_pwr, foldl_clay, foldl_mems, foldl_pending, and_self]

@[simp] theorem State.noteRoot_frame (x0 x1) : (State.noteRoot x0 x1).pwr = x0.pwr ∧ (State.noteRoot x0 x1).clk = x0.clk ∧ (State.noteRoot x0 x1).clay = x0.clay ∧ (State.noteRoot x0 x1).mems = x0.mems ∧ (State.noteRoot x0 x1).pending = x0.pending := by
  unfold State.noteRoot; (try dsimp only); (repeat' split) <;> simp only [foldl_pwr, foldl_clk, foldl_clay, foldl_mems, foldl_pending, and_self]

@[simp] theorem State.setParent_frame (x0 x1 x2) : (State.setParent x0 x1 x2).pwr = x0.pwr ∧ (State.setParent x0 x1 x2).clk = x0.clk ∧ (State.setParent x0 x1 x2).clay = x0.clay ∧ (State.setParent x0 x1 x2).mems = x0.mems ∧ (State.setParent x0 x1 x2).pending = x0.pending := by
  unfold State.setParent; (try dsimp only); (repeat' split) <;> simp only [State.setF_frame, foldl_pwr, foldl_clk, foldl_clay, foldl_mems, foldl_pending, and_self]

@[simp] theorem State.chooseParent_frame (x0) : (State.chooseParent x0).pwr = x0.pwr ∧ (State.chooseParent x0).clk = x0.clk ∧ (State.chooseParent x0).clay = x0.clay ∧ (State.chooseParent x0).mems = x0.mems ∧ (State.chooseParent x0).pending = x0.pending := by
  unfold State.chooseParent; (try dsimp only); (repeat' split) <;> simp only [State.flushArrivals_frame, State.setParent_frame, foldl_pwr, foldl_clk, foldl_clay, foldl_mems, foldl_pending, and_self]

@[simp] theorem State.yieldRoot_frame (x0) : (State.yieldRoot x0).pwr = x0.pwr ∧ (State.yieldRoot x0).clk = x0.clk ∧ (State.yieldRoot x0).clay = x0.clay ∧ (State.yieldRoot x0).pending = x0.pending := by
  unfold State.yieldRoot; (try dsimp only); (repeat' split) <;> simp only [State.holdover_frame, foldl_pwr, foldl_clk, foldl_clay, foldl_pending, and_self]

@[simp] theorem State.newPlan_frame (x0 x1) : (State.newPlan x0 x1).pwr = x0.pwr ∧ (State.newPlan x0 x1).clk = x0.clk ∧ (State.newPlan x0 x1).clay = x0.clay ∧ (State.newPlan x0 x1).mems = x0.mems ∧ (State.newPlan x0 x1).pending = x0.pending := by
  unfold State.newPlan; (try dsimp only); (repeat' split) <;> simp only [State.drawWord_frame, State.takePlan_frame, foldl_pwr, foldl_clk, foldl_clay, foldl_mems, foldl_pending, and_self]

@[simp] theorem State.adopt_frame (x0 x1) : (State.adopt x0 x1).pwr = x0.pwr ∧ (State.adopt x0 x1).clay = x0.clay ∧ (State.adopt x0 x1).mems = x0.mems ∧ (State.adopt x0 x1).pending = x0.pending := by
  unfold State.adopt; (try dsimp only); (repeat' split) <;> simp only [State.drawWord_frame, State.setF_frame, State.takePlan_frame, State.regrid_frame, foldl_pwr, foldl_clay, foldl_mems, foldl_pending, and_self]

@[simp] theorem State.servo_frame (x0) : (State.servo x0).pwr = x0.pwr ∧ (State.servo x0).clk = x0.clk ∧ (State.servo x0).clay = x0.clay ∧ (State.servo x0).mems = x0.mems ∧ (State.servo x0).pending = x0.pending := by
  unfold State.servo; (try dsimp only); (repeat' split) <;> simp only [State.drawWord_frame, State.setF_frame, foldl_pwr, foldl_clk, foldl_clay, foldl_mems, foldl_pending, and_self]

@[simp] theorem State.converge_frame (x0 x1) : (State.converge x0 x1).pwr = x0.pwr ∧ (State.converge x0 x1).clay = x0.clay ∧ (State.converge x0 x1).pending = x0.pending := by
  unfold State.converge; (try dsimp only); (repeat' split) <;> simp only [State.syncTo_frame, State.setF_frame, State.adopt_frame, foldl_pwr, foldl_clay, foldl_pending, and_self]

@[simp] theorem State.takeOffset_frame (x0 x1 x2) : (State.takeOffset x0 x1 x2).pwr = x0.pwr ∧ (State.takeOffset x0 x1 x2).clay = x0.clay ∧ (State.takeOffset x0 x1 x2).pending = x0.pending := by
  unfold State.takeOffset; (try dsimp only); (repeat' split) <;> simp only [State.setF_frame, State.stepTime_frame, State.servo_frame, State.converge_frame, State.newPlan_frame, foldl_pwr, foldl_clay, foldl_pending, and_self]

@[simp] theorem State.fromParent_frame (x0 x1 x2) : (State.fromParent x0 x1 x2).pwr = x0.pwr ∧ (State.fromParent x0 x1 x2).clay = x0.clay ∧ (State.fromParent x0 x1 x2).pending = x0.pending := by
  unfold State.fromParent; (try dsimp only); (repeat' split) <;> simp only [State.takeOffset_frame, foldl_pwr, foldl_clay, foldl_pending, and_self]

@[simp] theorem State.timePart_frame (x0 x1 x2 x3) : (State.timePart x0 x1 x2 x3).pwr = x0.pwr ∧ (State.timePart x0 x1 x2 x3).clay = x0.clay ∧ (State.timePart x0 x1 x2 x3).pending = x0.pending := by
  unfold State.timePart; (try dsimp only); (repeat' split) <;> simp only [State.noteRoot_frame, State.yieldRoot_frame, State.holdover_frame, State.chooseParent_frame, State.fromParent_frame, foldl_pwr, foldl_clay, foldl_pending, and_self]

@[simp] theorem State.hbPart_frame (x0 x1 x2) : (State.hbPart x0 x1 x2).pwr = x0.pwr ∧ (State.hbPart x0 x1 x2).clk = x0.clk ∧ (State.hbPart x0 x1 x2).clay = x0.clay ∧ (State.hbPart x0 x1 x2).pending = x0.pending := by
  unfold State.hbPart; (try dsimp only); (repeat' split) <;> simp [*]

@[simp] theorem State.hbArrive_frame (x0 x1 x2 x3) : (State.hbArrive x0 x1 x2 x3).pwr = x0.pwr ∧ (State.hbArrive x0 x1 x2 x3).clay = x0.clay ∧ (State.hbArrive x0 x1 x2 x3).pending = x0.pending := by
  unfold State.hbArrive; (try dsimp only); (repeat' split) <;> simp [*]

@[simp] theorem State.fwErr_frame (x0 x1) : (State.fwErr x0 x1).pwr = x0.pwr ∧ (State.fwErr x0 x1).clk = x0.clk ∧ (State.fwErr x0 x1).clay = x0.clay ∧ (State.fwErr x0 x1).mems = x0.mems ∧ (State.fwErr x0 x1).pending = x0.pending := by
  unfold State.fwErr; (try dsimp only); (repeat' split) <;> simp only [State.setF_frame, foldl_pwr, foldl_clk, foldl_clay, foldl_mems, foldl_pending, and_self]

@[simp] theorem State.imgWrite_frame (x0 x1 x2 x3) : (State.imgWrite x0 x1 x2 x3).pwr = x0.pwr ∧ (State.imgWrite x0 x1 x2 x3).clk = x0.clk ∧ (State.imgWrite x0 x1 x2 x3).clay = x0.clay ∧ (State.imgWrite x0 x1 x2 x3).pending = x0.pending := by
  unfold State.imgWrite; (try dsimp only); (repeat' split) <;> simp only [foldl_pwr, foldl_clk, foldl_clay, foldl_pending, and_self]

@[simp] theorem State.runImage_frame (x0 x1) : (State.runImage x0 x1).pwr = x0.pwr ∧ (State.runImage x0 x1).clk = x0.clk ∧ (State.runImage x0 x1).clay = x0.clay ∧ (State.runImage x0 x1).mems = x0.mems ∧ (State.runImage x0 x1).pending = x0.pending := by
  unfold State.runImage; (try dsimp only); (repeat' split) <;> simp only [State.setF_frame, State.wr_frame, foldl_pwr, foldl_clk, foldl_clay, foldl_mems, foldl_pending, and_self]

@[simp] theorem State.follow_frame (x0 x1) : (State.follow x0 x1).pwr = x0.pwr ∧ (State.follow x0 x1).clk = x0.clk ∧ (State.follow x0 x1).clay = x0.clay ∧ (State.follow x0 x1).mems = x0.mems ∧ (State.follow x0 x1).pending = x0.pending := by
  unfold State.follow; (try dsimp only); (repeat' split) <;> simp only [State.setF_frame, State.wr_frame, foldl_pwr, foldl_clk, foldl_clay, foldl_mems, foldl_pending, and_self]

@[simp] theorem State.romReady_frame (x0) : (State.romReady x0).pwr = x0.pwr ∧ (State.romReady x0).clk = x0.clk ∧ (State.romReady x0).clay = x0.clay ∧ (State.romReady x0).mems = x0.mems ∧ (State.romReady x0).pending = x0.pending := by
  unfold State.romReady; (try dsimp only); (repeat' split) <;> simp only [State.setF_frame, foldl_pwr, foldl_clk, foldl_clay, foldl_mems, foldl_pending, and_self]

@[simp] theorem State.bootCmd_frame (x0) : (State.bootCmd x0).pwr = x0.pwr ∧ (State.bootCmd x0).clk = x0.clk ∧ (State.bootCmd x0).clay = x0.clay ∧ (State.bootCmd x0).mems = x0.mems ∧ (State.bootCmd x0).pending = x0.pending := by
  unfold State.bootCmd; (try dsimp only); (repeat' split) <;> simp only [State.fwErr_frame, State.setF_frame, foldl_pwr, foldl_clk, foldl_clay, foldl_mems, foldl_pending, and_self]

@[simp] theorem State.bootDone_frame (x0 x1) : (State.bootDone x0 x1).pwr = x0.pwr ∧ (State.bootDone x0 x1).clk = x0.clk ∧ (State.bootDone x0 x1).clay = x0.clay ∧ (State.bootDone x0 x1).pending = x0.pending := by
  unfold State.bootDone; (try dsimp only); (repeat' split) <;> simp only [State.fwErr_frame, State.setF_frame, State.runImage_frame, State.follow_frame, State.post_frame, foldl_pwr, foldl_clk, foldl_clay, foldl_pending, and_self]

@[simp] theorem State.mbDone_frame (x0 x1 x2 x3) : (State.mbDone x0 x1 x2 x3).pwr = x0.pwr ∧ (State.mbDone x0 x1 x2 x3).clk = x0.clk ∧ (State.mbDone x0 x1 x2 x3).clay = x0.clay ∧ (State.mbDone x0 x1 x2 x3).pending = x0.pending := by
  unfold State.mbDone; (try dsimp only); (repeat' split) <;> simp only [State.setF_frame, State.post_frame, foldl_pwr, foldl_clk, foldl_clay, foldl_pending, and_self]

@[simp] theorem State.mbVersion_frame (x0) : (State.mbVersion x0).pwr = x0.pwr ∧ (State.mbVersion x0).clk = x0.clk ∧ (State.mbVersion x0).clay = x0.clay ∧ (State.mbVersion x0).pending = x0.pending := by
  unfold State.mbVersion; (try dsimp only); (repeat' split) <;> simp [*]

@[simp] theorem State.mbSensors_frame (x0) : (State.mbSensors x0).pwr = x0.pwr ∧ (State.mbSensors x0).clk = x0.clk ∧ (State.mbSensors x0).clay = x0.clay ∧ (State.mbSensors x0).pending = x0.pending := by
  unfold State.mbSensors; (try dsimp only); (repeat' split) <;> simp [*]

@[simp] theorem State.mbHang_frame (x0) : (State.mbHang x0).pwr = x0.pwr ∧ (State.mbHang x0).clk = x0.clk ∧ (State.mbHang x0).clay = x0.clay ∧ (State.mbHang x0).mems = x0.mems ∧ (State.mbHang x0).pending = x0.pending := by
  unfold State.mbHang; (try dsimp only); (repeat' split) <;> simp only [State.setF_frame, foldl_pwr, foldl_clk, foldl_clay, foldl_mems, foldl_pending, and_self]

@[simp] theorem State.mbRead_frame (x0 x1) : (State.mbRead x0 x1).pwr = x0.pwr ∧ (State.mbRead x0 x1).clk = x0.clk ∧ (State.mbRead x0 x1).clay = x0.clay ∧ (State.mbRead x0 x1).pending = x0.pending := by
  unfold State.mbRead; (try dsimp only); (repeat' split) <;> simp only [State.mbHang_frame, State.setF_frame, State.mbSensors_frame, State.mbVersion_frame, foldl_pwr, foldl_clk, foldl_clay, foldl_pending, and_self]

@[simp] theorem State.mbReserved_frame (x0 x1) : (State.mbReserved x0 x1).pwr = x0.pwr ∧ (State.mbReserved x0 x1).clk = x0.clk ∧ (State.mbReserved x0 x1).clay = x0.clay ∧ (State.mbReserved x0 x1).pending = x0.pending := by
  unfold State.mbReserved; (try dsimp only); (repeat' split) <;> simp [*]

@[simp] theorem State.poolTestCmd_frame (x0 x1) : (State.poolTestCmd x0 x1).pwr = x0.pwr ∧ (State.poolTestCmd x0 x1).clk = x0.clk ∧ (State.poolTestCmd x0 x1).clay = x0.clay ∧ (State.poolTestCmd x0 x1).pending = x0.pending := by
  unfold State.poolTestCmd; (try dsimp only); (repeat' split) <;> simp [*]

@[simp] theorem State.poolTestDone_frame (x0 x1 x2) : (State.poolTestDone x0 x1 x2).pwr = x0.pwr ∧ (State.poolTestDone x0 x1 x2).clk = x0.clk ∧ (State.poolTestDone x0 x1 x2).clay = x0.clay ∧ (State.poolTestDone x0 x1 x2).pending = x0.pending := by
  unfold State.poolTestDone; (try dsimp only); (repeat' split) <;> simp [*]

@[simp] theorem State.takeWaiting_frame (x0) : (State.takeWaiting x0).pwr = x0.pwr ∧ (State.takeWaiting x0).clk = x0.clk ∧ (State.takeWaiting x0).clay = x0.clay ∧ (State.takeWaiting x0).pending = x0.pending := by
  unfold State.takeWaiting; (try dsimp only); (repeat' split) <;> simp only [State.mbSensors_frame, State.mbVersion_frame, foldl_pwr, foldl_clk, foldl_clay, foldl_pending, and_self]

@[simp] theorem State.hoAbort_frame (x0 x1) : (State.hoAbort x0 x1).pwr = x0.pwr ∧ (State.hoAbort x0 x1).clk = x0.clk ∧ (State.hoAbort x0 x1).clay = x0.clay ∧ (State.hoAbort x0 x1).pending = x0.pending := by
  unfold State.hoAbort; (try dsimp only); (repeat' split) <;> simp only [State.post_frame, State.takeWaiting_frame, State.setF_frame, State.fwErr_frame, foldl_pwr, foldl_clk, foldl_clay, foldl_pending, and_self]

@[simp] theorem State.updateCmd_frame (x0) : (State.updateCmd x0).pwr = x0.pwr ∧ (State.updateCmd x0).clk = x0.clk ∧ (State.updateCmd x0).clay = x0.clay ∧ (State.updateCmd x0).mems = x0.mems ∧ (State.updateCmd x0).pending = x0.pending := by
  unfold State.updateCmd; (try dsimp only); (repeat' split) <;> simp only [State.fwErr_frame, State.setF_frame, foldl_pwr, foldl_clk, foldl_clay, foldl_mems, foldl_pending, and_self]

@[simp] theorem State.loadDone_frame (x0 x1) : (State.loadDone x0 x1).pwr = x0.pwr ∧ (State.loadDone x0 x1).clk = x0.clk ∧ (State.loadDone x0 x1).clay = x0.clay ∧ (State.loadDone x0 x1).pending = x0.pending := by
  unfold State.loadDone; (try dsimp only); (repeat' split) <;> simp only [State.hoAbort_frame, State.setF_frame, State.wr_frame, foldl_pwr, foldl_clk, foldl_clay, foldl_pending, and_self]

@[simp] theorem State.syncDone_frame (x0 x1) : (State.syncDone x0 x1).pwr = x0.pwr ∧ (State.syncDone x0 x1).clk = x0.clk ∧ (State.syncDone x0 x1).clay = x0.clay ∧ (State.syncDone x0 x1).pending = x0.pending := by
  unfold State.syncDone; (try dsimp only); (repeat' split) <;> simp only [State.post_frame, State.setF_frame, State.hoAbort_frame, foldl_pwr, foldl_clk, foldl_clay, foldl_pending, and_self]

@[simp] theorem State.enterSwitching_frame (x0) : (State.enterSwitching x0).pwr = x0.pwr ∧ (State.enterSwitching x0).clk = x0.clk ∧ (State.enterSwitching x0).clay = x0.clay ∧ (State.enterSwitching x0).mems = x0.mems ∧ (State.enterSwitching x0).pending = x0.pending := by
  unfold State.enterSwitching; (try dsimp only); (repeat' split) <;> simp only [State.setF_frame, foldl_pwr, foldl_clk, foldl_clay, foldl_mems, foldl_pending, and_self]

@[simp] theorem State.hoDue_frame (x0) : (State.hoDue x0).pwr = x0.pwr ∧ (State.hoDue x0).clk = x0.clk ∧ (State.hoDue x0).clay = x0.clay ∧ (State.hoDue x0).mems = x0.mems ∧ (State.hoDue x0).pending = x0.pending := by
  unfold State.hoDue; (try dsimp only); (repeat' split) <;> simp only [State.enterSwitching_frame, foldl_pwr, foldl_clk, foldl_clay, foldl_mems, foldl_pending, and_self]

@[simp] theorem State.tickAll_frame (x0) : (State.tickAll x0).pwr = x0.pwr ∧ (State.tickAll x0).clay = x0.clay ∧ (State.tickAll x0).mems = x0.mems ∧ (State.tickAll x0).pending = x0.pending := by
  unfold State.tickAll; (try dsimp only); (repeat' split) <;> simp [*]

@[simp] theorem State.switchCmd_frame (x0 x1) : (State.switchCmd x0 x1).pwr = x0.pwr ∧ (State.switchCmd x0 x1).clk = x0.clk ∧ (State.switchCmd x0 x1).clay = x0.clay ∧ (State.switchCmd x0 x1).mems = x0.mems ∧ (State.switchCmd x0 x1).pending = x0.pending := by
  unfold State.switchCmd; (try dsimp only); (repeat' split) <;> simp [*]

@[simp] theorem State.quiescent_frame (x0) : (State.quiescent x0).pwr = x0.pwr ∧ (State.quiescent x0).clk = x0.clk ∧ (State.quiescent x0).clay = x0.clay ∧ (State.quiescent x0).pending = x0.pending := by
  unfold State.quiescent; (try dsimp only); (repeat' split) <;> simp [*]

@[simp] theorem State.abortCmd_frame (x0) : (State.abortCmd x0).pwr = x0.pwr ∧ (State.abortCmd x0).clk = x0.clk ∧ (State.abortCmd x0).clay = x0.clay ∧ (State.abortCmd x0).pending = x0.pending := by
  unfold State.abortCmd; (try dsimp only); (repeat' split) <;> simp only [State.fwErr_frame, State.hoAbort_frame, foldl_pwr, foldl_clk, foldl_clay, foldl_pending, and_self]

@[simp] theorem State.hoTimeout_frame (x0) : (State.hoTimeout x0).pwr = x0.pwr ∧ (State.hoTimeout x0).clk = x0.clk ∧ (State.hoTimeout x0).clay = x0.clay ∧ (State.hoTimeout x0).pending = x0.pending := by
  unfold State.hoTimeout; (try dsimp only); (repeat' split) <;> simp only [State.hoAbort_frame, foldl_pwr, foldl_clk, foldl_clay, foldl_pending, and_self]

@[simp] theorem State.standbyFollows_frame (x0) : (State.standbyFollows x0).pwr = x0.pwr ∧ (State.standbyFollows x0).clk = x0.clk ∧ (State.standbyFollows x0).clay = x0.clay ∧ (State.standbyFollows x0).mems = x0.mems ∧ (State.standbyFollows x0).pending = x0.pending := by
  unfold State.standbyFollows; (try dsimp only); (repeat' split) <;> simp only [State.follow_frame, foldl_pwr, foldl_clk, foldl_clay, foldl_mems, foldl_pending, and_self]

@[simp] theorem State.svnCommit_frame (x0) : (State.svnCommit x0).pwr = x0.pwr ∧ (State.svnCommit x0).clk = x0.clk ∧ (State.svnCommit x0).pending = x0.pending := by
  unfold State.svnCommit; (try dsimp only); (repeat' split) <;> simp only [State.fwErr_frame, State.nodeClay_frame, foldl_pwr, foldl_clk, foldl_pending, and_self]

@[simp] theorem State.dieGone_frame (x0) : (State.dieGone x0).pwr.powered = x0.pwr.powered ∧ (State.dieGone x0).pwr.rstN = x0.pwr.rstN ∧ (State.dieGone x0).pwr.hold = x0.pwr.hold ∧ (State.dieGone x0).pwr.holdUp = x0.pwr.holdUp ∧ (State.dieGone x0).pwr.stage = x0.pwr.stage ∧ (State.dieGone x0).pwr.driven = x0.pwr.driven ∧ (State.dieGone x0).clk = x0.clk ∧ (State.dieGone x0).mems = x0.mems ∧ (State.dieGone x0).pending = x0.pending := by
  unfold State.dieGone; (try dsimp only); (repeat' split) <;> simp only [State.setF_frame, foldl_powered, foldl_rstN, foldl_hold, foldl_holdUp, foldl_stage, foldl_driven, foldl_clk, foldl_mems, foldl_pending, and_self]

@[simp] theorem State.takeover_frame (x0 x1) : (State.takeover x0 x1).pwr.powered = x0.pwr.powered ∧ (State.takeover x0 x1).pwr.rstN = x0.pwr.rstN ∧ (State.takeover x0 x1).pwr.hold = x0.pwr.hold ∧ (State.takeover x0 x1).pwr.holdUp = x0.pwr.holdUp ∧ (State.takeover x0 x1).pwr.stage = x0.pwr.stage ∧ (State.takeover x0 x1).pwr.driven = x0.pwr.driven ∧ (State.takeover x0 x1).clk = x0.clk ∧ (State.takeover x0 x1).pending = x0.pending := by
  unfold State.takeover; (try dsimp only); (repeat' split) <;> simp only [State.dieGone_frame, State.runImage_frame, State.setF_frame, State.post_frame, foldl_powered, foldl_rstN, foldl_hold, foldl_holdUp, foldl_stage, foldl_driven, foldl_clk, foldl_pending, and_self]

@[simp] theorem State.commitGroup_frame (x0 x1 x2 x3) : (State.commitGroup x0 x1 x2 x3).pwr = x0.pwr ∧ (State.commitGroup x0 x1 x2 x3).clk = x0.clk ∧ (State.commitGroup x0 x1 x2 x3).clay = x0.clay ∧ (State.commitGroup x0 x1 x2 x3).pending = x0.pending := by
  unfold State.commitGroup; (try dsimp only); (repeat' split) <;> simp only [State.xltCommit_frame, State.queueCommit_frame, State.swcCommit_frame, foldl_pwr, foldl_clk, foldl_clay, foldl_pending, and_self]

@[simp] theorem State.tcArm_frame (x0) : (State.tcArm x0).pwr = x0.pwr ∧ (State.tcArm x0).clk = x0.clk ∧ (State.tcArm x0).clay = x0.clay ∧ (State.tcArm x0).pending = x0.pending := by
  unfold State.tcArm; (try dsimp only); (repeat' split) <;> simp only [State.setF_frame, State.post_frame, State.commitGroup_frame, foldl_pwr, foldl_clk, foldl_clay, foldl_pending, and_self]

@[simp] theorem State.tcCancel_frame (x0) : (State.tcCancel x0).pwr = x0.pwr ∧ (State.tcCancel x0).clk = x0.clk ∧ (State.tcCancel x0).clay = x0.clay ∧ (State.tcCancel x0).mems = x0.mems ∧ (State.tcCancel x0).pending = x0.pending := by
  unfold State.tcCancel; (try dsimp only); (repeat' split) <;> simp only [State.setF_frame, foldl_pwr, foldl_clk, foldl_clay, foldl_mems, foldl_pending, and_self]

@[simp] theorem State.tcApply_frame (x0 x1) : (State.tcApply x0 x1).pwr = x0.pwr ∧ (State.tcApply x0 x1).clk = x0.clk ∧ (State.tcApply x0 x1).clay = x0.clay ∧ (State.tcApply x0 x1).pending = x0.pending := by
  induction x1 generalizing x0 <;> simp only [State.tcApply, *, and_self, apply_ite State.pwr, apply_ite State.clk, apply_ite State.clay, apply_ite State.pending] <;> (repeat' split) <;> simp [*, apply_ite State.pwr, apply_ite State.clk, apply_ite State.clay, apply_ite State.pending]

@[simp] theorem State.setMv_frame (x0 x1) : (State.setMv x0 x1).pwr = x0.pwr ∧ (State.setMv x0 x1).clk = x0.clk ∧ (State.setMv x0 x1).clay = x0.clay ∧ (State.setMv x0 x1).mems = x0.mems ∧ (State.setMv x0 x1).pending = x0.pending := by
  unfold State.setMv; (try dsimp only); (repeat' split) <;> simp only [State.emit_frame, State.setF_frame, foldl_pwr, foldl_clk, foldl_clay, foldl_mems, foldl_pending, and_self]

@[simp] theorem State.avsStep_frame (x0 x1 x2) : (State.avsStep x0 x1 x2).pwr = x0.pwr ∧ (State.avsStep x0 x1 x2).clk = x0.clk ∧ (State.avsStep x0 x1 x2).clay = x0.clay ∧ (State.avsStep x0 x1 x2).pending = x0.pending := by
  unfold State.avsStep; (try dsimp only); (repeat' split) <;> simp only [State.setF_frame, State.setMv_frame, State.post_frame, foldl_pwr, foldl_clk, foldl_clay, foldl_pending, and_self]

@[simp] theorem State.smbAlert_frame (x0) : (State.smbAlert x0).pwr.powered = x0.pwr.powered ∧ (State.smbAlert x0).pwr.rstN = x0.pwr.rstN ∧ (State.smbAlert x0).pwr.hold = x0.pwr.hold ∧ (State.smbAlert x0).pwr.holdUp = x0.pwr.holdUp ∧ (State.smbAlert x0).pwr.stage = x0.pwr.stage ∧ (State.smbAlert x0).pwr.driven = x0.pwr.driven ∧ (State.smbAlert x0).clk = x0.clk ∧ (State.smbAlert x0).clay = x0.clay ∧ (State.smbAlert x0).mems = x0.mems ∧ (State.smbAlert x0).pending = x0.pending := by
  unfold State.smbAlert; (try dsimp only); (repeat' split) <;> simp only [foldl_powered, foldl_rstN, foldl_hold, foldl_holdUp, foldl_stage, foldl_driven, foldl_clk, foldl_clay, foldl_mems, foldl_pending, and_self]

@[simp] theorem State.warnStage_frame (x0 x1 x2) : (State.warnStage x0 x1 x2).pwr.powered = x0.pwr.powered ∧ (State.warnStage x0 x1 x2).pwr.rstN = x0.pwr.rstN ∧ (State.warnStage x0 x1 x2).pwr.hold = x0.pwr.hold ∧ (State.warnStage x0 x1 x2).pwr.holdUp = x0.pwr.holdUp ∧ (State.warnStage x0 x1 x2).pwr.stage = x0.pwr.stage ∧ (State.warnStage x0 x1 x2).pwr.driven = x0.pwr.driven ∧ (State.warnStage x0 x1 x2).clk = x0.clk ∧ (State.warnStage x0 x1 x2).clay = x0.clay ∧ (State.warnStage x0 x1 x2).pending = x0.pending := by
  unfold State.warnStage; (try dsimp only); (repeat' split) <;> simp only [State.smbAlert_frame, State.post_frame, State.setF_frame, foldl_powered, foldl_rstN, foldl_hold, foldl_holdUp, foldl_stage, foldl_driven, foldl_clk, foldl_clay, foldl_pending, and_self]

@[simp] theorem State.thermTrip_frame (x0) : (State.thermTrip x0).clk = x0.clk ∧ (State.thermTrip x0).clay = x0.clay ∧ (State.thermTrip x0).mems = x0.mems ∧ (State.thermTrip x0).pending = x0.pending := by
  unfold State.thermTrip; (try dsimp only); (repeat' split) <;> simp only [foldl_clk, foldl_clay, foldl_mems, foldl_pending, and_self]

@[simp] theorem State.thermSample_frame (x0 x1) : (State.thermSample x0 x1).clk = x0.clk ∧ (State.thermSample x0 x1).clay = x0.clay ∧ (State.thermSample x0 x1).pending = x0.pending := by
  unfold State.thermSample; (try dsimp only); (repeat' split) <;> simp [*]

@[simp] theorem State.thermRequest_frame (x0 x1) : (State.thermRequest x0 x1).pwr = x0.pwr ∧ (State.thermRequest x0 x1).clk = x0.clk ∧ (State.thermRequest x0 x1).clay = x0.clay ∧ (State.thermRequest x0 x1).mems = x0.mems ∧ (State.thermRequest x0 x1).pending = x0.pending := by
  unfold State.thermRequest; (try dsimp only); (repeat' split) <;> simp only [State.setF_frame, State.thermal_frame, foldl_pwr, foldl_clk, foldl_clay, foldl_mems, foldl_pending, and_self]

@[simp] theorem State.setSess_frame (x0 x1 x2) : (State.setSess x0 x1 x2).pwr = x0.pwr ∧ (State.setSess x0 x1 x2).clk = x0.clk ∧ (State.setSess x0 x1 x2).clay = x0.clay ∧ (State.setSess x0 x1 x2).mems = x0.mems ∧ (State.setSess x0 x1 x2).pending = x0.pending := by
  unfold State.setSess; (try dsimp only); (repeat' split) <;> simp only [State.setF_frame, foldl_pwr, foldl_clk, foldl_clay, foldl_mems, foldl_pending, and_self]

@[simp] theorem State.closeSess_frame (x0 x1 x2) : (State.closeSess x0 x1 x2).pwr = x0.pwr ∧ (State.closeSess x0 x1 x2).clk = x0.clk ∧ (State.closeSess x0 x1 x2).clay = x0.clay ∧ (State.closeSess x0 x1 x2).pending = x0.pending := by
  unfold State.closeSess; (try dsimp only); (repeat' split) <;> simp only [State.post_frame, State.setSess_frame, foldl_pwr, foldl_clk, foldl_clay, foldl_pending, and_self]

@[simp] theorem State.setKey_frame (x0 x1 x2) : (State.setKey x0 x1 x2).pwr = x0.pwr ∧ (State.setKey x0 x1 x2).clk = x0.clk ∧ (State.setKey x0 x1 x2).clay = x0.clay ∧ (State.setKey x0 x1 x2).mems = x0.mems ∧ (State.setKey x0 x1 x2).pending = x0.pending := by
  unfold State.setKey; (try dsimp only); (repeat' split) <;> simp only [foldl_pwr, foldl_clk, foldl_clay, foldl_mems, foldl_pending, and_self]

@[simp] theorem State.loadSeed_frame (x0 x1 x2) : (State.loadSeed x0 x1 x2).pwr = x0.pwr ∧ (State.loadSeed x0 x1 x2).clk = x0.clk ∧ (State.loadSeed x0 x1 x2).clay = x0.clay ∧ (State.loadSeed x0 x1 x2).mems = x0.mems ∧ (State.loadSeed x0 x1 x2).pending = x0.pending := by
  unfold State.loadSeed; (try dsimp only); (repeat' split) <;> simp only [State.newIndices_frame, State.showSeed_frame, State.setF_frame, foldl_pwr, foldl_clk, foldl_clay, foldl_mems, foldl_pending, and_self]

@[simp] theorem State.eraseSeed_frame (x0 x1) : (State.eraseSeed x0 x1).pwr = x0.pwr ∧ (State.eraseSeed x0 x1).clk = x0.clk ∧ (State.eraseSeed x0 x1).clay = x0.clay ∧ (State.eraseSeed x0 x1).mems = x0.mems ∧ (State.eraseSeed x0 x1).pending = x0.pending := by
  unfold State.eraseSeed; (try dsimp only); (repeat' split) <;> simp only [State.showSeed_frame, foldl_pwr, foldl_clk, foldl_clay, foldl_mems, foldl_pending, and_self]

@[simp] theorem State.secTake_frame (x0 x1 x2 x3 x4) : (State.secTake x0 x1 x2 x3 x4).pwr = x0.pwr ∧ (State.secTake x0 x1 x2 x3 x4).clk = x0.clk ∧ (State.secTake x0 x1 x2 x3 x4).clay = x0.clay ∧ (State.secTake x0 x1 x2 x3 x4).mems = x0.mems ∧ (State.secTake x0 x1 x2 x3 x4).pending = x0.pending := by
  unfold State.secTake; (try dsimp only); (repeat' split) <;> simp only [State.setF_frame, foldl_pwr, foldl_clk, foldl_clay, foldl_mems, foldl_pending, and_self]

@[simp] theorem State.secIf_pwr (x0 x1) (h1 : ∀ y0, (x1 y0).pwr = y0.pwr) : (State.secIf x0 x1).pwr = x0.pwr := by
  unfold State.secIf; (try dsimp only); (repeat' split) <;> simp [*]

@[simp] theorem State.secIf_clk (x0 x1) (h1 : ∀ y0, (x1 y0).clk = y0.clk) : (State.secIf x0 x1).clk = x0.clk := by
  unfold State.secIf; (try dsimp only); (repeat' split) <;> simp [*]

@[simp] theorem State.secIf_clay (x0 x1) (h1 : ∀ y0, (x1 y0).clay = y0.clay) : (State.secIf x0 x1).clay = x0.clay := by
  unfold State.secIf; (try dsimp only); (repeat' split) <;> simp [*]

@[simp] theorem State.secIf_mems (x0 x1) (h1 : ∀ y0, (x1 y0).mems = y0.mems) : (State.secIf x0 x1).mems = x0.mems := by
  unfold State.secIf; (try dsimp only); (repeat' split) <;> simp [*]

@[simp] theorem State.secIf_pending (x0 x1) (h1 : ∀ y0, (x1 y0).pending = y0.pending) : (State.secIf x0 x1).pending = x0.pending := by
  unfold State.secIf; (try dsimp only); (repeat' split) <;> simp [*]

@[simp] theorem State.measOf_frame (x0 x1) : (State.measOf x0 x1).2.pwr = x0.pwr ∧ (State.measOf x0 x1).2.clk = x0.clk ∧ (State.measOf x0 x1).2.clay = x0.clay ∧ (State.measOf x0 x1).2.mems = x0.mems ∧ (State.measOf x0 x1).2.pending = x0.pending := by
  unfold State.measOf; (try dsimp only); (repeat' split) <;> simp only [State.drawBytes_frame, foldl_pwr, foldl_clk, foldl_clay, foldl_mems, foldl_pending, and_self]

@[simp] theorem State.reportCmd_frame (x0 x1) : (State.reportCmd x0 x1).pwr = x0.pwr ∧ (State.reportCmd x0 x1).clk = x0.clk ∧ (State.reportCmd x0 x1).clay = x0.clay ∧ (State.reportCmd x0 x1).pending = x0.pending := by
  unfold State.reportCmd; (try dsimp only); (repeat' split) <;> simp only [State.secTake_frame, State.measOf_frame, State.setSess_frame, foldl_pwr, foldl_clk, foldl_clay, foldl_pending, and_self]

@[simp] theorem State.openCmd_frame (x0 x1) : (State.openCmd x0 x1).pwr = x0.pwr ∧ (State.openCmd x0 x1).clk = x0.clk ∧ (State.openCmd x0 x1).clay = x0.clay ∧ (State.openCmd x0 x1).mems = x0.mems ∧ (State.openCmd x0 x1).pending = x0.pending := by
  unfold State.openCmd; (try dsimp only); (repeat' split) <;> simp only [State.secTake_frame, State.setSess_frame, foldl_pwr, foldl_clk, foldl_clay, foldl_mems, foldl_pending, and_self]

@[simp] theorem State.closeCmd_frame (x0 x1) : (State.closeCmd x0 x1).pwr = x0.pwr ∧ (State.closeCmd x0 x1).clk = x0.clk ∧ (State.closeCmd x0 x1).clay = x0.clay ∧ (State.closeCmd x0 x1).pending = x0.pending := by
  unfold State.closeCmd; (try dsimp only); (repeat' split) <;> simp only [State.secTake_frame, State.closeSess_frame, foldl_pwr, foldl_clk, foldl_clay, foldl_pending, and_self]

@[simp] theorem State.loadPlain_frame (x0 x1 x2 x3) : (State.loadPlain x0 x1 x2 x3).pwr = x0.pwr ∧ (State.loadPlain x0 x1 x2 x3).clk = x0.clk ∧ (State.loadPlain x0 x1 x2 x3).clay = x0.clay ∧ (State.loadPlain x0 x1 x2 x3).mems = x0.mems ∧ (State.loadPlain x0 x1 x2 x3).pending = x0.pending := by
  unfold State.loadPlain; (try dsimp only); (repeat' split) <;> simp only [State.secTake_frame, State.loadSeed_frame, State.setKey_frame, foldl_pwr, foldl_clk, foldl_clay, foldl_mems, foldl_pending, and_self]

@[simp] theorem State.loadCmd_frame (x0 x1) : (State.loadCmd x0 x1).pwr = x0.pwr ∧ (State.loadCmd x0 x1).clk = x0.clk ∧ (State.loadCmd x0 x1).clay = x0.clay ∧ (State.loadCmd x0 x1).mems = x0.mems ∧ (State.loadCmd x0 x1).pending = x0.pending := by
  unfold State.loadCmd; (try dsimp only); (repeat' split) <;> simp only [State.secTake_frame, State.loadPlain_frame, State.setSess_frame, foldl_pwr, foldl_clk, foldl_clay, foldl_mems, foldl_pending, and_self]

@[simp] theorem State.eraseCmd_frame (x0 x1 x2 x3 x4) : (State.eraseCmd x0 x1 x2 x3 x4).pwr = x0.pwr ∧ (State.eraseCmd x0 x1 x2 x3 x4).clk = x0.clk ∧ (State.eraseCmd x0 x1 x2 x3 x4).clay = x0.clay ∧ (State.eraseCmd x0 x1 x2 x3 x4).mems = x0.mems ∧ (State.eraseCmd x0 x1 x2 x3 x4).pending = x0.pending := by
  unfold State.eraseCmd; (try dsimp only); (repeat' split) <;> simp only [State.secTake_frame, State.eraseSeed_frame, State.setKey_frame, foldl_pwr, foldl_clk, foldl_clay, foldl_mems, foldl_pending, and_self]

@[simp] theorem State.rekeyCmd_frame (x0 x1) : (State.rekeyCmd x0 x1).pwr = x0.pwr ∧ (State.rekeyCmd x0 x1).clk = x0.clk ∧ (State.rekeyCmd x0 x1).clay = x0.clay ∧ (State.rekeyCmd x0 x1).pending = x0.pending := by
  unfold State.rekeyCmd; (try dsimp only); (repeat' split) <;> simp only [State.secTake_frame, State.advTx_frame, State.closeFrame_frame, foldl_pwr, foldl_clk, foldl_clay, foldl_pending, and_self]

@[simp] theorem State.secDone_frame (x0) : (State.secDone x0).pwr = x0.pwr ∧ (State.secDone x0).clk = x0.clk ∧ (State.secDone x0).clay = x0.clay ∧ (State.secDone x0).mems = x0.mems ∧ (State.secDone x0).pending = x0.pending := by
  unfold State.secDone; (try dsimp only); (repeat' split) <;> simp [*]

@[simp] theorem State.overtake_frame (x0) : (State.overtake x0).pwr = x0.pwr ∧ (State.overtake x0).clk = x0.clk ∧ (State.overtake x0).clay = x0.clay ∧ (State.overtake x0).mems = x0.mems ∧ (State.overtake x0).pending = x0.pending := by
  unfold State.overtake; (try dsimp only); (repeat' split) <;> simp only [State.setKey_frame, State.setSess_frame, State.showSeed_frame, foldl_pwr, foldl_clk, foldl_clay, foldl_mems, foldl_pending, and_self]

@[simp] theorem State.sessExpiry_frame (x0 x1) : (State.sessExpiry x0 x1).pwr = x0.pwr ∧ (State.sessExpiry x0 x1).clk = x0.clk ∧ (State.sessExpiry x0 x1).clay = x0.clay ∧ (State.sessExpiry x0 x1).pending = x0.pending := by
  unfold State.sessExpiry; (try dsimp only); (repeat' split) <;> simp only [State.closeSess_frame, foldl_pwr, foldl_clk, foldl_clay, foldl_pending, and_self]

@[simp] theorem State.failEnc_frame (x0 x1) : (State.failEnc x0 x1).pwr = x0.pwr ∧ (State.failEnc x0 x1).clk = x0.clk ∧ (State.failEnc x0 x1).clay = x0.clay ∧ (State.failEnc x0 x1).pending = x0.pending := by
  unfold State.failEnc; (try dsimp only); (repeat' split) <;> simp [*]

@[simp] theorem State.level2_frame (x0) : (State.level2 x0).pwr = x0.pwr ∧ (State.level2 x0).clk = x0.clk ∧ (State.level2 x0).clay = x0.clay ∧ (State.level2 x0).pending = x0.pending := by
  simp [State.level2, apply_ite State.pwr, apply_ite State.clk, apply_ite State.clay, apply_ite State.pending]

@[simp] theorem State.eraseKeys_frame (x0) : (State.eraseKeys x0).pwr = x0.pwr ∧ (State.eraseKeys x0).clk = x0.clk ∧ (State.eraseKeys x0).clay = x0.clay ∧ (State.eraseKeys x0).mems = x0.mems ∧ (State.eraseKeys x0).pending = x0.pending := by
  unfold State.eraseKeys; (try dsimp only); (repeat' split) <;> simp only [foldl_pwr, foldl_clk, foldl_clay, foldl_mems, foldl_pending, and_self]

@[simp] theorem State.trip_frame (x0 x1 x2) : (State.trip x0 x1 x2).pwr.powered = x0.pwr.powered ∧ (State.trip x0 x1 x2).pwr.rstN = x0.pwr.rstN ∧ (State.trip x0 x1 x2).pwr.hold = x0.pwr.hold ∧ (State.trip x0 x1 x2).pwr.holdUp = x0.pwr.holdUp ∧ (State.trip x0 x1 x2).pwr.stage = x0.pwr.stage ∧ (State.trip x0 x1 x2).pwr.driven = x0.pwr.driven ∧ (State.trip x0 x1 x2).clk = x0.clk ∧ (State.trip x0 x1 x2).clay = x0.clay ∧ (State.trip x0 x1 x2).pending = x0.pending := by
  unfold State.trip; (try dsimp only); (repeat' split) <;> simp only [State.smbAlert_frame, State.setF_frame, State.post_frame, State.hoAbort_frame, State.overtake_frame, State.level2_frame, State.eraseKeys_frame, foldl_powered, foldl_rstN, foldl_hold, foldl_holdUp, foldl_stage, foldl_driven, foldl_clk, foldl_clay, foldl_pending, and_self]

@[simp] theorem State.holdReset_frame (x0 x1) : (State.holdReset x0 x1).clk = x0.clk ∧ (State.holdReset x0 x1).clay = x0.clay ∧ (State.holdReset x0 x1).mems = x0.mems ∧ (State.holdReset x0 x1).pending = x0.pending := by
  unfold State.holdReset; (try dsimp only); (repeat' split) <;> simp only [foldl_clk, foldl_clay, foldl_mems, foldl_pending, and_self]

@[simp] theorem State.escalate_frame (x0) : (State.escalate x0).clk = x0.clk ∧ (State.escalate x0).pending = x0.pending := by
  unfold State.escalate; (try dsimp only); (repeat' split) <;> simp only [State.level2_frame, State.setF_frame, State.nodeClay_frame, State.holdReset_frame, foldl_clk, foldl_pending, and_self]

@[simp] theorem State.alarmClear_frame (x0 x1) : (State.alarmClear x0 x1).pwr.powered = x0.pwr.powered ∧ (State.alarmClear x0 x1).pwr.rstN = x0.pwr.rstN ∧ (State.alarmClear x0 x1).pwr.hold = x0.pwr.hold ∧ (State.alarmClear x0 x1).pwr.holdUp = x0.pwr.holdUp ∧ (State.alarmClear x0 x1).pwr.stage = x0.pwr.stage ∧ (State.alarmClear x0 x1).pwr.driven = x0.pwr.driven ∧ (State.alarmClear x0 x1).clk = x0.clk ∧ (State.alarmClear x0 x1).pending = x0.pending := by
  unfold State.alarmClear; (try dsimp only); (repeat' split) <;> simp only [State.setF_frame, State.nodeClay_frame, foldl_powered, foldl_rstN, foldl_hold, foldl_holdUp, foldl_stage, foldl_driven, foldl_clk, foldl_pending, and_self]

@[simp] theorem State.tagFail_frame (x0 x1 x2 x3 x4) : (State.tagFail x0 x1 x2 x3 x4).pwr.powered = x0.pwr.powered ∧ (State.tagFail x0 x1 x2 x3 x4).pwr.rstN = x0.pwr.rstN ∧ (State.tagFail x0 x1 x2 x3 x4).pwr.hold = x0.pwr.hold ∧ (State.tagFail x0 x1 x2 x3 x4).pwr.holdUp = x0.pwr.holdUp ∧ (State.tagFail x0 x1 x2 x3 x4).pwr.stage = x0.pwr.stage ∧ (State.tagFail x0 x1 x2 x3 x4).pwr.driven = x0.pwr.driven ∧ (State.tagFail x0 x1 x2 x3 x4).clk = x0.clk ∧ (State.tagFail x0 x1 x2 x3 x4).clay = x0.clay ∧ (State.tagFail x0 x1 x2 x3 x4).pending = x0.pending := by
  unfold State.tagFail; (try dsimp only); (repeat' split) <;> simp only [State.post_frame, State.setLp_frame, State.loseSeed_frame, State.trip_frame, State.linkFail_frame, foldl_powered, foldl_rstN, foldl_hold, foldl_holdUp, foldl_stage, foldl_driven, foldl_clk, foldl_clay, foldl_pending, and_self]

@[simp] theorem State.tagGood_frame (x0 x1 x2) : (State.tagGood x0 x1 x2).pwr = x0.pwr ∧ (State.tagGood x0 x1 x2).clk = x0.clk ∧ (State.tagGood x0 x1 x2).clay = x0.clay ∧ (State.tagGood x0 x1 x2).mems = x0.mems ∧ (State.tagGood x0 x1 x2).pending = x0.pending := by
  unfold State.tagGood; (try dsimp only); (repeat' split) <;> simp [*]

@[simp] theorem State.tagArrive_frame (x0 x1 x2 x3 x4) : (State.tagArrive x0 x1 x2 x3 x4).pwr.powered = x0.pwr.powered ∧ (State.tagArrive x0 x1 x2 x3 x4).pwr.rstN = x0.pwr.rstN ∧ (State.tagArrive x0 x1 x2 x3 x4).pwr.hold = x0.pwr.hold ∧ (State.tagArrive x0 x1 x2 x3 x4).pwr.holdUp = x0.pwr.holdUp ∧ (State.tagArrive x0 x1 x2 x3 x4).pwr.stage = x0.pwr.stage ∧ (State.tagArrive x0 x1 x2 x3 x4).pwr.driven = x0.pwr.driven ∧ (State.tagArrive x0 x1 x2 x3 x4).clk = x0.clk ∧ (State.tagArrive x0 x1 x2 x3 x4).clay = x0.clay ∧ (State.tagArrive x0 x1 x2 x3 x4).pending = x0.pending := by
  unfold State.tagArrive; (try dsimp only); (repeat' split) <;> simp only [State.tagGood_frame, State.tagFail_frame, State.advRx_frame, foldl_powered, foldl_rstN, foldl_hold, foldl_holdUp, foldl_stage, foldl_driven, foldl_clk, foldl_clay, foldl_pending, and_self]

@[simp] theorem State.resetAssert_frame (x0 x1) : (State.resetAssert x0 x1).clk = x0.clk ∧ (State.resetAssert x0 x1).clay = x0.clay ∧ (State.resetAssert x0 x1).mems = x0.mems ∧ (State.resetAssert x0 x1).pending = x0.pending := by
  unfold State.resetAssert; (try dsimp only); (repeat' split) <;> simp only [foldl_clk, foldl_clay, foldl_mems, foldl_pending, and_self]

@[simp] theorem State.loadStraps_frame (x0 x1) : (State.loadStraps x0 x1).pwr = x0.pwr ∧ (State.loadStraps x0 x1).clk = x0.clk ∧ (State.loadStraps x0 x1).clay = x0.clay ∧ (State.loadStraps x0 x1).mems = x0.mems ∧ (State.loadStraps x0 x1).pending = x0.pending := by
  unfold State.loadStraps; (try dsimp only); (repeat' split) <;> simp only [State.setF_frame, foldl_pwr, foldl_clk, foldl_clay, foldl_mems, foldl_pending, and_self]

@[simp] theorem State.pllLocked_frame (x0) : (State.pllLocked x0).pwr = x0.pwr ∧ (State.pllLocked x0).clk = x0.clk ∧ (State.pllLocked x0).clay = x0.clay ∧ (State.pllLocked x0).mems = x0.mems ∧ (State.pllLocked x0).pending = x0.pending := by
  unfold State.pllLocked; (try dsimp only); (repeat' split) <;> simp only [State.setF_frame, foldl_pwr, foldl_clk, foldl_clay, foldl_mems, foldl_pending, and_self]

@[simp] theorem State.pllLost_frame (x0) : (State.pllLost x0).clk = x0.clk ∧ (State.pllLost x0).clay = x0.clay ∧ (State.pllLost x0).mems = x0.mems ∧ (State.pllLost x0).pending = x0.pending := by
  unfold State.pllLost; (try dsimp only); (repeat' split) <;> simp only [State.holdReset_frame, State.setF_frame, foldl_clk, foldl_clay, foldl_mems, foldl_pending, and_self]

@[simp] theorem State.supplyRemoved_frame (x0) : (State.supplyRemoved x0).clk = x0.clk ∧ (State.supplyRemoved x0).pending = x0.pending := by
  unfold State.supplyRemoved; (try dsimp only); (repeat' split) <;> simp only [State.clayFlush_frame, foldl_clk, foldl_pending, and_self]

@[simp] theorem State.powerUp_frame (x0) : (State.powerUp x0).clk = x0.clk ∧ (State.powerUp x0).clay = x0.clay ∧ (State.powerUp x0).mems = x0.mems ∧ (State.powerUp x0).pending = x0.pending := by
  unfold State.powerUp; (try dsimp only); (repeat' split) <;> simp only [foldl_clk, foldl_clay, foldl_mems, foldl_pending, and_self]

@[simp] theorem State.holdUp_frame (x0) : (State.holdUp x0).clk = x0.clk ∧ (State.holdUp x0).clay = x0.clay ∧ (State.holdUp x0).pending = x0.pending := by
  unfold State.holdUp; (try dsimp only); (repeat' split) <;> simp only [State.hoAbort_frame, foldl_clk, foldl_clay, foldl_pending, and_self]

@[simp] theorem State.holdUpStage_frame (x0 x1) : (State.holdUpStage x0 x1).clk = x0.clk ∧ (State.holdUpStage x0 x1).pending = x0.pending := by
  unfold State.holdUpStage; (try dsimp only); (repeat' split) <;> simp [*]

@[simp] theorem State.pcieStopQueue_frame (x0 x1) : (State.pcieStopQueue x0 x1).pwr = x0.pwr ∧ (State.pcieStopQueue x0 x1).clk = x0.clk ∧ (State.pcieStopQueue x0 x1).clay = x0.clay ∧ (State.pcieStopQueue x0 x1).pending = x0.pending := by
  unfold State.pcieStopQueue; (try dsimp only); (repeat' split) <;> simp only [State.queueCommit_frame, State.setF_frame, State.setQ_frame, foldl_pwr, foldl_clk, foldl_clay, foldl_pending, and_self]

@[simp] theorem State.pcieReset_frame (x0 x1) : (State.pcieReset x0 x1).pwr.powered = x0.pwr.powered ∧ (State.pcieReset x0 x1).pwr.rstN = x0.pwr.rstN ∧ (State.pcieReset x0 x1).pwr.hold = x0.pwr.hold ∧ (State.pcieReset x0 x1).pwr.holdUp = x0.pwr.holdUp ∧ (State.pcieReset x0 x1).pwr.stage = x0.pwr.stage ∧ (State.pcieReset x0 x1).pwr.driven = x0.pwr.driven ∧ (State.pcieReset x0 x1).clk = x0.clk ∧ (State.pcieReset x0 x1).clay = x0.clay ∧ (State.pcieReset x0 x1).pending = x0.pending := by
  simp [State.pcieReset, apply_ite State.pwr, apply_ite Pwr.powered, apply_ite Pwr.rstN, apply_ite Pwr.hold, apply_ite Pwr.holdUp, apply_ite Pwr.stage, apply_ite Pwr.driven, apply_ite State.clk, apply_ite State.clay, apply_ite State.pending]

@[simp] theorem State.refclkLost_frame (x0) : (State.refclkLost x0).pwr.powered = x0.pwr.powered ∧ (State.refclkLost x0).pwr.rstN = x0.pwr.rstN ∧ (State.refclkLost x0).pwr.hold = x0.pwr.hold ∧ (State.refclkLost x0).pwr.holdUp = x0.pwr.holdUp ∧ (State.refclkLost x0).pwr.stage = x0.pwr.stage ∧ (State.refclkLost x0).pwr.driven = x0.pwr.driven ∧ (State.refclkLost x0).clk = x0.clk ∧ (State.refclkLost x0).clay = x0.clay ∧ (State.refclkLost x0).mems = x0.mems ∧ (State.refclkLost x0).pending = x0.pending := by
  unfold State.refclkLost; (try dsimp only); (repeat' split) <;> simp only [foldl_powered, foldl_rstN, foldl_hold, foldl_holdUp, foldl_stage, foldl_driven, foldl_clk, foldl_clay, foldl_mems, foldl_pending, and_self]

@[simp] theorem State.smbusRead_frame (x0 x1) : (State.smbusRead x0 x1).pwr = x0.pwr ∧ (State.smbusRead x0 x1).clk = x0.clk ∧ (State.smbusRead x0 x1).clay = x0.clay ∧ (State.smbusRead x0 x1).mems = x0.mems ∧ (State.smbusRead x0 x1).pending = x0.pending := by
  unfold State.smbusRead; (try dsimp only); (repeat' split) <;> simp only [State.emit_frame, foldl_pwr, foldl_clk, foldl_clay, foldl_mems, foldl_pending, and_self]

@[simp] theorem State.smbusAlert_frame (x0) : (State.smbusAlert x0).pwr.powered = x0.pwr.powered ∧ (State.smbusAlert x0).pwr.rstN = x0.pwr.rstN ∧ (State.smbusAlert x0).pwr.hold = x0.pwr.hold ∧ (State.smbusAlert x0).pwr.holdUp = x0.pwr.holdUp ∧ (State.smbusAlert x0).pwr.stage = x0.pwr.stage ∧ (State.smbusAlert x0).pwr.driven = x0.pwr.driven ∧ (State.smbusAlert x0).clk = x0.clk ∧ (State.smbusAlert x0).clay = x0.clay ∧ (State.smbusAlert x0).mems = x0.mems ∧ (State.smbusAlert x0).pending = x0.pending := by
  unfold State.smbusAlert; (try dsimp only); (repeat' split) <;> simp only [State.emit_frame, foldl_powered, foldl_rstN, foldl_hold, foldl_holdUp, foldl_stage, foldl_driven, foldl_clk, foldl_clay, foldl_mems, foldl_pending, and_self]

@[simp] theorem State.jtagLoad_frame (x0 x1) : (State.jtagLoad x0 x1).clk = x0.clk ∧ (State.jtagLoad x0 x1).clay = x0.clay ∧ (State.jtagLoad x0 x1).mems = x0.mems ∧ (State.jtagLoad x0 x1).pending = x0.pending := by
  unfold State.jtagLoad; (try dsimp only); (repeat' split) <;> simp only [foldl_clk, foldl_clay, foldl_mems, foldl_pending, and_self]

@[simp] theorem State.jtagTest_frame (x0 x1) : (State.jtagTest x0 x1).clk = x0.clk ∧ (State.jtagTest x0 x1).clay = x0.clay ∧ (State.jtagTest x0 x1).mems = x0.mems ∧ (State.jtagTest x0 x1).pending = x0.pending := by
  unfold State.jtagTest; (try dsimp only); (repeat' split) <;> simp only [State.jtagLoad_frame, foldl_clk, foldl_clay, foldl_mems, foldl_pending, and_self]

@[simp] theorem State.read32_frame (x0 x1) : (State.read32 x0 x1).2.pwr = x0.pwr ∧ (State.read32 x0 x1).2.clk = x0.clk ∧ (State.read32 x0 x1).2.clay = x0.clay ∧ (State.read32 x0 x1).2.mems = x0.mems ∧ (State.read32 x0 x1).2.pending = x0.pending := by
  unfold State.read32; (try dsimp only); (repeat' split) <;> simp only [foldl_pwr, foldl_clk, foldl_clay, foldl_mems, foldl_pending, and_self]

@[simp] theorem State.barRead_frame (x0 x1 x2) : (State.barRead x0 x1 x2).2.pwr = x0.pwr ∧ (State.barRead x0 x1 x2).2.clk = x0.clk ∧ (State.barRead x0 x1 x2).2.clay = x0.clay ∧ (State.barRead x0 x1 x2).2.mems = x0.mems ∧ (State.barRead x0 x1 x2).2.pending = x0.pending := by
  unfold State.barRead; (try dsimp only); (repeat' split) <;> simp only [State.read32_frame, foldl_pwr, foldl_clk, foldl_clay, foldl_mems, foldl_pending, and_self]

@[simp] theorem State.plainWr_frame (x0 x1 x2) : (State.plainWr x0 x1 x2).pwr = x0.pwr ∧ (State.plainWr x0 x1 x2).clk = x0.clk ∧ (State.plainWr x0 x1 x2).clay = x0.clay ∧ (State.plainWr x0 x1 x2).mems = x0.mems ∧ (State.plainWr x0 x1 x2).pending = x0.pending := by
  unfold State.plainWr; (try dsimp only); (repeat' split) <;> simp only [State.wr_frame, foldl_pwr, foldl_clk, foldl_clay, foldl_mems, foldl_pending, and_self]

@[simp] theorem State.waitWr_frame (x0 x1 x2 x3) : (State.waitWr x0 x1 x2 x3).pwr = x0.pwr ∧ (State.waitWr x0 x1 x2 x3).clk = x0.clk ∧ (State.waitWr x0 x1 x2 x3).clay = x0.clay ∧ (State.waitWr x0 x1 x2 x3).mems = x0.mems ∧ (State.waitWr x0 x1 x2 x3).pending = x0.pending := by
  unfold State.waitWr; (try dsimp only); (repeat' split) <;> simp only [State.keepWr_frame, State.wr_frame, foldl_pwr, foldl_clk, foldl_clay, foldl_mems, foldl_pending, and_self]

@[simp] theorem State.msixWr_frame (x0 x1 x2) : (State.msixWr x0 x1 x2).pwr = x0.pwr ∧ (State.msixWr x0 x1 x2).clk = x0.clk ∧ (State.msixWr x0 x1 x2).clay = x0.clay ∧ (State.msixWr x0 x1 x2).pending = x0.pending := by
  unfold State.msixWr; (try dsimp only); (repeat' split) <;> simp [*]

@[simp] theorem State.wrSys_frame (x0 x1 x2) : (State.wrSys x0 x1 x2).pwr = x0.pwr ∧ (State.wrSys x0 x1 x2).clk = x0.clk ∧ (State.wrSys x0 x1 x2).pending = x0.pending := by
  unfold State.wrSys; (try dsimp only); (repeat' split) <;> simp only [State.glbNode_frame, State.msixWr_frame, State.wr_frame, State.clayWrite_frame, State.plainWr_frame, foldl_pwr, foldl_clk, foldl_pending, and_self]

@[simp] theorem State.wrFwm_frame (x0 x1 x2) : (State.wrFwm x0 x1 x2).pwr = x0.pwr ∧ (State.wrFwm x0 x1 x2).clk = x0.clk ∧ (State.wrFwm x0 x1 x2).pending = x0.pending := by
  unfold State.wrFwm; (try dsimp only); (repeat' split) <;> simp only [State.bootCmd_frame, State.updateCmd_frame, State.switchCmd_frame, State.abortCmd_frame, State.svnCommit_frame, State.fwErr_frame, State.tcArm_frame, State.tcCancel_frame, State.setF_frame, State.mbRead_frame, State.poolTestCmd_frame, State.mbReserved_frame, State.plainWr_frame, foldl_pwr, foldl_clk, foldl_pending, and_self]

@[simp] theorem State.wrQmg_frame (x0 x1 x2) : (State.wrQmg x0 x1 x2).pwr = x0.pwr ∧ (State.wrQmg x0 x1 x2).clk = x0.clk ∧ (State.wrQmg x0 x1 x2).clay = x0.clay ∧ (State.wrQmg x0 x1 x2).pending = x0.pending := by
  unfold State.wrQmg; (try dsimp only); (repeat' split) <;> simp [*]

@[simp] theorem State.wrXlt_frame (x0 x1 x2) : (State.wrXlt x0 x1 x2).pwr = x0.pwr ∧ (State.wrXlt x0 x1 x2).clk = x0.clk ∧ (State.wrXlt x0 x1 x2).clay = x0.clay ∧ (State.wrXlt x0 x1 x2).pending = x0.pending := by
  unfold State.wrXlt; (try dsimp only); (repeat' split) <;> simp only [State.presQuery_frame, State.presSet_frame, State.presClear_frame, State.setF_frame, State.xltCommit_frame, State.drainReq_frame, State.plainWr_frame, foldl_pwr, foldl_clk, foldl_clay, foldl_pending, and_self]

@[simp] theorem State.wrSyn_frame (x0 x1 x2) : (State.wrSyn x0 x1 x2).pwr = x0.pwr ∧ (State.wrSyn x0 x1 x2).clk = x0.clk ∧ (State.wrSyn x0 x1 x2).clay = x0.clay ∧ (State.wrSyn x0 x1 x2).mems = x0.mems ∧ (State.wrSyn x0 x1 x2).pending = x0.pending := by
  unfold State.wrSyn; (try dsimp only); (repeat' split) <;> simp [*]

@[simp] theorem State.wrHom_frame (x0 x1 x2) : (State.wrHom x0 x1 x2).pwr = x0.pwr ∧ (State.wrHom x0 x1 x2).clk = x0.clk ∧ (State.wrHom x0 x1 x2).clay = x0.clay ∧ (State.wrHom x0 x1 x2).pending = x0.pending := by
  unfold State.wrHom; (try dsimp only); (repeat' split) <;> simp only [State.homCtl_frame, State.extCmd_frame, State.plainWr_frame, foldl_pwr, foldl_clk, foldl_clay, foldl_pending, and_self]

@[simp] theorem State.wrDtt_frame (x0 x1 x2) : (State.wrDtt x0 x1 x2).pwr = x0.pwr ∧ (State.wrDtt x0 x1 x2).clk = x0.clk ∧ (State.wrDtt x0 x1 x2).clay = x0.clay ∧ (State.wrDtt x0 x1 x2).pending = x0.pending := by
  unfold State.wrDtt; (try dsimp only); (repeat' split) <;> simp [*]

@[simp] theorem State.wrEng_frame (x0 x1 x2) : (State.wrEng x0 x1 x2).pwr = x0.pwr ∧ (State.wrEng x0 x1 x2).clk = x0.clk ∧ (State.wrEng x0 x1 x2).pending = x0.pending := by
  unfold State.wrEng; (try dsimp only); (repeat' split) <;> simp [*]

@[simp] theorem State.wrGrp_frame (x0 x1 x2) : (State.wrGrp x0 x1 x2).pwr = x0.pwr ∧ (State.wrGrp x0 x1 x2).clk = x0.clk ∧ (State.wrGrp x0 x1 x2).clay = x0.clay ∧ (State.wrGrp x0 x1 x2).mems = x0.mems ∧ (State.wrGrp x0 x1 x2).pending = x0.pending := by
  unfold State.wrGrp; (try dsimp only); (repeat' split) <;> simp only [State.grpCmd_frame, State.emapCmd_frame, State.plainWr_frame, foldl_pwr, foldl_clk, foldl_clay, foldl_mems, foldl_pending, and_self]

@[simp] theorem State.portCtl_frame (x0 x1 x2) : (State.portCtl x0 x1 x2).pwr = x0.pwr ∧ (State.portCtl x0 x1 x2).clk = x0.clk ∧ (State.portCtl x0 x1 x2).clay = x0.clay ∧ (State.portCtl x0 x1 x2).pending = x0.pending := by
  unfold State.portCtl; (try dsimp only); (repeat' split) <;> simp [*]

@[simp] theorem State.wrLan_frame (x0 x1 x2) : (State.wrLan x0 x1 x2).pwr = x0.pwr ∧ (State.wrLan x0 x1 x2).clk = x0.clk ∧ (State.wrLan x0 x1 x2).clay = x0.clay ∧ (State.wrLan x0 x1 x2).pending = x0.pending := by
  unfold State.wrLan; (try dsimp only); (repeat' split) <;> simp [*]

@[simp] theorem State.wrEth_frame (x0 x1 x2) : (State.wrEth x0 x1 x2).pwr = x0.pwr ∧ (State.wrEth x0 x1 x2).clk = x0.clk ∧ (State.wrEth x0 x1 x2).clay = x0.clay ∧ (State.wrEth x0 x1 x2).pending = x0.pending := by
  unfold State.wrEth; (try dsimp only); (repeat' split) <;> simp only [State.swcCommit_frame, State.ethCtl_frame, State.waitWr_frame, State.ethCtlP_frame, State.plainWr_frame, State.chCfg_frame, State.setCh_frame, foldl_pwr, foldl_clk, foldl_clay, foldl_pending, and_self]

@[simp] theorem State.wrSec_frame (x0 x1 x2) : (State.wrSec x0 x1 x2).pwr.powered = x0.pwr.powered ∧ (State.wrSec x0 x1 x2).pwr.rstN = x0.pwr.rstN ∧ (State.wrSec x0 x1 x2).pwr.hold = x0.pwr.hold ∧ (State.wrSec x0 x1 x2).pwr.holdUp = x0.pwr.holdUp ∧ (State.wrSec x0 x1 x2).pwr.stage = x0.pwr.stage ∧ (State.wrSec x0 x1 x2).pwr.driven = x0.pwr.driven ∧ (State.wrSec x0 x1 x2).clk = x0.clk ∧ (State.wrSec x0 x1 x2).pending = x0.pending := by
  unfold State.wrSec; (try dsimp only); (repeat' split) <;> simp [*]

@[simp] theorem State.wrFlt_frame (x0 x1 x2) : (State.wrFlt x0 x1 x2).pwr = x0.pwr ∧ (State.wrFlt x0 x1 x2).clk = x0.clk ∧ (State.wrFlt x0 x1 x2).clay = x0.clay ∧ (State.wrFlt x0 x1 x2).pending = x0.pending := by
  unfold State.wrFlt; (try dsimp only); (repeat' split) <;> simp only [State.orderSubmit_frame, State.jobCmd_frame, State.drawWord_frame, State.repairStart_frame, State.sedCmdWrite_frame, State.waitWr_frame, State.plainWr_frame, foldl_pwr, foldl_clk, foldl_clay, foldl_pending, and_self]

@[simp] theorem State.write32_frame (x0 x1 x2) : (State.write32 x0 x1 x2).pwr.powered = x0.pwr.powered ∧ (State.write32 x0 x1 x2).pwr.rstN = x0.pwr.rstN ∧ (State.write32 x0 x1 x2).pwr.hold = x0.pwr.hold ∧ (State.write32 x0 x1 x2).pwr.holdUp = x0.pwr.holdUp ∧ (State.write32 x0 x1 x2).pwr.stage = x0.pwr.stage ∧ (State.write32 x0 x1 x2).pwr.driven = x0.pwr.driven ∧ (State.write32 x0 x1 x2).clk = x0.clk ∧ (State.write32 x0 x1 x2).pending = x0.pending := by
  simp [State.write32, apply_ite State.pwr, apply_ite Pwr.powered, apply_ite Pwr.rstN, apply_ite Pwr.hold, apply_ite Pwr.holdUp, apply_ite Pwr.stage, apply_ite Pwr.driven, apply_ite State.clk, apply_ite State.pending]

theorem of_ite_some {c : Prop} [Decidable c] {a b : Option State} {t : State} {P : Prop} (h : (if c then a else b) = some t)
    (ha : a = some t → P) (hb : b = some t → P) : P := by
  split at h
  · exact ha h
  · exact hb h

theorem State.winWr_frame (x0 x1 x2 x3) (t : State) (h : (State.winWr x0 x1 x2 x3) = some t) : t.pwr = x0.pwr ∧ t.clk = x0.clk ∧ t.clay = x0.clay ∧ t.pending = x0.pending := by
  unfold State.winWr at h
  refine of_ite_some h (fun h => ?_) (fun h => ?_)
  · obtain rfl := Option.some.inj h; (repeat' apply And.intro) <;> rfl
  refine of_ite_some h (fun h => ?_) (fun h => ?_)
  · obtain rfl := Option.some.inj h; simp only [State.imgWrite_frame, and_self]
  refine of_ite_some h (fun h => ?_) (fun h => ?_)
  · obtain rfl := Option.some.inj h; simp only [State.rtWrite_frame, and_self]
  refine of_ite_some h (fun h => ?_) (fun h => ?_)
  · obtain rfl := Option.some.inj h; (repeat' apply And.intro) <;> rfl
  refine of_ite_some h (fun h => ?_) (fun h => ?_)
  · obtain rfl := Option.some.inj h; simp only [State.extWinWrite_frame, and_self]
  refine of_ite_some h (fun h => ?_) (fun h => ?_)
  · obtain rfl := Option.some.inj h; simp only [State.ttWrite_frame, and_self]
  refine of_ite_some h (fun h => ?_) (fun h => ?_)
  · obtain rfl := Option.some.inj h; simp only [State.ehdrWrite_frame, and_self]
  refine of_ite_some h (fun h => ?_) (fun h => ?_)
  · obtain rfl := Option.some.inj h; simp only [State.ewinWrite_frame, and_self]
  refine of_ite_some h (fun h => ?_) (fun h => ?_)
  · obtain rfl := Option.some.inj h; simp only [State.gwinWrite_frame, and_self]
  refine of_ite_some h (fun h => ?_) (fun h => ?_)
  · obtain rfl := Option.some.inj h; (repeat' apply And.intro) <;> rfl
  refine of_ite_some h (fun h => ?_) (fun h => ?_)
  · obtain rfl := Option.some.inj h; split <;> ((repeat' apply And.intro) <;> rfl)
  refine of_ite_some h (fun h => ?_) (fun h => ?_)
  · obtain rfl := Option.some.inj h; split <;> ((repeat' apply And.intro) <;> rfl)
  cases h

@[simp] theorem State.barWrite_frame (x0 x1 x2 x3) : (State.barWrite x0 x1 x2 x3).pwr.powered = x0.pwr.powered ∧ (State.barWrite x0 x1 x2 x3).pwr.rstN = x0.pwr.rstN ∧ (State.barWrite x0 x1 x2 x3).pwr.hold = x0.pwr.hold ∧ (State.barWrite x0 x1 x2 x3).pwr.holdUp = x0.pwr.holdUp ∧ (State.barWrite x0 x1 x2 x3).pwr.stage = x0.pwr.stage ∧ (State.barWrite x0 x1 x2 x3).pwr.driven = x0.pwr.driven ∧ (State.barWrite x0 x1 x2 x3).clk = x0.clk ∧ (State.barWrite x0 x1 x2 x3).pending = x0.pending := by
  unfold State.barWrite
  split
  · have := State.winWr_frame _ _ _ _ _ ‹_ = some _›
    simp [this]
  · dsimp only
    split <;> simp

@[simp] theorem State.hostWriteReg_frame (x0 x1 x2 x3) : (State.hostWriteReg x0 x1 x2 x3).pwr.powered = x0.pwr.powered ∧ (State.hostWriteReg x0 x1 x2 x3).pwr.rstN = x0.pwr.rstN ∧ (State.hostWriteReg x0 x1 x2 x3).pwr.hold = x0.pwr.hold ∧ (State.hostWriteReg x0 x1 x2 x3).pwr.holdUp = x0.pwr.holdUp ∧ (State.hostWriteReg x0 x1 x2 x3).pwr.stage = x0.pwr.stage ∧ (State.hostWriteReg x0 x1 x2 x3).pwr.driven = x0.pwr.driven ∧ (State.hostWriteReg x0 x1 x2 x3).clk = x0.clk ∧ (State.hostWriteReg x0 x1 x2 x3).pending = x0.pending := by
  unfold State.hostWriteReg; (try dsimp only); (repeat' split) <;> simp only [State.barWrite_frame, State.emit_frame, foldl_powered, foldl_rstN, foldl_hold, foldl_holdUp, foldl_stage, foldl_driven, foldl_clk, foldl_pending, and_self]

@[simp] theorem State.hostReadReg_frame (x0 x1) : (State.hostReadReg x0 x1).pwr = x0.pwr ∧ (State.hostReadReg x0 x1).clk = x0.clk ∧ (State.hostReadReg x0 x1).clay = x0.clay ∧ (State.hostReadReg x0 x1).mems = x0.mems ∧ (State.hostReadReg x0 x1).pending = x0.pending := by
  unfold State.hostReadReg; (try dsimp only); (repeat' split) <;> simp only [State.read32_frame, State.emit_frame, foldl_pwr, foldl_clk, foldl_clay, foldl_mems, foldl_pending, and_self]

@[simp] theorem State.issueApt_frame (x0 x1 x2) : (State.issueApt x0 x1 x2).2.pwr = x0.pwr ∧ (State.issueApt x0 x1 x2).2.clk = x0.clk ∧ (State.issueApt x0 x1 x2).2.clay = x0.clay ∧ (State.issueApt x0 x1 x2).2.mems = x0.mems ∧ (State.issueApt x0 x1 x2).2.pending = x0.pending := by
  unfold State.issueApt; (try dsimp only); (repeat' split) <;> simp only [State.nextSeq_frame, State.prevWrite_frame, State.sendReq_frame, foldl_pwr, foldl_clk, foldl_clay, foldl_mems, foldl_pending, and_self]

@[simp] theorem State.aptOne_frame (x0 x1 x2 x3 x4) : (State.aptOne x0 x1 x2 x3 x4).2.2.pwr = x0.pwr ∧ (State.aptOne x0 x1 x2 x3 x4).2.2.clk = x0.clk ∧ (State.aptOne x0 x1 x2 x3 x4).2.2.clay = x0.clay ∧ (State.aptOne x0 x1 x2 x3 x4).2.2.pending = x0.pending := by
  unfold State.aptOne; (try dsimp only); (repeat' split) <;> simp only [State.issueApt_frame, State.ackReq_frame, State.drawBytes_frame, State.post_frame, foldl_pwr, foldl_clk, foldl_clay, foldl_pending, and_self]

@[simp] theorem State.aptReads_frame (x0 x1 x2 x3 x4 x5) : (State.aptReads x0 x1 x2 x3 x4 x5).2.2.pwr = x5.pwr ∧ (State.aptReads x0 x1 x2 x3 x4 x5).2.2.clk = x5.clk ∧ (State.aptReads x0 x1 x2 x3 x4 x5).2.2.clay = x5.clay ∧ (State.aptReads x0 x1 x2 x3 x4 x5).2.2.pending = x5.pending := by
  induction x1 generalizing x0 x2 x3 x4 x5 <;> simp only [State.aptReads, *, and_self, apply_ite State.pwr, apply_ite State.clk, apply_ite State.clay, apply_ite State.pending] <;> (repeat' split) <;> simp [*, apply_ite State.pwr, apply_ite State.clk, apply_ite State.clay, apply_ite State.pending]

@[simp] theorem State.aptWrites_frame (x0 x1 x2 x3 x4 x5) : (State.aptWrites x0 x1 x2 x3 x4 x5).pwr = x5.pwr ∧ (State.aptWrites x0 x1 x2 x3 x4 x5).clk = x5.clk ∧ (State.aptWrites x0 x1 x2 x3 x4 x5).clay = x5.clay ∧ (State.aptWrites x0 x1 x2 x3 x4 x5).pending = x5.pending := by
  induction x1 generalizing x0 x2 x3 x4 x5 <;> simp only [State.aptWrites, *, and_self, apply_ite State.pwr, apply_ite State.clk, apply_ite State.clay, apply_ite State.pending] <;> (repeat' split) <;> simp [*, apply_ite State.pwr, apply_ite State.clk, apply_ite State.clay, apply_ite State.pending]

@[simp] theorem State.bar2Read_frame (x0 x1 x2 x3) : (State.bar2Read x0 x1 x2 x3).pwr = x0.pwr ∧ (State.bar2Read x0 x1 x2 x3).clk = x0.clk ∧ (State.bar2Read x0 x1 x2 x3).clay = x0.clay ∧ (State.bar2Read x0 x1 x2 x3).pending = x0.pending := by
  unfold State.bar2Read; (try dsimp only); (repeat' split) <;> simp only [State.emit_frame, State.aptReads_frame, foldl_pwr, foldl_clk, foldl_clay, foldl_pending, and_self]

@[simp] theorem State.bar2Write_frame (x0 x1 x2 x3) : (State.bar2Write x0 x1 x2 x3).pwr = x0.pwr ∧ (State.bar2Write x0 x1 x2 x3).clk = x0.clk ∧ (State.bar2Write x0 x1 x2 x3).clay = x0.clay ∧ (State.bar2Write x0 x1 x2 x3).pending = x0.pending := by
  unfold State.bar2Write; (try dsimp only); (repeat' split) <;> simp only [State.emit_frame, State.aptWrites_frame, foldl_pwr, foldl_clk, foldl_clay, foldl_pending, and_self]

@[simp] theorem State.mack_frame (x0 x1) : (State.mack x0 x1).pwr = x0.pwr ∧ (State.mack x0 x1).clk = x0.clk ∧ (State.mack x0 x1).clay = x0.clay ∧ (State.mack x0 x1).pending = x0.pending := by
  unfold State.mack; (try dsimp only); (repeat' split) <;> simp [*]

@[simp] theorem State.execBar_frame (x1 x2) : (State.execBar barWin x1 x2).pwr.powered = x1.pwr.powered ∧ (State.execBar barWin x1 x2).pwr.rstN = x1.pwr.rstN ∧ (State.execBar barWin x1 x2).pwr.hold = x1.pwr.hold ∧ (State.execBar barWin x1 x2).pwr.holdUp = x1.pwr.holdUp ∧ (State.execBar barWin x1 x2).pwr.stage = x1.pwr.stage ∧ (State.execBar barWin x1 x2).pwr.driven = x1.pwr.driven ∧ (State.execBar barWin x1 x2).clk = x1.clk ∧ (State.execBar barWin x1 x2).pending = x1.pending := by
  unfold State.execBar
  dsimp only [barWin]
  split <;> simp

@[simp] theorem State.perform_frame (x1 x2 x3 x4) : (State.perform barWin x1 x2 x3 x4).pwr.powered = x1.pwr.powered ∧ (State.perform barWin x1 x2 x3 x4).pwr.rstN = x1.pwr.rstN ∧ (State.perform barWin x1 x2 x3 x4).pwr.hold = x1.pwr.hold ∧ (State.perform barWin x1 x2 x3 x4).pwr.holdUp = x1.pwr.holdUp ∧ (State.perform barWin x1 x2 x3 x4).pwr.stage = x1.pwr.stage ∧ (State.perform barWin x1 x2 x3 x4).pwr.driven = x1.pwr.driven ∧ (State.perform barWin x1 x2 x3 x4).clk = x1.clk ∧ (State.perform barWin x1 x2 x3 x4).pending = x1.pending := by
  unfold State.perform; (try dsimp only); (repeat' split) <;> simp [*]

@[simp] theorem State.settle_frame (x1 x2 x3 x4) : (State.settle barWin x1 x2 x3 x4).pwr.powered = x1.pwr.powered ∧ (State.settle barWin x1 x2 x3 x4).pwr.rstN = x1.pwr.rstN ∧ (State.settle barWin x1 x2 x3 x4).pwr.hold = x1.pwr.hold ∧ (State.settle barWin x1 x2 x3 x4).pwr.holdUp = x1.pwr.holdUp ∧ (State.settle barWin x1 x2 x3 x4).pwr.stage = x1.pwr.stage ∧ (State.settle barWin x1 x2 x3 x4).pwr.driven = x1.pwr.driven ∧ (State.settle barWin x1 x2 x3 x4).clk = x1.clk ∧ (State.settle barWin x1 x2 x3 x4).pending = x1.pending := by
  unfold State.settle; (try dsimp only); (repeat' split) <;> simp [*]

@[simp] theorem State.admitReq_frame (x1 x2 x3) : (State.admitReq barWin x1 x2 x3).pwr.powered = x1.pwr.powered ∧ (State.admitReq barWin x1 x2 x3).pwr.rstN = x1.pwr.rstN ∧ (State.admitReq barWin x1 x2 x3).pwr.hold = x1.pwr.hold ∧ (State.admitReq barWin x1 x2 x3).pwr.holdUp = x1.pwr.holdUp ∧ (State.admitReq barWin x1 x2 x3).pwr.stage = x1.pwr.stage ∧ (State.admitReq barWin x1 x2 x3).pwr.driven = x1.pwr.driven ∧ (State.admitReq barWin x1 x2 x3).clk = x1.clk ∧ (State.admitReq barWin x1 x2 x3).pending = x1.pending := by
  unfold State.admitReq; (try dsimp only); (repeat' split) <;> simp only [State.countRevoked_frame, State.reply_frame, State.capture_frame, State.settle_frame, foldl_powered, foldl_rstN, foldl_hold, foldl_holdUp, foldl_stage, foldl_driven, foldl_clk, foldl_pending, and_self]

@[simp] theorem State.sedDrain_frame (x1 x2) : (State.sedDrain barWin x1 x2).pwr.powered = x2.pwr.powered ∧ (State.sedDrain barWin x1 x2).pwr.rstN = x2.pwr.rstN ∧ (State.sedDrain barWin x1 x2).pwr.hold = x2.pwr.hold ∧ (State.sedDrain barWin x1 x2).pwr.holdUp = x2.pwr.holdUp ∧ (State.sedDrain barWin x1 x2).pwr.stage = x2.pwr.stage ∧ (State.sedDrain barWin x1 x2).pwr.driven = x2.pwr.driven ∧ (State.sedDrain barWin x1 x2).clk = x2.clk ∧ (State.sedDrain barWin x1 x2).pending = x2.pending := by
  induction x1 generalizing x2 <;> simp only [State.sedDrain, *, and_self, apply_ite State.pwr, apply_ite Pwr.powered, apply_ite Pwr.rstN, apply_ite Pwr.hold, apply_ite Pwr.holdUp, apply_ite Pwr.stage, apply_ite Pwr.driven, apply_ite State.clk, apply_ite State.pending] <;> (repeat' split) <;> simp [*, apply_ite State.pwr, apply_ite Pwr.powered, apply_ite Pwr.rstN, apply_ite Pwr.hold, apply_ite Pwr.holdUp, apply_ite Pwr.stage, apply_ite Pwr.driven, apply_ite State.clk, apply_ite State.pending]

@[simp] theorem State.runReq_frame (x1 x2 x3) : (State.runReq barWin x1 x2 x3).pwr.powered = x1.pwr.powered ∧ (State.runReq barWin x1 x2 x3).pwr.rstN = x1.pwr.rstN ∧ (State.runReq barWin x1 x2 x3).pwr.hold = x1.pwr.hold ∧ (State.runReq barWin x1 x2 x3).pwr.holdUp = x1.pwr.holdUp ∧ (State.runReq barWin x1 x2 x3).pwr.stage = x1.pwr.stage ∧ (State.runReq barWin x1 x2 x3).pwr.driven = x1.pwr.driven ∧ (State.runReq barWin x1 x2 x3).clk = x1.clk ∧ (State.runReq barWin x1 x2 x3).pending = x1.pending := by
  unfold State.runReq; (try dsimp only); (repeat' split) <;> simp [*]

@[simp] theorem State.drainHeld_frame (x1 x2) : (State.drainHeld barWin x1 x2).pwr.powered = x2.pwr.powered ∧ (State.drainHeld barWin x1 x2).pwr.rstN = x2.pwr.rstN ∧ (State.drainHeld barWin x1 x2).pwr.hold = x2.pwr.hold ∧ (State.drainHeld barWin x1 x2).pwr.holdUp = x2.pwr.holdUp ∧ (State.drainHeld barWin x1 x2).pwr.stage = x2.pwr.stage ∧ (State.drainHeld barWin x1 x2).pwr.driven = x2.pwr.driven ∧ (State.drainHeld barWin x1 x2).clk = x2.clk ∧ (State.drainHeld barWin x1 x2).pending = x2.pending := by
  induction x1 generalizing x2 <;> simp only [State.drainHeld, *, and_self, apply_ite State.pwr, apply_ite Pwr.powered, apply_ite Pwr.rstN, apply_ite Pwr.hold, apply_ite Pwr.holdUp, apply_ite Pwr.stage, apply_ite Pwr.driven, apply_ite State.clk, apply_ite State.pending] <;> (repeat' split) <;> simp [*, apply_ite State.pwr, apply_ite Pwr.powered, apply_ite Pwr.rstN, apply_ite Pwr.hold, apply_ite Pwr.holdUp, apply_ite Pwr.stage, apply_ite Pwr.driven, apply_ite State.clk, apply_ite State.pending]

@[simp] theorem State.release_frame (x1) : (State.release barWin x1).pwr.powered = x1.pwr.powered ∧ (State.release barWin x1).pwr.rstN = x1.pwr.rstN ∧ (State.release barWin x1).pwr.hold = x1.pwr.hold ∧ (State.release barWin x1).pwr.holdUp = x1.pwr.holdUp ∧ (State.release barWin x1).pwr.stage = x1.pwr.stage ∧ (State.release barWin x1).pwr.driven = x1.pwr.driven ∧ (State.release barWin x1).clk = x1.clk ∧ (State.release barWin x1).pending = x1.pending := by
  unfold State.release; (try dsimp only); (repeat' split) <;> simp only [State.drainHeld_frame, foldl_powered, foldl_rstN, foldl_hold, foldl_holdUp, foldl_stage, foldl_driven, foldl_clk, foldl_pending, and_self]

@[simp] theorem State.duplicate_frame (x1 x2 x3) : (State.duplicate barWin x1 x2 x3).pwr.powered = x1.pwr.powered ∧ (State.duplicate barWin x1 x2 x3).pwr.rstN = x1.pwr.rstN ∧ (State.duplicate barWin x1 x2 x3).pwr.hold = x1.pwr.hold ∧ (State.duplicate barWin x1 x2 x3).pwr.holdUp = x1.pwr.holdUp ∧ (State.duplicate barWin x1 x2 x3).pwr.stage = x1.pwr.stage ∧ (State.duplicate barWin x1 x2 x3).pwr.driven = x1.pwr.driven ∧ (State.duplicate barWin x1 x2 x3).clk = x1.clk ∧ (State.duplicate barWin x1 x2 x3).pending = x1.pending := by
  unfold State.duplicate; (try dsimp only); (repeat' split) <;> simp only [State.admitReq_frame, State.sendCpl_frame, foldl_powered, foldl_rstN, foldl_hold, foldl_holdUp, foldl_stage, foldl_driven, foldl_clk, foldl_pending, and_self]

@[simp] theorem State.homeTake_frame (x1 x2 x3) : (State.homeTake barWin x1 x2 x3).pwr.powered = x1.pwr.powered ∧ (State.homeTake barWin x1 x2 x3).pwr.rstN = x1.pwr.rstN ∧ (State.homeTake barWin x1 x2 x3).pwr.hold = x1.pwr.hold ∧ (State.homeTake barWin x1 x2 x3).pwr.holdUp = x1.pwr.holdUp ∧ (State.homeTake barWin x1 x2 x3).pwr.stage = x1.pwr.stage ∧ (State.homeTake barWin x1 x2 x3).pwr.driven = x1.pwr.driven ∧ (State.homeTake barWin x1 x2 x3).clk = x1.clk ∧ (State.homeTake barWin x1 x2 x3).pending = x1.pending := by
  unfold State.homeTake; (try dsimp only); (repeat' split) <;> simp only [State.admitReq_frame, State.sendCpl_frame, State.copyAnswer_frame, State.duplicate_frame, State.runReq_frame, State.adoptSeries_frame, State.release_frame, State.seriesAdvance_frame, foldl_powered, foldl_rstN, foldl_hold, foldl_holdUp, foldl_stage, foldl_driven, foldl_clk, foldl_pending, and_self]

@[simp] theorem State.homeArrive_frame (x1 x2 x3) : (State.homeArrive barWin x1 x2 x3).pwr.powered = x1.pwr.powered ∧ (State.homeArrive barWin x1 x2 x3).pwr.rstN = x1.pwr.rstN ∧ (State.homeArrive barWin x1 x2 x3).pwr.hold = x1.pwr.hold ∧ (State.homeArrive barWin x1 x2 x3).pwr.holdUp = x1.pwr.holdUp ∧ (State.homeArrive barWin x1 x2 x3).pwr.stage = x1.pwr.stage ∧ (State.homeArrive barWin x1 x2 x3).pwr.driven = x1.pwr.driven ∧ (State.homeArrive barWin x1 x2 x3).clk = x1.clk ∧ (State.homeArrive barWin x1 x2 x3).pending = x1.pending := by
  unfold State.homeArrive; (try dsimp only); (repeat' split) <;> simp only [State.serveMirror_frame, State.incF_frame, State.homeTake_frame, State.supply_frame, foldl_powered, foldl_rstN, foldl_hold, foldl_holdUp, foldl_stage, foldl_driven, foldl_clk, foldl_pending, and_self]

@[simp] theorem State.drainBusy_frame (x1 x2) : (State.drainBusy barWin x1 x2).pwr.powered = x2.pwr.powered ∧ (State.drainBusy barWin x1 x2).pwr.rstN = x2.pwr.rstN ∧ (State.drainBusy barWin x1 x2).pwr.hold = x2.pwr.hold ∧ (State.drainBusy barWin x1 x2).pwr.holdUp = x2.pwr.holdUp ∧ (State.drainBusy barWin x1 x2).pwr.stage = x2.pwr.stage ∧ (State.drainBusy barWin x1 x2).pwr.driven = x2.pwr.driven ∧ (State.drainBusy barWin x1 x2).clk = x2.clk ∧ (State.drainBusy barWin x1 x2).pending = x2.pending := by
  induction x1 generalizing x2 <;> simp only [State.drainBusy, *, and_self, apply_ite State.pwr, apply_ite Pwr.powered, apply_ite Pwr.rstN, apply_ite Pwr.hold, apply_ite Pwr.holdUp, apply_ite Pwr.stage, apply_ite Pwr.driven, apply_ite State.clk, apply_ite State.pending] <;> (repeat' split) <;> simp [*, apply_ite State.pwr, apply_ite Pwr.powered, apply_ite Pwr.rstN, apply_ite Pwr.hold, apply_ite Pwr.holdUp, apply_ite Pwr.stage, apply_ite Pwr.driven, apply_ite State.clk, apply_ite State.pending]

@[simp] theorem State.txnEnd_frame (x1 x2) : (State.txnEnd barWin x1 x2).pwr.powered = x1.pwr.powered ∧ (State.txnEnd barWin x1 x2).pwr.rstN = x1.pwr.rstN ∧ (State.txnEnd barWin x1 x2).pwr.hold = x1.pwr.hold ∧ (State.txnEnd barWin x1 x2).pwr.holdUp = x1.pwr.holdUp ∧ (State.txnEnd barWin x1 x2).pwr.stage = x1.pwr.stage ∧ (State.txnEnd barWin x1 x2).pwr.driven = x1.pwr.driven ∧ (State.txnEnd barWin x1 x2).clk = x1.clk ∧ (State.txnEnd barWin x1 x2).pending = x1.pending := by
  unfold State.txnEnd; (try dsimp only); (repeat' split) <;> simp [*]

@[simp] theorem State.sidDone_frame (x1 x2 x3) : (State.sidDone barWin x1 x2 x3).pwr.powered = x1.pwr.powered ∧ (State.sidDone barWin x1 x2 x3).pwr.rstN = x1.pwr.rstN ∧ (State.sidDone barWin x1 x2 x3).pwr.hold = x1.pwr.hold ∧ (State.sidDone barWin x1 x2 x3).pwr.holdUp = x1.pwr.holdUp ∧ (State.sidDone barWin x1 x2 x3).pwr.stage = x1.pwr.stage ∧ (State.sidDone barWin x1 x2 x3).pwr.driven = x1.pwr.driven ∧ (State.sidDone barWin x1 x2 x3).clk = x1.clk ∧ (State.sidDone barWin x1 x2 x3).pending = x1.pending := by
  unfold State.sidDone; (try dsimp only); (repeat' split) <;> simp only [State.txnEnd_frame, foldl_powered, foldl_rstN, foldl_hold, foldl_holdUp, foldl_stage, foldl_driven, foldl_clk, foldl_pending, and_self]

@[simp] theorem State.snoopResponse_frame (x1 x2 x3) : (State.snoopResponse barWin x1 x2 x3).pwr.powered = x1.pwr.powered ∧ (State.snoopResponse barWin x1 x2 x3).pwr.rstN = x1.pwr.rstN ∧ (State.snoopResponse barWin x1 x2 x3).pwr.hold = x1.pwr.hold ∧ (State.snoopResponse barWin x1 x2 x3).pwr.holdUp = x1.pwr.holdUp ∧ (State.snoopResponse barWin x1 x2 x3).pwr.stage = x1.pwr.stage ∧ (State.snoopResponse barWin x1 x2 x3).pwr.driven = x1.pwr.driven ∧ (State.snoopResponse barWin x1 x2 x3).clk = x1.clk ∧ (State.snoopResponse barWin x1 x2 x3).pending = x1.pending := by
  unfold State.snoopResponse; (try dsimp only); (repeat' split) <;> simp [*]

@[simp] theorem State.resolveSids_frame (x1 x2 x3) : (State.resolveSids barWin x1 x2 x3).pwr.powered = x3.pwr.powered ∧ (State.resolveSids barWin x1 x2 x3).pwr.rstN = x3.pwr.rstN ∧ (State.resolveSids barWin x1 x2 x3).pwr.hold = x3.pwr.hold ∧ (State.resolveSids barWin x1 x2 x3).pwr.holdUp = x3.pwr.holdUp ∧ (State.resolveSids barWin x1 x2 x3).pwr.stage = x3.pwr.stage ∧ (State.resolveSids barWin x1 x2 x3).pwr.driven = x3.pwr.driven ∧ (State.resolveSids barWin x1 x2 x3).clk = x3.clk ∧ (State.resolveSids barWin x1 x2 x3).pending = x3.pending := by
  induction x2 generalizing x3 <;> simp only [State.resolveSids, *, and_self, apply_ite State.pwr, apply_ite Pwr.powered, apply_ite Pwr.rstN, apply_ite Pwr.hold, apply_ite Pwr.holdUp, apply_ite Pwr.stage, apply_ite Pwr.driven, apply_ite State.clk, apply_ite State.pending] <;> (repeat' split) <;> simp [*, apply_ite State.pwr, apply_ite Pwr.powered, apply_ite Pwr.rstN, apply_ite Pwr.hold, apply_ite Pwr.holdUp, apply_ite Pwr.stage, apply_ite Pwr.driven, apply_ite State.clk, apply_ite State.pending]

@[simp] theorem State.agentDrop_frame (x1 x2) : (State.agentDrop barWin x1 x2).pwr.powered = x1.pwr.powered ∧ (State.agentDrop barWin x1 x2).pwr.rstN = x1.pwr.rstN ∧ (State.agentDrop barWin x1 x2).pwr.hold = x1.pwr.hold ∧ (State.agentDrop barWin x1 x2).pwr.holdUp = x1.pwr.holdUp ∧ (State.agentDrop barWin x1 x2).pwr.stage = x1.pwr.stage ∧ (State.agentDrop barWin x1 x2).pwr.driven = x1.pwr.driven ∧ (State.agentDrop barWin x1 x2).clk = x1.clk ∧ (State.agentDrop barWin x1 x2).pending = x1.pending := by
  unfold State.agentDrop; (try dsimp only); (repeat' split) <;> simp [*]

@[simp] theorem State.reclaimTimeout_frame (x1 x2) : (State.reclaimTimeout barWin x1 x2).pwr.powered = x1.pwr.powered ∧ (State.reclaimTimeout barWin x1 x2).pwr.rstN = x1.pwr.rstN ∧ (State.reclaimTimeout barWin x1 x2).pwr.hold = x1.pwr.hold ∧ (State.reclaimTimeout barWin x1 x2).pwr.holdUp = x1.pwr.holdUp ∧ (State.reclaimTimeout barWin x1 x2).pwr.stage = x1.pwr.stage ∧ (State.reclaimTimeout barWin x1 x2).pwr.driven = x1.pwr.driven ∧ (State.reclaimTimeout barWin x1 x2).clk = x1.clk ∧ (State.reclaimTimeout barWin x1 x2).pending = x1.pending := by
  unfold State.reclaimTimeout; (try dsimp only); (repeat' split) <;> simp [*]

@[simp] theorem State.applyCmd_frame (x1 x2) : (State.applyCmd barWin x1 x2).pwr.powered = x1.pwr.powered ∧ (State.applyCmd barWin x1 x2).pwr.rstN = x1.pwr.rstN ∧ (State.applyCmd barWin x1 x2).pwr.hold = x1.pwr.hold ∧ (State.applyCmd barWin x1 x2).pwr.holdUp = x1.pwr.holdUp ∧ (State.applyCmd barWin x1 x2).pwr.stage = x1.pwr.stage ∧ (State.applyCmd barWin x1 x2).pwr.driven = x1.pwr.driven ∧ (State.applyCmd barWin x1 x2).clk = x1.clk ∧ (State.applyCmd barWin x1 x2).pending = x1.pending := by
  unfold State.applyCmd; (try dsimp only); (repeat' split) <;> simp [*]

@[simp] theorem State.extDone_frame (x1) : (State.extDone barWin x1).pwr.powered = x1.pwr.powered ∧ (State.extDone barWin x1).pwr.rstN = x1.pwr.rstN ∧ (State.extDone barWin x1).pwr.hold = x1.pwr.hold ∧ (State.extDone barWin x1).pwr.holdUp = x1.pwr.holdUp ∧ (State.extDone barWin x1).pwr.stage = x1.pwr.stage ∧ (State.extDone barWin x1).pwr.driven = x1.pwr.driven ∧ (State.extDone barWin x1).clk = x1.clk ∧ (State.extDone barWin x1).pending = x1.pending := by
  unfold State.extDone; (try dsimp only); (repeat' split) <;> simp only [State.setF_frame, State.applyCmd_frame, foldl_powered, foldl_rstN, foldl_hold, foldl_holdUp, foldl_stage, foldl_driven, foldl_clk, foldl_pending, and_self]

@[simp] theorem State.extTimed_frame (x1) : (State.extTimed barWin x1).pwr.powered = x1.pwr.powered ∧ (State.extTimed barWin x1).pwr.rstN = x1.pwr.rstN ∧ (State.extTimed barWin x1).pwr.hold = x1.pwr.hold ∧ (State.extTimed barWin x1).pwr.holdUp = x1.pwr.holdUp ∧ (State.extTimed barWin x1).pwr.stage = x1.pwr.stage ∧ (State.extTimed barWin x1).pwr.driven = x1.pwr.driven ∧ (State.extTimed barWin x1).clk = x1.clk ∧ (State.extTimed barWin x1).pending = x1.pending := by
  unfold State.extTimed; (try dsimp only); (repeat' split) <;> simp only [State.post_frame, State.applyCmd_frame, foldl_powered, foldl_rstN, foldl_hold, foldl_holdUp, foldl_stage, foldl_driven, foldl_clk, foldl_pending, and_self]

@[simp] theorem State.sedRelease_frame (x1 x2) : (State.sedRelease barWin x1 x2).pwr.powered = x2.pwr.powered ∧ (State.sedRelease barWin x1 x2).pwr.rstN = x2.pwr.rstN ∧ (State.sedRelease barWin x1 x2).pwr.hold = x2.pwr.hold ∧ (State.sedRelease barWin x1 x2).pwr.holdUp = x2.pwr.holdUp ∧ (State.sedRelease barWin x1 x2).pwr.stage = x2.pwr.stage ∧ (State.sedRelease barWin x1 x2).pwr.driven = x2.pwr.driven ∧ (State.sedRelease barWin x1 x2).clk = x2.clk ∧ (State.sedRelease barWin x1 x2).pending = x2.pending := by
  induction x1 generalizing x2 <;> simp only [State.sedRelease, *, and_self, apply_ite State.pwr, apply_ite Pwr.powered, apply_ite Pwr.rstN, apply_ite Pwr.hold, apply_ite Pwr.holdUp, apply_ite Pwr.stage, apply_ite Pwr.driven, apply_ite State.clk, apply_ite State.pending] <;> (repeat' split) <;> simp [*, apply_ite State.pwr, apply_ite Pwr.powered, apply_ite Pwr.rstN, apply_ite Pwr.hold, apply_ite Pwr.holdUp, apply_ite Pwr.stage, apply_ite Pwr.driven, apply_ite State.clk, apply_ite State.pending]

@[simp] theorem State.sedAct_frame (x1 x2) : (State.sedAct barWin x1 x2).pwr.powered = x1.pwr.powered ∧ (State.sedAct barWin x1 x2).pwr.rstN = x1.pwr.rstN ∧ (State.sedAct barWin x1 x2).pwr.hold = x1.pwr.hold ∧ (State.sedAct barWin x1 x2).pwr.holdUp = x1.pwr.holdUp ∧ (State.sedAct barWin x1 x2).pwr.stage = x1.pwr.stage ∧ (State.sedAct barWin x1 x2).pwr.driven = x1.pwr.driven ∧ (State.sedAct barWin x1 x2).clk = x1.clk ∧ (State.sedAct barWin x1 x2).pending = x1.pending := by
  unfold State.sedAct; (try dsimp only); (repeat' split) <;> simp only [State.takeWrs_frame, State.setF_frame, State.release_frame, State.sedRelease_frame, State.sedJobs_frame, foldl_powered, foldl_rstN, foldl_hold, foldl_holdUp, foldl_stage, foldl_driven, foldl_clk, foldl_pending, and_self]

@[simp] theorem State.sedOp_frame (x1 x2) : (State.sedOp barWin x1 x2).pwr.powered = x1.pwr.powered ∧ (State.sedOp barWin x1 x2).pwr.rstN = x1.pwr.rstN ∧ (State.sedOp barWin x1 x2).pwr.hold = x1.pwr.hold ∧ (State.sedOp barWin x1 x2).pwr.holdUp = x1.pwr.holdUp ∧ (State.sedOp barWin x1 x2).pwr.stage = x1.pwr.stage ∧ (State.sedOp barWin x1 x2).pwr.driven = x1.pwr.driven ∧ (State.sedOp barWin x1 x2).clk = x1.clk ∧ (State.sedOp barWin x1 x2).pending = x1.pending := by
  unfold State.sedOp; (try dsimp only); (repeat' split) <;> simp only [State.sedAct_frame, State.sedCmdWrite_frame, foldl_powered, foldl_rstN, foldl_hold, foldl_holdUp, foldl_stage, foldl_driven, foldl_clk, foldl_pending, and_self]

@[simp] theorem State.sedSlot_frame (x1 x2) : (State.sedSlot barWin x1 x2).pwr.powered = x1.pwr.powered ∧ (State.sedSlot barWin x1 x2).pwr.rstN = x1.pwr.rstN ∧ (State.sedSlot barWin x1 x2).pwr.hold = x1.pwr.hold ∧ (State.sedSlot barWin x1 x2).pwr.holdUp = x1.pwr.holdUp ∧ (State.sedSlot barWin x1 x2).pwr.stage = x1.pwr.stage ∧ (State.sedSlot barWin x1 x2).pwr.driven = x1.pwr.driven ∧ (State.sedSlot barWin x1 x2).clk = x1.clk ∧ (State.sedSlot barWin x1 x2).pending = x1.pending := by
  unfold State.sedSlot; (try dsimp only); (repeat' split) <;> simp [*]

@[simp] theorem idle_frame (x0) : (idle x0).pwr = x0.pwr ∧ (idle x0).clay = x0.clay ∧ (idle x0).mems = x0.mems ∧ (idle x0).pending = x0.pending := by
  unfold idle; (try dsimp only); (repeat' split) <;> simp [*]

end Sys2Proof.Machine
end

