-- ==== Sys2Proof/Laws/Post.lean ====
section
/-!
SUPPORT. Posting an event changes registers, the event rings and what leaves the node, nothing else: a `_rest` lemma names what stays.
Posting an event of the node writes no memory: only a record of a descriptor with IRQ may set a pending bit of the MSI-X table.
-/

namespace Sys2Proof.Machine

/-- What every step of a loop keeps, the loop keeps. -/
theorem upto_keep {α : Type} (g : State → α) (f : Nat → State → State) (n : Nat) (s : State) (h : ∀ i s, g (f i s) = g s) :
    g (upto f n s) = g s := by
  induction n with
  | zero => rfl
  | succ n ih => simp only [upto, h, ih]

theorem foldl_keep {α β : Type} (g : State → α) (f : State → β → State) (l : List β) (s : State) (h : ∀ s b, g (f s b) = g s) :
    g (l.foldl f s) = g s := by
  induction l generalizing s with
  | nil => rfl
  | cons b l ih => simp only [List.foldl_cons, ih, h]

@[simp] theorem upto_part (f : Nat → State → State) (n : Nat) (s : State) (h : ∀ i s, (f i s).part = s.part) : (upto f n s).part = s.part :=
  upto_keep State.part f n s h
@[simp] theorem foldl_part {α : Type} (f : State → α → State) (l : List α) (s : State) (h : ∀ s a, (f s a).part = s.part) :
    (l.foldl f s).part = s.part := foldl_keep State.part f l s h
@[simp] theorem upto_eff (f : Nat → State → State) (n : Nat) (s : State) (h : ∀ i s, (f i s).eff = s.eff) : (upto f n s).eff = s.eff :=
  upto_keep State.eff f n s h
@[simp] theorem foldl_eff {α : Type} (f : State → α → State) (l : List α) (s : State) (h : ∀ s a, (f s a).eff = s.eff) :
    (l.foldl f s).eff = s.eff := foldl_keep State.eff f l s h
@[simp] theorem upto_later (f : Nat → State → State) (n : Nat) (s : State) (h : ∀ i s, (f i s).later = s.later) : (upto f n s).later = s.later :=
  upto_keep State.later f n s h
@[simp] theorem foldl_later {α : Type} (f : State → α → State) (l : List α) (s : State) (h : ∀ s a, (f s a).later = s.later) :
    (l.foldl f s).later = s.later := foldl_keep State.later f l s h
@[simp] theorem upto_lat (f : Nat → State → State) (n : Nat) (s : State) (h : ∀ i s, (f i s).lat = s.lat) : (upto f n s).lat = s.lat :=
  upto_keep State.lat f n s h
@[simp] theorem foldl_lat {α : Type} (f : State → α → State) (l : List α) (s : State) (h : ∀ s a, (f s a).lat = s.lat) :
    (l.foldl f s).lat = s.lat := foldl_keep State.lat f l s h
@[simp] theorem upto_xlt (f : Nat → State → State) (n : Nat) (s : State) (h : ∀ i s, (f i s).xlt = s.xlt) : (upto f n s).xlt = s.xlt :=
  upto_keep State.xlt f n s h
@[simp] theorem foldl_xlt {α : Type} (f : State → α → State) (l : List α) (s : State) (h : ∀ s a, (f s a).xlt = s.xlt) :
    (l.foldl f s).xlt = s.xlt := foldl_keep State.xlt f l s h
@[simp] theorem upto_ep (f : Nat → State → State) (n : Nat) (s : State) (h : ∀ i s, (f i s).ep = s.ep) : (upto f n s).ep = s.ep :=
  upto_keep State.ep f n s h
@[simp] theorem foldl_ep {α : Type} (f : State → α → State) (l : List α) (s : State) (h : ∀ s a, (f s a).ep = s.ep) :
    (l.foldl f s).ep = s.ep := foldl_keep State.ep f l s h
@[simp] theorem upto_home (f : Nat → State → State) (n : Nat) (s : State) (h : ∀ i s, (f i s).home = s.home) : (upto f n s).home = s.home :=
  upto_keep State.home f n s h
@[simp] theorem foldl_home {α : Type} (f : State → α → State) (l : List α) (s : State) (h : ∀ s a, (f s a).home = s.home) :
    (l.foldl f s).home = s.home := foldl_keep State.home f l s h
@[simp] theorem upto_syn (f : Nat → State → State) (n : Nat) (s : State) (h : ∀ i s, (f i s).syn = s.syn) : (upto f n s).syn = s.syn :=
  upto_keep State.syn f n s h
@[simp] theorem foldl_syn {α : Type} (f : State → α → State) (l : List α) (s : State) (h : ∀ s a, (f s a).syn = s.syn) :
    (l.foldl f s).syn = s.syn := foldl_keep State.syn f l s h
@[simp] theorem upto_flt (f : Nat → State → State) (n : Nat) (s : State) (h : ∀ i s, (f i s).flt = s.flt) : (upto f n s).flt = s.flt :=
  upto_keep State.flt f n s h
@[simp] theorem foldl_flt {α : Type} (f : State → α → State) (l : List α) (s : State) (h : ∀ s a, (f s a).flt = s.flt) :
    (l.foldl f s).flt = s.flt := foldl_keep State.flt f l s h
@[simp] theorem upto_dtt (f : Nat → State → State) (n : Nat) (s : State) (h : ∀ i s, (f i s).dtt = s.dtt) : (upto f n s).dtt = s.dtt :=
  upto_keep State.dtt f n s h
@[simp] theorem foldl_dtt {α : Type} (f : State → α → State) (l : List α) (s : State) (h : ∀ s a, (f s a).dtt = s.dtt) :
    (l.foldl f s).dtt = s.dtt := foldl_keep State.dtt f l s h
@[simp] theorem upto_lan (f : Nat → State → State) (n : Nat) (s : State) (h : ∀ i s, (f i s).lan = s.lan) : (upto f n s).lan = s.lan :=
  upto_keep State.lan f n s h
@[simp] theorem foldl_lan {α : Type} (f : State → α → State) (l : List α) (s : State) (h : ∀ s a, (f s a).lan = s.lan) :
    (l.foldl f s).lan = s.lan := foldl_keep State.lan f l s h
@[simp] theorem upto_swc (f : Nat → State → State) (n : Nat) (s : State) (h : ∀ i s, (f i s).swc = s.swc) : (upto f n s).swc = s.swc :=
  upto_keep State.swc f n s h
@[simp] theorem foldl_swc {α : Type} (f : State → α → State) (l : List α) (s : State) (h : ∀ s a, (f s a).swc = s.swc) :
    (l.foldl f s).swc = s.swc := foldl_keep State.swc f l s h
@[simp] theorem upto_eng (f : Nat → State → State) (n : Nat) (s : State) (h : ∀ i s, (f i s).eng = s.eng) : (upto f n s).eng = s.eng :=
  upto_keep State.eng f n s h
@[simp] theorem foldl_eng {α : Type} (f : State → α → State) (l : List α) (s : State) (h : ∀ s a, (f s a).eng = s.eng) :
    (l.foldl f s).eng = s.eng := foldl_keep State.eng f l s h
@[simp] theorem upto_grp (f : Nat → State → State) (n : Nat) (s : State) (h : ∀ i s, (f i s).grp = s.grp) : (upto f n s).grp = s.grp :=
  upto_keep State.grp f n s h
@[simp] theorem foldl_grp {α : Type} (f : State → α → State) (l : List α) (s : State) (h : ∀ s a, (f s a).grp = s.grp) :
    (l.foldl f s).grp = s.grp := foldl_keep State.grp f l s h
@[simp] theorem upto_fwm (f : Nat → State → State) (n : Nat) (s : State) (h : ∀ i s, (f i s).fwm = s.fwm) : (upto f n s).fwm = s.fwm :=
  upto_keep State.fwm f n s h
@[simp] theorem foldl_fwm {α : Type} (f : State → α → State) (l : List α) (s : State) (h : ∀ s a, (f s a).fwm = s.fwm) :
    (l.foldl f s).fwm = s.fwm := foldl_keep State.fwm f l s h
@[simp] theorem upto_sec (f : Nat → State → State) (n : Nat) (s : State) (h : ∀ i s, (f i s).sec = s.sec) : (upto f n s).sec = s.sec :=
  upto_keep State.sec f n s h
@[simp] theorem foldl_sec {α : Type} (f : State → α → State) (l : List α) (s : State) (h : ∀ s a, (f s a).sec = s.sec) :
    (l.foldl f s).sec = s.sec := foldl_keep State.sec f l s h
@[simp] theorem upto_eth (f : Nat → State → State) (n : Nat) (s : State) (h : ∀ i s, (f i s).eth = s.eth) : (upto f n s).eth = s.eth :=
  upto_keep State.eth f n s h
@[simp] theorem foldl_eth {α : Type} (f : State → α → State) (l : List α) (s : State) (h : ∀ s a, (f s a).eth = s.eth) :
    (l.foldl f s).eth = s.eth := foldl_keep State.eth f l s h
@[simp] theorem upto_free (f : Nat → State → State) (n : Nat) (s : State) (h : ∀ i s, (f i s).free = s.free) : (upto f n s).free = s.free :=
  upto_keep State.free f n s h
@[simp] theorem foldl_free {α : Type} (f : State → α → State) (l : List α) (s : State) (h : ∀ s a, (f s a).free = s.free) :
    (l.foldl f s).free = s.free := foldl_keep State.free f l s h

@[simp] theorem State.setF_rest {w : Nat} (s : State) (f : Fld w) (v : BitVec w) :
    (s.setF f v).part = s.part ∧ (s.setF f v).eff = s.eff ∧ (s.setF f v).later = s.later ∧ (s.setF f v).lat = s.lat ∧
    (s.setF f v).xlt = s.xlt ∧ (s.setF f v).ep = s.ep ∧ (s.setF f v).home = s.home ∧ (s.setF f v).syn = s.syn ∧ (s.setF f v).flt = s.flt ∧
    (s.setF f v).dtt = s.dtt ∧ (s.setF f v).lan = s.lan ∧ (s.setF f v).swc = s.swc ∧ (s.setF f v).eng = s.eng ∧ (s.setF f v).grp = s.grp ∧
    (s.setF f v).fwm = s.fwm ∧ (s.setF f v).sec = s.sec ∧ (s.setF f v).eth = s.eth ∧ (s.setF f v).free = s.free := by
  simp [State.setF, State.wr]

@[simp] theorem State.emit_rest (s : State) (o : Out) :
    (s.emit o).part = s.part ∧ (s.emit o).eff = s.eff ∧ (s.emit o).later = s.later ∧ (s.emit o).lat = s.lat ∧ (s.emit o).xlt = s.xlt ∧
    (s.emit o).ep = s.ep ∧ (s.emit o).home = s.home ∧ (s.emit o).syn = s.syn ∧ (s.emit o).flt = s.flt ∧ (s.emit o).dtt = s.dtt ∧
    (s.emit o).lan = s.lan ∧ (s.emit o).swc = s.swc ∧ (s.emit o).eng = s.eng ∧ (s.emit o).grp = s.grp ∧ (s.emit o).fwm = s.fwm ∧
    (s.emit o).sec = s.sec ∧ (s.emit o).eth = s.eth ∧ (s.emit o).free = s.free := by
  unfold State.emit; split <;> simp

@[simp] theorem State.raise_rest (s : State) (r : Nat) :
    (s.raise r).part = s.part ∧ (s.raise r).eff = s.eff ∧ (s.raise r).later = s.later ∧ (s.raise r).lat = s.lat ∧
    (s.raise r).xlt = s.xlt ∧ (s.raise r).ep = s.ep ∧ (s.raise r).home = s.home ∧ (s.raise r).syn = s.syn ∧ (s.raise r).flt = s.flt ∧
    (s.raise r).dtt = s.dtt ∧ (s.raise r).lan = s.lan ∧ (s.raise r).swc = s.swc ∧ (s.raise r).eng = s.eng ∧ (s.raise r).grp = s.grp ∧
    (s.raise r).fwm = s.fwm ∧ (s.raise r).sec = s.sec ∧ (s.raise r).eth = s.eth ∧ (s.raise r).free = s.free := by
  simp only [State.raise, State.vectorDue, State.vector, State.setRing]; (repeat' split) <;> simp

@[simp] theorem State.putRecord_rest (s : State) (r : Nat) (e : Ev) (t : R64) (i : Bool) :
    (s.putRecord r e t i).part = s.part ∧ (s.putRecord r e t i).eff = s.eff ∧ (s.putRecord r e t i).later = s.later ∧
    (s.putRecord r e t i).lat = s.lat ∧ (s.putRecord r e t i).xlt = s.xlt ∧ (s.putRecord r e t i).ep = s.ep ∧
    (s.putRecord r e t i).home = s.home ∧ (s.putRecord r e t i).syn = s.syn ∧ (s.putRecord r e t i).flt = s.flt ∧
    (s.putRecord r e t i).dtt = s.dtt ∧ (s.putRecord r e t i).lan = s.lan ∧ (s.putRecord r e t i).swc = s.swc ∧
    (s.putRecord r e t i).eng = s.eng ∧ (s.putRecord r e t i).grp = s.grp ∧ (s.putRecord r e t i).fwm = s.fwm ∧
    (s.putRecord r e t i).sec = s.sec ∧ (s.putRecord r e t i).eth = s.eth ∧ (s.putRecord r e t i).free = s.free := by
  simp only [State.putRecord]; (repeat' split) <;> simp

@[simp] theorem State.noteLost_rest (s : State) (r : Nat) :
    (s.noteLost r).part = s.part ∧ (s.noteLost r).eff = s.eff ∧ (s.noteLost r).later = s.later ∧ (s.noteLost r).lat = s.lat ∧
    (s.noteLost r).xlt = s.xlt ∧ (s.noteLost r).ep = s.ep ∧ (s.noteLost r).home = s.home ∧ (s.noteLost r).syn = s.syn ∧
    (s.noteLost r).flt = s.flt ∧ (s.noteLost r).dtt = s.dtt ∧ (s.noteLost r).lan = s.lan ∧ (s.noteLost r).swc = s.swc ∧
    (s.noteLost r).eng = s.eng ∧ (s.noteLost r).grp = s.grp ∧ (s.noteLost r).fwm = s.fwm ∧ (s.noteLost r).sec = s.sec ∧
    (s.noteLost r).eth = s.eth ∧ (s.noteLost r).free = s.free := by
  unfold State.noteLost; split <;> simp [State.setRing]

@[simp] theorem State.dropEvent_rest (s : State) (r : Nat) :
    (s.dropEvent r).part = s.part ∧ (s.dropEvent r).eff = s.eff ∧ (s.dropEvent r).later = s.later ∧ (s.dropEvent r).lat = s.lat ∧
    (s.dropEvent r).xlt = s.xlt ∧ (s.dropEvent r).ep = s.ep ∧ (s.dropEvent r).home = s.home ∧ (s.dropEvent r).syn = s.syn ∧
    (s.dropEvent r).flt = s.flt ∧ (s.dropEvent r).dtt = s.dtt ∧ (s.dropEvent r).lan = s.lan ∧ (s.dropEvent r).swc = s.swc ∧
    (s.dropEvent r).eng = s.eng ∧ (s.dropEvent r).grp = s.grp ∧ (s.dropEvent r).fwm = s.fwm ∧ (s.dropEvent r).sec = s.sec ∧
    (s.dropEvent r).eth = s.eth ∧ (s.dropEvent r).free = s.free := by
  simp [State.dropEvent, State.setRing, State.incF]

@[simp] theorem State.postTo_rest (s : State) (r : Nat) (e : Ev) (i : Bool) :
    (s.postTo r e i).part = s.part ∧ (s.postTo r e i).eff = s.eff ∧ (s.postTo r e i).later = s.later ∧ (s.postTo r e i).lat = s.lat ∧
    (s.postTo r e i).xlt = s.xlt ∧ (s.postTo r e i).ep = s.ep ∧ (s.postTo r e i).home = s.home ∧ (s.postTo r e i).syn = s.syn ∧
    (s.postTo r e i).flt = s.flt ∧ (s.postTo r e i).dtt = s.dtt ∧ (s.postTo r e i).lan = s.lan ∧ (s.postTo r e i).swc = s.swc ∧
    (s.postTo r e i).eng = s.eng ∧ (s.postTo r e i).grp = s.grp ∧ (s.postTo r e i).fwm = s.fwm ∧ (s.postTo r e i).sec = s.sec ∧
    (s.postTo r e i).eth = s.eth ∧ (s.postTo r e i).free = s.free := by
  simp only [State.postTo]; (repeat' split) <;> simp [State.setRing]

@[simp] theorem State.post_rest (s : State) (e : Ev) :
    (s.post e).part = s.part ∧ (s.post e).eff = s.eff ∧ (s.post e).later = s.later ∧ (s.post e).lat = s.lat ∧ (s.post e).xlt = s.xlt ∧
    (s.post e).ep = s.ep ∧ (s.post e).home = s.home ∧ (s.post e).syn = s.syn ∧ (s.post e).flt = s.flt ∧ (s.post e).dtt = s.dtt ∧
    (s.post e).lan = s.lan ∧ (s.post e).swc = s.swc ∧ (s.post e).eng = s.eng ∧ (s.post e).grp = s.grp ∧ (s.post e).fwm = s.fwm ∧
    (s.post e).sec = s.sec ∧ (s.post e).eth = s.eth ∧ (s.post e).free = s.free := by
  simp [State.post]

theorem State.putRecord_quiet_mems (s : State) (r : Nat) (e : Ev) (t : R64) : (s.putRecord r e t false).mems = s.mems := by
  simp only [State.putRecord, Bool.false_eq_true, if_false]
  split <;> simp

theorem State.noteLost_mems (s : State) (r : Nat) : (s.noteLost r).mems = s.mems := by
  unfold State.noteLost
  split
  · rfl
  · exact State.putRecord_quiet_mems s r _ _

@[simp] theorem State.post_mems (s : State) (e : Ev) : (s.post e).mems = s.mems := by
  unfold State.post State.postTo
  split
  · simp [State.dropEvent, State.setRing]
  · have h : (if (s.ring 0).held = [] then s.noteLost 0 else s).mems = s.mems := by
      split
      · exact State.noteLost_mems s 0
      · rfl
    dsimp only
    generalize (if (s.ring 0).held = [] then s.noteLost 0 else s) = t at h ⊢
    split
    · rw [State.putRecord_quiet_mems, h]
    · split <;> simp [State.setRing, State.dropEvent, h]

end Sys2Proof.Machine
end

