-- ==== Sys2Proof/Tests/Slice0.lean ====
section
/-!
SUPPORT. Tests: what `Instr.wf` refuses, single steps on small states with results written from the rules of spec/, and for every statement of
Certificates/Slice0/Obligations.lean that has hypotheses a concrete state and operands that meet those of each of its clauses together.
-/

namespace Sys2Proof.Tests

set_option Elab.async false

open Sys2Proof.Machine

/-! ## Small states and operands -/

/-- The state after reset, its registers at their reset values. -/
def wit0 : State := { State.reset with regs := [] }
def wReq : Req := ⟨0, 0, 0, 0, 0, 0, 0, 0, 0, false, false, false, false, false, 0, ⟨0, false, false, false, false, 0⟩, 0, 0, 0, 0, ⟨0, 0, false, false⟩,
  ⟨false, 0, 0, false⟩, []⟩
def wCpl : Cpl := ⟨0, 0, 0, 0, false, false, ⟨0, 0, false, false⟩, 0, 0, 0, 0, 0, 0, false, 0, []⟩
def wSnp : Snp := ⟨0x20, 0, 0, 0, 0, ⟨0, 0, false, false⟩, 0, []⟩
def wDesc : Desc := ⟨0, [], .running, 0, 0, (0, 0), 0, 0, 0, false, false, false, false, none, 0, false, 0, 0, false, false, 0, [], 0⟩
def wRun : Run := ⟨0, 0, 0, [], 0, none, [], none, 0, 0, 0, false, false, false, [], none, false, [], 0, false, false, [], 0⟩
def wSpill : Spill := ⟨1, 0, false, false, false, false, 0, 0, 0, 0, 0, 0, 0, 0, 0, [], false⟩
def wMemCond : MemCond := ⟨[], [], []⟩
def wRangeE : RangeE := ⟨0, false, false, false, false, true, true, true, true, 0, 0, 0, 0, false, 0, 0⟩
def wTMsg : TMsg := .snp wSnp
def wSigRec : SigRec := ⟨0, 0, 0, false, 0, 0, false, 0, 0⟩
def wEnt : Ent := ⟨0, 0, 0, 0, [], false, .waiting, none, 0, 0, none, false, 0⟩
def wSFlit : SFlit := ⟨0, 0, []⟩
def wPortId : PortId := ⟨0, 0, 0, 0, false, false, []⟩
def wImage : Image := ⟨1, 1, []⟩
def wFiring : Firing := ⟨0, 0, none, false⟩
def wStreamE : StreamE := ⟨0, 0, false, 0, 0, 0, true⟩
def wTileWork : TileWork := ⟨[], [], none, [], [], [], 0, []⟩
def wStopMsg : StopMsg := ⟨1, 0, false, 0⟩
def wStopE : StopE := ⟨0, 1, false, true, 0, 0, 0⟩
def wTxPkt : TxPkt := ⟨wSpill, 0, 0, false, false⟩
def wSRec : SRec := ⟨0, [], 0, 0, 0, 0, 0, .running⟩
def wTxn : Txn := ⟨[], 0, none, [], false, 0⟩
def wQRec : QRec := ⟨0, [], false, false, 0, 0, false, []⟩
def wTxItem : TxItem := .sched wSFlit
def wSecCmd : SecCmd := ⟨1, 0, .none⟩
def wValid : Valid := ⟨0, 0, 0, 0⟩
def wTimeHb : TimeHb := ⟨0, 0, 0, 0, 0, 0, 0, 0, 0, false, 0, 0, false, 0, 0, 0, 0, 0, 0, 0, 0, 0, 0, 0, 0, false, false, 0⟩
def wsetE {w : Nat} (s : State) (f : Fld w) (v : BitVec w) : State := s.effWr f.off (fput f (s.effRd f.off) v)
def wD (op : Nat) (ws : List R64) (st : DSt) : Desc := { wDesc with words := BitVec.ofNat 64 op :: ws, st := st }
def wRt (s : State) (w0 w1 w2 w3 : Nat) : State :=
  { s with mems := { s.mems with rt := Mem.wrN s.mems.rt 0 (natLe 8 w0 ++ natLe 8 w1 ++ natLe 8 w2 ++ natLe 8 w3) } }
def wCtx (s : State) : State := (s.effWr (Reg.XLT_CTX_ID 0) 0x80000001).effWr (Reg.XLT_CTX_TBL 0) 1
def wExt (s : State) (i job st base len fl : Nat) : State :=
  (s.setExtW i 0 (job * 2 ^ 48 + st * 2 ^ 45 + base * 4096)).setExtW i 1 (fl + len)
def wrng (w3 : Nat) : RangeE := ⟨0, false, false, false, false, true, true, true, true, 0, 0, 0x10000, 0, bitAt w3 63, 0, 0⟩
def wWin (s : State) : State :=
  ((((s.setF (F.ENG_WIN_LEN_VALID 0) 1).setF (F.ENG_WIN_LEN_R 0) 1).setF (F.ENG_WIN_LEN_W 0) 1).setF (F.ENG_WIN_LEN_A 0) 1)
def wPool (s : State) (fl : Nat) : State := State.setKey ((wExt s 0 0 1 0 1 (2 ^ 37 + 2 ^ 38 + 2 ^ 39 + 2 ^ 52 + fl)).setF F.HOM_CTL_EN 1) 0 (some 1)
def wHome (s : State) : State := wPool s (2 ^ 41)
def wDd (ws : List R64) : Desc := { wDesc with words := ws, tbl := (0, 1) }
def wRtO (s : State) : State := wRt s 0xF 15 (2 ^ 45) 0
def wGrp (s : State) : State := { s with mems := { s.mems with grp := Mem.wrN s.mems.grp 0 (natLe 8 (2 ^ 32)) } }
def wNow (s : State) (t : R64) : State := { s with clk := { s.clk with now := t } }
def wM (d : Desc) (s : State) : State := { s with qmg := { s.qmg with qs := [(0, { wQRec with descs := [d] })] } }
def wGrpL (s : State) (w0 w1 m : Nat) : State := { s with mems := { s.mems with grp := Mem.wrN s.mems.grp 0 (natLe 8 w0 ++ natLe 8 w1 ++ List.replicate 496 (0 : Byte) ++ natLe 8 m) } }
def wEh (s : State) (i w0 w1 : Nat) : State := { s with mems := { s.mems with ehdr := Mem.wrN s.mems.ehdr (32 * i) (natLe 8 w0 ++ natLe 8 w1) } }
def wCd (op : Nat) (w3 w4 w5 w6 : Nat) : Desc := { wDesc with words := [BitVec.ofNat 64 op, 0, 0, BitVec.ofNat 64 w3, BitVec.ofNat 64 w4, BitVec.ofNat 64 w5, BitVec.ofNat 64 w6], tbl := (0, 1) }
def wStr (s : State) (w : Nat) : State := { (s.setF F.DTT_TT_STAT_DEFAULT 0) with mems := { s.mems with tt := Mem.wrN s.mems.tt 32 (natLe 8 w) } }
def wFlit : Bytes := let h : Bytes := natLe 4 (2 ^ 30); h ++ natLe 4 (crc32c (h ++ List.replicate 248 (0 : Byte))).toNat ++ List.replicate 248 (0 : Byte)
def wPid (s : State) (p : Nat) : PortId := ⟨2, 0, 0, BitVec.ofNat 6 (s.width p), false, false, List.replicate 16 64⟩
def wKept : Kept := ⟨0, 0, 0, 0, 0, false, wCpl⟩
def wTampRec : TampRec := ⟨0, 0, 0, [], wReq, false⟩
def wWatch : Watch := ⟨0, 0, 0, 0, 0⟩
def wPBlock : PBlock := ⟨0, 1, false, List.replicate 32 0⟩

/-! ## Ill-formed commands are refused -/

theorem test_wf_refuses_bar2_read_empty : Instr.wf (.bar2Read 0 0 []) = false := by decide +kernel
theorem test_wf_refuses_bar2_write_too_long : Instr.wf (.bar2Write 0 (List.replicate 4097 0) []) = false := by decide +kernel
theorem test_wf_refuses_unaligned_range_window : Instr.wf (.rtwinWrite 4 true 0) = false := by decide +kernel
theorem test_wf_refuses_attach_flit_units : Instr.wf (.attachFlitReceive 0 ⟨0, 0, []⟩) = false := by decide +kernel
theorem test_wf_refuses_request_size : Instr.wf (.store { wReq with size := 9 } wMemCond) = false := by decide +kernel
theorem test_wf_refuses_request_data : Instr.wf (.store { wReq with data := [0] } wMemCond) = false := by decide +kernel
theorem test_wf_refuses_granule_outside_pool : Instr.wf (.load wReq ⟨[25000000000], [], []⟩) = false := by decide +kernel
theorem test_wf_refuses_writeback_without_line : Instr.wf (.writeback wReq) = false := by decide +kernel
theorem test_wf_refuses_snoop_ack_with_data : Instr.wf (.rspAck { wSnp with data := [0] } wMemCond) = false := by decide +kernel
theorem test_wf_refuses_descriptor_length : Instr.wf (.descriptorFetchDone 0 (.slot [0])) = false := by decide +kernel
theorem test_wf_refuses_sieve_group : Instr.wf (.alltoall 0 [⟨0, 1, 0, [0]⟩] []) = false := by decide +kernel
theorem test_wf_refuses_row_group : Instr.wf (.dispatch 0 [⟨0, 0, 0, [0]⟩] [] []) = false := by decide +kernel
theorem test_wf_refuses_packed_block : Instr.wf (.reduceScatter 0 [⟨0, 0, [], [some (List.replicate 393 0)]⟩] []) = false := by decide +kernel
theorem test_wf_refuses_column_mask : Instr.wf (.sparseReduce 0 [⟨0, 0, 0, []⟩] []) = false := by decide +kernel
theorem test_wf_refuses_fec_group : Instr.wf (.fecGroupReceive 0 none [] []) = false := by decide +kernel
theorem test_wf_refuses_four_reads : Instr.wf (.load wReq ⟨[], [(0, 4)], []⟩) = false := by decide +kernel
theorem test_wf_refuses_scheduled_flit : Instr.wf (.schedFlitReceive 0 wSFlit) = false := by decide +kernel
theorem test_wf_refuses_order_fragment : Instr.wf (.orderFrag 0 0 5 4 []) = false := by decide +kernel
theorem test_wf_refuses_key_slot : Instr.wf (.keys 5 (List.replicate 48 0)) = false := by decide +kernel
theorem test_wf_refuses_sediment_record : Instr.wf (.sedimentSlot [[0]]) = false := by decide +kernel
theorem test_wf_refuses_port_grants : Instr.wf (.portId 0 wPortId) = false := by decide +kernel
theorem test_wf_refuses_torus_flit : Instr.wf (.flitReceive 0 []) = false := by decide +kernel
theorem test_wf_refuses_module_bytes : Instr.wf (.cmisAccessDone 0 (List.replicate 33 0)) = false := by decide +kernel
theorem test_wf_refuses_module_flags : Instr.wf (.cmisPoll 0 0 (List.replicate 257 (0, 0))) = false := by decide +kernel
theorem test_wf_refuses_record_length : Instr.wf (.putRecord 0 [] []) = false := by decide +kernel
theorem test_wf_refuses_spill_payload : Instr.wf (.put 0 { wSpill with payload := [0] } []) = false := by decide +kernel
theorem test_wf_refuses_latched_read : Instr.wf (.latchedRead 2) = false := by decide +kernel
theorem test_wf_takes_store : Instr.wf (.store { wReq with size := 2, data := List.replicate 16 0 } wMemCond) = true := by decide +kernel

/-! ## Single steps -/

/-- What holds of the next state of a command. -/
def nextHas (o : Host.Outcome State Fault Refusal) (p : State → Bool) : Bool :=
  match o with
  | .next t => p t
  | _ => false

/-- R53: PLL_LOCK shows in PWR_STAT; the queue is one command shorter. -/
theorem test_step_runs_front : nextHas (step { wit0 with pending := [.pllLock, .pllLock] })
    (fun t => t.on F.PWR_STAT_PLL_LOCK && decide (t.pending = [.pllLock])) = true := by decide +kernel

/-- R616: an access that is not naturally aligned completes with Unsupported Request. -/
theorem test_unaligned_write_unsupported : nextHas (exec (.registerWrite 2 false 0) wit0) (fun t => decide (t.out = [.pcieUnsupported])) = true := by
  decide +kernel

/-- R658: a pulse below 100 ns at RST_N is ignored. -/
theorem test_short_reset_pulse : nextHas (exec (.resetAssert 99) wit0) (fun t => t.up) = true := by decide +kernel
theorem test_reset_pulse : nextHas (exec (.resetAssert 100) wit0) (fun t => !t.up && !t.pwr.driven) = true := by decide +kernel

/-- R189: a STORE of 32 bytes and a LOAD of them on engine SRAM. -/
theorem test_store_sram : nextHas (exec (.store { wReq with dpa := BitVec.ofNat 52 (2 ^ 44), size := 5, data := List.replicate 32 7 } wMemCond) (wWin wit0))
    (fun t => decide (Mem.rdN t.mems.sram 0 33 = List.replicate 32 7 ++ [0])) = true := by decide +kernel

/-- CRC-32C: its published check value, of the nine digits. -/
theorem test_crc32c : crc32c [0x31, 0x32, 0x33, 0x34, 0x35, 0x36, 0x37, 0x38, 0x39] = 0xE3069283 := by decide +kernel

/-- R363: SHIFT 8 leaves lanes of one byte, WCODE 1; a block of zero lanes carries none. -/
theorem test_packed_lengths : (packBlock 0 ⟨0, 1, false, List.replicate 32 256⟩).length = 40 ∧
    (packBlock 0 ⟨0, 1, false, List.replicate 32 0⟩).length = 8 := by decide +kernel

/-- R500, on a code of four parity symbols: two errors are corrected, and three erasures restored. -/
theorem test_fec_errors : rsDecode 4 ((rsEncode 4 [1, 2, 3]).mapIdx (fun i x => if i = 0 ∨ i = 5 then x ^^^ 9 else x)) [] =
    some (rsEncode 4 [1, 2, 3]) := by decide +kernel
theorem test_fec_erasures : rsDecode 4 ((rsEncode 4 [1, 2, 3]).mapIdx (fun i x => if i = 0 ∨ i = 2 ∨ i = 5 then 0 else x)) [0, 2, 5] =
    some (rsEncode 4 [1, 2, 3]) := by decide +kernel

/-- R503: the comma is 257 bits, the first a 1. -/
theorem test_comma : commaBlock.length = 257 ∧ commaBlock.headD false = true := by decide +kernel

/-- R11: the node's number is x + 4y + 16z, and port 0 goes to x + 1 round the ring of four. -/
theorem test_neighbour_wraps : neighbour 3 0 = 0 ∧ neighbour 0 1 = 3 ∧ neighbour 0 2 = 4 ∧ neighbour 0 5 = 48 := by decide +kernel

/-- The table of commands gives no bits: no word spells a command. -/
theorem test_no_word_decodes : decodeTableWord 32 0 = none ∧ wit0.withFetchWord 32 0 = wit0 := by decide +kernel

/-! ## Witnesses: every statement's hypotheses can be met -/

/-- Of `Obligations.PowerAndReset`. -/
theorem test_hypotheses_PowerAndReset : (
  (let ns : Nat := 100; let s : State := wit0; let s : State := { s with pwr.powered := true }; decide (s.pwr.powered = true ∧ 100 ≤ ns)) &&
  (let ns : Nat := 0; decide (ns < 100)) &&
  (let s : State := wit0; let s : State := { s with pwr.powered := true }; let s : State := { s with pwr.rstN := false };
    decide (s.pwr.powered = true ∧ s.pwr.rstN = false)) &&
  (let s : State := wit0; let s : State := { s with pwr.powered := false }; decide (s.pwr.powered = false)) &&
  (let s : State := wit0; decide (s.up = true)) &&
  (let s : State := wit0; decide (s.up = true ∧ swf regReset s.regs = true)) &&
  (let s : State := wit0; decide (s.up = true))) = true := by decide +kernel

/-- Of `Obligations.HoldUp`. -/
theorem test_hypotheses_HoldUp : (
  (let s : State := wit0; decide (s.up = true)) &&
  (let s : State := wit0; let s : State := { s with pwr.holdUp := true }; let s : State := { s with pwr.stage := none }; let s : State := wNow s 250;
    decide (s.up = true ∧ s.pwr.holdUp = true ∧ s.pwr.stage = none ∧ 250 ≤ (s.now - s.pwr.failAt).toNat)) &&
  (let s : State := wit0; let s : State := { s with pwr.holdUp := true }; let s : State := { s with pwr.stage := some .going };
    let s : State := wNow s 5000; decide (s.up = true ∧ s.pwr.holdUp = true ∧ s.pwr.stage = some .going ∧ 5000 ≤ (s.now - s.pwr.failAt).toNat)) &&
  (let s : State := wit0; let s : State := { s with pwr.holdUp := true }; let s : State := { s with pwr.stage := some .clayEnd };
    let s : State := wNow s 7500; decide (s.up = true ∧ s.pwr.holdUp = true ∧ s.pwr.stage = some .clayEnd ∧ 7500 ≤ (s.now - s.pwr.failAt).toNat)) &&
  (let s : State := wit0; let s : State := { s with pwr.holdUp := true }; let s : State := { s with pwr.stage := some .powerFail };
    let s : State := wNow s 12500; decide (s.up = true ∧ s.pwr.holdUp = true ∧ s.pwr.stage = some .powerFail ∧ 12500 ≤ (s.now - s.pwr.failAt).toNat)) &&
  (let s : State := wit0; let s : State := { s with pwr.holdUp := false }; decide (s.up = true ∧ s.pwr.holdUp = false)) &&
  (let g : HoldStage := .going; let s : State := wit0; decide (s.up = true ∧ (s.now - s.pwr.failAt).toNat < holdUpTicks g))) = true := by decide +kernel

/-- Of `Obligations.SideBands`. -/
theorem test_hypotheses_SideBands : (
  (let s : State := wit0; let s : State := { s with pwr.powered := true }; decide (s.pwr.powered = true)) &&
  (let s : State := wit0; let s : State := { s with pwr.powered := true }; decide (s.pwr.powered = true)) &&
  (let s : State := wit0; let s : State := { s with pwr.powered := true }; decide (s.pwr.powered = true)) &&
  (let j : Jtag := Jtag.extest; let s : State := wit0; let c : Instr := Instr.extest; let s : State := { s with pwr.straps.bootSel := 2 };
    decide ((c, j) ∈ [(Instr.extest, Jtag.extest), (.extestPulse, .extestPulse), (.extestTrain, .extestTrain), (.clamp, .clamp), (.highz, .highz)] ∧
    s.up = true ∧ s.pwr.straps.bootSel = 2)) &&
  (let j : Jtag := Jtag.extest; let s : State := wit0; let c : Instr := Instr.extest; let s : State := { s with pwr.powered := true };
    decide ((c, j) ∈ [(Instr.extest, Jtag.extest), (.extestPulse, .extestPulse), (.extestTrain, .extestTrain), (.clamp, .clamp), (.highz, .highz)] ∧
    (s.pwr.powered = true ∧ (s.up = false ∨ s.pwr.straps.bootSel ≠ 2)))) &&
  (let s : State := wit0; let c : Instr := Instr.bypass; let s : State := { s with pwr.powered := false };
    decide (c ∈ [Instr.bypass, .idcode, .samplePreload, .extest, .extestPulse, .extestTrain, .clamp, .highz] ∧ s.pwr.powered = false)) &&
  (let code : BitVec 8 := 1; let v : R32 := wit0.ident; let s : State := wit0; decide (s.up = true ∧
    (code, v) ∈ [((1 : BitVec 8), s.ident), (2, s.rd Reg.GLB_NODE), (3, s.rd Reg.PWR_TMAX), (4, s.rd Reg.PWR_POWER), (5, s.rd Reg.PWR_STAT), (6, s.rd Reg.SEC_ALARM_STAT), (7, s.rd Reg.FWM_STAT)])) &&
  (let code : BitVec 8 := 0; let s : State := wit0; decide (s.up = true ∧ (code = 0 ∨ 8 ≤ code.toNat))) &&
  (let s : State := wit0; let s : State := { s with pwr.smbAlertN := false }; decide (s.up = true ∧ s.pwr.smbAlertN = false)) &&
  (let s : State := wit0; let s : State := { s with pwr.smbAlertN := true }; decide (s.up = true ∧ s.pwr.smbAlertN = true))) = true := by decide +kernel

/-- Of `Obligations.HostAccesses`. -/
theorem test_hypotheses_HostAccesses : (
  (let off : BitVec 25 := 2; let wide : Bool := false; let s : State := wit0; decide (s.takes = true ∧ off.toNat % (if wide then 8 else 4) ≠ 0)) &&
  (let off : BitVec 25 := 0; let v : R64 := 0; let s : State := wit0; decide (s.takes = true ∧ off.toNat % 4 = 0 ∧ s.winWr off.toNat false v = none)) &&
  (let off : BitVec 25 := 0x41000; let wide : Bool := false; let v : R64 := 0; let s : State := wit0;
    let t : State := (s.winWr off.toNat wide v).getD s; decide (s.takes = true ∧ off.toNat % (if wide then 8 else 4) = 0 ∧
    s.winWr off.toNat wide v = some t)) &&
  (let off : Nat := Reg.FWM_IMG_PAGE; let s : State := wit0; decide (s.takes = true ∧
    off ∈ [Reg.FWM_IMG_PAGE, Reg.FWM_TC_TICK_LO, Reg.PWR_AVS, Reg.HOM_LEASE, Reg.HOM_EXT_TICK_LO, Reg.XLT_PRES_VA_HI, Reg.FWM_TC_GROUP])) &&
  (let off : BitVec 25 := 0; let v : R64 := 0; let s : State := wit0; decide (s.takes = true ∧ off.toNat % 8 = 0 ∧ s.winWr off.toNat true v = none)) &&
  (let s : State := wit0; decide (s.takes = true)) &&
  (let off : BitVec 25 := 2; let s : State := wit0; decide (s.up = true ∧ off.toNat % 4 ≠ 0)) &&
  (let s : State := wit0; decide (s.up = true)) &&
  (let s : State := wit0; let s : State := State.setF s F.GLB_NODE_NODE_LOCK 1; decide (s.takes = true ∧ s.on F.GLB_NODE_NODE_LOCK = true)) &&
  (let v : R32 := 0; let s : State := wit0; let s : State := State.setF s F.GLB_NODE_NODE_LOCK 0; decide (s.takes = true ∧
    swf regReset s.regs = true ∧ s.on F.GLB_NODE_NODE_LOCK = false ∧ v.getLsbD 31 = false)) &&
  (let v : R32 := 0x80000000; let s : State := wit0; let s : State := State.setF s F.GLB_NODE_NODE_LOCK 0; decide (s.takes = true ∧
    s.on F.GLB_NODE_NODE_LOCK = false ∧ v.getLsbD 31 = true)) &&
  (let v : R32 := 0x80000000; let s : State := wit0; let s : State := State.setF s F.GLB_NODE_NODE_LOCK 0; decide (s.takes = true ∧
    swf regReset s.regs = true ∧ s.on F.GLB_NODE_NODE_LOCK = false ∧ v.getLsbD 31 = true ∧
    (∀ p : Fin 6, s.pState p.val ≠ pTraining ∨ s.f (F.LAN_P_STAT_PHASE p.val) ≠ 4))) &&
  (let off : BitVec 48 := 0; let s : State := wit0; let s : State := State.setF s (F.GLB_APT_BASE_VALID (off.toNat % 2 ^ 36 / 2 ^ 32)) 0;
    decide (s.up = true ∧ s.on (F.GLB_APT_BASE_VALID (off.toNat % 2 ^ 36 / 2 ^ 32)) = false)) &&
  (let off : BitVec 48 := 0; let s : State := wit0; let s : State := State.setF s (F.GLB_APT_BASE_VALID (off.toNat % 2 ^ 36 / 2 ^ 32)) 0;
    decide (s.up = true ∧ s.on (F.GLB_APT_BASE_VALID (off.toNat % 2 ^ 36 / 2 ^ 32)) = false)) &&
  (let off : BitVec 48 := 0; let h : NodeId := 0; let s : State := wit0;
    let s : State := State.setF s (F.GLB_APT_BASE_VALID (off.toNat % 2 ^ 36 / 2 ^ 32)) 1; decide (s.up = true ∧ off.toNat % 4 = 0 ∧
    s.on (F.GLB_APT_BASE_VALID (off.toNat % 2 ^ 36 / 2 ^ 32)) = true ∧
    s.homeOf (s.aptAttr (off.toNat % 2 ^ 36 / 2 ^ 32)) (s.aptDpa (off.toNat % 2 ^ 36)) = some h)) &&
  (let off : BitVec 48 := 0; let s : State := wit0; let s : State := State.setF s (F.GLB_APT_BASE_VALID (off.toNat % 2 ^ 36 / 2 ^ 32)) 1;
    let s : State := State.wr s Reg.FLT_EXP_LO 1; decide (s.up = true ∧ s.on (F.GLB_APT_BASE_VALID (off.toNat % 2 ^ 36 / 2 ^ 32)) = true ∧
    s.homeOf (s.aptAttr (off.toNat % 2 ^ 36 / 2 ^ 32)) (s.aptDpa (off.toNat % 2 ^ 36)) = none)) &&
  (let off : BitVec 48 := 0; let s : State := wit0; let s : State := State.setF s (F.GLB_APT_BASE_VALID (off.toNat % 2 ^ 36 / 2 ^ 32)) 1;
    decide (s.up = true ∧ s.on (F.GLB_APT_BASE_VALID (off.toNat % 2 ^ 36 / 2 ^ 32)) = true))) = true := by decide +kernel

/-- Of `Obligations.TranslationCommands`. -/
theorem test_hypotheses_TranslationCommands : (
  (let n : BitVec 12 := 0; let w : Bool := false; let slot : BitVec 10 := 0; let s : State := wit0; let c : Instr := .query n slot;
    let s : State := State.setF s F.XLT_PRES_STAT_BUSY 0; decide (s.takes = true ∧ c ∈ [.query n slot, .set w n slot, .clear n slot] ∧
    s.on F.XLT_PRES_STAT_BUSY = false ∧ s.resident slot.toNat = false)) &&
  (let n : BitVec 12 := 0; let w : Bool := false; let slot : BitVec 10 := 0; let s : State := wit0; let c : Instr := .query n slot;
    let s : State := wCtx s; let s : State := State.setF s F.XLT_PRES_STAT_BUSY 0; decide (s.takes = true ∧
    c ∈ [.query n slot, .set w n slot, .clear n slot] ∧ s.on F.XLT_PRES_STAT_BUSY = false ∧ s.resident slot.toNat = true ∧
    s.presPages slot.toNat (if c = .query n slot then 1 else n.toNat + 1) = none)) &&
  (let slot : BitVec 10 := 0; let e : RangeE := wrng (2 ^ 63); let p : Nat := 0; let ps : List (RangeE × Nat) := []; let s : State := wit0;
    let s : State := wRt (wCtx s) 0xF 15 0 (2 ^ 63); let s : State := State.setF s F.XLT_PRES_STAT_BUSY 0; decide (s.takes = true ∧
    s.on F.XLT_PRES_STAT_BUSY = false ∧ s.resident slot.toNat = true ∧ s.presPages slot.toNat 1 = some ((e, p) :: ps))) &&
  (let n : BitVec 12 := 0; let slot : BitVec 10 := 0; let ps : List (RangeE × Nat) := [(wrng (2 ^ 63), 0)]; let s : State := wit0;
    let s : State := wRt (wCtx s) 0xF 15 0 (2 ^ 63); let s : State := State.setF s F.XLT_PRES_STAT_BUSY 0; decide (s.takes = true ∧
    swf regReset s.regs = true ∧ s.on F.XLT_PRES_STAT_BUSY = false ∧ s.resident slot.toNat = true ∧ s.presPages slot.toNat (n.toNat + 1) = some ps)) &&
  (let ids : List Nat := []; let ds : List (BitVec 10 × BitVec 16) := []; let s : State := wit0;
    let s : State := { s with xlt.clearing := some (ids, ds) }; decide (s.up = true ∧ s.xlt.clearing = some (ids, ds) ∧
    (s.ep.ents.any (fun e => e.live && ids.contains e.id) || ds.any (fun d => s.descSteps d.1 d.2)) = false)) &&
  (let slot : BitVec 10 := 0; let s : State := wit0; decide (s.takes = true ∧ s.xlt.vals.any (fun v => v.slot == slot) = false)) &&
  (let slot : BitVec 10 := 0; let s : State := wit0; let s : State := { s with xlt.vals := [wValid] }; decide (s.takes = true ∧
    s.xlt.vals.any (fun v => v.slot == slot) = true)) &&
  (let v : Valid := wValid; let s : State := wit0; let s : State := { s with xlt.vals := [v] }; let s : State := { s with xlt.heldCommits := [] };
    decide (s.up = true ∧ s.xlt.vals = [v] ∧ s.xlt.heldCommits = [] ∧ s.validateErr v = 0)) &&
  (let v : Valid := ⟨0, 0x80000000, 0, 0⟩; let s : State := wit0; let s : State := { s with xlt.vals := [v] };
    let s : State := { s with xlt.heldCommits := [] }; decide (s.up = true ∧ s.xlt.vals = [v] ∧ s.xlt.heldCommits = [] ∧ s.validateErr v ≠ 0)) &&
  (let s : State := wit0; decide (s.takes = true ∧ swf regReset s.regs = true)) &&
  (let slot : BitVec 10 := 0; let cur : Nat := 0; let s : State := wit0; let s : State := { s with xlt.drains := [(slot, cur)] };
    decide (s.up = true ∧ s.xlt.drains = [(slot, cur)] ∧ s.drainWaits slot cur = false)) &&
  (let s : State := wit0; decide (s.takes = true))) = true := by decide +kernel

/-- Of `Obligations.AttachAdmission`. -/
theorem test_hypotheses_AttachAdmission : (
  (let port : Fin 8 := 0; let f : AFlit := ⟨0, BitVec.ofNat 128 (2 ^ 83), [0]⟩; let u : BitVec 128 := 0; let s : State := wit0;
    let s : State := State.setF s (F.LAN_P_STAT_STATE (6 + port.val)) pUp; let s : State := { s with ep.parts := [] }; decide (s.up = true ∧
    s.trained (6 + port.val) = true ∧ f.vc = 0 ∧ f.units = [u] ∧ bitsAt f.map.toNat 83 14 = 1 ∧ s.ep.parts = [])) &&
  (let port : Fin 8 := 0; let f : AFlit := ⟨0, BitVec.ofNat 128 (2 ^ 83), [0]⟩; let u : BitVec 128 := 0; let s : State := wit0;
    let s : State := State.setF s (F.LAN_P_STAT_STATE (6 + port.val)) pUp; let s : State := { s with ep.parts := [] };
    let s : State := { s with ep.ents := [] }; let s : State := { s with ep.chains := [] }; let s : State := { s with ep.reserved := [] };
    let s : State := { s with pwr.holdUp := false }; decide (s.up = true ∧ s.trained (6 + port.val) = true ∧ f.vc = 0 ∧ f.units = [u] ∧
    bitsAt f.map.toNat 83 14 = 1 ∧ s.ep.parts = [] ∧ s.ep.ents = [] ∧ s.ep.chains = [] ∧ s.ep.reserved = [] ∧ s.pwr.holdUp = false)) &&
  (let port : Fin 8 := 0; let s : State := wit0; decide (s.up = true ∧ s.trained (6 + port.val) = false)) &&
  (let port : Fin 8 := 0; let a : Nat × BitVec 8 × BitVec 14 := (0, 0, 0); let s : State := wit0; let s : State := { s with ep.answers := [a] };
    decide (s.up = true ∧ s.ep.answers.find? (fun a => decide (a.1 = port.val)) = some a)) &&
  (let port : Fin 8 := 0; let s : State := wit0; decide (s.up = true ∧ s.ep.answers.find? (fun a => decide (a.1 = port.val)) = none)) &&
  (let s : State := wit0; decide (s.up = true))) = true := by decide +kernel

/-- Of `Obligations.AttachIssue`. -/
theorem test_hypotheses_AttachIssue : (
  (let port : Fin 8 := 0; let e : Ent := wEnt; let s : State := wit0; let s : State := { s with ep.ents := [e] }; decide (s.up = true ∧
    s.ep.ents.any (fun e => decide (e.port = port.val ∧ e.st = .fencing)) = false ∧ s.oldest port.val = some e ∧ malformed e = true)) &&
  (let port : Fin 8 := 0; let e : Ent := { wEnt with w0 := BitVec.ofNat 64 (2 ^ 58 + 2 ^ 56) }; let slot : Nat := 0; let dst : NodeId := 0;
    let s : State := wit0; let s : State := wRt (wCtx s) 0xF 15 0 0; let s : State := State.setF s F.XLT_CTL_EN 1;
    let s : State := State.setF s (F.XLT_AGT_VALID 0 0) 1; let s : State := State.setF s F.FLT_STAT_SELF_EXP 0;
    let s : State := { s with ep := { s.ep with ents := [e] } }; let r : Req := (match s.translateEnt e with | .ok _ _ x => x | _ => wReq);
    decide (s.up = true ∧ s.ep.ents.any (fun e => decide (e.port = port.val ∧ e.st = .fencing)) = false ∧ s.oldest port.val = some e ∧
    s.on F.FLT_STAT_SELF_EXP = false ∧ malformed e = false ∧ e.isFence = false ∧ s.translateEnt e = .ok slot dst r ∧
    (s.pacedOf port.val dst).isEmpty = true ∧ s.mayPace e dst = true)) &&
  (let port : Fin 8 := 0; let e : Ent := { wEnt with w0 := BitVec.ofNat 64 (2 ^ 58 + 2 ^ 56) }; let slot : Nat := 0; let dst : NodeId := 0;
    let s : State := wit0; let s : State := wRt (wCtx s) 0xF 15 0 0; let s : State := State.setF s F.XLT_CTL_EN 1;
    let s : State := State.setF s (F.XLT_AGT_VALID 0 0) 1; let s : State := State.setF s F.FLT_STAT_SELF_EXP 0;
    let s : State := { s with ep := { s.ep with ents := [e] } }; let s : State := State.setPace s 0 0 ⟨0, 1, none, 0⟩;
    let r : Req := (match s.translateEnt e with | .ok _ _ x => x | _ => wReq); decide (s.up = true ∧
    s.ep.ents.any (fun e => decide (e.port = port.val ∧ e.st = .fencing)) = false ∧ s.oldest port.val = some e ∧ s.on F.FLT_STAT_SELF_EXP = false ∧
    malformed e = false ∧ e.isFence = false ∧ s.translateEnt e = .ok slot dst r ∧ s.mayPace e dst = false)) &&
  (let port : Fin 8 := 0; let e : Ent := { wEnt with w0 := BitVec.ofNat 64 (7 * 2 ^ 58 + 2 ^ 16) }; let s : State := wit0;
    let s : State := { s with ep.ents := [e] }; let s : State := { s with ep.parts := [] }; let s : State := State.setF s F.FLT_STAT_SELF_EXP 0;
    let s : State := { s with ep.ncFails := [] }; decide (s.up = true ∧ s.ep.ents = [e] ∧ e.port = port.val ∧ e.st = .waiting ∧ s.ep.parts = [] ∧
    e.isFence = true ∧ malformed e = false ∧ s.on F.FLT_STAT_SELF_EXP = false ∧ s.ep.ncFails = [])) &&
  (let port : Fin 8 := 0; let home : NodeId := 0; let d : NodeId := 0; let e : Ent := { wEnt with st := .paced, req := some wReq };
    let r : Req := wReq; let s : State := wit0; let s : State := { s with ep.ents := [e] }; decide (s.up = true ∧ s.pacedOf port.val home = [e] ∧
    e.req = some r ∧ s.jobStopped r.job = false ∧ s.homeOf r.attr r.dpa = some d ∧ s.mayPace e home = true)) &&
  (let port : Fin 8 := 0; let home : NodeId := 0; let s : State := wit0; decide (s.up = true ∧ s.pacedOf port.val home = [])) &&
  (let s : State := wit0; decide (s.up = true))) = true := by decide +kernel

/-- Of `Obligations.Completions`. -/
theorem test_hypotheses_Completions : (
  (let e : Ent := { wEnt with st := .sent, req := some wReq }; let r : Req := wReq; let c : Cpl := wCpl; let s : State := wit0;
    let c : Cpl := { c with opc := 0x30 }; let s : State := { s with ep.ents := [e] }; decide (s.up = true ∧ c.opc = 0x30 ∧ s.ep.ents = [e] ∧
    s.entFor c = some (e, r))) &&
  (let c : Cpl := wCpl; let s : State := wit0; decide (s.up = true ∧ s.entFor c = none ∧ s.ownFor c = none)) &&
  (let k : Kept := wKept; let c : Cpl := wCpl; let s : State := wit0; let c : Cpl := { c with tamped := false };
    let k : Kept := { k with tamped := false }; let s : State := { s with home := { s.home with kept := [k] } }; decide (s.up = true ∧
    c.tamped = false ∧ k.tamped = false ∧ s.home.kept.find? (fun k => !k.tamped && k.agent == c.agent && k.cls == c.cls && k.seq == c.seq) = some k)) &&
  (let k : Kept := { wKept with tamped := true }; let c : Cpl := { wCpl with tamped := true }; let s : State := wit0;
    let s : State := { s with home := { s.home with kept := [k] } }; decide (s.up = true ∧ c.tamped = true ∧ k.tamped = true ∧
    s.home.kept.find? (fun k => k.tamped && k.tamp == c.tampId) = some k)) &&
  (let s : State := wit0; let s : State := { s with home.kept := [] }; decide (s.up = true ∧ s.home.kept = [])) &&
  (let s : State := wit0; let s : State := { s with swc.tamps := [] }; decide (s.up = true ∧ s.swc.tamps = [])) &&
  (let x : TampRec := wTampRec; let c : Cpl := { wCpl with tampId := wit0.tampId 0 0 }; let s : State := wit0;
    let s : State := { s with swc.tamps := [x] }; let s : State := { s with swc := { s.swc with tamps := [x] } }; decide (s.up = true ∧
    s.swc.tamps = [x] ∧ (s.tampId x.index x.gen == c.tampId) = true)) &&
  (let r : Req := wReq; let d : Cpl := wCpl; let q : Req := wReq; let c : Cpl := wCpl; let s : State := wit0;
    let r : Req := { r with src := c.agent }; let r : Req := { r with cls := c.cls }; let r : Req := { r with seq := c.seq };
    let c : Cpl := { c with status := stOk }; let s : State := { s with ep.own := [] }; let s : State := { s with home.awaitMack := [(r, d, q)] };
    decide (s.up = true ∧ s.ep.own = [] ∧ s.home.awaitMack = [(r, d, q)] ∧ r.src = c.agent ∧ r.cls = c.cls ∧ r.seq = c.seq ∧ c.status = stOk)) &&
  (let s : State := wit0; let s : State := { s with ep.own := [] }; let s : State := { s with home.awaitMack := [] }; decide (s.up = true ∧
    s.ep.own = [] ∧ s.home.awaitMack = []))) = true := by decide +kernel

/-- Of `Obligations.PlainRequests`. -/
theorem test_hypotheses_PlainRequests : (
  (let r : Req := { wReq with dpa := BitVec.ofNat 52 (2 ^ 44), size := 2 }; let m : MemCond := wMemCond; let st : Status := stRights;
    let s : State := wit0; let op : BitVec 6 := (1 : BitVec 6); let c : Instr := Instr.load r m; let s : State := { s with pwr.holdUp := false };
    let s : State := State.setF s F.FLT_SED_STAT_MODE (0); let s : State := { s with home.supplied := [] };
    let s : State := { s with home.held := [] };
    decide ((c, op) ∈ [(Instr.load r m, (1 : BitVec 6)), (.store r m, 2), (.atomicAdd r m, 3), (.atomicMin r m, 4), (.atomicMax r m, 5), (.atomicCas r m, 6)] ∧
    s.up = true ∧ s.pwr.holdUp = false ∧ dpaNode r.dpa = s.node ∧ r.mc = false ∧ s.f F.FLT_SED_STAT_MODE = 0 ∧ s.known { r with opc := op } = false ∧
    s.home.supplied = [] ∧ (r.ordered = true → r.seq = s.seriesNext r ∧ s.seriesBlocked r = false ∧ s.home.held = []) ∧
    s.homeCheck { r with opc := op } = .fail st ∧ st ≠ stRevoked)) &&
  (let r : Req := { wReq with dpa := BitVec.ofNat 52 (2 ^ 44), size := 2 }; let m : MemCond := wMemCond; let s : State := wit0;
    let op : BitVec 6 := (1 : BitVec 6); let c : Instr := Instr.load r m; let s : State := wWin s; let s : State := { s with pwr.holdUp := false };
    let s : State := State.setF s F.FLT_SED_STAT_MODE (0); let s : State := { s with home.supplied := [] };
    let s : State := { s with home.held := [] };
    decide ((c, op) ∈ [(Instr.load r m, (1 : BitVec 6)), (.store r m, 2), (.atomicAdd r m, 3), (.atomicMin r m, 4), (.atomicMax r m, 5), (.atomicCas r m, 6)] ∧
    s.up = true ∧ s.pwr.holdUp = false ∧ dpaNode r.dpa = s.node ∧ r.mc = false ∧ s.f F.FLT_SED_STAT_MODE = 0 ∧ s.known { r with opc := op } = false ∧
    s.home.supplied = [] ∧ (r.ordered = true → r.seq = s.seriesNext r ∧ s.seriesBlocked r = false ∧ s.home.held = []) ∧
    s.homeCheck { r with opc := op } = .sram ∧ op = 1)) &&
  (let r : Req := { wReq with dpa := BitVec.ofNat 52 (2 ^ 44), size := 2 }; let m : MemCond := wMemCond; let op : BitVec 6 := 2;
    let c : Instr := .store { wReq with dpa := BitVec.ofNat 52 (2 ^ 44), size := 2 } m; let s : State := wit0; let s : State := wWin s;
    let s : State := { s with pwr.holdUp := false }; let s : State := State.setF s F.FLT_SED_STAT_MODE (0);
    let s : State := { s with home.supplied := [] }; let s : State := { s with home.held := [] };
    decide ((c, op) ∈ [(Instr.load r m, (1 : BitVec 6)), (.store r m, 2), (.atomicAdd r m, 3), (.atomicMin r m, 4), (.atomicMax r m, 5), (.atomicCas r m, 6)] ∧
    s.up = true ∧ s.pwr.holdUp = false ∧ dpaNode r.dpa = s.node ∧ r.mc = false ∧ s.f F.FLT_SED_STAT_MODE = 0 ∧ s.known { r with opc := op } = false ∧
    s.home.supplied = [] ∧ (r.ordered = true → r.seq = s.seriesNext r ∧ s.seriesBlocked r = false ∧ s.home.held = []) ∧
    s.homeCheck { r with opc := op } = .sram ∧ op = 2)) &&
  (let r : Req := { wReq with dpa := BitVec.ofNat 52 (2 ^ 44), size := 2 }; let m : MemCond := wMemCond; let op : BitVec 6 := 3;
    let c : Instr := .atomicAdd { wReq with dpa := BitVec.ofNat 52 (2 ^ 44), size := 2 } m; let s : State := wit0; let s : State := wWin s;
    let s : State := { s with pwr.holdUp := false }; let s : State := State.setF s F.FLT_SED_STAT_MODE (0);
    let s : State := { s with home.supplied := [] }; let s : State := { s with home.held := [] };
    decide ((c, op) ∈ [(Instr.load r m, (1 : BitVec 6)), (.store r m, 2), (.atomicAdd r m, 3), (.atomicMin r m, 4), (.atomicMax r m, 5), (.atomicCas r m, 6)] ∧
    s.up = true ∧ s.pwr.holdUp = false ∧ dpaNode r.dpa = s.node ∧ r.mc = false ∧ s.f F.FLT_SED_STAT_MODE = 0 ∧ s.known { r with opc := op } = false ∧
    s.home.supplied = [] ∧ (r.ordered = true → r.seq = s.seriesNext r ∧ s.seriesBlocked r = false ∧ s.home.held = []) ∧
    s.homeCheck { r with opc := op } = .sram ∧ 3 ≤ op.toNat)) &&
  (let r : Req := wReq; let i : Nat := 0; let s : State := wit0; let r : Req := { r with mc := false };
    let s : State := { s with pwr.holdUp := false }; let s : State := State.setF s F.FLT_SED_STAT_MODE (0);
    let s : State := { s with home.supplied := [] }; let s : State := { s with home.held := [] }; let s : State := wPool s 0; decide (s.up = true ∧
    s.pwr.holdUp = false ∧ dpaNode r.dpa = s.node ∧ r.mc = false ∧ s.f F.FLT_SED_STAT_MODE = 0 ∧ s.home.supplied = [] ∧ (s.ext i).accum = false ∧
    (s.ext i).coherent = false ∧ (s.ext i).mirrored = false ∧
    (granulesOf (dpaOff r.dpa) r.bytes).any (fun g => (s.spanKey (s.ext i) (64 * g)).isNone) = false ∧ (r.ordered = true → r.seq = s.seriesNext r ∧
    s.seriesBlocked r = false ∧ s.home.held = []) ∧ s.known { r with opc := 1 } = false ∧ s.homeCheck { r with opc := 1 } = .pool i)) &&
  (let r : Req := { wReq with cls := 1, size := 6 }; let i : Nat := 0; let s : State := wit0; let s : State := { s with pwr.holdUp := false };
    let s : State := State.setF s F.FLT_SED_STAT_MODE (0); let s : State := { s with home.supplied := [] };
    let s : State := { s with home.held := [] }; let s : State := wPool s 0; decide (s.up = true ∧ s.pwr.holdUp = false ∧ dpaNode r.dpa = s.node ∧
    r.mc = false ∧ s.f F.FLT_SED_STAT_MODE = 0 ∧ s.home.supplied = [] ∧ (s.ext i).accum = false ∧ (s.ext i).coherent = false ∧
    (s.ext i).mirrored = false ∧ (granulesOf (dpaOff r.dpa) r.bytes).any (fun g => (s.spanKey (s.ext i) (64 * g)).isNone) = false ∧
    (r.ordered = true → r.seq = s.seriesNext r ∧ s.seriesBlocked r = false ∧ s.home.held = []) ∧ s.known { r with opc := 2 } = false ∧
    s.homeCheck { r with opc := 2 } = .pool i)) &&
  (let r : Req := { wReq with cls := 1, size := 2 }; let i : Nat := 0; let op : BitVec 6 := 3; let c : Instr := .atomicAdd r ⟨[], [], []⟩;
    let s : State := wit0; let s : State := { s with pwr.holdUp := false }; let s : State := State.setF s F.FLT_SED_STAT_MODE (0);
    let s : State := { s with home.supplied := [] }; let s : State := { s with home.held := [] }; let s : State := wPool s 0; decide (s.up = true ∧
    s.pwr.holdUp = false ∧ dpaNode r.dpa = s.node ∧ r.mc = false ∧ s.f F.FLT_SED_STAT_MODE = 0 ∧ s.home.supplied = [] ∧ (s.ext i).accum = false ∧
    (s.ext i).coherent = false ∧ (s.ext i).mirrored = false ∧
    (granulesOf (dpaOff r.dpa) r.bytes).any (fun g => (s.spanKey (s.ext i) (64 * g)).isNone) = false ∧ (r.ordered = true → r.seq = s.seriesNext r ∧
    s.seriesBlocked r = false ∧ s.home.held = []) ∧
    (c, op) ∈ [(Instr.atomicAdd r ⟨[], [], []⟩, (3 : BitVec 6)), (.atomicMin r ⟨[], [], []⟩, 4), (.atomicMax r ⟨[], [], []⟩, 5), (.atomicCas r ⟨[], [], []⟩, 6)] ∧
    s.known { r with opc := op } = false ∧ s.homeCheck { r with opc := op } = .pool i))) = true := by decide +kernel

/-- Of `Obligations.CoherenceAtHome`. -/
theorem test_hypotheses_CoherenceAtHome : (
  (let r : Req := { wReq with cls := 1, size := 6 }; let m : MemCond := wMemCond; let i : Nat := 0; let s : State := wit0;
    let op : BitVec 6 := (8 : BitVec 6); let c : Instr := Instr.rdShared r m; let s : State := wHome s;
    let s : State := { s with pwr.holdUp := false }; let s : State := State.setF s F.FLT_SED_STAT_MODE (0);
    let s : State := { s with home.supplied := [] }; let s : State := { s with home.held := [] };
    let s : State := { s with home := { s.home with txns := [⟨[0], 0, none, [], false, 0⟩] } };
    decide ((c, op) ∈ [(Instr.rdShared r m, (8 : BitVec 6)), (.rdOwn r m, 9), (.upgrade r m, 10), (.writeback r, 11), (.evict r, 12)] ∧ s.up = true ∧
    s.pwr.holdUp = false ∧ dpaNode r.dpa = s.node ∧ r.mc = false ∧ s.f F.FLT_SED_STAT_MODE = 0 ∧ s.known { r with opc := op } = false ∧
    s.home.supplied = [] ∧ s.homeCheck { r with opc := op } = .pool i ∧ (s.ext i).coherent = true ∧ (r.ordered = true → r.seq = s.seriesNext r ∧
    s.seriesBlocked r = false) ∧ s.home.held = [] ∧ (s.home.txns).all (fun t => decide (t.sids = [])) = true ∧
    (({ r with opc := op } : Req).lines.any s.lineBusy) = true)) &&
  (let r : Req := { wReq with cls := 1, size := 6 }; let m : MemCond := wMemCond; let i : Nat := 0; let s : State := wit0;
    let op : BitVec 6 := (8 : BitVec 6); let c : Instr := Instr.rdShared r m; let s : State := wHome s;
    let s : State := { s with pwr.holdUp := false }; let s : State := State.setF s F.FLT_SED_STAT_MODE (0);
    let s : State := { s with home.supplied := [] }; let s : State := { s with home.held := [] };
    let s : State := s.setDir (s.ext 0) 0 ⟨2, false, false, 17, [], 0⟩;
    decide ((c, op) ∈ [(Instr.rdShared r m, (8 : BitVec 6)), (.rdOwn r m, 9), (.upgrade r m, 10), (.writeback r, 11), (.evict r, 12)] ∧ s.up = true ∧
    s.pwr.holdUp = false ∧ dpaNode r.dpa = s.node ∧ r.mc = false ∧ s.f F.FLT_SED_STAT_MODE = 0 ∧ s.known { r with opc := op } = false ∧
    s.home.supplied = [] ∧ s.homeCheck { r with opc := op } = .pool i ∧ (s.ext i).coherent = true ∧ (r.ordered = true → r.seq = s.seriesNext r ∧
    s.seriesBlocked r = false) ∧ s.home.held = [] ∧ (s.home.txns).all (fun t => decide (t.sids = [])) = true ∧
    (({ r with opc := op } : Req).lines.any s.lineBusy) = false ∧
    (({ r with opc := op } : Req).lines.all (fun l => ((s.dirAt (s.ext i) l).snoops { r with opc := op }).isEmpty)) = false)) &&
  (let r : Req := { wReq with cls := 1, size := 6 }; let m : MemCond := wMemCond; let i : Nat := 0; let op : BitVec 6 := 12;
    let c : Instr := .evict { wReq with cls := 1, size := 6 }; let s : State := wit0; let s : State := wHome s;
    let s : State := { s with pwr.holdUp := false }; let s : State := State.setF s F.FLT_SED_STAT_MODE (0);
    let s : State := { s with home.supplied := [] }; let s : State := { s with home.held := [] }; let d := s.dirAt (s.ext i) (dpaOff r.dpa / 64);
    decide ((c, op) ∈ [(Instr.rdShared r m, (8 : BitVec 6)), (.rdOwn r m, 9), (.upgrade r m, 10), (.writeback r, 11), (.evict r, 12)] ∧ s.up = true ∧
    s.pwr.holdUp = false ∧ dpaNode r.dpa = s.node ∧ r.mc = false ∧ s.f F.FLT_SED_STAT_MODE = 0 ∧ s.known { r with opc := op } = false ∧
    s.home.supplied = [] ∧ s.homeCheck { r with opc := op } = .pool i ∧ (s.ext i).coherent = true ∧ (r.ordered = true → r.seq = s.seriesNext r ∧
    s.seriesBlocked r = false) ∧ s.home.held = [] ∧ (s.home.txns).all (fun t => decide (t.sids = [])) = true ∧
    (({ r with opc := op } : Req).lines.any s.lineBusy) = false ∧
    (({ r with opc := op } : Req).lines.all (fun l => ((s.dirAt (s.ext i) l).snoops { r with opc := op }).isEmpty)) = true ∧ (op = 12 ∨ (op = 10 ∧
    d.recorded r.src = true)))) &&
  (let r : Req := { wReq with cls := 1, size := 6 }; let m : MemCond := wMemCond; let i : Nat := 0; let op : BitVec 6 := 11;
    let c : Instr := .writeback { wReq with cls := 1, size := 6 }; let s : State := wit0; let s : State := wHome s;
    let s : State := { s with pwr.holdUp := false }; let s : State := State.setF s F.FLT_SED_STAT_MODE (0);
    let s : State := { s with home.supplied := [] }; let s : State := { s with home.held := [] };
    let s : State := s.setDir (s.ext 0) 0 ⟨2, false, false, 0, [], 0⟩; let d := s.dirAt (s.ext i) (dpaOff r.dpa / 64);
    decide ((c, op) ∈ [(Instr.rdShared r m, (8 : BitVec 6)), (.rdOwn r m, 9), (.upgrade r m, 10), (.writeback r, 11), (.evict r, 12)] ∧ s.up = true ∧
    s.pwr.holdUp = false ∧ dpaNode r.dpa = s.node ∧ r.mc = false ∧ s.f F.FLT_SED_STAT_MODE = 0 ∧ s.known { r with opc := op } = false ∧
    s.home.supplied = [] ∧ s.homeCheck { r with opc := op } = .pool i ∧ (s.ext i).coherent = true ∧ (r.ordered = true → r.seq = s.seriesNext r ∧
    s.seriesBlocked r = false) ∧ s.home.held = [] ∧ (s.home.txns).all (fun t => decide (t.sids = [])) = true ∧
    (({ r with opc := op } : Req).lines.any s.lineBusy) = false ∧
    (({ r with opc := op } : Req).lines.all (fun l => ((s.dirAt (s.ext i) l).snoops { r with opc := op }).isEmpty)) = true ∧ op = 11 ∧ d.st = 2 ∧
    d.owner = r.src ∧ (s.spanKey (s.ext i) (64 * (dpaOff r.dpa / 64))).isSome = true)) &&
  (let r : Req := { wReq with cls := 1, size := 6 }; let m : MemCond := wMemCond; let i : Nat := 0; let op : BitVec 6 := 11;
    let c : Instr := .writeback { wReq with cls := 1, size := 6 }; let s : State := wit0; let s : State := wHome s;
    let s : State := { s with pwr.holdUp := false }; let s : State := State.setF s F.FLT_SED_STAT_MODE (0);
    let s : State := { s with home.supplied := [] }; let s : State := { s with home.held := [] }; let d := s.dirAt (s.ext i) (dpaOff r.dpa / 64);
    decide ((c, op) ∈ [(Instr.rdShared r m, (8 : BitVec 6)), (.rdOwn r m, 9), (.upgrade r m, 10), (.writeback r, 11), (.evict r, 12)] ∧ s.up = true ∧
    s.pwr.holdUp = false ∧ dpaNode r.dpa = s.node ∧ r.mc = false ∧ s.f F.FLT_SED_STAT_MODE = 0 ∧ s.known { r with opc := op } = false ∧
    s.home.supplied = [] ∧ s.homeCheck { r with opc := op } = .pool i ∧ (s.ext i).coherent = true ∧ (r.ordered = true → r.seq = s.seriesNext r ∧
    s.seriesBlocked r = false) ∧ s.home.held = [] ∧ (s.home.txns).all (fun t => decide (t.sids = [])) = true ∧
    (({ r with opc := op } : Req).lines.any s.lineBusy) = false ∧
    (({ r with opc := op } : Req).lines.all (fun l => ((s.dirAt (s.ext i) l).snoops { r with opc := op }).isEmpty)) = true ∧ op = 11 ∧ ¬ (d.st = 2 ∧
    d.owner = r.src))) &&
  (let r : Req := { wReq with cls := 1, size := 6 }; let m : MemCond := wMemCond; let i : Nat := 0; let s : State := wit0;
    let op : BitVec 6 := (8 : BitVec 6); let c : Instr := Instr.rdShared r m; let s : State := wHome s;
    let s : State := { s with pwr.holdUp := false }; let s : State := State.setF s F.FLT_SED_STAT_MODE (0);
    let s : State := { s with home.supplied := [] }; let s : State := { s with home.held := [] }; let d := s.dirAt (s.ext i) (dpaOff r.dpa / 64);
    decide ((c, op) ∈ [(Instr.rdShared r m, (8 : BitVec 6)), (.rdOwn r m, 9), (.upgrade r m, 10), (.writeback r, 11), (.evict r, 12)] ∧ s.up = true ∧
    s.pwr.holdUp = false ∧ dpaNode r.dpa = s.node ∧ r.mc = false ∧ s.f F.FLT_SED_STAT_MODE = 0 ∧ s.known { r with opc := op } = false ∧
    s.home.supplied = [] ∧ s.homeCheck { r with opc := op } = .pool i ∧ (s.ext i).coherent = true ∧ (r.ordered = true → r.seq = s.seriesNext r ∧
    s.seriesBlocked r = false) ∧ s.home.held = [] ∧ (s.home.txns).all (fun t => decide (t.sids = [])) = true ∧
    (({ r with opc := op } : Req).lines.any s.lineBusy) = false ∧
    (({ r with opc := op } : Req).lines.all (fun l => ((s.dirAt (s.ext i) l).snoops { r with opc := op }).isEmpty)) = true ∧
    (op = 8 ∨ op = 9 ∨ (op = 10 ∧ d.recorded r.src = false)) ∧ (s.spanKey (s.ext i) (64 * (dpaOff r.dpa / 64))).isSome = true)) &&
  (let p : Snp := wSnp; let t : Txn := wTxn; let x : BitVec 16 × AgentId × Nat := (0, 0, 0); let y : BitVec 16 × AgentId × Nat := (1, 0, 0);
    let s : State := wit0; let t : Txn := { t with sids := [x, y] }; let t : Txn := { t with req := none };
    let s : State := { s with home.txns := [t] }; decide (s.up = true ∧ s.home.txns = [t] ∧ t.sids = [x, y] ∧ x.1 = p.sid ∧ x.2.1 = p.agent ∧
    y.1 ≠ p.sid ∧ t.req = none)) &&
  (let p : Snp := wSnp; let m : MemCond := wMemCond; let s : State := wit0; let c : Instr := .rspAck p m;
    let s : State := { s with home.txns := [] }; decide (s.up = true ∧ c ∈ [.rspAck p m, .rspData p m, .rspDirty p m] ∧ s.home.txns = [])) &&
  (let r : Req := { wReq with cls := 1 }; let s : State := wit0; decide (s.up = true ∧ r.cls ≠ 0 ∧ s.copyExt r = none)) &&
  (let r : Req := { wReq with cls := 1 }; let i : Nat := 0; let s : State := wit0; let s : State := wPool s (2 ^ 42); decide (s.up = true ∧
    r.cls ≠ 0 ∧ s.copyExt r = some i)) &&
  (let r : Req := wReq; let n : BitVec 16 := 0; let s : State := wit0; let r : Req := { r with cls := 0 };
    let s : State := { s with home.copyDone := sset noCopy s.home.copyDone r.key (some 0) }; decide (s.up = true ∧ r.cls = 0 ∧
    sget noCopy s.home.copyDone r.key = some n ∧ (n - r.seq).toNat < 32768)) &&
  (let r : Req := { wReq with seq := 1 }; let n : BitVec 16 := 0; let s : State := wit0; let s : State := { s with home.copyHeld := [] };
    let s : State := { s with home := { s.home with copyDone := sset noCopy s.home.copyDone r.key (some n) } }; decide (s.up = true ∧ r.cls = 0 ∧
    sget noCopy s.home.copyDone r.key = some n ∧ 32768 ≤ (n - r.seq).toNat ∧ r.prevSeq = n ∧ s.home.copyHeld = [])) &&
  (let r : Req := { wReq with seq := 2, prevSeq := 1 }; let n : BitVec 16 := 0; let s : State := wit0;
    let s : State := { s with home := { s.home with copyDone := sset noCopy s.home.copyDone r.key (some n) } }; decide (s.up = true ∧ r.cls = 0 ∧
    sget noCopy s.home.copyDone r.key = some n ∧ 32768 ≤ (n - r.seq).toNat ∧ r.prevSeq ≠ n ∧ r.prevSeq ≠ r.seq))) = true := by decide +kernel

/-- Of `Obligations.Extents`. -/
theorem test_hypotheses_Extents : (
  (let e : BitVec 14 := 0; let g : Bool := false; let a : AgentId := 0; let s : State := wit0; let c : Instr := .grant e false;
    let s : State := State.setF s F.HOM_EXT_RES_BUSY 0; decide (s.takes = true ∧ s.on F.HOM_EXT_RES_BUSY = false ∧ s.home.timed.length < 64 ∧
    swf regReset s.regs = true ∧
    c ∈ [.grant e false, .renew e false, .revoke e g false, .expire e false, .extAdmit e g false, .rotate e false, .agentDrop a false])) &&
  (let e : BitVec 14 := 0; let g : Bool := false; let a : AgentId := 0; let s : State := wit0; let c : Instr := .grant e false;
    let s : State := State.setF s F.HOM_EXT_RES_BUSY 1; decide (s.takes = true ∧ s.on F.HOM_EXT_RES_BUSY = true ∧
    c ∈ [.grant e false, .renew e false, .revoke e g false, .expire e false, .extAdmit e g false, .rotate e false, .agentDrop a false])) &&
  (let v : R32 := 0; let s : State := wit0; let s : State := { s with home.cmd := some v }; decide (s.up = true ∧ s.home.cmd = some v ∧
    s.cmdErr v ≠ 0)) &&
  (let v : R32 := 0x10000000; let i : Nat := 0; let s : State := wit0; let s : State := wExt s 0 0 0 0 1 (2 ^ 37);
    let s : State := { s with home.cmd := some v }; decide (s.up = true ∧ s.home.cmd = some v ∧ fget F.HOM_EXT_CMD_OP v = 1 ∧
    i = (fget F.HOM_EXT_CMD_EXTENT v).toNat ∧ s.grantErr i = 0 ∧ Mem.wf s.mems.ext = true)) &&
  (let v : R32 := 0x20000000; let s : State := wit0; let s : State := wExt s 0 0 1 0 1 (2 ^ 37); let s : State := { s with home.cmd := some v };
    decide (s.up = true ∧ s.home.cmd = some v ∧ s.cmdErr v = 0)) &&
  (let v : R32 := 0x20000000; let i : Nat := 0; let s : State := wit0; let s : State := wExt s 0 0 1 0 1 (2 ^ 37);
    let s : State := { s with home.cmd := some v }; decide (s.up = true ∧ s.home.cmd = some v ∧ s.cmdErr v = 0 ∧ Mem.wf s.mems.ext = true ∧
    i = (fget F.HOM_EXT_CMD_EXTENT v).toNat ∧ fget F.HOM_EXT_CMD_OP v = 2)) &&
  (let v : R32 := 0x50000000; let i : Nat := 0; let s : State := wit0; let s : State := wExt s 0 0 1 0 1 (2 ^ 37);
    let s : State := { s with home.cmd := some v }; decide (s.up = true ∧ s.home.cmd = some v ∧ s.cmdErr v = 0 ∧ Mem.wf s.mems.ext = true ∧
    i = (fget F.HOM_EXT_CMD_EXTENT v).toNat ∧ fget F.HOM_EXT_CMD_OP v = 5)) &&
  (let e : BitVec 14 := 0; let g : Bool := false; let a : AgentId := 0; let v : R32 := extCmdWord 1 true false 0 e; let s : State := wit0;
    let c : Instr := Instr.grant e true; let s : State := State.setF s F.HOM_EXT_RES_BUSY 0; decide (s.takes = true ∧
    s.on F.HOM_EXT_RES_BUSY = false ∧ s.home.timed.length < 64 ∧ swf regReset s.regs = true ∧
    (c, v) ∈ [(Instr.grant e true, extCmdWord 1 true false 0 e), (.renew e true, extCmdWord 2 true false 0 e), (.revoke e g true, extCmdWord 3 true g 0 e), (.expire e true, extCmdWord 4 true false 0 e), (.extAdmit e g true, extCmdWord 5 true g 0 e), (.rotate e true, extCmdWord 6 true false 0 e), (.agentDrop a true, extCmdWord 7 true false a 0)])) &&
  (let t : R64 := 0; let v : R32 := 0; let s : State := wit0; let s : State := { s with home.timed := [(t, v)] }; decide (s.up = true ∧
    s.home.timed = [(t, v)] ∧ s.due t = true ∧ s.cmdErr v ≠ 0)) &&
  (let t : R64 := 0; let v : R32 := 0x50000000; let s : State := wit0; let s : State := wExt s 0 0 1 0 1 (2 ^ 37);
    let s : State := { s with home.timed := [(t, v)] }; decide (s.up = true ∧ s.home.timed = [(t, v)] ∧ s.due t = true ∧ s.cmdErr v = 0)) &&
  (let s : State := wit0; let s : State := { s with home.timed := [] }; decide (s.up = true ∧ s.home.timed = [])) &&
  (let x : BitVec 14 := 0; let s : State := wit0; let s : State := wExt s 0 0 1 0 1 0; let s : State := State.setF s F.HOM_CTL_LEASE_EN 1;
    decide (s.up = true ∧ s.on F.HOM_CTL_LEASE_EN = true ∧ ((s.ext x.toNat).state = exActive ∨ (s.ext x.toNat).state = exRevoking) ∧
    s.due (s.ext x.toNat).deadline = true)) &&
  (let x : BitVec 14 := 0; let s : State := wit0; decide (s.up = true ∧ (s.on F.HOM_CTL_LEASE_EN = false ∨ s.due (s.ext x.toNat).deadline = false))) &&
  (let x : BitVec 14 := 0; let g : Bool := false; let n : Nat := 0; let s : State := wit0;
    let s : State := { s with home := { s.home with bg := [⟨0, .revoke false 0⟩] } }; decide (s.up = true ∧ s.revokeOf x.toNat = some (g, n) ∧
    s.inFlight x.toNat (some g) = false ∧ s.recalling x.toNat = false ∧ s.linesOfGen x.toNat g = [])) &&
  (let x : BitVec 14 := 0; let s : State := wit0; decide (s.up = true ∧ s.reclaims x.toNat = false)) &&
  (let x : BitVec 14 := 0; let s : State := wit0; let s : State := { s with home.txns := [] };
    let s : State := { s with home := { s.home with bg := [⟨0, .reclaim true⟩] } }; decide (s.up = true ∧ s.reclaims x.toNat = true ∧
    s.home.txns = [])) &&
  (let x : BitVec 14 := 0; let t : Txn := { wTxn with sids := [(1, 0, 0)], lines := [0] }; let y : BitVec 16 × AgentId × Nat := (1, 0, 0);
    let s : State := wit0; let s : State := { s with home.txns := [t] }; let s : State := { s with home.waits := [] };
    let s : State := { s with home.held := [] }; let s : State := { s with home := { s.home with bg := [⟨0, .reclaim true⟩] } };
    let s : State := { s with home := { s.home with txns := [t] } }; let s : State := wNow s 250000; decide (s.up = true ∧
    s.reclaims x.toNat = true ∧ s.home.txns = [t] ∧ t.ext = x ∧ t.req = none ∧ t.sids = [y] ∧ t.lines = [y.2.2] ∧
    t.sentAt.toNat + 250000 ≤ s.now.toNat ∧ s.home.waits = [] ∧ s.home.held = [])) &&
  (let x : BitVec 14 := 0; let s : State := wit0; let s : State := wExt s 0 0 3 0 1 0;
    let s : State := { s with home := { s.home with bg := [⟨0, .reclaim true⟩] } }; decide (s.up = true ∧ (s.ext x.toNat).state = exExpired ∧
    s.reclaims x.toNat = true ∧ s.dropping x.toNat = true ∧ s.inFlight x.toNat none = false ∧ s.recalling x.toNat = false ∧
    s.cachedLines (s.ext x.toNat) = [])) &&
  (let s : State := wit0; let s : State := { s with dtt.bgDone := false }; decide (s.up = true ∧ isBg bgHome (s.entry 63) = true ∧
    s.dtt.bgDone = false)) &&
  (let s : State := wit0; let s : State := { s with dtt.bgDone := true }; decide (s.up = true ∧ s.dtt.bgDone = true)) &&
  (let off : BitVec 18 := 0; let s : State := wit0; let s : State := wExt s 0 0 1 0 1 0; decide (s.takes = true ∧
    (s.ext (s.extWinAddr off.toNat / 64)).state ≠ exFree)) &&
  (let off : BitVec 18 := 32; let s : State := wit0; decide (s.takes = true ∧ (s.ext (s.extWinAddr off.toNat / 64)).state = exFree ∧
    s.extWinAddr off.toNat % 64 = 32 ∧ Mem.wf s.mems.ext = true)) &&
  (let s : State := wit0; let s : State := State.setF s F.HOM_CTL_LEASE_EN 1; decide (s.takes = true ∧ s.on F.HOM_CTL_LEASE_EN = true)) &&
  (let v : R32 := 4; let s : State := wit0; let s : State := State.setF s F.HOM_CTL_LEASE_EN 0; decide (s.takes = true ∧
    s.on F.HOM_CTL_LEASE_EN = false ∧ fget F.HOM_CTL_LEASE_EN v = 1))) = true := by decide +kernel

/-- Of `Obligations.QueuesAndRings`. -/
theorem test_hypotheses_QueuesAndRings : (
  (let q : BitVec 10 := 0; let s : State := wit0; decide (s.takes = true ∧ s.f (F.QMG_Q_CFG_POSTER q.toNat) ∈ [(8 : BitVec 4), 9])) &&
  (let q : BitVec 10 := 0; let s : State := wit0; let s : State := s.setF (F.QMG_Q_CFG_POSTER 0) 1;
    decide (s.f (F.QMG_Q_CFG_POSTER q.toNat) ∉ [(8 : BitVec 4), 9])) &&
  (let q : BitVec 10 := 0; let s : State := wit0; let s : State := State.setF s (F.QMG_Q_STAT_STATE q.toNat) (qIdle);
    let s : State := State.setF s (F.QMG_Q_CTL_RUN q.toNat) 1; decide (s.takes = true ∧ s.qState q.toNat = qIdle ∧
    s.on (F.QMG_Q_CTL_RUN q.toNat) = true ∧ s.jobStopped (s.slotJob (s.qSlot q.toNat)) = false ∧ swf regReset s.regs = true ∧
    swf regReset s.eff = true ∧ swf QRec.idle s.qmg.qs = true)) &&
  (let q : BitVec 10 := 0; let s : State := wit0; let s : State := State.setF s (F.QMG_Q_STAT_STATE q.toNat) (qRunning);
    let s : State := State.setF s (F.QMG_Q_CTL_RUN q.toNat) 0; let s : State := State.setQ s q.toNat { State.q s q.toNat with descs := [] };
    decide (s.takes = true ∧ s.qState q.toNat = qRunning ∧ s.on (F.QMG_Q_CTL_RUN q.toNat) = false ∧ (s.q q.toNat).descs = [] ∧
    swf regReset s.regs = true ∧ swf regReset s.eff = true)) &&
  (let q : BitVec 10 := 0; let s : State := wit0; let s : State := State.setF s (F.QMG_Q_STAT_STATE q.toNat) (qStopping);
    let s : State := State.setQ s q.toNat { State.q s q.toNat with descs := [] };
    let s : State := State.setQ s q.toNat { State.q s q.toNat with jobStop := false }; let s : State := wsetE s (F.QMG_Q_CTL_RUN q.toNat) (0);
    decide (s.up = true ∧ s.qState q.toNat = qStopping ∧ (s.q q.toNat).descs = [] ∧ (s.q q.toNat).jobStop = false ∧
    s.e (F.QMG_Q_CTL_RUN q.toNat) = 0 ∧ swf regReset s.regs = true ∧ swf QRec.idle s.qmg.qs = true)) &&
  (let q : BitVec 10 := 0; let s : State := wit0; decide (s.qState q.toNat ≠ qStopping)) &&
  (let r : BitVec 4 := 0; let v : R32 := 0xFFFFFFFF; let s : State := wit0; let s : State := State.setF s (F.QMG_EVT_CFG_EN r.toNat) 0;
    decide (s.takes = true ∧ s.on (F.QMG_EVT_CFG_EN r.toNat) = false ∧ fget (F.QMG_EVT_CFG_EN r.toNat) v = 1 ∧ (s.ring r.toNat).held = [] ∧
    (s.ring r.toNat).dropped = 0 ∧ swf regReset s.regs = true)) &&
  (let r : BitVec 4 := 0; let v : R32 := 0; let s : State := wit0; let s : State := State.setF s (F.QMG_EVT_CFG_EN r.toNat) 1;
    decide (s.takes = true ∧ s.on (F.QMG_EVT_CFG_EN r.toNat) = true ∧ fget (F.QMG_EVT_CFG_EN r.toNat) v = 0 ∧ swf regReset s.regs = true ∧
    swf ringNone s.qmg.rings = true)) &&
  (let r : BitVec 4 := 0; let s : State := wit0; let s : State := State.setF s (F.QMG_EVT_CFG_EN r.toNat) 0; decide (s.takes = true ∧
    s.on (F.QMG_EVT_CFG_EN r.toNat) = false)) &&
  (let r : BitVec 4 := 0; let s : State := wit0; let s : State := State.setF s (F.QMG_EVT_CFG_EN r.toNat) 1; decide (s.takes = true ∧
    s.on (F.QMG_EVT_CFG_EN r.toNat) = true ∧ swf regReset s.regs = true)) &&
  (let r : BitVec 4 := 0; let s : State := wit0; let s : State := State.setF s (F.QMG_EVT_CFG_EN r.toNat) 1; decide (s.takes = true ∧
    s.on (F.QMG_EVT_CFG_EN r.toNat) = true ∧ (s.ring r.toNat).held = [] ∧ (s.ring r.toNat).dropped = 0 ∧ swf regReset s.regs = true)) &&
  (let r : BitVec 4 := 0; let w : R64 := 0; let s : State := wit0; let s : State := s.setRing 0 ⟨[], 0, some 0, false⟩; decide (s.up = true ∧
    (s.ring r.toNat).holdoff = some w ∧ s.due w = true ∧ (s.ring r.toNat).call = false)) &&
  (let r : BitVec 4 := 0; let w : R64 := 0; let s : State := wit0; let s : State := s.setRing 0 ⟨[], 0, some 0, true⟩; decide (s.up = true ∧
    (s.ring r.toNat).holdoff = some w ∧ s.due w = true ∧ (s.ring r.toNat).call = true)) &&
  (let r : BitVec 4 := 0; let w : R64 := 0; let s : State := wit0; decide (s.up = true ∧
    (s.ring r.toNat).holdoff = none ∨ ((s.ring r.toNat).holdoff = some w ∧ s.due w = false)))) = true := by decide +kernel

/-- Of `Obligations.DescriptorIntake`. -/
theorem test_hypotheses_DescriptorIntake : (
  (let q : BitVec 10 := 0; let s : State := wit0; let s : State := { s with pwr.pcieUp := true };
    let s : State := (((((s.setF F.QMG_CTL_EN 1).setF (F.QMG_Q_CFG_LOG2_SIZE 0) 6).setF (F.QMG_Q_PTR_TAIL 0) 1).setF (F.QMG_Q_STAT_STATE 0) qRunning));
    decide (s.up = true ∧ s.mayFetch q.toNat = true ∧ s.qInSram q.toNat = false ∧ s.pwr.pcieUp = true)) &&
  (let q : BitVec 10 := 0; let s : State := wit0; decide (s.up = true ∧ s.mayFetch q.toNat = false)) &&
  (let q : BitVec 10 := 0; let s : State := wit0; let s : State := State.setQ s q.toNat { State.q s q.toNat with fetching := true };
    let s : State := State.setF s (F.QMG_Q_STAT_STATE q.toNat) (qRunning); decide (s.up = true ∧ (s.q q.toNat).fetching = true ∧
    s.qState q.toNat = qRunning ∧ swf regReset s.regs = true ∧ swf QRec.idle s.qmg.qs = true)) &&
  (let q : BitVec 10 := 0; let bs : Bytes := natLe 64 9; let s : State := wit0;
    let s : State := State.setQ s q.toNat { State.q s q.toNat with fetching := true };
    let s : State := State.setF s (F.QMG_Q_STAT_STATE q.toNat) (qRunning);
    let s : State := State.setQ s q.toNat { State.q s q.toNat with jobStop := false }; decide (s.up = true ∧ (s.q q.toNat).fetching = true ∧
    s.qState q.toNat = qRunning ∧ (s.q q.toNat).jobStop = false ∧ s.qInSram q.toNat = false ∧ swf regReset s.regs = true ∧
    swf QRec.idle s.qmg.qs = true ∧ bitAt ((slotWords bs).getD 2 0).toNat 0 = false ∧ s.descErr q.toNat (s.newDesc q.toNat (slotWords bs)) ≠ 0)) &&
  (let q : BitVec 10 := 0; let bs : Bytes := []; let s : State := wit0;
    let s : State := State.setQ s q.toNat { State.q s q.toNat with fetching := true };
    let s : State := State.setF s (F.QMG_Q_STAT_STATE q.toNat) (qRunning);
    let s : State := State.setQ s q.toNat { State.q s q.toNat with jobStop := false };
    let s : State := State.setQ s q.toNat { State.q s q.toNat with descs := [] }; decide (s.up = true ∧ (s.q q.toNat).fetching = true ∧
    s.qState q.toNat = qRunning ∧ (s.q q.toNat).jobStop = false ∧ s.qInSram q.toNat = false ∧ (s.q q.toNat).descs = [] ∧
    swf QRec.idle s.qmg.qs = true ∧ slotWords bs = List.replicate 16 0)) &&
  (let q : BitVec 10 := 0; let d : Desc := wDesc; let n : Nat := 0; let s : State := wit0; let d : Desc := { d with st := .translated };
    let d : Desc := { d with epoch := s.slotEpoch (s.qSlot q.toNat) }; let s : State := State.setF s (F.QMG_Q_STAT_STATE q.toNat) (qRunning);
    let s : State := State.setQ s q.toNat { State.q s q.toNat with descs := [d] }; let s : State := State.setF s F.GLB_TILES_SHORT 0;
    decide (s.up = true ∧ s.qState q.toNat = qRunning ∧ (s.q q.toNat).descs = [d] ∧ d.st = .translated ∧ d.timed = false ∧ d.barrier = false ∧
    d.isColl = false ∧ (d.isEngine = true → s.on F.ENG_CTL_EN = true ∧ s.on F.GLB_TILES_SHORT = false) ∧ d.epoch = s.slotEpoch (s.qSlot q.toNat) ∧
    s.queueStream q.toNat = 0 ∧ s.freeTile = some n ∧ s.turnOf = some q.toNat ∧ swf QRec.idle s.qmg.qs = true)) &&
  (let q : BitVec 10 := 0; let d : Desc := { wD (2 ^ 13) [1] .translated with tbl := (0, 1) }; let s : State := wit0;
    let s : State := State.setQ s q.toNat { State.q s q.toNat with descs := [d] }; decide (s.up = true ∧ (s.q q.toNat).descs = [d] ∧
    d.st = .translated ∧ d.timed = true ∧ s.due (d.w 1) = false)) &&
  (let q : BitVec 10 := 0; let d : Desc := wDesc; let s : State := wit0; let d : Desc := { d with st := .running };
    let s : State := State.setQ s q.toNat { State.q s q.toNat with descs := [d] }; decide (s.up = true ∧ (s.q q.toNat).descs = [d] ∧
    d.st = .running ∧ d.opcode = 0 ∧ swf QRec.idle s.qmg.qs = true))) = true := by decide +kernel

/-- Of `Obligations.DataMoves`; the one clause over the four moves and their work is met by test_hypotheses_IndexedMoves. -/
theorem test_hypotheses_DataMoves : (
  (let q : BitVec 10 := 0; let d : Desc := wD 1 [0, 0, 0, 0, 1, 3] .running; let bs : Bytes := [0]; let s : State := wit0;
    let s : State := { s with pwr.pcieUp := true }; let s : State := State.setQ s q.toNat { State.q s q.toNat with descs := [d] };
    decide (s.up = true ∧ s.pwr.pcieUp = true ∧ s.qState q.toNat ≠ qStopping ∧ (s.q q.toNat).descs = [d] ∧ d.st = .running ∧ d.opcode = 1 ∧
    d.srcBus = true ∧ d.dstBus = true ∧ d.prog = 0 ∧ 0 < d.length ∧ d.length ≤ 256 ∧ bs.length = d.length ∧ swf QRec.idle s.qmg.qs = true)) &&
  (let q : BitVec 10 := 0; let d : Desc := wD 4 [0, 0, 0, 0, 8, 2] .running; let s : State := wit0; let s : State := { s with pwr.pcieUp := true };
    let s : State := State.setQ s q.toNat { State.q s q.toNat with descs := [d] }; decide (s.up = true ∧ s.pwr.pcieUp = true ∧
    s.qState q.toNat ≠ qStopping ∧ (s.q q.toNat).descs = [d] ∧ d.st = .running ∧ d.opcode = 4 ∧ d.dstBus = true ∧ d.prog = 0 ∧ d.length = 8 ∧
    swf QRec.idle s.qmg.qs = true)) &&
  (let q : BitVec 10 := 0; let d : Desc := { wDesc with st := .translated }; let resps : List Resp := []; let s : State := wit0;
    let c : Instr := .copy q d.idx resps; let s : State := State.setQ s q.toNat { State.q s q.toNat with descs := [d] }; decide (s.up = true ∧
    (s.q q.toNat).descs = [d] ∧ d.st ≠ .running ∧
    c ∈ [.copy q d.idx resps, .fill q d.idx resps, .gather q d.idx resps, .embedBag q d.idx resps, .scatter q d.idx resps, .atomicBatch q d.idx resps])) &&
  (let q : BitVec 10 := 0; let d : Desc := wD 2 [] .running; let s : State := wit0;
    let s : State := State.setQ s q.toNat { State.q s q.toNat with descs := [d] }; decide (s.up = true ∧ (s.q q.toNat).descs = [d] ∧ d.st = .running)) &&
  (let q : BitVec 10 := 0; let d : Desc := wD 2 [0, 0, 0, 0, 0, 1] .running; let resps : List Resp := []; let c : Instr := .gather 0 0 [];
    let s : State := wit0; let s : State := State.setQ s q.toNat { State.q s q.toNat with descs := [d] }; decide (s.up = true ∧
    (s.q q.toNat).descs = [d] ∧ d.st = .running ∧ ((c = .gather q d.idx resps ∧ d.opcode = 2 ∧ d.mode = 0) ∨ (c = .embedBag q d.idx resps ∧
    d.opcode = 2 ∧ d.mode = 1) ∨ (c = .scatter q d.idx resps ∧ d.opcode = 3)) ∧ d.indexCount ≠ 0 ∧ s.findIn d.tbl (d.w 3).toNat 1 = none ∧
    swf QRec.idle s.qmg.qs = true)) &&
  (let q : BitVec 10 := 0; let d : Desc := wD 2 [] .running; let resps : List Resp := []; let c : Instr := .gather 0 0 []; let s : State := wit0;
    let s : State := State.setQ s q.toNat { State.q s q.toNat with descs := [d] }; decide (s.up = true ∧ (s.q q.toNat).descs = [d] ∧
    d.st = .running ∧ ((c = .gather q d.idx resps ∧ d.opcode = 2 ∧ d.mode = 0) ∨ (c = .embedBag q d.idx resps ∧ d.opcode = 2 ∧
    d.mode = 1) ∨ (c = .scatter q d.idx resps ∧ d.opcode = 3)) ∧ d.indexCount = 0 ∧ swf QRec.idle s.qmg.qs = true))) = true := by decide +kernel

/-- Of `Obligations.DescriptorEnds`. -/
theorem test_hypotheses_DescriptorEnds : (
  (let q : BitVec 10 := 0; let d : Desc := wDesc; let s : State := wit0; let d : Desc := { d with st := .finished };
    let d : Desc := { d with status := stOk }; let d : Desc := { d with idx := s.qHead q.toNat }; let s : State := { s with pwr.pcieUp := true };
    let s : State := State.setQ s q.toNat { State.q s q.toNat with dead := false };
    let s : State := State.setQ s q.toNat { State.q s q.toNat with descs := [d] }; decide (s.up = true ∧ s.pwr.pcieUp = true ∧
    s.qInSram q.toNat = false ∧ (s.q q.toNat).dead = false ∧ (s.q q.toNat).descs = [d] ∧ d.st = .finished ∧ d.status = stOk ∧ d.double = false ∧
    d.sigEn = false ∧ d.evt = false ∧ d.idx = s.qHead q.toNat ∧ swf QRec.idle s.qmg.qs = true ∧ swf regReset s.regs = true)) &&
  (let q : BitVec 10 := 0; let d : Desc := wD (2 ^ 12) [] .finished; let s : State := wit0;
    let s : State := State.setQ s q.toNat { State.q s q.toNat with descs := [d] }; decide (s.up = true ∧ (s.q q.toNat).descs = [d] ∧
    d.st = .finished ∧ d.status = stOk ∧ d.sigEn = true ∧ swf QRec.idle s.qmg.qs = true)) &&
  (let q : BitVec 10 := 0; let d : Desc := wDesc; let s : State := wit0;
    let s : State := State.setQ s q.toNat { State.q s q.toNat with descs := [d] }; decide (s.up = true ∧ (s.q q.toNat).descs = [d] ∧
    d.st ≠ .finished)) &&
  (let q : BitVec 10 := 0; let d : Desc := wD 8 [] .running; let s : State := wit0;
    let s : State := State.setQ s q.toNat { State.q s q.toNat with descs := [d] }; decide (s.up = true ∧ (s.q q.toNat).descs = [d] ∧
    d.st = .running ∧ d.opcode = 8 ∧ d.covers.any s.outstanding = false ∧ swf QRec.idle s.qmg.qs = true)) &&
  (let q : BitVec 10 := 0; let d : Desc := { wDesc with covers := [(0, 0)] }; let s : State := wit0;
    let s : State := State.setQ s q.toNat { State.q s q.toNat with descs := [d] }; decide (s.up = true ∧ (s.q q.toNat).descs = [d] ∧
    d.covers.any s.outstanding = true)) &&
  (let q : BitVec 10 := 0; let d : Desc := wDd [5]; let va : Va := 0; let s : State := wit0; let s : State := wRt (wCtx s) 0xF 15 0 (2 ^ 63);
    let s : State := State.setQ s q.toNat { State.q s q.toNat with descs := [d] }; let e : RangeE := (State.findIn s (0, 1) 0 1).getD wRangeE;
    decide (s.up = true ∧ (s.q q.toNat).descs = [d] ∧ d.st = .running ∧ d.isColl = false ∧ d.isEngine = true ∧ d.nopres = false ∧
    s.parkedCount < 1023 ∧ s.pageRange q.toNat d va.toNat = some e ∧ e.presEn = true ∧ s.present e ((va.toNat - e.vaStart) / 65536) = false ∧
    swf QRec.idle s.qmg.qs = true)) &&
  (let q : BitVec 10 := 0; let d : Desc := wDesc; let va : Va := 0; let s : State := wit0;
    let s : State := State.setQ s q.toNat { State.q s q.toNat with descs := [d] }; decide (s.up = true ∧ (s.q q.toNat).descs = [d] ∧
    s.pageRange q.toNat d va.toNat = none))) = true := by decide +kernel

/-- Of `Obligations.SyncObjectsAndEntries`. -/
theorem test_hypotheses_SyncObjectsAndEntries : (
  (let s : State := wit0; decide (s.takes = true ∧ swf obj0 s.syn.objs = true)) &&
  (let s : State := wit0; decide (s.takes = true ∧ swf obj0 s.syn.objs = true)) &&
  (let o : BitVec 14 := 0; let s : State := wit0; let s : State := { s with home.watches := [] }; decide (s.takes = true ∧ s.home.watches = [] ∧
    s.doorbellQueues o.toNat = [])) &&
  (let o : BitVec 14 := 0; let v : R32 := 0; let w : Watch := wWatch; let s : State := wit0; let w : Watch := { w with obj := o };
    let s : State := { s with home.watches := [w] }; decide (s.takes = true ∧ s.home.watches = [w] ∧ w.obj = o ∧
    w.thr.toNat ≤ (s.obj o.toNat + v.setWidth 64).toNat)) &&
  (let d : Dpa := BitVec.ofNat 52 (2 ^ 45); let o : BitVec 14 := 0; let j : JobId := 0; let s : State := wit0; decide (s.up = true ∧
    dpaNode d = s.node ∧ objOf d = some o ∧ s.objCheck o.toNat j ≠ stOk)) &&
  (let d : Dpa := BitVec.ofNat 52 (2 ^ 45); let o : BitVec 14 := 0; let j : JobId := 0; let thr : R64 := 0; let s : State := wit0;
    let s : State := s.setF (F.SYN_CTL_EN 0) 1; decide (s.up = true ∧ dpaNode d = s.node ∧ objOf d = some o ∧ s.objCheck o.toNat j = stOk ∧
    thr.toNat ≤ (s.obj o.toNat).toNat)) &&
  (let d : Dpa := BitVec.ofNat 52 (2 ^ 45); let o : BitVec 14 := 0; let j : JobId := 0; let thr : R64 := 1; let s : State := wit0;
    let s : State := s.setF (F.SYN_CTL_EN 0) 1; decide (s.up = true ∧ dpaNode d = s.node ∧ objOf d = some o ∧ s.objCheck o.toNat j = stOk ∧
    (s.obj o.toNat).toNat < thr.toNat ∧ s.home.watches.length < 4096)) &&
  (let d : Dpa := BitVec.ofNat 52 (2 ^ 45); let o : BitVec 14 := 0; let j : JobId := 0; let thr : R64 := 1; let n : NodeId := 1;
    let s : State := wit0; let s : State := s.setF (F.SYN_CTL_EN 0) 1;
    let s : State := { s with home := { s.home with watches := List.replicate 4096 ⟨0, 1, 0, 0, 0⟩ } }; decide (s.up = true ∧ dpaNode d = s.node ∧
    objOf d = some o ∧ s.objCheck o.toNat j = stOk ∧ (s.obj o.toNat).toNat < thr.toNat ∧ 4096 ≤ s.home.watches.length ∧ n ≠ s.node)) &&
  (let d : Dpa := 0; let s : State := wit0; decide (s.up = true ∧ dpaNode d = s.node ∧ objOf d = none)) &&
  (let d : Dpa := BitVec.ofNat 52 (2 ^ 46 + 2 ^ 45); let s : State := wit0; decide (s.up = true ∧ dpaNode d ≠ s.node)) &&
  (let s : State := wit0; decide (s.up = true)) &&
  (let e : BitVec 8 := 0; let s : State := wit0; decide (s.takes = true ∧ e.toNat < 64 ∧ swf regReset s.regs = true)) &&
  (let e : BitVec 8 := 0; let s : State := wit0; decide (s.takes = true ∧ e.toNat < 64)) &&
  (let e : BitVec 8 := 64; decide (64 ≤ e.toNat)) &&
  (let e : BitVec 8 := 0; let s : State := wit0; let s : State := State.setF s (F.SYN_ARM_CTL_ARMED e.toNat) 1; decide (s.up = true ∧
    s.on (F.SYN_ARM_CTL_ARMED e.toNat) = true ∧ s.due (s.armTick e.toNat) = true ∧ swf regReset s.regs = true)) &&
  (let e : BitVec 8 := 0; let s : State := wit0; let s : State := State.setF s (F.SYN_ARM_CTL_ARMED e.toNat) 1; decide (s.up = true ∧
    s.on (F.SYN_ARM_CTL_ARMED e.toNat) = true ∧ s.due (s.armTick e.toNat) = true ∧ s.expelled (s.f (F.SYN_ARM_CTL_NODE e.toNat)) = false)) &&
  (let e : BitVec 8 := 0; let s : State := wit0; let s : State := State.setF s (F.SYN_ARM_CTL_ARMED e.toNat) 1;
    let s : State := State.wr s Reg.FLT_EXP_LO 1; decide (s.up = true ∧ s.on (F.SYN_ARM_CTL_ARMED e.toNat) = true ∧
    s.due (s.armTick e.toNat) = true ∧ s.expelled (s.f (F.SYN_ARM_CTL_NODE e.toNat)) = true)) &&
  (let e : BitVec 8 := 0; let s : State := wit0; decide ((s.on (F.SYN_ARM_CTL_ARMED e.toNat) = false ∨ s.due (s.armTick e.toNat) = false))) &&
  (let q : BitVec 10 := 0; let d : Desc := { wDd [7, 0, 0, 0, 0, 1] with st := .armWait }; let n : Nat := 64; let s : State := wit0;
    let s : State := wRtO s; let s : State := { s with qmg.armWait := [(q, d.idx)] };
    let s : State := State.setQ s q.toNat { State.q s q.toNat with descs := [d] }; let r : RangeE := (State.findIn s (0, 1) 0 1).getD wRangeE;
    let o : BitVec 14 := 0; decide (s.up = true ∧ s.qmg.armWait = [(q, d.idx)] ∧ s.freeArm = some n ∧ (s.q q.toNat).descs = [d] ∧ d.st = .armWait ∧
    d.opcode = 7 ∧ d.epoch = s.slotEpoch (s.qSlot q.toNat) ∧ s.findIn d.tbl (d.w 3).toNat 1 = some r ∧ objOf (dpaOf r (d.w 3).toNat) = some o ∧
    swf regReset s.regs = true ∧ swf QRec.idle s.qmg.qs = true)) &&
  (let s : State := wit0; decide ((s.qmg.armWait = [] ∨ s.freeArm = none)))) = true := by decide +kernel

/-- Of `Obligations.SyncDescriptors`. -/
theorem test_hypotheses_SyncDescriptors : (
  (let q : BitVec 10 := 0; let d : Desc := wDd [6]; let s : State := wit0; let s : State := wRtO s;
    let s : State := State.setQ s q.toNat { State.q s q.toNat with descs := [d] }; let r : RangeE := (State.findIn s (0, 1) 0 1).getD wRangeE;
    let o : BitVec 14 := 0; decide (s.up = true ∧ (s.q q.toNat).descs = [d] ∧ d.st = .running ∧ d.opcode = 6 ∧ d.watching = false ∧
    d.polling = false ∧ s.findIn d.tbl (d.w 3).toNat 1 = some r ∧ objOf (dpaOf r (d.w 3).toNat) = some o ∧
    s.expelled (dpaNode (dpaOf r (d.w 3).toNat)) = false ∧ swf QRec.idle s.qmg.qs = true)) &&
  (let q : BitVec 10 := 0; let d : Desc := { wDd [6] with watching := true }; let s : State := wit0; let s : State := wRt s 0xF 15 0 0;
    let s : State := State.setQ s q.toNat { State.q s q.toNat with descs := [d] }; let r : RangeE := (State.findIn s (0, 1) 0 1).getD wRangeE;
    decide (s.up = true ∧ (s.q q.toNat).descs = [d] ∧ d.st = .running ∧ d.opcode = 6 ∧ d.watching = true ∧ d.polling = false ∧
    s.findIn d.tbl (d.w 3).toNat 1 = some r ∧ swf QRec.idle s.qmg.qs = true)) &&
  (let q : BitVec 10 := 0; let d : Desc := wDd [6]; let s : State := wit0; let s : State := wRt s 0xF 15 0 0;
    let s : State := State.setQ s q.toNat { State.q s q.toNat with descs := [d] }; let r : RangeE := (State.findIn s (0, 1) 0 1).getD wRangeE;
    decide (s.up = true ∧ (s.q q.toNat).descs = [d] ∧ d.st = .running ∧ d.opcode = 6 ∧ d.watching = false ∧ d.polling = false ∧
    s.findIn d.tbl (d.w 3).toNat 1 = some r ∧ objOf (dpaOf r (d.w 3).toNat) = none ∧ swf QRec.idle s.qmg.qs = true)) &&
  (let q : BitVec 10 := 0; let r : QRec := { wQRec with descs := [{ wDesc with watching := true }] };
    let d : Desc := { wDesc with watching := true }; let c : Cpl := wCpl; let s : State := wit0; let c : Cpl := { c with opc := 0x32 };
    let s : State := { s with qmg.qs := [(q.toNat, r)] }; decide (s.up = true ∧ c.opc = 0x32 ∧ s.qmg.qs = [(q.toNat, r)] ∧ r.descs = [d] ∧
    d.st = .running ∧ d.watching = true ∧ d.watchTag = c.seq)) &&
  (let s : State := wit0; let s : State := { s with qmg.qs := [] }; decide (s.qmg.qs = [])) &&
  (let q : BitVec 10 := 0; let d : Desc := { wDd [6] with polling := true }; let resps : List Resp := [⟨0, false, false, []⟩]; let s : State := wit0;
    let s : State := wRtO s; let s : State := State.setQ s q.toNat { State.q s q.toNat with descs := [d] }; let s : State := wNow s 256;
    let r : RangeE := (State.findIn s (0, 1) 0 1).getD wRangeE; let bs : Bytes := ((s.io q.toNat d true resps).load r 3 (d.w 3).toNat 8).1;
    let i : Io := ((s.io q.toNat d true resps).load r 3 (d.w 3).toNat 8).2; decide (s.up = true ∧ (s.q q.toNat).descs = [d] ∧ d.st = .running ∧
    d.opcode = 6 ∧ d.polling = true ∧ s.now ≠ d.started ∧ (s.now - d.started).toNat % 256 = 0 ∧ s.findIn d.tbl (d.w 3).toNat 1 = some r ∧
    (s.io q.toNat d true resps).load r 3 (d.w 3).toNat 8 = (bs, i) ∧ i.err = none)) &&
  (let q : BitVec 10 := 0; let d : Desc := wDd [6]; let s : State := wit0; let s : State := wRtO s;
    let s : State := State.setQ s q.toNat { State.q s q.toNat with descs := [d] }; let s : State := wNow s 1; decide (s.up = true ∧
    (s.q q.toNat).descs = [d] ∧ (s.now - d.started).toNat % 256 ≠ 0 ∧ d.st = .running ∧ d.opcode = 6 ∧
    (s.findIn d.tbl (d.w 3).toNat 1).isSome = true)) &&
  (let q : BitVec 10 := 0; let d : Desc := wDd [6, 0, 0, 0, 0, 1]; let s : State := wit0;
    let s : State := State.setQ s q.toNat { State.q s q.toNat with descs := [d] }; let s : State := wNow s 256; decide (s.up = true ∧
    (s.q q.toNat).descs = [d] ∧ d.st = .running ∧ d.opcode = 6 ∧ d.watching = false ∧ 0 < d.timeoutTk ∧ d.timeoutTk ≤ (s.now - d.started).toNat ∧
    swf QRec.idle s.qmg.qs = true)) &&
  (let q : BitVec 10 := 0; let d : Desc := wDesc; let s : State := wit0;
    let s : State := State.setQ s q.toNat { State.q s q.toNat with descs := [d] }; decide (s.up = true ∧ (s.q q.toNat).descs = [d] ∧
    (d.timeoutTk = 0 ∨ (s.now - d.started).toNat < d.timeoutTk))) &&
  (let q : BitVec 10 := 0; let d : Desc := wDd [7, 0, 0, 0, 0, 1]; let n : Nat := 64; let s : State := wit0; let s : State := wRtO s;
    let s : State := { s with qmg.armWait := [] }; let s : State := State.setQ s q.toNat { State.q s q.toNat with descs := [d] };
    let r : RangeE := (State.findIn s (0, 1) 0 1).getD wRangeE; let o : BitVec 14 := 0; decide (s.up = true ∧ s.qmg.armWait = [] ∧
    s.freeArm = some n ∧ (s.q q.toNat).descs = [d] ∧ d.st = .running ∧ d.opcode = 7 ∧ d.arm = true ∧ d.epoch = s.slotEpoch (s.qSlot q.toNat) ∧
    s.findIn d.tbl (d.w 3).toNat 1 = some r ∧ objOf (dpaOf r (d.w 3).toNat) = some o ∧ swf regReset s.regs = true ∧ swf QRec.idle s.qmg.qs = true)) &&
  (let q : BitVec 10 := 0; let d : Desc := wDd [7, 0, 0, 0, 0, 1]; let s : State := wit0; let s : State := wRtO s;
    let s : State := { s with qmg.armWait := [] }; let s : State := State.setQ s q.toNat { State.q s q.toNat with descs := [d] };
    let s : State := { s with regs := (List.range 192).map (fun i => ((F.SYN_ARM_CTL_ARMED (64 + i)).off, 0xFFFFFFFF)) };
    let r : RangeE := (State.findIn s (0, 1) 0 1).getD wRangeE; let o : BitVec 14 := 0; decide (s.up = true ∧ s.qmg.armWait = [] ∧ s.freeArm = none ∧
    (s.q q.toNat).descs = [d] ∧ d.st = .running ∧ d.opcode = 7 ∧ d.arm = true ∧ d.epoch = s.slotEpoch (s.qSlot q.toNat) ∧
    s.findIn d.tbl (d.w 3).toNat 1 = some r ∧ objOf (dpaOf r (d.w 3).toNat) = some o ∧ swf QRec.idle s.qmg.qs = true)) &&
  (let q : BitVec 10 := 0; let d : Desc := wDd [7]; let s : State := wit0; let s : State := wRtO s; let s : State := { s with ep.own := [] };
    let s : State := State.setQ s q.toNat { State.q s q.toNat with descs := [d] }; let s : State := State.wr s Reg.FLT_EXP_LO 1;
    let r : RangeE := (State.findIn s (0, 1) 0 1).getD wRangeE; decide (s.up = true ∧ s.ep.own = [] ∧ (s.q q.toNat).descs = [d] ∧ d.st = .running ∧
    d.opcode = 7 ∧ d.arm = false ∧ s.findIn d.tbl (d.w 3).toNat 1 = some r ∧ s.homeOf (attrOf r) (dpaOf r (d.w 3).toNat) = none ∧
    swf QRec.idle s.qmg.qs = true)) &&
  (let q : BitVec 10 := 0; let d : Desc := wDd [7]; let h : NodeId := 0; let s : State := wit0; let s : State := wRtO s;
    let s : State := { s with ep.own := [] }; let s : State := State.setQ s q.toNat { State.q s q.toNat with descs := [d] };
    let r : RangeE := (State.findIn s (0, 1) 0 1).getD wRangeE; decide (s.up = true ∧ s.ep.own = [] ∧ (s.q q.toNat).descs = [d] ∧ d.st = .running ∧
    d.opcode = 7 ∧ d.arm = false ∧ s.findIn d.tbl (d.w 3).toNat 1 = some r ∧ s.homeOf (attrOf r) (dpaOf r (d.w 3).toNat) = some h))) = true := by decide +kernel

/-- Of `Obligations.Collectives`. -/
theorem test_hypotheses_Collectives : (
  (let i : BitVec 6 := 0; let r : Run := { wRun with verdict := some true, mems := [(0, 0, 0)] }; let m : Nat × BitVec 10 × BitVec 16 := (0, 0, 0);
    let d : Desc := wCd 16 1 0 0 0; let k : Nat := 1; let xs : List Xfer := []; let parts : List PartX := []; let cols : List ColX := [];
    let rows : List RowX := []; let plans : List PlanX := []; let counts : List CountX := []; let resps : List Resp := []; let s : State := wit0;
    let c : Instr := Instr.alltoall i xs resps; let s : State := { s with grp.runs := [r] }; let s : State := wM d (wGrp s);
    let s : State := { s with grp := { s.grp with runs := [r] } };
    decide ((c, k) ∈ [(Instr.alltoall i xs resps, 1), (.alltoallv i xs resps, 2), (.reduceScatter i parts resps, 3), (.allGather i xs resps, 4), (.sparseReduce i cols resps, 5), (.dispatch i rows plans resps, 6), (.combine i ⟨rows, counts⟩ resps, 7)] ∧
    s.up = true ∧ s.grp.runs = [r] ∧ r.inst = i.toNat ∧ r.mems = [m] ∧ s.memDesc m = some d ∧ s.runMems r = [(m, d)] ∧ r.due = true ∧ d.kind = k ∧
    (k = 6 → (s.localExperts d.emap).all (fun e => r.decisions.any (fun x => x.expert == e)) = true) ∧ swf QRec.idle s.qmg.qs = true ∧ d.count = 0)) &&
  (let i : BitVec 6 := 0; let r : Run := { wRun with verdict := some true, mems := [(0, 0, 0)] }; let m : Nat × BitVec 10 × BitVec 16 := (0, 0, 0);
    let d : Desc := wCd 16 1 0 1 0; let k : Nat := 1; let xs : List Xfer := []; let parts : List PartX := []; let cols : List ColX := [];
    let rows : List RowX := []; let plans : List PlanX := []; let counts : List CountX := []; let resps : List Resp := []; let s : State := wit0;
    let c : Instr := Instr.alltoall i xs resps; let s : State := { s with grp.runs := [r] }; let s : State := wM d (wGrp s);
    let s : State := { s with grp := { s.grp with runs := [r] } };
    decide ((c, k) ∈ [(Instr.alltoall i xs resps, 1), (.alltoallv i xs resps, 2), (.reduceScatter i parts resps, 3), (.allGather i xs resps, 4), (.sparseReduce i cols resps, 5), (.dispatch i rows plans resps, 6), (.combine i ⟨rows, counts⟩ resps, 7)] ∧
    s.up = true ∧ s.grp.runs = [r] ∧ r.inst = i.toNat ∧ r.mems = [m] ∧ s.memDesc m = some d ∧ s.runMems r = [(m, d)] ∧ r.due = true ∧ d.kind = k ∧
    (k = 6 → (s.localExperts d.emap).all (fun e => r.decisions.any (fun x => x.expert == e)) = true) ∧ swf QRec.idle s.qmg.qs = true ∧ k ≤ 5)) &&
  (let i : BitVec 6 := 0; let r : Run := { wRun with verdict := some true, mems := [(0, 0, 0)] }; let m : Nat × BitVec 10 × BitVec 16 := (0, 0, 0);
    let d : Desc := wCd 18 0 0 1 0; let k : Nat := 7; let xs : List Xfer := []; let parts : List PartX := []; let cols : List ColX := [];
    let rows : List RowX := []; let plans : List PlanX := []; let counts : List CountX := []; let resps : List Resp := [];
    let c : Instr := .combine 0 ⟨[], []⟩ []; let s : State := wit0; let s : State := { s with grp.runs := [r] }; let s : State := wM d (wGrp s);
    let s : State := { s with grp := { s.grp with runs := [r] } };
    decide ((c, k) ∈ [(Instr.alltoall i xs resps, 1), (.alltoallv i xs resps, 2), (.reduceScatter i parts resps, 3), (.allGather i xs resps, 4), (.sparseReduce i cols resps, 5), (.dispatch i rows plans resps, 6), (.combine i ⟨rows, counts⟩ resps, 7)] ∧
    s.up = true ∧ s.grp.runs = [r] ∧ r.inst = i.toNat ∧ r.mems = [m] ∧ s.memDesc m = some d ∧ s.runMems r = [(m, d)] ∧ r.due = true ∧ d.kind = k ∧
    (k = 6 → (s.localExperts d.emap).all (fun e => r.decisions.any (fun x => x.expert == e)) = true) ∧ swf QRec.idle s.qmg.qs = true ∧ 6 ≤ k)) &&
  (let i : BitVec 6 := 0; let xs : List Xfer := []; let parts : List PartX := []; let cols : List ColX := []; let rows : List RowX := [];
    let plans : List PlanX := []; let counts : List CountX := []; let resps : List Resp := []; let s : State := wit0;
    let c : Instr := Instr.alltoall i xs resps;
    decide (c ∈ [Instr.alltoall i xs resps, .alltoallv i xs resps, .reduceScatter i parts resps, .allGather i xs resps, .sparseReduce i cols resps, .dispatch i rows plans resps, .combine i ⟨rows, counts⟩ resps] ∧
    s.up = true ∧ (∀ r, s.run i.toNat = some r → r.due = false))) &&
  (let i : BitVec 6 := 0; let r : Run := { wRun with verdict := some true, mems := [(0, 0, 0)] }; let m : Nat × BitVec 10 × BitVec 16 := (0, 0, 0);
    let d : Desc := { wCd 16 1 0 1 0 with tbl := (0, 0) }; let resps : List Resp := []; let k : Nat := 1; let others : List Xfer := [];
    let s : State := wit0; let c : Instr := Instr.alltoall i others resps; let s : State := wM d (wGrp s);
    let s : State := { s with grp := { s.grp with runs := [r] } };
    let src : List (Nat × List (Option Bytes)) := (s.readSrc r d ((s.runIo resps).at m.2.1.toNat d)).1;
    let j : Io := (s.readSrc r d ((s.runIo resps).at m.2.1.toNat d)).2; let st : Status := (j.err.getD (0, 0)).1;
    let w : Nat := (j.err.getD (0, 0)).2;
    decide (s.up = true) && decide (s.run i.toNat = some r) && decide (s.runMems r = [(m, d)]) && decide (r.due = true) && decide (r.sentOut = false) && decide (d.count ≠ 0) && decide (s.readSrc r d ((s.runIo resps).at m.2.1.toNat d) = (src, j)) && decide ((c, k) ∈ [(Instr.alltoall i others resps, 1), (.allGather i others resps, 4)]) && decide (d.kind = k) && decide (j.err = some (st, w))) &&
  (let i : BitVec 6 := 0; let r : Run := { wRun with verdict := some true, mems := [(0, 0, 0)] }; let m : Nat × BitVec 10 × BitVec 16 := (0, 0, 0);
    let d : Desc := { wCd 16 1 0 1 0 with tbl := (0, 1) }; let resps : List Resp := [⟨0, false, false, List.replicate 128 1⟩]; let k : Nat := 1;
    let others : List Xfer := []; let s : State := wit0; let c : Instr := Instr.alltoall i others resps; let s : State := wRt s 0xF 15 0 0;
    let s : State := wM d (wGrp s); let s : State := { s with grp := { s.grp with runs := [r] } };
    let src : List (Nat × List (Option Bytes)) := (s.readSrc r d ((s.runIo resps).at m.2.1.toNat d)).1;
    let j : Io := (s.readSrc r d ((s.runIo resps).at m.2.1.toNat d)).2;
    let w : Io := (({ j with s := j.s.sendXfers r [(m.1, src)] } : Io).at m.2.1.toNat d).writeOut d d.outTy d.count (((List.range (s.grpN r.group.toNat)).map (fun a => blocksFrom d.inTy [(m.1, src)] others a m.1)).map (fun x => (d.count, x.2.map sentBlock)));
    decide (s.up = true) && decide (s.run i.toNat = some r) && decide (s.runMems r = [(m, d)]) && decide (r.due = true) && decide (r.sentOut = false) && decide (d.count ≠ 0) && decide (s.readSrc r d ((s.runIo resps).at m.2.1.toNat d) = (src, j)) && decide ((c, k) ∈ [(Instr.alltoall i others resps, 1), (.allGather i others resps, 4)]) && decide (d.kind = k) && decide (j.err = none) && decide (j.pause = none) && decide (w.err = none) && decide (w.pause = none)) &&
  (let i : BitVec 6 := 0; let r : Run := { wRun with verdict := some true, mems := [(0, 0, 0)] }; let m : Nat × BitVec 10 × BitVec 16 := (0, 0, 0);
    let d : Desc := { wDesc with words := [16, 0, 0, 1, 0, 1, 0, 0x20000], tbl := (0, 1) };
    let resps : List Resp := [⟨0, false, false, List.replicate 128 1⟩]; let k : Nat := 1; let others : List Xfer := []; let s : State := wit0;
    let c : Instr := Instr.alltoall i others resps; let s : State := wRt s 0xB 15 0 0; let s : State := wM d (wGrp s);
    let s : State := { s with grp := { s.grp with runs := [r] } };
    let src : List (Nat × List (Option Bytes)) := (s.readSrc r d ((s.runIo resps).at m.2.1.toNat d)).1;
    let j : Io := (s.readSrc r d ((s.runIo resps).at m.2.1.toNat d)).2;
    let st : Status := (((({ j with s := j.s.sendXfers r [(m.1, src)] } : Io).at m.2.1.toNat d).writeOut d d.outTy d.count (((List.range (s.grpN r.group.toNat)).map (fun a => blocksFrom d.inTy [(m.1, src)] others a m.1)).map (fun x => (d.count, x.2.map sentBlock)))).err.getD (0, 0)).1;
    let n : Nat := (((({ j with s := j.s.sendXfers r [(m.1, src)] } : Io).at m.2.1.toNat d).writeOut d d.outTy d.count (((List.range (s.grpN r.group.toNat)).map (fun a => blocksFrom d.inTy [(m.1, src)] others a m.1)).map (fun x => (d.count, x.2.map sentBlock)))).err.getD (0, 0)).2;
    let w : Io := (({ j with s := j.s.sendXfers r [(m.1, src)] } : Io).at m.2.1.toNat d).writeOut d d.outTy d.count (((List.range (s.grpN r.group.toNat)).map (fun a => blocksFrom d.inTy [(m.1, src)] others a m.1)).map (fun x => (d.count, x.2.map sentBlock)));
    decide (s.up = true) && decide (s.run i.toNat = some r) && decide (s.runMems r = [(m, d)]) && decide (r.due = true) && decide (r.sentOut = false) && decide (d.count ≠ 0) && decide (s.readSrc r d ((s.runIo resps).at m.2.1.toNat d) = (src, j)) && decide ((c, k) ∈ [(Instr.alltoall i others resps, 1), (.allGather i others resps, 4)]) && decide (d.kind = k) && decide (j.err = none) && decide (j.pause = none) && decide (w.err = some (st, n))) &&
  (let i : BitVec 6 := 0; let r : Run := { wRun with verdict := some true, mems := [(0, 0, 0)] }; let m : Nat × BitVec 10 × BitVec 16 := (0, 0, 0);
    let d : Desc := { wCd 16 3 0 1 0 with tbl := (0, 0) }; let resps : List Resp := []; let s : State := wit0; let s : State := wM d (wGrp s);
    let s : State := { s with grp := { s.grp with runs := [r] } };
    let src : List (Nat × List (Option Bytes)) := (s.readSrc r d ((s.runIo resps).at m.2.1.toNat d)).1;
    let j : Io := (s.readSrc r d ((s.runIo resps).at m.2.1.toNat d)).2; let st : Status := (j.err.getD (0, 0)).1;
    let w : Nat := (j.err.getD (0, 0)).2;
    decide (s.up = true) && decide (s.run i.toNat = some r) && decide (s.runMems r = [(m, d)]) && decide (r.due = true) && decide (r.sentOut = false) && decide (d.count ≠ 0) && decide (s.readSrc r d ((s.runIo resps).at m.2.1.toNat d) = (src, j)) && decide (d.kind = 3) && decide (j.err = some (st, w))) &&
  (let i : BitVec 6 := 0; let r : Run := { wRun with verdict := some true, mems := [(0, 0, 0)] }; let m : Nat × BitVec 10 × BitVec 16 := (0, 0, 0);
    let d : Desc := { wCd 16 3 0 1 0 with tbl := (0, 1) }; let resps : List Resp := [⟨0, false, false, List.replicate 128 1⟩];
    let others : List PartX := []; let s : State := wit0; let s : State := wRt s 0xF 15 0 0; let s : State := wM d (wGrp s);
    let s : State := { s with grp := { s.grp with runs := [r] } };
    let src : List (Nat × List (Option Bytes)) := (s.readSrc r d ((s.runIo resps).at m.2.1.toNat d)).1;
    let j : Io := (s.readSrc r d ((s.runIo resps).at m.2.1.toNat d)).2;
    let red : List (Option Bytes) × Nat := s.reduced r.group.toNat d [(m.1, src)] others m.1;
    let w : Io := ((({ j with s := j.s.sendParts r d [(m.1, src)] others } : Io).at m.2.1.toNat d).countSat red.2).writeOut d d.outTy d.count [(d.count, red.1)];
    decide (s.up = true) && decide (s.run i.toNat = some r) && decide (s.runMems r = [(m, d)]) && decide (r.due = true) && decide (r.sentOut = false) && decide (d.count ≠ 0) && decide (s.readSrc r d ((s.runIo resps).at m.2.1.toNat d) = (src, j)) && decide (d.kind = 3) && decide (j.err = none) && decide (j.pause = none) && decide (j.s.badPart r d [(m.1, src)] others = none) && decide (w.err = none) && decide (w.pause = none)) &&
  (let i : BitVec 6 := 0; let r : Run := { wRun with verdict := some true, mems := [(0, 0, 0)] }; let m : Nat × BitVec 10 × BitVec 16 := (0, 0, 0);
    let d : Desc := { wDesc with words := [16, 0, 0, 3, 0, 1, 0, 0x20000], tbl := (0, 1) };
    let resps : List Resp := [⟨0, false, false, List.replicate 128 1⟩]; let others : List PartX := []; let s : State := wit0;
    let s : State := wRt s 0xB 15 0 0; let s : State := wM d (wGrp s); let s : State := { s with grp := { s.grp with runs := [r] } };
    let src : List (Nat × List (Option Bytes)) := (s.readSrc r d ((s.runIo resps).at m.2.1.toNat d)).1;
    let j : Io := (s.readSrc r d ((s.runIo resps).at m.2.1.toNat d)).2;
    let st : Status := ((((({ j with s := j.s.sendParts r d [(m.1, src)] others } : Io).at m.2.1.toNat d).countSat (s.reduced r.group.toNat d [(m.1, src)] others m.1).2).writeOut d d.outTy d.count [(d.count, (s.reduced r.group.toNat d [(m.1, src)] others m.1).1)]).err.getD (0, 0)).1;
    let n : Nat := ((((({ j with s := j.s.sendParts r d [(m.1, src)] others } : Io).at m.2.1.toNat d).countSat (s.reduced r.group.toNat d [(m.1, src)] others m.1).2).writeOut d d.outTy d.count [(d.count, (s.reduced r.group.toNat d [(m.1, src)] others m.1).1)]).err.getD (0, 0)).2;
    let red : List (Option Bytes) × Nat := s.reduced r.group.toNat d [(m.1, src)] others m.1;
    let w : Io := ((({ j with s := j.s.sendParts r d [(m.1, src)] others } : Io).at m.2.1.toNat d).countSat red.2).writeOut d d.outTy d.count [(d.count, red.1)];
    decide (s.up = true) && decide (s.run i.toNat = some r) && decide (s.runMems r = [(m, d)]) && decide (r.due = true) && decide (r.sentOut = false) && decide (d.count ≠ 0) && decide (s.readSrc r d ((s.runIo resps).at m.2.1.toNat d) = (src, j)) && decide (d.kind = 3) && decide (j.err = none) && decide (j.pause = none) && decide (j.s.badPart r d [(m.1, src)] others = none) && decide (w.err = some (st, n)))) = true := by decide +kernel

/-- Of `Obligations.GroupsAndMaps`. -/
theorem test_hypotheses_GroupsAndMaps : (
  (let g : BitVec 10 := 0; let v : R32 := cmdWord 1 g; let s : State := wit0; let c : Instr := Instr.groupEnable g;
    let s : State := State.setF s F.GRP_RES_BUSY 0; decide (s.takes = true ∧ s.on F.GRP_RES_BUSY = false ∧ swf regReset s.regs = true ∧
    (c, v) ∈ [(Instr.groupEnable g, cmdWord 1 g), (.groupDisable g, cmdWord 2 g)])) &&
  (let s : State := wit0; let s : State := State.setF s F.GRP_RES_BUSY 1; decide (s.on F.GRP_RES_BUSY = true)) &&
  (let g : BitVec 10 := 0; let s : State := wit0; let s : State := { s with grp.cmd := some (cmdWord 1 g) };
    let s : State := wGrpL s (2 ^ 32 + 2 ^ 24) 1 0; decide (s.up = true ∧ s.grp.cmd = some (cmdWord 1 g) ∧ s.grpLive g.toNat = false ∧
    s.grpErr g.toNat = 0 ∧ swf regReset s.regs = true ∧ Mem.wf s.mems.grp = true)) &&
  (let g : BitVec 10 := 0; let s : State := wit0; let s : State := { s with grp.cmd := some (cmdWord 2 g) };
    let s : State := wGrpL s (2 ^ 32 + 2 ^ 24 + 1) 1 0; decide (s.up = true ∧ s.grp.cmd = some (cmdWord 2 g) ∧ s.grpLive g.toNat = true ∧
    s.grpUsed g.toNat = false ∧ swf regReset s.regs = true ∧ Mem.wf s.mems.grp = true)) &&
  (let g : BitVec 10 := 0; let s : State := wit0; let s : State := { s with grp.cmd := some (cmdWord 1 g) }; decide (s.up = true ∧
    s.grp.cmd = some (cmdWord 1 g) ∧ s.grpLive g.toNat = false ∧ s.grpErr g.toNat ≠ 0)) &&
  (let off : BitVec 18 := 0; let s : State := wit0; let s : State := wGrpL s (2 ^ 32 + 2 ^ 24 + 1) 1 0; decide (s.takes = true ∧
    s.grpLive (((s.f F.GRP_GWIN_PAGE_PAGE).toNat * 262144 + off.toNat) / 1024) = true ∧
    s.mapFree (((s.f F.GRP_GWIN_PAGE_PAGE).toNat * 262144 + off.toNat) % 1024 / 8) = false)) &&
  (let off : BitVec 18 := 8; let a : Nat := 8; let s : State := wit0; decide (s.takes = true ∧
    a = (s.f F.GRP_GWIN_PAGE_PAGE).toNat * 262144 + off.toNat ∧ s.grpLive (a / 1024) = false ∧ a % 8 = 0 ∧ a % 1024 / 8 ≠ 0 ∧
    Mem.wf s.mems.grp = true)) &&
  (let m : BitVec 10 := 0; let v : R32 := cmdWord 1 m; let s : State := wit0; let c : Instr := Instr.emapEnable m;
    let s : State := State.setF s F.GRP_EMAP_RES_BUSY 0; decide (s.takes = true ∧ s.on F.GRP_EMAP_RES_BUSY = false ∧ swf regReset s.regs = true ∧
    (c, v) ∈ [(Instr.emapEnable m, cmdWord 1 m), (.emapDisable m, cmdWord 2 m)])) &&
  (let s : State := wit0; let s : State := State.setF s F.GRP_EMAP_RES_BUSY 1; decide (s.on F.GRP_EMAP_RES_BUSY = true)) &&
  (let m : BitVec 10 := 0; let s : State := wit0; let s : State := { s with grp.emap := some (cmdWord 1 m) };
    let s : State := wEh (wGrpL s (2 ^ 32 + 2 ^ 24 + 1) 1 0) 0 (2 ^ 16) 0;
    let s : State := { s with mems := { s.mems with eent := Mem.wrN [] 0 (natLe 8 (2 ^ 44)) } }; decide (s.up = true ∧
    s.grp.emap = some (cmdWord 1 m) ∧ s.emLive m.toNat = false ∧ s.emErr m.toNat = 0 ∧ swf regReset s.regs = true ∧ Mem.wf s.mems.ehdr = true)) &&
  (let m : BitVec 10 := 0; let s : State := wit0; let s : State := { s with grp.emap := some (cmdWord 2 m) };
    let s : State := { s with grp.runs := [] }; let s : State := wEh s 0 (2 ^ 16 + 1) 0; decide (s.up = true ∧ s.grp.emap = some (cmdWord 2 m) ∧
    s.emLive m.toNat = true ∧ s.grp.runs = [] ∧ swf regReset s.regs = true ∧ Mem.wf s.mems.ehdr = true)) &&
  (let m : BitVec 10 := 0; let s : State := wit0; let s : State := { s with grp.emap := some (cmdWord 1 m) }; decide (s.up = true ∧
    s.grp.emap = some (cmdWord 1 m) ∧ s.emLive m.toNat = false ∧ s.emErr m.toNat ≠ 0)) &&
  (let off : BitVec 17 := 0; let s : State := wit0; let s : State := wEh s 0 (2 ^ 16 + 1) 0; decide (s.takes = true ∧
    s.emLive (off.toNat % 32768 / 32) = true)) &&
  (let off : BitVec 17 := 8; let s : State := wit0; decide (s.takes = true ∧ s.emLive (off.toNat % 32768 / 32) = false ∧ off.toNat % 32 = 8 ∧
    Mem.wf s.mems.ehdr = true)) &&
  (let off : BitVec 17 := 0; let a : Nat := 0; let s : State := wit0; decide (s.takes = true ∧
    a = (s.f F.GRP_EWIN_PAGE_PAGE).toNat * 131072 + off.toNat ∧ (s.liveMaps).all (fun m => decide (¬ (s.emBase m ≤ a / 16 ∧
    a / 16 < s.emBase m + s.emCount m))) = true)) &&
  (let off : BitVec 17 := 0; let m : Nat := 0; let s : State := wit0; let s : State := wEh s 0 (2 ^ 16 + 1) 0; decide (s.takes = true ∧
    m ∈ s.liveMaps ∧ s.emBase m ≤ ((s.f F.GRP_EWIN_PAGE_PAGE).toNat * 131072 + off.toNat) / 16 ∧
    ((s.f F.GRP_EWIN_PAGE_PAGE).toNat * 131072 + off.toNat) / 16 < s.emBase m + s.emCount m))) = true := by decide +kernel

/-- Of `Obligations.CollectiveAgreement`. -/
theorem test_hypotheses_CollectiveAgreement : (
  (let i : BitVec 6 := 0; let s : State := wit0; decide (s.up = true ∧ s.run i.toNat = none)) &&
  (let i : BitVec 6 := 0; let x : SigRec := { wSigRec with node := 1 }; let own : SigRec := wSigRec; let r : Run := wRun; let s : State := wit0;
    let r : Run := { r with inst := i.toNat }; let r : Run := { r with own := some own }; let r : Run := { r with verdict := none };
    let r : Run := { r with paused := false }; let r : Run := { r with recs := [] }; let s : State := { s with grp.runs := [r] };
    let s : State := wGrpL s (3 * 2 ^ 32) 0 (16 * 2 ^ 16 + 32 * 2 ^ 32); decide (s.up = true ∧ s.grp.runs = [r] ∧ r.inst = i.toNat ∧
    r.own = some own ∧ r.verdict = none ∧ r.paused = false ∧ r.recs = [] ∧ x.group = r.group ∧ x.node ≠ s.node ∧
    (s.grpNodes r.group.toNat).contains x.node.toNat = true ∧ 2 < (s.grpNodes r.group.toNat).length)) &&
  (let i : BitVec 6 := 0; let x : SigRec := { wSigRec with node := 1 }; let own : SigRec := wSigRec; let r : Run := wRun; let s : State := wit0;
    let r : Run := { r with inst := i.toNat }; let r : Run := { r with own := some own }; let r : Run := { r with verdict := none };
    let r : Run := { r with paused := false }; let r : Run := { r with recs := [] }; let own : SigRec := { own with bad := false };
    let own : SigRec := { own with timed := false }; let s : State := { s with grp.runs := [r] };
    let s : State := wGrpL s (2 * 2 ^ 32) 0 (16 * 2 ^ 16); decide (s.up = true ∧ s.grp.runs = [r] ∧ r.inst = i.toNat ∧ r.own = some own ∧
    r.verdict = none ∧ r.paused = false ∧ r.recs = [] ∧ x.group = r.group ∧ x.node ≠ s.node ∧
    (s.grpNodes r.group.toNat).contains x.node.toNat = true ∧ (s.grpNodes r.group.toNat).length = 2 ∧ own.bad = false ∧ own.timed = false ∧
    SigRec_differs own x = 0)) &&
  (let i : BitVec 6 := 0; let x : SigRec := { wSigRec with node := 1, sig := 1 }; let own : SigRec := wSigRec; let r : Run := wRun;
    let m : Nat × BitVec 10 × BitVec 16 := (0, 0, 0); let d : Desc := wCd 16 1 0 1 0; let s : State := wit0;
    let r : Run := { r with inst := i.toNat }; let r : Run := { r with own := some own }; let r : Run := { r with verdict := none };
    let r : Run := { r with paused := false }; let r : Run := { r with recs := [] }; let r : Run := { r with mems := [m] };
    let own : SigRec := { own with bad := false }; let s : State := { s with grp.runs := [r] };
    let s : State := wM d (wGrpL s (2 * 2 ^ 32) 0 (16 * 2 ^ 16)); decide (s.up = true ∧ s.grp.runs = [r] ∧ r.inst = i.toNat ∧ r.own = some own ∧
    r.verdict = none ∧ r.paused = false ∧ r.recs = [] ∧ x.group = r.group ∧ x.node ≠ s.node ∧
    (s.grpNodes r.group.toNat).contains x.node.toNat = true ∧ r.mems = [m] ∧ s.memDesc m = some d ∧ swf QRec.idle s.qmg.qs = true ∧
    (s.grpNodes r.group.toNat).length = 2 ∧ own.bad = false ∧ SigRec_differs own x ≠ 0)) &&
  (let i : BitVec 6 := 0; let r : Run := { wRun with verdict := some true, own := some wSigRec, mems := [(0, 0, 0)], total := 1 };
    let s : State := wit0; let s : State := { s with grp.runs := [r] }; let s : State := { s with grp := { s.grp with runs := [r] } };
    decide (s.up = true ∧ s.grp.runs = [r] ∧ r.inst = i.toNat ∧ r.mayRound = true ∧ r.verdict = some true ∧ r.inRound = false ∧ r.done < r.total ∧
    (r.mems).all (fun m => decide (s.qState m.2.1.toNat ≠ qStopping)) = true ∧ s.nominal r r.done ≤ s.clk.slot.toNat)) &&
  (let i : BitVec 6 := 0; let r : Run := { wRun with verdict := some true, own := some wSigRec, mems := [(0, 0, 0)], total := 1, start := 1 };
    let s : State := wit0; let s : State := { s with grp.runs := [r] }; let s : State := { s with grp := { s.grp with runs := [r] } };
    decide (s.up = true ∧ s.grp.runs = [r] ∧ r.inst = i.toNat ∧ r.mayRound = true ∧ r.verdict = some true ∧ r.inRound = false ∧ r.done < r.total ∧
    (r.mems).all (fun m => decide (s.qState m.2.1.toNat ≠ qStopping)) = true ∧ s.clk.slot.toNat < s.nominal r r.done)) &&
  (let i : BitVec 6 := 0; let r : Run := wRun; let s : State := wit0; let r : Run := { r with inst := i.toNat };
    let r : Run := { r with inRound := true }; let s : State := { s with grp.runs := [r] }; decide (s.up = true ∧ s.grp.runs = [r] ∧
    r.inst = i.toNat ∧ r.inRound = true ∧ (r.mems).all (fun m => decide (s.qState m.2.1.toNat ≠ qStopping)) = true)) &&
  (let i : BitVec 6 := 0; let r : Run := { wRun with verdict := some true, own := some wSigRec, mems := [(0, 0, 0)], total := 1 };
    let s : State := wit0; let s : State := { s with grp := { s.grp with runs := [r] } }; decide (s.up = true ∧ s.run i.toNat = some r ∧
    r.inRound = false)) &&
  (let r : Run := wRun; let m : Nat × BitVec 10 × BitVec 16 := (0, 0, 0); let d : Desc := wCd 16 1 0 1 0; let s : State := wit0;
    let r : Run := { r with mems := [m] }; let r : Run := { r with tiles := [] }; let s : State := { s with grp.runs := [r] };
    let s : State := wM d s; decide (s.up = true ∧ s.grp.runs = [r] ∧ r.mems = [m] ∧ r.inst < 64 ∧ r.tiles = [] ∧ s.memDesc m = some d ∧
    swf QRec.idle s.qmg.qs = true ∧ swf regReset s.regs = true)) &&
  (let g : BitVec 10 := 0; let q : R32 := 0; let s : State := wit0; decide (s.up = true ∧ (∀ r, s.runOf g.toNat = some r → r.seq ≠ q))) &&
  (let i : BitVec 6 := 0; let r : Run := { wRun with verdict := some true, own := some wSigRec, mems := [(0, 0, 0)], total := 1 };
    let s : State := wit0; let s : State := { s with grp.runs := [r] }; let s : State := { s with grp := { s.grp with runs := [r] } };
    let s : State := s.setF F.GRP_CTL_HOLD 1; let s : State := wNow s 2000; decide (s.up = true ∧ s.grp.runs = [r] ∧ r.inst = i.toNat ∧
    r.heldPosted = false ∧ s.f F.GRP_CTL_HOLD ≠ 0 ∧ r.inRound = false ∧ r.paused = false ∧ r.own.isSome = true ∧ s.heldLong r = true ∧
    swf regReset s.regs = true)) &&
  (let i : BitVec 6 := 0; let r : Run := { wRun with heldPosted := true }; let s : State := wit0;
    let s : State := { s with grp := { s.grp with runs := [r] } }; decide (s.up = true ∧ s.run i.toNat = some r ∧
    (r.heldPosted = true ∨ s.f F.GRP_CTL_HOLD = 0 ∨ s.heldLong r = false))) &&
  (let i : BitVec 6 := 0; let e : BitVec 16 := 0; let r : Run := { wRun with own := some wSigRec, mems := [(0, 0, 0)], routes := some [] };
    let d : Desc := wCd 17 0 0 1 0; let x : List (Nat × List MRoute) := []; let s : State := wit0; let s : State := { s with grp.runs := [r] };
    let s : State := { s with grp := { s.grp with runs := [r] } }; let s : State := wM d s; let s : State := wEh s 0 (2 ^ 16) 0;
    decide (s.up = true ∧ s.grp.runs = [r] ∧ r.inst = i.toNat ∧ s.runDesc r = some d ∧ d.kind = 6 ∧ r.own.isSome = true ∧ r.paused = false ∧
    (s.localExperts d.emap).contains e.toNat = true ∧ r.decisions = [] ∧ r.routes = some x)) &&
  (let i : BitVec 6 := 0; let e : BitVec 16 := 0; let r : Run := { wRun with mems := [(0, 0, 0)] }; let d : Desc := wCd 17 0 0 1 0;
    let s : State := wit0; let s : State := { s with grp := { s.grp with runs := [r] } }; let s : State := wM d s; decide (s.up = true ∧
    s.run i.toNat = some r ∧ s.runDesc r = some d ∧ (s.localExperts d.emap).contains e.toNat = false))) = true := by decide +kernel

/-- Of `Obligations.DomainTime`. -/
theorem test_hypotheses_DomainTime : (
  (let p : Fin 6 := 0; let s : State := wit0; let s : State := State.setF s (F.LAN_P_STAT_STATE p.val) pUp;
    let s : State := State.setLp s p.val { State.lp s p.val with queue := [] }; let s : State := { s with clk := { s.clk with slot := 5 } };
    decide (s.up = true ∧ s.trained p.val = true ∧ s.hbDue p.val = true ∧ (s.lp p.val).queue = [] ∧
    s.mayGo p.val (.ctrl (.timeHb (s.hbMessage p.val))) = true ∧ swf noPort s.dtt.ports = true)) &&
  (let p : Fin 6 := 0; let s : State := wit0; decide (s.trained p.val = false)) &&
  (let p : Fin 6 := 0; let m : TimeHb := wTimeHb; let s : State := wit0; let m : TimeHb := { m with going := false };
    let m : TimeHb := { m with orderSeq := s.orderSeq }; let s : State := State.setF s (F.LAN_P_STAT_STATE p.val) pUp;
    let s : State := State.setF s F.DTT_CTL_EN 0; let s : State := { s with flt.held := [] }; decide (s.up = true ∧ s.trained p.val = true ∧
    s.on F.DTT_CTL_EN = false ∧ m.going = false ∧ m.orderSeq = s.orderSeq ∧ s.flt.held = [] ∧ s.sync ≠ syRoot ∧ swf noPort s.dtt.ports = true ∧
    swf regReset s.regs = true)) &&
  (let s : State := wit0; let s : State := (((s.setF F.DTT_ROOTS_V0 1).setF F.DTT_SYNC_STAT_STATE syAcquire)); let s : State := wNow s 4000;
    decide (s.up = true ∧ s.mayRoot = true ∧ swf regReset s.regs = true)) &&
  (let s : State := wit0; decide (s.mayRoot = false)) &&
  (let s : State := wit0; let s : State := State.setF s F.DTT_SYNC_STAT_STATE (syConverged); let s : State := s.setF F.DTT_SYNC_STAT_PARENT 0;
    let s : State := wNow s 2000; decide (s.up = true ∧ s.f F.DTT_SYNC_STAT_PARENT ≠ 7 ∧ 2000 ≤ s.now.toNat - s.dtt.parentAt.toNat ∧
    s.sync = syConverged ∧ swf regReset s.regs = true)) &&
  (let s : State := wit0; let s : State := s.setF F.DTT_SYNC_STAT_PARENT 0; let s : State := wNow s 2000; decide (s.up = true ∧
    s.f F.DTT_SYNC_STAT_PARENT ≠ 7 ∧ 2000 ≤ s.now.toNat - s.dtt.parentAt.toNat ∧ s.sync ≠ syConverged)) &&
  (let s : State := wit0; decide ((s.f F.DTT_SYNC_STAT_PARENT = 7 ∨ s.now.toNat - s.dtt.parentAt.toNat < 2000))) &&
  (let v : R32 := 1; let s : State := wit0; let s : State := State.setF s F.DTT_CTL_EN 0; decide (s.takes = true ∧ s.on F.DTT_CTL_EN = false ∧
    fget F.DTT_CTL_EN v = 1 ∧ swf regReset s.regs = true)) &&
  (let v : R32 := 0; let s : State := wit0; let s : State := State.setF s F.DTT_CTL_EN 1; decide (s.takes = true ∧ s.on F.DTT_CTL_EN = true ∧
    fget F.DTT_CTL_EN v = 0 ∧ swf regReset s.regs = true)) &&
  (let s : State := wit0; decide (s.takes = true ∧ s.sync ≠ syRoot)) &&
  (let v : R32 := 0; let s : State := wit0; let s : State := State.setF s F.DTT_SYNC_STAT_STATE (syRoot); decide (s.takes = true ∧ s.sync = syRoot ∧
    ((s.wr Reg.DTT_ROOTS (v &&& 0xBFBFBFBF)).rank s.node) = none ∧ swf regReset s.regs = true))) = true := by decide +kernel

/-- Of `Obligations.Barriers`. -/
theorem test_hypotheses_Barriers : (
  (let v : R32 := 0xA0000000; let s : State := wit0; let s : State := { s with dtt.bar := none };
    let s : State := State.setF s F.DTT_SYNC_STAT_PARENT (7); decide (s.takes = true ∧ s.dtt.bar = none ∧ fget F.DTT_BAR_CTL_MEMBER v = 1 ∧
    s.sync ≠ syRoot ∧ s.f F.DTT_SYNC_STAT_PARENT = 7 ∧ swf regReset s.regs = true)) &&
  (let v : R32 := 0; let s : State := wit0; let s : State := { s with dtt.bar := none }; decide (s.takes = true ∧ s.dtt.bar = none ∧
    fget F.DTT_BAR_CTL_MEMBER v = 0 ∧ s.sync ≠ syRoot ∧ swf regReset s.regs = true)) &&
  (let s : State := wit0; let s : State := { s with dtt := { s.dtt with bar := some (0, false) } }; decide (s.dtt.bar.isSome = true)) &&
  (let s : State := wit0; decide (s.takes = true)) &&
  (let s : State := wit0; let s : State := s.setF F.DTT_SYNC_STAT_PARENT 0; decide (s.up = true ∧ s.sync ≠ syRoot ∧ s.f F.DTT_SYNC_STAT_PARENT ≠ 7)) &&
  (let s : State := wit0; let s : State := State.setF s F.DTT_SYNC_STAT_PARENT (7); decide (s.up = true ∧ s.sync ≠ syRoot ∧
    s.f F.DTT_SYNC_STAT_PARENT = 7)) &&
  (let q : BitVec 8 := 0; let n : BitVec 7 := 0; let m : Bool := false; let s : State := wit0;
    let s : State := State.setF s F.DTT_SYNC_STAT_STATE (syRoot); let s : State := { s with dtt.bar := some (q, m) }; decide (s.up = true ∧
    s.sync = syRoot ∧ s.dtt.bar = some (q, m) ∧ sget noArr s.dtt.arrivals q.toNat + n.toNat < (s.f F.DTT_BAR_CTL_EXPECT).toNat ∧
    swf noArr s.dtt.arrivals = true)) &&
  (let q : BitVec 8 := 0; let n : BitVec 7 := 1; let m : Bool := false; let s : State := wit0;
    let s : State := State.setF s F.DTT_SYNC_STAT_STATE (syRoot); let s : State := { s with dtt.bar := some (q, m) };
    let s : State := { s with dtt.firing := none }; let s : State := s.setF F.DTT_BAR_CTL_EXPECT 1; decide (s.up = true ∧ s.sync = syRoot ∧
    s.dtt.bar = some (q, m) ∧ s.dtt.firing = none ∧ (s.f F.DTT_BAR_CTL_EXPECT).toNat ≤ sget noArr s.dtt.arrivals q.toNat + n.toNat ∧
    swf noArr s.dtt.arrivals = true)) &&
  (let s : State := wit0; decide (s.up = true)) &&
  (let f : Firing := wFiring; let s : State := wit0; let f : Firing := { f with load := none }; let s : State := { s with dtt.firing := some f };
    let s : State := { s with dtt.bar := some (f.seq, true) }; let s : State := { s with qmg.qs := [] }; decide (s.up = true ∧
    s.dtt.firing = some f ∧ f.units ≤ s.units ∧ f.load = none ∧ s.dtt.bar = some (f.seq, true) ∧ s.qmg.qs = [] ∧ swf regReset s.regs = true)) &&
  (let f : Firing := wFiring; let v : R64 := 0; let s : State := wit0; let f : Firing := { f with load := some v };
    let s : State := { s with dtt.firing := some f }; let s : State := { s with dtt.bar := none }; decide (s.up = true ∧ s.dtt.firing = some f ∧
    f.units ≤ s.units ∧ f.load = some v ∧ s.fixed = false ∧ s.dtt.bar = none ∧ swf regReset s.regs = true)) &&
  (let f : Firing := { wFiring with units := 1 }; let s : State := wit0; let s : State := { s with dtt.firing := some f };
    decide (s.dtt.firing = some f ∧ s.units < f.units)) &&
  (let s : State := wit0; let s : State := { s with dtt.firing := none }; decide (s.dtt.firing = none)) &&
  (let q : BitVec 8 := 0; let m : Bool := false; let s : State := wit0; let s : State := { s with dtt.bar := some (q, m) };
    let s : State := State.setF s F.DTT_CTL_EXT_BAR 1; let s : State := State.setF s F.DTT_CTL_DTSYNC_OUT 0;
    let s : State := State.setF s F.DTT_CTL_DTSYNC_SWAP 0; decide (s.up = true ∧ s.dtt.bar = some (q, m) ∧ s.on F.DTT_CTL_EXT_BAR = true ∧
    s.on F.DTT_CTL_DTSYNC_OUT = false ∧ s.on F.DTT_CTL_DTSYNC_SWAP = false)) &&
  (let s : State := wit0;
    decide ((s.dtt.bar = none ∨ s.on F.DTT_CTL_EXT_BAR = false ∨ s.on F.DTT_CTL_DTSYNC_OUT = true ∨ s.on F.DTT_CTL_DTSYNC_SWAP = true)))) = true := by decide +kernel

/-- Of `Obligations.PowerPlans`. -/
theorem test_hypotheses_PowerPlans : (
  (let k : BitVec 6 := 0; let s : State := wit0; let c : Instr := .apply; decide (s.takes = true ∧ s.inTime = false ∧
    c ∈ [.apply, .forceK (.written k)])) &&
  (let s : State := wit0; let s : State := s.setF F.DTT_SYNC_STAT_STATE syConverged; decide (s.takes = true ∧ s.inTime = true ∧ s.sync ≠ syRoot)) &&
  (let k : BitVec 6 := 16; let s : State := wit0; let s : State := s.setF F.DTT_SYNC_STAT_STATE syConverged; decide (s.takes = true ∧
    s.inTime = true ∧ s.sync ≠ syRoot ∧ 16 ≤ k.toNat ∧ k.toNat ≤ 32)) &&
  (let k : BitVec 6 := 1; let s : State := wit0; let s : State := s.setF F.DTT_SYNC_STAT_STATE syConverged; decide (s.takes = true ∧
    s.inTime = true ∧ s.sync ≠ syRoot ∧ (k.toNat < 16 ∨ 32 < k.toNat))) &&
  (let k : BitVec 6 := 0; let s : State := wit0; let s : State := State.setF s F.DTT_SYNC_STAT_STATE (syRoot); decide (s.takes = true ∧
    s.sync = syRoot ∧ (k.toNat < 16 ∨ 32 < k.toNat))) &&
  (let k : BitVec 6 := 16; let s : State := wit0; let c : Instr := .apply; let s : State := State.setF s F.DTT_SYNC_STAT_STATE (syRoot);
    decide (s.takes = true ∧ s.sync = syRoot ∧ 16 ≤ k.toNat ∧ k.toNat ≤ 32 ∧ s.envTick.toNat < s.now.toNat + 16000 ∧
    c ∈ [.apply, .forceK (.written k)])) &&
  (let k : BitVec 6 := 16; let s : State := wit0; let s : State := State.setF s F.DTT_SYNC_STAT_STATE (syRoot);
    let s : State := s.wr Reg.DTT_ENV_TICK_HI 1; decide (s.takes = true ∧ s.sync = syRoot ∧ 16 ≤ k.toNat ∧ k.toNat ≤ 32 ∧
    s.now.toNat + 16000 ≤ s.envTick.toNat ∧ swf regReset s.regs = true)) &&
  (let s : State := wit0; let s : State := State.setF s F.DTT_SYNC_STAT_STATE (syRoot); let s : State := s.wr Reg.DTT_ENV_TICK_HI 1;
    let s : State := (List.range 17).foldl (fun (s : State) i => s.setF (F.DTT_DIL_TAB_POWER (16 + i)) (BitVec.ofNat _ (100 - i))) s;
    decide (s.takes = true ∧ s.sync = syRoot ∧ s.now.toNat + 16000 ≤ s.envTick.toNat ∧ s.tabFalls = true ∧ swf regReset s.regs = true)) &&
  (let s : State := wit0; decide (s.up = true)) &&
  (let s : State := wit0; let s : State := State.setF s F.DTT_SYNC_STAT_STATE (syRoot); decide (s.up = true ∧ s.sync = syRoot)) &&
  (let s : State := wit0; let s : State := State.setF s F.DTT_SYNC_STAT_PARENT (7); let s : State := s.setF F.DTT_SYNC_STAT_PARENT 7;
    decide (s.up = true ∧ s.sync ≠ syRoot ∧ s.f F.DTT_SYNC_STAT_PARENT = 7)) &&
  (let s : State := wit0; let s : State := s.setF F.DTT_SYNC_STAT_PARENT 0; decide (s.up = true ∧ s.sync ≠ syRoot ∧ s.f F.DTT_SYNC_STAT_PARENT ≠ 7)) &&
  (let s : State := wit0; let s : State := { s with dtt := { s.dtt with plan := ⟨0, 16, 17, 0, 0, false, false, 0, 0⟩ } }; decide (s.up = true ∧
    s.dtt.plan.e.toNat ≤ s.boundary ∧ s.stepDue s.dtt.plan = true ∧ swf regReset s.regs = true)) &&
  (let s : State := wit0; decide (s.up = true ∧ s.dtt.plan.e.toNat ≤ s.boundary ∧ s.stepDue s.dtt.plan = false)) &&
  (let s : State := wit0; let s : State := { s with dtt.olds := [] };
    let s : State := { s with dtt := { s.dtt with plan := ⟨0, 16, 17, 1, 0, false, false, 0, 0⟩ } }; decide (s.boundary < s.dtt.plan.e.toNat ∧
    s.dtt.olds = [])) &&
  (let s : State := wit0; let s : State := State.setF s F.DTT_SYNC_STAT_STATE (syRoot);
    let s : State := { s with dtt := { s.dtt with kTherm := 20 } }; let s : State := wNow s 250000; decide (s.up = true ∧ s.sync = syRoot ∧
    s.greatestTherm.toNat < s.dtt.kTherm.toNat ∧ 250000 ≤ s.now.toNat - s.dtt.thermAt.toNat)) &&
  (let s : State := wit0; decide ((s.sync ≠ syRoot ∨ s.now.toNat - s.dtt.thermAt.toNat < 250000)))) = true := by decide +kernel

/-- Of `Obligations.SlotsAndFlits`. -/
theorem test_hypotheses_SlotsAndFlits : (
  (let s : State := wit0; let s : State := wNow s 16; decide (s.up = true ∧ s.nextBoundary ≤ s.now.toNat)) &&
  (let s : State := wit0; decide (s.now.toNat < s.nextBoundary)) &&
  (let s : State := wit0; let s : State := { s with dtt.bgDone := false }; let s : State := { s with clk := { s.clk with slot := 48 } };
    decide (s.up = true ∧ isBg bgDirSweep (s.entry 63) = true ∧ s.dtt.bgDone = false)) &&
  (let s : State := wit0; let s : State := { s with dtt.bgDone := false }; let s : State := { s with clk := { s.clk with slot := 16 } };
    decide (s.up = true ∧ isBg bgTelemetry (s.entry 63) = true ∧ s.dtt.bgDone = false ∧ swf regReset s.regs = true)) &&
  (let s : State := wit0; let s : State := { s with dtt.bgDone := true }; decide (s.dtt.bgDone = true)) &&
  (let p : Fin 6 := 0; let f : SFlit := wSFlit; let s : State := wit0; decide (s.up = true ∧ (∀ e, s.stream f.stream.toNat = some e → e.src ≠ p.val))) &&
  (let p : Fin 6 := 0; let f : SFlit := { wSFlit with stream := 1 }; let s : State := wit0; let s : State := wStr s (2 ^ 32 + 1);
    let s : State := s.setF (F.DTT_PORT_LAG_LAG 0) 1; let e : StreamE := (s.stream 1).getD wStreamE; decide (s.up = true ∧
    s.stream f.stream.toNat = some e ∧ e.src = p.val ∧ e.out ≠ 0 ∧ (s.clk.slot.setWidth 8 - f.slot).toNat < (s.f (F.DTT_PORT_LAG_LAG p.val)).toNat ∧
    swf noStaged s.dtt.staged = true)) &&
  (let p : Fin 6 := 0; let f : SFlit := { wSFlit with stream := 1 }; let s : State := wit0; let s : State := wStr s (2 ^ 32 + 1);
    let s : State := s.setF (F.DTT_PORT_LAG_LAG 0) 0; let e : StreamE := (s.stream 1).getD wStreamE; decide (s.up = true ∧
    s.stream f.stream.toNat = some e ∧ e.src = p.val ∧ (s.f (F.DTT_PORT_LAG_LAG p.val)).toNat ≤ (s.clk.slot.setWidth 8 - f.slot).toNat ∧
    swf regReset s.regs = true))) = true := by decide +kernel

/-- Of `Obligations.TimetableSets`. -/
theorem test_hypotheses_TimetableSets : (
  (let b : Bool := false; let arm : Bool := false; let s : State := wit0; let c : Instr := Instr.validate b;
    let s : State := s.setF F.DTT_TT_STAT_DEFAULT 0; decide (s.takes = true ∧ (c, arm) ∈ [(Instr.validate b, false), (.ttArm b, true)] ∧
    s.activeSet = some (b2n b))) &&
  (let b : Bool := true; let arm : Bool := false; let c : Instr := .validate true; let s : State := wit0;
    let s : State := { s with dtt := { s.dtt with armed := some (0, 0, 0) } }; decide (s.takes = true ∧
    (c, arm) ∈ [(Instr.validate b, false), (.ttArm b, true)] ∧ s.activeSet ≠ some (b2n b) ∧
    (s.dtt.armed.isSome = true ∨ s.dtt.checking.isSome = true))) &&
  (let b : Bool := false; let arm : Bool := false; let s : State := wit0; let c : Instr := Instr.validate b;
    let s : State := { s with dtt.armed := none }; let s : State := { s with dtt.checking := none }; decide (s.takes = true ∧
    (c, arm) ∈ [(Instr.validate b, false), (.ttArm b, true)] ∧ s.activeSet ≠ some (b2n b) ∧ s.dtt.armed = none ∧ s.dtt.checking = none)) &&
  (let b : Bool := false; let s : State := wit0; decide (s.takes = true ∧ s.activeSet ≠ some (b2n b) ∧ s.swapDue = false)) &&
  (let b : Bool := false; let s : State := wit0;
    let s : State := { s with dtt := { s.dtt with armed := some (0, 1, 0) }, clk := { s.clk with gridTick := 1 } }; decide (s.takes = true ∧
    s.activeSet ≠ some (b2n b) ∧ s.swapDue = true)) &&
  (let b : Bool := false; let s : State := wit0; let s : State := s.setF F.DTT_TT_STAT_DEFAULT 0; decide (s.takes = true ∧
    s.activeSet = some (b2n b))) &&
  (let set : Nat := 0; let arm : Bool := false; let tick : R64 := 0; let s : State := wit0;
    let s : State := { s with dtt.checking := some (set, arm, tick) }; let s : State := s.wr (Reg.DTT_TT_LEN 0) 1;
    let r : BitVec 4 × Nat × Nat := s.checkSet set arm; decide (s.up = true ∧ s.dtt.checking = some (set, arm, tick) ∧ s.checkSet set arm = r ∧
    swf regReset s.regs = true)) &&
  (let s : State := wit0; let s : State := { s with dtt.checking := none }; decide (s.dtt.checking = none)) &&
  (let set : Nat := 0; let tick : R64 := 0; let d : R64 := 0; let s : State := wit0; let s : State := { s with dtt.armed := some (set, tick, d) };
    let s : State := { s with clk := { s.clk with gridTick := 1 } }; decide (s.up = true ∧ s.dtt.armed = some (set, tick, d) ∧
    tick.toNat ≤ s.boundary ∧ d.toNat < s.boundary ∧ swf regReset s.regs = true)) &&
  (let set : Nat := 0; let tick : R64 := 0; let d : R64 := 0; let s : State := wit0; let s : State := { s with dtt.armed := some (set, tick, d) };
    decide (s.dtt.armed = some (set, tick, d) ∧ (s.boundary < tick.toNat ∨ s.boundary ≤ d.toNat))) &&
  (let s : State := wit0; let s : State := { s with dtt.armed := none }; decide (s.dtt.armed = none)) &&
  (let s : State := wit0; let s : State := s.setF F.DTT_TT_STAT_DEFAULT 0; decide (s.takes = true ∧
    s.setLive (s.f F.DTT_TTWIN_PAGE_SET).toNat = true)) &&
  (let s : State := wit0; decide (s.takes = true ∧ s.setLive (s.f F.DTT_TTWIN_PAGE_SET).toNat = false))) = true := by decide +kernel

/-- Of `Obligations.Tiles`. -/
theorem test_hypotheses_Tiles : (
  (let n : BitVec 6 := 0; let w : TileWork := wTileWork; let s : State := wit0; decide (s.up = true ∧ s.tileStands n.toNat = false ∧
    badEntered w = none ∧ badAdd w.adds = none)) &&
  (let n : BitVec 6 := 0; let s : State := wit0; let s : State := s.setF (F.ENG_T_STAT_PHYS 0) 0x3F; decide (s.tileStands n.toNat = true)) &&
  (let n : BitVec 6 := 0; let w : TileWork := { wTileWork with received := [natLe 8 (2 ^ 48)] }; let b : Nat := 0; let s : State := wit0;
    let s : State := { s with grp.runs := [] }; decide (s.up = true ∧ s.tileStands n.toNat = false ∧ badEntered w = some b ∧ s.grp.runs = [] ∧
    s.tileDescs n.toNat = [] ∧ swf regReset s.regs = true)) &&
  (let n : BitVec 6 := 0; let w : TileWork := { wTileWork with adds := [⟨natLe 8 (2 ^ 48), [], []⟩] }; let b : Nat := 0; let s : State := wit0;
    decide (s.up = true ∧ s.tileStands n.toNat = false ∧ badEntered w = none ∧ badAdd w.adds = some b ∧ badAdd w.again = none ∧
    swf regReset s.regs = true)) &&
  (let p : BitVec 6 := 0; let n : Nat := 0; let s : State := wit0; let s : State := { s with eng.failed := [] }; decide (s.up = true ∧ p.toNat < 56 ∧
    s.logicalOf p.toNat = some n ∧ s.eng.failed = [] ∧ 0 < (s.spares (logCx n)).length)) &&
  (let p : BitVec 6 := 0; let n : Nat := 0; let s : State := wit0; let s : State := { s with eng.failed := [] };
    let s : State := { s with grp.runs := [] }; let s : State := { s with eng := { s.eng with dis := BitVec.ofNat _ (2 ^ 56 - 1) } };
    decide (s.up = true ∧ p.toNat < 56 ∧ s.logicalOf p.toNat = some n ∧ s.eng.failed = [] ∧ s.spares (logCx n) = [] ∧ s.grp.runs = [] ∧
    s.tileDescs n = [] ∧ swf regReset s.regs = true)) &&
  (let p : BitVec 6 := 56; let s : State := wit0; decide ((56 ≤ p.toNat ∨ (s.logicalOf p.toNat = none ∧ s.disabled p.toNat = true)))) &&
  (let n : BitVec 6 := 0; let s : State := wit0; let s : State := { s with grp := { s.grp with runs := [{ wRun with tiles := [0] }] } };
    decide (s.takes = true ∧ n.toNat < 48 ∧ s.tileBusy n.toNat = true)) &&
  (let n : BitVec 6 := 0; let s : State := wit0; decide (s.takes = true ∧ n.toNat < 48 ∧ s.tileBusy n.toNat = false ∧ s.accExts = [])) &&
  (let n : BitVec 6 := 48; decide (48 ≤ n.toNat)) &&
  (let i : BitVec 2 := 0; let n : Nat := 0; let s : State := wit0; let s : State := State.setF s (F.ENG_DOP_CTL_EN i.toNat) 1;
    let s : State := State.setF s (F.ENG_DOP_CTL_ROLE i.toNat) 1; decide (s.up = true ∧ s.on (F.ENG_DOP_CTL_EN i.toNat) = true ∧
    s.on (F.ENG_DOP_CTL_ROLE i.toNat) = true ∧ n = (s.f (F.ENG_DOP_CTL_TILE i.toNat)).toNat ∧ n < 48 ∧ swf noHash s.eng.hashes = true ∧
    swf regReset s.regs = true)) &&
  (let i : BitVec 2 := 0; let s : State := wit0; decide ((s.on (F.ENG_DOP_CTL_EN i.toNat) = false ∨ s.on (F.ENG_DOP_CTL_ROLE i.toNat) = false))) &&
  (let i : BitVec 2 := 0; let h : List R64 := []; let l : List (List R64) := []; let s : State := wit0;
    let s : State := State.setF s (F.ENG_DOP_CTL_EN i.toNat) 1; let s : State := s.setHashes 0 [[]]; decide (s.up = true ∧
    s.on (F.ENG_DOP_CTL_EN i.toNat) = true ∧ s.hashesOf i.toNat = h :: l ∧ swf noHash s.eng.hashes = true ∧ swf regReset s.regs = true)) &&
  (let i : BitVec 2 := 0; let h : R64 := 1; let x : R64 := 0; let l : List (List R64) := []; let s : State := wit0;
    let s : State := State.setF s (F.ENG_DOP_CTL_EN i.toNat) 1; let s : State := s.setHashes 0 [[1]]; decide (s.up = true ∧
    s.on (F.ENG_DOP_CTL_EN i.toNat) = true ∧ s.hashesOf i.toNat = [h] :: l ∧ h ≠ x ∧ swf noHash s.eng.hashes = true ∧ swf regReset s.regs = true)) &&
  (let i : BitVec 2 := 0; let s : State := wit0; decide (s.hashesOf i.toNat = []))) = true := by decide +kernel

/-- Of `Obligations.Spares`. -/
theorem test_hypotheses_Spares : (
  (let n : BitVec 6 := 0; let k : R64 := 1; let s : State := wit0; let s : State := { s with eng.failed := [(n.toNat, s.phys n.toNat, k)] };
    let q : Nat := (s.spares 0).head?.getD 0; let l : List Nat := (s.spares 0).tail; decide (s.up = true ∧ n.toNat < 48 ∧
    s.eng.failed = [(n.toNat, s.phys n.toNat, k)] ∧ k ≠ s.clk.slot ∧ s.phys n.toNat < 56 ∧ s.spares (logCx n.toNat) = q :: l ∧
    swf regReset s.regs = true)) &&
  (let n : BitVec 6 := 0; let p : Nat := 0; let s : State := wit0; decide (s.phys n.toNat ≠ 0x3F ∧
    (s.eng.failed = [] ∨ s.eng.failed = [(n.toNat, p, s.clk.slot)]))) &&
  (let p : BitVec 6 := 0; let s : State := wit0; let c : Instr := .spareTest p; let s : State := State.setF s F.ENG_SPARE_RES_BUSY 1;
    decide (s.on F.ENG_SPARE_RES_BUSY = true ∧ c ∈ [.spareTest p, .spareEnable p, .spareDisable p])) &&
  (let p : BitVec 6 := 0; let s : State := wit0; let c : Instr := .spareTest p; let s : State := State.setF s F.ENG_SPARE_RES_BUSY 0;
    decide (s.takes = true ∧ s.on F.ENG_SPARE_RES_BUSY = false ∧ p.toNat < 56 ∧ (s.logicalOf p.toNat).isSome = true ∧
    c ∈ [.spareTest p, .spareEnable p])) &&
  (let p : BitVec 6 := 55; let s : State := wit0; let s : State := State.setF s F.ENG_SPARE_RES_BUSY 0; decide (s.takes = true ∧
    s.on F.ENG_SPARE_RES_BUSY = false ∧ p.toNat < 56 ∧ s.logicalOf p.toNat = none ∧ swf regReset s.regs = true)) &&
  (let p : BitVec 6 := 55; let s : State := wit0; let s : State := State.setF s F.ENG_SPARE_RES_BUSY 0; decide (s.takes = true ∧
    s.on F.ENG_SPARE_RES_BUSY = false ∧ p.toNat < 56 ∧ s.logicalOf p.toNat = none)) &&
  (let p : BitVec 6 := 0; let s : State := wit0; let s : State := State.setF s F.ENG_SPARE_RES_BUSY 0; decide (s.takes = true ∧
    s.on F.ENG_SPARE_RES_BUSY = false ∧ p.toNat < 56 ∧ (s.logicalOf p.toNat).isSome = true)) &&
  (let p : BitVec 6 := 55; let s : State := wit0; let s : State := State.setF s F.ENG_SPARE_RES_BUSY 0; decide (s.takes = true ∧
    s.on F.ENG_SPARE_RES_BUSY = false ∧ p.toNat < 56 ∧ s.logicalOf p.toNat = none ∧ s.eng.passed.contains p.toNat = false)) &&
  (let p : BitVec 6 := 55; let s : State := wit0; let s : State := State.setF s F.ENG_SPARE_RES_BUSY 0;
    let s : State := { s with eng := { s.eng with passed := [55] } }; decide (s.takes = true ∧ s.on F.ENG_SPARE_RES_BUSY = false ∧ p.toNat < 56 ∧
    s.logicalOf p.toNat = none ∧ s.eng.passed.contains p.toNat = true ∧ swf regReset s.regs = true)) &&
  (let p : BitVec 6 := 0; let s : State := wit0; let s : State := { s with eng.test := some p }; decide (s.up = true ∧ s.fwServes 2 = true ∧
    s.eng.test = some p ∧ swf regReset s.regs = true)) &&
  (let s : State := wit0; let s : State := { s with eng.test := none }; decide (s.eng.test = none))) = true := by decide +kernel

/-- Of `Obligations.ManagerOrders`. -/
theorem test_hypotheses_ManagerOrders : (
  (let s : State := wit0; let s : State := State.setF s F.FLT_ORD_RES_BUSY 1; decide (s.takes = true ∧ s.on F.FLT_ORD_RES_BUSY = true)) &&
  (let o : Bytes := List.replicate 128 0; let s : State := wit0; let s : State := State.setF s F.FLT_ORD_RES_BUSY 0; decide (s.takes = true ∧
    s.on F.FLT_ORD_RES_BUSY = false ∧ o = Mem.rdN s.mems.ordwin 0 (ordLen (Mem.rdN s.mems.ordwin 0 128)) ∧ s.flt.held.length < 64)) &&
  (let n : BitVec 16 := 0; let o : Bytes := []; let s : State := wit0; let s : State := { s with flt.frags := [] };
    let s : State := { s with flt.verifying := [] }; let s : State := { s with flt.held := [] }; let s : State := { s with flt.todo := [] };
    let s : State := { s with flt.admits := [] }; let s : State := { s with flt.applied := [] }; decide (s.up = true ∧ s.flt.frags = [] ∧
    o.length = n.toNat ∧ s.flt.verifying = [] ∧ s.flt.held = [] ∧ s.flt.todo = [] ∧ s.flt.admits = [] ∧ s.flt.applied = [])) &&
  (let n : BitVec 16 := 1; let d : Bytes := []; let s : State := wit0; let s : State := { s with flt.frags := [] }; decide (s.up = true ∧
    s.flt.frags = [] ∧ d.length < n.toNat)) &&
  (let o : Bytes := []; let b : Bool := false; let l : List (Bytes × Bool) := []; let s : State := wit0;
    let s : State := { s with flt.verifying := (o, b) :: l }; decide (s.up = true ∧ s.fwServes 1 = true ∧ s.flt.verifying = (o, b) :: l ∧
    s.orderErr o ≠ 0)) &&
  (let o : Bytes := natLe 8 (3 + 1 * 2 ^ 32) ++ natLe 8 0 ++ natLe 8 0 ++ natLe 8 0 ++ List.replicate 96 (0 : Byte); let b : Bool := false;
    let s : State := wit0; let s : State := { s with flt.verifying := [(o, b)] }; let s : State := { s with flt.held := [] };
    let s : State := { s with flt.todo := [] }; let s : State := { s with flt.admits := [] }; decide (s.up = true ∧ s.fwServes 1 = true ∧
    s.flt.verifying = [(o, b)] ∧ s.orderErr2 o = 0 ∧ s.flt.held = [] ∧ s.flt.todo = [] ∧ s.flt.admits = [] ∧ ordType o ≠ otAdmit ∧
    (ordSeq o).toNat = s.orderSeq.toNat + 1 ∧ swf regReset s.regs = true)) &&
  (let s : State := wit0; decide ((s.flt.verifying = [] ∨ s.fwServes 1 = false))) &&
  (let n : NodeId := 0; let o : Bytes := natLe 8 (1 + 1 * 2 ^ 32) ++ natLe 8 0 ++ natLe 8 0 ++ natLe 8 0 ++ List.replicate 96 (0 : Byte);
    let s : State := wit0; let s : State := { s with flt.todo := [o] }; let s : State := { s with ep.ents := [] };
    let s : State := { s with flt.held := [] }; decide (s.up = true ∧ s.flt.todo = [o] ∧ ordType o = otExpel ∧ ordTarget o = n ∧ n = s.node ∧
    s.ep.ents = [] ∧ (List.range 6).all (fun p => decide (s.pState p ≠ pUp)) = true ∧ s.flt.held = [] ∧ swf regReset s.regs = true)) &&
  (let n : NodeId := 42; let o : Bytes := natLe 8 (1 + 1 * 2 ^ 32) ++ natLe 8 42 ++ natLe 8 0 ++ natLe 8 0 ++ List.replicate 96 (0 : Byte);
    let s : State := wit0; let s : State := { s with flt.todo := [o] }; let s : State := { s with ep.ents := [] };
    let s : State := { s with ep.own := [] }; let s : State := { s with home.awaitMack := [] }; let s : State := { s with swc.tamps := [] };
    let s : State := { s with grp.runs := [] }; let s : State := { s with flt.held := [] }; decide (s.up = true ∧ s.flt.todo = [o] ∧
    ordType o = otExpel ∧ ordTarget o = n ∧ n ≠ s.node ∧ s.ep.ents = [] ∧ s.ep.own = [] ∧ s.home.awaitMack = [] ∧ s.swc.tamps = [] ∧
    s.grp.runs = [] ∧ s.liveExts = [] ∧ (List.range 6).all (fun p => decide (neighbour s.node p ≠ n)) = true ∧
    (List.range 4).all (fun i => decide (s.on (F.ENG_DOP_CTL_EN i) = false)) = true ∧ s.flt.held = [] ∧ swf noInc s.flt.incs = true ∧
    swf regReset s.regs = true)) &&
  (let s : State := wit0; let s : State := { s with flt.todo := [] }; decide (s.flt.todo = [])) &&
  (let o : Bytes := natLe 8 (2 + 1 * 2 ^ 32) ++ natLe 8 0 ++ natLe 8 0 ++ natLe 8 0 ++ List.replicate 96 (0 : Byte); let s : State := wit0;
    let s : State := { s with flt.todo := [o] }; decide (s.up = true ∧ s.flt.todo = [o] ∧ ordType o = otAdmit ∧ ordEffective o < 2 ^ 64)) &&
  (let s : State := wit0; let s : State := { s with flt.todo := [] }; decide (s.flt.todo = [])) &&
  (let o : Bytes := natLe 8 (2 + 1 * 2 ^ 32) ++ natLe 8 42 ++ natLe 8 0 ++ natLe 8 0 ++ List.replicate 96 (0 : Byte); let s : State := wit0;
    let s : State := { s with flt.admits := [o] }; let s : State := { s with flt.held := [] }; let s : State := { s with swc.hold := [] };
    let s : State := { s with swc.stopped := [] }; decide (s.up = true ∧ s.flt.admits = [o] ∧ ordEffective o ≤ s.now.toNat ∧ ordTarget o ≠ s.node ∧
    s.flt.held = [] ∧ (List.range 6).all (fun p => decide (neighbour s.node p ≠ ordTarget o)) = true ∧ s.swc.hold = [] ∧ s.swc.stopped = [] ∧
    swf noInc s.flt.incs = true ∧ swf regReset s.regs = true)) &&
  (let o : Bytes := []; let s : State := wit0; let s : State := { s with flt.admits := [o] }; let s : State := { s with flt.held := [] };
    let s : State := { s with swc.hold := [] }; let s : State := { s with swc.stopped := [] }; decide (s.up = true ∧ s.flt.admits = [o] ∧
    ordEffective o ≤ s.now.toNat ∧ ordTarget o = s.node ∧ s.flt.held = [] ∧ s.swc.hold = [] ∧ s.swc.stopped = [] ∧ swf regReset s.regs = true)) &&
  (let s : State := wit0; let s : State := { s with flt.admits := [] }; decide (s.flt.admits = [])) &&
  (let k : BitVec 3 := 0; let o : Bytes := natLe 8 (3 + 1 * 2 ^ 32) ++ natLe 8 0 ++ natLe 8 0 ++ natLe 8 0 ++ List.replicate 96 (0 : Byte);
    let s : State := wit0; let s : State := { s with flt.todo := [o] }; let s : State := { s with flt.held := [] }; decide (s.up = true ∧
    s.flt.todo = [o] ∧ s.flt.held = [] ∧ ordType o = otKeys ∧ (ordTarget o).toNat = k.toNat)) &&
  (let s : State := wit0; let s : State := { s with flt.todo := [] }; decide (s.flt.todo = []))) = true := by decide +kernel

/-- Of `Obligations.JobStops`. -/
theorem test_hypotheses_JobStops : (
  (let p : Fin 6 := 0; let n : Nat := 8; let s : State := wit0; let s : State := State.setF s (F.LAN_P_STAT_STATE p.val) pUp;
    let s : State := wNow s 2000; decide (s.up = true ∧ n = (if s.f F.FLT_CTL_HB_MISS = 0 then 8 else (s.f F.FLT_CTL_HB_MISS).toNat) ∧
    s.trained p.val = true ∧ 250 * n ≤ s.now.toNat - (s.pt p.val).tick.toNat)) &&
  (let p : Fin 6 := 0; let s : State := wit0; let s : State := State.setF s (F.LAN_P_STAT_STATE p.val) pUp;
    let s : State := State.setF s F.FLT_CTL_HB_MISS (0); let s : State := State.setF s (F.FLT_PORT_HB_DOWN p.val) 0; let s : State := wNow s 2000;
    decide (s.up = true ∧ s.trained p.val = true ∧ s.f F.FLT_CTL_HB_MISS = 0 ∧ 2000 ≤ s.now.toNat - (s.pt p.val).tick.toNat ∧
    s.on (F.FLT_PORT_HB_DOWN p.val) = false ∧ swf regReset s.regs = true)) &&
  (let p : Fin 6 := 0; let s : State := wit0; decide ((s.trained p.val = false ∨ s.now.toNat - (s.pt p.val).tick.toNat < 250))) &&
  (let m : StopMsg := wStopMsg; let s : State := wit0; let m : StopMsg := { m with resume := false }; let s : State := { s with flt.stops := [] };
    let s : State := { s with flt.stopAll := false }; let s : State := { s with grp.runs := [] }; decide (s.up = true ∧
    sget noMsgKey s.flt.stopMsgs m.job.toNat = none ∧ s.flt.stops = [] ∧ s.flt.stopAll = false ∧ m.resume = false ∧ s.grp.runs = [] ∧
    s.liveQueues = [])) &&
  (let m : StopMsg := { wStopMsg with job := wStopE.job, resume := true }; let e : StopE := wStopE; let k : Nat := 0; let s : State := wit0;
    let s : State := { s with flt.stops := [e] }; let s : State := { s with flt := { s.flt with stops := [wStopE] } };
    let s : State := { s with flt := { s.flt with stopMsgs := sset noMsgKey s.flt.stopMsgs m.job.toNat (some k) } }; decide (s.up = true ∧
    s.flt.stops = [e] ∧ e.job = m.job ∧ m.resume = true ∧ sget noMsgKey s.flt.stopMsgs m.job.toNat = some k ∧ k < stopKey m.time true m.origin)) &&
  (let m : StopMsg := { wStopMsg with job := wStopE.job }; let k : Nat := 64; let s : State := wit0;
    let s : State := { s with flt := { s.flt with stopMsgs := sset noMsgKey s.flt.stopMsgs m.job.toNat (some k) } };
    decide (sget noMsgKey s.flt.stopMsgs m.job.toNat = some k ∧ stopKey m.time m.resume m.origin ≤ k)) &&
  (let j : JobId := 1; let s : State := wit0; let s : State := { s with flt.stops := [] }; let s : State := { s with flt.stopAll := false };
    let s : State := { s with grp.runs := [] }; decide (s.takes = true ∧ j ≠ 0 ∧ s.flt.stops = [] ∧ s.flt.stopAll = false ∧ s.grp.runs = [] ∧
    s.liveQueues = [])) &&
  (let j : JobId := 1; let e : StopE := { wStopE with job := 1 }; let s : State := wit0; let s : State := { s with flt.stops := [e] };
    decide (s.takes = true ∧ j ≠ 0 ∧ s.flt.stops = [e] ∧ e.job = j))) = true := by decide +kernel

/-- Of `Obligations.RepairAndSediment`. -/
theorem test_hypotheses_RepairAndSediment : (
  (let v : R32 := 0; let cp : Bool := false; let i : Nat := 0; let s : State := wit0; decide (s.takes = true ∧
    i = (fget F.FLT_RM_CMD_EXTENT v).toNat ∧ s.repairErr i (fget F.FLT_RM_CMD_PARTNER v) cp ≠ 0)) &&
  (let v : R32 := 0x4000; let cp : Bool := true; let i : Nat := 0; let s : State := wit0; let s : State := wExt s 0 0 1 0 1 0;
    decide (s.takes = true ∧ i = (fget F.FLT_RM_CMD_EXTENT v).toNat ∧ s.repairErr i (fget F.FLT_RM_CMD_PARTNER v) cp = 0 ∧
    swf regReset s.regs = true ∧ Mem.wf s.mems.ext = true)) &&
  (let op : BitVec 4 := 1; let s : State := wit0; let c : Instr := Instr.sedStart; let s : State := { s with flt.sedCmd := none };
    let s : State := s.wr Reg.FLT_SED_TICK_HI 1; decide (s.takes = true ∧ s.flt.sedCmd = none ∧ s.due s.sedTick = false ∧
    (c, op) ∈ [(Instr.sedStart, 1), (.sedStop, 2), (.sedReplay, 3)])) &&
  (let op : BitVec 4 := 1; let t : R64 := 1; let s : State := wit0; let c : Instr := Instr.sedStart;
    let s : State := { s with flt.sedCmd := some (op, t) }; decide (s.takes = true ∧ s.flt.sedCmd = some (op, t) ∧ s.due t = false ∧
    (c, op) ∈ [(Instr.sedStart, 1), (.sedStop, 2), (.sedReplay, 3)])) &&
  (let op : BitVec 4 := 1; let t : R64 := 0; let s : State := wit0; let c : Instr := Instr.sedStart;
    let s : State := { s with flt.sedCmd := some (op, t) }; let s : State := State.setF s F.FLT_SED_STAT_OVF 0; decide (s.takes = true ∧
    s.flt.sedCmd = some (op, t) ∧ s.due t = true ∧ (c, op) ∈ [(Instr.sedStart, 1), (.sedReplay, 3)] ∧ s.on F.FLT_SED_STAT_OVF = false ∧
    swf regReset s.regs = true)) &&
  (let t : R64 := 0; let s : State := wit0; let s : State := { s with flt.sedCmd := some (2, t) }; let s : State := { s with flt.sedHeld := [] };
    let s : State := { s with flt.sedIn := [] }; decide (s.takes = true ∧ s.flt.sedCmd = some (2, t) ∧ s.due t = true ∧ s.flt.sedHeld = [] ∧
    s.flt.sedIn = [])) &&
  (let s : State := wit0; let s : State := { s with dtt.bgDone := false }; let s : State := { s with clk := { s.clk with slot := 32 } };
    decide (s.up = true ∧ isBg bgSediment (s.entry 63) = true ∧ s.dtt.bgDone = false ∧ s.f F.FLT_SED_STAT_MODE ≠ 2)) &&
  (let s : State := wit0; decide ((s.dtt.bgDone = true ∨ isBg bgSediment (s.entry 63) = false))) &&
  (let s : State := wit0; let s : State := State.setF s F.FLT_SED_STAT_MODE (2); let s : State := { s with flt.sedDiverged := false };
    let s : State := { s with flt := { s.flt with sedHeld := [(wReq, wMemCond, 0, 0)] } }; let s : State := s.setF F.FLT_SED_CTL_WAIT 1;
    let s : State := wNow s 1025; decide (s.up = true ∧ s.f F.FLT_SED_STAT_MODE = 2 ∧ s.f F.FLT_SED_CTL_WAIT ≠ 0 ∧ s.sedOverdue = true ∧
    s.flt.sedDiverged = false ∧ swf regReset s.regs = true)) &&
  (let s : State := wit0; decide ((s.f F.FLT_SED_STAT_MODE ≠ 2 ∨ s.f F.FLT_SED_CTL_WAIT = 0 ∨ s.sedOverdue = false ∨ s.flt.sedDiverged = true)))) = true := by decide +kernel

/-- Of `Obligations.PortControl`. -/
theorem test_hypotheses_PortControl : (
  (let p : Fin 14 := 0; let s : State := wit0; let s : State := State.setF s (F.LAN_P_CTL_EN p.val) 0; decide (s.takes = true ∧
    s.on (F.LAN_P_CTL_EN p.val) = false ∧ s.pState p.val ∈ [pOff, pTest, pHeld] ∧ 0 < s.width p.val ∧
    (6 ≤ p.val → s.isSplit p.val = bitAt (s.f F.SWC_SPLIT_SPLIT).toNat ((p.val - 6) % 4)) ∧ swf regReset s.regs = true ∧
    swf lport0 s.lan.ports = true)) &&
  (let p : Fin 14 := 0; let s : State := wit0; let s : State := State.setF s (F.LAN_P_CTL_EN p.val) 1; decide (s.takes = true ∧
    s.on (F.LAN_P_CTL_EN p.val) = true)) &&
  (let p : Fin 14 := 0; let s : State := wit0; let s : State := State.setF s (F.LAN_P_STAT_STATE p.val) (pTraining); decide (s.takes = true ∧
    s.pState p.val = pTraining ∧ swf regReset s.regs = true)) &&
  (let p : Fin 14 := 0; let s : State := wit0; let s : State := State.setF s (F.LAN_P_STAT_STATE p.val) (pOff);
    let s : State := State.setF s (F.LAN_P_CTL_EN p.val) 0; decide (s.takes = true ∧ s.pState p.val = pOff ∧ s.on (F.LAN_P_CTL_EN p.val) = false ∧
    swf regReset s.regs = true)) &&
  (let p : Fin 14 := 0; let s : State := wit0; let s : State := State.setF s (F.LAN_P_STAT_STATE p.val) (pTest); decide (s.takes = true ∧
    s.pState p.val = pTest ∧ swf regReset s.regs = true)) &&
  (let p : Fin 14 := 0; let s : State := wit0; let s : State := State.setF s (F.LAN_P_STAT_STATE p.val) (pUp); decide (s.takes = true ∧
    s.pState p.val = pUp)) &&
  (let p : Fin 14 := 0; let s : State := wit0; let s : State := State.setF s (F.LAN_P_STAT_STATE p.val) (pHeld); decide (s.takes = true ∧
    s.pState p.val = pHeld)) &&
  (let p : Fin 14 := 0; let s : State := wit0; let s : State := State.setF s (F.LAN_P_STAT_STATE p.val) pUp; decide (s.takes = true ∧
    s.trained p.val = true)) &&
  (let p : Fin 14 := 0; let s : State := wit0; decide (s.takes = true ∧ s.trained p.val = false ∧ s.pState p.val ≠ pHeld)) &&
  (let p : Fin 14 := 0; let s : State := wit0; decide (s.takes = true ∧ p.val < 6)) &&
  (let p : Fin 14 := 6; let s : State := wit0; let s : State := State.setF s (F.LAN_P_STAT_STATE p.val) (pUp); decide (s.takes = true ∧ 6 ≤ p.val ∧
    s.pState p.val = pUp)) &&
  (let p : Fin 14 := 6; let s : State := wit0; let s : State := State.setF s (F.LAN_P_STAT_STATE p.val) (pQuiet); decide (s.takes = true ∧
    6 ≤ p.val ∧ s.pState p.val = pQuiet)) &&
  (let p : Fin 14 := 6; let s : State := wit0; let s : State := State.setF s (F.LAN_P_STAT_STATE p.val) (pDeep); decide (s.takes = true ∧ 6 ≤ p.val ∧
    s.pState p.val = pDeep)) &&
  (let p : Fin 14 := 0; let s : State := wit0; let s : State := State.setF s (F.LAN_P_STAT_STATE p.val) (pDeep); decide (s.up = true ∧
    s.pState p.val = pDeep ∧ 0 < s.width p.val ∧ (6 ≤ p.val → s.isSplit p.val = bitAt (s.f F.SWC_SPLIT_SPLIT).toNat ((p.val - 6) % 4)) ∧
    swf regReset s.regs = true ∧ swf lport0 s.lan.ports = true)) &&
  (let p : Fin 14 := 0; let s : State := wit0; decide (s.pState p.val ≠ pDeep))) = true := by decide +kernel

/-- Of `Obligations.PortTraining`. -/
theorem test_hypotheses_PortTraining : (
  (let p : Fin 14 := 0; let s : State := wit0; let s : State := State.setF s (F.LAN_P_STAT_STATE p.val) (pTraining);
    let s : State := State.setLp s p.val { State.lp s p.val with failed := [] }; decide (s.up = true ∧ s.pState p.val = pTraining ∧
    (s.f (F.LAN_P_STAT_PHASE p.val)).toNat < 3 ∧ (s.lp p.val).failed = [] ∧ s.phaseOver p.val = false ∧ swf regReset s.regs = true)) &&
  (let p : Fin 14 := 0; let a : BitVec 6 := 1; let b : BitVec 6 := 0; let s : State := wit0;
    let s : State := State.setF s (F.LAN_P_STAT_STATE p.val) (pTraining);
    let s : State := State.setLp s p.val { State.lp s p.val with failed := [] }; decide (s.up = true ∧ s.pState p.val = pTraining ∧
    (s.f (F.LAN_P_STAT_PHASE p.val)).toNat < 4 ∧ (s.lp p.val).failed = [] ∧ a ≠ b)) &&
  (let p : Fin 14 := 0; let s : State := wit0; let s : State := State.setF s (F.LAN_P_STAT_STATE p.val) (pTraining);
    let s : State := wNow s (2 ^ 40); decide (s.up = true ∧ s.pState p.val = pTraining ∧ (s.f (F.LAN_P_STAT_PHASE p.val)).toNat < 4 ∧
    s.phaseOver p.val = true)) &&
  (let p : Fin 14 := 0; let s : State := wit0; let s : State := State.setF s (F.LAN_P_STAT_STATE p.val) (pTraining);
    let s : State := State.setLp s p.val { State.lp s p.val with full := true }; decide (s.up = true ∧ s.pState p.val = pTraining ∧
    s.heldForLock p.val = false ∧ (s.lp p.val).full = true ∧ swf regReset s.regs = true ∧ swf lport0 s.lan.ports = true)) &&
  (let p : Fin 14 := 0; let s : State := wit0; decide (s.pState p.val ≠ pTraining)) &&
  (let p : Fin 14 := 0; let s : State := wit0; let s : State := State.setF s (F.LAN_P_STAT_STATE p.val) (pFailed);
    let s : State := State.setF s (F.LAN_P_CTL_EN p.val) 1; let s : State := wNow s 25000000; decide (s.up = true ∧ s.pState p.val = pFailed ∧
    s.on (F.LAN_P_CTL_EN p.val) = true ∧ 25000000 ≤ s.now.toNat - (s.lp p.val).since.toNat ∧ 0 < s.width p.val ∧
    (6 ≤ p.val → s.isSplit p.val = bitAt (s.f F.SWC_SPLIT_SPLIT).toNat ((p.val - 6) % 4)) ∧ swf regReset s.regs = true)) &&
  (let p : Fin 14 := 0; let s : State := wit0; decide ((s.pState p.val ≠ pFailed ∨ s.now.toNat - (s.lp p.val).since.toNat < 25000000))) &&
  (let p : Fin 14 := 6; let s : State := wit0; let s : State := State.setF s (F.LAN_P_STAT_STATE p.val) (pTraining);
    let s : State := State.setF s (F.LAN_P_STAT_PHASE p.val) (4); let s : State := State.setF s (F.LAN_P_CTL_ENC p.val) 0;
    let s : State := State.setLp s p.val { State.lp s p.val with failed := [] }; let s : State := { s with ep.snoopHeld := [] };
    let q : PortId := wPid s 6; decide (s.up = true ∧ s.pState p.val = pTraining ∧ s.f (F.LAN_P_STAT_PHASE p.val) = 4 ∧ s.waitsLock p.val = false ∧
    s.heldWhy p.val q = 0 ∧ s.on (F.LAN_P_CTL_ENC p.val) = false ∧ q.encReq = false ∧ (s.lp p.val).failed = [] ∧ s.ep.snoopHeld = [] ∧
    swf regReset s.regs = true ∧ swf lport0 s.lan.ports = true)) &&
  (let p : Fin 14 := 6; let q : PortId := wPortId; let s : State := wit0; let s : State := State.setF s (F.LAN_P_STAT_STATE p.val) (pTraining);
    let s : State := State.setF s (F.LAN_P_STAT_PHASE p.val) (4); decide (s.up = true ∧ s.pState p.val = pTraining ∧
    s.f (F.LAN_P_STAT_PHASE p.val) = 4 ∧ s.waitsLock p.val = false ∧ s.heldWhy p.val q ≠ 0 ∧ swf regReset s.regs = true)) &&
  (let p : Fin 14 := 0; let s : State := wit0; let s : State := State.setF s (F.LAN_P_STAT_STATE p.val) (pTraining);
    let s : State := State.setF s (F.LAN_P_STAT_PHASE p.val) (4); decide (s.up = true ∧ s.pState p.val = pTraining ∧
    s.f (F.LAN_P_STAT_PHASE p.val) = 4 ∧ s.waitsLock p.val = true))) = true := by decide +kernel

set_option maxRecDepth 20000 in
/-- Of `Obligations.FlitsReceived`. -/
theorem test_hypotheses_FlitsReceived : (
  (let p : Fin 14 := 0; let s : State := wit0; decide (s.trained p.val = false ∧ s.pState p.val ≠ pQuiet)) &&
  (let p : Fin 14 := 0; let f : Bytes := []; let s : State := wit0; let s : State := State.setF s (F.LAN_P_STAT_STATE p.val) pUp;
    let s : State := State.setLp s p.val { State.lp s p.val with nak := none }; let s : State := { s with clk := { s.clk with slot := 5 } };
    decide (s.up = true ∧ s.trained p.val = true ∧ flitGood f = false ∧ (s.lp p.val).nak = none ∧ (s.lp p.val).naks < 7 ∧ s.calSlot p.val = false ∧
    swf regReset s.regs = true ∧ swf lport0 s.lan.ports = true)) &&
  (let p : Fin 14 := 0; let f : Bytes := wFlit; let s : State := wit0; let s : State := State.setF s (F.LAN_P_STAT_STATE p.val) pUp;
    let s : State := State.setLp s p.val { State.lp s p.val with nak := none };
    let s : State := State.setLp s p.val { State.lp s p.val with kept := [] };
    let s : State := State.setLp s p.val { State.lp s p.val with queue := [] }; let s : State := State.setF s (F.LAN_P_STAT_ENC_ON p.val) 0;
    decide (s.up = true ∧ s.trained p.val = true ∧ flitGood f = true ∧ bitsAt (leNat (slice f 0 4)) 30 2 ≠ 0 ∧ (s.lp p.val).nak = none ∧
    (s.lp p.val).kept = [] ∧ (s.lp p.val).queue = [] ∧ s.on (F.LAN_P_STAT_ENC_ON p.val) = false ∧ swf lport0 s.lan.ports = true)) &&
  (let p : Fin 14 := 0; let g : Bool := false; let s : State := wit0; let s : State := State.setF s (F.LAN_P_STAT_STATE p.val) pUp;
    let s : State := State.setF s (F.LAN_P_STAT_ENC_ON p.val) 1; let s : State := State.setLp s p.val { State.lp s p.val with nak := none };
    decide (s.up = true ∧ s.trained p.val = true ∧ s.on (F.LAN_P_STAT_ENC_ON p.val) = true ∧ (s.lp p.val).nak = none ∧
    (s.lp p.val).rxIndex.getLsbD 0 = g)) &&
  (let p : Fin 14 := 0; let s : State := wit0; decide ((s.trained p.val = false ∨ s.on (F.LAN_P_STAT_ENC_ON p.val) = false)))) = true := by decide +kernel

/-- Of `Obligations.LinkStates`. -/
theorem test_hypotheses_LinkStates : (
  (let p : Fin 14 := 0; let e : R32 := 0; let it : TxItem := wTxItem; let fs : List Bytes := [[]]; let s : State := wit0;
    let s : State := State.setF s (F.LAN_P_STAT_STATE p.val) pUp;
    let s : State := State.setLp s p.val { State.lp s p.val with kept := [(e, it, fs)] };
    let s : State := State.setF s (F.LAN_P_STAT_ENC_ON p.val) 0; let s : State := { s with clk := { s.clk with slot := 5 } }; decide (s.up = true ∧
    s.trained p.val = true ∧ (s.lp p.val).kept = [(e, it, fs)] ∧ 0 < it.flits ∧ e.toNat + it.flits < 2 ^ 32 ∧ s.calSlot p.val = false ∧
    s.on (F.LAN_P_STAT_ENC_ON p.val) = false ∧ swf lport0 s.lan.ports = true)) &&
  (let p : Fin 14 := 0; let s : State := wit0; let s : State := State.setLp s p.val { State.lp s p.val with kept := [] };
    decide ((s.lp p.val).kept = [])) &&
  (let p : Fin 14 := 0; let e : R32 := 0; let s : State := wit0; let s : State := State.setLp s p.val { State.lp s p.val with nak := some e };
    decide (s.up = true ∧ (s.lp p.val).nak = some e)) &&
  (let p : Fin 14 := 0; let e : R32 := 0; let s : State := wit0; decide ((s.lp p.val).nak ≠ some e)) &&
  (let p : Fin 14 := 0; let s : State := wit0; let s : State := State.setF s (F.LAN_P_STAT_STATE p.val) pUp;
    let s : State := s.setLp 0 { s.lp 0 with nak := some 0 }; let s : State := wNow s 500;
    let s : State := { s with clk := { s.clk with slot := 5 } }; decide (s.up = true ∧ s.trained p.val = true ∧ (s.lp p.val).nak.isSome = true ∧
    500 ≤ s.now.toNat - (s.lp p.val).nakAt.toNat ∧ (s.lp p.val).naks < 7 ∧ s.calSlot p.val = false ∧ swf lport0 s.lan.ports = true)) &&
  (let p : Fin 14 := 0; let s : State := wit0; decide ((s.lp p.val).nak = none ∨ s.now.toNat - (s.lp p.val).nakAt.toNat < 500)) &&
  (let p : Fin 14 := 0; let s : State := wit0; let s : State := State.setF s (F.LAN_P_STAT_STATE p.val) pUp; let s : State := wNow s 500;
    decide (s.up = true ∧ s.trained p.val = true ∧ 500 ≤ s.now.toNat - (s.lp p.val).goodAt.toNat)) &&
  (let p : Fin 14 := 0; let s : State := wit0; decide (s.now.toNat - (s.lp p.val).goodAt.toNat < 500)) &&
  (let p : Fin 14 := 6; let s : State := wit0; let s : State := State.setF s (F.LAN_P_STAT_ENC_ON p.val) 0;
    let s : State := (s.setF (F.LAN_P_STAT_STATE 6) pUp).setF (F.LAN_P_CTL_QUIET_EN 6) 1;
    let s : State := { s with clk := { s.clk with slot := 5 } }; decide (s.up = true ∧ s.mayQuiet p.val = true ∧
    s.on (F.LAN_P_STAT_ENC_ON p.val) = false ∧ s.calSlot p.val = false ∧ swf regReset s.regs = true)) &&
  (let p : Fin 14 := 0; let s : State := wit0; decide (s.mayQuiet p.val = false)) &&
  (let p : Fin 14 := 0; let s : State := wit0; let s : State := State.setF s (F.LAN_P_STAT_STATE p.val) (pQuiet); decide (s.up = true ∧
    s.pState p.val = pQuiet ∧ swf regReset s.regs = true)) &&
  (let p : Fin 14 := 0; let s : State := wit0; decide (s.pState p.val ≠ pQuiet)) &&
  (let p : Fin 14 := 6; let s : State := wit0; let s : State := State.setF s (F.LAN_P_STAT_STATE p.val) (pUp);
    let s : State := State.setF s (F.LAN_P_CTL_DEEP p.val) 1; let s : State := State.setF s (F.LAN_P_STAT_ENC_ON p.val) 0; decide (s.up = true ∧
    6 ≤ p.val ∧ s.pState p.val = pUp ∧ s.on (F.LAN_P_CTL_DEEP p.val) = true ∧ s.on (F.LAN_P_STAT_ENC_ON p.val) = false ∧ swf regReset s.regs = true)) &&
  (let p : Fin 14 := 0; let s : State := wit0; decide ((p.val < 6 ∨ s.pState p.val ≠ pUp)))) = true := by decide +kernel

set_option maxRecDepth 20000 in
/-- Of `Obligations.LanesAndModules`. -/
theorem test_hypotheses_LanesAndModules : (
  (let p : Fin 14 := 0; let s : State := wit0; let s : State := State.setF s (F.LAN_P_STAT_STATE p.val) (pUp); decide (s.up = true ∧
    s.calSlot p.val = true ∧ s.pState p.val = pUp)) &&
  (let p : Fin 14 := 0; let s : State := wit0; decide ((s.calSlot p.val = false ∨ s.trained p.val = false))) &&
  (let p : Fin 14 := 0; let g : List Sym := []; let s : State := wit0; let s : State := State.setF s (F.LAN_P_STAT_STATE p.val) pUp;
    let bits : List Bool := (decodeGroup 544 32 (s.width p.val) (s.failedLanes p.val) g).bits; decide (s.up = true ∧ s.trained p.val = true ∧
    decodeGroup 544 32 (s.width p.val) (s.failedLanes p.val) g = ⟨[], 0, bits⟩ ∧ ((s.groupBits p.val bits).commaDue p.val).1 = false ∧
    swf regReset s.regs = true ∧ swf lport0 s.lan.ports = true)) &&
  (let p : Fin 14 := 10; let g : List Sym := []; let s : State := wit0; let s : State := State.setF s (F.LAN_P_STAT_STATE p.val) pUp;
    decide (s.up = true ∧ s.trained p.val = true ∧ (decodeGroup 544 32 (s.width p.val) (s.failedLanes p.val) g).fixed = [] ∧
    swf regReset s.regs = true)) &&
  (let p : Fin 14 := 0; let s : State := wit0; decide (s.trained p.val = false)) &&
  (let i : BitVec 9 := 0; let s : State := wit0; let s : State := State.setF s (F.LAN_L_CTL_FEC_TEST i.toNat) 1;
    let s : State := s.setF (F.LAN_P_STAT_STATE 0) pTest; decide (s.up = true ∧ s.testing i.toNat = true ∧
    s.on (F.LAN_L_CTL_FEC_TEST i.toNat) = true ∧ swf regReset s.regs = true)) &&
  (let s : State := wit0; decide (s.takes = true)) &&
  (let s : State := wit0; decide (s.takes = true ∧ swf regReset s.regs = true)) &&
  (let i : BitVec 9 := 0; let p : Nat := 0; let s : State := wit0; let s : State := State.setF s (F.LAN_P_STAT_STATE p) (pTest);
    let s : State := s.setF (F.LAN_L_CTL_RX_PAT 0) 1; decide (s.up = true ∧ s.portOfLane i.toNat = some p ∧ s.pState p = pTest ∧
    1 ≤ (s.f (F.LAN_L_CTL_RX_PAT i.toNat)).toNat ∧ (s.f (F.LAN_L_CTL_RX_PAT i.toNat)).toNat ≤ 5 ∧ swf regReset s.regs = true)) &&
  (let i : BitVec 9 := 0; let s : State := wit0; let s : State := State.setF s (F.LAN_L_CTL_RX_PAT i.toNat) (0);
    decide (s.f (F.LAN_L_CTL_RX_PAT i.toNat) = 0)) &&
  (let v : R32 := 0; let s : State := wit0; decide ((s.on F.LAN_CMIS_RES_BUSY = true ∨ fget F.LAN_CMIS_CMD_GO v = 0))) &&
  (let v : R32 := 0xA8000000; let s : State := wit0; let s : State := State.setF s F.LAN_CMIS_RES_BUSY 0; decide (s.takes = true ∧
    s.on F.LAN_CMIS_RES_BUSY = false ∧ fget F.LAN_CMIS_CMD_GO v = 1 ∧
    (9 < (fget F.LAN_CMIS_CMD_BUS v).toNat ∨ 5 < (fget F.LAN_CMIS_CMD_MOD v).toNat))) &&
  (let v : R32 := 0x80000000; let s : State := wit0; let s : State := State.setF s F.LAN_CMIS_RES_BUSY 0; decide (s.takes = true ∧
    s.on F.LAN_CMIS_RES_BUSY = false ∧ fget F.LAN_CMIS_CMD_GO v = 1 ∧ (fget F.LAN_CMIS_CMD_BUS v).toNat ≤ 9 ∧ (fget F.LAN_CMIS_CMD_MOD v).toNat ≤ 5 ∧
    fget F.LAN_CMIS_CMD_WR v = 0 ∧ swf regReset s.regs = true)) &&
  (let v : R32 := 0xC0000000; let e : BitVec 3 := 0; let s : State := wit0; let s : State := { s with lan.cmis := some v }; decide (s.up = true ∧
    s.fwServes 3 = true ∧ s.lan.cmis = some v ∧ (fget F.LAN_CMIS_CMD_WR v = 1 ∨ e ≠ 0) ∧ swf regReset s.regs = true)) &&
  (let v : R32 := 0; let d : Bytes := [0]; let s : State := wit0; let s : State := { s with lan.cmis := some v }; decide (s.up = true ∧
    s.fwServes 3 = true ∧ s.lan.cmis = some v ∧ fget F.LAN_CMIS_CMD_WR v = 0 ∧ 0 < d.length ∧ swf regReset s.regs = true)) &&
  (let s : State := wit0; let s : State := { s with lan.cmis := none }; decide (s.lan.cmis = none)) &&
  (let a : BitVec 8 := 0; let x : Byte := 1; let s : State := wit0; decide (s.up = true ∧ x ≠ 0 ∧ cmisFault a.toNat = false))) = true := by decide +kernel

/-- Of `Obligations.SwitchCommands`. -/
theorem test_hypotheses_SwitchCommands : (
  (let i : Option (Fin 14) := none; let m : TMsg := wTMsg; let s : State := wit0; decide (s.up = true ∧ s.behind (i.map (·.val)) m = false ∧
    s.expelled m.origin = false ∧ m.dst = s.node ∧ (match m with | .req r => tampable r | _ => false) = false)) &&
  (let i : Option (Fin 14) := none; let r : Req := { wReq with cls := 3, opc := 4 }; let s : State := wit0; decide (s.up = true ∧
    s.behind (i.map (·.val)) (.req r) = false ∧ s.expelled (agentNode r.src) = false ∧ r.dst = s.node ∧ tampable r = true ∧ s.contributes r = false ∧
    s.outq homeQ = [])) &&
  (let i : Fin 14 := 0; let m : TMsg := wTMsg; let s : State := wit0; let s : State := State.wr s Reg.FLT_EXP_LO 1; decide (s.up = true ∧
    s.behind (some i.val) m = false ∧ m.probation = false ∧ (s.expelled m.origin = true ∨ (s.expelled m.dst = true ∧ m.dst ≠ s.node)))) &&
  (let i : Option (Fin 14) := none; let m : TMsg := .snp { wSnp with dst := 1 }; let s : State := wit0;
    let s : State := s.setF (F.LAN_P_STAT_STATE 0) pUp; let s : State := s.setF (F.FLT_PORT_HB_DOWN 0) 0; let a : Nat := (s.axis m.dst).getD 0;
    let p : Nat := (s.leave (i.map (·.val)) m a).1; let vc : Nat := (s.leave (i.map (·.val)) m a).2.1;
    let m' : TMsg := (s.leave (i.map (·.val)) m a).2.2; decide (s.up = true ∧ s.behind (i.map (·.val)) m = false ∧ s.expelled m.origin = false ∧
    s.expelled m.dst = false ∧ m.way.esc = false ∧ s.axis m.dst = some a ∧ s.leave (i.map (·.val)) m a = (p, vc, m') ∧ s.portDown p = false)) &&
  (let i : Option (Fin 14) := none; let m : Snp := { wSnp with dst := 1 }; let s : State := wit0; let s : State := s.setF (F.LAN_P_STAT_STATE 0) pUp;
    let s : State := s.setF (F.FLT_PORT_HB_DOWN 0) 0; let a : Nat := (s.axis m.dst).getD 0; let p : Nat := (s.leave (i.map (·.val)) (.snp m) a).1;
    let vc : Nat := (s.leave (i.map (·.val)) (.snp m) a).2.1; let m' : TMsg := (s.leave (i.map (·.val)) (.snp m) a).2.2; decide (s.up = true ∧
    s.behind (i.map (·.val)) (.snp m) = false ∧ s.expelled (TMsg.snp m).origin = false ∧ s.expelled m.dst = false ∧ m.way.esc = false ∧
    s.axis m.dst = some a ∧ s.leave (i.map (·.val)) (.snp m) a = (p, vc, m') ∧ s.portDown p = false)) &&
  (let i : Option (Fin 14) := none; let m : TMsg := .snp { wSnp with dst := 1, way := ⟨0, 0, false, true⟩ }; let s : State := wit0;
    let s : State := State.setF s (F.SWC_ESC_VALID m.dst.toNat) 0; decide (s.up = true ∧ s.behind (i.map (·.val)) m = false ∧
    s.expelled m.origin = false ∧ s.expelled m.dst = false ∧ m.dst ≠ s.node ∧ m.way.esc = true ∧ s.on (F.SWC_ESC_VALID m.dst.toNat) = false)) &&
  (let i : Option (Fin 14) := none; let m : TMsg := wTMsg; let s : State := wit0; let s : State := { s with swc.hold := [(i.map (·.val), m)] };
    let s : State := { s with swc.stopped := [] }; decide (s.swc.hold = [(i.map (·.val), m)] ∧ s.swc.stopped = [])) &&
  (let i : Option (Fin 14) := none; let m : Snp := { wSnp with dst := 1 }; let s : State := wit0; let s : State := s.setF (F.LAN_P_STAT_STATE 0) pUp;
    let s : State := s.setF (F.FLT_PORT_HB_DOWN 0) 0; let s : State := { s with swc.hold := [(i.map (·.val), .snp m)] };
    let s : State := { s with swc.stopped := [] }; let a : Nat := (s.axis m.dst).getD 0; let p : Nat := (s.leave (i.map (·.val)) (.snp m) a).1;
    let vc : Nat := (s.leave (i.map (·.val)) (.snp m) a).2.1; let m' : TMsg := (s.leave (i.map (·.val)) (.snp m) a).2.2; decide (s.up = true ∧
    s.swc.hold = [(i.map (·.val), .snp m)] ∧ s.swc.stopped = [] ∧ s.expelled (TMsg.snp m).origin = false ∧ s.expelled m.dst = false ∧
    m.way.esc = false ∧ s.axis m.dst = some a ∧ s.leave (i.map (·.val)) (.snp m) a = (p, vc, m') ∧ s.portDown p = false)) &&
  (let s : State := wit0; let s : State := { s with swc.hold := [] }; let s : State := { s with swc.stopped := [] }; decide (s.swc.hold = [] ∧
    s.swc.stopped = [])) &&
  (let s : State := wit0; decide (s.takes = true ∧ swf regReset s.eff = true))) = true := by decide +kernel

/-- Of `Obligations.EthernetPorts`. -/
theorem test_hypotheses_EthernetPorts : (
  (let e : Fin 4 := 0; let s : State := wit0; let s : State := State.setF s (F.ETH_P_CTL_EN e.val) 1;
    let s : State := State.setF s (F.ETH_P_STAT_UP e.val) 0; let s : State := { s with eth.chans := [] }; decide (s.up = true ∧
    s.on (F.ETH_P_CTL_EN e.val) = true ∧ s.on (F.ETH_P_STAT_UP e.val) = false ∧ s.eth.chans = [])) &&
  (let e : Fin 4 := 0; let s : State := wit0; let s : State := State.setF s (F.ETH_P_STAT_UP e.val) 1; decide (s.up = true ∧
    s.on (F.ETH_P_STAT_UP e.val) = true)) &&
  (let e : Fin 4 := 0; let b : Bool := false; let s : State := wit0; decide (s.on (F.ETH_P_STAT_UP e.val) = (b && s.on (F.ETH_P_CTL_EN e.val)))) &&
  (let e : Fin 4 := 0; let s : State := wit0; let s : State := State.setF s (F.ETH_P_STAT_UP e.val) 1; decide (s.up = true ∧
    s.on (F.ETH_P_STAT_UP e.val) = true)) &&
  (let e : Fin 4 := 0; let b : Bytes := []; let s : State := wit0; let s : State := State.setF s (F.ETH_P_STAT_UP e.val) 1;
    let s : State := s.setF (F.ETH_RED_MAX 0) 1; let s : State := s.setF (F.ETH_RED_MIN 0) 1; decide (s.up = true ∧
    s.on (F.ETH_P_STAT_UP e.val) = true ∧ s.ethQ e.val = ⟨0, 0⟩ ∧ 0 < (s.f (F.ETH_RED_MIN 0)).toNat ∧ 0 < (s.f (F.ETH_RED_MAX 0)).toNat ∧
    b.length ≤ 8192)) &&
  (let e : Fin 4 := 0; let b : BitVec 128 := 1; let s : State := wit0; let s : State := State.setF s (F.ETH_P_STAT_UP e.val) 1; decide (s.up = true ∧
    s.on (F.ETH_P_STAT_UP e.val) = true ∧ b ≠ s.ethIp e.val)) &&
  (let e : Fin 4 := 0; let s : State := wit0; let s : State := State.setF s (F.ETH_P_STAT_UP e.val) 1; decide (s.up = true ∧
    s.on (F.ETH_P_STAT_UP e.val) = true ∧ swf regReset s.regs = true)) &&
  (let e : Fin 4 := 0; let s : State := wit0; let s : State := State.setF s (F.ETH_P_STAT_UP e.val) 0; decide (s.on (F.ETH_P_STAT_UP e.val) = false))) = true := by decide +kernel

/-- Of `Obligations.SpillSending`. -/
theorem test_hypotheses_SpillSending : (
  (let s : State := wit0; decide (s.takes = true)) &&
  (let b : Bytes := []; let c : BitVec 8 := 0; let s : State := wit0;
    let s : State := State.setF (State.setF s F.ETH_CTL_EN 1) (F.ETH_CH_CFG_EN c.toNat) 1;
    let s : State := State.setF s (F.ETH_CH_STAT_ERR c.toNat) (0); let s : State := s.setCh 0 { s.ch 0 with sqTail := 1 }; decide (s.up = true ∧
    s.chOn c.toNat = true ∧ s.f (F.ETH_CH_STAT_ERR c.toNat) = 0 ∧
    (s.ch c.toNat).sqNext ≠ ringIx (s.f (F.ETH_CH_SQ_LO_LOG2_SIZE c.toNat)) (s.ch c.toNat).sqTail ∧ recordBad (words64 8 b) = true)) &&
  (let c : BitVec 8 := 0; let s : State := wit0;
    decide ((s.chOn c.toNat = false ∨ s.f (F.ETH_CH_STAT_ERR c.toNat) ≠ 0 ∨ (s.ch c.toNat).sqNext = ringIx (s.f (F.ETH_CH_SQ_LO_LOG2_SIZE c.toNat)) (s.ch c.toNat).sqTail))) &&
  (let b : Bytes := natLe 64 2; let c : BitVec 8 := 0; let s : State := wit0;
    let s : State := State.setF (State.setF s F.ETH_CTL_EN 1) (F.ETH_CH_CFG_EN c.toNat) 1;
    let s : State := State.setF s (F.ETH_CH_STAT_ERR c.toNat) (0); let s : State := State.setF s (F.ETH_P_STAT_UP (s.chPort c.toNat)) 0;
    let s : State := { s with pwr.pcieUp := true }; let s : State := s.setCh 0 { s.ch 0 with sqTail := 1 };
    let w (i : Nat) : R64 := (words64 8 b).getD i 0; decide (s.up = true ∧ s.chOn c.toNat = true ∧ s.f (F.ETH_CH_STAT_ERR c.toNat) = 0 ∧
    (s.ch c.toNat).sqNext ≠ ringIx (s.f (F.ETH_CH_SQ_LO_LOG2_SIZE c.toNat)) (s.ch c.toNat).sqTail ∧ recordBad (words64 8 b) = false ∧
    s.on (F.ETH_P_STAT_UP (s.chPort c.toNat)) = false ∧ s.pwr.pcieUp = true ∧ swf chan0 s.eth.chans = true ∧ w64 (w 0) 7 0 = 2)) &&
  (let b : Bytes := natLe 64 1; let c : BitVec 8 := 0; let s : State := wit0;
    let s : State := State.setF (State.setF s F.ETH_CTL_EN 1) (F.ETH_CH_CFG_EN c.toNat) 1;
    let s : State := State.setF s (F.ETH_CH_STAT_ERR c.toNat) (0); let s : State := State.setF s (F.ETH_P_STAT_UP (s.chPort c.toNat)) 0;
    let s : State := { s with pwr.pcieUp := true }; let s : State := s.setCh 0 { s.ch 0 with sqTail := 1 };
    let w (i : Nat) : R64 := (words64 8 b).getD i 0; let n := w64 (w 5) 31 0; decide (s.up = true ∧ s.chOn c.toNat = true ∧
    s.f (F.ETH_CH_STAT_ERR c.toNat) = 0 ∧ (s.ch c.toNat).sqNext ≠ ringIx (s.f (F.ETH_CH_SQ_LO_LOG2_SIZE c.toNat)) (s.ch c.toNat).sqTail ∧
    recordBad (words64 8 b) = false ∧ s.on (F.ETH_P_STAT_UP (s.chPort c.toNat)) = false ∧ s.pwr.pcieUp = true ∧ swf chan0 s.eth.chans = true ∧
    w64 (w 0) 7 0 = 1 ∧ n = 0)) &&
  (let b : Bytes := natLe 64 3; let c : BitVec 8 := 0; let s : State := wit0;
    let s : State := State.setF (State.setF s F.ETH_CTL_EN 1) (F.ETH_CH_CFG_EN c.toNat) 1;
    let s : State := State.setF s (F.ETH_CH_STAT_ERR c.toNat) (0); let s : State := State.setF s (F.ETH_P_STAT_UP (s.chPort c.toNat)) 0;
    let s : State := { s with pwr.pcieUp := true }; let s : State := s.setCh 0 { s.ch 0 with sqTail := 1 };
    let w (i : Nat) : R64 := (words64 8 b).getD i 0; let n := w64 (w 5) 31 0; decide (s.up = true ∧ s.chOn c.toNat = true ∧
    s.f (F.ETH_CH_STAT_ERR c.toNat) = 0 ∧ (s.ch c.toNat).sqNext ≠ ringIx (s.f (F.ETH_CH_SQ_LO_LOG2_SIZE c.toNat)) (s.ch c.toNat).sqTail ∧
    recordBad (words64 8 b) = false ∧ s.on (F.ETH_P_STAT_UP (s.chPort c.toNat)) = false ∧ s.pwr.pcieUp = true ∧ swf chan0 s.eth.chans = true ∧
    w64 (w 0) 7 0 = 3 ∧ n = 0)) &&
  (let c : BitVec 8 := 0; let s : State := wit0; let s : State := State.setF (State.setF s F.ETH_CTL_EN 1) (F.ETH_CH_CFG_EN c.toNat) 1;
    let s : State := s.setCh 0 { s.ch 0 with since := 1 }; decide (s.up = true ∧ s.chOn c.toNat = true ∧ 0 < (s.ch c.toNat).since)) &&
  (let c : BitVec 8 := 0; let s : State := wit0; decide ((s.ch c.toNat).since = 0 ∨ s.chOn c.toNat = false)) &&
  (let n : R32 := 0; let x : TxPkt := wTxPkt; let c : BitVec 8 := 0; let s : State := wit0; let x : TxPkt := { x with pkt.psn := n };
    let x : TxPkt := { x with uncounted := false }; let s : State := State.setF (State.setF s F.ETH_CTL_EN 1) (F.ETH_CH_CFG_EN c.toNat) 1;
    let s : State := State.setF s (F.ETH_P_STAT_UP (s.chPort c.toNat)) 1;
    let s : State := State.setCh s c.toNat { State.ch s c.toNat with unacked := [x] }; let s : State := wNow s 10000000; decide (s.up = true ∧
    s.chOn c.toNat = true ∧ s.on (F.ETH_P_STAT_UP (s.chPort c.toNat)) = true ∧ (s.ch c.toNat).unacked = [x] ∧ x.pkt.psn = n ∧
    s.rto x ≤ s.now.toNat - x.sentAt.toNat ∧ x.uncounted = false ∧ x.tries < max 1 (s.f F.ETH_RTO_RETRIES).toNat)) &&
  (let n : R32 := 0; let x : TxPkt := { wTxPkt with tries := 100 }; let c : BitVec 8 := 0; let s : State := wit0;
    let s : State := State.setF (State.setF s F.ETH_CTL_EN 1) (F.ETH_CH_CFG_EN c.toNat) 1;
    let s : State := State.setF s (F.ETH_P_STAT_UP (s.chPort c.toNat)) 1;
    let s : State := State.setCh s c.toNat { State.ch s c.toNat with unacked := [x] }; let s : State := wNow s 10000000; decide (s.up = true ∧
    s.chOn c.toNat = true ∧ s.on (F.ETH_P_STAT_UP (s.chPort c.toNat)) = true ∧ (s.ch c.toNat).unacked = [x] ∧ x.pkt.psn = n ∧
    s.rto x ≤ s.now.toNat - x.sentAt.toNat ∧ x.uncounted = false ∧ max 1 (s.f F.ETH_RTO_RETRIES).toNat ≤ x.tries)) &&
  (let n : R32 := 0; let c : BitVec 8 := 0; let s : State := wit0;
    decide (((s.ch c.toNat).unacked).all (fun x => decide (x.pkt.psn = n → s.now.toNat - x.sentAt.toNat < s.rto x)) = true)) &&
  (let c : BitVec 8 := 0; let s : State := wit0; let s : State := State.setCh s c.toNat { State.ch s c.toNat with txq := [] };
    let s : State := wNow s 16000; decide (s.up = true ∧ 16000 ≤ s.now.toNat - (s.ch c.toNat).lastEce.toNat ∧ (s.ch c.toNat).txq = [] ∧
    swf chan0 s.eth.chans = true)) &&
  (let c : BitVec 8 := 0; let s : State := wit0; decide (s.now.toNat - (s.ch c.toNat).lastEce.toNat < 16000))) = true := by decide +kernel

/-- Of `Obligations.SpillReceiving`. -/
theorem test_hypotheses_SpillReceiving : (
  (let p : Spill := wSpill; let s : State := wit0; decide ((p.ver ≠ 1 ∨ s.on F.ETH_CTL_EN = false))) &&
  (let e : Fin 4 := 0; let p : Spill := wSpill; let s : State := wit0; let p : Spill := { p with ver := 1 };
    let s : State := State.setF s F.ETH_CTL_EN 1; decide (s.up = true ∧ p.ver = 1 ∧ s.on F.ETH_CTL_EN = true ∧
    (s.chOn p.dstCh.toNat = false ∨ s.chPort p.dstCh.toNat ≠ e.val))) &&
  (let e : Fin 4 := 0; let p : Spill := { wSpill with psn := 2 ^ 31 }; let s : State := wit0;
    let s : State := State.setF (State.setF s F.ETH_CTL_EN 1) (F.ETH_CH_CFG_EN p.dstCh.toNat) 1; decide (s.up = true ∧ p.ver = 1 ∧
    s.chOn p.dstCh.toNat = true ∧ s.chPort p.dstCh.toNat = e.val ∧ 2 ^ 31 ≤ (p.psn - (s.ch p.dstCh.toNat).ackPsn).toNat)) &&
  (let e : Fin 4 := 0; let p : Spill := wSpill; let s : State := wit0; let p : Spill := { p with ver := 1 };
    let s : State := State.setF (State.setF s F.ETH_CTL_EN 1) (F.ETH_CH_CFG_EN p.dstCh.toNat) 1; decide (s.up = true ∧ p.ver = 1 ∧
    s.chOn p.dstCh.toNat = true ∧ s.chPort p.dstCh.toNat = e.val ∧ (p.psn - (s.ch p.dstCh.toNat).ackPsn).toNat < 4096 ∧
    (s.ch p.dstCh.toNat).got.contains p.psn = false ∧
    s.winHas p.dstCh.toNat (s.on (F.ETH_CH_WIN_LEN_W p.dstCh.toNat)) p.offset.toNat p.payload.length = false)) &&
  (let e : Fin 4 := 0; let p : Spill := { wSpill with first := true, last := true }; let s : State := wit0;
    let s : State := State.setF (State.setF s F.ETH_CTL_EN 1) (F.ETH_CH_CFG_EN p.dstCh.toNat) 1;
    let s : State := State.setCh s p.dstCh.toNat { State.ch s p.dstCh.toNat with got := [] };
    let s : State := State.setCh s p.dstCh.toNat { State.ch s p.dstCh.toNat with msgs := [] };
    let s : State := (((s.setF (F.ETH_CH_WIN_LEN_W 0) 1).setF (F.ETH_CH_WIN_LEN_VALID 0) 1)); decide (s.up = true ∧ p.ver = 1 ∧
    s.chOn p.dstCh.toNat = true ∧ s.chPort p.dstCh.toNat = e.val ∧ p.psn = (s.ch p.dstCh.toNat).ackPsn ∧ (s.ch p.dstCh.toNat).got = [] ∧
    (s.ch p.dstCh.toNat).msgs = [] ∧ (s.ch p.dstCh.toNat).since < 15 ∧
    s.winHas p.dstCh.toNat (s.on (F.ETH_CH_WIN_LEN_W p.dstCh.toNat)) p.offset.toNat 0 = true ∧ p.payload = [] ∧ p.first = true ∧ p.last = true ∧
    p.immEn = false ∧ swf chan0 s.eth.chans = true)) &&
  (let e : Fin 4 := 0; let p : Spill := wSpill; let s : State := wit0; let p : Spill := { p with ver := 1 };
    let p : Spill := { p with psn := (s.ch p.dstCh.toNat).ackPsn }; let p : Spill := { p with nak := 0 }; let p : Spill := { p with len24 := 0 };
    let s : State := State.setF (State.setF s F.ETH_CTL_EN 1) (F.ETH_CH_CFG_EN p.dstCh.toNat) 1;
    let s : State := State.setCh s p.dstCh.toNat { State.ch s p.dstCh.toNat with got := [] };
    let s : State := State.setCh s p.dstCh.toNat { State.ch s p.dstCh.toNat with txq := [] };
    let s : State := State.setF s (F.ETH_P_STAT_UP e.val) 0;
    let s : State := (((s.setF (F.ETH_CH_WIN_LEN_R 0) 1).setF (F.ETH_CH_WIN_LEN_VALID 0) 1)); decide (s.up = true ∧ p.ver = 1 ∧
    s.chOn p.dstCh.toNat = true ∧ s.chPort p.dstCh.toNat = e.val ∧ p.psn = (s.ch p.dstCh.toNat).ackPsn ∧ (s.ch p.dstCh.toNat).got = [] ∧
    (s.ch p.dstCh.toNat).since < 15 ∧ (s.ch p.dstCh.toNat).txq = [] ∧ s.on (F.ETH_P_STAT_UP e.val) = false ∧
    s.winHas p.dstCh.toNat (s.on (F.ETH_CH_WIN_LEN_R p.dstCh.toNat)) p.offset.toNat 0 = true ∧ p.nak = 0 ∧ p.len24 = 0 ∧
    swf chan0 s.eth.chans = true)) &&
  (let e : Fin 4 := 0; let p : Spill := wSpill; let s : State := wit0; let p : Spill := { p with ver := 1 };
    let s : State := State.setF (State.setF s F.ETH_CTL_EN 1) (F.ETH_CH_CFG_EN p.dstCh.toNat) 1; decide (s.up = true ∧ p.ver = 1 ∧
    s.chOn p.dstCh.toNat = true ∧ s.chPort p.dstCh.toNat = e.val ∧ (p.psn - (s.ch p.dstCh.toNat).ackPsn).toNat < 4096 ∧
    (s.ch p.dstCh.toNat).got.contains p.psn = false ∧
    s.winHas p.dstCh.toNat (s.on (F.ETH_CH_WIN_LEN_R p.dstCh.toNat)) p.offset.toNat (p.nak.toNat * 2 ^ 24 + p.len24.toNat) = false)) &&
  (let e : Fin 4 := 0; let p : Spill := wSpill; let r : SRec := { wSRec with words := [2] }; let s : State := wit0;
    let p : Spill := { p with ver := 1 }; let p : Spill := { p with payload := [] };
    let s : State := State.setF (State.setF s F.ETH_CTL_EN 1) (F.ETH_CH_CFG_EN p.dstCh.toNat) 1;
    let s : State := s.setCh 0 { s.ch 0 with recs := [r] }; decide (s.up = true ∧ p.ver = 1 ∧ s.chOn p.dstCh.toNat = true ∧
    s.chPort p.dstCh.toNat = e.val ∧ (p.psn - (s.ch p.dstCh.toNat).ackPsn).toNat < 4096 ∧ (s.ch p.dstCh.toNat).got.contains p.psn = false ∧
    s.recOf p.dstCh.toNat p.msg = some r ∧ r.op = 2 ∧ r.left = 0 ∧ p.payload = [])) &&
  (let e : Fin 4 := 0; let p : Spill := wSpill; let l : List Resp := []; let r : SRec := { wSRec with words := [2], left := 1 };
    let s : State := wit0; let p : Spill := { p with ver := 1 };
    let s : State := State.setF (State.setF s F.ETH_CTL_EN 1) (F.ETH_CH_CFG_EN p.dstCh.toNat) 1;
    let s : State := s.setCh 0 { s.ch 0 with recs := [r] };
    let i := (s.spillIo p.dstCh.toNat l).writeW 3 ((r.w 3).toNat + (p.offset.toNat - (r.w 4).toNat)) p.payload; decide (s.up = true ∧ p.ver = 1 ∧
    s.chOn p.dstCh.toNat = true ∧ s.chPort p.dstCh.toNat = e.val ∧ (p.psn - (s.ch p.dstCh.toNat).ackPsn).toNat < 4096 ∧
    (s.ch p.dstCh.toNat).got.contains p.psn = false ∧ s.recOf p.dstCh.toNat p.msg = some r ∧ r.op = 2 ∧ i.err = none ∧ i.pause = none ∧
    p.payload.length < r.left)) &&
  (let e : Fin 4 := 0; let p : Spill := wSpill; let s : State := wit0; let p : Spill := { p with ver := 1 };
    let s : State := State.setF (State.setF s F.ETH_CTL_EN 1) (F.ETH_CH_CFG_EN p.dstCh.toNat) 1;
    let s : State := State.setCh s p.dstCh.toNat { State.ch s p.dstCh.toNat with rqNext := ringIx (s.f (F.ETH_CH_RQ_LO_LOG2_SIZE p.dstCh.toNat)) (s.ch p.dstCh.toNat).rqTail };
    decide (s.up = true ∧ p.ver = 1 ∧ s.chOn p.dstCh.toNat = true ∧ s.chPort p.dstCh.toNat = e.val ∧
    (p.psn - (s.ch p.dstCh.toNat).ackPsn).toNat < 4096 ∧ (s.ch p.dstCh.toNat).got.contains p.psn = false ∧ s.rmsg p.dstCh.toNat p = none ∧
    (s.ch p.dstCh.toNat).rqNext = ringIx (s.f (F.ETH_CH_RQ_LO_LOG2_SIZE p.dstCh.toNat)) (s.ch p.dstCh.toNat).rqTail)) &&
  (let e : Fin 4 := 0; let p : Spill := { wSpill with first := true }; let s : State := wit0;
    let s : State := State.setF (State.setF s F.ETH_CTL_EN 1) (F.ETH_CH_CFG_EN p.dstCh.toNat) 1;
    let s : State := State.setCh s p.dstCh.toNat { State.ch s p.dstCh.toNat with got := [] };
    let s : State := State.setCh s p.dstCh.toNat { State.ch s p.dstCh.toNat with msgs := [] }; let s : State := { s with pwr.pcieUp := true };
    let s : State := s.setCh 0 { s.ch 0 with rqTail := 1 }; decide (s.up = true ∧ p.ver = 1 ∧ s.chOn p.dstCh.toNat = true ∧
    s.chPort p.dstCh.toNat = e.val ∧ p.psn = (s.ch p.dstCh.toNat).ackPsn ∧ (s.ch p.dstCh.toNat).got = [] ∧ (s.ch p.dstCh.toNat).since < 15 ∧
    (s.ch p.dstCh.toNat).msgs = [] ∧
    (s.ch p.dstCh.toNat).rqNext ≠ ringIx (s.f (F.ETH_CH_RQ_LO_LOG2_SIZE p.dstCh.toNat)) (s.ch p.dstCh.toNat).rqTail ∧ s.pwr.pcieUp = true ∧
    p.first = true ∧ p.last = false ∧ p.offset = 0 ∧ p.payload = [] ∧ swf chan0 s.eth.chans = true)) &&
  (let e : Fin 4 := 0; let p : Spill := { wSpill with ackPsn := 1 }; let x : TxPkt := { wTxPkt with pkt := { wSpill with kind := 1 } };
    let r : SRec := { wSRec with left := 2 }; let s : State := wit0;
    let s : State := State.setF (State.setF s F.ETH_CTL_EN 1) (F.ETH_CH_CFG_EN p.dstCh.toNat) 1;
    let s : State := State.setCh s p.dstCh.toNat { State.ch s p.dstCh.toNat with unacked := [x] };
    let s : State := State.setCh s p.dstCh.toNat { State.ch s p.dstCh.toNat with txq := [] };
    let s : State := s.setCh 0 { s.ch 0 with recs := [r], unacked := [x] }; decide (s.up = true ∧ p.ver = 1 ∧ s.chOn p.dstCh.toNat = true ∧
    s.chPort p.dstCh.toNat = e.val ∧ (s.ch p.dstCh.toNat).unacked = [x] ∧ (s.ch p.dstCh.toNat).txq = [] ∧ ackShows p x.pkt.psn = true ∧
    (x.pkt.kind = 1 ∨ x.pkt.kind = 4) ∧ s.recOf p.dstCh.toNat x.pkt.msg = some r ∧ p.ece = false ∧ 1 < r.left ∧ swf chan0 s.eth.chans = true)) &&
  (let e : Fin 4 := 0; let p : Spill := wSpill; let s : State := wit0;
    decide ((p.ver ≠ 1 ∨ s.chOn p.dstCh.toNat = false ∨ s.chPort p.dstCh.toNat ≠ e.val))) &&
  (let e : Fin 4 := 0; let p : Spill := { wSpill with nak := 1 }; let st : Status := stRights; let s : State := wit0;
    let s : State := State.setF (State.setF s F.ETH_CTL_EN 1) (F.ETH_CH_CFG_EN p.dstCh.toNat) 1;
    let s : State := State.setCh s p.dstCh.toNat { State.ch s p.dstCh.toNat with unacked := [] }; decide (s.up = true ∧ p.ver = 1 ∧
    s.chOn p.dstCh.toNat = true ∧ s.chPort p.dstCh.toNat = e.val ∧ (s.ch p.dstCh.toNat).unacked = [] ∧ swf chan0 s.eth.chans = true ∧
    (st = stRights ∧ (p.nak = 1 ∨ p.nak = 4)) ∨ (st = stTargetLost ∧ p.nak = 3)))) = true := by decide +kernel

/-- Of `Obligations.SecurityCommands`. -/
theorem test_hypotheses_SecurityCommands : (
  (let s : State := wit0; let s : State := State.setF s F.SEC_RES_BUSY 0; let s : State := State.setF s F.SEC_STAT_ID_OK 1; decide (s.takes = true ∧
    s.on F.SEC_RES_BUSY = false ∧ s.on F.SEC_STAT_ID_OK = true ∧ swf regReset s.regs = true ∧ swf sess0 s.sec.sess = true)) &&
  (let s : State := wit0; let s : State := State.setF s F.SEC_RES_BUSY 0; let s : State := State.setF s F.SEC_STAT_ID_OK 0; decide (s.takes = true ∧
    s.on F.SEC_RES_BUSY = false ∧ s.on F.SEC_STAT_ID_OK = false)) &&
  (let i : BitVec 4 := 0; let s : State := wit0; let s : State := State.setF s F.SEC_RES_BUSY 0;
    let s : State := State.setSess s i.toNat { State.sess s i.toNat with st := .reported }; decide (s.takes = true ∧ s.on F.SEC_RES_BUSY = false ∧
    (s.sess i.toNat).st = .reported ∧ swf regReset s.regs = true ∧ swf sess0 s.sec.sess = true)) &&
  (let i : BitVec 4 := 0; let s : State := wit0; let s : State := State.setF s F.SEC_RES_BUSY 0; decide (s.takes = true ∧
    s.on F.SEC_RES_BUSY = false ∧ (s.sess i.toNat).st ≠ .reported)) &&
  (let i : BitVec 4 := 0; let s : State := wit0; let s : State := State.setF s F.SEC_RES_BUSY 0; decide (s.takes = true ∧
    s.on F.SEC_RES_BUSY = false ∧ (s.sess i.toNat).st ≠ .opened)) &&
  (let i : BitVec 4 := 0; let s : State := wit0; let s : State := State.setF s F.SEC_RES_BUSY 0;
    let s : State := State.setSess s i.toNat { State.sess s i.toNat with st := .opened }; decide (s.takes = true ∧ s.on F.SEC_RES_BUSY = false ∧
    (s.sess i.toNat).st = .opened)) &&
  (let i : BitVec 4 := 0; let w : Nat := 2 ^ 60; let c : Nat := 1; let s : State := wit0; let s : State := State.setF s F.SEC_RES_BUSY 0;
    let s : State := State.setSess s i.toNat { State.sess s i.toNat with st := .opened };
    let s : State := { s with mems := { s.mems with cmdwin := Mem.wrN s.mems.cmdwin 0 (natLe 8 (2 ^ 60) ++ natLe 8 1) } }; decide (s.takes = true ∧
    s.on F.SEC_RES_BUSY = false ∧ (s.sess i.toNat).st = .opened ∧ leNat ((Mem.rdN s.mems.cmdwin 0 16).take 8) = w ∧
    leNat ((Mem.rdN s.mems.cmdwin 0 16).drop 8) = c ∧ bitsAt w 60 4 = 1 ∧ bitsAt w 0 45 = 0 ∧
    (s.sess i.toNat).counter.all (fun n => decide (n.toNat < c)) = true ∧ s.genInUse (fieldAt 10 w 50) (bitAt w 49) = false ∧
    swf regReset s.regs = true ∧ swf noKey s.sec.keys = true ∧ swf sess0 s.sec.sess = true)) &&
  (let w : Nat := 0; let s : State := wit0; let s : State := State.setF s F.SEC_RES_BUSY 0; decide (s.takes = true ∧ s.on F.SEC_RES_BUSY = false ∧
    leNat ((Mem.rdN s.mems.cmdwin 0 16).take 8) = w ∧ (bitsAt w 60 4 ≠ 1 ∧ bitsAt w 60 4 ≠ 2) ∨ bitsAt w 0 45 ≠ 0)) &&
  (let g : BitVec 10 := 0; let b : Bool := false; let s : State := wit0; let s : State := State.setF s F.SEC_RES_BUSY 0; decide (s.takes = true ∧
    s.on F.SEC_RES_BUSY = false ∧ s.genInUse g b = false ∧ swf noKey s.sec.keys = true ∧ swf regReset s.regs = true)) &&
  (let g : BitVec 10 := 0; let b : Bool := false; let s : State := wit0; let s : State := State.setF s F.SEC_RES_BUSY 0;
    let s : State := wExt s 0 0 1 0 1 (2 ^ 52); decide (s.takes = true ∧ s.on F.SEC_RES_BUSY = false ∧ s.genInUse g b = true)) &&
  (let p : BitVec 4 := 0; let s : State := wit0; let s : State := State.setF s F.SEC_RES_BUSY 0; decide (s.takes = true ∧
    s.on F.SEC_RES_BUSY = false ∧ p.toNat ≤ 13)) &&
  (let k : BitVec 2 := 2; let p : BitVec 4 := 0; let s : State := wit0; let s : State := State.setF s F.SEC_RES_BUSY 0; decide (s.takes = true ∧
    s.on F.SEC_RES_BUSY = false ∧ (1 < k.toNat ∨ (k = 1 ∧ 13 < p.toNat)))) &&
  (let p : BitVec 4 := 14; let s : State := wit0; let s : State := State.setF s F.SEC_RES_BUSY 0; decide (s.takes = true ∧
    s.on F.SEC_RES_BUSY = false ∧ 13 < p.toNat)) &&
  (let p : BitVec 4 := 0; let s : State := wit0; let s : State := State.setF s F.SEC_RES_BUSY 0;
    let s : State := State.setF s (F.LAN_P_STAT_ENC_ON p.toNat) 1; decide (s.takes = true ∧ s.on F.SEC_RES_BUSY = false ∧ p.toNat ≤ 13 ∧
    s.on (F.LAN_P_STAT_ENC_ON p.toNat) = true)) &&
  (let p : BitVec 4 := 0; let s : State := wit0; let s : State := State.setF s F.SEC_RES_BUSY 0;
    let s : State := State.setF s (F.LAN_P_STAT_ENC_ON p.toNat) 0; decide (s.takes = true ∧ s.on F.SEC_RES_BUSY = false ∧ p.toNat ≤ 13 ∧
    s.on (F.LAN_P_STAT_ENC_ON p.toNat) = false)) &&
  (let s : State := wit0; let s : State := State.setF s F.SEC_RES_BUSY 1; decide (s.on F.SEC_RES_BUSY = true)) &&
  (let c : SecCmd := wSecCmd; let s : State := wit0; let s : State := { s with sec.cmd := some c }; decide (s.up = true ∧ s.fwServes 0 = true ∧
    s.sec.cmd = some c ∧ swf regReset s.regs = true)) &&
  (let s : State := wit0; decide ((s.sec.cmd = none ∨ s.fwServes 0 = false))) &&
  (let i : BitVec 4 := 0; let s : State := wit0; let s : State := State.setSess s i.toNat { State.sess s i.toNat with st := .reported };
    let s : State := wNow s 2500000000; decide (s.up = true ∧ (s.sess i.toNat).st = .reported ∧
    2500000000 ≤ s.now.toNat - (s.sess i.toNat).at_.toNat)) &&
  (let i : BitVec 4 := 0; let s : State := wit0; decide ((s.sess i.toNat).st ≠ .reported ∨ s.now.toNat - (s.sess i.toNat).at_.toNat < 2500000000))) = true := by decide +kernel

/-- Of `Obligations.Alarms`. -/
theorem test_hypotheses_Alarms : (
  (let k : BitVec 3 := 0; let s : State := wit0; decide (s.up = true ∧ k.toNat < 5 ∧ s.alarmLevel k.toNat < 2 ∧ swf regReset s.regs = true)) &&
  (let k : BitVec 3 := 0; let s : State := wit0; let s : State := { s with sec.cmd := none };
    let s : State := State.setF s F.FWM_STAT_HSTATE (hIdle); let s : State := s.nodeClay 0xD0 3; decide (s.up = true ∧ k.toNat < 5 ∧
    s.alarmLevel k.toNat = 3 ∧ s.sec.cmd = none ∧ s.hstate = hIdle)) &&
  (let k : BitVec 3 := 0; let s : State := wit0; let s : State := { s with sec.cmd := none };
    let s : State := State.setF s F.FWM_STAT_HSTATE (hIdle); let s : State := s.nodeClay 0xD0 2; decide (s.up = true ∧ k.toNat < 5 ∧
    s.alarmLevel k.toNat = 2 ∧ s.sec.cmd = none ∧ s.hstate = hIdle ∧ swf sess0 s.sec.sess = true ∧ swf noSeed s.sec.seeds = true ∧
    swf noSeed s.sec.newSeeds = true)) &&
  (let k : BitVec 3 := 5; decide (5 ≤ k.toNat)) &&
  (let s : State := wit0; let s : State := { s with sec.level3 := true }; decide (s.up = true ∧ s.sec.level3 = true ∧ swf sess0 s.sec.sess = true ∧
    swf noSeed s.sec.seeds = true ∧ swf noSeed s.sec.newSeeds = true)) &&
  (let s : State := wit0; let s : State := { s with sec.level3 := false }; decide (s.sec.level3 = false)) &&
  (let v : R32 := 0x80000000; let s : State := wit0; let s : State := State.setF s F.SEC_ALARM_STAT_LATCH 1; decide (s.takes = true ∧
    v.getLsbD 31 = true ∧ s.on F.SEC_ALARM_STAT_LATCH = true ∧ swf regReset s.regs = true ∧ swf clayMfg s.clay.k0 = true ∧
    swf clayMfg s.clay.k1 = true)) &&
  (let v : R32 := 0; let s : State := wit0; decide (s.takes = true ∧ (v.getLsbD 31 = false ∨ s.on F.SEC_ALARM_STAT_LATCH = false) ∧
    swf regReset s.regs = true))) = true := by decide +kernel

/-- Of `Obligations.BootCommands`. -/
theorem test_hypotheses_BootCommands : (
  (let s : State := wit0; let s : State := State.setF s F.FWM_STAT_BOOT (bRom); decide (s.up = true ∧ s.boot = bRom)) &&
  (let s : State := wit0; let s : State := s.setF F.FWM_STAT_BOOT 1; decide (s.boot ≠ bRom)) &&
  (let s : State := wit0; let s : State := State.setF s F.FWM_STAT_HSTATE (hIdle); decide (s.takes = true ∧ s.hstate = hIdle ∧ s.boot ≠ bVerifying)) &&
  (let s : State := wit0; let s : State := s.setF F.FWM_STAT_BOOT 2; decide ((s.hstate ≠ hIdle ∨ s.boot = bVerifying))) &&
  (let s : State := wit0; let s : State := State.setF s F.FWM_STAT_BOOT (bAwait); decide (s.takes = true ∧ s.boot = bAwait ∧
    swf regReset s.regs = true)) &&
  (let s : State := wit0; decide (s.takes = true ∧ s.boot ≠ bAwait)) &&
  (let s : State := wit0; let s : State := State.setF s F.FWM_STAT_BOOT (bVerifying); decide (s.up = true ∧ s.boot = bVerifying ∧
    swf regReset s.regs = true)) &&
  (let s : State := wit0; decide (s.boot ≠ bVerifying))) = true := by decide +kernel

/-- Of `Obligations.HandoverCommands`. -/
theorem test_hypotheses_HandoverCommands : (
  (let s : State := wit0; let s : State := State.setF s F.FWM_STAT_HSTATE (hIdle); let s : State := State.setF s F.FWM_STAT_BOOT (bRunning);
    let s : State := State.setF s F.FWM_STAT_STANDBY_VALID 1; decide (s.takes = true ∧ s.hstate = hIdle ∧ s.boot = bRunning ∧
    s.on F.FWM_STAT_STANDBY_VALID = true ∧ swf regReset s.regs = true)) &&
  (let s : State := wit0; decide (s.takes = true ∧ (s.hstate ≠ hIdle ∨ s.boot ≠ bRunning))) &&
  (let s : State := wit0; let s : State := State.setF s F.FWM_STAT_HSTATE (hLoading); decide (s.up = true ∧ s.hstate = hLoading ∧
    swf regReset s.regs = true)) &&
  (let s : State := wit0; decide (s.hstate ≠ hLoading)) &&
  (let s : State := wit0; let s : State := State.setF s F.FWM_STAT_HSTATE (hSyncing); decide (s.up = true ∧ s.hstate = hSyncing)) &&
  (let s : State := wit0; decide (s.hstate ≠ hSyncing)) &&
  (let s : State := wit0; let s : State := State.setF s F.FWM_STAT_HSTATE (hReady); decide (s.takes = true ∧ s.hstate = hReady ∧
    swf regReset s.regs = true)) &&
  (let s : State := wit0; let s : State := State.setF s F.FWM_STAT_HSTATE (hReady); let s : State := s.wr Reg.FWM_HO_TICK_HI 1;
    decide (s.takes = true ∧ s.hstate = hReady ∧ s.due s.hoTick = false)) &&
  (let s : State := wit0; decide (s.takes = true ∧ s.hstate ≠ hReady)) &&
  (let i : Image := wImage; let s : State := wit0; let s : State := State.setF s F.FWM_STAT_HSTATE (hSwitching);
    let s : State := { s with fwm.busy := [] }; let s : State := { s with fwm.timed := false }; let s : State := { s with fwm.stby := some i };
    let s : State := { s with fwm.mbWait := none }; decide (s.up = true ∧ s.hstate = hSwitching ∧ s.fwm.busy = [] ∧ s.now.toNat = s.boundary ∧
    s.fwm.timed = false ∧ s.fwm.stby = some i ∧ s.fwm.mbWait = none ∧ swf regReset s.regs = true)) &&
  (let s : State := wit0; let s : State := { s with fwm.timed := false }; decide (s.fwm.timed = false ∧
    (s.hstate ≠ hSwitching ∨ s.fwm.busy ≠ [] ∨ s.now.toNat ≠ s.boundary))) &&
  (let s : State := wit0; let s : State := State.setF s F.FWM_STAT_HSTATE (hIdle); decide (s.takes = true ∧ s.hstate = hIdle)) &&
  (let s : State := wit0; let s : State := s.setF F.FWM_STAT_HSTATE 1; decide (s.takes = true ∧ s.hstate ≠ hIdle)) &&
  (let s : State := wit0; let s : State := State.setF s F.FWM_STAT_HSTATE (hSwitching); let s : State := wNow s 25000000; decide (s.up = true ∧
    s.hstate = hSwitching ∧ 25000000 ≤ s.hoAge)) &&
  (let s : State := wit0; decide ((s.hstate = hSyncing → s.hoAge ≤ 125000000) ∧ (s.hstate = hSwitching → s.hoAge < 25000000))) &&
  (let i : Image := wImage; let s : State := wit0; let s : State := State.setF s F.FWM_STAT_HSTATE (hIdle);
    let s : State := State.setF s F.FWM_STAT_BOOT (bRunning); let s : State := State.setF s F.FWM_STAT_STANDBY_VALID 0;
    let s : State := { s with fwm.lost := false }; let s : State := { s with fwm.run := some i }; decide (s.up = true ∧ s.hstate = hIdle ∧
    s.boot = bRunning ∧ s.on F.FWM_STAT_STANDBY_VALID = false ∧ s.fwm.lost = false ∧ s.fwm.run = some i ∧ swf regReset s.regs = true)) &&
  (let s : State := wit0; decide ((s.hstate ≠ hIdle ∨ s.boot ≠ bRunning ∨ s.on F.FWM_STAT_STANDBY_VALID = true ∨ s.fwm.lost = true))) &&
  (let s : State := wit0; let s : State := State.setF s F.FWM_STAT_HSTATE (hIdle); let s : State := State.setF s F.FWM_STAT_STANDBY_VALID 1;
    let s : State := s.setF F.FWM_SVN_RUN 1; decide (s.takes = true ∧ s.hstate = hIdle ∧ s.on F.FWM_STAT_STANDBY_VALID = true ∧
    s.fwSvn.toNat < (s.f F.FWM_SVN_RUN).toNat)) &&
  (let s : State := wit0; let s : State := State.setF s F.FWM_STAT_HSTATE (hIdle); let s : State := State.setF s F.FWM_STAT_STANDBY_VALID 1;
    decide (s.takes = true ∧ s.hstate = hIdle ∧ s.on F.FWM_STAT_STANDBY_VALID = true ∧ (s.f F.FWM_SVN_RUN).toNat ≤ s.fwSvn.toNat)) &&
  (let s : State := wit0; decide (s.takes = true ∧ (s.hstate ≠ hIdle ∨ s.on F.FWM_STAT_STANDBY_VALID = false))) &&
  (let i : Image := wImage; let s : State := wit0; let s : State := State.setF s F.FWM_STAT_STANDBY_VALID 1;
    let s : State := { s with fwm.stby := some i }; decide (s.up = true ∧ s.on F.FWM_STAT_STANDBY_VALID = true ∧ s.fwm.stby = some i ∧
    swf regReset s.regs = true)) &&
  (let s : State := wit0; let s : State := State.setF s F.FWM_STAT_STANDBY_VALID 0; decide (s.up = true ∧ s.on F.FWM_STAT_STANDBY_VALID = false ∧
    swf regReset s.regs = true))) = true := by decide +kernel

/-- Of `Obligations.ClayCommands`. -/
theorem test_hypotheses_ClayCommands : (
  (let w : BitVec 10 := 0x300; let s : State := wit0; decide (s.takes = true ∧ s.clayTakes w.toNat = true ∧ (s.wear w.toNat).toNat < 2000000 ∧
    swf regReset s.regs = true ∧ swf wearMfg s.clay.wear = true)) &&
  (let w : BitVec 10 := 0; let s : State := wit0; decide (s.clayTakes w.toNat = false)) &&
  (let w : BitVec 10 := 0; let v : R32 := 0; let a : Bool := false; let r : List (BitVec 10 × R32 × Bool) := []; let s : State := wit0;
    let s : State := { s with clay.pend := (w, v, a) :: r }; let s : State := { s with clay.bank0 := true };
    let s : State := { s with clay.bank1 := true }; decide (s.up = true ∧ s.clay.pend = (w, v, a) :: r ∧ s.clay.bank0 = true ∧ s.clay.bank1 = true ∧
    swf clayMfg s.clay.k0 = true ∧ swf clayMfg s.clay.k1 = true ∧ swf regReset s.regs = true)) &&
  (let s : State := wit0; let s : State := { s with clay.pend := [] }; decide (s.clay.pend = []))) = true := by decide +kernel

/-- Of `Obligations.TimedCommits`. -/
theorem test_hypotheses_TimedCommits : (
  (let s : State := wit0; let s : State := s.setF F.FWM_TC_GROUP_TYPE 1; let s : State := s.setF F.DTT_SYNC_STAT_STATE syConverged;
    decide (s.takes = true ∧ tcReserved s.tcGroup = false ∧ s.fwm.tcs.length < 64 ∧ s.tcPends s.tcGroup = false ∧ s.inTime = true ∧
    s.now.toNat ≤ s.tcTick.toNat ∧ swf regReset s.regs = true)) &&
  (let s : State := wit0; let s : State := s.setF F.FWM_TC_GROUP_TYPE 1; let s : State := s.setF F.DTT_SYNC_STAT_STATE syConverged;
    let s : State := wNow s 1; decide (s.takes = true ∧ tcReserved s.tcGroup = false ∧ s.fwm.tcs.length < 64 ∧ s.tcPends s.tcGroup = false ∧
    s.inTime = true ∧ s.tcTick.toNat < s.now.toNat)) &&
  (let s : State := wit0; decide (s.takes = true ∧ tcReserved s.tcGroup = true)) &&
  (let s : State := wit0; let s : State := s.setF F.FWM_TC_GROUP_TYPE 1;
    let s : State := { s with fwm := { s.fwm with tcs := List.replicate 64 (0, 1, 0) } }; decide (s.takes = true ∧ tcReserved s.tcGroup = false ∧
    64 ≤ s.fwm.tcs.length)) &&
  (let s : State := wit0; let s : State := s.setF F.FWM_TC_GROUP_TYPE 1; let s : State := { s with fwm := { s.fwm with tcs := [(0, 1, 0)] } };
    decide (s.takes = true ∧ tcReserved s.tcGroup = false ∧ s.fwm.tcs.length < 64 ∧ s.tcPends s.tcGroup = true)) &&
  (let s : State := wit0; let s : State := s.setF F.FWM_TC_GROUP_TYPE 1; decide (s.takes = true ∧ tcReserved s.tcGroup = false ∧
    s.fwm.tcs.length < 64 ∧ s.tcPends s.tcGroup = false ∧ s.inTime = false)) &&
  (let s : State := wit0; let s : State := s.setF F.FWM_TC_GROUP_TYPE 1; decide (s.takes = true ∧ tcReserved s.tcGroup = false ∧
    s.tcPends s.tcGroup = false)) &&
  (let s : State := wit0; let s : State := s.setF F.FWM_TC_GROUP_TYPE 1; let s : State := { s with fwm := { s.fwm with tcs := [(0, 1, 0)] } };
    decide (s.takes = true ∧ tcReserved s.tcGroup = false ∧ s.tcPends s.tcGroup = true ∧ swf regReset s.regs = true)) &&
  (let x : R64 := 0; let g : BitVec 4 × BitVec 10 := (0, 0); let s : State := wit0; let s : State := { s with fwm.tcs := [(x, g)] };
    decide (s.up = true ∧ s.fwm.tcs = [(x, g)] ∧ s.due x = true)) &&
  (let s : State := wit0; decide ((s.fwm.tcs).all (fun x => decide (s.due x.1 = false)) = true))) = true := by decide +kernel

/-- Of `Obligations.MailboxCommands`. -/
theorem test_hypotheses_MailboxCommands : (
  (let i : Image := wImage; let s : State := wit0; let s : State := State.setF s F.FWM_MB_RES_BUSY 0; let s : State := { s with fwm.dead := false };
    let s : State := { s with fwm.run := some i }; decide (s.takes = true ∧ s.on F.FWM_MB_RES_BUSY = false ∧ s.fwm.dead = false ∧
    s.hstate ≠ hSwitching ∧ s.fwm.run = some i)) &&
  (let s : State := wit0; let s : State := State.setF s F.FWM_MB_RES_BUSY 0; let s : State := { s with fwm.dead := false }; decide (s.takes = true ∧
    s.on F.FWM_MB_RES_BUSY = false ∧ s.fwm.dead = false ∧ s.hstate ≠ hSwitching ∧ swf regReset s.regs = true)) &&
  (let s : State := wit0; let s : State := State.setF s F.FWM_MB_RES_BUSY 0; let s : State := { s with fwm.dead := false };
    let s : State := State.setF s F.FWM_STAT_HSTATE (hSwitching); decide (s.takes = true ∧ s.on F.FWM_MB_RES_BUSY = false ∧ s.fwm.dead = false ∧
    s.hstate = hSwitching)) &&
  (let d : BitVec 5 := 0; let c : Instr := .version; let s : State := wit0; let s : State := State.setF s F.FWM_MB_RES_BUSY 0;
    let s : State := { s with fwm.dead := true }; decide (s.takes = true ∧ s.on F.FWM_MB_RES_BUSY = false ∧ s.fwm.dead = true ∧
    c ∈ [.version, .sensors, .poolTest d])) &&
  (let s : State := wit0; let s : State := State.setF s F.FWM_MB_RES_BUSY 1; decide (s.on F.FWM_MB_RES_BUSY = true)) &&
  (let d : BitVec 5 := 0; let s : State := wit0; let s : State := State.setF s F.FWM_MB_RES_BUSY 0; let s : State := { s with fwm.dead := false };
    let s : State := State.setF s F.HOM_CTL_EN 0; decide (s.takes = true ∧ s.on F.FWM_MB_RES_BUSY = false ∧ s.fwm.dead = false ∧ d.toNat ≤ 19 ∧
    s.on F.HOM_CTL_EN = false ∧ s.liveExts = [])) &&
  (let d : BitVec 5 := 20; let s : State := wit0; let s : State := State.setF s F.FWM_MB_RES_BUSY 0; let s : State := { s with fwm.dead := false };
    decide (s.takes = true ∧ s.on F.FWM_MB_RES_BUSY = false ∧ s.fwm.dead = false ∧ 19 < d.toNat)) &&
  (let d : BitVec 5 := 0; let s : State := wit0; let s : State := State.setF s F.FWM_MB_RES_BUSY 0; let s : State := { s with fwm.dead := false };
    let s : State := s.setF F.HOM_CTL_EN 1; decide (s.takes = true ∧ s.on F.FWM_MB_RES_BUSY = false ∧ s.fwm.dead = false ∧ d.toNat ≤ 19 ∧
    (s.on F.HOM_CTL_EN = true ∨ s.liveExts ≠ []))) &&
  (let d : BitVec 5 := 0; let s : State := wit0; let s : State := { s with fwm.poolTest := some d }; decide (s.up = true ∧ s.fwServes 4 = true ∧
    s.fwm.poolTest = some d ∧ swf regReset s.regs = true)) &&
  (let s : State := wit0; let s : State := { s with fwm.poolTest := none }; decide (s.fwm.poolTest = none))) = true := by decide +kernel

/-- Of `Obligations.VoltageAndTemperature`; its clause on twenty cool readings is test_hypotheses_TwentyReadings. -/
theorem test_hypotheses_VoltageAndTemperature : (
  (let m : BitVec 8 := 0; let s : State := wit0; let s : State := State.setF s F.PWR_AVS_EN 1; let s : State := s.setF F.PWR_VCORE_MV 700;
    let s : State := s.setF F.FWM_STAT_BOOT bRunning; decide (s.up = true ∧ s.fwLoops = true ∧ s.on F.PWR_AVS_EN = true ∧
    swf regReset s.regs = true ∧ m.toInt < ((s.f F.PWR_AVS_MARGIN).toNat : Int) ∧ (s.f F.PWR_VCORE_MV).toNat < 796)) &&
  (let m : BitVec 8 := 7; let s : State := wit0; let s : State := State.setF s F.PWR_AVS_EN 1; let s : State := s.setF F.FWM_STAT_BOOT bRunning;
    decide (s.up = true ∧ s.fwLoops = true ∧ s.on F.PWR_AVS_EN = true ∧ swf regReset s.regs = true ∧
    ((s.f F.PWR_AVS_MARGIN).toNat : Int) + 2 < m.toInt ∧ 655 ≤ (s.f F.PWR_VCORE_MV).toNat)) &&
  (let s : State := wit0; let s : State := State.setF s F.PWR_AVS_EN 0; let s : State := s.setF F.FWM_STAT_BOOT bRunning; decide (s.up = true ∧
    s.fwLoops = true ∧ s.on F.PWR_AVS_EN = false ∧ swf regReset s.regs = true)) &&
  (let s : State := wit0; decide (s.fwLoops = false)) &&
  (let s : State := wit0; let s : State := s.setF F.FWM_STAT_BOOT bRunning; decide (s.up = true ∧ s.fwLoops = true)) &&
  (let l : List Reading := [1760]; let d : Nat := 0; let s : State := wit0; decide (s.up = true ∧ l.length ≤ 20 ∧ d < l.length ∧
    1760 ≤ (l.getD d 0).toInt)) &&
  (let l : List Reading := [1600]; let s : State := wit0; let s : State := { s with fwm.warnArmed := true };
    let s : State := State.setF s F.PWR_STAT_WARN 0; decide (s.up = true ∧ l.length ≤ 20 ∧ (s.warnC : Int) * 16 ≤ (hottest 0 l).2.toInt ∧
    (hottest 0 l).2.toInt < 1760 ∧ s.fwm.warnArmed = true ∧ s.on F.PWR_STAT_WARN = false)) &&
  (let s : State := wit0; decide (s.up = true ∧ s.fwLoops = false)) &&
  (let s : State := wit0; let s : State := s.setF F.PWR_TMAX_TMAX 1600; let s : State := s.setF F.FWM_STAT_BOOT bRunning; decide (s.up = true ∧
    s.fwLoops = true ∧ (s.dilC : Int) * 16 ≤ (s.f F.PWR_TMAX_TMAX).toInt ∧ swf regReset s.regs = true ∧ (s.f F.PWR_KREQ_K).toNat ≤ 32)) &&
  (let s : State := wit0; let s : State := s.setF F.FWM_STAT_BOOT bRunning; decide (s.up = true ∧ s.fwLoops = true ∧
    (s.f F.PWR_TMAX_TMAX).toInt < ((s.dilC : Int) - 3) * 16 ∧ swf regReset s.regs = true))) = true := by decide +kernel

/-- Of `Obligations.SnoopDeliveries`. -/
theorem test_hypotheses_SnoopDeliveries : (
  (let p : Snp := wSnp; let s : State := wit0; decide (s.up = true ∧ agentNode p.agent = s.node ∧ (agentLocal p.agent).toNat < 8 ∧ p.isSnoop = true ∧
    s.trained (6 + (agentLocal p.agent).toNat) = false ∧ s.pState (6 + (agentLocal p.agent).toNat) ≠ pQuiet)) &&
  (let p : Snp := wSnp; let s : State := wit0; let s : State := wRt (wCtx s) 0x2F 15 0 0; let s : State := s.setF (F.XLT_AGT_VALID 0 0) 1;
    let s : State := State.setF s (F.LAN_P_STAT_STATE (6 + (agentLocal p.agent).toNat)) pUp; let h : Nat := ((s.mapSnoop 0 p.dpa).getD (0, 0)).1;
    let va : Nat := ((s.mapSnoop 0 p.dpa).getD (0, 0)).2; decide (s.up = true ∧ agentNode p.agent = s.node ∧ (agentLocal p.agent).toNat < 8 ∧
    p.isSnoop = true ∧ s.trained (6 + (agentLocal p.agent).toNat) = true ∧ s.mapSnoop (agentLocal p.agent).toNat p.dpa = some (h, va))) &&
  (let p : Snp := { wSnp with home := 1 }; let s : State := wit0;
    let s : State := State.setF s (F.LAN_P_STAT_STATE (6 + (agentLocal p.agent).toNat)) pUp; decide (s.up = true ∧ agentNode p.agent = s.node ∧
    (agentLocal p.agent).toNat < 8 ∧ p.isSnoop = true ∧ s.trained (6 + (agentLocal p.agent).toNat) = true ∧
    s.mapSnoop (agentLocal p.agent).toNat p.dpa = none ∧ p.home ≠ s.node)) &&
  (let p : Snp := { wSnp with opc := 0x3F }; let s : State := wit0;
    decide ((agentNode p.agent ≠ s.node ∨ 8 ≤ (agentLocal p.agent).toNat ∨ p.isSnoop = false)))) = true := by decide +kernel

/-- Of `Obligations.IdleStep`. -/
theorem test_hypotheses_IdleStep : (
  (let s : State := wit0; let s : State := { s with pending := [] }; let s : State := { s with pwr := { s.pwr with powered := false } };
    decide (s.pending = [] ∧ s.up = false)) &&
  (let s : State := wit0; let s : State := { s with pending := [] }; decide (s.pending = [] ∧ s.up = true))) = true := by decide +kernel

/-- Of `Obligations.LiveTableWrites`. -/
theorem test_hypotheses_LiveTableWrites : (
  (let off : BitVec 18 := 0; let n : Nat := 0; let s : State := wit0; let s : State := wCtx s; decide (s.takes = true ∧ swf regReset s.regs = true ∧
    n ∈ s.residentSlots ∧ tblFirst (s.ctxId n) (s.ctxTbl n) ≤ s.rtAddr off.toNat / 32 ∧
    s.rtAddr off.toNat / 32 < tblFirst (s.ctxId n) (s.ctxTbl n) + tblCount (s.ctxTbl n))) &&
  (let x : R64 := 0; let y : R64 := 0; let s : State := wit0; let s : State := s.setF F.DTT_TT_STAT_DEFAULT 0; decide (s.takes = true ∧
    swf regReset s.regs = true ∧ (s.activeSet = some (s.f F.DTT_TTWIN_PAGE_SET).toNat ∨ s.dtt.armed = some ((s.f F.DTT_TTWIN_PAGE_SET).toNat, x, y)))) &&
  (let off : BitVec 17 := 0; let s : State := wit0; let s : State := wEh s 0 (2 ^ 16 + 1) 0; decide (s.takes = true ∧ swf regReset s.regs = true ∧
    s.emLive (off.toNat % 32768 / 32) = true)) &&
  (let off : BitVec 17 := 0; let m : Nat := 0; let s : State := wit0; let s : State := wEh s 0 (2 ^ 16 + 1) 0; decide (s.takes = true ∧
    swf regReset s.regs = true ∧ m ∈ s.liveMaps ∧ s.emBase m ≤ ((s.f F.GRP_EWIN_PAGE_PAGE).toNat * 131072 + off.toNat) / 16 ∧
    ((s.f F.GRP_EWIN_PAGE_PAGE).toNat * 131072 + off.toNat) / 16 < s.emBase m + s.emCount m))) = true := by decide +kernel

/-- Of `Obligations.EqualKeyHalves`. -/
theorem test_hypotheses_EqualKeyHalves : (
  (let i : BitVec 4 := 0; let w : Nat := 2 ^ 60; let c : Nat := 1; let s : State := wit0; let s : State := State.setF s F.SEC_RES_BUSY 0;
    let s : State := State.setSess s i.toNat { State.sess s i.toNat with st := .opened };
    let s : State := { s with mems := { s.mems with cmdwin := Mem.wrN s.mems.cmdwin 0 (natLe 8 (2 ^ 60) ++ natLe 8 1) } }; decide (s.takes = true ∧
    s.on F.SEC_RES_BUSY = false ∧ (s.sess i.toNat).st = .opened ∧ leNat ((Mem.rdN s.mems.cmdwin 0 16).take 8) = w ∧
    leNat ((Mem.rdN s.mems.cmdwin 0 16).drop 8) = c ∧ bitsAt w 60 4 = 1 ∧ bitsAt w 0 45 = 0 ∧
    (s.sess i.toNat).counter.all (fun n => decide (n.toNat < c)) = true ∧ s.genInUse (fieldAt 10 w 50) (bitAt w 49) = false ∧
    swf regReset s.regs = true))) = true := by decide +kernel

/-- Of `Obligations.PackedBlocks`. -/
theorem test_hypotheses_PackedBlocks : (
  (let p : PBlock := wPBlock; decide (p.lanes.length = 32 ∧ (p.lanes).all (fun x => decide (fitsS 96 x = true)) = true ∧ p.count ≤ 8191 ∧
    -128 ≤ p.eb ∧ p.eb < 128))) = true := by decide +kernel

/-- Of the clause of `Obligations.DataMoves` over the moves and their work. -/
theorem test_hypotheses_IndexedMoves : ∃ (s : State) (d : Desc) (c : Instr) (f : Desc → Io → Nat × Io), s.up = true ∧ (s.q 0).descs = [d] ∧
    d.st = .running ∧ c = .gather 0 d.idx [] ∧ f = Io.gather ∧ d.opcode = 2 ∧ d.mode = 0 :=
  ⟨wM (wD 2 [] .running) wit0, wD 2 [] .running, .gather 0 0 [], Io.gather, by decide +kernel, by decide +kernel, by decide +kernel, rfl, rfl,
    by decide +kernel, by decide +kernel⟩

theorem hottest_zeros : ∀ (n d : Nat), hottest d (List.replicate (n + 1) 0) = (d, 0)
  | 0, _ => rfl
  | n + 1, d => by
    show (let m := hottest (d + 1) (List.replicate (n + 1) 0); if (0 : BitVec 16).toInt < m.2.toInt then m else (d, 0)) = (d, 0)
    rw [hottest_zeros n (d + 1)]; rfl

/-- Twenty readings of zero degrees. -/
def cool : List Reading := List.replicate 20 0

theorem hottest_cool : hottest 0 cool = (0, 0) := hottest_zeros 19 0

theorem cool_below_warn : (hottest 0 cool).2.toInt < ((wit0.warnC : Int) - 2) * 16 := by rw [hottest_cool]; decide +kernel

/-- Of the clause of `Obligations.VoltageAndTemperature` on a sample below the warn threshold. -/
theorem test_hypotheses_TwentyReadings : wit0.up = true ∧ cool.length = 20 ∧ (∀ x ∈ cool, x.toInt < 1760) ∧
    (hottest 0 cool).2.toInt < ((wit0.warnC : Int) - 2) * 16 ∧ swf regReset wit0.regs = true :=
  ⟨by decide +kernel, by decide +kernel, fun x hx => by rw [List.eq_of_mem_replicate hx]; decide, cool_below_warn, by decide +kernel⟩

/-- A node in a hold-up, and one that is down. -/
def wHold : State := { wit0 with pwr := { wit0.pwr with holdUp := true } }
def wDown : State := { wit0 with pwr := { wit0.pwr with powered := false } }

/-- Of `Obligations.DownAndHoldUp`. -/
theorem test_hypotheses_DownAndHoldUp : (Instr.pllLock.outside = false ∧ wDown.up = false) ∧
    ((Instr.doorbell 0 0).isWrite = true ∧ wHold.pwr.holdUp = true) := by decide +kernel

/-- Of `Obligations.HoldUpStays`. -/
theorem test_hypotheses_HoldUpStays : ∃ (c : Instr) (s t : State), (∀ st, c ≠ .resetDeassert st) ∧ c ≠ .supplyRemoved ∧ s.pwr.holdUp = true ∧
    exec c s = .next t := ⟨.resetAssert 0, wHold, wHold, by simp, by simp, rfl, rfl⟩

/-- Of `Obligations.ClockAndClayFrames`. -/
theorem test_hypotheses_ClockAndClayFrames : ∃ (c : Instr) (s t : State), c.movesClock = false ∧ c.writesClay = false ∧ exec c s = .next t :=
  ⟨.idcode, wDown, wDown, by decide, by decide, rfl⟩

/-- Of `Obligations.PinsStaySound` and `Obligations.MemoriesStayCanonical`. -/
theorem test_hypotheses_invariants : ∃ s t : State, s.pinsOk ∧ s.mems.wf = true ∧ step s = .next t :=
  ⟨{ wHold with pending := [.resetAssert 0] }, wHold, by unfold State.pinsOk; decide +kernel, by decide +kernel, rfl⟩

/-- Reset meets the premises on stores that the statements make. -/
theorem test_reset_stores : swf regReset State.reset.regs = true ∧ State.reset.mems.wf = true := by decide +kernel

end Sys2Proof.Tests
end

section
/-!
PROOFS. Window writes onto tables in use (R98, R321, R446): each is the setting of one LIVE_WR bit, and a set field changes its own register only.
-/

namespace Sys2Proof.Machine

/-! ### Setting one field -/

/-- Setting a field adds no output. -/
@[simp] theorem State.setF_out {w : Nat} (s : State) (f : Fld w) (v : BitVec w) : (s.setF f v).out = s.out := rfl

/-- Setting a field leaves every register but its own as it was. -/
theorem State.rd_setF_other {w : Nat} (s : State) (f : Fld w) (v : BitVec w) (r : Nat) (h : r ≠ f.off) : (s.setF f v).rd r = s.rd r :=
  State.rd_wr_other s _ _ _ h

/-- After a command that only sets a field, the field reads what was set, and no memory, output or other register has changed. -/
theorem goes_of_exec_setF {c : Instr} {s : State} {w : Nat} (f : Fld w) (v : BitVec w) (hl : f.lo + w ≤ 32)
    (hr : swf regReset s.regs = true) (hc : exec c s = .next (s.setF f v)) :
    Goes c s (fun t => t.f f = v ∧ t.mems = s.mems ∧ t.out = s.out ∧ ∀ r, r ≠ f.off → t.rd r = s.rd r) :=
  ⟨s.setF f v, hc, s.f_setF_same f v hl hr, by simp, by simp, s.rd_setF_other f v⟩

/-! ### Tables in use -/

/-- An entry within the table of a slot that holds a resident context is live. -/
theorem State.entryLive_of_resident (s : State) {n i : Nat} (hn : n ∈ s.residentSlots) (hlo : tblFirst (s.ctxId n) (s.ctxTbl n) ≤ i)
    (hhi : i < tblFirst (s.ctxId n) (s.ctxTbl n) + tblCount (s.ctxTbl n)) : s.entryLive i = true :=
  List.any_eq_true.mpr ⟨n, hn, by simp [hlo, hhi]⟩

/-- The active set is live, and so is an armed one. -/
theorem State.setLive_of_active_or_armed (s : State) {set : Nat} {x y : R64}
    (h : s.activeSet = some set ∨ s.dtt.armed = some (set, x, y)) : s.setLive set = true := by
  unfold State.setLive
  rcases h with hactive | harmed
  · simp [hactive]
  · simp [harmed]

/-! ### The writes that are discarded -/

/-- A write through GRP_EHDR or GRP_EWIN is a host write of the header or of the entry. -/
theorem exec_emapWinWrite (hdr : Bool) (off : BitVec 17) (w : Bool) (v : R64) (s : State) :
    exec (.emapWinWrite hdr off w v) s =
      whenWr s (fun s => if hdr then s.ehdrWrite (off.toNat % 32768) w v else s.ewinWrite off.toNat w v) := rfl

/-- XLT_RTWIN (R98). -/
theorem exec_rtwinWrite_of_live {s : State} {off : BitVec 18} {w : Bool} {v : R64} (ht : s.takes = true)
    (hlive : s.entryLive (s.rtAddr off.toNat / 32) = true) :
    exec (.rtwinWrite off w v) s = .next (s.setF F.XLT_STAT_LIVE_WR 1) :=
  exec_wr (f := fun s => s.rtWrite off.toNat w v) rfl ht (by simp [State.rtWrite, hlive])

/-- DTT_TTWIN (R321). -/
theorem exec_ttwinWrite_of_live {s : State} {off : BitVec 17} {w : Bool} {v : R64} (ht : s.takes = true)
    (hlive : s.setLive (s.f F.DTT_TTWIN_PAGE_SET).toNat = true) :
    exec (.ttwinWrite off w v) s = .next (s.setF F.DTT_STAT_LIVE_WR 1) :=
  exec_wr (f := fun s => s.ttWrite off.toNat w v) rfl ht (by simp [State.ttWrite, hlive])

/-- GRP_EHDR (R446). -/
theorem exec_ehdrWrite_of_live {s : State} {off : BitVec 17} {w : Bool} {v : R64} (ht : s.takes = true)
    (hlive : s.emLive (off.toNat % 32768 / 32) = true) :
    exec (.emapWinWrite true off w v) s = .next (s.setF F.GRP_EMAP_STAT_LIVE_WR 1) :=
  exec_wr (exec_emapWinWrite true off w v s) ht (by simp [State.ehdrWrite, hlive])

/-- GRP_EWIN (R446). -/
theorem exec_ewinWrite_of_live {s : State} {off : BitVec 17} {w : Bool} {v : R64} {m : Nat} (ht : s.takes = true) (hm : m ∈ s.liveMaps)
    (hlo : s.emBase m ≤ ((s.f F.GRP_EWIN_PAGE_PAGE).toNat * 131072 + off.toNat) / 16)
    (hhi : ((s.f F.GRP_EWIN_PAGE_PAGE).toNat * 131072 + off.toNat) / 16 < s.emBase m + s.emCount m) :
    exec (.emapWinWrite false off w v) s = .next (s.setF F.GRP_EMAP_STAT_LIVE_WR 1) := by
  refine exec_wr (exec_emapWinWrite false off w v s) ht ?_
  rw [if_neg Bool.false_ne_true, State.ewinWrite]
  exact if_pos (List.any_eq_true.mpr ⟨m, hm, decide_eq_true ⟨hlo, hhi⟩⟩)

/-- Settles O58: each of the four writes is the setting of one LIVE_WR bit. -/
theorem liveTableWrites : Obligations.LiveTableWrites := by
  unfold Obligations.LiveTableWrites
  refine ⟨?rtwin, ?ttwin, ?ehdr, ?ewin⟩
  case rtwin =>
    intro s off w v n ht hr hn hlo hhi
    have hlive := s.entryLive_of_resident hn hlo hhi
    exact goes_of_exec_setF _ _ (by decide) hr (exec_rtwinWrite_of_live ht hlive)
  case ttwin =>
    intro s off w v x y ht hr hset
    have hlive := s.setLive_of_active_or_armed hset
    exact goes_of_exec_setF _ _ (by decide) hr (exec_ttwinWrite_of_live ht hlive)
  case ehdr =>
    intro s off w v ht hr hlive
    exact goes_of_exec_setF _ _ (by decide) hr (exec_ehdrWrite_of_live ht hlive)
  case ewin =>
    intro s off w v m ht hr hm hlo hhi
    exact goes_of_exec_setF _ _ (by decide) hr (exec_ewinWrite_of_live ht hm hlo hhi)

end Sys2Proof.Machine
end

section
/-!
PROOFS. LOAD of a memory key with equal halves (R592): refused with ERR 0x7, shown when the command finishes, with no key and no session changed.
-/

namespace Sys2Proof.Machine

/-! ### A field set before another -/

/-- Of two fields of disjoint bits set one after the other, the first still reads what was set. -/
theorem State.f_setF_setF_first {w x : Nat} {s : State} (f : Fld w) (g : Fld x) (v : BitVec w) (u : BitVec x) (hl : f.lo + w ≤ 32)
    (hd : f.off ≠ g.off ∨ f.lo + w ≤ g.lo ∨ g.lo + x ≤ f.lo) (hr : swf regReset s.regs = true) : ((s.setF f v).setF g u).f f = v :=
  (State.f_setF_other _ g f u (State.regs_setF _ _ _ hr) hd).trans (State.f_setF_same _ f v hl hr)

/-! ### A security command taken -/

/-- A command taken is in progress with its ERR and its undo; nothing else of the security state changes. -/
@[simp] theorem State.secTake_sec (s : State) (op i e : BitVec 4) (u : SecUndo) :
    (s.secTake op i e u).sec = { s.sec with cmd := some ⟨op, e, u⟩ } := by
  simp [State.secTake]

theorem State.secTake_regs_wf {s : State} (hr : swf regReset s.regs = true) (op i e : BitVec 4) (u : SecUndo) :
    swf regReset (s.secTake op i e u).regs = true :=
  State.regs_setF _ _ _ (State.regs_setF _ _ _ hr)

/-- BUSY shows from the moment a command is taken: SESSION is of other bits of SEC_RES. -/
theorem State.secTake_busy {s : State} (hr : swf regReset s.regs = true) (op i e : BitVec 4) (u : SecUndo) :
    (s.secTake op i e u).f F.SEC_RES_BUSY = 1 :=
  State.f_setF_setF_first F.SEC_RES_BUSY F.SEC_RES_SESSION 1 i (by decide) (by decide) hr

/-- Taking a command does not take the node down. -/
@[simp] theorem State.secTake_up (s : State) (op i e : BitVec 4) (u : SecUndo) : (s.secTake op i e u).up = s.up := by
  simp [State.up]

/-! ### A security command finishes -/

/-- SEC_CMD_DONE: with a command in progress, BUSY falls, ERR shows what the command computed, and the memory keys stay. -/
theorem goes_secCmdDone {t : State} {c : SecCmd} (hup : t.up = true) (hserves : t.fwServes 0 = true) (hc : t.sec.cmd = some c)
    (hr : swf regReset t.regs = true) :
    Goes .secCmdDone t (fun u => u.f F.SEC_RES_BUSY = 0 ∧ u.f F.SEC_RES_ERR = c.err ∧ u.sec.keys = t.sec.keys) := by
  have hexec : exec .secCmdDone t = whenUp t (fun t => if t.fwServes 0 then t.secDone else t) := rfl
  refine goes_up hexec hup ?_
  simp only [hserves, if_true, State.secDone, hc]
  refine ⟨?busy, ?err, ?keys⟩
  case busy => exact State.f_setF_setF_first F.SEC_RES_BUSY F.SEC_RES_ERR 0 c.err (by decide) (by decide) hr
  case err => exact State.f_setF_same _ F.SEC_RES_ERR c.err (by decide) (State.regs_setF _ F.SEC_RES_BUSY 0 hr)
  case keys => simp

/-! ### LOAD of a memory key -/

/-- A memory key with equal halves, of a generation not in use, is refused with ERR 0x7. -/
theorem State.loadPlain_of_halvesEqual {s : State} {w : Nat} {key : Bytes} (i : BitVec 4) (hkind : bitsAt w 60 4 = 1)
    (huse : s.genInUse (fieldAt 10 w 50) (bitAt w 49) = false) (heq : halvesEqual key = true) :
    s.loadPlain i w key = s.secTake 4 i 7 .none := by
  simp [State.loadPlain, hkind, huse, heq]

/-- LOAD of a blob that opens under its session, with a fresh counter, to a memory key with equal halves. -/
theorem State.loadCmd_of_halvesEqual {s : State} {i : BitVec 4} {w c : Nat} {k : Bytes} (hst : (s.sess i.toNat).st = .opened)
    (hw : leNat ((Mem.rdN s.mems.cmdwin 0 16).take 8) = w) (hc : leNat ((Mem.rdN s.mems.cmdwin 0 16).drop 8) = c)
    (hkind : bitsAt w 60 4 = 1) (hzero : bitsAt w 0 45 = 0)
    (hfresh : (s.sess i.toNat).counter.all (fun n => decide (n.toNat < c)) = true)
    (huse : s.genInUse (fieldAt 10 w 50) (bitAt w 49) = false)
    (hopen : Config.gcmOpen (s.sess i.toNat).sk (zeros 3 ++ [BitVec.ofNat 8 i.toNat] ++ natBe 8 c)
      (Mem.rdN s.mems.cmdwin 0 16) (Mem.rdN s.mems.cmdwin 16 64) (Mem.rdN s.mems.cmdwin 80 16) = some k)
    (heq : halvesEqual (slice k 0 64) = true) : s.loadCmd i = s.secTake 4 i 7 .none := by
  have hplain := State.loadPlain_of_halvesEqual i hkind huse heq
  have herr : (s.secTake 4 i 7 .none).sec.cmd.any (fun c => c.err == 0) = false := by simp
  simp only [State.loadCmd, hw, hc, hkind, hzero, hst, ne_eq, not_true_eq_false, false_and, or_self, if_false, OfNat.one_ne_ofNat,
    Nat.reduceAdd, hopen, hplain, herr, Bool.false_eq_true]
  cases hctr : (s.sess i.toNat).counter with
  | none => rfl
  | some n =>
    rw [hctr] at hfresh
    have hlt : decide (n.toNat < c) = true := hfresh
    simp [hlt]

/-- Settles O59: the LOAD takes ERR 0x7 and has nothing to undo, and SEC_CMD_DONE shows it. -/
theorem equalKeyHalves : Obligations.EqualKeyHalves := by
  unfold Obligations.EqualKeyHalves
  intro s i w c ht hidle hst hw hc hkind hzero hfresh huse hr
  have hexec : exec (.secLoad i) s = whenWr s (fun s => s.secIf (fun s => s.loadCmd i)) := rfl
  refine goes_wr hexec ht ?_
  intro k hopen hhalves
  have htaken : s.secIf (fun s => s.loadCmd i) = s.secTake 4 i 7 .none := by
    rw [State.secIf, if_neg (by simp [hidle])]
    exact State.loadCmd_of_halvesEqual hst hw hc hkind hzero hfresh huse hopen (decide_eq_true hhalves)
  have hup : s.up = true := (Bool.and_eq_true_iff.mp ht).1
  have hcmd : (s.secTake 4 i 7 .none).sec.cmd = some ⟨4, 7, .none⟩ := by simp
  rw [htaken]
  refine ⟨hcmd, State.secTake_busy hr 4 i 7 .none, by simp, by simp, by simp, ?done⟩
  case done =>
    intro hserves
    have hdone := goes_secCmdDone (by simp [hup]) hserves hcmd (State.secTake_regs_wf hr 4 i 7 .none)
    simpa only [State.secTake_sec] using hdone

end Sys2Proof.Machine
end

section
/-!
PROOFS. The frame of every command: it is guarded by the node being up, or taking writes, and keeps the queue, sound pins and, by its kind, the clock,
clay and a hold-up (R649, R654). From it the invariants of the pins and the statements on a step.
-/

namespace Sys2Proof.Machine


theorem keeps_of_whenUp {c : Instr} {f : State → State} (hc : ∀ s, exec c s = whenUp s f) {P : State → Prop} {s t : State}
    (h : exec c s = .next t) (hs : P s) (hf : s.up = true → P (f s)) : P t := by
  rw [hc] at h
  unfold whenUp at h
  obtain rfl := Host.Outcome.next.inj h
  split
  · next hu => exact hf hu
  · exact hs

theorem keeps_of_whenWr {c : Instr} {f : State → State} (hc : ∀ s, exec c s = whenWr s f) {P : State → Prop} {s t : State}
    (h : exec c s = .next t) (hs : P s) (hf : s.takes = true → P (f s)) : P t := by
  rw [hc] at h
  unfold whenWr at h
  obtain rfl := Host.Outcome.next.inj h
  split
  · next hu => exact hf hu
  · exact hs

/-- The pins that say whether the node is up, in a hold-up and driving its outputs are the same. -/
structure SamePins (s t : State) : Prop where
  powered : t.pwr.powered = s.pwr.powered
  rstN : t.pwr.rstN = s.pwr.rstN
  hold : t.pwr.hold = s.pwr.hold
  holdUp : t.pwr.holdUp = s.pwr.holdUp
  stage : t.pwr.stage = s.pwr.stage
  driven : t.pwr.driven = s.pwr.driven

theorem SamePins.pinsOk {s t : State} (h : SamePins s t) (hs : s.pinsOk) : t.pinsOk := by
  unfold State.pinsOk State.up at *
  rw [h.powered, h.rstN, h.hold, h.holdUp, h.stage, h.driven]
  exact hs

/-- Commands that end a hold-up (R649): the reset at RST_N and the loss of the supply. -/
def endsHoldUp : Instr → Bool
  | .resetDeassert _ | .supplyRemoved => true
  | _ => false

/-- What a command keeps, whatever it does: the queue, and by its kind the clock, clay, sound pins and a hold-up. -/
structure Framed (c : Instr) (s t : State) : Prop where
  pending : t.pending = s.pending
  clk : c.movesClock = false → t.clk = s.clk
  clay : c.writesClay = false → t.clay = s.clay
  pins : s.pinsOk → t.pinsOk
  holdUp : endsHoldUp c = false → s.pwr.holdUp = true → t.pwr.holdUp = true

theorem Framed.refl (c : Instr) (s : State) : Framed c s s := ⟨rfl, fun _ => rfl, fun _ => rfl, id, fun _ => id⟩

theorem Framed.of_same {c : Instr} {s t : State} (hq : t.pending = s.pending) (hk : c.movesClock = false → t.clk = s.clk)
    (hc : c.writesClay = false → t.clay = s.clay)
    (hp : t.pwr.powered = s.pwr.powered ∧ t.pwr.rstN = s.pwr.rstN ∧ t.pwr.hold = s.pwr.hold ∧ t.pwr.holdUp = s.pwr.holdUp ∧
      t.pwr.stage = s.pwr.stage ∧ t.pwr.driven = s.pwr.driven) : Framed c s t := by
  obtain ⟨h1, h2, h3, h4, h5, h6⟩ := hp
  exact ⟨hq, hk, hc, SamePins.pinsOk ⟨h1, h2, h3, h4, h5, h6⟩, fun _ h => h4.trans h⟩

/-! ### Commands that move the pins -/

/-- Nothing driven and no stage without its hold-up: the pins are sound. -/
theorem pinsOk_of_released {t : State} (hd : t.pwr.driven = false) (hs : t.pwr.stage.isSome = true → t.pwr.holdUp = true) : t.pinsOk :=
  ⟨fun h => absurd (hd.symm.trans h) (by decide), hs⟩

theorem State.holdReset_pinsOk (s : State) (h : Hold) (hs : s.pinsOk) : (s.holdReset h).pinsOk :=
  pinsOk_of_released rfl hs.2

theorem State.thermTrip_pinsOk (s : State) (hs : s.pinsOk) : s.thermTrip.pinsOk := pinsOk_of_released rfl hs.2

theorem State.holdUp_pins (s : State) (hs : s.pinsOk) : s.holdUp.pinsOk := by
  unfold State.holdUp
  split
  · exact hs
  · exact SamePins.pinsOk (s := { s with pwr := { s.pwr with holdUp := true, failAt := s.now - 125 } })
      ⟨by simp, by simp, by simp, by simp, by simp, by simp⟩ ⟨hs.1, fun _ => rfl⟩

theorem State.holdUp_holdUp (s : State) (hs : s.pwr.holdUp = true) : s.holdUp.pwr.holdUp = true := by
  unfold State.holdUp
  rw [if_pos hs]
  exact hs

theorem State.thermSample_samePins (s : State) (l : List (BitVec 16)) :
    ∃ u, SamePins s u ∧ s.thermSample l = if 1760 ≤ (hottest 0 (l.take 20)).2.toInt then u.thermTrip else u :=
  ⟨_, ⟨by simp, by simp, by simp, by simp, by simp, by simp⟩, rfl⟩

/-- A stage that falls due moves the stage and, with the last, the reset; what else it does leaves the pins. -/
theorem State.holdUpStage_cases (s : State) (g : HoldStage) :
    s.holdUpStage g = s ∨ s.pwr.holdUp = true ∧ ∃ u, SamePins { s with pwr := { s.pwr with stage := some g } } u ∧
      (s.holdUpStage g = u ∨ s.holdUpStage g = u.holdReset .holdUpEnd) := by
  unfold State.holdUpStage
  split
  · exact .inl rfl
  · next hn =>
    have hu : s.pwr.holdUp = true := by
      by_contra h
      exact hn (.inl (by simp [h]))
    dsimp only
    split
    · exact .inr ⟨hu, _, ⟨by simp, by simp, by simp, by simp, by simp, by simp⟩, .inl rfl⟩
    · exact .inr ⟨hu, _, ⟨by simp, by simp, by simp, by simp, by simp, by simp⟩, .inl rfl⟩
    · exact .inr ⟨hu, _, ⟨by simp, by simp, by simp, by simp, by simp, by simp⟩, .inl rfl⟩
    · exact .inr ⟨hu, _, ⟨rfl, rfl, rfl, rfl, rfl, rfl⟩, .inr rfl⟩
    · exact .inl rfl

theorem State.holdUpStage_pins (s : State) (g : HoldStage) (hs : s.pinsOk) :
    (s.holdUpStage g).pinsOk ∧ (s.pwr.holdUp = true → (s.holdUpStage g).pwr.holdUp = true) := by
  rcases s.holdUpStage_cases g with h | ⟨hu, u, hp, h | h⟩
  · rw [h]; exact ⟨hs, id⟩
  · rw [h]; exact ⟨hp.pinsOk ⟨hs.1, fun _ => hu⟩, fun hu => hp.holdUp.trans hu⟩
  · rw [h]; exact ⟨u.holdReset_pinsOk _ (hp.pinsOk ⟨hs.1, fun _ => hu⟩), fun hu => hp.holdUp.trans hu⟩

theorem State.holdUpStage_holdUp (s : State) (g : HoldStage) (hs : s.pwr.holdUp = true) : (s.holdUpStage g).pwr.holdUp = true := by
  rcases s.holdUpStage_cases g with h | ⟨-, u, hp, h | h⟩
  · rw [h]; exact hs
  · rw [h]; exact hp.holdUp.trans hs
  · rw [h]; exact hp.holdUp.trans hs

theorem State.escalate_cases (s : State) : s.escalate = s ∨ ∃ u, SamePins s u ∧ s.escalate = u.holdReset .alarm := by
  unfold State.escalate
  split
  · exact .inl rfl
  · exact .inr ⟨_, ⟨by simp, by simp, by simp, by simp, by simp, by simp⟩, rfl⟩

theorem State.clayFlush_pinsOf (s : State) (l) : (s.clayFlush l).pwr = s.pwr := by simp

theorem State.resetDeassert_pinsOk (s : State) (st : Straps) (hs : s.pinsOk) : (s.resetDeassert st).pinsOk := by
  unfold State.resetDeassert
  split
  · exact hs
  · refine ⟨fun h => ?_, fun h => ?_⟩
    · simp only [State.loadMap_frame, State.loadStraps_frame, State.clayReconcile_frame, State.clayFlush_frame, Bool.and_eq_true,
        Bool.not_eq_true', Bool.or_eq_false_iff, decide_eq_false_iff_not] at h
      obtain ⟨⟨h1, h2⟩, h3⟩ := h
      simp [State.up, h1, h2, h3, State.reset]
    · simp [State.reset] at h

theorem State.resetDeassert_pending (s : State) (st : Straps) : (s.resetDeassert st).pending = s.pending := by
  unfold State.resetDeassert
  split
  · rfl
  · simp

/-! ### Every command -/

/-- A command of the node, or a write to it: what it does to a node that is up, or that takes writes; else nothing. -/
theorem exec_guarded (c : Instr) (ho : c.outside = false) :
    (c.isWrite = false ∧ ∃ f, ∀ s, exec c s = whenUp s f) ∨ (c.isWrite = true ∧ ∃ f, ∀ s, exec c s = whenWr s f) := by
  cases hw : c.isWrite
  · refine .inl ⟨rfl, ?_⟩
    cases c
    case forceK e =>
      cases e
      · cases hw
      all_goals exact ⟨_, fun _ => rfl⟩
    case watchRegister w j t n g => cases w <;> exact ⟨_, fun _ => rfl⟩
    all_goals first | (cases ho; done) | (cases hw; done) | exact ⟨_, fun _ => rfl⟩
  · refine .inr ⟨rfl, ?_⟩
    cases c
    case forceK e =>
      cases e
      · exact ⟨_, fun _ => rfl⟩
      all_goals cases hw
    all_goals first | (cases hw; done) | exact ⟨_, fun _ => rfl⟩

theorem framed_of_up {c : Instr} {f : State → State} {s t : State} (hc : ∀ s, exec c s = whenUp s f) (h : exec c s = .next t)
    (hf : Framed c s (f s)) : Framed c s t := keeps_of_whenUp hc h (Framed.refl c s) (fun _ => hf)

theorem framed_of_wr {c : Instr} {f : State → State} {s t : State} (hc : ∀ s, exec c s = whenWr s f) (h : exec c s = .next t)
    (hf : Framed c s (f s)) : Framed c s t := keeps_of_whenWr hc h (Framed.refl c s) (fun _ => hf)

/-- The TAP and the outputs it drives may change, as long as a node that is down drives none. -/
theorem framed_of_jtag (c : Instr) (s : State) (j : Jtag) (d : Bool) (hd : d = true → s.up = true) :
    Framed c s { s with pwr := { s.pwr with jtag := j, driven := d } } :=
  ⟨rfl, fun _ => rfl, fun _ => rfl, fun hs => ⟨hd, hs.2⟩, fun _ h => h⟩

theorem Framed.emit {c : Instr} {s t : State} (h : Framed c s t) (o : Out) : Framed c s (t.emit o) := by
  unfold State.emit
  obtain ⟨hq, hk, hc, hp, hu⟩ := h
  split
  · exact ⟨hq, hk, hc, hp, hu⟩
  · exact ⟨hq, hk, hc, hp, hu⟩

theorem framed_jtagLoad (c : Instr) (s : State) (j : Jtag) : Framed c s (s.jtagLoad j) := by
  unfold State.jtagLoad
  split
  · exact framed_of_jtag c s j _ id
  · exact Framed.refl c s

theorem framed_jtagTest (c : Instr) (s : State) (j : Jtag) : Framed c s (s.jtagTest j) := by
  unfold State.jtagTest
  split
  · next h => exact framed_of_jtag c s j _ (fun _ => h.1)
  · exact framed_jtagLoad c s .bypass

theorem framed_outside (c : Instr) (s t : State) (ho : c.outside = true) (h : exec c s = .next t) : Framed c s t := by
  cases c
  all_goals first | (cases ho; done) | (obtain rfl := Host.Outcome.next.inj h)
  case resetAssert ns =>
    refine ⟨by simp, fun _ => by simp, fun _ => by simp, fun hs => ?_, fun _ hu => ?_⟩ <;> unfold State.resetAssert <;> split
    · exact hs
    · exact pinsOk_of_released rfl hs.2
    · exact hu
    · exact hu
  case resetDeassert st => exact ⟨s.resetDeassert_pending st, fun hc => (by cases hc), fun hc => (by cases hc), s.resetDeassert_pinsOk st, fun hc => (by cases hc)⟩
  case supplyRemoved =>
    exact ⟨by simp, fun _ => by simp, fun hc => (by cases hc), fun _ => pinsOk_of_released rfl (fun h => Bool.noConfusion h), fun hc => (by cases hc)⟩
  case powerUp =>
    refine ⟨by simp, fun _ => by simp, fun _ => by simp, fun hs => ?_, fun _ hu => ?_⟩ <;> unfold State.powerUp <;> split
    · exact hs
    · exact pinsOk_of_released rfl hs.2
    · exact hu
    · exact hu
  case pcieRefclkLoss => exact Framed.of_same (by simp) (fun _ => by simp) (fun _ => by simp) (by simp)
  case idcode =>
    split
    · exact (framed_jtagLoad _ s .idcode).emit _
    · exact Framed.refl _ s
  case bypass | samplePreload => exact framed_jtagLoad _ s _
  all_goals exact framed_jtagTest _ s _

theorem framed_up (c : Instr) (s t : State) (hw : c.isWrite = false) (ho : c.outside = false) (h : exec c s = .next t) : Framed c s t := by
  cases c
  all_goals try (first | (cases hw; done) | (cases ho; done))
  case pllLossOfLock => exact framed_of_up (fun _ => rfl) h ⟨by simp, fun _ => by simp, fun _ => by simp, fun hs => State.holdReset_pinsOk _ _ hs, fun _ h => h⟩
  case holdUp => exact framed_of_up (fun _ => rfl) h ⟨by simp, fun _ => by simp, fun _ => by simp, s.holdUp_pins, fun _ => s.holdUp_holdUp⟩
  case holdUpStage g => exact framed_of_up (fun _ => rfl) h ⟨by simp, fun _ => by simp, fun hc => (by cases hc), fun hs => (s.holdUpStage_pins g hs).1, fun _ => s.holdUpStage_holdUp g⟩
  case alarmEscalate =>
    refine framed_of_up (fun _ => rfl) h ⟨by simp, fun _ => by simp, fun hc => (by cases hc), fun hs => ?_, fun _ hu => ?_⟩ <;>
      obtain he | ⟨u, hp, he⟩ := s.escalate_cases <;> rw [he]
    · exact hs
    · exact u.holdReset_pinsOk _ (hp.pinsOk hs)
    · exact hu
    · exact hp.holdUp.trans hu
  case thermalSample l =>
    obtain ⟨u, hp, he⟩ := s.thermSample_samePins l
    refine framed_of_up (fun _ => rfl) h ⟨by simp, fun _ => by simp, fun _ => by simp, fun hs => ?_, fun _ hu => ?_⟩ <;> rw [he] <;> split
    · exact u.thermTrip_pinsOk (hp.pinsOk hs)
    · exact hp.pinsOk hs
    · exact hp.holdUp.trans hu
    · exact hp.holdUp.trans hu
  case forceK e => cases e <;> first | (cases hw; done) | exact framed_of_up (fun _ => rfl) h (Framed.of_same (by simp) (fun _ => by simp) (fun _ => by simp) (by simp))
  case watchRegister w j t n g => cases w <;> exact framed_of_up (fun _ => rfl) h (Framed.of_same (by simp) (fun _ => by simp) (fun _ => by simp) (by simp))
  case heartbeatMiss port =>
    refine framed_of_up (fun _ => rfl) h (Framed.of_same ?_ (fun _ => ?_) (fun _ => ?_) ?_) <;> dsimp only <;> (repeat' split) <;> simp
  case portId p peer =>
    refine framed_of_up (fun _ => rfl) h (Framed.of_same ?_ (fun _ => ?_) (fun _ => ?_) ?_) <;> dsimp only <;> (repeat' split) <;> simp
  case sedimentSlot l =>
    refine framed_of_up (fun _ => rfl) h (Framed.of_same (by simp) (fun _ => by simp) (fun hc => (by cases hc)) ?_)
    unfold State.inBackground; (repeat' split) <;> simp
  all_goals refine framed_of_up (fun _ => rfl) h (Framed.of_same ?_ (fun hc => ?_) (fun hc => ?_) ?_)
  all_goals first | (cases hc; done) | (simp; done) | (split <;> (try split) <;> simp; done) 

theorem framed_wr (c : Instr) (s t : State) (hw : c.isWrite = true) (h : exec c s = .next t) : Framed c s t := by
  cases c
  all_goals try (cases hw; done)
  case forceK e => cases e <;> first | (cases hw; done) | exact framed_of_wr (fun _ => rfl) h (Framed.of_same (by simp) (fun _ => by simp) (fun _ => by simp) (by simp))
  all_goals refine framed_of_wr (fun _ => rfl) h (Framed.of_same ?_ (fun hc => ?_) (fun hc => ?_) ?_)
  all_goals first | (cases hc; done) | (simp; done) | (split <;> (try split) <;> simp; done) 

/-- Every command keeps its frame. -/
theorem exec_framed (c : Instr) (s t : State) (h : exec c s = .next t) : Framed c s t := by
  cases ho : c.outside
  · cases hw : c.isWrite
    · exact framed_up c s t hw ho h
    · exact framed_wr c s t hw h
  · exact framed_outside c s t ho h

/-- Every command answers a next state. -/
theorem exec_goes (c : Instr) (s : State) : ∃ t, exec c s = .next t := by
  cases ho : c.outside
  · rcases exec_guarded c ho with ⟨-, f, hf⟩ | ⟨-, f, hf⟩
    · exact ⟨_, hf s⟩
    · exact ⟨_, hf s⟩
  · cases c
    all_goals first | (cases ho; done) | exact ⟨_, rfl⟩

/-- Settles O51: by the frame of every command. -/
theorem commandsGoThrough : Obligations.CommandsGoThrough := by
  intro c s
  obtain ⟨t, h⟩ := exec_goes c s
  exact ⟨t, h, (exec_framed c s t h).pending⟩

/-- Settles O53: by the frame of every command. -/
theorem holdUpStays : Obligations.HoldUpStays := by
  intro c s t hd hr hu h
  refine (exec_framed c s t h).holdUp ?_ hu
  cases c
  case resetDeassert st => exact absurd rfl (hd st)
  case supplyRemoved => exact absurd rfl hr
  all_goals rfl

/-- Settles O54: by the frame of every command. -/
theorem clockAndClayFrames : Obligations.ClockAndClayFrames :=
  ⟨fun c s t hc h => (exec_framed c s t h).clk hc, fun c s t hc h => (exec_framed c s t h).clay hc⟩

/-- Settles O55: with a command waiting by the frame of every command, else by the frame of the idle step. -/
theorem pinsStaySound : Obligations.PinsStaySound := by
  intro s t hs h
  unfold step at h
  split at h
  · obtain rfl := Host.Outcome.next.inj h
    have hp := (idle_frame s).1
    unfold State.pinsOk State.up at *
    rw [hp]
    exact hs
  · next c rest _ => exact (exec_framed c { s with pending := rest } t h).pins hs

/-- Settles O52: every command but those of the pins is guarded by the node being up, a write also by no hold-up. -/
theorem downAndHoldUp : Obligations.DownAndHoldUp := by
  refine ⟨fun c s ho hd => ?_, fun c s hw hu => ?_⟩
  · rcases exec_guarded c ho with ⟨-, f, hf⟩ | ⟨-, f, hf⟩
    · rw [hf, whenUp, hd, if_neg (by decide)]
    · rw [hf, whenWr, hd]
      simp
  · have ho : c.outside = false := by cases c <;> first | rfl | cases hw
    rcases exec_guarded c ho with ⟨h, -⟩ | ⟨-, f, hf⟩
    · exact absurd (h.symm.trans hw) (by decide)
    · rw [hf, whenWr, hu]
      simp

/-- Settles O49: a step takes the front of the queue. -/
theorem stepRunsTheFront : Obligations.StepRunsTheFront := fun _ _ => rfl

/-- A tick of domain time: the time is one later. -/
theorem State.tickAll_now (s : State) : s.tickAll.clk.now = s.clk.now + 1 := by
  unfold State.tickAll
  simp [State.tick]

/-- Settles O50: the idle step of a node that is up is a tick, whose frame is known. -/
theorem idleStep : Obligations.IdleStep := by
  refine ⟨fun s hq hd => ?_, fun s hq hu => ⟨s.tickAll, ?_, s.tickAll_now, by simp, by simp, by simpa using hq⟩⟩
  · unfold step idle
    rw [hq]
    simp [hd]
  · unfold step idle
    rw [hq]
    simp [hu]

/-- Settles O57: by evaluation of the reset state. -/
theorem resetValues : Obligations.ResetValues := by
  unfold Obligations.ResetValues
  have hp : State.reset.pinsOk := ⟨fun _ => by decide +kernel, fun h => Bool.noConfusion h⟩
  exact ⟨rfl, by decide +kernel, hp, Tests.test_reset_stores.2, rfl, by decide +kernel, rfl, rfl, by decide +kernel, rfl, rfl, rfl, rfl, rfl, rfl,
    rfl, by decide +kernel, by decide +kernel⟩

end Sys2Proof.Machine
end

section
/-!
PROOFS. Every command keeps the memories canonical (log entry 7): one lemma per function of the model, in the order of the definitions. A function
that writes no memory leaves `mems.wf` as it is (`…_memsWf` as an equation, or `…_mems`); one that writes keeps it.
-/

namespace Sys2Proof.Machine


@[simp] theorem Mem.wf_wr' (m a v) (h : Mem.wf m = true) : Mem.wf (Mem.wr m a v) = true := Mem.wf_wr m a v h

@[simp] theorem Mem.wf_wrN' (m a v) (h : Mem.wf m = true) : Mem.wf (Mem.wrN m a v) = true := Mem.wf_wrN m a v h

@[simp] theorem wf_winWrite' (m a w v) (h : Mem.wf m = true) : Mem.wf (winWrite m a w v) = true := wf_winWrite m a w v h

@[simp] theorem State.vector_memsWf (x0 x1) : (State.vector x0 x1).mems.wf = x0.mems.wf := by
  unfold State.vector; split <;> simp [Mems.wf]

@[simp] theorem upto_memsEq (f : Nat → State → State) (n : Nat) (s : State) (h : ∀ i s, (f i s).mems.wf = s.mems.wf) : (upto f n s).mems.wf = s.mems.wf := by
  induction n with
  | zero => rfl
  | succ n ih => simp only [upto, h, ih]

@[simp] theorem foldl_memsEq {α : Type} (f : State → α → State) (l : List α) (s : State) (h : ∀ s a, (f s a).mems.wf = s.mems.wf) : (l.foldl f s).mems.wf = s.mems.wf := by
  induction l generalizing s with
  | nil => rfl
  | cons a l ih => simp only [List.foldl_cons, ih, h]

@[simp] theorem upto_memsWf (f : Nat → State → State) (n : Nat) (s : State) (h : ∀ i s, s.mems.wf = true → (f i s).mems.wf = true) (hs : s.mems.wf = true) : (upto f n s).mems.wf = true := by
  induction n with
  | zero => exact hs
  | succ n ih => exact h n _ ih

@[simp] theorem foldl_memsWf {α : Type} (f : State → α → State) (l : List α) (s : State) (h : ∀ s a, s.mems.wf = true → (f s a).mems.wf = true) (hs : s.mems.wf = true) : (l.foldl f s).mems.wf = true := by
  induction l generalizing s with
  | nil => exact hs
  | cons a l ih => exact ih _ (h s a hs)

@[simp] theorem foldl_mem_wf {α : Type} (f : Mem → α → Mem) (l : List α) (m : Mem) (h : ∀ m a, Mem.wf m = true → Mem.wf (f m a) = true) (hm : Mem.wf m = true) : Mem.wf (l.foldl f m) = true := by
  induction l generalizing m with
  | nil => exact hm
  | cons a l ih => exact ih _ (h m a hm)

@[simp] theorem Mem.wf_filter {m : Mem} (p) (h : Mem.wf m = true) : Mem.wf (m.filter p) = true := swf_filter _ _ _ h

@[simp] theorem Mem.wf_nil : Mem.wf [] = true := rfl

@[simp] theorem foldl_io_memsWf {α : Type} (f : Io → α → Io) (l : List α) (s : Io) (h : ∀ s a, s.s.mems.wf = true → (f s a).s.mems.wf = true) (hs : s.s.mems.wf = true) : (l.foldl f s).s.mems.wf = true := by
  induction l generalizing s with
  | nil => exact hs
  | cons a l ih => exact ih _ (h s a hs)

@[simp] theorem State.vectorDue_memsWf (x0 x1) : (State.vectorDue x0 x1).mems.wf = x0.mems.wf := by
  unfold State.vectorDue; (try dsimp only); (repeat' split) <;> simp [*]

@[simp] theorem State.raise_memsWf (x0 x1) : (State.raise x0 x1).mems.wf = x0.mems.wf := by
  unfold State.raise; (try dsimp only); (repeat' split) <;> simp [*]

@[simp] theorem State.putRecord_memsWf (x0 x1 x2 x3 x4) : (State.putRecord x0 x1 x2 x3 x4).mems.wf = x0.mems.wf := by
  unfold State.putRecord; (try dsimp only); (repeat' split) <;> simp [*]

@[simp] theorem State.noteLost_memsWf (x0 x1) : (State.noteLost x0 x1).mems.wf = x0.mems.wf := by
  unfold State.noteLost; (try dsimp only); (repeat' split) <;> simp [*]

@[simp] theorem State.postTo_memsWf (x0 x1 x2 x3) : (State.postTo x0 x1 x2 x3).mems.wf = x0.mems.wf := by
  unfold State.postTo; (try dsimp only); (repeat' split) <;> simp [*]

@[simp] theorem State.flushHeld_memsWf (x0 x1 x2) : (State.flushHeld x0 x1 x2).mems.wf = x0.mems.wf := by
  induction x2 generalizing x0 x1 <;> simp only [State.flushHeld, *] <;> (repeat' split) <;> simp [*]

@[simp] theorem State.flushRing_memsWf (x0 x1) : (State.flushRing x0 x1).mems.wf = x0.mems.wf := by
  unfold State.flushRing; (try dsimp only); (repeat' split) <;> simp [*]

@[simp] theorem State.evtCfgWrite_memsWf (x0 x1 x2) : (State.evtCfgWrite x0 x1 x2).mems.wf = x0.mems.wf := by
  unfold State.evtCfgWrite; (try dsimp only); (repeat' split) <;> simp [*]

@[simp] theorem State.evtHeadWrite_memsWf (x0 x1 x2) : (State.evtHeadWrite x0 x1 x2).mems.wf = x0.mems.wf := by
  unfold State.evtHeadWrite; (try dsimp only); (repeat' split) <;> simp [*]

@[simp] theorem State.holdoffEnd_memsWf (x0 x1) : (State.holdoffEnd x0 x1).mems.wf = x0.mems.wf := by
  unfold State.holdoffEnd; (try dsimp only); (repeat' split) <;> simp [*]

@[simp] theorem State.faultAttach_mems (x0 x1 x2 x3 x4) : (State.faultAttach x0 x1 x2 x3 x4).mems = x0.mems := by
  unfold State.faultAttach; (try dsimp only); (repeat' split) <;> simp [*]

@[simp] theorem State.faultAbsent_mems (x0 x1 x2 x3) : (State.faultAbsent x0 x1 x2 x3).mems = x0.mems := by
  unfold State.faultAbsent; (try dsimp only); (repeat' split) <;> simp [*]

@[simp] theorem State.setPres_memsWf (x0 x1 x2 x3) (h : x0.mems.wf = true) : (State.setPres x0 x1 x2 x3).mems.wf = true := by
  unfold State.setPres; (try dsimp only); (repeat' split) <;> simp_all [Mems.wf]

@[simp] theorem State.presAll_memsWf (x0 x1 x2 x3) (h : x0.mems.wf = true) : (State.presAll x0 x1 x2 x3).mems.wf = true := by
  induction x3 generalizing x0 <;> simp only [State.presAll] <;> (repeat' split) <;> simp [*]

@[simp] theorem State.commitResult_mems (x0 x1) : (State.commitResult x0 x1).mems = x0.mems := by
  unfold State.commitResult; (try dsimp only); (repeat' split) <;> simp [*]

@[simp] theorem State.validEnd_mems (x0 x1) : (State.validEnd x0 x1).mems = x0.mems := by
  unfold State.validEnd; (try dsimp only); (repeat' split) <;> simp [*]

@[simp] theorem State.rtWrite_memsWf (x0 x1 x2 x3) (h : x0.mems.wf = true) : (State.rtWrite x0 x1 x2 x3).mems.wf = true := by
  unfold State.rtWrite; (try dsimp only); (repeat' split) <;> simp_all [Mems.wf]

@[simp] theorem State.loseSeed_mems (x0 x1 x2 x3) : (State.loseSeed x0 x1 x2 x3).mems = x0.mems := by
  unfold State.loseSeed; (try dsimp only); (repeat' split) <;> simp [*]

@[simp] theorem State.advTx_mems (x0 x1) : (State.advTx x0 x1).mems = x0.mems := by
  unfold State.advTx; (try dsimp only); (repeat' split) <;> simp [*]

@[simp] theorem State.advRx_mems (x0 x1) : (State.advRx x0 x1).mems = x0.mems := by
  unfold State.advRx; (try dsimp only); (repeat' split) <;> simp [*]

@[simp] theorem State.closeFrame_mems (x0 x1) : (State.closeFrame x0 x1).mems = x0.mems := by
  unfold State.closeFrame; (try dsimp only); (repeat' split) <;> simp [*]

@[simp] theorem State.armFire_mems (x0 x1) : (State.armFire x0 x1).mems = x0.mems := by
  unfold State.armFire; (try dsimp only); (repeat' split) <;> simp [*]

@[simp] theorem State.syncTo_mems (x0 x1) : (State.syncTo x0 x1).mems = x0.mems := by
  unfold State.syncTo; (try dsimp only); (repeat' split) <;> simp [*]

@[simp] theorem State.holdover_mems (x0) : (State.holdover x0).mems = x0.mems := by
  unfold State.holdover; (try dsimp only); (repeat' split) <;> simp [*]

@[simp] theorem State.becomeRoot_mems (x0) : (State.becomeRoot x0).mems = x0.mems := by
  unfold State.becomeRoot; (try dsimp only); (repeat' split) <;> simp [*]

@[simp] theorem State.dttRoots_mems (x0 x1) : (State.dttRoots x0 x1).mems = x0.mems := by
  unfold State.dttRoots; (try dsimp only); (repeat' split) <;> simp [*]

@[simp] theorem State.parentTimeout_mems (x0) : (State.parentTimeout x0).mems = x0.mems := by
  unfold State.parentTimeout; (try dsimp only); (repeat' split) <;> simp [*]

@[simp] theorem State.fireBar_mems (x0 x1) : (State.fireBar x0 x1).mems = x0.mems := by
  unfold State.fireBar; (try dsimp only); (repeat' split) <;> simp [*]

@[simp] theorem State.dtSyncEdge_mems (x0) : (State.dtSyncEdge x0).mems = x0.mems := by
  unfold State.dtSyncEdge; (try dsimp only); (repeat' split) <;> simp [*]

@[simp] theorem State.envRoot_mems (x0 x1 x2 x3) : (State.envRoot x0 x1 x2 x3).2.mems = x0.mems := by
  unfold State.envRoot; (try dsimp only); (repeat' split) <;> simp [*]

@[simp] theorem State.envCmd_mems (x0 x1) : (State.envCmd x0 x1).mems = x0.mems := by
  unfold State.envCmd; (try dsimp only); (repeat' split) <;> simp [*]

@[simp] theorem State.envForward_mems (x0 x1 x2 x3 x4) : (State.envForward x0 x1 x2 x3 x4).mems = x0.mems := by
  unfold State.envForward; (try dsimp only); (repeat' split) <;> simp [*]

@[simp] theorem State.stepPlan_mems (x0 x1) : (State.stepPlan x0 x1).mems = x0.mems := by
  unfold State.stepPlan; (try dsimp only); (repeat' split) <;> simp [*]

@[simp] theorem State.dilationStep_mems (x0) : (State.dilationStep x0).mems = x0.mems := by
  unfold State.dilationStep; (try dsimp only); (repeat' split) <;> simp [*]

@[simp] theorem State.writeSlot_memsWf (x0 x1 x2 x3 x4) (h : x0.mems.wf = true) : (State.writeSlot x0 x1 x2 x3 x4).mems.wf = true := by
  unfold State.writeSlot; (try dsimp only); (repeat' split) <;> simp_all [Mems.wf]

@[simp] theorem State.postQ_memsWf (x0 x1 x2 x3 x4 x5 x6) : (State.postQ x0 x1 x2 x3 x4 x5 x6).mems.wf = x0.mems.wf := by
  unfold State.postQ; (try dsimp only); (repeat' split) <;> simp [*]

@[simp] theorem State.faultDesc_memsWf (x0 x1 x2 x3 x4) : (State.faultDesc x0 x1 x2 x3 x4).mems.wf = x0.mems.wf := by
  unfold State.faultDesc; (try dsimp only); (repeat' split) <;> simp [*]

@[simp] theorem State.absentDesc_memsWf (x0 x1) : (State.absentDesc x0 x1).mems.wf = x0.mems.wf := by
  unfold State.absentDesc; (try dsimp only); (repeat' split) <;> simp [*]

@[simp] theorem State.pauseDesc_memsWf (x0 x1 x2 x3) (h : x0.mems.wf = true) : (State.pauseDesc x0 x1 x2 x3).mems.wf = true := by
  unfold State.pauseDesc; (try dsimp only); (repeat' split) <;> simp [*]

@[simp] theorem State.doneDesc_memsWf (x0 x1 x2) : (State.doneDesc x0 x1 x2).mems.wf = x0.mems.wf := by
  unfold State.doneDesc; (try dsimp only); (repeat' split) <;> simp [*]

@[simp] theorem State.completeDesc_memsWf (x0 x1 x2 x3) (h : x0.mems.wf = true) : (State.completeDesc x0 x1 x2 x3).mems.wf = true := by
  unfold State.completeDesc; (try dsimp only); (repeat' split) <;> simp [*]

@[simp] theorem State.signalled_memsWf (x0 x1 x2) : (State.signalled x0 x1 x2).mems.wf = x0.mems.wf := by
  unfold State.signalled; (try dsimp only); (repeat' split) <;> simp [*]

@[simp] theorem State.stopWaits_memsWf (x0 x1 x2) (h : x0.mems.wf = true) : (State.stopWaits x0 x1 x2).mems.wf = true := by
  induction x2 generalizing x0 x1 <;> simp only [State.stopWaits] <;> (repeat' split) <;> simp [*]

@[simp] theorem State.stopQueue_memsWf (x0 x1 x2) (h : x0.mems.wf = true) : (State.stopQueue x0 x1 x2).mems.wf = true := by
  unfold State.stopQueue; (try dsimp only); (repeat' split) <;> simp [*]

@[simp] theorem State.stopDescs_memsWf (x0 x1 x2) (h : x0.mems.wf = true) : (State.stopDescs x0 x1 x2).mems.wf = true := by
  induction x2 generalizing x0 x1 <;> simp only [State.stopDescs] <;> (repeat' split) <;> simp [*]

@[simp] theorem State.stopQueueJob_memsWf (x0 x1) (h : x0.mems.wf = true) : (State.stopQueueJob x0 x1).mems.wf = true := by
  unfold State.stopQueueJob; (try dsimp only); (repeat' split) <;> simp [*]

@[simp] theorem State.runQueue_memsWf (x0 x1) (h : x0.mems.wf = true) : (State.runQueue x0 x1).mems.wf = true := by
  unfold State.runQueue; (try dsimp only); (repeat' split) <;> simp [*]

@[simp] theorem State.queueCommit_memsWf (x0 x1 x2) (h : x0.mems.wf = true) : (State.queueCommit x0 x1 x2).mems.wf = true := by
  unfold State.queueCommit; (try dsimp only); (repeat' split) <;> simp [*]

@[simp] theorem State.queueIdle_memsWf (x0 x1) (h : x0.mems.wf = true) : (State.queueIdle x0 x1).mems.wf = true := by
  unfold State.queueIdle; (try dsimp only); (repeat' split) <;> simp [*]

@[simp] theorem State.queueError_memsWf (x0 x1 x2 x3) : (State.queueError x0 x1 x2 x3).mems.wf = x0.mems.wf := by
  unfold State.queueError; (try dsimp only); (repeat' split) <;> simp [*]

@[simp] theorem State.stopQueuesOf_memsWf (x0 x1 x2 x3) (h : x0.mems.wf = true) : (State.stopQueuesOf x0 x1 x2 x3).mems.wf = true := by
  induction x3 generalizing x0 <;> simp only [State.stopQueuesOf] <;> (repeat' split) <;> simp [*]

@[simp] theorem State.ttResult_mems (x0 x1 x2 x3) : (State.ttResult x0 x1 x2 x3).mems = x0.mems := by
  unfold State.ttResult; (try dsimp only); (repeat' split) <;> simp [*]

@[simp] theorem State.ttCheck_mems (x0 x1 x2) : (State.ttCheck x0 x1 x2).mems = x0.mems := by
  unfold State.ttCheck; (try dsimp only); (repeat' split) <;> simp [*]

@[simp] theorem State.ttDone_mems (x0) : (State.ttDone x0).mems = x0.mems := by
  unfold State.ttDone; (try dsimp only); (repeat' split) <;> simp [*]

@[simp] theorem State.ttWrite_memsWf (x0 x1 x2 x3) (h : x0.mems.wf = true) : (State.ttWrite x0 x1 x2 x3).mems.wf = true := by
  unfold State.ttWrite; (try dsimp only); (repeat' split) <;> simp_all [Mems.wf]

@[simp] theorem State.creditStall_mems (x0 x1 x2) : (State.creditStall x0 x1 x2).mems = x0.mems := by
  unfold State.creditStall; (try dsimp only); (repeat' split) <;> simp [*]

@[simp] theorem State.sendStaged_mems (x0 x1 x2 x3) : (State.sendStaged x0 x1 x2 x3).mems = x0.mems := by
  induction x3 generalizing x0 x1 x2 <;> simp only [State.sendStaged, *] <;> (repeat' split) <;> simp [*]

@[simp] theorem State.portSlot_mems (x0 x1) : (State.portSlot x0 x1).mems = x0.mems := by
  unfold State.portSlot; (try dsimp only); (repeat' split) <;> simp [*]

@[simp] theorem State.portsSlot_mems (x0) : (State.portsSlot x0).mems = x0.mems := by
  simp [State.portsSlot, apply_ite State.mems]

@[simp] theorem State.slotBoundary_mems (x0) : (State.slotBoundary x0).mems = x0.mems := by
  unfold State.slotBoundary; (try dsimp only); (repeat' split) <;> simp [*]

@[simp] theorem State.lateFlit_mems (x0 x1 x2) : (State.lateFlit x0 x1 x2).mems = x0.mems := by
  unfold State.lateFlit; (try dsimp only); (repeat' split) <;> simp [*]

@[simp] theorem State.schedArrive_mems (x0 x1 x2) : (State.schedArrive x0 x1 x2).mems = x0.mems := by
  unfold State.schedArrive; (try dsimp only); (repeat' split) <;> simp [*]

@[simp] theorem State.ttSwap_mems (x0) : (State.ttSwap x0).mems = x0.mems := by
  unfold State.ttSwap; (try dsimp only); (repeat' split) <;> simp [*]

@[simp] theorem State.escHold_mems (x0 x1 x2) : (State.escHold x0 x1 x2).mems = x0.mems := by
  unfold State.escHold; (try dsimp only); (repeat' split) <;> simp [*]

@[simp] theorem State.forward_mems (x0 x1 x2) : (State.forward x0 x1 x2).mems = x0.mems := by
  unfold State.forward; (try dsimp only); (repeat' split) <;> simp [*]

@[simp] theorem State.reroute_mems (x0) : (State.reroute x0).mems = x0.mems := by
  unfold State.reroute; (try dsimp only); (repeat' split) <;> simp [*]

@[simp] theorem State.requeue_mems (x0 x1) : (State.requeue x0 x1).mems = x0.mems := by
  unfold State.requeue; (try dsimp only); (repeat' split) <;> simp [*]

@[simp] theorem State.setGrpLive_memsWf (x0 x1 x2) (h : x0.mems.wf = true) : (State.setGrpLive x0 x1 x2).mems.wf = true := by
  unfold State.setGrpLive; (try dsimp only); (repeat' split) <;> simp_all [Mems.wf]

@[simp] theorem State.grpDone_memsWf (x0) (h : x0.mems.wf = true) : (State.grpDone x0).mems.wf = true := by
  unfold State.grpDone; (try dsimp only); (repeat' split) <;> simp [*]

@[simp] theorem State.setEhW_memsWf (x0 x1 x2 x3) (h : x0.mems.wf = true) : (State.setEhW x0 x1 x2 x3).mems.wf = true := by
  unfold State.setEhW; (try dsimp only); (repeat' split) <;> simp_all [Mems.wf]

@[simp] theorem State.emapDone_memsWf (x0 x1) (h : x0.mems.wf = true) : (State.emapDone x0 x1).mems.wf = true := by
  unfold State.emapDone; (try dsimp only); (repeat' split) <;> simp [*]

@[simp] theorem State.ewinWrite_memsWf (x0 x1 x2 x3) (h : x0.mems.wf = true) : (State.ewinWrite x0 x1 x2 x3).mems.wf = true := by
  unfold State.ewinWrite; (try dsimp only); (repeat' split) <;> simp_all [Mems.wf]

@[simp] theorem State.setExtW_memsWf (x0 x1 x2 x3) (h : x0.mems.wf = true) : (State.setExtW x0 x1 x2 x3).mems.wf = true := by
  unfold State.setExtW; (try dsimp only); (repeat' split) <;> simp_all [Mems.wf]

@[simp] theorem State.setExtF_memsWf (x0 x1 x2 x3 x4 x5) (h : x0.mems.wf = true) : (State.setExtF x0 x1 x2 x3 x4 x5).mems.wf = true := by
  unfold State.setExtF; (try dsimp only); (repeat' split) <;> simp [*]

@[simp] theorem State.setExtState_memsWf (x0 x1 x2) (h : x0.mems.wf = true) : (State.setExtState x0 x1 x2).mems.wf = true := by
  unfold State.setExtState; (try dsimp only); (repeat' split) <;> simp [*]

@[simp] theorem State.setExtAdmit_memsWf (x0 x1 x2) (h : x0.mems.wf = true) : (State.setExtAdmit x0 x1 x2).mems.wf = true := by
  unfold State.setExtAdmit; (try dsimp only); (repeat' split) <;> simp [*]

@[simp] theorem State.setDir_memsWf (x0 x1 x2 x3) (h : x0.mems.wf = true) : (State.setDir x0 x1 x2 x3).mems.wf = true := by
  unfold State.setDir; (try dsimp only); (repeat' split) <;> simp_all [Mems.wf]

@[simp] theorem State.postLost_mems (x0 x1) : (State.postLost x0 x1).mems = x0.mems := by
  unfold State.postLost; (try dsimp only); (repeat' split) <;> simp [*]

@[simp] theorem State.logLoss_memsWf (x0 x1 x2 x3 x4 x5) (h : x0.mems.wf = true) : (State.logLoss x0 x1 x2 x3 x4 x5).mems.wf = true := by
  unfold State.logLoss; (try dsimp only); (repeat' split) <;> simp_all [Mems.wf]

@[simp] theorem State.putGranule_memsWf (x0 x1 x2 x3 x4) (h : x0.mems.wf = true) : (State.putGranule x0 x1 x2 x3 x4).mems.wf = true := by
  unfold State.putGranule; (try dsimp only); (repeat' split) <;> simp_all [Mems.wf]

@[simp] theorem State.readGranules_mems (x0 x1 x2) : (State.readGranules x0 x1 x2).2.mems = x0.mems := by
  induction x2 generalizing x0 <;> simp only [State.readGranules, *] <;> (repeat' split) <;> simp [*]

@[simp] theorem State.poolRead_mems (x0 x1 x2 x3) : (State.poolRead x0 x1 x2 x3).2.mems = x0.mems := by
  unfold State.poolRead; (try dsimp only); (repeat' split) <;> simp [*]

@[simp] theorem State.writeGranules_memsWf (x0 x1 x2 x3 x4) (h : x0.mems.wf = true) : (State.writeGranules x0 x1 x2 x3 x4).mems.wf = true := by
  induction x4 generalizing x0 x2 x3 <;> simp only [State.writeGranules] <;> (repeat' split) <;> simp [*]

@[simp] theorem State.poolWrite_memsWf (x0 x1 x2 x3) (h : x0.mems.wf = true) : (State.poolWrite x0 x1 x2 x3).mems.wf = true := by
  unfold State.poolWrite; (try dsimp only); (repeat' split) <;> simp [*]

@[simp] theorem State.countCe_mems (x0 x1) : (State.countCe x0 x1).mems = x0.mems := by
  unfold State.countCe; (try dsimp only); (repeat' split) <;> simp [*]

@[simp] theorem State.countCes_mems (x0 x1 x2) : (State.countCes x0 x1 x2).mems = x0.mems := by
  induction x2 generalizing x0 <;> simp only [State.countCes, *] <;> (repeat' split) <;> simp [*]

@[simp] theorem State.extWinWrite_memsWf (x0 x1 x2 x3) (h : x0.mems.wf = true) : (State.extWinWrite x0 x1 x2 x3).mems.wf = true := by
  unfold State.extWinWrite; (try dsimp only); (repeat' split) <;> simp [*]

@[simp] theorem State.renewAll_memsWf (x0 x1) (h : x0.mems.wf = true) : (State.renewAll x0 x1).mems.wf = true := by
  induction x1 generalizing x0 <;> simp only [State.renewAll] <;> (repeat' split) <;> simp [*]

@[simp] theorem State.homCtl_memsWf (x0 x1) (h : x0.mems.wf = true) : (State.homCtl x0 x1).mems.wf = true := by
  unfold State.homCtl; (try dsimp only); (repeat' split) <;> simp [*]

@[simp] theorem State.exactAdd_memsWf (x0 x1 x2) (h : x0.mems.wf = true) : (State.exactAdd x0 x1 x2).mems.wf = true := by
  unfold State.exactAdd; (try dsimp only); (repeat' split) <;> simp_all [Mems.wf]

@[simp] theorem State.logAll_memsWf (x0 x1 x2 x3 x4) (h : x0.mems.wf = true) : (State.logAll x0 x1 x2 x3 x4).mems.wf = true := by
  induction x4 generalizing x0 x1 x3 <;> simp only [State.logAll] <;> (repeat' split) <;> simp [*]

@[simp] theorem State.execLoad_memsWf (x0 x1 x2 x3) (h : x0.mems.wf = true) : (State.execLoad x0 x1 x2 x3).mems.wf = true := by
  unfold State.execLoad; (try dsimp only); (repeat' split) <;> simp [*]

@[simp] theorem State.partLost_memsWf (x0 x1 x2 x3 x4) (h : x0.mems.wf = true) : (State.partLost x0 x1 x2 x3 x4).mems.wf = true := by
  unfold State.partLost; (try dsimp only); (repeat' split) <;> simp [*]

@[simp] theorem State.execStore_memsWf (x0 x1 x2 x3) (h : x0.mems.wf = true) : (State.execStore x0 x1 x2 x3).mems.wf = true := by
  unfold State.execStore; (try dsimp only); (repeat' split) <;> simp [*]

@[simp] theorem State.execAtomic_memsWf (x0 x1 x2 x3) (h : x0.mems.wf = true) : (State.execAtomic x0 x1 x2 x3).mems.wf = true := by
  unfold State.execAtomic; (try dsimp only); (repeat' split) <;> simp [*]

@[simp] theorem State.execSram_memsWf (x0 x1) (h : x0.mems.wf = true) : (State.execSram x0 x1).mems.wf = true := by
  unfold State.execSram; (try dsimp only); (repeat' split) <;> simp_all [Mems.wf]

@[simp] theorem State.capture_memsWf (x0 x1) (h : x0.mems.wf = true) : (State.capture x0 x1).mems.wf = true := by
  unfold State.capture; (try dsimp only); (repeat' split) <;> simp_all [Mems.wf]

@[simp] theorem State.mapDir_memsWf (x0 x1 x2 x3) (h : x0.mems.wf = true) : (State.mapDir x0 x1 x2 x3).mems.wf = true := by
  induction x3 generalizing x0 <;> simp only [State.mapDir] <;> (repeat' split) <;> simp [*]

@[simp] theorem State.execCoh_memsWf (x0 x1 x2 x3) (h : x0.mems.wf = true) : (State.execCoh x0 x1 x2 x3).mems.wf = true := by
  unfold State.execCoh; (try dsimp only); (repeat' split) <;> simp [*]

@[simp] theorem State.copyAnswer_mems (x0 x1) : (State.copyAnswer x0 x1).mems = x0.mems := by
  unfold State.copyAnswer; (try dsimp only); (repeat' split) <;> simp [*]

@[simp] theorem State.supply_memsWf (x0 x1) (h : x0.mems.wf = true) : (State.supply x0 x1).mems.wf = true := by
  unfold State.supply; (try dsimp only); (repeat' split) <;> simp [*]

@[simp] theorem State.serveMirror_mems (x0 x1 x2) : (State.serveMirror x0 x1 x2).mems = x0.mems := by
  unfold State.serveMirror; (try dsimp only); (repeat' split) <;> simp [*]

@[simp] theorem State.execCopy_memsWf (x0 x1) (h : x0.mems.wf = true) : (State.execCopy x0 x1).mems.wf = true := by
  unfold State.execCopy; (try dsimp only); (repeat' split) <;> simp [*]

@[simp] theorem State.drainCopies_memsWf (x0 x1) (h : x1.mems.wf = true) : (State.drainCopies x0 x1).mems.wf = true := by
  induction x0 generalizing x1 <;> simp only [State.drainCopies] <;> (repeat' split) <;> simp [*]

@[simp] theorem State.writeCopy_memsWf (x0 x1) (h : x0.mems.wf = true) : (State.writeCopy x0 x1).mems.wf = true := by
  unfold State.writeCopy; (try dsimp only); (repeat' split) <;> simp [*]

@[simp] theorem State.mirrorEnd_mems (x0 x1) : (State.mirrorEnd x0 x1).mems = x0.mems := by
  unfold State.mirrorEnd; (try dsimp only); (repeat' split) <;> simp [*]

@[simp] theorem State.granuleAnswer_memsWf (x0 x1 x2 x3 x4) (h : x0.mems.wf = true) : (State.granuleAnswer x0 x1 x2 x3 x4).2.mems.wf = true := by
  unfold State.granuleAnswer; (try dsimp only); (repeat' split) <;> simp [*]

@[simp] theorem State.mirrorAnswer_memsWf (x0 x1 x2 x3 x4) (h : x0.mems.wf = true) : (State.mirrorAnswer x0 x1 x2 x3 x4).mems.wf = true := by
  unfold State.mirrorAnswer; (try dsimp only); (repeat' split) <;> simp [*]

@[simp] theorem State.wearOne_mems (x0 x1) : (State.wearOne x0 x1).mems = x0.mems := by
  unfold State.wearOne; (try dsimp only); (repeat' split) <;> simp [*]

@[simp] theorem State.nodeClay_mems (x0 x1 x2) : (State.nodeClay x0 x1 x2).mems = x0.mems := by
  unfold State.nodeClay; (try dsimp only); (repeat' split) <;> simp [*]

@[simp] theorem State.clayWrite_mems (x0 x1 x2) : (State.clayWrite x0 x1 x2).mems = x0.mems := by
  unfold State.clayWrite; (try dsimp only); (repeat' split) <;> simp [*]

@[simp] theorem State.clayDone_mems (x0 x1 x2) : (State.clayDone x0 x1 x2).mems = x0.mems := by
  unfold State.clayDone; (try dsimp only); (repeat' split) <;> simp [*]

@[simp] theorem State.clayFlush_mems (x0 x1) : (State.clayFlush x0 x1).mems = x0.mems := by
  induction x1 generalizing x0 <;> simp only [State.clayFlush, *] <;> (repeat' split) <;> simp [*]

@[simp] theorem State.putWords_mems (x0 x1 x2) : (State.putWords x0 x1 x2).mems = x0.mems := by
  induction x2 generalizing x0 x1 <;> simp only [State.putWords, *] <;> (repeat' split) <;> simp [*]

@[simp] theorem State.writeMap_mems (x0) : (State.writeMap x0).mems = x0.mems := by
  unfold State.writeMap; (try dsimp only); (repeat' split) <;> simp [*]

@[simp] theorem State.loadMap_mems (x0) : (State.loadMap x0).mems = x0.mems := by
  unfold State.loadMap; (try dsimp only); (repeat' split) <;> simp [*]

@[simp] theorem State.tileFail_mems (x0 x1) : (State.tileFail x0 x1).mems = x0.mems := by
  unfold State.tileFail; (try dsimp only); (repeat' split) <;> simp [*]

@[simp] theorem State.substitute_mems (x0 x1) : (State.substitute x0 x1).mems = x0.mems := by
  unfold State.substitute; (try dsimp only); (repeat' split) <;> simp [*]

@[simp] theorem State.spareResult_mems (x0 x1 x2) : (State.spareResult x0 x1 x2).mems = x0.mems := by
  unfold State.spareResult; (try dsimp only); (repeat' split) <;> simp [*]

@[simp] theorem State.spareDone_mems (x0 x1) : (State.spareDone x0 x1).mems = x0.mems := by
  unfold State.spareDone; (try dsimp only); (repeat' split) <;> simp [*]

@[simp] theorem State.workWrite_memsWf (x0 x1 x2 x3) (h : x0.mems.wf = true) : (State.workWrite x0 x1 x2 x3).mems.wf = true := by
  unfold State.workWrite; (try dsimp only); (repeat' split) <;> simp_all [Mems.wf]

@[simp] theorem State.dopLost_mems (x0 x1) : (State.dopLost x0 x1).mems = x0.mems := by
  unfold State.dopLost; (try dsimp only); (repeat' split) <;> simp [*]

@[simp] theorem State.leaderStep_mems (x0 x1 x2 x3) : (State.leaderStep x0 x1 x2 x3).mems = x0.mems := by
  simp [State.leaderStep, apply_ite State.mems]

@[simp] theorem State.followStep_memsWf (x0 x1 x2 x3 x4 x5) (h : x0.mems.wf = true) : (State.followStep x0 x1 x2 x3 x4 x5).mems.wf = true := by
  unfold State.followStep; (try dsimp only); (repeat' split) <;> simp [*]

@[simp] theorem State.dopDiffer_mems (x0 x1 x2 x3) : (State.dopDiffer x0 x1 x2 x3).mems = x0.mems := by
  induction x3 generalizing x0 x1 x2 <;> simp only [State.dopDiffer, *] <;> (repeat' split) <;> simp [*]

@[simp] theorem State.dopCompare_mems (x0 x1 x2) : (State.dopCompare x0 x1 x2).mems = x0.mems := by
  unfold State.dopCompare; (try dsimp only); (repeat' split) <;> simp [*]

@[simp] theorem State.zeroKept_memsWf (x0 x1) (h : x0.mems.wf = true) : (State.zeroKept x0 x1).mems.wf = true := by
  unfold State.zeroKept; (try dsimp only); (repeat' split) <;> simp_all [Mems.wf]

@[simp] theorem State.dropRun_memsWf (x0 x1) (h : x0.mems.wf = true) : (State.dropRun x0 x1).mems.wf = true := by
  unfold State.dropRun; (try dsimp only); (repeat' split) <;> simp [*]

@[simp] theorem State.postRun_mems (x0 x1 x2 x3 x4) : (State.postRun x0 x1 x2 x3 x4).mems = x0.mems := by
  unfold State.postRun; (try dsimp only); (repeat' split) <;> simp [*]

@[simp] theorem State.abortRun_memsWf (x0 x1 x2 x3 x4) (h : x0.mems.wf = true) : (State.abortRun x0 x1 x2 x3 x4).mems.wf = true := by
  unfold State.abortRun; (try dsimp only); (repeat' split) <;> simp [*]

@[simp] theorem State.abortTile_memsWf (x0 x1) (h : x0.mems.wf = true) : (State.abortTile x0 x1).mems.wf = true := by
  unfold State.abortTile
  exact foldl_memsWf _ _ _ (fun t r ht => by simp [ht]) (foldl_memsWf _ _ _ (fun t x ht => by simp [ht]) h)

@[simp] theorem State.mismatchRun_memsWf (x0 x1 x2 x3) (h : x0.mems.wf = true) : (State.mismatchRun x0 x1 x2 x3).mems.wf = true := by
  unfold State.mismatchRun; (try dsimp only); (repeat' split) <;> simp [*]

@[simp] theorem State.verdictRun_memsWf (x0 x1) (h : x0.mems.wf = true) : (State.verdictRun x0 x1).mems.wf = true := by
  unfold State.verdictRun; (try dsimp only); (repeat' split) <;> simp [*]

@[simp] theorem State.recArrive_memsWf (x0 x1 x2) (h : x0.mems.wf = true) : (State.recArrive x0 x1 x2).mems.wf = true := by
  unfold State.recArrive; (try dsimp only); (repeat' split) <;> simp [*]

@[simp] theorem State.collHeld_mems (x0 x1) : (State.collHeld x0 x1).mems = x0.mems := by
  unfold State.collHeld; (try dsimp only); (repeat' split) <;> simp [*]

@[simp] theorem State.abortArrive_memsWf (x0 x1 x2 x3 x4) (h : x0.mems.wf = true) : (State.abortArrive x0 x1 x2 x3 x4).mems.wf = true := by
  unfold State.abortArrive; (try dsimp only); (repeat' split) <;> simp [*]

@[simp] theorem State.dropRunsOf_memsWf (x0 x1 x2) (h : x0.mems.wf = true) : (State.dropRunsOf x0 x1 x2).mems.wf = true := by
  unfold State.dropRunsOf
  exact foldl_memsWf _ _ _ (fun t r ht => by simp [ht]) h

@[simp] theorem State.expelRuns_memsWf (x0 x1) (h : x0.mems.wf = true) : (State.expelRuns x0 x1).mems.wf = true := by
  unfold State.expelRuns
  exact foldl_memsWf _ _ _ (fun t r ht => by simp [ht]) h

@[simp] theorem State.loseTile_memsWf (x0 x1) (h : x0.mems.wf = true) : (State.loseTile x0 x1).mems.wf = true := by
  unfold State.loseTile; (try dsimp only); (repeat' split) <;> simp [*]

@[simp] theorem State.tileWrite_memsWf (x0 x1 x2) (h : x0.mems.wf = true) : (State.tileWrite x0 x1 x2).mems.wf = true := by
  unfold State.tileWrite; (try dsimp only); (repeat' split) <;> simp [*]

@[simp] theorem State.stepDone_memsWf (x0 x1 x2) (h : x0.mems.wf = true) : (State.stepDone x0 x1 x2).mems.wf = true := by
  unfold State.stepDone; (try dsimp only); (repeat' split) <;> simp [*]

@[simp] theorem State.tileStep_memsWf (x0 x1 x2) (h : x0.mems.wf = true) : (State.tileStep x0 x1 x2).mems.wf = true := by
  unfold State.tileStep; (try dsimp only); (repeat' split) <;> simp [*]

@[simp] theorem State.park_memsWf (x0 x1 x2 x3) : (State.park x0 x1 x2 x3).mems.wf = x0.mems.wf := by
  unfold State.park; (try dsimp only); (repeat' split) <;> simp [*]

@[simp] theorem State.parkAt_memsWf (x0 x1 x2 x3 x4) (h : x0.mems.wf = true) : (State.parkAt x0 x1 x2 x3 x4).mems.wf = true := by
  unfold State.parkAt; (try dsimp only); (repeat' split) <;> simp [*]

@[simp] theorem State.applyXlate_memsWf (x0 x1 x2) (h : x0.mems.wf = true) : (State.applyXlate x0 x1 x2).mems.wf = true := by
  unfold State.applyXlate; (try dsimp only); (repeat' split) <;> simp [*]

@[simp] theorem State.wakeQueues_memsWf (x0 x1) (h : x0.mems.wf = true) : (State.wakeQueues x0 x1).mems.wf = true := by
  induction x1 generalizing x0 with
  | nil => exact h
  | cons q qs ih => exact ih _ (foldl_memsWf _ _ _ (fun t d ht => by simp [ht]) h)

@[simp] theorem State.parkMems_memsWf (x0 x1 x2) (h : x0.mems.wf = true) : (State.parkMems x0 x1 x2).mems.wf = true := by
  unfold State.parkMems
  have hp := foldl_memsWf (fun s x => s.parkAt x.1.2.1.toNat x.1.2.2 x.2 (fun d => { d with prog := x1.done })) x2 x0 (fun t x ht => by simp [ht]) h
  simp [hp]

@[simp] theorem State.truncOnce_mems (x0 x1 x2) : (State.truncOnce x0 x1 x2).mems = x0.mems := by
  unfold State.truncOnce; (try dsimp only); (repeat' split) <;> simp [*]

@[simp] theorem Io.writePairs_mems (x0 x1 x2 x3 x4) : (Io.writePairs x0 x1 x2 x3 x4).2.s.mems = x4.s.mems := by
  unfold Io.writePairs; (try dsimp only); (repeat' split) <;> simp [*]

@[simp] theorem State.stopRun_memsWf (x0 x1 x2) (h : x0.mems.wf = true) : (State.stopRun x0 x1 x2).mems.wf = true := by
  unfold State.stopRun; (try dsimp only); (repeat' split) <;> simp [*]

@[simp] theorem State.countDecisions_mems (x0 x1 x2) : (State.countDecisions x0 x1 x2).mems = x0.mems := by
  unfold State.countDecisions; (try dsimp only); (repeat' split) <;> simp [*]

@[simp] theorem State.combineRead_mems (x0 x1 x2 x3 x4) : (State.combineRead x0 x1 x2 x3 x4).2.s.mems = x4.s.mems := by
  unfold State.combineRead; (try dsimp only); (repeat' split) <;> simp [*]

@[simp] theorem State.haltJob_memsWf (x0 x1 x2) (h : x0.mems.wf = true) : (State.haltJob x0 x1 x2).mems.wf = true := by
  unfold State.haltJob; (try dsimp only); (repeat' split) <;> simp [*]

@[simp] theorem State.stopHere_memsWf (x0 x1 x2 x3 x4) (h : x0.mems.wf = true) : (State.stopHere x0 x1 x2 x3 x4).mems.wf = true := by
  unfold State.stopHere; (try dsimp only); (repeat' split) <;> simp [*]

@[simp] theorem State.jobAct_memsWf (x0 x1 x2) (h : x0.mems.wf = true) : (State.jobAct x0 x1 x2).mems.wf = true := by
  unfold State.jobAct; (try dsimp only); (repeat' split) <;> simp [*]

@[simp] theorem State.stopArrive_memsWf (x0 x1) (h : x0.mems.wf = true) : (State.stopArrive x0 x1).mems.wf = true := by
  unfold State.stopArrive; (try dsimp only); (repeat' split) <;> simp [*]

@[simp] theorem State.jobCmd_memsWf (x0 x1 x2 x3) (h : x0.mems.wf = true) : (State.jobCmd x0 x1 x2 x3).mems.wf = true := by
  unfold State.jobCmd; (try dsimp only); (repeat' split) <;> simp [*]

@[simp] theorem State.lostJob_memsWf (x0 x1) (h : x0.mems.wf = true) : (State.lostJob x0 x1).mems.wf = true := by
  unfold State.lostJob; (try dsimp only); (repeat' split) <;> simp [*]

@[simp] theorem State.declareDown_mems (x0 x1 x2) : (State.declareDown x0 x1 x2).mems = x0.mems := by
  unfold State.declareDown; (try dsimp only); (repeat' split) <;> simp [*]

@[simp] theorem State.reportDown_mems (x0 x1) : (State.reportDown x0 x1).mems = x0.mems := by
  unfold State.reportDown; (try dsimp only); (repeat' split) <;> simp [*]

@[simp] theorem State.linkFail_mems (x0 x1) : (State.linkFail x0 x1).mems = x0.mems := by
  unfold State.linkFail; (try dsimp only); (repeat' split) <;> simp [*]

@[simp] theorem State.portOff_mems (x0 x1) : (State.portOff x0 x1).mems = x0.mems := by
  unfold State.portOff; (try dsimp only); (repeat' split) <;> simp [*]

@[simp] theorem State.portEnable_mems (x0 x1 x2) : (State.portEnable x0 x1 x2).mems = x0.mems := by
  unfold State.portEnable; (try dsimp only); (repeat' split) <;> simp [*]

@[simp] theorem State.retrain_mems (x0 x1) : (State.retrain x0 x1).mems = x0.mems := by
  unfold State.retrain; (try dsimp only); (repeat' split) <;> simp [*]

@[simp] theorem State.trainFail_mems (x0 x1) : (State.trainFail x0 x1).mems = x0.mems := by
  unfold State.trainFail; (try dsimp only); (repeat' split) <;> simp [*]

@[simp] theorem State.phaseDone_mems (x0 x1 x2) : (State.phaseDone x0 x1 x2).mems = x0.mems := by
  simp [State.phaseDone, apply_ite State.mems]

@[simp] theorem State.portUp_mems (x0 x1 x2) : (State.portUp x0 x1 x2).mems = x0.mems := by
  unfold State.portUp; (try dsimp only); (repeat' split) <;> simp [*]

@[simp] theorem State.checkPortId_mems (x0 x1 x2) : (State.checkPortId x0 x1 x2).mems = x0.mems := by
  unfold State.checkPortId; (try dsimp only); (repeat' split) <;> simp [*]

@[simp] theorem State.portIdArrive_mems (x0 x1 x2) : (State.portIdArrive x0 x1 x2).mems = x0.mems := by
  unfold State.portIdArrive; (try dsimp only); (repeat' split) <;> simp [*]

@[simp] theorem State.laneFail_mems (x0 x1 x2 x3) : (State.laneFail x0 x1 x2 x3).mems = x0.mems := by
  unfold State.laneFail; (try dsimp only); (repeat' split) <;> simp [*]

@[simp] theorem State.corrected_mems (x0 x1 x2 x3) : (State.corrected x0 x1 x2 x3).mems = x0.mems := by
  unfold State.corrected; (try dsimp only); (repeat' split) <;> simp [*]

@[simp] theorem State.comma_mems (x0 x1 x2 x3) : (State.comma x0 x1 x2 x3).mems = x0.mems := by
  unfold State.comma; (try dsimp only); (repeat' split) <;> simp [*]

@[simp] theorem State.fecGroup_mems (x0 x1 x2 x3) : (State.fecGroup x0 x1 x2 x3).mems = x0.mems := by
  simp [State.fecGroup, apply_ite State.mems]

@[simp] theorem State.sendNak_mems (x0 x1) : (State.sendNak x0 x1).mems = x0.mems := by
  unfold State.sendNak; (try dsimp only); (repeat' split) <;> simp [*]

@[simp] theorem State.flitArrive_mems (x0 x1 x2) : (State.flitArrive x0 x1 x2).mems = x0.mems := by
  unfold State.flitArrive; (try dsimp only); (repeat' split) <;> simp [*]

@[simp] theorem State.nakArrive_mems (x0 x1 x2) : (State.nakArrive x0 x1 x2).mems = x0.mems := by
  unfold State.nakArrive; (try dsimp only); (repeat' split) <;> simp [*]

@[simp] theorem State.nakTimeout_mems (x0 x1) : (State.nakTimeout x0 x1).mems = x0.mems := by
  unfold State.nakTimeout; (try dsimp only); (repeat' split) <;> simp [*]

@[simp] theorem State.crcSilence_mems (x0 x1) : (State.crcSilence x0 x1).mems = x0.mems := by
  unfold State.crcSilence; (try dsimp only); (repeat' split) <;> simp [*]

@[simp] theorem State.recTail_memsWf (x0 x1 x2) : (State.recTail x0 x1 x2).mems.wf = x0.mems.wf := by
  unfold State.recTail; (try dsimp only); (repeat' split) <;> simp [*]

@[simp] theorem State.recDone_memsWf (x0 x1 x2) : (State.recDone x0 x1 x2).mems.wf = x0.mems.wf := by
  unfold State.recDone; (try dsimp only); (repeat' split) <;> simp [*]

@[simp] theorem State.recSignalled_memsWf (x0 x1 x2) : (State.recSignalled x0 x1 x2).mems.wf = x0.mems.wf := by
  unfold State.recSignalled; (try dsimp only); (repeat' split) <;> simp [*]

@[simp] theorem State.recEnd_memsWf (x0 x1 x2 x3 x4) : (State.recEnd x0 x1 x2 x3 x4).mems.wf = x0.mems.wf := by
  unfold State.recEnd; (try dsimp only); (repeat' split) <;> simp [*]

@[simp] theorem State.chFail_memsWf (x0 x1 x2) : (State.chFail x0 x1 x2).mems.wf = x0.mems.wf := by
  unfold State.chFail; (try dsimp only); (repeat' split) <;> simp [*]

@[simp] theorem State.chAgain_memsWf (x0 x1 x2 x3) : (State.chAgain x0 x1 x2 x3).mems.wf = x0.mems.wf := by
  unfold State.chAgain; (try dsimp only); (repeat' split) <;> simp [*]

@[simp] theorem State.chTimeout_memsWf (x0 x1 x2) : (State.chTimeout x0 x1 x2).mems.wf = x0.mems.wf := by
  unfold State.chTimeout; (try dsimp only); (repeat' split) <;> simp [*]

@[simp] theorem State.recStart_memsWf (x0 x1 x2 x3 x4) : (State.recStart x0 x1 x2 x3 x4).mems.wf = x0.mems.wf := by
  unfold State.recStart; (try dsimp only); (repeat' split) <;> simp [*]

@[simp] theorem State.msgPart_mems (x0 x1 x2 x3 x4) : (State.msgPart x0 x1 x2 x3 x4).mems = x0.mems := by
  unfold State.msgPart; (try dsimp only); (repeat' split) <;> simp [*]

@[simp] theorem State.takePut_mems (x0 x1 x2) : (State.takePut x0 x1 x2).1.mems = x0.mems := by
  unfold State.takePut; (try dsimp only); (repeat' split) <;> simp [*]

@[simp] theorem State.takeGetResp_memsWf (x0 x1 x2) : (State.takeGetResp x0 x1 x2).1.mems.wf = x0.mems.wf := by
  unfold State.takeGetResp; (try dsimp only); (repeat' split) <;> simp [*]

@[simp] theorem State.takeSend_mems (x0 x1 x2 x3) : (State.takeSend x0 x1 x2 x3).1.mems = x0.mems := by
  unfold State.takeSend; (try dsimp only); (repeat' split) <;> simp [*]

@[simp] theorem State.ackedPkt_memsWf (x0 x1 x2) : (State.ackedPkt x0 x1 x2).mems.wf = x0.mems.wf := by
  unfold State.ackedPkt; (try dsimp only); (repeat' split) <;> simp [*]

@[simp] theorem State.spillNak_memsWf (x0 x1 x2) : (State.spillNak x0 x1 x2).mems.wf = x0.mems.wf := by
  unfold State.spillNak; (try dsimp only); (repeat' split) <;> simp [*]

@[simp] theorem State.ethLink_mems (x0 x1 x2) : (State.ethLink x0 x1 x2).mems = x0.mems := by
  unfold State.ethLink; (try dsimp only); (repeat' split) <;> simp [*]

@[simp] theorem State.ethCtlP_mems (x0 x1 x2) : (State.ethCtlP x0 x1 x2).mems = x0.mems := by
  unfold State.ethCtlP; (try dsimp only); (repeat' split) <;> simp [*]

@[simp] theorem State.snoopUnmapped_memsWf (x0 x1) (h : x0.mems.wf = true) : (State.snoopUnmapped x0 x1).mems.wf = true := by
  unfold State.snoopUnmapped; (try dsimp only); (repeat' split) <;> simp [*]

@[simp] theorem State.snoopArrive_memsWf (x0 x1) (h : x0.mems.wf = true) : (State.snoopArrive x0 x1).mems.wf = true := by
  unfold State.snoopArrive; (try dsimp only); (repeat' split) <;> simp [*]

@[simp] theorem State.flushSnoops_memsWf (x0 x1) (h : x0.mems.wf = true) : (State.flushSnoops x0 x1).mems.wf = true := by
  unfold State.flushSnoops
  exact foldl_memsWf _ _ _ (fun t p ht => by simp [ht]) h

@[simp] theorem State.completeEnt_memsWf (x0 x1 x2 x3 x4 x5 x6) (h : x0.mems.wf = true) : (State.completeEnt x0 x1 x2 x3 x4 x5 x6).mems.wf = true := by
  unfold State.completeEnt; (try dsimp only); (repeat' split) <;> simp [*]

@[simp] theorem State.releaseEnt_memsWf (x0 x1 x2) (h : x0.mems.wf = true) : (State.releaseEnt x0 x1 x2).mems.wf = true := by
  unfold State.releaseEnt; (try dsimp only); (repeat' split) <;> simp [*]

@[simp] theorem State.pacedRelease_memsWf (x0 x1 x2) (h : x0.mems.wf = true) : (State.pacedRelease x0 x1 x2).mems.wf = true := by
  induction x2 generalizing x0 <;> simp only [State.pacedRelease] <;> (repeat' split) <;> simp [*]

@[simp] theorem State.ownDone_memsWf (x0 x1 x2) (h : x0.mems.wf = true) : (State.ownDone x0 x1 x2).mems.wf = true := by
  unfold State.ownDone; (try dsimp only); (repeat' split) <;> simp [*]

@[simp] theorem State.completionArrive_memsWf (x0 x1) (h : x0.mems.wf = true) : (State.completionArrive x0 x1).mems.wf = true := by
  unfold State.completionArrive; (try dsimp only); (repeat' split) <;> simp [*]

@[simp] theorem State.stopFetched_memsWf (x0 x1 x2) (h : x0.mems.wf = true) : (State.stopFetched x0 x1 x2).mems.wf = true := by
  unfold State.stopFetched; (try dsimp only); (repeat' split) <;> simp [*]

@[simp] theorem State.fetched_memsWf (x0 x1 x2) (h : x0.mems.wf = true) : (State.fetched x0 x1 x2).mems.wf = true := by
  unfold State.fetched; (try dsimp only); (repeat' split) <;> simp [*]

@[simp] theorem State.fetchDone_memsWf (x0 x1 x2) (h : x0.mems.wf = true) : (State.fetchDone x0 x1 x2).mems.wf = true := by
  unfold State.fetchDone; (try dsimp only); (repeat' split) <;> simp [*]

@[simp] theorem Io.settle_memsWf (x0 x1 x2) (h : x0.s.mems.wf = true) : (Io.settle x0 x1 x2).mems.wf = true := by
  unfold Io.settle; (try dsimp only); (repeat' split) <;> simp [*]

@[simp] theorem State.armFresh_memsWf (x0 x1 x2) (h : x0.mems.wf = true) : (State.armFresh x0 x1 x2).2.mems.wf = true := by
  unfold State.armFresh; (try dsimp only); (repeat' split) <;> simp [*]

@[simp] theorem State.armSignal_mems (x0 x1 x2 x3) : (State.armSignal x0 x1 x2 x3).mems = x0.mems := by
  unfold State.armSignal; (try dsimp only); (repeat' split) <;> simp [*]

@[simp] theorem State.pageBoundary_memsWf (x0 x1 x2 x3) (h : x0.mems.wf = true) : (State.pageBoundary x0 x1 x2 x3).mems.wf = true := by
  unfold State.pageBoundary; (try dsimp only); (repeat' split) <;> simp [*]

@[simp] theorem State.descComplete_memsWf (x0 x1 x2) (h : x0.mems.wf = true) : (State.descComplete x0 x1 x2).mems.wf = true := by
  unfold State.descComplete; (try dsimp only); (repeat' split) <;> simp [*]

@[simp] theorem State.recall_memsWf (x0 x1 x2 x3) (h : x0.mems.wf = true) : (State.recall x0 x1 x2 x3).mems.wf = true := by
  induction x3 generalizing x0 x1 <;> simp only [State.recall] <;> (repeat' split) <;> simp [*]

@[simp] theorem State.breakMirror_memsWf (x0 x1) (h : x0.mems.wf = true) : (State.breakMirror x0 x1).mems.wf = true := by
  unfold State.breakMirror; (try dsimp only); (repeat' split) <;> simp [*]

@[simp] theorem State.mackArrive_memsWf (x0 x1) (h : x0.mems.wf = true) : (State.mackArrive x0 x1).mems.wf = true := by
  unfold State.mackArrive; (try dsimp only); (repeat' split) <;> simp [*]

@[simp] theorem State.dropStep_memsWf (x0 x1) (h : x0.mems.wf = true) : (State.dropStep x0 x1).mems.wf = true := by
  unfold State.dropStep; (try dsimp only); (repeat' split) <;> simp [*]

@[simp] theorem State.startReclaim_memsWf (x0 x1) (h : x0.mems.wf = true) : (State.startReclaim x0 x1).mems.wf = true := by
  unfold State.startReclaim; (try dsimp only); (repeat' split) <;> simp [*]

@[simp] theorem State.lapse_memsWf (x0 x1) (h : x0.mems.wf = true) : (State.lapse x0 x1).mems.wf = true := by
  unfold State.lapse; (try dsimp only); (repeat' split) <;> simp [*]

@[simp] theorem State.leaseLapse_memsWf (x0 x1) (h : x0.mems.wf = true) : (State.leaseLapse x0 x1).mems.wf = true := by
  unfold State.leaseLapse; (try dsimp only); (repeat' split) <;> simp [*]

@[simp] theorem State.revoke_memsWf (x0 x1 x2) (h : x0.mems.wf = true) : (State.revoke x0 x1 x2).mems.wf = true := by
  have ha := State.setExtAdmit_memsWf x0 x1 ((x0.ext x1).admitGens &&& ~~~ BitVec.ofNat 2 (2 ^ b2n x2)) h
  unfold State.revoke
  dsimp only
  generalize x0.setExtAdmit _ _ = u at ha ⊢
  have hs := State.setExtState_memsWf u x1 exRevoking ha
  simp [hs]

@[simp] theorem State.freeExt_memsWf (x0 x1) (h : x0.mems.wf = true) : (State.freeExt x0 x1).mems.wf = true := by
  unfold State.freeExt
  refine State.setExtState_memsWf _ _ _ (State.setExtW_memsWf _ _ _ _ (State.setExtF_memsWf _ _ _ _ _ _ (State.setExtAdmit_memsWf _ _ _ ?_)))
  simp [h]

@[simp] theorem State.revokeDone_memsWf (x0 x1) (h : x0.mems.wf = true) : (State.revokeDone x0 x1).mems.wf = true := by
  unfold State.revokeDone; (try dsimp only); (repeat' split) <;> simp [*]

@[simp] theorem State.reclaimDone_memsWf (x0 x1) (h : x0.mems.wf = true) : (State.reclaimDone x0 x1).mems.wf = true := by
  unfold State.reclaimDone; (try dsimp only); (repeat' split) <;> simp [*]

@[simp] theorem State.rotationDone_memsWf (x0 x1) (h : x0.mems.wf = true) : (State.rotationDone x0 x1).mems.wf = true := by
  unfold State.rotationDone; (try dsimp only); (repeat' split) <;> simp [*]

@[simp] theorem State.rotate_memsWf (x0 x1) (h : x0.mems.wf = true) : (State.rotate x0 x1).mems.wf = true := by
  unfold State.rotate; (try dsimp only); (repeat' split) <;> simp [*]

@[simp] theorem State.rekeyGranule_memsWf (x0 x1 x2 x3) (h : x0.mems.wf = true) : (State.rekeyGranule x0 x1 x2 x3).mems.wf = true := by
  unfold State.rekeyGranule; (try dsimp only); (repeat' split) <;> simp [*]

@[simp] theorem State.badRead_memsWf (x0 x1 x2) (h : x0.mems.wf = true) : (State.badRead x0 x1 x2).mems.wf = true := by
  unfold State.badRead; (try dsimp only); (repeat' split) <;> simp [*]

@[simp] theorem State.workReads_mems (x0 x1 x2) : (State.workReads x0 x1 x2).2.2.mems = x0.mems := by
  unfold State.workReads; (try dsimp only); (repeat' split) <;> simp [*]

@[simp] theorem State.rotateStep_memsWf (x0 x1 x2) (h : x0.mems.wf = true) : (State.rotateStep x0 x1 x2).mems.wf = true := by
  unfold State.rotateStep
  dsimp only
  have hb : ∀ (bad good : List Nat) (t : State), t.mems.wf = true → (bad.foldl (fun s g => s.badRead g 1) ((good.foldl (fun s g => s.rekeyGranule (x0.memKey (x0.ext x1).keySlot (x0.ext x1).dgen) (x0.memKey (x0.ext x1).keySlot (!(x0.ext x1).dgen)) g) t).setExtF x1 3 8 36 ((x0.ext x1).rotCur + min 20 (((x0.ext x1).base + (x0.ext x1).len) / 256 - (x0.ext x1).rotCur)))).mems.wf = true := fun bad good t ht => foldl_memsWf _ _ _ (fun u g hu => by simp [hu]) (State.setExtF_memsWf _ _ _ _ _ _ (foldl_memsWf _ _ _ (fun u g hu => by simp [hu]) ht))
  split
  · simp [hb, h]
  · exact hb _ _ _ (by simp [h])

@[simp] theorem State.copyLine_memsWf (x0 x1 x2 x3) (h : x0.mems.wf = true) : (State.copyLine x0 x1 x2 x3).mems.wf = true := by
  unfold State.copyLine
  dsimp only
  split
  · simp [h]
  · refine foldl_memsWf _ _ _ (fun t g ht => by simp [ht]) (foldl_memsWf _ _ _ (fun t g ht => by simp [ht]) (by simp [h]))

@[simp] theorem State.repairStep_memsWf (x0 x1 x2 x3) (h : x0.mems.wf = true) : (State.repairStep x0 x1 x2 x3).mems.wf = true := by
  unfold State.repairStep
  dsimp only
  have hc : ∀ l : List Nat, (l.foldl (fun s l => s.copyLine x1 l x3) x0).mems.wf = true := fun l => foldl_memsWf _ _ _ (fun t x ht => by simp [ht]) h
  split <;> simp [hc]

@[simp] theorem State.repairStart_memsWf (x0 x1 x2) (h : x0.mems.wf = true) : (State.repairStart x0 x1 x2).mems.wf = true := by
  unfold State.repairStart; (try dsimp only); (repeat' split) <;> simp [*]

@[simp] theorem State.scrubStep_memsWf (x0 x1) (h : x0.mems.wf = true) : (State.scrubStep x0 x1).mems.wf = true := by
  unfold State.scrubStep
  dsimp only
  split
  · exact h
  · refine foldl_memsWf _ _ _ (fun t g ht => by simp [ht]) ?_
    split <;> simp [h]

@[simp] theorem State.homeSlot_memsWf (x0 x1) (h : x0.mems.wf = true) : (State.homeSlot x0 x1).mems.wf = true := by
  unfold State.homeSlot; (try dsimp only); (repeat' split) <;> simp [*]

@[simp] theorem State.dropLines_memsWf (x0 x1 x2 x3) (h : x0.mems.wf = true) : (State.dropLines x0 x1 x2 x3).mems.wf = true := by
  induction x3 generalizing x0 with
  | nil => exact h
  | cons l ls ih => exact ih _ (by split <;> simp [h])

@[simp] theorem State.refuseOrder_mems (x0 x1 x2 x3) : (State.refuseOrder x0 x1 x2 x3).mems = x0.mems := by
  unfold State.refuseOrder; (try dsimp only); (repeat' split) <;> simp [*]

@[simp] theorem State.takeOrder_mems (x0 x1 x2) : (State.takeOrder x0 x1 x2).mems = x0.mems := by
  unfold State.takeOrder; (try dsimp only); (repeat' split) <;> simp [*]

@[simp] theorem State.orderSubmit_mems (x0) : (State.orderSubmit x0).mems = x0.mems := by
  unfold State.orderSubmit; (try dsimp only); (repeat' split) <;> simp [*]

@[simp] theorem State.orderPiece_mems (x0 x1 x2 x3 x4) : (State.orderPiece x0 x1 x2 x3 x4).mems = x0.mems := by
  unfold State.orderPiece; (try dsimp only); (repeat' split) <;> simp [*]

@[simp] theorem State.noteApplied_mems (x0 x1) : (State.noteApplied x0 x1).mems = x0.mems := by
  unfold State.noteApplied; (try dsimp only); (repeat' split) <;> simp [*]

@[simp] theorem State.acceptOrder_mems (x0 x1 x2) : (State.acceptOrder x0 x1 x2).mems = x0.mems := by
  unfold State.acceptOrder; (try dsimp only); (repeat' split) <;> simp [*]

@[simp] theorem State.nextHeld_mems (x0 x1) : (State.nextHeld x0 x1).mems = x1.mems := by
  induction x0 generalizing x1 <;> simp only [State.nextHeld, *] <;> (repeat' split) <;> simp [*]

@[simp] theorem State.moveOn_mems (x0) : (State.moveOn x0).mems = x0.mems := by
  unfold State.moveOn; (try dsimp only); (repeat' split) <;> simp [*]

@[simp] theorem State.orderVerified_mems (x0) : (State.orderVerified x0).mems = x0.mems := by
  unfold State.orderVerified; (try dsimp only); (repeat' split) <;> simp [*]

@[simp] theorem State.checkGap_mems (x0) : (State.checkGap x0).mems = x0.mems := by
  unfold State.checkGap; (try dsimp only); (repeat' split) <;> simp [*]

@[simp] theorem State.toProbation_mems (x0 x1) : (State.toProbation x0 x1).mems = x0.mems := by
  unfold State.toProbation; (try dsimp only); (repeat' split) <;> simp [*]

@[simp] theorem State.expelReq_memsWf (x0 x1 x2) (h : x0.mems.wf = true) : (State.expelReq x0 x1 x2).mems.wf = true := by
  unfold State.expelReq; (try dsimp only); (repeat' split) <;> simp [*]

@[simp] theorem State.expelOwn_memsWf (x0 x1 x2) (h : x0.mems.wf = true) : (State.expelOwn x0 x1 x2).mems.wf = true := by
  unfold State.expelOwn; (try dsimp only); (repeat' split) <;> simp [*]

@[simp] theorem State.failover_memsWf (x0 x1) (h : x0.mems.wf = true) : (State.failover x0 x1).mems.wf = true := by
  unfold State.failover
  refine foldl_memsWf _ _ _ (fun t i ht => ?_) h
  have h1 := State.setExtF_memsWf { t with home := { t.home with adopted := t.home.adopted ++ [(BitVec.ofNat 14 i, x1)] } } i 1 42 1 0 ht
  simp [h1]

@[simp] theorem State.loseEnt_memsWf (x0 x1) (h : x0.mems.wf = true) : (State.loseEnt x0 x1).mems.wf = true := by
  unfold State.loseEnt; (try dsimp only); (repeat' split) <;> simp [*]

@[simp] theorem State.expelSelf_memsWf (x0 x1) (h : x0.mems.wf = true) : (State.expelSelf x0 x1).mems.wf = true := by
  unfold State.expelSelf
  exact foldl_memsWf _ _ _ (fun t i ht => by simp [ht]) (foldl_memsWf _ _ _ (fun t e ht => by simp [ht]) (by simp [h]))

@[simp] theorem State.keysOrder_mems (x0 x1 x2) : (State.keysOrder x0 x1 x2).mems = x0.mems := by
  unfold State.keysOrder; (try dsimp only); (repeat' split) <;> simp [*]

@[simp] theorem State.admitOrder_mems (x0 x1 x2 x3) : (State.admitOrder x0 x1 x2 x3).mems = x0.mems := by
  unfold State.admitOrder; (try dsimp only); (repeat' split) <;> simp [*]

@[simp] theorem State.admitEffective_mems (x0 x1) : (State.admitEffective x0 x1).mems = x0.mems := by
  unfold State.admitEffective; (try dsimp only); (repeat' split) <;> simp [*]

@[simp] theorem State.sedOut_mems (x0 x1) : (State.sedOut x0 x1).mems = x1.mems := by
  induction x0 generalizing x1 <;> simp only [State.sedOut, *] <;> (repeat' split) <;> simp [*]

@[simp] theorem State.sedTimeout_mems (x0) : (State.sedTimeout x0).mems = x0.mems := by
  unfold State.sedTimeout; (try dsimp only); (repeat' split) <;> simp [*]

@[simp] theorem State.yieldRoot_mems (x0) : (State.yieldRoot x0).mems = x0.mems := by
  unfold State.yieldRoot; (try dsimp only); (repeat' split) <;> simp [*]

@[simp] theorem State.converge_mems (x0 x1) : (State.converge x0 x1).mems = x0.mems := by
  unfold State.converge; (try dsimp only); (repeat' split) <;> simp [*]

@[simp] theorem State.takeOffset_mems (x0 x1 x2) : (State.takeOffset x0 x1 x2).mems = x0.mems := by
  unfold State.takeOffset; (try dsimp only); (repeat' split) <;> simp [*]

@[simp] theorem State.fromParent_mems (x0 x1 x2) : (State.fromParent x0 x1 x2).mems = x0.mems := by
  unfold State.fromParent; (try dsimp only); (repeat' split) <;> simp [*]

@[simp] theorem State.timePart_mems (x0 x1 x2 x3) : (State.timePart x0 x1 x2 x3).mems = x0.mems := by
  unfold State.timePart; (try dsimp only); (repeat' split) <;> simp [*]

@[simp] theorem State.hbPart_mems (x0 x1 x2) : (State.hbPart x0 x1 x2).mems = x0.mems := by
  unfold State.hbPart; (try dsimp only); (repeat' split) <;> simp [*]

@[simp] theorem State.hbArrive_mems (x0 x1 x2 x3) : (State.hbArrive x0 x1 x2 x3).mems = x0.mems := by
  unfold State.hbArrive; (try dsimp only); (repeat' split) <;> simp [*]

@[simp] theorem State.imgWrite_memsWf (x0 x1 x2 x3) (h : x0.mems.wf = true) : (State.imgWrite x0 x1 x2 x3).mems.wf = true := by
  unfold State.imgWrite; (try dsimp only); (repeat' split) <;> simp_all [Mems.wf]

@[simp] theorem State.bootDone_mems (x0 x1) : (State.bootDone x0 x1).mems = x0.mems := by
  unfold State.bootDone; (try dsimp only); (repeat' split) <;> simp [*]

@[simp] theorem State.mbDone_memsWf (x0 x1 x2 x3) (h : x0.mems.wf = true) : (State.mbDone x0 x1 x2 x3).mems.wf = true := by
  unfold State.mbDone; (try dsimp only); (repeat' split) <;> simp_all [Mems.wf]

@[simp] theorem State.mbVersion_memsWf (x0) (h : x0.mems.wf = true) : (State.mbVersion x0).mems.wf = true := by
  unfold State.mbVersion; (try dsimp only); (repeat' split) <;> simp [*]

@[simp] theorem State.mbSensors_memsWf (x0) (h : x0.mems.wf = true) : (State.mbSensors x0).mems.wf = true := by
  unfold State.mbSensors; (try dsimp only); (repeat' split) <;> simp [*]

@[simp] theorem State.mbRead_memsWf (x0 x1) (h : x0.mems.wf = true) : (State.mbRead x0 x1).mems.wf = true := by
  unfold State.mbRead; (try dsimp only); (repeat' split) <;> simp [*]

@[simp] theorem State.mbReserved_memsWf (x0 x1) (h : x0.mems.wf = true) : (State.mbReserved x0 x1).mems.wf = true := by
  unfold State.mbReserved; (try dsimp only); (repeat' split) <;> simp [*]

@[simp] theorem State.poolTestCmd_memsWf (x0 x1) (h : x0.mems.wf = true) : (State.poolTestCmd x0 x1).mems.wf = true := by
  unfold State.poolTestCmd; (try dsimp only); (repeat' split) <;> simp [*]

@[simp] theorem State.takeWaiting_memsWf (x0) (h : x0.mems.wf = true) : (State.takeWaiting x0).mems.wf = true := by
  unfold State.takeWaiting; (try dsimp only); (repeat' split) <;> simp [*]

@[simp] theorem State.hoAbort_memsWf (x0 x1) (h : x0.mems.wf = true) : (State.hoAbort x0 x1).mems.wf = true := by
  unfold State.hoAbort; (try dsimp only); (repeat' split) <;> simp [*]

@[simp] theorem State.loadDone_memsWf (x0 x1) (h : x0.mems.wf = true) : (State.loadDone x0 x1).mems.wf = true := by
  unfold State.loadDone; (try dsimp only); (repeat' split) <;> simp [*]

@[simp] theorem State.syncDone_memsWf (x0 x1) (h : x0.mems.wf = true) : (State.syncDone x0 x1).mems.wf = true := by
  unfold State.syncDone; (try dsimp only); (repeat' split) <;> simp [*]

@[simp] theorem State.quiescent_memsWf (x0) (h : x0.mems.wf = true) : (State.quiescent x0).mems.wf = true := by
  unfold State.quiescent; (try dsimp only); (repeat' split) <;> simp [*]

@[simp] theorem State.abortCmd_memsWf (x0) (h : x0.mems.wf = true) : (State.abortCmd x0).mems.wf = true := by
  unfold State.abortCmd; (try dsimp only); (repeat' split) <;> simp [*]

@[simp] theorem State.hoTimeout_memsWf (x0) (h : x0.mems.wf = true) : (State.hoTimeout x0).mems.wf = true := by
  unfold State.hoTimeout; (try dsimp only); (repeat' split) <;> simp [*]

@[simp] theorem State.svnCommit_mems (x0) : (State.svnCommit x0).mems = x0.mems := by
  unfold State.svnCommit; (try dsimp only); (repeat' split) <;> simp [*]

@[simp] theorem State.takeover_mems (x0 x1) : (State.takeover x0 x1).mems = x0.mems := by
  unfold State.takeover; (try dsimp only); (repeat' split) <;> simp [*]

@[simp] theorem State.commitGroup_memsWf (x0 x1 x2 x3) (h : x0.mems.wf = true) : (State.commitGroup x0 x1 x2 x3).mems.wf = true := by
  unfold State.commitGroup; (try dsimp only); (repeat' split) <;> simp [*]

@[simp] theorem State.tcArm_memsWf (x0) (h : x0.mems.wf = true) : (State.tcArm x0).mems.wf = true := by
  unfold State.tcArm; (try dsimp only); (repeat' split) <;> simp [*]

@[simp] theorem State.tcApply_memsWf (x0 x1) (h : x0.mems.wf = true) : (State.tcApply x0 x1).mems.wf = true := by
  induction x1 generalizing x0 <;> simp only [State.tcApply] <;> (repeat' split) <;> simp [*]

@[simp] theorem State.avsStep_mems (x0 x1 x2) : (State.avsStep x0 x1 x2).mems = x0.mems := by
  unfold State.avsStep; (try dsimp only); (repeat' split) <;> simp [*]

@[simp] theorem State.warnStage_mems (x0 x1 x2) : (State.warnStage x0 x1 x2).mems = x0.mems := by
  unfold State.warnStage; (try dsimp only); (repeat' split) <;> simp [*]

@[simp] theorem State.thermSample_mems (x0 x1) : (State.thermSample x0 x1).mems = x0.mems := by
  unfold State.thermSample; (try dsimp only); (repeat' split) <;> simp [*]

@[simp] theorem State.closeSess_mems (x0 x1 x2) : (State.closeSess x0 x1 x2).mems = x0.mems := by
  unfold State.closeSess; (try dsimp only); (repeat' split) <;> simp [*]

@[simp] theorem State.reportCmd_memsWf (x0 x1) (h : x0.mems.wf = true) : (State.reportCmd x0 x1).mems.wf = true := by
  unfold State.reportCmd; (try dsimp only); (repeat' split) <;> simp_all [Mems.wf]

@[simp] theorem State.closeCmd_mems (x0 x1) : (State.closeCmd x0 x1).mems = x0.mems := by
  unfold State.closeCmd; (try dsimp only); (repeat' split) <;> simp [*]

@[simp] theorem State.rekeyCmd_mems (x0 x1) : (State.rekeyCmd x0 x1).mems = x0.mems := by
  unfold State.rekeyCmd; (try dsimp only); (repeat' split) <;> simp [*]

@[simp] theorem State.sessExpiry_mems (x0 x1) : (State.sessExpiry x0 x1).mems = x0.mems := by
  unfold State.sessExpiry; (try dsimp only); (repeat' split) <;> simp [*]

@[simp] theorem State.failEnc_mems (x0 x1) : (State.failEnc x0 x1).mems = x0.mems := by
  unfold State.failEnc; (try dsimp only); (repeat' split) <;> simp [*]

@[simp] theorem State.level2_mems (x0) : (State.level2 x0).mems = x0.mems := by
  simp [State.level2, apply_ite State.mems]

@[simp] theorem State.trip_memsWf (x0 x1 x2) (h : x0.mems.wf = true) : (State.trip x0 x1 x2).mems.wf = true := by
  unfold State.trip; (try dsimp only); (repeat' split) <;> simp [*]

@[simp] theorem State.escalate_memsWf (x0) (h : x0.mems.wf = true) : (State.escalate x0).mems.wf = true := by
  unfold State.escalate; (try dsimp only); (repeat' split) <;> simp_all [Mems.wf]

@[simp] theorem State.alarmClear_mems (x0 x1) : (State.alarmClear x0 x1).mems = x0.mems := by
  unfold State.alarmClear; (try dsimp only); (repeat' split) <;> simp [*]

@[simp] theorem State.tagFail_memsWf (x0 x1 x2 x3 x4) (h : x0.mems.wf = true) : (State.tagFail x0 x1 x2 x3 x4).mems.wf = true := by
  unfold State.tagFail; (try dsimp only); (repeat' split) <;> simp [*]

@[simp] theorem State.tagArrive_memsWf (x0 x1 x2 x3 x4) (h : x0.mems.wf = true) : (State.tagArrive x0 x1 x2 x3 x4).mems.wf = true := by
  unfold State.tagArrive; (try dsimp only); (repeat' split) <;> simp [*]

@[simp] theorem State.supplyRemoved_mems (x0) : (State.supplyRemoved x0).mems = x0.mems := by
  unfold State.supplyRemoved; (try dsimp only); (repeat' split) <;> simp [*]

@[simp] theorem State.holdUp_memsWf (x0) (h : x0.mems.wf = true) : (State.holdUp x0).mems.wf = true := by
  unfold State.holdUp; (try dsimp only); (repeat' split) <;> simp [*]

@[simp] theorem State.holdUpStage_mems (x0 x1) : (State.holdUpStage x0 x1).mems = x0.mems := by
  unfold State.holdUpStage; (try dsimp only); (repeat' split) <;> simp [*]

@[simp] theorem State.pcieStopQueue_memsWf (x0 x1) (h : x0.mems.wf = true) : (State.pcieStopQueue x0 x1).mems.wf = true := by
  unfold State.pcieStopQueue; (try dsimp only); (repeat' split) <;> simp [*]

@[simp] theorem State.wrFwm_memsWf (x0 x1 x2) (h : x0.mems.wf = true) : (State.wrFwm x0 x1 x2).mems.wf = true := by
  unfold State.wrFwm; (try dsimp only); (repeat' split) <;> simp [*]

@[simp] theorem State.wrQmg_memsWf (x0 x1 x2) (h : x0.mems.wf = true) : (State.wrQmg x0 x1 x2).mems.wf = true := by
  unfold State.wrQmg; (try dsimp only); (repeat' split) <;> simp [*]

@[simp] theorem State.wrHom_memsWf (x0 x1 x2) (h : x0.mems.wf = true) : (State.wrHom x0 x1 x2).mems.wf = true := by
  unfold State.wrHom; (try dsimp only); (repeat' split) <;> simp [*]

@[simp] theorem State.wrDtt_mems (x0 x1 x2) : (State.wrDtt x0 x1 x2).mems = x0.mems := by
  unfold State.wrDtt; (try dsimp only); (repeat' split) <;> simp [*]

@[simp] theorem State.portCtl_mems (x0 x1 x2) : (State.portCtl x0 x1 x2).mems = x0.mems := by
  unfold State.portCtl; (try dsimp only); (repeat' split) <;> simp [*]

@[simp] theorem State.wrLan_mems (x0 x1 x2) : (State.wrLan x0 x1 x2).mems = x0.mems := by
  unfold State.wrLan; (try dsimp only); (repeat' split) <;> simp [*]

@[simp] theorem State.wrEth_mems (x0 x1 x2) : (State.wrEth x0 x1 x2).mems = x0.mems := by
  simp [State.wrEth, apply_ite State.mems]

@[simp] theorem State.wrFlt_memsWf (x0 x1 x2) (h : x0.mems.wf = true) : (State.wrFlt x0 x1 x2).mems.wf = true := by
  unfold State.wrFlt; (try dsimp only); (repeat' split) <;> simp [*]

@[simp] theorem State.aptOne_mems (x0 x1 x2 x3 x4) : (State.aptOne x0 x1 x2 x3 x4).2.2.mems = x0.mems := by
  unfold State.aptOne; (try dsimp only); (repeat' split) <;> simp [*]

@[simp] theorem State.aptReads_mems (x0 x1 x2 x3 x4 x5) : (State.aptReads x0 x1 x2 x3 x4 x5).2.2.mems = x5.mems := by
  induction x1 generalizing x0 x2 x3 x4 x5 <;> simp only [State.aptReads, *] <;> (repeat' split) <;> simp [*]

@[simp] theorem State.aptWrites_mems (x0 x1 x2 x3 x4 x5) : (State.aptWrites x0 x1 x2 x3 x4 x5).mems = x5.mems := by
  induction x1 generalizing x0 x2 x3 x4 x5 <;> simp only [State.aptWrites, *] <;> (repeat' split) <;> simp [*]

@[simp] theorem State.bar2Read_mems (x0 x1 x2 x3) : (State.bar2Read x0 x1 x2 x3).mems = x0.mems := by
  unfold State.bar2Read; (try dsimp only); (repeat' split) <;> simp [*]

@[simp] theorem State.bar2Write_mems (x0 x1 x2 x3) : (State.bar2Write x0 x1 x2 x3).mems = x0.mems := by
  unfold State.bar2Write; (try dsimp only); (repeat' split) <;> simp [*]

@[simp] theorem State.mack_memsWf (x0 x1) (h : x0.mems.wf = true) : (State.mack x0 x1).mems.wf = true := by
  unfold State.mack; (try dsimp only); (repeat' split) <;> simp [*]

theorem Mems.wf_sram {m : Mems} (h : m.wf = true) : Mem.wf m.sram = true := by simp_all [Mems.wf]

theorem Mems.wf_set_sram {m : Mems} (v) (h : m.wf = true) (hv : Mem.wf v = true) : Mems.wf { m with sram := v } = true := by simp_all [Mems.wf]

@[simp] theorem State.gwinWrite_memsWf (s : State) (off w v) (h : s.mems.wf = true) : (s.gwinWrite off w v).mems.wf = true := by
  unfold State.gwinWrite
  dsimp only
  split
  · simp [h]
  · exact State.setGrpLive_memsWf _ _ _ (by simp_all [Mems.wf])

@[simp] theorem State.ehdrWrite_memsWf (s : State) (off w v) (h : s.mems.wf = true) : (s.ehdrWrite off w v).mems.wf = true := by
  unfold State.ehdrWrite
  dsimp only
  split
  · simp [h]
  · exact State.setEhW_memsWf _ _ _ _ (State.setEhW_memsWf _ _ _ _ (by simp_all [Mems.wf]))

@[simp] theorem State.clearElems_memsWf (s : State) (l) (h : s.mems.wf = true) : (s.clearElems l).mems.wf = true := by
  induction l generalizing s with
  | nil => exact h
  | cons a l ih => exact ih _ (Mems.wf_set_sram _ h (Mem.wf_wrN _ _ _ (Mems.wf_sram h)))

@[simp] theorem State.execAccum_memsWf (s : State) (e r) (h : s.mems.wf = true) : (s.execAccum e r).mems.wf = true := by
  unfold State.execAccum; dsimp only; (repeat' split) <;> simp [h]

@[simp] theorem State.execPool_memsWf (s : State) (i r m) (h : s.mems.wf = true) : (s.execPool i r m).mems.wf = true := by
  unfold State.execPool; dsimp only; (repeat' split) <;> simp [h]

@[simp] theorem State.when_memsWf (s : State) (c f) (hf : ∀ t, t.mems.wf = true → (f t).mems.wf = true) (h : s.mems.wf = true) : (s.when c f).mems.wf = true := by
  unfold State.when
  split <;> simp [h, hf]

@[simp] theorem State.presCmd_memsWf (s : State) (a b f) (hf : ∀ l t, t.mems.wf = true → (f l t).mems.wf = true) (h : s.mems.wf = true) : (s.presCmd a b f).mems.wf = true := by
  unfold State.presCmd
  (try dsimp only); (repeat' split) <;> simp [h, hf]

@[simp] theorem State.inBackground_memsWf (s : State) (a f) (hf : ∀ t, t.mems.wf = true → (f t).mems.wf = true) (h : s.mems.wf = true) : (s.inBackground a f).mems.wf = true := by
  unfold State.inBackground; (try dsimp only); (repeat' split) <;> simp [*]

@[simp] theorem State.spareCmd_memsWf (s : State) (f a b) (hf : ∀ t n, t.mems.wf = true → (f t n).mems.wf = true) (h : s.mems.wf = true) : (s.spareCmd f a b).mems.wf = true := by
  unfold State.spareCmd; (try dsimp only); (repeat' split) <;> simp [*]

@[simp] theorem State.secIf_memsWf (s : State) (f) (hf : ∀ t, t.mems.wf = true → (f t).mems.wf = true) (h : s.mems.wf = true) : (s.secIf f).mems.wf = true := by
  unfold State.secIf; (try dsimp only); (repeat' split) <;> simp [*]

@[simp] theorem State.withObj_memsWf (x0 x1 x2 x3 x4) (h4 : ∀ y0 y1 y2 y3, y3.mems.wf = true → (x4 y0 y1 y2 y3).mems.wf = true) (h : x0.mems.wf = true) : (State.withObj x0 x1 x2 x3 x4).mems.wf = true := by
  unfold State.withObj; (try dsimp only); (repeat' split) <;> simp [*]

@[simp] theorem Io.readAll_memsWf (x0 x1 x2 x3 x4) (h2 : ∀ y0 y1, y1.s.mems.wf = true → (x2 y0 y1).2.s.mems.wf = true) (h : x4.s.mems.wf = true) : (@Io.readAll x0 x1 x2 x3 x4).2.2.s.mems.wf = true := by
  induction x3 generalizing x4 <;> simp only [Io.readAll] <;> (repeat' split) <;> simp [*]

@[simp] theorem Io.writeAll_memsWf (x0 x1 x2 x3) (h1 : ∀ y0 y1 y2, y2.s.mems.wf = true → (x1 y0 y1 y2).2.s.mems.wf = true) (h : x3.s.mems.wf = true) : (Io.writeAll x0 x1 x2 x3).2.2.s.mems.wf = true := by
  induction x2 generalizing x3 <;> simp only [Io.writeAll] <;> (repeat' split) <;> simp [*]

@[simp] theorem State.rxPacket_memsWf (x0 x1 x2 x3) (h3 : ∀ y0, y0.mems.wf = true → (x3 y0).1.mems.wf = true) (h : x0.mems.wf = true) : (State.rxPacket x0 x1 x2 x3).mems.wf = true := by
  unfold State.rxPacket; (try dsimp only); (repeat' split) <;> simp [*]

@[simp] theorem Io.move_memsWf (x0 x1 x2 x3 x4 x5 x6 x7 x8) (h0 : ∀ y0 y1 y2, y2.s.mems.wf = true → (x0 y0 y1 y2).2.s.mems.wf = true) (h1 : ∀ y0 y1 y2, y2.s.mems.wf = true → (x1 y0 y1 y2).2.s.mems.wf = true) (h : x8.s.mems.wf = true) : (Io.move x0 x1 x2 x3 x4 x5 x6 x7 x8).2.s.mems.wf = true := by
  induction x6 generalizing x7 x8 with
  | zero => exact h
  | succ n ih =>
    have hs := h0 x7 (x2 x7) x8 h
    have hd := h1 x7 (x0 x7 (x2 x7) x8).1 _ hs
    simp only [Io.move]
    (repeat' split) <;> first | exact h | exact hs | exact hd | exact ih _ _ hd

@[simp] theorem Io.units_memsWf (x0 x1 x2 x3) (h0 : ∀ y0 y1, y1.s.mems.wf = true → (x0 y0 y1).s.mems.wf = true) (h : x3.s.mems.wf = true) : (Io.units x0 x1 x2 x3).2.s.mems.wf = true := by
  induction x1 generalizing x2 x3 with
  | zero => exact h
  | succ n ih => simp only [Io.units]; (repeat' split) <;> simp [*]

@[simp] theorem State.bufWrite_memsWf (s : State) (job n a bs) (h : s.mems.wf = true) : (State.bufWrite s job n a bs).2.mems.wf = true := by
  induction n generalizing s a bs with
  | zero => exact h
  | succ n ih => 
    unfold State.bufWrite; dsimp only
    split
    · exact h
    split
    · exact h
    · exact ih _ _ _ (Mems.wf_set_sram _ h (Mem.wf_wrN _ _ _ (Mems.wf_sram h)))

@[simp] theorem State.beginRun_memsWf (s : State) (r) (h : s.mems.wf = true) : (s.beginRun r).mems.wf = true := by
  unfold State.beginRun
  split
  · exact h
  split
  · simp [h]
  dsimp only
  split
  · exact h
  · rw [apply_ite State.mems, apply_ite Mems.wf]
    simp [h]

@[simp] theorem State.retryRuns_memsWf (s : State) (h : s.mems.wf = true) : s.retryRuns.mems.wf = true :=
  foldl_memsWf _ _ _ (fun _ _ h => State.beginRun_memsWf _ _ h) h

@[simp] theorem State.joinRun_memsWf (s : State) (r q i n b) (h : s.mems.wf = true) : (s.joinRun r q i n b).mems.wf = true := by
  unfold State.joinRun; dsimp only; (repeat' split) <;> simp [*]

@[simp] theorem State.pauseRun_memsWf (s : State) (r ms) (h : s.mems.wf = true) : (s.pauseRun r ms).mems.wf = true := by
  unfold State.pauseRun
  dsimp only
  have hf := fun (t : State) (m : RunMember) (ht : t.mems.wf = true) =>
    show (match t.memDesc m with
      | some d => t.pauseDesc m.2.1.toNat d.idx (fun d => { d with prog := r.done, st := .translated })
      | none => t).mems.wf = true by split <;> simp [ht]
  split
  · exact State.dropRun_memsWf _ _ (foldl_memsWf _ _ _ hf h)
  · simp only [State.setRun_frame]
    exact foldl_memsWf _ _ _ hf h

@[simp] theorem State.roundStart_memsWf (s : State) (i) (h : s.mems.wf = true) : (s.roundStart i).mems.wf = true := by
  unfold State.roundStart; (repeat' split) <;> simp [*]

@[simp] theorem State.roundEnd_memsWf (s : State) (i) (h : s.mems.wf = true) : (s.roundEnd i).mems.wf = true := by
  unfold State.roundEnd; (try dsimp only); (repeat' split) <;> simp [*]

@[simp] theorem State.pauseHeld_memsWf (s : State) (i) (h : s.mems.wf = true) : (s.pauseHeld i).mems.wf = true := by
  unfold State.pauseHeld
  split
  · exact h
  · exact foldl_memsWf _ _ _ (fun t r ht => by split <;> simp [ht]) h

@[simp] theorem State.endRun_memsWf (s : State) (r l) (h : s.mems.wf = true) : (s.endRun r l).mems.wf = true := by
  unfold State.endRun; dsimp only
  exact State.retryRuns_memsWf _ (State.dropRun_memsWf _ _ (foldl_memsWf _ _ _ (fun t e ht => by simp [ht]) h))

@[simp] theorem State.presSet_memsWf (s : State) (w a b) (h : s.mems.wf = true) : (s.presSet w a b).mems.wf = true :=
  State.presCmd_memsWf _ _ _ _ (fun l t ht => by dsimp only; split <;> simp [ht]) h

@[simp] theorem State.presClear_memsWf (s : State) (a b) (h : s.mems.wf = true) : (s.presClear a b).mems.wf = true := by
  unfold State.presClear
  exact State.presCmd_memsWf _ _ _ _ (fun l t ht => by simp [ht]) h

@[simp] theorem State.glbNode_memsWf (s : State) (v) (h : s.mems.wf = true) : (s.glbNode v).mems.wf = true := by
  unfold State.glbNode
  split
  · exact h
  dsimp only
  split
  · simp [h]
  · exact upto_memsWf _ _ _ (fun p t ht => by (repeat' split) <;> simp [ht]) (by simp [h])

@[simp] theorem State.cmisFlag_memsWf (s : State) (b m x) (h : s.mems.wf = true) : (s.cmisFlag b m x).mems.wf = true := by
  unfold State.cmisFlag
  split
  · exact h
  dsimp only
  split
  · exact upto_memsWf _ _ _ (fun p t ht => by (repeat' split) <;> simp [ht]) (by simp [h])
  · simp [h]

@[simp] theorem State.stage_memsWf (x0 x1 x2 x3 x4 x5 x6 x7 x8) (h5 : ∀ y0 y1 y2, y2.s.mems.wf = true → (x5 y0 y1 y2).2.s.mems.wf = true) (h6 : ∀ y0 y1 y2 y3 y4, y4.s.mems.wf = true → (x6 y0 y1 y2 y3 y4).2.s.mems.wf = true) (h7 : ∀ y0 y1 y2 y3, y0.mems.wf = true → (x7 y0 y1 y2 y3).mems.wf = true) (h : x1.mems.wf = true) : (@State.stage x0 x1 x2 x3 x4 x5 x6 x7 x8).mems.wf = true := by
  unfold State.stage
  split
  · exact h
  rename_i r _
  dsimp only
  split
  · exact h
  rename_i m d l _
  split
  · exact h
  split
  · simp [h]
  have hread := Io.readAll_memsWf _ (decide (x3 ≤ 5)) (x5 r) (x1.runMems r) (x1.runIo x4) (h5 r) (by simpa using h)
  split
  · simp [hread]
  · simp [hread]
  · simp [hread]
  · simp [hread]
  · have hwrite := fun xs i => Io.writeAll_memsWf (decide (x3 ≤ 5)) (x6 r xs) (x1.runMems r) i (h6 r xs)
    cases r.sentOut
    · have hsend := fun xs => h7 _ r d xs hread
      simp only [Bool.false_eq_true, if_false]
      split <;> simp [hwrite, hsend]
    · simp only [if_true]
      split <;> simp [hwrite, hread]

@[simp] theorem State.dense_memsWf (s : State) (a b c d) (h : s.mems.wf = true) : (s.dense a b c d).mems.wf = true :=
  State.stage_memsWf _ _ _ _ _ _ _ _ _ (fun _ _ _ h => by simp [h]) (fun _ _ _ _ _ h => by simp [h]) (fun _ _ _ _ h => by simp [h]) h

@[simp] theorem State.reduceScatter_memsWf (s : State) (a b c) (h : s.mems.wf = true) : (s.reduceScatter a b c).mems.wf = true :=
  State.stage_memsWf _ _ _ _ _ _ _ _ _ (fun _ _ _ h => by simp [h]) (fun _ _ _ _ _ h => by simp [h]) (fun _ _ _ _ h => by simp [h]) h

@[simp] theorem State.exchangeV_memsWf (s : State) (a b c) (h : s.mems.wf = true) : (s.exchangeV a b c).mems.wf = true :=
  State.stage_memsWf _ _ _ _ _ _ _ _ _ (fun _ _ _ h => by simp [h]) (fun _ _ _ _ _ h => by simp [h]) (fun _ _ _ _ h => by simp [h]) h

@[simp] theorem State.sparse_memsWf (s : State) (a b c) (h : s.mems.wf = true) : (s.sparse a b c).mems.wf = true :=
  State.stage_memsWf _ _ _ _ _ _ _ _ _ (fun _ _ _ h => by simp [h]) (fun _ _ _ _ _ h => by simp [h]) (fun _ _ _ _ h => by simp [h]) h

@[simp] theorem State.placeRows_memsWf (x0 x1 x2 x3 x4 x5) (h : x0.mems.wf = true) : (State.placeRows x0 x1 x2 x3 x4 x5).2.mems.wf = true := by
  induction x5 generalizing x0 x2 x4 with
  | nil => exact h
  | cons a l ih => simp only [State.placeRows]; (repeat' split) <;> simp [*]

@[simp] theorem Io.placeAll_memsWf (x0 x1 x2 x3 x4) (h : x4.s.mems.wf = true) : (Io.placeAll x0 x1 x2 x3 x4).s.mems.wf = true := by
  induction x3 generalizing x4 with
  | nil => exact h
  | cons a l ih => simp only [Io.placeAll]; (repeat' split) <;> simp [*]

@[simp] theorem State.dispatchAt_memsWf (x0 x1 x2 x3 x4 x5 x6 x7) (h : x7.s.mems.wf = true) : (State.dispatchAt x0 x1 x2 x3 x4 x5 x6 x7).2.s.mems.wf = true := by
  unfold State.dispatchAt; dsimp only; (repeat' split) <;> simp [*]

@[simp] theorem State.dispatch_memsWf (s : State) (a b c d) (h : s.mems.wf = true) : (s.dispatch a b c d).mems.wf = true := by
  unfold State.dispatch
  split
  · exact h
  split
  · exact h
  split
  · exact h
  · exact State.stage_memsWf _ _ _ _ _ _ _ _ _ (fun _ _ _ h => by simp [h]) (fun _ _ _ _ _ h => by simp [h]) (fun _ _ _ _ h => by dsimp only; split <;> simp [h]) h

@[simp] theorem State.combine_memsWf (s : State) (a b c d) (h : s.mems.wf = true) : (s.combine a b c d).mems.wf = true := by
  unfold State.combine
  exact State.stage_memsWf _ _ _ _ _ _ _ _ _ (fun _ _ _ h => by simp [h]) (fun _ _ _ _ _ h => by dsimp only; (repeat' split) <;> simp [h]) (fun _ _ _ _ h => by simp [h]) h

@[simp] theorem State.expertDecide_memsWf (s : State) (a b c d) (h : s.mems.wf = true) : (s.expertDecide a b c d).mems.wf = true := by
  unfold State.expertDecide
  split
  · exact h
  split
  · exact h
  split
  · exact h
  next r _ _ dd _ _ =>
    have ht : (s.takeRoutes r dd d).2.mems.wf = true := by simp [h]
    generalize s.takeRoutes r dd d = p at ht ⊢
    obtain ⟨_ | x, t⟩ := p
    · dsimp only at ht ⊢
      split
      · exact ht
      · simp only [State.setRun_frame]
        split <;> simp [ht]
    · simp [ht]

@[simp] theorem State.takeGetReq_memsWf (s : State) (p l) (h : s.mems.wf = true) : (s.takeGetReq p l).1.mems.wf = true := by
  unfold State.takeGetReq
  extract_lets c off len
  clear_value c off len
  split
  · exact h
  have hr := (s.spillIo c l).readR_frame 0 (s.winVa c off) len
  generalize (s.spillIo c l).readR 0 (s.winVa c off) len = q at hr ⊢
  obtain ⟨bs, i⟩ := q
  obtain ⟨-, -, -, hmems, -⟩ := hr
  have hi : i.s.mems.wf = true := by rw [show i.s.mems = _ from hmems]; exact h
  dsimp only
  split <;> simp [hi]

@[simp] theorem State.ackArrive_memsWf (s : State) (e p) (h : s.mems.wf = true) : (s.ackArrive e p).mems.wf = true := by
  unfold State.ackArrive
  dsimp only
  split
  · exact h
  simp only [State.chSend_frame, apply_ite State.mems, State.eceCut_frame, ite_self]
  refine foldl_memsWf _ _ _ (fun t x ht => ?_) (foldl_memsWf _ _ _ (fun t x ht => by simp [ht]) (by simp [h]))
  split <;> simp [ht]

theorem State.translateEnt_memsWf {s : State} {e slot st t} (ht : s.translateEnt e = .fail slot st t) (h : s.mems.wf = true) : t.mems.wf = true := by
  unfold State.translateEnt at ht
  dsimp only at ht
  (repeat' split at ht) <;> first | (cases ht; simp [h]; done) | cases ht

@[simp] theorem State.issueAttach_memsWf (s : State) (a) (h : s.mems.wf = true) : (s.issueAttach a).mems.wf = true := by
  unfold State.issueAttach
  dsimp only
  (repeat' split) <;> first | simp [h]; done | (have := State.translateEnt_memsWf ‹_ = Sent.fail _ _ _› h; simp [this])

theorem State.startColl_memsWf {s : State} {q d b t} (ht : s.startColl q d b = .done t) (h : s.mems.wf = true) : t.mems.wf = true := by
  unfold State.startColl at ht
  dsimp only at ht
  (repeat' split at ht) <;> first | (cases ht; simp [h]; done) | cases ht

@[simp] theorem State.beginDesc_memsWf (s : State) (q d n l) (h : s.mems.wf = true) : (s.beginDesc q d n l).mems.wf = true := by
  unfold State.beginDesc
  extract_lets late go
  have hgo : ∀ t, (go t).mems = t.mems := fun t => by simp [go]
  clear_value go
  split
  · have hs : (s.sendsOver q d l).2.mems = s.mems := by simp
    generalize s.sendsOver q d l = p at hs ⊢
    obtain ⟨excess, s1⟩ := p
    dsimp only at hs ⊢
    split
    · exact h
    · simp [h]
    · exact State.startColl_memsWf ‹_ = Join.done _› (by rw [hgo, hs]; exact h)
  · simp [hgo, h]

@[simp] theorem State.startNow_memsWf (s : State) (a b c d) (h : s.mems.wf = true) : (s.startNow a b c d).mems.wf = true := by
  unfold State.startNow; (try dsimp only); (repeat' split) <;> simp [*]

@[simp] theorem State.startDesc_memsWf (s : State) (a b c d) (h : s.mems.wf = true) : (s.startDesc a b c d).mems.wf = true := by
  unfold State.startDesc; (try dsimp only); (repeat' split) <;> simp [*]

@[simp] theorem State.startHead_memsWf (s : State) (q b l) (h : s.mems.wf = true) : (s.startHead q b l).mems.wf = true := by
  unfold State.startHead; (repeat' split) <;> simp [h]

@[simp] theorem State.barrierFire_memsWf (s : State) (h : s.mems.wf = true) : s.barrierFire.mems.wf = true := by
  unfold State.barrierFire
  split
  · exact h
  split
  · exact h
  dsimp only
  split
  · exact foldl_memsWf _ _ _ (fun t q ht => by simp [ht]) (by simp [h])
  · simp [h]

@[simp] theorem Io.copy_memsWf (d) (i : Io) (h : i.s.mems.wf = true) : (Io.copy d i).2.s.mems.wf = true := by
  unfold Io.copy
  split
  · exact h
  dsimp only
  split
  · simp [h]
  · exact Io.move_memsWf _ _ _ _ _ _ _ _ _ (fun _ _ j hj => by split <;> simp [hj]) (fun _ _ j hj => by simp [hj]) (by simp [h])

@[simp] theorem Io.fill_memsWf (d) (i : Io) (h : i.s.mems.wf = true) : (Io.fill d i).2.s.mems.wf = true := by
  unfold Io.fill
  split
  · exact h
  dsimp only
  split
  · simp [h]
  · exact Io.move_memsWf _ _ _ _ _ _ _ _ _ (fun _ _ j hj => hj) (fun _ _ j hj => by simp [hj]) (by simp [h])

@[simp] theorem Io.ranges3_memsWf (i : Io) (d f) (hf : ∀ a b c j, j.s.mems.wf = true → (f a b c j).2.s.mems.wf = true) (h : i.s.mems.wf = true) : (i.ranges3 d f).2.s.mems.wf = true := by
  unfold Io.ranges3; dsimp only; (repeat' split) <;> simp [*]

@[simp] theorem Io.gather_memsWf (d) (i : Io) (h : i.s.mems.wf = true) : (Io.gather d i).2.s.mems.wf = true := by
  unfold Io.gather
  split
  · exact h
  · exact Io.ranges3_memsWf _ _ _ (fun _ _ _ j hj => Io.units_memsWf _ _ _ _ (fun _ k hk => by simp [hk]) hj) h

@[simp] theorem Io.scatter_memsWf (d) (i : Io) (h : i.s.mems.wf = true) : (Io.scatter d i).2.s.mems.wf = true := by
  unfold Io.scatter
  split
  · exact h
  · exact Io.ranges3_memsWf _ _ _ (fun _ _ _ j hj => Io.units_memsWf _ _ _ _ (fun _ k hk => by simp [hk]) hj) h

@[simp] theorem Io.embedBag_memsWf (d) (i : Io) (h : i.s.mems.wf = true) : (Io.embedBag d i).2.s.mems.wf = true := by
  unfold Io.embedBag
  split
  · exact h
  refine Io.ranges3_memsWf _ _ _ (fun e3 e4 e5 j hj => ?_) h
  have hp : (if (j.span e5 5 (d.w 5).toNat (4 * d.indexCount)).live = true then
      (j.span e5 5 (d.w 5).toNat (4 * d.indexCount)).load e5 5 (d.w 5).toNat (4 * d.indexCount)
      else ([], j.span e5 5 (d.w 5).toNat (4 * d.indexCount))).2.s.mems.wf = true := by split <;> simp [hj]
  dsimp only
  generalize (if (j.span e5 5 (d.w 5).toNat (4 * d.indexCount)).live = true then
      (j.span e5 5 (d.w 5).toNat (4 * d.indexCount)).load e5 5 (d.w 5).toNat (4 * d.indexCount)
      else ([], j.span e5 5 (d.w 5).toNat (4 * d.indexCount))) = p at hp ⊢
  split
  · exact hp
  · exact Io.units_memsWf _ _ _ _ (fun _ k hk => by (repeat' split) <;> simp [hk]) hp

@[simp] theorem Io.atomicBatch_memsWf (d) (i : Io) (h : i.s.mems.wf = true) : (Io.atomicBatch d i).2.s.mems.wf = true := by
  unfold Io.atomicBatch
  split
  · exact h
  dsimp only
  split
  · split <;> simp [h]
  · exact Io.units_memsWf _ _ _ _ (fun _ k hk => by split <;> simp [hk]) (by split <;> simp [h])

@[simp] theorem State.work_memsWf (x0 x1 x2 x3 x4 x5) (h5 : ∀ y0 y1, y1.s.mems.wf = true → (x5 y0 y1).2.s.mems.wf = true) (h : x0.mems.wf = true) : (State.work x0 x1 x2 x3 x4 x5).mems.wf = true := by
  unfold State.work; (try dsimp only); (repeat' split) <;> simp [*]

@[simp] theorem State.syncWait_memsWf (s : State) (q i b) (h : s.mems.wf = true) : (s.syncWait q i b).mems.wf = true :=
  State.withObj_memsWf _ _ _ _ _ (fun _ _ _ t ht => by (repeat' split) <;> simp [ht]) h

@[simp] theorem State.syncPoll_memsWf (s : State) (q i b) (h : s.mems.wf = true) : (s.syncPoll q i b).mems.wf = true :=
  State.withObj_memsWf _ _ _ _ _ (fun d e _ t ht => by
    have hl : ((t.io q d true b).load e 3 (d.w 3).toNat 8).2.s.mems.wf = true := by simp [ht]
    dsimp only
    generalize (t.io q d true b).load e 3 (d.w 3).toNat 8 = p at hl ⊢
    obtain ⟨bs, i⟩ := p
    (repeat' split) <;> simp_all) h

@[simp] theorem State.syncSignal_memsWf (s : State) (q i) (h : s.mems.wf = true) : (s.syncSignal q i).mems.wf = true := by
  refine State.withObj_memsWf _ _ _ _ _ (fun d e a t ht => ?_) h
  have hf := State.armFresh_memsWf t q i ht
  generalize t.armFresh q i = p at hf ⊢
  obtain ⟨_ | d', u⟩ := p <;> dsimp only at hf ⊢ <;> (repeat' split) <;> simp [ht, hf]

@[simp] theorem State.armTaken_memsWf (s : State) (h : s.mems.wf = true) : s.armTaken.mems.wf = true := by
  unfold State.armTaken
  split
  · exact h
  · split
    · exact h
    · rename_i q i rest _ _
      have hf := State.armFresh_memsWf { s with qmg := { s.qmg with armWait := rest } } q.toNat i h
      generalize State.armFresh _ _ _ = p at hf ⊢
      obtain ⟨_ | d', u⟩ := p <;> simp_all

@[simp] theorem State.expelOther_memsWf (s : State) (n) (h : s.mems.wf = true) : (s.expelOther n).mems.wf = true := by
  unfold State.expelOther
  dsimp only
  refine foldl_memsWf _ _ _ (fun t x ht => by split <;> simp [ht]) (State.expelRuns_memsWf _ _ ?_)
  simp only [State.resendTamps_frame, State.resendCopies_frame]
  refine foldl_memsWf _ _ _ (fun t o ht => by simp [ht]) (foldl_memsWf _ _ _ (fun t e ht => by simp [ht]) ?_)
  dsimp only
  exact State.failover_memsWf _ _ (foldl_memsWf _ _ _ (fun t i ht => by simp [ht])
    (foldl_memsWf _ _ _ (fun t p ht => by simp [ht]) h))

@[simp] theorem State.expel_memsWf (s : State) (n) (h : s.mems.wf = true) : (s.expel n).mems.wf = true := by
  unfold State.expel
  (try dsimp only); (repeat' split) <;> simp [h]

@[simp] theorem State.poolTestDone_memsWf (s : State) (b l) (h : s.mems.wf = true) : (s.poolTestDone b l).mems.wf = true := by
  unfold State.poolTestDone
  split
  · exact h
  refine State.mbDone_memsWf _ _ _ _ ?_
  have := swf_filter byte0 s.mems.pool
  simp_all [Mems.wf, Mem.wf]

theorem Mems.wf_set_msix {m : Mems} (v) (p) (h : m.wf = true) (hv : Mem.wf v = true) : Mems.wf { m with msix := v, pba := p } = true := by simp_all [Mems.wf]

theorem Mems.wf_msix {m : Mems} (h : m.wf = true) : Mem.wf m.msix = true := by simp_all [Mems.wf]

@[simp] theorem State.msixWr_memsWf (s : State) (a v) (h : s.mems.wf = true) : (s.msixWr a v).mems.wf = true := by
  have hm : ∀ b p, Mems.wf { s.mems with msix := Mem.wrN s.mems.msix a b, pba := p } = true := fun b p =>
    Mems.wf_set_msix _ _ h (Mem.wf_wrN _ _ _ (Mems.wf_msix h))
  unfold State.msixWr; dsimp only
  split
  · exact hm _ _
  · split
    · rw [State.vectorDue_memsWf]; exact hm _ _
    · exact hm _ _

@[simp] theorem State.pcieReset_memsWf (s : State) (k) (h : s.mems.wf = true) : (s.pcieReset k).mems.wf = true := by
  have hk : ∀ t : State, t.mems.wf = true →
      (if k = .perst then { t with pwr := { t.pwr with perstN := true, pcieUp := t.pwr.refclk } } else t).mems.wf = true := fun t ht => by
    split <;> exact ht
  unfold State.pcieReset
  refine hk _ ?_
  refine upto_memsWf _ _ _ (fun c t ht => by split <;> simp [ht]) ?_
  refine upto_memsWf _ _ _ (fun c t ht => by simp [ht]) ?_
  refine upto_memsWf _ _ _ (fun c t ht => by split <;> simp [ht]) ?_
  refine upto_memsWf _ _ _ (fun c t ht => by simp [ht]) ?_
  exact Mems.wf_set_msix _ _ h (by decide)

@[simp] theorem State.wrSys_memsWf (s : State) (a v) (h : s.mems.wf = true) : (s.wrSys a v).mems.wf = true := by
  unfold State.wrSys; (repeat' split) <;> simp [h]

@[simp] theorem State.wrXlt_memsWf (s : State) (a v) (h : s.mems.wf = true) : (s.wrXlt a v).mems.wf = true := by
  unfold State.wrXlt; dsimp only; (repeat' split) <;> simp [h]

@[simp] theorem State.wrEng_memsWf (s : State) (a v) (h : s.mems.wf = true) : (s.wrEng a v).mems.wf = true := by
  unfold State.wrEng
  split
  · exact State.spareCmd_memsWf _ _ _ _ (fun t n ht => by split <;> simp [ht]) h
  · split <;> simp [h]

@[simp] theorem State.wrSec_memsWf (s : State) (a v) (h : s.mems.wf = true) : (s.wrSec a v).mems.wf = true := by
  unfold State.wrSec
  split
  · exact State.secIf_memsWf _ _ (fun t ht => by dsimp only; (repeat' split) <;> simp [ht]) h
  · (repeat' split) <;> simp [h]

theorem Mems.wf_set_mbwin {m : Mems} (v) (h : m.wf = true) (hv : Mem.wf v = true) : Mems.wf { m with mbwin := v } = true := by simp_all [Mems.wf]

theorem Mems.wf_set_cmdwin {m : Mems} (v) (h : m.wf = true) (hv : Mem.wf v = true) : Mems.wf { m with cmdwin := v } = true := by simp_all [Mems.wf]

theorem Mems.wf_set_ordwin {m : Mems} (v) (h : m.wf = true) (hv : Mem.wf v = true) : Mems.wf { m with ordwin := v } = true := by simp_all [Mems.wf]

theorem Mems.wf_mbwin {m : Mems} (h : m.wf = true) : Mem.wf m.mbwin = true := by simp_all [Mems.wf]

theorem Mems.wf_cmdwin {m : Mems} (h : m.wf = true) : Mem.wf m.cmdwin = true := by simp_all [Mems.wf]

theorem Mems.wf_ordwin {m : Mems} (h : m.wf = true) : Mem.wf m.ordwin = true := by simp_all [Mems.wf]

theorem ite_memsWf {c : Prop} [Decidable c] {a b : State} (ha : a.mems.wf = true) (hb : b.mems.wf = true) : (if c then a else b).mems.wf = true := by
  split
  · exact ha
  · exact hb

@[simp] theorem State.write32_memsWf (s : State) (a v) (h : s.mems.wf = true) : (s.write32 a v).mems.wf = true := by
  unfold State.write32
  iterate 13 refine ite_memsWf (by simp [h]) ?_
  simp [h]

theorem State.winWr_memsWf {s t : State} {off w v} (ht : s.winWr off w v = some t) (h : s.mems.wf = true) : t.mems.wf = true := by
  unfold State.winWr at ht
  refine of_ite_some ht (fun ht => ?_) (fun ht => ?_)
  · obtain rfl := Option.some.inj ht
    exact Mems.wf_set_mbwin _ h (wf_winWrite' _ _ _ _ (Mems.wf_mbwin h))
  refine of_ite_some ht (fun ht => ?_) (fun ht => ?_)
  · obtain rfl := Option.some.inj ht; simp [h]
  refine of_ite_some ht (fun ht => ?_) (fun ht => ?_)
  · obtain rfl := Option.some.inj ht; simp [h]
  refine of_ite_some ht (fun ht => ?_) (fun ht => ?_)
  · obtain rfl := Option.some.inj ht; exact h
  refine of_ite_some ht (fun ht => ?_) (fun ht => ?_)
  · obtain rfl := Option.some.inj ht; simp [h]
  refine of_ite_some ht (fun ht => ?_) (fun ht => ?_)
  · obtain rfl := Option.some.inj ht; simp [h]
  refine of_ite_some ht (fun ht => ?_) (fun ht => ?_)
  · obtain rfl := Option.some.inj ht; simp [h]
  refine of_ite_some ht (fun ht => ?_) (fun ht => ?_)
  · obtain rfl := Option.some.inj ht; simp [h]
  refine of_ite_some ht (fun ht => ?_) (fun ht => ?_)
  · obtain rfl := Option.some.inj ht; simp [h]
  refine of_ite_some ht (fun ht => ?_) (fun ht => ?_)
  · obtain rfl := Option.some.inj ht; exact h
  refine of_ite_some ht (fun ht => ?_) (fun ht => ?_)
  · obtain rfl := Option.some.inj ht
    split
    · exact h
    · exact Mems.wf_set_cmdwin _ h (wf_winWrite' _ _ _ _ (Mems.wf_cmdwin h))
  refine of_ite_some ht (fun ht => ?_) (fun ht => ?_)
  · obtain rfl := Option.some.inj ht
    split
    · exact h
    · exact Mems.wf_set_ordwin _ h (wf_winWrite' _ _ _ _ (Mems.wf_ordwin h))
  cases ht

@[simp] theorem State.barWrite_memsWf (s : State) (a w v) (h : s.mems.wf = true) : (s.barWrite a w v).mems.wf = true := by
  unfold State.barWrite
  split
  · exact State.winWr_memsWf ‹_› h
  · dsimp only; split <;> simp [h]

@[simp] theorem State.hostWriteReg_memsWf (s : State) (a w v) (h : s.mems.wf = true) : (s.hostWriteReg a w v).mems.wf = true := by
  unfold State.hostWriteReg; split <;> simp [h]

@[simp] theorem State.execBar_memsWf (s : State) (r) (h : s.mems.wf = true) : (State.execBar barWin s r).mems.wf = true := by
  unfold State.execBar
  dsimp only [barWin]
  split <;> simp [h]

@[simp] theorem State.perform_memsWf (s : State) (c r m) (h : s.mems.wf = true) : (State.perform barWin s c r m).mems.wf = true := by
  have hc := State.capture_memsWf s r h
  unfold State.perform
  dsimp only
  generalize s.capture r = u at hc ⊢
  (repeat' split) <;> simp [hc]

@[simp] theorem State.settle_memsWf (s : State) (c r m) (h : s.mems.wf = true) : (State.settle barWin s c r m).mems.wf = true := by
  unfold State.settle; dsimp only; (repeat' split) <;> simp [h]

@[simp] theorem State.admitReq_memsWf (s : State) (r m) (h : s.mems.wf = true) : (State.admitReq barWin s r m).mems.wf = true := by
  unfold State.admitReq; dsimp only; (repeat' split) <;> simp [h]

@[simp] theorem State.sedDrain_memsWf (n) (s : State) (h : s.mems.wf = true) : (State.sedDrain barWin n s).mems.wf = true := by
  induction n generalizing s with
  | zero => exact h
  | succ n ih =>
    unfold State.sedDrain
    split
    · exact h
    · exact ih _ (by simp [h])

@[simp] theorem State.runReq_memsWf (s : State) (r m) (h : s.mems.wf = true) : (State.runReq barWin s r m).mems.wf = true := by
  unfold State.runReq; dsimp only; (repeat' split) <;> simp [h]

@[simp] theorem State.drainHeld_memsWf (n) (s : State) (h : s.mems.wf = true) : (State.drainHeld barWin n s).mems.wf = true := by
  induction n generalizing s with
  | zero => exact h
  | succ n ih =>
    unfold State.drainHeld
    split
    · exact h
    · exact ih _ (by simp [h])

@[simp] theorem State.release_memsWf (s : State) (h : s.mems.wf = true) : (State.release barWin s).mems.wf = true :=
  State.drainHeld_memsWf _ s h

@[simp] theorem State.duplicate_memsWf (s : State) (r m) (h : s.mems.wf = true) : (State.duplicate barWin s r m).mems.wf = true := by
  unfold State.duplicate; (repeat' split) <;> simp [h]

@[simp] theorem State.homeTake_memsWf (s : State) (r m) (h : s.mems.wf = true) : (State.homeTake barWin s r m).mems.wf = true := by
  unfold State.homeTake; dsimp only; (repeat' split) <;> simp [h]

@[simp] theorem State.homeArrive_memsWf (s : State) (r m) (h : s.mems.wf = true) : (State.homeArrive barWin s r m).mems.wf = true := by
  unfold State.homeArrive; (repeat' split) <;> simp [h]

@[simp] theorem State.drainBusy_memsWf (n) (s : State) (h : s.mems.wf = true) : (State.drainBusy barWin n s).mems.wf = true := by
  induction n generalizing s with
  | zero => exact h
  | succ n ih =>
    unfold State.drainBusy
    split
    · exact h
    · exact ih _ (by split <;> simp [h])

@[simp] theorem State.txnEnd_memsWf (s : State) (t) (h : s.mems.wf = true) : (State.txnEnd barWin s t).mems.wf = true := by
  unfold State.txnEnd
  exact State.release_memsWf _ (State.drainBusy_memsWf _ _ (by split <;> simp [h]))

@[simp] theorem State.sidDone_memsWf (s : State) (t i) (h : s.mems.wf = true) : (State.sidDone barWin s t i).mems.wf = true := by
  unfold State.sidDone; dsimp only; split <;> simp [h]

@[simp] theorem State.snoopResponse_memsWf (s : State) (p m) (h : s.mems.wf = true) : (State.snoopResponse barWin s p m).mems.wf = true := by
  unfold State.snoopResponse
  split
  · exact h
  · exact State.sidDone_memsWf _ _ _ (by (repeat' split) <;> simp [h])

@[simp] theorem State.resolveSids_memsWf (mine n) (s : State) (h : s.mems.wf = true) : (State.resolveSids barWin mine n s).mems.wf = true := by
  induction n generalizing s with
  | zero => exact h
  | succ n ih =>
    unfold State.resolveSids
    split
    · exact h
    · exact ih _ (by simp [h])

@[simp] theorem State.agentDrop_memsWf (s : State) (a) (h : s.mems.wf = true) : (State.agentDrop barWin s a).mems.wf = true := by
  unfold State.agentDrop
  exact State.resolveSids_memsWf _ _ _ (foldl_memsWf _ _ _ (fun _ _ ht => by simp [ht]) h)

@[simp] theorem State.reclaimTimeout_memsWf (s : State) (i) (h : s.mems.wf = true) : (State.reclaimTimeout barWin s i).mems.wf = true := by
  unfold State.reclaimTimeout
  split
  · exact h
  · exact State.resolveSids_memsWf _ _ _ (foldl_memsWf _ _ _ (fun _ _ ht => by simp [ht]) h)

@[simp] theorem State.applyCmd_memsWf (s : State) (c) (h : s.mems.wf = true) : (State.applyCmd barWin s c).mems.wf = true := by
  unfold State.applyCmd; dsimp only
  split
  · exact State.setExtAdmit_memsWf _ _ _ (State.setExtW_memsWf _ _ _ _ (by simp [h]))
  · (repeat' split) <;> simp [h]

@[simp] theorem State.extDone_memsWf (s : State) (h : s.mems.wf = true) : (State.extDone barWin s).mems.wf = true := by
  unfold State.extDone; dsimp only; (repeat' split) <;> simp [h]

@[simp] theorem State.extTimed_memsWf (s : State) (h : s.mems.wf = true) : (State.extTimed barWin s).mems.wf = true := by
  unfold State.extTimed; dsimp only; (repeat' split) <;> simp [h]

@[simp] theorem State.sedRelease_memsWf (l) (s : State) (h : s.mems.wf = true) : (State.sedRelease barWin l s).mems.wf = true := by
  induction l generalizing s with
  | nil => exact h
  | cons a l ih => exact ih _ (by simp [h])

@[simp] theorem State.sedAct_memsWf (s : State) (op) (h : s.mems.wf = true) : (State.sedAct barWin s op).mems.wf = true := by
  unfold State.sedAct; dsimp only; (repeat' split) <;> simp [h]

@[simp] theorem State.sedOp_memsWf (s : State) (op) (h : s.mems.wf = true) : (State.sedOp barWin s op).mems.wf = true := by
  unfold State.sedOp; (repeat' split) <;> simp [h]

@[simp] theorem State.sedSlot_memsWf (s : State) (l) (h : s.mems.wf = true) : (State.sedSlot barWin s l).mems.wf = true := by
  unfold State.sedSlot; split <;> simp [h]

theorem State.resetDeassert_memsWf (s : State) (st : Straps) (hs : s.mems.wf = true) : (s.resetDeassert st).mems.wf = true := by
  unfold State.resetDeassert
  split
  · exact hs
  · simp [Tests.test_reset_stores.2]

/-- Every command keeps the memories canonical. -/
theorem exec_memsWf (c : Instr) (s t : State) (hs : s.mems.wf = true) (h : exec c s = .next t) : t.mems.wf = true := by
  cases hw : c.isWrite
  · cases c
    all_goals try (cases hw; done)
    case forceK e => cases e <;> first | (cases hw; done) | exact keeps_of_whenUp (P := fun u => u.mems.wf = true) (fun _ => rfl) h hs (fun hu => by simp [hs])
    case watchRegister w j t n g => cases w <;> exact keeps_of_whenUp (P := fun u => u.mems.wf = true) (fun _ => rfl) h hs (fun hu => by simp [hs])
    all_goals first
      | refine keeps_of_whenUp (P := fun u => u.mems.wf = true) (fun _ => rfl) h hs (fun hu => ?_)
      | (obtain rfl := Host.Outcome.next.inj h)
    all_goals try (first | (simp [hs]; done) | (split <;> (try split) <;> simp [hs]; done))
    case resetDeassert st => exact s.resetDeassert_memsWf st hs
    case homeSlot m => exact State.inBackground_memsWf _ _ _ (fun t ht => by simp [ht]) hs
    case sedimentSlot m => exact State.inBackground_memsWf _ _ _ (fun t ht => by simp [ht]) hs
    case copy | fill | gather | embedBag | scatter | atomicBatch =>
      exact State.work_memsWf _ _ _ _ _ _ (fun d i hi => by simp [hi]) hs
    case heartbeatMiss port => dsimp only; exact ite_memsWf (by simp [hs]) hs
    case portId p peer => dsimp only; split <;> simp [hs]
    case cmisPoll b m flags => exact foldl_memsWf _ _ _ (fun t x ht => by simp [ht]) hs
    case getReq e p rs => exact State.rxPacket_memsWf _ _ _ _ (fun t ht => by simp [ht]) hs
  · cases c
    all_goals try (cases hw; done)
    case forceK e => cases e <;> first | (cases hw; done) | exact keeps_of_whenWr (P := fun u => u.mems.wf = true) (fun _ => rfl) h hs (fun hu => by simp [hs])
    all_goals refine keeps_of_whenWr (P := fun u => u.mems.wf = true) (fun _ => rfl) h hs (fun hu => ?_)
    all_goals try (first | (simp [hs]; done) | (split <;> (try split) <;> simp [hs]; done))
    case spareDisable p => exact State.spareCmd_memsWf _ _ _ _ (fun t n ht => by simp [ht]) hs
    case report i => exact State.secIf_memsWf _ _ (fun t ht => by simp [ht]) hs

/-- Settles O56: with a command waiting by the rule of every command, else by the frame of the idle step. -/
theorem memoriesStayCanonical : Obligations.MemoriesStayCanonical := by
  intro s t hs h
  unfold step at h
  split at h
  · obtain rfl := Host.Outcome.next.inj h
    simpa using hs
  · next c rest _ => exact exec_memsWf c { s with pending := rest } t hs h

end Sys2Proof.Machine
end

section
/-!
PROOFS. What a function leaves of the registers but those of a set (`RegsBut`), and the statements on the pins, the supplies, the hold-up and the side bands.
-/

namespace Sys2Proof.Machine

/-! ### What an event leaves of the registers -/

/-- Reading a register depends on the registers alone. -/
theorem State.rd_of_regs {s t : State} (h : t.regs = s.regs) (r : Nat) : t.rd r = s.rd r := by rw [State.rd, State.rd, h]

theorem State.f_of_regs {w : Nat} {s t : State} (h : t.regs = s.regs) (f : Fld w) : t.f f = s.f f := by
  rw [State.f, State.f, State.rd_of_regs h]

theorem State.f_of_rd {w : Nat} {s t : State} (f : Fld w) (h : t.rd f.off = s.rd f.off) : t.f f = s.f f := by rw [State.f, State.f, h]

@[simp] theorem State.emit_regs (s : State) (o : Out) : (s.emit o).regs = s.regs := by
  unfold State.emit
  split <;> rfl

@[simp] theorem State.setRing_regs (s : State) (r : Nat) (v : Ring) : (s.setRing r v).regs = s.regs := rfl

/-- From `s` to `t` only registers of `P` have changed, and canonical registers have stayed so. -/
structure RegsBut (P : Nat → Prop) (s t : State) : Prop where
  canonical : swf regReset s.regs = true → swf regReset t.regs = true
  rd : ∀ r, ¬ P r → t.rd r = s.rd r

theorem RegsBut.refl (P : Nat → Prop) (s : State) : RegsBut P s s := ⟨id, fun _ _ => rfl⟩

theorem RegsBut.trans {P : Nat → Prop} {s t u : State} (h : RegsBut P s t) (k : RegsBut P t u) : RegsBut P s u :=
  ⟨fun hs => k.canonical (h.canonical hs), fun r hr => (k.rd r hr).trans (h.rd r hr)⟩

theorem RegsBut.of_regs {P : Nat → Prop} {s t : State} (h : t.regs = s.regs) : RegsBut P s t :=
  ⟨fun hs => by rw [h]; exact hs, fun r _ => State.rd_of_regs h r⟩

theorem RegsBut.mono {P Q : Nat → Prop} {s t : State} (h : RegsBut P s t) (hl : ∀ r, P r → Q r) : RegsBut Q s t :=
  ⟨h.canonical, fun r hr => h.rd r (fun hm => hr (hl r hm))⟩

theorem RegsBut.setF {w : Nat} {P : Nat → Prop} {s t : State} (h : RegsBut P s t) (f : Fld w) (v : BitVec w) (hf : P f.off) :
    RegsBut P s (t.setF f v) :=
  h.trans ⟨fun ht => t.regs_setF f v ht, fun r hr => t.rd_wr_other _ _ _ (fun e => hr (e ▸ hf))⟩

theorem RegsBut.wr {P : Nat → Prop} {s t : State} (h : RegsBut P s t) (r : Nat) (v : R32) (hr : P r) : RegsBut P s (t.wr r v) :=
  h.trans ⟨fun ht => t.regs_wr r v ht, fun o ho => t.rd_wr_other _ _ _ (fun e => ho (e ▸ hr))⟩

theorem RegsBut.same_regs {P : Nat → Prop} {s t u : State} (h : RegsBut P s t) (hu : u.regs = t.regs) : RegsBut P s u :=
  h.trans (RegsBut.of_regs hu)

theorem RegsBut.f {w : Nat} {P : Nat → Prop} {s t : State} (h : RegsBut P s t) (f : Fld w) (hf : ¬ P f.off) : t.f f = s.f f :=
  State.f_of_rd f (h.rd _ hf)

theorem RegsBut.upto {P : Nat → Prop} {f : Nat → State → State} (hf : ∀ i s, RegsBut P s (f i s)) (n : Nat) (s : State) :
    RegsBut P s (upto f n s) := by
  induction n with
  | zero => exact RegsBut.refl P s
  | succ n ih => exact ih.trans (hf n _)

theorem RegsBut.foldl {α : Type} {P : Nat → Prop} {f : State → α → State} (hf : ∀ s a, RegsBut P s (f s a)) (l : List α) (s : State) :
    RegsBut P s (l.foldl f s) := by
  induction l generalizing s with
  | nil => exact RegsBut.refl P s
  | cons a l ih => exact (hf s a).trans (ih _)

theorem RegsBut.ite {P : Nat → Prop} {c : Prop} [Decidable c] {s t u : State} (ht : RegsBut P s t) (hu : RegsBut P s u) :
    RegsBut P s (if c then t else u) := by
  split
  · exact ht
  · exact hu

/-- The registers that an event writes: the tail and the loss count of its ring (R145, R147). -/
def evtRegs (r : Nat) : List Nat := [Reg.QMG_EVT_TAIL r, Reg.QMG_EVT_LOST r]

theorem State.raise_regs (s : State) (r : Nat) : (s.raise r).regs = s.regs := by
  unfold State.raise
  split
  · rfl
  split
  · rfl
  · unfold State.vectorDue State.vector
    split <;> simp

theorem State.putRecord_regsBut (s : State) (r : Nat) (e : Ev) (t : R64) (irq : Bool) : RegsBut (· ∈ evtRegs r) s (s.putRecord r e t irq) := by
  have htail : (F.QMG_EVT_TAIL_TAIL r).off ∈ evtRegs r := by simp [evtRegs, F.QMG_EVT_TAIL_TAIL]
  have hphase : (F.QMG_EVT_TAIL_PHASE r).off ∈ evtRegs r := by simp [evtRegs, F.QMG_EVT_TAIL_PHASE]
  have he := fun o => (RegsBut.refl (· ∈ evtRegs r) s).same_regs (s.emit_regs o)
  have hput : ∀ u, RegsBut (· ∈ evtRegs r) s u → RegsBut (· ∈ evtRegs r) s (if irq then u.raise r else u) := fun u hu => by
    split
    · exact hu.same_regs (u.raise_regs r)
    · exact hu
  unfold State.putRecord
  refine hput _ ?_
  split
  · exact ((he _).setF _ _ htail).setF _ _ hphase
  · exact (he _).setF _ _ htail

theorem State.dropEvent_regsBut (s : State) (r : Nat) : RegsBut (· ∈ evtRegs r) s (s.dropEvent r) := by
  unfold State.dropEvent State.incF
  exact ((RegsBut.refl _ s).setF _ _ (by simp [evtRegs, F.QMG_EVT_LOST_COUNT])).same_regs rfl

theorem State.noteLost_regsBut (s : State) (r : Nat) : RegsBut (· ∈ evtRegs r) s (s.noteLost r) := by
  unfold State.noteLost
  split
  · exact RegsBut.refl _ s
  · exact (s.putRecord_regsBut r _ _ _).same_regs rfl

theorem State.postTo_regsBut (s : State) (r : Nat) (e : Ev) (irq : Bool) : RegsBut (· ∈ evtRegs r) s (s.postTo r e irq) := by
  unfold State.postTo
  split
  · exact s.dropEvent_regsBut r
  · have hn : RegsBut (· ∈ evtRegs r) s (if (s.ring r).held = [] then s.noteLost r else s) := by
      split
      · exact s.noteLost_regsBut r
      · exact RegsBut.refl _ s
    dsimp only
    generalize (if (s.ring r).held = [] then s.noteLost r else s) = u at hn ⊢
    split
    · exact hn.trans (State.putRecord_regsBut _ r e _ irq)
    split
    · exact hn.same_regs rfl
    · exact hn.trans (State.dropEvent_regsBut _ r)

/-- An event writes the tail and the loss count of ring 0, no other register. -/
theorem State.post_regsBut (s : State) (e : Ev) : RegsBut (· ∈ evtRegs 0) s (s.post e) := s.postTo_regsBut 0 e false

theorem State.regs_post (s : State) (e : Ev) (h : swf regReset s.regs = true) : swf regReset (s.post e).regs = true :=
  (s.post_regsBut e).canonical h

theorem State.rd_post (s : State) (e : Ev) (r : Nat) (h : r ∉ evtRegs 0) : (s.post e).rd r = s.rd r := (s.post_regsBut e).rd r h

theorem State.f_post {w : Nat} (s : State) (e : Ev) (f : Fld w) (h : f.off ∉ evtRegs 0) : (s.post e).f f = s.f f :=
  (s.post_regsBut e).f f h

/-! ### Reset pins, supplies, reference clocks (R52, R53, R649, R654, R657, R658) -/

theorem State.loadStraps_rest (s : State) (st : Straps) : (s.loadStraps st).home = s.home ∧ (s.loadStraps st).ep = s.ep ∧
    (s.loadStraps st).xlt = s.xlt ∧ (s.loadStraps st).sec = s.sec := by
  simp [State.loadStraps]

theorem State.clayReconcile_rest (s : State) : s.clayReconcile.home = s.home ∧ s.clayReconcile.ep = s.ep ∧ s.clayReconcile.xlt = s.xlt ∧
    s.clayReconcile.sec = s.sec := by
  unfold State.clayReconcile
  (repeat' split) <;> simp

theorem State.takeMap_rest (s : State) (b : Bool) : (s.takeMap b).home = s.home ∧ (s.takeMap b).ep = s.ep ∧ (s.takeMap b).xlt = s.xlt ∧
    (s.takeMap b).sec = s.sec := by
  simp [State.takeMap, State.countSpares]

theorem State.loadMap_rest (s : State) : s.loadMap.home = s.home ∧ s.loadMap.ep = s.ep ∧ s.loadMap.xlt = s.xlt ∧ s.loadMap.sec = s.sec := by
  unfold State.loadMap
  dsimp only
  split
  · exact s.takeMap_rest false
  split
  · exact s.takeMap_rest true
  · simp

/-- The state that RST_N releases, before the clay bank, the straps and the tile map are read into it. -/
def State.released (s : State) (st : Straps) : State :=
  let s := s.clayFlush s.clay.pend
  let held := decide (s.pwr.hold = .alarm) || decide (s.pwr.hold = .thermal)
  { State.reset with
    part := s.part
    clay := { s.clay with bank0 := st.bank0, bank1 := st.bank1 }
    out := s.out
    free := s.free
    pending := s.pending
    pwr := { State.reset.pwr with
      hold := if held then s.pwr.hold else if st.pwrfailN then .none else .holdUpEnd
      perstN := s.pwr.perstN
      pcieUp := s.pwr.refclk && s.pwr.perstN
      refclk := s.pwr.refclk
      thermtripN := s.pwr.thermtripN
      jtag := s.pwr.jtag
      driven := !held && st.pwrfailN
      straps := st } }

theorem State.resetDeassert_eq (s : State) (st : Straps) (hp : s.pwr.powered = true) (hr : s.pwr.rstN = false) :
    s.resetDeassert st = ((s.released st).clayReconcile.loadStraps st).loadMap := by
  unfold State.resetDeassert
  rw [if_neg (by simp [hp, hr])]
  rfl

theorem State.resetDeassert_rest (s : State) (st : Straps) (hp : s.pwr.powered = true) (hr : s.pwr.rstN = false) :
    (s.resetDeassert st).home = State.reset.home ∧ (s.resetDeassert st).ep = State.reset.ep ∧
      (s.resetDeassert st).xlt = State.reset.xlt ∧ (s.resetDeassert st).sec = State.reset.sec ∧
      (s.resetDeassert st).clk = State.reset.clk ∧ (s.resetDeassert st).pwr = (s.released st).pwr := by
  rw [s.resetDeassert_eq st hp hr]
  obtain ⟨h1, h2, h3, h4⟩ := ((s.released st).clayReconcile.loadStraps st).loadMap_rest
  obtain ⟨k1, k2, k3, k4⟩ := (s.released st).clayReconcile.loadStraps_rest st
  obtain ⟨l1, l2, l3, l4⟩ := (s.released st).clayReconcile_rest
  exact ⟨h1.trans (k1.trans l1), h2.trans (k2.trans l2), h3.trans (k3.trans l3), h4.trans (k4.trans l4), by simp [State.released], by simp⟩

theorem State.released_up (s : State) (st : Straps) :
    (s.released st).up = true ↔ st.pwrfailN = true ∧ s.pwr.hold ≠ .alarm ∧ s.pwr.hold ≠ .thermal := by
  by_cases h1 : s.pwr.hold = .alarm
  · simp [State.up, State.released, h1]
  by_cases h2 : s.pwr.hold = .thermal
  · simp [State.up, State.released, h2]
  by_cases h3 : st.pwrfailN = true
  · simp [State.up, State.released, State.reset, h1, h2, h3]
  · simp [State.up, State.released, h1, h2, h3]

theorem State.released_driven (s : State) (st : Straps) :
    (s.released st).pwr.driven = true ↔ st.pwrfailN = true ∧ s.pwr.hold ≠ .alarm ∧ s.pwr.hold ≠ .thermal := by
  simp only [State.released, State.clayFlush_frame, Bool.and_eq_true, Bool.not_eq_true', Bool.or_eq_false_iff, decide_eq_false_iff_not]
  exact And.comm

theorem State.up_of_pwr {s t : State} (h : t.pwr = s.pwr) : t.up = s.up := by rw [State.up, State.up, h]

/-- A PCIe reset leaves the pins but those of PCIe: PERST_N and the link. -/
theorem State.pcieReset_pwr (s : State) (k : PcieReset) :
    (s.pcieReset k).pwr = if k = .perst then { s.pwr with perstN := true, pcieUp := s.pwr.refclk } else s.pwr := by
  unfold State.pcieReset
  split <;> simp [apply_ite State.pwr]

/-- Settles O1. -/
theorem powerAndReset : Obligations.PowerAndReset := by
  refine ⟨⟨fun s ns hp hn => ?_, fun s ns hn => ?_, fun s st hp hr => ⟨_, rfl, ?_⟩⟩,
    ⟨fun s => ⟨_, rfl, ?_⟩, fun s hp => ⟨_, rfl, ?_⟩, fun s => rfl⟩,
    fun s hu => exec_up rfl hu rfl, fun s hu hr => goes_up rfl hu ?_, fun s k hu => goes_up (f := (State.pcieReset · k)) rfl hu ?_⟩
  · exact congrArg Host.Outcome.next (if_neg (by simp [hp]; omega))
  · exact congrArg Host.Outcome.next (if_pos (.inl hn))
  · obtain ⟨hh, he, hx, hc, hk, hpw⟩ := s.resetDeassert_rest st hp hr
    have hup := (State.up_of_pwr hpw).symm ▸ s.released_up st
    refine ⟨?_, ?_, ?_, s.resetDeassert_pending st, hh, he, hx, hc, hk, hup, ?_⟩
    · rw [hpw]; rfl
    · rw [hpw]; rfl
    · rw [hpw]; rfl
    · rw [hup, hpw, s.released_driven]
  · exact ⟨rfl, rfl, rfl, rfl, rfl, rfl⟩
  · unfold State.powerUp
    simp [hp, State.up]
  · exact ⟨rfl, by simp [State.up, State.pllLost, State.holdReset], rfl, s.f_setF_same _ _ (by decide) hr, by simp⟩
  · rw [State.up, s.pcieReset_pwr]
    simp only [State.up] at hu
    split <;> simp [*]

/-! ### An aborted handover -/

theorem State.mbDone_regsBut (s : State) (op : Nat) (err : BitVec 4) (d : Bytes) :
    RegsBut (· ∈ Reg.FWM_MB_RES :: evtRegs 0) s (s.mbDone op err d) := by
  unfold State.mbDone
  refine RegsBut.trans ?_ ((State.post_regsBut _ _).mono fun r hr => List.mem_cons_of_mem _ hr)
  refine RegsBut.setF (RegsBut.setF (RegsBut.setF ?_ _ _ (by decide)) _ _ (by decide)) _ _ (by decide)
  exact RegsBut.of_regs rfl

theorem State.mbVersion_regsBut (s : State) : RegsBut (· ∈ Reg.FWM_MB_RES :: evtRegs 0) s s.mbVersion := by
  unfold State.mbVersion
  split
  · exact s.mbDone_regsBut _ _ _
  · refine RegsBut.trans ?_ (State.mbDone_regsBut _ _ _ _)
    exact RegsBut.of_regs rfl

theorem State.takeWaiting_regsBut (s : State) : RegsBut (· ∈ Reg.FWM_MB_RES :: evtRegs 0) s s.takeWaiting := by
  have h0 : RegsBut (· ∈ Reg.FWM_MB_RES :: evtRegs 0) s { s with fwm := { s.fwm with busy := [], timed := false, mbWait := none } } :=
    RegsBut.of_regs rfl
  unfold State.takeWaiting
  dsimp only
  split
  · exact h0.trans (State.mbDone_regsBut _ _ _ _)
  · exact h0.trans (State.mbVersion_regsBut _)
  · exact h0

theorem State.takeWaiting_mems (s : State) (h : s.fwm.mbWait = none) : s.takeWaiting.mems = s.mems := by
  unfold State.takeWaiting
  rw [h]

/-- An aborted handover leaves HSTATE IDLE (R629). -/
theorem State.hoAbort_hstate (s : State) (e : BitVec 4) (h : swf regReset s.regs = true) : (s.hoAbort e).hstate = hIdle := by
  unfold State.hoAbort
  dsimp only
  split
  · assumption
  · have hf := s.regs_setF F.FWM_STAT_ERR e h
    rw [State.hstate, State.f_post _ _ _ (by decide), (State.takeWaiting_regsBut _).f _ (by decide)]
    exact State.f_setF_same _ _ _ (by decide) hf

theorem State.hoAbort_mems (s : State) (e : BitVec 4) (h : s.fwm.mbWait = none) : (s.hoAbort e).mems = s.mems := by
  unfold State.hoAbort
  dsimp only
  split
  · rfl
  · rw [State.post_mems, State.takeWaiting_mems _ (by simpa [State.fwErr] using h)]
    simp

/-! ### The hold-up and its stages (R649) -/

theorem State.holdUpStage_early (s : State) (g : HoldStage) (h : s.pwr.holdUp = false ∨ (s.now - s.pwr.failAt).toNat < holdUpTicks g) :
    s.holdUpStage g = s := by
  unfold State.holdUpStage
  rw [if_pos]
  simpa using h

theorem State.holdUpStage_due (s : State) (g : HoldStage) (hh : s.pwr.holdUp = true) (ht : holdUpTicks g ≤ (s.now - s.pwr.failAt).toNat) :
    ¬ (!s.pwr.holdUp ∨ (s.now - s.pwr.failAt).toNat < holdUpTicks g) :=
  fun h => h.elim (by simp [hh]) (Nat.not_lt.mpr ht)

theorem State.clayFlush_pend (s : State) (l : List (BitVec 10 × R32 × Bool)) : (s.clayFlush l).clay.pend = [] := by
  induction l generalizing s with
  | nil => rfl
  | cons x l ih => exact ih _

theorem State.nodeClay_pend (s : State) (w : Nat) (v : R32) : (s.nodeClay w v).clay.pend = s.clay.pend := by
  unfold State.nodeClay State.putClay State.wearOne
  dsimp only
  (repeat' split) <;> simp

/-- Settles O2. -/
theorem holdUp : Obligations.HoldUp := by
  refine ⟨fun s hu => goes_up rfl hu ?_, fun s hu hh hs ht => goes_up (f := (State.holdUpStage · .going)) rfl hu ?_,
    fun s hu hh hs ht => goes_up (f := (State.holdUpStage · .clayEnd)) rfl hu ?_,
    fun s hu hh hs ht => goes_up (f := (State.holdUpStage · .powerFail)) rfl hu ?_,
    fun s hu hh hs ht => exec_up (f := (State.holdUpStage · .selfReset)) rfl hu ?_,
    fun s g hu hh => exec_up (f := (State.holdUpStage · g)) rfl hu (s.holdUpStage_early g (.inl hh)),
    fun s g hu ht => exec_up (f := (State.holdUpStage · g)) rfl hu (s.holdUpStage_early g (.inr ht))⟩
  · by_cases hh : s.pwr.holdUp = true
    · rw [State.holdUp, if_pos hh]
      exact ⟨hh, hu, fun _ => rfl, fun h => absurd (hh.symm.trans h) (by decide), fun _ h => absurd (hh.symm.trans h) (by decide)⟩
    · rw [State.holdUp, if_neg hh]
      refine ⟨by simp, by simpa [State.up] using hu, fun h => State.hoAbort_mems _ _ h, fun _ => by simp, fun _ _ hr => ?_⟩
      exact State.hoAbort_hstate _ _ hr
  · unfold State.holdUpStage
    rw [if_neg (s.holdUpStage_due .going hh ht)]
    dsimp only
    rw [hs]
    exact ⟨by simp, by simpa [State.up] using hu⟩
  · unfold State.holdUpStage
    rw [if_neg (s.holdUpStage_due .clayEnd hh ht)]
    dsimp only
    rw [hs]
    exact ⟨by simp, by simp [State.nodeClay_pend, State.clayFlush_pend]⟩
  · unfold State.holdUpStage
    rw [if_neg (s.holdUpStage_due .powerFail hh ht)]
    dsimp only
    rw [hs]
    exact ⟨by simp, by simpa [State.up] using hu⟩
  · unfold State.holdUpStage
    rw [if_neg (s.holdUpStage_due .selfReset hh ht)]
    dsimp only
    rw [hs]
    rfl

/-! ### JTAG and SMBus (R662, R663) -/

theorem State.jtagLoad_powered (s : State) (j : Jtag) (h : s.pwr.powered = true) :
    s.jtagLoad j = { s with pwr := { s.pwr with jtag := j, driven := s.up } } := if_pos h

theorem State.jtagLoad_unpowered (s : State) (j : Jtag) (h : s.pwr.powered = false) : s.jtagLoad j = s := if_neg (by simp [h])

/-- A test instruction that is admitted: the node runs, in boundary-scan test mode. -/
theorem State.jtagTest_admitted (s : State) (j : Jtag) (h : s.up = true ∧ s.pwr.straps.bootSel = 2) :
    s.jtagTest j = { s with pwr := { s.pwr with jtag := j, driven := decide (j ≠ .highz) } } := if_pos h

/-- One that is not leaves the TAP in bypass. -/
theorem State.jtagTest_bypass (s : State) (j : Jtag) (h : s.up = false ∨ s.pwr.straps.bootSel ≠ 2) : s.jtagTest j = s.jtagLoad .bypass :=
  if_neg (fun ⟨hu, hb⟩ => h.elim (fun h => by simp [hu] at h) (fun h => h hb))

theorem State.up_of_unpowered (s : State) (h : s.pwr.powered = false) : s.up = false := by simp [State.up, h]

theorem State.emit_eq (s : State) (o : Out) (h : o.isPcie = false) : s.emit o = { s with out := s.out ++ [o] } := if_neg (by simp [h])

theorem State.smbusRead_of_reg (s : State) (code : BitVec 8) (v : R32) (h : s.smbusReg code = some v) :
    s.smbusRead code = { s with out := s.out ++ [.smbus (4 :: natLe 4 v.toNat ++ [pec ([0xB4, code, 0xB5] ++ 4 :: natLe 4 v.toNat)])] } := by
  unfold State.smbusRead
  rw [h]
  exact s.emit_eq _ rfl

theorem State.smbusRead_of_none (s : State) (code : BitVec 8) (h : s.smbusReg code = none) : s.smbusRead code = s := by
  unfold State.smbusRead
  rw [h]

theorem State.smbusReg_none (s : State) (code : BitVec 8) (h : code = 0 ∨ 8 ≤ code.toNat) : s.smbusReg code = none := by
  have hn : code.toNat = 0 ∨ 8 ≤ code.toNat := h.imp_left (fun h => by simp [h])
  unfold State.smbusReg
  split
  case h_8 => rfl
  all_goals omega

/-- Settles O3. -/
theorem sideBands : Obligations.SideBands := by
  refine ⟨⟨fun s hp => ?_, fun s hp => ?_, fun s hp => ?_, fun s c j hc => ⟨fun h => ?_, fun ⟨hp, h⟩ => ?_⟩, fun s c hc hp => ?_⟩,
    fun s code v hu hc => exec_up (f := (State.smbusRead · code)) rfl hu (s.smbusRead_of_reg code v ?_),
    fun s code hu hc => exec_up (f := (State.smbusRead · code)) rfl hu (s.smbusRead_of_none code (s.smbusReg_none code hc)),
    fun s hu hn => exec_up rfl hu ?_, fun s hu hn => exec_up rfl hu (if_pos hn)⟩
  · exact congrArg Host.Outcome.next (s.jtagLoad_powered _ hp)
  · exact congrArg Host.Outcome.next (s.jtagLoad_powered _ hp)
  · refine congrArg Host.Outcome.next ((if_pos hp).trans ?_)
    rw [s.jtagLoad_powered _ hp]
    rfl
  · have ht := s.jtagTest_admitted j h
    simp only [List.mem_cons, Prod.mk.injEq, List.not_mem_nil, or_false] at hc
    rcases hc with ⟨rfl, rfl⟩ | ⟨rfl, rfl⟩ | ⟨rfl, rfl⟩ | ⟨rfl, rfl⟩ | ⟨rfl, rfl⟩ <;> exact congrArg Host.Outcome.next ht
  · have ht := (s.jtagTest_bypass j h).trans (s.jtagLoad_powered _ hp)
    simp only [List.mem_cons, Prod.mk.injEq, List.not_mem_nil, or_false] at hc
    rcases hc with ⟨rfl, rfl⟩ | ⟨rfl, rfl⟩ | ⟨rfl, rfl⟩ | ⟨rfl, rfl⟩ | ⟨rfl, rfl⟩ <;> exact congrArg Host.Outcome.next ht
  · have hl := fun j => congrArg (Host.Outcome.next (φ := Fault) (ρ := Refusal)) (s.jtagLoad_unpowered j hp)
    have ht := fun j => congrArg (Host.Outcome.next (φ := Fault) (ρ := Refusal))
      ((s.jtagTest_bypass j (.inl (s.up_of_unpowered hp))).trans (s.jtagLoad_unpowered .bypass hp))
    have hi : exec .idcode s = .next s := congrArg Host.Outcome.next (if_neg (by simp [hp]))
    simp only [List.mem_cons, List.not_mem_nil, or_false] at hc
    rcases hc with rfl | rfl | rfl | rfl | rfl | rfl | rfl | rfl
    · exact hl _
    · exact hi
    · exact hl _
    all_goals exact ht _
  · simp only [List.mem_cons, Prod.mk.injEq, List.not_mem_nil, or_false] at hc
    rcases hc with ⟨rfl, rfl⟩ | ⟨rfl, rfl⟩ | ⟨rfl, rfl⟩ | ⟨rfl, rfl⟩ | ⟨rfl, rfl⟩ | ⟨rfl, rfl⟩ | ⟨rfl, rfl⟩ <;> rfl
  · unfold State.smbusAlert
    rw [if_neg (by simp [hn])]
    exact State.emit_eq _ _ rfl

/-- A queue store that holds two records of queue 0: the queue runs from SRAM, its first record holds nothing, the second a running COPY. -/
def dupQueueState : State :=
  let s := (Tests.wit0.setF (F.QMG_Q_STAT_STATE 0) qRunning).setF (F.QMG_Q_CFG_LOC 0) 1
  { s with qmg := { s.qmg with qs := [(0, { Tests.wQRec with stopSlot := 1 }), (0, { Tests.wQRec with descs := [Tests.wD 6 [] .running] })] } }

/-- Refutes O12: the clause of QUEUE_COMMIT with RUN 0 asks for no canonical queue store. Where the store holds two records of one queue, the write of
the first one's stop drops it, the second comes to light with its running descriptor, and the settling that follows writes to memory. -/
theorem not_queuesAndRings : ¬ Obligations.QueuesAndRings := by
  rintro ⟨⟨-, -, -, h, -⟩, -⟩
  obtain ⟨t, ht, -, -, hm, -⟩ := h dupQueueState 0 (by decide +kernel) (by decide +kernel) (by decide +kernel) (by decide +kernel) (by decide +kernel)
    (by decide +kernel)
  obtain rfl := Host.Outcome.next.inj ht
  exact absurd hm (by decide +kernel)

end Sys2Proof.Machine
end

section
/-!
PROOFS. Control and power: timed commits, clay, the voltage and thermal loops, alarms, the mailbox, boot and handover.
-/

namespace Sys2Proof.Machine

/-! ### Commands with no effect, and fields of other registers -/

theorem exec_same_up {c : Instr} {s : State} {f : State → State} (hc : exec c s = whenUp s f) (h : f s = s) : exec c s = .next s := by
  rw [hc, whenUp, h, ite_self]

theorem exec_same_wr {c : Instr} {s : State} {f : State → State} (hc : exec c s = whenWr s f) (h : f s = s) : exec c s = .next s := by
  rw [hc, whenWr, h, ite_self]

theorem State.f_setF_reg {w u : Nat} (s : State) (f : Fld w) (g : Fld u) (v : BitVec w) (h : g.off ≠ f.off) : (s.setF f v).f g = s.f g :=
  State.f_of_rd g (s.rd_setF_other f v g.off h)

theorem State.on_setF_reg {w : Nat} (s : State) (f : Fld w) (g : Fld 1) (v : BitVec w) (h : g.off ≠ f.off) : (s.setF f v).on g = s.on g :=
  congrArg (· == 1) (s.f_setF_reg f g v h)

/-! ### Timed commits (R640, R641) -/

theorem State.tcCancel_err {s : State} {e : BitVec 4} (he : e ≠ 0)
    (h : (if tcReserved s.tcGroup then 1 else if !s.tcPends s.tcGroup then 3 else 0 : BitVec 4) = e) : s.tcCancel = s.setF F.FWM_TC_RES_ERR e := by
  unfold State.tcCancel
  dsimp only
  rw [h]
  exact if_pos he

theorem State.tcArm_err {s : State} {e : BitVec 4} (he : e ≠ 0)
    (h : (if tcReserved s.tcGroup then 1 else if 64 ≤ s.fwm.tcs.length then 2 else if s.tcPends s.tcGroup then 3
      else if !s.inTime then 4 else 0 : BitVec 4) = e) : s.tcArm = s.setF F.FWM_TC_RES_ERR e := by
  unfold State.tcArm
  dsimp only
  rw [h]
  exact if_pos he

theorem State.tcArm_ok {s : State} (hr : tcReserved s.tcGroup = false) (hl : s.fwm.tcs.length < 64) (hp : s.tcPends s.tcGroup = false)
    (ht : s.inTime = true) :
    s.tcArm = if s.tcTick.toNat < s.now.toNat then
        ((s.setF F.FWM_TC_RES_ERR 0).commitGroup s.tcGroup.1 s.tcGroup.2 s.tcTick).post (evCommitLate ((s.rd Reg.FWM_TC_GROUP).setWidth 16) s.tcTick)
      else { s.setF F.FWM_TC_RES_ERR 0 with fwm := { s.fwm with tcs := s.fwm.tcs ++ [(s.tcTick, s.tcGroup)] } } := by
  have hg : (s.setF F.FWM_TC_RES_ERR 0).rd Reg.FWM_TC_GROUP = s.rd Reg.FWM_TC_GROUP := s.rd_setF_other _ _ _ (by decide)
  unfold State.tcArm
  dsimp only
  rw [hr, hp, ht, if_neg (Nat.not_le_of_lt hl)]
  simp only [Bool.false_eq_true, Bool.not_true, if_false, ne_eq, not_true_eq_false, hg]
  rfl

theorem State.tcCancel_ok {s : State} (hr : tcReserved s.tcGroup = false) (hp : s.tcPends s.tcGroup = true) :
    s.tcCancel = { s.setF F.FWM_TC_RES_ERR 0 with
      fwm := { s.fwm with tcs := dropWhere (fun t => t.2.1 == s.tcGroup.1 && t.2.2 == s.tcGroup.2) s.fwm.tcs } } := by
  unfold State.tcCancel
  dsimp only
  rw [hr, hp]
  rfl

theorem State.tcApply_none (s : State) (l : List (R64 × BitVec 4 × BitVec 10)) (h : ∀ x ∈ l, s.due x.1 = false) : s.tcApply l = s := by
  induction l with
  | nil => rfl
  | cons x l ih =>
    rw [State.tcApply, h x List.mem_cons_self]
    exact ih (fun y hy => h y (List.mem_cons_of_mem x hy))

/-- Settles O45. -/
theorem timedCommits : Obligations.TimedCommits := by
  refine ⟨fun s hw hr hl hp ht hn hs => goes_wr rfl hw ?_, fun s hw hr hl hp ht hn => exec_wr rfl hw ?_,
    fun s hw => ⟨fun hr => ⟨exec_wr rfl hw ?_, exec_wr rfl hw ?_⟩, fun hr hl => exec_wr rfl hw ?_, fun hr hl hp => exec_wr rfl hw ?_,
      fun hr hl hp ht => exec_wr rfl hw ?_, fun hr hp => exec_wr rfl hw ?_⟩,
    fun s hw hr hp hs => goes_wr rfl hw ?_, fun s x g hu hl hd => exec_up (f := fun s => s.tcApply s.fwm.tcs) rfl hu ?_, fun s h => ?_⟩
  · rw [State.tcArm_ok hr hl hp ht, if_neg (Nat.not_lt_of_le hn)]
    exact ⟨rfl, s.f_setF_same F.FWM_TC_RES_ERR 0 (by decide) hs, rfl, rfl⟩
  · rw [State.tcArm_ok hr hl hp ht, if_pos hn]
  · exact State.tcArm_err (by decide) (by rw [hr]; rfl)
  · exact State.tcCancel_err (by decide) (by rw [hr]; rfl)
  · exact State.tcArm_err (by decide) (by rw [hr, if_pos hl]; rfl)
  · exact State.tcArm_err (by decide) (by rw [hr, hp, if_neg (Nat.not_le_of_lt hl)]; rfl)
  · exact State.tcArm_err (by decide) (by rw [hr, hp, ht, if_neg (Nat.not_le_of_lt hl)]; rfl)
  · exact State.tcCancel_err (by decide) (by rw [hr, hp]; rfl)
  · rw [State.tcCancel_ok hr hp]
    refine ⟨?_, s.f_setF_same F.FWM_TC_RES_ERR 0 (by decide) hs, fun x hx hg => ?_, rfl, rfl⟩
    · simp only [State.tcPends, dropWhere, List.any_eq_false, List.mem_filter]
      exact fun x hx => by simpa [imp_iff_not_or] using hx.2
    · exact List.mem_filter.2 ⟨hx, by simpa [Prod.ext_iff, imp_iff_not_or] using hg⟩
  · simp [hl, State.tcApply, hd]
  · exact exec_same_up (f := fun s => s.tcApply s.fwm.tcs) rfl (s.tcApply_none _ h)

/-! ### Clay writes (R634, R635, R637) -/

theorem satAdd_one {w : Nat} (x : BitVec w) (h : x.toNat + 1 < 2 ^ w) : satAdd x 1 = x + 1 := by
  rw [satAdd, if_pos h]
  exact BitVec.eq_of_toNat_eq (by simp)

theorem State.clayPending_f (s : State) (h : swf regReset s.regs = true) :
    s.clayPending.f F.CLY_STAT_PENDING = BitVec.ofNat 5 (min 16 s.clay.pend.length) :=
  s.f_setF_same _ _ (by decide) h

/-- A word that is not worn out: the write is counted, and nothing else. -/
theorem State.wearOne_fresh {s : State} {w : Nat} (h : (s.wear w).toNat < 2000000) :
    s.wearOne w = { s with clay := { s.clay with wear := sset wearMfg s.clay.wear w (s.wear w + 1) } } := by
  have hn : satAdd (s.wear w) 1 = s.wear w + 1 := satAdd_one _ (by omega)
  have hle : ¬ 2000000 < (s.wear w + 1).toNat := by
    rw [BitVec.toNat_add]
    have := Nat.mod_le ((s.wear w).toNat + (1 : BitVec 24).toNat) (2 ^ 24)
    simp at this ⊢
    omega
  unfold State.wearOne
  dsimp only
  rw [hn]
  exact if_neg hle

/-- What both banks hold once a write is read back. -/
theorem State.putClay_both {s : State} (w : Nat) (b0 b1 : R32) (h0 : s.clay.bank0 = true) (h1 : s.clay.bank1 = true) :
    s.putClay w b0 b1 = { s with clay := { s.clay with k0 := sset clayMfg s.clay.k0 w b0, k1 := sset clayMfg s.clay.k1 w b1 } } := by
  unfold State.putClay
  dsimp only
  rw [h0, h1]
  rfl

/-- The end of a clay write: the copies, and whether it is tried again. -/
theorem State.clayDone_clay {s : State} {w : BitVec 10} {v : R32} {a : Bool} {r : List (BitVec 10 × R32 × Bool)} (b0 b1 : R32)
    (hp : s.clay.pend = (w, v, a) :: r) (h0 : s.clay.bank0 = true) (h1 : s.clay.bank1 = true) :
    (s.clayDone b0 b1).clay = { s.clay with
      k0 := sset clayMfg s.clay.k0 w.toNat b0
      k1 := sset clayMfg s.clay.k1 w.toNat b1
      pend := if (b0 ≠ v ∨ b1 ≠ v) ∧ a = false then (w, v, true) :: r else r } := by
  unfold State.clayDone
  rw [hp]
  dsimp only
  rw [h0, h1, s.putClay_both w.toNat b0 b1 h0 h1]
  cases a with
  | false =>
    by_cases hb : b0 = v ∧ b1 = v
    · simp [hb, State.clayPending, h0, h1]
    · have hb' : b0 ≠ v ∨ b1 ≠ v := by rw [Decidable.not_and_iff_or_not] at hb; exact hb
      simp [hb', h0, h1]
  | true => by_cases hb : b0 = v ∧ b1 = v <;> simp [hb, State.clayPending, apply_ite State.clay, h0, h1]

theorem State.clayDone_out {s : State} {w : BitVec 10} {v : R32} {a : Bool} {r : List (BitVec 10 × R32 × Bool)}
    (hp : s.clay.pend = (w, v, a) :: r) (h0 : s.clay.bank0 = true) (h1 : s.clay.bank1 = true) : (s.clayDone v v).out = s.out := by
  unfold State.clayDone
  rw [hp]
  dsimp only
  rw [h0, h1, s.putClay_both w.toNat v v h0 h1]
  simp [State.clayPending]

/-- Settles O44. -/
theorem clayCommands : Obligations.ClayCommands := by
  refine ⟨fun s w v hw ht hl hr hs => goes_wr (f := (State.clayWrite · w.toNat v)) rfl hw ?_,
    fun s w v ht => exec_same_wr (f := (State.clayWrite · w.toNat v)) rfl (if_pos (by simp [ht])),
    fun s w v b0 b1 a r hu hp h0 h1 hk0 hk1 hr => goes_up (f := (State.clayDone · b0 b1)) rfl hu ?_,
    fun s b0 b1 hp => exec_same_up (f := (State.clayDone · b0 b1)) rfl (by unfold State.clayDone; rw [hp])⟩
  · have he : s.clayWrite w.toNat v = State.clayPending { s with clay := { s.clay with
        wear := sset wearMfg s.clay.wear w.toNat (s.wear w.toNat + 1), pend := s.clay.pend ++ [(w, clayMask w.toNat v, false)] } } := by
      unfold State.clayWrite
      rw [ht, State.wearOne_fresh hl, BitVec.ofNat_toNat, BitVec.setWidth_eq]
      rfl
    rw [he]
    refine ⟨rfl, sget_sset_same _ _ _ _ hs, ?_, rfl, rfl, rfl, rfl⟩
    refine (State.clayPending_f _ ?_).trans ?_
    · exact hr
    · simp
  · have hc := s.clayDone_clay b0 b1 hp h0 h1
    refine ⟨?_, ?_, by simp, by rw [hc], ?_, fun k hk => ⟨?_, ?_⟩⟩
    · rw [State.clay0, hc]; exact sget_sset_same _ _ _ _ hk0
    · rw [State.clay1, hc]; exact sget_sset_same _ _ _ _ hk1
    · rintro rfl rfl; exact State.clayDone_out hp h0 h1
    · rw [State.clay0, hc]; exact sget_sset_other _ _ _ _ _ hk
    · rw [State.clay1, hc]; exact sget_sset_other _ _ _ _ _ hk

/-! ### The voltage loop (R642, R643) -/

theorem State.fwLoops_setF {w : Nat} (s : State) (f : Fld w) (v : BitVec w) (h : Reg.FWM_STAT ≠ f.off) : (s.setF f v).fwLoops = s.fwLoops := by
  rw [State.fwLoops, State.fwLoops, State.boot, State.boot, s.f_setF_reg f _ v h]
  rfl

/-- A new target of the regulator is shown and sent. -/
theorem State.setMv_spec {s : State} {mv : Nat} (h : mv < 65536) (hr : swf regReset s.regs = true) :
    ((s.setMv mv).f F.PWR_VCORE_MV).toNat = mv ∧ (s.setMv mv).f F.PWR_VCORE_AMPS = s.f F.PWR_VCORE_AMPS ∧ (s.setMv mv).mems = s.mems := by
  unfold State.setMv
  split
  case isTrue he => exact ⟨he, rfl, rfl⟩
  case isFalse =>
    refine ⟨?_, ?_, by simp⟩
    · rw [State.f_of_regs (State.emit_regs _ _), s.f_setF_same _ _ (by decide) hr]
      simp
      omega
    · rw [State.f_of_regs (State.emit_regs _ _)]
      exact s.f_setF_other _ _ _ hr (by decide)

theorem State.setMv_out {s : State} {mv : Nat} (h : (s.f F.PWR_VCORE_MV).toNat ≠ mv) :
    (s.setMv mv).out = s.out ++ [.avs (BitVec.ofNat 16 mv)] := by
  unfold State.setMv
  rw [if_neg h, State.emit, if_neg (by simp [Out.isPcie])]
  rfl

section
variable {s : State} (m : BitVec 8) (a : BitVec 16) (hl : s.fwLoops = true)
include hl

theorem State.avsStep_fixed (he : s.on F.PWR_AVS_EN = false) :
    s.avsStep m a = (s.setF F.PWR_VCORE_AMPS a).setMv (max 650 (min 800 (s.f F.PWR_AVS_FIX_MV).toNat)) := by
  have hx : (s.setF F.PWR_VCORE_AMPS a).f F.PWR_AVS_FIX_MV = s.f F.PWR_AVS_FIX_MV := s.f_setF_reg _ _ _ (by decide)
  have hn : (s.setF F.PWR_VCORE_AMPS a).on F.PWR_AVS_EN = s.on F.PWR_AVS_EN := s.on_setF_reg _ _ _ (by decide)
  unfold State.avsStep
  rw [hl]
  dsimp only
  rw [hn, he, hx]
  rfl

variable (he : s.on F.PWR_AVS_EN = true) (hr : swf regReset s.regs = true)
include he hr

theorem State.avsStep_low (hm : m.toInt < ((s.f F.PWR_AVS_MARGIN).toNat : Int)) (hv : (s.f F.PWR_VCORE_MV).toNat < 796) :
    s.avsStep m a = (s.setF F.PWR_VCORE_AMPS a).setMv ((s.f F.PWR_VCORE_MV).toNat + 5) := by
  have hn : (s.setF F.PWR_VCORE_AMPS a).on F.PWR_AVS_EN = s.on F.PWR_AVS_EN := s.on_setF_reg _ _ _ (by decide)
  have hg : (s.setF F.PWR_VCORE_AMPS a).f F.PWR_AVS_MARGIN = s.f F.PWR_AVS_MARGIN := s.f_setF_reg _ _ _ (by decide)
  have hx : (s.setF F.PWR_VCORE_AMPS a).f F.PWR_VCORE_MV = s.f F.PWR_VCORE_MV := s.f_setF_other _ _ _ hr (by decide)
  unfold State.avsStep
  rw [hl]
  dsimp only
  rw [hn, he, hg, hx]
  simp only [Bool.not_true, Bool.false_eq_true, if_false, if_pos hm, if_neg (show ¬ 800 ≤ (s.f F.PWR_VCORE_MV).toNat by omega)]
  rw [Nat.min_eq_right (by omega)]

theorem State.avsStep_high (hm : ((s.f F.PWR_AVS_MARGIN).toNat : Int) + 2 < m.toInt) (hv : 655 ≤ (s.f F.PWR_VCORE_MV).toNat) :
    s.avsStep m a = (s.setF F.PWR_VCORE_AMPS a).setMv ((s.f F.PWR_VCORE_MV).toNat - 5) := by
  have hn : (s.setF F.PWR_VCORE_AMPS a).on F.PWR_AVS_EN = s.on F.PWR_AVS_EN := s.on_setF_reg _ _ _ (by decide)
  have hg : (s.setF F.PWR_VCORE_AMPS a).f F.PWR_AVS_MARGIN = s.f F.PWR_AVS_MARGIN := s.f_setF_reg _ _ _ (by decide)
  have hx : (s.setF F.PWR_VCORE_AMPS a).f F.PWR_VCORE_MV = s.f F.PWR_VCORE_MV := s.f_setF_other _ _ _ hr (by decide)
  unfold State.avsStep
  rw [hl]
  dsimp only
  rw [hn, he, hg, hx]
  simp only [Bool.not_true, Bool.false_eq_true, if_false, if_pos hm, if_neg (show ¬ m.toInt < ((s.f F.PWR_AVS_MARGIN).toNat : Int) by omega)]
  rw [Nat.max_eq_right (by omega)]

end

/-! ### The thermal loop (R645, R646) -/

theorem hottest_cons (d : Nat) (x y : BitVec 16) (l : List (BitVec 16)) :
    hottest d (x :: y :: l) = if x.toInt < (hottest (d + 1) (y :: l)).2.toInt then hottest (d + 1) (y :: l) else (d, x) := rfl

theorem le_hottest (d : Nat) (l : List (BitVec 16)) (x : BitVec 16) (hx : x ∈ l) : x.toInt ≤ (hottest d l).2.toInt := by
  induction l generalizing d with
  | nil => exact absurd hx List.not_mem_nil
  | cons y l ih =>
    cases l with
    | nil => rw [List.mem_singleton.1 hx]; exact le_refl _
    | cons z l =>
      rw [hottest_cons]
      have h := ih (d + 1)
      split
      case isTrue hlt =>
        rcases List.mem_cons.1 hx with rfl | hm
        · omega
        · exact h hm
      case isFalse hlt =>
        rcases List.mem_cons.1 hx with rfl | hm
        · exact le_refl _
        · exact (h hm).trans (by simpa using hlt)

theorem hottest_mem (d : Nat) (l : List (BitVec 16)) (h : l ≠ []) : (hottest d l).2 ∈ l ∧ (hottest d l).1 < d + l.length := by
  induction l generalizing d with
  | nil => exact absurd rfl h
  | cons y l ih =>
    cases l with
    | nil => exact ⟨List.mem_singleton.2 rfl, by simp [hottest]⟩
    | cons z l =>
      rw [hottest_cons]
      obtain ⟨hm, hl⟩ := ih (d + 1) (by simp)
      split
      · exact ⟨List.mem_cons_of_mem _ hm, by simp only [List.length_cons] at hl ⊢; omega⟩
      · exact ⟨List.mem_cons_self, by simp⟩

/-- The node with a sample's readings shown, and the highest of them (R645). -/
def State.sampled (s : State) (l : List (BitVec 16)) : State :=
  ((upto (fun d s => s.setF (F.PWR_TDIE_TEMP d) (l.getD d 0)) l.length s).setF F.PWR_TMAX_DIE (BitVec.ofNat 5 (hottest 0 l).1)).setF F.PWR_TMAX_TMAX
    (hottest 0 l).2

/-- The registers of the temperatures. -/
def tempRegs (r : Nat) : Prop := r = Reg.PWR_TMAX ∨ 0x20040 ≤ r

theorem State.tdie_regsBut (s : State) (l : List (BitVec 16)) (n : Nat) :
    RegsBut (0x20040 ≤ ·) s (upto (fun d s => s.setF (F.PWR_TDIE_TEMP d) (l.getD d 0)) n s) :=
  RegsBut.upto (fun d s => (RegsBut.refl _ s).setF _ _ (by simp [F.PWR_TDIE_TEMP, Reg.PWR_TDIE])) n s

theorem State.sampled_regsBut (s : State) (l : List (BitVec 16)) : RegsBut tempRegs s (s.sampled l) :=
  have h : RegsBut tempRegs s _ := (s.tdie_regsBut l l.length).mono (fun _ => Or.inr)
  (h.setF F.PWR_TMAX_DIE _ (Or.inl rfl)).setF F.PWR_TMAX_TMAX _ (Or.inl rfl)

theorem State.tdie_f (s : State) (l : List (BitVec 16)) (n d : Nat) (hd : d < n) (h : swf regReset s.regs = true) :
    (upto (fun d s => s.setF (F.PWR_TDIE_TEMP d) (l.getD d 0)) n s).f (F.PWR_TDIE_TEMP d) = l.getD d 0 := by
  induction n with
  | zero => omega
  | succ n ih =>
    rw [upto]
    by_cases he : d = n
    · subst he
      exact State.f_setF_same _ _ _ (by simp [F.PWR_TDIE_TEMP]) ((s.tdie_regsBut l d).canonical h)
    · rw [State.f_setF_reg _ _ _ _ (by simp [F.PWR_TDIE_TEMP, Reg.PWR_TDIE]; omega)]
      exact ih (by omega)

theorem State.sampled_rest (s : State) (l : List (BitVec 16)) : (s.sampled l).fwm = s.fwm ∧ (s.sampled l).pwr = s.pwr ∧ (s.sampled l).out = s.out ∧
    (s.sampled l).mems = s.mems :=
  ⟨upto_keep State.fwm _ _ _ (fun _ _ => rfl), upto_keep State.pwr _ _ _ (fun _ _ => rfl), upto_keep State.out _ _ _ (fun _ _ => rfl),
    upto_keep State.mems _ _ _ (fun _ _ => rfl)⟩

theorem State.sampled_f (s : State) (l : List (BitVec 16)) (h : swf regReset s.regs = true) :
    (∀ d < l.length, (s.sampled l).f (F.PWR_TDIE_TEMP d) = l.getD d 0) ∧ (s.sampled l).f F.PWR_TMAX_TMAX = (hottest 0 l).2 ∧
      (s.sampled l).f F.PWR_TMAX_DIE = BitVec.ofNat 5 (hottest 0 l).1 := by
  have hu := (s.tdie_regsBut l l.length).canonical h
  have hv := State.regs_setF _ F.PWR_TMAX_DIE (BitVec.ofNat 5 (hottest 0 l).1) hu
  refine ⟨fun d hd => ?_, State.f_setF_same _ _ _ (by decide) hv, ?_⟩
  · have hne : ∀ r, r < 0x20040 → (F.PWR_TDIE_TEMP d).off ≠ r := fun r hr => by simp only [F.PWR_TDIE_TEMP, Reg.PWR_TDIE]; omega
    rw [State.sampled, State.f_setF_reg _ _ _ _ (hne _ (by decide)), State.f_setF_reg _ _ _ _ (hne _ (by decide))]
    exact s.tdie_f l _ d hd h
  · rw [State.sampled, State.f_setF_other _ _ _ _ hv (by decide)]
    exact State.f_setF_same _ _ _ (by decide) hu

theorem State.sampled_warnC (s : State) (l : List (BitVec 16)) : (s.sampled l).warnC = s.warnC := by
  have h : Reg.PWR_THERM ∉ {r | tempRegs r} := by simp [tempRegs, Reg.PWR_THERM, Reg.PWR_TMAX]
  rw [State.warnC, State.warnC, State.dilC, State.dilC, (s.sampled_regsBut l).f F.PWR_THERM_WARN h, (s.sampled_regsBut l).f F.PWR_THERM_DIL h]

theorem State.thermSample_eq (s : State) (l : List (BitVec 16)) (h : l.length ≤ 20) :
    s.thermSample l = (fun t => if 1760 ≤ (hottest 0 l).2.toInt then t.thermTrip else t)
      ((s.sampled l).warnStage (BitVec.ofNat 5 (hottest 0 l).1) (hottest 0 l).2) := by
  unfold State.thermSample State.sampled
  rw [List.take_of_length_le h]

/-- The dilation request that a temperature of `t` sixteenths asks for from `k` (R646). -/
def nextReq (d t : Int) (k : Nat) : Nat := if d * 16 ≤ t then min 32 (k + 2) else if t < (d - 3) * 16 then max 16 (k - 1) else k

/-- The node with its power and dilation request shown, before the factor is taken over. -/
def State.requested (s : State) (w : BitVec 16) (k : Nat) : State :=
  let s := ((s.setF F.PWR_POWER_WATTS w).setF F.PWR_KREQ_K (BitVec.ofNat 6 k)).setF F.PWR_STAT_DIL (bit1 (decide (16 < k)))
  { s with dtt := { s.dtt with thermReq := BitVec.ofNat 6 k } }

theorem State.thermRequest_eq {s : State} (w : BitVec 16) (hl : s.fwLoops = true) :
    s.thermRequest w = (s.requested w (nextReq s.dilC (s.f F.PWR_TMAX_TMAX).toInt (s.f F.PWR_KREQ_K).toNat)).thermal := by
  have h1 : (s.setF F.PWR_POWER_WATTS w).fwLoops = true := (s.fwLoops_setF _ _ (by decide)).trans hl
  have h2 : (s.setF F.PWR_POWER_WATTS w).dilC = s.dilC := by
    rw [State.dilC, State.dilC, s.f_setF_reg F.PWR_POWER_WATTS F.PWR_THERM_DIL w (by decide)]
  have h3 : (s.setF F.PWR_POWER_WATTS w).f F.PWR_TMAX_TMAX = s.f F.PWR_TMAX_TMAX := s.f_setF_reg _ _ _ (by decide)
  have h4 : (s.setF F.PWR_POWER_WATTS w).f F.PWR_KREQ_K = s.f F.PWR_KREQ_K := s.f_setF_reg _ _ _ (by decide)
  unfold State.thermRequest
  dsimp only
  rw [h1, h2, h3, h4]
  rfl

theorem State.requested_spec {s : State} (w : BitVec 16) (k : Nat) (hk : k < 64) (hr : swf regReset s.regs = true) :
    (s.requested w k).f F.PWR_POWER_WATTS = w ∧ ((s.requested w k).f F.PWR_KREQ_K).toNat = k ∧
      (s.requested w k).dtt.thermReq = (s.requested w k).f F.PWR_KREQ_K ∧ (s.requested w k).mems = s.mems ∧ (s.requested w k).out = s.out := by
  have hw := s.regs_setF F.PWR_POWER_WATTS w hr
  have hf : (s.requested w k).f F.PWR_KREQ_K = BitVec.ofNat 6 k := by
    refine (State.f_setF_reg _ _ _ _ (by decide)).trans (State.f_setF_same _ _ _ (by decide) hw)
  refine ⟨?_, ?_, hf.symm, rfl, rfl⟩
  · exact (State.f_setF_reg _ _ _ _ (by decide)).trans ((State.f_setF_reg _ _ _ _ (by decide)).trans (State.f_setF_same _ _ _ (by decide) hr))
  · rw [hf]
    simp
    omega

/-- Settles O47. -/
theorem voltageAndTemperature : Obligations.VoltageAndTemperature := by
  have hmv : ∀ (s : State) (a : BitVec 16), swf regReset s.regs = true → (s.setF F.PWR_VCORE_AMPS a).f F.PWR_VCORE_MV = s.f F.PWR_VCORE_MV :=
    fun s a hr => s.f_setF_other _ _ _ hr (by decide)
  have hamps : ∀ (s : State) (a : BitVec 16), swf regReset s.regs = true → (s.setF F.PWR_VCORE_AMPS a).f F.PWR_VCORE_AMPS = a :=
    fun s a hr => s.f_setF_same _ _ (by decide) hr
  refine ⟨fun s m a hu hl he hr hm hv => goes_up (f := (State.avsStep · m a)) rfl hu ?_,
    fun s m a hu hl he hr hm hv => goes_up (f := (State.avsStep · m a)) rfl hu ?_,
    fun s m a hu hl he hr => goes_up (f := (State.avsStep · m a)) rfl hu ?_,
    fun s m a hl => ⟨exec_same_up (f := (State.avsStep · m a)) rfl (if_pos (by simp [hl])), exec_same_up (f := fun s => if s.fwLoops then s.emit .avsStatus else s) rfl (if_neg (by simp [hl]))⟩,
    fun s hu hl => exec_up rfl hu ?_, fun s l hu h20 hx hw hr => goes_up (f := (State.thermSample · l)) rfl hu ?_,
    fun s l d hu h20 hd hx => goes_up (f := (State.thermSample · l)) rfl hu ?_,
    fun s l hu h20 hw hx ha hs => ⟨{ s.sampled l with fwm := { s.fwm with warnArmed := false } }, exec_up (f := (State.thermSample · l)) rfl hu ?_, rfl,
      (s.sampled_rest l).2.2.1, (s.sampled_rest l).2.2.2⟩,
    fun s w hu hl => exec_up (f := (State.thermRequest · w)) rfl hu ?_,
    fun s w hu hl ht hr hk => ?_, fun s w hu hl ht hr => ?_⟩
  · have hc := s.regs_setF F.PWR_VCORE_AMPS a hr
    rw [State.avsStep_low m a hl he hr hm hv]
    obtain ⟨h1, h2, h3⟩ := State.setMv_spec (s := s.setF F.PWR_VCORE_AMPS a) (mv := (s.f F.PWR_VCORE_MV).toNat + 5) (by omega) hc
    refine ⟨h1, h2.trans (hamps s a hr), ?_, h3⟩
    rw [State.setMv_out (by rw [hmv s a hr]; omega)]
    simp [BitVec.ofNat_add]
  · have hc := s.regs_setF F.PWR_VCORE_AMPS a hr
    rw [State.avsStep_high m a hl he hr hm hv]
    obtain ⟨h1, h2, h3⟩ := State.setMv_spec (s := s.setF F.PWR_VCORE_AMPS a) (mv := (s.f F.PWR_VCORE_MV).toNat - 5) (by omega) hc
    refine ⟨h1, h2.trans (hamps s a hr), ?_, h3⟩
    rw [State.setMv_out (by rw [hmv s a hr]; omega)]
    have he : BitVec.ofNat 16 ((s.f F.PWR_VCORE_MV).toNat - 5) = s.f F.PWR_VCORE_MV - 5 := by bv_omega
    rw [he]
    rfl
  · have hc := s.regs_setF F.PWR_VCORE_AMPS a hr
    rw [State.avsStep_fixed m a hl he]
    obtain ⟨h1, h2, h3⟩ := State.setMv_spec (s := s.setF F.PWR_VCORE_AMPS a) (mv := max 650 (min 800 (s.f F.PWR_AVS_FIX_MV).toNat)) (by omega) hc
    exact ⟨h1, h2.trans (hamps s a hr), h3⟩
  · rw [if_pos hl]
    exact s.emit_eq _ rfl
  · have hne : l ≠ [] := by rintro rfl; simp at h20
    obtain ⟨hm, hlt⟩ := hottest_mem 0 l hne
    obtain ⟨hd, ht, hdie⟩ := s.sampled_f l hr
    obtain ⟨-, hp, ho, hmm⟩ := s.sampled_rest l
    have hx' := hx _ hm
    have he : s.thermSample l = { s.sampled l with fwm := { (s.sampled l).fwm with warnArmed := true } } := by
      rw [s.thermSample_eq l (by omega)]
      dsimp only
      rw [if_neg (by omega), State.warnStage]
      simp only [s.sampled_warnC]
      rw [if_neg (by omega), if_pos (by omega)]
    rw [he]
    refine ⟨fun d h => hd d (by rw [h20]; exact List.mem_range.1 h), ht, ?_, fun x hx => ?_, rfl, hp, ho, hmm⟩
    · refine (congrArg BitVec.toNat hdie).trans ?_
      simp
      omega
    · refine (le_hottest 0 l x hx).trans_eq (congrArg BitVec.toInt ht.symm)
  · have hm : 1760 ≤ (hottest 0 l).2.toInt := hx.trans (le_hottest 0 l _ (by rw [List.getD_eq_getElem _ _ hd]; exact List.getElem_mem hd))
    rw [s.thermSample_eq l h20]
    dsimp only
    rw [if_pos hm]
    simp [State.thermTrip, State.up]
  · rw [s.thermSample_eq l h20]
    dsimp only
    have hs' : (s.sampled l).on F.PWR_STAT_WARN = false := by
      rw [State.on, (s.sampled_regsBut l).f _ (by simp [tempRegs, F.PWR_STAT_WARN, Reg.PWR_STAT, Reg.PWR_TMAX])]
      exact hs
    have hf := (s.sampled_rest l).1
    rw [if_neg (by omega), State.warnStage]
    simp only [s.sampled_warnC, hf]
    rw [if_pos ⟨hw, ha⟩]
    exact congrArg (State.post · _) (congrArg (State.setF · F.PWR_STAT_WARN 1) (if_neg (show ¬ (s.sampled l).on F.PWR_STAT_WARN = true by simp [hs'])))
  · unfold State.thermRequest
    dsimp only
    rw [s.fwLoops_setF _ _ (by decide), hl]
    rfl
  · obtain ⟨h1, h2, h3⟩ := State.requested_spec w (min 32 ((s.f F.PWR_KREQ_K).toNat + 2)) (by omega) hr
    refine ⟨_, exec_up (f := (State.thermRequest · w)) rfl hu ?_, h1, h2, h3⟩
    rw [State.thermRequest_eq w hl, nextReq, if_pos ht]
  · have hk := (s.f F.PWR_KREQ_K).isLt
    obtain ⟨h1, h2, h3⟩ := State.requested_spec w (max 16 ((s.f F.PWR_KREQ_K).toNat - 1)) (by omega) hr
    refine ⟨_, exec_up (f := (State.thermRequest · w)) rfl hu ?_, h1, h2, h3⟩
    rw [State.thermRequest_eq w hl, nextReq, if_neg (by omega), if_pos ht]

@[simp] theorem foldl_io_sec {α : Type} (f : Io → α → Io) (l : List α) (s : Io) (h : ∀ s a, (f s a).s.sec = s.s.sec) : (l.foldl f s).s.sec = s.s.sec := by
  induction l generalizing s with
  | nil => rfl
  | cons a l ih => simp only [List.foldl_cons, ih, h]

@[simp] theorem State.wr_sec (x0 x1 x2) : (State.wr x0 x1 x2).sec = x0.sec := by
  simp [State.wr]

@[simp] theorem State.incF_sec (x0 x1 x2 x3) : (@State.incF x0 x1 x2 x3).sec = x1.sec := by
  simp [State.incF]

@[simp] theorem State.setRing_sec (x0 x1 x2) : (State.setRing x0 x1 x2).sec = x0.sec := by
  simp [State.setRing]

@[simp] theorem State.vector_sec (x0 x1) : (State.vector x0 x1).sec = x0.sec := by
  unfold State.vector; (repeat' split) <;> simp

@[simp] theorem State.vectorDue_sec (x0 x1) : (State.vectorDue x0 x1).sec = x0.sec := by
  simp [State.vectorDue]

@[simp] theorem State.setStaged_sec (x0 x1 x2) : (State.setStaged x0 x1 x2).sec = x0.sec := by
  simp [State.setStaged]

@[simp] theorem State.setLp_sec (x0 x1 x2) : (State.setLp x0 x1 x2).sec = x0.sec := by
  simp [State.setLp]

@[simp] theorem State.lanes_sec (x0 x1 x2) : (State.lanes x0 x1 x2).sec = x0.sec := by
  simp [State.lanes]

@[simp] theorem State.toState_sec (x0 x1 x2 x3) : (State.toState x0 x1 x2 x3).sec = x0.sec := by
  simp [State.toState]

@[simp] theorem State.freeEnt_sec (x0 x1) : (State.freeEnt x0 x1).sec = x0.sec := by
  unfold State.freeEnt; dsimp only; (repeat' split) <;> simp

@[simp] theorem State.leftPort_sec (x0 x1 x2) : (State.leftPort x0 x1 x2).sec = x0.sec := by
  unfold State.leftPort; (repeat' split) <;> simp

@[simp] theorem State.showSeed_sec (x0 x1) : (State.showSeed x0 x1).sec = x0.sec := by
  simp [State.showSeed]

@[simp] theorem State.newIndices_sec (x0 x1) : (State.newIndices x0 x1).sec = x0.sec := by
  simp [State.newIndices]

@[simp] theorem State.setOutq_sec (x0 x1 x2) : (State.setOutq x0 x1 x2).sec = x0.sec := by
  simp [State.setOutq]

@[simp] theorem State.redMark_sec (x0 x1 x2 x3 x4 x5) : (State.redMark x0 x1 x2 x3 x4 x5).2.sec = x0.sec := by
  unfold State.redMark; (repeat' split) <;> simp

@[simp] theorem State.mark_sec (x0 x1 x2) : (State.mark x0 x1 x2).2.sec = x0.sec := by
  unfold State.mark; dsimp only; (repeat' split) <;> simp

@[simp] theorem State.tampInto_sec (x0 x1 x2 x3) : (State.tampInto x0 x1 x2 x3).2.sec = x0.sec := by
  simp [State.tampInto]

@[simp] theorem State.tampNew_sec (x0 x1 x2 x3) : (State.tampNew x0 x1 x2 x3).2.sec = x0.sec := by
  simp [State.tampNew]

@[simp] theorem State.tamp_sec (x0 x1 x2 d) (h : State.sec d = x0.sec) : ((State.tamp x0 x1 x2).getD d).sec = x0.sec := by
  unfold State.tamp; dsimp only; (repeat' split) <;> simp [h]

@[simp] theorem State.escHold_sec (x0 x1 x2) : (State.escHold x0 x1 x2).sec = x0.sec := by
  unfold State.escHold; dsimp only; (repeat' split) <;> simp

@[simp] theorem State.join_sec (x0 x1 x2 x3 x4) : (State.join x0 x1 x2 x3 x4).sec = x0.sec := by
  unfold State.join; (repeat' split) <;> simp

@[simp] theorem State.enqueue_sec (x0 x1 x2 x3 x4) : (State.enqueue x0 x1 x2 x3 x4).sec = x0.sec := by
  unfold State.enqueue; dsimp only; (repeat' split) <;> simp

@[simp] theorem State.arrived_sec (x0 x1 x2) : (State.arrived x0 x1 x2).sec = x0.sec := by
  unfold State.arrived; (repeat' split) <;> simp

@[simp] theorem State.discard_sec (x0 x1) : (State.discard x0 x1).sec = x0.sec := by
  unfold State.discard; (repeat' split) <;> simp

@[simp] theorem State.forward_sec (x0 x1 x2) : (State.forward x0 x1 x2).sec = x0.sec := by
  unfold State.forward; dsimp only; (repeat' split) <;> simp

@[simp] theorem State.requeue_sec (x0 x1) : (State.requeue x0 x1).sec = x0.sec := by
  simp [State.requeue]

@[simp] theorem State.wearOne_sec (x0 x1) : (State.wearOne x0 x1).sec = x0.sec := by
  unfold State.wearOne; dsimp only; (repeat' split) <;> simp

@[simp] theorem State.putClay_sec (x0 x1 x2 x3) : (State.putClay x0 x1 x2 x3).sec = x0.sec := by
  simp [State.putClay]

@[simp] theorem State.nodeClay_sec (x0 x1 x2) : (State.nodeClay x0 x1 x2).sec = x0.sec := by
  simp [State.nodeClay]

@[simp] theorem State.declareDown_sec (x0 x1 x2) : (State.declareDown x0 x1 x2).sec = x0.sec := by
  unfold State.declareDown; (repeat' split) <;> simp

@[simp] theorem State.reportDown_sec (x0 x1) : (State.reportDown x0 x1).sec = x0.sec := by
  unfold State.reportDown; (repeat' split) <;> simp

@[simp] theorem State.handOver_sec (x0 x1 x2) : (State.handOver x0 x1 x2).sec = x0.sec := by
  induction x2 generalizing x0 x1 <;> simp only [State.handOver] <;> (repeat' split) <;> simp [*]

@[simp] theorem State.dropLink_sec (x0 x1) : (State.dropLink x0 x1).sec = x0.sec := by
  unfold State.dropLink; (repeat' split) <;> simp

@[simp] theorem State.takeSplit_sec (x0 x1) : (State.takeSplit x0 x1).sec = x0.sec := by
  unfold State.takeSplit; dsimp only; (repeat' split) <;> simp

/-! ### What an alarm erases (R606, R607) -/

theorem State.showSeed_sec' (s : State) (p : Nat) : (s.showSeed p).sec = s.sec := rfl

theorem State.closeSess_sec (s : State) (i why : Nat) : (s.closeSess i why).sec = { s.sec with sess := sset sess0 s.sec.sess i (sess0 i) } := by
  unfold State.closeSess State.setSess
  simp [State.setF_rest]

/-- No port below 14 holds a link seed. -/
def State.NoSeeds (s : State) : Prop := ∀ p < 14, sget noSeed s.sec.seeds p = none ∧ sget noSeed s.sec.newSeeds p = none

theorem State.takeSeed_none {s : State} {p : Nat} (h : sget noSeed s.sec.newSeeds p = none) : s.takeSeed p = s := by
  unfold State.takeSeed
  rw [h]

theorem State.beginTraining_sec (s : State) (p : Nat) (full : Bool) : (s.beginTraining p full).sec = (s.takeSeed p).sec := by
  unfold State.beginTraining
  simp

theorem State.startTraining_sec {s : State} {p : Nat} (full : Bool) (hp : p < 14) (h : s.NoSeeds) : (s.startTraining p full).sec = s.sec := by
  have hb : ∀ (t : State) (q : Nat) (f : Bool), q < 14 → t.sec = s.sec → (t.beginTraining q f).sec = s.sec := fun t q f hq ht => by
    rw [t.beginTraining_sec, State.takeSeed_none (by rw [ht]; exact (h q hq).2), ht]
  have ht : (s.takeSplit p).sec = s.sec := by simp
  have h1 : (if (s.takeSplit p).width p = 0 then s.takeSplit p else (s.takeSplit p).beginTraining p full).sec = s.sec := by
    split
    · exact ht
    · exact hb _ p full hp ht
  unfold State.startTraining
  dsimp only
  generalize (if (s.takeSplit p).width p = 0 then s.takeSplit p else (s.takeSplit p).beginTraining p full) = t at h1 ⊢
  split
  case isTrue hc => exact hb t _ true (by obtain ⟨h6, -⟩ := hc; unfold otherHalf; split <;> omega) h1
  case isFalse => exact h1

theorem State.failEnc_sec {s : State} {p : Nat} (hp : p < 14) (h : s.NoSeeds) : (s.failEnc p).sec = s.sec := by
  unfold State.failEnc
  split
  · have ht : ((s.dropLink p).reportDown p).sec = s.sec := by simp
    rw [State.startTraining_sec false hp (by unfold State.NoSeeds; rw [ht]; exact h), ht]
  · rfl

theorem State.failEncs_sec {s : State} (h : s.NoSeeds) (n : Nat) (hn : n ≤ 14) : (upto (fun p s => s.failEnc p) n s).sec = s.sec := by
  induction n with
  | zero => rfl
  | succ n ih =>
    have hi := ih (by omega)
    rw [upto, State.failEnc_sec (by omega) (by unfold State.NoSeeds; rw [hi]; exact h), hi]

/-- Closing the sessions one by one leaves the first `n` free, and the rest of the security unit as it was. -/
theorem State.closeAll_spec {s : State} (h : swf sess0 s.sec.sess = true) (n : Nat) :
    let t := upto (fun i s => if (s.sess i).st = .free then s else s.closeSess i 2) n s
    swf sess0 t.sec.sess = true ∧ (∀ i < n, (t.sess i).st = .free) ∧ t.sec.keys = s.sec.keys ∧ t.sec.seeds = s.sec.seeds ∧
      t.sec.newSeeds = s.sec.newSeeds := by
  induction n with
  | zero => exact ⟨h, fun _ hi => absurd hi (Nat.not_lt_zero _), rfl, rfl, rfl⟩
  | succ n ih =>
    dsimp only at ih ⊢
    rw [upto]
    generalize upto (fun i s => if (s.sess i).st = .free then s else s.closeSess i 2) n s = t at ih ⊢
    obtain ⟨hw, hf, hrest⟩ := ih
    split
    case isTrue he => exact ⟨hw, fun i hi => (Nat.lt_succ_iff_lt_or_eq.1 hi).elim (hf i) (fun e => e ▸ he), hrest⟩
    case isFalse =>
      have hc := t.closeSess_sec n 2
      refine ⟨?_, fun i hi => ?_, ?_⟩
      · rw [hc]; exact swf_sset _ _ _ _ hw
      · rw [State.sess, hc]
        by_cases he : i = n
        · subst he
          rw [sget_sset_same _ _ _ _ hw]
          rfl
        · rw [sget_sset_other _ _ _ _ _ he]
          exact hf i (by omega)
      · rw [hc]; exact hrest

theorem State.eraseSeed_sec (s : State) (p : Nat) :
    (s.eraseSeed p).sec = { s.sec with seeds := sset noSeed s.sec.seeds p none, newSeeds := sset noSeed s.sec.newSeeds p none } := rfl

theorem State.eraseAll_spec {s : State} (h0 : swf noSeed s.sec.seeds = true) (h1 : swf noSeed s.sec.newSeeds = true) (n : Nat) :
    let t := upto (fun p s => s.eraseSeed p) n s
    swf noSeed t.sec.seeds = true ∧ swf noSeed t.sec.newSeeds = true ∧
      (∀ p < n, sget noSeed t.sec.seeds p = none ∧ sget noSeed t.sec.newSeeds p = none) ∧ t.sec.keys = s.sec.keys ∧ t.sec.sess = s.sec.sess := by
  induction n with
  | zero => exact ⟨h0, h1, fun _ hi => absurd hi (Nat.not_lt_zero _), rfl, rfl⟩
  | succ n ih =>
    dsimp only at ih ⊢
    rw [upto]
    generalize upto (fun p s => s.eraseSeed p) n s = t at ih ⊢
    obtain ⟨hw, hw', hf, hrest⟩ := ih
    rw [t.eraseSeed_sec n]
    refine ⟨swf_sset _ _ _ _ hw, swf_sset _ _ _ _ hw', fun p hp => ?_, hrest⟩
    by_cases he : p = n
    · subst he
      exact ⟨sget_sset_same _ _ _ _ hw, sget_sset_same _ _ _ _ hw'⟩
    · rw [sget_sset_other _ _ _ _ _ he, sget_sset_other _ _ _ _ _ he]
      exact hf p (by omega)

/-- A level-2 alarm frees every session, erases every link seed, and keeps the memory keys. -/
theorem State.level2_spec {s : State} (h : swf sess0 s.sec.sess = true) (h0 : swf noSeed s.sec.seeds = true)
    (h1 : swf noSeed s.sec.newSeeds = true) :
    (∀ i < 16, (s.level2.sess i).st = .free) ∧ (∀ p < 14, sget noSeed s.level2.sec.seeds p = none) ∧ s.level2.sec.keys = s.sec.keys := by
  unfold State.level2
  dsimp only
  obtain ⟨-, hf, hk, hs, hn⟩ := State.closeAll_spec h 16
  generalize upto (fun i s => if (s.sess i).st = .free then s else s.closeSess i 2) 16 s = t at hf hk hs hn ⊢
  obtain ⟨-, -, he, hk', hs'⟩ := State.eraseAll_spec (s := t) (hs ▸ h0) (hn ▸ h1) 14
  generalize upto (fun p s => s.eraseSeed p) 14 t = u at he hk' hs' ⊢
  have hu := State.failEncs_sec (s := u) he 14 (le_refl _)
  refine ⟨fun i hi => ?_, fun p hp => ?_, ?_⟩
  · rw [State.sess, hu, hs']
    exact hf i hi
  · rw [hu]
    exact (he p hp).1
  · rw [hu, hk', hk]

/-! ### A sensor's trip (R606) -/

/-- The trip of a sensor shown and posted, before the alarm's level acts. -/
def State.tripShown (s : State) (k port : Nat) : State :=
  let level := s.alarmLevel k
  let old := s.f F.SEC_ALARM_STAT_TRIPPED
  let bit := BitVec.ofNat 5 (2 ^ k)
  let s := if old &&& bit = 0 then s.smbAlert else s
  let s := s.setF F.SEC_ALARM_STAT_TRIPPED (old ||| bit)
  let s := if (s.f F.SEC_ALARM_STAT_MAXLVL).toNat < level then s.setF F.SEC_ALARM_STAT_MAXLVL (BitVec.ofNat 2 level) else s
  s.post (evAlarm level (old ||| bit) port)

theorem State.trip_low {s : State} {k : Nat} (port : Nat) (h : s.alarmLevel k < 2) : s.trip k port = s.tripShown k port := if_pos h

theorem State.trip_high {s : State} {k : Nat} (port : Nat) (h : ¬ s.alarmLevel k < 2) :
    s.trip k port = (fun t => if s.alarmLevel k = 2 then State.level2 t else State.eraseKeys t)
      ((State.overtake { s.tripShown k port with pwr := { (s.tripShown k port).pwr with alarmN := false } }).hoAbort 0xA) := if_neg h

theorem State.tripShown_regsBut (s : State) (k port : Nat) : RegsBut (fun r => r = Reg.SEC_ALARM_STAT ∨ r ∈ evtRegs 0) s (s.tripShown k port) := by
  unfold State.tripShown
  dsimp only
  refine RegsBut.trans ?_ ((State.post_regsBut _ _).mono fun _ => Or.inr)
  have h : RegsBut (fun r => r = Reg.SEC_ALARM_STAT ∨ r ∈ evtRegs 0) s ((if s.f F.SEC_ALARM_STAT_TRIPPED &&& BitVec.ofNat 5 (2 ^ k) = 0 then s.smbAlert else s).setF
      F.SEC_ALARM_STAT_TRIPPED (s.f F.SEC_ALARM_STAT_TRIPPED ||| BitVec.ofNat 5 (2 ^ k))) :=
    (RegsBut.of_regs (by split <;> rfl)).setF F.SEC_ALARM_STAT_TRIPPED _ (Or.inl rfl)
  exact (h.setF _ _ (Or.inl rfl)).ite h

theorem State.tripShown_rest (s : State) (k port : Nat) : (s.tripShown k port).sec = s.sec ∧ (s.tripShown k port).mems = s.mems ∧
    ((s.f F.SEC_ALARM_STAT_TRIPPED &&& BitVec.ofNat 5 (2 ^ k) = 0) → (s.tripShown k port).pwr.smbAlertN = false) := by
  unfold State.tripShown
  dsimp only
  refine ⟨by (repeat' split) <;> simp [State.smbAlert], by (repeat' split) <;> simp [State.smbAlert], fun h => ?_⟩
  rw [if_pos h]
  split <;> simp [State.smbAlert]

theorem State.alarmLevel_lt (s : State) (k : Nat) : s.alarmLevel k < 4 := by
  have h : bitsAt (s.clayWord 0xD0).toNat (2 * k) 2 < 4 := Nat.mod_lt _ (by decide)
  unfold State.alarmLevel
  dsimp only
  split <;> omega

theorem State.tripShown_f {s : State} (k port : Nat) (h : swf regReset s.regs = true) :
    (s.tripShown k port).f F.SEC_ALARM_STAT_TRIPPED = s.f F.SEC_ALARM_STAT_TRIPPED ||| BitVec.ofNat 5 (2 ^ k) ∧
      ((s.tripShown k port).f F.SEC_ALARM_STAT_MAXLVL).toNat = max (s.f F.SEC_ALARM_STAT_MAXLVL).toNat (s.alarmLevel k) := by
  unfold State.tripShown
  dsimp only
  rw [State.f_post _ _ _ (by decide), State.f_post _ _ _ (by decide)]
  have hu : (if s.f F.SEC_ALARM_STAT_TRIPPED &&& BitVec.ofNat 5 (2 ^ k) = 0 then s.smbAlert else s).regs = s.regs := by split <;> rfl
  generalize (if s.f F.SEC_ALARM_STAT_TRIPPED &&& BitVec.ofNat 5 (2 ^ k) = 0 then s.smbAlert else s) = u at hu ⊢
  have hc : swf regReset u.regs = true := hu ▸ h
  have hv := u.regs_setF F.SEC_ALARM_STAT_TRIPPED (s.f F.SEC_ALARM_STAT_TRIPPED ||| BitVec.ofNat 5 (2 ^ k)) hc
  have h1 := u.f_setF_same F.SEC_ALARM_STAT_TRIPPED (s.f F.SEC_ALARM_STAT_TRIPPED ||| BitVec.ofNat 5 (2 ^ k)) (by decide) hc
  have h2 := u.f_setF_other F.SEC_ALARM_STAT_TRIPPED F.SEC_ALARM_STAT_MAXLVL (s.f F.SEC_ALARM_STAT_TRIPPED ||| BitVec.ofNat 5 (2 ^ k)) hc (by decide)
  rw [State.f_of_regs hu] at h2
  generalize u.setF F.SEC_ALARM_STAT_TRIPPED (s.f F.SEC_ALARM_STAT_TRIPPED ||| BitVec.ofNat 5 (2 ^ k)) = v at hv h1 h2 ⊢
  have hl := s.alarmLevel_lt k
  rw [h2]
  split
  · refine ⟨(v.f_setF_other _ _ _ hv (by decide)).trans h1, ?_⟩
    rw [v.f_setF_same _ _ (by decide) hv]
    simp
    omega
  · exact ⟨h1, by rw [h2]; omega⟩

theorem State.overtake_none {s : State} (h : s.sec.cmd = none) : s.overtake = s := by
  unfold State.overtake
  rw [h]

theorem State.hoAbort_idle {s : State} (err : BitVec 4) (h : s.hstate = hIdle) : s.hoAbort err = s := if_pos h

/-- What a trip of level 2 or 3 does where no security command and no handover is under way. -/
theorem State.trip_acts {s : State} {k : Nat} (port : Nat) (h : ¬ s.alarmLevel k < 2) (hc : s.sec.cmd = none) (hh : s.hstate = hIdle) :
    s.trip k port = (fun t => if s.alarmLevel k = 2 then State.level2 t else State.eraseKeys t)
      { s.tripShown k port with pwr := { (s.tripShown k port).pwr with alarmN := false } } := by
  obtain ⟨hs, -, -⟩ := s.tripShown_rest k port
  have hst : (s.tripShown k port).hstate = hIdle :=
    ((s.tripShown_regsBut k port).f F.FWM_STAT_HSTATE (by simp [F.FWM_STAT_HSTATE, Reg.FWM_STAT, Reg.SEC_ALARM_STAT, evtRegs, Reg.QMG_EVT_TAIL, Reg.QMG_EVT_LOST])).trans hh
  rw [State.trip_high port h, State.overtake_none (by rw [← hc]; exact congrArg Sec.cmd hs), State.hoAbort_idle]
  exact hst

/-! ### Clay words of the node (R607, R610) -/

theorem State.wearOne_clay (s : State) (w : Nat) :
    (s.wearOne w).clay = { s.clay with wear := sset wearMfg s.clay.wear w (satAdd (s.wear w) 1) } := by
  unfold State.wearOne
  dsimp only
  (repeat' split) <;> simp

theorem State.wearOne_regsBut (s : State) (w : Nat) : RegsBut (fun r => r = Reg.CLY_STAT ∨ r ∈ evtRegs 0) s (s.wearOne w) := by
  unfold State.wearOne
  dsimp only
  have h : RegsBut (fun r => r = Reg.CLY_STAT ∨ r ∈ evtRegs 0) s { s with clay := { s.clay with wear := sset wearMfg s.clay.wear w (satAdd (s.wear w) 1) } } :=
    RegsBut.of_regs rfl
  split
  · exact ((h.trans ((State.post_regsBut _ _).mono fun _ => Or.inr)).ite h).setF _ _ (Or.inl rfl)
  · exact h

theorem State.nodeClay_regsBut (s : State) (w : Nat) (v : R32) : RegsBut (fun r => r = Reg.CLY_STAT ∨ r ∈ evtRegs 0) s (s.nodeClay w v) :=
  (s.wearOne_regsBut w).same_regs rfl

theorem State.nodeClay_both {s : State} (w : Nat) (v : R32) (h0 : s.clay.bank0 = true) (h1 : s.clay.bank1 = true) :
    (s.nodeClay w v).clay = { s.clay with
      wear := sset wearMfg s.clay.wear w (satAdd (s.wear w) 1), k0 := sset clayMfg s.clay.k0 w v, k1 := sset clayMfg s.clay.k1 w v } := by
  have hc := s.wearOne_clay w
  unfold State.nodeClay
  rw [State.putClay_both w v v (by rw [hc]; exact h0) (by rw [hc]; exact h1), hc]

/-! ### The end of a latched alarm (R610) -/

/-- The trips written as 1 cleared, ALARM_N up with the last. -/
def State.clearTrips (s : State) (v : R32) : State :=
  let t := s.f F.SEC_ALARM_STAT_TRIPPED &&& ~~~ fget F.SEC_ALARM_STAT_TRIPPED v
  let s := s.setF F.SEC_ALARM_STAT_TRIPPED t
  if t = 0 then State.setF { s with pwr := { s.pwr with alarmN := true } } F.SEC_ALARM_STAT_MAXLVL 0 else s

theorem State.alarmClear_eq (s : State) (v : R32) :
    s.alarmClear v = (if v.getLsbD 31 ∧ s.on F.SEC_ALARM_STAT_LATCH then (s.nodeClay 0xD1 0).setF F.SEC_ALARM_STAT_LATCH 0 else s).clearTrips v := rfl

theorem State.clearTrips_spec {s : State} (v : R32) (h : swf regReset s.regs = true) :
    (s.clearTrips v).f F.SEC_ALARM_STAT_LATCH = s.f F.SEC_ALARM_STAT_LATCH ∧
      (s.clearTrips v).f F.SEC_ALARM_STAT_TRIPPED = s.f F.SEC_ALARM_STAT_TRIPPED &&& ~~~ fget F.SEC_ALARM_STAT_TRIPPED v ∧
      (s.clearTrips v).mems = s.mems ∧ (s.clearTrips v).clay = s.clay ∧ (s.clearTrips v).out = s.out ∧
      ((s.clearTrips v).f F.SEC_ALARM_STAT_TRIPPED = 0 → (s.clearTrips v).pwr.alarmN = true) := by
  unfold State.clearTrips
  dsimp only
  generalize s.f F.SEC_ALARM_STAT_TRIPPED &&& ~~~ fget F.SEC_ALARM_STAT_TRIPPED v = x
  have hc := s.regs_setF F.SEC_ALARM_STAT_TRIPPED x h
  have h1 := s.f_setF_same F.SEC_ALARM_STAT_TRIPPED x (by decide) h
  have h2 := s.f_setF_other F.SEC_ALARM_STAT_TRIPPED F.SEC_ALARM_STAT_LATCH x h (by decide)
  split
  case isTrue => exact ⟨(State.f_setF_other _ _ _ _ hc (by decide)).trans h2, (State.f_setF_other _ _ _ _ hc (by decide)).trans h1, by simp, by simp, rfl, fun _ => rfl⟩
  case isFalse hx => exact ⟨h2, h1, by simp, by simp, rfl, fun h0 => absurd (h1.symm.trans h0) hx⟩

/-- Settles O41. -/
theorem alarms : Obligations.Alarms := by
  refine ⟨fun s k hu h5 hl hr => goes_up (f := fun s => if k.toNat < 5 then s.trip k.toNat 0 else s) rfl hu ?_,
    fun s k hu h5 hl hc hh => goes_up (f := fun s => if k.toNat < 5 then s.trip k.toNat 0 else s) rfl hu ?_,
    fun s k hu h5 hl hc hh h h0 h1 => goes_up (f := fun s => if k.toNat < 5 then s.trip k.toNat 0 else s) rfl hu ?_,
    fun s k h5 => exec_same_up (f := fun s => if k.toNat < 5 then s.trip k.toNat 0 else s) rfl (if_neg (by omega)),
    fun s hu hl h h0 h1 => goes_up (f := State.escalate) rfl hu ?_,
    fun s hl => exec_same_up (f := State.escalate) rfl (if_pos (by simp [hl])),
    fun s v hw hv hl hr hk0 hk1 => goes_wr (f := (State.alarmClear · v)) rfl hw ?_,
    fun s v hw hv hr => goes_wr (f := (State.alarmClear · v)) rfl hw ?_⟩
  · rw [if_pos h5, State.trip_low 0 hl]
    obtain ⟨h1, h2⟩ := State.tripShown_f k.toNat 0 hr
    obtain ⟨h3, h4, h5⟩ := s.tripShown_rest k.toNat 0
    exact ⟨h1, h2, h3, h4, h5⟩
  · obtain ⟨h3, h4, -⟩ := s.tripShown_rest k.toNat 0
    rw [if_pos h5, State.trip_acts 0 (by omega) hc hh]
    dsimp only
    rw [if_neg (by omega)]
    exact ⟨rfl, rfl, rfl, (congrArg Sec.sess h3 :), h4⟩
  · obtain ⟨h3, -, -⟩ := s.tripShown_rest k.toNat 0
    rw [if_pos h5, State.trip_acts 0 (by omega) hc hh]
    dsimp only
    rw [if_pos hl]
    obtain ⟨ha, hb, hkeys⟩ := State.level2_spec (s := { s.tripShown k.toNat 0 with pwr := { (s.tripShown k.toNat 0).pwr with alarmN := false } })
      (by show swf sess0 (s.tripShown k.toNat 0).sec.sess = true; rw [h3]; exact h)
      (by show swf noSeed (s.tripShown k.toNat 0).sec.seeds = true; rw [h3]; exact h0)
      (by show swf noSeed (s.tripShown k.toNat 0).sec.newSeeds = true; rw [h3]; exact h1)
    exact ⟨fun i hi => ha i (List.mem_range.1 hi), fun p hp => hb p (List.mem_range.1 hp), hkeys.trans (congrArg Sec.keys h3), by simp⟩
  · obtain ⟨ha, hb, -⟩ := State.level2_spec h h0 h1
    unfold State.escalate
    rw [hl]
    dsimp only
    refine ⟨rfl, rfl, by simp [State.up, State.holdReset], _, rfl, fun i hi => ?_, fun p hp => ?_, ?_⟩
    · rw [State.sess, State.nodeClay_sec]
      exact ha i (List.mem_range.1 hi)
    · rw [State.nodeClay_sec]
      exact hb p (List.mem_range.1 hp)
    · simp
  · rw [State.alarmClear_eq, if_pos ⟨hv, hl⟩]
    have hn := s.nodeClay_regsBut 0xD1 0
    have hc := hn.canonical hr
    have hL := (s.nodeClay 0xD1 0).f_setF_same F.SEC_ALARM_STAT_LATCH 0 (by decide) hc
    have hT : ((s.nodeClay 0xD1 0).setF F.SEC_ALARM_STAT_LATCH 0).f F.SEC_ALARM_STAT_TRIPPED = s.f F.SEC_ALARM_STAT_TRIPPED :=
      ((s.nodeClay 0xD1 0).f_setF_other _ _ _ hc (by decide)).trans (hn.f _ (by simp [F.SEC_ALARM_STAT_TRIPPED, Reg.SEC_ALARM_STAT, Reg.CLY_STAT, evtRegs, Reg.QMG_EVT_TAIL, Reg.QMG_EVT_LOST]))
    obtain ⟨h1, h2, h3, h4, -⟩ := State.clearTrips_spec v ((s.nodeClay 0xD1 0).regs_setF F.SEC_ALARM_STAT_LATCH 0 hc)
    refine ⟨h1.trans hL, fun hb0 hb1 => ?_, by rw [h2, hT], h3.trans (by simp)⟩
    have hclay := h4.trans (State.nodeClay_both (s := s) 0xD1 0 hb0 hb1)
    rw [State.clayWord, State.clay0, State.clay1, hclay]
    dsimp only
    rw [sget_sset_same _ _ _ _ hk0, sget_sset_same _ _ _ _ hk1, ite_self]
  · rw [State.alarmClear_eq, if_neg (by rintro ⟨h1, h2⟩; rcases hv with h | h <;> simp_all)]
    obtain ⟨h1, h2, h3, h4, h5, h6⟩ := State.clearTrips_spec v hr
    exact ⟨h1, h4, h2, h5, h3, h6⟩

/-! ### The mailbox (R651) -/

theorem natLe_length (n x : Nat) : (natLe n x).length = n := by
  induction n generalizing x with
  | zero => rfl
  | succ n ih => simp [natLe, ih]

/-- The mailbox with an answer shown in its window and its result, before the event. -/
def State.mbShown (s : State) (err : BitVec 4) (d : Bytes) : State :=
  let s := { s with mems := { s.mems with mbwin := Mem.wrN s.mems.mbwin 0 d } }
  ((s.setF F.FWM_MB_RES_BUSY 0).setF F.FWM_MB_RES_ERR err).setF F.FWM_MB_RES_LEN (BitVec.ofNat 16 d.length)

theorem State.mbDone_eq (s : State) (op : Nat) (err : BitVec 4) (d : Bytes) :
    s.mbDone op err d = (s.mbShown err d).post (evMailboxDone op err d.length) := rfl

theorem State.mbShown_spec {s : State} (err : BitVec 4) (d : Bytes) (h : swf regReset s.regs = true) :
    (s.mbShown err d).f F.FWM_MB_RES_BUSY = 0 ∧ (s.mbShown err d).f F.FWM_MB_RES_ERR = err ∧
      (s.mbShown err d).f F.FWM_MB_RES_LEN = BitVec.ofNat 16 d.length ∧ (s.mbShown err d).out = s.out ∧
      (s.mbShown err d).mems = { s.mems with mbwin := Mem.wrN s.mems.mbwin 0 d } := by
  unfold State.mbShown
  dsimp only
  generalize hu : ({ s with mems := { s.mems with mbwin := Mem.wrN s.mems.mbwin 0 d } } : State) = u
  have h0 : swf regReset u.regs = true := hu ▸ h
  have h1 := u.regs_setF F.FWM_MB_RES_BUSY 0 h0
  have h2 := (u.setF F.FWM_MB_RES_BUSY 0).regs_setF F.FWM_MB_RES_ERR err h1
  refine ⟨?_, ?_, State.f_setF_same _ _ _ (by decide) h2, by rw [← hu]; rfl, by rw [← hu]; rfl⟩
  · rw [State.f_setF_other _ _ _ _ h2 (by decide), State.f_setF_other _ _ _ _ h1 (by decide)]
    exact u.f_setF_same _ _ (by decide) h0
  · rw [State.f_setF_other _ _ _ _ h2 (by decide)]
    exact State.f_setF_same _ _ _ (by decide) h1

/-- The bytes that SENSORS answers. -/
def State.sensorBytes (s : State) : Bytes :=
  (List.range 20).flatMap (fun d => natLe 2 (s.f (F.PWR_TDIE_TEMP d)).toNat) ++ natLe 2 (s.f F.PWR_VCORE_MV).toNat ++
    natLe 2 (s.f F.PWR_VCORE_AMPS).toNat ++ natLe 2 (s.f F.PWR_POWER_WATTS).toNat

theorem State.mbSensors_eq (s : State) : s.mbSensors = s.mbDone 2 0 s.sensorBytes := rfl

theorem State.sensorBytes_length (s : State) : s.sensorBytes.length = 46 := by
  simp [State.sensorBytes, natLe_length, List.length_flatMap]

section
variable {s : State} (hb : s.on F.FWM_MB_RES_BUSY = false)
include hb

theorem State.mbRead_dead (k : Bool) (hd : s.fwm.dead = true) : s.mbRead k = s.setF F.FWM_MB_RES_BUSY 1 := by
  simp [State.mbRead, hb, hd, State.mbHang]

theorem State.poolTestCmd_dead (d : BitVec 5) (hd : s.fwm.dead = true) : s.poolTestCmd d = s.setF F.FWM_MB_RES_BUSY 1 := by
  simp [State.poolTestCmd, hb, hd, State.mbHang]

variable (hd : s.fwm.dead = false)
include hd

theorem State.mbRead_waits (k : Bool) (hh : s.hstate = hSwitching) :
    s.mbRead k = State.setF { s with fwm := { s.fwm with mbWait := some k } } F.FWM_MB_RES_BUSY 1 := by
  simp [State.mbRead, hb, hd, hh]

theorem State.mbRead_answers (k : Bool) (hh : s.hstate ≠ hSwitching) : s.mbRead k = if k then s.mbSensors else s.mbVersion := by
  simp [State.mbRead, hb, hd, hh]

theorem State.poolTestCmd_eq (d : BitVec 5) :
    s.poolTestCmd d = if 19 < d.toNat then s.mbDone 3 1 [] else if s.on F.HOM_CTL_EN ∨ s.liveExts ≠ [] then s.mbDone 3 2 []
      else State.setF { s with fwm := { s.fwm with poolTest := some d } } F.FWM_MB_RES_BUSY 1 := by
  rw [State.poolTestCmd, hb, hd]
  rfl

end

/-- A finished pool test: the device's contents and keys gone, and no test running. -/
def State.tested (s : State) (d : BitVec 5) : State :=
  let s := { (s.fwDone 4) with
    mems := { s.mems with
      pool := s.mems.pool.filter (fun c => decide (poolDevice c.1 ≠ d.toNat))
      poolKey := s.mems.poolKey.filter (fun c => decide (poolDevice (64 * c.1) ≠ d.toNat)) } }
  { s with fwm := { s.fwm with poolTest := none } }

theorem State.poolTestDone_eq {s : State} {d : BitVec 5} (b : Bool) (n : R64) (h : s.fwm.poolTest = some d) :
    s.poolTestDone b n = (s.tested d).mbDone 3 0 (natLe 8 (b2n b) ++ natLe 8 n.toNat) := by
  unfold State.poolTestDone
  rw [h]
  rfl

theorem State.poolTestDone_none {s : State} (b : Bool) (n : R64) (h : s.fwm.poolTest = none) : s.poolTestDone b n = s := by
  unfold State.poolTestDone
  rw [h]

/-- Settles O46. -/
theorem mailboxCommands : Obligations.MailboxCommands := by
  refine ⟨fun s i hw hb hd hh hi => exec_wr (f := (State.mbRead · false)) rfl hw ?_, fun s hw hb hd hh hr => ?_,
    fun s hw hb hd hh => ⟨exec_wr (f := (State.mbRead · false)) rfl hw (State.mbRead_waits hb hd false hh), exec_wr (f := (State.mbRead · true)) rfl hw (State.mbRead_waits hb hd true hh)⟩,
    fun s d c hw hb hd hc => ?_, fun s d hb => ⟨exec_same_wr (f := (State.mbRead · false)) rfl (if_pos hb), exec_same_wr (f := (State.mbRead · true)) rfl (if_pos hb),
      exec_same_wr (f := (State.poolTestCmd · d)) rfl (if_pos hb)⟩,
    fun s d hw hb hd h19 he hl => exec_wr (f := (State.poolTestCmd · d)) rfl hw ?_,
    fun s d hw hb hd => ⟨fun h => exec_wr (f := (State.poolTestCmd · d)) rfl hw ?_, fun h he => exec_wr (f := (State.poolTestCmd · d)) rfl hw ?_⟩,
    fun s d b n hu hf hp hr => ?_, fun s b n hp => exec_same_up (f := fun s => if s.fwServes 4 then s.poolTestDone b n else s) rfl ?_⟩
  · rw [State.mbRead_answers hb hd false hh, State.mbVersion, hi]
    rfl
  · obtain ⟨h1, h2, h3, h4, h5⟩ := State.mbShown_spec (s := s) 0 s.sensorBytes hr
    rw [s.sensorBytes_length] at h3
    refine ⟨_, exec_wr (f := (State.mbRead · true)) rfl hw ?_, h1, h2, h3, h4, by rw [h5], fun a ha => ?_⟩
    · rw [State.mbRead_answers hb hd true hh, if_pos rfl, State.mbSensors_eq, State.mbDone_eq, s.sensorBytes_length]
    · rw [h5]
      have hle : 0 + s.sensorBytes.length ≤ a := by rw [s.sensorBytes_length, Nat.zero_add]; exact ha
      dsimp only
      exact Mem.rd_wrN_other s.mems.mbwin 0 a s.sensorBytes (Or.inr hle)
  · simp only [List.mem_cons, List.not_mem_nil, or_false] at hc
    rcases hc with rfl | rfl | rfl
    · exact exec_wr (f := (State.mbRead · false)) rfl hw (State.mbRead_dead hb false hd)
    · exact exec_wr (f := (State.mbRead · true)) rfl hw (State.mbRead_dead hb true hd)
    · exact exec_wr (f := (State.poolTestCmd · d)) rfl hw (State.poolTestCmd_dead hb d hd)
  · rw [State.poolTestCmd_eq hb hd, if_neg (by omega), if_neg (by simp [he, hl])]
  · rw [State.poolTestCmd_eq hb hd, if_pos h]
  · rw [State.poolTestCmd_eq hb hd, if_neg (by omega), if_pos he]
  · obtain ⟨h1, h2, h3, h4, h5⟩ := State.mbShown_spec (s := s.tested d) 0 (natLe 8 (b2n b) ++ natLe 8 n.toNat) hr
    have hlen : (natLe 8 (b2n b) ++ natLe 8 n.toNat).length = 16 := by simp [natLe_length]
    rw [hlen] at h3
    refine ⟨_, exec_up (f := fun s => if s.fwServes 4 then s.poolTestDone b n else s) rfl hu ?_, rfl, h1, h2, h3, h4, by rw [h5]; rfl, by rw [h5]; rfl⟩
    rw [if_pos hf, State.poolTestDone_eq b n hp, State.mbDone_eq, hlen]
  · rw [State.poolTestDone_none b n hp, ite_self]

/-! ### Boot (R624 to R628) -/

/-- The node once an image has passed: the ROM has given the control to it (R626). -/
def State.booted (s : State) (i : Image) : State := (s.setF F.FWM_STAT_BOOT bRunning).runImage i

/-- An image runs: its version and SVN are shown (R626). -/
theorem State.runImage_spec {s : State} (i : Image) (h : swf regReset s.regs = true) :
    swf regReset (s.runImage i).regs = true ∧ (s.runImage i).rd Reg.FWM_VER = i.ver ∧ (s.runImage i).f F.FWM_SVN_RUN = i.svn ∧
      (∀ r, r ≠ Reg.FWM_VER → r ≠ F.FWM_SVN_RUN.off → (s.runImage i).rd r = s.rd r) := by
  let t : State := { s with fwm := { s.fwm with run := some i } }
  have h2 : swf regReset (t.wr Reg.FWM_VER i.ver).regs = true := State.regs_wr t _ _ h
  refine ⟨State.regs_setF (t.wr Reg.FWM_VER i.ver) F.FWM_SVN_RUN i.svn h2, ?_, (t.wr Reg.FWM_VER i.ver).f_setF_same F.FWM_SVN_RUN i.svn (by decide) h2,
    fun r h0 h1 => ((t.wr Reg.FWM_VER i.ver).rd_setF_other F.FWM_SVN_RUN i.svn r h1).trans (t.rd_wr_other Reg.FWM_VER r i.ver h0)⟩
  exact ((t.wr Reg.FWM_VER i.ver).rd_setF_other F.FWM_SVN_RUN i.svn _ (by decide)).trans (t.rd_wr_same Reg.FWM_VER i.ver h)

theorem State.booted_spec {s : State} (i : Image) (h : swf regReset s.regs = true) :
    swf regReset (s.booted i).regs = true ∧ (s.booted i).boot = bRunning ∧ (s.booted i).rd Reg.FWM_VER = i.ver ∧ (s.booted i).f F.FWM_SVN_RUN = i.svn ∧
      (s.booted i).on F.FWM_STAT_STANDBY_VALID = s.on F.FWM_STAT_STANDBY_VALID := by
  obtain ⟨h1, h2, h3, h4⟩ := State.runImage_spec i (s.regs_setF F.FWM_STAT_BOOT bRunning h)
  have hs := h4 Reg.FWM_STAT (by decide) (by decide)
  refine ⟨h1, ?_, h2, h3, congrArg (· == 1) ((State.f_of_rd F.FWM_STAT_STANDBY_VALID hs).trans (s.f_setF_other _ _ _ h (by decide)))⟩
  exact (State.f_of_rd F.FWM_STAT_BOOT hs).trans (s.f_setF_same _ _ (by decide) h)

theorem State.bootDone_bad {s : State} (b : Bool) (hb : s.boot = bVerifying) (he : s.imgErr s.fwm.len none ≠ 0) :
    s.bootDone b = (s.setF F.FWM_STAT_BOOT bAwait).setF F.FWM_STAT_ERR (s.imgErr s.fwm.len none) := by
  unfold State.bootDone
  rw [if_neg (by simp [hb])]
  exact if_pos he

theorem State.bootDone_good {s : State} (b : Bool) (hb : s.boot = bVerifying) (he : s.imgErr s.fwm.len none = 0) :
    s.bootDone b = (if b then (s.booted (s.staged s.fwm.len)).follow (s.staged s.fwm.len)
      else State.fwErr { s.booted (s.staged s.fwm.len) with fwm := { (s.booted (s.staged s.fwm.len)).fwm with lost := true } } 9).post
        (evFwReady (s.staged s.fwm.len) b) := by
  unfold State.bootDone
  rw [if_neg (by simp [hb])]
  exact if_neg (by simp [he])

/-- The standby follows the running image (R626, R629). -/
theorem State.follow_spec {s : State} (i : Image) (h : swf regReset s.regs = true) :
    (s.follow i).boot = s.boot ∧ (s.follow i).fwm = { s.fwm with stby := some i } ∧ (s.follow i).rd Reg.FWM_VER_STBY = i.ver ∧
      (s.follow i).on F.FWM_STAT_STANDBY_VALID = true ∧ (∀ r, r ≠ Reg.FWM_STAT → r ≠ Reg.FWM_VER_STBY → (s.follow i).rd r = s.rd r) ∧
      (s.follow i).mems = s.mems ∧ (s.follow i).out = s.out := by
  let t : State := { s with fwm := { s.fwm with stby := some i } }
  have h1 : swf regReset (t.wr Reg.FWM_VER_STBY i.ver).regs = true := State.regs_wr t _ _ h
  have ht := fun r (hr : r ≠ Reg.FWM_VER_STBY) => t.rd_wr_other Reg.FWM_VER_STBY r i.ver hr
  have hu := fun r (hr : r ≠ Reg.FWM_STAT) => (t.wr Reg.FWM_VER_STBY i.ver).rd_setF_other F.FWM_STAT_STANDBY_VALID 1 r hr
  refine ⟨?_, rfl, (hu _ (by decide)).trans (t.rd_wr_same _ _ h), ?_, fun r h1 h2 => (hu r h1).trans (ht r h2), rfl, rfl⟩
  · exact ((t.wr Reg.FWM_VER_STBY i.ver).f_setF_other F.FWM_STAT_STANDBY_VALID F.FWM_STAT_BOOT 1 h1 (by decide)).trans
      (State.f_of_rd F.FWM_STAT_BOOT (ht _ (by decide)))
  · exact beq_iff_eq.2 ((t.wr Reg.FWM_VER_STBY i.ver).f_setF_same F.FWM_STAT_STANDBY_VALID 1 (by decide) h1)

/-- Settles O42. -/
theorem bootCommands : Obligations.BootCommands := by
  refine ⟨fun s hu hb => exec_up (f := State.romReady) rfl hu (if_neg (by simp [hb])), fun s hb => exec_same_up (f := State.romReady) rfl (if_pos hb),
    fun s a w v hw hh hb => exec_wr (f := (State.imgWrite · a.toNat w v)) rfl hw (if_neg (by simp [hh, hb])),
    fun s a w v h => exec_same_wr (f := (State.imgWrite · a.toNat w v)) rfl (if_pos h),
    fun s hw hb hr => goes_wr (f := State.bootCmd) rfl hw ?_, fun s hw hb => exec_wr (f := State.bootCmd) rfl hw (if_pos hb),
    fun s b hu hb hr => ?_, fun s b hb => exec_same_up (f := (State.bootDone · b)) rfl (if_pos hb)⟩
  · rw [State.bootCmd, if_neg (by simp [hb])]
    exact ⟨State.f_setF_same { s with fwm := { s.fwm with len := (s.f F.FWM_IMG_LEN_LEN).toNat } } F.FWM_STAT_BOOT bVerifying (by decide) hr, rfl, rfl, rfl⟩
  · dsimp only
    by_cases he : s.imgErr s.fwm.len none = 0
    · obtain ⟨hc, hboot, hver, hsvn, hst⟩ := State.booted_spec (s.staged s.fwm.len) hr
      refine ⟨_, exec_up (f := (State.bootDone · b)) rfl hu ((State.bootDone_good b hb he).trans (if_pos he).symm), fun h => absurd he h, fun _ => ?_⟩
      cases b with
      | true =>
        obtain ⟨h1, h2, h3, h4, h5, h6, h7⟩ := State.follow_spec (s.staged s.fwm.len) hc
        exact ⟨h1.trans hboot, by rw [if_pos rfl, h2]; rfl, (h5 _ (by decide) (by decide)).trans hver,
          (State.f_of_rd F.FWM_SVN_RUN (h5 _ (by decide) (by decide))).trans hsvn, h4, fun _ => ⟨by rw [if_pos rfl, h2], h3⟩, fun h => absurd h (by decide),
          h6.trans rfl, h7.trans rfl⟩
      | false =>
        let t : State := { s.booted (s.staged s.fwm.len) with fwm := { (s.booted (s.staged s.fwm.len)).fwm with lost := true } }
        have ht := t.rd_setF_other F.FWM_STAT_ERR 9
        have hf : ∀ {w : Nat} (g : Fld w), g.lo + w ≤ F.FWM_STAT_ERR.lo ∨ F.FWM_STAT_ERR.lo + 4 ≤ g.lo → (t.setF F.FWM_STAT_ERR 9).f g = t.f g :=
          fun g hg => t.f_setF_other F.FWM_STAT_ERR g 9 hc (Or.inr hg)
        refine ⟨(hf _ (by decide)).trans hboot, rfl, (ht _ (by decide)).trans hver, (State.f_of_rd F.FWM_SVN_RUN (ht _ (by decide))).trans hsvn, ?_,
          fun h => absurd h (by decide), fun _ => t.f_setF_same F.FWM_STAT_ERR 9 (by decide) hc, rfl, rfl⟩
        exact (congrArg (· == 1) (hf F.FWM_STAT_STANDBY_VALID (by decide))).trans hst
    · exact ⟨_, exec_up (f := (State.bootDone · b)) rfl hu ((State.bootDone_bad b hb he).trans (if_neg he).symm), fun _ => rfl, fun h => absurd h he⟩

/-! ### Handover and takeover (R615, R623, R629, R630, R632, R638) -/

theorem State.hstate_setF_same {s : State} (v : BitVec 3) (h : swf regReset s.regs = true) : (s.setF F.FWM_STAT_HSTATE v).hstate = v :=
  s.f_setF_same _ _ (by decide) h

theorem State.takeWaiting_none {s : State} (h : s.fwm.mbWait = none) :
    s.takeWaiting = { s with fwm := { s.fwm with busy := [], timed := false, mbWait := none } } := by
  unfold State.takeWaiting
  dsimp only
  rw [h]

theorem State.hoDue_untimed {s : State} (h : s.fwm.timed = false) : s.hoDue = s := if_neg (by simp [h])

/-- A node that goes on to load a new image (R629). -/
theorem State.updateCmd_ok {s : State} (hh : s.hstate = hIdle) (hb : s.boot = bRunning) (hs : s.on F.FWM_STAT_STANDBY_VALID = true) :
    s.updateCmd = State.setF { s.setF F.FWM_STAT_STANDBY_VALID 0 with fwm := { s.fwm with len := (s.f F.FWM_IMG_LEN_LEN).toNat } }
      F.FWM_STAT_HSTATE hLoading := by
  unfold State.updateCmd
  rw [if_neg (by simp [hh, hb]), if_neg (by simp [hs])]

theorem State.loadDone_ok {s : State} (hh : s.hstate = hLoading) (he : s.imgErr s.fwm.len s.fwm.run = 0) :
    s.loadDone true = (State.wr { s with fwm := { s.fwm with stby := some (s.staged s.fwm.len), hoAt := s.now } } Reg.FWM_VER_STBY
      (s.staged s.fwm.len).ver).setF F.FWM_STAT_HSTATE hSyncing := by
  unfold State.loadDone
  rw [if_neg (by simp [hh])]
  exact if_neg (by simp [he])

theorem State.loadDone_bad {s : State} (b : Bool) (hh : s.hstate = hLoading) (he : s.imgErr s.fwm.len s.fwm.run ≠ 0) :
    s.loadDone b = s.hoAbort (s.imgErr s.fwm.len s.fwm.run) := by
  unfold State.loadDone
  rw [if_neg (by simp [hh])]
  exact if_pos he

theorem State.loadDone_lost {s : State} (hh : s.hstate = hLoading) (he : s.imgErr s.fwm.len s.fwm.run = 0) : s.loadDone false = s.hoAbort 9 := by
  unfold State.loadDone
  rw [if_neg (by simp [hh])]
  exact if_neg (by simp [he])

theorem State.hoTimeout_sync {s : State} (hh : s.hstate = hSyncing) (ha : 125000000 < s.hoAge) : s.hoTimeout = s.hoAbort 7 := if_pos ⟨hh, ha⟩

theorem State.hoTimeout_switch {s : State} (hh : s.hstate = hSwitching) (ha : 25000000 ≤ s.hoAge) : s.hoTimeout = s.hoAbort 0xB := by
  unfold State.hoTimeout
  rw [if_neg (by rw [hh]; exact fun h => absurd h.1 (by decide)), if_pos ⟨hh, ha⟩]

theorem State.hoTimeout_not {s : State} (h : s.hstate = hSyncing → s.hoAge ≤ 125000000) (h' : s.hstate = hSwitching → s.hoAge < 25000000) :
    s.hoTimeout = s := by
  unfold State.hoTimeout
  rw [if_neg fun k => by have := h k.1; omega, if_neg fun k => by have := h' k.1; omega]

/-- The node once the standby has the role: its image runs, and the old one is the standby's (R630). -/
def State.switched (s : State) (i : Image) : State :=
  let old := s.fwm.run
  let s := ((s.setF F.FWM_STAT_ROLE (~~~ s.f F.FWM_STAT_ROLE)).setF F.FWM_STAT_HSTATE hIdle).runImage i
  State.wr { s with fwm := { s.fwm with stby := old } } Reg.FWM_VER_STBY (old.elim 0 Image.ver)

theorem State.switched_spec {s : State} (i : Image) (h : swf regReset s.regs = true) :
    (s.switched i).f F.FWM_STAT_ROLE = ~~~ s.f F.FWM_STAT_ROLE ∧ (s.switched i).hstate = hIdle ∧ (s.switched i).rd Reg.FWM_VER = i.ver ∧
      (s.switched i).f F.FWM_SVN_RUN = i.svn := by
  have h1 := s.regs_setF F.FWM_STAT_ROLE (~~~ s.f F.FWM_STAT_ROLE) h
  have h2 := (s.setF F.FWM_STAT_ROLE (~~~ s.f F.FWM_STAT_ROLE)).regs_setF F.FWM_STAT_HSTATE hIdle h1
  have hrole := ((s.setF F.FWM_STAT_ROLE (~~~ s.f F.FWM_STAT_ROLE)).f_setF_other F.FWM_STAT_HSTATE F.FWM_STAT_ROLE hIdle h1 (by decide)).trans
    (s.f_setF_same F.FWM_STAT_ROLE (~~~ s.f F.FWM_STAT_ROLE) (by decide) h)
  have hst := State.hstate_setF_same hIdle h1
  have hr : ∀ r, r ≠ Reg.FWM_VER_STBY → (s.switched i).rd r =
      (((s.setF F.FWM_STAT_ROLE (~~~ s.f F.FWM_STAT_ROLE)).setF F.FWM_STAT_HSTATE hIdle).runImage i).rd r :=
    fun r hr => State.rd_wr_other _ Reg.FWM_VER_STBY r _ hr
  generalize (s.setF F.FWM_STAT_ROLE (~~~ s.f F.FWM_STAT_ROLE)).setF F.FWM_STAT_HSTATE hIdle = u at h2 hrole hst hr
  obtain ⟨-, k1, k2, k3⟩ := State.runImage_spec i h2
  have hstat := (hr Reg.FWM_STAT (by decide)).trans (k3 Reg.FWM_STAT (by decide) (by decide))
  exact ⟨(State.f_of_rd F.FWM_STAT_ROLE hstat).trans hrole, (State.f_of_rd F.FWM_STAT_HSTATE hstat).trans hst, (hr _ (by decide)).trans k1,
    (State.f_of_rd F.FWM_SVN_RUN (hr _ (by decide))).trans k2⟩

theorem State.quiescent_switches {s : State} {i : Image} (ht : s.fwm.timed = false) (hh : s.hstate = hSwitching) (hb : s.fwm.busy = [])
    (hn : s.now.toNat = s.boundary) (hi : s.fwm.stby = some i) :
    s.quiescent = (s.switched i).takeWaiting.post (evHandoverDone (~~~ s.f F.FWM_STAT_ROLE) i.ver s.clk.slot) := by
  unfold State.quiescent
  dsimp only
  rw [State.hoDue_untimed ht, if_neg (by simp [hh, hb, hn]), hi, State.switched]
  cases s.fwm.run <;> rfl

theorem State.quiescent_not {s : State} (ht : s.fwm.timed = false) (h : s.hstate ≠ hSwitching ∨ s.fwm.busy ≠ [] ∨ s.now.toNat ≠ s.boundary) :
    s.quiescent = s := by
  unfold State.quiescent
  dsimp only
  rw [State.hoDue_untimed ht, if_pos h]

/-- The node once the standby has taken over (R615). -/
def State.takenOver (s : State) (i : Image) : State :=
  let s := ((s.setF F.FWM_STAT_ROLE (~~~ s.f F.FWM_STAT_ROLE)).setF F.FWM_STAT_STANDBY_VALID 0).runImage i
  { s with fwm := { s.fwm with lost := true } }

theorem State.takenOver_spec {s : State} (i : Image) (h : swf regReset s.regs = true) :
    (s.takenOver i).f F.FWM_STAT_ROLE = ~~~ s.f F.FWM_STAT_ROLE ∧ (s.takenOver i).on F.FWM_STAT_STANDBY_VALID = false ∧
      (s.takenOver i).rd Reg.FWM_VER = i.ver ∧ (s.takenOver i).f F.FWM_SVN_RUN = i.svn ∧ (s.takenOver i).f F.CLY_STAT_SINGLE = s.f F.CLY_STAT_SINGLE := by
  have h1 := s.regs_setF F.FWM_STAT_ROLE (~~~ s.f F.FWM_STAT_ROLE) h
  have h2 := (s.setF F.FWM_STAT_ROLE (~~~ s.f F.FWM_STAT_ROLE)).regs_setF F.FWM_STAT_STANDBY_VALID 0 h1
  have hrole := ((s.setF F.FWM_STAT_ROLE (~~~ s.f F.FWM_STAT_ROLE)).f_setF_other F.FWM_STAT_STANDBY_VALID F.FWM_STAT_ROLE 0 h1 (by decide)).trans
    (s.f_setF_same F.FWM_STAT_ROLE (~~~ s.f F.FWM_STAT_ROLE) (by decide) h)
  have hst := (s.setF F.FWM_STAT_ROLE (~~~ s.f F.FWM_STAT_ROLE)).f_setF_same F.FWM_STAT_STANDBY_VALID 0 (by decide) h1
  have hc : ((s.setF F.FWM_STAT_ROLE (~~~ s.f F.FWM_STAT_ROLE)).setF F.FWM_STAT_STANDBY_VALID 0).f F.CLY_STAT_SINGLE = s.f F.CLY_STAT_SINGLE :=
    (State.f_setF_reg _ _ _ _ (by decide)).trans (s.f_setF_reg _ _ _ (by decide))
  have hr : (s.takenOver i).regs = (((s.setF F.FWM_STAT_ROLE (~~~ s.f F.FWM_STAT_ROLE)).setF F.FWM_STAT_STANDBY_VALID 0).runImage i).regs := rfl
  generalize (s.setF F.FWM_STAT_ROLE (~~~ s.f F.FWM_STAT_ROLE)).setF F.FWM_STAT_STANDBY_VALID 0 = u at h2 hrole hst hr hc
  obtain ⟨-, k1, k2, k3⟩ := State.runImage_spec i h2
  have hstat := (State.rd_of_regs hr Reg.FWM_STAT).trans (k3 Reg.FWM_STAT (by decide) (by decide))
  refine ⟨(State.f_of_rd F.FWM_STAT_ROLE hstat).trans hrole, ?_, (State.rd_of_regs hr _).trans k1, (State.f_of_regs hr _).trans k2, ?_⟩
  · rw [State.on, (State.f_of_rd F.FWM_STAT_STANDBY_VALID hstat).trans hst]
    rfl
  · exact ((State.f_of_regs hr _).trans (State.f_of_rd F.CLY_STAT_SINGLE (k3 _ (by decide) (by decide)))).trans hc

theorem State.takeover_ok {s : State} {i : Image} (hs : s.on F.FWM_STAT_STANDBY_VALID = true) (hi : s.fwm.stby = some i) :
    s.takeover false = (s.takenOver i).post (evTakeover (~~~ s.f F.FWM_STAT_ROLE) s.fwInProgress.length) := by
  unfold State.takeover
  simp only [Bool.false_eq_true, if_false, hs, hi, Bool.not_true]
  rfl

/-- The loss of a die leaves the firmware's registers (R638). -/
theorem State.dieGone_spec {s : State} (h : swf regReset s.regs = true) :
    swf regReset s.dieGone.regs = true ∧ s.dieGone.f F.CLY_STAT_SINGLE = 1 ∧ (∀ r, r ≠ Reg.CLY_STAT → s.dieGone.rd r = s.rd r) := by
  let t : State := { s with
    pwr := { s.pwr with pcieUp := s.pwr.pcieUp && !(s.f F.FWM_STAT_ROLE == 0) }
    clay := { s.clay with bank0 := s.clay.bank0 && !(s.f F.FWM_STAT_ROLE == 0), bank1 := s.clay.bank1 && (s.f F.FWM_STAT_ROLE == 0) } }
  exact ⟨t.regs_setF F.CLY_STAT_SINGLE 1 h, t.f_setF_same F.CLY_STAT_SINGLE 1 (by decide) h, fun r hr => t.rd_setF_other F.CLY_STAT_SINGLE 1 r hr⟩

theorem State.takeover_hardware (s : State) : s.takeover true = s.dieGone.takeover false := rfl

theorem State.takeover_none {s : State} (hs : s.on F.FWM_STAT_STANDBY_VALID = false) :
    s.takeover false = { s with fwm := { s.fwm with dead := true } } := by
  unfold State.takeover
  simp only [Bool.false_eq_true, if_false, hs, Bool.not_false, if_true]

/-- Settles O43. -/
theorem handoverCommands : Obligations.HandoverCommands := by
  refine ⟨fun s hw hh hb hs hr => goes_wr (f := State.updateCmd) rfl hw ?_, fun s hw h => exec_wr (f := State.updateCmd) rfl hw (if_pos h),
    fun s hu hh hr => ⟨goes_up (f := (State.loadDone · true)) rfl hu ⟨State.loadDone_bad true hh, fun he => ?_⟩, exec_up (f := (State.loadDone · false)) rfl hu ?_⟩,
    fun s b hh => exec_same_up (f := (State.loadDone · b)) rfl (if_pos hh),
    fun s hu hh => ⟨exec_up (f := (State.syncDone · true)) rfl hu ?_, exec_up (f := (State.syncDone · false)) rfl hu ?_,
      fun ha => exec_up (f := State.hoTimeout) rfl hu (State.hoTimeout_sync hh ha)⟩,
    fun s b hh => exec_same_up (f := (State.syncDone · b)) rfl (if_pos hh),
    fun s hw hh hr => goes_wr (f := (State.switchCmd · false)) rfl hw ?_, fun s hw hh hd => exec_wr (f := (State.switchCmd · true)) rfl hw ?_,
    fun s b hw hh => exec_wr (f := (State.switchCmd · b)) rfl hw (if_pos hh), fun s i hu hh hb hn ht hi hm hr => ?_,
    fun s ht h => exec_same_up (f := State.quiescent) rfl (State.quiescent_not ht h),
    fun s hw => ⟨fun hh => exec_wr (f := State.abortCmd) rfl hw (if_pos hh), fun hh => exec_wr (f := State.abortCmd) rfl hw (if_neg hh)⟩,
    fun s hu hh ha => exec_up (f := State.hoTimeout) rfl hu (State.hoTimeout_switch hh ha),
    fun s h h' => exec_same_up (f := State.hoTimeout) rfl (State.hoTimeout_not h h'), fun s i hu hh hb hs hl hi hr => goes_up (f := State.standbyFollows) rfl hu ?_,
    fun s h => exec_same_up (f := State.standbyFollows) rfl (if_pos h),
    fun s hw hh hs => ⟨fun hl => exec_wr (f := State.svnCommit) rfl hw ?_, fun hl => exec_wr (f := State.svnCommit) rfl hw ?_⟩,
    fun s hw h => exec_wr (f := State.svnCommit) rfl hw (if_pos (by simpa using h)), fun s h i hu hs hi hr => ?_,
    fun s hu hs hr => ⟨exec_up (f := (State.takeover · false)) rfl hu (State.takeover_none hs), exec_up (f := (State.takeover · true)) rfl hu ?_⟩⟩
  · let t : State := { s.setF F.FWM_STAT_STANDBY_VALID 0 with fwm := { s.fwm with len := (s.f F.FWM_IMG_LEN_LEN).toNat } }
    have hc : swf regReset t.regs = true := s.regs_setF F.FWM_STAT_STANDBY_VALID 0 hr
    rw [State.updateCmd_ok hh hb hs]
    refine ⟨State.hstate_setF_same (s := t) hLoading hc, ?_, rfl, rfl, rfl⟩
    rw [State.on, State.f_setF_other t F.FWM_STAT_HSTATE F.FWM_STAT_STANDBY_VALID hLoading hc (by decide)]
    exact beq_eq_false_iff_ne.2 (by rw [show t.f F.FWM_STAT_STANDBY_VALID = 0 from s.f_setF_same _ _ (by decide) hr]; decide)
  · let t : State := { s with fwm := { s.fwm with stby := some (s.staged s.fwm.len), hoAt := s.now } }
    rw [State.loadDone_ok hh he]
    exact ⟨State.hstate_setF_same (s := t.wr Reg.FWM_VER_STBY (s.staged s.fwm.len).ver) hSyncing (t.regs_wr _ _ hr), rfl,
      ((t.wr Reg.FWM_VER_STBY (s.staged s.fwm.len).ver).rd_setF_other F.FWM_STAT_HSTATE hSyncing _ (by decide)).trans (t.rd_wr_same _ _ hr), rfl, rfl⟩
  · by_cases he : s.imgErr s.fwm.len s.fwm.run = 0
    · rw [State.loadDone_lost hh he, if_pos he]
    · rw [State.loadDone_bad false hh he, if_neg he]
  · unfold State.syncDone
    rw [if_neg (by simp [hh]), if_pos rfl]
  · unfold State.syncDone
    rw [if_neg (by simp [hh]), if_neg (by simp)]
  · unfold State.switchCmd
    rw [if_neg (by simp [hh]), if_neg (by simp)]
    exact ⟨State.hstate_setF_same (s := { s with fwm := { s.fwm with timed := false, busy := s.fwInProgress, hoAt := s.now } }) hSwitching hr, rfl, rfl, rfl⟩
  · unfold State.switchCmd
    rw [if_neg (by simp [hh]), if_pos rfl]
    refine if_neg ?_
    have : State.due { s with fwm := { s.fwm with timed := true } } (State.hoTick { s with fwm := { s.fwm with timed := true } }) = false := hd
    simp [this]
  · obtain ⟨h1, h2, h3, h4⟩ := State.switched_spec i hr
    refine ⟨{ s.switched i with fwm := { (s.switched i).fwm with busy := [], timed := false, mbWait := none } },
      exec_up (f := State.quiescent) rfl hu ?_, h1, h2, rfl, rfl, h3, h4, rfl, rfl⟩
    have hw : (s.switched i).fwm.mbWait = none := hm
    rw [State.quiescent_switches ht hh hb hn hi, State.takeWaiting_none hw]
  · obtain ⟨-, h2, h3, h4, -, h6, h7⟩ := State.follow_spec i hr
    unfold State.standbyFollows
    rw [if_neg (by simp [hh, hb, hs, hl]), hi]
    exact ⟨h2, h3, h4, h6, h7⟩
  · unfold State.svnCommit
    rw [if_neg (by simp [hh, hs]), if_pos hl]
  · unfold State.svnCommit
    rw [if_neg (by simp [hh, hs]), if_neg (by omega)]
  · cases h with
    | false =>
      obtain ⟨h1, h2, h3, h4, -⟩ := State.takenOver_spec i hr
      exact ⟨_, exec_up (f := (State.takeover · false)) rfl hu (State.takeover_ok hs hi), h1, h2, rfl, rfl, h3, h4, rfl, rfl, fun _ => ⟨rfl, rfl⟩,
        fun h => absurd h (by decide)⟩
    | true =>
      obtain ⟨k1, k2, k3⟩ := State.dieGone_spec hr
      have hrole : s.dieGone.f F.FWM_STAT_ROLE = s.f F.FWM_STAT_ROLE := State.f_of_rd F.FWM_STAT_ROLE (k3 _ (by decide))
      have hstby : s.dieGone.on F.FWM_STAT_STANDBY_VALID = true :=
        (congrArg (· == 1) (State.f_of_rd F.FWM_STAT_STANDBY_VALID (k3 _ (by decide)))).trans hs
      obtain ⟨h1, h2, h3, h4, h5⟩ := State.takenOver_spec (s := s.dieGone) i k1
      refine ⟨_, exec_up (f := (State.takeover · true)) rfl hu ?_, h1.trans (by rw [hrole]), h2, rfl, rfl, h3, h4, rfl, rfl, fun h => absurd h (by decide),
        fun _ => ⟨h5.trans k2, fun h0 => ?_, fun h0 => ?_⟩⟩
      · rw [State.takeover_hardware, State.takeover_ok hstby hi, hrole]
        rfl
      · simp [State.takenOver, State.runImage, State.dieGone, h0]
      · simp [State.takenOver, State.runImage, State.dieGone, h0]
  · obtain ⟨-, -, k3⟩ := State.dieGone_spec hr
    rw [State.takeover_hardware, State.takeover_none]
    · rfl
    · exact (congrArg (· == 1) (State.f_of_rd F.FWM_STAT_STANDBY_VALID (k3 _ (by decide)))).trans hs

end Sys2Proof.Machine
end

section
/-!
PROOFS. Barriers, power plans, timetable sets and spare tiles; the switch core and job stops, refuted.
-/

namespace Sys2Proof.Machine


/-- A package without supply whose switch core still holds a message of this node's. -/
def downHoldState : State :=
  { State.reset with pwr := { State.reset.pwr with powered := false }, swc := { State.reset.swc with hold := [(none, .req Tests.wReq)], stopped := [] } }

/-- Refutes O36: the clause of ESCAPE_REROUTE with a held message does not ask that the node is up. On a node that is down the command changes nothing,
the message stays held, and the state on the right has none. -/
theorem not_switchCommands : ¬ Obligations.SwitchCommands := by
  rintro ⟨-, -, -, -, -, -, h, -⟩
  have ht := Host.Outcome.next.inj (h downHoldState none (.req Tests.wReq) rfl rfl)
  exact absurd (congrArg (fun t => t.swc.hold.length) ht) (by decide +kernel)

/-- A trained port 3 without a heartbeat for 2,500 ticks, whose peer fields stand at their greatest value and whose queue holds a message of an expelled
node that came in at an input no node has: counting its discard there counts in FLT_PORT_HB(3). -/
def strayInputState : State :=
  let s := { State.reset with clk := { State.reset.clk with now := 2500 } }
  let s := ((s.setF (F.LAN_P_STAT_STATE 3) pUp).wr Reg.FLT_EXP_LO 0xFFFFFFFF).wr (Reg.FLT_PORT_HB 3) 0x3FFFFF
  (s.setF F.FLT_CTL_HB_MISS 0).setOutq 3 [⟨0, some 0x1FFE2, .req Tests.wReq⟩]

/-- Refutes O29: the clause of HEARTBEAT_MISS that shows MISSED bounds no input in the queues of the switch core. The messages of a port declared down are
forwarded again, one of an expelled node is counted at its input, and the count of an input beyond 13 can lie in the heartbeat register, where it carries
into MISSED. -/
theorem not_jobStops : ¬ Obligations.JobStops := by
  rintro ⟨-, h, -⟩
  obtain ⟨t, ht, -, hm⟩ := h strayInputState 3 (by decide +kernel) (by decide +kernel) (by decide +kernel) (by decide +kernel) (by decide +kernel)
    (by decide +kernel)
  obtain rfl := Host.Outcome.next.inj ht
  exact absurd hm (by decide +kernel)

@[simp] theorem foldl_io_flt {α : Type} (f : Io → α → Io) (l : List α) (s : Io) (h : ∀ s a, (f s a).s.flt = s.s.flt) : (l.foldl f s).s.flt = s.s.flt := by
  induction l generalizing s with
  | nil => rfl
  | cons a l ih => simp only [List.foldl_cons, ih, h]

@[simp] theorem upto_regs (f : Nat → State → State) (n : Nat) (s : State) (h : ∀ i s, (f i s).regs = s.regs) : (upto f n s).regs = s.regs :=
  upto_keep State.regs f n s h

@[simp] theorem foldl_regs {α : Type} (f : State → α → State) (l : List α) (s : State) (h : ∀ s a, (f s a).regs = s.regs) :
    (l.foldl f s).regs = s.regs := foldl_keep State.regs f l s h

@[simp] theorem foldl_io_regs {α : Type} (f : Io → α → Io) (l : List α) (s : Io) (h : ∀ s a, (f s a).s.regs = s.s.regs) : (l.foldl f s).s.regs = s.s.regs := by
  induction l generalizing s with
  | nil => rfl
  | cons a l ih => simp only [List.foldl_cons, ih, h]

@[simp] theorem State.wr_flt (x0 x1 x2) : (State.wr x0 x1 x2).flt = x0.flt := by
  simp [State.wr]

@[simp] theorem State.drawWord_flt (x0) : (State.drawWord x0).2.flt = x0.flt := by
  simp [State.drawWord]

@[simp] theorem State.setLp_flt (x0 x1 x2) : (State.setLp x0 x1 x2).flt = x0.flt := by
  simp [State.setLp]

@[simp] theorem State.lanes_flt (x0 x1 x2) : (State.lanes x0 x1 x2).flt = x0.flt := by
  simp [State.lanes]

@[simp] theorem State.toState_flt (x0 x1 x2 x3) : (State.toState x0 x1 x2 x3).flt = x0.flt := by
  simp [State.toState]

@[simp] theorem State.freeEnt_flt (x0 x1) : (State.freeEnt x0 x1).flt = x0.flt := by
  unfold State.freeEnt; dsimp only; (repeat' split) <;> simp

@[simp] theorem State.leftPort_flt (x0 x1 x2) : (State.leftPort x0 x1 x2).flt = x0.flt := by
  unfold State.leftPort; (repeat' split) <;> simp

@[simp] theorem State.seal_flt (x0 x1 x2) : (State.seal x0 x1 x2).2.flt = x0.flt := by
  unfold State.seal; dsimp only; (repeat' split) <;> simp

@[simp] theorem State.sealAll_flt (x0 x1 x2) : (State.sealAll x0 x1 x2).2.flt = x0.flt := by
  induction x2 generalizing x0 x1 <;> simp [State.sealAll, *]

@[simp] theorem State.setPt_flt (x0 x1 x2) : (State.setPt x0 x1 x2).flt = x0.flt := by
  simp [State.setPt]

@[simp] theorem State.stamp_flt (x0 x1 x2) : (State.stamp x0 x1 x2).2.flt = x0.flt := by
  unfold State.stamp; (repeat' split) <;> simp

@[simp] theorem State.sendNow_flt (x0 x1 x2) : (State.sendNow x0 x1 x2).flt = x0.flt := by
  simp [State.sendNow]

@[simp] theorem State.pump_flt (x0 x1 x2) : (State.pump x0 x1 x2).flt = x0.flt := by
  induction x2 generalizing x0 x1 <;> simp only [State.pump] <;> (repeat' split) <;> simp [*]

@[simp] theorem State.resume_flt (x0 x1) : (State.resume x0 x1).flt = x0.flt := by
  simp [State.resume]

@[simp] theorem State.tx_flt (x0 x1 x2) : (State.tx x0 x1 x2).flt = x0.flt := by
  unfold State.tx; (repeat' split) <;> simp

@[simp] theorem State.ctrl_flt (x0 x1 x2) : (State.ctrl x0 x1 x2).flt = x0.flt := by
  unfold State.ctrl; (repeat' split) <;> simp

@[simp] theorem State.ctrlAll_flt (x0 x1 x2) : (State.ctrlAll x0 x1 x2).flt = x0.flt := by
  simp [State.ctrlAll, apply_ite State.flt]

@[simp] theorem State.setOutq_regs (x0 x1 x2) : (State.setOutq x0 x1 x2).regs = x0.regs := by
  simp [State.setOutq]

@[simp] theorem State.tampInto_regs (x0 x1 x2 x3) : (State.tampInto x0 x1 x2 x3).2.regs = x0.regs := by
  simp [State.tampInto]

@[simp] theorem State.tampNew_regs (x0 x1 x2 x3) : (State.tampNew x0 x1 x2 x3).2.regs = x0.regs := by
  simp [State.tampNew]

@[simp] theorem State.tamp_regs (x0 x1 x2 d) (h : State.regs d = x0.regs) : ((State.tamp x0 x1 x2).getD d).regs = x0.regs := by
  unfold State.tamp; dsimp only; (repeat' split) <;> simp [h]

@[simp] theorem State.join_regs (x0 x1 x2 x3 x4) : (State.join x0 x1 x2 x3 x4).regs = x0.regs := by
  unfold State.join; (repeat' split) <;> simp

@[simp] theorem State.arrived_regs (x0 x1 x2) : (State.arrived x0 x1 x2).regs = x0.regs := by
  unfold State.arrived; (repeat' split) <;> simp

@[simp] theorem upto_dtt_arrivals (f : Nat → State → State) (n : Nat) (s : State) (h : ∀ i s, (f i s).dtt.arrivals = s.dtt.arrivals) : (upto f n s).dtt.arrivals = s.dtt.arrivals :=
  upto_keep (fun s => s.dtt.arrivals) f n s h

@[simp] theorem foldl_dtt_arrivals {α : Type} (f : State → α → State) (l : List α) (s : State) (h : ∀ s a, (f s a).dtt.arrivals = s.dtt.arrivals) :
    (l.foldl f s).dtt.arrivals = s.dtt.arrivals := foldl_keep (fun s => s.dtt.arrivals) f l s h

@[simp] theorem foldl_io_dtt_arrivals {α : Type} (f : Io → α → Io) (l : List α) (s : Io) (h : ∀ s a, (f s a).s.dtt.arrivals = s.s.dtt.arrivals) : (l.foldl f s).s.dtt.arrivals = s.s.dtt.arrivals := by
  induction l generalizing s with
  | nil => rfl
  | cons a l ih => simp only [List.foldl_cons, ih, h]

@[simp] theorem upto_dtt_bar (f : Nat → State → State) (n : Nat) (s : State) (h : ∀ i s, (f i s).dtt.bar = s.dtt.bar) : (upto f n s).dtt.bar = s.dtt.bar :=
  upto_keep (fun s => s.dtt.bar) f n s h

@[simp] theorem foldl_dtt_bar {α : Type} (f : State → α → State) (l : List α) (s : State) (h : ∀ s a, (f s a).dtt.bar = s.dtt.bar) :
    (l.foldl f s).dtt.bar = s.dtt.bar := foldl_keep (fun s => s.dtt.bar) f l s h

@[simp] theorem foldl_io_dtt_bar {α : Type} (f : Io → α → Io) (l : List α) (s : Io) (h : ∀ s a, (f s a).s.dtt.bar = s.s.dtt.bar) : (l.foldl f s).s.dtt.bar = s.s.dtt.bar := by
  induction l generalizing s with
  | nil => rfl
  | cons a l ih => simp only [List.foldl_cons, ih, h]

@[simp] theorem upto_dtt_firing (f : Nat → State → State) (n : Nat) (s : State) (h : ∀ i s, (f i s).dtt.firing = s.dtt.firing) : (upto f n s).dtt.firing = s.dtt.firing :=
  upto_keep (fun s => s.dtt.firing) f n s h

@[simp] theorem foldl_dtt_firing {α : Type} (f : State → α → State) (l : List α) (s : State) (h : ∀ s a, (f s a).dtt.firing = s.dtt.firing) :
    (l.foldl f s).dtt.firing = s.dtt.firing := foldl_keep (fun s => s.dtt.firing) f l s h

@[simp] theorem foldl_io_dtt_firing {α : Type} (f : Io → α → Io) (l : List α) (s : Io) (h : ∀ s a, (f s a).s.dtt.firing = s.s.dtt.firing) : (l.foldl f s).s.dtt.firing = s.s.dtt.firing := by
  induction l generalizing s with
  | nil => rfl
  | cons a l ih => simp only [List.foldl_cons, ih, h]

@[simp] theorem upto_dtt_plan (f : Nat → State → State) (n : Nat) (s : State) (h : ∀ i s, (f i s).dtt.plan = s.dtt.plan) : (upto f n s).dtt.plan = s.dtt.plan :=
  upto_keep (fun s => s.dtt.plan) f n s h

@[simp] theorem foldl_dtt_plan {α : Type} (f : State → α → State) (l : List α) (s : State) (h : ∀ s a, (f s a).dtt.plan = s.dtt.plan) :
    (l.foldl f s).dtt.plan = s.dtt.plan := foldl_keep (fun s => s.dtt.plan) f l s h

@[simp] theorem foldl_io_dtt_plan {α : Type} (f : Io → α → Io) (l : List α) (s : Io) (h : ∀ s a, (f s a).s.dtt.plan = s.s.dtt.plan) : (l.foldl f s).s.dtt.plan = s.s.dtt.plan := by
  induction l generalizing s with
  | nil => rfl
  | cons a l ih => simp only [List.foldl_cons, ih, h]

@[simp] theorem State.wr_dtt_arrivals (x0 x1 x2) : (State.wr x0 x1 x2).dtt.arrivals = x0.dtt.arrivals := by
  simp [State.wr]

@[simp] theorem State.wr_dtt_bar (x0 x1 x2) : (State.wr x0 x1 x2).dtt.bar = x0.dtt.bar := by
  simp [State.wr]

@[simp] theorem State.wr_dtt_firing (x0 x1 x2) : (State.wr x0 x1 x2).dtt.firing = x0.dtt.firing := by
  simp [State.wr]

@[simp] theorem State.wr_dtt_plan (x0 x1 x2) : (State.wr x0 x1 x2).dtt.plan = x0.dtt.plan := by
  simp [State.wr]

@[simp] theorem State.setF_dtt_arrivals (x0 x1 x2 x3) : (@State.setF x0 x1 x2 x3).dtt.arrivals = x1.dtt.arrivals := by
  simp [State.setF]

@[simp] theorem State.setF_dtt_bar (x0 x1 x2 x3) : (@State.setF x0 x1 x2 x3).dtt.bar = x1.dtt.bar := by
  simp [State.setF]

@[simp] theorem State.setF_dtt_firing (x0 x1 x2 x3) : (@State.setF x0 x1 x2 x3).dtt.firing = x1.dtt.firing := by
  simp [State.setF]

@[simp] theorem State.setF_dtt_plan (x0 x1 x2 x3) : (@State.setF x0 x1 x2 x3).dtt.plan = x1.dtt.plan := by
  simp [State.setF]

@[simp] theorem State.emit_dtt_arrivals (x0 x1) : (State.emit x0 x1).dtt.arrivals = x0.dtt.arrivals := by
  unfold State.emit; (repeat' split) <;> simp

@[simp] theorem State.emit_dtt_bar (x0 x1) : (State.emit x0 x1).dtt.bar = x0.dtt.bar := by
  unfold State.emit; (repeat' split) <;> simp

@[simp] theorem State.emit_dtt_firing (x0 x1) : (State.emit x0 x1).dtt.firing = x0.dtt.firing := by
  unfold State.emit; (repeat' split) <;> simp

@[simp] theorem State.emit_dtt_plan (x0 x1) : (State.emit x0 x1).dtt.plan = x0.dtt.plan := by
  unfold State.emit; (repeat' split) <;> simp

@[simp] theorem State.drawWord_dtt_arrivals (x0) : (State.drawWord x0).2.dtt.arrivals = x0.dtt.arrivals := by
  simp [State.drawWord]

@[simp] theorem State.drawWord_dtt_bar (x0) : (State.drawWord x0).2.dtt.bar = x0.dtt.bar := by
  simp [State.drawWord]

@[simp] theorem State.drawWord_dtt_firing (x0) : (State.drawWord x0).2.dtt.firing = x0.dtt.firing := by
  simp [State.drawWord]

@[simp] theorem State.drawWord_dtt_plan (x0) : (State.drawWord x0).2.dtt.plan = x0.dtt.plan := by
  simp [State.drawWord]

@[simp] theorem State.setLp_dtt_arrivals (x0 x1 x2) : (State.setLp x0 x1 x2).dtt.arrivals = x0.dtt.arrivals := by
  simp [State.setLp]

@[simp] theorem State.setLp_dtt_bar (x0 x1 x2) : (State.setLp x0 x1 x2).dtt.bar = x0.dtt.bar := by
  simp [State.setLp]

@[simp] theorem State.setLp_dtt_firing (x0 x1 x2) : (State.setLp x0 x1 x2).dtt.firing = x0.dtt.firing := by
  simp [State.setLp]

@[simp] theorem State.setLp_dtt_plan (x0 x1 x2) : (State.setLp x0 x1 x2).dtt.plan = x0.dtt.plan := by
  simp [State.setLp]

@[simp] theorem State.lanes_dtt_arrivals (x0 x1 x2) : (State.lanes x0 x1 x2).dtt.arrivals = x0.dtt.arrivals := by
  simp [State.lanes]

@[simp] theorem State.lanes_dtt_bar (x0 x1 x2) : (State.lanes x0 x1 x2).dtt.bar = x0.dtt.bar := by
  simp [State.lanes]

@[simp] theorem State.lanes_dtt_firing (x0 x1 x2) : (State.lanes x0 x1 x2).dtt.firing = x0.dtt.firing := by
  simp [State.lanes]

@[simp] theorem State.lanes_dtt_plan (x0 x1 x2) : (State.lanes x0 x1 x2).dtt.plan = x0.dtt.plan := by
  simp [State.lanes]

@[simp] theorem State.toState_dtt_arrivals (x0 x1 x2 x3) : (State.toState x0 x1 x2 x3).dtt.arrivals = x0.dtt.arrivals := by
  simp [State.toState]

@[simp] theorem State.toState_dtt_bar (x0 x1 x2 x3) : (State.toState x0 x1 x2 x3).dtt.bar = x0.dtt.bar := by
  simp [State.toState]

@[simp] theorem State.toState_dtt_firing (x0 x1 x2 x3) : (State.toState x0 x1 x2 x3).dtt.firing = x0.dtt.firing := by
  simp [State.toState]

@[simp] theorem State.toState_dtt_plan (x0 x1 x2 x3) : (State.toState x0 x1 x2 x3).dtt.plan = x0.dtt.plan := by
  simp [State.toState]

@[simp] theorem State.freeEnt_dtt_arrivals (x0 x1) : (State.freeEnt x0 x1).dtt.arrivals = x0.dtt.arrivals := by
  unfold State.freeEnt; dsimp only; (repeat' split) <;> simp

@[simp] theorem State.freeEnt_dtt_bar (x0 x1) : (State.freeEnt x0 x1).dtt.bar = x0.dtt.bar := by
  unfold State.freeEnt; dsimp only; (repeat' split) <;> simp

@[simp] theorem State.freeEnt_dtt_firing (x0 x1) : (State.freeEnt x0 x1).dtt.firing = x0.dtt.firing := by
  unfold State.freeEnt; dsimp only; (repeat' split) <;> simp

@[simp] theorem State.freeEnt_dtt_plan (x0 x1) : (State.freeEnt x0 x1).dtt.plan = x0.dtt.plan := by
  unfold State.freeEnt; dsimp only; (repeat' split) <;> simp

@[simp] theorem State.leftPort_dtt_arrivals (x0 x1 x2) : (State.leftPort x0 x1 x2).dtt.arrivals = x0.dtt.arrivals := by
  unfold State.leftPort; (repeat' split) <;> simp

@[simp] theorem State.leftPort_dtt_bar (x0 x1 x2) : (State.leftPort x0 x1 x2).dtt.bar = x0.dtt.bar := by
  unfold State.leftPort; (repeat' split) <;> simp

@[simp] theorem State.leftPort_dtt_firing (x0 x1 x2) : (State.leftPort x0 x1 x2).dtt.firing = x0.dtt.firing := by
  unfold State.leftPort; (repeat' split) <;> simp

@[simp] theorem State.leftPort_dtt_plan (x0 x1 x2) : (State.leftPort x0 x1 x2).dtt.plan = x0.dtt.plan := by
  unfold State.leftPort; (repeat' split) <;> simp

@[simp] theorem State.seal_dtt_arrivals (x0 x1 x2) : (State.seal x0 x1 x2).2.dtt.arrivals = x0.dtt.arrivals := by
  unfold State.seal; dsimp only; (repeat' split) <;> simp

@[simp] theorem State.seal_dtt_bar (x0 x1 x2) : (State.seal x0 x1 x2).2.dtt.bar = x0.dtt.bar := by
  unfold State.seal; dsimp only; (repeat' split) <;> simp

@[simp] theorem State.seal_dtt_firing (x0 x1 x2) : (State.seal x0 x1 x2).2.dtt.firing = x0.dtt.firing := by
  unfold State.seal; dsimp only; (repeat' split) <;> simp

@[simp] theorem State.seal_dtt_plan (x0 x1 x2) : (State.seal x0 x1 x2).2.dtt.plan = x0.dtt.plan := by
  unfold State.seal; dsimp only; (repeat' split) <;> simp

@[simp] theorem State.sealAll_dtt_arrivals (x0 x1 x2) : (State.sealAll x0 x1 x2).2.dtt.arrivals = x0.dtt.arrivals := by
  induction x2 generalizing x0 x1 <;> simp [State.sealAll, *]

@[simp] theorem State.sealAll_dtt_bar (x0 x1 x2) : (State.sealAll x0 x1 x2).2.dtt.bar = x0.dtt.bar := by
  induction x2 generalizing x0 x1 <;> simp [State.sealAll, *]

@[simp] theorem State.sealAll_dtt_firing (x0 x1 x2) : (State.sealAll x0 x1 x2).2.dtt.firing = x0.dtt.firing := by
  induction x2 generalizing x0 x1 <;> simp [State.sealAll, *]

@[simp] theorem State.sealAll_dtt_plan (x0 x1 x2) : (State.sealAll x0 x1 x2).2.dtt.plan = x0.dtt.plan := by
  induction x2 generalizing x0 x1 <;> simp [State.sealAll, *]

@[simp] theorem State.setPt_dtt_arrivals (x0 x1 x2) : (State.setPt x0 x1 x2).dtt.arrivals = x0.dtt.arrivals := by
  simp [State.setPt]

@[simp] theorem State.setPt_dtt_bar (x0 x1 x2) : (State.setPt x0 x1 x2).dtt.bar = x0.dtt.bar := by
  simp [State.setPt]

@[simp] theorem State.setPt_dtt_firing (x0 x1 x2) : (State.setPt x0 x1 x2).dtt.firing = x0.dtt.firing := by
  simp [State.setPt]

@[simp] theorem State.setPt_dtt_plan (x0 x1 x2) : (State.setPt x0 x1 x2).dtt.plan = x0.dtt.plan := by
  simp [State.setPt]

@[simp] theorem State.stamp_dtt_arrivals (x0 x1 x2) : (State.stamp x0 x1 x2).2.dtt.arrivals = x0.dtt.arrivals := by
  unfold State.stamp; (repeat' split) <;> simp

@[simp] theorem State.stamp_dtt_bar (x0 x1 x2) : (State.stamp x0 x1 x2).2.dtt.bar = x0.dtt.bar := by
  unfold State.stamp; (repeat' split) <;> simp

@[simp] theorem State.stamp_dtt_firing (x0 x1 x2) : (State.stamp x0 x1 x2).2.dtt.firing = x0.dtt.firing := by
  unfold State.stamp; (repeat' split) <;> simp

@[simp] theorem State.stamp_dtt_plan (x0 x1 x2) : (State.stamp x0 x1 x2).2.dtt.plan = x0.dtt.plan := by
  unfold State.stamp; (repeat' split) <;> simp

@[simp] theorem State.sendNow_dtt_arrivals (x0 x1 x2) : (State.sendNow x0 x1 x2).dtt.arrivals = x0.dtt.arrivals := by
  simp [State.sendNow]

@[simp] theorem State.sendNow_dtt_bar (x0 x1 x2) : (State.sendNow x0 x1 x2).dtt.bar = x0.dtt.bar := by
  simp [State.sendNow]

@[simp] theorem State.sendNow_dtt_firing (x0 x1 x2) : (State.sendNow x0 x1 x2).dtt.firing = x0.dtt.firing := by
  simp [State.sendNow]

@[simp] theorem State.sendNow_dtt_plan (x0 x1 x2) : (State.sendNow x0 x1 x2).dtt.plan = x0.dtt.plan := by
  simp [State.sendNow]

@[simp] theorem State.pump_dtt_arrivals (x0 x1 x2) : (State.pump x0 x1 x2).dtt.arrivals = x0.dtt.arrivals := by
  induction x2 generalizing x0 x1 <;> simp only [State.pump] <;> (repeat' split) <;> simp [*]

@[simp] theorem State.pump_dtt_bar (x0 x1 x2) : (State.pump x0 x1 x2).dtt.bar = x0.dtt.bar := by
  induction x2 generalizing x0 x1 <;> simp only [State.pump] <;> (repeat' split) <;> simp [*]

@[simp] theorem State.pump_dtt_firing (x0 x1 x2) : (State.pump x0 x1 x2).dtt.firing = x0.dtt.firing := by
  induction x2 generalizing x0 x1 <;> simp only [State.pump] <;> (repeat' split) <;> simp [*]

@[simp] theorem State.pump_dtt_plan (x0 x1 x2) : (State.pump x0 x1 x2).dtt.plan = x0.dtt.plan := by
  induction x2 generalizing x0 x1 <;> simp only [State.pump] <;> (repeat' split) <;> simp [*]

@[simp] theorem State.resume_dtt_arrivals (x0 x1) : (State.resume x0 x1).dtt.arrivals = x0.dtt.arrivals := by
  simp [State.resume]

@[simp] theorem State.resume_dtt_bar (x0 x1) : (State.resume x0 x1).dtt.bar = x0.dtt.bar := by
  simp [State.resume]

@[simp] theorem State.resume_dtt_firing (x0 x1) : (State.resume x0 x1).dtt.firing = x0.dtt.firing := by
  simp [State.resume]

@[simp] theorem State.resume_dtt_plan (x0 x1) : (State.resume x0 x1).dtt.plan = x0.dtt.plan := by
  simp [State.resume]

@[simp] theorem State.tx_dtt_arrivals (x0 x1 x2) : (State.tx x0 x1 x2).dtt.arrivals = x0.dtt.arrivals := by
  unfold State.tx; (repeat' split) <;> simp

@[simp] theorem State.tx_dtt_bar (x0 x1 x2) : (State.tx x0 x1 x2).dtt.bar = x0.dtt.bar := by
  unfold State.tx; (repeat' split) <;> simp

@[simp] theorem State.tx_dtt_firing (x0 x1 x2) : (State.tx x0 x1 x2).dtt.firing = x0.dtt.firing := by
  unfold State.tx; (repeat' split) <;> simp

@[simp] theorem State.tx_dtt_plan (x0 x1 x2) : (State.tx x0 x1 x2).dtt.plan = x0.dtt.plan := by
  unfold State.tx; (repeat' split) <;> simp

@[simp] theorem State.ctrl_dtt_arrivals (x0 x1 x2) : (State.ctrl x0 x1 x2).dtt.arrivals = x0.dtt.arrivals := by
  unfold State.ctrl; (repeat' split) <;> simp

@[simp] theorem State.ctrl_dtt_bar (x0 x1 x2) : (State.ctrl x0 x1 x2).dtt.bar = x0.dtt.bar := by
  unfold State.ctrl; (repeat' split) <;> simp

@[simp] theorem State.ctrl_dtt_firing (x0 x1 x2) : (State.ctrl x0 x1 x2).dtt.firing = x0.dtt.firing := by
  unfold State.ctrl; (repeat' split) <;> simp

@[simp] theorem State.ctrl_dtt_plan (x0 x1 x2) : (State.ctrl x0 x1 x2).dtt.plan = x0.dtt.plan := by
  unfold State.ctrl; (repeat' split) <;> simp

/-! ### An event leaves the queues' records -/

theorem State.emit_qmg (s : State) (o : Out) : (s.emit o).qmg = s.qmg := by
  unfold State.emit
  split <;> rfl

theorem State.raise_qs (s : State) (r : Nat) : (s.raise r).qmg.qs = s.qmg.qs := by
  unfold State.raise State.vectorDue State.vector State.setRing
  dsimp only
  (repeat' split) <;> simp [State.emit_qmg]

@[simp] theorem State.postTo_qs (s : State) (r : Nat) (e : Ev) (irq : Bool) : (s.postTo r e irq).qmg.qs = s.qmg.qs := by
  have hput : ∀ (u : State) (f t i), (u.putRecord r f t i).qmg.qs = u.qmg.qs := fun u f t i => by
    unfold State.putRecord
    dsimp only
    (repeat' split) <;> simp [State.raise_qs, State.setF, State.wr, State.emit_qmg]
  have hlost : ∀ u : State, (u.noteLost r).qmg.qs = u.qmg.qs := fun u => by
    unfold State.noteLost
    split
    · rfl
    · exact hput _ _ _ _
  unfold State.postTo
  dsimp only
  (repeat' split) <;> simp [hput, hlost, State.dropEvent, State.setRing, State.incF, State.setF, State.wr]

@[simp] theorem State.post_qs (s : State) (e : Ev) : (s.post e).qmg.qs = s.qmg.qs := s.postTo_qs 0 e false

/-! ### Barriers (R292 to R297) -/

theorem fget_mask_seq (v : R32) : fget F.DTT_BAR_CTL_SEQ (v &&& 0x3FFFFF7F) = fget F.DTT_BAR_CTL_SEQ v := by
  refine BitVec.eq_of_getLsbD_eq fun i hi => ?_
  simp only [fget, F.DTT_BAR_CTL_SEQ]
  simp
  interval_cases i <;> simp

theorem fget_mask_member (v : R32) : fget F.DTT_BAR_CTL_MEMBER (v &&& 0x3FFFFF7F) = fget F.DTT_BAR_CTL_MEMBER v := by
  refine BitVec.eq_of_getLsbD_eq fun i hi => ?_
  interval_cases i
  simp [fget, F.DTT_BAR_CTL_MEMBER]

/-- The node with a barrier written: its control taken, and the barrier armed (R292). -/
def State.barTaken (s : State) (v : R32) : State :=
  let s := s.wr Reg.DTT_BAR_CTL (v &&& 0x3FFFFF7F)
  { s with dtt := { s.dtt with bar := some (s.f F.DTT_BAR_CTL_SEQ, s.on F.DTT_BAR_CTL_MEMBER) } }

theorem State.barTaken_spec {s : State} (v : R32) (h : swf regReset s.regs = true) :
    (s.barTaken v).dtt = { s.dtt with bar := some (fget F.DTT_BAR_CTL_SEQ v, fget F.DTT_BAR_CTL_MEMBER v == 1) } ∧
      (s.barTaken v).on F.DTT_BAR_CTL_MEMBER = (fget F.DTT_BAR_CTL_MEMBER v == 1) ∧ swf regReset (s.barTaken v).regs = true ∧
      (∀ r, r ≠ Reg.DTT_BAR_CTL → (s.barTaken v).rd r = s.rd r) := by
  have hrd := s.rd_wr_same Reg.DTT_BAR_CTL (v &&& 0x3FFFFF7F) h
  have hseq : (s.wr Reg.DTT_BAR_CTL (v &&& 0x3FFFFF7F)).f F.DTT_BAR_CTL_SEQ = fget F.DTT_BAR_CTL_SEQ v :=
    (congrArg (fget F.DTT_BAR_CTL_SEQ) hrd).trans (fget_mask_seq v)
  have hmem : (s.wr Reg.DTT_BAR_CTL (v &&& 0x3FFFFF7F)).on F.DTT_BAR_CTL_MEMBER = (fget F.DTT_BAR_CTL_MEMBER v == 1) :=
    congrArg (· == 1) ((congrArg (fget F.DTT_BAR_CTL_MEMBER) hrd).trans (fget_mask_member v))
  refine ⟨?_, hmem, s.regs_wr _ _ h, fun r hr => s.rd_wr_other _ r _ hr⟩
  rw [← hseq, ← hmem]
  rfl

theorem State.barArm_eq {s : State} (v : R32) (h : s.dtt.bar = none) :
    s.barArm v = if (s.barTaken v).on F.DTT_BAR_CTL_MEMBER then ((s.barTaken v).setF F.DTT_BAR_STAT_STATE 2).arriveHere ((s.wr Reg.DTT_BAR_CTL (v &&& 0x3FFFFF7F)).f F.DTT_BAR_CTL_SEQ) 1
      else ((s.barTaken v).setF F.DTT_BAR_STAT_STATE 1).checkRelease := by
  unfold State.barArm
  rw [h]
  rfl

theorem State.sync_of_rd {s t : State} (h : t.rd Reg.DTT_SYNC_STAT = s.rd Reg.DTT_SYNC_STAT) : t.sync = s.sync :=
  State.f_of_rd F.DTT_SYNC_STAT_STATE h

theorem State.checkRelease_other {s : State} (h : s.sync ≠ syRoot) : s.checkRelease = s := by
  unfold State.checkRelease
  split
  · rfl
  · exact if_pos (Or.inl h)

section
variable {s : State} (q : BitVec 8) (n : BitVec 7)

theorem State.arriveHere_kept (h : s.sync ≠ syRoot) (hp : s.f F.DTT_SYNC_STAT_PARENT = 7) :
    s.arriveHere q n = { s with dtt := { s.dtt with arrHold := s.dtt.arrHold ++ [(q, n)] } } := by
  unfold State.arriveHere
  rw [if_neg h, if_pos hp]

theorem State.arriveHere_sent (h : s.sync ≠ syRoot) (hp : s.f F.DTT_SYNC_STAT_PARENT ≠ 7) :
    s.arriveHere q n = s.ctrl (s.f F.DTT_SYNC_STAT_PARENT).toNat (.arrive q n) := by
  unfold State.arriveHere
  rw [if_neg h, if_neg hp]

/-- The arrivals counted for barrier `q` (R293). -/
def State.counted (s : State) (q : BitVec 8) (n : BitVec 7) : State :=
  { s with dtt := { s.dtt with arrivals := sset noArr s.dtt.arrivals q.toNat (sget noArr s.dtt.arrivals q.toNat + n.toNat) } }

theorem State.arriveHere_root (h : s.sync = syRoot) : s.arriveHere q n = (s.counted q n).checkRelease := if_pos h

theorem State.counted_count (h : swf noArr s.dtt.arrivals = true) :
    sget noArr (s.counted q n).dtt.arrivals q.toNat = sget noArr s.dtt.arrivals q.toNat + n.toNat := sget_sset_same _ _ _ _ h

end

theorem State.sendRelease_rest (s : State) (q : BitVec 8) (ld : Option R64) (r : Int) (l : List Nat) :
    (s.sendRelease q ld r l).dtt.firing = s.dtt.firing ∧ (s.sendRelease q ld r l).dtt.arrivals = s.dtt.arrivals ∧
      (s.sendRelease q ld r l).dtt.bar = s.dtt.bar ∧ (s.sendRelease q ld r l).dtt.plan = s.dtt.plan ∧ (s.sendRelease q ld r l).clk = s.clk ∧
      (s.sendRelease q ld r l).mems = s.mems := by
  induction l generalizing s with
  | nil => exact ⟨rfl, rfl, rfl, rfl, rfl, rfl⟩
  | cons p l ih => simp [State.sendRelease, ih]

theorem State.checkRelease_low {s : State} {q : BitVec 8} {m : Bool} (hb : s.dtt.bar = some (q, m))
    (h : sget noArr s.dtt.arrivals q.toNat < (s.f F.DTT_BAR_CTL_EXPECT).toNat) : s.checkRelease = s := by
  unfold State.checkRelease
  rw [hb]
  exact if_pos (Or.inr (Or.inr h))

theorem State.checkRelease_full {s : State} {q : BitVec 8} {m : Bool} (hb : s.dtt.bar = some (q, m)) (hs : s.sync = syRoot) (hf : s.dtt.firing = none)
    (h : (s.f F.DTT_BAR_CTL_EXPECT).toNat ≤ sget noArr s.dtt.arrivals q.toNat) (hw : swf noArr s.dtt.arrivals = true) :
    s.checkRelease.dtt.firing = some ⟨q, s.units + 256 * max 1 (s.f F.DTT_BAR_CTL_FIRE).toNat,
      (if s.on F.DTT_BAR_CTL_LOAD then some s.barLoad else none), false⟩ ∧ sget noArr s.checkRelease.dtt.arrivals q.toNat = 0 ∧ s.checkRelease.clk = s.clk := by
  unfold State.checkRelease
  rw [hb]
  dsimp only
  rw [if_neg (by simp [hs, hf]; exact h)]
  obtain ⟨h1, h2, -, -, h5, -⟩ := State.sendRelease_rest { s with dtt := { s.dtt with
    firing := some ⟨q, s.units + 256 * max 1 (s.f F.DTT_BAR_CTL_FIRE).toNat, (if s.on F.DTT_BAR_CTL_LOAD then some s.barLoad else none), false⟩
    arrivals := sset noArr s.dtt.arrivals q.toNat 0 } } q (if s.on F.DTT_BAR_CTL_LOAD then some s.barLoad else none)
    ((256 * max 1 (s.f F.DTT_BAR_CTL_FIRE).toNat : Nat) : Int) (State.children { s with dtt := { s.dtt with
      firing := some ⟨q, s.units + 256 * max 1 (s.f F.DTT_BAR_CTL_FIRE).toNat, (if s.on F.DTT_BAR_CTL_LOAD then some s.barLoad else none), false⟩
      arrivals := sset noArr s.dtt.arrivals q.toNat 0 } })
  exact ⟨h1, (congrArg (sget noArr · q.toNat) h2).trans (sget_sset_same _ _ _ _ hw), h5⟩

theorem State.pulse_rest (s : State) (f : Fld 1) : (s.pulse f).dtt = s.dtt ∧ (s.pulse f).regs = s.regs ∧ (s.pulse f).clk = s.clk ∧ (s.pulse f).qmg = s.qmg := by
  unfold State.pulse State.emit
  (repeat' split) <;> exact ⟨rfl, rfl, rfl, rfl⟩

/-- A barrier of this node fires (R296). -/
theorem State.fireBar_member {s : State} {f : Firing} (hl : f.load = none) (hb : s.dtt.bar = some (f.seq, true)) (hr : swf regReset s.regs = true) :
    (s.fireBar f).dtt.firing = none ∧ (s.fireBar f).dtt.bar = none ∧ (s.fireBar f).f F.DTT_BAR_STAT_LAST_SEQ = f.seq ∧
      (s.fireBar f).f F.DTT_BAR_STAT_FIRED = s.f F.DTT_BAR_STAT_FIRED + 1 ∧ (s.fireBar f).f F.DTT_BAR_STAT_STATE = 0 ∧ (s.fireBar f).clk = s.clk := by
  obtain ⟨hd, hregs, hc, -⟩ := State.pulse_rest { s with dtt := { s.dtt with firing := none } } F.DTT_CTL_DTSYNC_OUT
  unfold State.fireBar
  dsimp only
  rw [hl]
  dsimp only
  generalize State.pulse { s with dtt := { s.dtt with firing := none } } F.DTT_CTL_DTSYNC_OUT = u at hd hregs hc ⊢
  rw [show u.dtt.bar = some (f.seq, true) from (congrArg Dtt.bar hd).trans hb]
  dsimp only
  rw [if_neg (by simp), if_neg (by simp)]
  have h0 : swf regReset u.regs = true := hregs ▸ hr
  let v : State := { u with dtt := { u.dtt with bar := none } }
  have h1 : swf regReset (v.setF F.DTT_BAR_STAT_STATE 0).regs = true := v.regs_setF _ _ h0
  have h2 := (v.setF F.DTT_BAR_STAT_STATE 0).regs_setF F.DTT_BAR_STAT_LAST_SEQ f.seq h1
  refine ⟨by simp [State.barDisarm, State.incF, hd], by simp [State.barDisarm, State.incF], ?_, ?_, ?_, by simp [State.barDisarm, State.incF, hc]⟩
  · rw [State.f_post _ _ _ (by decide)]
    exact (State.f_setF_other _ _ _ _ h2 (by decide)).trans (State.f_setF_same _ _ _ (by decide) h1)
  · rw [State.f_post _ _ _ (by decide)]
    refine (State.f_setF_same _ _ _ (by decide) h2).trans (congrArg (· + 1) ?_)
    exact ((v.setF F.DTT_BAR_STAT_STATE 0).f_setF_other F.DTT_BAR_STAT_LAST_SEQ F.DTT_BAR_STAT_FIRED f.seq h1 (by decide)).trans
      ((v.f_setF_other F.DTT_BAR_STAT_STATE F.DTT_BAR_STAT_FIRED 0 h0 (by decide)).trans (State.f_of_regs hregs F.DTT_BAR_STAT_FIRED))
  · rw [State.f_post _ _ _ (by decide)]
    exact (State.f_setF_other _ _ _ _ h2 (by decide)).trans ((State.f_setF_other _ _ _ _ h1 (by decide)).trans (v.f_setF_same _ _ (by decide) h0))

theorem State.fireBar_qs {s : State} {f : Firing} (hl : f.load = none) (hb : s.dtt.bar = some (f.seq, true)) : (s.fireBar f).qmg.qs = s.qmg.qs := by
  obtain ⟨hd, -, -, hq⟩ := State.pulse_rest { s with dtt := { s.dtt with firing := none } } F.DTT_CTL_DTSYNC_OUT
  unfold State.fireBar
  dsimp only
  rw [hl]
  dsimp only
  generalize State.pulse { s with dtt := { s.dtt with firing := none } } F.DTT_CTL_DTSYNC_OUT = u at hd hq ⊢
  rw [show u.dtt.bar = some (f.seq, true) from (congrArg Dtt.bar hd).trans hb]
  dsimp only
  rw [if_neg (by simp), if_neg (by simp), State.post_qs]
  exact congrArg Qmg.qs hq

theorem State.loadTime_spec {s : State} (v : R64) (h : swf regReset s.regs = true) :
    (s.loadTime v).clk.now = v ∧ (s.loadTime v).clk.phase = 0 ∧ (s.loadTime v).fixed = true ∧ (s.loadTime v).f F.DTT_DIL_K = 16 := by
  unfold State.loadTime
  dsimp only
  generalize hu : ({ s with
    clk := { s.clk with now := v, phase := 0, slot := BitVec.ofNat 64 (v.toNat / 16), gridTick := BitVec.ofNat 64 (v.toNat / 16 * 16), gridSlot := BitVec.ofNat 64 (v.toNat / 16) }
    dtt := { s.dtt with plan := plan0, olds := [] } } : State) = u
  have h0 : swf regReset u.regs = true := hu ▸ h
  have h1 := u.regs_setF F.DTT_DIL_K 16 h0
  have h2 := (u.setF F.DTT_DIL_K 16).regs_setF F.DTT_DIL_K_TO 16 h1
  refine ⟨by simp [← hu], by simp [← hu], ?_, ?_⟩
  · exact beq_iff_eq.2 (State.f_setF_same _ _ _ (by decide) h2)
  · exact (State.f_setF_reg _ _ _ _ (by decide)).trans ((State.f_setF_other _ _ _ _ h1 (by decide)).trans (u.f_setF_same _ _ (by decide) h0))

/-- A load sets a node whose time is not fixed (R294). -/
theorem State.fireBar_load {s : State} {f : Firing} {v : R64} (hl : f.load = some v) (hx : s.fixed = false) (hb : s.dtt.bar = none) :
    s.fireBar f = (State.pulse { s with dtt := { s.dtt with firing := none } } F.DTT_CTL_DTSYNC_OUT).loadTime v := by
  obtain ⟨hd, -, -, -⟩ := State.pulse_rest { s with dtt := { s.dtt with firing := none } } F.DTT_CTL_DTSYNC_OUT
  unfold State.fireBar
  dsimp only
  rw [hl, hx]
  simp only [Option.isSome_some, Bool.not_false, Bool.and_self, if_true]
  generalize State.pulse { s with dtt := { s.dtt with firing := none } } F.DTT_CTL_DTSYNC_OUT = u at hd ⊢
  rw [show (u.loadTime v).dtt.bar = none from (congrArg Dtt.bar hd).trans hb]

theorem State.barrierFire_due {s : State} {f : Firing} (hf : s.dtt.firing = some f) (hn : f.units ≤ s.units) :
    s.barrierFire = if s.dtt.bar = some (f.seq, true) then ((s.fireBar f).qmg.qs.map (·.1)).foldl (fun s q => s.startHead q true []) (s.fireBar f)
      else s.fireBar f := by
  unfold State.barrierFire
  rw [hf]
  dsimp only
  rw [if_neg (Nat.not_lt_of_le hn)]
  by_cases h : s.dtt.bar = some (f.seq, true)
  · rw [if_pos h, if_pos (by simp [h])]
  · rw [if_neg h, if_neg (by simp [h])]

theorem State.barrierFire_early {s : State} {f : Firing} (hf : s.dtt.firing = some f) (hn : s.units < f.units) : s.barrierFire = s := by
  unfold State.barrierFire
  rw [hf]
  exact if_pos hn

theorem State.dtSyncEdge_arms {s : State} {q : BitVec 8} {m : Bool} (hb : s.dtt.bar = some (q, m)) (he : s.on F.DTT_CTL_EXT_BAR = true)
    (ho : s.on F.DTT_CTL_DTSYNC_OUT = false) (hs : s.on F.DTT_CTL_DTSYNC_SWAP = false) :
    s.dtSyncEdge = { s with dtt := { s.dtt with firing := some ⟨q, s.units + 256, none, false⟩ } } := by
  unfold State.dtSyncEdge
  rw [hb]
  exact if_pos (by simp [he, ho, hs])

theorem State.dtSyncEdge_not {s : State}
    (h : s.dtt.bar = none ∨ s.on F.DTT_CTL_EXT_BAR = false ∨ s.on F.DTT_CTL_DTSYNC_OUT = true ∨ s.on F.DTT_CTL_DTSYNC_SWAP = true) : s.dtSyncEdge = s := by
  unfold State.dtSyncEdge
  split
  case h_1 hb =>
    refine if_neg fun hc => ?_
    obtain ⟨h1, h2, h3⟩ := hc
    simp [hb, h1, (by simpa using h2 : s.on F.DTT_CTL_DTSYNC_OUT = false), (by simpa using h3 : s.on F.DTT_CTL_DTSYNC_SWAP = false)] at h
  case h_2 => rfl

/-- Settles O22. -/
theorem barriers : Obligations.Barriers := by
  refine ⟨⟨fun s v hw hb hm hs hp hr => goes_wr (f := (State.barArm · v)) rfl hw ?_, fun s v hw hb hm hs hr => goes_wr (f := (State.barArm · v)) rfl hw ?_,
    fun s v hb => exec_same_wr (f := (State.barArm · v)) rfl (if_pos hb), fun s hw => exec_wr (f := State.barDisarm) rfl hw rfl,
    fun s p q n hu hs hp => exec_up (f := (State.arriveHere · q n)) rfl hu (State.arriveHere_sent q n hs hp),
    fun s p q n hu hs hp => exec_up (f := (State.arriveHere · q n)) rfl hu (State.arriveHere_kept q n hs hp),
    fun s p q n m hu hs hb hl hw => exec_up (f := (State.arriveHere · q n)) rfl hu ?_,
    fun s p q n m hu hs hb hf hl hw => goes_up (f := (State.arriveHere · q n)) rfl hu ?_⟩,
    fun s p q ld r v hu => goes_up (f := (State.releaseHere · q (if ld then some v else none) r)) rfl hu ?_,
    fun s f hu hf hn hl hb hq hr => goes_up (f := State.barrierFire) rfl hu ?_,
    fun s f v hu hf hn hl hx hb hr => goes_up (f := State.barrierFire) rfl hu ?_,
    fun s f hf hn => exec_same_up (f := State.barrierFire) rfl (State.barrierFire_early hf hn),
    fun s hf => exec_same_up (f := State.barrierFire) rfl (by unfold State.barrierFire; rw [hf]),
    fun s q m hu hb he ho hx => exec_up (f := State.dtSyncEdge) rfl hu (State.dtSyncEdge_arms hb he ho hx),
    fun s h => exec_same_up (f := State.dtSyncEdge) rfl (State.dtSyncEdge_not h)⟩
  · obtain ⟨hd, ho, hc, hrd⟩ := State.barTaken_spec v hr
    have hs' : ((s.barTaken v).setF F.DTT_BAR_STAT_STATE 2).sync ≠ syRoot := by
      rw [State.sync_of_rd (s := s) ((State.rd_setF_other _ _ _ _ (by decide)).trans (hrd _ (by decide)))]
      exact hs
    have hp' : ((s.barTaken v).setF F.DTT_BAR_STAT_STATE 2).f F.DTT_SYNC_STAT_PARENT = 7 :=
      (State.f_of_rd F.DTT_SYNC_STAT_PARENT ((State.rd_setF_other _ _ _ _ (by decide)).trans (hrd _ (by decide)))).trans hp
    have hseq : (s.wr Reg.DTT_BAR_CTL (v &&& 0x3FFFFF7F)).f F.DTT_BAR_CTL_SEQ = fget F.DTT_BAR_CTL_SEQ v :=
      (congrArg (fget F.DTT_BAR_CTL_SEQ) (s.rd_wr_same _ _ hr)).trans (fget_mask_seq v)
    rw [State.barArm_eq v hb, if_pos (by rw [ho, hm]; rfl), State.arriveHere_kept _ _ hs' hp', hseq]
    refine ⟨?_, State.f_setF_same (s.barTaken v) F.DTT_BAR_STAT_STATE 2 (by decide) hc, ?_, rfl, rfl⟩
    · exact (congrArg Dtt.bar hd).trans (by rw [hm]; rfl)
    · have ha : (s.barTaken v).dtt.arrHold = s.dtt.arrHold := by rw [hd]
      show (s.barTaken v).dtt.arrHold ++ _ = _
      rw [ha]
  · obtain ⟨hd, ho, hc, hrd⟩ := State.barTaken_spec v hr
    have hs' : ((s.barTaken v).setF F.DTT_BAR_STAT_STATE 1).sync ≠ syRoot := by
      rw [State.sync_of_rd (s := s) ((State.rd_setF_other _ _ _ _ (by decide)).trans (hrd _ (by decide)))]
      exact hs
    rw [State.barArm_eq v hb, if_neg (by rw [ho, hm]; decide), State.checkRelease_other hs']
    exact ⟨hd.trans (by rw [hm]; rfl), State.f_setF_same _ _ _ (by decide) hc, rfl, rfl⟩
  · rw [State.arriveHere_root q n hs]
    exact State.checkRelease_low (s := s.counted q n) hb (by rw [State.counted_count q n hw]; exact hl)
  · rw [State.arriveHere_root q n hs]
    exact State.checkRelease_full (s := s.counted q n) hb hs hf (by rw [State.counted_count q n hw]; exact hl) (swf_sset _ _ _ _ hw)
  · obtain ⟨h1, -, h3, h4, h5, h6⟩ := State.sendRelease_rest { s with dtt := { s.dtt with
      firing := some ⟨q, s.units + r.toInt.toNat, (if ld then some v else none), decide (r.toInt < 0)⟩ } } q (if ld then some v else none) r.toInt s.children
    exact ⟨h1, h3, h4, h5, h6⟩
  · rw [State.barrierFire_due hf hn, if_pos hb]
    obtain ⟨h1, h2, h3, h4, h5, h6⟩ := State.fireBar_member hl hb hr
    have hqs : (s.fireBar f).qmg.qs = [] := (State.fireBar_qs hl hb).trans hq
    rw [hqs]
    exact ⟨h1, h2, h3, h4, h5, h6⟩
  · rw [State.barrierFire_due hf hn, if_neg (by simp [hb]), State.fireBar_load hl hx hb]
    obtain ⟨hd, hregs, hc, -⟩ := State.pulse_rest { s with dtt := { s.dtt with firing := none } } F.DTT_CTL_DTSYNC_OUT
    obtain ⟨h1, h2, h3, h4⟩ := State.loadTime_spec v (s := State.pulse { s with dtt := { s.dtt with firing := none } } F.DTT_CTL_DTSYNC_OUT) (by rw [hregs]; exact hr)
    exact ⟨h1, h2, h3, h4, congrArg Dtt.firing hd⟩

/-! ### Power envelopes and dilation (R329 to R334) -/

theorem State.takePlan_spec (s : State) (p : Plan) :
    (s.takePlan p).dtt = { s.dtt with
      olds := (s.dtt.olds ++ [s.dtt.plan]).filter (fun q => decide (q.e.toNat < p.e.toNat) && decide (q.done < q.delta)), plan := p } ∧
      (swf regReset s.regs = true → swf regReset (s.takePlan p).regs = true) := by
  refine ⟨rfl, fun h => ?_⟩
  unfold State.takePlan
  exact State.regs_setF _ _ _ (State.regs_setF _ _ _ (State.regs_setF _ _ _ (State.regs_setF _ _ _ (State.regs_setF _ _ _ h))))

theorem State.issuePlan_spec (s : State) (e : R64) (ramp : BitVec 16) (thermal floor : Bool) :
    (s.issuePlan e ramp thermal floor).dtt.kEnv = s.dtt.kEnv ∧ (s.issuePlan e ramp thermal floor).dtt.kTherm = s.dtt.kTherm ∧
      (s.issuePlan e ramp thermal floor).dtt.thermAt = s.dtt.thermAt ∧ (s.issuePlan e ramp thermal floor).dtt.plan.e = e ∧
      (s.issuePlan e ramp thermal floor).dtt.plan.ramp = ramp ∧ (s.issuePlan e ramp thermal floor).dtt.plan.seq = s.dtt.plan.seq + 1 ∧
      (s.issuePlan e ramp thermal floor).dtt.plan.kTo = (if s.dtt.kEnv.toNat < s.dtt.kTherm.toNat then s.dtt.kTherm else s.dtt.kEnv) ∧
      (swf regReset s.regs = true → swf regReset (s.issuePlan e ramp thermal floor).regs = true) := by
  unfold State.issuePlan
  exact ⟨rfl, rfl, rfl, rfl, rfl, rfl, rfl, (s.takePlan_spec _).2⟩

section
variable {s : State} {target : R32} {tick : R64}

theorem State.envRoot_range {k : BitVec 6} (h : k.toNat < 16 ∨ 32 < k.toNat) : s.envRoot target tick (some k) = (4, s.post (ev 0x48 stOk 4 0)) := by
  unfold State.envRoot
  exact if_pos (decide_eq_true h)

theorem State.envRoot_early {f : Option (BitVec 6)} (h : ∀ k, f = some k → 16 ≤ k.toNat ∧ k.toNat ≤ 32) (ht : tick.toNat < s.now.toNat + 16000) :
    s.envRoot target tick f = (1, s.post (ev 0x48 stOk 1 0)) := by
  unfold State.envRoot
  cases f with
  | none => exact if_pos ht
  | some k =>
    obtain ⟨h1, h2⟩ := h k rfl
    dsimp only
    rw [if_neg (by simp; omega), if_pos ht]
    rfl

theorem State.envRoot_force {k : BitVec 6} (h1 : 16 ≤ k.toNat) (h2 : k.toNat ≤ 32) (ht : s.now.toNat + 16000 ≤ tick.toNat) :
    s.envRoot target tick (some k) =
      (0, State.issuePlan { s with dtt := { s.dtt with kEnv := k } } tick (fget F.DTT_ENV_TARGET_RAMP target) false false) := by
  unfold State.envRoot
  dsimp only
  rw [if_neg (by simp; omega), if_neg (by omega), if_neg (by simp)]
  rfl

/-- The first factor of the dilation table that meets the target (R329). -/
def State.meets (s : State) (target : R32) : Option Nat :=
  ((List.range 17).map (16 + ·)).find? (fun k => decide (s.dilTab k ≤ (fget F.DTT_ENV_TARGET_TARGET target).toNat))

theorem State.envRoot_apply (ht : s.now.toNat + 16000 ≤ tick.toNat) (hf : s.tabFalls = true) :
    s.envRoot target tick none = (0, State.issuePlan { s with dtt := { s.dtt with kEnv := BitVec.ofNat 6 ((s.meets target).getD 32) } } tick
      (fget F.DTT_ENV_TARGET_RAMP target) false (decide (true ∧ (s.meets target).isNone))) := by
  unfold State.envRoot
  dsimp only
  rw [if_neg (by simp), if_neg (by omega), if_neg (by simp [hf])]
  rfl

end

section
variable {s : State} {f : Option (BitVec 6)}

theorem State.envCmd_untimed (h : s.inTime = false) : s.envCmd f = s.setF F.DTT_ENV_STAT_ERR 3 := by
  unfold State.envCmd
  rw [h]
  rfl

theorem State.inTime_root (h : s.sync = syRoot) : s.inTime = true := by simp [State.inTime, h]

theorem State.envCmd_root (h : s.sync = syRoot) :
    s.envCmd f = (s.envRoot (s.rd Reg.DTT_ENV_TARGET) s.envTick f).2.setF F.DTT_ENV_STAT_ERR (s.envRoot (s.rd Reg.DTT_ENV_TARGET) s.envTick f).1 := by
  unfold State.envCmd
  dsimp only
  rw [if_neg (by simp [State.inTime_root h]), if_pos h]

theorem State.envCmd_range {k : BitVec 6} (ht : s.inTime = true) (h : s.sync ≠ syRoot) (hk : k.toNat < 16 ∨ 32 < k.toNat) :
    s.envCmd (some k) = s.setF F.DTT_ENV_STAT_ERR 4 := by
  unfold State.envCmd
  dsimp only
  rw [if_neg (by simp [ht]), if_neg h]
  exact if_pos (decide_eq_true hk)

theorem State.envCmd_sent (ht : s.inTime = true) (h : s.sync ≠ syRoot) (hk : ∀ k, f = some k → 16 ≤ k.toNat ∧ k.toNat ≤ 32) :
    s.envCmd f = (s.setF F.DTT_ENV_STAT_ERR 0).emit (.envelope s.node (s.rd Reg.DTT_ENV_TARGET) s.envTick f) := by
  unfold State.envCmd
  dsimp only
  rw [if_neg (by simp [ht]), if_neg h]
  cases f with
  | none => rfl
  | some k =>
    obtain ⟨h1, h2⟩ := hk k rfl
    exact if_neg (by simp; omega)

end

/-- Both commands that software writes for an envelope (R329, R330). -/
theorem exec_envCmd {s t : State} {k : BitVec 6} {c : Instr} (hw : s.takes = true) (hc : c ∈ [.apply, .forceK (.written k)])
    (h : ∀ f : Option (BitVec 6), (f = none ∨ f = some k) → s.envCmd f = t) : exec c s = .next t := by
  simp only [List.mem_cons, List.not_mem_nil, or_false] at hc
  rcases hc with rfl | rfl
  · exact exec_wr (f := (State.envCmd · none)) rfl hw (h none (Or.inl rfl))
  · exact exec_wr (f := (State.envCmd · (some k))) rfl hw (h (some k) (Or.inr rfl))

theorem State.stepPlan_spec {s : State} (p : Plan) (h : swf regReset s.regs = true) :
    swf regReset (s.stepPlan p).regs = true ∧ (s.stepPlan p).f F.DTT_DIL_K = BitVec.ofNat 6 (p.stepK s.k) ∧ (s.stepPlan p).dtt = s.dtt ∧
      (s.stepPlan p).clk = { s.clk with gridTick := BitVec.ofNat 64 s.boundary, gridSlot := s.clk.slot } := by
  unfold State.stepPlan
  dsimp only
  let u : State := { s with clk := { s.clk with gridTick := BitVec.ofNat 64 s.boundary, gridSlot := s.clk.slot } }
  have h1 : swf regReset (u.setF F.DTT_DIL_K (BitVec.ofNat 6 (p.stepK s.k))).regs = true := u.regs_setF _ _ h
  have h2 := (State.post_regsBut (u.setF F.DTT_DIL_K (BitVec.ofNat 6 (p.stepK s.k))) (evEnvStep p (p.stepK s.k) s.boundary)).canonical h1
  have hk : ((u.setF F.DTT_DIL_K (BitVec.ofNat 6 (p.stepK s.k))).post (evEnvStep p (p.stepK s.k) s.boundary)).f F.DTT_DIL_K = BitVec.ofNat 6 (p.stepK s.k) :=
    (State.f_post _ _ _ (by decide)).trans (u.f_setF_same _ _ (by decide) h)
  split
  · refine ⟨State.regs_post _ _ (State.regs_setF _ _ _ h2), ?_, by simp, by simp⟩
    exact (State.f_post _ _ _ (by decide)).trans ((State.f_setF_reg _ _ _ _ (by decide)).trans hk)
  · exact ⟨h2, hk, by simp, by simp⟩

theorem State.dilationStep_due {s : State} (he : s.dtt.plan.e.toNat ≤ s.boundary) (hd : s.stepDue s.dtt.plan = true) :
    s.dilationStep = (State.stepPlan { s with dtt := { s.dtt with olds := [], plan := { s.dtt.plan with done := s.dtt.plan.done + 1 } } } s.dtt.plan).setF
      F.DTT_ENV_STAT_BUSY (bit1 (s.dtt.plan.done + 1 ≠ s.dtt.plan.delta)) := by
  unfold State.dilationStep
  dsimp only
  rw [if_pos he]
  exact if_pos hd

theorem State.thermDecay_due {s : State} (hs : s.sync = syRoot) (hg : s.greatestTherm.toNat < s.dtt.kTherm.toNat)
    (ht : 250000 ≤ s.now.toNat - s.dtt.thermAt.toNat) :
    s.thermDecay.dtt.kTherm = s.dtt.kTherm - 1 ∧ s.thermDecay.dtt.thermAt = s.now := by
  unfold State.thermDecay
  dsimp only
  rw [if_pos ⟨hs, hg, ht⟩]
  by_cases hn : (if s.dtt.kEnv.toNat < (s.dtt.kTherm - 1).toNat then s.dtt.kTherm - 1 else s.dtt.kEnv) = s.dtt.plan.kTo
  · rw [if_pos hn]
    exact ⟨rfl, rfl⟩
  · rw [if_neg hn]
    obtain ⟨-, h2, h3, -⟩ := State.issuePlan_spec { s with dtt := { s.dtt with kTherm := s.dtt.kTherm - 1, thermAt := s.now } } (s.now + 16000) 0 true false
    exact ⟨h2, h3⟩

theorem State.thermDecay_not {s : State} (h : s.sync ≠ syRoot ∨ s.now.toNat - s.dtt.thermAt.toNat < 250000) : s.thermDecay = s := by
  unfold State.thermDecay
  refine if_neg ?_
  rintro ⟨h1, -, h3⟩
  rcases h with h | h
  · exact h h1
  · omega

theorem State.envForward_eq (s : State) (f : Option (BitVec 6)) (n : NodeId) (target : R32) (tick : R64) :
    s.envForward f n target tick = if s.sync = syRoot then (s.envRoot target tick f).2.emit (.envResult n (s.envRoot target tick f).1)
      else if s.f F.DTT_SYNC_STAT_PARENT = 7 then s.emit (.envResult n 3) else s.emit (.envelope n target tick f) := rfl

/-- Settles O23. -/
theorem powerPlans : Obligations.PowerPlans := by
  refine ⟨fun s k c hw ht hc => exec_envCmd hw hc fun f _ => State.envCmd_untimed ht,
    fun s hw ht hs => exec_wr (f := (State.envCmd · none)) rfl hw (State.envCmd_sent ht hs fun k h => nomatch h),
    fun s k hw ht hs => ⟨fun h1 h2 => exec_wr (f := (State.envCmd · (some k))) rfl hw (State.envCmd_sent ht hs fun j h => Option.some.inj h ▸ ⟨h1, h2⟩),
      fun h => exec_wr (f := (State.envCmd · (some k))) rfl hw (State.envCmd_range ht hs h)⟩,
    fun s k hw hs h => exec_wr (f := (State.envCmd · (some k))) rfl hw ?_,
    fun s k c hw hs h1 h2 ht hc => exec_envCmd hw hc fun f hf => ?_,
    fun s k hw hs h1 h2 ht hr => goes_wr (f := (State.envCmd · (some k))) rfl hw ?_,
    fun s hw hs ht hf hr => goes_wr (f := (State.envCmd · none)) rfl hw ?_,
    fun s e hu => exec_up (f := (State.setF · F.DTT_ENV_STAT_ERR e)) rfl hu rfl,
    fun s f n target tick hu => ⟨fun hs => exec_up (f := (State.envForward · f n target tick)) rfl hu ?_,
      fun hs hp => exec_up (f := (State.envForward · f n target tick)) rfl hu ?_, fun hs hp => exec_up (f := (State.envForward · f n target tick)) rfl hu ?_⟩,
    fun s hu he hd hr => goes_up (f := State.dilationStep) rfl hu ?_,
    fun s hu he hd => exec_up (f := State.dilationStep) rfl hu ?_, fun s he ho => exec_same_up (f := State.dilationStep) rfl ?_,
    fun s hu hs hg ht => goes_up (f := State.thermDecay) rfl hu ?_, fun s h => exec_same_up (f := State.thermDecay) rfl (State.thermDecay_not h)⟩
  · rw [State.envCmd_root hs, State.envRoot_range h]
  · rw [State.envCmd_root hs, State.envRoot_early (fun j hj => ?_) ht]
    rcases hf with rfl | rfl
    · exact nomatch hj
    · exact Option.some.inj hj ▸ ⟨h1, h2⟩
  · obtain ⟨k1, -, -, k4, -, k6, k7, k8⟩ := State.issuePlan_spec { s with dtt := { s.dtt with kEnv := k } } s.envTick
      (fget F.DTT_ENV_TARGET_RAMP (s.rd Reg.DTT_ENV_TARGET)) false false
    rw [State.envCmd_root hs, State.envRoot_force h1 h2 ht]
    exact ⟨k1, k4, k6, k7, State.f_setF_same _ _ _ (by decide) (k8 hr), by simp, by simp⟩
  · obtain ⟨k1, -, -, k4, k5, -, -, k8⟩ := State.issuePlan_spec
      { s with dtt := { s.dtt with kEnv := BitVec.ofNat 6 ((s.meets (s.rd Reg.DTT_ENV_TARGET)).getD 32) } } s.envTick
      (fget F.DTT_ENV_TARGET_RAMP (s.rd Reg.DTT_ENV_TARGET)) false (decide (true ∧ (s.meets (s.rd Reg.DTT_ENV_TARGET)).isNone))
    rw [State.envCmd_root hs, State.envRoot_apply ht hf]
    exact ⟨k1, k4, k5, State.f_setF_same _ _ _ (by decide) (k8 hr), by simp⟩
  · rw [State.envForward_eq, if_pos hs]
  · rw [State.envForward_eq, if_neg hs, if_pos hp]
  · rw [State.envForward_eq, if_neg hs, if_neg hp]
  · obtain ⟨k1, k2, k3, k4⟩ := State.stepPlan_spec
      (s := { s with dtt := { s.dtt with olds := [], plan := { s.dtt.plan with done := s.dtt.plan.done + 1 } } }) s.dtt.plan hr
    rw [State.dilationStep_due he hd]
    refine ⟨(State.f_setF_reg _ _ _ _ (by decide)).trans k2, congrArg (fun d : Dtt => d.plan.done) k3, ?_, ?_, ?_⟩
    · exact (congrArg Clock.gridTick k4 :)
    · exact (congrArg Clock.gridSlot k4 :)
    · exact (congrArg Clock.now k4 :)
  · unfold State.dilationStep
    dsimp only
    rw [if_pos he]
    exact if_neg (fun h => Bool.false_ne_true (hd.symm.trans h))
  · unfold State.dilationStep
    rw [if_neg (by omega), ho]
    rfl
  · obtain ⟨h1, h2⟩ := State.thermDecay_due hs hg ht
    exact ⟨h1, h2, by simp⟩

@[simp] theorem upto_dtt_armed (f : Nat → State → State) (n : Nat) (s : State) (h : ∀ i s, (f i s).dtt.armed = s.dtt.armed) : (upto f n s).dtt.armed = s.dtt.armed :=
  upto_keep (fun s => s.dtt.armed) f n s h

@[simp] theorem foldl_dtt_armed {α : Type} (f : State → α → State) (l : List α) (s : State) (h : ∀ s a, (f s a).dtt.armed = s.dtt.armed) :
    (l.foldl f s).dtt.armed = s.dtt.armed := foldl_keep (fun s => s.dtt.armed) f l s h

@[simp] theorem foldl_io_dtt_armed {α : Type} (f : Io → α → Io) (l : List α) (s : Io) (h : ∀ s a, (f s a).s.dtt.armed = s.s.dtt.armed) : (l.foldl f s).s.dtt.armed = s.s.dtt.armed := by
  induction l generalizing s with
  | nil => rfl
  | cons a l ih => simp only [List.foldl_cons, ih, h]

@[simp] theorem upto_dtt_sSwap (f : Nat → State → State) (n : Nat) (s : State) (h : ∀ i s, (f i s).dtt.sSwap = s.dtt.sSwap) : (upto f n s).dtt.sSwap = s.dtt.sSwap :=
  upto_keep (fun s => s.dtt.sSwap) f n s h

@[simp] theorem foldl_dtt_sSwap {α : Type} (f : State → α → State) (l : List α) (s : State) (h : ∀ s a, (f s a).dtt.sSwap = s.dtt.sSwap) :
    (l.foldl f s).dtt.sSwap = s.dtt.sSwap := foldl_keep (fun s => s.dtt.sSwap) f l s h

@[simp] theorem foldl_io_dtt_sSwap {α : Type} (f : Io → α → Io) (l : List α) (s : Io) (h : ∀ s a, (f s a).s.dtt.sSwap = s.s.dtt.sSwap) : (l.foldl f s).s.dtt.sSwap = s.s.dtt.sSwap := by
  induction l generalizing s with
  | nil => rfl
  | cons a l ih => simp only [List.foldl_cons, ih, h]

@[simp] theorem State.wr_dtt_armed (x0 x1 x2) : (State.wr x0 x1 x2).dtt.armed = x0.dtt.armed := by
  simp [State.wr]

@[simp] theorem State.wr_dtt_sSwap (x0 x1 x2) : (State.wr x0 x1 x2).dtt.sSwap = x0.dtt.sSwap := by
  simp [State.wr]

@[simp] theorem State.setF_dtt_armed (x0 x1 x2 x3) : (@State.setF x0 x1 x2 x3).dtt.armed = x1.dtt.armed := by
  simp [State.setF]

@[simp] theorem State.setF_dtt_sSwap (x0 x1 x2 x3) : (@State.setF x0 x1 x2 x3).dtt.sSwap = x1.dtt.sSwap := by
  simp [State.setF]

@[simp] theorem State.incF_dtt_armed (x0 x1 x2 x3) : (@State.incF x0 x1 x2 x3).dtt.armed = x1.dtt.armed := by
  simp [State.incF]

@[simp] theorem State.incF_dtt_sSwap (x0 x1 x2 x3) : (@State.incF x0 x1 x2 x3).dtt.sSwap = x1.dtt.sSwap := by
  simp [State.incF]

@[simp] theorem State.emit_dtt_armed (x0 x1) : (State.emit x0 x1).dtt.armed = x0.dtt.armed := by
  unfold State.emit; (repeat' split) <;> simp

@[simp] theorem State.emit_dtt_sSwap (x0 x1) : (State.emit x0 x1).dtt.sSwap = x0.dtt.sSwap := by
  unfold State.emit; (repeat' split) <;> simp

@[simp] theorem State.drawWord_dtt_armed (x0) : (State.drawWord x0).2.dtt.armed = x0.dtt.armed := by
  simp [State.drawWord]

@[simp] theorem State.drawWord_dtt_sSwap (x0) : (State.drawWord x0).2.dtt.sSwap = x0.dtt.sSwap := by
  simp [State.drawWord]

@[simp] theorem State.drawWord_regs (x0) : (State.drawWord x0).2.regs = x0.regs := by
  simp [State.drawWord]

@[simp] theorem State.setRing_dtt_armed (x0 x1 x2) : (State.setRing x0 x1 x2).dtt.armed = x0.dtt.armed := by
  simp [State.setRing]

@[simp] theorem State.setRing_dtt_sSwap (x0 x1 x2) : (State.setRing x0 x1 x2).dtt.sSwap = x0.dtt.sSwap := by
  simp [State.setRing]

@[simp] theorem State.vector_dtt_armed (x0 x1) : (State.vector x0 x1).dtt.armed = x0.dtt.armed := by
  unfold State.vector; (repeat' split) <;> simp

@[simp] theorem State.vector_dtt_sSwap (x0 x1) : (State.vector x0 x1).dtt.sSwap = x0.dtt.sSwap := by
  unfold State.vector; (repeat' split) <;> simp

@[simp] theorem State.vectorDue_dtt_armed (x0 x1) : (State.vectorDue x0 x1).dtt.armed = x0.dtt.armed := by
  simp [State.vectorDue]

@[simp] theorem State.vectorDue_dtt_sSwap (x0 x1) : (State.vectorDue x0 x1).dtt.sSwap = x0.dtt.sSwap := by
  simp [State.vectorDue]

@[simp] theorem State.raise_dtt_armed (x0 x1) : (State.raise x0 x1).dtt.armed = x0.dtt.armed := by
  unfold State.raise; (repeat' split) <;> simp

@[simp] theorem State.raise_dtt_sSwap (x0 x1) : (State.raise x0 x1).dtt.sSwap = x0.dtt.sSwap := by
  unfold State.raise; (repeat' split) <;> simp

@[simp] theorem State.putRecord_dtt_armed (x0 x1 x2 x3 x4) : (State.putRecord x0 x1 x2 x3 x4).dtt.armed = x0.dtt.armed := by
  unfold State.putRecord; dsimp only; (repeat' split) <;> simp

@[simp] theorem State.putRecord_dtt_sSwap (x0 x1 x2 x3 x4) : (State.putRecord x0 x1 x2 x3 x4).dtt.sSwap = x0.dtt.sSwap := by
  unfold State.putRecord; dsimp only; (repeat' split) <;> simp

@[simp] theorem State.noteLost_dtt_armed (x0 x1) : (State.noteLost x0 x1).dtt.armed = x0.dtt.armed := by
  unfold State.noteLost; (repeat' split) <;> simp

@[simp] theorem State.noteLost_dtt_sSwap (x0 x1) : (State.noteLost x0 x1).dtt.sSwap = x0.dtt.sSwap := by
  unfold State.noteLost; (repeat' split) <;> simp

@[simp] theorem State.dropEvent_dtt_armed (x0 x1) : (State.dropEvent x0 x1).dtt.armed = x0.dtt.armed := by
  simp [State.dropEvent]

@[simp] theorem State.dropEvent_dtt_sSwap (x0 x1) : (State.dropEvent x0 x1).dtt.sSwap = x0.dtt.sSwap := by
  simp [State.dropEvent]

@[simp] theorem State.postTo_dtt_armed (x0 x1 x2 x3) : (State.postTo x0 x1 x2 x3).dtt.armed = x0.dtt.armed := by
  unfold State.postTo; dsimp only; (repeat' split) <;> simp

@[simp] theorem State.postTo_dtt_sSwap (x0 x1 x2 x3) : (State.postTo x0 x1 x2 x3).dtt.sSwap = x0.dtt.sSwap := by
  unfold State.postTo; dsimp only; (repeat' split) <;> simp

@[simp] theorem State.post_dtt_armed (x0 x1) : (State.post x0 x1).dtt.armed = x0.dtt.armed := by
  simp [State.post]

@[simp] theorem State.post_dtt_sSwap (x0 x1) : (State.post x0 x1).dtt.sSwap = x0.dtt.sSwap := by
  simp [State.post]

@[simp] theorem State.setStaged_dtt_armed (x0 x1 x2) : (State.setStaged x0 x1 x2).dtt.armed = x0.dtt.armed := by
  simp [State.setStaged]

@[simp] theorem State.setStaged_dtt_sSwap (x0 x1 x2) : (State.setStaged x0 x1 x2).dtt.sSwap = x0.dtt.sSwap := by
  simp [State.setStaged]

@[simp] theorem State.setStaged_regs (x0 x1 x2) : (State.setStaged x0 x1 x2).regs = x0.regs := by
  simp [State.setStaged]

@[simp] theorem State.setLp_dtt_armed (x0 x1 x2) : (State.setLp x0 x1 x2).dtt.armed = x0.dtt.armed := by
  simp [State.setLp]

@[simp] theorem State.setLp_dtt_sSwap (x0 x1 x2) : (State.setLp x0 x1 x2).dtt.sSwap = x0.dtt.sSwap := by
  simp [State.setLp]

@[simp] theorem State.setLp_regs (x0 x1 x2) : (State.setLp x0 x1 x2).regs = x0.regs := by
  simp [State.setLp]

@[simp] theorem State.freeEnt_dtt_armed (x0 x1) : (State.freeEnt x0 x1).dtt.armed = x0.dtt.armed := by
  unfold State.freeEnt; dsimp only; (repeat' split) <;> simp

@[simp] theorem State.freeEnt_dtt_sSwap (x0 x1) : (State.freeEnt x0 x1).dtt.sSwap = x0.dtt.sSwap := by
  unfold State.freeEnt; dsimp only; (repeat' split) <;> simp

@[simp] theorem State.freeEnt_regs (x0 x1) : (State.freeEnt x0 x1).regs = x0.regs := by
  unfold State.freeEnt; dsimp only; (repeat' split) <;> simp

@[simp] theorem State.leftPort_dtt_armed (x0 x1 x2) : (State.leftPort x0 x1 x2).dtt.armed = x0.dtt.armed := by
  unfold State.leftPort; (repeat' split) <;> simp

@[simp] theorem State.leftPort_dtt_sSwap (x0 x1 x2) : (State.leftPort x0 x1 x2).dtt.sSwap = x0.dtt.sSwap := by
  unfold State.leftPort; (repeat' split) <;> simp

@[simp] theorem State.leftPort_regs (x0 x1 x2) : (State.leftPort x0 x1 x2).regs = x0.regs := by
  unfold State.leftPort; (repeat' split) <;> simp

@[simp] theorem State.seal_dtt_armed (x0 x1 x2) : (State.seal x0 x1 x2).2.dtt.armed = x0.dtt.armed := by
  unfold State.seal; dsimp only; (repeat' split) <;> simp

@[simp] theorem State.seal_dtt_sSwap (x0 x1 x2) : (State.seal x0 x1 x2).2.dtt.sSwap = x0.dtt.sSwap := by
  unfold State.seal; dsimp only; (repeat' split) <;> simp

@[simp] theorem State.seal_regs (x0 x1 x2) : (State.seal x0 x1 x2).2.regs = x0.regs := by
  unfold State.seal; dsimp only; (repeat' split) <;> simp

@[simp] theorem State.sealAll_dtt_armed (x0 x1 x2) : (State.sealAll x0 x1 x2).2.dtt.armed = x0.dtt.armed := by
  induction x2 generalizing x0 x1 <;> simp [State.sealAll, *]

@[simp] theorem State.sealAll_dtt_sSwap (x0 x1 x2) : (State.sealAll x0 x1 x2).2.dtt.sSwap = x0.dtt.sSwap := by
  induction x2 generalizing x0 x1 <;> simp [State.sealAll, *]

@[simp] theorem State.sealAll_regs (x0 x1 x2) : (State.sealAll x0 x1 x2).2.regs = x0.regs := by
  induction x2 generalizing x0 x1 <;> simp [State.sealAll, *]

@[simp] theorem State.linkNow_dtt_armed (x0 x1 x2) : (State.linkNow x0 x1 x2).dtt.armed = x0.dtt.armed := by
  simp [State.linkNow]

@[simp] theorem State.linkNow_dtt_sSwap (x0 x1 x2) : (State.linkNow x0 x1 x2).dtt.sSwap = x0.dtt.sSwap := by
  simp [State.linkNow]

@[simp] theorem State.linkNow_regs (x0 x1 x2) : (State.linkNow x0 x1 x2).regs = x0.regs := by
  simp [State.linkNow]

@[simp] theorem State.flushLink_dtt_armed (x0 x1) : (State.flushLink x0 x1).dtt.armed = x0.dtt.armed := by
  unfold State.flushLink; dsimp only; (repeat' split) <;> simp

@[simp] theorem State.flushLink_dtt_sSwap (x0 x1) : (State.flushLink x0 x1).dtt.sSwap = x0.dtt.sSwap := by
  unfold State.flushLink; dsimp only; (repeat' split) <;> simp

@[simp] theorem State.flushLink_regs (x0 x1) : (State.flushLink x0 x1).regs = x0.regs := by
  unfold State.flushLink; dsimp only; (repeat' split) <;> simp

@[simp] theorem State.setPt_dtt_armed (x0 x1 x2) : (State.setPt x0 x1 x2).dtt.armed = x0.dtt.armed := by
  simp [State.setPt]

@[simp] theorem State.setPt_dtt_sSwap (x0 x1 x2) : (State.setPt x0 x1 x2).dtt.sSwap = x0.dtt.sSwap := by
  simp [State.setPt]

@[simp] theorem State.setPt_regs (x0 x1 x2) : (State.setPt x0 x1 x2).regs = x0.regs := by
  simp [State.setPt]

@[simp] theorem State.stamp_dtt_armed (x0 x1 x2) : (State.stamp x0 x1 x2).2.dtt.armed = x0.dtt.armed := by
  unfold State.stamp; (repeat' split) <;> simp

@[simp] theorem State.stamp_dtt_sSwap (x0 x1 x2) : (State.stamp x0 x1 x2).2.dtt.sSwap = x0.dtt.sSwap := by
  unfold State.stamp; (repeat' split) <;> simp

@[simp] theorem State.stamp_regs (x0 x1 x2) : (State.stamp x0 x1 x2).2.regs = x0.regs := by
  unfold State.stamp; (repeat' split) <;> simp

@[simp] theorem State.sendNow_dtt_armed (x0 x1 x2) : (State.sendNow x0 x1 x2).dtt.armed = x0.dtt.armed := by
  simp [State.sendNow]

@[simp] theorem State.sendNow_dtt_sSwap (x0 x1 x2) : (State.sendNow x0 x1 x2).dtt.sSwap = x0.dtt.sSwap := by
  simp [State.sendNow]

@[simp] theorem State.sendNow_regs (x0 x1 x2) : (State.sendNow x0 x1 x2).regs = x0.regs := by
  simp [State.sendNow]

@[simp] theorem State.pump_dtt_armed (x0 x1 x2) : (State.pump x0 x1 x2).dtt.armed = x0.dtt.armed := by
  induction x2 generalizing x0 x1 <;> simp only [State.pump] <;> (repeat' split) <;> simp [*]

@[simp] theorem State.pump_dtt_sSwap (x0 x1 x2) : (State.pump x0 x1 x2).dtt.sSwap = x0.dtt.sSwap := by
  induction x2 generalizing x0 x1 <;> simp only [State.pump] <;> (repeat' split) <;> simp [*]

@[simp] theorem State.pump_regs (x0 x1 x2) : (State.pump x0 x1 x2).regs = x0.regs := by
  induction x2 generalizing x0 x1 <;> simp only [State.pump] <;> (repeat' split) <;> simp [*]

@[simp] theorem State.repump_dtt_armed (x0 x1) : (State.repump x0 x1).dtt.armed = x0.dtt.armed := by
  simp [State.repump]

@[simp] theorem State.repump_dtt_sSwap (x0 x1) : (State.repump x0 x1).dtt.sSwap = x0.dtt.sSwap := by
  simp [State.repump]

@[simp] theorem State.repump_regs (x0 x1) : (State.repump x0 x1).regs = x0.regs := by
  simp [State.repump]

@[simp] theorem State.freeVc_dtt_armed (x0 x1 x2) : (State.freeVc x0 x1 x2).dtt.armed = x0.dtt.armed := by
  simp [State.freeVc]

@[simp] theorem State.freeVc_dtt_sSwap (x0 x1 x2) : (State.freeVc x0 x1 x2).dtt.sSwap = x0.dtt.sSwap := by
  simp [State.freeVc]

@[simp] theorem State.freeVc_regs (x0 x1 x2) : (State.freeVc x0 x1 x2).regs = x0.regs := by
  simp [State.freeVc]

@[simp] theorem State.freeStaged_dtt_armed (x0 x1) : (State.freeStaged x0 x1).dtt.armed = x0.dtt.armed := by
  unfold State.freeStaged; (repeat' split) <;> simp

@[simp] theorem State.freeStaged_dtt_sSwap (x0 x1) : (State.freeStaged x0 x1).dtt.sSwap = x0.dtt.sSwap := by
  unfold State.freeStaged; (repeat' split) <;> simp

@[simp] theorem State.freeStaged_regs (x0 x1) : (State.freeStaged x0 x1).regs = x0.regs := by
  unfold State.freeStaged; (repeat' split) <;> simp

@[simp] theorem State.creditStall_dtt_armed (x0 x1 x2) : (State.creditStall x0 x1 x2).dtt.armed = x0.dtt.armed := by
  simp [State.creditStall]

@[simp] theorem State.creditStall_dtt_sSwap (x0 x1 x2) : (State.creditStall x0 x1 x2).dtt.sSwap = x0.dtt.sSwap := by
  simp [State.creditStall]

@[simp] theorem State.sendStaged_dtt_armed (x0 x1 x2 x3) : (State.sendStaged x0 x1 x2 x3).dtt.armed = x0.dtt.armed := by
  induction x3 generalizing x0 x1 x2 <;> simp only [State.sendStaged] <;> (repeat' split) <;> simp [*]

@[simp] theorem State.sendStaged_dtt_sSwap (x0 x1 x2 x3) : (State.sendStaged x0 x1 x2 x3).dtt.sSwap = x0.dtt.sSwap := by
  induction x3 generalizing x0 x1 x2 <;> simp only [State.sendStaged] <;> (repeat' split) <;> simp [*]

@[simp] theorem State.portSlot_dtt_armed (x0 x1) : (State.portSlot x0 x1).dtt.armed = x0.dtt.armed := by
  unfold State.portSlot; dsimp only; (repeat' split) <;> simp

@[simp] theorem State.portSlot_dtt_sSwap (x0 x1) : (State.portSlot x0 x1).dtt.sSwap = x0.dtt.sSwap := by
  unfold State.portSlot; dsimp only; (repeat' split) <;> simp

@[simp] theorem State.portsSlot_dtt_armed (x0) : (State.portsSlot x0).dtt.armed = x0.dtt.armed := by
  simp [State.portsSlot, apply_ite (fun s : State => s.dtt.armed)]

@[simp] theorem State.portsSlot_dtt_sSwap (x0) : (State.portsSlot x0).dtt.sSwap = x0.dtt.sSwap := by
  simp [State.portsSlot, apply_ite (fun s : State => s.dtt.sSwap)]

@[simp] theorem State.stageFlit_dtt_armed (x0 x1 x2 x3 x4 x5) : (State.stageFlit x0 x1 x2 x3 x4 x5).dtt.armed = x0.dtt.armed := by
  simp [State.stageFlit, apply_ite (fun s : State => s.dtt.armed)]

@[simp] theorem State.stageFlit_dtt_sSwap (x0 x1 x2 x3 x4 x5) : (State.stageFlit x0 x1 x2 x3 x4 x5).dtt.sSwap = x0.dtt.sSwap := by
  simp [State.stageFlit, apply_ite (fun s : State => s.dtt.sSwap)]

@[simp] theorem State.stageFlit_regs (x0 x1 x2 x3 x4 x5) : (State.stageFlit x0 x1 x2 x3 x4 x5).regs = x0.regs := by
  simp [State.stageFlit, apply_ite (fun s : State => s.regs)]

@[simp] theorem State.lateFlit_dtt_armed (x0 x1 x2) : (State.lateFlit x0 x1 x2).dtt.armed = x0.dtt.armed := by
  unfold State.lateFlit; dsimp only; (repeat' split) <;> simp

@[simp] theorem State.lateFlit_dtt_sSwap (x0 x1 x2) : (State.lateFlit x0 x1 x2).dtt.sSwap = x0.dtt.sSwap := by
  unfold State.lateFlit; dsimp only; (repeat' split) <;> simp

@[simp] theorem State.schedArrive_dtt_armed (x0 x1 x2) : (State.schedArrive x0 x1 x2).dtt.armed = x0.dtt.armed := by
  unfold State.schedArrive; dsimp only; (repeat' split) <;> simp

@[simp] theorem State.schedArrive_dtt_sSwap (x0 x1 x2) : (State.schedArrive x0 x1 x2).dtt.sSwap = x0.dtt.sSwap := by
  unfold State.schedArrive; dsimp only; (repeat' split) <;> simp

@[simp] theorem State.dropStaged_dtt_armed (x0 x1) : (State.dropStaged x0 x1).dtt.armed = x0.dtt.armed := by
  unfold State.dropStaged; (repeat' split) <;> simp

@[simp] theorem State.dropStaged_dtt_sSwap (x0 x1) : (State.dropStaged x0 x1).dtt.sSwap = x0.dtt.sSwap := by
  unfold State.dropStaged; (repeat' split) <;> simp

@[simp] theorem State.dropStaged_regs (x0 x1) : (State.dropStaged x0 x1).regs = x0.regs := by
  unfold State.dropStaged; (repeat' split) <;> simp

/-! ### What a slot leaves of the registers (R310, R312) -/

/-- The registers that staged flits write: DTT_STAT, the count of late flits, and an event's. -/
def stagedRegs (r : Nat) : Prop := r = Reg.DTT_STAT ∨ r = Reg.DTT_LATE_CNT ∨ r ∈ evtRegs 0

theorem State.creditStall_regsBut (s : State) (p id : Nat) : RegsBut stagedRegs s (s.creditStall p id) :=
  ((RegsBut.refl stagedRegs s).setF F.DTT_STAT_STALL 1 (Or.inl rfl)).trans ((State.post_regsBut _ _).mono fun _ h => Or.inr (Or.inr h))

theorem State.sendStaged_regsBut (s : State) (p id n : Nat) : RegsBut stagedRegs s (s.sendStaged p id n) := by
  induction n generalizing s with
  | zero => exact RegsBut.refl _ s
  | succ n ih =>
    unfold State.sendStaged
    dsimp only
    split
    · exact RegsBut.refl _ s
    split
    · exact s.creditStall_regsBut p id
    split
    · exact RegsBut.refl _ s
    · exact RegsBut.trans (RegsBut.of_regs (by simp)) (ih _)

theorem State.portsSlot_regsBut (s : State) : RegsBut stagedRegs s s.portsSlot := by
  unfold State.portsSlot
  refine RegsBut.trans (RegsBut.upto (fun p s => ?_) 6 s) (RegsBut.upto (fun p s => ?_) 14 _)
  · unfold State.portSlot
    dsimp only
    exact (s.sendStaged_regsBut p _ _).ite (RegsBut.refl _ s)
  · exact RegsBut.ite (RegsBut.of_regs (by simp)) (RegsBut.refl _ s)

theorem State.lateFlit_regsBut (s : State) (p : Nat) (id : BitVec 12) : RegsBut stagedRegs s (s.lateFlit p id) := by
  have h : RegsBut stagedRegs s ((s.incF F.DTT_LATE_CNT_COUNT 1).setF F.DTT_STAT_LATE 1) :=
    ((RegsBut.refl stagedRegs s).setF F.DTT_LATE_CNT_COUNT _ (Or.inr (Or.inl rfl))).setF F.DTT_STAT_LATE 1 (Or.inl rfl)
  unfold State.lateFlit
  generalize (s.incF F.DTT_LATE_CNT_COUNT 1).setF F.DTT_STAT_LATE 1 = u at h ⊢
  obtain ⟨last, n⟩ := sget noLate s.dtt.late id.toNat
  refine RegsBut.ite ?_ (h.same_regs rfl)
  refine RegsBut.trans (h.same_regs ?_) ((State.post_regsBut _ _).mono fun _ h => Or.inr (Or.inr h))
  rfl

theorem State.schedArrive_regsBut (s : State) (p : Nat) (f : SFlit) : RegsBut stagedRegs s (s.schedArrive p f) := by
  have he : ∀ (c : Bool) (o : Out) (u : State), RegsBut stagedRegs s u → RegsBut stagedRegs s (if c then u.emit o else u) := fun c o u h =>
    (h.same_regs (u.emit_regs o)).ite h
  have hs : ∀ (c : Prop) [Decidable c] (g : Staged) (src : Option Nat) (id : BitVec 12) (o : Nat) (d : Bytes) (u : State), RegsBut stagedRegs s u →
      RegsBut stagedRegs s (if c then u.freeStaged g else u.stageFlit src id o d 0) := fun c _ g src id o d u h =>
    (h.same_regs (by simp)).ite (h.same_regs (by simp))
  unfold State.schedArrive
  dsimp only
  split
  · exact RegsBut.of_regs rfl
  · exact hs _ _ _ _ _ _ _ (he _ _ _ ((s.lateFlit_regsBut p f.stream).ite (RegsBut.refl _ s)))

/-! ### Timetable sets (R318 to R321) -/

theorem State.ttResult_spec {s : State} (set : Nat) (arm : Bool) (r : BitVec 4 × Nat × Nat) (h : swf regReset s.regs = true) :
    swf regReset (s.ttResult set arm r).regs = true ∧ (s.ttResult set arm r).on F.DTT_TT_STAT_BUSY = s.on F.DTT_TT_STAT_BUSY ∧
      (s.ttResult set arm r).f F.DTT_TT_STAT_ERR = r.1 ∧ (s.ttResult set arm r).f F.DTT_TT_STAT_PAGE = BitVec.ofNat 6 r.2.1 ∧
      (s.ttResult set arm r).f F.DTT_TT_STAT_INDEX = BitVec.ofNat 16 r.2.2 ∧ (s.ttResult set arm r).dtt = s.dtt ∧ (s.ttResult set arm r).clk = s.clk := by
  have h1 := s.regs_setF F.DTT_TT_STAT_ERR r.1 h
  have h2 := (s.setF F.DTT_TT_STAT_ERR r.1).regs_setF F.DTT_TT_STAT_PAGE (BitVec.ofNat 6 r.2.1) h1
  have h3 := ((s.setF F.DTT_TT_STAT_ERR r.1).setF F.DTT_TT_STAT_PAGE (BitVec.ofNat 6 r.2.1)).regs_setF F.DTT_TT_STAT_INDEX (BitVec.ofNat 16 r.2.2) h2
  unfold State.ttResult
  refine ⟨State.regs_post _ _ h3, ?_, ?_, ?_, ?_, by simp, by simp⟩
  · rw [State.on, State.f_post _ _ _ (by decide), State.f_setF_other _ _ _ _ h2 (by decide), State.f_setF_other _ _ _ _ h1 (by decide),
      s.f_setF_other _ _ _ h (by decide)]
    rfl
  · rw [State.f_post _ _ _ (by decide), State.f_setF_other _ _ _ _ h2 (by decide), State.f_setF_other _ _ _ _ h1 (by decide)]
    exact s.f_setF_same _ _ (by decide) h
  · rw [State.f_post _ _ _ (by decide), State.f_setF_other _ _ _ _ h2 (by decide)]
    exact State.f_setF_same _ _ _ (by decide) h1
  · rw [State.f_post _ _ _ (by decide)]
    exact State.f_setF_same _ _ _ (by decide) h2

section
variable {s : State} {set : Nat} {arm : Bool}

theorem State.ttCheck_active (h : s.activeSet = some set) : s.ttCheck set arm = s.ttResult set arm (9, 0, 0) := if_pos h

variable (h : s.activeSet ≠ some set)
include h

theorem State.ttCheck_busy (hb : s.dtt.armed.isSome = true ∨ s.dtt.checking.isSome = true) :
    s.ttCheck set arm = s.ttResult set arm (if (s.checkSet set arm).1 = 0 then (9, 0, 0) else s.checkSet set arm) := by
  unfold State.ttCheck
  rw [if_neg h]
  exact if_pos hb

theorem State.ttCheck_starts (ha : s.dtt.armed = none) (hc : s.dtt.checking = none) :
    s.ttCheck set arm = State.setF { s with dtt := { s.dtt with checking := some (set, arm, s.swapTick) } } F.DTT_TT_STAT_BUSY 1 := by
  unfold State.ttCheck
  rw [if_neg h, if_neg (by simp [ha, hc])]

end

/-- VALIDATE and TT_ARM are the two uses of one check (R318). -/
theorem exec_ttCheck {s t : State} {b arm : Bool} {c : Instr} (hw : s.takes = true) (hc : (c, arm) ∈ [(Instr.validate b, false), (.ttArm b, true)])
    (h : s.ttCheck (b2n b) arm = t) : exec c s = .next t := by
  simp only [List.mem_cons, Prod.mk.injEq, List.not_mem_nil, or_false] at hc
  rcases hc with ⟨rfl, rfl⟩ | ⟨rfl, rfl⟩
  · exact exec_wr (f := (State.ttCheck · (b2n b) false)) rfl hw h
  · exact exec_wr (f := (State.ttCheck · (b2n b) true)) rfl hw h

/-- The node with a set armed (R318). -/
def State.nowArmed (s : State) (set : Nat) (tick : R64) : State :=
  State.setF { s with dtt := { s.dtt with armed := some (set, tick, s.now) } } F.DTT_TT_STAT_ARMED 1

theorem State.nowArmed_f {w : Nat} {s : State} (set : Nat) (tick : R64) (g : Fld w) (h : swf regReset s.regs = true)
    (hd : g.lo + w ≤ F.DTT_TT_STAT_ARMED.lo ∨ F.DTT_TT_STAT_ARMED.lo + 1 ≤ g.lo) : (s.nowArmed set tick).f g = s.f g :=
  State.f_setF_other { s with dtt := { s.dtt with armed := some (set, tick, s.now) } } F.DTT_TT_STAT_ARMED g 1 h (Or.inr hd)

theorem State.ttDone_eq {s : State} {set : Nat} {arm : Bool} {tick : R64} (hc : s.dtt.checking = some (set, arm, tick)) :
    s.ttDone = (fun t : State => if (s.checkSet set arm).1 = 0 ∧ arm then t.nowArmed set tick else t)
      ((State.setF { s with dtt := { s.dtt with checking := none } } F.DTT_TT_STAT_BUSY 0).ttResult set arm (s.checkSet set arm)) := by
  unfold State.ttDone
  rw [hc]
  rfl

/-- The node with a set in force, before what was staged under the old one is dropped (R319). -/
def State.swapped (s : State) (set : Nat) (late : Bool) : State :=
  let s := { s.unarm with dtt := { s.unarm.dtt with sSwap := s.clk.slot } }
  let s := (s.setF F.DTT_TT_STAT_ACTIVE (BitVec.ofNat 1 set)).setF F.DTT_TT_STAT_DEFAULT 0
  (s.pulse F.DTT_CTL_DTSYNC_SWAP).post (ev 0x44 stOk (2 * b2n late + set) s.clk.slot.toNat)

/-- What the swap does to the flits staged and to those that came early. -/
def State.restage (s : State) : State :=
  let s := upto (fun p s => s.dropStaged p) 6 s
  let l := s.dtt.orphans
  let s := l.foldl (fun s x => s.schedArrive x.1 x.2) { s with dtt := { s.dtt with orphans := [] } }
  s.portsSlot

theorem State.ttSwap_due {s : State} {set : Nat} {tick d : R64} (ha : s.dtt.armed = some (set, tick, d)) (hd : s.swapDue = true) :
    s.ttSwap = (s.swapped set (decide (tick.toNat < d.toNat))).restage := by
  unfold State.ttSwap
  rw [ha]
  dsimp only
  rw [hd]
  rfl

theorem State.ttSwap_not {s : State} (h : s.swapDue = false) : s.ttSwap = s := by
  unfold State.ttSwap
  split
  · rfl
  · rw [h]
    rfl

theorem State.swapDue_eq {s : State} {set : Nat} {tick d : R64} (ha : s.dtt.armed = some (set, tick, d)) :
    s.swapDue = (decide (tick.toNat ≤ s.boundary) && decide (d.toNat < s.boundary)) := by
  unfold State.swapDue
  rw [ha]

theorem State.restage_spec (s : State) : RegsBut stagedRegs s s.restage ∧ s.restage.dtt.armed = s.dtt.armed ∧ s.restage.dtt.sSwap = s.dtt.sSwap ∧
    s.restage.clk = s.clk := by
  unfold State.restage
  refine ⟨?_, by simp, by simp, by simp⟩
  have h : RegsBut stagedRegs s (upto (fun p s => s.dropStaged p) 6 s) := RegsBut.of_regs (by simp)
  dsimp only
  generalize upto (fun p s => s.dropStaged p) 6 s = u at h ⊢
  have hu : RegsBut stagedRegs s { u with dtt := { u.dtt with orphans := [] } } := h.same_regs rfl
  refine RegsBut.trans ?_ (State.portsSlot_regsBut _)
  refine RegsBut.trans hu ?_
  exact RegsBut.foldl (f := fun s (x : Nat × SFlit) => s.schedArrive x.1 x.2) (fun s x => s.schedArrive_regsBut x.1 x.2) _ _

theorem State.swapped_spec {s : State} (set : Nat) (late : Bool) (h : swf regReset s.regs = true) :
    (s.swapped set late).dtt.armed = none ∧ (s.swapped set late).dtt.sSwap = s.clk.slot ∧
      (s.swapped set late).f F.DTT_TT_STAT_ACTIVE = BitVec.ofNat 1 set ∧ (s.swapped set late).on F.DTT_TT_STAT_DEFAULT = false ∧
      (s.swapped set late).on F.DTT_TT_STAT_ARMED = false ∧ (s.swapped set late).clk = s.clk := by
  let t : State := { s with dtt := { s.dtt with armed := none } }
  let u : State := { t.setF F.DTT_TT_STAT_ARMED 0 with dtt := { s.dtt with armed := none, sSwap := s.clk.slot } }
  have h2 : swf regReset u.regs = true := t.regs_setF F.DTT_TT_STAT_ARMED 0 h
  have ha : u.f F.DTT_TT_STAT_ARMED = 0 := t.f_setF_same F.DTT_TT_STAT_ARMED 0 (by decide) h
  have h3 := u.regs_setF F.DTT_TT_STAT_ACTIVE (BitVec.ofNat 1 set) h2
  obtain ⟨pd, pr, pc, -⟩ := ((u.setF F.DTT_TT_STAT_ACTIVE (BitVec.ofNat 1 set)).setF F.DTT_TT_STAT_DEFAULT 0).pulse_rest F.DTT_CTL_DTSYNC_SWAP
  have he : s.swapped set late = (((u.setF F.DTT_TT_STAT_ACTIVE (BitVec.ofNat 1 set)).setF F.DTT_TT_STAT_DEFAULT 0).pulse F.DTT_CTL_DTSYNC_SWAP).post
    (ev 0x44 stOk (2 * b2n late + set) s.clk.slot.toNat) := rfl
  have hf : ∀ {w : Nat} (g : Fld w), g.off ∉ evtRegs 0 → (s.swapped set late).f g =
      ((u.setF F.DTT_TT_STAT_ACTIVE (BitVec.ofNat 1 set)).setF F.DTT_TT_STAT_DEFAULT 0).f g :=
    fun g hg => (State.f_post _ _ _ hg).trans (State.f_of_regs pr g)
  refine ⟨?_, ?_, ?_, ?_, ?_, ?_⟩
  · rw [he, (State.post_rest _ _).2.2.2.2.2.2.2.2.2.1, pd]
    rfl
  · rw [he, (State.post_rest _ _).2.2.2.2.2.2.2.2.2.1, pd]
    rfl
  · rw [hf _ (by decide), State.f_setF_other _ _ _ _ h3 (by decide)]
    exact u.f_setF_same _ _ (by decide) h2
  · rw [State.on, hf _ (by decide), State.f_setF_same _ _ _ (by decide) h3]
    rfl
  · rw [State.on, hf _ (by decide), State.f_setF_other _ _ _ _ h3 (by decide), State.f_setF_other _ _ _ _ h2 (by decide), ha]
    rfl
  · rw [he, (State.post_frame _ _).2.1, pc]
    rfl

/-- Settles O25. -/
theorem timetableSets : Obligations.TimetableSets := by
  refine ⟨fun s b c arm hw hc => ⟨fun h => exec_ttCheck hw hc (State.ttCheck_active h), fun h hb => exec_ttCheck hw hc (State.ttCheck_busy h hb)⟩,
    fun s b c arm hw hc h ha hk => exec_ttCheck hw hc (State.ttCheck_starts h ha hk),
    fun s b hw h => ⟨fun hd => exec_wr (f := fun s => if s.activeSet = some (b2n b) then s.setF F.DTT_TT_STAT_ERR 9 else s.ttDisarm) rfl hw ?_,
      fun hd => exec_wr (f := fun s => if s.activeSet = some (b2n b) then s.setF F.DTT_TT_STAT_ERR 9 else s.ttDisarm) rfl hw ?_⟩,
    fun s b hw h => exec_wr (f := fun s => if s.activeSet = some (b2n b) then s.setF F.DTT_TT_STAT_ERR 9 else s.ttDisarm) rfl hw (if_pos h),
    fun s set arm tick r hu hc hr hs => goes_up (f := State.ttDone) rfl hu ?_,
    fun s hc => exec_same_up (f := State.ttDone) rfl (by unfold State.ttDone; rw [hc]),
    fun s set tick d hu ha ht hd hs => goes_up (f := State.ttSwap) rfl hu ?_,
    fun s set tick d ha h => exec_same_up (f := State.ttSwap) rfl (State.ttSwap_not ?_),
    fun s ha => exec_same_up (f := State.ttSwap) rfl (by unfold State.ttSwap; rw [ha]),
    fun s off wide v hw hl => exec_wr (f := (State.ttWrite · off.toNat wide v)) rfl hw (if_pos hl),
    fun s off wide v hw hl => exec_wr (f := (State.ttWrite · off.toNat wide v)) rfl hw (if_neg (by simp [hl]))⟩
  · rw [if_neg h, State.ttDisarm, if_neg (by simp [hd])]
    rfl
  · rw [if_neg h, State.ttDisarm, if_pos hd]
  · subst hr
    let t : State := { s with dtt := { s.dtt with checking := none } }
    have h1 : swf regReset (t.setF F.DTT_TT_STAT_BUSY 0).regs = true := t.regs_setF _ _ hs
    obtain ⟨k1, k2, k3, k4, k5, k6, k7⟩ := State.ttResult_spec set arm (s.checkSet set arm) h1
    have hb : (t.setF F.DTT_TT_STAT_BUSY 0).on F.DTT_TT_STAT_BUSY = false := by
      rw [State.on, t.f_setF_same _ _ (by decide) hs]
      rfl
    rw [State.ttDone_eq hc]
    change swf regReset ((t.setF F.DTT_TT_STAT_BUSY 0).ttResult set arm (s.checkSet set arm)).regs = true at k1
    have hdtt : ((t.setF F.DTT_TT_STAT_BUSY 0).ttResult set arm (s.checkSet set arm)).dtt = { s.dtt with checking := none } := k6
    have hclk : ((t.setF F.DTT_TT_STAT_BUSY 0).ttResult set arm (s.checkSet set arm)).clk = s.clk := k7
    have hbusy : ((t.setF F.DTT_TT_STAT_BUSY 0).ttResult set arm (s.checkSet set arm)).on F.DTT_TT_STAT_BUSY = false := k2.trans hb
    have hcheck : ((t.setF F.DTT_TT_STAT_BUSY 0).ttResult set arm (s.checkSet set arm)).dtt.checking = none := by rw [hdtt]
    have harm : ((t.setF F.DTT_TT_STAT_BUSY 0).ttResult set arm (s.checkSet set arm)).dtt.armed = s.dtt.armed := by rw [hdtt]
    have hnow : ((t.setF F.DTT_TT_STAT_BUSY 0).ttResult set arm (s.checkSet set arm)).now = s.now := congrArg Clock.now hclk
    dsimp only
    by_cases hz : (s.checkSet set arm).1 = 0 ∧ arm = true
    · rw [if_pos hz, if_pos hz]
      refine ⟨hcheck, ?_, ?_, ?_, ?_, ?_, hclk⟩
      · exact (congrArg (· == 1) (State.nowArmed_f set tick F.DTT_TT_STAT_BUSY k1 (by decide))).trans hbusy
      · exact (State.nowArmed_f set tick _ k1 (by decide)).trans k3
      · exact (State.nowArmed_f set tick _ k1 (by decide)).trans k4
      · exact (State.nowArmed_f set tick _ k1 (by decide)).trans k5
      · exact congrArg (fun n => some (set, tick, n)) hnow
    · rw [if_neg hz, if_neg hz]
      exact ⟨hcheck, hbusy, k3, k4, k5, harm, hclk⟩
  · have hdue : s.swapDue = true := by rw [State.swapDue_eq ha]; simp [ht, hd]
    obtain ⟨hb, h1, h2, h3⟩ := (s.swapped set (decide (tick.toNat < d.toNat))).restage_spec
    obtain ⟨k1, k2, k3, k4, k5, k6⟩ := State.swapped_spec set (decide (tick.toNat < d.toNat)) hs
    have hne : ¬ stagedRegs Reg.DTT_TT_STAT := by simp [stagedRegs, Reg.DTT_TT_STAT, Reg.DTT_STAT, Reg.DTT_LATE_CNT, evtRegs, Reg.QMG_EVT_TAIL, Reg.QMG_EVT_LOST]
    rw [State.ttSwap_due ha hdue]
    exact ⟨h1.trans k1, h2.trans k2, (hb.f F.DTT_TT_STAT_ACTIVE hne).trans k3, (congrArg (· == 1) (hb.f F.DTT_TT_STAT_DEFAULT hne)).trans k4,
      (congrArg (· == 1) (hb.f F.DTT_TT_STAT_ARMED hne)).trans k5, h3.trans k6⟩
  · rw [State.swapDue_eq ha]
    rcases h with h | h <;> simp <;> omega

@[simp] theorem foldl_io_eng {α : Type} (f : Io → α → Io) (l : List α) (s : Io) (h : ∀ s a, (f s a).s.eng = s.s.eng) : (l.foldl f s).s.eng = s.s.eng := by
  induction l generalizing s with
  | nil => rfl
  | cons a l ih => simp only [List.foldl_cons, ih, h]

@[simp] theorem State.wr_eng (x0 x1 x2) : (State.wr x0 x1 x2).eng = x0.eng := by
  simp [State.wr]

@[simp] theorem State.incF_eng (x0 x1 x2 x3) : (@State.incF x0 x1 x2 x3).eng = x1.eng := by
  simp [State.incF]

@[simp] theorem State.setRing_eng (x0 x1 x2) : (State.setRing x0 x1 x2).eng = x0.eng := by
  simp [State.setRing]

@[simp] theorem State.vector_eng (x0 x1) : (State.vector x0 x1).eng = x0.eng := by
  unfold State.vector; (repeat' split) <;> simp

@[simp] theorem State.vectorDue_eng (x0 x1) : (State.vectorDue x0 x1).eng = x0.eng := by
  simp [State.vectorDue]

@[simp] theorem State.wearOne_eng (x0 x1) : (State.wearOne x0 x1).eng = x0.eng := by
  unfold State.wearOne; dsimp only; (repeat' split) <;> simp

@[simp] theorem State.putClay_eng (x0 x1 x2 x3) : (State.putClay x0 x1 x2 x3).eng = x0.eng := by
  simp [State.putClay]

@[simp] theorem State.nodeClay_eng (x0 x1 x2) : (State.nodeClay x0 x1 x2).eng = x0.eng := by
  simp [State.nodeClay]

@[simp] theorem State.countSpares_eng (x0) : (State.countSpares x0).eng = x0.eng := by
  simp [State.countSpares]

@[simp] theorem State.putWords_eng (x0 x1 x2) : (State.putWords x0 x1 x2).eng = x0.eng := by
  induction x2 generalizing x0 x1 <;> simp [State.putWords, *]

@[simp] theorem State.writeMap_eng (x0) : (State.writeMap x0).eng = x0.eng := by
  simp [State.writeMap]

/-! ### Spare tiles (R378 to R381, R388) -/

/-- The registers that writing the tile map writes, other than ENG_STAT: the tile counts, the wear of clay, and an event's. -/
def mapRegs (r : Nat) : Prop := r = Reg.GLB_TILES ∨ r = Reg.CLY_STAT ∨ r ∈ evtRegs 0

theorem State.putWords_regsBut (s : State) (base : Nat) (l : List R32) : RegsBut mapRegs s (s.putWords base l) := by
  induction l generalizing s base with
  | nil => exact RegsBut.refl _ s
  | cons w l ih => exact ((s.nodeClay_regsBut base w).mono fun _ => Or.inr).trans (ih _ _)

theorem State.countSpares_regsBut (s : State) : RegsBut mapRegs s s.countSpares :=
  ((RegsBut.refl mapRegs s).setF F.GLB_TILES_SPARE0 _ (Or.inl rfl)).setF F.GLB_TILES_SPARE1 _ (Or.inl rfl)

/-- Writing the tile map anew: the next generation, in the other copy (R381). -/
theorem State.writeMap_spec {s : State} (h : swf regReset s.regs = true) :
    s.writeMap.f F.ENG_STAT_GEN = s.f F.ENG_STAT_GEN + 1 ∧ s.writeMap.on F.ENG_STAT_MAP_B = !s.on F.ENG_STAT_MAP_B ∧
      RegsBut (fun r => r = Reg.ENG_STAT ∨ mapRegs r) s s.writeMap := by
  unfold State.writeMap
  dsimp only
  generalize hl : s.mapWords (s.f F.ENG_STAT_GEN + 1) ++ [crc32 (bytes32 (s.mapWords (s.f F.ENG_STAT_GEN + 1)))] = l
  have hp := s.putWords_regsBut (if !s.on F.ENG_STAT_MAP_B then 0x70 else 0x60) l
  generalize s.putWords (if !s.on F.ENG_STAT_MAP_B then 0x70 else 0x60) l = u at hp ⊢
  have h0 := hp.canonical h
  have h1 := u.regs_setF F.ENG_STAT_GEN (s.f F.ENG_STAT_GEN + 1) h0
  have hc := ((u.setF F.ENG_STAT_GEN (s.f F.ENG_STAT_GEN + 1)).setF F.ENG_STAT_MAP_B (bit1 !s.on F.ENG_STAT_MAP_B)).countSpares_regsBut
  have hne : ¬ mapRegs Reg.ENG_STAT := by simp [mapRegs, Reg.ENG_STAT, Reg.GLB_TILES, Reg.CLY_STAT, evtRegs, Reg.QMG_EVT_TAIL, Reg.QMG_EVT_LOST]
  refine ⟨?_, ?_, ?_⟩
  · rw [hc.f F.ENG_STAT_GEN hne, State.f_setF_other _ _ _ _ h1 (by decide)]
    exact u.f_setF_same _ _ (by decide) h0
  · rw [State.on, hc.f F.ENG_STAT_MAP_B hne, State.f_setF_same _ _ _ (by decide) h1]
    cases s.on F.ENG_STAT_MAP_B <;> rfl
  · have hu : RegsBut (fun r => r = Reg.ENG_STAT ∨ mapRegs r) s u := hp.mono fun _ => Or.inr
    exact ((hu.setF F.ENG_STAT_GEN _ (Or.inl rfl)).setF F.ENG_STAT_MAP_B _ (Or.inl rfl)).trans (hc.mono fun _ => Or.inr)

theorem State.spareResult_spec {s : State} (err : BitVec 4) (p : Nat) (h : swf regReset s.regs = true) :
    (s.spareResult err p).f F.ENG_SPARE_RES_ERR = err ∧ (s.spareResult err p).eng = s.eng ∧
      RegsBut (fun r => r = Reg.ENG_SPARE_RES ∨ r ∈ evtRegs 0) s (s.spareResult err p) ∧
      (∀ {w : Nat} (g : Fld w), g.off = Reg.ENG_SPARE_RES → g.lo + w ≤ 24 ∨ 28 ≤ g.lo → (s.spareResult err p).f g = s.f g) := by
  have hev : ∀ {w : Nat} (g : Fld w), g.off = Reg.ENG_SPARE_RES → (s.spareResult err p).f g = (s.setF F.ENG_SPARE_RES_ERR err).f g :=
    fun g hg => State.f_post _ _ _ (by rw [hg]; decide)
  refine ⟨(hev _ rfl).trans (s.f_setF_same _ _ (by decide) h), by simp [State.spareResult], ?_, fun g hg hl => (hev g hg).trans (s.f_setF_other _ _ _ h (Or.inr hl))⟩
  exact ((RegsBut.refl _ s).setF F.ENG_SPARE_RES_ERR err (Or.inl rfl)).trans ((State.post_regsBut _ _).mono fun _ => Or.inr)

section
variable {s : State} {fail : State → Nat → State} {p : BitVec 6} (hb : s.on F.ENG_SPARE_RES_BUSY = false) (hp : p.toNat < 56)
include hb hp

/-- The commands on spares, by whether the tile is bound and has passed a test (R388). -/
theorem State.spareCmd_eq {op : Nat} (h0 : op ≠ 0) (h3 : op ≤ 3) : s.spareCmd fail op p.toNat =
    (fun t : State => if op = 3 then (if (s.logicalOf p.toNat).isSome then (fail t p.toNat).spareResult 0 p.toNat else t.spareResult 3 p.toNat)
      else if (s.logicalOf p.toNat).isSome then t.spareResult 1 p.toNat
      else if op = 1 then State.setF (State.setF { t with eng := { t.eng with test := some p } } F.ENG_SPARE_RES_BUSY 1) F.ENG_SPARE_RES_ERR 0
      else if !t.eng.passed.contains p.toNat then t.spareResult 2 p.toNat
      else (State.writeMap { t with eng := { t.eng with dis := t.eng.dis &&& ~~~ BitVec.ofNat 56 (2 ^ p.toNat), spareAt := some t.clk.slot } }).spareResult 0 p.toNat)
      (s.setF F.ENG_SPARE_RES_TILE p) := by
  unfold State.spareCmd
  rw [hb]
  dsimp only
  rw [if_neg (by decide), if_neg (by omega), BitVec.ofNat_toNat, BitVec.setWidth_eq]

end

theorem State.tile_busy_setF {s : State} (p : BitVec 6) (h : swf regReset s.regs = true) :
    swf regReset (s.setF F.ENG_SPARE_RES_TILE p).regs = true ∧ (s.setF F.ENG_SPARE_RES_TILE p).f F.ENG_SPARE_RES_TILE = p :=
  ⟨s.regs_setF _ _ h, s.f_setF_same _ _ (by decide) h⟩

/-- The bits of the disabled tiles. -/
theorem testBit_or_two_pow (x : BitVec 56) (p : Nat) (h : p < 56) : bitAt (x ||| BitVec.ofNat 56 (2 ^ p)).toNat p = true := by
  have : (x ||| BitVec.ofNat 56 (2 ^ p)).getLsbD p = true := by
    simp only [BitVec.getLsbD_or, BitVec.getLsbD_ofNat, h, decide_true, Nat.testBit_two_pow_self, Bool.and_self, Bool.or_true]
  exact this

theorem testBit_and_not_two_pow (x : BitVec 56) (p : Nat) (h : p < 56) : bitAt (x &&& ~~~ BitVec.ofNat 56 (2 ^ p)).toNat p = false := by
  have : (x &&& ~~~ BitVec.ofNat 56 (2 ^ p)).getLsbD p = false := by
    simp only [BitVec.getLsbD_and, BitVec.getLsbD_not, BitVec.getLsbD_ofNat, h, decide_true, Nat.testBit_two_pow_self, Bool.and_self, Bool.not_true,
      Bool.and_false]
  exact this

/-- The tile that stands for logical tile `n` from the substitution on (R379). -/
def State.rebound (s : State) (n q : Nat) : State :=
  let old := s.phys n
  let s := { s with eng := { s.eng with failed := dropWhere (fun f => f.1 == n) s.eng.failed } }
  let s := if old = 0x3F then s else s.disable old
  (s.setF (F.ENG_T_STAT_PHYS n) (BitVec.ofNat 6 q)).setF (F.ENG_T_STAT_STATE n) 0

theorem State.substitute_eq {s : State} {n p q : Nat} {k : R64} {l : List Nat} (hf : s.eng.failed = [(n, p, k)]) (hk : k ≠ s.clk.slot)
    (hs : s.spares (logCx n) = q :: l) :
    s.substitute n = (fun t : State => State.post (if t.allBound then t.setF F.GLB_TILES_SHORT 0 else t)
      (evTileSpared (s.phys n) q n ((if t.allBound then t.setF F.GLB_TILES_SHORT 0 else t).f F.ENG_STAT_GEN))) (s.rebound n q).writeMap := by
  unfold State.substitute
  dsimp only
  rw [if_neg (by simp [hf, hk]), hs]
  rfl

theorem State.substitute_not {s : State} {n p : Nat} (hp : s.phys n ≠ 0x3F) (h : s.eng.failed = [] ∨ s.eng.failed = [(n, p, s.clk.slot)]) :
    s.substitute n = s := by
  unfold State.substitute
  dsimp only
  rw [if_pos]
  rcases h with h | h <;> simp [h, hp]

theorem State.rebound_spec {s : State} {n q p : Nat} {k : R64} (hn : n < 48) (hq : q < 56) (hp : s.phys n < 56) (hf : s.eng.failed = [(n, p, k)])
    (h : swf regReset s.regs = true) :
    swf regReset (s.rebound n q).regs = true ∧ (s.rebound n q).f (F.ENG_T_STAT_PHYS n) = BitVec.ofNat 6 q ∧ (s.rebound n q).eng.failed = [] ∧
      bitAt (s.rebound n q).eng.dis.toNat (s.phys n) = true ∧ (s.rebound n q).f F.ENG_STAT_GEN = s.f F.ENG_STAT_GEN ∧
      (s.rebound n q).on F.ENG_STAT_MAP_B = s.on F.ENG_STAT_MAP_B ∧ (s.rebound n q).mems = s.mems := by
  let u : State := { s with eng := { s.eng with failed := dropWhere (fun f => f.1 == n) s.eng.failed, dis := s.eng.dis ||| BitVec.ofNat 56 (2 ^ s.phys n) } }
  have he : s.rebound n q = (u.setF (F.ENG_T_STAT_PHYS n) (BitVec.ofNat 6 q)).setF (F.ENG_T_STAT_STATE n) 0 := by
    unfold State.rebound
    dsimp only
    rw [if_neg (by omega)]
    rfl
  have h1 : swf regReset (u.setF (F.ENG_T_STAT_PHYS n) (BitVec.ofNat 6 q)).regs = true := u.regs_setF _ _ h
  have hne : ∀ {w : Nat} (g : Fld w), g.off = Reg.ENG_STAT → g.off ≠ Reg.ENG_T_STAT n := fun g hg => by
    rw [hg]
    simp only [Reg.ENG_STAT, Reg.ENG_T_STAT]
    omega
  have hf' : ∀ {w : Nat} (g : Fld w), g.off = Reg.ENG_STAT → (s.rebound n q).f g = s.f g := fun g hg => by
    rw [he, State.f_setF_reg _ _ _ _ (hne g hg), State.f_setF_reg _ _ _ _ (hne g hg)]
    rfl
  refine ⟨by rw [he]; exact State.regs_setF _ _ _ h1, ?_, ?_, ?_, hf' _ rfl, congrArg (· == 1) (hf' _ rfl), by rw [he]; rfl⟩
  · rw [he, State.f_setF_other _ _ _ _ h1 (Or.inr (Or.inl (by simp [F.ENG_T_STAT_PHYS, F.ENG_T_STAT_STATE])))]
    exact u.f_setF_same _ _ (by simp [F.ENG_T_STAT_PHYS]) h
  · rw [he]
    simp [u, hf, dropWhere]
  · rw [he]
    exact testBit_or_two_pow _ _ hp

/-- Settles O27. -/
theorem spares : Obligations.Spares := by
  refine ⟨⟨fun s n q l k hu hn hf hk hp hs hr => goes_up (f := (State.substitute · n.toNat)) rfl hu ?_,
    fun s n p hp h => exec_same_up (f := (State.substitute · n.toNat)) rfl (State.substitute_not hp h)⟩,
    fun s p c hb hc => ?_, fun s p c hw hb hp hl hc => ?_,
    fun s p hw hb hp hl hr => goes_wr (f := (State.spareCmd · State.tileFail 1 p.toNat)) rfl hw ?_,
    fun s p hw hb hp hl => exec_wr (f := (State.spareCmd · State.loseTile 3 p.toNat)) rfl hw ?_,
    fun s p hw hb hp hl => exec_wr (f := (State.spareCmd · State.loseTile 3 p.toNat)) rfl hw ?_,
    fun s p hw hb hp hl hd => exec_wr (f := (State.spareCmd · State.tileFail 2 p.toNat)) rfl hw ?_,
    fun s p hw hb hp hl hd hr => goes_wr (f := (State.spareCmd · State.tileFail 2 p.toNat)) rfl hw ?_,
    fun s p pass hu hf ht hr => goes_up (f := fun s => if s.fwServes 2 then s.spareDone pass else s) rfl hu ?_,
    fun s pass ht => exec_same_up (f := fun s => if s.fwServes 2 then s.spareDone pass else s) rfl ?_⟩
  · have hq : q ∈ s.spares (logCx n.toNat) := by rw [hs]; exact List.mem_cons_self
    have hq56 : q < 56 := List.mem_range.1 (List.mem_filter.1 hq).1
    obtain ⟨k1, k2, k3, k4, k5, k6, k7⟩ := State.rebound_spec (q := q) hn hq56 hp hf hr
    obtain ⟨g1, g2, g3⟩ := State.writeMap_spec k1
    rw [State.substitute_eq hf hk hs]
    have heng : (s.rebound n.toNat q).writeMap.eng = (s.rebound n.toNat q).eng := by simp
    have hmems : (s.rebound n.toNat q).writeMap.mems = s.mems := by simp [k7]
    generalize (s.rebound n.toNat q).writeMap = t at g1 g2 g3 heng hmems
    have hshort : RegsBut mapRegs t (if t.allBound then t.setF F.GLB_TILES_SHORT 0 else t) :=
      ((RegsBut.refl mapRegs t).setF F.GLB_TILES_SHORT 0 (Or.inl rfl)).ite (RegsBut.refl _ t)
    have hpost : ∀ e, RegsBut mapRegs t (State.post (if t.allBound then t.setF F.GLB_TILES_SHORT 0 else t) e) := fun e =>
      hshort.trans ((State.post_regsBut _ e).mono fun _ h => Or.inr (Or.inr h))
    have hrest : ∀ e, (State.post (if t.allBound then t.setF F.GLB_TILES_SHORT 0 else t) e).eng = t.eng ∧
        (State.post (if t.allBound then t.setF F.GLB_TILES_SHORT 0 else t) e).mems = t.mems := fun e => by
      split <;> simp
    have hne : ¬ mapRegs Reg.ENG_STAT := by simp [mapRegs, Reg.ENG_STAT, Reg.GLB_TILES, Reg.CLY_STAT, evtRegs, Reg.QMG_EVT_TAIL, Reg.QMG_EVT_LOST]
    have hnt : ¬ (Reg.ENG_T_STAT n.toNat = Reg.ENG_STAT ∨ mapRegs (Reg.ENG_T_STAT n.toNat)) := by
      simp only [mapRegs, Reg.ENG_T_STAT, Reg.ENG_STAT, Reg.GLB_TILES, Reg.CLY_STAT, evtRegs, Reg.QMG_EVT_TAIL, Reg.QMG_EVT_LOST, List.mem_cons, List.not_mem_nil, or_false]
      omega
    dsimp only
    refine ⟨?_, ?_, ?_, ?_, ?_, ?_⟩
    · rw [State.phys, (hpost _).f _ (fun h => hnt (Or.inr h)), g3.f _ hnt, k2]
      simp
      omega
    · rw [(hrest _).1, heng, k3]
    · rw [State.disabled, (hrest _).1, heng, k4]
    · rw [(hpost _).f F.ENG_STAT_GEN hne, g1, k5]
    · rw [State.on, (hpost _).f F.ENG_STAT_MAP_B hne, ← k6]
      exact g2
    · rw [(hrest _).2, hmems]
  · simp only [List.mem_cons, List.not_mem_nil, or_false] at hc
    rcases hc with rfl | rfl | rfl
    · exact exec_same_wr (f := (State.spareCmd · State.tileFail 1 p.toNat)) rfl (if_pos hb)
    · exact exec_same_wr (f := (State.spareCmd · State.tileFail 2 p.toNat)) rfl (if_pos hb)
    · exact exec_same_wr (f := (State.spareCmd · State.loseTile 3 p.toNat)) rfl (if_pos hb)
  · simp only [List.mem_cons, List.not_mem_nil, or_false] at hc
    rcases hc with rfl | rfl
    · exact exec_wr (f := (State.spareCmd · State.tileFail 1 p.toNat)) rfl hw ((State.spareCmd_eq hb hp (by decide) (by decide)).trans (by simp [hl]))
    · exact exec_wr (f := (State.spareCmd · State.tileFail 2 p.toNat)) rfl hw ((State.spareCmd_eq hb hp (by decide) (by decide)).trans (by simp [hl]))
  · let u : State := { s.setF F.ENG_SPARE_RES_TILE p with eng := { s.eng with test := some p } }
    have h0 : swf regReset u.regs = true := s.regs_setF _ _ hr
    have h1 := u.regs_setF F.ENG_SPARE_RES_BUSY 1 h0
    have he : s.spareCmd State.tileFail 1 p.toNat = (u.setF F.ENG_SPARE_RES_BUSY 1).setF F.ENG_SPARE_RES_ERR 0 := by
      rw [State.spareCmd_eq hb hp (by decide) (by decide)]
      simp only [hl]
      rfl
    rw [he]
    refine ⟨rfl, ?_, State.f_setF_same _ _ _ (by decide) h1, ?_, rfl⟩
    · rw [State.on, State.f_setF_other _ _ _ _ h1 (by decide), State.f_setF_same _ _ _ (by decide) h0]
      rfl
    · rw [State.f_setF_other _ _ _ _ h1 (by decide), State.f_setF_other _ _ _ _ h0 (by decide)]
      exact s.f_setF_same F.ENG_SPARE_RES_TILE p (by decide) hr
  · rw [State.spareCmd_eq hb hp (by decide) (by decide)]
    simp [hl]
  · rw [State.spareCmd_eq hb hp (by decide) (by decide)]
    simp [hl]
  · have hd' : (s.setF F.ENG_SPARE_RES_TILE p).eng.passed.contains p.toNat = false := hd
    rw [State.spareCmd_eq hb hp (by decide) (by decide)]
    simp only [hl, hd']
    rfl
  · have hd' : (s.setF F.ENG_SPARE_RES_TILE p).eng.passed.contains p.toNat = true := hd
    let u : State := { s.setF F.ENG_SPARE_RES_TILE p with eng := { s.eng with dis := s.eng.dis &&& ~~~ BitVec.ofNat 56 (2 ^ p.toNat), spareAt := some s.clk.slot } }
    have he : s.spareCmd State.tileFail 2 p.toNat = u.writeMap.spareResult 0 p.toNat := by
      rw [State.spareCmd_eq hb hp (by decide) (by decide)]
      simp only [hl, hd']
      rfl
    have h0 : swf regReset u.regs = true := s.regs_setF F.ENG_SPARE_RES_TILE p hr
    obtain ⟨g1, -, g3⟩ := State.writeMap_spec h0
    obtain ⟨r1, r2, r3, -⟩ := State.spareResult_spec (s := u.writeMap) 0 p.toNat (g3.canonical h0)
    have heng : u.writeMap.eng = u.eng := by simp
    rw [he]
    refine ⟨?_, r1, ?_⟩
    · rw [State.disabled, r2, heng]
      exact testBit_and_not_two_pow _ _ hp
    · rw [r3.f F.ENG_STAT_GEN (by decide), g1]
      exact congrArg (· + 1) (s.f_setF_reg F.ENG_SPARE_RES_TILE F.ENG_STAT_GEN p (by decide))
  · let u : State := { s.fwDone 2 with eng := { s.eng with
      test := none, passed := if pass then p.toNat :: dropWhere (· == p.toNat) s.eng.passed else dropWhere (· == p.toNat) s.eng.passed } }
    have h0 : swf regReset u.regs = true := hr
    have h1 := u.regs_setF F.ENG_SPARE_RES_BUSY 0 h0
    have h2 := (u.setF F.ENG_SPARE_RES_BUSY 0).regs_setF F.ENG_SPARE_RES_PASS (bit1 pass) h1
    obtain ⟨r1, r2, -, r4⟩ := State.spareResult_spec (s := (u.setF F.ENG_SPARE_RES_BUSY 0).setF F.ENG_SPARE_RES_PASS (bit1 pass)) 0 p.toNat h2
    have he : s.spareDone pass = ((u.setF F.ENG_SPARE_RES_BUSY 0).setF F.ENG_SPARE_RES_PASS (bit1 pass)).spareResult 0 p.toNat := by
      unfold State.spareDone
      rw [ht]
      rfl
    rw [if_pos hf, he]
    refine ⟨by rw [r2]; rfl, ?_, ?_, ?_, r1⟩
    · rw [r2]
      cases pass <;> simp [u, dropWhere]
    · rw [State.on, r4 F.ENG_SPARE_RES_BUSY rfl (by decide), State.f_setF_other _ _ _ _ h1 (by decide), State.f_setF_same _ _ _ (by decide) h0]
      rfl
    · rw [State.on, r4 F.ENG_SPARE_RES_PASS rfl (by decide), State.f_setF_same _ _ _ (by decide) h1]
      cases pass <;> rfl
  · unfold State.spareDone
    rw [ht]
    exact ite_self _

/-! ### Bytes, bit fields and the words of an extent -/

theorem leNat_natLe (n x : Nat) : leNat (natLe n x) = x % 256 ^ n := by
  induction n generalizing x with
  | zero => simp [natLe, leNat, Nat.mod_one]
  | succ n ih =>
    rw [natLe, leNat, ih, BitVec.toNat_ofNat, show (2 : Nat) ^ 8 = 256 from rfl, Nat.pow_succ', Nat.mod_mul]

theorem Mem.rdN_other (m : Mem) (a b n : Nat) (bs : Bytes) (h : b + n ≤ a ∨ a + bs.length ≤ b) : Mem.rdN (Mem.wrN m a bs) b n = Mem.rdN m b n := by
  induction n generalizing b with
  | zero => rfl
  | succ n ih => rw [Mem.rdN, Mem.rdN, Mem.rd_wrN_other m a b bs (by omega), ih (b + 1) (by omega)]

theorem Mem.rdN_same (m : Mem) (a : Nat) (bs : Bytes) (h : Mem.wf m = true) : Mem.rdN (Mem.wrN m a bs) a bs.length = bs := by
  induction bs generalizing m a with
  | nil => rfl
  | cons b bs ih =>
    have hw : Mem.wf (Mem.wr m a b) = true := swf_sset _ _ _ _ h
    rw [Mem.wrN, List.length_cons, Mem.rdN, ih _ _ hw, Mem.rd_wrN_other _ _ _ _ (Or.inl (by omega))]
    exact congrArg (· :: bs) (sget_sset_same _ _ _ _ h)

theorem putBits_eq (x lo n v : Nat) : putBits x lo n v = 2 ^ lo * (2 ^ n * (x / 2 ^ lo / 2 ^ n) + v % 2 ^ n) + x % 2 ^ lo := by
  have h1 := Nat.div_add_mod x (2 ^ lo)
  have h2 := Nat.div_add_mod (x / 2 ^ lo) (2 ^ n)
  unfold putBits bitsAt
  rw [Nat.shiftRight_eq_div_pow]
  generalize x / 2 ^ lo / 2 ^ n = h at *
  generalize hm : x / 2 ^ lo % 2 ^ n = m at *
  rw [← h2] at h1
  have h3 : x = 2 ^ lo * (2 ^ n * h) + m * 2 ^ lo + x % 2 ^ lo := by rw [Nat.mul_comm m, ← Nat.mul_add]; exact h1.symm
  rw [Nat.mul_add, Nat.mul_comm (2 ^ lo) (v % 2 ^ n)]
  omega

theorem bitsAt_putBits_same (x lo n v : Nat) : bitsAt (putBits x lo n v) lo n = v % 2 ^ n := by
  have hl := Nat.mod_lt x (Nat.two_pow_pos lo)
  rw [putBits_eq, bitsAt, Nat.shiftRight_eq_div_pow, Nat.mul_add_div (Nat.two_pow_pos lo), Nat.div_eq_of_lt hl, Nat.add_zero, Nat.mul_add_mod, Nat.mod_mod]

theorem putBits_shift (x lo n v k : Nat) (h : lo + n ≤ k) : putBits x lo n v >>> k = x >>> k := by
  obtain ⟨d, rfl⟩ := Nat.exists_eq_add_of_le h
  have hl := Nat.mod_lt x (Nat.two_pow_pos lo)
  have hv := Nat.mod_lt v (Nat.two_pow_pos n)
  rw [putBits_eq, Nat.shiftRight_eq_div_pow, Nat.shiftRight_eq_div_pow, Nat.pow_add, Nat.pow_add, ← Nat.div_div_eq_div_mul, ← Nat.div_div_eq_div_mul,
    Nat.mul_add_div (Nat.two_pow_pos lo), Nat.div_eq_of_lt hl, Nat.add_zero, Nat.mul_add_div (Nat.two_pow_pos n), Nat.div_eq_of_lt hv, Nat.add_zero,
    ← Nat.div_div_eq_div_mul, ← Nat.div_div_eq_div_mul]

theorem putBits_mod (x lo n v : Nat) : putBits x lo n v % 2 ^ lo = x % 2 ^ lo := by
  rw [putBits_eq, Nat.mul_add_mod, Nat.mod_mod]

/-- A field above or below the bits put is as before. -/
theorem bitsAt_putBits_other (x lo n v k w : Nat) (h : lo + n ≤ k ∨ k + w ≤ lo) : bitsAt (putBits x lo n v) k w = bitsAt x k w := by
  rcases h with h | h
  · rw [bitsAt, bitsAt, putBits_shift _ _ _ _ _ h]
  · have hm : ∀ y : Nat, bitsAt y k w = bitsAt (y % 2 ^ lo) k w := fun y => by
      obtain ⟨d, rfl⟩ := Nat.exists_eq_add_of_le h
      apply Nat.eq_of_testBit_eq
      intro i
      simp only [bitsAt, Nat.testBit_mod_two_pow, Nat.testBit_shiftRight]
      by_cases hi : i < w
      · have : k + i < k + w + d := by omega
        simp [hi, this]
      · simp [hi]
    rw [hm, putBits_mod, ← hm]

theorem bitAt_eq_bitsAt (x i : Nat) : bitAt x i = decide (bitsAt x i 1 = 1) := by
  have hb : bitsAt x i 1 = x / 2 ^ i % 2 := congrArg (· % 2) (Nat.shiftRight_eq_div_pow x i)
  exact Nat.testBit_eq_decide_div_mod_eq.trans (decide_eq_decide.2 (by rw [hb]))

theorem fieldAt_eq_bitsAt (w x lo : Nat) : fieldAt w x lo = BitVec.ofNat w (bitsAt x lo w) := by
  apply BitVec.eq_of_toNat_eq
  simp [fieldAt, bitsAt]

theorem putBits_lt (x lo n v k : Nat) (hx : x < 2 ^ k) (h : lo + n ≤ k) : putBits x lo n v < 2 ^ k := by
  have hs : putBits x lo n v >>> k = 0 := by
    rw [putBits_shift _ _ _ _ _ h, Nat.shiftRight_eq_div_pow, Nat.div_eq_of_lt hx]
  rw [Nat.shiftRight_eq_div_pow] at hs
  exact (Nat.div_eq_zero_iff_lt (Nat.two_pow_pos k)).1 hs

theorem leNat_lt (bs : Bytes) : leNat bs < 256 ^ bs.length := by
  induction bs with
  | nil => simp [leNat]
  | cons b bs ih =>
    have := b.isLt
    rw [leNat, List.length_cons, Nat.pow_succ]
    omega

theorem Mem.rdN_length (m : Mem) (a n : Nat) : (Mem.rdN m a n).length = n := by
  induction n generalizing a with
  | zero => rfl
  | succ n ih => rw [Mem.rdN, List.length_cons, ih]

theorem State.extW_lt (s : State) (i w : Nat) : s.extW i w < 2 ^ 64 := by
  have := leNat_lt (Mem.rdN s.mems.ext (64 * i + 8 * w) 8)
  rw [Mem.rdN_length] at this
  exact this

theorem State.extW_setExtW_same {s : State} (i w v : Nat) (h : Mem.wf s.mems.ext = true) : (s.setExtW i w v).extW i w = v % 2 ^ 64 := by
  have hl : (natLe 8 v).length = 8 := natLe_length 8 v
  have := Mem.rdN_same s.mems.ext (64 * i + 8 * w) (natLe 8 v) h
  rw [hl] at this
  unfold State.extW State.setExtW
  dsimp only
  rw [this, leNat_natLe]
  rfl

theorem State.extW_setExtW_other (s : State) (i w v j u : Nat) (h : i ≠ j ∨ w ≠ u) (hw : w < 8) (hu : u < 8) :
    (s.setExtW i w v).extW j u = s.extW j u := by
  unfold State.extW State.setExtW
  dsimp only
  rw [Mem.rdN_other]
  rw [natLe_length]
  omega

/-- A field of an extent put: the word with its bits. -/
theorem State.extW_setExtF {s : State} (i w lo n v : Nat) (hl : lo + n ≤ 64) (h : Mem.wf s.mems.ext = true) :
    (s.setExtF i w lo n v).extW i w = putBits (s.extW i w) lo n v := by
  unfold State.setExtF
  rw [State.extW_setExtW_same _ _ _ h, Nat.mod_eq_of_lt (putBits_lt _ _ _ _ _ (s.extW_lt i w) hl)]

theorem State.setExtF_wf {s : State} (i w lo n v : Nat) (h : Mem.wf s.mems.ext = true) : Mem.wf (s.setExtF i w lo n v).mems.ext = true :=
  Mem.wf_wrN _ _ _ h

theorem State.extW_setExtF_other (s : State) (i w lo n v j u : Nat) (h : i ≠ j ∨ w ≠ u) (hw : w < 8) (hu : u < 8) :
    (s.setExtF i w lo n v).extW j u = s.extW j u := s.extW_setExtW_other _ _ _ _ _ h hw hu

/-! ### Mirror repair (R489) -/

theorem State.repairStart_bad {s : State} {v : R32} {cp : Bool} (h : s.repairErr (fget F.FLT_RM_CMD_EXTENT v).toNat (fget F.FLT_RM_CMD_PARTNER v) cp ≠ 0) :
    s.repairStart v cp = (s.setF F.FLT_RM_RES_EXTENT (BitVec.ofNat 14 (fget F.FLT_RM_CMD_EXTENT v).toNat)).setF F.FLT_RM_RES_ERR
      (s.repairErr (fget F.FLT_RM_CMD_EXTENT v).toNat (fget F.FLT_RM_CMD_PARTNER v) cp) := if_pos h

theorem State.repairStart_ok {s : State} {v : R32} {cp : Bool} (h : s.repairErr (fget F.FLT_RM_CMD_EXTENT v).toNat (fget F.FLT_RM_CMD_PARTNER v) cp = 0) :
    s.repairStart v cp = (State.setExtF (State.setExtF ((s.setF F.FLT_RM_RES_EXTENT (BitVec.ofNat 14 (fget F.FLT_RM_CMD_EXTENT v).toNat)).setF F.FLT_RM_RES_ERR 0)
      (fget F.FLT_RM_CMD_EXTENT v).toNat 1 43 1 1) (fget F.FLT_RM_CMD_EXTENT v).toNat 1 44 6 (fget F.FLT_RM_CMD_PARTNER v).toNat).addBg
        (fget F.FLT_RM_CMD_EXTENT v).toNat (.repair 0) := by
  unfold State.repairStart
  dsimp only
  rw [h]
  exact if_neg (by decide)

/-- MIRRORED and its partner put into word 1 of an extent show in the extent. -/
theorem State.ext_mirrored {s : State} (i : Nat) (p : NodeId) (h : Mem.wf s.mems.ext = true) :
    (((s.setExtF i 1 43 1 1).setExtF i 1 44 6 p.toNat).ext i).mirrored = true ∧ (((s.setExtF i 1 43 1 1).setExtF i 1 44 6 p.toNat).ext i).partner = p := by
  have hw := State.setExtF_wf (s := s) i 1 43 1 1 h
  have h1 : ((s.setExtF i 1 43 1 1).setExtF i 1 44 6 p.toNat).extW i 1 = putBits (putBits (s.extW i 1) 43 1 1) 44 6 p.toNat := by
    rw [State.extW_setExtF _ _ _ _ _ (by decide) hw, State.extW_setExtF _ _ _ _ _ (by decide) h]
  refine ⟨?_, ?_⟩
  · change bitAt (((s.setExtF i 1 43 1 1).setExtF i 1 44 6 p.toNat).extW i 1) 43 = true
    rw [h1, bitAt_eq_bitsAt, bitsAt_putBits_other _ _ _ _ _ _ (by decide), bitsAt_putBits_same]
    rfl
  · change fieldAt 6 (((s.setExtF i 1 43 1 1).setExtF i 1 44 6 p.toNat).extW i 1) 44 = p
    have hp := p.isLt
    rw [h1, fieldAt_eq_bitsAt, bitsAt_putBits_same, Nat.mod_eq_of_lt hp]
    exact BitVec.eq_of_toNat_eq (by simp)

theorem State.ext_of_mems {s t : State} (h : t.mems.ext = s.mems.ext) (i : Nat) : t.ext i = s.ext i := by
  have hw : ∀ w, t.extW i w = s.extW i w := fun w => by rw [State.extW, State.extW, h]
  simp only [State.ext, hw]

theorem State.mirrored_rest (s : State) (i v w : Nat) (k : BgKind) :
    (((s.setExtF i 1 43 1 v).setExtF i 1 44 6 w).addBg i k).regs = s.regs ∧
      (((s.setExtF i 1 43 1 v).setExtF i 1 44 6 w).addBg i k).home.bg = s.home.bg ++ [⟨BitVec.ofNat 14 i, k⟩] ∧
      (((s.setExtF i 1 43 1 v).setExtF i 1 44 6 w).addBg i k).mems.pool = s.mems.pool := by
  simp [State.addBg, State.setExtF, State.setExtW]

/-! ### Sediment (R492 to R494) -/

/-- The three sediment commands share one function (R492). -/
theorem exec_sedOp {s t : State} {c : Instr} {op : BitVec 4} (hw : s.takes = true) (hc : (c, op) ∈ [(Instr.sedStart, 1), (.sedStop, 2), (.sedReplay, 3)])
    (h : State.sedOp barWin s op = t) : exec c s = .next t := by
  simp only [List.mem_cons, Prod.mk.injEq, List.not_mem_nil, or_false] at hc
  rcases hc with ⟨rfl, rfl⟩ | ⟨rfl, rfl⟩ | ⟨rfl, rfl⟩
  · exact exec_wr (f := fun s => State.sedOp barWin s 1) rfl hw h
  · exact exec_wr (f := fun s => State.sedOp barWin s 2) rfl hw h
  · exact exec_wr (f := fun s => State.sedOp barWin s 3) rfl hw h

section
variable {s : State} {op : BitVec 4}

theorem State.sedOp_waits (h : s.flt.sedCmd = none) (hd : s.due s.sedTick = false) (h1 : 1 ≤ op.toNat) (h3 : op.toNat ≤ 3) :
    State.sedOp barWin s op = { s with flt := { s.flt with sedCmd := some (op, s.sedTick) } } := by
  unfold State.sedOp
  rw [h]
  dsimp only
  rw [if_neg (by simp [hd])]
  exact if_pos ⟨h1, h3⟩

variable {t : R64} (h : s.flt.sedCmd = some (op, t))
include h

theorem State.sedOp_kept (hd : s.due t = false) : State.sedOp barWin s op = s := by
  unfold State.sedOp
  rw [h]
  dsimp only
  rw [if_pos rfl]
  exact if_neg (by simp [hd])

theorem State.sedOp_due (hd : s.due t = true) : State.sedOp barWin s op = State.sedAct barWin s op := by
  unfold State.sedOp
  rw [h]
  dsimp only
  rw [if_pos rfl]
  exact if_pos hd

end

/-- START and REPLAY empty the replay's state and set the mode (R492, R493). -/
theorem State.sedAct_starts {s : State} {op : BitVec 4} (h2 : op ≠ 2) (ho : s.on F.FLT_SED_STAT_OVF = false) (hr : swf regReset s.regs = true) :
    (State.sedAct barWin s op).f F.FLT_SED_STAT_MODE = (if op = 1 then 1 else 2) ∧ (State.sedAct barWin s op).flt.sedCmd = none ∧
      (State.sedAct barWin s op).flt.sedPos = [] ∧ (State.sedAct barWin s op).flt.sedIn = [] ∧ (State.sedAct barWin s op).flt.sedDiverged = false ∧
      (State.sedAct barWin s op).mems = s.mems := by
  have hj : ∀ u : State, u.sedJobs.regs = u.regs ∧ u.sedJobs.flt = u.flt ∧ u.sedJobs.mems = u.mems := fun u =>
    ⟨upto_keep State.regs _ _ _ (fun _ _ => rfl), upto_keep State.flt _ _ _ (fun _ _ => rfl), upto_keep State.mems _ _ _ (fun _ _ => rfl)⟩
  have ho' : ({ s with flt := { s.flt with sedCmd := none } } : State).on F.FLT_SED_STAT_OVF = false := ho
  unfold State.sedAct
  dsimp only
  rw [if_neg h2, if_neg (by simp [ho'])]
  obtain ⟨j1, j2, j3⟩ := hj { s with flt := { s.flt with
    sedCmd := none, sedPos := [], sedIn := [], sedDiverged := false
    sedWr := if decide (s.flt.sedWr = s.flt.sedRd) then 0 else s.flt.sedWr, sedRd := if decide (s.flt.sedWr = s.flt.sedRd) then 0 else s.flt.sedRd } }
  generalize State.sedJobs { s with flt := { s.flt with
    sedCmd := none, sedPos := [], sedIn := [], sedDiverged := false
    sedWr := if decide (s.flt.sedWr = s.flt.sedRd) then 0 else s.flt.sedWr, sedRd := if decide (s.flt.sedWr = s.flt.sedRd) then 0 else s.flt.sedRd } } = u at j1 j2 j3
  have hu : swf regReset u.regs = true := by rw [j1]; exact hr
  refine ⟨u.f_setF_same _ _ (by decide) hu, congrArg Flt.sedCmd j2, congrArg Flt.sedPos j2, congrArg Flt.sedIn j2,
    congrArg Flt.sedDiverged j2, j3⟩

theorem State.sedAct_stops {s : State} (hh : s.flt.sedHeld = []) (hi : s.flt.sedIn = []) :
    State.sedAct barWin s 2 =
      State.release barWin ((State.setF { s with flt := { s.flt with sedCmd := none } } F.FLT_SED_STAT_MODE 0).takeWrs sedRegs) := by
  have he : ∀ f : Flt, f.sedHeld = [] → f.sedIn = [] → { f with sedCmd := none, sedHeld := [], sedIn := [] } = { f with sedCmd := none, sedHeld := [] } := by
    rintro f h1 h2
    cases f
    simp_all
  unfold State.sedAct
  dsimp only
  rw [if_pos rfl, hh, State.sedRelease]
  exact congrArg (fun f : Flt => State.release barWin ((State.setF { s with flt := f } F.FLT_SED_STAT_MODE 0).takeWrs sedRegs)) (he s.flt hh hi)

theorem State.sedTimeout_reports {s : State} (hm : s.f F.FLT_SED_STAT_MODE = 2) (hw : s.f F.FLT_SED_CTL_WAIT ≠ 0) (ho : s.sedOverdue = true)
    (hd : s.flt.sedDiverged = false) (hr : swf regReset s.regs = true) :
    s.sedTimeout.flt = { s.flt with sedDiverged := true } ∧ s.sedTimeout.on F.FLT_SED_STAT_DIVERGED = true := by
  unfold State.sedTimeout
  dsimp only
  rw [if_neg (by rintro (h | h | h | h); exacts [h hm, hw h, by simp [ho] at h, by simp [hd] at h])]
  refine ⟨by simp, ?_⟩
  rw [State.on, State.f_post _ _ _ (by decide), State.f_setF_same { s with flt := { s.flt with sedDiverged := true } } _ _ (by decide) hr]
  rfl

/-- Settles O30. -/
theorem repairAndSediment : Obligations.RepairAndSediment := by
  refine ⟨fun s v cp i hw hi he => exec_wr (f := (State.repairStart · v cp)) rfl hw ?_, fun s v cp i hw hi he hr hm => goes_wr (f := (State.repairStart · v cp)) rfl hw ?_,
    fun s c op hw hn hd hc => exec_sedOp hw hc (State.sedOp_waits hn hd ?_ ?_), fun s c op t hw hk hd hc => exec_sedOp hw hc (State.sedOp_kept hk hd),
    fun s c op t hw hk hd hc ho hr => ?_, fun s t hw hk hd hh hi => exec_sedOp (op := 2) hw (by decide) ?_,
    fun s l hu hb hd hm => exec_up (f := fun s => s.inBackground bgSediment (fun s => State.sedSlot barWin s l)) rfl hu ?_,
    fun s l h => exec_same_up (f := fun s => s.inBackground bgSediment (fun s => State.sedSlot barWin s l)) rfl (if_neg ?_),
    fun s hu hm hw ho hd hr => goes_up (f := State.sedTimeout) rfl hu ?_,
    fun s h => exec_same_up (f := State.sedTimeout) rfl (if_pos (by simpa using h))⟩
  · subst hi
    exact State.repairStart_bad he
  · subst hi
    rw [State.repairStart_ok he]
    obtain ⟨h1, h2⟩ := State.ext_mirrored (s := (s.setF F.FLT_RM_RES_EXTENT (BitVec.ofNat 14 (fget F.FLT_RM_CMD_EXTENT v).toNat)).setF F.FLT_RM_RES_ERR 0)
      (fget F.FLT_RM_CMD_EXTENT v).toNat (fget F.FLT_RM_CMD_PARTNER v) hm
    have hf := (s.setF F.FLT_RM_RES_EXTENT (BitVec.ofNat 14 (fget F.FLT_RM_CMD_EXTENT v).toNat)).f_setF_same F.FLT_RM_RES_ERR 0 (by decide) (s.regs_setF _ _ hr)
    have hu : ((s.setF F.FLT_RM_RES_EXTENT (BitVec.ofNat 14 (fget F.FLT_RM_CMD_EXTENT v).toNat)).setF F.FLT_RM_RES_ERR 0).home = s.home ∧
      ((s.setF F.FLT_RM_RES_EXTENT (BitVec.ofNat 14 (fget F.FLT_RM_CMD_EXTENT v).toNat)).setF F.FLT_RM_RES_ERR 0).mems = s.mems := ⟨rfl, rfl⟩
    generalize (s.setF F.FLT_RM_RES_EXTENT (BitVec.ofNat 14 (fget F.FLT_RM_CMD_EXTENT v).toNat)).setF F.FLT_RM_RES_ERR 0 = u at hf hu h1 h2 ⊢
    obtain ⟨r1, r2, r3⟩ := u.mirrored_rest (fget F.FLT_RM_CMD_EXTENT v).toNat 1 (fget F.FLT_RM_CMD_PARTNER v).toNat (.repair 0)
    have he := State.ext_of_mems (s := (u.setExtF (fget F.FLT_RM_CMD_EXTENT v).toNat 1 43 1 1).setExtF (fget F.FLT_RM_CMD_EXTENT v).toNat 1 44 6
      (fget F.FLT_RM_CMD_PARTNER v).toNat) (t := ((u.setExtF (fget F.FLT_RM_CMD_EXTENT v).toNat 1 43 1 1).setExtF (fget F.FLT_RM_CMD_EXTENT v).toNat 1 44 6
        (fget F.FLT_RM_CMD_PARTNER v).toNat).addBg (fget F.FLT_RM_CMD_EXTENT v).toNat (.repair 0)) rfl (fget F.FLT_RM_CMD_EXTENT v).toNat
    exact ⟨(congrArg ExtE.mirrored he).trans h1, (congrArg ExtE.partner he).trans h2, r2.trans (by rw [hu.1]), (State.f_of_regs r1 _).trans hf, r3.trans (by rw [hu.2])⟩
  · simp only [List.mem_cons, Prod.mk.injEq, List.not_mem_nil, or_false] at hc
    rcases hc with ⟨-, rfl⟩ | ⟨-, rfl⟩ | ⟨-, rfl⟩ <;> decide
  · simp only [List.mem_cons, Prod.mk.injEq, List.not_mem_nil, or_false] at hc
    rcases hc with ⟨-, rfl⟩ | ⟨-, rfl⟩ | ⟨-, rfl⟩ <;> decide
  · have hc' : (c, op) ∈ [(Instr.sedStart, 1), (.sedStop, 2), (.sedReplay, 3)] ∧ op ≠ 2 := by
      simp only [List.mem_cons, Prod.mk.injEq, List.not_mem_nil, or_false] at hc ⊢
      rcases hc with ⟨rfl, rfl⟩ | ⟨rfl, rfl⟩
      · exact ⟨Or.inl ⟨rfl, rfl⟩, by decide⟩
      · exact ⟨Or.inr (Or.inr ⟨rfl, rfl⟩), by decide⟩
    exact ⟨_, exec_sedOp hw hc'.1 (State.sedOp_due hk hd), State.sedAct_starts hc'.2 ho hr⟩
  · rw [State.sedOp_due hk hd, State.sedAct_stops hh hi]
  · unfold State.inBackground
    rw [if_pos (by simp [hb, hd])]
    unfold State.sedSlot
    dsimp only
    rw [if_neg]
    exact hm
  · rcases h with h | h <;> simp [h]
  · obtain ⟨h1, h2⟩ := State.sedTimeout_reports hm hw ho hd hr
    exact ⟨by rw [h1], h2, by rw [h1]⟩

end Sys2Proof.Machine
end

section
/-!
PROOFS. Ports: their commands, their training, flits and tags received, retry, QUIET and DEEP.
-/

namespace Sys2Proof.Machine

/-! ### A port's state and its lanes (R505 to R507) -/

/-- The standing of a lane. -/
def laneStat (r : Nat) : Prop := ∃ i, r = Reg.LAN_L_STAT i

theorem not_laneStat_portStat (p : Nat) : ¬ laneStat (Reg.LAN_P_STAT p) := by
  rintro ⟨i, h⟩
  unfold Reg.LAN_P_STAT Reg.LAN_L_STAT at h
  omega

theorem not_laneStat_portCtl (p : Nat) : ¬ laneStat (Reg.LAN_P_CTL p) := by
  rintro ⟨i, h⟩
  unfold Reg.LAN_P_CTL Reg.LAN_L_STAT at h
  omega

/-- A loop that changes registers alone changes registers alone. -/
theorem foldl_regs_only {α : Type} {f : State → α → State} (hf : ∀ s a, { f s a with regs := s.regs } = s) (l : List α) (s : State) :
    { l.foldl f s with regs := s.regs } = s := by
  induction l generalizing s with
  | nil => rfl
  | cons a l ih =>
    have h1 := congrArg (fun t : State => { t with regs := s.regs }) (ih (f s a))
    exact h1.trans (hf s a)

theorem State.lanes_rest (s : State) (p : Nat) (st : BitVec 2) : { s.lanes p st with regs := s.regs } = s :=
  foldl_regs_only (f := fun s i => s.setF (F.LAN_L_STAT_STATE i) st) (fun _ _ => rfl) _ s

theorem State.toState_rest (s : State) (p : Nat) (st : BitVec 4) (la : BitVec 2) : { s.toState p st la with regs := s.regs } = s :=
  congrArg (fun t : State => { t with regs := s.regs }) ((s.setF (F.LAN_P_STAT_STATE p) st).lanes_rest p la)

theorem State.lanes_regsBut (s : State) (p : Nat) (st : BitVec 2) : RegsBut laneStat s (s.lanes p st) :=
  RegsBut.foldl (f := fun s i => s.setF (F.LAN_L_STAT_STATE i) st) (fun s i => (RegsBut.refl _ s).setF _ _ ⟨i, rfl⟩) _ _

/-- The registers that a port's state is shown in. -/
def stateRegs (p r : Nat) : Prop := r = Reg.LAN_P_STAT p ∨ laneStat r

theorem State.toState_regsBut (s : State) (p : Nat) (st : BitVec 4) (la : BitVec 2) : RegsBut (stateRegs p) s (s.toState p st la) :=
  ((RegsBut.refl _ s).setF (F.LAN_P_STAT_STATE p) st (Or.inl rfl)).trans ((State.lanes_regsBut _ p la).mono fun _ => Or.inr)

theorem State.toState_pState {s : State} (p : Nat) (st : BitVec 4) (la : BitVec 2) (h : swf regReset s.regs = true) : (s.toState p st la).pState p = st :=
  ((State.lanes_regsBut _ p la).f (F.LAN_P_STAT_STATE p) (not_laneStat_portStat p)).trans (s.f_setF_same _ _ (Nat.le_of_ble_eq_true rfl) h)

/-- A new state leaves the other fields of the port's register. -/
theorem State.toState_f {s : State} (p : Nat) (st : BitVec 4) (la : BitVec 2) (h : swf regReset s.regs = true) {w : Nat} (g : Fld w)
    (hg : g.off = Reg.LAN_P_STAT p) (hl : g.lo + w ≤ 28) : (s.toState p st la).f g = s.f g :=
  ((State.lanes_regsBut _ p la).f g (hg ▸ not_laneStat_portStat p)).trans (s.f_setF_other _ _ _ h (Or.inr (Or.inl hl)))

@[simp] theorem State.toState_out (s : State) (p : Nat) (st : BitVec 4) (la : BitVec 2) : (s.toState p st la).out = s.out :=
  (congrArg State.out (s.toState_rest p st la) :)

@[simp] theorem State.toState_lan (s : State) (p : Nat) (st : BitVec 4) (la : BitVec 2) : (s.toState p st la).lan = s.lan :=
  (congrArg State.lan (s.toState_rest p st la) :)

@[simp] theorem State.toState_ep (s : State) (p : Nat) (st : BitVec 4) (la : BitVec 2) : (s.toState p st la).ep = s.ep :=
  (congrArg State.ep (s.toState_rest p st la) :)

@[simp] theorem State.toState_lp (s : State) (p : Nat) (st : BitVec 4) (la : BitVec 2) (q : Nat) : (s.toState p st la).lp q = s.lp q := by
  rw [State.lp, State.lp, s.toState_lan]

theorem State.lp_setLp_same {s : State} (p : Nat) (v : LPort) (h : swf lport0 s.lan.ports = true) : (s.setLp p v).lp p = v :=
  sget_sset_same _ _ _ _ h

theorem State.ports_setLp {s : State} (p : Nat) (v : LPort) (h : swf lport0 s.lan.ports = true) : swf lport0 (s.setLp p v).lan.ports = true :=
  swf_sset _ _ _ _ h

/-! ### The start of a training (R505) -/

/-- Taking a loaded seed sets the port's key index, and the indices of its link. -/
theorem State.takeSeed_spec (s : State) (p : Nat) :
    RegsBut (· = Reg.SEC_PORT_N p) s (s.takeSeed p) ∧ (s.takeSeed p).out = s.out ∧ (s.takeSeed p).pwr = s.pwr ∧ (s.takeSeed p).ep = s.ep ∧
      (swf lport0 s.lan.ports = true → swf lport0 (s.takeSeed p).lan.ports = true) := by
  unfold State.takeSeed
  split
  · exact ⟨RegsBut.refl _ s, rfl, rfl, rfl, id⟩
  next b hb =>
    have h1 := (RegsBut.refl (· = Reg.SEC_PORT_N p) s).same_regs (u := { s with sec := { s.sec with
      seeds := sset noSeed s.sec.seeds p (some b), newSeeds := sset noSeed s.sec.newSeeds p none } }) rfl
    exact ⟨(h1.setF (F.SEC_PORT_N_TX_N p) 0 rfl).same_regs rfl, rfl, rfl, rfl, fun h => State.ports_setLp p _ h⟩

/-- The registers that the start of a training writes. -/
def trainRegs (p r : Nat) : Prop := r = Reg.SEC_PORT_N p ∨ stateRegs p r

/-- A new training clears what the port's lanes show of the last one. -/
def State.dropLanes (s : State) (p : Nat) : State :=
  (s.laneOf p).foldl (fun s i => (s.setF (F.LAN_L_STAT_ALIGNED i) 0).setF (F.LAN_L_STAT_FAILED i) 0) s

theorem State.dropLanes_rest (s : State) (p : Nat) : { s.dropLanes p with regs := s.regs } = s :=
  foldl_regs_only (f := fun s i => (s.setF (F.LAN_L_STAT_ALIGNED i) 0).setF (F.LAN_L_STAT_FAILED i) 0) (fun _ _ => rfl) _ s

theorem State.dropLanes_regsBut (s : State) (p : Nat) : RegsBut laneStat s (s.dropLanes p) :=
  RegsBut.foldl (f := fun s i => (s.setF (F.LAN_L_STAT_ALIGNED i) 0).setF (F.LAN_L_STAT_FAILED i) 0)
    (fun s i => ((RegsBut.refl _ s).setF (F.LAN_L_STAT_ALIGNED i) 0 ⟨i, rfl⟩).setF (F.LAN_L_STAT_FAILED i) 0 ⟨i, rfl⟩) _ _

/-- The fields of a port's register that a new training clears. -/
def State.clearStat (s : State) (p : Nat) : State :=
  ((((s.setF (F.LAN_P_STAT_PHASE p) 0).setF (F.LAN_P_STAT_ENC_ON p) 0).setF (F.LAN_P_STAT_HELD_WHY p) 0).setF (F.LAN_P_STAT_LANE_DOWN p) 0).setF
    (F.LAN_P_STAT_FAILED_LANE p) 0

theorem State.clearStat_regsBut (s : State) (p : Nat) : RegsBut (stateRegs p) s (s.clearStat p) :=
  (((((RegsBut.refl _ s).setF (F.LAN_P_STAT_PHASE p) 0 (Or.inl rfl)).setF (F.LAN_P_STAT_ENC_ON p) 0 (Or.inl rfl)).setF (F.LAN_P_STAT_HELD_WHY p) 0
    (Or.inl rfl)).setF (F.LAN_P_STAT_LANE_DOWN p) 0 (Or.inl rfl)).setF (F.LAN_P_STAT_FAILED_LANE p) 0 (Or.inl rfl)

theorem State.clearStat_phase {s : State} (p : Nat) (h : swf regReset s.regs = true) : (s.clearStat p).f (F.LAN_P_STAT_PHASE p) = 0 := by
  have h1 := s.regs_setF (F.LAN_P_STAT_PHASE p) 0 h
  have h2 := State.regs_setF _ (F.LAN_P_STAT_ENC_ON p) 0 h1
  have h3 := State.regs_setF _ (F.LAN_P_STAT_HELD_WHY p) 0 h2
  have h4 := State.regs_setF _ (F.LAN_P_STAT_LANE_DOWN p) 0 h3
  unfold State.clearStat
  rw [State.f_setF_other _ _ _ _ h4 (Or.inr (Or.inr (Nat.le_of_ble_eq_true rfl))), State.f_setF_other _ _ _ _ h3 (Or.inr (Or.inr (Nat.le_of_ble_eq_true rfl))),
    State.f_setF_other _ _ _ _ h2 (Or.inr (Or.inr (Nat.le_of_ble_eq_true rfl))), State.f_setF_other _ _ _ _ h1 (Or.inr (Or.inr (Nat.le_of_ble_eq_true rfl))),
    State.f_setF_same _ _ _ (Nat.le_of_ble_eq_true rfl) h]

theorem State.beginTraining_eq (s : State) (p : Nat) (full : Bool) :
    s.beginTraining p full = (State.toState (State.dropLanes (State.clearStat ((s.takeSeed p).setLp p
      { (s.takeSeed p).lp p with full := full, failed := [], peer := none, since := (s.takeSeed p).now }) p) p) p pTraining laTraining).emit (.train p full) := rfl

/-- A training that starts: the port in TRAINING at its first phase, told to its lanes (R505). -/
theorem State.beginTraining_spec {s : State} (p : Nat) (full : Bool) (h : swf regReset s.regs = true) :
    (s.beginTraining p full).pState p = pTraining ∧ (s.beginTraining p full).f (F.LAN_P_STAT_PHASE p) = 0 ∧
      (s.beginTraining p full).out = s.out ++ [.train p full] ∧ RegsBut (trainRegs p) s (s.beginTraining p full) ∧
      (swf lport0 s.lan.ports = true → ((s.beginTraining p full).lp p).full = full) := by
  obtain ⟨hk, ho, -, -, hp⟩ := s.takeSeed_spec p
  rw [s.beginTraining_eq, State.emit_eq _ _ rfl]
  generalize s.takeSeed p = u at hk ho hp
  have hv : ∃ v, v = u.setLp p { u.lp p with full := full, failed := [], peer := none, since := u.now } := ⟨_, rfl⟩
  obtain ⟨v, hv⟩ := hv
  rw [← hv]
  have hvr : v.regs = u.regs := by rw [hv]; rfl
  have hvs : swf regReset v.regs = true := by rw [hvr]; exact hk.canonical h
  have hc := v.clearStat_regsBut p
  have hd := (v.clearStat p).dropLanes_regsBut p
  have hds := hd.canonical (hc.canonical hvs)
  have hdo : ((v.clearStat p).dropLanes p).out = s.out := by
    rw [← ho, show u.out = v.out by rw [hv]; rfl]
    exact (congrArg State.out ((v.clearStat p).dropLanes_rest p) :)
  have hdl : ((v.clearStat p).dropLanes p).lan = v.lan := (congrArg State.lan ((v.clearStat p).dropLanes_rest p) :)
  refine ⟨State.toState_pState (s := (v.clearStat p).dropLanes p) p pTraining laTraining hds, ?_, ?_, ?_, fun hl => ?_⟩
  · refine (State.toState_f (s := (v.clearStat p).dropLanes p) p pTraining laTraining hds (F.LAN_P_STAT_PHASE p) rfl (Nat.le_of_ble_eq_true rfl)).trans ?_
    exact (hd.f (F.LAN_P_STAT_PHASE p) (not_laneStat_portStat p)).trans (v.clearStat_phase p hvs)
  · change (((v.clearStat p).dropLanes p).toState p pTraining laTraining).out ++ _ = _
    rw [State.toState_out, hdo]
  · have h1 : RegsBut (trainRegs p) s v := (hk.mono fun _ => Or.inl).same_regs hvr
    have h2 := (h1.trans (hc.mono fun _ => Or.inr)).trans (hd.mono fun _ hr => Or.inr (Or.inr hr))
    exact (h2.trans ((State.toState_regsBut _ p pTraining laTraining).mono fun _ => Or.inr)).same_regs rfl
  · change ((((v.clearStat p).dropLanes p).toState p pTraining laTraining).lp p).full = full
    rw [State.toState_lp, State.lp, hdl, hv]
    exact congrArg LPort.full (State.lp_setLp_same p _ (hp hl))

/-- Where the port has lanes and its split setting is in force, a training starts and nothing else (R505, R507). -/
theorem State.startTraining_eq {s : State} (p : Nat) (full : Bool) (hw : 0 < s.width p)
    (hs : 6 ≤ p → s.isSplit p = bitAt (s.f F.SWC_SPLIT_SPLIT).toNat ((p - 6) % 4)) : s.startTraining p full = s.beginTraining p full := by
  have ht : s.takeSplit p = s := by
    unfold State.takeSplit
    refine if_pos ?_
    by_cases hp : p < 6
    · exact Or.inl hp
    · exact Or.inr (Or.inr (hs (by omega)))
  have he : (s.beginTraining p full).isSplit p = s.isSplit p := by
    rw [State.isSplit, State.isSplit, s.beginTraining_eq, State.emit_eq _ _ rfl]
    change (decide (6 ≤ p) && bitAt ((State.toState _ p pTraining laTraining).ep).split.toNat ((p - 6) % 4)) = _
    rw [State.toState_ep, show ∀ u : State, (u.dropLanes p).ep = u.ep from fun u => (congrArg State.ep (u.dropLanes_rest p) :)]
    change (decide (6 ≤ p) && bitAt ((s.takeSeed p).ep).split.toNat ((p - 6) % 4)) = _
    rw [(s.takeSeed_spec p).2.2.2.1]
  unfold State.startTraining
  dsimp only
  rw [ht, if_neg (Nat.ne_of_gt hw), he]
  exact if_neg (by simp; intros; simp_all)

/-! ### Port commands (R505, R507, R509) -/

theorem portStat_ne_portCtl (p q : Nat) : Reg.LAN_P_STAT p ≠ Reg.LAN_P_CTL q := by
  unfold Reg.LAN_P_STAT Reg.LAN_P_CTL
  omega

theorem not_stateRegs_portCtl (p q : Nat) : ¬ stateRegs p (Reg.LAN_P_CTL q) := fun h =>
  h.elim (fun h => portStat_ne_portCtl p q h.symm) (not_laneStat_portCtl q)

theorem not_trainRegs_portCtl (p q : Nat) (hp : p < 14) : ¬ trainRegs p (Reg.LAN_P_CTL q) := by
  rintro (h | h)
  · unfold Reg.LAN_P_CTL Reg.SEC_PORT_N at h
    omega
  · exact not_stateRegs_portCtl p q h

section
variable {s : State} {p : Nat} (f : Fld 1) (v : BitVec 1) (hf : f.off = Reg.LAN_P_CTL p)
include hf

/-- A write to a port's control register leaves its state. -/
theorem State.pState_setCtl : (s.setF f v).pState p = s.pState p :=
  s.f_setF_reg f (F.LAN_P_STAT_STATE p) v (by rw [hf]; exact portStat_ne_portCtl p p)

theorem State.trained_setCtl : (s.setF f v).trained p = s.trained p := by
  rw [State.trained, State.trained, State.pState_setCtl f v hf]

theorem State.split_setCtl : (s.setF f v).f F.SWC_SPLIT_SPLIT = s.f F.SWC_SPLIT_SPLIT := by
  refine s.f_setF_reg f F.SWC_SPLIT_SPLIT v ?_
  rw [hf]
  simp only [F.SWC_SPLIT_SPLIT, Reg.SWC_SPLIT, Reg.LAN_P_CTL]
  omega

end

/-- What is handed over at a dropped link writes no register. -/
theorem State.handOver_regs (s : State) (p : Nat) (l : List TxItem) : (s.handOver p l).regs = s.regs := by
  induction l generalizing s with
  | nil => rfl
  | cons it l ih =>
    unfold State.handOver
    rw [ih]
    split
    · exact s.emit_regs _
    · rfl
    · exact s.leftPort_regs p it

theorem State.dropLink_regsBut (s : State) (p : Nat) : RegsBut (· = Reg.DTT_PORT_LAG p) s (s.dropLink p) := by
  unfold State.dropLink
  dsimp only
  have h1 : RegsBut (· = Reg.DTT_PORT_LAG p) s (if p < 6 then s.setF (F.DTT_PORT_LAG_VALID p) 0 else s) :=
    RegsBut.ite ((RegsBut.refl _ s).setF _ _ rfl) (RegsBut.refl _ s)
  generalize (if p < 6 then s.setF (F.DTT_PORT_LAG_VALID p) 0 else s) = u at h1 ⊢
  exact h1.same_regs ((State.handOver_regs _ p _).trans rfl)

/-- A port that trains and is turned off is OFF, with nothing but its link dropped (R505). -/
theorem State.portOff_training {s : State} {p : Nat} (hp : p < 14) (h : s.pState p = pTraining) (hr : swf regReset s.regs = true) :
    (s.portOff p).pState p = pOff ∧ (s.portOff p).on (F.LAN_P_CTL_EN p) = s.on (F.LAN_P_CTL_EN p) ∧ (s.portOff p).mems = s.mems := by
  have hwas : (s.trained p || decide (s.pState p = pQuiet) || decide (s.pState p = pDeep)) = false := by
    rw [State.trained, h]
    rfl
  unfold State.portOff
  dsimp only
  rw [hwas, if_neg (by decide)]
  have hd := s.dropLink_regsBut p
  have hb : RegsBut (stateRegs p) (s.dropLink p) (((s.dropLink p).setF (F.LAN_P_STAT_ENC_ON p) 0).setF (F.LAN_P_STAT_HELD_WHY p) 0) :=
    ((RegsBut.refl _ _).setF (F.LAN_P_STAT_ENC_ON p) 0 (Or.inl rfl)).setF (F.LAN_P_STAT_HELD_WHY p) 0 (Or.inl rfl)
  have hm : (s.dropLink p).mems = s.mems := by simp
  generalize s.dropLink p = u at hd hb hm ⊢
  refine ⟨State.toState_pState p pOff laDeep (hb.canonical (hd.canonical hr)), ?_, by simp [hm]⟩
  refine congrArg (· == 1) (((hb.trans (State.toState_regsBut _ p pOff laDeep)).f (F.LAN_P_CTL_EN p) (not_stateRegs_portCtl p p)).trans (hd.f _ ?_))
  simp only [F.LAN_P_CTL_EN, Reg.LAN_P_CTL, Reg.DTT_PORT_LAG]
  omega

theorem State.sendPattern_regs (s : State) (i : Nat) : (s.sendPattern i).regs = s.regs := by
  unfold State.sendPattern
  dsimp only
  split
  · exact s.emit_regs _
  · rfl

/-- Settles O31. -/
theorem portControl : Obligations.PortControl := by
  refine ⟨fun s p hw he hst hwd hsp hr hl => goes_wr (f := (State.portEnable · p.val true)) rfl hw ?_,
    fun s p hw he => exec_wr (f := (State.portEnable · p.val true)) rfl hw ?_,
    fun s p hw hst hr => goes_wr (f := (State.portEnable · p.val false)) rfl hw ?_,
    fun s p hw hst he hr => goes_wr (f := (State.portTest · p.val true)) rfl hw ?_,
    fun s p hw hst hr => goes_wr (f := (State.portTest · p.val false)) rfl hw ?_,
    fun s p b hw hst => exec_wr (f := (State.portTest · p.val b)) rfl hw ?_,
    fun s p hw hst => exec_wr (f := (State.retrain · p.val)) rfl hw (if_pos hst),
    fun s p hw ht => exec_wr (f := (State.retrain · p.val)) rfl hw ?_,
    fun s p hw ht hst => exec_wr (f := (State.retrain · p.val)) rfl hw ?_,
    fun s p b hw hp => exec_wr (f := (State.deepWrite · p.val b)) rfl hw (if_pos hp),
    fun s p hw hp hst => exec_wr (f := (State.deepWrite · p.val true)) rfl hw ?_,
    fun s p hw hp hst => exec_wr (f := (State.deepWrite · p.val true)) rfl hw ?_,
    fun s p hw hp hst => exec_wr (f := (State.deepWrite · p.val false)) rfl hw ?_,
    fun s p hu hst hwd hsp hr hl => goes_up (f := fun s => if s.pState p.val = pDeep then s.startTraining p.val false else s) rfl hu ?_,
    fun s p hst => exec_same_up (f := fun s => if s.pState p.val = pDeep then s.startTraining p.val false else s) rfl (if_neg hst)⟩
  · have hst' : s.pState p.val = pOff ∨ s.pState p.val = pTest ∨ s.pState p.val = pHeld := by simpa using hst
    unfold State.portEnable
    dsimp only
    rw [he, if_pos (by decide), State.pState_setCtl _ _ rfl, if_pos hst', State.startTraining_eq]
    · have hr1 := s.regs_setF (F.LAN_P_CTL_EN p.val) 1 hr
      obtain ⟨h1, h2, h3, h4, h5⟩ := State.beginTraining_spec (s := s.setF (F.LAN_P_CTL_EN p.val) 1) p.val true hr1
      refine ⟨h1, ?_, h2, h5 hl, h3, by simp⟩
      exact congrArg (· == 1) ((h4.f (F.LAN_P_CTL_EN p.val) (not_trainRegs_portCtl _ _ p.isLt)).trans (s.f_setF_same _ _ (Nat.le_of_ble_eq_true rfl) hr))
    · exact hwd
    · rw [State.split_setCtl _ _ rfl]
      exact hsp
  · unfold State.portEnable
    dsimp only
    rw [he]
    rfl
  · unfold State.portEnable
    dsimp only
    rw [if_neg (by simp), if_pos (by decide)]
    obtain ⟨h1, h2, h3⟩ := State.portOff_training (s := s.setF (F.LAN_P_CTL_EN p.val) 0) p.isLt ((State.pState_setCtl _ _ rfl).trans hst) (s.regs_setF _ _ hr)
    exact ⟨h1, h2.trans (congrArg (· == 1) (s.f_setF_same (F.LAN_P_CTL_EN p.val) 0 (Nat.le_of_ble_eq_true rfl) hr)), h3⟩
  · have hst1 : (s.setF (F.LAN_P_CTL_TEST p.val) 1).pState p.val = pOff := (State.pState_setCtl _ _ rfl).trans hst
    have he1 : (s.setF (F.LAN_P_CTL_TEST p.val) 1).on (F.LAN_P_CTL_EN p.val) = false :=
      (congrArg (· == 1) (s.f_setF_other _ _ _ hr (Or.inr (Or.inr (Nat.le_of_ble_eq_true rfl)))) : _).trans he
    have hr1 := s.regs_setF (F.LAN_P_CTL_TEST p.val) 1 hr
    have ht1 := s.f_setF_same (F.LAN_P_CTL_TEST p.val) 1 (Nat.le_of_ble_eq_true rfl) hr
    unfold State.portTest
    dsimp only
    rw [show bit1 true = 1 from rfl, if_pos ⟨rfl, hst1, by rw [he1]; rfl⟩]
    have hm : (s.setF (F.LAN_P_CTL_TEST p.val) 1).mems = s.mems := rfl
    generalize s.setF (F.LAN_P_CTL_TEST p.val) 1 = u at hr1 ht1 hm ⊢
    have hg : ((List.foldl State.sendPattern (u.toState p.val pTest laActive) ((u.toState p.val pTest laActive).laneOf p.val))).regs =
        (u.toState p.val pTest laActive).regs := foldl_keep State.regs _ _ _ State.sendPattern_regs
    refine ⟨(State.f_of_regs hg _).trans (State.toState_pState p.val pTest laActive hr1), ?_, ?_⟩
    · exact congrArg (· == 1) ((State.f_of_regs hg _).trans (((State.toState_regsBut u p.val pTest laActive).f (F.LAN_P_CTL_TEST p.val)
        (not_stateRegs_portCtl _ _)).trans ht1))
    · rw [foldl_keep State.mems _ _ _ (by simp)]
      simp [hm]
  · have hst1 : (s.setF (F.LAN_P_CTL_TEST p.val) 0).pState p.val = pTest := (State.pState_setCtl _ _ rfl).trans hst
    have hr1 := s.regs_setF (F.LAN_P_CTL_TEST p.val) 0 hr
    have ht1 := s.f_setF_same (F.LAN_P_CTL_TEST p.val) 0 (Nat.le_of_ble_eq_true rfl) hr
    unfold State.portTest
    dsimp only
    rw [show bit1 false = 0 from rfl, if_neg (by simp), if_pos ⟨by decide, hst1⟩]
    have hm : (s.setF (F.LAN_P_CTL_TEST p.val) 0).mems = s.mems := rfl
    generalize s.setF (F.LAN_P_CTL_TEST p.val) 0 = u at hr1 ht1 hm ⊢
    have hg : RegsBut laneStat (u.toState p.val pOff laDeep) (List.foldl (fun s i => s.setF (F.LAN_L_STAT_PRBS_LOCK i) 0) (u.toState p.val pOff laDeep)
        ((u.toState p.val pOff laDeep).laneOf p.val)) :=
      RegsBut.foldl (f := fun s i => s.setF (F.LAN_L_STAT_PRBS_LOCK i) 0) (fun s i => (RegsBut.refl _ s).setF _ _ ⟨i, rfl⟩) _ _
    refine ⟨(hg.f (F.LAN_P_STAT_STATE p.val) (not_laneStat_portStat _)).trans (State.toState_pState p.val pOff laDeep hr1), ?_, ?_⟩
    · exact congrArg (· == 1) ((hg.f _ (not_laneStat_portCtl _)).trans (((State.toState_regsBut u p.val pOff laDeep).f (F.LAN_P_CTL_TEST p.val)
        (not_stateRegs_portCtl _ _)).trans ht1))
    · rw [foldl_keep State.mems _ _ _ (by simp)]
      simp [hm]
  · have hst1 : (s.setF (F.LAN_P_CTL_TEST p.val) (bit1 b)).pState p.val = pUp := (State.pState_setCtl _ _ rfl).trans hst
    unfold State.portTest
    dsimp only
    rw [hst1, if_neg (fun h => absurd h.2.1 (by decide)), if_neg (fun h => absurd h.2 (by decide))]
  · have hne : s.pState p.val ≠ pHeld := fun h => by
      rw [State.trained, h] at ht
      exact absurd ht (by decide)
    exact (if_neg hne).trans (if_pos ht)
  · exact (if_neg hst).trans (if_neg (by simp [ht]))
  · have hst1 : (s.setF (F.LAN_P_CTL_DEEP p.val) 1).pState p.val = pUp := (State.pState_setCtl _ _ rfl).trans hst
    exact (if_neg (by omega)).trans (if_pos ⟨rfl, hst1⟩)
  · have hst1 : (s.setF (F.LAN_P_CTL_DEEP p.val) 1).pState p.val = pQuiet := (State.pState_setCtl _ _ rfl).trans hst
    exact (if_neg (by omega)).trans ((if_neg (fun h => absurd (hst1.symm.trans h.2) (by decide))).trans (if_pos ⟨rfl, hst1⟩))
  · have hst1 : (s.setF (F.LAN_P_CTL_DEEP p.val) 0).pState p.val = pDeep := (State.pState_setCtl _ _ rfl).trans hst
    exact (if_neg (by omega)).trans ((if_neg (fun h => absurd h.1 (by decide))).trans ((if_neg (fun h => absurd h.1 (by decide))).trans
      (if_pos ⟨rfl, hst1⟩)))
  · rw [if_pos hst, State.startTraining_eq _ _ hwd hsp]
    obtain ⟨h1, h2, h3, h4, h5⟩ := State.beginTraining_spec (s := s) p.val false hr
    exact ⟨h1, h5 hl, h3, by simp⟩

/-! ### Port training and identification (R505 to R507) -/

/-! ### Sealing a flit and sending a link message (R535) -/

/-- What sealing may change of a port: what it put on the wire, and the open frame. -/
def Sealed (l m : LPort) : Prop := ∃ ph a t n, m = { l with phy := ph, txAad := a, txPt := t, txIn := n }

theorem Sealed.refl (l : LPort) : Sealed l l := ⟨l.phy, l.txAad, l.txPt, l.txIn, rfl⟩

theorem Sealed.trans {l m n : LPort} (h : Sealed l m) (k : Sealed m n) : Sealed l n := by
  obtain ⟨_, _, _, _, rfl⟩ := h
  obtain ⟨a, b, c, d, rfl⟩ := k
  exact ⟨a, b, c, d, rfl⟩

/-- A port entry set changes the ports alone. -/
theorem State.seal_spec (s : State) (p : Nat) (f : Bytes) :
    { (s.seal p f).2 with lan := s.lan } = s ∧ (swf lport0 s.lan.ports = true →
      swf lport0 (s.seal p f).2.lan.ports = true ∧ Sealed (s.lp p) ((s.seal p f).2.lp p)) := by
  unfold State.seal
  dsimp only
  split
  · refine ⟨rfl, fun h => ⟨State.ports_setLp p _ h, ?_⟩⟩
    rw [State.lp_setLp_same p _ h]
    exact ⟨_, _, _, _, rfl⟩
  · exact ⟨rfl, fun h => ⟨h, Sealed.refl _⟩⟩

theorem State.sealAll_spec (s : State) (p : Nat) (fs : List Bytes) :
    { (s.sealAll p fs).2 with lan := s.lan } = s ∧ (swf lport0 s.lan.ports = true →
      swf lport0 (s.sealAll p fs).2.lan.ports = true ∧ Sealed (s.lp p) ((s.sealAll p fs).2.lp p)) := by
  induction fs generalizing s with
  | nil => exact ⟨rfl, fun h => ⟨h, Sealed.refl _⟩⟩
  | cons f fs ih =>
    obtain ⟨h1, h2⟩ := s.seal_spec p f
    unfold State.sealAll
    dsimp only
    generalize (s.seal p f).1 = g
    generalize (s.seal p f).2 = u at h1 h2 ⊢
    obtain ⟨k1, k2⟩ := ih (u.setLp p { u.lp p with phy := { (u.lp p).phy with wire := (u.lp p).phy.wire ++ [g] } })
    refine ⟨?_, fun h => ?_⟩
    · exact (congrArg (fun t : State => { t with lan := s.lan }) k1 : _).trans h1
    · obtain ⟨h3, h4⟩ := h2 h
      obtain ⟨k3, k4⟩ := k2 (State.ports_setLp p _ h3)
      refine ⟨k3, h4.trans (Sealed.trans ?_ k4)⟩
      rw [State.lp_setLp_same p _ h3]
      exact ⟨_, _, _, _, rfl⟩

/-- What a link message that is sent changes of a port: also the flits' number and the credits due. -/
def Linked (l m : LPort) : Prop := ∃ f d, Sealed { l with fnum := f, due := d } m

/-- A link message goes out at once and changes its port alone. -/
theorem State.linkNow_spec (s : State) (p : Nat) (m : LinkMsg) :
    { s.linkNow p m with lan := s.lan, out := s.out } = s ∧ (∃ b, (s.linkNow p m).out = s.out ++ [.link p m b]) ∧
      (swf lport0 s.lan.ports = true → swf lport0 (s.linkNow p m).lan.ports = true ∧ Linked (s.lp p) ((s.linkNow p m).lp p)) := by
  unfold State.linkNow LPort.report
  dsimp only
  obtain ⟨h1, h2⟩ := (s.setLp p { s.lp p with due := (s.lp p).due.drop 2, fnum := (s.lp p).fnum + 1 }).sealAll_spec p
    [linkFlit m (((s.lp p).due.take 2).map (fun v => (v, sget noFreed (s.lp p).rxFreed v)))]
  generalize (s.setLp p { s.lp p with due := (s.lp p).due.drop 2, fnum := (s.lp p).fnum + 1 }).sealAll p
    [linkFlit m (((s.lp p).due.take 2).map (fun v => (v, sget noFreed (s.lp p).rxFreed v)))] = r at h1 h2 ⊢
  rw [State.emit_eq _ _ rfl]
  refine ⟨(congrArg (fun t : State => { t with lan := s.lan, out := s.out }) h1 : _), ⟨r.1.headD [], ?_⟩, fun h => ?_⟩
  · change r.2.out ++ _ = _
    rw [show r.2.out = s.out from (congrArg State.out h1 : _)]
  · obtain ⟨h3, h4⟩ := h2 (State.ports_setLp p _ h)
    rw [State.lp_setLp_same p _ h] at h4
    exact ⟨h3, _, _, h4⟩

/-- A link message outside a calibration slot, or within one, where it waits. -/
theorem State.sendLink_now {s : State} {p : Nat} (m : LinkMsg) (h : s.calSlot p = false) : s.sendLink p m = s.linkNow p m :=
  if_neg (by simp [h])

/-- Whether a port's slot is its calibration slot depends on the set in force, the tables and the clock. -/
theorem State.calSlot_congr {s t : State} {p : Nat} (hd : t.rd Reg.DTT_TT_STAT = s.rd Reg.DTT_TT_STAT)
    (hl : ∀ n, n < 2 → t.rd (Reg.DTT_TT_LEN n) = s.rd (Reg.DTT_TT_LEN n))
    (hm : t.mems = s.mems) (hc : t.clk = s.clk) (hs : t.dtt.sSwap = s.dtt.sSwap) (he : t.ep.split = s.ep.split) : t.calSlot p = s.calSlot p := by
  have ha : t.activeSet = s.activeSet := by
    rw [State.activeSet, State.activeSet, State.on, State.on, State.f_of_rd F.DTT_TT_STAT_DEFAULT hd, State.f_of_rd F.DTT_TT_STAT_ACTIVE hd]
  unfold State.calSlot State.entry
  rw [ha]
  cases hn : s.activeSet with
  | none =>
    have hu : ∀ page, t.unsplitUpper page = s.unsplitUpper page := fun page => by rw [State.unsplitUpper, State.unsplitUpper, he]
    simp only [State.defaultEntry, hu, hc]
  | some n =>
    have hn2 : n < 2 := by
      unfold State.activeSet at hn
      split at hn
      · exact absurd hn (by simp)
      · have := (s.f F.DTT_TT_STAT_ACTIVE).isLt
        injection hn with hn
        omega
    have hlen : t.ttLen n = s.ttLen n := by rw [State.ttLen, State.ttLen, State.f_of_rd (F.DTT_TT_LEN_LEN n) (hl n hn2)]
    simp only [State.ttEntry, hlen, hm, hc, hs]

theorem nub_pair {a b : Nat} (h : a ≠ b) : (nub [a, b]).length = 2 := by
  simp [nub, h]

/-- The state and phase of a port survive whatever writes neither its register nor its lanes' registers. -/
theorem not_stateRegs_train (p q : Nat) : ¬ stateRegs p (Reg.LAN_P_TRAIN q) := by
  rintro (h | ⟨i, h⟩) <;> simp only [Reg.LAN_P_TRAIN, Reg.LAN_P_STAT, Reg.LAN_L_STAT] at h <;> omega

theorem portStat_not_evt (p : Nat) : Reg.LAN_P_STAT p ∉ evtRegs 0 := by
  simp only [evtRegs, Reg.LAN_P_STAT, Reg.QMG_EVT_TAIL, Reg.QMG_EVT_LOST, List.mem_cons, List.not_mem_nil, or_false]
  omega

theorem portTrain_not_evt (p : Nat) : Reg.LAN_P_TRAIN p ∉ evtRegs 0 := by
  simp only [evtRegs, Reg.LAN_P_TRAIN, Reg.QMG_EVT_TAIL, Reg.QMG_EVT_LOST, List.mem_cons, List.not_mem_nil, or_false]
  omega

/-- A phase that is done with no lane failed: the next one, before the ID exchange (R505). -/
theorem State.phaseDone_next {s : State} {p : Nat} (hst : s.pState p = pTraining) (hph : (s.f (F.LAN_P_STAT_PHASE p)).toNat < 3)
    (hf : (s.lp p).failed = []) (ho : s.phaseOver p = false) (hr : swf regReset s.regs = true) :
    (s.phaseDone p []).f (F.LAN_P_STAT_PHASE p) = s.f (F.LAN_P_STAT_PHASE p) + 1 ∧ (s.phaseDone p []).pState p = pTraining ∧
      (s.phaseDone p []).mems = s.mems ∧ (s.phaseDone p []).out = s.out := by
  have h3 : s.f (F.LAN_P_STAT_PHASE p) ≠ 3 := fun h => by
    rw [h] at hph
    exact absurd hph (by decide)
  unfold State.phaseDone
  dsimp only
  rw [hf, if_neg (by rw [hst]; simp; omega), if_neg (by simp [nub, ho]), if_neg (fun h => h3 h.1)]
  have hp1 := State.f_setF_same (s.setLp p { s.lp p with failed := nub ([] ++ []), since := s.now }) (F.LAN_P_STAT_PHASE p) (s.f (F.LAN_P_STAT_PHASE p) + 1)
    (Nat.le_of_ble_eq_true rfl) hr
  have hs1 : (State.setF (s.setLp p { s.lp p with failed := nub ([] ++ []), since := s.now }) (F.LAN_P_STAT_PHASE p) (s.f (F.LAN_P_STAT_PHASE p) + 1)).pState p = pTraining :=
    (State.f_setF_other _ _ (F.LAN_P_STAT_STATE p) _ hr (Or.inr (Or.inr (Nat.le_of_ble_eq_true rfl)))).trans hst
  have hm1 : (State.setF (s.setLp p { s.lp p with failed := nub ([] ++ []), since := s.now }) (F.LAN_P_STAT_PHASE p) (s.f (F.LAN_P_STAT_PHASE p) + 1)).mems = s.mems := rfl
  have ho1 : (State.setF (s.setLp p { s.lp p with failed := nub ([] ++ []), since := s.now }) (F.LAN_P_STAT_PHASE p) (s.f (F.LAN_P_STAT_PHASE p) + 1)).out = s.out := rfl
  generalize State.setF (s.setLp p { s.lp p with failed := nub ([] ++ []), since := s.now }) (F.LAN_P_STAT_PHASE p) (s.f (F.LAN_P_STAT_PHASE p) + 1) = u at hp1 hs1 hm1 ho1 ⊢
  split
  · have hl : RegsBut laneStat u ((u.laneOf p).foldl (fun s i => if (nub ([] ++ [])).contains (i - firstLane p) then s else s.setF (F.LAN_L_STAT_ALIGNED i) 1) u) :=
      RegsBut.foldl (f := fun s i => if (nub ([] ++ [])).contains (i - firstLane p) then s else s.setF (F.LAN_L_STAT_ALIGNED i) 1)
        (fun s i => RegsBut.ite (RegsBut.refl _ s) ((RegsBut.refl _ s).setF _ _ ⟨i, rfl⟩)) _ _
    refine ⟨(hl.f _ (not_laneStat_portStat p)).trans hp1, (hl.f (F.LAN_P_STAT_STATE p) (not_laneStat_portStat p)).trans hs1, ?_, ?_⟩
    · exact (foldl_keep State.mems _ _ _ (fun s i => by split <;> rfl)).trans hm1
    · exact (foldl_keep State.out _ _ _ (fun s i => by split <;> rfl)).trans ho1
  · exact ⟨hp1, hs1, hm1, ho1⟩

/-- A full training that fails is counted and leaves the port FAILED (R505). -/
theorem State.trainFail_full {s : State} {p : Nat} (hf : (s.lp p).full = true) (hr : swf regReset s.regs = true) (hl : swf lport0 s.lan.ports = true) :
    (s.trainFail p).pState p = pFailed ∧ (s.trainFail p).f (F.LAN_P_TRAIN_FAILS p) = s.f (F.LAN_P_TRAIN_FAILS p) + 1 ∧
      ((s.trainFail p).lp p).fullFails = (s.lp p).fullFails + 1 := by
  unfold State.trainFail State.incF
  dsimp only
  rw [if_neg (by simp [hf]), if_pos hf, if_pos hf]
  have hr1 := s.regs_setF (F.LAN_P_TRAIN_FAILS p) (s.f (F.LAN_P_TRAIN_FAILS p) + BitVec.ofNat 16 1) hr
  have hf1 := s.f_setF_same (F.LAN_P_TRAIN_FAILS p) (s.f (F.LAN_P_TRAIN_FAILS p) + BitVec.ofNat 16 1) (Nat.le_of_ble_eq_true rfl) hr
  have hl1 : (s.setF (F.LAN_P_TRAIN_FAILS p) (s.f (F.LAN_P_TRAIN_FAILS p) + BitVec.ofNat 16 1)).lan = s.lan := rfl
  generalize s.setF (F.LAN_P_TRAIN_FAILS p) (s.f (F.LAN_P_TRAIN_FAILS p) + BitVec.ofNat 16 1) = u at hr1 hf1 hl1 ⊢
  have hv : swf regReset (u.setLp p { s.lp p with shortFails := (s.lp p).shortFails, fullFails := (s.lp p).fullFails + 1 }).regs = true := hr1
  have hvl : swf lport0 (u.setLp p { s.lp p with shortFails := (s.lp p).shortFails, fullFails := (s.lp p).fullFails + 1 }).lan.ports = true :=
    State.ports_setLp p _ (by rw [hl1]; exact hl)
  have hvp : ((u.setLp p { s.lp p with shortFails := (s.lp p).shortFails, fullFails := (s.lp p).fullFails + 1 }).lp p).fullFails = (s.lp p).fullFails + 1 :=
    congrArg LPort.fullFails (State.lp_setLp_same p _ (by rw [hl1]; exact hl))
  have hvf : (u.setLp p { s.lp p with shortFails := (s.lp p).shortFails, fullFails := (s.lp p).fullFails + 1 }).f (F.LAN_P_TRAIN_FAILS p) = _ := hf1
  generalize u.setLp p { s.lp p with shortFails := (s.lp p).shortFails, fullFails := (s.lp p).fullFails + 1 } = v at hv hvl hvp hvf ⊢
  generalize ev 0xA1 stOk (2 ^ 16 * p + (v.f (F.LAN_P_STAT_PHASE p)).toNat) (v.lp p).fullFails = e
  have hb := v.post_regsBut e
  have hlan : (v.post e).lan = v.lan := by simp
  generalize v.post e = x at hb hlan ⊢
  refine ⟨State.toState_pState p pFailed laDeep (hb.canonical hv), ?_, ?_⟩
  · refine ((State.toState_regsBut _ p pFailed laDeep).f _ (not_stateRegs_train p p)).trans ?_
    exact (hb.f (F.LAN_P_TRAIN_FAILS p) (portTrain_not_evt p)).trans hvf
  · rw [State.toState_lp, State.lp_setLp_same p _ (by rw [hlan]; exact hvl)]
    change (x.lp p).fullFails = _
    rw [State.lp, hlan]
    exact hvp

/-! ### A port that comes up (R506) -/

/-- What a port that is UP tells: its heartbeat anew on a torus port, its event, and DEEP asked for on an attach port. -/
def State.announceUp (s : State) (p : Nat) (q : PortId) (prob : Bool) : State :=
  let s := if p < 6 then
      let s := ((s.setF (F.FLT_PORT_HB_DOWN p) 0).setF (F.FLT_PORT_HB_GOING p) 0).setF (F.FLT_PORT_HB_MISSED p) 0
      let s := (s.setF (F.FLT_PORT_HB_PEER p) q.node).setF (F.FLT_PORT_HB_PROB p) (bit1 prob)
      s.setPt p { noPort 0 with tick := s.now }
    else s
  let s : State := s.post (ev 0x81 stOk (2 ^ 16 * p + 256 * q.node.toNat + b2n prob) ((s.incOf q.node).getD 0).toNat)
  if 6 ≤ p ∧ s.on (F.LAN_P_CTL_DEEP p) then s.sendLink p .deepReq else s

/-- The registers of a port's heartbeat and of an event. -/
def announceRegs (p r : Nat) : Prop := (p < 6 ∧ r = Reg.FLT_PORT_HB p) ∨ r ∈ evtRegs 0

theorem not_announceRegs_portStat (p q : Nat) : ¬ announceRegs p (Reg.LAN_P_STAT q) := by
  rintro (⟨h, k⟩ | h)
  · simp only [Reg.LAN_P_STAT, Reg.FLT_PORT_HB] at k
    omega
  · exact portStat_not_evt q h

theorem not_announceRegs_train (p q : Nat) : ¬ announceRegs p (Reg.LAN_P_TRAIN q) := by
  rintro (⟨h, k⟩ | h)
  · simp only [Reg.LAN_P_TRAIN, Reg.FLT_PORT_HB] at k
    omega
  · exact portTrain_not_evt q h

theorem State.sendLink_grants {s : State} (p : Nat) (m : LinkMsg) (hl : swf lport0 s.lan.ports = true) :
    (s.sendLink p m).regs = s.regs ∧ (s.sendLink p m).ep = s.ep ∧ ((s.sendLink p m).lp p).grants = (s.lp p).grants := by
  unfold State.sendLink
  split
  · exact ⟨rfl, rfl, by rw [State.lp_setLp_same p _ hl]⟩
  · obtain ⟨h1, -, h3⟩ := s.linkNow_spec p m
    obtain ⟨-, f, d, _, _, _, _, h4⟩ := h3 hl
    exact ⟨(congrArg State.regs h1 :), (congrArg State.ep h1 :), by rw [h4]⟩

theorem State.announceUp_spec {s : State} (p : Nat) (q : PortId) (prob : Bool) (hl : swf lport0 s.lan.ports = true) :
    RegsBut (announceRegs p) s (s.announceUp p q prob) ∧ (s.announceUp p q prob).ep = s.ep ∧
      ((s.announceUp p q prob).lp p).grants = (s.lp p).grants := by
  unfold State.announceUp
  dsimp only
  have h1 : ∀ u : State, (u = if p < 6 then
      (((((s.setF (F.FLT_PORT_HB_DOWN p) 0).setF (F.FLT_PORT_HB_GOING p) 0).setF (F.FLT_PORT_HB_MISSED p) 0).setF (F.FLT_PORT_HB_PEER p) q.node).setF
        (F.FLT_PORT_HB_PROB p) (bit1 prob)).setPt p { noPort 0 with tick := s.now } else s) →
      RegsBut (announceRegs p) s u ∧ u.lan = s.lan ∧ u.ep = s.ep := by
    rintro u rfl
    split
    next h =>
      have hr : announceRegs p (Reg.FLT_PORT_HB p) := Or.inl ⟨h, rfl⟩
      exact ⟨((((((RegsBut.refl _ s).setF (F.FLT_PORT_HB_DOWN p) 0 hr).setF (F.FLT_PORT_HB_GOING p) 0 hr).setF (F.FLT_PORT_HB_MISSED p) 0 hr).setF
        (F.FLT_PORT_HB_PEER p) q.node hr).setF (F.FLT_PORT_HB_PROB p) (bit1 prob) hr).same_regs rfl, rfl, rfl⟩
    · exact ⟨RegsBut.refl _ s, rfl, rfl⟩
  generalize hu : (if p < 6 then _ else s) = u
  obtain ⟨h2, h3, h4⟩ := h1 u hu.symm
  have hb := (h2.trans ((State.post_regsBut u (ev 0x81 stOk (2 ^ 16 * p + 256 * q.node.toNat + b2n prob) ((u.incOf q.node).getD 0).toNat)).mono fun _ => Or.inr))
  have hlan : (u.post (ev 0x81 stOk (2 ^ 16 * p + 256 * q.node.toNat + b2n prob) ((u.incOf q.node).getD 0).toNat)).lan = s.lan := by simp [h3]
  have hep : (u.post (ev 0x81 stOk (2 ^ 16 * p + 256 * q.node.toNat + b2n prob) ((u.incOf q.node).getD 0).toNat)).ep = s.ep := by simp [h4]
  generalize u.post _ = x at hb hlan hep ⊢
  have hg : (x.lp p).grants = (s.lp p).grants := by rw [State.lp, hlan]; rfl
  split
  · obtain ⟨k1, k2, k3⟩ := State.sendLink_grants (s := x) p .deepReq (by rw [hlan]; exact hl)
    exact ⟨hb.same_regs k1, k2.trans hep, k3.trans hg⟩
  · exact ⟨hb, hep, hg⟩

/-- The port's own state as it comes up: the peer's grants, and its training's counts settled. -/
def LPort.ready (l : LPort) (now : R64) (q : PortId) (enc : Bool) : LPort :=
  { l with
    grants := q.grants, goodAt := now, peer := none, shortFails := if l.full then l.shortFails else 0
    fullFails := if l.full then 0 else l.fullFails, firstFrame := enc, txIn := 0 }

/-- What a port that is UP shows of its peer. -/
def State.showPeer (s : State) (p : Nat) (q : PortId) (enc : Bool) : State :=
  (((s.setF (F.LAN_P_STAT_PEER_NODE p) q.node).setF (F.LAN_P_STAT_PEER_PORT p) q.port).setF (F.LAN_P_STAT_ENC_ON p) (bit1 enc)).incF (F.LAN_P_TRAIN_DONE p) 1

/-- The lane that failed in training, shown. -/
def State.showFailed (s : State) (p : Nat) : State :=
  match (s.lp p).failed with
  | f :: _ => (((s.setF (F.LAN_P_STAT_LANE_DOWN p) 1).setF (F.LAN_P_STAT_FAILED_LANE p) (BitVec.ofNat 7 f)).setF (F.LAN_L_STAT_FAILED (firstLane p + f)) 1)
  | [] => s

theorem State.showFailed_nil {s : State} {p : Nat} (h : (s.lp p).failed = []) : s.showFailed p = s := by
  unfold State.showFailed
  rw [h]

/-- A port comes up in parts: its own state, its keys' indices, what it shows, its state, what it tells (R506). -/
theorem State.portUp_parts {s : State} {p : Nat} {q : PortId} {enc prob : Bool}
    (he : ((s.on (F.LAN_P_CTL_ENC p) || q.encReq) && s.on (F.SEC_PORT_ST_SEED p) && q.encCap) = enc)
    (hp : (decide (p < 6) && (s.expelled q.node || s.on F.FLT_STAT_SELF_EXP)) = prob) :
    s.portUp p q = (((((if enc then ((s.setLp p ((s.lp p).ready s.now q enc)).advTx p).advRx p else s.setLp p ((s.lp p).ready s.now q enc)).showPeer p q enc).showFailed
      p).toState p (if prob then pProbation else pUp) laActive).announceUp p q prob) := by
  subst he hp
  rfl

theorem State.showPeer_spec {s : State} (p : Nat) (q : PortId) (hr : swf regReset s.regs = true) :
    (s.showPeer p q false).f (F.LAN_P_STAT_PEER_NODE p) = q.node ∧ (s.showPeer p q false).f (F.LAN_P_TRAIN_DONE p) = s.f (F.LAN_P_TRAIN_DONE p) + 1 ∧
      (s.showPeer p q false).on (F.LAN_P_STAT_ENC_ON p) = false ∧ swf regReset (s.showPeer p q false).regs = true := by
  have hne : Reg.LAN_P_TRAIN p ≠ Reg.LAN_P_STAT p := by
    unfold Reg.LAN_P_TRAIN Reg.LAN_P_STAT
    omega
  have h1 := s.regs_setF (F.LAN_P_STAT_PEER_NODE p) q.node hr
  have h2 := State.regs_setF _ (F.LAN_P_STAT_PEER_PORT p) q.port h1
  have h3 := State.regs_setF _ (F.LAN_P_STAT_ENC_ON p) (bit1 false) h2
  unfold State.showPeer State.incF
  refine ⟨?_, ?_, ?_, State.regs_setF _ _ _ h3⟩
  · rw [State.f_setF_reg _ _ _ _ hne.symm, State.f_setF_other _ _ _ _ h2 (Or.inr (Or.inl (Nat.le_of_ble_eq_true rfl))),
      State.f_setF_other _ _ _ _ h1 (Or.inr (Or.inr (Nat.le_of_ble_eq_true rfl))), State.f_setF_same _ _ _ (Nat.le_of_ble_eq_true rfl) hr]
  · rw [State.f_setF_same _ _ _ (Nat.le_of_ble_eq_true rfl) h3, State.f_setF_reg _ _ _ _ hne, State.f_setF_reg _ _ _ _ hne, State.f_setF_reg _ _ _ _ hne]
    rfl
  · rw [State.on, State.f_setF_reg _ _ _ _ hne.symm, State.f_setF_same _ _ _ (Nat.le_of_ble_eq_true rfl) h2]
    rfl

/-- An unencrypted port with no lane failed comes up. -/
theorem State.portUp_spec {s : State} {p : Nat} {q : PortId} (he : s.on (F.LAN_P_CTL_ENC p) = false) (hq : q.encReq = false) (hf : (s.lp p).failed = [])
    (hr : swf regReset s.regs = true) (hl : swf lport0 s.lan.ports = true) :
    (s.portUp p q).pState p = (if p < 6 ∧ (s.expelled q.node = true ∨ s.on F.FLT_STAT_SELF_EXP = true) then pProbation else pUp) ∧
      (s.portUp p q).f (F.LAN_P_STAT_PEER_NODE p) = q.node ∧ (s.portUp p q).f (F.LAN_P_TRAIN_DONE p) = s.f (F.LAN_P_TRAIN_DONE p) + 1 ∧
      (s.portUp p q).on (F.LAN_P_STAT_ENC_ON p) = false ∧ ((s.portUp p q).lp p).grants = q.grants ∧ (s.portUp p q).ep = s.ep := by
  obtain ⟨prob, hprob⟩ : ∃ b, (decide (p < 6) && (s.expelled q.node || s.on F.FLT_STAT_SELF_EXP)) = b := ⟨_, rfl⟩
  have hif : (if p < 6 ∧ (s.expelled q.node = true ∨ s.on F.FLT_STAT_SELF_EXP = true) then pProbation else pUp) = if prob then pProbation else pUp := by
    rw [← hprob]
    simp only [Bool.and_eq_true, decide_eq_true_eq, Bool.or_eq_true]
  rw [hif, State.portUp_parts (enc := false) (by rw [he, hq]; rfl) hprob, if_neg (by decide)]
  have hlp := State.lp_setLp_same (s := s) p ((s.lp p).ready s.now q false) hl
  have hvl := State.ports_setLp (s := s) p ((s.lp p).ready s.now q false) hl
  have hv : (s.setLp p ((s.lp p).ready s.now q false)).regs = s.regs := rfl
  have hve : (s.setLp p ((s.lp p).ready s.now q false)).ep = s.ep := rfl
  generalize s.setLp p ((s.lp p).ready s.now q false) = v at hlp hvl hv hve ⊢
  obtain ⟨h1, h2, h3, h4⟩ := State.showPeer_spec (s := v) p q (by rw [hv]; exact hr)
  have hn : ((v.showPeer p q false).lp p) = v.lp p := rfl
  rw [State.showFailed_nil (by rw [hn, hlp]; exact hf)]
  rw [State.f_of_regs hv] at h2
  have hwl : (v.showPeer p q false).lan = v.lan := rfl
  have hwe : (v.showPeer p q false).ep = s.ep := hve
  generalize v.showPeer p q false = w at h1 h2 h3 h4 hn hwl hwe ⊢
  have hst := State.toState_pState p (if prob then pProbation else pUp) laActive h4
  have hfs : ∀ {k : Nat} (g : Fld k), g.off = Reg.LAN_P_STAT p → g.lo + k ≤ 28 → _ := fun g => State.toState_f p (if prob then pProbation else pUp) laActive h4 g
  have htr := (State.toState_regsBut w p (if prob then pProbation else pUp) laActive).f (F.LAN_P_TRAIN_DONE p) (not_stateRegs_train p p)
  have hlan := w.toState_lan p (if prob then pProbation else pUp) laActive
  have hep := w.toState_ep p (if prob then pProbation else pUp) laActive
  have hxn := w.toState_lp p (if prob then pProbation else pUp) laActive p
  have hp1 := hfs (F.LAN_P_STAT_PEER_NODE p) rfl (Nat.le_of_ble_eq_true rfl)
  have hp2 := hfs (F.LAN_P_STAT_ENC_ON p) rfl (Nat.le_of_ble_eq_true rfl)
  generalize w.toState p (if prob then pProbation else pUp) laActive = x at hst htr hlan hep hxn hp1 hp2 ⊢
  obtain ⟨k1, k2, k3⟩ := State.announceUp_spec (s := x) p q prob (by rw [hlan, hwl]; exact hvl)
  have hs := not_announceRegs_portStat p p
  refine ⟨(k1.f (F.LAN_P_STAT_STATE p) hs).trans hst, ((k1.f (F.LAN_P_STAT_PEER_NODE p) hs).trans hp1).trans h1,
    ((k1.f _ (not_announceRegs_train p p)).trans htr).trans h2, (congrArg (· == 1) ((k1.f (F.LAN_P_STAT_ENC_ON p) hs).trans hp2) : _).trans h3, ?_, ?_⟩
  · rw [k3, hxn, hn, hlp]
    rfl
  · rw [k2, hep, hwe]

/-- A record with a fault holds the port and shows why (R506). -/
theorem State.checkPortId_held {s : State} {p : Nat} {q : PortId} (h : s.heldWhy p q ≠ 0) (hr : swf regReset s.regs = true) :
    (s.checkPortId p q).pState p = pHeld ∧ (s.checkPortId p q).f (F.LAN_P_STAT_HELD_WHY p) = s.heldWhy p q ∧
      (s.checkPortId p q).f (F.LAN_P_STAT_PEER_NODE p) = q.node ∧ (s.checkPortId p q).f (F.LAN_P_STAT_PEER_PORT p) = q.port := by
  unfold State.checkPortId
  dsimp only
  rw [if_neg h]
  have h1 := s.regs_setF (F.LAN_P_STAT_HELD_WHY p) (s.heldWhy p q) hr
  have hw := s.f_setF_same (F.LAN_P_STAT_HELD_WHY p) (s.heldWhy p q) (Nat.le_of_ble_eq_true rfl) hr
  generalize s.setF (F.LAN_P_STAT_HELD_WHY p) (s.heldWhy p q) = u at h1 hw ⊢
  have h2 := (u.toState_regsBut p pHeld laQuiet).canonical h1
  have hst := State.toState_pState p pHeld laQuiet h1
  have hw2 := (State.toState_f p pHeld laQuiet h1 (F.LAN_P_STAT_HELD_WHY p) rfl (Nat.le_of_ble_eq_true rfl)).trans hw
  generalize u.toState p pHeld laQuiet = v at h2 hst hw2 ⊢
  have h3 := v.regs_setF (F.LAN_P_STAT_PEER_NODE p) q.node h2
  have hev := fun {k : Nat} (x : State) (e : Ev) (g : Fld k) (hg : g.off = Reg.LAN_P_STAT p) => x.f_post e g (by rw [hg]; exact portStat_not_evt p)
  refine ⟨(hev _ _ (F.LAN_P_STAT_STATE p) rfl).trans ?_, (hev _ _ _ rfl).trans ?_, (hev _ _ _ rfl).trans ?_, (hev _ _ _ rfl).trans ?_⟩
  · exact (State.f_setF_other _ _ (F.LAN_P_STAT_STATE p) _ h3 (Or.inr (Or.inr (Nat.le_of_ble_eq_true rfl)))).trans
      ((v.f_setF_other _ (F.LAN_P_STAT_STATE p) _ h2 (Or.inr (Or.inr (Nat.le_of_ble_eq_true rfl)))).trans hst)
  · exact (State.f_setF_other _ _ _ _ h3 (Or.inr (Or.inl (Nat.le_of_ble_eq_true rfl)))).trans
      ((v.f_setF_other _ _ _ h2 (Or.inr (Or.inl (Nat.le_of_ble_eq_true rfl)))).trans hw2)
  · exact (State.f_setF_other _ _ _ _ h3 (Or.inr (Or.inr (Nat.le_of_ble_eq_true rfl)))).trans (v.f_setF_same _ _ (Nat.le_of_ble_eq_true rfl) h2)
  · exact State.f_setF_same _ _ _ (Nat.le_of_ble_eq_true rfl) h3

/-- With no snoop held, there is none to deliver. -/
theorem State.flushSnoops_nil {s : State} (port : Nat) (h : s.ep.snoopHeld = []) : s.flushSnoops port = s := by
  have he : ∀ e : Ep, e.snoopHeld = [] → { e with snoopHeld := [] } = e := by
    rintro e h
    cases e
    simp_all
  unfold State.flushSnoops
  dsimp only
  rw [h]
  exact congrArg (fun e => { s with ep := e }) (he s.ep h)

/-- A port identification, and the snoops held for a port that is now trained. -/
def State.portIdDone (p : Nat) (q : PortId) (s : State) : State :=
  if 6 ≤ p ∧ (s.portIdArrive p q).trained p then (s.portIdArrive p q).flushSnoops (p - 6) else s.portIdArrive p q

theorem exec_portId (p : Fin 14) (q : PortId) (s : State) : exec (.portId p q) s = whenUp s (State.portIdDone p.val q) := rfl

theorem State.portIdArrive_out {s : State} {p : Nat} (q : PortId) (h : s.pState p ≠ pTraining) : s.portIdArrive p q = s := if_pos (Or.inl h)

theorem State.portIdArrive_in {s : State} {p : Nat} (q : PortId) (h : s.pState p = pTraining) (hp : s.f (F.LAN_P_STAT_PHASE p) = 4) :
    s.portIdArrive p q = if s.waitsLock p then s.setLp p { s.lp p with peer := some q } else s.checkPortId p q :=
  if_neg (by rintro (k | k) <;> contradiction)

theorem State.portIdDone_untrained {s : State} {p : Nat} {q : PortId} (h : (s.portIdArrive p q).trained p = false) : s.portIdDone p q = s.portIdArrive p q :=
  if_neg (by simp [h])

theorem State.portIdDone_torus {s : State} {p : Nat} {q : PortId} (h : p < 6) : s.portIdDone p q = s.portIdArrive p q :=
  if_neg (by omega)

theorem State.trained_of_pState {s : State} {p : Nat} {st : BitVec 4} (h : s.pState p = st) : s.trained p = (decide (st = pUp) || decide (st = pProbation)) := by
  rw [State.trained, h]

/-- Settles O32. -/
theorem portTraining : Obligations.PortTraining := by
  refine ⟨fun s p hu hst hph hf ho hr => goes_up (f := (State.phaseDone · p.val [])) rfl hu (State.phaseDone_next hst hph hf ho hr),
    fun s p a b hu hst hph hf hab => exec_up (f := (State.phaseDone · p.val ([a, b].map (·.toNat)))) rfl hu ?_,
    fun s p l hu hst hph ho => exec_up (f := (State.phaseDone · p.val (l.map (·.toNat)))) rfl hu ?_,
    fun s p hu hst hk hf hr hl => goes_up (f := fun s => if s.pState p.val = pTraining ∧ !s.heldForLock p.val then s.trainFail p.val else s) rfl hu ?_,
    fun s p l q hst => ⟨exec_same_up (f := (State.phaseDone · p.val (l.map (·.toNat)))) rfl (if_pos (Or.inl hst)),
      exec_same_up (f := fun s => if s.pState p.val = pTraining ∧ !s.heldForLock p.val then s.trainFail p.val else s) rfl (if_neg (fun h => hst h.1)),
      fun h => exec_same_up (exec_portId p q s) ?_⟩,
    fun s p hu hst he ht hw hsp hr => goes_up (f := fun s => if s.pState p.val = pFailed ∧ s.on (F.LAN_P_CTL_EN p.val) ∧
      25000000 ≤ s.now.toNat - (s.lp p.val).since.toNat then s.startTraining p.val true else s) rfl hu ?_,
    fun s p h => exec_same_up (f := fun s => if s.pState p.val = pFailed ∧ s.on (F.LAN_P_CTL_EN p.val) ∧
      25000000 ≤ s.now.toNat - (s.lp p.val).since.toNat then s.startTraining p.val true else s) rfl (if_neg ?_),
    fun s p q hu hst hph hw hy he hq hf hn hr hl => goes_up (exec_portId p q s) hu ?_,
    fun s p q hu hst hph hw hy hr => goes_up (exec_portId p q s) hu ?_,
    fun s p q hu hst hph hw => exec_up (exec_portId p q s) hu ?_⟩
  · have hne : a.toNat ≠ b.toNat := fun h => hab (BitVec.eq_of_toNat_eq h)
    unfold State.phaseDone
    dsimp only
    rw [if_neg (by rw [hst]; simp; omega), if_pos]
    refine Or.inl ?_
    rw [hf]
    change _ < (nub [a.toNat, b.toNat]).length
    rw [nub_pair hne]
    split <;> decide
  · unfold State.phaseDone
    dsimp only
    rw [if_neg (by rw [hst]; simp; omega), if_pos (Or.inr ho)]
  · rw [if_pos ⟨hst, by rw [hk]; rfl⟩]
    exact State.trainFail_full hf hr hl
  · rcases h with h | h
    · rw [State.portIdDone_torus h, State.portIdArrive_out q hst]
    · have ho := State.portIdArrive_out q hst
      rw [State.portIdDone_untrained (by rw [ho]; exact h), ho]
  · rw [if_pos ⟨hst, he, ht⟩, State.startTraining_eq _ _ hw hsp]
    obtain ⟨h1, -, h3, -, -⟩ := State.beginTraining_spec (s := s) p.val true hr
    exact ⟨h1, h3, by simp⟩
  · rintro ⟨h1, -, h2⟩
    rcases h with h | h
    · exact h h1
    · omega
  · have ha : s.portIdArrive p.val q = s.portUp p.val q := by
      rw [State.portIdArrive_in q hst hph, if_neg (by simp [hw])]
      exact if_pos hy
    obtain ⟨h1, h2, h3, h4, h5, h6⟩ := State.portUp_spec he hq hf hr hl
    have hd : s.portIdDone p.val q = s.portUp p.val q := by
      unfold State.portIdDone
      rw [ha, State.flushSnoops_nil _ (by rw [h6]; exact hn), ite_self]
    rw [hd]
    exact ⟨h1, h2, h3, h4, h5⟩
  · have ha : s.portIdArrive p.val q = s.checkPortId p.val q := by
      rw [State.portIdArrive_in q hst hph, if_neg (by simp [hw])]
    have h := State.checkPortId_held hy hr
    have hd : s.portIdDone p.val q = s.checkPortId p.val q :=
      (State.portIdDone_untrained (by rw [ha, State.trained_of_pState h.1]; rfl)).trans ha
    rw [hd]
    exact h
  · have hp : p.val < 6 := by
      unfold State.waitsLock at hw
      simp only [Bool.and_eq_true, decide_eq_true_eq] at hw
      exact hw.1
    rw [State.portIdDone_torus hp, State.portIdArrive_in q hst hph, if_pos hw]

/-! ### Flits received (R525, R527, R538) -/

theorem State.lp_of_lan {s t : State} (h : t.lan = s.lan) (p : Nat) : t.lp p = s.lp p := by rw [State.lp, State.lp, h]

/-- A count of a port leaves whether its slot is its calibration slot. -/
theorem State.calSlot_setF {s : State} {w : Nat} (f : Fld w) (v : BitVec w) (p : Nat) (hf : 0x400000 ≤ f.off) : (s.setF f v).calSlot p = s.calSlot p := by
  have ho : ∀ r, r < 0x400000 → (s.setF f v).rd r = s.rd r := fun r hr => s.rd_setF_other f v r (by omega)
  refine State.calSlot_congr (ho _ (by decide)) (fun n hn => ho _ ?_) rfl rfl rfl rfl
  unfold Reg.DTT_TT_LEN
  omega

theorem State.calSlot_setLp (s : State) (p q : Nat) (v : LPort) : (s.setLp p v).calSlot q = s.calSlot q :=
  State.calSlot_congr rfl (fun _ _ => rfl) rfl rfl rfl rfl

/-- A NAK that is sent notes what it asks for, and goes out (R527). -/
theorem State.sendNak_spec {s : State} {p : Nat} (hn : (s.lp p).naks < 7) (hc : s.calSlot p = false) (hl : swf lport0 s.lan.ports = true) :
    ((s.sendNak p).lp p).nak = some (s.lp p).rxNum ∧ ((s.sendNak p).lp p).naks = (s.lp p).naks + 1 ∧ (∃ b, (s.sendNak p).out = s.out ++ [.link p (.nak (s.lp p).rxNum) b]) ∧
      (s.sendNak p).regs = s.regs ∧ (s.sendNak p).mems = s.mems := by
  unfold State.sendNak
  dsimp only
  rw [if_neg (by omega), State.sendLink_now _ (by rw [State.calSlot_setLp]; exact hc)]
  obtain ⟨h1, ⟨b, h2⟩, h3⟩ := (s.setLp p { s.lp p with
    nak := some (s.lp p).rxNum, naks := (s.lp p).naks + 1, nakAt := s.now, frame := [] }).linkNow_spec p (.nak (s.lp p).rxNum)
  obtain ⟨-, f, d, _, _, _, _, h4⟩ := h3 (State.ports_setLp p _ hl)
  rw [State.lp_setLp_same p _ hl] at h4
  exact ⟨by rw [h4], by rw [h4], ⟨b, h2⟩, (congrArg State.regs h1 :), (congrArg State.mems h1 :)⟩

/-- A flit with a bad CRC is counted and answered by a NAK. -/
theorem State.flitArrive_bad {s : State} {p : Nat} {f : Bytes} (ht : s.trained p = true) (hg : flitGood f = false) (hn : (s.lp p).nak = none) :
    s.flitArrive p f = (s.incF (F.LAN_P_CRC_COUNT p) 1).sendNak p := by
  have hq : s.pState p ≠ pQuiet := fun h => by
    rw [State.trained, h] at ht
    exact absurd ht (by decide)
  unfold State.flitArrive
  dsimp only
  rw [if_neg hq, if_neg (by simp [ht]), if_pos (by rw [hg]; rfl), if_neg]
  change ¬ (s.lp p).nak.isSome = true
  rw [hn]
  decide

/-- From `s` to `t` only the ports have changed, and port `p` keeps nothing and waits for nothing. -/
structure IdlePort (p : Nat) (n : R32) (g : R64) (s t : State) : Prop where
  rest : { t with lan := s.lan } = s
  ports : swf lport0 t.lan.ports = true
  kept : (t.lp p).kept = []
  queue : (t.lp p).queue = []
  nak : (t.lp p).nak = none
  rxNum : (t.lp p).rxNum = n
  goodAt : (t.lp p).goodAt = g

section
variable {p : Nat} {n : R32} {g : R64} {s t : State} (h : IdlePort p n g s t)
include h

theorem IdlePort.setLp {v : LPort} {n' : R32} {g' : R64} (hk : v.kept = []) (hq : v.queue = []) (hn : v.nak = none) (hr : v.rxNum = n') (hg : v.goodAt = g') :
    IdlePort p n' g' s (t.setLp p v) := by
  have hv := State.lp_setLp_same p v h.ports
  exact ⟨h.rest, State.ports_setLp p v h.ports, by rw [hv]; exact hk, by rw [hv]; exact hq, by rw [hv]; exact hn, by rw [hv]; exact hr, by rw [hv]; exact hg⟩

theorem IdlePort.acked (a : BitVec 10) : IdlePort p n g s (t.acked p a) := by
  unfold State.acked
  dsimp only
  rw [h.kept]
  dsimp only
  split
  · exact h
  · exact h.setLp rfl h.queue h.nak h.rxNum h.goodAt

theorem IdlePort.repump : IdlePort p n g s (t.repump p) := by
  unfold State.repump
  dsimp only
  rw [h.queue]
  exact h.setLp h.kept rfl h.nak h.rxNum h.goodAt

theorem IdlePort.creditField (v : Bool) (vc : Nat) (x : BitVec 12) : IdlePort p n g s (t.creditField p v vc x) := by
  unfold State.creditField
  split
  · exact h.setLp h.kept h.queue h.nak h.rxNum h.goodAt
  · exact h

theorem IdlePort.credits (h1 : Nat) : IdlePort p n g s (t.credits p h1) :=
  ((h.creditField _ _ _).creditField _ _ _).repump

theorem IdlePort.freeMem (f : Bytes) : IdlePort p n g s (t.freeMem p f) := by
  have hv : IdlePort p n g s (t.freeVc p (bitsAt (leNat (slice f 8 8)) 60 4)) := h.setLp h.kept h.queue h.nak h.rxNum h.goodAt
  unfold State.freeMem
  dsimp only
  split
  · exact hv.setLp hv.kept hv.queue hv.nak hv.rxNum hv.goodAt
  · exact hv

end

/-- A good numbered flit that is next is delivered, and the expected number advances (R525, R527). -/
theorem State.flitArrive_good {s : State} {p : Nat} {f : Bytes} (ht : s.trained p = true) (hg : flitGood f = true) (hf : bitsAt (leNat (slice f 0 4)) 30 2 ≠ 0)
    (hn : (s.lp p).nak = none) (hk : (s.lp p).kept = []) (hq : (s.lp p).queue = []) (he : s.on (F.LAN_P_STAT_ENC_ON p) = false)
    (hl : swf lport0 s.lan.ports = true) :
    ∃ t, s.flitArrive p f = t.emit (.delivered p f) ∧ IdlePort p ((s.lp p).rxNum + 1) s.now s t := by
  have hqs : s.pState p ≠ pQuiet := fun h => by
    rw [State.trained, h] at ht
    exact absurd ht (by decide)
  have h1 : IdlePort p (s.lp p).rxNum s.now s (s.setLp p { s.lp p with goodAt := s.now }) :=
    IdlePort.setLp (n := (s.lp p).rxNum) (g := (s.lp p).goodAt) ⟨rfl, hl, hk, hq, hn, rfl, rfl⟩ hk hq hn rfl rfl
  have h2 := h1.acked (fieldAt 10 (leNat (slice f 0 4)) 20)
  have h3 : IdlePort p (s.lp p).rxNum s.now s (if bitsAt (leNat (slice f 0 4)) 30 2 = 2
      then State.repump ((s.setLp p { s.lp p with goodAt := s.now }).acked p (fieldAt 10 (leNat (slice f 0 4)) 20)) p
      else State.credits ((s.setLp p { s.lp p with goodAt := s.now }).acked p (fieldAt 10 (leNat (slice f 0 4)) 20)) p (leNat (slice f 8 8))) := by
    split
    · exact h2.repump
    · exact h2.credits _
  unfold State.flitArrive
  dsimp only
  rw [if_neg hqs, if_neg (by simp [ht]), if_neg (by simp [hg]), if_neg hf]
  generalize (if bitsAt (leNat (slice f 0 4)) 30 2 = 2
      then State.repump ((s.setLp p { s.lp p with goodAt := s.now }).acked p (fieldAt 10 (leNat (slice f 0 4)) 20)) p
      else State.credits ((s.setLp p { s.lp p with goodAt := s.now }).acked p (fieldAt 10 (leNat (slice f 0 4)) 20)) p (leNat (slice f 8 8))) = u at h3 ⊢
  have hue : u.on (F.LAN_P_STAT_ENC_ON p) = false := (congrArg (· == 1) (State.f_of_regs (congrArg State.regs h3.rest : _) _) : _).trans he
  rw [if_neg (by rw [h3.nak]; decide), if_neg (by rw [hue]; decide)]
  have h4 : IdlePort p ((s.lp p).rxNum + 1) s.now s (u.setLp p { u.lp p with rxNum := (u.lp p).rxNum + 1, naks := 0 }) :=
    h3.setLp h3.kept h3.queue h3.nak (by rw [h3.rxNum]) h3.goodAt
  refine ⟨_, rfl, ?_⟩
  split
  · exact (h4.freeMem f).repump
  · exact h4

/-- Settles O33. -/
theorem flitsReceived : Obligations.FlitsReceived := by
  refine ⟨fun s p f ht hq => exec_same_up (f := (State.flitArrive · p.val f)) rfl ?_,
    fun s p f hu ht hg hn hk hc hr hl => goes_up (f := (State.flitArrive · p.val f)) rfl hu ?_,
    fun s p f hu ht hg hf hn hk hq he hl => goes_up (f := (State.flitArrive · p.val f)) rfl hu ?_,
    fun s p f g n mac hu ht he hn hg => exec_up (f := (State.tagArrive · p.val f g mac)) rfl hu ?_,
    fun s p f g n mac h => exec_same_up (f := (State.tagArrive · p.val f g mac)) rfl (if_pos ?_)⟩
  · unfold State.flitArrive
    dsimp only
    rw [if_neg hq, if_pos (by rw [ht]; rfl)]
  · rw [State.flitArrive_bad ht hg hn]
    unfold State.incF
    have hv : (0x400000 : Nat) ≤ (F.LAN_P_CRC_COUNT p.val).off := by
      simp only [F.LAN_P_CRC_COUNT, Reg.LAN_P_CRC]
      omega
    have hne : Reg.LAN_P_STAT p.val ≠ Reg.LAN_P_CRC p.val := by
      unfold Reg.LAN_P_STAT Reg.LAN_P_CRC
      omega
    have hf := s.f_setF_same (F.LAN_P_CRC_COUNT p.val) (s.f (F.LAN_P_CRC_COUNT p.val) + 1) (Nat.le_of_ble_eq_true rfl) hr
    have hst := s.f_setF_reg (F.LAN_P_CRC_COUNT p.val) (F.LAN_P_STAT_STATE p.val) (s.f (F.LAN_P_CRC_COUNT p.val) + 1) hne
    obtain ⟨h1, -, h2, h3, h4⟩ := State.sendNak_spec (s := s.setF (F.LAN_P_CRC_COUNT p.val) (s.f (F.LAN_P_CRC_COUNT p.val) + 1)) (p := p.val) hk
      ((s.calSlot_setF _ _ _ hv).trans hc) hl
    exact ⟨(State.f_of_regs h3 _).trans hf, h1, h2, (State.f_of_regs h3 (F.LAN_P_STAT_STATE p.val)).trans hst, h4⟩
  · obtain ⟨t, h1, h2⟩ := State.flitArrive_good ht hg hf hn hk hq he hl
    rw [h1, State.emit_eq _ _ rfl]
    exact ⟨h2.rxNum, h2.goodAt, congrArg (· ++ [Out.delivered p.val f]) (congrArg State.out h2.rest :), (congrArg State.regs h2.rest : _), (congrArg State.mems h2.rest : _)⟩
  · unfold State.tagArrive
    dsimp only
    refine (if_neg (by simp [ht, he, hn])).trans ((if_pos (by rw [hg]; exact beq_self_eq_true g)).trans ?_)
    rfl
  · rcases h with h | h <;> simp [h]

/-! ### Retry, QUIET and DEEP (R507 to R512, R527 to R529) -/

theorem State.closeFrame_off {s : State} {p : Nat} (h : s.on (F.LAN_P_STAT_ENC_ON p) = false) : s.closeFrame p = s := if_pos (Or.inl (by rw [h]; rfl))

theorem State.trained_ne_quiet {s : State} {p : Nat} (h : s.mayQuiet p = true) : s.pState p = pUp := by
  unfold State.mayQuiet at h
  simp only [Bool.and_eq_true, decide_eq_true_eq] at h
  exact h.1.1.1.2

/-- The stamp of an item depends on the time, the barrier's instant and the delay of the port; only a time message is noted, with its port's times. -/
theorem State.stamp_congr {s t : State} {p : Nat} (it : TxItem) (hc : t.clk = s.clk) (hd : t.dtt = s.dtt) (hr : t.delay p = s.delay p) :
    (t.stamp p it).1 = (s.stamp p it).1 ∧ { (t.stamp p it).2 with dtt := t.dtt } = t := by
  have hn : t.now = s.now := by rw [State.now, State.now, hc]
  have hu : t.units = s.units := by rw [State.units, State.units, hc]
  cases it with
  | ctrl m =>
    cases m with
    | timeHb m => exact ⟨by simp only [State.stamp, hn, hc], rfl⟩
    | release a b c d =>
      unfold State.stamp
      refine ⟨?_, ?_⟩
      · simp only [hd, hu, hr]
        cases s.dtt.firing with
        | none => rfl
        | some f => rfl
      · cases t.dtt.firing with
        | none => rfl
        | some f => rfl
    | _ => exact ⟨rfl, rfl⟩
  | _ => exact ⟨rfl, rfl⟩

/-- A NAK of a kept flit: a REPLAY goes, and the flit again (R528). -/
theorem State.nakArrive_kept {s : State} {p : Nat} {e : R32} {it : TxItem} {fs : List Bytes} (hp : p < 14) (ht : s.trained p = true)
    (hk : (s.lp p).kept = [(e, it, fs)]) (hf : 0 < it.flits) (hc : s.calSlot p = false) (he : s.on (F.LAN_P_STAT_ENC_ON p) = false)
    (hl : swf lport0 s.lan.ports = true) :
    (∃ b g, (s.nakArrive p e).out = s.out ++ [.link p (.replay e) b, .flit p e (s.stamp p it).1 g]) ∧ ((s.nakArrive p e).lp p).kept = [(e, it, fs)] ∧
      (s.nakArrive p e).mems = s.mems ∧ (s.nakArrive p e).regs = (s.incF (F.LAN_P_REPLAY_COUNT p) 1).regs := by
  have hany : decide (e.toNat ≤ e.toNat ∧ e.toNat < e.toNat + it.flits) = true := by
    simp only [decide_eq_true_eq]
    omega
  have hfrom : decide (e.toNat < e.toNat + it.flits) = true := by
    simp only [decide_eq_true_eq]
    omega
  unfold State.nakArrive
  dsimp only
  rw [hk, if_pos ⟨by simp only [List.any_cons, hany, Bool.true_or], ht⟩, State.closeFrame_off he]
  simp only [List.filter_cons, List.filter_nil, hfrom, if_true]
  have hlo : (0x400000 : Nat) ≤ (F.LAN_P_REPLAY_COUNT p).off := by
    simp only [F.LAN_P_REPLAY_COUNT, Reg.LAN_P_REPLAY]
    omega
  have huc : (s.incF (F.LAN_P_REPLAY_COUNT p) 1).calSlot p = false := (s.calSlot_setF _ _ _ hlo).trans hc
  have hdel : (s.incF (F.LAN_P_REPLAY_COUNT p) 1).delay p = s.delay p := by
    refine congrArg BitVec.toNat (s.f_setF_reg (F.LAN_P_REPLAY_COUNT p) (F.DTT_PORT_LAG_DELAY p) _ ?_)
    simp only [F.LAN_P_REPLAY_COUNT, F.DTT_PORT_LAG_DELAY, Reg.LAN_P_REPLAY, Reg.DTT_PORT_LAG]
    omega
  have hur : { s.incF (F.LAN_P_REPLAY_COUNT p) 1 with regs := s.regs } = s := rfl
  generalize s.incF (F.LAN_P_REPLAY_COUNT p) 1 = u at huc hdel hur ⊢
  have hul : u.lan = s.lan := (congrArg State.lan hur :)
  rw [State.sendLink_now _ huc]
  obtain ⟨h1, ⟨b, h2⟩, h3⟩ := u.linkNow_spec p (.replay e)
  obtain ⟨h4, f, d, _, _, _, _, h5⟩ := h3 (by rw [hul]; exact hl)
  rw [State.lp_of_lan hul] at h5
  generalize u.linkNow p (.replay e) = v at h1 h2 h4 h5 ⊢
  obtain ⟨k1, k2⟩ := State.stamp_congr (s := s) (t := v) (p := p) it ((congrArg State.clk h1 : _).trans (congrArg State.clk hur : _))
    ((congrArg State.dtt h1 : _).trans (congrArg State.dtt hur : _)) (by
      have hvr : v.regs = u.regs := (congrArg State.regs h1 :)
      rw [← hdel, State.delay, State.delay, State.f_of_regs hvr])
  unfold State.resend
  dsimp only
  rw [k1]
  have hwl : (v.stamp p it).2.lan = v.lan := (congrArg State.lan k2 :)
  generalize (v.stamp p it).2 = w at k2 hwl ⊢
  obtain ⟨j1, j2⟩ := w.sealAll_spec p ((fs.map (s.stamp p it).1.restamp).drop (e.toNat - e.toNat))
  obtain ⟨j3, _, _, _, _, j4⟩ := j2 (by rw [hwl]; exact h4)
  generalize w.sealAll p ((fs.map (s.stamp p it).1.restamp).drop (e.toNat - e.toNat)) = r at j1 j3 j4 ⊢
  rw [State.lp_of_lan hwl, h5] at j4
  unfold State.resend
  rw [if_neg (Nat.lt_irrefl _), State.emit_eq _ _ rfl]
  have hout : r.2.out = s.out ++ [.link p (.replay e) b] := by
    have o1 : r.2.out = w.out := (congrArg State.out j1 :)
    have o2 : w.out = v.out := (congrArg State.out k2 :)
    have o3 : u.out = s.out := (congrArg State.out hur :)
    rw [o1, o2, h2, o3]
  have hmem : r.2.mems = s.mems := by
    have o1 : r.2.mems = w.mems := (congrArg State.mems j1 :)
    have o2 : w.mems = v.mems := (congrArg State.mems k2 :)
    have o3 : v.mems = u.mems := (congrArg State.mems h1 :)
    have o4 : u.mems = s.mems := (congrArg State.mems hur :)
    rw [o1, o2, o3, o4]
  have hreg : r.2.regs = u.regs := by
    have o1 : r.2.regs = w.regs := (congrArg State.regs j1 :)
    have o2 : w.regs = v.regs := (congrArg State.regs k2 :)
    have o3 : v.regs = u.regs := (congrArg State.regs h1 :)
    rw [o1, o2, o3]
  refine ⟨⟨b, r.1, ?_⟩, ?_, hmem, hreg⟩
  · change r.2.out ++ _ = _
    rw [hout, List.append_assoc]
    rfl
  · change (r.2.lp p).kept = _
    rw [j4]
    exact hk

/-- An attach port that may stop signalling, unencrypted, that is told to (R508). -/
theorem State.quiet_spec {s : State} {p : Nat} (hr : swf regReset s.regs = true) :
    (s.toState p pQuiet laQuiet).pState p = pQuiet ∧ (s.toState p pQuiet laQuiet).out = s.out ∧ (s.toState p pQuiet laQuiet).mems = s.mems ∧
      (s.toState p pQuiet laQuiet).lan = s.lan :=
  ⟨State.toState_pState p pQuiet laQuiet hr, s.toState_out p _ _, by simp, s.toState_lan p _ _⟩

/-- Settles O34. -/
theorem linkStates : Obligations.LinkStates := by
  refine ⟨⟨fun s p e it fs hu ht hk hf he hc hn hl => goes_up (f := (State.nakArrive · p.val e)) rfl hu ?_,
    fun s p e hk => exec_same_up (f := (State.nakArrive · p.val e)) rfl ?_,
    fun s p e hu hn => exec_up (f := (State.replayArrive · p.val e)) rfl hu (if_pos hn),
    fun s p e hn => exec_same_up (f := (State.replayArrive · p.val e)) rfl (if_neg hn),
    fun s p hu ht hn hd hk hc hl => goes_up (f := (State.nakTimeout · p.val)) rfl hu ?_,
    fun s p h => exec_same_up (f := (State.nakTimeout · p.val)) rfl (if_neg ?_),
    fun s p hu ht hd => exec_up (f := (State.crcSilence · p.val)) rfl hu ?_,
    fun s p hd => exec_same_up (f := (State.crcSilence · p.val)) rfl (if_neg (by omega))⟩,
    fun s p hu hq he hc hr => ⟨goes_up (f := fun s => if s.mayQuiet p.val then ((s.closeFrame p.val).sendLink p.val .quietAck).toState p.val pQuiet laQuiet else s) rfl hu ?_,
      goes_up (f := fun s => if s.mayQuiet p.val then (s.closeFrame p.val).toState p.val pQuiet laQuiet else s) rfl hu ?_⟩,
    fun s p hq => ⟨exec_same_up (f := fun s => if s.mayQuiet p.val then ((s.closeFrame p.val).sendLink p.val .quietAck).toState p.val pQuiet laQuiet else s) rfl
        (if_neg (by simp [hq])),
      exec_same_up (f := fun s => if s.mayQuiet p.val then (s.closeFrame p.val).toState p.val pQuiet laQuiet else s) rfl (if_neg (by simp [hq]))⟩,
    fun s p hu hst hr => goes_up (f := fun s => if s.pState p.val = pQuiet then s.resume p.val else s) rfl hu ?_,
    fun s p hst => exec_same_up (f := fun s => if s.pState p.val = pQuiet then s.resume p.val else s) rfl (if_neg hst),
    fun s p hu hp hst hd he hr => goes_up (f := fun s => if 6 ≤ p.val ∧ s.pState p.val = pUp ∧ s.on (F.LAN_P_CTL_DEEP p.val)
      then (s.closeFrame p.val).toState p.val pDeep laDeep else s) rfl hu ?_,
    fun s p h => exec_same_up (f := fun s => if 6 ≤ p.val ∧ s.pState p.val = pUp ∧ s.on (F.LAN_P_CTL_DEEP p.val)
      then (s.closeFrame p.val).toState p.val pDeep laDeep else s) rfl (if_neg ?_)⟩
  · obtain ⟨h1, h2, h3, h4⟩ := State.nakArrive_kept p.isLt ht hk hf hc hn hl
    exact ⟨h1, h2, h3, fun hr => (State.f_of_regs h4 _).trans (s.f_setF_same _ _ (Nat.le_of_ble_eq_true rfl) hr)⟩
  · unfold State.nakArrive
    dsimp only
    rw [hk]
    exact if_neg (by simp)
  · rw [show s.nakTimeout p.val = s.sendNak p.val from if_pos ⟨hn, ht, hd⟩]
    obtain ⟨h1, h2, h3, h4, h5⟩ := State.sendNak_spec hk hc hl
    exact ⟨h3, h1, h2, h4, h5⟩
  · rintro ⟨h1, -, h2⟩
    rcases h with h | h
    · rw [h] at h1
      exact absurd h1 (by decide)
    · omega
  · exact (if_pos ⟨ht, hd⟩).trans (if_pos ht)
  · rw [if_pos hq, State.closeFrame_off he, State.sendLink_now _ hc]
    obtain ⟨h1, ⟨b, h2⟩, -⟩ := s.linkNow_spec p.val .quietAck
    obtain ⟨k1, k2, k3, -⟩ := State.quiet_spec (s := s.linkNow p.val .quietAck) (p := p.val) (by rw [show (s.linkNow p.val .quietAck).regs = s.regs from (congrArg State.regs h1 :)]; exact hr)
    exact ⟨k1, ⟨b, k2.trans h2⟩, k3.trans (congrArg State.mems h1 :)⟩
  · rw [if_pos hq, State.closeFrame_off he]
    exact State.quiet_spec hr
  · rw [if_pos hst]
    unfold State.resume
    rw [State.emit_eq _ _ rfl, State.emit_eq _ _ rfl]
    refine ⟨State.toState_pState p.val pUp laActive hr, ?_, by simp⟩
    change ((s.toState p.val pUp laActive).out ++ _) ++ _ = _
    rw [State.toState_out, List.append_assoc]
    rfl
  · rw [if_pos ⟨hp, hst, hd⟩, State.closeFrame_off he]
    exact ⟨State.toState_pState p.val pDeep laDeep hr, s.toState_out p.val _ _, by simp⟩
  · rintro ⟨h1, h2, -⟩
    rcases h with h | h
    · omega
    · exact h h2

end Sys2Proof.Machine
end

section
/-!
PROOFS. The Ethernet ports, presence and context commands, snoops to agents, slots and scheduled flits, admission of attach flits, security commands.
-/

namespace Sys2Proof.Machine

/-! ### The Ethernet ports (R35, R563, R564, R573, R574) -/

theorem State.ethLaneState_eth (s : State) (e : Nat) : (s.ethLaneState e).eth = s.eth := foldl_keep State.eth _ _ _ (fun _ _ => rfl)

/-- A change of a port's link, where there is one (R563). -/
theorem State.ethLink_change {s : State} {e : Nat} {b up : Bool} (hb : (b && s.on (F.ETH_P_CTL_EN e)) = up) (hu : s.on (F.ETH_P_STAT_UP e) ≠ up)
    (hc : s.eth.chans = [] ∨ up = false) :
    s.ethLink e b = (((s.setF (F.ETH_P_STAT_UP e) (bit1 up)).setF (F.ETH_P_STAT_FEC_LOCK e) (bit1 up)).ethLaneState e).post (ev 0xB4 stOk (2 ^ 16 * e + b2n up) 0) := by
  unfold State.ethLink
  dsimp only
  rw [hb, if_neg hu]
  rcases hc with hc | hc
  · have hl : (((s.setF (F.ETH_P_STAT_UP e) (bit1 up)).setF (F.ETH_P_STAT_FEC_LOCK e) (bit1 up)).ethLaneState e).eth = s.eth :=
      State.ethLaneState_eth _ e
    generalize ((s.setF (F.ETH_P_STAT_UP e) (bit1 up)).setF (F.ETH_P_STAT_FEC_LOCK e) (bit1 up)).ethLaneState e = u at hl ⊢
    have hp : (u.post (ev 0xB4 stOk (2 ^ 16 * e + b2n up) 0)).eth = u.eth := by simp
    generalize u.post (ev 0xB4 stOk (2 ^ 16 * e + b2n up) 0) = v at hp ⊢
    have hn : v.chansOf e = [] := by
      rw [State.chansOf, hp, hl, hc]
      rfl
    rw [hn, List.foldl_nil, ite_self]
  · rw [hc]
    exact if_neg (by decide)

/-- An answer with an empty queue and a threshold that admits it leaves at once (R573). -/
theorem State.ethAnswer_empty {s : State} {e bytes : Nat} {o : Out} (hq : s.ethQ e = ⟨0, 0⟩) (hmin : 0 < (s.f (F.ETH_RED_MIN 0)).toNat)
    (hmax : 0 < (s.f (F.ETH_RED_MAX 0)).toNat) (hb : bytes ≤ 8388608) (ho : o.isPcie = false) :
    ∃ x, s.ethAnswer e bytes o = { s.setEthQ e x with out := s.out ++ [o] } := by
  have ha : (⟨0, 0⟩ : EthPort).average / 2 ^ 20 = 0 := by decide
  refine ⟨{ (⟨0, 0⟩ : EthPort) with avg := (⟨0, 0⟩ : EthPort).average, q := 0 + bytes }, ?_⟩
  unfold State.ethAnswer State.egress
  dsimp only
  rw [hq]
  dsimp only
  have h1 : ¬ ((s.f (F.ETH_RED_MAX (0 : BitVec 2).toNat)).toNat ≤ 0 ∨ 8388608 < 0 + bytes) := by
    rintro (h | h)
    · exact absurd h (Nat.not_le.2 hmax)
    · omega
  have h2 : s.redMark (14 + e) 0 (s.f (F.ETH_RED_MIN (0 : BitVec 2).toNat)).toNat (s.f (F.ETH_RED_MAX (0 : BitVec 2).toNat)).toNat
      (s.f (F.ETH_RED_PMAX (0 : BitVec 2).toNat)).toNat = (false, s) :=
    (if_neg (Nat.not_le.2 hmax)).trans (if_pos hmin)
  rw [ha, if_neg h1, h2]
  exact State.emit_eq _ _ ho

/-- A frame that a port answers where it comes to the port's own address, and else counts (R564, R573). -/
def State.frameTo (s : State) (e : Nat) (dst : BitVec 128) (bytes : Nat) (o : Out) : State :=
  if !s.on (F.ETH_P_STAT_UP e) then s else if dst = s.ethIp e then s.ethAnswer e bytes o else s.ethOther e

theorem exec_solicitation (e : Fin 4) (b a : BitVec 128) (s : State) :
    exec (.neighbourSolicitation e b a) s = whenUp s (fun s => s.frameTo e.val b 90 (.neighbourAdv e.val b a (s.ethMac e.val))) := rfl

theorem exec_echo (e : Fin 4) (a b : BitVec 128) (d : Bytes) (s : State) :
    exec (.echoRequest e a b d) s = whenUp s (fun s => s.frameTo e.val b (58 + d.length) (.echoReply e.val b a d)) := rfl

theorem exec_otherFrame (e : Fin 4) (s : State) :
    exec (.otherFrame e) s = whenUp s (fun s => if s.on (F.ETH_P_STAT_UP e.val) then s.ethOther e.val else s) := rfl

section
variable {s : State} {e : Nat} {dst : BitVec 128} {bytes : Nat} {o : Out}

theorem State.frameTo_down (h : s.on (F.ETH_P_STAT_UP e) = false) : s.frameTo e dst bytes o = s := if_pos (by rw [h]; rfl)

theorem State.frameTo_own (h : s.on (F.ETH_P_STAT_UP e) = true) : s.frameTo e (s.ethIp e) bytes o = s.ethAnswer e bytes o :=
  (if_neg (by rw [h]; decide)).trans (if_pos rfl)

theorem State.frameTo_other (h : s.on (F.ETH_P_STAT_UP e) = true) (hd : dst ≠ s.ethIp e) : s.frameTo e dst bytes o = s.incF (F.ETH_P_OTHER_COUNT e) 1 :=
  (if_neg (by rw [h]; decide)).trans (if_neg hd)

/-- An answer that leaves at once changes the port's queue alone. -/
theorem State.frameTo_empty (h : s.on (F.ETH_P_STAT_UP e) = true) (hq : s.ethQ e = ⟨0, 0⟩) (hmin : 0 < (s.f (F.ETH_RED_MIN 0)).toNat)
    (hmax : 0 < (s.f (F.ETH_RED_MAX 0)).toNat) (hb : bytes ≤ 8388608) (ho : o.isPcie = false) :
    (s.frameTo e (s.ethIp e) bytes o).out = s.out ++ [o] ∧ (s.frameTo e (s.ethIp e) bytes o).regs = s.regs ∧
      (s.frameTo e (s.ethIp e) bytes o).mems = s.mems ∧ (s.frameTo e (s.ethIp e) bytes o).eth.chans = s.eth.chans := by
  obtain ⟨x, hx⟩ := State.ethAnswer_empty (o := o) hq hmin hmax hb ho
  rw [State.frameTo_own h, hx]
  exact ⟨rfl, rfl, rfl, rfl⟩

end

/-- Settles O37. -/
theorem ethernetPorts : Obligations.EthernetPorts := by
  refine ⟨fun s e hu he hs hc => exec_up (f := (State.ethLink · e.val true)) rfl hu ?_,
    fun s e hu hs => exec_up (f := (State.ethLink · e.val false)) rfl hu ?_,
    fun s e b h => exec_same_up (f := (State.ethLink · e.val b)) rfl (if_pos h), fun s e a b hu hs => ⟨?_, ?_⟩, fun s e a b hu hs hq hmin hmax hb => ⟨?_, ?_⟩,
    fun s e a b d hu hs hne => ⟨?_, ?_, ?_⟩, fun s e hu hs hr => ?_, fun s e a b d hs => ⟨?_, ?_, ?_⟩⟩
  · rw [State.ethLink_change (up := true) (by rw [he]; rfl) (by rw [hs]; decide) (Or.inl hc)]
    rfl
  · rw [State.ethLink_change (up := false) rfl (by rw [hs]; decide) (Or.inr rfl)]
    rfl
  · exact exec_up (exec_solicitation e _ a s) hu (State.frameTo_own hs)
  · exact exec_up (exec_echo e a _ b s) hu (State.frameTo_own hs)
  · exact goes_up (exec_solicitation e _ a s) hu (State.frameTo_empty hs hq hmin hmax (by omega) rfl)
  · exact goes_up (exec_echo e a _ b s) hu (State.frameTo_empty hs hq hmin hmax (by omega) rfl)
  · exact exec_up (exec_solicitation e b a s) hu (State.frameTo_other hs hne)
  · exact exec_up (exec_echo e a b d s) hu (State.frameTo_other hs hne)
  · exact exec_up (exec_otherFrame e s) hu (if_pos hs)
  · refine goes_up (exec_otherFrame e s) hu ?_
    rw [if_pos hs]
    exact ⟨s.f_setF_same _ _ (Nat.le_of_ble_eq_true rfl) hr, rfl, rfl, rfl, fun r hne => s.rd_setF_other _ _ r hne⟩
  · exact exec_same_up (exec_solicitation e b a s) (State.frameTo_down hs)
  · exact exec_same_up (exec_echo e a b d s) (State.frameTo_down hs)
  · exact exec_same_up (exec_otherFrame e s) (if_neg (by rw [hs]; decide))

@[simp] theorem foldl_io_home {α : Type} (f : Io → α → Io) (l : List α) (s : Io) (h : ∀ s a, (f s a).s.home = s.s.home) : (l.foldl f s).s.home = s.s.home := by
  induction l generalizing s with
  | nil => rfl
  | cons a l ih => simp only [List.foldl_cons, ih, h]

@[simp] theorem foldl_io_lan {α : Type} (f : Io → α → Io) (l : List α) (s : Io) (h : ∀ s a, (f s a).s.lan = s.s.lan) : (l.foldl f s).s.lan = s.s.lan := by
  induction l generalizing s with
  | nil => rfl
  | cons a l ih => simp only [List.foldl_cons, ih, h]

@[simp] theorem upto_qmg (f : Nat → State → State) (n : Nat) (s : State) (h : ∀ i s, (f i s).qmg = s.qmg) : (upto f n s).qmg = s.qmg :=
  upto_keep (fun s => s.qmg) f n s h

@[simp] theorem foldl_qmg {α : Type} (f : State → α → State) (l : List α) (s : State) (h : ∀ s a, (f s a).qmg = s.qmg) :
    (l.foldl f s).qmg = s.qmg := foldl_keep (fun s => s.qmg) f l s h

@[simp] theorem foldl_io_qmg {α : Type} (f : Io → α → Io) (l : List α) (s : Io) (h : ∀ s a, (f s a).s.qmg = s.s.qmg) : (l.foldl f s).s.qmg = s.s.qmg := by
  induction l generalizing s with
  | nil => rfl
  | cons a l ih => simp only [List.foldl_cons, ih, h]

@[simp] theorem State.wr_lan (x0 x1 x2) : (State.wr x0 x1 x2).lan = x0.lan := by
  simp [State.wr]

@[simp] theorem State.incF_lan (x0 x1 x2 x3) : (@State.incF x0 x1 x2 x3).lan = x1.lan := by
  simp [State.incF]

@[simp] theorem State.setRing_lan (x0 x1 x2) : (State.setRing x0 x1 x2).lan = x0.lan := by
  simp [State.setRing]

@[simp] theorem State.vector_lan (x0 x1) : (State.vector x0 x1).lan = x0.lan := by
  unfold State.vector; (repeat' split) <;> simp

@[simp] theorem State.vectorDue_lan (x0 x1) : (State.vectorDue x0 x1).lan = x0.lan := by
  simp [State.vectorDue]

@[simp] theorem State.countXlate_lan (x0 x1) : (State.countXlate x0 x1).lan = x0.lan := by
  unfold State.countXlate; (repeat' split) <;> simp

@[simp] theorem State.setPres_home (x0 x1 x2 x3) : (State.setPres x0 x1 x2 x3).home = x0.home := by
  unfold State.setPres; (repeat' split) <;> simp

@[simp] theorem State.setPres_lan (x0 x1 x2 x3) : (State.setPres x0 x1 x2 x3).lan = x0.lan := by
  unfold State.setPres; (repeat' split) <;> simp

@[simp] theorem State.setPres_qmg (x0 x1 x2 x3) : (State.setPres x0 x1 x2 x3).qmg = x0.qmg := by
  unfold State.setPres; (repeat' split) <;> simp

@[simp] theorem State.setPres_regs (x0 x1 x2 x3) : (State.setPres x0 x1 x2 x3).regs = x0.regs := by
  unfold State.setPres; (repeat' split) <;> simp

@[simp] theorem State.presAll_home (x0 x1 x2 x3) : (State.presAll x0 x1 x2 x3).home = x0.home := by
  induction x3 generalizing x0 <;> simp [State.presAll, *]

@[simp] theorem State.presAll_lan (x0 x1 x2 x3) : (State.presAll x0 x1 x2 x3).lan = x0.lan := by
  induction x3 generalizing x0 <;> simp [State.presAll, *]

@[simp] theorem State.presAll_qmg (x0 x1 x2 x3) : (State.presAll x0 x1 x2 x3).qmg = x0.qmg := by
  induction x3 generalizing x0 <;> simp [State.presAll, *]

@[simp] theorem State.presAll_regs (x0 x1 x2 x3) : (State.presAll x0 x1 x2 x3).regs = x0.regs := by
  induction x3 generalizing x0 <;> simp [State.presAll, *]

@[simp] theorem State.setQ_lan (x0 x1 x2) : (State.setQ x0 x1 x2).lan = x0.lan := by
  simp [State.setQ]

@[simp] theorem State.nextSeq_lan (x0 x1 x2 x3) : (State.nextSeq x0 x1 x2 x3).2.lan = x0.lan := by
  simp [State.nextSeq]

@[simp] theorem State.aim_lan (x0 x1) : (State.aim x0 x1).2.lan = x0.lan := by
  simp [State.aim]

@[simp] theorem State.sendReq_lan (x0 x1) : (State.sendReq x0 x1).lan = x0.lan := by
  simp [State.sendReq]

@[simp] theorem State.issueOwn_lan (x0 x1 x2) : (State.issueOwn x0 x1 x2).lan = x0.lan := by
  simp [State.issueOwn]

@[simp] theorem State.writeSlot_lan (x0 x1 x2 x3 x4) : (State.writeSlot x0 x1 x2 x3 x4).lan = x0.lan := by
  unfold State.writeSlot; (repeat' split) <;> simp

@[simp] theorem State.setDesc_lan (x0 x1 x2 x3) : (State.setDesc x0 x1 x2 x3).lan = x0.lan := by
  simp [State.setDesc]

@[simp] theorem State.postQ_lan (x0 x1 x2 x3 x4 x5 x6) : (State.postQ x0 x1 x2 x3 x4 x5 x6).lan = x0.lan := by
  simp [State.postQ]

@[simp] theorem State.faultDesc_lan (x0 x1 x2 x3 x4) : (State.faultDesc x0 x1 x2 x3 x4).lan = x0.lan := by
  unfold State.faultDesc; (repeat' split) <;> simp

@[simp] theorem State.absentDesc_lan (x0 x1) : (State.absentDesc x0 x1).lan = x0.lan := by
  simp [State.absentDesc]

@[simp] theorem State.advance_lan (x0 x1 x2) : (State.advance x0 x1 x2).lan = x0.lan := by
  induction x2 generalizing x0 x1 <;> simp only [State.advance] <;> (repeat' split) <;> simp [*]

@[simp] theorem State.doneDesc_lan (x0 x1 x2) : (State.doneDesc x0 x1 x2).lan = x0.lan := by
  unfold State.doneDesc; dsimp only; (repeat' split) <;> simp

@[simp] theorem State.completeDesc_lan (x0 x1 x2 x3) : (State.completeDesc x0 x1 x2 x3).lan = x0.lan := by
  unfold State.completeDesc; dsimp only; (repeat' split) <;> simp

@[simp] theorem State.park_lan (x0 x1 x2 x3) : (State.park x0 x1 x2 x3).lan = x0.lan := by
  unfold State.park; dsimp only; (repeat' split) <;> simp

@[simp] theorem State.applyXlate_lan (x0 x1 x2) : (State.applyXlate x0 x1 x2).lan = x0.lan := by
  unfold State.applyXlate; dsimp only; (repeat' split) <;> simp

@[simp] theorem State.wakeQueues_lan (x0 x1) : (State.wakeQueues x0 x1).lan = x0.lan := by
  induction x1 generalizing x0 <;> simp [State.wakeQueues, *]

/-! ### Presence commands (R80, R81) -/

section
variable {s : State} {slot count : Nat} {f : List (RangeE × Nat) → State → State} (hb : s.on F.XLT_PRES_STAT_BUSY = false)
include hb

theorem State.presCmd_absent (hr : s.resident slot = false) : s.presCmd slot count f = s.setF F.XLT_PRES_STAT_ERR 1 :=
  (if_neg (by rw [hb]; decide)).trans (if_pos (by rw [hr]; rfl))

theorem State.presCmd_noPages (hr : s.resident slot = true) (hp : s.presPages slot count = none) : s.presCmd slot count f = s.setF F.XLT_PRES_STAT_ERR 2 := by
  unfold State.presCmd
  rw [if_neg (by rw [hb]; decide), if_neg (by rw [hr]; decide), hp]

theorem State.presCmd_pages {ps : List (RangeE × Nat)} (hr : s.resident slot = true) (hp : s.presPages slot count = some ps) :
    s.presCmd slot count f = f ps (s.setF F.XLT_PRES_STAT_ERR 0) := by
  unfold State.presCmd
  rw [if_neg (by rw [hb]; decide), if_neg (by rw [hr]; decide), hp]

end

/-- Reading the presence words and a slot's context does not read the registers. -/
theorem State.present_setF {s : State} {w : Nat} (f : Fld w) (v : BitVec w) (e : RangeE) (p : Nat) : (s.setF f v).present e p = s.present e p := rfl

theorem State.slotCtx_setF {s : State} {w : Nat} (f : Fld w) (v : BitVec w) (n : Nat) : (s.setF f v).slotCtx n = s.slotCtx n := rfl

/-- The presence commands, each by its function. -/
theorem exec_presence {s t : State} {c : Instr} {n : BitVec 12} {w : Bool} {slot : BitVec 10} (hw : s.takes = true)
    (hc : c ∈ [.query n slot, .set w n slot, .clear n slot])
    (h : ∀ f, s.presCmd slot.toNat (if c = .query n slot then 1 else n.toNat + 1) f = t) : exec c s = .next t := by
  simp only [List.mem_cons, List.not_mem_nil, or_false] at hc
  rcases hc with rfl | rfl | rfl
  · rw [if_pos rfl] at h
    exact exec_wr (f := (State.presQuery · slot.toNat)) rfl hw (h _)
  · rw [if_neg (by simp)] at h
    exact exec_wr (f := (State.presSet · w slot.toNat (n.toNat + 1))) rfl hw (h _)
  · rw [if_neg (by simp)] at h
    exact exec_wr (f := (State.presClear · slot.toNat (n.toNat + 1))) rfl hw (h _)

/-- CLEAR clears the pages' bits and leaves the clear running. -/
theorem State.presClear_spec {s : State} {slot count : Nat} {ps : List (RangeE × Nat)} (hb : s.on F.XLT_PRES_STAT_BUSY = false) (hr : s.resident slot = true)
    (hp : s.presPages slot count = some ps) (h : swf regReset s.regs = true) :
    (s.presClear slot count).on F.XLT_PRES_STAT_BUSY = true ∧ (s.presClear slot count).xlt.clearing.isSome = true ∧ (s.presClear slot count).home = s.home ∧
      (s.presClear slot count).qmg = s.qmg := by
  unfold State.presClear
  rw [State.presCmd_pages hb hr hp]
  have h1 : ∀ c, swf regReset ((s.setF F.XLT_PRES_STAT_ERR 0).presAll c false ps).regs = true := fun c => by
    rw [State.presAll_regs]
    exact s.regs_setF _ _ h
  have h2 : ∀ c, ((s.setF F.XLT_PRES_STAT_ERR 0).presAll c false ps).home = s.home := fun c => by rw [State.presAll_home]; rfl
  have h3 : ∀ c, ((s.setF F.XLT_PRES_STAT_ERR 0).presAll c false ps).qmg = s.qmg := fun c => by rw [State.presAll_qmg]; rfl
  exact ⟨congrArg (· == 1) (State.f_setF_same _ F.XLT_PRES_STAT_BUSY 1 (Nat.le_of_ble_eq_true rfl) (h1 _)), rfl, h2 _, h3 _⟩

/-! ### Commits of a context, drains and the range-table window (R95 to R100) -/

theorem State.xltCommit_held {s : State} {slot : BitVec 10} (h : s.xlt.vals.any (fun v => v.slot == slot) = true) :
    (s.xltCommit slot).xlt.heldCommits.contains slot = true ∧ (s.xltCommit slot).xlt.vals = s.xlt.vals ∧ (s.xltCommit slot).regs = s.regs ∧
      (s.xltCommit slot).eff = s.eff := by
  unfold State.xltCommit
  rw [if_pos h]
  split
  next hc => exact ⟨hc, rfl, rfl, rfl⟩
  · refine ⟨?_, rfl, rfl, rfl⟩
    simp

/-- The result of a commit leaves the validations and the commits held. -/
theorem State.commitResult_vals (s : State) (v : Valid) :
    (s.commitResult v).xlt.vals = s.xlt.vals ∧ (s.commitResult v).xlt.heldCommits = s.xlt.heldCommits := by
  unfold State.commitResult
  dsimp only
  split
  · exact ⟨rfl, rfl⟩
  · simp

/-- The only validation that ends, with no commit held: its result, with no validation left. -/
theorem State.validEnd_only {s : State} {v : Valid} (hv : s.xlt.vals = [v]) (hh : s.xlt.heldCommits = []) :
    s.validEnd v.slot = State.setF { s.commitResult v with xlt := { (s.commitResult v).xlt with vals := [] } } F.XLT_STAT_VALIDATING 0 := by
  have hf : s.xlt.vals.find? (fun u => u.slot == v.slot) = some v := by rw [hv]; simp
  obtain ⟨h1, h2⟩ := s.commitResult_vals v
  have hd : dropWhere (fun u : Valid => u.slot == v.slot) (s.commitResult v).xlt.vals = [] := by rw [h1, hv]; simp [dropWhere]
  unfold State.validEnd
  rw [hf]
  dsimp only
  rw [hd]
  refine if_neg ?_
  change ¬ (s.commitResult v).xlt.heldCommits.contains v.slot = true
  rw [h2, hh]
  exact Bool.false_ne_true

theorem State.commitResult_ok {s : State} {v : Valid} (h : s.validateErr v = 0) :
    (s.commitResult v).lat = s.lat ∧ (s.commitResult v).eff =
      (((s.effWr (Reg.XLT_CTX_ID v.slot.toNat) v.id).effWr (Reg.XLT_CTX_TBL v.slot.toNat) v.tbl).effWr (Reg.SWC_TCM_CLS v.slot.toNat) v.cls).eff := by
  unfold State.commitResult
  dsimp only
  rw [if_pos h]
  exact ⟨rfl, rfl⟩

theorem State.commitResult_bad {s : State} {v : Valid} (h : s.validateErr v ≠ 0) : (s.commitResult v).eff = s.eff := by
  unfold State.commitResult
  dsimp only
  rw [if_neg h]
  simp

/-- The only drain, with nothing older left. -/
theorem State.drainDone_only {s : State} {slot : BitVec 10} {cur : Nat} (hd : s.xlt.drains = [(slot, cur)]) (hw : s.drainWaits slot cur = false) :
    s.drainDone slot = { ((s.setF (F.XLT_CTX_DRAIN_BUSY slot.toNat) 0).setF (F.XLT_CTX_DRAIN_UPTO slot.toNat) (BitVec.ofNat 8 cur - 1)) with
      xlt := { s.xlt with drains := [] } } := by
  have hf : s.xlt.drains.find? (fun d => d.1 == slot) = some (slot, cur) := by rw [hd]; simp
  have hr : dropWhere (fun d : BitVec 10 × Nat => d.1 == slot) s.xlt.drains = [] := by rw [hd]; simp [dropWhere]
  unfold State.drainDone
  rw [hf]
  dsimp only
  rw [if_neg (by rw [hw]; decide)]
  exact congrArg (fun l => { ((s.setF (F.XLT_CTX_DRAIN_BUSY slot.toNat) 0).setF (F.XLT_CTX_DRAIN_UPTO slot.toNat) (BitVec.ofNat 8 cur - 1)) with
    xlt := { s.xlt with drains := l } }) hr

/-- Settles O5. -/
theorem translationCommands : Obligations.TranslationCommands := by
  refine ⟨⟨fun s c n w slot hw hc hb => ⟨fun hr => exec_presence hw hc fun f => State.presCmd_absent hb hr,
      fun hr hp => exec_presence hw hc fun f => State.presCmd_noPages hb hr hp⟩,
    fun s n slot e p ps hw hb hr hp => exec_wr (f := (State.presQuery · slot.toNat)) rfl hw (State.presCmd_pages hb hr hp),
    fun s n slot ps hw h hb hr hp => ⟨exec_wr (f := (State.presSet · false slot.toNat (n.toNat + 1))) rfl hw (State.presCmd_pages hb hr hp),
      goes_wr (f := (State.presSet · true slot.toNat (n.toNat + 1))) rfl hw ?_,
      goes_wr (f := (State.presClear · slot.toNat (n.toNat + 1))) rfl hw (State.presClear_spec hb hr hp h)⟩,
    fun s ids ds hu hc hn => exec_up (f := State.clearDone) rfl hu ?_⟩,
    fun s slot hw hv => exec_wr (f := (State.xltCommit · slot)) rfl hw (if_neg (by rw [hv]; decide)),
    fun s slot hw hv => goes_wr (f := (State.xltCommit · slot)) rfl hw (State.xltCommit_held hv),
    fun s v hu hv hh he => goes_up (f := (State.validEnd · v.slot)) rfl hu ?_, fun s v hu hv hh he => goes_up (f := (State.validEnd · v.slot)) rfl hu ?_,
    fun s slot hw h => goes_wr (f := (State.drainReq · slot)) rfl hw
      ⟨congrArg (· == 1) (s.f_setF_same (F.XLT_CTX_DRAIN_BUSY slot.toNat) 1 (Nat.le_of_ble_eq_true rfl) h), by simp [State.drainReq], rfl⟩,
    fun s slot cur hu hd hw => exec_up (f := (State.drainDone · slot)) rfl hu (State.drainDone_only hd hw),
    fun s off wide v hw => exec_wr (f := (State.rtWrite · off.toNat wide v)) rfl hw rfl⟩
  · unfold State.presSet
    rw [State.presCmd_pages hb hr hp]
    simp
  · unfold State.clearDone
    rw [hc]
    exact if_neg (by rw [hn]; decide)
  · obtain ⟨h1, h2⟩ := State.commitResult_ok he
    rw [State.validEnd_only hv hh]
    exact ⟨rfl, h1, h2⟩
  · rw [State.validEnd_only hv hh]
    exact ⟨rfl, State.commitResult_bad he⟩

/-! ### Snoops to attached agents (R254, R257, R258) -/

section
variable {s : State} {p : Snp} (ha : agentNode p.agent = s.node) (hl : (agentLocal p.agent).toNat < 8) (hp : p.isSnoop = true)
include ha hl hp

/-- A snoop for an agent of this node whose link is down is held (R257). -/
theorem State.snoopArrive_down (ht : s.trained (6 + (agentLocal p.agent).toNat) = false) (hq : s.pState (6 + (agentLocal p.agent).toNat) ≠ pQuiet) :
    s.snoopArrive p = { s with ep := { s.ep with snoopHeld := s.ep.snoopHeld ++ [p] } } :=
  (if_neg (by rintro (h | h | h); exacts [h ha, by omega, by simp [hp] at h])).trans (if_pos (by simp [ht, hq]))

/-- A snoop for an agent of this node whose link is up is mapped to an HDM address, or is not mapped (R254, R258). -/
theorem State.snoopArrive_up (ht : s.trained (6 + (agentLocal p.agent).toNat) = true) : s.snoopArrive p = match s.mapSnoop (agentLocal p.agent).toNat p.dpa with
    | none => s.snoopUnmapped p
    | some (h, va) => State.tx { s with ep := { s.ep with snoopOut := s.ep.snoopOut ++ [p] } } (6 + (agentLocal p.agent).toNat)
        (.att 2 (BitVec.ofNat 64 (putAt 58 p.opc + h * 2 ^ 52 + putAt 36 p.sid)) (BitVec.ofNat 64 va) []) :=
  (if_neg (by rintro (h | h | h); exacts [h ha, by omega, by simp [hp] at h])).trans ((if_neg (by simp [ht])).trans rfl)

end

/-- Settles O48. -/
theorem snoopDeliveries : Obligations.SnoopDeliveries := by
  refine ⟨fun s p hu ha hl hp ht hq => exec_up (f := (State.snoopArrive · p)) rfl hu (State.snoopArrive_down ha hl hp ht hq),
    fun s p h va hu ha hl hp ht hm => exec_up (f := (State.snoopArrive · p)) rfl hu ?_,
    fun s p hu ha hl hp ht hm hh => exec_up (f := (State.snoopArrive · p)) rfl hu ?_,
    fun s p h => exec_same_up (f := (State.snoopArrive · p)) rfl (if_pos ?_)⟩
  · rw [State.snoopArrive_up ha hl hp ht, hm]
  · rw [State.snoopArrive_up ha hl hp ht, hm]
    unfold State.snoopUnmapped
    dsimp only
    rw [if_pos hh]
  · rcases h with h | h | h
    · exact Or.inl h
    · exact Or.inr (Or.inl h)
    · exact Or.inr (Or.inr (by rw [h]; rfl))

@[simp] theorem State.wr_home (x0 x1 x2) : (State.wr x0 x1 x2).home = x0.home := by
  simp [State.wr]

@[simp] theorem State.incF_home (x0 x1 x2 x3) : (@State.incF x0 x1 x2 x3).home = x1.home := by
  simp [State.incF]

@[simp] theorem State.drawWord_home (x0) : (State.drawWord x0).2.home = x0.home := by
  simp [State.drawWord]

@[simp] theorem State.setRing_home (x0 x1 x2) : (State.setRing x0 x1 x2).home = x0.home := by
  simp [State.setRing]

@[simp] theorem State.vector_home (x0 x1) : (State.vector x0 x1).home = x0.home := by
  unfold State.vector; (repeat' split) <;> simp

@[simp] theorem State.vectorDue_home (x0 x1) : (State.vectorDue x0 x1).home = x0.home := by
  simp [State.vectorDue]

@[simp] theorem State.setStaged_home (x0 x1 x2) : (State.setStaged x0 x1 x2).home = x0.home := by
  simp [State.setStaged]

@[simp] theorem State.setLp_home (x0 x1 x2) : (State.setLp x0 x1 x2).home = x0.home := by
  simp [State.setLp]

@[simp] theorem State.freeEnt_home (x0 x1) : (State.freeEnt x0 x1).home = x0.home := by
  unfold State.freeEnt; dsimp only; (repeat' split) <;> simp

@[simp] theorem State.leftPort_home (x0 x1 x2) : (State.leftPort x0 x1 x2).home = x0.home := by
  unfold State.leftPort; (repeat' split) <;> simp

@[simp] theorem State.showSeed_home (x0 x1) : (State.showSeed x0 x1).home = x0.home := by
  simp [State.showSeed]

@[simp] theorem State.loseSeed_home (x0 x1 x2 x3) : (State.loseSeed x0 x1 x2 x3).home = x0.home := by
  unfold State.loseSeed; (repeat' split) <;> simp

@[simp] theorem State.advTx_home (x0 x1) : (State.advTx x0 x1).home = x0.home := by
  unfold State.advTx; dsimp only; (repeat' split) <;> simp

@[simp] theorem State.seal_home (x0 x1 x2) : (State.seal x0 x1 x2).2.home = x0.home := by
  unfold State.seal; dsimp only; (repeat' split) <;> simp

@[simp] theorem State.sealAll_home (x0 x1 x2) : (State.sealAll x0 x1 x2).2.home = x0.home := by
  induction x2 generalizing x0 x1 <;> simp [State.sealAll, *]

@[simp] theorem State.linkNow_home (x0 x1 x2) : (State.linkNow x0 x1 x2).home = x0.home := by
  simp [State.linkNow]

@[simp] theorem State.sendLink_home (x0 x1 x2) : (State.sendLink x0 x1 x2).home = x0.home := by
  unfold State.sendLink; (repeat' split) <;> simp

@[simp] theorem State.flushLink_home (x0 x1) : (State.flushLink x0 x1).home = x0.home := by
  unfold State.flushLink; dsimp only; (repeat' split) <;> simp

@[simp] theorem State.closeFrame_home (x0 x1) : (State.closeFrame x0 x1).home = x0.home := by
  unfold State.closeFrame; dsimp only; (repeat' split) <;> simp

@[simp] theorem State.setPt_home (x0 x1 x2) : (State.setPt x0 x1 x2).home = x0.home := by
  simp [State.setPt]

@[simp] theorem State.stamp_home (x0 x1 x2) : (State.stamp x0 x1 x2).2.home = x0.home := by
  unfold State.stamp; (repeat' split) <;> simp

@[simp] theorem State.sendNow_home (x0 x1 x2) : (State.sendNow x0 x1 x2).home = x0.home := by
  simp [State.sendNow]

@[simp] theorem State.pump_home (x0 x1 x2) : (State.pump x0 x1 x2).home = x0.home := by
  induction x2 generalizing x0 x1 <;> simp only [State.pump] <;> (repeat' split) <;> simp [*]

@[simp] theorem State.repump_home (x0 x1) : (State.repump x0 x1).home = x0.home := by
  simp [State.repump]

@[simp] theorem State.freeVc_home (x0 x1 x2) : (State.freeVc x0 x1 x2).home = x0.home := by
  simp [State.freeVc]

@[simp] theorem State.freeStaged_home (x0 x1) : (State.freeStaged x0 x1).home = x0.home := by
  unfold State.freeStaged; (repeat' split) <;> simp

@[simp] theorem State.creditStall_home (x0 x1 x2) : (State.creditStall x0 x1 x2).home = x0.home := by
  simp [State.creditStall]

@[simp] theorem State.sendStaged_home (x0 x1 x2 x3) : (State.sendStaged x0 x1 x2 x3).home = x0.home := by
  induction x3 generalizing x0 x1 x2 <;> simp only [State.sendStaged] <;> (repeat' split) <;> simp [*]

@[simp] theorem State.portSlot_home (x0 x1) : (State.portSlot x0 x1).home = x0.home := by
  unfold State.portSlot; dsimp only; (repeat' split) <;> simp

@[simp] theorem State.portsSlot_home (x0) : (State.portsSlot x0).home = x0.home := by
  simp [State.portsSlot, apply_ite (fun s : State => s.home)]

@[simp] theorem State.slotBoundary_home (x0) : (State.slotBoundary x0).home = x0.home := by
  unfold State.slotBoundary; dsimp only; (repeat' split) <;> simp

/-! ### Slot boundaries and background slots (R299, R315) -/

/-- A boundary that is due moves the slot number alone of the time. -/
theorem State.slotBoundary_spec {s : State} (h : s.nextBoundary ≤ s.now.toNat) :
    s.slotBoundary.clk = { s.clk with slot := s.clk.slot + 1 } ∧ s.slotBoundary.home = s.home ∧ s.slotBoundary.mems.pool = s.mems.pool := by
  have hc : (upto (fun p (t : State) => t.closeFrame p) 14 s).clk = s.clk := upto_keep State.clk _ _ _ (fun _ _ => by simp)
  unfold State.slotBoundary
  rw [if_neg (Nat.not_lt.2 h)]
  dsimp only
  split
  · refine ⟨?_, by simp, by simp⟩
    change { (upto (fun p (t : State) => t.closeFrame p) 14 s).clk with slot := (upto (fun p (t : State) => t.closeFrame p) 14 s).clk.slot + 1 } = _
    rw [hc]
  · refine ⟨?_, by simp, by simp⟩
    have hk : ∀ v : State, v.portsSlot.clk = v.clk := fun v => by simp
    refine (hk _).trans ?_
    change { (upto (fun p (t : State) => t.closeFrame p) 14 s).clk with slot := (upto (fun p (t : State) => t.closeFrame p) 14 s).clk.slot + 1 } = _
    rw [hc]

section
variable {s : State} {code : Nat} {f : State → State}

theorem State.inBackground_due (h : isBg code (s.entry 63) = true) (hd : s.dtt.bgDone = false) :
    s.inBackground code f = f { s with dtt := { s.dtt with bgDone := true } } := if_pos ⟨h, by rw [hd]; rfl⟩

theorem State.inBackground_done (hd : s.dtt.bgDone = true) : s.inBackground code f = s := if_neg (fun h => by simp [hd] at h)

end

/-! ### Scheduled flits (R310, R312) -/

/-- A flit that a node stages stands at each output of its stream. -/
theorem State.stageFlit_spec {s : State} (src : Option Nat) (id : BitVec 12) (out : Nat) (data : Bytes) (ready : R64) (h : swf noStaged s.dtt.staged = true) :
    (∀ k, k < 6 → (s.stageFlit src id out data ready).stagedAt k =
      (if bitAt out k then s.stagedAt k ++ [⟨id, src, s.dtt.nextMark, data, ready⟩] else s.stagedAt k)) ∧
      { s.stageFlit src id out data ready with dtt := s.dtt } = s := by
  have key : ∀ (u : State), swf noStaged u.dtt.staged = true → ∀ n, (∀ k, (upto (fun p t => if bitAt out p then t.setStaged p (t.stagedAt p ++
      [⟨id, src, s.dtt.nextMark, data, ready⟩]) else t) n u).stagedAt k =
        if k < n ∧ bitAt out k = true then u.stagedAt k ++ [⟨id, src, s.dtt.nextMark, data, ready⟩] else u.stagedAt k) ∧
      swf noStaged (upto (fun p t => if bitAt out p then t.setStaged p (t.stagedAt p ++ [⟨id, src, s.dtt.nextMark, data, ready⟩]) else t) n u).dtt.staged = true ∧
      { upto (fun p t => if bitAt out p then t.setStaged p (t.stagedAt p ++ [⟨id, src, s.dtt.nextMark, data, ready⟩]) else t) n u with dtt := u.dtt } = u := by
    intro u hu n
    induction n with
    | zero => exact ⟨fun k => by simp [upto], hu, rfl⟩
    | succ n ih =>
      obtain ⟨h1, h2, h3⟩ := ih
      simp only [upto]
      generalize upto (fun p t => if bitAt out p then t.setStaged p (t.stagedAt p ++ [⟨id, src, s.dtt.nextMark, data, ready⟩]) else t) n u = v at h1 h2 h3 ⊢
      by_cases hb : bitAt out n = true
      · rw [if_pos hb]
        refine ⟨fun k => ?_, swf_sset _ _ _ _ h2, h3⟩
        by_cases hk : k = n
        · subst hk
          rw [if_pos ⟨Nat.lt_succ_self k, hb⟩, State.stagedAt, show (v.setStaged k _).dtt.staged = sset noStaged v.dtt.staged k _ from rfl,
            sget_sset_same _ _ _ _ h2, h1, if_neg (by omega)]
        · rw [State.stagedAt, show (v.setStaged n _).dtt.staged = sset noStaged v.dtt.staged n _ from rfl, sget_sset_other _ _ _ _ _ hk]
          refine (h1 k).trans (if_congr ?_ rfl rfl)
          constructor <;> rintro ⟨a, b⟩ <;> exact ⟨by omega, b⟩
      · rw [if_neg hb]
        refine ⟨fun k => (h1 k).trans (if_congr ?_ rfl rfl), h2, h3⟩
        by_cases hk : k = n
        · subst hk
          simp [hb]
        · constructor <;> rintro ⟨a, b⟩ <;> exact ⟨by omega, b⟩
  obtain ⟨h1, -, h3⟩ := key { s with dtt := { s.dtt with nextMark := s.dtt.nextMark + 1 } } h 6
  refine ⟨fun k hk => (h1 k).trans (if_congr (by simp [hk]) rfl rfl), ?_⟩
  exact (congrArg (fun t : State => { t with dtt := s.dtt }) h3 :)

/-- A flit whose stream is not of its input is kept. -/
theorem State.schedArrive_unknown {s : State} {p : Nat} {f : SFlit} (h : ∀ e, s.stream f.stream.toNat = some e → e.src ≠ p) :
    s.schedArrive p f = { s with dtt := { s.dtt with orphans := s.dtt.orphans ++ [(p, f)] } } := by
  unfold State.schedArrive
  cases hs : s.stream f.stream.toNat with
  | none => rfl
  | some e =>
    dsimp only
    rw [if_neg (h e hs)]

/-- A flit of a known stream: counted where it is late, to its tile, and staged or let go (R310, R312). -/
theorem State.schedArrive_known {s : State} {p : Nat} {f : SFlit} {e : StreamE} {late : Bool} (h : s.stream f.stream.toNat = some e) (hp : e.src = p)
    (hl : decide ((s.f (F.DTT_PORT_LAG_LAG p)).toNat ≤ (s.clk.slot.setWidth 8 - f.slot).toNat) = late) :
    s.schedArrive p f = (fun t : State => if e.out = 0 then t.freeStaged ⟨f.stream, some p, t.dtt.nextMark, f.data, 0⟩ else t.stageFlit (some p) f.stream e.out f.data 0)
      ((fun t : State => if e.tileOut then t.emit (.schedTile e.tile f) else t) (if late then s.lateFlit p f.stream else s)) := by
  subst hl
  unfold State.schedArrive
  rw [h]
  dsimp only
  rw [if_pos hp]

/-- A flit in time. -/
theorem State.schedArrive_inTime {s : State} {p : Nat} {f : SFlit} {e : StreamE} (h : s.stream f.stream.toNat = some e) (hp : e.src = p) (ho : e.out ≠ 0)
    (hl : (s.clk.slot.setWidth 8 - f.slot).toNat < (s.f (F.DTT_PORT_LAG_LAG p)).toNat) (hw : swf noStaged s.dtt.staged = true) :
    (∀ k ∈ List.range 6, (s.schedArrive p f).stagedAt k =
      (if bitAt e.out k then s.stagedAt k ++ [⟨f.stream, some p, s.dtt.nextMark, f.data, 0⟩] else s.stagedAt k)) ∧
      (s.schedArrive p f).out = (if e.tileOut then s.out ++ [.schedTile e.tile f] else s.out) ∧ (s.schedArrive p f).regs = s.regs ∧
      (s.schedArrive p f).mems = s.mems := by
  rw [State.schedArrive_known h hp (decide_eq_false (Nat.not_le.2 hl))]
  dsimp only
  rw [if_neg ho, if_neg Bool.false_ne_true]
  have hu : ∀ u, u = (if e.tileOut then s.emit (.schedTile e.tile f) else s) → u.dtt = s.dtt ∧ u.regs = s.regs ∧ u.mems = s.mems ∧
      u.out = (if e.tileOut then s.out ++ [.schedTile e.tile f] else s.out) := by
    rintro u rfl
    split
    · rw [State.emit_eq _ _ rfl]
      exact ⟨rfl, rfl, rfl, rfl⟩
    · exact ⟨rfl, rfl, rfl, rfl⟩
  generalize hv : (if e.tileOut then s.emit (.schedTile e.tile f) else s) = u
  obtain ⟨h1, h2, h3, h4⟩ := hu u hv.symm
  obtain ⟨k1, k2⟩ := State.stageFlit_spec (s := u) (some p) f.stream e.out f.data 0 (by rw [h1]; exact hw)
  refine ⟨fun k hk => ?_, ?_, ?_, ?_⟩
  · rw [k1 k (List.mem_range.1 hk), State.stagedAt, State.stagedAt, h1]
  · exact (congrArg State.out k2 :).trans h4
  · exact (congrArg State.regs k2 :).trans h2
  · exact (congrArg State.mems k2 :).trans h3

theorem State.lateFlit_spec {s : State} (p : Nat) (id : BitVec 12) (h : swf regReset s.regs = true) :
    (s.lateFlit p id).f F.DTT_LATE_CNT_COUNT = s.f F.DTT_LATE_CNT_COUNT + 1 ∧ (s.lateFlit p id).on F.DTT_STAT_LATE = true := by
  have h1 := s.regs_setF F.DTT_LATE_CNT_COUNT (s.f F.DTT_LATE_CNT_COUNT + BitVec.ofNat _ 1) h
  have hc : ((s.incF F.DTT_LATE_CNT_COUNT 1).setF F.DTT_STAT_LATE 1).f F.DTT_LATE_CNT_COUNT = s.f F.DTT_LATE_CNT_COUNT + 1 :=
    (State.f_setF_reg _ _ _ _ (by decide)).trans (s.f_setF_same _ _ (by decide) h)
  have hl : ((s.incF F.DTT_LATE_CNT_COUNT 1).setF F.DTT_STAT_LATE 1).f F.DTT_STAT_LATE = 1 := State.f_setF_same _ _ _ (by decide) h1
  unfold State.lateFlit
  generalize (s.incF F.DTT_LATE_CNT_COUNT 1).setF F.DTT_STAT_LATE 1 = u at hc hl ⊢
  have hv : ∀ (v : State) (x : Ev), v.regs = u.regs → (v.post x).f F.DTT_LATE_CNT_COUNT = u.f F.DTT_LATE_CNT_COUNT ∧
      (v.post x).f F.DTT_STAT_LATE = u.f F.DTT_STAT_LATE := fun v x hv =>
    ⟨(v.f_post x F.DTT_LATE_CNT_COUNT (by decide)).trans (State.f_of_regs hv _), (v.f_post x F.DTT_STAT_LATE (by decide)).trans (State.f_of_regs hv _)⟩
  obtain ⟨last, n⟩ := sget noLate s.dtt.late id.toNat
  have key : ∀ due : Bool, (if due then State.post { u with dtt := { u.dtt with late := sset noLate u.dtt.late id.toNat (some u.clk.slot, 0) } }
        (ev 0x45 stOk (2 ^ 16 * p + id.toNat) (n + 1))
      else { u with dtt := { u.dtt with late := sset noLate u.dtt.late id.toNat (last, n + 1) } } : State).f F.DTT_LATE_CNT_COUNT = s.f F.DTT_LATE_CNT_COUNT + 1 ∧
      (if due then State.post { u with dtt := { u.dtt with late := sset noLate u.dtt.late id.toNat (some u.clk.slot, 0) } }
        (ev 0x45 stOk (2 ^ 16 * p + id.toNat) (n + 1))
      else { u with dtt := { u.dtt with late := sset noLate u.dtt.late id.toNat (last, n + 1) } } : State).on F.DTT_STAT_LATE = true := fun due => by
    cases due with
    | true =>
      obtain ⟨h2, h3⟩ := hv { u with dtt := { u.dtt with late := sset noLate u.dtt.late id.toNat (some u.clk.slot, 0) } }
        (ev 0x45 stOk (2 ^ 16 * p + id.toNat) (n + 1)) rfl
      exact ⟨h2.trans hc, congrArg (· == 1) (h3.trans hl)⟩
    | false => exact ⟨hc, congrArg (· == 1) hl⟩
  exact key _

/-- What follows the count of a late flit writes no register. -/
theorem State.schedArrive_late {s : State} {p : Nat} {f : SFlit} {e : StreamE} (h : s.stream f.stream.toNat = some e) (hp : e.src = p)
    (hl : (s.f (F.DTT_PORT_LAG_LAG p)).toNat ≤ (s.clk.slot.setWidth 8 - f.slot).toNat) : (s.schedArrive p f).regs = (s.lateFlit p f.stream).regs := by
  rw [State.schedArrive_known h hp (decide_eq_true hl)]
  dsimp only
  rw [if_pos rfl]
  have hu : (if e.tileOut then (s.lateFlit p f.stream).emit (.schedTile e.tile f) else s.lateFlit p f.stream).regs = (s.lateFlit p f.stream).regs := by
    split
    · exact State.emit_regs _ _
    · rfl
  generalize (if e.tileOut then (s.lateFlit p f.stream).emit (.schedTile e.tile f) else s.lateFlit p f.stream) = u at hu ⊢
  refine Eq.trans ?_ hu
  split <;> simp

/-- Settles O24. -/
theorem slotsAndFlits : Obligations.SlotsAndFlits := by
  refine ⟨⟨fun s hu h => goes_up (f := State.slotBoundary) rfl hu (State.slotBoundary_spec h), fun s h => exec_same_up (f := State.slotBoundary) rfl (if_pos h),
    fun s hu hb hd => exec_up (f := fun s => s.inBackground bgDirSweep id) rfl hu (State.inBackground_due hb hd),
    fun s hu hb hd hr => goes_up (f := fun s => s.inBackground bgTelemetry State.telemetry) rfl hu ?_,
    fun s hd => ⟨exec_same_up (f := fun s => s.inBackground bgDirSweep id) rfl (State.inBackground_done hd),
      exec_same_up (f := fun s => s.inBackground bgTelemetry State.telemetry) rfl (State.inBackground_done hd)⟩⟩,
    fun s p f hu h => exec_up (f := (State.schedArrive · p.val f)) rfl hu (State.schedArrive_unknown h),
    fun s p f e hu h hp ho hl hw => goes_up (f := (State.schedArrive · p.val f)) rfl hu (State.schedArrive_inTime h hp ho hl hw),
    fun s p f e hu h hp hl hr => goes_up (f := (State.schedArrive · p.val f)) rfl hu ?_⟩
  · rw [State.inBackground_due hb hd]
    unfold State.telemetry
    have h1 := s.regs_wr Reg.FLT_TEL_TICK_LO (s.now.setWidth 32) hr
    refine ⟨?_, State.rd_wr_same _ _ _ h1, rfl, rfl⟩
    exact (State.rd_wr_other _ _ _ _ (by decide)).trans (State.rd_wr_same _ _ _ hr)
  · have hg := State.schedArrive_late h hp hl
    obtain ⟨h1, h2⟩ := State.lateFlit_spec p.val f.stream hr
    exact ⟨(State.f_of_regs hg _).trans h1, (congrArg (· == 1) (State.f_of_regs hg F.DTT_STAT_LATE) : _).trans h2⟩

/-! ### Flits of an attach link (R168 to R175) -/

/-- Closing a request's part changes its entry alone. -/
theorem Rx.close_request (x : Rx) (p : Part) (h : p.vc = 0) :
    ∃ l, (x.close p).s = { x.s with ep := { x.s.ep with ents := l } } ∧ l.length = x.s.ep.ents.length ∧ (x.close p).n = x.n ∧ (x.close p).acc = x.acc := by
  unfold Rx.close
  dsimp only
  rw [if_pos h]
  cases p.keep with
  | none => exact ⟨x.s.ep.ents, rfl, rfl, rfl, rfl⟩
  | some id => exact ⟨_, rfl, List.length_map _, rfl, rfl⟩

/-- The header of a request: admitted or deferred, one answer bit more. -/
theorem Rx.start_request (x : Rx) (port : Nat) (u : BitVec 128) (h : x.part = none) :
    ∃ l, (x.start port 0 u).s = { (x.s.admitHdr port (u.setWidth 64) (u.extractLsb' 64 64)).2 with
        ep := { (x.s.admitHdr port (u.setWidth 64) (u.extractLsb' 64 64)).2.ep with ents := l } } ∧
      l.length = (x.s.admitHdr port (u.setWidth 64) (u.extractLsb' 64 64)).2.ep.ents.length ∧ (x.start port 0 u).n = x.n + 1 ∧
      (x.start port 0 u).acc = x.acc + b2n (x.s.admitHdr port (u.setWidth 64) (u.extractLsb' 64 64)).1.isSome * 2 ^ x.n := by
  unfold Rx.start
  rw [h]
  dsimp only
  rw [if_pos rfl, if_pos rfl]
  dsimp only
  split
  · exact Rx.close_request _ _ rfl
  · exact ⟨_, rfl, rfl, rfl, rfl⟩

/-- Admitting a header leaves the answers and the memories. -/
theorem State.takeEntry_ep (s : State) (port : Nat) (c : BitVec 2) (iso : BitVec 3) (r : Bool) :
    (s.takeEntry port c iso r).2.ep.answers = s.ep.answers ∧ (s.takeEntry port c iso r).2.mems = s.mems := by
  unfold State.takeEntry
  split
  · exact ⟨rfl, rfl⟩
  · split
    · exact ⟨rfl, rfl⟩
    split
    · exact ⟨rfl, rfl⟩
    · exact ⟨rfl, rfl⟩

theorem State.admitHdr_rest (s : State) (port : Nat) (w0 va : R64) :
    (s.admitHdr port w0 va).2.ep.answers = s.ep.answers ∧ (s.admitHdr port w0 va).2.mems = s.mems := by
  unfold State.admitHdr
  dsimp only
  split
  · exact ⟨rfl, rfl⟩
  split
  · exact ⟨rfl, rfl⟩
  next hn =>
    have ht := s.takeEntry_ep port (fieldAt 2 w0.toNat 56) (s.handleIso port (fieldAt 4 w0.toNat 52))
      ((decide (fieldAt 2 w0.toNat 56 = 0) || decide (fieldAt 2 w0.toNat 56 = 2)) && bitAt w0.toNat 32)
    split
    next sh t h =>
      rw [h] at ht
      split
      · exact ht
      · exact ht
    next t h =>
      rw [h] at ht
      split
      · exact ht
      · exact ht

/-- A header for which an entry is free takes it. -/
theorem State.admitHdr_free {s : State} (port : Nat) (w0 va : R64) (he : s.ep.ents = []) (hc : s.ep.chains = []) (hr : s.ep.reserved = [])
    (hh : s.pwr.holdUp = false) :
    (s.admitHdr port w0 va).1.isSome = true ∧ (s.admitHdr port w0 va).2.ep.ents.length = 1 ∧ (s.admitHdr port w0 va).2.ep.nextId = s.ep.nextId + 1 := by
  have hch : ∀ p c, s.chain p c = none := fun p c => by rw [State.chain, hc]; rfl
  have ht : ∀ c iso r, s.takeEntry port c iso r = (some false, s) := fun c iso r => by
    have hu : s.usedReserved port c < s.entReserve port := by
      rw [State.usedReserved, he, hr, State.entReserve]
      split <;> simp
    unfold State.takeEntry
    rw [hr]
    dsimp only [List.find?_nil]
    rw [ite_self]
    dsimp only
    rw [if_pos hu]
  unfold State.admitHdr
  dsimp only
  rw [if_neg (by rw [hh]; decide), hch, ite_self]
  dsimp only
  rw [ht]
  dsimp only
  split
  next x hx =>
    exfalso
    split at hx
    · rw [State.chain] at hx
      change s.ep.chains.find? _ = some x at hx
      rw [hc] at hx
      exact absurd hx (by simp)
    · exact absurd hx (by simp)
  · refine ⟨rfl, ?_, rfl⟩
    change (s.ep.ents ++ [_]).length = 1
    rw [he]
    rfl

/-- The flit of one request header on a trained link: the header is admitted or deferred, and one answer follows. -/
theorem State.attachFlit_header {s : State} {port : Nat} {f : AFlit} {u : BitVec 128} (ht : s.trained (6 + port) = true) (hv : f.vc = 0) (hu : f.units = [u])
    (hm : bitsAt f.map.toNat 83 14 = 1) (hp : s.ep.parts = []) :
    ∃ l, l.length = (s.admitHdr port (u.setWidth 64) (u.extractLsb' 64 64)).2.ep.ents.length ∧
      ∃ ps, s.attachFlit port f = { (s.admitHdr port (u.setWidth 64) (u.extractLsb' 64 64)).2 with
        ep := { (s.admitHdr port (u.setWidth 64) (u.extractLsb' 64 64)).2.ep with
          ents := l, parts := ps, answers := (s.admitHdr port (u.setWidth 64) (u.extractLsb' 64 64)).2.ep.answers ++ [(port, fieldAt 8 f.map.toNat 120,
            BitVec.ofNat 14 (b2n (s.admitHdr port (u.setWidth 64) (u.extractLsb' 64 64)).1.isSome))] } } := by
  have he : ∀ e : Ep, e.parts = [] → { e with parts := [] } = e := by
    rintro e h
    cases e
    simp_all
  have hs : ({ s with ep := { s.ep with parts := [] } } : State) = s := congrArg (fun e => { s with ep := e }) (he s.ep hp)
  unfold State.attachFlit
  dsimp only
  rw [if_neg (by simp [ht, hv]), hu, hm, hp, hv]
  simp only [dropWhere, List.filter_nil, List.find?_nil, List.take_succ_cons, List.take_nil, Rx.units]
  rw [if_pos (show bitAt 1 0 = true by decide), hs]
  obtain ⟨l, h1, h2, h3, h4⟩ := Rx.start_request ⟨s, none, none, 0, 0⟩ port u rfl
  generalize Rx.start ⟨s, none, none, 0, 0⟩ port 0 u = x at h1 h2 h3 h4 ⊢
  have h4' : x.acc = b2n (s.admitHdr port (u.setWidth 64) (u.extractLsb' 64 64)).1.isSome := by
    rw [h4]
    simp
  rw [if_neg (by rw [h3]; simp), h4']
  dsimp only at h1 h2
  cases x.part with
  | none =>
    rw [h1]
    exact ⟨l, h2, _, rfl⟩
  | some p =>
    rw [h1]
    exact ⟨l, h2, _, rfl⟩

/-- The oldest answer of a port leaves (R169). -/
theorem State.answerSend_spec {s : State} {port : Nat} {a : Nat × BitVec 8 × BitVec 14} (h : s.ep.answers.find? (fun a => decide (a.1 = port)) = some a) :
    (s.answerSend port).ep = { s.ep with answers := s.ep.answers.eraseP (fun x => decide (x = a)) } ∧
      (∃ n : BitVec 8, (s.answerSend port).out = s.out ++ [.answer port (attachMap n 0 (some a.2))]) ∧ (s.answerSend port).mems = s.mems ∧
      (s.answerSend port).home = s.home := by
  unfold State.answerSend
  rw [h]
  dsimp only
  rw [State.emit_eq _ _ rfl]
  exact ⟨rfl, ⟨_, rfl⟩, rfl, rfl⟩

/-- Settles O6. -/
theorem attachAdmission : Obligations.AttachAdmission := by
  refine ⟨fun s port f u hu ht hv hf hm hp => goes_up (f := (State.attachFlit · port.val f)) rfl hu ?_,
    fun s port f u hu ht hv hf hm hp he hc hr hh => goes_up (f := (State.attachFlit · port.val f)) rfl hu ?_,
    fun s port f hu ht => exec_up (f := (State.attachFlit · port.val f)) rfl hu (if_pos (Or.inl (by rw [ht]; rfl))),
    fun s port a hu h => goes_up (f := (State.answerSend · port.val)) rfl hu (State.answerSend_spec h),
    fun s port hu h => exec_up (f := (State.answerSend · port.val)) rfl hu ?_,
    fun s port c hu => exec_up (f := (State.holdExpiry · port.val c)) rfl hu rfl⟩
  · obtain ⟨l, -, ps, h⟩ := State.attachFlit_header ht hv hf hm hp
    obtain ⟨h1, h2⟩ := s.admitHdr_rest port.val (u.setWidth 64) (u.extractLsb' 64 64)
    rw [h]
    refine ⟨?_, ?_, h2⟩
    · simp [h1]
    · simp
  · obtain ⟨l, hl, ps, h⟩ := State.attachFlit_header ht hv hf hm hp
    obtain ⟨h1, h2, h3⟩ := State.admitHdr_free port.val (u.setWidth 64) (u.extractLsb' 64 64) he hc hr hh
    obtain ⟨h4, -⟩ := s.admitHdr_rest port.val (u.setWidth 64) (u.extractLsb' 64 64)
    rw [h, h1, h4]
    exact ⟨hl.trans h2, h3, rfl⟩
  · unfold State.answerSend
    rw [h]

/-! ### Sessions, memory keys and link keys (R581 to R599) -/

theorem slice_length (bs : Bytes) (lo n : Nat) : (slice bs lo n).length = n := by
  unfold slice
  dsimp only
  rw [List.length_append, zeros, List.length_replicate, List.length_take]
  omega

theorem bytes32_length (l : List R32) : (bytes32 l).length = 4 * l.length := by
  induction l with
  | nil => rfl
  | cons w l ih =>
    rw [bytes32, List.flatMap_cons, List.length_append, natLe_length, ← bytes32, ih, List.length_cons]
    omega

/-- A command while one is in progress is ignored; one while none is goes on (R580). -/
theorem exec_secBusy {c : Instr} {s : State} {f : State → State} (hc : exec c s = whenWr s (fun s => s.secIf f)) (hb : s.on F.SEC_RES_BUSY = true) :
    exec c s = .next s := exec_same_wr hc (if_pos hb)

theorem exec_secFree {c : Instr} {s t : State} {f : State → State} (hc : exec c s = whenWr s (fun s => s.secIf f)) (hw : s.takes = true)
    (hb : s.on F.SEC_RES_BUSY = false) (h : f s = t) : exec c s = .next t :=
  exec_wr hc hw ((if_neg (by rw [hb]; decide)).trans h)

theorem goes_secFree {c : Instr} {s : State} {f : State → State} {P : State → Prop} (hc : exec c s = whenWr s (fun s => s.secIf f)) (hw : s.takes = true)
    (hb : s.on F.SEC_RES_BUSY = false) (h : P (f s)) : Goes c s P :=
  ⟨f s, exec_secFree hc hw hb rfl, h⟩

/-- What a command that is taken shows, and that it changes nothing else. -/
theorem State.secTake_shows {s : State} (hr : swf regReset s.regs = true) (op i e : BitVec 4) (u : SecUndo) :
    (s.secTake op i e u).f F.SEC_RES_BUSY = 1 ∧ (s.secTake op i e u).f F.SEC_RES_SESSION = i ∧ (s.secTake op i e u).sec.cmd = some ⟨op, e, u⟩ :=
  ⟨State.secTake_busy hr op i e u, State.f_setF_same _ _ _ (by decide) (State.regs_setF _ _ _ hr), rfl⟩

theorem State.secTake_sess (s : State) (op i e : BitVec 4) (u : SecUndo) (j : Nat) : (s.secTake op i e u).sess j = s.sess j := rfl

theorem State.sess_setSess {s : State} (i : Nat) (v : Sess) (h : swf sess0 s.sec.sess = true) : (s.setSess i v).sess i = v := sget_sset_same _ _ _ _ h

theorem State.setSess_rest (s : State) (i : Nat) (v : Sess) :
    (s.setSess i v).mems = s.mems ∧ (s.setSess i v).out = s.out ∧ (s.setSess i v).sec.keys = s.sec.keys ∧ (s.setSess i v).free = s.free ∧
      (s.setSess i v).sec.cmd = s.sec.cmd := ⟨rfl, rfl, rfl, rfl, rfl⟩

theorem State.setSess_regsBut (s : State) (i : Nat) (v : Sess) : RegsBut (· = Reg.SEC_STAT) s (s.setSess i v) :=
  ((RegsBut.refl _ s).same_regs (u := { s with sec := { s.sec with sess := sset sess0 s.sec.sess i v } }) rfl).setF F.SEC_STAT_OPEN _ rfl

/-! ### The report (R581) -/

/-- A measurement has 48 bytes, and drawing one moves only the free values on. -/
theorem State.measOf_spec (s : State) (i : Option Image) : (s.measOf i).1.length = 48 ∧ ∃ n, s.free ≤ n ∧ (s.measOf i).2 = { s with free := n } := by
  cases i with
  | none => exact ⟨by simp [State.measOf, State.drawBytes], _, Nat.le_add_right _ _, rfl⟩
  | some i => exact ⟨slice_length _ _ _, s.free, Nat.le_refl _, rfl⟩

theorem State.reportBody_length (s : State) (i d : Nat) (run stby : Bytes) (h1 : run.length = 48) (h2 : stby.length = 48) :
    (s.reportBody i d run stby).length = 1536 := by
  unfold State.reportBody
  simp only [List.length_append, natLe_length, Mem.rdN_length, deviceId, State.clayDigest, slice_length, bytes32_length, State.mapCopy, List.length_map,
    List.length_range, List.length_cons, List.length_nil, zeros, List.length_replicate, h1, h2]

/-- A report: its body and the two signatures over it. -/
def signedReport (body : Bytes) : Bytes :=
  body ++ slice (Config.ed25519Sign edSeed body) 0 64 ++ slice (Config.mldsaSign mlSeed body) 0 3309 ++ zeros 3

theorem signedReport_length {body : Bytes} (h : body.length = 1536) : (signedReport body).length = 4912 := by
  unfold signedReport
  rw [List.length_append, List.length_append, List.length_append, slice_length, slice_length, h]
  rfl

/-- REPORT with an identity: the report's window, and the slot REPORTED (R581, R584). -/
theorem State.reportCmd_spec {s : State} (i : BitVec 4) (hid : s.on F.SEC_STAT_ID_OK = true) :
    ∃ (n : Nat) (rep : Bytes) (v : Sess), s.free < n ∧ rep.length = 4912 ∧ v.st = .reported ∧ v.draw = s.free ∧
      s.reportCmd i = (State.setSess { s with free := n, mems := { s.mems with rptwin := Mem.wrN s.mems.rptwin 0 rep } } i.toNat v).secTake 1 i 0 .none := by
  unfold State.reportCmd
  rw [if_neg (by rw [hid]; decide)]
  dsimp only
  obtain ⟨hl, n, hn, he⟩ := State.measOf_spec { s with free := s.free + 1 } s.fwm.run
  have hn' : s.free + 1 ≤ n := hn
  generalize State.measOf { s with free := s.free + 1 } s.fwm.run = r at hl he ⊢
  obtain ⟨run, u⟩ := r
  dsimp only at hl he ⊢
  subst he
  have h2 : ∀ x : Bytes × State, x = (if ({ s with free := n } : State).on F.FWM_STAT_STANDBY_VALID then State.measOf { s with free := n } s.fwm.stby
      else (zeros 48, { s with free := n })) → x.1.length = 48 ∧ ∃ m, n ≤ m ∧ x.2 = { s with free := m } := by
    rintro x rfl
    split
    · obtain ⟨k1, m, k2, k3⟩ := State.measOf_spec { s with free := n } s.fwm.stby
      exact ⟨k1, m, k2, k3⟩
    · exact ⟨by simp [zeros], n, Nat.le_refl _, rfl⟩
  generalize hx : (if ({ s with free := n } : State).on F.FWM_STAT_STANDBY_VALID then State.measOf { s with free := n } s.fwm.stby
      else (zeros 48, { s with free := n })) = x
  obtain ⟨hs, m, hm, hu⟩ := h2 x hx.symm
  obtain ⟨stby, u⟩ := x
  dsimp only at hs hu ⊢
  subst hu
  have hb := State.reportBody_length { s with free := m } i.toNat s.free run stby hl hs
  generalize State.reportBody { s with free := m } i.toNat s.free run stby = body at hb ⊢
  have hr : body ++ slice (Config.ed25519Sign edSeed body) 0 64 ++ slice (Config.mldsaSign mlSeed body) 0 3309 ++ zeros 3 = signedReport body := rfl
  rw [hr]
  have hlen := signedReport_length hb
  generalize signedReport body = rep at hlen ⊢
  exact ⟨m, rep, ⟨.reported, s.free, Config.sha384 body, [], none, s.now⟩, by omega, hlen, rfl, rfl, rfl⟩

/-- OPEN of a REPORTED slot (R585). -/
theorem State.openCmd_reported {s : State} {i : BitVec 4} (h : (s.sess i.toNat).st = .reported) :
    s.openCmd i = if (Config.x25519Shared (s.sess i.toNat).draw (Mem.rdN s.mems.cmdwin 0 32)).all (· == 0) = true then s.secTake 2 i 4 .none
      else (s.setSess i.toNat { s.sess i.toNat with
        st := .opened, draw := 0
        sk := Config.hkdf (Config.x25519Shared (s.sess i.toNat).draw (Mem.rdN s.mems.cmdwin 0 32) ++
          Config.mlkemShared (s.sess i.toNat).draw (Mem.rdN s.mems.cmdwin 32 1088)) (s.sess i.toNat).salt (ascii "STL-SESSION") 32 }).secTake 2 i 0
            (.sess i.toNat (s.sess i.toNat)) :=
  if_neg (fun hn => hn h)

/-- LOAD of a well-formed memory key's blob in an OPEN slot, with a fresh counter (R586, R587). -/
theorem State.loadCmd_memory {s : State} {i : BitVec 4} {w c : Nat} (hst : (s.sess i.toNat).st = .opened)
    (hw : leNat ((Mem.rdN s.mems.cmdwin 0 16).take 8) = w) (hc : leNat ((Mem.rdN s.mems.cmdwin 0 16).drop 8) = c)
    (hkind : bitsAt w 60 4 = 1) (hzero : bitsAt w 0 45 = 0) (hfresh : (s.sess i.toNat).counter.all (fun n => decide (n.toNat < c)) = true) :
    s.loadCmd i = match Config.gcmOpen (s.sess i.toNat).sk (zeros 3 ++ [BitVec.ofNat 8 i.toNat] ++ natBe 8 c) (Mem.rdN s.mems.cmdwin 0 16)
        (Mem.rdN s.mems.cmdwin 16 64) (Mem.rdN s.mems.cmdwin 80 16) with
      | none => s.secTake 4 i 5 .none
      | some k => if (s.loadPlain i w (slice k 0 64)).sec.cmd.any (fun c => c.err == 0)
        then (s.loadPlain i w (slice k 0 64)).setSess i.toNat { s.sess i.toNat with counter := some (BitVec.ofNat 64 c) }
        else s.loadPlain i w (slice k 0 64) := by
  have hf : (match (s.sess i.toNat).counter with | some n => decide (n.toNat < c) | none => true) = true := by
    cases hk : (s.sess i.toNat).counter with
    | none => rfl
    | some n =>
      rw [hk] at hfresh
      exact hfresh
  have h2 : ¬ ((1 : Nat) = 2) := by decide
  unfold State.loadCmd
  dsimp only
  rw [hw, hc, hkind, if_neg (by simp [hzero]), if_neg (fun h => h hst), if_neg h2]
  cases Config.gcmOpen (s.sess i.toNat).sk (zeros 3 ++ [BitVec.ofNat 8 i.toNat] ++ natBe 8 c) (Mem.rdN s.mems.cmdwin 0 16)
    (Mem.rdN s.mems.cmdwin 16 64) (Mem.rdN s.mems.cmdwin (16 + 64) 16) with
  | none => rfl
  | some k =>
    refine (if_neg ?_).trans rfl
    exact fun h => by
      cases hk : (s.sess i.toNat).counter with
      | none => rw [hk] at h; exact absurd h (by simp)
      | some n => rw [hk] at h hf; simp_all

/-- A memory key of a generation not in use is refused with equal halves, and else stored (R587, R592). -/
theorem State.loadPlain_memory {s : State} {i : BitVec 4} {w : Nat} (key : Bytes) (hkind : bitsAt w 60 4 = 1)
    (hu : s.genInUse (fieldAt 10 w 50) (bitAt w 49) = false) :
    s.loadPlain i w key = if halvesEqual key = true then s.secTake 4 i 7 .none
      else (s.setKey (keyIx (fieldAt 10 w 50) (bitAt w 49)) (some (BitVec.ofNat 512 (leNat key)))).secTake 4 i 0
        (.key (keyIx (fieldAt 10 w 50) (bitAt w 49)) (sget noKey s.sec.keys (keyIx (fieldAt 10 w 50) (bitAt w 49)))) :=
  (if_neg (by rw [hkind]; decide)).trans (if_neg (by rw [hu]; decide))

/-- A memory key stored, with the blob's counter kept in the session. -/
theorem State.stored_spec {s : State} {i : BitVec 4} {ix c : Nat} {v : BitVec 512} (hr : swf regReset s.regs = true) (hk : swf noKey s.sec.keys = true)
    (hs : swf sess0 s.sec.sess = true) :
    let u := (s.setKey ix (some v)).secTake 4 i 0 (.key ix (sget noKey s.sec.keys ix))
    let t := if u.sec.cmd.any (fun c => c.err == 0) then u.setSess i.toNat { s.sess i.toNat with counter := some (BitVec.ofNat 64 c) } else u
    (t.f F.SEC_RES_BUSY = 1 ∧ t.f F.SEC_RES_SESSION = i ∧ t.sec.cmd = some ⟨4, 0, .key ix (sget noKey s.sec.keys ix)⟩) ∧
      sget noKey t.sec.keys ix = some v ∧ (t.sess i.toNat).counter = some (BitVec.ofNat 64 c) ∧ t.mems = s.mems ∧ t.out = s.out := by
  intro u t
  have ht : t = u.setSess i.toNat { s.sess i.toNat with counter := some (BitVec.ofNat 64 c) } := if_pos rfl
  have hu := State.secTake_shows (s := s.setKey ix (some v)) hr 4 i 0 (.key ix (sget noKey s.sec.keys ix))
  have hb := u.setSess_regsBut i.toNat { s.sess i.toNat with counter := some (BitVec.ofNat 64 c) }
  have hss := State.sess_setSess (s := u) i.toNat { s.sess i.toNat with counter := some (BitVec.ofNat 64 c) } hs
  rw [ht]
  refine ⟨⟨(hb.f F.SEC_RES_BUSY (by decide)).trans hu.1, (hb.f F.SEC_RES_SESSION (by decide)).trans hu.2.1, rfl⟩, sget_sset_same _ _ _ _ hk, ?_, rfl, rfl⟩
  rw [hss]

/-- SEC_CMD_DONE (R613). -/
theorem State.secDone_spec {s : State} {c : SecCmd} (hc : s.sec.cmd = some c) (hr : swf regReset s.regs = true) :
    s.secDone.f F.SEC_RES_BUSY = 0 ∧ s.secDone.f F.SEC_RES_ERR = c.err ∧ s.secDone.sec = { s.sec with cmd := none } ∧ s.secDone.mems = s.mems ∧
      s.secDone.out = s.out := by
  unfold State.secDone
  rw [hc]
  exact ⟨State.f_setF_setF_first F.SEC_RES_BUSY F.SEC_RES_ERR 0 c.err (by decide) (by decide) hr,
    State.f_setF_same _ F.SEC_RES_ERR c.err (by decide) (State.regs_setF _ F.SEC_RES_BUSY 0 hr), rfl, rfl, rfl⟩

/-- Settles O40. -/
theorem securityCommands : Obligations.SecurityCommands := by
  refine ⟨fun s i hw hb hid hr hs => goes_secFree (f := (State.reportCmd · i)) rfl hw hb ?_,
    fun s i hw hb hid => exec_secFree (f := (State.reportCmd · i)) rfl hw hb (if_pos (by rw [hid]; rfl)),
    fun s i hw hb hst hr hs => goes_secFree (f := (State.openCmd · i)) rfl hw hb ?_,
    fun s i hw hb => ⟨fun h => exec_secFree (f := (State.openCmd · i)) rfl hw hb (if_pos h), fun h => exec_secFree (f := (State.closeCmd · i)) rfl hw hb (if_pos h)⟩,
    fun s i hw hb h => exec_secFree (f := (State.closeCmd · i)) rfl hw hb (if_neg (fun hn => hn h)),
    fun s i w c hw hb hst h1 h2 h3 h4 h5 h6 hr hk hs => goes_secFree (f := (State.loadCmd · i)) rfl hw hb ?_,
    fun s i w hw hb h1 h2 => exec_secFree (f := (State.loadCmd · i)) rfl hw hb ?_,
    fun s g b p hw hb hg hk hr => goes_secFree (f := (State.eraseCmd · 0 g b p.toNat)) rfl hw hb ?_,
    fun s g b p hw hb hg => exec_secFree (f := (State.eraseCmd · 0 g b p.toNat)) rfl hw hb ((if_neg (by simp)).trans ((if_neg (by decide)).trans (if_pos hg))),
    fun s g b p hw hb hp => exec_secFree (f := (State.eraseCmd · 1 g b p.toNat)) rfl hw hb ((if_neg (by simp; omega)).trans (if_pos rfl)),
    fun s k g b p hw hb h => exec_secFree (f := (State.eraseCmd · k g b p.toNat)) rfl hw hb (if_pos h),
    fun s p hw hb => ⟨fun h => exec_secFree (f := (State.rekeyCmd · p.toNat)) rfl hw hb (if_pos h),
      fun h he => exec_secFree (f := (State.rekeyCmd · p.toNat)) rfl hw hb ((if_neg (by omega)).trans (by rw [if_pos he])),
      fun h he => exec_secFree (f := (State.rekeyCmd · p.toNat)) rfl hw hb ((if_neg (by omega)).trans (by rw [if_neg (by rw [he]; decide)]))⟩,
    fun s i p k g b hb => ⟨exec_secBusy (f := (State.reportCmd · i)) rfl hb, exec_secBusy (f := (State.openCmd · i)) rfl hb,
      exec_secBusy (f := (State.closeCmd · i)) rfl hb, exec_secBusy (f := (State.loadCmd · i)) rfl hb,
      exec_secBusy (f := (State.eraseCmd · k g b p.toNat)) rfl hb, exec_secBusy (f := (State.rekeyCmd · p.toNat)) rfl hb⟩,
    fun s c hu hf hc hr => goes_up (f := fun s => if s.fwServes 0 then s.secDone else s) rfl hu (by rw [if_pos hf]; exact State.secDone_spec hc hr),
    fun s h => exec_same_up (f := fun s => if s.fwServes 0 then s.secDone else s) rfl ?_,
    fun s i hu hst ht => exec_up (f := (State.sessExpiry · i.toNat)) rfl hu (if_pos ⟨hst, ht⟩),
    fun s i h => exec_same_up (f := (State.sessExpiry · i.toNat)) rfl (if_neg ?_)⟩
  · obtain ⟨n, rep, v, hn, hl, hv, hd, he⟩ := State.reportCmd_spec i hid
    rw [he]
    have hreg := (State.setSess_regsBut { s with free := n, mems := { s.mems with rptwin := Mem.wrN s.mems.rptwin 0 rep } } i.toNat v).canonical hr
    have hss := State.sess_setSess (s := { s with free := n, mems := { s.mems with rptwin := Mem.wrN s.mems.rptwin 0 rep } }) i.toNat v hs
    obtain ⟨k1, k2, k3, k4, k5⟩ := State.setSess_rest { s with free := n, mems := { s.mems with rptwin := Mem.wrN s.mems.rptwin 0 rep } } i.toNat v
    generalize State.setSess { s with free := n, mems := { s.mems with rptwin := Mem.wrN s.mems.rptwin 0 rep } } i.toNat v = u at hreg hss k1 k2 k3 k4 k5 ⊢
    refine ⟨State.secTake_shows hreg 1 i 0 .none, ?_, ?_, ?_, k2, fun a ha => ?_, ?_, ?_, k3⟩
    · rw [State.secTake_sess, hss]
      exact hv
    · rw [State.secTake_sess, hss]
      exact hd
    · exact Nat.lt_of_lt_of_eq hn k4.symm
    · change Mem.rd u.mems.rptwin a = _
      rw [k1]
      exact Mem.rd_wrN_other _ _ _ _ (by omega)
    · exact (congrArg Mems.pool k1 :)
    · exact (congrArg Mems.sram k1 :)
  · rw [State.openCmd_reported hst]
    split
    · rfl
    · have hreg := (s.setSess_regsBut i.toNat { s.sess i.toNat with
        st := .opened, draw := 0
        sk := Config.hkdf (Config.x25519Shared (s.sess i.toNat).draw (Mem.rdN s.mems.cmdwin 0 32) ++
          Config.mlkemShared (s.sess i.toNat).draw (Mem.rdN s.mems.cmdwin 32 1088)) (s.sess i.toNat).salt (ascii "STL-SESSION") 32 }).canonical hr
      have hss := fun v => State.sess_setSess (s := s) i.toNat v hs
      refine ⟨State.secTake_shows hreg 2 i 0 _, ?_, ?_, rfl, rfl⟩ <;> rw [State.secTake_sess, hss]
  · rw [State.loadCmd_memory hst h1 h2 h3 h4 h5]
    cases Config.gcmOpen (s.sess i.toNat).sk (zeros 3 ++ [BitVec.ofNat 8 i.toNat] ++ natBe 8 c) (Mem.rdN s.mems.cmdwin 0 16)
      (Mem.rdN s.mems.cmdwin 16 64) (Mem.rdN s.mems.cmdwin 80 16) with
    | none => rfl
    | some key =>
      dsimp only
      rw [State.loadPlain_memory (slice key 0 64) h3 h6]
      by_cases he : halvesEqual (slice key 0 64) = true
      · rw [if_pos he, if_pos he, if_neg]
        change ¬ ((7 : BitVec 4) == 0) = true
        decide
      · rw [if_neg he, if_neg he]
        exact State.stored_spec hr hk hs
  · refine if_pos ?_
    rw [h1]
    rcases h2 with h2 | h2
    · exact Or.inl h2
    · exact Or.inr (Or.inl h2)
  · have he : s.eraseCmd 0 g b p.toNat = (s.setKey (keyIx g b) none).secTake 5 0 0 .none :=
      (if_neg (by simp)).trans ((if_neg (by decide)).trans (if_neg (by rw [hg]; decide)))
    rw [he]
    exact ⟨State.secTake_shows (s := s.setKey (keyIx g b) none) hr 5 0 0 .none, sget_sset_same _ _ _ _ hk, rfl, rfl, fun k hne => sget_sset_other _ _ _ _ _ hne⟩
  · rcases h with h | h
    · split
      · unfold State.secDone
        rw [h]
      · rfl
    · rw [if_neg (by rw [h]; decide)]
  · rintro ⟨h1, h2⟩
    rcases h with h | h
    · exact h h1
    · omega

/-! ### What a failing link writes of the registers -/

/-- A register that is not a lane's count of uncorrectable codewords. -/
def notPost (r : Nat) : Prop := r % 256 ≠ 16 ∨ r < 0x400000 ∨ 0x440000 ≤ r

theorem notPost_of_post (i : Nat) (h : i < 1024) : ¬ notPost (Reg.LAN_L_POST i) := by
  unfold notPost Reg.LAN_L_POST
  omega

theorem notPost_evt {r : Nat} (h : r ∈ evtRegs 0) : notPost r := by
  simp only [evtRegs, Reg.QMG_EVT_TAIL, Reg.QMG_EVT_LOST, List.mem_cons, List.not_mem_nil, or_false] at h
  unfold notPost
  omega

theorem notPost_laneStat {r : Nat} (h : laneStat r) : notPost r := by
  obtain ⟨i, rfl⟩ := h
  unfold notPost Reg.LAN_L_STAT
  omega

theorem notPost_portStat (p : Nat) : notPost (Reg.LAN_P_STAT p) := by
  unfold notPost Reg.LAN_P_STAT
  omega

theorem notPost_stateRegs {p r : Nat} (h : stateRegs p r) : notPost r :=
  h.elim (fun h => h ▸ notPost_portStat p) notPost_laneStat

theorem notPost_trainRegs {p r : Nat} (h : trainRegs p r) : notPost r := by
  refine h.elim (fun h => ?_) notPost_stateRegs
  subst h
  unfold notPost Reg.SEC_PORT_N
  omega

theorem State.post_notPost (s : State) (e : Ev) : RegsBut notPost s (s.post e) := (s.post_regsBut e).mono fun _ => notPost_evt

theorem State.discard_notPost (s : State) (i : Option Nat) : RegsBut notPost s (s.discard i) := by
  unfold State.discard State.incF
  cases i with
  | none => exact RegsBut.refl _ s
  | some p =>
    refine (RegsBut.refl _ s).setF _ _ ?_
    unfold notPost F.SWC_P_DISC_COUNT Reg.SWC_P_DISC
    dsimp only
    omega

theorem State.redMark_regs (s : State) (p q mn mx pm : Nat) : (s.redMark p q mn mx pm).2.regs = s.regs := by
  unfold State.redMark
  split
  · rfl
  split
  · rfl
  · rfl

theorem State.mark_notPost (s : State) (p : Nat) (m : TMsg) : RegsBut notPost s (s.mark p m).2 := by
  have hm : ∀ u : State, u.regs = s.regs → RegsBut notPost s (u.incF (F.SWC_P_MARK_COUNT p) 1) := fun u hu => by
    refine (RegsBut.of_regs hu).setF _ _ ?_
    unfold notPost F.SWC_P_MARK_COUNT Reg.SWC_P_MARK
    dsimp only
    omega
  unfold State.mark
  cases m with
  | snp r => exact RegsBut.refl _ s
  | req r =>
    have hr := s.redMark_regs p (s.depth p r.iso) (s.f (F.SWC_RED_MIN r.colour.toNat)).toNat (s.f (F.SWC_RED_MAX r.colour.toNat)).toNat
      (s.f (F.SWC_RED_PMAX r.colour.toNat)).toNat
    dsimp only
    split
    · exact hm _ hr
    · exact RegsBut.of_regs hr
  | cpl r =>
    have hr := s.redMark_regs p (s.depth p r.iso) (s.f (F.SWC_RED_MIN r.colour.toNat)).toNat (s.f (F.SWC_RED_MAX r.colour.toNat)).toNat
      (s.f (F.SWC_RED_PMAX r.colour.toNat)).toNat
    dsimp only
    split
    · exact hm _ hr
    · exact RegsBut.of_regs hr

theorem notPost_swcStat : notPost Reg.SWC_STAT := Or.inl (by decide)

theorem State.enqueue_notPost (s : State) (i : Option Nat) (p vc : Nat) (m : TMsg) : RegsBut notPost s (s.enqueue i p vc m) := by
  have h := s.mark_notPost p m
  unfold State.enqueue
  dsimp only
  generalize s.mark p m = r at h ⊢
  have h2 : RegsBut notPost s (if vc = 6 ∨ vc = 7 then r.2.setF F.SWC_STAT_ESC 1 else r.2) := RegsBut.ite (h.setF _ _ notPost_swcStat) h
  exact h2.same_regs (State.join_regs _ _ _ _ _)

theorem State.escHold_notPost (s : State) (i : Option Nat) (m : TMsg) : RegsBut notPost s (s.escHold i m) := by
  unfold State.escHold
  split
  · exact RegsBut.of_regs rfl
  · dsimp only
    have h : RegsBut notPost s (State.setF { s with swc := { s.swc with hold := s.swc.hold ++ [(i, m)] } } F.SWC_STAT_HELD 1) :=
      (RegsBut.of_regs (P := notPost) (s := s) (t := { s with swc := { s.swc with hold := s.swc.hold ++ [(i, m)] } }) rfl).setF _ _ notPost_swcStat
    generalize State.setF { s with swc := { s.swc with hold := s.swc.hold ++ [(i, m)] } } F.SWC_STAT_HELD 1 = u at h ⊢
    split
    · exact h.trans (u.post_notPost _)
    · exact h

theorem State.forward_notPost (s : State) (i : Option Nat) (m : TMsg) : RegsBut notPost s (s.forward i m) := by
  unfold State.forward
  refine RegsBut.ite (RegsBut.of_regs rfl) ?_
  dsimp only
  refine RegsBut.ite (s.discard_notPost i) (RegsBut.ite ?_ ?_)
  · cases (if m.probation = true then s.probationPort m.dst else none) with
    | none => exact s.discard_notPost i
    | some p => exact s.enqueue_notPost _ _ _ _
  · cases s.route i m with
    | here => exact RegsBut.of_regs (s.arrived_regs i m)
    | out p vc m' => exact s.enqueue_notPost _ _ _ _
    | hold => exact s.escHold_notPost i m

theorem State.requeue_notPost (s : State) (p : Nat) : RegsBut notPost s (s.requeue p) :=
  ((RegsBut.of_regs (P := notPost) (s := s) (t := s.setOutq p []) (s.setOutq_regs p [])).trans
    (RegsBut.foldl (f := fun (s : State) (q : QMsg) => s.forward q.inp q.msg) (fun s q => s.forward_notPost _ _) (s.outq p) (s.setOutq p [])))

theorem State.reportDown_notPost (s : State) (p : Nat) : RegsBut notPost s (s.reportDown p) := by
  unfold State.reportDown
  split
  · unfold State.declareDown
    split
    · exact RegsBut.refl _ s
    · dsimp only
      have hf : notPost (F.FLT_PORT_HB_DOWN p).off := by
        unfold notPost F.FLT_PORT_HB_DOWN Reg.FLT_PORT_HB
        dsimp only
        omega
      exact (((RegsBut.refl _ s).setF (F.FLT_PORT_HB_DOWN p) 1 hf).trans (State.post_notPost _ _)).trans (State.requeue_notPost _ p)
  · exact s.post_notPost _

theorem State.dropLink_notPost (s : State) (p : Nat) : RegsBut notPost s (s.dropLink p) := by
  unfold State.dropLink
  dsimp only
  have h1 : RegsBut notPost s (if p < 6 then s.setF (F.DTT_PORT_LAG_VALID p) 0 else s) := by
    split
    · refine (RegsBut.refl _ s).setF _ _ ?_
      unfold notPost F.DTT_PORT_LAG_VALID Reg.DTT_PORT_LAG
      dsimp only
      omega
    · exact RegsBut.refl _ s
  generalize (if p < 6 then s.setF (F.DTT_PORT_LAG_VALID p) 0 else s) = u at h1 ⊢
  exact h1.same_regs ((State.handOver_regs _ p _).trans rfl)

theorem State.beginTraining_notPost (s : State) (p : Nat) (full : Bool) : RegsBut notPost s (s.beginTraining p full) := by
  obtain ⟨hk, -, -, -, -⟩ := s.takeSeed_spec p
  rw [s.beginTraining_eq, State.emit_eq _ _ rfl]
  generalize s.takeSeed p = u at hk
  have h1 : RegsBut notPost s (u.setLp p { u.lp p with full := full, failed := [], peer := none, since := u.now }) :=
    (hk.mono fun r hr => notPost_trainRegs (p := p) (Or.inl hr)).same_regs rfl
  generalize u.setLp p { u.lp p with full := full, failed := [], peer := none, since := u.now } = v at h1 ⊢
  exact ((((h1.trans ((v.clearStat_regsBut p).mono fun _ => notPost_stateRegs)).trans
    ((State.dropLanes_regsBut _ p).mono fun _ => notPost_laneStat))).trans ((State.toState_regsBut _ p _ _).mono fun _ => notPost_stateRegs)).same_regs rfl

theorem State.startTraining_notPost (s : State) (p : Nat) (full : Bool) : RegsBut notPost s (s.startTraining p full) := by
  have h1 : RegsBut notPost s (s.takeSplit p) := by
    unfold State.takeSplit
    dsimp only
    split
    · exact RegsBut.refl _ s
    · have h : RegsBut notPost s (if bitAt (s.f F.SWC_SPLIT_SPLIT).toNat ((p - 6) % 4) then s else s.toState (10 + (p - 6) % 4) pOff laDeep) := by
        split
        · exact RegsBut.refl _ s
        · exact (s.toState_regsBut _ _ _).mono fun _ => notPost_stateRegs
      exact h.same_regs rfl
  unfold State.startTraining
  dsimp only
  generalize s.takeSplit p = u at h1 ⊢
  have h2 : RegsBut notPost s (if u.width p = 0 then u else u.beginTraining p full) := RegsBut.ite h1 (h1.trans (u.beginTraining_notPost p full))
  generalize (if u.width p = 0 then u else u.beginTraining p full) = v at h2 ⊢
  exact RegsBut.ite (h2.trans (v.beginTraining_notPost _ _)) h2

theorem State.linkFail_notPost (s : State) (p : Nat) : RegsBut notPost s (s.linkFail p) := by
  unfold State.linkFail
  split
  · exact (((s.dropLink_notPost p).trans (State.reportDown_notPost _ p)).trans (State.startTraining_notPost _ p _))
  · exact RegsBut.refl _ s

theorem State.laneFail_notPost (s : State) (p i c : Nat) : RegsBut notPost s (s.laneFail p i c) := by
  unfold State.laneFail
  dsimp only
  split
  · exact RegsBut.refl _ s
  · have h : RegsBut notPost s ((s.setF (F.LAN_L_STAT_FAILED i) 1).post (ev 0xA2 stOk (2 ^ 16 * p + i) c)) :=
      ((RegsBut.refl _ s).setF (F.LAN_L_STAT_FAILED i) 1 (notPost_laneStat ⟨i, rfl⟩)).trans (State.post_notPost _ _)
    generalize (s.setF (F.LAN_L_STAT_FAILED i) 1).post (ev 0xA2 stOk (2 ^ 16 * p + i) c) = u at h ⊢
    exact RegsBut.ite ((h.setF _ _ (notPost_portStat p)).setF _ _ (notPost_portStat p)) (h.trans (u.linkFail_notPost p))

theorem State.comma_notPost (s : State) (p i : Nat) (seen : Bool) : RegsBut notPost s (s.comma p i seen) := by
  unfold State.comma
  dsimp only
  have h : ∀ v, RegsBut notPost s (s.setLp p v) := fun v => RegsBut.of_regs rfl
  exact RegsBut.ite (((h _).setF _ _ (notPost_laneStat ⟨i, rfl⟩)).trans (State.laneFail_notPost _ p i 0)) (h _)

/-! ### Groups of symbols (R499 to R504, R514, R516) -/

theorem satAdd_zero {w : Nat} (x : BitVec w) : satAdd x 0 = x := by
  unfold satAdd
  rw [if_pos (by have := x.isLt; omega), Nat.add_zero]
  exact BitVec.eq_of_toNat_eq (by simp [Nat.mod_eq_of_lt x.isLt])

theorem lanPost_inj {i j : Nat} (h : Reg.LAN_L_POST i = Reg.LAN_L_POST j) : i = j := by
  unfold Reg.LAN_L_POST at h
  omega

/-- Counting on every lane of a list once. -/
theorem State.countPost {n : Nat} (l : List Nat) (s : State) (hr : swf regReset s.regs = true) :
    swf regReset (l.foldl (fun s i => s.satF (F.LAN_L_POST_COUNT i) n) s).regs = true ∧
      (∀ i, i ∉ l → (l.foldl (fun s i => s.satF (F.LAN_L_POST_COUNT i) n) s).f (F.LAN_L_POST_COUNT i) = s.f (F.LAN_L_POST_COUNT i)) ∧
      (l.Nodup → ∀ i ∈ l, (l.foldl (fun s i => s.satF (F.LAN_L_POST_COUNT i) n) s).f (F.LAN_L_POST_COUNT i) = satAdd (s.f (F.LAN_L_POST_COUNT i)) n) := by
  induction l generalizing s with
  | nil => exact ⟨hr, fun _ _ => rfl, fun _ i hi => by simp at hi⟩
  | cons a l ih =>
    obtain ⟨h1, h2, h3⟩ := ih (s.satF (F.LAN_L_POST_COUNT a) n) (s.regs_setF _ _ hr)
    have ho : ∀ i, i ≠ a → (s.satF (F.LAN_L_POST_COUNT a) n).f (F.LAN_L_POST_COUNT i) = s.f (F.LAN_L_POST_COUNT i) := fun i hi =>
      s.f_setF_reg (F.LAN_L_POST_COUNT a) (F.LAN_L_POST_COUNT i) _ (fun h => hi (lanPost_inj h))
    refine ⟨h1, fun i hi => ?_, fun hn i hi => ?_⟩
    · rw [List.mem_cons, not_or] at hi
      exact (h2 i hi.2).trans (ho i hi.1)
    · rw [List.nodup_cons] at hn
      rcases List.mem_cons.1 hi with rfl | hi
      · exact (h2 i hn.1).trans (s.f_setF_same _ _ (Nat.le_of_ble_eq_true rfl) hr)
      · have hne : i ≠ a := fun h => hn.1 (h ▸ hi)
        exact (h3 hn.2 i hi).trans (congrArg (satAdd · n) (ho i hne))

theorem State.countPost_rest {n : Nat} (l : List Nat) (s : State) : { l.foldl (fun s i => s.satF (F.LAN_L_POST_COUNT i) n) s with regs := s.regs } = s :=
  foldl_regs_only (f := fun s i => s.satF (F.LAN_L_POST_COUNT i) n) (fun _ _ => rfl) l s

theorem State.laneOf_nodup (s : State) (p : Nat) : (s.laneOf p).Nodup := by
  unfold State.laneOf
  exact (List.nodup_range).map (fun a b h => Nat.add_right_cancel h)

theorem State.laneOf_lt {s : State} {p i : Nat} (hp : p < 14) (h : i ∈ s.laneOf p) : i < 1024 := by
  unfold State.laneOf at h
  obtain ⟨k, hk, rfl⟩ := List.mem_map.1 h
  have hw : s.width p ≤ 48 := by
    unfold State.width
    split
    · decide
    split
    · decide
    · decide
  have hk := List.mem_range.1 hk
  unfold firstLane
  split <;> omega

/-- What a group's bits change depends on the port and the outputs alone. -/
theorem State.groupBits_congr {s t : State} (p : Nat) (b : List Bool) (h : { t with regs := s.regs } = s) :
    { t.groupBits p b with regs := s.regs } = s.groupBits p b := by
  have hl : t.lp p = s.lp p := State.lp_of_lan (congrArg State.lan h :) p
  unfold State.groupBits
  dsimp only
  rw [hl]
  have he : ∀ (fs : List Bytes) (u v : State), { u with regs := v.regs } = v →
      { fs.foldl (fun s f => s.emit (.rxFlit p f)) u with regs := v.regs } = fs.foldl (fun s f => s.emit (.rxFlit p f)) v := by
    intro fs
    induction fs with
    | nil => exact fun u v h => h
    | cons f fs ih =>
      intro u v h
      have h1 : { u.emit (.rxFlit p f) with regs := v.regs } = v.emit (.rxFlit p f) := by
        rw [State.emit_eq _ _ rfl, State.emit_eq _ _ rfl]
        exact (congrArg (fun t : State => { t with out := t.out ++ [Out.rxFlit p f] }) h :)
      have h2 := ih (u.emit (.rxFlit p f)) (v.emit (.rxFlit p f)) (by rw [State.emit_regs]; exact h1)
      rw [State.emit_regs] at h2
      exact h2
  generalize scramble (s.lp p).phy.rxScr b = r
  generalize cutBlocks 90 ((s.lp p).phy.rxBits ++ r.1) (s.lp p).phy.rxFlit = q
  have hv : ∀ v : LPort, { t.setLp p v with regs := (s.setLp p v).regs } = s.setLp p v := fun v => (congrArg (fun t : State => t.setLp p v) h :)
  exact he q.1 _ _ (hv _)

theorem State.commaDue_congr {s t : State} (p : Nat) (h : { t with regs := s.regs } = s) :
    (t.commaDue p).1 = (s.commaDue p).1 ∧ { (t.commaDue p).2 with regs := s.regs } = (s.commaDue p).2 := by
  have hl : t.lp p = s.lp p := State.lp_of_lan (congrArg State.lan h :) p
  have hw : t.width p = s.width p := by
    have he : t.ep = s.ep := (congrArg State.ep h :)
    rw [State.width, State.width, State.isSplit, State.isSplit, he]
  unfold State.commaDue
  dsimp only
  rw [hl, hw]
  exact ⟨rfl, (congrArg (fun t : State => t.setLp p _) h :)⟩

/-- A group of a port: its uncorrectable codewords counted on every lane, its corrected symbols on theirs, its bits cut, and the commas due looked at. -/
def State.groupRest (s : State) (p : Nat) (d : Decoded) (commas : List (BitVec 9)) : State :=
  let s := (s.laneOf p).foldl (fun s i => s.satF (F.LAN_L_POST_COUNT i) d.lost) s
  let s := s.groupBits p d.bits
  let (due, s) := s.commaDue p
  if due then (s.laneOf p).foldl (fun s i => if s.on (F.LAN_L_STAT_FAILED i) then s else s.comma p i (commas.any (·.toNat == i))) s else s

theorem State.fecGroup_unfixed {s : State} {p : Nat} {g : List Sym} {c : List (BitVec 9)} (ht : s.trained p = true)
    (hf : (decodeGroup 544 32 (s.width p) (s.failedLanes p) g).fixed = []) :
    s.fecGroup p g c = s.groupRest p (decodeGroup 544 32 (s.width p) (s.failedLanes p) g) c := by
  unfold State.fecGroup State.groupRest
  rw [if_neg (by rw [ht]; decide)]
  dsimp only
  rw [hf]
  have hk : ∀ (l : List Nat) (u : State), l.foldl (fun (v : State) i => if (([] : List Nat).filter (fun x => laneOfSym (s.width p) x + firstLane p == i)).length = 0 then v
      else v.corrected p i (([] : List Nat).filter (fun x => laneOfSym (s.width p) x + firstLane p == i)).length) u = u := fun l => by
    induction l with
    | nil => exact fun _ => rfl
    | cons a l ih => exact fun u => ih u
  rw [hk]

theorem State.groupBits_regs (s : State) (p : Nat) (b : List Bool) : (s.groupBits p b).regs = s.regs := by
  unfold State.groupBits
  dsimp only
  exact foldl_keep State.regs _ _ _ (fun s f => s.emit_regs _)

/-- A group without error that brings no comma due: its bits are cut into flits. -/
theorem State.groupRest_clean {s : State} {p : Nat} {bits : List Bool} {c : List (BitVec 9)} (hd : ((s.groupBits p bits).commaDue p).1 = false) :
    { s.groupRest p ⟨[], 0, bits⟩ c with regs := s.regs } = ((s.groupBits p bits).commaDue p).2 := by
  unfold State.groupRest
  dsimp only
  have h1 := State.countPost_rest (n := 0) (s.laneOf p) s
  generalize (s.laneOf p).foldl (fun s i => s.satF (F.LAN_L_POST_COUNT i) 0) s = u at h1 ⊢
  have h2 := State.groupBits_congr p bits h1
  have h3 := State.commaDue_congr (s := s.groupBits p bits) (t := u.groupBits p bits) p (by rw [State.groupBits_regs]; exact h2)
  rw [h3.1, hd, if_neg Bool.false_ne_true]
  have h4 := h3.2
  rw [State.groupBits_regs] at h4
  exact h4

/-- A group's uncorrectable codewords show on every lane of its port, whatever its commas bring. -/
theorem State.groupRest_post {s : State} {p : Nat} {d : Decoded} {c : List (BitVec 9)} (hp : p < 14) (hr : swf regReset s.regs = true) :
    ∀ i ∈ s.laneOf p, (s.groupRest p d c).f (F.LAN_L_POST_COUNT i) = satAdd (s.f (F.LAN_L_POST_COUNT i)) d.lost := by
  intro i hi
  obtain ⟨-, -, h1⟩ := State.countPost (n := d.lost) (s.laneOf p) s hr
  unfold State.groupRest
  dsimp only
  generalize (s.laneOf p).foldl (fun s i => s.satF (F.LAN_L_POST_COUNT i) d.lost) s = u at h1 ⊢
  have h2 := u.groupBits_regs p d.bits
  generalize u.groupBits p d.bits = v at h2 ⊢
  have h3 : (v.commaDue p).2.regs = v.regs := rfl
  generalize v.commaDue p = w at h3 ⊢
  have h4 : RegsBut notPost w.2 (if w.1 = true then (w.2.laneOf p).foldl (fun s i => if s.on (F.LAN_L_STAT_FAILED i) then s
      else s.comma p i (c.any (·.toNat == i))) w.2 else w.2) :=
    RegsBut.ite (RegsBut.foldl (f := fun s i => if s.on (F.LAN_L_STAT_FAILED i) then s else s.comma p i (c.any (·.toNat == i)))
      (fun s i => RegsBut.ite (RegsBut.refl _ s) (s.comma_notPost _ _ _)) _ _) (RegsBut.refl _ _)
  rw [h4.f (F.LAN_L_POST_COUNT i) (notPost_of_post i (State.laneOf_lt hp hi)), State.f_of_regs h3, State.f_of_regs h2]
  exact h1 (s.laneOf_nodup p) i hi

/-! ### Lanes under test, and module accesses (R514 to R521) -/

theorem State.pattern_one (s : State) (i : BitVec 9) (b e : Nat) :
    s.pattern [(i, b, e)] = (s.satF (F.LAN_L_PRBS_BITS_COUNT i.toNat) b).satF (F.LAN_L_PRBS_ERR_COUNT i.toNat) e := rfl

/-- The registers of one lane are distinct. -/
theorem laneRegs_ne (i : Nat) : Reg.LAN_L_PRE i ≠ Reg.LAN_L_POST i ∧ Reg.LAN_L_STAT i ≠ Reg.LAN_L_PRBS_BITS i ∧ Reg.LAN_L_STAT i ≠ Reg.LAN_L_PRBS_ERR i ∧
    Reg.LAN_L_PRBS_BITS i ≠ Reg.LAN_L_PRBS_ERR i ∧ Reg.LAN_L_PRE i ≠ Reg.LAN_L_PRBS_ERR i ∧ Reg.LAN_L_PRE i ≠ Reg.LAN_L_PRBS_BITS i ∧
    Reg.LAN_L_POST i ≠ Reg.LAN_L_PRBS_ERR i ∧ Reg.LAN_L_POST i ≠ Reg.LAN_L_PRBS_BITS i := by
  simp only [Reg.LAN_L_PRE, Reg.LAN_L_POST, Reg.LAN_L_STAT, Reg.LAN_L_PRBS_BITS, Reg.LAN_L_PRBS_ERR]
  omega

theorem State.fecLane_tests {s : State} {i : Nat} {g : List Sym} (ht : s.testing i = true) (hf : s.on (F.LAN_L_CTL_FEC_TEST i) = true)
    (hr : swf regReset s.regs = true) :
    (s.fecLane i g).f (F.LAN_L_PRE_COUNT i) = satAdd (s.f (F.LAN_L_PRE_COUNT i)) (decodeGroup 544 32 1 [] g).fixed.length ∧
      (s.fecLane i g).f (F.LAN_L_POST_COUNT i) = satAdd (s.f (F.LAN_L_POST_COUNT i)) (decodeGroup 544 32 1 [] g).lost ∧
      (s.fecLane i g).lan = s.lan ∧ (s.fecLane i g).mems = s.mems := by
  obtain ⟨hne, -⟩ := laneRegs_ne i
  have he : s.fecLane i g = (s.satF (F.LAN_L_PRE_COUNT i) (decodeGroup 544 32 1 [] g).fixed.length).satF (F.LAN_L_POST_COUNT i) (decodeGroup 544 32 1 [] g).lost :=
    if_pos (by rw [ht, hf]; rfl)
  rw [he]
  refine ⟨?_, ?_, rfl, rfl⟩
  · exact (State.f_setF_reg _ (F.LAN_L_POST_COUNT i) (F.LAN_L_PRE_COUNT i) _ hne).trans (s.f_setF_same _ _ (Nat.le_of_ble_eq_true rfl) hr)
  · refine (State.f_setF_same _ (F.LAN_L_POST_COUNT i) _ (Nat.le_of_ble_eq_true rfl) (s.regs_setF _ _ hr)).trans ?_
    exact congrArg (satAdd · _) (s.f_setF_reg (F.LAN_L_PRE_COUNT i) (F.LAN_L_POST_COUNT i) _ hne.symm)

theorem State.laneClr_spec {s : State} (i : Nat) (hr : swf regReset s.regs = true) :
    (s.laneClr i).rd (Reg.LAN_L_PRE i) = 0 ∧ (s.laneClr i).rd (Reg.LAN_L_POST i) = 0 ∧ (s.laneClr i).rd (Reg.LAN_L_PRBS_ERR i) = 0 ∧
      (s.laneClr i).rd (Reg.LAN_L_PRBS_BITS i) = 0 ∧ (s.laneClr i).lan = s.lan ∧ (s.laneClr i).mems = s.mems := by
  obtain ⟨h1, -, -, h4, h5, h6, h7, h8⟩ := laneRegs_ne i
  have r1 := s.regs_wr (Reg.LAN_L_PRE i) 0 hr
  have r2 := State.regs_wr _ (Reg.LAN_L_POST i) 0 r1
  have r3 := State.regs_wr _ (Reg.LAN_L_PRBS_ERR i) 0 r2
  unfold State.laneClr
  refine ⟨?_, ?_, ?_, State.rd_wr_same _ _ _ r3, rfl, rfl⟩
  · rw [State.rd_wr_other _ _ _ _ h6, State.rd_wr_other _ _ _ _ h5, State.rd_wr_other _ _ _ _ h1, State.rd_wr_same _ _ _ hr]
  · rw [State.rd_wr_other _ _ _ _ h8, State.rd_wr_other _ _ _ _ h7, State.rd_wr_same _ _ _ r1]
  · rw [State.rd_wr_other _ _ _ _ h4.symm, State.rd_wr_same _ _ _ r2]

theorem State.prbsLock_tests {s : State} {i : BitVec 9} {b e : Nat} (ht : s.testing i.toNat = true) (h1 : 1 ≤ (s.f (F.LAN_L_CTL_RX_PAT i.toNat)).toNat)
    (h5 : (s.f (F.LAN_L_CTL_RX_PAT i.toNat)).toNat ≤ 5) (hr : swf regReset s.regs = true) :
    (s.prbsLock i.toNat b e).on (F.LAN_L_STAT_PRBS_LOCK i.toNat) = true ∧
      (s.prbsLock i.toNat b e).f (F.LAN_L_PRBS_ERR_COUNT i.toNat) = satAdd (s.f (F.LAN_L_PRBS_ERR_COUNT i.toNat)) e ∧
      (s.prbsLock i.toNat b e).f (F.LAN_L_PRBS_BITS_COUNT i.toNat) = satAdd (s.f (F.LAN_L_PRBS_BITS_COUNT i.toNat)) b ∧
      (s.prbsLock i.toNat b e).lan = s.lan := by
  obtain ⟨-, h2, h3, h4, -⟩ := laneRegs_ne i.toNat
  have he : s.prbsLock i.toNat b e = ((s.setF (F.LAN_L_STAT_PRBS_LOCK i.toNat) 1).satF (F.LAN_L_PRBS_BITS_COUNT i.toNat) b).satF
      (F.LAN_L_PRBS_ERR_COUNT i.toNat) e := by
    unfold State.prbsLock
    rw [if_pos ⟨ht, h1, h5⟩, BitVec.ofNat_toNat, BitVec.setWidth_eq, State.pattern_one]
  have r1 := s.regs_setF (F.LAN_L_STAT_PRBS_LOCK i.toNat) 1 hr
  have r2 := State.regs_setF _ (F.LAN_L_PRBS_BITS_COUNT i.toNat) (satAdd ((s.setF (F.LAN_L_STAT_PRBS_LOCK i.toNat) 1).f (F.LAN_L_PRBS_BITS_COUNT i.toNat)) b) r1
  rw [he]
  unfold State.satF
  refine ⟨?_, ?_, ?_, rfl⟩
  · rw [State.on]
    refine (congrArg (· == 1) ?_ : _).trans (rfl : ((1 : BitVec 1) == 1) = true)
    exact (State.f_setF_reg _ (F.LAN_L_PRBS_ERR_COUNT i.toNat) (F.LAN_L_STAT_PRBS_LOCK i.toNat) _ h3).trans ((State.f_setF_reg _ (F.LAN_L_PRBS_BITS_COUNT i.toNat) (F.LAN_L_STAT_PRBS_LOCK i.toNat) _ h2).trans
      (s.f_setF_same _ _ (Nat.le_of_ble_eq_true rfl) hr))
  · refine (State.f_setF_same _ (F.LAN_L_PRBS_ERR_COUNT i.toNat) _ (Nat.le_of_ble_eq_true rfl) r2).trans (congrArg (satAdd · e) ?_)
    exact (State.f_setF_reg _ (F.LAN_L_PRBS_BITS_COUNT i.toNat) (F.LAN_L_PRBS_ERR_COUNT i.toNat) _ h4.symm).trans (s.f_setF_reg _ (F.LAN_L_PRBS_ERR_COUNT i.toNat) _ h3.symm)
  · refine (State.f_setF_reg _ (F.LAN_L_PRBS_ERR_COUNT i.toNat) (F.LAN_L_PRBS_BITS_COUNT i.toNat) _ h4).trans ?_
    refine (State.f_setF_same _ (F.LAN_L_PRBS_BITS_COUNT i.toNat) _ (Nat.le_of_ble_eq_true rfl) r1).trans (congrArg (satAdd · b) ?_)
    exact s.f_setF_reg _ (F.LAN_L_PRBS_BITS_COUNT i.toNat) _ h2.symm

section
variable {s : State} {v : R32} (hb : s.on F.LAN_CMIS_RES_BUSY = false) (hg : fget F.LAN_CMIS_CMD_GO v = 1)
include hb hg

theorem State.cmisAccess_absent (h : 9 < (fget F.LAN_CMIS_CMD_BUS v).toNat ∨ 5 < (fget F.LAN_CMIS_CMD_MOD v).toNat) :
    s.cmisAccess v = s.setF F.LAN_CMIS_RES_ERR 2 :=
  (if_neg (by rw [hb, hg]; decide)).trans (if_pos h)

/-- A read of a module runs and goes out on its bus (R521). -/
theorem State.cmisAccess_read (h1 : (fget F.LAN_CMIS_CMD_BUS v).toNat ≤ 9) (h2 : (fget F.LAN_CMIS_CMD_MOD v).toNat ≤ 5) (hw : fget F.LAN_CMIS_CMD_WR v = 0)
    (hr : swf regReset s.regs = true) :
    (s.cmisAccess v).on F.LAN_CMIS_RES_BUSY = true ∧ (s.cmisAccess v).f F.LAN_CMIS_RES_ERR = 0 ∧ (s.cmisAccess v).lan = { s.lan with cmis := some v } ∧
      (s.cmisAccess v).out = s.out ++ [.i3c (fget F.LAN_CMIS_CMD_BUS v).toNat (fget F.LAN_CMIS_CMD_MOD v).toNat false (fget F.LAN_CMIS_CMD_PAGE v)
        (fget F.LAN_CMIS_CMD_ADDR v) (zeros ((fget F.LAN_CMIS_CMD_LEN_M1 v).toNat + 1))] ∧ (s.cmisAccess v).mems = s.mems := by
  unfold State.cmisAccess
  dsimp only
  rw [if_neg (by rw [hb, hg]; decide), if_neg (by omega), hw, if_neg (by simp), State.emit_eq _ _ rfl]
  have hbusy := State.f_setF_setF_first F.LAN_CMIS_RES_BUSY F.LAN_CMIS_RES_ERR 1 0 (by decide) (by decide) hr
  have herr := State.f_setF_same _ F.LAN_CMIS_RES_ERR 0 (by decide) (s.regs_setF F.LAN_CMIS_RES_BUSY 1 hr)
  exact ⟨congrArg (· == 1) hbusy, herr, rfl, rfl, rfl⟩

end

/-- The bytes of a read that is done, four to a register (R521). -/
theorem State.cmisBytes_spec (s : State) (d : Bytes) (n : Nat) (hn : n ≤ 8) (h : swf regReset s.regs = true) :
    RegsBut (fun r => ∃ j, j < 8 ∧ r = Reg.LAN_CMIS_DATA j) s
      (upto (fun j s => if 4 * j < d.length then s.wr (Reg.LAN_CMIS_DATA j) (BitVec.ofNat 32 (leNat (slice d (4 * j) 4))) else s) n s) ∧
      (0 < n → 0 < d.length → (upto (fun j s => if 4 * j < d.length then s.wr (Reg.LAN_CMIS_DATA j) (BitVec.ofNat 32 (leNat (slice d (4 * j) 4))) else s) n s).rd
        (Reg.LAN_CMIS_DATA 0) = BitVec.ofNat 32 (leNat (slice d 0 4))) := by
  induction n with
  | zero => exact ⟨RegsBut.refl _ s, fun h => absurd h (by decide)⟩
  | succ n ih =>
    obtain ⟨h1, h2⟩ := ih (by omega)
    simp only [upto]
    generalize upto (fun j s => if 4 * j < d.length then s.wr (Reg.LAN_CMIS_DATA j) (BitVec.ofNat 32 (leNat (slice d (4 * j) 4))) else s) n s = u at h1 h2 ⊢
    refine ⟨RegsBut.ite (h1.wr _ _ ⟨n, by omega, rfl⟩) h1, fun _ hd => ?_⟩
    by_cases hz : n = 0
    · subst hz
      rw [if_pos (by omega)]
      exact State.rd_wr_same _ _ _ (h1.canonical h)
    · split
      · rw [State.rd_wr_other _ _ _ _ (by simp only [Reg.LAN_CMIS_DATA]; omega)]
        exact h2 (by omega) hd
      · exact h2 (by omega) hd

/-- A module access that is done shows its error; a read without error leaves its bytes. -/
theorem State.cmisDone_shows {s : State} {v : R32} {e : BitVec 3} {d : Bytes} (hc : s.lan.cmis = some v) :
    s.cmisDone e d = (fun t : State => if fget F.LAN_CMIS_CMD_WR v = 1 ∨ e ≠ 0 then t else
      upto (fun j s => if 4 * j < d.length then s.wr (Reg.LAN_CMIS_DATA j) (BitVec.ofNat 32 (leNat (slice d (4 * j) 4))) else s) 8 t)
      ((State.setF { s.fwDone 3 with lan := { s.lan with cmis := none } } F.LAN_CMIS_RES_BUSY 0).setF F.LAN_CMIS_RES_ERR e) := by
  unfold State.cmisDone
  rw [hc]

theorem State.cmisShown_spec {s : State} (e : BitVec 3) (hr : swf regReset s.regs = true) :
    let t := (State.setF { s.fwDone 3 with lan := { s.lan with cmis := none } } F.LAN_CMIS_RES_BUSY 0).setF F.LAN_CMIS_RES_ERR e
    t.lan.cmis = none ∧ t.on F.LAN_CMIS_RES_BUSY = false ∧ t.f F.LAN_CMIS_RES_ERR = e ∧ swf regReset t.regs = true ∧
      t.rd (Reg.LAN_CMIS_DATA 0) = s.rd (Reg.LAN_CMIS_DATA 0) := by
  intro t
  have h1 := State.regs_setF { s.fwDone 3 with lan := { s.lan with cmis := none } } F.LAN_CMIS_RES_BUSY 0 hr
  have hbusy := State.f_setF_setF_first (s := { s.fwDone 3 with lan := { s.lan with cmis := none } }) F.LAN_CMIS_RES_BUSY F.LAN_CMIS_RES_ERR 0 e (by decide) (by decide) hr
  refine ⟨rfl, congrArg (· == 1) hbusy, State.f_setF_same _ F.LAN_CMIS_RES_ERR e (by decide) h1, State.regs_setF _ _ _ h1, ?_⟩
  exact (State.rd_setF_other _ _ _ _ (by decide)).trans (State.rd_setF_other _ F.LAN_CMIS_RES_BUSY 0 _ (by decide))

/-- Settles O35. -/
theorem lanesAndModules : Obligations.LanesAndModules := by
  refine ⟨⟨fun s p m hu hc hst => exec_up (f := (State.laneCal · p.val m)) rfl hu ?_, fun s p m h => exec_same_up (f := (State.laneCal · p.val m)) rfl (if_neg ?_),
    fun s p g c bits hu ht hd hn hr hl => goes_up (f := (State.fecGroup · p.val g c)) rfl hu ?_,
    fun s p g c hu ht hf hr => goes_up (f := (State.fecGroup · p.val g c)) rfl hu ?_,
    fun s p g c ht => exec_same_up (f := (State.fecGroup · p.val g c)) rfl (if_pos (by rw [ht]; rfl)),
    fun s p i g c hu ht hf hr => goes_up (f := (State.fecLane · i.toNat g)) rfl hu (State.fecLane_tests ht hf hr),
    fun s i n hw => ⟨exec_wr (f := fun s => s.emit (.invert i.toNat 1)) rfl hw (State.emit_eq _ _ rfl),
      exec_wr (f := fun s => s.emit (.invert i.toNat (max 1 n.toNat))) rfl hw (State.emit_eq _ _ rfl)⟩,
    fun s i hw hr => goes_wr (f := (State.laneClr · i.toNat)) rfl hw (State.laneClr_spec _ hr),
    fun s i b e p hu hp hst h1 h5 hr => goes_up (f := (State.prbsLock · i.toNat b e)) rfl hu (State.prbsLock_tests ?_ h1 h5 hr),
    fun s i b e h => exec_same_up (f := (State.prbsLock · i.toNat b e)) rfl (if_neg ?_)⟩,
    fun s v h => exec_same_wr (f := (State.cmisAccess · v)) rfl (if_pos h),
    fun s v hw hb hg h => exec_wr (f := (State.cmisAccess · v)) rfl hw (State.cmisAccess_absent hb hg h),
    fun s v hw hb hg h1 h2 hwr hr => goes_wr (f := (State.cmisAccess · v)) rfl hw (State.cmisAccess_read hb hg h1 h2 hwr hr),
    fun s v e d hu hf hc he hr => goes_up (f := fun s => if s.fwServes 3 then s.cmisDone e d else s) rfl hu ?_,
    fun s v d hu hf hc hwr hd hr => goes_up (f := fun s => if s.fwServes 3 then s.cmisDone 0 d else s) rfl hu ?_,
    fun s e d hc => exec_same_up (f := fun s => if s.fwServes 3 then s.cmisDone e d else s) rfl ?_,
    fun s b m a x hu hx hf => exec_up (f := fun s => s.cmisFlag b.val m.val (a, x)) rfl hu ?_,
    fun s b m a => exec_same_up (f := fun s => s.cmisFlag b.val m.val (a, 0)) rfl (if_pos rfl)⟩
  · have ht : s.trained p.val = true := by rw [State.trained, hst]; rfl
    unfold State.laneCal
    rw [if_pos ⟨hc, ht⟩, if_pos hst]
  · rcases h with h | h <;> simp [h]
  · rw [State.fecGroup_unfixed ht (by rw [hd]), hd]
    have h := State.groupRest_clean (c := c) hn
    refine ⟨(congrArg State.lan h :), (congrArg State.out h :), ?_⟩
    have hm : (((s.groupBits p.val bits).commaDue p.val).2).mems = s.mems := by
      unfold State.groupBits State.commaDue
      exact foldl_keep State.mems _ _ _ (fun _ _ => by simp)
    exact (congrArg State.mems h : _).trans hm
  · refine ⟨by simp, ?_⟩
    rw [State.fecGroup_unfixed ht hf]
    exact State.groupRest_post p.isLt hr
  · rw [State.testing, hp]
    exact decide_eq_true hst
  · rintro ⟨-, h1, -⟩
    rw [h] at h1
    exact absurd h1 (by decide)
  · obtain ⟨h1, h2, h3, h4, h5⟩ := State.cmisShown_spec e hr
    rw [if_pos hf, State.cmisDone_shows hc]
    dsimp only
    rw [if_pos he]
    exact ⟨h1, h2, h3, h5⟩
  · obtain ⟨h1, h2, h3, h4, h5⟩ := State.cmisShown_spec 0 hr
    rw [if_pos hf, State.cmisDone_shows hc]
    dsimp only
    rw [if_neg (by rw [hwr]; simp)]
    generalize (State.setF { s.fwDone 3 with lan := { s.lan with cmis := none } } F.LAN_CMIS_RES_BUSY 0).setF F.LAN_CMIS_RES_ERR 0 = u at h1 h2 h4 ⊢
    obtain ⟨k1, k2⟩ := State.cmisBytes_spec u d 8 (Nat.le_refl _) h4
    refine ⟨?_, (congrArg (· == 1) (k1.f F.LAN_CMIS_RES_BUSY ?_) : _).trans h2, k2 (by decide) hd⟩
    · rw [upto_keep State.lan _ _ _ (fun j s => by split <;> rfl)]
      exact h1
    · rintro ⟨j, -, h⟩
      simp only [F.LAN_CMIS_RES_BUSY, Reg.LAN_CMIS_RES, Reg.LAN_CMIS_DATA] at h
      omega
  · unfold State.cmisDone
    rw [hc]
    exact ite_self _
  · unfold State.cmisFlag
    dsimp only
    rw [if_neg hx, if_neg (by rw [hf]; decide)]

end Sys2Proof.Machine
end

section
/-!
PROOFS. Packed partial blocks.
-/

namespace Sys2Proof.Machine

/-! ### Packed partial blocks (R360, R363) -/

theorem leNat_take_append (n x : Nat) (bs : Bytes) : leNat ((natLe n x ++ bs).take n) = x % 256 ^ n := by
  rw [List.take_left' (natLe_length n x), leNat_natLe]

theorem leNat_slice_append (n m x : Nat) (bs : Bytes) (hb : bs.length = n) : leNat (slice (bs ++ natLe m x) n m) = x % 256 ^ m := by
  unfold slice
  dsimp only
  rw [List.drop_left' hb, List.take_of_length_le (by rw [natLe_length]), natLe_length, Nat.sub_self]
  simp only [zeros, List.replicate_zero, List.append_nil]
  exact leNat_natLe m x

theorem residue_lt (l : List Int) : residue l < 65521 := by
  unfold residue
  omega

theorem partFmt_lt (c : Nat) : partFmt c < 4 := by
  unfold partFmt
  repeat' split
  all_goals decide

/-- The fields of a header that its values fit. -/
theorem partHead_fields {c k sh : Nat} {p : PBlock} (hk : k < 16) (hs : sh < 128) (hc : p.count ≤ 8191) :
    partHead c k sh p < 256 ^ 8 ∧ bitsAt (partHead c k sh p) 20 4 = k ∧ bitsAt (partHead c k sh p) 40 8 = (p.eb % 256).toNat ∧
      bitsAt (partHead c k sh p) 27 13 = p.count ∧ bitAt (partHead c k sh p) 26 = p.sat ∧ bitsAt (partHead c k sh p) 13 7 = sh := by
  have hr := residue_lt p.lanes
  have hf := partFmt_lt c
  have he : (p.eb % 256).toNat < 256 := by omega
  have hb : b2n p.sat < 2 ∧ (p.sat = decide (b2n p.sat = 1)) := by cases p.sat <;> decide
  have hm : min 8191 p.count = p.count := Nat.min_eq_right hc
  obtain ⟨hb, hd⟩ := hb
  rw [bitAt_eq_bitsAt, hd]
  unfold partHead bitsAt
  rw [hm]
  simp only [Nat.shiftRight_eq_div_pow]
  generalize residue p.lanes = r at hr ⊢
  generalize partFmt c = f at hf ⊢
  generalize (p.eb % 256).toNat = e at he ⊢
  generalize hq : b2n p.sat = q at hb ⊢
  refine ⟨by omega, by omega, by omega, by omega, ?_, by omega⟩
  congr 1
  exact propext (by omega)

theorem signedOf_byte {e : Int} (h1 : -128 ≤ e) (h2 : e < 128) : signedOf 8 (e % 256).toNat = e := by
  unfold signedOf
  split <;> omega

/-- A signed number that fits its field is what the field gives. -/
theorem signedOf_fits {w : Nat} {x : Int} (h : fitsS w x = true) : signedOf w (x % 2 ^ w).toNat = x := by
  simp only [fitsS, decide_eq_true_eq] at h
  obtain ⟨h1, h2⟩ := h
  have hp : (0 : Int) < 2 ^ w := by positivity
  unfold signedOf
  cases w with
  | zero => simp at h1 h2 ⊢; omega
  | succ n =>
    have hn : (2 : Int) ^ (n + 1) = 2 * 2 ^ n := by ring
    have hq : ((2 ^ (n + 1 - 1) : Nat) : Int) = 2 ^ n := by push_cast; rfl
    rw [hn] at h1 h2 hp ⊢
    generalize (2 : Int) ^ n = m at *
    by_cases hx : 0 ≤ x
    · have hm : x % (2 * m) = x := Int.emod_eq_of_lt hx (by omega)
      rw [hm, if_pos (by omega)]
      omega
    · have hm : x % (2 * m) = x + 2 * m := by
        rw [← Int.add_emod_right]
        exact Int.emod_eq_of_lt (by omega) (by omega)
      rw [hm, if_neg (by omega)]
      omega

theorem toNat_emod_two_pow_lt (w : Nat) (x : Int) : (x % 2 ^ w).toNat < 2 ^ w := by
  have hp : (0 : Int) < 2 ^ w := by positivity
  have h1 := Int.emod_lt_of_pos x hp
  have h2 := Int.emod_nonneg x hp.ne'
  have h3 : ((2 ^ w : Nat) : Int) = 2 ^ w := by push_cast; rfl
  omega

theorem joinBits_lt (w : Nat) (l : List Int) : joinBits w l < 2 ^ (w * l.length) := by
  induction l with
  | nil => exact Nat.one_pos
  | cons x xs ih =>
    have hx := toNat_emod_two_pow_lt w x
    rw [List.length_cons, Nat.mul_succ, Nat.pow_add, joinBits, Nat.mul_comm (2 ^ (w * xs.length))]
    calc (x % 2 ^ w).toNat + 2 ^ w * joinBits w xs < 2 ^ w * (joinBits w xs + 1) := by rw [Nat.mul_succ]; omega
      _ ≤ 2 ^ w * 2 ^ (w * xs.length) := Nat.mul_le_mul_left _ ih

/-- A field of integers side by side gives its integer. -/
theorem bitsAt_joinBits (w : Nat) (l : List Int) (i : Nat) (h : i < l.length) : bitsAt (joinBits w l) (w * i) w = (l[i] % 2 ^ w).toNat := by
  have hx := toNat_emod_two_pow_lt w
  induction l generalizing i with
  | nil => exact absurd h (Nat.not_lt_zero i)
  | cons x xs ih =>
    simp only [bitsAt, Nat.shiftRight_eq_div_pow, joinBits] at ih ⊢
    cases i with
    | zero =>
      rw [Nat.mul_zero, Nat.pow_zero, Nat.div_one, Nat.add_mul_mod_self_left, Nat.mod_eq_of_lt (hx x)]
      rfl
    | succ i =>
      rw [Nat.mul_succ, Nat.add_comm (w * i), Nat.pow_add, ← Nat.div_div_eq_div_mul, Nat.add_mul_div_left _ _ (Nat.two_pow_pos w), Nat.div_eq_of_lt (hx x),
        Nat.zero_add, ih i (Nat.lt_of_succ_lt_succ h)]
      rfl

/-- The low-order zero bits of a number: their power of two divides it. -/
theorem two_pow_dvd_of_lower_even {x : Int} {n : Nat} (h : ∀ j < n, ¬ (x / 2 ^ j % 2 == 1) = true) : (2 : Int) ^ n ∣ x := by
  induction n with
  | zero => exact one_dvd x
  | succ n ih =>
    obtain ⟨y, hy⟩ := ih fun j hj => h j (Nat.lt_succ_of_lt hj)
    have hn := h n (Nat.lt_succ_self n)
    have hp : (2 : Int) ^ n ≠ 0 := by positivity
    rw [hy, Int.mul_ediv_cancel_left _ hp, beq_iff_eq] at hn
    obtain ⟨z, hz⟩ : (2 : Int) ∣ y := by omega
    exact ⟨z, by rw [hy, hz]; ring⟩

theorem two_pow_lowZeros_dvd (x : Int) : (2 : Int) ^ lowZeros x ∣ x := by
  unfold lowZeros
  cases hf : (List.range 96).find? (fun k => x / 2 ^ k % 2 == 1) with
  | none => exact one_dvd x
  | some k =>
    rw [List.find?_range_eq_some] at hf
    refine two_pow_dvd_of_lower_even fun j hj => ?_
    simpa using hf.2.2 j hj

theorem lowZeros_lt (x : Int) : lowZeros x < 96 := by
  unfold lowZeros
  cases hf : (List.range 96).find? (fun k => x / 2 ^ k % 2 == 1) with
  | none => decide
  | some k => exact List.mem_range.1 (List.mem_of_find?_eq_some hf)

/-- SHIFT is at most the low-order zero bits of each lane that is not zero. -/
theorem foldl_min_le {α : Type} (f : α → Nat) (l : List α) (m : Nat) :
    l.foldl (fun m y => min m (f y)) m ≤ m ∧ ∀ y ∈ l, l.foldl (fun m y => min m (f y)) m ≤ f y := by
  induction l generalizing m with
  | nil => exact ⟨Nat.le_refl m, fun y hy => absurd hy (List.not_mem_nil)⟩
  | cons x xs ih =>
    obtain ⟨h1, h2⟩ := ih (min m (f x))
    refine ⟨h1.trans (Nat.min_le_left _ _), fun y hy => ?_⟩
    rcases List.mem_cons.1 hy with rfl | hy
    · exact h1.trans (Nat.min_le_right _ _)
    · exact h2 y hy

theorem packShift_le {l : List Int} {x : Int} (hx : x ∈ l) (h0 : x ≠ 0) : packShift l ≤ lowZeros x := by
  have hm : x ∈ l.filter (· ≠ 0) := by simp [hx, h0]
  unfold packShift
  split
  next h => exact absurd (h ▸ hm) (List.not_mem_nil)
  next y ys h =>
    obtain ⟨h1, h2⟩ := foldl_min_le lowZeros ys (lowZeros y)
    rcases List.mem_cons.1 (h ▸ hm) with rfl | hm
    · exact h1
    · exact h2 x hm

theorem packShift_lt (l : List Int) : packShift l < 128 := by
  unfold packShift
  split
  · decide
  next y ys h => exact lt_of_le_of_lt (foldl_min_le lowZeros ys (lowZeros y)).1 ((lowZeros_lt y).trans (by decide))

/-- Every lane is a multiple of two to the power of SHIFT. -/
theorem shifted_mul {l : List Int} {x : Int} (hx : x ∈ l) : x / 2 ^ packShift l * 2 ^ packShift l = x := by
  by_cases h0 : x = 0
  · rw [h0, Int.zero_ediv, Int.zero_mul]
  · exact Int.ediv_mul_cancel ((pow_dvd_pow 2 (packShift_le hx h0)).trans (two_pow_lowZeros_dvd x))

theorem fitsS_shift {w n : Nat} {x : Int} (h : fitsS w x = true) : fitsS w (x / 2 ^ n) = true := by
  simp only [fitsS, decide_eq_true_eq] at h ⊢
  have hp : (0 : Int) < 2 ^ n := by positivity
  have hw : (0 : Int) < 2 ^ w := by positivity
  generalize (2 : Int) ^ w = m at *
  by_cases hx : 0 ≤ x
  · have h1 := Int.ediv_nonneg hx hp.le
    have h2 := Int.ediv_le_self (2 ^ n) hx
    omega
  · have h1 : x ≤ x / 2 ^ n := by
      rw [Int.le_ediv_iff_mul_le hp]
      nlinarith
    have h2 : x / 2 ^ n < 0 := Int.ediv_neg_of_neg_of_pos (by omega) hp
    omega

/-- Every lane fits in the width of WCODE, where every one fits in 96 bits. -/
theorem packCode_spec {l : List Int} (h : ∀ x ∈ l, fitsS 96 x = true) : packCode l < 16 ∧ ∀ x ∈ l, fitsS (8 * packCode l) x = true := by
  unfold packCode
  cases hf : (List.range 13).find? (fun k => l.all (fitsS (8 * k))) with
  | none => exact ⟨by decide, h⟩
  | some k => exact ⟨(List.mem_range.1 (List.mem_of_find?_eq_some hf)).trans (by decide), List.all_eq_true.1 (List.find?_some hf :)⟩

/-- Settles O60: the header gives back its fields, and the field of each lane gives back the shifted lane, of which it is a multiple. -/
theorem packedBlocks : Obligations.PackedBlocks := by
  intro c p hl hfit hc he1 he2
  have hsh := packShift_lt p.lanes
  have hmul : ∀ x ∈ p.lanes, x / 2 ^ packShift p.lanes * 2 ^ packShift p.lanes = x := fun _ => shifted_mul
  have hm : ∀ x ∈ p.lanes.map (· / 2 ^ packShift p.lanes), fitsS 96 x = true := by
    intro x hx
    obtain ⟨y, hy, rfl⟩ := List.mem_map.1 hx
    exact fitsS_shift (hfit y hy)
  obtain ⟨hk, hfk⟩ := packCode_spec hm
  obtain ⟨hh, hwc, heb, hcnt, hsat, hsf⟩ := partHead_fields (c := c) (p := p) hk hsh hc
  have hlen : (p.lanes.map (· / 2 ^ packShift p.lanes)).length = 32 := by rw [List.length_map, hl]
  have hj := joinBits_lt (8 * packCode (p.lanes.map (· / 2 ^ packShift p.lanes))) (p.lanes.map (· / 2 ^ packShift p.lanes))
  unfold unpackBlock packBlock
  dsimp only
  rw [leNat_take_append, Nat.mod_eq_of_lt hh, hwc, heb, hcnt, hsat, hsf, hl]
  generalize packShift p.lanes = sh at *
  generalize hq : p.lanes.map (· / 2 ^ sh) = q at *
  generalize packCode q = k at *
  rw [hlen] at hj
  refine ⟨?_, by rw [List.length_append, natLe_length, natLe_length]; omega⟩
  have hw : joinBits (8 * k) q < 256 ^ (k * 32) := by
    rwa [show (256 : Nat) = 2 ^ 8 from rfl, ← Nat.pow_mul, ← Nat.mul_assoc]
  rw [leNat_slice_append 8 (k * 32) _ _ (natLe_length 8 _), Nat.mod_eq_of_lt hw, signedOf_byte he1 he2]
  have hlanes : (List.range 32).map (fun i => signedOf (8 * k) (bitsAt (joinBits (8 * k) q) (8 * k * i) (8 * k)) * 2 ^ sh) = p.lanes := by
    refine List.ext_getElem (by rw [List.length_map, List.length_range, hl]) fun i h1 h2 => ?_
    have hi : i < q.length := by rw [hlen, ← hl]; exact h2
    rw [List.getElem_map, List.getElem_range, bitsAt_joinBits _ _ _ hi, signedOf_fits (hfk _ (List.getElem_mem hi))]
    subst hq
    rw [List.getElem_map]
    exact hmul _ (List.getElem_mem h2)
  rw [hlanes]

end Sys2Proof.Machine
end

section
/-!
PROOFS. Register and aperture accesses of the host.
-/

namespace Sys2Proof.Machine

/-! ### What leaves the translation state -/

@[simp] theorem State.wr_xlt (x0 x1 x2) : (State.wr x0 x1 x2).xlt = x0.xlt := by
  simp [State.wr]

@[simp] theorem State.setF_xlt (x0 x1 x2 x3) : (@State.setF x0 x1 x2 x3).xlt = x1.xlt := by
  simp [State.setF]

@[simp] theorem State.setPt_xlt (x0 x1 x2) : (State.setPt x0 x1 x2).xlt = x0.xlt := by
  simp [State.setPt]

@[simp] theorem State.stamp_xlt (x0 x1 x2) : (State.stamp x0 x1 x2).2.xlt = x0.xlt := by
  unfold State.stamp; (repeat' split) <;> simp

@[simp] theorem State.drawWord_xlt (x0) : (State.drawWord x0).2.xlt = x0.xlt := by
  simp [State.drawWord]

@[simp] theorem State.setLp_xlt (x0 x1 x2) : (State.setLp x0 x1 x2).xlt = x0.xlt := by
  simp [State.setLp]

@[simp] theorem State.seal_xlt (x0 x1 x2) : (State.seal x0 x1 x2).2.xlt = x0.xlt := by
  unfold State.seal; dsimp only; (repeat' split) <;> simp

@[simp] theorem State.sealAll_xlt (x0 x1 x2) : (State.sealAll x0 x1 x2).2.xlt = x0.xlt := by
  induction x2 generalizing x0 x1 <;> simp [State.sealAll, *]

@[simp] theorem State.freeEnt_xlt (x0 x1) : (State.freeEnt x0 x1).xlt = x0.xlt := by
  unfold State.freeEnt; dsimp only; (repeat' split) <;> simp

@[simp] theorem State.leftPort_xlt (x0 x1 x2) : (State.leftPort x0 x1 x2).xlt = x0.xlt := by
  unfold State.leftPort; (repeat' split) <;> simp

@[simp] theorem State.emit_xlt (x0 x1) : (State.emit x0 x1).xlt = x0.xlt := by
  unfold State.emit; (repeat' split) <;> simp

@[simp] theorem State.sendNow_xlt (x0 x1 x2) : (State.sendNow x0 x1 x2).xlt = x0.xlt := by
  simp [State.sendNow]

@[simp] theorem State.sendPortId_xlt (x0 x1) : (State.sendPortId x0 x1).xlt = x0.xlt := by
  simp [State.sendPortId]

@[simp] theorem State.showSeed_xlt (x0 x1) : (State.showSeed x0 x1).xlt = x0.xlt := by
  simp [State.showSeed]

@[simp] theorem State.setRing_xlt (x0 x1 x2) : (State.setRing x0 x1 x2).xlt = x0.xlt := by
  simp [State.setRing]

@[simp] theorem State.incF_xlt (x0 x1 x2 x3) : (@State.incF x0 x1 x2 x3).xlt = x1.xlt := by
  simp [State.incF]

@[simp] theorem State.dropEvent_xlt (x0 x1) : (State.dropEvent x0 x1).xlt = x0.xlt := by
  simp [State.dropEvent]

@[simp] theorem State.vector_xlt (x0 x1) : (State.vector x0 x1).xlt = x0.xlt := by
  unfold State.vector; (repeat' split) <;> simp

@[simp] theorem State.vectorDue_xlt (x0 x1) : (State.vectorDue x0 x1).xlt = x0.xlt := by
  simp [State.vectorDue]

@[simp] theorem State.raise_xlt (x0 x1) : (State.raise x0 x1).xlt = x0.xlt := by
  unfold State.raise; (repeat' split) <;> simp

@[simp] theorem State.putRecord_xlt (x0 x1 x2 x3 x4) : (State.putRecord x0 x1 x2 x3 x4).xlt = x0.xlt := by
  unfold State.putRecord; dsimp only; (repeat' split) <;> simp

@[simp] theorem State.noteLost_xlt (x0 x1) : (State.noteLost x0 x1).xlt = x0.xlt := by
  unfold State.noteLost; (repeat' split) <;> simp

@[simp] theorem State.postTo_xlt (x0 x1 x2 x3) : (State.postTo x0 x1 x2 x3).xlt = x0.xlt := by
  unfold State.postTo; dsimp only; (repeat' split) <;> simp

@[simp] theorem State.post_xlt (x0 x1) : (State.post x0 x1).xlt = x0.xlt := by
  simp [State.post]

@[simp] theorem State.loseSeed_xlt (x0 x1 x2 x3) : (State.loseSeed x0 x1 x2 x3).xlt = x0.xlt := by
  unfold State.loseSeed; (repeat' split) <;> simp

@[simp] theorem State.advRx_xlt (x0 x1) : (State.advRx x0 x1).xlt = x0.xlt := by
  unfold State.advRx; dsimp only; (repeat' split) <;> simp

@[simp] theorem State.advTx_xlt (x0 x1) : (State.advTx x0 x1).xlt = x0.xlt := by
  unfold State.advTx; dsimp only; (repeat' split) <;> simp

@[simp] theorem State.lanes_xlt (x0 x1 x2) : (State.lanes x0 x1 x2).xlt = x0.xlt := by
  simp [State.lanes]

@[simp] theorem State.toState_xlt (x0 x1 x2 x3) : (State.toState x0 x1 x2 x3).xlt = x0.xlt := by
  simp [State.toState]

@[simp] theorem State.linkNow_xlt (x0 x1 x2) : (State.linkNow x0 x1 x2).xlt = x0.xlt := by
  simp [State.linkNow]

@[simp] theorem State.sendLink_xlt (x0 x1 x2) : (State.sendLink x0 x1 x2).xlt = x0.xlt := by
  unfold State.sendLink; (repeat' split) <;> simp

@[simp] theorem State.portUp_xlt (x0 x1 x2) : (State.portUp x0 x1 x2).xlt = x0.xlt := by
  unfold State.portUp; dsimp only; (repeat' split) <;> simp

@[simp] theorem State.checkPortId_xlt (x0 x1 x2) : (State.checkPortId x0 x1 x2).xlt = x0.xlt := by
  unfold State.checkPortId; dsimp only; (repeat' split) <;> simp

@[simp] theorem State.glbNode_xlt (x0 x1) : (State.glbNode x0 x1).xlt = x0.xlt := by
  unfold State.glbNode
  dsimp only
  split
  · rfl
  split
  · rfl
  refine upto_xlt _ _ _ fun i s => ?_
  split
  · split <;> simp
  · rfl


@[simp] theorem State.nextSeq_xlt (x0 x1 x2 x3) : (State.nextSeq x0 x1 x2 x3).2.xlt = x0.xlt := by
  simp [State.nextSeq]

@[simp] theorem State.prevWrite_xlt (x0 x1 x2 x3 x4) : (State.prevWrite x0 x1 x2 x3 x4).2.xlt = x0.xlt := by
  simp [State.prevWrite]

@[simp] theorem State.aim_xlt (x0 x1) : (State.aim x0 x1).2.xlt = x0.xlt := by
  simp [State.aim]

@[simp] theorem State.sendReq_xlt (x0 x1) : (State.sendReq x0 x1).xlt = x0.xlt := by
  simp [State.sendReq]

@[simp] theorem State.issueApt_xlt (x0 x1 x2) : (State.issueApt x0 x1 x2).2.xlt = x0.xlt := by
  unfold State.issueApt; dsimp only; (repeat' split) <;> simp

@[simp] theorem State.sendCpl_xlt (x0 x1) : (State.sendCpl x0 x1).xlt = x0.xlt := by
  simp [State.sendCpl]

@[simp] theorem State.ackReq_xlt (x0 x1) : (State.ackReq x0 x1).xlt = x0.xlt := by
  unfold State.ackReq; (repeat' split) <;> simp

@[simp] theorem State.drawBytes_xlt (x0 x1) : (State.drawBytes x0 x1).2.xlt = x0.xlt := by
  simp [State.drawBytes]

@[simp] theorem State.aptOne_xlt (x0 x1 x2 x3 x4) : (State.aptOne x0 x1 x2 x3 x4).2.2.xlt = x0.xlt := by
  unfold State.aptOne; dsimp only; (repeat' split) <;> simp

@[simp] theorem State.aptReads_xlt (x0 x1 x2 x3 x4 x5) : (State.aptReads x0 x1 x2 x3 x4 x5).2.2.xlt = x5.xlt := by
  induction x1 generalizing x0 x2 x3 x4 x5 <;> unfold State.aptReads <;> (repeat' split) <;> simp [*]

@[simp] theorem State.aptWrites_xlt (x0 x1 x2 x3 x4 x5) : (State.aptWrites x0 x1 x2 x3 x4 x5).xlt = x5.xlt := by
  induction x1 generalizing x0 x2 x3 x4 x5 <;> unfold State.aptWrites <;> (repeat' split) <;> simp [*]


/-! ### Register accesses (R20, R22, R616) -/

theorem State.hostWriteReg_unaligned {s : State} {off : Nat} {wide : Bool} {v : R64} (h : off % (if wide then 8 else 4) ≠ 0) :
    s.hostWriteReg off wide v = s.emit .pcieUnsupported := if_neg (by simpa [barAligned] using h)

theorem State.hostWriteReg_aligned {s : State} {off : Nat} {wide : Bool} {v : R64} (h : off % (if wide then 8 else 4) = 0) :
    s.hostWriteReg off wide v = s.barWrite off wide v := if_pos (by simpa [barAligned] using h)

theorem State.barWrite_window {s t : State} {off : Nat} {wide : Bool} {v : R64} (h : s.winWr off wide v = some t) : s.barWrite off wide v = t := by
  unfold State.barWrite
  rw [h]

theorem State.barWrite_register {s : State} {off : Nat} {wide : Bool} {v : R64} (h : s.winWr off wide v = none) :
    s.barWrite off wide v = if wide then (s.write32 off (v.setWidth 32)).write32 (off + 4) ((v >>> 32).setWidth 32) else s.write32 off (v.setWidth 32) := by
  unfold State.barWrite
  rw [h]

/-- Registers without side effects of their own. -/
def plainRegs : List Nat := [Reg.FWM_IMG_PAGE, Reg.FWM_TC_TICK_LO, Reg.PWR_AVS, Reg.HOM_LEASE, Reg.HOM_EXT_TICK_LO, Reg.XLT_PRES_VA_HI, Reg.FWM_TC_GROUP,
  Reg.XLT_PRES_VA_LO]

theorem plainRegs_write (s : State) (v : R64) (w : R32) : ∀ off ∈ plainRegs,
    s.winWr off false v = none ∧ s.write32 off w = s.plainWr off w := by
  simp [plainRegs, State.winWr, State.write32, State.wrSys, State.wrFwm, State.wrXlt, State.wrHom, ixOf, Reg.FWM_IMG_PAGE, Reg.FWM_TC_TICK_LO, Reg.PWR_AVS,
    Reg.HOM_LEASE, Reg.HOM_EXT_TICK_LO, Reg.XLT_PRES_VA_HI, Reg.FWM_TC_GROUP, Reg.XLT_PRES_VA_LO, Reg.GLB_NODE, Reg.CLY_CTL, Reg.CLY_WORD, Reg.FWM_CMD,
    Reg.FWM_TC_CMD, Reg.FWM_MB_CMD, Reg.XLT_PRES_CMD, Reg.XLT_COMMIT, Reg.XLT_CTX_DRAIN, Reg.HOM_CTL, Reg.HOM_EXT_CMD]

theorem plainRegs_row : ∀ off ∈ plainRegs, (BitVec.ofNat 25 off).toNat = off ∧ off % 4 = 0 ∧ (regRow off).isSome = true := by decide +kernel

/-- Such a register takes the bits merged by access class. -/
theorem exec_plainWrite {s : State} {off : Nat} {v : R64} (hw : s.takes = true) (h : off ∈ plainRegs) :
    exec (.registerWrite (BitVec.ofNat 25 off) false v) s = .next (s.wr off (s.merged off (v.setWidth 32))) := by
  obtain ⟨hn, hp⟩ := plainRegs_write s v (v.setWidth 32) off h
  obtain ⟨ho, ha, hr⟩ := plainRegs_row off h
  refine exec_wr (f := fun s => s.hostWriteReg (BitVec.ofNat 25 off).toNat false v) rfl hw ?_
  rw [ho, State.hostWriteReg_aligned ha, State.barWrite_register hn, if_neg (by decide), hp]
  exact if_pos hr

theorem State.merged_presVa (s : State) (v : R32) :
    s.merged Reg.XLT_PRES_VA_LO v = (s.rd Reg.XLT_PRES_VA_LO &&& 0xFFFF) ||| (v &&& 0xFFFF0000) := by
  have hrow : ∃ r, regRow Reg.XLT_PRES_VA_LO = some r ∧ r.rw = 0xFFFF0000 ∧ r.w1c = 0 := by
    refine ⟨_, rfl, ?_, ?_⟩ <;> decide
  obtain ⟨r, hr, hrw, hw1⟩ := hrow
  unfold State.merged RegRow.merge
  rw [hr]
  dsimp only
  have h1 : ~~~ (0xFFFF0000 : R32) = 0xFFFF := by decide
  have h2 : ~~~ (0 &&& v) = BitVec.allOnes 32 := by simp
  rw [hrw, hw1, h1, h2, BitVec.and_allOnes, BitVec.and_comm _ v]

theorem State.hostReadReg_now (s : State) : s.hostReadReg Reg.DTT_NOW_LO =
    { s with lat := sset (fun _ => 0) s.lat Reg.DTT_NOW_HI ((s.now >>> 32).setWidth 32), out := s.out ++ [.pcieData (natLe 4 ((s.now.setWidth 32 : R32)).toNat)] } := by
  have hb : barAligned Reg.DTT_NOW_LO false = true := by decide
  have hp : s.pairHi Reg.DTT_NOW_LO = some ((s.now >>> 32).setWidth 32) := if_pos rfl
  have hi : isPairHi Reg.DTT_NOW_LO = false := by decide
  have hv : s.view Reg.DTT_NOW_LO = s.now.setWidth 32 := by
    have h1 : s.viewSys Reg.DTT_NOW_LO = none := by
      simp [State.viewSys, ixOf, Reg.DTT_NOW_LO, Reg.GLB_IDENT, Reg.GLB_TILES, Reg.GLB_TMASK_LO, Reg.GLB_TMASK_HI, Reg.PWR_FAILS, Reg.FWM_SVN, Reg.FWM_TC_RES,
        Reg.SEC_ALARM_POL, Reg.CLY_WORD, Reg.CLY_WEAR]
    have h2 : s.viewQmg Reg.DTT_NOW_LO = none := by
      simp [State.viewQmg, ixOf, Reg.DTT_NOW_LO, Reg.QMG_STAT, Reg.SYN_STAT, Reg.QMG_Q_STAT, Reg.XLT_CTX_STAT, Reg.SYN_VAL_LO]
    have h3 : s.viewRest Reg.DTT_NOW_LO = some (s.now.setWidth 32) := by
      simp [State.viewRest, Reg.DTT_NOW_LO, Reg.HOM_STAT, Reg.HOM_DIR_FREE, Reg.HOM_ACC_FREE, Reg.HOM_SCRUB_POS]
    rw [State.view, if_neg (by rw [hi]; decide), h1, h2, h3]
    rfl
  rw [State.hostReadReg, if_pos hb, State.read32, hp, hv]
  rfl

/-! ### GLB_NODE (R34, R58) -/

/-- NODE_ID and NODE_LOCK as a write gives them. -/
def State.nodeTaken (s : State) (v : R32) : State :=
  (s.setF F.GLB_NODE_NODE_ID (fget F.GLB_NODE_NODE_ID v)).setF F.GLB_NODE_NODE_LOCK (fget F.GLB_NODE_NODE_LOCK v)

theorem fget_nodeLock (v : R32) : fget F.GLB_NODE_NODE_LOCK v = bit1 (v.getLsbD 31) := by
  apply BitVec.eq_of_getLsbD_eq
  intro i hi
  obtain rfl : i = 0 := by omega
  have hv : (fget F.GLB_NODE_NODE_LOCK v).getLsbD 0 = v.getLsbD 31 := by simp [fget, F.GLB_NODE_NODE_LOCK]
  rw [hv]
  cases v.getLsbD 31 <;> rfl

theorem State.nodeTaken_lock {s : State} (v : R32) (h : swf regReset s.regs = true) : (s.nodeTaken v).on F.GLB_NODE_NODE_LOCK = v.getLsbD 31 := by
  have hl := State.f_setF_same _ F.GLB_NODE_NODE_LOCK (fget F.GLB_NODE_NODE_LOCK v) (by decide) (s.regs_setF F.GLB_NODE_NODE_ID (fget F.GLB_NODE_NODE_ID v) h)
  rw [State.nodeTaken, State.on, hl, fget_nodeLock]
  cases v.getLsbD 31 <;> rfl

theorem State.nodeTaken_fields {s : State} (v : R32) (h : swf regReset s.regs = true) :
    (s.nodeTaken v).node = v.extractLsb' 0 6 ∧ (s.nodeTaken v).f F.GLB_NODE_TRAY_POS = s.f F.GLB_NODE_TRAY_POS := by
  have h1 := s.regs_setF F.GLB_NODE_NODE_ID (fget F.GLB_NODE_NODE_ID v) h
  constructor
  · exact (State.f_setF_other _ F.GLB_NODE_NODE_LOCK F.GLB_NODE_NODE_ID _ h1 (by decide)).trans (s.f_setF_same _ _ (by decide) h)
  · exact (State.f_setF_other _ F.GLB_NODE_NODE_LOCK F.GLB_NODE_TRAY_POS _ h1 (by decide)).trans (s.f_setF_other _ _ _ h (by decide))

theorem State.nodeTaken_other {s : State} {w : Nat} (v : R32) (g : Fld w) (h : g.off ≠ Reg.GLB_NODE) : (s.nodeTaken v).f g = s.f g :=
  (State.f_setF_reg _ F.GLB_NODE_NODE_LOCK g _ h).trans (s.f_setF_reg F.GLB_NODE_NODE_ID g _ h)

theorem State.glbNode_unlocked {s : State} {v : R32} (h : s.on F.GLB_NODE_NODE_LOCK = false) (hn : (s.nodeTaken v).on F.GLB_NODE_NODE_LOCK = false) :
    s.glbNode v = s.nodeTaken v := (if_neg (by rw [h]; decide)).trans (if_pos (by rw [← Bool.not_false, ← hn]; rfl))

/-- A write that sets NODE_LOCK where no torus port waits in its ID exchange. -/
theorem State.glbNode_locks {s : State} {v : R32} (h : s.on F.GLB_NODE_NODE_LOCK = false) (hn : (s.nodeTaken v).on F.GLB_NODE_NODE_LOCK = true)
    (hp : ∀ p : Fin 6, s.pState p.val ≠ pTraining ∨ s.f (F.LAN_P_STAT_PHASE p.val) ≠ 4) : s.glbNode v = s.nodeTaken v := by
  have hne : ∀ p, Reg.LAN_P_STAT p ≠ Reg.GLB_NODE := fun p => by simp only [Reg.LAN_P_STAT, Reg.GLB_NODE]; omega
  have hq : ∀ p, p < 6 → ¬ ((s.nodeTaken v).pState p = pTraining ∧ (s.nodeTaken v).f (F.LAN_P_STAT_PHASE p) = 4) := by
    intro p h6
    rw [State.pState, State.nodeTaken_other v _ (hne p), State.nodeTaken_other v _ (hne p)]
    exact not_and_or.2 (hp ⟨p, h6⟩)
  refine (if_neg (by rw [h]; decide)).trans ((if_neg ?_).trans ?_)
  · rw [show ((s.setF F.GLB_NODE_NODE_ID (fget F.GLB_NODE_NODE_ID v)).setF F.GLB_NODE_NODE_LOCK (fget F.GLB_NODE_NODE_LOCK v)).on F.GLB_NODE_NODE_LOCK = true
      from hn]
    decide
  · have hu : ∀ (f : Nat → State → State) (n : Nat), n ≤ 6 → (∀ p, p < 6 → f p (s.nodeTaken v) = s.nodeTaken v) → upto f n (s.nodeTaken v) = s.nodeTaken v := by
      intro f n hn hf
      induction n with
      | zero => rfl
      | succ n ih => rw [upto, ih (by omega), hf n (by omega)]
    exact hu _ 6 (Nat.le_refl 6) fun p h6 => if_neg (hq p h6)

/-! ### The apertures (R618, R619) -/

section
variable {s : State} {off : Nat}

theorem State.bar2Read_invalid {len : Nat} {rs : List Resp} (h : s.on (F.GLB_APT_BASE_VALID (off / 2 ^ 32)) = false) :
    s.bar2Read off len rs = s.emit .pcieUnsupported := if_pos (by rw [h]; rfl)

theorem State.bar2Write_invalid {d : Bytes} {rs : List Resp} (h : s.on (F.GLB_APT_BASE_VALID (off / 2 ^ 32)) = false) :
    s.bar2Write off d rs = s.emit .pcieUnsupported := if_pos (by rw [h]; rfl)

theorem State.bar2Write_valid {d : Bytes} {rs : List Resp} (h : s.on (F.GLB_APT_BASE_VALID (off / 2 ^ 32)) = true) :
    s.bar2Write off d rs = State.aptWrites (off / 2 ^ 32) d.length (s.aptDpa off) d rs s := if_neg (by rw [h]; decide)

end

theorem exec_bar2Read (off : BitVec 48) (len : BitVec 13) (rs : List Resp) (s : State) :
    exec (.bar2Read off len rs) s = whenUp s (fun s => s.bar2Read (off.toNat % 2 ^ 36) len.toNat rs) := rfl

theorem exec_bar2Write (off : BitVec 48) (d : Bytes) (rs : List Resp) (s : State) :
    exec (.bar2Write off d rs) s = whenUp s (fun s => s.bar2Write (off.toNat % 2 ^ 36) d rs) := rfl

/-- A request whose home is there takes the first answer. -/
theorem State.aptOne_answer {s : State} {a : Nat} {r : Req} {h : NodeId} (n : Nat) (x : Resp) (hh : s.homeOf (s.aptAttr a) r.dpa = some h) :
    (s.aptOne a r n [x]).1 = x ∧ (s.aptOne a r n [x]).2.1 = [] := by
  unfold State.aptOne
  dsimp only
  rw [hh]
  exact ⟨rfl, rfl⟩

/-- A request whose home is lost only posts BAR_FAULT. -/
theorem State.aptOne_lost {s : State} {a : Nat} {r : Req} (n : Nat) (rs : List Resp) (hh : s.homeOf (s.aptAttr a) r.dpa = none) :
    s.aptOne a r n rs = (⟨stTargetLost, false, false, []⟩, rs, s.post (evBarFault r.dpa stTargetLost (decide (r.opc = 2)))) := by
  unfold State.aptOne
  dsimp only
  rw [hh]
  rfl

theorem pieceLen_four {a : Nat} (h : a % 4 = 0) : pieceLen a 4 = 4 := by
  have h4 : (a % 4 == 0) = true := by rw [h]; rfl
  simp [pieceLen, List.find?, h4]

theorem pieceLen_one (a : Nat) : pieceLen a 1 = 1 := by simp [pieceLen, List.find?]

theorem State.aptDpa_aligned (s : State) {off : Nat} (h : off % 4 = 0) : (s.aptDpa off).toNat % 4 = 0 := by
  rw [State.aptDpa, BitVec.toNat_append, BitVec.toNat_ofNat, Nat.mod_mod_of_dvd _ (dvd_refl _)]
  rw [Nat.shiftLeft_eq, ← Nat.shiftLeft_eq, ← Nat.shiftLeft_add_eq_or_of_lt (by omega), Nat.shiftLeft_eq]
  omega

theorem State.aptReads_done (a fuel : Nat) (d : Dpa) (rs : List Resp) (s : State) : State.aptReads a fuel d 0 rs s = ([], true, s) := by
  cases fuel <;> rfl

/-- An aligned read of four bytes is one request. -/
theorem State.aptReads_four {s : State} {a : Nat} {d : Dpa} {h : NodeId} (x : Resp) (ha : d.toNat % 4 = 0) (hh : s.homeOf (s.aptAttr a) d = some h) :
    (State.aptReads a 4 d 4 [x] s).1 = slice x.data 0 4 ∧ (State.aptReads a 4 d 4 [x] s).2.1 = decide (x.status = stOk) := by
  obtain ⟨h1, h2⟩ := State.aptOne_answer (r := req0 1 0 (BitVec.ofNat 4 (Nat.log2 4)) d (s.agent 8) 0) 4 x hh
  rw [State.aptReads]
  dsimp only
  rw [if_neg (by decide), pieceLen_four ha, State.aptReads_done, h1]
  simp

theorem State.bar2Read_four {s : State} {off : Nat} {h : NodeId} (x : Resp) (ha : off % 4 = 0) (hv : s.on (F.GLB_APT_BASE_VALID (off / 2 ^ 32)) = true)
    (hh : s.homeOf (s.aptAttr (off / 2 ^ 32)) (s.aptDpa off) = some h) :
    (s.bar2Read off (4 : BitVec 13).toNat [x]).out.getLast? = some (if x.status = stOk then .pcieData (slice x.data 0 4) else .pcieAbort) ∧
      (s.bar2Read off (4 : BitVec 13).toNat [x]).clay = s.clay ∧ (s.bar2Read off (4 : BitVec 13).toNat [x]).xlt = s.xlt := by
  obtain ⟨h1, h2⟩ := State.aptReads_four x (s.aptDpa_aligned ha) hh
  rw [show (4 : BitVec 13).toNat = 4 by decide]
  unfold State.bar2Read
  dsimp only
  rw [if_neg (by rw [hv]; decide), h1, h2, State.emit_eq _ _ (by split <;> rfl)]
  simp

theorem State.aptWrites_one (a : Nat) (d : Dpa) (b : Byte) (rs : List Resp) (s : State) :
    State.aptWrites a 1 d [b] rs s = (s.aptOne a { req0 2 0 0 d (s.agent 8) 0 with data := storeUnits d.toNat [b] } 1 rs).2.2 := by
  rw [State.aptWrites]
  dsimp only
  rw [if_neg (by simp), List.length_singleton, pieceLen_one]
  rfl

theorem State.aptWrites_lost {s : State} {a : Nat} {d : Dpa} (b : Byte) (rs : List Resp) (hh : s.homeOf (s.aptAttr a) d = none) :
    State.aptWrites a 1 d [b] rs s = s.post (evBarFault d stTargetLost true) := by
  have hl := State.aptOne_lost (r := { req0 2 0 0 d (s.agent 8) 0 with data := storeUnits d.toNat [b] }) 1 rs hh
  have hw : decide ((2 : BitVec 6) = 2) = true := by decide
  exact (State.aptWrites_one a d b rs s).trans ((congrArg (fun x : Resp × List Resp × State => x.2.2) hl).trans
    (congrArg (fun w => s.post (evBarFault d stTargetLost w)) hw))

/-- Settles O4. -/
theorem hostAccesses : Obligations.HostAccesses := by
  refine ⟨⟨fun s off wide v hw ha => exec_wr (f := fun s => s.hostWriteReg off.toNat wide v) rfl hw (State.hostWriteReg_unaligned ha),
      fun s off v hw ha hn => exec_wr (f := fun s => s.hostWriteReg off.toNat false v) rfl hw
        ((State.hostWriteReg_aligned ha).trans (State.barWrite_register hn)),
      fun s t off wide v hw ha hn => exec_wr (f := fun s => s.hostWriteReg off.toNat wide v) rfl hw
        ((State.hostWriteReg_aligned ha).trans (State.barWrite_window hn)),
      fun s off v hw ho => ?_,
      fun s off v hw ha hn => exec_wr (f := fun s => s.hostWriteReg off.toNat true v) rfl hw
        ((State.hostWriteReg_aligned ha).trans (State.barWrite_register hn)),
      fun s v hw => ?_,
      fun s off hu ha => exec_up (f := fun s => s.hostReadReg off.toNat) rfl hu (if_neg (by simpa [barAligned] using ha)),
      fun s hu => exec_up (f := fun s => s.hostReadReg (BitVec.ofNat 25 Reg.DTT_NOW_LO).toNat) rfl hu ?_⟩,
    ⟨fun s v hw hl => exec_wr (f := (State.glbNode · v)) rfl hw (if_pos hl), fun s v hw hr hl hv => goes_wr (f := (State.glbNode · v)) rfl hw ?_,
      fun s v hw hl hv => goes_wr (f := (State.glbNode · v)) rfl hw (by simp), fun s v hw hr hl hv hp => exec_wr (f := (State.glbNode · v)) rfl hw ?_⟩,
    fun s off len rs hu hv => exec_up (exec_bar2Read off len rs s) hu (State.bar2Read_invalid hv),
    fun s off d rs hu hv => exec_up (exec_bar2Write off d rs s) hu (State.bar2Write_invalid hv),
    fun s off x h hu ha hv hh => goes_up (exec_bar2Read off 4 [x] s) hu ?_,
    fun s off b rs hu hv hh => exec_up (exec_bar2Write off [b] rs s) hu ?_,
    fun s off b rs hu hv => goes_up (exec_bar2Write off [b] rs s) hu ?_⟩
  · exact exec_plainWrite hw (List.mem_append_left [Reg.XLT_PRES_VA_LO] ho)
  · rw [exec_plainWrite hw (by simp [plainRegs]), State.merged_presVa]
  · rw [show (BitVec.ofNat 25 Reg.DTT_NOW_LO).toNat = Reg.DTT_NOW_LO by decide]
    exact s.hostReadReg_now
  · have hl2 := s.nodeTaken_lock v hr
    rw [hv] at hl2
    rw [State.glbNode_unlocked hl hl2]
    obtain ⟨h1, h2⟩ := s.nodeTaken_fields v hr
    exact ⟨h1, hl2, h2, rfl, rfl⟩
  · have hl2 := s.nodeTaken_lock v hr
    rw [hv] at hl2
    rw [State.glbNode_locks hl hl2 hp, State.nodeTaken, fget_nodeLock, hv]
    rfl
  · exact State.bar2Read_four x (by omega) hv hh
  · rw [State.bar2Write_valid hv, List.length_singleton]
    exact State.aptWrites_lost b rs hh
  · rw [State.bar2Write_valid hv]
    simp

end Sys2Proof.Machine
end

section
/-!
PROOFS. The issue of attach requests.
-/

namespace Sys2Proof.Machine

/-- The header words of an 8-byte LOAD at address 0. -/
def loadEnt : Ent := { Tests.wEnt with w0 := BitVec.ofNat 64 (2 ^ 58 + 2 ^ 56) }

/-- A request table that holds two entries of one acceptance number: a LOAD that waits, whose translation gives home 0, and a paced request of home 1. -/
def dupEntState : State :=
  let s := ((Tests.wRt (Tests.wCtx Tests.wit0) 0xF 15 0 0).setF F.XLT_CTL_EN 1).setF (F.XLT_AGT_VALID 0 0) 1
  { s with ep := { s.ep with ents := [loadEnt, { Tests.wEnt with st := .paced, req := some { Tests.wReq with dst := 1 } }] } }

/-- The request that the LOAD translates to. -/
def dupEntReq : Req := match dupEntState.translateEnt loadEnt with
  | .ok _ _ r => r
  | _ => Tests.wReq

/-- Refutes O7: the clause of a request that is sent at once does not ask that the entries of the request table have different acceptance numbers. Where a
paced entry has the number of the one that is issued, the translation is noted in it too, so that it waits for the same home, and the request is paced
behind it instead of sent. -/
theorem not_attachIssue : ¬ Obligations.AttachIssue := by
  rintro ⟨-, h, -⟩
  have ht := h dupEntState 0 loadEnt 0 0 dupEntReq (by decide +kernel) (by decide +kernel) (by decide +kernel) (by decide +kernel) (by decide +kernel)
    (by decide +kernel) (by decide +kernel) (by decide +kernel) (by decide +kernel)
  exact absurd (congrArg (fun t => t.out.length) (Host.Outcome.next.inj ht)) (by decide +kernel)

end Sys2Proof.Machine
end

section
/-!
PROOFS. Completions and acknowledgements at their requester.
-/

namespace Sys2Proof.Machine

/-! ### What leaves the translation state, the request table and the home as they are -/

@[simp] theorem State.countXlate_xlt (x0 x1) : (State.countXlate x0 x1).xlt = x0.xlt := by
  unfold State.countXlate; (repeat' split) <;> simp

@[simp] theorem State.redMark_xlt (x0 x1 x2 x3 x4 x5) : (State.redMark x0 x1 x2 x3 x4 x5).2.xlt = x0.xlt := by
  unfold State.redMark; (repeat' split) <;> simp

@[simp] theorem State.markOut_xlt (x0 x1) : (State.markOut x0 x1).2.xlt = x0.xlt := by
  unfold State.markOut; dsimp only; (repeat' split) <;> simp

@[simp] theorem State.resume_xlt (x0 x1) : (State.resume x0 x1).xlt = x0.xlt := by
  simp [State.resume]

@[simp] theorem State.pump_xlt (x0 x1 x2) : (State.pump x0 x1 x2).xlt = x0.xlt := by
  induction x2 generalizing x0 x1 <;> unfold State.pump <;> (repeat' split) <;> simp [*]

@[simp] theorem State.tx_xlt (x0 x1 x2) : (State.tx x0 x1 x2).xlt = x0.xlt := by
  unfold State.tx; (repeat' split) <;> simp

@[simp] theorem State.toAttach_xlt (x0 x1 x2 x3 x4 x5) : (State.toAttach x0 x1 x2 x3 x4 x5).xlt = x0.xlt := by
  unfold State.toAttach; (repeat' split) <;> simp

@[simp] theorem State.attachCpl_xlt (x0 x1 x2 x3 x4 x5 x6 x7 x8) : (State.attachCpl x0 x1 x2 x3 x4 x5 x6 x7 x8).xlt = x0.xlt := by
  simp [State.attachCpl]

@[simp] theorem State.setEnt_xlt (x0 x1 x2) : (State.setEnt x0 x1 x2).xlt = x0.xlt := by
  simp [State.setEnt]

@[simp] theorem State.endEnt_xlt (x0 x1 x2 x3 x4 x5 x6) : (State.endEnt x0 x1 x2 x3 x4 x5 x6).xlt = x0.xlt := by
  simp [State.endEnt]

@[simp] theorem State.ctrl_xlt (x0 x1 x2) : (State.ctrl x0 x1 x2).xlt = x0.xlt := by
  unfold State.ctrl; (repeat' split) <;> simp

@[simp] theorem State.ctrlAll_xlt (x0 x1 x2) : (State.ctrlAll x0 x1 x2).xlt = x0.xlt := by
  simp [State.ctrlAll, apply_ite State.xlt]

@[simp] theorem State.putStop_xlt (x0 x1) : (State.putStop x0 x1).xlt = x0.xlt := by
  simp [State.putStop]

@[simp] theorem State.resumeHere_xlt (x0 x1 x2 x3) : (State.resumeHere x0 x1 x2 x3).xlt = x0.xlt := by
  unfold State.resumeHere; (repeat' split) <;> simp

@[simp] theorem State.setQ_xlt (x0 x1 x2) : (State.setQ x0 x1 x2).xlt = x0.xlt := by
  simp [State.setQ]

@[simp] theorem State.unwatch_xlt (x0 x1 x2) : (State.unwatch x0 x1 x2).xlt = x0.xlt := by
  simp [State.unwatch]

@[simp] theorem State.dropWatch_xlt (x0 x1 x2) : (State.dropWatch x0 x1 x2).xlt = x0.xlt := by
  unfold State.dropWatch; (repeat' split) <;> simp

@[simp] theorem State.writeSlot_xlt (x0 x1 x2 x3 x4) : (State.writeSlot x0 x1 x2 x3 x4).xlt = x0.xlt := by
  unfold State.writeSlot; (repeat' split) <;> simp

@[simp] theorem State.issueOwn_xlt (x0 x1 x2) : (State.issueOwn x0 x1 x2).xlt = x0.xlt := by
  simp [State.issueOwn]

@[simp] theorem State.setDesc_xlt (x0 x1 x2 x3) : (State.setDesc x0 x1 x2 x3).xlt = x0.xlt := by
  simp [State.setDesc]

@[simp] theorem State.postQ_xlt (x0 x1 x2 x3 x4 x5 x6) : (State.postQ x0 x1 x2 x3 x4 x5 x6).xlt = x0.xlt := by
  simp [State.postQ]

@[simp] theorem State.advance_xlt (x0 x1 x2) : (State.advance x0 x1 x2).xlt = x0.xlt := by
  induction x2 generalizing x0 x1 <;> unfold State.advance <;> (repeat' split) <;> simp [*]

@[simp] theorem State.doneDesc_xlt (x0 x1 x2) : (State.doneDesc x0 x1 x2).xlt = x0.xlt := by
  unfold State.doneDesc; dsimp only; (repeat' split) <;> simp

@[simp] theorem State.completeDesc_xlt (x0 x1 x2 x3) : (State.completeDesc x0 x1 x2 x3).xlt = x0.xlt := by
  unfold State.completeDesc; dsimp only; (repeat' split) <;> simp

@[simp] theorem State.stopDescs_xlt (x0 x1 x2) : (State.stopDescs x0 x1 x2).xlt = x0.xlt := by
  induction x2 generalizing x0 x1 <;> unfold State.stopDescs <;> (repeat' split) <;> simp [*]

@[simp] theorem State.stopQueueJob_xlt (x0 x1) : (State.stopQueueJob x0 x1).xlt = x0.xlt := by
  simp [State.stopQueueJob]

@[simp] theorem State.stopQueuesOf_xlt (x0 x1 x2 x3) : (State.stopQueuesOf x0 x1 x2 x3).xlt = x0.xlt := by
  induction x3 generalizing x0 x1 x2 <;> simp only [State.stopQueuesOf] <;> (repeat' split) <;> simp [*]

@[simp] theorem State.zeroKept_xlt (x0 x1) : (State.zeroKept x0 x1).xlt = x0.xlt := by
  simp [State.zeroKept]

@[simp] theorem State.setWork_xlt (x0 x1 x2) : (State.setWork x0 x1 x2).xlt = x0.xlt := by
  unfold State.setWork; dsimp only; (repeat' split) <;> simp

@[simp] theorem State.tileIdle_xlt (x0 x1) : (State.tileIdle x0 x1).xlt = x0.xlt := by
  unfold State.tileIdle; (repeat' split) <;> simp

@[simp] theorem State.dropRun_xlt (x0 x1) : (State.dropRun x0 x1).xlt = x0.xlt := by
  simp [State.dropRun]

@[simp] theorem State.finish_xlt (x0 x1 x2 x3 x4) : (State.finish x0 x1 x2 x3 x4).xlt = x0.xlt := by
  simp [State.finish]

@[simp] theorem State.finishMems_xlt (x0 x1 x2) : (State.finishMems x0 x1 x2).xlt = x0.xlt := by
  simp [State.finishMems]

@[simp] theorem State.dropRunsOf_xlt (x0 x1 x2) : (State.dropRunsOf x0 x1 x2).xlt = x0.xlt := by
  simp [State.dropRunsOf]

@[simp] theorem State.haltJob_xlt (x0 x1 x2) : (State.haltJob x0 x1 x2).xlt = x0.xlt := by
  simp [State.haltJob]

@[simp] theorem State.stopHere_xlt (x0 x1 x2 x3 x4) : (State.stopHere x0 x1 x2 x3 x4).xlt = x0.xlt := by
  unfold State.stopHere; dsimp only; (repeat' split) <;> simp

@[simp] theorem State.jobAct_xlt (x0 x1 x2) : (State.jobAct x0 x1 x2).xlt = x0.xlt := by
  unfold State.jobAct; (repeat' split) <;> simp

@[simp] theorem State.lostJob_xlt (x0 x1) : (State.lostJob x0 x1).xlt = x0.xlt := by
  unfold State.lostJob
  dsimp only
  split
  · rfl
  · exact (State.ctrlAll_xlt _ _ _).trans (State.jobAct_xlt _ _ _)

@[simp] theorem State.fenceCheck_xlt (x0 x1) : (State.fenceCheck x0 x1).xlt = x0.xlt := by
  unfold State.fenceCheck; dsimp only; (repeat' split) <;> simp

@[simp] theorem State.completeEnt_xlt (x0 x1 x2 x3 x4 x5 x6) : (State.completeEnt x0 x1 x2 x3 x4 x5 x6).xlt = x0.xlt := by
  unfold State.completeEnt; (repeat' split) <;> simp

@[simp] theorem State.setPace_xlt (x0 x1 x2 x3) : (State.setPace x0 x1 x2 x3).xlt = x0.xlt := by
  simp [State.setPace]

@[simp] theorem State.paceCe_xlt (x0 x1 x2 x3) : (State.paceCe x0 x1 x2 x3).xlt = x0.xlt := by
  unfold State.paceCe; dsimp only; (repeat' split) <;> simp

@[simp] theorem State.unpace_xlt (x0 x1 x2) : (State.unpace x0 x1 x2).xlt = x0.xlt := by
  simp [State.unpace]

@[simp] theorem State.paceDone_xlt (x0 x1 x2 x3) : (State.paceDone x0 x1 x2 x3).xlt = x0.xlt := by
  simp [State.paceDone]

@[simp] theorem upto_ep_ents (f : Nat → State → State) (n : Nat) (s : State) (h : ∀ i s, (f i s).ep.ents = s.ep.ents) : (upto f n s).ep.ents = s.ep.ents :=
  upto_keep (fun s => s.ep.ents) f n s h

@[simp] theorem foldl_ep_ents {α : Type} (f : State → α → State) (l : List α) (s : State) (h : ∀ s a, (f s a).ep.ents = s.ep.ents) :
    (l.foldl f s).ep.ents = s.ep.ents := foldl_keep (fun s => s.ep.ents) f l s h

@[simp] theorem State.putStop_ep_ents (x0 x1) : (State.putStop x0 x1).ep.ents = x0.ep.ents := by
  simp [State.putStop]

@[simp] theorem State.resumeHere_ep_ents (x0 x1 x2 x3) : (State.resumeHere x0 x1 x2 x3).ep.ents = x0.ep.ents := by
  unfold State.resumeHere; (repeat' split) <;> simp

@[simp] theorem State.setRing_ep_ents (x0 x1 x2) : (State.setRing x0 x1 x2).ep.ents = x0.ep.ents := by
  simp [State.setRing]

@[simp] theorem State.wr_ep_ents (x0 x1 x2) : (State.wr x0 x1 x2).ep.ents = x0.ep.ents := by
  simp [State.wr]

@[simp] theorem State.setF_ep_ents (x0 x1 x2 x3) : (@State.setF x0 x1 x2 x3).ep.ents = x1.ep.ents := by
  simp [State.setF]

@[simp] theorem State.incF_ep_ents (x0 x1 x2 x3) : (@State.incF x0 x1 x2 x3).ep.ents = x1.ep.ents := by
  simp [State.incF]

@[simp] theorem State.dropEvent_ep_ents (x0 x1) : (State.dropEvent x0 x1).ep.ents = x0.ep.ents := by
  simp [State.dropEvent]

@[simp] theorem State.emit_ep_ents (x0 x1) : (State.emit x0 x1).ep.ents = x0.ep.ents := by
  unfold State.emit; (repeat' split) <;> simp

@[simp] theorem State.vector_ep_ents (x0 x1) : (State.vector x0 x1).ep.ents = x0.ep.ents := by
  unfold State.vector; (repeat' split) <;> simp

@[simp] theorem State.vectorDue_ep_ents (x0 x1) : (State.vectorDue x0 x1).ep.ents = x0.ep.ents := by
  simp [State.vectorDue]

@[simp] theorem State.raise_ep_ents (x0 x1) : (State.raise x0 x1).ep.ents = x0.ep.ents := by
  unfold State.raise; (repeat' split) <;> simp

@[simp] theorem State.putRecord_ep_ents (x0 x1 x2 x3 x4) : (State.putRecord x0 x1 x2 x3 x4).ep.ents = x0.ep.ents := by
  unfold State.putRecord; dsimp only; (repeat' split) <;> simp

@[simp] theorem State.noteLost_ep_ents (x0 x1) : (State.noteLost x0 x1).ep.ents = x0.ep.ents := by
  unfold State.noteLost; (repeat' split) <;> simp

@[simp] theorem State.postTo_ep_ents (x0 x1 x2 x3) : (State.postTo x0 x1 x2 x3).ep.ents = x0.ep.ents := by
  unfold State.postTo; dsimp only; (repeat' split) <;> simp

@[simp] theorem State.post_ep_ents (x0 x1) : (State.post x0 x1).ep.ents = x0.ep.ents := by
  simp [State.post]

@[simp] theorem State.setQ_ep_ents (x0 x1 x2) : (State.setQ x0 x1 x2).ep.ents = x0.ep.ents := by
  simp [State.setQ]

@[simp] theorem State.unwatch_ep_ents (x0 x1 x2) : (State.unwatch x0 x1 x2).ep.ents = x0.ep.ents := by
  simp [State.unwatch]

@[simp] theorem State.dropWatch_ep_ents (x0 x1 x2) : (State.dropWatch x0 x1 x2).ep.ents = x0.ep.ents := by
  unfold State.dropWatch; (repeat' split) <;> simp

@[simp] theorem State.countXlate_ep_ents (x0 x1) : (State.countXlate x0 x1).ep.ents = x0.ep.ents := by
  unfold State.countXlate; (repeat' split) <;> simp

@[simp] theorem State.writeSlot_ep_ents (x0 x1 x2 x3 x4) : (State.writeSlot x0 x1 x2 x3 x4).ep.ents = x0.ep.ents := by
  unfold State.writeSlot; (repeat' split) <;> simp

@[simp] theorem State.nextSeq_ep_ents (x0 x1 x2 x3) : (State.nextSeq x0 x1 x2 x3).2.ep.ents = x0.ep.ents := by
  simp [State.nextSeq]

@[simp] theorem State.aim_ep_ents (x0 x1) : (State.aim x0 x1).2.ep.ents = x0.ep.ents := by
  simp [State.aim]

@[simp] theorem State.sendReq_ep_ents (x0 x1) : (State.sendReq x0 x1).ep.ents = x0.ep.ents := by
  simp [State.sendReq]

@[simp] theorem State.issueOwn_ep_ents (x0 x1 x2) : (State.issueOwn x0 x1 x2).ep.ents = x0.ep.ents := by
  simp [State.issueOwn]

@[simp] theorem State.setDesc_ep_ents (x0 x1 x2 x3) : (State.setDesc x0 x1 x2 x3).ep.ents = x0.ep.ents := by
  simp [State.setDesc]

@[simp] theorem State.postQ_ep_ents (x0 x1 x2 x3 x4 x5 x6) : (State.postQ x0 x1 x2 x3 x4 x5 x6).ep.ents = x0.ep.ents := by
  simp [State.postQ]

@[simp] theorem State.advance_ep_ents (x0 x1 x2) : (State.advance x0 x1 x2).ep.ents = x0.ep.ents := by
  induction x2 generalizing x0 x1 <;> unfold State.advance <;> (repeat' split) <;> simp [*]

@[simp] theorem State.doneDesc_ep_ents (x0 x1 x2) : (State.doneDesc x0 x1 x2).ep.ents = x0.ep.ents := by
  unfold State.doneDesc; dsimp only; (repeat' split) <;> simp

@[simp] theorem State.completeDesc_ep_ents (x0 x1 x2 x3) : (State.completeDesc x0 x1 x2 x3).ep.ents = x0.ep.ents := by
  unfold State.completeDesc; dsimp only; (repeat' split) <;> simp

@[simp] theorem State.stopDescs_ep_ents (x0 x1 x2) : (State.stopDescs x0 x1 x2).ep.ents = x0.ep.ents := by
  induction x2 generalizing x0 x1 <;> unfold State.stopDescs <;> (repeat' split) <;> simp [*]

@[simp] theorem State.stopQueueJob_ep_ents (x0 x1) : (State.stopQueueJob x0 x1).ep.ents = x0.ep.ents := by
  simp [State.stopQueueJob]

@[simp] theorem State.stopQueuesOf_ep_ents (x0 x1 x2 x3) : (State.stopQueuesOf x0 x1 x2 x3).ep.ents = x0.ep.ents := by
  induction x3 generalizing x0 x1 x2 <;> simp only [State.stopQueuesOf] <;> (repeat' split) <;> simp [*]

@[simp] theorem State.zeroKept_ep_ents (x0 x1) : (State.zeroKept x0 x1).ep.ents = x0.ep.ents := by
  simp [State.zeroKept]

@[simp] theorem State.setWork_ep_ents (x0 x1 x2) : (State.setWork x0 x1 x2).ep.ents = x0.ep.ents := by
  unfold State.setWork; dsimp only; (repeat' split) <;> simp

@[simp] theorem State.tileIdle_ep_ents (x0 x1) : (State.tileIdle x0 x1).ep.ents = x0.ep.ents := by
  unfold State.tileIdle; (repeat' split) <;> simp

@[simp] theorem State.dropRun_ep_ents (x0 x1) : (State.dropRun x0 x1).ep.ents = x0.ep.ents := by
  simp [State.dropRun]

@[simp] theorem State.finish_ep_ents (x0 x1 x2 x3 x4) : (State.finish x0 x1 x2 x3 x4).ep.ents = x0.ep.ents := by
  simp [State.finish]

@[simp] theorem State.finishMems_ep_ents (x0 x1 x2) : (State.finishMems x0 x1 x2).ep.ents = x0.ep.ents := by
  simp [State.finishMems]

@[simp] theorem State.dropRunsOf_ep_ents (x0 x1 x2) : (State.dropRunsOf x0 x1 x2).ep.ents = x0.ep.ents := by
  simp [State.dropRunsOf]

@[simp] theorem State.haltJob_ep_ents (x0 x1 x2) : (State.haltJob x0 x1 x2).ep.ents = x0.ep.ents := by
  simp [State.haltJob]

@[simp] theorem State.stopHere_ep_ents (x0 x1 x2 x3 x4) : (State.stopHere x0 x1 x2 x3 x4).ep.ents = x0.ep.ents := by
  unfold State.stopHere; dsimp only; (repeat' split) <;> simp

@[simp] theorem State.jobAct_ep_ents (x0 x1 x2) : (State.jobAct x0 x1 x2).ep.ents = x0.ep.ents := by
  unfold State.jobAct; (repeat' split) <;> simp

@[simp] theorem State.redMark_ep_ents (x0 x1 x2 x3 x4 x5) : (State.redMark x0 x1 x2 x3 x4 x5).2.ep.ents = x0.ep.ents := by
  unfold State.redMark; (repeat' split) <;> simp

@[simp] theorem State.markOut_ep_ents (x0 x1) : (State.markOut x0 x1).2.ep.ents = x0.ep.ents := by
  unfold State.markOut; dsimp only; (repeat' split) <;> simp

@[simp] theorem State.lanes_ep_ents (x0 x1 x2) : (State.lanes x0 x1 x2).ep.ents = x0.ep.ents := by
  simp [State.lanes]

@[simp] theorem State.resume_ep_ents (x0 x1) : (State.resume x0 x1).ep.ents = x0.ep.ents := by
  simp [State.resume]

@[simp] theorem State.setPt_ep_ents (x0 x1 x2) : (State.setPt x0 x1 x2).ep.ents = x0.ep.ents := by
  simp [State.setPt]

@[simp] theorem State.stamp_ep_ents (x0 x1 x2) : (State.stamp x0 x1 x2).2.ep.ents = x0.ep.ents := by
  unfold State.stamp; (repeat' split) <;> simp

@[simp] theorem State.drawWord_ep_ents (x0) : (State.drawWord x0).2.ep.ents = x0.ep.ents := by
  simp [State.drawWord]

@[simp] theorem State.setLp_ep_ents (x0 x1 x2) : (State.setLp x0 x1 x2).ep.ents = x0.ep.ents := by
  simp [State.setLp]

@[simp] theorem State.seal_ep_ents (x0 x1 x2) : (State.seal x0 x1 x2).2.ep.ents = x0.ep.ents := by
  unfold State.seal; dsimp only; (repeat' split) <;> simp

@[simp] theorem State.sealAll_ep_ents (x0 x1 x2) : (State.sealAll x0 x1 x2).2.ep.ents = x0.ep.ents := by
  induction x2 generalizing x0 x1 <;> simp [State.sealAll, *]

@[simp] theorem State.setPace_ep_ents (x0 x1 x2 x3) : (State.setPace x0 x1 x2 x3).ep.ents = x0.ep.ents := by
  simp [State.setPace]

@[simp] theorem State.paceCe_ep_ents (x0 x1 x2 x3) : (State.paceCe x0 x1 x2 x3).ep.ents = x0.ep.ents := by
  unfold State.paceCe; dsimp only; (repeat' split) <;> simp

@[simp] theorem State.unpace_ep_ents (x0 x1 x2) : (State.unpace x0 x1 x2).ep.ents = x0.ep.ents := by
  simp [State.unpace]

@[simp] theorem State.paceDone_ep_ents (x0 x1 x2 x3) : (State.paceDone x0 x1 x2 x3).ep.ents = x0.ep.ents := by
  simp [State.paceDone]

@[simp] theorem State.sendCpl_ep_ents (x0 x1) : (State.sendCpl x0 x1).ep.ents = x0.ep.ents := by
  simp [State.sendCpl]


@[simp] theorem State.aim_home (x0 x1) : (State.aim x0 x1).2.home = x0.home := by
  simp [State.aim]

@[simp] theorem State.emit_home (x0 x1) : (State.emit x0 x1).home = x0.home := by
  unfold State.emit; (repeat' split) <;> simp

@[simp] theorem State.sendCpl_home (x0 x1) : (State.sendCpl x0 x1).home = x0.home := by
  simp [State.sendCpl]

@[simp] theorem State.sendReq_home (x0 x1) : (State.sendReq x0 x1).home = x0.home := by
  simp [State.sendReq]

@[simp] theorem State.sendSnp_home (x0 x1) : (State.sendSnp x0 x1).home = x0.home := by
  simp [State.sendSnp]


/-! ### The request table while messages leave by ports -/

theorem State.freeEnt_ents (s : State) (e : Ent) : (s.freeEnt e).ep.ents = dropWhere (fun x => decide (x.id = e.id)) s.ep.ents := by
  unfold State.freeEnt
  dsimp only
  split <;> rfl

theorem State.freeEnt_sub (s : State) (e : Ent) : (s.freeEnt e).ep.ents ⊆ s.ep.ents := by
  rw [State.freeEnt_ents]
  exact List.filter_subset_self _

theorem State.leftPort_sub (s : State) (p : Nat) (it : TxItem) : (s.leftPort p it).ep.ents ⊆ s.ep.ents := by
  unfold State.leftPort
  split
  · split
    · exact State.freeEnt_sub s _
    · exact List.Subset.refl _
  · exact List.Subset.refl _

theorem State.sendNow_sub (s : State) (p : Nat) (it : TxItem) : (s.sendNow p it).ep.ents ⊆ s.ep.ents := by
  unfold State.sendNow
  dsimp only
  refine List.Subset.trans (State.leftPort_sub _ _ _) ?_
  simp

theorem State.pump_sub (s : State) (p : Nat) (l : List TxItem) : (s.pump p l).ep.ents ⊆ s.ep.ents := by
  induction l generalizing s with
  | nil => exact List.Subset.refl _
  | cons it l ih =>
    refine List.Subset.trans (ih _) ?_
    split
    · exact State.sendNow_sub s p it
    · exact List.Subset.refl _

theorem State.tx_sub (s : State) (p : Nat) (it : TxItem) : (s.tx p it).ep.ents ⊆ s.ep.ents := by
  unfold State.tx
  dsimp only
  refine List.Subset.trans (State.pump_sub _ _ _) ?_
  split <;> simp

theorem State.ctrlAll_sub (s : State) (m : CtrlMsg) (but : Option Nat) : (s.ctrlAll m but).ep.ents ⊆ s.ep.ents := by
  have hc : ∀ n, (upto (fun p s => if some p = but then s else s.ctrl p m) n s).ep.ents ⊆ s.ep.ents := by
    intro n
    induction n with
    | zero => exact List.Subset.refl _
    | succ n ih =>
      refine List.Subset.trans ?_ ih
      simp only [upto]
      generalize upto (fun p s => if some p = but then s else s.ctrl p m) n s = u
      split
      · exact List.Subset.refl _
      · unfold State.ctrl
        split
        · exact State.tx_sub _ _ _
        · exact List.Subset.refl _
  exact hc 6

theorem State.attachCpl_sub (s : State) (port : Nat) (tag : BitVec 12) (size : BitVec 4) (st : Status) (ce sat : Bool) (w1 : R64) (data : Bytes) :
    (s.attachCpl port tag size st ce sat w1 data).ep.ents ⊆ s.ep.ents := by
  unfold State.attachCpl State.toAttach
  dsimp only
  split
  · exact State.tx_sub _ _ _
  · exact State.leftPort_sub _ _ _

theorem State.lostJob_sub (s : State) (j : JobId) : (s.lostJob j).ep.ents ⊆ s.ep.ents := by
  unfold State.lostJob
  dsimp only
  split
  · exact List.Subset.refl _
  · exact List.Subset.trans (State.ctrlAll_sub _ _ _) (by rw [State.jobAct_ep_ents]; exact List.Subset.refl _)

/-! ### An entry that ends (R186, R187) -/

/-- Every entry of the table only leaves the port. -/
def State.allLeaving (s : State) : Prop := ∀ x ∈ s.ep.ents, x.st = .leaving

theorem State.allLeaving.sub {s t : State} (h : s.allLeaving) (ht : t.ep.ents ⊆ s.ep.ents) : t.allLeaving := fun x hx => h x (ht hx)

/-- With nothing but entries that leave, no FENCE stands. -/
theorem State.fenceCheck_leaving {s : State} (p : Nat) (h : s.allLeaving) : s.fenceCheck p = s := by
  have hn : s.ep.ents.find? (fun e => decide (e.port = p) && decide (e.st = .fencing)) = none := by
    rw [List.find?_eq_none]
    intro x hx
    rw [h x hx]
    simp
  unfold State.fenceCheck
  rw [hn]

/-- Ending the only entry of the table leaves it to the port. -/
theorem State.endEnt_only {s : State} {e : Ent} (h : ∀ x ∈ s.ep.ents, x.id = e.id) (st : Status) (ce sat : Bool) (w1 : R64) (d : Bytes) :
    (s.endEnt e st ce sat w1 d).allLeaving := by
  unfold State.endEnt
  dsimp only
  refine State.allLeaving.sub (s := ((s.markOut e).2.setEnt e.id (fun x => { x with st := .leaving }))) ?_ (State.attachCpl_sub _ _ _ _ _ _ _ _ _)
  intro x hx
  obtain ⟨y, hy, rfl⟩ := List.mem_map.1 hx
  rw [State.markOut_ep_ents] at hy
  rw [if_pos (h y hy)]

/-- What a completion does once its entry has gone: the job that lost a node is stopped, and FENCEs are checked. -/
def State.afterEnt (s : State) (job : Option JobId) (st : Status) (port : Nat) : State :=
  State.fenceCheck (match job with
    | some j => if st = stTargetLost then s.lostJob j else s
    | none => s) port

theorem State.afterEnt_leaving {s : State} (h : s.allLeaving) (job : Option JobId) (st : Status) (port : Nat) : (s.afterEnt job st port).allLeaving := by
  have hl : (match job with
      | some j => if st = stTargetLost then s.lostJob j else s
      | none => s).allLeaving := by
    split
    · split
      · exact h.sub (State.lostJob_sub s _)
      · exact h
    · exact h
  unfold State.afterEnt
  rw [State.fenceCheck_leaving _ hl]
  exact hl

theorem State.completeEnt_eq (s : State) (e : Ent) (job : Option JobId) (st : Status) (ce sat : Bool) (d : Bytes) :
    s.completeEnt e job st ce sat d = State.afterEnt (if e.nc && !e.isFence then
      State.freeEnt (if st = stOk then s.countXlate st else { s.countXlate st with ep := { (s.countXlate st).ep with
        ncFails := (s.countXlate st).ep.ncFails ++ [⟨e.port, e.cls, e.id, st, e.va⟩] } }) e
      else (s.countXlate st).endEnt e st ce sat 0 d) job st e.port := rfl

/-- Completing the only entry of the table leaves nothing of it but what leaves the port. -/
theorem State.completeEnt_only {s : State} {e : Ent} (h : ∀ x ∈ s.ep.ents, x.id = e.id) (job : Option JobId) (st : Status) (ce sat : Bool) (d : Bytes) :
    (s.completeEnt e job st ce sat d).allLeaving := by
  have hc : ∀ x ∈ (s.countXlate st).ep.ents, x.id = e.id := by
    rw [State.countXlate_ep_ents]
    exact h
  have hfree : ∀ u : State, u.ep.ents = (s.countXlate st).ep.ents → (u.freeEnt e).allLeaving := by
    intro u hu x hx
    rw [State.freeEnt_ents, hu] at hx
    simp only [dropWhere, List.mem_filter] at hx
    simp [hc x hx.1] at hx
  rw [State.completeEnt_eq]
  refine State.afterEnt_leaving ?_ job st e.port
  split
  · exact hfree _ (by split <;> rfl)
  · exact State.endEnt_only hc st ce sat 0 d

/-! ### CACK, tamped completions, MACK (R183, R189, R213, R214) -/

theorem State.completionArrive_entry {s : State} {c : Cpl} {e : Ent} {r : Req} (hc : c.opc = 0x30) (hf : s.entFor c = some (e, r)) :
    s.completionArrive c = ((if r.opc = 1 then s else s.sendCpl (cackFor s c)).paceDone e r.dst c.ce).completeEnt e (some r.job) c.status c.ce c.sat c.data := by
  unfold State.completionArrive
  rw [if_neg (by rw [hc]; decide), hf]

theorem State.completionArrive_unmatched {s : State} {c : Cpl} (hf : s.entFor c = none) (ho : s.ownFor c = none) : s.completionArrive c = s := by
  unfold State.completionArrive
  rw [hf, ho]
  exact ite_self s

section
variable {s : State} {c : Cpl} {k : Kept}

theorem State.cackArrive_plain (hc : c.tamped = false) (hk : k.tamped = false)
    (hf : s.home.kept.find? (fun k => !k.tamped && k.agent == c.agent && k.cls == c.cls && k.seq == c.seq) = some k) :
    s.cackArrive c = { s with home := { s.home with
      kept := s.home.kept.eraseP (fun x => decide (x = k))
      acked := sset noNums s.home.acked (seriesKey k.agent k.home k.cls) (ackNum k.seq (sget noNums s.home.acked (seriesKey k.agent k.home k.cls))) } } := by
  unfold State.cackArrive
  simp only [hc, Bool.false_eq_true, if_false, hf, hk]

theorem State.cackArrive_tamped (hc : c.tamped = true) (hk : k.tamped = true)
    (hf : s.home.kept.find? (fun k => k.tamped && k.tamp == c.tampId) = some k) :
    s.cackArrive c = { s with home := { s.home with
      kept := s.home.kept.eraseP (fun x => decide (x = k))
      ackedTamps := sset noOp s.home.ackedTamps k.tamp.toNat (some (k.agent, k.seq)) } } := by
  unfold State.cackArrive
  simp only [hc, if_true, hf, hk]

end

theorem State.completeContribs_rest (s : State) (c : Cpl) (l : List Contrib) :
    (l.foldl (fun s k => s.completeContrib c k) s).swc = s.swc ∧ (l.foldl (fun s k => s.completeContrib c k) s).mems = s.mems ∧
      (l.foldl (fun s k => s.completeContrib c k) s).home = s.home ∧ (l.foldl (fun s k => s.completeContrib c k) s).regs = s.regs :=
  ⟨foldl_keep State.swc _ l s fun _ _ => rfl, foldl_keep State.mems _ l s fun _ _ => rfl, foldl_keep State.home _ l s fun _ _ => rfl,
    foldl_keep State.regs _ l s fun _ _ => rfl⟩

/-- The completion of the only record of tamped operations. -/
theorem State.tampedCpl_only {s : State} {c : Cpl} {x : TampRec} (ht : s.swc.tamps = [x]) (hx : (s.tampId x.index x.gen == c.tampId) = true) :
    (s.tampedCpl c).swc = { s.swc with tamps := [] } ∧ (s.tampedCpl c).mems = s.mems ∧ (s.tampedCpl c).home = s.home ∧ (s.tampedCpl c).regs = s.regs := by
  have hf : s.swc.tamps.find? (fun t => s.tampId t.index t.gen == c.tampId) = some x := by
    rw [ht]
    exact List.find?_cons_of_pos hx
  have hd : dropWhere (fun u : TampRec => decide (u.index = x.index)) s.swc.tamps = [] := by
    rw [ht]
    simp [dropWhere]
  unfold State.tampedCpl
  rw [hf]
  dsimp only
  rw [hd]
  exact State.completeContribs_rest _ c x.contribs

section
variable {s : State} {c : Cpl}

theorem State.mack_mirror (ho : s.ep.own = []) : s.mack c = s.mackArrive c := by
  unfold State.mack
  rw [ho]
  rfl

theorem State.mackArrive_early (hw : s.home.awaitMack = []) : s.mackArrive c = { s with home := { s.home with earlyMack := s.home.earlyMack ++ [c] } } := by
  unfold State.mackArrive
  rw [hw]
  rfl

theorem State.keep_awaitMack (r : Req) (c : Cpl) : (s.keep r c).home.awaitMack = s.home.awaitMack := by
  unfold State.keep
  split <;> rfl

/-- A MACK with OK for the only mirrored write that waits for its copy. -/
theorem State.mackArrive_ok {r q : Req} {d : Cpl} (hw : s.home.awaitMack = [(r, d, q)]) (h1 : r.src = c.agent) (h2 : r.cls = c.cls) (h3 : r.seq = c.seq)
    (hok : c.status = stOk) : (s.mackArrive c).home.awaitMack = [] ∧ (s.mackArrive c).mems = s.mems ∧ (s.mackArrive c).clay = s.clay := by
  have hf : s.home.awaitMack.find? (fun w => w.1.src == c.agent && w.1.cls == c.cls && w.1.seq == c.seq) = some (r, d, q) := by
    rw [hw]
    exact List.find?_cons_of_pos (by simp [h1, h2, h3])
  have he : s.home.awaitMack.eraseP (fun x => decide (x = (r, d, q))) = [] := by
    rw [hw]
    simp
  unfold State.mackArrive
  rw [hf]
  dsimp only
  rw [he, if_pos hok]
  dsimp only
  refine ⟨?_, by simp, by simp⟩
  rw [State.sendCpl_home]
  exact State.keep_awaitMack r _

end

/-- Settles O8. -/
theorem completions : Obligations.Completions := by
  refine ⟨fun s c e r hu hc he hf => goes_up (f := (State.completionArrive · c)) rfl hu ?_,
    fun s c hu hf ho => exec_up (f := (State.completionArrive · c)) rfl hu (State.completionArrive_unmatched hf ho),
    fun s c k hu hc hk hf => exec_up (f := (State.cackArrive · c)) rfl hu (State.cackArrive_plain hc hk hf),
    fun s c k hu hc hk hf => exec_up (f := (State.cackArrive · c)) rfl hu (State.cackArrive_tamped hc hk hf),
    fun s c hu hk => exec_up (f := (State.cackArrive · c)) rfl hu ?_,
    fun s c hu ht => exec_up (f := (State.tampedCpl · c)) rfl hu ?_,
    fun s c x hu ht hx => goes_up (f := (State.tampedCpl · c)) rfl hu (State.tampedCpl_only ht hx),
    fun s c r d q hu ho hw h1 h2 h3 hok => goes_up (f := (State.mack · c)) rfl hu ?_,
    fun s c hu ho hw => exec_up (f := (State.mack · c)) rfl hu ((State.mack_mirror ho).trans (State.mackArrive_early hw))⟩
  · rw [State.completionArrive_entry hc hf]
    refine ⟨State.completeEnt_only ?_ _ _ _ _ _, ?_, ?_⟩
    · rw [State.paceDone_ep_ents]
      have hs : ∀ u : State, u.ep.ents = [e] → ∀ x ∈ u.ep.ents, x.id = e.id := fun u hu x hx => by rw [hu, List.mem_singleton] at hx; rw [hx]
      refine hs _ ?_
      split <;> simp [he]
    · rw [(State.completeEnt_frame _ _ _ _ _ _ _).2.2.1, (State.paceDone_frame _ _ _ _).2.2.1]
      split <;> simp
    · rw [State.completeEnt_xlt, State.paceDone_xlt]
      split <;> simp
  · unfold State.cackArrive
    rw [hk]
    rfl
  · unfold State.tampedCpl
    rw [ht]
    rfl
  · rw [State.mack_mirror ho]
    exact State.mackArrive_ok hw h1 h2 h3 hok

end Sys2Proof.Machine
end

section
/-!
PROOFS. Requests at their home: loads, stores, atomics.
-/

namespace Sys2Proof.Machine

/-! ### What answers, pool reads and pool writes leave as it was -/

@[simp] theorem State.aim_keeps (x0 x1) : (State.aim x0 x1).2.qmg = x0.qmg := by
  simp [State.aim]

@[simp] theorem State.sendCpl_keeps (x0 x1) : (State.sendCpl x0 x1).qmg = x0.qmg := by
  rw [State.sendCpl, State.emit_qmg, State.aim_keeps]

@[simp] theorem State.keep_keeps (x0 x1 x2) : (State.keep x0 x1 x2).xlt = x0.xlt ∧ (State.keep x0 x1 x2).qmg = x0.qmg := by
  unfold State.keep; dsimp only; (repeat' split) <;> simp

@[simp] theorem State.reply_keeps (x0 x1 x2 x3 x4) : (State.reply x0 x1 x2 x3 x4).xlt = x0.xlt ∧ (State.reply x0 x1 x2 x3 x4).qmg = x0.qmg := by
  simp [State.reply]

@[simp] theorem State.reach_keeps (x0 x1) : (State.reach x0 x1).xlt = x0.xlt ∧ (State.reach x0 x1).qmg = x0.qmg := by
  simp [State.reach]

@[simp] theorem State.drawBytes_keeps (x0 x1) : (State.drawBytes x0 x1).2.qmg = x0.qmg := by
  simp [State.drawBytes]

@[simp] theorem State.granule_keeps (x0 x1 x2) : (State.granule x0 x1 x2).2.xlt = x0.xlt ∧ (State.granule x0 x1 x2).2.qmg = x0.qmg := by
  unfold State.granule; (repeat' split) <;> simp

@[simp] theorem State.putGranule_keeps (x0 x1 x2 x3 x4) : (State.putGranule x0 x1 x2 x3 x4).xlt = x0.xlt ∧ (State.putGranule x0 x1 x2 x3 x4).qmg = x0.qmg := by
  unfold State.putGranule; dsimp only; (repeat' split) <;> simp

@[simp] theorem State.writeGranules_keeps (x0 x1 x2 x3 x4) : (State.writeGranules x0 x1 x2 x3 x4).xlt = x0.xlt ∧ (State.writeGranules x0 x1 x2 x3 x4).qmg = x0.qmg := by
  induction x4 generalizing x0 x1 x2 x3 <;> unfold State.writeGranules <;> (repeat' split) <;> simp [*]

@[simp] theorem State.poolWrite_keeps (x0 x1 x2 x3) : (State.poolWrite x0 x1 x2 x3).xlt = x0.xlt ∧ (State.poolWrite x0 x1 x2 x3).qmg = x0.qmg := by
  simp [State.poolWrite]

@[simp] theorem State.readGranules_keeps (x0 x1 x2) : (State.readGranules x0 x1 x2).2.xlt = x0.xlt ∧ (State.readGranules x0 x1 x2).2.qmg = x0.qmg := by
  induction x2 generalizing x0 x1 <;> simp only [State.readGranules] <;> (repeat' split) <;> simp [*]

@[simp] theorem State.poolRead_keeps (x0 x1 x2 x3) : (State.poolRead x0 x1 x2 x3).2.xlt = x0.xlt ∧ (State.poolRead x0 x1 x2 x3).2.qmg = x0.qmg := by
  simp [State.poolRead]

@[simp] theorem State.seriesAdvance_keeps (x0 x1) : (State.seriesAdvance x0 x1).xlt = x0.xlt ∧ (State.seriesAdvance x0 x1).qmg = x0.qmg := by
  simp [State.seriesAdvance]

@[simp] theorem State.putGranule_sramext (x0 x1 x2 x3 x4) : (State.putGranule x0 x1 x2 x3 x4).mems.sram = x0.mems.sram ∧ (State.putGranule x0 x1 x2 x3 x4).mems.ext = x0.mems.ext := by
  unfold State.putGranule; dsimp only; (repeat' split) <;> simp

@[simp] theorem State.writeGranules_sramext (x0 x1 x2 x3 x4) : (State.writeGranules x0 x1 x2 x3 x4).mems.sram = x0.mems.sram ∧ (State.writeGranules x0 x1 x2 x3 x4).mems.ext = x0.mems.ext := by
  induction x4 generalizing x0 x1 x2 x3 <;> unfold State.writeGranules <;> (repeat' split) <;> simp [*]

@[simp] theorem State.poolWrite_sramext (x0 x1 x2 x3) : (State.poolWrite x0 x1 x2 x3).mems.sram = x0.mems.sram ∧ (State.poolWrite x0 x1 x2 x3).mems.ext = x0.mems.ext := by
  simp [State.poolWrite]

@[simp] theorem State.keep_home_held (x0 x1 x2) : (State.keep x0 x1 x2).home.held = x0.home.held := by
  unfold State.keep; dsimp only; (repeat' split) <;> simp

@[simp] theorem State.reply_home_held (x0 x1 x2 x3 x4) : (State.reply x0 x1 x2 x3 x4).home.held = x0.home.held := by
  simp [State.reply]

@[simp] theorem State.reach_home_held (x0 x1) : (State.reach x0 x1).home.held = x0.home.held := by
  simp [State.reach]

@[simp] theorem State.drawBytes_home_held (x0 x1) : (State.drawBytes x0 x1).2.home.held = x0.home.held := by
  simp [State.drawBytes]

@[simp] theorem State.granule_home_held (x0 x1 x2) : (State.granule x0 x1 x2).2.home.held = x0.home.held := by
  unfold State.granule; (repeat' split) <;> simp

@[simp] theorem State.putGranule_home_held (x0 x1 x2 x3 x4) : (State.putGranule x0 x1 x2 x3 x4).home.held = x0.home.held := by
  unfold State.putGranule; dsimp only; (repeat' split) <;> simp

@[simp] theorem State.writeGranules_home_held (x0 x1 x2 x3 x4) : (State.writeGranules x0 x1 x2 x3 x4).home.held = x0.home.held := by
  induction x4 generalizing x0 x1 x2 x3 <;> unfold State.writeGranules <;> (repeat' split) <;> simp [*]

@[simp] theorem State.poolWrite_home_held (x0 x1 x2 x3) : (State.poolWrite x0 x1 x2 x3).home.held = x0.home.held := by
  simp [State.poolWrite]

@[simp] theorem State.readGranules_home_held (x0 x1 x2) : (State.readGranules x0 x1 x2).2.home.held = x0.home.held := by
  induction x2 generalizing x0 x1 <;> simp only [State.readGranules] <;> (repeat' split) <;> simp [*]

@[simp] theorem State.poolRead_home_held (x0 x1 x2 x3) : (State.poolRead x0 x1 x2 x3).2.home.held = x0.home.held := by
  simp [State.poolRead]

@[simp] theorem State.seriesAdvance_home_held (x0 x1) : (State.seriesAdvance x0 x1).home.held = x0.home.held := by
  simp [State.seriesAdvance]


/-! ### A request arrives at its home (R182, R186) -/

theorem State.homeCheck_home (s : State) (h : Home) (r : Req) : State.homeCheck { s with home := h } r = s.homeCheck r := rfl

/-- A request whose home is this node, without a crossing WRITEBACK, in no hold-up. -/
theorem State.homeArrive_own {s : State} {r : Req} (m : MemCond) (hh : s.pwr.holdUp = false) (hn : dpaNode r.dpa = s.node) (hm : r.mc = false)
    (hs : s.supply r = s) : s.homeArrive barWin r m = s.homeTake barWin r m := by
  unfold State.homeArrive
  rw [if_neg (by rw [hm]; simp), if_neg (by simp [State.homesFor, hn]), if_neg (by rw [hh]; decide), hs]

/-- A request that is not a WRITEBACK supplies no line. -/
theorem State.supply_other {s : State} {r : Req} (h : r.opc ≠ 0xB) : s.supply r = s := by
  unfold State.supply
  dsimp only
  rw [if_neg (fun hc => h hc.1)]

theorem State.release_none {s : State} (h : s.home.held = []) : s.release barWin = s := by
  unfold State.release
  rw [h]
  rfl

/-- The state in which a new request is judged: its series has moved past it. -/
def State.judged (s : State) (r : Req) : State := if r.ordered then s.seriesAdvance r else s

theorem State.judged_home (s : State) (r : Req) : s.judged r = { s with home := { s.home with next := (s.judged r).home.next } } := by
  unfold State.judged
  split <;> rfl

/-- A new request of this home that is next in its series, if it has one, is run. -/
theorem State.homeTake_new {s : State} {r : Req} (m : MemCond) (hh : s.pwr.holdUp = false) (hn : dpaNode r.dpa = s.node) (hk : s.known r = false)
    (ho : r.ordered = true → r.seq = s.seriesNext r ∧ s.seriesBlocked r = false) :
    s.homeTake barWin r m = if r.ordered then ((s.judged r).runReq barWin r m).release barWin else (s.judged r).runReq barWin r m := by
  unfold State.homeTake State.judged
  rw [if_neg (by rw [hh]; decide), if_neg (by simp [State.ranAsCopy, hn])]
  cases hr : r.ordered with
  | false => rw [if_pos (by decide), if_neg (by rw [hk]; decide), if_neg (by decide), if_neg (by decide)]
  | true =>
    obtain ⟨hs, hb⟩ := ho hr
    have ha : s.adoptSeries r = s := if_pos (Or.inl hn)
    have hd : (r.seq - s.seriesNext r).toNat = 0 := by rw [hs, BitVec.sub_self]; rfl
    rw [if_neg (by decide), ha]
    dsimp only
    rw [hd, if_neg (by decide), if_pos ⟨rfl, by rw [hb]; rfl⟩, if_pos rfl, if_pos rfl]

theorem State.judged_mode (s : State) (r : Req) : (s.judged r).f F.FLT_SED_STAT_MODE = s.f F.FLT_SED_STAT_MODE := by
  rw [s.judged_home r]
  rfl

/-- What arrives as the next new request of its series is admitted, where nothing of other series was held. -/
theorem State.homeArrive_new {s t : State} {r : Req} {m : MemCond} (hh : s.pwr.holdUp = false) (hn : dpaNode r.dpa = s.node) (hm : r.mc = false)
    (hmode : s.f F.FLT_SED_STAT_MODE = 0) (hs : s.supply r = s) (hk : s.known r = false)
    (ho : r.ordered = true → r.seq = s.seriesNext r ∧ s.seriesBlocked r = false)
    (ht : (s.judged r).admitReq barWin r m = t) (hl : r.ordered = true → t.home.held = []) : s.homeArrive barWin r m = t := by
  have hrun : (s.judged r).runReq barWin r m = t := by
    unfold State.runReq
    rw [if_pos (Or.inl (by rw [s.judged_mode, hmode]; decide)), ht]
  rw [State.homeArrive_own m hh hn hm hs, State.homeTake_new m hh hn hk ho, hrun]
  split
  next hr => exact State.release_none (hl hr)
  next => rfl

/-! ### Admission and the checks of the home (R92) -/

section
variable {s : State} {r : Req} {m : MemCond} (hh : s.pwr.holdUp = false) (hs : s.home.supplied = [])
include hh hs

theorem State.admitReq_fail {st : Status} (hc : s.homeCheck r = .fail st) (hne : st ≠ stRevoked) : s.admitReq barWin r m = s.reply r st false [] := by
  unfold State.admitReq
  dsimp only
  rw [if_neg (by rw [hh]; decide), hs, List.any_nil, if_neg (by decide), hc]
  dsimp only
  rw [if_neg hne]

theorem State.admitReq_passes {c : Chk} (hc : s.homeCheck r = c) (hp : ∀ st, c ≠ .fail st) : s.admitReq barWin r m = s.settle barWin c r m := by
  unfold State.admitReq
  dsimp only
  rw [if_neg (by rw [hh]; decide), hs, List.any_nil, if_neg (by decide), hc]
  cases c with
  | fail st => exact absurd rfl (hp st)
  | _ => exact if_neg (by decide)

end

/-- With sediment off nothing is recorded. -/
theorem State.capture_off {s : State} (r : Req) (h : s.f F.FLT_SED_STAT_MODE = 0) : s.capture r = s := if_pos (Or.inl (by rw [h]; decide))

theorem State.perform_sram {s : State} {r : Req} {m : MemCond} (h : s.f F.FLT_SED_STAT_MODE = 0) : s.settle barWin .sram r m = s.execSram r := by
  unfold State.settle State.perform
  rw [State.capture_off r h]

section
variable {s : State} {r : Req}

theorem State.execSram_load (h : r.opc = 1) : s.execSram r = s.reply r stOk false (loadUnits (Mem.rdN s.mems.sram (dpaOff r.dpa) r.bytes) (dpaOff r.dpa) r.bytes) :=
  if_pos h

theorem State.execSram_store (h : r.opc = 2) : s.execSram r =
    State.reply { s with mems := { s.mems with sram := Mem.wrN s.mems.sram (dpaOff r.dpa) (storeBytes r.data (dpaOff r.dpa) r.bytes) } } r stOk false [] :=
  (if_neg (by rw [h]; decide)).trans (if_pos h)

theorem State.execSram_atomic (h1 : r.opc ≠ 1) (h2 : r.opc ≠ 2) : s.execSram r =
    State.reply { s with mems := { s.mems with sram := Mem.wrN s.mems.sram (dpaOff r.dpa) (atomicNew r (Mem.rdN s.mems.sram (dpaOff r.dpa) (widthBytes r.width))) } }
      r stOk false (oldUnit r (Mem.rdN s.mems.sram (dpaOff r.dpa) (widthBytes r.width))) :=
  (if_neg h1).trans (if_neg h2)

end

theorem State.settle_pool {s : State} {i : Nat} {r : Req} {m : MemCond} (h : s.f F.FLT_SED_STAT_MODE = 0) (hc : (s.ext i).coherent = false)
    (hr : r.coh = false) : s.settle barWin (.pool i) r m = s.execPool i r m := by
  unfold State.settle State.perform
  dsimp only
  rw [if_pos (by rw [hc]; rfl), State.capture_off r h, if_neg (by rw [hr]; decide), if_neg (by rw [hc]; decide)]

/-! ### The pool without bad granules (R189, R193, R194, R589) -/

/-- No granule reads bad. -/
def MemCond.clean : MemCond := ⟨[], [], []⟩

theorem badGranules_clean (gs : List Nat) : badGranules MemCond.clean gs = [] := by
  unfold badGranules
  exact List.filter_eq_nil_iff.2 fun g _ => by simp [memBad, MemCond.clean]

theorem State.countCes_clean (s : State) (gs : List Nat) : s.countCes MemCond.clean gs = s := by
  induction gs generalizing s with
  | nil => rfl
  | cons g gs ih =>
    rw [State.countCes, if_neg (by simp [MemCond.clean])]
    exact ih s

section
variable {s : State} {i : Nat} {r : Req}

theorem State.execPool_load (ha : (s.ext i).accum = false)
    (hk : (granulesOf (dpaOff r.dpa) r.bytes).any (fun g => (s.spanKey (s.ext i) (64 * g)).isNone) = false) (h : r.opc = 1) :
    s.execPool i r MemCond.clean = (s.poolRead (s.ext i) (dpaOff r.dpa) r.bytes).2.reply r stOk false
      (loadUnits (s.poolRead (s.ext i) (dpaOff r.dpa) r.bytes).1 (dpaOff r.dpa) r.bytes) := by
  unfold State.execPool State.execLoad
  dsimp only
  rw [if_neg (by rw [ha]; decide), if_neg (by rw [hk]; decide), if_pos h, badGranules_clean, State.countCes_clean, if_neg (by simp)]

theorem State.execPool_store (ha : (s.ext i).accum = false) (hm : (s.ext i).mirrored = false)
    (hk : (granulesOf (dpaOff r.dpa) r.bytes).any (fun g => (s.spanKey (s.ext i) (64 * g)).isNone) = false) (h : r.opc = 2) :
    s.execPool i r MemCond.clean = ((s.poolWrite (s.ext i) (dpaOff r.dpa) (storeBytes r.data (dpaOff r.dpa) r.bytes)).reach
      (granulesOf (dpaOff r.dpa) (storeBytes r.data (dpaOff r.dpa) r.bytes).length)).reply r stOk false [] := by
  unfold State.execPool State.execStore State.finishWrite
  dsimp only
  rw [if_neg (by rw [ha]; decide), if_neg (by rw [hk]; decide), if_neg (by rw [h]; decide), if_pos h, badGranules_clean, State.countCes_clean,
    if_neg (by simp), if_pos (by rw [hm]; rfl)]

theorem State.execPool_atomic (ha : (s.ext i).accum = false) (hm : (s.ext i).mirrored = false)
    (hk : (granulesOf (dpaOff r.dpa) r.bytes).any (fun g => (s.spanKey (s.ext i) (64 * g)).isNone) = false) (h1 : r.opc ≠ 1) (h2 : r.opc ≠ 2) :
    s.execPool i r MemCond.clean =
      (((s.poolRead (s.ext i) (dpaOff r.dpa) (widthBytes r.width)).2.poolWrite (s.ext i) (dpaOff r.dpa)
        (atomicNew r (s.poolRead (s.ext i) (dpaOff r.dpa) (widthBytes r.width)).1)).reach (granulesOf (dpaOff r.dpa)
          (atomicNew r (s.poolRead (s.ext i) (dpaOff r.dpa) (widthBytes r.width)).1).length)).reply r stOk false
        (oldUnit r (s.poolRead (s.ext i) (dpaOff r.dpa) (widthBytes r.width)).1) := by
  unfold State.execPool State.execAtomic State.finishWrite
  dsimp only
  rw [if_neg (by rw [ha]; decide), if_neg (by rw [hk]; decide), if_neg h1, if_neg h2, badGranules_clean, State.countCes_clean,
    if_neg (by simp), if_pos (by rw [hm]; rfl)]

end

/-! ### Pool writes do not look at the home's queues -/

theorem State.granule_home (s : State) (h : Home) (k : BitVec 512) (g : Nat) :
    State.granule { s with home := h } k g = ((s.granule k g).1, { (s.granule k g).2 with home := h }) := by
  unfold State.granule
  dsimp only
  split <;> rfl

theorem State.putGranule_home (s : State) (h : Home) (k : BitVec 512) (g off : Nat) (bs : Bytes) :
    State.putGranule { s with home := h } k g off bs = { s.putGranule k g off bs with home := h } := by
  unfold State.putGranule
  dsimp only
  split
  · rfl
  · rw [State.granule_home]

theorem State.writeGranules_home (s : State) (h : Home) (e : ExtE) (off : Nat) (bs : Bytes) (gs : List Nat) :
    State.writeGranules { s with home := h } e off bs gs = { s.writeGranules e off bs gs with home := h } := by
  induction gs generalizing s with
  | nil => rfl
  | cons g gs ih =>
    have hk : State.spanKey { s with home := h } e (64 * g) = s.spanKey e (64 * g) := rfl
    simp only [State.writeGranules, hk]
    cases s.spanKey e (64 * g) with
    | none => exact ih s
    | some k =>
      dsimp only
      rw [State.putGranule_home]
      exact ih _

theorem State.judged_poolWrite (s : State) (r : Req) (e : ExtE) (off : Nat) (bs : Bytes) :
    ((s.judged r).poolWrite e off bs).mems = (s.poolWrite e off bs).mems := by
  rw [s.judged_home r, State.poolWrite, State.writeGranules_home]
  rfl

/-- The commands of plain requests, each by its operation code. -/
theorem exec_request {s : State} {r : Req} {m : MemCond} {c : Instr} {op : BitVec 6} (hc : (c, op) ∈
    [(Instr.load r m, (1 : BitVec 6)), (.store r m, 2), (.atomicAdd r m, 3), (.atomicMin r m, 4), (.atomicMax r m, 5), (.atomicCas r m, 6)]) :
    exec c s = whenUp s (fun s => s.homeArrive barWin { r with opc := op } m) ∧ 1 ≤ op.toNat ∧ op.toNat ≤ 6 := by
  simp only [List.mem_cons, Prod.mk.injEq, List.not_mem_nil, or_false] at hc
  rcases hc with ⟨rfl, rfl⟩ | ⟨rfl, rfl⟩ | ⟨rfl, rfl⟩ | ⟨rfl, rfl⟩ | ⟨rfl, rfl⟩ | ⟨rfl, rfl⟩ <;> exact ⟨rfl, by decide, by decide⟩

theorem State.judged_rest (s : State) (r : Req) : (s.judged r).pwr = s.pwr ∧ (s.judged r).home.supplied = s.home.supplied ∧
    (s.judged r).home.held = s.home.held ∧ (s.judged r).mems = s.mems ∧ (s.judged r).xlt = s.xlt ∧ (s.judged r).qmg = s.qmg ∧
    (∀ i, (s.judged r).ext i = s.ext i) ∧ (∀ q, (s.judged r).homeCheck q = s.homeCheck q) ∧ (∀ e a, (s.judged r).spanKey e a = s.spanKey e a) := by
  unfold State.judged
  split <;> exact ⟨rfl, rfl, rfl, rfl, rfl, rfl, fun _ => rfl, fun _ => rfl, fun _ _ => rfl⟩

section
variable {s : State} {r : Req} {m : MemCond} {c : Instr} {op : BitVec 6}
  (hc : (c, op) ∈ [(Instr.load r m, (1 : BitVec 6)), (.store r m, 2), (.atomicAdd r m, 3), (.atomicMin r m, 4), (.atomicMax r m, 5), (.atomicCas r m, 6)])
  (hu : s.up = true) (hh : s.pwr.holdUp = false) (hn : dpaNode r.dpa = s.node) (hm : r.mc = false) (hmode : s.f F.FLT_SED_STAT_MODE = 0)
  (hk : s.known { r with opc := op } = false) (hs : s.home.supplied = [])
  (ho : r.ordered = true → r.seq = s.seriesNext r ∧ s.seriesBlocked r = false ∧ s.home.held = [])
include hc hu hh hn hm hmode hk hs ho

omit hs in
/-- A plain request that is new ends with what its admission gives, where that leaves the requests held as they were. -/
theorem exec_request_new {t : State} (ht : State.admitReq barWin (s.judged { r with opc := op }) { r with opc := op } m = t)
    (hl : t.home.held = s.home.held) : exec c s = .next t := by
  obtain ⟨he, h1, h6⟩ := exec_request hc
  have hop : ({ r with opc := op } : Req).opc ≠ 0xB := fun h => by
    have h' : op = 0xB := h
    rw [h'] at h6
    exact absurd h6 (by decide)
  exact exec_up he hu (State.homeArrive_new hh hn hm hmode (State.supply_other hop) hk (fun h => ⟨(ho h).1, (ho h).2.1⟩) ht
    fun h => hl.trans (ho h).2.2)

theorem exec_request_fails {st : Status} (hf : s.homeCheck { r with opc := op } = .fail st) (hne : st ≠ stRevoked) :
    exec c s = .next ((s.judged { r with opc := op }).reply { r with opc := op } st false []) := by
  obtain ⟨jp, js, jh, -, -, -, -, jc, -⟩ := s.judged_rest { r with opc := op }
  refine exec_request_new hc hu hh hn hm hmode hk ho (State.admitReq_fail (by rw [jp]; exact hh) (js.trans hs) ((jc _).trans hf) hne) ?_
  rw [State.reply_home_held, jh]

theorem exec_request_sram (hf : s.homeCheck { r with opc := op } = .sram) :
    exec c s = .next ((s.judged { r with opc := op }).execSram { r with opc := op }) := by
  obtain ⟨jp, js, jh, -, -, -, -, jc, -⟩ := s.judged_rest { r with opc := op }
  refine exec_request_new hc hu hh hn hm hmode hk ho ((State.admitReq_passes (by rw [jp]; exact hh) (js.trans hs) ((jc _).trans hf) (by simp)).trans
    (State.perform_sram ((s.judged_mode _).trans hmode))) ?_
  unfold State.execSram
  dsimp only
  split
  · rw [State.reply_home_held, jh]
  · split <;> rw [State.reply_home_held] <;> exact jh

theorem exec_request_pool {i : Nat} {t : State} (hf : s.homeCheck { r with opc := op } = .pool i) (hco : (s.ext i).coherent = false)
    (ht : (s.judged { r with opc := op }).execPool i { r with opc := op } m = t) (hl : t.home.held = s.home.held) : exec c s = .next t := by
  obtain ⟨jp, js, -, -, -, -, je, jc, -⟩ := s.judged_rest { r with opc := op }
  obtain ⟨-, h1, h6⟩ := exec_request (s := s) hc
  have hcoh : ({ r with opc := op } : Req).coh = false := by
    unfold Req.coh
    exact decide_eq_false (Nat.not_le.2 (Nat.lt_of_le_of_lt h6 (by decide)))
  exact exec_request_new hc hu hh hn hm hmode hk ho ((State.admitReq_passes (by rw [jp]; exact hh) (js.trans hs) ((jc _).trans hf) (by simp)).trans
    ((State.settle_pool ((s.judged_mode _).trans hmode) (by rw [je]; exact hco) hcoh).trans ht)) hl

end

/-- A pool write that is reached and answered leaves SRAM, extents, translation and queues. -/
theorem State.written_rest (s : State) (e : ExtE) (off : Nat) (bs : Bytes) (gs : List Nat) (r : Req) (u : Bytes) :
    (((s.poolWrite e off bs).reach gs).reply r stOk false u).mems.pool = (s.poolWrite e off bs).mems.pool ∧
      (((s.poolWrite e off bs).reach gs).reply r stOk false u).mems.sram = s.mems.sram ∧
      (((s.poolWrite e off bs).reach gs).reply r stOk false u).mems.ext = s.mems.ext ∧
      (((s.poolWrite e off bs).reach gs).reply r stOk false u).xlt = s.xlt ∧ (((s.poolWrite e off bs).reach gs).reply r stOk false u).qmg = s.qmg ∧
      (((s.poolWrite e off bs).reach gs).reply r stOk false u).home.held = s.home.held := by
  simp

/-- Settles O9. -/
theorem plainRequests : Obligations.PlainRequests := by
  refine ⟨fun s r m c op hc hu hh hn hm hmode hk hs ho => ⟨fun st hf hne => exec_request_fails hc hu hh hn hm hmode hk hs ho hf hne,
      fun hf hop => (exec_request_sram hc hu hh hn hm hmode hk hs ho hf).trans ?_, fun hf hop => (exec_request_sram hc hu hh hn hm hmode hk hs ho hf).trans ?_,
      fun hf hop => (exec_request_sram hc hu hh hn hm hmode hk hs ho hf).trans ?_⟩,
    fun s r i hu hh hn hm hmode hs ha hco hmi hkey ho => ⟨fun hk hf => ?_, fun hk hf => ?_, fun c op hc hk hf => ?_⟩⟩
  · rw [State.execSram_load hop, (s.judged_rest _).2.2.2.1]
    rfl
  · rw [State.execSram_store hop, show (s.judged { r with opc := op }).mems.sram = s.mems.sram from congrArg Mems.sram (s.judged_rest _).2.2.2.1]
    rfl
  · have h1 : op ≠ 1 ∧ op ≠ 2 := ⟨by rintro rfl; exact absurd hop (by decide), by rintro rfl; exact absurd hop (by decide)⟩
    rw [State.execSram_atomic h1.1 h1.2, show (s.judged { r with opc := op }).mems.sram = s.mems.sram from congrArg Mems.sram (s.judged_rest _).2.2.2.1]
    rfl
  · obtain ⟨-, -, jh, -, -, -, je, -, jk⟩ := s.judged_rest { r with opc := 1 }
    have hp := State.execPool_load (s := s.judged { r with opc := 1 }) (i := i) (r := { r with opc := 1 }) (by rw [je]; exact ha)
      (by simp only [je, jk]; exact hkey) rfl
    rw [je] at hp
    exact exec_request_pool (m := MemCond.clean) (op := 1) (c := .load r MemCond.clean) (by simp) hu hh hn hm hmode hk hs ho hf hco hp
      ((State.reply_home_held _ _ _ _ _).trans ((State.poolRead_home_held _ _ _ _).trans jh))
  · obtain ⟨-, -, jh, jm, jx, jq, je, -, jk⟩ := s.judged_rest { r with opc := 2 }
    have hp := State.execPool_store (s := s.judged { r with opc := 2 }) (i := i) (r := { r with opc := 2 }) (by rw [je]; exact ha) (by rw [je]; exact hmi)
      (by simp only [je, jk]; exact hkey) rfl
    rw [je] at hp
    obtain ⟨w1, w2, w3, w4, w5, w6⟩ := State.written_rest (s.judged { r with opc := 2 }) (s.ext i) (dpaOff r.dpa) (storeBytes r.data (dpaOff r.dpa) r.bytes)
      (granulesOf (dpaOff r.dpa) (storeBytes r.data (dpaOff r.dpa) r.bytes).length) { r with opc := 2 } []
    refine ⟨_, exec_request_pool (m := MemCond.clean) (op := 2) (c := .store r MemCond.clean) (by simp) hu hh hn hm hmode hk hs ho hf hco hp (w6.trans jh), ?_⟩
    exact ⟨w1.trans (congrArg Mems.pool (s.judged_poolWrite _ _ _ _)), w2.trans (congrArg Mems.sram jm), w3.trans (congrArg Mems.ext jm), w4.trans jx, w5.trans jq⟩
  · obtain ⟨-, -, jh, jm, jx, jq, je, -, jk⟩ := s.judged_rest { r with opc := op }
    have h12 : op ≠ 1 ∧ op ≠ 2 := by
      simp only [List.mem_cons, Prod.mk.injEq, List.not_mem_nil, or_false] at hc
      rcases hc with ⟨-, rfl⟩ | ⟨-, rfl⟩ | ⟨-, rfl⟩ | ⟨-, rfl⟩ <;> exact ⟨by decide, by decide⟩
    have hp := State.execPool_atomic (s := s.judged { r with opc := op }) (i := i) (r := { r with opc := op }) (by rw [je]; exact ha) (by rw [je]; exact hmi)
      (by simp only [je, jk]; exact hkey) h12.1 h12.2
    rw [je] at hp
    obtain ⟨w1, w2, w3, w4, w5, w6⟩ := State.written_rest ((s.judged { r with opc := op }).poolRead (s.ext i) (dpaOff r.dpa) (widthBytes r.width)).2 (s.ext i)
      (dpaOff r.dpa) (atomicNew { r with opc := op } ((s.judged { r with opc := op }).poolRead (s.ext i) (dpaOff r.dpa) (widthBytes r.width)).1)
      (granulesOf (dpaOff r.dpa) (atomicNew { r with opc := op }
        ((s.judged { r with opc := op }).poolRead (s.ext i) (dpaOff r.dpa) (widthBytes r.width)).1).length) { r with opc := op }
      (oldUnit { r with opc := op } ((s.judged { r with opc := op }).poolRead (s.ext i) (dpaOff r.dpa) (widthBytes r.width)).1)
    refine ⟨_, exec_request_pool (m := MemCond.clean) (List.mem_cons_of_mem _ (List.mem_cons_of_mem _ hc)) hu hh hn hm hmode hk hs ho hf hco hp
      (w6.trans ((State.poolRead_home_held _ _ _ _).trans jh)), ?_⟩
    have hpm : ((s.judged { r with opc := op }).poolRead (s.ext i) (dpaOff r.dpa) (widthBytes r.width)).2.mems = s.mems := by simp [jm]
    exact ⟨w1, w2.trans (congrArg Mems.sram hpm), w3.trans (congrArg Mems.ext hpm), w4.trans ((State.poolRead_keeps _ _ _ _).1.trans jx),
      w5.trans ((State.poolRead_keeps _ _ _ _).2.trans jq)⟩

end Sys2Proof.Machine
end

section
/-!
PROOFS. Requests at their home: the directory, snoop responses, write copies.
-/

namespace Sys2Proof.Machine

/-! ### What loads, snoops and directory writes leave as it was -/

@[simp] theorem State.setF_home_held (x0 x1 x2 x3) : (@State.setF x0 x1 x2 x3).home.held = x1.home.held := by
  simp [State.setF]

@[simp] theorem State.dropEvent_home_held (x0 x1) : (State.dropEvent x0 x1).home.held = x0.home.held := by
  simp [State.dropEvent]

@[simp] theorem State.raise_home_held (x0 x1) : (State.raise x0 x1).home.held = x0.home.held := by
  unfold State.raise; dsimp only; (repeat' split) <;> simp

@[simp] theorem State.putRecord_home_held (x0 x1 x2 x3 x4) : (State.putRecord x0 x1 x2 x3 x4).home.held = x0.home.held := by
  unfold State.putRecord; dsimp only; (repeat' split) <;> simp

@[simp] theorem State.noteLost_home_held (x0 x1) : (State.noteLost x0 x1).home.held = x0.home.held := by
  unfold State.noteLost; dsimp only; (repeat' split) <;> simp

@[simp] theorem State.postTo_home_held (x0 x1 x2 x3) : (State.postTo x0 x1 x2 x3).home.held = x0.home.held := by
  unfold State.postTo; dsimp only; (repeat' split) <;> simp

@[simp] theorem State.post_home_held (x0 x1) : (State.post x0 x1).home.held = x0.home.held := by
  simp [State.post]

@[simp] theorem State.countCe_home_held (x0 x1) : (State.countCe x0 x1).home.held = x0.home.held := by
  unfold State.countCe; dsimp only; (repeat' split) <;> simp

@[simp] theorem State.countCes_home_held (x0 x1 x2) : (State.countCes x0 x1 x2).home.held = x0.home.held := by
  induction x2 generalizing x0 x1 <;> unfold State.countCes <;> (repeat' split) <;> simp [*]

@[simp] theorem State.countUes_home_held (x0 x1) : (State.countUes x0 x1).home.held = x0.home.held := by
  simp [State.countUes]

@[simp] theorem foldl_home_held {α : Type} (l : List α) (f : State → α → State) (h : ∀ s a, (f s a).home.held = s.home.held) (s : State) : (l.foldl f s).home.held = s.home.held :=
  foldl_keep (fun t : State => t.home.held) f l s h

@[simp] theorem State.nextSeq_home_held (x0 x1 x2 x3) : (State.nextSeq x0 x1 x2 x3).2.home.held = x0.home.held := by
  simp [State.nextSeq]

@[simp] theorem State.issueOwn_home_held (x0 x1 x2) : (State.issueOwn x0 x1 x2).home.held = x0.home.held := by
  simp [State.issueOwn]

@[simp] theorem State.partnerRead_home_held (x0 x1 x2 x3) : (State.partnerRead x0 x1 x2 x3).home.held = x0.home.held := by
  simp [State.partnerRead]

@[simp] theorem State.postLost_home_held (x0 x1) : (State.postLost x0 x1).home.held = x0.home.held := by
  simp [State.postLost]

@[simp] theorem State.logLoss_home_held (x0 x1 x2 x3 x4 x5) : (State.logLoss x0 x1 x2 x3 x4 x5).home.held = x0.home.held := by
  unfold State.logLoss; dsimp only; (repeat' split) <;> simp

@[simp] theorem State.logAll_home_held (x0 x1 x2 x3 x4) : (State.logAll x0 x1 x2 x3 x4).home.held = x0.home.held := by
  induction x4 generalizing x0 x1 x2 x3 <;> simp [State.logAll, *]

@[simp] theorem State.execLoad_home_held (x0 x1 x2 x3) : (State.execLoad x0 x1 x2 x3).home.held = x0.home.held := by
  unfold State.execLoad; dsimp only; (repeat' split) <;> simp

@[simp] theorem State.setDir_home_held (x0 x1 x2 x3) : (State.setDir x0 x1 x2 x3).home.held = x0.home.held := by
  simp [State.setDir]

@[simp] theorem State.snoopLine_home_held (x0 x1 x2) : (State.snoopLine x0 x1 x2).2.home.held = x0.home.held := by
  induction x2 generalizing x0 x1 <;> simp [State.snoopLine, *]

@[simp] theorem State.snoopLines_home_held (x0 x1 x2) : (State.snoopLines x0 x1 x2).2.home.held = x0.home.held := by
  induction x2 generalizing x0 x1 <;> simp [State.snoopLines, *]

@[simp] theorem State.mapDir_home_held (x0 x1 x2 x3) : (State.mapDir x0 x1 x2 x3).home.held = x0.home.held := by
  induction x3 generalizing x0 x1 x2 <;> simp [State.mapDir, *]

@[simp] theorem State.setDir_home_waits (x0 x1 x2 x3) : (State.setDir x0 x1 x2 x3).home.waits = x0.home.waits := by
  simp [State.setDir]

@[simp] theorem State.snoopLine_home_waits (x0 x1 x2) : (State.snoopLine x0 x1 x2).2.home.waits = x0.home.waits := by
  induction x2 generalizing x0 x1 <;> simp [State.snoopLine, *]

@[simp] theorem State.snoopLines_home_waits (x0 x1 x2) : (State.snoopLines x0 x1 x2).2.home.waits = x0.home.waits := by
  induction x2 generalizing x0 x1 <;> simp [State.snoopLines, *]

@[simp] theorem State.mapDir_home_waits (x0 x1 x2 x3) : (State.mapDir x0 x1 x2 x3).home.waits = x0.home.waits := by
  induction x3 generalizing x0 x1 x2 <;> simp [State.mapDir, *]

@[simp] theorem State.snoopLine_home_txns (x0 x1 x2) : (State.snoopLine x0 x1 x2).2.home.txns = x0.home.txns := by
  induction x2 generalizing x0 x1 <;> simp [State.snoopLine, *]

@[simp] theorem State.snoopLines_home_txns (x0 x1 x2) : (State.snoopLines x0 x1 x2).2.home.txns = x0.home.txns := by
  induction x2 generalizing x0 x1 <;> simp [State.snoopLines, *]

@[simp] theorem State.setDir_home_txns (x0 x1 x2 x3) : (State.setDir x0 x1 x2 x3).home.txns = x0.home.txns := by
  simp [State.setDir]

@[simp] theorem State.mapDir_home_txns (x0 x1 x2 x3) : (State.mapDir x0 x1 x2 x3).home.txns = x0.home.txns := by
  induction x3 generalizing x0 x1 x2 <;> simp [State.mapDir, *]

@[simp] theorem State.drawBytes_home_txns (x0 x1) : (State.drawBytes x0 x1).2.home.txns = x0.home.txns := by
  simp [State.drawBytes]

@[simp] theorem State.granule_home_txns (x0 x1 x2) : (State.granule x0 x1 x2).2.home.txns = x0.home.txns := by
  unfold State.granule; (repeat' split) <;> simp

@[simp] theorem State.putGranule_home_txns (x0 x1 x2 x3 x4) : (State.putGranule x0 x1 x2 x3 x4).home.txns = x0.home.txns := by
  unfold State.putGranule; dsimp only; (repeat' split) <;> simp

@[simp] theorem State.writeGranules_home_txns (x0 x1 x2 x3 x4) : (State.writeGranules x0 x1 x2 x3 x4).home.txns = x0.home.txns := by
  induction x4 generalizing x0 x1 x2 x3 <;> unfold State.writeGranules <;> (repeat' split) <;> simp [*]

@[simp] theorem State.poolWrite_home_txns (x0 x1 x2 x3) : (State.poolWrite x0 x1 x2 x3).home.txns = x0.home.txns := by
  simp [State.poolWrite]

@[simp] theorem State.setF_home_txns (x0 x1 x2 x3) : (@State.setF x0 x1 x2 x3).home.txns = x1.home.txns := by
  simp [State.setF]

@[simp] theorem State.dropEvent_home_txns (x0 x1) : (State.dropEvent x0 x1).home.txns = x0.home.txns := by
  simp [State.dropEvent]

@[simp] theorem State.raise_home_txns (x0 x1) : (State.raise x0 x1).home.txns = x0.home.txns := by
  unfold State.raise; dsimp only; (repeat' split) <;> simp

@[simp] theorem State.putRecord_home_txns (x0 x1 x2 x3 x4) : (State.putRecord x0 x1 x2 x3 x4).home.txns = x0.home.txns := by
  unfold State.putRecord; dsimp only; (repeat' split) <;> simp

@[simp] theorem State.noteLost_home_txns (x0 x1) : (State.noteLost x0 x1).home.txns = x0.home.txns := by
  unfold State.noteLost; dsimp only; (repeat' split) <;> simp

@[simp] theorem State.postTo_home_txns (x0 x1 x2 x3) : (State.postTo x0 x1 x2 x3).home.txns = x0.home.txns := by
  unfold State.postTo; dsimp only; (repeat' split) <;> simp

@[simp] theorem State.post_home_txns (x0 x1) : (State.post x0 x1).home.txns = x0.home.txns := by
  simp [State.post]

@[simp] theorem State.postLost_home_txns (x0 x1) : (State.postLost x0 x1).home.txns = x0.home.txns := by
  simp [State.postLost]

@[simp] theorem State.logLoss_home_txns (x0 x1 x2 x3 x4 x5) : (State.logLoss x0 x1 x2 x3 x4 x5).home.txns = x0.home.txns := by
  unfold State.logLoss; dsimp only; (repeat' split) <;> simp

@[simp] theorem State.setDir_mems_pool (x0 x1 x2 x3) : (State.setDir x0 x1 x2 x3).mems.pool = x0.mems.pool := by
  simp [State.setDir]

@[simp] theorem State.mapDir_mems_pool (x0 x1 x2 x3) : (State.mapDir x0 x1 x2 x3).mems.pool = x0.mems.pool := by
  induction x3 generalizing x0 x1 x2 <;> simp [State.mapDir, *]

@[simp] theorem State.drawBytes_home_copyDone (x0 x1) : (State.drawBytes x0 x1).2.home.copyDone = x0.home.copyDone := by
  simp [State.drawBytes]

@[simp] theorem State.granule_home_copyDone (x0 x1 x2) : (State.granule x0 x1 x2).2.home.copyDone = x0.home.copyDone := by
  unfold State.granule; (repeat' split) <;> simp

@[simp] theorem State.putGranule_home_copyDone (x0 x1 x2 x3 x4) : (State.putGranule x0 x1 x2 x3 x4).home.copyDone = x0.home.copyDone := by
  unfold State.putGranule; dsimp only; (repeat' split) <;> simp

@[simp] theorem State.writeGranules_home_copyDone (x0 x1 x2 x3 x4) : (State.writeGranules x0 x1 x2 x3 x4).home.copyDone = x0.home.copyDone := by
  induction x4 generalizing x0 x1 x2 x3 <;> unfold State.writeGranules <;> (repeat' split) <;> simp [*]

@[simp] theorem State.poolWrite_home_copyDone (x0 x1 x2 x3) : (State.poolWrite x0 x1 x2 x3).home.copyDone = x0.home.copyDone := by
  simp [State.poolWrite]


/-! ### Coherent requests (R250, R255) -/

theorem exec_coherent {s : State} {r : Req} {m : MemCond} {c : Instr} {op : BitVec 6} (hc : (c, op) ∈
    [(Instr.rdShared r m, (8 : BitVec 6)), (.rdOwn r m, 9), (.upgrade r m, 10), (.writeback r, 11), (.evict r, 12)]) :
    ∃ m', exec c s = whenUp s (fun s => s.homeArrive barWin { r with opc := op } m') ∧ 8 ≤ op.toNat ∧ (op ≠ 11 → op ≠ 12 → m' = m) := by
  simp only [List.mem_cons, Prod.mk.injEq, List.not_mem_nil, or_false] at hc
  rcases hc with ⟨rfl, rfl⟩ | ⟨rfl, rfl⟩ | ⟨rfl, rfl⟩ | ⟨rfl, rfl⟩ | ⟨rfl, rfl⟩
  · exact ⟨m, rfl, by decide, fun _ _ => rfl⟩
  · exact ⟨m, rfl, by decide, fun _ _ => rfl⟩
  · exact ⟨m, rfl, by decide, fun _ _ => rfl⟩
  · exact ⟨_, rfl, by decide, fun h => absurd rfl h⟩
  · exact ⟨_, rfl, by decide, fun _ h => absurd rfl h⟩

/-- With no snoop awaited no WRITEBACK supplies a line. -/
theorem State.supply_none {s : State} (r : Req) (h : ∀ t ∈ s.home.txns, t.sids = []) : s.supply r = s := by
  have hx : s.home.txns.any (fun t => t.sids.any (fun x => x.2.1 == r.src && x.2.2 == dpaOff r.dpa / 64)) = false := by
    rw [List.any_eq_false]
    intro t ht
    rw [h t ht]
    simp
  unfold State.supply
  dsimp only
  rw [if_neg (fun hc => Bool.noConfusion (hx.symm.trans hc.2.2.1))]

theorem State.judged_lines (s : State) (r : Req) : (∀ e l, (s.judged r).dirAt e l = s.dirAt e l) ∧ (∀ l, (s.judged r).lineBusy l = s.lineBusy l) ∧
    (s.judged r).home.waits = s.home.waits ∧ (s.judged r).home.txns = s.home.txns := by
  unfold State.judged
  split <;> exact ⟨fun _ _ => rfl, fun _ => rfl, rfl, rfl⟩

section
variable {s : State} {i : Nat} {r : Req} {m : MemCond} (hco : (s.ext i).coherent = true)
include hco

theorem State.settle_busy (hb : r.lines.any s.lineBusy = true) :
    s.settle barWin (.pool i) r m = { s with home := { s.home with waits := s.home.waits ++ [(r, m)] } } := by
  unfold State.settle
  dsimp only
  rw [if_neg (by rw [hco]; decide), if_pos hb]

theorem State.settle_free (hmode : s.f F.FLT_SED_STAT_MODE = 0) (hr : r.coh = true) (hb : r.lines.any s.lineBusy = false)
    (hn : r.lines.all (fun l => ((s.dirAt (s.ext i) l).snoops r).isEmpty) = true) : s.settle barWin (.pool i) r m = s.execCoh i r m := by
  unfold State.settle State.perform
  dsimp only
  rw [if_neg (by rw [hco]; decide), if_neg (by rw [hb]; decide), if_pos hn, State.capture_off r hmode, if_pos hr]

/-- A request that needs snoops starts a transaction. -/
theorem State.settle_snoops (hb : r.lines.any s.lineBusy = false) (hn : r.lines.all (fun l => ((s.dirAt (s.ext i) l).snoops r).isEmpty) = false) :
    (s.settle barWin (.pool i) r m).home.txns.length = s.home.txns.length + 1 ∧ (s.settle barWin (.pool i) r m).home.waits = s.home.waits ∧
      (s.settle barWin (.pool i) r m).mems.pool = s.mems.pool ∧ (s.settle barWin (.pool i) r m).home.held = s.home.held := by
  unfold State.settle
  dsimp only
  rw [if_neg (by rw [hco]; decide), if_neg (by rw [hb]; decide), if_neg (by rw [hn]; decide)]
  simp

end

section
variable {s : State} {i : Nat} {r : Req} {m : MemCond}

theorem State.execCoh_ok (h : r.opc = 0xC ∨ (r.opc = 0xA ∧ (s.dirAt (s.ext i) (dpaOff r.dpa / 64)).recorded r.src = true)) : s.execCoh i r m =
    (s.setDir (s.ext i) (dpaOff r.dpa / 64) ((s.dirAt (s.ext i) (dpaOff r.dpa / 64)).after r)).reply r stOk false [] := by
  have hb : ¬ r.opc = 0xB := by
    rcases h with h | ⟨h, -⟩ <;> rw [h] <;> decide
  unfold State.execCoh
  dsimp only
  rw [if_neg hb, if_pos h]

theorem State.execCoh_writeback (h : r.opc = 0xB) (ho : (s.dirAt (s.ext i) (dpaOff r.dpa / 64)).st = 2 ∧
    (s.dirAt (s.ext i) (dpaOff r.dpa / 64)).owner = r.src) (hk : (s.spanKey (s.ext i) (64 * (dpaOff r.dpa / 64))).isSome = true) : s.execCoh i r m =
    ((s.setDir (s.ext i) (dpaOff r.dpa / 64) ((s.dirAt (s.ext i) (dpaOff r.dpa / 64)).after r)).poolWrite (s.ext i) (64 * (dpaOff r.dpa / 64))
      (slice r.data 0 64)).reply r stOk false [] := by
  unfold State.execCoh
  dsimp only
  rw [if_pos h, if_pos ho]
  refine if_neg fun hn => ?_
  have hn' : (s.spanKey (s.ext i) (64 * (dpaOff r.dpa / 64))).isNone = true := hn
  rw [Option.isNone_iff_eq_none] at hn'
  rw [hn'] at hk
  exact Bool.noConfusion hk

theorem State.execCoh_refused (h : r.opc = 0xB) (ho : ¬ ((s.dirAt (s.ext i) (dpaOff r.dpa / 64)).st = 2 ∧
    (s.dirAt (s.ext i) (dpaOff r.dpa / 64)).owner = r.src)) : s.execCoh i r m =
    (s.setDir (s.ext i) (dpaOff r.dpa / 64) ((s.dirAt (s.ext i) (dpaOff r.dpa / 64)).after r)).reply r stRights false [] := by
  unfold State.execCoh
  dsimp only
  rw [if_pos h, if_neg ho]

theorem State.execCoh_load (h : r.opc ≠ 0xB) (hn : ¬ (r.opc = 0xC ∨ (r.opc = 0xA ∧ (s.dirAt (s.ext i) (dpaOff r.dpa / 64)).recorded r.src = true)))
    (hk : (s.spanKey (s.ext i) (64 * (dpaOff r.dpa / 64))).isSome = true) : s.execCoh i r m =
    (s.setDir (s.ext i) (dpaOff r.dpa / 64) ((s.dirAt (s.ext i) (dpaOff r.dpa / 64)).after r)).execLoad i r m := by
  unfold State.execCoh
  dsimp only
  rw [if_neg h, if_neg hn]
  refine if_neg fun hn => ?_
  have hn' : (s.spanKey (s.ext i) (64 * (dpaOff r.dpa / 64))).isNone = true := hn
  rw [Option.isNone_iff_eq_none] at hn'
  rw [hn'] at hk
  exact Bool.noConfusion hk

end

section
variable {s : State} {r : Req} {m : MemCond} {i : Nat} {c : Instr} {op : BitVec 6}
  (hc : (c, op) ∈ [(Instr.rdShared r m, (8 : BitVec 6)), (.rdOwn r m, 9), (.upgrade r m, 10), (.writeback r, 11), (.evict r, 12)])
  (hu : s.up = true) (hh : s.pwr.holdUp = false) (hn : dpaNode r.dpa = s.node) (hm : r.mc = false) (hmode : s.f F.FLT_SED_STAT_MODE = 0)
  (hk : s.known { r with opc := op } = false) (hs : s.home.supplied = []) (hf : s.homeCheck { r with opc := op } = .pool i)
  (ho : r.ordered = true → r.seq = s.seriesNext r ∧ s.seriesBlocked r = false) (hheld : s.home.held = []) (ht : ∀ t ∈ s.home.txns, t.sids = [])
include hc hu hh hn hm hmode hk hs hf ho hheld ht

omit hheld in
/-- A coherent request that is new and passes the checks of its home is settled there. -/
theorem exec_coherent_new : ∃ m', (op ≠ 11 → op ≠ 12 → m' = m) ∧
    ((State.settle barWin (s.judged { r with opc := op }) (.pool i) { r with opc := op } m').home.held = [] →
      exec c s = .next (State.settle barWin (s.judged { r with opc := op }) (.pool i) { r with opc := op } m')) := by
  obtain ⟨m', he, -, hm'⟩ := exec_coherent (s := s) hc
  obtain ⟨jp, js, -, -, -, -, -, jc, -⟩ := s.judged_rest { r with opc := op }
  refine ⟨m', hm', fun hl => exec_up he hu (State.homeArrive_new hh hn hm hmode (State.supply_none _ ht) hk ho ?_ fun _ => hl)⟩
  exact State.admitReq_passes (by rw [jp]; exact hh) (js.trans hs) ((jc _).trans hf) (by simp)

variable (hco : (s.ext i).coherent = true)
include hco

theorem exec_coherent_busy (hb : ({ r with opc := op } : Req).lines.any s.lineBusy = true) : ∃ m', exec c s =
    .next { s.judged { r with opc := op } with home := { (s.judged { r with opc := op }).home with waits := s.home.waits ++ [({ r with opc := op }, m')] } } := by
  obtain ⟨m', -, he⟩ := exec_coherent_new hc hu hh hn hm hmode hk hs hf ho ht
  obtain ⟨-, -, jh, -, -, -, je, -, -⟩ := s.judged_rest { r with opc := op }
  obtain ⟨-, jb, jw, -⟩ := s.judged_lines { r with opc := op }
  have hset := State.settle_busy (s := s.judged { r with opc := op }) (i := i) (r := { r with opc := op }) (m := m') (by rw [je]; exact hco)
    (by simp only [funext jb]; exact hb)
  rw [hset, jw] at he
  exact ⟨m', he (jh.trans hheld)⟩

variable (hb : ({ r with opc := op } : Req).lines.any s.lineBusy = false)
include hb

theorem goes_coherent_snoops (hsn : ({ r with opc := op } : Req).lines.all (fun l => ((s.dirAt (s.ext i) l).snoops { r with opc := op }).isEmpty) = false) :
    Goes c s (fun t => t.home.txns.length = s.home.txns.length + 1 ∧ t.home.waits = s.home.waits ∧ t.mems.pool = s.mems.pool) := by
  obtain ⟨m', -, he⟩ := exec_coherent_new hc hu hh hn hm hmode hk hs hf ho ht
  obtain ⟨-, -, jh, jm, -, -, je, -, -⟩ := s.judged_rest { r with opc := op }
  obtain ⟨jd, jb, jw, jt⟩ := s.judged_lines { r with opc := op }
  obtain ⟨h1, h2, h3, h4⟩ := State.settle_snoops (s := s.judged { r with opc := op }) (i := i) (r := { r with opc := op }) (m := m') (by rw [je]; exact hco)
    (by simp only [funext jb]; exact hb) (by simp only [je, jd]; exact hsn)
  exact ⟨_, he (h4.trans (jh.trans hheld)), by rw [h1, jt], h2.trans jw, h3.trans (congrArg Mems.pool jm)⟩

theorem exec_coherent_free (hsn : ({ r with opc := op } : Req).lines.all (fun l => ((s.dirAt (s.ext i) l).snoops { r with opc := op }).isEmpty) = true) :
    ∃ m', (op ≠ 11 → op ≠ 12 → m' = m) ∧ ∀ t, (s.judged { r with opc := op }).execCoh i { r with opc := op } m' = t → t.home.held = s.home.held →
      exec c s = .next t := by
  obtain ⟨m', hm', he⟩ := exec_coherent_new hc hu hh hn hm hmode hk hs hf ho ht
  obtain ⟨-, -, jh, -, -, -, je, -, -⟩ := s.judged_rest { r with opc := op }
  obtain ⟨jd, jb, -, -⟩ := s.judged_lines { r with opc := op }
  obtain ⟨-, -, h8, -⟩ := exec_coherent (s := s) hc
  have hset := State.settle_free (s := s.judged { r with opc := op }) (i := i) (r := { r with opc := op }) (m := m') (by rw [je]; exact hco)
    ((s.judged_mode _).trans hmode) (decide_eq_true h8) (by simp only [funext jb]; exact hb) (by simp only [je, jd]; exact hsn)
  refine ⟨m', hm', fun t htt hl => ?_⟩
  rw [hset, htt] at he
  exact he (hl.trans hheld)

end

/-! ### Snoop responses (R245, R253, R255) -/

/-- One of two snoops of the only transaction is answered: its effect on the memories, and the other stays awaited. -/
theorem State.snoopResponse_one {s : State} {p : Snp} {m : MemCond} {t : Txn} {x y : BitVec 16 × AgentId × Nat} (ht : s.home.txns = [t])
    (hxy : t.sids = [x, y]) (hx : x.1 = p.sid) (ha : x.2.1 = p.agent) (hy : y.1 ≠ p.sid) (hr : t.req = none) :
    (s.snoopResponse barWin p m).home.txns = [{ t with sids := [y] }] ∧ (s.snoopResponse barWin p m).mems =
      (if p.opc = 0x29 then s.poolWrite (s.ext t.ext.toNat) (64 * x.2.2) (slice p.data 0 64)
        else if p.opc = 0x2A then s.logLoss 3 x.2.2 (s.ext t.ext.toNat).job p.agent t.ext.toNat else s).mems := by
  have hf : s.home.txns.find? (fun t => t.sids.any (fun x => x.1 == p.sid && x.2.1 == p.agent)) = some t := by
    rw [ht]
    exact List.find?_cons_of_pos (by simp [hxy, hx, ha])
  have hmt : t.meets m = t := by
    unfold Txn.meets
    rw [hr]
    exact congrArg (fun q => { t with req := q }) hr.symm
  have hmap : s.home.txns.map (fun u => if u = t then t.meets m else u) = s.home.txns := by rw [ht, hmt]; simp
  have hfind : t.sids.find? (fun x => x.1 == p.sid) = some x := by
    rw [hxy]
    exact List.find?_cons_of_pos (by simp [hx])
  have hrest : t.sids.filter (fun x => x.1 ≠ p.sid) = [y] := by rw [hxy]; simp [hx, hy]
  unfold State.snoopResponse
  rw [hf]
  dsimp only
  rw [hmap, hmt, hfind]
  dsimp only [Option.map_some, Option.getD_some]
  unfold State.sidDone
  dsimp only
  rw [hrest]
  rw [if_neg (by simp)]
  refine ⟨?_, rfl⟩
  have htx : (if p.opc = 0x29 then s.poolWrite (s.ext t.ext.toNat) (64 * x.2.2) (slice p.data 0 64)
      else if p.opc = 0x2A then s.logLoss 3 x.2.2 (s.ext t.ext.toNat).job p.agent t.ext.toNat else s).home.txns = [t] := by
    split
    · simp [ht]
    · split
      · simp [ht]
      · exact ht
  refine (congrArg (List.map (fun u => if u = t then { t with sids := [y] } else u)) htx : _).trans ?_
  simp

theorem exec_response {p : Snp} {m : MemCond} (s : State) :
    exec (.rspAck p m) s = whenUp s (fun s => s.snoopResponse barWin { p with opc := 0x28 } m) ∧
    exec (.rspData p m) s = whenUp s (fun s => s.snoopResponse barWin { p with opc := 0x29 } m) ∧
    exec (.rspDirty p m) s = whenUp s (fun s => s.snoopResponse barWin { p with opc := 0x2A } m) := ⟨rfl, rfl, rfl⟩

theorem State.snoopResponse_none {s : State} {p : Snp} {m : MemCond} (h : s.home.txns = []) : s.snoopResponse barWin p m = s := by
  unfold State.snoopResponse
  rw [h]
  rfl

/-! ### Write copies (R263, R264) -/

section
variable {s : State} {r : Req}

theorem State.execCopy_none (h : s.copyExt r = none) : s.execCopy r = s.sendCpl (mackFor s r stRights) := by
  unfold State.execCopy
  rw [h]

theorem State.execCopy_some {i : Nat} (h : s.copyExt r = some i) :
    (s.execCopy r).mems = (s.poolWrite (s.ext i) (dpaOff r.dpa) (storeBytes r.data (dpaOff r.dpa) r.bytes)).mems ∧
      (s.execCopy r).home.copyDone = sset noCopy s.home.copyDone r.key (some r.seq) := by
  unfold State.execCopy
  rw [h]
  dsimp only
  rw [State.sendCpl_home]
  exact ⟨by simp, by simp⟩

theorem State.writeCopy_loose (h : r.cls ≠ 0) : s.writeCopy r = s.execCopy r := if_pos h

variable {n : BitVec 16} (hc : r.cls = 0) (hd : sget noCopy s.home.copyDone r.key = some n)
include hc hd

theorem State.writeCopy_again (hn : (n - r.seq).toNat < 32768) : s.writeCopy r = s.sendCpl (mackFor s r stOk) := by
  unfold State.writeCopy
  dsimp only
  rw [if_neg (fun h => h hc), hd]
  exact if_pos hn

theorem State.writeCopy_next (hn : 32768 ≤ (n - r.seq).toNat) (hp : r.prevSeq = n) (hh : s.home.copyHeld = []) : s.writeCopy r = s.execCopy r := by
  unfold State.writeCopy
  dsimp only
  rw [if_neg (fun h => h hc), hd, hh]
  exact (if_neg (Nat.not_lt.2 hn)).trans (if_pos (Or.inl hp))

theorem State.writeCopy_held (hn : 32768 ≤ (n - r.seq).toNat) (hp : r.prevSeq ≠ n) (hq : r.prevSeq ≠ r.seq) :
    s.writeCopy r = { s with home := { s.home with copyHeld := s.home.copyHeld ++ [r] } } := by
  unfold State.writeCopy
  dsimp only
  rw [if_neg (fun h => h hc), hd]
  exact (if_neg (Nat.not_lt.2 hn)).trans (if_neg (not_or.2 ⟨hp, hq⟩))

end

/-- Settles O10. A series moves on before the request's effect, which sees the directory and the keys as they were. -/
theorem coherenceAtHome : Obligations.CoherenceAtHome := by
  refine ⟨fun s r m i c op hc hu hh hn hm hmode hk hs hf hco ho hheld ht => ⟨fun hb => ?_, fun hb hsn => ?_, fun hb hsn => ?_⟩,
    ⟨fun s p m t x y hu ht hxy hx ha hy hr => ⟨goes_up (exec_response s).1 hu ?_, goes_up (exec_response s).2.1 hu ?_, goes_up (exec_response s).2.2 hu ?_⟩,
      fun s p m c hu hc ht => ?_⟩,
    fun s r hu h1 h2 => exec_up (f := (State.writeCopy · r)) rfl hu ((State.writeCopy_loose h1).trans (State.execCopy_none h2)),
    fun s r i hu h1 h2 => goes_up (f := (State.writeCopy · r)) rfl hu (by rw [State.writeCopy_loose h1]; exact State.execCopy_some h2),
    fun s r n hu hc hd hn => exec_up (f := (State.writeCopy · r)) rfl hu (State.writeCopy_again hc hd hn),
    fun s r n hu hc hd hn => ⟨fun hp hh => exec_up (f := (State.writeCopy · r)) rfl hu (State.writeCopy_next hc hd hn hp hh),
      fun hp hq => exec_up (f := (State.writeCopy · r)) rfl hu (State.writeCopy_held hc hd hn hp hq)⟩⟩
  · exact exec_coherent_busy hc hu hh hn hm hmode hk hs hf ho hheld ht hco hb
  · exact goes_coherent_snoops hc hu hh hn hm hmode hk hs hf ho hheld ht hco hb hsn
  · obtain ⟨m', hm', he⟩ := exec_coherent_free hc hu hh hn hm hmode hk hs hf ho hheld ht hco hb hsn
    obtain ⟨-, -, jh, -, -, -, je, -, jk⟩ := s.judged_rest { r with opc := op }
    obtain ⟨jd, -, -, -⟩ := s.judged_lines { r with opc := op }
    refine ⟨fun h => ?_, fun h h1 h2 h3 => ?_, fun h h1 => ?_, fun h h3 => ?_⟩
    · refine he _ ((State.execCoh_ok (by rw [je, jd]; exact h)).trans (by rw [je, jd]; rfl)) ?_
      exact (State.reply_home_held _ _ _ _ _).trans ((State.setDir_home_held _ _ _ _).trans jh)
    · refine he _ ((State.execCoh_writeback h (by rw [je, jd]; exact ⟨h1, h2⟩) (by rw [jk, je]; exact h3)).trans (by rw [je, jd]; rfl)) ?_
      exact (State.reply_home_held _ _ _ _ _).trans ((State.poolWrite_home_held _ _ _ _).trans ((State.setDir_home_held _ _ _ _).trans jh))
    · refine he _ ((State.execCoh_refused h (by rw [je, jd]; exact h1)).trans (by rw [je, jd]; rfl)) ?_
      exact (State.reply_home_held _ _ _ _ _).trans ((State.setDir_home_held _ _ _ _).trans jh)
    · have h11 : op ≠ 11 := by rcases h with h | h | ⟨h, -⟩ <;> rw [h] <;> decide
      have h12 : op ≠ 12 := by rcases h with h | h | ⟨h, -⟩ <;> rw [h] <;> decide
      have hrec : ¬ (op = 0xC ∨ (op = 0xA ∧ (s.dirAt (s.ext i) (dpaOff r.dpa / 64)).recorded r.src = true)) := by
        rintro (rfl | ⟨rfl, hr⟩)
        · exact h12 rfl
        · rcases h with h | h | ⟨-, h⟩
          · exact absurd h (by decide)
          · exact absurd h (by decide)
          · exact Bool.noConfusion (h.symm.trans hr)
      rw [hm' h11 h12] at he
      refine he _ ((State.execCoh_load h11 (by rw [je, jd]; exact hrec) (by rw [jk, je]; exact h3)).trans (by rw [je, jd]; rfl)) ?_
      exact (State.execLoad_home_held _ _ _ _).trans ((State.setDir_home_held _ _ _ _).trans jh)
  · exact State.snoopResponse_one (p := { p with opc := 0x28 }) ht hxy hx ha hy hr
  · exact State.snoopResponse_one (p := { p with opc := 0x29 }) ht hxy hx ha hy hr
  · exact State.snoopResponse_one (p := { p with opc := 0x2A }) ht hxy hx ha hy hr
  · obtain ⟨e1, e2, e3⟩ := exec_response (p := p) (m := m) s
    simp only [List.mem_cons, List.not_mem_nil, or_false] at hc
    rcases hc with rfl | rfl | rfl
    · exact exec_up e1 hu (State.snoopResponse_none ht)
    · exact exec_up e2 hu (State.snoopResponse_none ht)
    · exact exec_up e3 hu (State.snoopResponse_none ht)

end Sys2Proof.Machine
end

section
/-!
PROOFS. Extents: their commands, leases, revokes and reclaims.
-/

namespace Sys2Proof.Machine

/-! ### What a loss logged leaves as it was -/

@[simp] theorem State.setF_home_waits (x0 x1 x2 x3) : (@State.setF x0 x1 x2 x3).home.waits = x1.home.waits := by
  simp [State.setF]

@[simp] theorem State.dropEvent_home_waits (x0 x1) : (State.dropEvent x0 x1).home.waits = x0.home.waits := by
  simp [State.dropEvent]

@[simp] theorem State.raise_home_waits (x0 x1) : (State.raise x0 x1).home.waits = x0.home.waits := by
  unfold State.raise; dsimp only; (repeat' split) <;> simp

@[simp] theorem State.putRecord_home_waits (x0 x1 x2 x3 x4) : (State.putRecord x0 x1 x2 x3 x4).home.waits = x0.home.waits := by
  unfold State.putRecord; dsimp only; (repeat' split) <;> simp

@[simp] theorem State.noteLost_home_waits (x0 x1) : (State.noteLost x0 x1).home.waits = x0.home.waits := by
  unfold State.noteLost; dsimp only; (repeat' split) <;> simp

@[simp] theorem State.postTo_home_waits (x0 x1 x2 x3) : (State.postTo x0 x1 x2 x3).home.waits = x0.home.waits := by
  unfold State.postTo; dsimp only; (repeat' split) <;> simp

@[simp] theorem State.post_home_waits (x0 x1) : (State.post x0 x1).home.waits = x0.home.waits := by
  simp [State.post]

@[simp] theorem State.postLost_home_waits (x0 x1) : (State.postLost x0 x1).home.waits = x0.home.waits := by
  simp [State.postLost]

@[simp] theorem State.logLoss_home_waits (x0 x1 x2 x3 x4 x5) : (State.logLoss x0 x1 x2 x3 x4 x5).home.waits = x0.home.waits := by
  unfold State.logLoss; dsimp only; (repeat' split) <;> simp

@[simp] theorem State.vector_mems_ext (x0 x1) : (State.vector x0 x1).mems.ext = x0.mems.ext := by
  unfold State.vector; dsimp only; (repeat' split) <;> simp

@[simp] theorem State.vectorDue_mems_ext (x0 x1) : (State.vectorDue x0 x1).mems.ext = x0.mems.ext := by
  simp [State.vectorDue]

@[simp] theorem State.raise_mems_ext (x0 x1) : (State.raise x0 x1).mems.ext = x0.mems.ext := by
  unfold State.raise; dsimp only; (repeat' split) <;> simp

@[simp] theorem State.putRecord_mems_ext (x0 x1 x2 x3 x4) : (State.putRecord x0 x1 x2 x3 x4).mems.ext = x0.mems.ext := by
  unfold State.putRecord; dsimp only; (repeat' split) <;> simp

@[simp] theorem State.noteLost_mems_ext (x0 x1) : (State.noteLost x0 x1).mems.ext = x0.mems.ext := by
  unfold State.noteLost; dsimp only; (repeat' split) <;> simp

@[simp] theorem State.postTo_mems_ext (x0 x1 x2 x3) : (State.postTo x0 x1 x2 x3).mems.ext = x0.mems.ext := by
  unfold State.postTo; dsimp only; (repeat' split) <;> simp

@[simp] theorem State.logLoss_mems_ext (x0 x1 x2 x3 x4 x5) : (State.logLoss x0 x1 x2 x3 x4 x5).mems.ext = x0.mems.ext := by
  unfold State.logLoss; dsimp only; (repeat' split) <;> simp



/-! ### The fields of an extent -/

@[simp] theorem State.ext_setF {w : Nat} (s : State) (f : Fld w) (v : BitVec w) (i : Nat) : (s.setF f v).ext i = s.ext i :=
  State.ext_of_mems (by simp) i

theorem fieldAt_putBits_same {n : Nat} (x lo : Nat) (v : BitVec n) : fieldAt n (putBits x lo n v.toNat) lo = v := by
  have hv := v.isLt
  rw [fieldAt_eq_bitsAt, bitsAt_putBits_same, Nat.mod_eq_of_lt hv]
  exact BitVec.eq_of_toNat_eq (by simp)

theorem fieldAt_putBits_other (n x lo m v k : Nat) (h : lo + m ≤ k ∨ k + n ≤ lo) : fieldAt n (putBits x lo m v) k = fieldAt n x k := by
  rw [fieldAt_eq_bitsAt, bitsAt_putBits_other _ _ _ _ _ _ h, ← fieldAt_eq_bitsAt]

section
variable {s : State}

theorem State.ext_deadline_of {i : Nat} {v : R64} (h : s.extW i 2 = v.toNat) : (s.ext i).deadline = v := by
  change BitVec.ofNat 64 (s.extW i 2) = v
  rw [h, BitVec.ofNat_toNat, BitVec.setWidth_eq]

variable (hw : Mem.wf s.mems.ext = true) (i : Nat)
include hw

theorem State.ext_setDeadline (v : R64) : ((s.setExtW i 2 v.toNat).ext i).deadline = v ∧ ((s.setExtW i 2 v.toNat).ext i).state = (s.ext i).state := by
  have hv := v.isLt
  refine ⟨State.ext_deadline_of ?_, congrArg (fun x => fieldAt 3 x 45) (s.extW_setExtW_other i 2 _ i 0 (Or.inr (by decide)) (by decide) (by decide))⟩
  rw [State.extW_setExtW_same _ _ _ hw, Nat.mod_eq_of_lt hv]

theorem State.ext_setAdmit (v : BitVec 2) : ((s.setExtAdmit i v).ext i).admitGens = v ∧ ((s.setExtAdmit i v).ext i).state = (s.ext i).state ∧
    ((s.setExtAdmit i v).ext i).deadline = (s.ext i).deadline := by
  refine ⟨?_, congrArg (fun x => fieldAt 3 x 45) (s.extW_setExtF_other i 1 52 2 _ i 0 (Or.inr (by decide)) (by decide) (by decide)),
    congrArg (BitVec.ofNat 64) (s.extW_setExtF_other i 1 52 2 _ i 2 (Or.inr (by decide)) (by decide) (by decide))⟩
  change fieldAt 2 ((s.setExtF i 1 52 2 v.toNat).extW i 1) 52 = v
  rw [State.extW_setExtF _ _ _ _ _ (by decide) hw, fieldAt_putBits_same]

theorem State.ext_setState (v : BitVec 3) : ((s.setExtState i v).ext i).state = v := by
  change fieldAt 3 ((s.setExtF i 0 45 3 v.toNat).extW i 0) 45 = v
  rw [State.extW_setExtF _ _ _ _ _ (by decide) hw, fieldAt_putBits_same]

end

/-! ### The extent commands (R235 to R238) -/

/-- The checks of a command read the extents, the node's number and the tiles' stores: no field below the tiles but the first. -/
theorem State.cmdErr_setF {w : Nat} {f : Fld w} {v : BitVec w} {s : State} {c : R32} (h : F.GLB_NODE_NODE_ID.off ≠ f.off) (ht : f.off < 0x280000) :
    (s.setF f v).cmdErr c = s.cmdErr c := by
  have hn : (s.setF f v).node = s.node := s.f_setF_reg f F.GLB_NODE_NODE_ID v h
  have hl : (s.setF f v).liveExts = s.liveExts := by simp only [State.liveExts, State.ext_setF, State.setF_frame]
  have hcr : ∀ i e, (s.setF f v).crowded i e = s.crowded i e := fun i e => by simp only [State.crowded, State.ext_setF, hl]
  have hco : (s.setF f v).cohExts = s.cohExts := by simp only [State.cohExts, State.ext_setF, hl]
  have hac : (s.setF f v).accExts = s.accExts := by simp only [State.accExts, State.ext_setF, hl]
  have hcb : (s.setF f v).cohBytes = s.cohBytes := by simp only [State.cohBytes, State.ext_setF, hco]
  have hae : (s.setF f v).accElems = s.accElems := by simp only [State.accElems, State.ext_setF, hac]
  have hws : ∀ t, (s.setF f v).workStart t = s.workStart t := fun t =>
    congrArg (fun x => sliceSize - 0x100000 * workMiB x) (s.f_setF_reg f (F.ENG_T_CTL_WORK t) v (Nat.ne_of_gt (Nat.lt_of_lt_of_le ht (Nat.le_add_right _ _))))
  have hpt : (s.setF f v).part = s.part := rfl
  have hsh : ∀ i e, (s.setF f v).shadowsFit i e = s.shadowsFit i e := fun i e => by
    simp only [State.shadowsFit, State.ext_setF, hac, hws, hpt]
  have hbg : (s.setF f v).bgCount = s.bgCount := rfl
  simp only [State.cmdErr, State.grantErr, State.ext_setF, hn, hl, hcr, hco, hcb, hae, hsh, hbg]

theorem b2n_le (b : Bool) : b2n b ≤ 1 := by cases b <;> decide

theorem extCmdWord_toNat (op : Nat) (timed gen : Bool) (a : AgentId) (e : BitVec 14) (h : op < 8) : (extCmdWord op timed gen a e).toNat =
    op * 2 ^ 28 + 2 ^ 27 * b2n timed + 2 ^ 26 * b2n gen + a.toNat * 2 ^ 14 + e.toNat := by
  have ha := a.isLt
  have he := e.isLt
  unfold extCmdWord putAt
  rw [BitVec.toNat_ofNat]
  have ht := b2n_le timed
  have hg := b2n_le gen
  exact Nat.mod_eq_of_lt (by omega)

theorem fget_timed_extCmdWord (op : Nat) (timed gen : Bool) (a : AgentId) (e : BitVec 14) (h : op < 8) :
    fget F.HOM_EXT_CMD_TIMED (extCmdWord op timed gen a e) = if timed then 1 else 0 := by
  have ha := a.isLt
  have he := e.isLt
  refine BitVec.eq_of_toNat_eq ?_
  unfold fget
  rw [BitVec.extractLsb'_toNat, extCmdWord_toNat op timed gen a e h, Nat.shiftRight_eq_div_pow]
  have hg := b2n_le gen
  have ht := b2n_le timed
  have hv : (op * 2 ^ 28 + 2 ^ 27 * b2n timed + 2 ^ 26 * b2n gen + a.toNat * 2 ^ 14 + e.toNat) / 2 ^ 27 % 2 ^ 1 = b2n timed := by omega
  refine hv.trans ?_
  cases timed <;> rfl

/-- The extent commands with their command words. -/
def extCmds (e : BitVec 14) (g : Bool) (a : AgentId) (timed : Bool) : List (Instr × R32) :=
  [(.grant e timed, extCmdWord 1 timed false 0 e), (.renew e timed, extCmdWord 2 timed false 0 e), (.revoke e g timed, extCmdWord 3 timed g 0 e),
    (.expire e timed, extCmdWord 4 timed false 0 e), (.extAdmit e g timed, extCmdWord 5 timed g 0 e), (.rotate e timed, extCmdWord 6 timed false 0 e),
    (.agentDrop a timed, extCmdWord 7 timed false a 0)]

/-- The extent commands share one function, on their command words. -/
theorem exec_extCmd {s : State} {c : Instr} {v : R32} {e : BitVec 14} {g timed : Bool} {a : AgentId} (hc : (c, v) ∈ extCmds e g a timed) :
    exec c s = whenWr s (fun s => s.extCmd v) ∧ fget F.HOM_EXT_CMD_TIMED v = if timed then 1 else 0 := by
  simp only [extCmds, List.mem_cons, Prod.mk.injEq, List.not_mem_nil, or_false] at hc
  rcases hc with ⟨rfl, rfl⟩ | ⟨rfl, rfl⟩ | ⟨rfl, rfl⟩ | ⟨rfl, rfl⟩ | ⟨rfl, rfl⟩ | ⟨rfl, rfl⟩ | ⟨rfl, rfl⟩ <;>
    exact ⟨rfl, fget_timed_extCmdWord _ _ _ _ _ (by decide)⟩

theorem mem_extCmds {c : Instr} {e : BitVec 14} {g timed : Bool} {a : AgentId} (h : c ∈ (extCmds e g a timed).map Prod.fst) :
    ∃ v, (c, v) ∈ extCmds e g a timed := by
  obtain ⟨⟨c', v⟩, hv, rfl⟩ := List.mem_map.1 h
  exact ⟨v, hv⟩

section
variable {s : State} {v : R32}

theorem State.extCmd_busy (hb : s.on F.HOM_EXT_RES_BUSY = true) : s.extCmd v = s := if_pos (Or.inl hb)

variable (hb : s.on F.HOM_EXT_RES_BUSY = false) (hl : s.home.timed.length < 64)
include hb hl

theorem State.extCmd_kept (ht : fget F.HOM_EXT_CMD_TIMED v ≠ 1) : s.extCmd v =
    State.setF { s.setF F.HOM_EXT_RES_EXTENT (fget F.HOM_EXT_CMD_EXTENT v) with
      home := { s.home with cmd := some v } } F.HOM_EXT_RES_BUSY 1 := by
  unfold State.extCmd
  rw [if_neg (by simp [hb, hl])]
  exact if_neg ht

/-- A timed command is checked when given: its error shown, or the command kept with its tick (R237). -/
theorem State.extCmd_timed (ht : fget F.HOM_EXT_CMD_TIMED v = 1) (hr : swf regReset s.regs = true) :
    (s.extCmd v).home.timed = (if s.cmdErr v = 0 then s.home.timed ++ [(s.extTick, v)] else s.home.timed) ∧
      (s.extCmd v).f F.HOM_EXT_RES_ERR = s.cmdErr v ∧ (s.extCmd v).mems = s.mems := by
  have he : (s.setF F.HOM_EXT_RES_EXTENT (fget F.HOM_EXT_CMD_EXTENT v)).cmdErr v = s.cmdErr v := State.cmdErr_setF (by decide) (by decide)
  have htick : ((s.setF F.HOM_EXT_RES_EXTENT (fget F.HOM_EXT_CMD_EXTENT v)).setF F.HOM_EXT_RES_ERR (s.cmdErr v)).extTick = s.extTick := by
    unfold State.extTick
    rw [State.rd_setF_other _ _ _ _ (by decide), State.rd_setF_other _ _ _ _ (by decide), State.rd_setF_other _ _ _ _ (by decide),
      State.rd_setF_other _ _ _ _ (by decide)]
  have herr : ((s.setF F.HOM_EXT_RES_EXTENT (fget F.HOM_EXT_CMD_EXTENT v)).setF F.HOM_EXT_RES_ERR (s.cmdErr v)).f F.HOM_EXT_RES_ERR = s.cmdErr v :=
    State.f_setF_same _ _ _ (by decide) (State.regs_setF _ _ _ hr)
  unfold State.extCmd
  rw [if_neg (by simp [hb, hl])]
  dsimp only
  rw [if_pos ht, he]
  by_cases h0 : s.cmdErr v = 0
  · rw [if_pos h0, if_pos h0, htick]
    exact ⟨by simp, herr, by simp⟩
  · rw [if_neg h0, if_neg h0]
    exact ⟨by simp, herr, by simp⟩

end

section
variable {s : State} {v : R32} (hv : s.home.cmd = some v)
include hv

theorem State.extDone_bad (he : s.cmdErr v ≠ 0) : s.extDone barWin =
    (State.setF { s with home := { s.home with cmd := none } } F.HOM_EXT_RES_BUSY 0).setF F.HOM_EXT_RES_ERR (s.cmdErr v) := by
  unfold State.extDone
  rw [hv]
  exact if_neg he

theorem State.extDone_ok (he : s.cmdErr v = 0) : s.extDone barWin =
    State.applyCmd barWin ((State.setF { s with home := { s.home with cmd := none } } F.HOM_EXT_RES_BUSY 0).setF F.HOM_EXT_RES_ERR 0) v := by
  unfold State.extDone
  rw [hv]
  exact (if_pos he).trans (by rw [he])

end

section
variable {s : State} {v : R32} {i : Nat} (hi : i = (fget F.HOM_EXT_CMD_EXTENT v).toNat) (hw : Mem.wf s.mems.ext = true)
include hi hw

theorem State.applyCmd_grant (h : fget F.HOM_EXT_CMD_OP v = 1) : (State.applyCmd barWin s v).home.cmd = s.home.cmd ∧
    ((State.applyCmd barWin s v).ext i).state = exActive ∧ ((State.applyCmd barWin s v).ext i).deadline = s.now + s.leaseTicks ∧
    ((State.applyCmd barWin s v).ext i).admitGens = BitVec.ofNat 2 (2 ^ b2n (s.ext i).dgen) ∧ (State.applyCmd barWin s v).mems.pool = s.mems.pool ∧
    (State.applyCmd barWin s v).pending = s.pending := by
  have h1 : Mem.wf (s.setExtState i exActive).mems.ext = true := Mem.wf_wrN _ _ _ hw
  have h2 : Mem.wf ((s.setExtState i exActive).setExtW i 2 (s.now + s.leaseTicks).toNat).mems.ext = true := Mem.wf_wrN _ _ _ h1
  have ha : State.applyCmd barWin s v = ((s.setExtState i exActive).setExtW i 2 (s.now + s.leaseTicks).toNat).setExtAdmit i
      (BitVec.ofNat 2 (2 ^ b2n (s.ext i).dgen)) := by
    unfold State.applyCmd
    rw [hi]
    exact if_pos h
  obtain ⟨hd, hs⟩ := State.ext_setDeadline h1 i (s.now + s.leaseTicks)
  obtain ⟨hg, hs', hd'⟩ := State.ext_setAdmit h2 i (BitVec.ofNat 2 (2 ^ b2n (s.ext i).dgen))
  rw [ha]
  exact ⟨by simp [State.setExtAdmit, State.setExtState, State.setExtF, State.setExtW], hs'.trans (hs.trans (State.ext_setState hw i exActive)),
    hd'.trans hd, hg, by simp [State.setExtAdmit, State.setExtState, State.setExtF, State.setExtW],
    by simp [State.setExtAdmit, State.setExtState, State.setExtF, State.setExtW]⟩

theorem State.applyCmd_renew (h : fget F.HOM_EXT_CMD_OP v = 2) : ((State.applyCmd barWin s v).ext i).deadline = s.now + s.leaseTicks ∧
    ((State.applyCmd barWin s v).ext i).state = (s.ext i).state := by
  have ha : State.applyCmd barWin s v = s.setExtW i 2 (s.now + s.leaseTicks).toNat := by
    unfold State.applyCmd
    rw [h, hi]
    rfl
  rw [ha]
  exact State.ext_setDeadline hw i _

theorem State.applyCmd_admit (h : fget F.HOM_EXT_CMD_OP v = 5) : ((State.applyCmd barWin s v).ext i).admitGens =
    (s.ext i).admitGens ||| (if fget F.HOM_EXT_CMD_GEN v = 1 then 2 else 1) ∧ ((State.applyCmd barWin s v).ext i).state = (s.ext i).state := by
  have ha : State.applyCmd barWin s v = s.setExtAdmit i ((s.ext i).admitGens ||| BitVec.ofNat 2 (2 ^ b2n (fget F.HOM_EXT_CMD_GEN v == 1))) := by
    unfold State.applyCmd
    rw [h, hi]
    rfl
  obtain ⟨hg, hs, -⟩ := State.ext_setAdmit hw i ((s.ext i).admitGens ||| BitVec.ofNat 2 (2 ^ b2n (fget F.HOM_EXT_CMD_GEN v == 1)))
  rw [ha]
  refine ⟨hg.trans (congrArg _ ?_), hs⟩
  by_cases hgen : fget F.HOM_EXT_CMD_GEN v = 1
  · rw [hgen]; rfl
  · rw [if_neg hgen, beq_false_of_ne hgen]; rfl

end

theorem State.cmdErr_admit {s : State} {v : R32} (h : fget F.HOM_EXT_CMD_OP v = 5) (he : s.cmdErr v = 0) :
    (s.ext (fget F.HOM_EXT_CMD_EXTENT v).toNat).state = exActive := by
  unfold State.cmdErr at he
  rw [h] at he
  by_contra hn
  have h8 : (if (s.ext (fget F.HOM_EXT_CMD_EXTENT v).toNat).state = exActive then (0 : BitVec 4) else 8) = 0 := he
  rw [if_neg hn] at h8
  exact absurd h8 (by decide)

theorem State.extTimed_one {s : State} {t : R64} {v : R32} (h : s.home.timed = [(t, v)]) (hd : s.due t = true) : s.extTimed barWin =
    (if s.cmdErr v = 0 then State.applyCmd barWin { s with home := { s.home with timed := [] } } v
      else { s with home := { s.home with timed := [] } }).post (evCmdApplied v (s.cmdErr v)) := by
  have he : [(t, v)].eraseP (fun y => decide (y = (t, v))) = [] := by simp
  unfold State.extTimed
  rw [h, List.find?_cons_of_pos (p := fun x : R64 × R32 => s.due x.1) hd]
  dsimp only
  rw [he]

/-! ### Reclaims (R245) -/

section
variable {s : State} {i : Nat}

theorem State.reclaimTimeout_none (h : s.reclaims i = false) : s.reclaimTimeout barWin i = s := if_pos (by rw [h]; rfl)

theorem State.reclaimTimeout_quiet (h : s.reclaims i = true) (ht : s.home.txns = []) : s.reclaimTimeout barWin i = s := by
  unfold State.reclaimTimeout
  rw [if_neg (by simp [h])]
  dsimp only
  rw [ht]
  simp [State.sidCount, ht, State.resolveSids]

/-- The loss of a line that its owner does not give back is logged with cause 3. -/
def State.logLost (s : State) (i : Nat) (y : BitVec 16 × AgentId × Nat) : State :=
  if (s.dirAt (s.ext i) y.2.2).st = 2 ∧ (s.dirAt (s.ext i) y.2.2).owner = y.2.1 then s.logLoss 3 y.2.2 (s.ext i).job y.2.1 i else s

theorem State.logLost_rest (s : State) (i : Nat) (y : BitVec 16 × AgentId × Nat) : (s.logLost i y).home.txns = s.home.txns ∧
    (s.logLost i y).home.waits = s.home.waits ∧ (s.logLost i y).home.held = s.home.held ∧ ∀ j, (s.logLost i y).ext j = s.ext j := by
  unfold State.logLost
  split
  · exact ⟨by simp, by simp, by simp, State.ext_of_mems (by simp)⟩
  · exact ⟨rfl, rfl, rfl, fun _ => rfl⟩

/-- The last snoop of a transaction without a request ends it, its lines UNCACHED. -/
theorem State.sidDone_last {t : Txn} {y : BitVec 16 × AgentId × Nat} (ht : s.home.txns = [t]) (hq : t.req = none) (hs : t.sids = [y])
    (hl : t.lines = [y.2.2]) (hw : s.home.waits = []) (hh : s.home.held = []) :
    (State.sidDone barWin s t y.1).home.txns = [] ∧ (State.sidDone barWin s t y.1).mems = (s.setDir (s.ext t.ext.toNat) y.2.2 DirE.uncached).mems := by
  have hf : t.sids.filter (fun x => x.1 ≠ y.1) = [] := by rw [hs]; simp
  have hd : dropWhere (fun u => decide (u = { t with sids := [] })) ([t].map (fun u => if u = t then { t with sids := [] } else u)) = [] := by
    simp [dropWhere]
  unfold State.sidDone State.txnEnd
  dsimp only
  rw [hf, ht, hd, hq, hl, hw]
  dsimp only [List.isEmpty_nil, List.length_nil, State.drainBusy, State.mapDir]
  rw [if_pos rfl]
  have hr : ∀ u : State, u.home.held = [] → State.release barWin u = u := fun u hu => by
    unfold State.release
    rw [hu]
    rfl
  rw [hr _ (by exact hh)]
  exact ⟨rfl, rfl⟩

theorem State.reclaimTimeout_one {t : Txn} {y : BitVec 16 × AgentId × Nat} (hr : s.reclaims i = true) (ht : s.home.txns = [t]) (hx : t.ext.toNat = i)
    (hq : t.req = none) (hs : t.sids = [y]) (hl : t.lines = [y.2.2]) (hlate : t.sentAt.toNat + 250000 ≤ s.now.toNat)
    (hw : s.home.waits = []) (hh : s.home.held = []) : (s.reclaimTimeout barWin i).home.txns = [] ∧
      (s.reclaimTimeout barWin i).mems = ((s.logLost i y).setDir (s.ext i) y.2.2 DirE.uncached).mems := by
  obtain ⟨k1, k2, k3, k4⟩ := s.logLost_rest i y
  have hc : (s.logLost i y).sidCount = 1 := by simp [State.sidCount, k1, ht, hs]
  have hlt : (decide (t.ext.toNat = i) && decide (t.sentAt.toNat + msTicks ≤ s.now.toNat)) = true := by
    rw [decide_eq_true hx, decide_eq_true (show t.sentAt.toNat + msTicks ≤ s.now.toNat from hlate)]
    rfl
  have he : s.reclaimTimeout barWin i = State.sidDone barWin (s.logLost i y) t y.1 := by
    unfold State.reclaimTimeout
    rw [if_neg (by simp [hr])]
    dsimp only
    rw [ht, List.filter_cons_of_pos (by exact hlt), List.filter_nil, List.flatMap_singleton, hs]
    have hlost : List.foldl (fun (s' : State) x => s'.logLoss 3 x.2 (s.ext i).job x.1 i) s ([y].filterMap (fun x =>
        if (s.dirAt (s.ext i) x.2.2).st = 2 ∧ (s.dirAt (s.ext i) x.2.2).owner = x.2.1 then some (x.2.1, x.2.2) else none)) = s.logLost i y := by
      unfold State.logLost
      by_cases ho : (s.dirAt (s.ext i) y.2.2).st = 2 ∧ (s.dirAt (s.ext i) y.2.2).owner = y.2.1
      · rw [if_pos ho, List.filterMap_cons_some (by exact if_pos ho)]
        rfl
      · rw [if_neg ho, List.filterMap_cons_none (by exact if_neg ho)]
        rfl
    refine (congrArg (fun u : State => State.resolveSids barWin _ u.sidCount u) hlost).trans ?_
    rw [hc]
    unfold State.resolveSids
    rw [k1, ht]
    simp only [List.findSome?_cons, hs, hlt, List.find?_cons_of_pos, Option.map_some]
    rfl
  obtain ⟨h1, h2⟩ := State.sidDone_last (k1.trans ht) hq hs hl (k2.trans hw) (k3.trans hh)
  rw [he]
  refine ⟨h1, h2.trans ?_⟩
  rw [k4, hx]

end

/-- What a command's effect sees of the state in which its end has been shown. -/
theorem State.cmdShown (s : State) : let u := (State.setF { s with home := { s.home with cmd := none } } F.HOM_EXT_RES_BUSY 0).setF F.HOM_EXT_RES_ERR 0
    (∀ i, u.ext i = s.ext i) ∧ u.mems = s.mems ∧ u.now + u.leaseTicks = s.now + s.leaseTicks ∧ u.home.cmd = none ∧ u.pending = s.pending := by
  intro u
  have hm : u.mems = s.mems := by simp [u]
  have hc : u.clk = s.clk := by simp [u]
  have hl : u.leaseTicks = s.leaseTicks := by
    have hf : u.f F.HOM_LEASE_LEN_MS = s.f F.HOM_LEASE_LEN_MS :=
      (State.f_setF_reg _ _ _ _ (by decide)).trans (State.f_setF_reg _ _ _ _ (by decide))
    unfold State.leaseTicks
    rw [hf]
  refine ⟨State.ext_of_mems (by rw [hm]), hm, ?_, by simp [u], by simp [u]⟩
  rw [hl, State.now, hc]
  rfl

section
variable {s : State} {v : R32} {i : Nat} (hu : s.up = true) (hv : s.home.cmd = some v) (hw : Mem.wf s.mems.ext = true)
  (hi : i = (fget F.HOM_EXT_CMD_EXTENT v).toNat)
include hu hv hw hi

theorem goes_grant (hop : fget F.HOM_EXT_CMD_OP v = 1) (hg : s.grantErr i = 0) : Goes .extCmdDone s (fun t => t.home.cmd = none ∧
    (t.ext i).state = exActive ∧ (t.ext i).deadline = s.now + s.leaseTicks ∧ (t.ext i).admitGens = BitVec.ofNat 2 (2 ^ b2n (s.ext i).dgen) ∧
    t.mems.pool = s.mems.pool ∧ t.pending = s.pending) := by
  have he : s.cmdErr v = 0 := by
    unfold State.cmdErr
    rw [← hi]
    exact (if_pos hop).trans hg
  obtain ⟨ux, um, ud, uc, up⟩ := s.cmdShown
  refine goes_up (f := State.extDone barWin) rfl hu ?_
  rw [State.extDone_ok hv he]
  obtain ⟨h1, h2, h3, h4, h5, h6⟩ := State.applyCmd_grant hi (by rw [um]; exact hw) hop
  exact ⟨h1.trans uc, h2, h3.trans ud, h4.trans (by rw [ux]), h5.trans (by rw [um]), h6.trans up⟩

variable (he : s.cmdErr v = 0)
include he

theorem goes_renew (hop : fget F.HOM_EXT_CMD_OP v = 2) : Goes .extCmdDone s (fun t => (t.ext i).deadline = s.now + s.leaseTicks ∧
    (t.ext i).state = (s.ext i).state) := by
  obtain ⟨ux, um, ud, -, -⟩ := s.cmdShown
  refine goes_up (f := State.extDone barWin) rfl hu ?_
  rw [State.extDone_ok hv he]
  obtain ⟨h1, h2⟩ := State.applyCmd_renew hi (by rw [um]; exact hw) hop
  exact ⟨h1.trans ud, h2.trans (by rw [ux])⟩

theorem goes_admit (hop : fget F.HOM_EXT_CMD_OP v = 5) : Goes .extCmdDone s (fun t => (t.ext i).admitGens =
    (s.ext i).admitGens ||| (if fget F.HOM_EXT_CMD_GEN v = 1 then 2 else 1) ∧ (t.ext i).state = exActive) := by
  obtain ⟨ux, um, -, -, -⟩ := s.cmdShown
  refine goes_up (f := State.extDone barWin) rfl hu ?_
  rw [State.extDone_ok hv he]
  obtain ⟨h1, h2⟩ := State.applyCmd_admit hi (by rw [um]; exact hw) hop
  refine ⟨h1.trans (by rw [ux]), h2.trans ?_⟩
  rw [ux, hi]
  exact State.cmdErr_admit hop he

end

/-! ### Leases, revokes, the window and the home's slots -/

section
variable {s : State} {i : Nat}

theorem State.leaseLapse_not (h : s.on F.HOM_CTL_LEASE_EN = false ∨ s.due (s.ext i).deadline = false) : s.leaseLapse i = s := by
  refine if_neg fun hn => ?_
  obtain ⟨h1, -, h2⟩ := hn
  rcases h with h | h
  · exact Bool.noConfusion (h.symm.trans h1)
  · exact Bool.noConfusion (h.symm.trans h2)

theorem State.revokeDone_free {g : Bool} {n : Nat} (hr : s.revokeOf i = some (g, n)) (hf : s.inFlight i (some g) = false)
    (hc : s.recalling i = false) (hl : s.linesOfGen i g = []) : s.revokeDone i = if (s.ext i).admitGens = 0 then
      ((s.dropBg (fun b => decide (b.ext.toNat = i) && b.isRevoke)).post (evRevokeDone (s.ext i).job false g i n)).freeExt i
      else ((s.dropBg (fun b => decide (b.ext.toNat = i) && b.isRevoke)).post (evRevokeDone (s.ext i).job false g i n)).setExtState i exActive := by
  unfold State.revokeDone
  rw [hr]
  dsimp only
  rw [if_neg (by simp [hf, hc]), if_neg (by simp [hl])]

theorem State.reclaimDone_free (hx : (s.ext i).state = exExpired) (hr : s.reclaims i = true) (hd : s.dropping i = true) (hf : s.inFlight i none = false)
    (hc : s.recalling i = false) (hl : s.cachedLines (s.ext i) = []) : s.reclaimDone i = s.freeExt i := by
  unfold State.reclaimDone
  rw [if_neg (by simp [hx]), if_neg (by simp [hr]), if_neg (by simp [hd]), if_neg (by simp [hf, hc]), if_neg (by simp [hl])]

theorem State.extWinWrite_live {off : Nat} {wide : Bool} {v : R64} (h : (s.ext (s.extWinAddr off / 64)).state ≠ exFree) :
    s.extWinWrite off wide v = s.setF F.HOM_STAT_LIVE_WR 1 := if_pos h

theorem State.extWinWrite_free {off : Nat} {v : R64} (h : (s.ext (s.extWinAddr off / 64)).state = exFree) (ha : s.extWinAddr off % 64 = 32)
    (hw : Mem.wf s.mems.ext = true) : s.extWinWrite off true v = s.setExtW (s.extWinAddr off / 64) 4 v.toNat := by
  have hv := v.isLt
  have hadr : 64 * (s.extWinAddr off / 64) + 8 * 4 = s.extWinAddr off := by omega
  have hl : (natLe 8 v.toNat).length = 8 := natLe_length _ _
  have hrd := Mem.rdN_same s.mems.ext (s.extWinAddr off) (natLe 8 v.toNat) hw
  rw [hl] at hrd
  unfold State.extWinWrite
  dsimp only
  rw [if_neg (by simp [h]), ha]
  change s.setExtW _ 4 (leNat (Mem.rdN (Mem.wrN s.mems.ext (s.extWinAddr off) (natLe 8 v.toNat)) (64 * (s.extWinAddr off / 64) + 8 * 4) 8)) = _
  rw [hadr, hrd, leNat_natLe, Nat.mod_eq_of_lt (by omega)]

theorem State.homCtl_plain {v : R32} (h : s.on F.HOM_CTL_LEASE_EN = true) : s.homCtl v = s.wr Reg.HOM_CTL (v &&& 7) := by
  unfold State.homCtl
  dsimp only
  rw [if_neg (by simp [h])]

theorem State.homCtl_rise {v : R32} (h : s.on F.HOM_CTL_LEASE_EN = false) (hv : fget F.HOM_CTL_LEASE_EN v = 1) :
    s.homCtl v = State.renewAll (s.wr Reg.HOM_CTL (v &&& 7)) s.liveExts := by
  unfold State.homCtl
  dsimp only
  rw [if_pos (by simp [h, hv])]
  rfl

end

/-- Settles O11. -/
theorem extents : Obligations.Extents := by
  refine ⟨⟨fun s c e g a ht hb hl hr hc => ?_, fun s c e g a ht hb hc => ?_,
      fun s v hu hv he => exec_up (f := State.extDone barWin) rfl hu (State.extDone_bad hv he),
      fun s v i hu hv hop hi hg hw => goes_grant hu hv hw hi hop hg,
      fun s v hu hv he => exec_up (f := State.extDone barWin) rfl hu (State.extDone_ok hv he),
      fun s v i hu hv he hw hi => ⟨goes_renew hu hv hw hi he, goes_admit hu hv hw hi he⟩,
      fun s c e g a v ht hb hl hr hc => ?_,
      fun s t v hu h hd he => exec_up (f := State.extTimed barWin) rfl hu ((State.extTimed_one h hd).trans (by rw [if_neg he])),
      fun s t v hu h hd he => exec_up (f := State.extTimed barWin) rfl hu ((State.extTimed_one h hd).trans (by rw [if_pos he, he])),
      fun s hu h => exec_same_up (f := State.extTimed barWin) rfl (by unfold State.extTimed; rw [h]; rfl)⟩,
    fun s x hu h1 h2 h3 => exec_up (f := (State.leaseLapse · x.toNat)) rfl hu (if_pos ⟨h1, h2, h3⟩),
    fun s x hu h => exec_same_up (f := (State.leaseLapse · x.toNat)) rfl (State.leaseLapse_not h),
    fun s x g n hu hr hf hc hl => exec_up (f := (State.revokeDone · x.toNat)) rfl hu (State.revokeDone_free hr hf hc hl),
    fun s x hu h => exec_same_up (f := (State.reclaimTimeout barWin · x.toNat)) rfl (State.reclaimTimeout_none h),
    fun s x hu h ht => exec_same_up (f := (State.reclaimTimeout barWin · x.toNat)) rfl (State.reclaimTimeout_quiet h ht),
    fun s x t y hu hr ht hx hq hs hl hlate hw hh => goes_up (f := (State.reclaimTimeout barWin · x.toNat)) rfl hu
      (State.reclaimTimeout_one hr ht (by rw [hx]) hq hs hl hlate hw hh),
    fun s x hu hx hr hd hf hc hl => exec_up (f := (State.reclaimDone · x.toNat)) rfl hu (State.reclaimDone_free hx hr hd hf hc hl),
    fun s m hu hb hd => exec_up (f := fun s => s.inBackground bgHome (fun s => s.homeSlot m)) rfl hu (if_pos ⟨hb, by rw [hd]; rfl⟩),
    fun s m hu hd => exec_same_up (f := fun s => s.inBackground bgHome (fun s => s.homeSlot m)) rfl (if_neg (by simp [hd])),
    fun s off wide v ht h => exec_wr (f := (State.extWinWrite · off.toNat wide v)) rfl ht (State.extWinWrite_live h),
    fun s off v ht h ha hw => goes_wr (f := (State.extWinWrite · off.toNat true v)) rfl ht ?_,
    fun s v ht h => exec_wr (f := (State.homCtl · v)) rfl ht (State.homCtl_plain h),
    fun s v ht h hv => exec_wr (f := (State.homCtl · v)) rfl ht (State.homCtl_rise h hv)⟩
  · obtain ⟨v, hv⟩ := mem_extCmds (timed := false) (e := e) (g := g) (a := a) hc
    obtain ⟨he, hf⟩ := exec_extCmd (s := s) hv
    refine goes_wr he ht ?_
    rw [State.extCmd_kept hb hl (by rw [hf]; decide)]
    refine ⟨by simp, ?_, by simp⟩
    exact congrArg (· == 1) (State.f_setF_same _ F.HOM_EXT_RES_BUSY 1 (by decide) (s.regs_setF F.HOM_EXT_RES_EXTENT _ hr))
  · obtain ⟨v, hv⟩ := mem_extCmds (timed := false) (e := e) (g := g) (a := a) hc
    exact exec_same_wr (exec_extCmd (s := s) hv).1 (State.extCmd_busy hb)
  · obtain ⟨he, hf⟩ := exec_extCmd (s := s) (e := e) (g := g) (a := a) (timed := true) hc
    exact goes_wr he ht (State.extCmd_timed hb hl (by rw [hf]; rfl) hr)
  · rw [State.extWinWrite_free h ha hw]
    have hv := v.isLt
    exact ⟨(State.extW_setExtW_same _ _ _ hw).trans (Nat.mod_eq_of_lt hv), rfl⟩

end Sys2Proof.Machine
end

section
/-!
PROOFS. Queues and their descriptors: fetching, starting, a NOP.
-/

namespace Sys2Proof.Machine

/-! ### Queues and descriptors -/

@[simp] theorem State.setQ_regs (x0 x1 x2) : (State.setQ x0 x1 x2).regs = x0.regs := by
  simp [State.setQ]

@[simp] theorem State.setDesc_regs (x0 x1 x2 x3) : (State.setDesc x0 x1 x2 x3).regs = x0.regs := by
  simp [State.setDesc]

@[simp] theorem State.takeTurn_regs (x0 x1) : (State.takeTurn x0 x1).regs = x0.regs := by
  simp [State.takeTurn]

@[simp] theorem State.pushDesc_regs (x0 x1 x2) : (State.pushDesc x0 x1 x2).regs = x0.regs := by
  simp [State.pushDesc]

@[simp] theorem State.setRing_qmg_qs (x0 x1 x2) : (State.setRing x0 x1 x2).qmg.qs = x0.qmg.qs := by
  simp [State.setRing]

@[simp] theorem State.wr_qmg_qs (x0 x1 x2) : (State.wr x0 x1 x2).qmg.qs = x0.qmg.qs := by
  simp [State.wr]

@[simp] theorem State.setF_qmg_qs (x0 x1 x2 x3) : (@State.setF x0 x1 x2 x3).qmg.qs = x1.qmg.qs := by
  simp [State.setF]

@[simp] theorem State.incF_qmg_qs (x0 x1 x2 x3) : (@State.incF x0 x1 x2 x3).qmg.qs = x1.qmg.qs := by
  simp [State.incF]

@[simp] theorem State.dropEvent_qmg_qs (x0 x1) : (State.dropEvent x0 x1).qmg.qs = x0.qmg.qs := by
  simp [State.dropEvent]

@[simp] theorem State.emit_qmg_qs (x0 x1) : (State.emit x0 x1).qmg.qs = x0.qmg.qs := by
  unfold State.emit; (repeat' split) <;> simp

@[simp] theorem State.vector_qmg_qs (x0 x1) : (State.vector x0 x1).qmg.qs = x0.qmg.qs := by
  unfold State.vector; dsimp only; (repeat' split) <;> simp

@[simp] theorem State.vectorDue_qmg_qs (x0 x1) : (State.vectorDue x0 x1).qmg.qs = x0.qmg.qs := by
  simp [State.vectorDue]

@[simp] theorem State.raise_qmg_qs (x0 x1) : (State.raise x0 x1).qmg.qs = x0.qmg.qs := by
  unfold State.raise; dsimp only; (repeat' split) <;> simp

@[simp] theorem State.putRecord_qmg_qs (x0 x1 x2 x3 x4) : (State.putRecord x0 x1 x2 x3 x4).qmg.qs = x0.qmg.qs := by
  unfold State.putRecord; dsimp only; (repeat' split) <;> simp

@[simp] theorem State.noteLost_qmg_qs (x0 x1) : (State.noteLost x0 x1).qmg.qs = x0.qmg.qs := by
  unfold State.noteLost; dsimp only; (repeat' split) <;> simp

@[simp] theorem State.postTo_qmg_qs (x0 x1 x2 x3) : (State.postTo x0 x1 x2 x3).qmg.qs = x0.qmg.qs := by
  unfold State.postTo; dsimp only; (repeat' split) <;> simp

@[simp] theorem State.postQ_qmg_qs (x0 x1 x2 x3 x4 x5 x6) : (State.postQ x0 x1 x2 x3 x4 x5 x6).qmg.qs = x0.qmg.qs := by
  simp [State.postQ]

@[simp] theorem State.setQ_out (s : State) (q : Nat) (v : QRec) : (s.setQ q v).out = s.out := by simp [State.setQ]

@[simp] theorem State.setDesc_out (s : State) (q : Nat) (i : BitVec 16) (f : Desc → Desc) : (s.setDesc q i f).out = s.out := by
  simp [State.setDesc]

@[simp] theorem State.takeTurn_out (s : State) (q : Nat) : (s.takeTurn q).out = s.out := by simp [State.takeTurn]

theorem State.q_of_qs {s t : State} (h : t.qmg.qs = s.qmg.qs) (q : Nat) : t.q q = s.q q := congrArg (fun m => sget QRec.idle m q) h

theorem State.desc_of_qs {s t : State} (h : t.qmg.qs = s.qmg.qs) (q : Nat) (idx : BitVec 16) : t.desc q idx = s.desc q idx :=
  congrArg (fun r : QRec => r.descs.find? (fun d : Desc => d.idx == idx)) (State.q_of_qs h q)

section
variable {s : State} {q : Nat}

theorem State.q_setQ (v : QRec) (h : swf QRec.idle s.qmg.qs = true) : (s.setQ q v).q q = v := sget_sset_same _ _ _ _ h

theorem State.setQ_wf (v : QRec) (h : swf QRec.idle s.qmg.qs = true) : swf QRec.idle (s.setQ q v).qmg.qs = true := swf_sset _ _ _ _ h

theorem State.setDesc_wf {idx : BitVec 16} {f : Desc → Desc} (h : swf QRec.idle s.qmg.qs = true) : swf QRec.idle (s.setDesc q idx f).qmg.qs = true :=
  State.setQ_wf _ h

variable {d : Desc} {i : BitVec 16} (hd : (s.q q).descs = [d]) (hi : d.idx = i)
include hd hi

theorem State.desc_one : s.desc q i = some d := by
  unfold State.desc
  rw [hd]
  exact List.find?_cons_of_pos (by rw [hi]; exact beq_self_eq_true _)

/-- The change of a queue's only descriptor. -/
theorem State.q_setDesc_one (f : Desc → Desc) (h : swf QRec.idle s.qmg.qs = true) : (s.setDesc q i f).q q = { s.q q with descs := [f d] } := by
  unfold State.setDesc
  rw [State.q_setQ _ h, hd]
  simp [hi]

theorem State.desc_setDesc_one (f : Desc → Desc) (h : swf QRec.idle s.qmg.qs = true) (hf : (f d).idx = i) : (s.setDesc q i f).desc q i = some (f d) :=
  State.desc_one (by rw [State.q_setDesc_one hd hi f h]) hf

theorem State.desc_setDesc_two (f g : Desc → Desc) (h : swf QRec.idle s.qmg.qs = true) (hf : (f d).idx = i) (hg : (g (f d)).idx = i) :
    ((s.setDesc q i f).setDesc q i g).desc q i = some (g (f d)) :=
  State.desc_setDesc_one (by rw [State.q_setDesc_one hd hi f h]) hf g (State.setDesc_wf h) hg

end

/-! ### Fetching (R127, R139) -/

theorem State.emit_up {s : State} (o : Out) (h : s.pwr.pcieUp = true) : s.emit o = { s with out := s.out ++ [o] } := if_neg (by simp [h])

theorem State.fetchSlot_not {s : State} {q : Nat} (h : s.mayFetch q = false) : s.fetchSlot q = s := if_pos (by simp [h])

theorem State.fetchSlot_host {s : State} {q : Nat} (h : s.mayFetch q = true) (hl : s.qInSram q = false) (hp : s.pwr.pcieUp = true) : s.fetchSlot q =
    { s.setQ q { s.q q with fetching := true } with
      out := s.out ++ [.hostRead (s.qBase q + BitVec.ofNat 64 (64 * (s.q q).fetch.toNat)) 64] } := by
  unfold State.fetchSlot
  rw [if_neg (by simp [h])]
  dsimp only
  rw [hl, State.emit_up _ hp]
  rfl

/-- An event of a queue writes registers below those of the queues. -/
theorem State.postQ_f {w : Nat} (s : State) (q : Nat) (code : BitVec 8) (st : Status) (i0 i1 : Nat) (irq : Bool) (f : Fld w) (h : 0x81000 ≤ f.off) :
    (s.postQ q code st i0 i1 irq).f f = s.f f := by
  have hr := (s.f (F.QMG_Q_CFG_EVT_RING q)).isLt
  refine (s.postTo_regsBut _ _ _).f f ?_
  simp only [evtRegs, Reg.QMG_EVT_TAIL, Reg.QMG_EVT_LOST, List.mem_cons, List.not_mem_nil, or_false]
  omega

/-- A queue in ERROR shows the error and its position, its pointers as before (R139). -/
theorem State.queueError_shows {s : State} {q : Nat} {idx : BitVec 16} {err : BitVec 5} (hr : swf regReset s.regs = true) :
    (s.queueError q idx err).qState q = qError ∧ (s.queueError q idx err).f (F.QMG_Q_STAT_ERR q) = err ∧
      (s.queueError q idx err).f (F.QMG_Q_STAT_ERRPOS q) = idx ∧ (s.queueError q idx err).f (F.QMG_Q_PTR_HEAD q) = s.f (F.QMG_Q_PTR_HEAD q) ∧
      (s.queueError q idx err).qmg.qs = s.qmg.qs := by
  have ho : ∀ {w : Nat} (f : Fld w), 0x81000 ≤ f.off → (s.queueError q idx err).f f =
      (((s.setF (F.QMG_Q_STAT_STATE q) qError).setF (F.QMG_Q_STAT_ERR q) err).setF (F.QMG_Q_STAT_ERRPOS q) idx).f f :=
    fun f hf => State.postQ_f _ _ _ _ _ _ _ f hf
  have hstat : 0x81000 ≤ Reg.QMG_Q_STAT q := by unfold Reg.QMG_Q_STAT; omega
  have hptr : 0x81000 ≤ Reg.QMG_Q_PTR q := by unfold Reg.QMG_Q_PTR; omega
  have hne : Reg.QMG_Q_PTR q ≠ Reg.QMG_Q_STAT q := by unfold Reg.QMG_Q_PTR Reg.QMG_Q_STAT; omega
  have h1 := State.regs_setF s (F.QMG_Q_STAT_STATE q) qError hr
  have h2 := State.regs_setF _ (F.QMG_Q_STAT_ERR q) err h1
  refine ⟨?_, ?_, ?_, ?_, by simp [State.queueError]⟩
  · refine (ho (F.QMG_Q_STAT_STATE q) hstat).trans ?_
    rw [State.f_setF_other _ _ _ _ h2 (Or.inr (Or.inr (show 0 + 16 ≤ 29 by decide))),
      State.f_setF_other _ _ _ _ h1 (Or.inr (Or.inr (show 24 + 5 ≤ 29 by decide))), State.f_setF_same _ _ _ (show 29 + 3 ≤ 32 by decide) hr]
  · refine (ho (F.QMG_Q_STAT_ERR q) hstat).trans ?_
    rw [State.f_setF_other _ _ _ _ h2 (Or.inr (Or.inr (show 0 + 16 ≤ 24 by decide))), State.f_setF_same _ _ _ (show 24 + 5 ≤ 32 by decide) h1]
  · refine (ho (F.QMG_Q_STAT_ERRPOS q) hstat).trans ?_
    rw [State.f_setF_same _ _ _ (show 0 + 16 ≤ 32 by decide) h2]
  · refine (ho (F.QMG_Q_PTR_HEAD q) hptr).trans ?_
    rw [State.f_setF_reg _ _ _ _ hne, State.f_setF_reg _ _ _ _ hne, State.f_setF_reg _ _ _ _ hne]

section
variable {s : State} {q : Nat} (hf : (s.q q).fetching = true) (hr : s.qState q = qRunning)
include hf hr

theorem State.fetchDone_failed : s.fetchDone q .failed =
    (s.setQ q { s.q q with fetching := false }).queueError q ((s.setQ q { s.q q with fetching := false }).q q).fetch 7 := by
  have hs : (s.setQ q { s.q q with fetching := false }).qState q = qRunning := hr
  unfold State.fetchDone
  rw [if_neg (by simp [hf])]
  dsimp only
  rw [hs, if_neg (by simp)]
  exact if_pos (by simp)

theorem State.fetchDone_slot {bs : Bytes} (hl : s.qInSram q = false) : s.fetchDone q (.slot bs) =
    (s.setQ q { s.q q with fetching := false }).fetched q (slotWords bs) := by
  have hs : (s.setQ q { s.q q with fetching := false }).qState q = qRunning := hr
  have hl' : (s.setQ q { s.q q with fetching := false }).qInSram q = false := hl
  unfold State.fetchDone
  rw [if_neg (by simp [hf])]
  dsimp only
  rw [hs, if_neg (by simp), hl']
  rfl

end

section
variable {s : State} {q : Nat} {ws : List R64} (hj : (s.q q).jobStop = false) (hd : bitAt (ws.getD 2 0).toNat 0 = false)
include hj hd

theorem State.fetched_bad (he : s.descErr q (s.newDesc q ws) ≠ 0) : s.fetched q ws = s.queueError q (s.q q).fetch (s.descErr q (s.newDesc q ws)) := by
  unfold State.fetched
  dsimp only
  rw [if_neg (by simp [hj])]
  refine (if_neg ?_).trans (if_pos he)
  exact fun h => Bool.noConfusion (hd.symm.trans h)

end

theorem Desc.w_zeros {d : Desc} (h : d.words = List.replicate 16 0) (i n : Nat) : bitAt (d.w i).toNat n = false := by
  have hw : d.w i = 0 := by
    unfold Desc.w
    rw [h, List.getD_eq_getElem?_getD]
    rcases hg : (List.replicate 16 (0 : R64))[i]? with _ | x
    · rfl
    · exact List.eq_of_mem_replicate (List.mem_of_getElem? hg)
  rw [hw]
  exact Nat.zero_testBit n

/-- A slot of zeros is a NOP without flags. -/
theorem Desc.zeros {d : Desc} (h : d.words = List.replicate 16 0) :
    d.opcode = 0 ∧ d.isColl = false ∧ d.double = false ∧ d.timed = false ∧ d.badCode = false := by
  have hb := Desc.w_zeros h
  have ho : d.opcode = 0 := by
    unfold Desc.opcode Desc.w
    rw [h]
    decide
  have hc : d.isColl = false := by simp [Desc.isColl, ho]
  refine ⟨ho, hc, hb 0 8, hb 0 13, ?_⟩
  simp [Desc.badCode, ho, Desc.sieve, Desc.unordered, hb]

theorem State.descErr_zeros (s : State) (q : Nat) {d : Desc} (h : d.words = List.replicate 16 0) : s.descErr q d = 0 := by
  obtain ⟨ho, hc, hdb, htm, hbc⟩ := Desc.zeros h
  simp [State.descErr, State.badRange, ho, hc, hdb, htm, hbc]

/-- A NOP has no operands to translate. -/
theorem State.xlateDesc_nop {s : State} {q : Nat} {d : Desc} (ho : d.opcode = 0) (hp : d.pauseVa = none) : s.xlateDesc q d = .ok := by
  have hops : s.operands q d = [] := by simp [State.operands, ho]
  unfold State.xlateDesc State.pauseAbsent
  rw [hops, hp]
  rfl

/-- A descriptor whose operands translate is translated. -/
theorem State.applyXlate_ok {s : State} {q : Nat} {d : Desc} (hd : (s.q q).descs = [d]) (hw : swf QRec.idle s.qmg.qs = true)
    (hx : ∀ t : State, t.xlateDesc q d = .ok) : ((s.applyXlate q d.idx).desc q d.idx).map (fun d => (d.st, d.opcode)) = some (.translated, d.opcode) ∧
      (s.applyXlate q d.idx).regs = s.regs ∧ (s.applyXlate q d.idx).mems = s.mems := by
  unfold State.applyXlate
  rw [State.desc_one hd rfl]
  dsimp only
  rw [hx]
  dsimp only
  refine ⟨?_, by simp, by simp⟩
  rw [State.desc_setDesc_two hd rfl _ _ hw rfl rfl]
  rfl

theorem State.fetched_nop {s : State} {q : Nat} (hj : (s.q q).jobStop = false) (hd : (s.q q).descs = []) (hw : swf QRec.idle s.qmg.qs = true) :
    ((s.fetched q (List.replicate 16 0)).desc q (s.q q).fetch).map (fun d => (d.st, d.opcode)) = some (.translated, 0) ∧
      (s.fetched q (List.replicate 16 0)).regs = s.regs ∧ (s.fetched q (List.replicate 16 0)).mems = s.mems := by
  obtain ⟨ho, -, hdb, -, -⟩ := Desc.zeros (d := s.newDesc q (List.replicate 16 0)) rfl
  have he := s.descErr_zeros q (d := s.newDesc q (List.replicate 16 0)) rfl
  have hdone := Desc.w_zeros (d := s.newDesc q (List.replicate 16 0)) rfl 2 0
  have hf : s.fetched q (List.replicate 16 0) = (s.pushDesc q { s.newDesc q (List.replicate 16 0) with covers := [], sig := 0 }).applyXlate q (s.q q).fetch := by
    unfold State.fetched
    dsimp only
    rw [if_neg (by simp [hj]), hdone, if_neg (by simp), he, if_neg (by simp), ho, hdb]
    rfl
  have hix : ({ s.newDesc q (List.replicate 16 0) with covers := [], sig := 0 } : Desc).idx = (s.q q).fetch := rfl
  have hop : ({ s.newDesc q (List.replicate 16 0) with covers := [], sig := 0 } : Desc).opcode = 0 := ho
  have hpv : ({ s.newDesc q (List.replicate 16 0) with covers := [], sig := 0 } : Desc).pauseVa = none := rfl
  rw [hf]
  generalize ({ s.newDesc q (List.replicate 16 0) with covers := [], sig := 0 } : Desc) = d at hix hop hpv ⊢
  have hpw : swf QRec.idle (s.pushDesc q d).qmg.qs = true := State.setQ_wf (s := { s with qmg := { s.qmg with nextOrder := s.qmg.nextOrder + 1 } }) _ hw
  have hpd : ((s.pushDesc q d).q q).descs = [d] := by
    refine (congrArg QRec.descs (State.q_setQ (s := { s with qmg := { s.qmg with nextOrder := s.qmg.nextOrder + 1 } }) _ hw)).trans ?_
    rw [hd]
    rfl
  rw [← hix]
  obtain ⟨h1, h2, h3⟩ := State.applyXlate_ok hpd hpw fun t => State.xlateDesc_nop hop hpv
  exact ⟨h1.trans (by rw [hop]), h2.trans (by simp), h3.trans (by simp)⟩

/-! ### Starting (R128, R129, R131) -/

/-- What may start is one of the queue's descriptors, and due where it is TIMED. -/
theorem State.startable_some {s : State} {q : Nat} {e : Desc} (h : s.startable q = some e) :
    e ∈ (s.q q).descs ∧ (e.timed = true → s.due (e.w 1) = true) := by
  unfold State.startable at h
  dsimp only at h
  split at h
  · cases h
  split at h
  · cases h
  next d hf =>
  simp only [Option.ite_none_left_eq_some, Option.some.injEq] at h
  obtain ⟨-, -, -, htime, -, -, rfl⟩ := h
  exact ⟨List.mem_of_find?_eq_some hf, fun ht => by simpa [ht] using htime⟩

theorem State.startable_of_turn {s : State} {q : Nat} (h : s.turnOf = some q) : ∃ d, s.startable q = some d := by
  have hm : q ∈ (s.qmg.qs.map (·.1)).filter (fun q =>
      decide (s.queueStream q = 0) && (match s.startable q with | some d => !d.waitsBar | none => false)) := by
    unfold State.turnOf at h
    dsimp only at h
    split at h
    · next hc =>
      cases h
      exact List.contains_iff_mem.1 hc.2
    · split at h
      · next hf =>
        cases h
        exact List.mem_of_find?_eq_some hf
      · exact List.mem_of_mem_head? h
  obtain ⟨-, hs⟩ := List.mem_filter.1 hm
  rcases he : s.startable q with _ | d
  · rw [he] at hs
    simp at hs
  · exact ⟨d, rfl⟩

section
variable {s : State} {q : Nat} {d : Desc} (hd : (s.q q).descs = [d])
include hd

theorem State.startHead_early {resps : List Resp} (ht : d.timed = true) (hdue : s.due (d.w 1) = false) : s.startHead q false resps = s := by
  have hn : s.startable q = none := by
    rcases he : s.startable q with _ | e
    · rfl
    · obtain ⟨hm, hdue'⟩ := State.startable_some he
      rw [hd, List.mem_singleton] at hm
      subst hm
      exact Bool.noConfusion (hdue.symm.trans (hdue' ht))
  unfold State.startHead
  rw [hn]

variable (hw : swf QRec.idle s.qmg.qs = true)
include hw

theorem State.startHead_runs {n : Nat} {resps : List Resp} (hst : d.st = .translated) (ht : d.timed = false)
    (hb : d.barrier = false) (hc : d.isColl = false) (hs : d.isEngine = true → s.on F.GLB_TILES_SHORT = false)
    (he : d.epoch = s.slotEpoch (s.qSlot q)) (hq : s.queueStream q = 0) (hn : s.freeTile = some n) (hturn : s.turnOf = some q) :
    (s.startHead q false resps).desc q d.idx = some { d with st := .running, begun := true, started := s.now, tile := n } ∧
      (s.startHead q false resps).regs = s.regs ∧ (s.startHead q false resps).mems = s.mems ∧ (s.startHead q false resps).out = s.out := by
  obtain ⟨e, hst'⟩ := State.startable_of_turn hturn
  have hm := (State.startable_some hst').1
  rw [hd, List.mem_singleton] at hm
  subst hm
  have hshort : ¬ (e.isEngine = true ∧ s.on F.GLB_TILES_SHORT = true) := fun h => Bool.noConfusion ((hs h.1).symm.trans h.2)
  have hnow : s.startNow q e false resps = (s.takeTurn q).beginDesc q e n resps := by
    unfold State.startNow
    dsimp only
    rw [if_pos hq, if_neg hshort, hn, hturn]
    exact if_neg (by simp)
  have hrun : s.startHead q false resps = (s.takeTurn q).beginDesc q e n resps := by
    unfold State.startHead State.startDesc
    rw [hst']
    dsimp only
    rw [if_pos (by simp [Desc.waitsBar, hb]), if_pos (by simp [State.fresh, hst, he]), hnow]
  have hqt : ((s.takeTurn q).q q).descs = [e] := hd
  have hbeg : (s.takeTurn q).beginDesc q e n resps = ((s.takeTurn q).setDesc q e.idx (fun d => { d with begun := true, started := s.now, late := e.late, tile := n })).setDesc q e.idx
      (fun d => { d with st := .running }) := by
    unfold State.beginDesc
    dsimp only
    rw [if_neg (by simp [hc]), ht]
    simp only [Bool.false_and, Bool.or_false]
    rfl
  rw [hrun, hbeg]
  exact ⟨State.desc_setDesc_two hqt rfl _ _ hw rfl rfl, by simp, by simp, by simp⟩

theorem State.nopDone_runs (hst : d.st = .running) (ho : d.opcode = 0) : (s.nopDone q).desc q d.idx = some { d with st := .finished, status := stOk } ∧
    (s.nopDone q).regs = s.regs ∧ (s.nopDone q).mems = s.mems ∧ (s.nopDone q).out = s.out := by
  have hn : s.nopDone q = s.finish q d.idx stOk id := by
    unfold State.nopDone
    rw [hd, List.find?_cons_of_pos (by simp [hst, ho])]
  rw [hn]
  exact ⟨State.desc_setDesc_one hd rfl _ hw rfl, by simp [State.finish], by simp [State.finish], by simp [State.finish]⟩

end

/-- Settles O13. -/
theorem descriptorIntake : Obligations.DescriptorIntake := by
  refine ⟨⟨fun s q hu hf hl hp => goes_up (f := (State.fetchSlot · q.toNat)) rfl hu ?_,
      fun s q hu hf => exec_same_up (f := (State.fetchSlot · q.toNat)) rfl (State.fetchSlot_not hf),
      fun s q hu hf hr hreg hw => goes_up (f := (State.fetchDone · q.toNat .failed)) rfl hu ?_,
      fun s q bs hu hf hr hj hl hreg hw hd he => goes_up (f := (State.fetchDone · q.toNat (.slot bs))) rfl hu ?_,
      fun s q bs hu hf hr hj hl hd hw hz => goes_up (f := (State.fetchDone · q.toNat (.slot bs))) rfl hu ?_⟩,
    fun s q d n resps hu hr hd hst ht hb hc he hep hs hn hturn hw => goes_up (f := (State.startHead · q.toNat false resps)) rfl hu
      (State.startHead_runs hd hw hst ht hb hc (fun h => (he h).2) hep hs hn hturn),
    fun s q d resps hu hd hst ht hdue => exec_same_up (f := (State.startHead · q.toNat false resps)) rfl (State.startHead_early hd ht hdue),
    fun s q d hu hd hst ho hw => goes_up (f := (State.nopDone · q.toNat)) rfl hu (State.nopDone_runs hd hw hst ho)⟩
  · rw [State.fetchSlot_host hf hl hp]
    refine ⟨rfl, rfl, rfl, fun hw => ?_⟩
    have hq := State.q_setQ (s := s) (q := q.toNat) { s.q q.toNat with fetching := true } hw
    exact ⟨congrArg QRec.fetching hq, (congrArg QRec.descs hq).trans rfl⟩
  · rw [State.fetchDone_failed hf hr, State.q_setQ _ hw]
    obtain ⟨h1, h2, h3, h4, -⟩ := State.queueError_shows (s := s.setQ q.toNat { s.q q.toNat with fetching := false }) (q := q.toNat)
      (idx := (s.q q.toNat).fetch) (err := 7) hreg
    exact ⟨h1, h2, h3, h4⟩
  · have hn : (s.setQ q.toNat { s.q q.toNat with fetching := false }).newDesc q.toNat (slotWords bs) = s.newDesc q.toNat (slotWords bs) := by
      unfold State.newDesc
      rw [State.q_setQ _ hw]
      rfl
    have he' : (s.setQ q.toNat { s.q q.toNat with fetching := false }).descErr q.toNat (s.newDesc q.toNat (slotWords bs)) =
        s.descErr q.toNat (s.newDesc q.toNat (slotWords bs)) := rfl
    rw [State.fetchDone_slot hf hr hl, State.fetched_bad (by rw [State.q_setQ _ hw]; exact hj) hd (by rw [hn, he']; exact he), State.q_setQ _ hw, hn, he']
    obtain ⟨h1, h2, h3, -, h5⟩ := State.queueError_shows (s := s.setQ q.toNat { s.q q.toNat with fetching := false }) (q := q.toNat)
      (idx := (s.q q.toNat).fetch) (err := s.descErr q.toNat (s.newDesc q.toNat (slotWords bs))) hreg
    exact ⟨h1, h2, h3, by rw [State.q_of_qs h5, State.q_setQ _ hw]⟩
  · have hq := State.q_setQ (s := s) (q := q.toNat) { s.q q.toNat with fetching := false } hw
    rw [State.fetchDone_slot hf hr hl, hz]
    obtain ⟨h1, h2, h3⟩ := State.fetched_nop (s := s.setQ q.toNat { s.q q.toNat with fetching := false }) (q := q.toNat)
      (by rw [hq]; exact hj) (by rw [hq]; exact hd) (State.setQ_wf _ hw)
    rw [hq] at h1
    exact ⟨h1, h2.trans (by simp), h3.trans (by simp)⟩

end Sys2Proof.Machine
end

section
/-!
PROOFS. The work of engine descriptors: COPY, FILL, GATHER, EMBED_BAG, SCATTER, ATOMIC_BATCH.
-/

namespace Sys2Proof.Machine

/-! ### A descriptor's work and its end -/

@[simp] theorem State.finish_regs (s : State) (q : Nat) (i : BitVec 16) (st : Status) (f : Desc → Desc) : (s.finish q i st f).regs = s.regs := by
  simp [State.finish]

@[simp] theorem State.finish_out (s : State) (q : Nat) (i : BitVec 16) (st : Status) (f : Desc → Desc) : (s.finish q i st f).out = s.out := by
  simp [State.finish]

section
variable {s : State} {q : Nat} {d : Desc} {i : BitVec 16} (hd : (s.q q).descs = [d]) (hi : d.idx = i)
include hd hi

theorem State.desc_finish_one (st : Status) (f : Desc → Desc) (hw : swf QRec.idle s.qmg.qs = true) (hf : (f d).idx = i) :
    (s.finish q i st f).desc q i = some { f d with status := st, st := .finished } :=
  State.desc_setDesc_one hd hi (fun d => { f d with status := st, st := .finished }) hw hf

variable {resps : List Resp} {kind : Desc → Bool} {f : Desc → Io → Nat × Io}

theorem State.work_runs (hst : d.st = .running) (hk : kind d = true) :
    s.work q i resps kind f = (f d (s.io q d d.nopres resps)).2.settle i (f d (s.io q d d.nopres resps)).1 := by
  unfold State.work
  rw [State.desc_one hd hi]
  exact if_neg (by simp [hst, hk])

theorem State.work_idle (hst : d.st ≠ .running) : s.work q i resps kind f = s := by
  unfold State.work
  rw [State.desc_one hd hi]
  exact if_pos (Or.inl hst)

end

theorem Io.settle_ok {i : Io} {idx : BitVec 16} {p : Nat} (h : i.live = true) :
    i.settle idx p = i.s.finish i.q idx stOk (fun d => { d with prog := p, sat := d.sat || i.sat }) := by
  unfold Io.live at h
  simp only [Bool.and_eq_true, Option.isNone_iff_eq_none, Bool.not_eq_true'] at h
  obtain ⟨⟨he, hp⟩, hh⟩ := h
  unfold Io.settle
  rw [he, hp, hh]
  rfl

theorem Io.settle_failed {i : Io} {idx : BitVec 16} {p : Nat} {st : Status} {w : Nat} (h : i.err = some (st, w)) :
    i.settle idx p = i.s.finish i.q idx st (fun d => { d with prog := p, sat := d.sat || i.sat, faultWord := BitVec.ofNat 4 w }) := by
  unfold Io.settle
  rw [h]

/-- The engine commands with the kind of descriptor that each runs and its work. -/
def engineWork (q : BitVec 10) (idx : BitVec 16) (resps : List Resp) : List (Instr × (Desc → Bool) × (Desc → Io → Nat × Io)) :=
  [(.copy q idx resps, (fun d => d.opcode == 1), Io.copy), (.fill q idx resps, (fun d => d.opcode == 4), Io.fill),
    (.gather q idx resps, (fun d => d.opcode == 2 && d.mode == 0), Io.gather), (.embedBag q idx resps, (fun d => d.opcode == 2 && d.mode == 1), Io.embedBag),
    (.scatter q idx resps, (fun d => d.opcode == 3), Io.scatter), (.atomicBatch q idx resps, (fun d => d.opcode == 5), Io.atomicBatch)]

theorem exec_engineWork {s : State} {q : BitVec 10} {idx : BitVec 16} {resps : List Resp} {c : Instr} {k : Desc → Bool} {f : Desc → Io → Nat × Io}
    (h : (c, k, f) ∈ engineWork q idx resps) : exec c s = whenUp s (fun s => s.work q.toNat idx resps k f) := by
  simp only [engineWork, List.mem_cons, Prod.mk.injEq, List.not_mem_nil, or_false] at h
  rcases h with ⟨rfl, rfl, rfl⟩ | ⟨rfl, rfl, rfl⟩ | ⟨rfl, rfl, rfl⟩ | ⟨rfl, rfl, rfl⟩ | ⟨rfl, rfl, rfl⟩ | ⟨rfl, rfl, rfl⟩ <;> rfl

theorem engineWork_indexed (q : BitVec 10) (idx : BitVec 16) (resps : List Resp) :
    (Instr.gather q idx resps, (fun d : Desc => d.opcode == 2 && d.mode == 0), Io.gather) ∈ engineWork q idx resps ∧
    (Instr.embedBag q idx resps, (fun d : Desc => d.opcode == 2 && d.mode == 1), Io.embedBag) ∈ engineWork q idx resps ∧
    (Instr.scatter q idx resps, (fun d : Desc => d.opcode == 3), Io.scatter) ∈ engineWork q idx resps ∧
    (Instr.atomicBatch q idx resps, (fun d : Desc => d.opcode == 5), Io.atomicBatch) ∈ engineWork q idx resps := by
  unfold engineWork
  exact ⟨.tail _ (.tail _ (.head _)), .tail _ (.tail _ (.tail _ (.head _))), .tail _ (.tail _ (.tail _ (.tail _ (.head _)))),
    .tail _ (.tail _ (.tail _ (.tail _ (.tail _ (.head _)))))⟩

theorem mem_engineWork {c : Instr} {q : BitVec 10} {idx : BitVec 16} {resps : List Resp} (h : c ∈ (engineWork q idx resps).map Prod.fst) :
    ∃ k f, (c, k, f) ∈ engineWork q idx resps := by
  obtain ⟨⟨c', k, f⟩, hm, rfl⟩ := List.mem_map.1 h
  exact ⟨k, f, hm⟩

/-! ### COPY and FILL of bus addresses (R120, R122) -/

/-- Work that one operation does moves all its bytes. -/
theorem Io.move_once {src : Nat → Nat → Io → Bytes × Io} {dst : Nat → Bytes → Io → Nat × Io} {size : Nat → Nat} {pt : Nat → Bool} {len : Nat} {i j k : Io}
    {bs : Bytes} {n : Nat} (hl : 0 < len) (hs : src 0 (size 0) i = (bs, j)) (hj : j.live = true) (hd : dst 0 bs j = (n, k)) (hk : k.live = true)
    (hn : size 0 = len) : Io.move src dst size pt false len len 0 i = (len, k) := by
  obtain ⟨m, rfl⟩ : ∃ m, len = m + 1 := ⟨len - 1, by omega⟩
  have hend : ∀ f, Io.move src dst size pt false (m + 1) f (m + 1) k = (m + 1, k) := fun f => by
    cases f with
    | zero => rfl
    | succ f => exact if_pos (Nat.le_refl _)
  unfold Io.move
  rw [if_neg (by omega), if_neg (by simp), hs]
  dsimp only
  rw [if_neg (by simp [hj]), hd]
  dsimp only
  rw [if_neg (by simp [hk]), hn, Nat.zero_add]
  exact hend m

section
variable {i : Io} (hl : i.live = true) (hp : i.s.pwr.pcieUp = true)
include hl hp

theorem Io.busLoad_up {word a n : Nat} {bs : Bytes} {rest : List Resp} (hr : i.resps = ⟨stOk, false, false, bs⟩ :: rest) (hb : bs.length = n) :
    i.busLoad word a n = (bs, { i with s := { i.s with out := i.s.out ++ [.hostRead (BitVec.ofNat 64 a) n] }, resps := rest }) := by
  unfold Io.busLoad Io.answer
  rw [if_neg (by simp [hl]), State.emit_up _ hp, hr]
  dsimp only
  have hs : slice bs 0 n = bs := by
    subst hb
    simp [slice, zeros]
  rw [if_pos rfl, hs]

theorem Io.busStore_up (a : Nat) (bs : Bytes) : i.busStore a bs = { i with s := { i.s with out := i.s.out ++ [.hostWrite (BitVec.ofNat 64 a) bs] } } := by
  unfold Io.busStore
  rw [if_neg (by simp [hl]), State.emit_up _ hp]

end

section
variable {d : Desc} {i : Io} (hl : i.live = true) (hp : i.s.pwr.pcieUp = true) (hs : i.s.stopping i.q = false) (h0 : d.prog = 0) (hdst : d.dstBus = true)
include hl hp hs h0 hdst

/-- A COPY between bus addresses reads its bytes and writes them. -/
theorem Io.copy_bus {bs : Bytes} {rest : List Resp} (hsrc : d.srcBus = true) (hpos : 0 < d.length) (hmax : d.length ≤ 256)
    (hr : i.resps = ⟨stOk, false, false, bs⟩ :: rest) (hb : bs.length = d.length) : Io.copy d i =
    (d.length, { i with s := { i.s with out := i.s.out ++ [.hostRead (d.w 3) d.length, .hostWrite (d.w 4) bs] }, resps := rest }) := by
  unfold Io.copy Io.side
  dsimp only
  rw [if_neg (by omega), hsrc, hdst, if_pos rfl, if_pos rfl]
  dsimp only
  rw [if_neg (by simp [hl]), hs, h0]
  have hsize : min (sideLen true ((d.w 3).toNat + 0) (d.length - 0)) (sideLen true ((d.w 4).toNat + 0) (d.length - 0)) = d.length := by
    simp [sideLen, hmax]
  have hread := Io.busLoad_up (word := 3) (a := (d.w 3).toNat + 0) hl hp hr hb
  have hwrite := congrArg (Prod.mk bs.length) (Io.busStore_up (i := { i with s := { i.s with
      out := i.s.out ++ [.hostRead (BitVec.ofNat 64 ((d.w 3).toNat + 0)) d.length] }, resps := rest }) hl hp ((d.w 4).toNat + 0) bs)
  refine (Io.move_once hpos ((congrArg (fun n => i.busLoad 3 ((d.w 3).toNat + 0) n) hsize).trans hread) ?_ hwrite ?_ hsize).trans ?_
  · exact hl
  · exact hl
  · simp

/-- A FILL of eight bytes at a bus address writes its pattern. -/
theorem Io.fill_bus (hlen : d.length = 8) : Io.fill d i =
    (8, { i with s := { i.s with out := i.s.out ++ [.hostWrite (d.w 3) (natLe 8 (d.w 4).toNat)] } }) := by
  have hpat : (List.range 8).map (fun j => (natLe 8 (d.w 4).toNat).getD ((0 + j) % 8) 0) = natLe 8 (d.w 4).toNat := by
    simp [List.range_succ, natLe]
  unfold Io.fill Io.side
  dsimp only
  rw [if_neg (by omega), hdst, if_pos rfl]
  dsimp only
  rw [if_neg (by simp [hl]), hs, h0, hlen]
  have hwrite := congrArg (Prod.mk 8) (Io.busStore_up hl hp ((d.w 3).toNat + 0) (natLe 8 (d.w 4).toNat))
  refine (Io.move_once (by decide) (congrArg (fun b => (b, i)) hpat) ?_ hwrite ?_ (by rfl)).trans ?_
  · exact hl
  · exact hl
  · simp

end

/-! ### Work without a range, or without an index (R87, R460) -/

section
variable {d : Desc} {i : Io} {f : Desc → Io → Nat × Io} (hf : f = Io.gather ∨ f = Io.embedBag ∨ f = Io.scatter)
include hf

theorem Io.indexed_none (h : d.indexCount = 0) : f d i = (0, i) := by
  rcases hf with rfl | rfl | rfl <;> exact if_pos h

/-- Where no range of the table holds the first byte of the source, the work fails with word 3 and keeps its PROGRESS. -/
theorem Io.indexed_unmapped (h : d.indexCount ≠ 0) (hl : i.live = true) (hr : i.s.findIn (i.tbl.getD (i.s.slotTbl i.slot)) (d.w 3).toNat 1 = none) :
    (f d i).1 = d.prog ∧ (f d i).2.err = some (stXlate, 3) ∧ (f d i).2.s = i.s ∧ (f d i).2.q = i.q ∧ (f d i).2.sat = i.sat := by
  have h3 : ∀ g, (i.ranges3 d g).1 = d.prog ∧ (i.ranges3 d g).2.err = some (stXlate, 3) ∧ (i.ranges3 d g).2.s = i.s ∧
      (i.ranges3 d g).2.q = i.q ∧ (i.ranges3 d g).2.sat = i.sat := fun g => by
    have hfail : i.range (d.w 3).toNat 3 = (none, { i with err := some (stXlate, 3) }) := by
      unfold Io.range Io.fail
      rw [hr]
      dsimp only
      rw [if_pos hl]
    have hnext : ∀ va w, ∃ o, ({ i with err := some (stXlate, 3) } : Io).range va w = (o, { i with err := some (stXlate, 3) }) := fun va w => by
      unfold Io.range Io.fail
      split
      · exact ⟨_, rfl⟩
      · exact ⟨_, rfl⟩
    obtain ⟨o4, h4⟩ := hnext (d.w 4).toNat 4
    obtain ⟨o5, h5⟩ := hnext (d.w 5).toNat 5
    unfold Io.ranges3
    rw [hfail]
    dsimp only
    rw [h4]
    dsimp only
    rw [h5]
    exact ⟨rfl, rfl, rfl, rfl, rfl⟩
  rcases hf with rfl | rfl | rfl
  · unfold Io.gather
    rw [if_neg h]
    exact h3 _
  · unfold Io.embedBag
    rw [if_neg h]
    exact h3 _
  · unfold Io.scatter
    rw [if_neg h]
    exact h3 _

end

theorem State.io_live (s : State) (q : Nat) (d : Desc) (n : Bool) (resps : List Resp) : (s.io q d n resps).live = true := rfl

theorem State.stopping_not {s : State} {q : Nat} (h : s.qState q ≠ qStopping) : s.stopping q = false := by simp [State.stopping, h]

/-- A command of the indexed engine work with its kind and its function. -/
theorem exec_indexed {q : BitVec 10} {d : Desc} {resps : List Resp} {c : Instr} (h : (c = .gather q d.idx resps ∧ d.opcode = 2 ∧ d.mode = 0) ∨
    (c = .embedBag q d.idx resps ∧ d.opcode = 2 ∧ d.mode = 1) ∨ (c = .scatter q d.idx resps ∧ d.opcode = 3)) :
    ∃ k f, (f = Io.gather ∨ f = Io.embedBag ∨ f = Io.scatter) ∧ (c, k, f) ∈ engineWork q d.idx resps ∧ k d = true := by
  obtain ⟨h1, h2, h3, -⟩ := engineWork_indexed q d.idx resps
  rcases h with ⟨rfl, ho, hm⟩ | ⟨rfl, ho, hm⟩ | ⟨rfl, ho⟩
  · exact ⟨_, _, Or.inl rfl, h1, by simp [ho, hm]⟩
  · exact ⟨_, _, Or.inr (Or.inl rfl), h2, by simp [ho, hm]⟩
  · exact ⟨_, _, Or.inr (Or.inr rfl), h3, by simp [ho]⟩

section
variable {t : State} {q : Nat} {d : Desc} (hd : (t.q q).descs = [d]) (hw : swf QRec.idle t.qmg.qs = true) (f : Desc → Desc) (hf : (f d).idx = d.idx) (st : Status)
include hd hw hf

/-- The end of the queue's only descriptor, and what it leaves. -/
theorem State.finish_shows : (t.finish q d.idx st f).desc q d.idx = some { f d with status := st, st := .finished } ∧
    (t.finish q d.idx st f).regs = t.regs ∧ (t.finish q d.idx st f).mems = t.mems ∧ (t.finish q d.idx st f).out = t.out :=
  ⟨State.desc_finish_one hd rfl st f hw hf, by simp, by simp, by simp⟩

end

/-- Settles O14. -/
theorem dataMoves : Obligations.DataMoves := by
  refine ⟨⟨fun s q d bs hu hp hs hd hst ho hsrc hdst h0 hpos hmax hb hw => ?_, fun s q d hu hp hs hd hst ho hdst h0 hlen hw => ?_,
      fun s q d c resps hu hd hst hc => ?_⟩, fun s q d resps c f hu hd hst hc => ?_, fun s q d resps c hu hd hst hc hn hr hw => ?_,
    fun s q d resps c hu hd hst hc hn hw => ?_⟩
  · refine goes_up (f := fun s => s.work q.toNat d.idx [⟨stOk, false, false, bs⟩] (fun d => d.opcode == 1) Io.copy) rfl hu ?_
    have hcopy := Io.copy_bus (State.io_live s q.toNat d d.nopres [⟨stOk, false, false, bs⟩]) hp (State.stopping_not hs) h0 hdst hsrc hpos hmax rfl hb
    rw [State.work_runs hd rfl hst (by simp [ho]), hcopy, Io.settle_ok (by rfl)]
    obtain ⟨h1, h2, h3, h4⟩ := State.finish_shows (t := { s with out := s.out ++ [.hostRead (d.w 3) d.length, .hostWrite (d.w 4) bs] }) hd hw
      (fun e => { e with prog := d.length, sat := e.sat || false }) rfl stOk
    exact ⟨h4, congrArg (Option.map _) h1, h2, h3⟩
  · refine goes_up (f := fun s => s.work q.toNat d.idx [] (fun d => d.opcode == 4) Io.fill) rfl hu ?_
    have hfill := Io.fill_bus (State.io_live s q.toNat d d.nopres []) hp (State.stopping_not hs) h0 hdst hlen
    rw [State.work_runs hd rfl hst (by simp [ho]), hfill, Io.settle_ok (by rfl)]
    obtain ⟨h1, h2, h3, h4⟩ := State.finish_shows (t := { s with out := s.out ++ [.hostWrite (d.w 3) (natLe 8 (d.w 4).toNat)] }) hd hw
      (fun e => { e with prog := 8, sat := e.sat || false }) rfl stOk
    exact ⟨h4, congrArg (Option.map _) h1, h2, h3⟩
  · obtain ⟨k, f, hm⟩ := mem_engineWork (q := q) (idx := d.idx) (resps := resps) hc
    exact exec_same_up (exec_engineWork hm) (State.work_idle hd rfl hst)
  · have hm : ∃ k, (c, k, f) ∈ engineWork q d.idx resps ∧ k d = true := by
      obtain ⟨h1, h2, h3, h4⟩ := engineWork_indexed q d.idx resps
      rcases hc with ⟨rfl, rfl, ho, hm⟩ | ⟨rfl, rfl, ho, hm⟩ | ⟨rfl, rfl, ho⟩ | ⟨rfl, rfl, ho⟩
      · exact ⟨_, h1, by simp [ho, hm]⟩
      · exact ⟨_, h2, by simp [ho, hm]⟩
      · exact ⟨_, h3, by simp [ho]⟩
      · exact ⟨_, h4, by simp [ho]⟩
    obtain ⟨k, hm, hk⟩ := hm
    exact exec_up (exec_engineWork hm) hu (State.work_runs hd rfl hst hk)
  · obtain ⟨k, f, hf, hm, hk⟩ := exec_indexed hc
    refine goes_up (exec_engineWork hm) hu ?_
    obtain ⟨hp, he, hs, hq, -⟩ := Io.indexed_unmapped hf hn (State.io_live s q.toNat d d.nopres resps) hr
    rw [State.work_runs hd rfl hst hk, Io.settle_failed he, hs, hq, hp]
    obtain ⟨h1, h2, h3, h4⟩ := State.finish_shows hd hw
      (fun e => { e with prog := d.prog, sat := e.sat || (f d (s.io q.toNat d d.nopres resps)).2.sat, faultWord := BitVec.ofNat 4 3 }) rfl stXlate
    exact ⟨congrArg (Option.map _) h1, h2, h3, h4⟩
  · obtain ⟨k, f, hf, hm, hk⟩ := exec_indexed hc
    refine goes_up (exec_engineWork hm) hu ?_
    rw [State.work_runs hd rfl hst hk, Io.indexed_none hf hn, Io.settle_ok (by rfl)]
    obtain ⟨h1, h2, h3, h4⟩ := State.finish_shows hd hw (fun e => { e with prog := 0, sat := e.sat || false }) rfl stOk
    exact ⟨congrArg (Option.map _) h1, h2, h3, h4⟩

end Sys2Proof.Machine
end

section
/-!
PROOFS. How descriptors complete, fence and pause.
-/

namespace Sys2Proof.Machine

/-! ### What the writing of a slot, an operation of this node and a page fault leave as it was -/

@[simp] theorem State.setQ_home (x0 x1 x2) : (State.setQ x0 x1 x2).home = x0.home := by
  simp [State.setQ]

@[simp] theorem State.setDesc_home (x0 x1 x2 x3) : (State.setDesc x0 x1 x2 x3).home = x0.home := by
  simp [State.setDesc]

@[simp] theorem State.writeSlot_home (x0 x1 x2 x3 x4) : (State.writeSlot x0 x1 x2 x3 x4).home = x0.home := by
  unfold State.writeSlot; dsimp only; (repeat' split) <;> simp

@[simp] theorem State.pauseDesc_home (x0 x1 x2 x3) : (State.pauseDesc x0 x1 x2 x3).home = x0.home := by
  unfold State.pauseDesc; dsimp only; (repeat' split) <;> simp

@[simp] theorem State.setF_home (x0 x1 x2 x3) : (@State.setF x0 x1 x2 x3).home = x1.home := by
  simp [State.setF]

@[simp] theorem State.dropEvent_home (x0 x1) : (State.dropEvent x0 x1).home = x0.home := by
  simp [State.dropEvent]

@[simp] theorem State.raise_home (x0 x1) : (State.raise x0 x1).home = x0.home := by
  unfold State.raise; dsimp only; (repeat' split) <;> simp

@[simp] theorem State.putRecord_home (x0 x1 x2 x3 x4) : (State.putRecord x0 x1 x2 x3 x4).home = x0.home := by
  unfold State.putRecord; dsimp only; (repeat' split) <;> simp

@[simp] theorem State.noteLost_home (x0 x1) : (State.noteLost x0 x1).home = x0.home := by
  unfold State.noteLost; dsimp only; (repeat' split) <;> simp

@[simp] theorem State.postTo_home (x0 x1 x2 x3) : (State.postTo x0 x1 x2 x3).home = x0.home := by
  unfold State.postTo; dsimp only; (repeat' split) <;> simp

@[simp] theorem State.postQ_home (x0 x1 x2 x3 x4 x5 x6) : (State.postQ x0 x1 x2 x3 x4 x5 x6).home = x0.home := by
  simp [State.postQ]

@[simp] theorem State.faultDesc_home (x0 x1 x2 x3 x4) : (State.faultDesc x0 x1 x2 x3 x4).home = x0.home := by
  unfold State.faultDesc; (repeat' split) <;> simp

@[simp] theorem State.park_home (x0 x1 x2 x3) : (State.park x0 x1 x2 x3).home = x0.home := by
  unfold State.park; dsimp only; (repeat' split) <;> simp

@[simp] theorem State.parkAt_home (x0 x1 x2 x3 x4) : (State.parkAt x0 x1 x2 x3 x4).home = x0.home := by
  unfold State.parkAt; dsimp only; (repeat' split) <;> simp

@[simp] theorem State.writeSlot_qmg_qs (x0 x1 x2 x3 x4) : (State.writeSlot x0 x1 x2 x3 x4).qmg.qs = x0.qmg.qs := by
  unfold State.writeSlot; dsimp only; (repeat' split) <;> simp

@[simp] theorem State.countXlate_qmg_qs (x0 x1) : (State.countXlate x0 x1).qmg.qs = x0.qmg.qs := by
  unfold State.countXlate; (repeat' split) <;> simp

@[simp] theorem State.faultDesc_qmg_qs (x0 x1 x2 x3 x4) : (State.faultDesc x0 x1 x2 x3 x4).qmg.qs = x0.qmg.qs := by
  unfold State.faultDesc; (repeat' split) <;> simp

@[simp] theorem State.nextSeq_qmg_qs (x0 x1 x2 x3) : (State.nextSeq x0 x1 x2 x3).2.qmg.qs = x0.qmg.qs := by
  simp [State.nextSeq]

@[simp] theorem State.aim_qmg_qs (x0 x1) : (State.aim x0 x1).2.qmg.qs = x0.qmg.qs := by
  simp [State.aim]

@[simp] theorem State.sendReq_qmg_qs (x0 x1) : (State.sendReq x0 x1).qmg.qs = x0.qmg.qs := by
  simp [State.sendReq]

@[simp] theorem State.issueOwn_qmg_qs (x0 x1 x2) : (State.issueOwn x0 x1 x2).qmg.qs = x0.qmg.qs := by
  simp [State.issueOwn]

@[simp] theorem State.emit_ep_own (x0 x1) : (State.emit x0 x1).ep.own = x0.ep.own := by
  unfold State.emit; (repeat' split) <;> simp

@[simp] theorem State.writeSlot_ep_own (x0 x1 x2 x3 x4) : (State.writeSlot x0 x1 x2 x3 x4).ep.own = x0.ep.own := by
  unfold State.writeSlot; dsimp only; (repeat' split) <;> simp

@[simp] theorem State.wr_ep_own (x0 x1 x2) : (State.wr x0 x1 x2).ep.own = x0.ep.own := by
  simp [State.wr]

@[simp] theorem State.setF_ep_own (x0 x1 x2 x3) : (@State.setF x0 x1 x2 x3).ep.own = x1.ep.own := by
  simp [State.setF]

@[simp] theorem State.incF_ep_own (x0 x1 x2 x3) : (@State.incF x0 x1 x2 x3).ep.own = x1.ep.own := by
  simp [State.incF]

@[simp] theorem State.countXlate_ep_own (x0 x1) : (State.countXlate x0 x1).ep.own = x0.ep.own := by
  unfold State.countXlate; (repeat' split) <;> simp

@[simp] theorem State.aim_ep_own (x0 x1) : (State.aim x0 x1).2.ep.own = x0.ep.own := by
  simp [State.aim]

@[simp] theorem State.sendReq_ep_own (x0 x1) : (State.sendReq x0 x1).ep.own = x0.ep.own := by
  simp [State.sendReq]

@[simp] theorem State.setQ_ep_own (x0 x1 x2) : (State.setQ x0 x1 x2).ep.own = x0.ep.own := by
  simp [State.setQ]

@[simp] theorem State.setDesc_ep_own (x0 x1 x2 x3) : (State.setDesc x0 x1 x2 x3).ep.own = x0.ep.own := by
  simp [State.setDesc]

@[simp] theorem State.nextSeq_ep_own (x0 x1 x2 x3) : (State.nextSeq x0 x1 x2 x3).2.ep.own = x0.ep.own := by
  simp [State.nextSeq]

@[simp] theorem State.writeSlot_regs (x0 x1 x2 x3 x4) : (State.writeSlot x0 x1 x2 x3 x4).regs = x0.regs := by
  unfold State.writeSlot; dsimp only; (repeat' split) <;> simp


/-! ### Parked descriptors (R91) -/

/-- A write of an entry that counts nothing does not raise a store's sum. -/
theorem sset_sum_le {α : Type} [DecidableEq α] (d : Nat → α) (g : Nat × α → Nat) (k : Nat) (v : α) (hv : g (k, v) = 0) (m : SMap α) :
    ((sset d m k v).map g).sum ≤ (m.map g).sum := by
  induction m with
  | nil => unfold sset; split <;> simp [hv]
  | cons e m ih =>
    obtain ⟨j, w⟩ := e
    unfold sset
    split
    · split <;> simp [hv]
    · split
      · split <;> simp [hv]
      · simp only [List.map_cons, List.sum_cons]
        omega

theorem State.parkedCount_eq (s : State) :
    s.parkedCount = (s.qmg.qs.map (fun e => (e.2.descs.filter (fun d => decide (d.st = .parked))).length)).sum := by
  unfold State.parkedCount
  rw [List.sum_eq_foldl]

theorem State.parkedCount_of_qs {s t : State} (h : t.qmg.qs = s.qmg.qs) : t.parkedCount = s.parkedCount := by rw [State.parkedCount, State.parkedCount, h]

theorem State.parkedCount_setQ {s : State} {q : Nat} {r : QRec} (h : r.descs.filter (fun d => decide (d.st = .parked)) = []) :
    (s.setQ q r).parkedCount ≤ s.parkedCount := by
  rw [State.parkedCount_eq, State.parkedCount_eq]
  exact sset_sum_le _ _ _ _ (by rw [h]; rfl) _

section
variable {s : State} {q : Nat} {d : Desc} {i : BitVec 16} (hd : (s.q q).descs = [d]) (hi : d.idx = i) (hw : swf QRec.idle s.qmg.qs = true)
  (f : Desc → Desc) (hf : (f d).idx = i)
include hd hi hw hf

/-- A pause keeps the descriptor, its progress written to its slot. -/
theorem State.pauseDesc_one : ((s.pauseDesc q i f).q q).descs = [{ f d with watching := false, polling := false }] ∧
    swf QRec.idle (s.pauseDesc q i f).qmg.qs = true ∧ ((f d).st ≠ .parked → (s.pauseDesc q i f).parkedCount ≤ s.parkedCount) := by
  generalize he : ({ f d with watching := false, polling := false } : Desc) = e
  have hei : e.idx = i := by rw [← he]; exact hf
  have hes : e.st = (f d).st := by rw [← he]
  generalize hu : s.writeSlot q i 2 (e.word2 true false) = u
  have hqs : u.qmg.qs = s.qmg.qs := by rw [← hu]; simp
  have hud : (u.q q).descs = [d] := by rw [State.q_of_qs hqs]; exact hd
  have huw : swf QRec.idle u.qmg.qs = true := by rw [hqs]; exact hw
  have hq := State.q_setDesc_one hud hi (fun _ => e) huw
  have hp : s.pauseDesc q i f = (u.setDesc q i (fun _ => e)).setQ q { (u.setDesc q i (fun _ => e)).q q with
      kept := ((u.setDesc q i (fun _ => e)).q q).kept.filter (fun k => k.1 != i) ++ [(i, (f d).order)] } := by
    unfold State.pauseDesc
    rw [State.desc_one hd hi]
    dsimp only
    rw [he, hu]
  rw [hp]
  refine ⟨?_, State.setQ_wf _ (State.setDesc_wf huw), fun hs => ?_⟩
  · rw [State.q_setQ _ (State.setDesc_wf huw)]
    dsimp only
    rw [hq]
  · have hnone : [e].filter (fun d => decide (d.st = .parked)) = [] := by simp [hes, hs]
    have h1 : (u.setDesc q i (fun _ => e)).parkedCount ≤ u.parkedCount := by
      unfold State.setDesc
      refine State.parkedCount_setQ ?_
      dsimp only
      rw [hud]
      simp [hi, hes, hs]
    refine (State.parkedCount_setQ ?_).trans (h1.trans (Nat.le_of_eq (State.parkedCount_of_qs hqs)))
    dsimp only
    rw [hq]
    exact hnone

end

/-- A descriptor that finds room is parked, and its first page noted. -/
theorem State.park_one {s : State} {q : Nat} {d : Desc} {i : BitVec 16} (hd : (s.q q).descs = [d]) (hi : d.idx = i) (hw : swf QRec.idle s.qmg.qs = true)
    (pages : List Nat) (hp : s.parkedCount < 1023) :
    (s.park q i pages).desc q i = some { d with st := .parked, faultVa := BitVec.ofNat 64 (pages.headD 0) } := by
  unfold State.park
  rw [if_neg (by omega)]
  dsimp only
  refine (State.desc_of_qs ?_ q i).trans (State.desc_setDesc_one hd hi (fun d => { d with st := .parked, faultVa := BitVec.ofNat 64 (pages.headD 0) }) hw hi)
  rw [State.faultDesc_qmg_qs]
  split
  · rw [State.setF_qmg_qs]
  · rfl

section
variable {s : State} {q : Nat} {d : Desc} {i : BitVec 16} (hd : (s.q q).descs = [d]) (hi : d.idx = i) (hw : swf QRec.idle s.qmg.qs = true)
  (f : Desc → Desc) (hf : (f d).idx = i)
include hd hi hw hf

theorem State.parkAt_one {va : Nat} (hp : s.parkedCount < 1023) : ((s.parkAt q i va f).desc q i).map (fun x => (x.st, x.prog, x.pauseVa)) =
    some (.parked, (f d).prog, some (BitVec.ofNat 64 va)) := by
  obtain ⟨hu, huw, hup⟩ := State.pauseDesc_one hd hi hw (fun d => { f d with st := .held, pauseVa := some (BitVec.ofNat 64 va) }) hf
  unfold State.parkAt
  dsimp only
  rw [State.desc_one hu hf]
  dsimp only
  rw [State.park_one hu hf huw _ (Nat.lt_of_le_of_lt (hup (by simp)) hp)]
  rfl

end

theorem State.ringNext_of_regs {s t : State} (h : t.regs = s.regs) (q : Nat) (i : BitVec 16) (n : Nat) : t.ringNext q i n = s.ringNext q i n := by
  rw [State.ringNext, State.ringNext, State.qLog2, State.qLog2, State.f_of_regs h]

theorem State.qHead_of_regs {s t : State} (h : t.regs = s.regs) (q : Nat) : t.qHead q = s.qHead q := by
  rw [State.qHead, State.qHead, State.ringNext_of_regs h, State.f_of_regs h]

/-! ### Completions, fences, page boundaries (R91, R136, R137, R681, R682) -/

section
variable {s : State} {q : Nat} {d : Desc} (hd : (s.q q).descs = [d])
include hd

theorem State.descComplete_not (h : d.st ≠ .finished) : s.descComplete q d.idx = s := by
  unfold State.descComplete
  rw [State.desc_one hd rfl]
  exact if_pos h

theorem State.descComplete_ok (h : d.st = .finished) (hs : d.status = stOk) : s.descComplete q d.idx = s.completeDesc q d.idx stOk := by
  unfold State.descComplete
  rw [State.desc_one hd rfl]
  dsimp only
  rw [if_neg (by simp [h]), hs]
  exact if_neg (by decide)

omit hd in
theorem State.issueOwn_own_length (r : Req) (k : OwnKind) : (s.issueOwn r k).ep.own.length = s.ep.own.length + 1 := by
  simp [State.issueOwn]

/-- With SIG_EN the descriptor waits for the add to its sync object. -/
theorem State.completeDesc_signals (hs : d.sigEn = true) (hw : swf QRec.idle s.qmg.qs = true) (st : Status) :
    ((s.completeDesc q d.idx st).desc q d.idx).map (fun e => e.st) = some .signalling ∧ (s.completeDesc q d.idx st).ep.own.length = s.ep.own.length + 1 := by
  have hsig : ({ d with status := st } : Desc).sigEn = true := hs
  unfold State.completeDesc
  rw [State.desc_one hd rfl]
  dsimp only
  rw [if_pos hsig]
  generalize hv : (if ({ d with status := st } : Desc).double = true then
    ((s.countXlate st).writeSlot q d.idx 2 (({ d with status := st } : Desc).word2 false true)).writeSlot q d.idx 15 d.sig
    else (s.countXlate st).writeSlot q d.idx 2 (({ d with status := st } : Desc).word2 false true)) = v
  have hqs : v.qmg.qs = s.qmg.qs := by rw [← hv]; split <;> simp
  have hown : v.ep.own = s.ep.own := by rw [← hv]; split <;> simp
  refine ⟨?_, by rw [State.issueOwn_own_length, State.setDesc_ep_own, hown]⟩
  rw [State.desc_of_qs (State.issueOwn_qmg_qs _ _ _), State.desc_setDesc_one (by rw [State.q_of_qs hqs]; exact hd) rfl _ (by rw [hqs]; exact hw) rfl]
  rfl

omit hd in
/-- HEAD moves past a descriptor that is done (R137). -/
theorem State.advance_one {e : Desc} (hst : e.st = .done) (hx : e.idx = s.qHead q) : s.advance q [e] =
    (s.setF (F.QMG_Q_PTR_HEAD q) (s.ringNext q e.idx e.slots)).setQ q { (s.setF (F.QMG_Q_PTR_HEAD q) (s.ringNext q e.idx e.slots)).q q with descs := [] } := by
  unfold State.advance
  rw [if_pos ⟨hst, hx⟩]
  rfl

/-- A descriptor at the head of its queue is done without an event: HEAD moves past it, and nothing else. -/
theorem State.doneDesc_head (he : d.evt = false) (hx : d.idx = s.qHead q) (hw : swf QRec.idle s.qmg.qs = true) (hr : swf regReset s.regs = true) :
    (s.doneDesc q d).out = s.out ∧ (s.doneDesc q d).f (F.QMG_Q_PTR_HEAD q) = s.ringNext q d.idx d.slots ∧
      (s.doneDesc q d).f (F.QMG_Q_PTR_TAIL q) = s.f (F.QMG_Q_PTR_TAIL q) ∧ ((s.doneDesc q d).q q).descs = [] ∧ (s.doneDesc q d).mems = s.mems := by
  have hv := State.q_setDesc_one hd rfl (fun _ => { d with st := .done }) hw
  have hvw := State.setDesc_wf (q := q) (idx := d.idx) (f := fun _ => { d with st := .done }) hw
  generalize hv' : s.setDesc q d.idx (fun _ => { d with st := .done }) = v at hv hvw
  have hvr : v.regs = s.regs ∧ v.out = s.out ∧ v.mems = s.mems := by rw [← hv']; exact ⟨by simp, by simp, by simp⟩
  obtain ⟨hvr, hvo, hvm⟩ := hvr
  generalize hx' : v.setQ q { v.q q with kept := (v.q q).kept.filter (fun k => k.1 != d.idx) } = x
  have hxq : (x.q q).descs = [{ d with st := .done }] := by
    rw [← hx', State.q_setQ _ hvw]
    dsimp only
    rw [hv]
  have hxw : swf QRec.idle x.qmg.qs = true := by rw [← hx']; exact State.setQ_wf _ hvw
  have hxr : x.regs = s.regs := by rw [← hx', State.setQ_regs, hvr]
  have hdone : s.doneDesc q d = x.advance q [{ d with st := .done }] := by
    unfold State.doneDesc
    dsimp only
    have hev : ({ d with st := .done } : Desc).evt = false := he
    rw [hev, if_neg (by simp), hv', hx', hxq]
  rw [hdone, State.advance_one rfl (by rw [State.qHead_of_regs hxr]; exact hx), State.ringNext_of_regs hxr]
  have hr' : swf regReset x.regs = true := by rw [hxr]; exact hr
  refine ⟨?_, ?_, ?_, ?_, ?_⟩
  · simp [← hx', hvo]
  · exact State.f_setF_same x (F.QMG_Q_PTR_HEAD q) _ (show 0 + 16 ≤ 32 by decide) hr'
  · exact (State.f_setF_other x (F.QMG_Q_PTR_HEAD q) (F.QMG_Q_PTR_TAIL q) _ hr' (Or.inr (Or.inr (show 0 + 16 ≤ 16 by decide)))).trans (State.f_of_regs hxr _)
  · exact congrArg QRec.descs (State.q_setQ (s := x.setF _ _) _ hxw)
  · simp [← hx', hvm]

theorem State.completeDesc_done (hp : s.pwr.pcieUp = true) (hl : s.qInSram q = false) (hdead : (s.q q).dead = false) (hst : d.status = stOk) (hdb : d.double = false)
    (hs : d.sigEn = false) (he : d.evt = false) (hx : d.idx = s.qHead q) (hw : swf QRec.idle s.qmg.qs = true) (hr : swf regReset s.regs = true) :
    (s.completeDesc q d.idx stOk).out = s.out ++ [.hostWrite (s.qBase q + BitVec.ofNat 64 (64 * d.idx.toNat + 16)) (natLe 8 (d.word2 false true).toNat)] ∧
      (s.completeDesc q d.idx stOk).f (F.QMG_Q_PTR_HEAD q) = s.ringNext q d.idx 1 ∧
      (s.completeDesc q d.idx stOk).f (F.QMG_Q_PTR_TAIL q) = s.f (F.QMG_Q_PTR_TAIL q) ∧ ((s.completeDesc q d.idx stOk).q q).descs = [] ∧
      (s.completeDesc q d.idx stOk).mems = s.mems := by
  have hd' : { d with status := stOk } = d := by rw [← hst]
  generalize hu : ({ s with out := s.out ++ [.hostWrite (s.qBase q + BitVec.ofNat 64 (64 * d.idx.toNat + 16)) (natLe 8 (d.word2 false true).toNat)] } : State) = u
  have hw2 : s.writeSlot q d.idx 2 (d.word2 false true) = u := by
    unfold State.writeSlot
    dsimp only
    rw [hl, hdead, if_neg (by simp), if_neg (by simp), State.emit_up _ hp, ← hu]
  have hc : s.completeDesc q d.idx stOk = u.doneDesc q d := by
    have hx : s.countXlate stOk = s := if_neg (by decide)
    unfold State.completeDesc
    rw [State.desc_one hd rfl]
    dsimp only
    rw [hd', hx, hw2, hdb, hs, if_neg (by simp), if_neg (by simp)]
  have hud : (u.q q).descs = [d] := by rw [← hu]; exact hd
  have huw : swf QRec.idle u.qmg.qs = true := by rw [← hu]; exact hw
  have hur : u.regs = s.regs := by rw [← hu]
  obtain ⟨h1, h2, h3, h4, h5⟩ := State.doneDesc_head hud he (by rw [State.qHead_of_regs hur]; exact hx) huw (by rw [hur]; exact hr)
  have hslots : d.slots = 1 := by simp [Desc.slots, hdb]
  rw [hc]
  exact ⟨h1.trans (by rw [← hu]), h2.trans (by rw [State.ringNext_of_regs hur, hslots]), h3.trans (State.f_of_regs hur _), h4, h5.trans (by rw [← hu])⟩

theorem State.descFence_waits (h : d.covers.any s.outstanding = true) : s.descFence q d.idx = s := by
  unfold State.descFence
  rw [State.desc_one hd rfl]
  exact if_pos (Or.inr (Or.inr h))

theorem State.descFence_done (hst : d.st = .running) (ho : d.opcode = 8) (h : d.covers.any s.outstanding = false) :
    s.descFence q d.idx = s.finish q d.idx stOk id := by
  unfold State.descFence
  rw [State.desc_one hd rfl]
  exact if_neg (by simp [hst, ho, h])

theorem State.pageBoundary_none {va : Nat} (h : s.pageRange q d va = none) : s.pageBoundary q d.idx va = s := by
  unfold State.pageBoundary
  rw [State.desc_one hd rfl]
  dsimp only
  split
  · rfl
  · rw [h]

theorem State.pageBoundary_parks {va : Nat} {e : RangeE} (hst : d.st = .running) (hc : d.isColl = false) (he : d.isEngine = true) (hn : d.nopres = false)
    (hr : s.pageRange q d va = some e) (hen : e.presEn = true) (hpr : s.present e ((va - e.vaStart) / 65536) = false) :
    s.pageBoundary q d.idx va = s.parkAt q d.idx (e.vaStart + 65536 * ((va - e.vaStart) / 65536)) (fun x => { x with prog := d.prog, sat := x.sat || false }) := by
  have h16 : d.opcode ≠ 16 := fun h => by simp [Desc.isColl, h] at hc
  unfold State.pageBoundary
  rw [State.desc_one hd rfl]
  dsimp only
  rw [if_neg (by simp [hst, h16, he, hn]), hr]
  dsimp only
  rw [hen, hpr, if_neg (by simp), if_neg (by simp [hc])]
  rfl

end

/-- Settles O15. -/
theorem descriptorEnds : Obligations.DescriptorEnds := by
  refine ⟨fun s q d hu hp hl hdead hd hst hs hdb hsig he hx hw hr => goes_up (f := (State.descComplete · q.toNat d.idx)) rfl hu ?_,
    fun s q d hu hd hst hs hsig hw => goes_up (f := (State.descComplete · q.toNat d.idx)) rfl hu ?_,
    fun s q d hu hd hst => exec_same_up (f := (State.descComplete · q.toNat d.idx)) rfl (State.descComplete_not hd hst),
    fun s q d hu hd hst ho hc hw => goes_up (f := (State.descFence · q.toNat d.idx)) rfl hu ?_,
    fun s q d hu hd hc => exec_same_up (f := (State.descFence · q.toNat d.idx)) rfl (State.descFence_waits hd hc),
    fun s q d va e hu hd hst hc he hn hp hr hen hpr hw => goes_up (f := (State.pageBoundary · q.toNat d.idx va.toNat)) rfl hu ?_,
    fun s q d va hu hd hr => exec_same_up (f := (State.pageBoundary · q.toNat d.idx va.toNat)) rfl (State.pageBoundary_none hd hr)⟩
  · rw [State.descComplete_ok hd hst hs]
    exact State.completeDesc_done hd hp hl hdead hs hdb hsig he hx hw hr
  · rw [State.descComplete_ok hd hst hs]
    exact State.completeDesc_signals hd hsig hw stOk
  · rw [State.descFence_done hd hst ho hc]
    obtain ⟨h1, h2, h3, -⟩ := State.finish_shows hd hw id rfl stOk
    exact ⟨h1, h3, h2⟩
  · rw [State.pageBoundary_parks hd hst hc he hn hr hen hpr]
    exact ⟨State.parkAt_one hd rfl hw _ rfl hp, State.parkAt_home _ _ _ _ _⟩

end Sys2Proof.Machine
end

section
/-!
PROOFS. SYNC_WAIT and SYNC_SIGNAL.
-/

namespace Sys2Proof.Machine

/-! ### What the issue of a request leaves as it was -/

@[simp] theorem State.prevWrite_qmg_qs (x0 x1 x2 x3 x4) : (State.prevWrite x0 x1 x2 x3 x4).2.qmg.qs = x0.qmg.qs := by
  simp [State.prevWrite]

@[simp] theorem State.colour_qmg_qs (x0 x1 x2) : (State.colour x0 x1 x2).2.qmg.qs = x0.qmg.qs := by
  simp [State.colour]

@[simp] theorem State.issueReq_qmg_qs (x0 x1 x2 x3) : (State.issueReq x0 x1 x2 x3).2.qmg.qs = x0.qmg.qs := by
  unfold State.issueReq; dsimp only; (repeat' split) <;> simp

@[simp] theorem State.prevWrite_ep_own (x0 x1 x2 x3 x4) : (State.prevWrite x0 x1 x2 x3 x4).2.ep.own = x0.ep.own := by
  simp [State.prevWrite]

@[simp] theorem State.colour_ep_own (x0 x1 x2) : (State.colour x0 x1 x2).2.ep.own = x0.ep.own := by
  simp [State.colour]

@[simp] theorem State.issueReq_ep_own (x0 x1 x2 x3) : (State.issueReq x0 x1 x2 x3).2.ep.own = x0.ep.own := by
  unfold State.issueReq; dsimp only; (repeat' split) <;> simp


/-! ### The object of a descriptor, and its end (R153, R154) -/

theorem State.finishObj_shows {s : State} {q : Nat} {d : Desc} (hd : (s.q q).descs = [d]) (hw : swf QRec.idle s.qmg.qs = true) (st : Status) :
    (s.finishObj q d.idx st).desc q d.idx =
      some { d with faultWord := if st = stOk then 0 else 3, watching := false, polling := false, status := st, st := .finished } ∧
      (s.finishObj q d.idx st).regs = s.regs ∧ (s.finishObj q d.idx st).mems = s.mems ∧ (s.finishObj q d.idx st).out = s.out :=
  State.finish_shows hd hw (fun d => { d with faultWord := if st = stOk then 0 else 3, watching := false, polling := false }) rfl st

section
variable {s : State} {q : Nat} {d : Desc} (hd : (s.q q).descs = [d])
include hd

theorem State.withObj_at {op : Nat} {f : Desc → RangeE → Dpa → State → State} {r : RangeE} (hst : d.st = .running) (ho : d.opcode = op)
    (hr : s.findIn d.tbl (d.w 3).toNat 1 = some r) : s.withObj q d.idx op f = f d r (dpaOf r (d.w 3).toNat) s := by
  unfold State.withObj
  rw [State.desc_one hd rfl]
  dsimp only
  rw [if_neg (by simp [hst, ho]), hr]

/-! ### SYNC_WAIT and its poll (R153, R154) -/

section
variable {r : RangeE} (hst : d.st = .running) (ho : d.opcode = 6) (hr : s.findIn d.tbl (d.w 3).toNat 1 = some r)
include hst ho hr

theorem State.syncWait_registers {full : Bool} {o : BitVec 14} (hwa : d.watching = false) (hp : d.polling = false)
    (hob : objOf (dpaOf r (d.w 3).toNat) = some o) (hx : s.expelled (dpaNode (dpaOf r (d.w 3).toNat)) = false) : s.syncWait q d.idx full =
    State.setDesc { s with out := s.out ++ [.watchReg (dpaOf r (d.w 3).toNat) d.job (d.w 4) d.watchTag] } q d.idx
      (fun d => { d with watching := !full, polling := full }) := by
  unfold State.syncWait
  rw [State.withObj_at hd hst ho hr]
  rw [hp, if_neg (by simp), hwa, if_neg (by simp), hob]
  dsimp only
  rw [hx, if_neg (by simp), State.emit_eq _ _ rfl]

theorem State.syncWait_full (hwa : d.watching = true) (hp : d.polling = false) : s.syncWait q d.idx true =
    s.setDesc q d.idx (fun d => { d with watching := false, polling := true }) := by
  unfold State.syncWait
  rw [State.withObj_at hd hst ho hr]
  rw [hp, if_neg (by simp), hwa, if_pos rfl, if_pos rfl]

theorem State.syncWait_noObject {full : Bool} (hwa : d.watching = false) (hp : d.polling = false) (hob : objOf (dpaOf r (d.w 3).toNat) = none) :
    s.syncWait q d.idx full = s.finishObj q d.idx stRights := by
  unfold State.syncWait
  rw [State.withObj_at hd hst ho hr]
  rw [hp, if_neg (by simp), hwa, if_neg (by simp), hob]

theorem State.syncPoll_reads {resps : List Resp} {bs : Bytes} {i : Io} (hp : d.polling = true) (hn : s.now ≠ d.started)
    (hm : (s.now - d.started).toNat % 256 = 0) (hl : (s.io q d true resps).load r 3 (d.w 3).toNat 8 = (bs, i)) (he : i.err = none) :
    s.syncPoll q d.idx resps = if (d.w 4).toNat ≤ leNat bs then i.s.finishObj q d.idx stOk else i.s := by
  unfold State.syncPoll
  rw [State.withObj_at hd hst ho hr]
  dsimp only
  have hn' : ¬ ((!d.polling) = true ∨ s.now = d.started ∨ (s.now - d.started).toNat % 256 ≠ 0) := by
    rintro (h | h | h)
    · simp [hp] at h
    · exact hn h
    · exact h hm
  rw [if_neg hn', hl]
  dsimp only
  rw [he]

theorem State.syncPoll_not {resps : List Resp} (hm : (s.now - d.started).toNat % 256 ≠ 0) : s.syncPoll q d.idx resps = s := by
  unfold State.syncPoll
  rw [State.withObj_at hd hst ho hr]
  exact if_pos (Or.inr (Or.inr hm))

end

theorem State.waitTimeout_ends (hst : d.st = .running) (ho : d.opcode = 6) (hwa : d.watching = false) (h0 : 0 < d.timeoutTk)
    (ht : d.timeoutTk ≤ (s.now - d.started).toNat) :
    s.waitTimeout q d.idx = s.finish q d.idx stOk (fun d => { d with timeout := true, watching := false, polling := false }) := by
  unfold State.waitTimeout
  rw [State.desc_one hd rfl]
  dsimp only
  have hn : ¬ (d.st ≠ .running ∨ d.opcode ≠ 6 ∨ d.timeoutTk = 0 ∨ (s.now - d.started).toNat < d.timeoutTk) := by
    rintro (h | h | h | h)
    · exact h hst
    · exact h ho
    · exact Nat.ne_of_gt h0 h
    · exact Nat.not_lt.2 ht h
  rw [if_neg hn, hwa, if_neg (by simp)]

theorem State.waitTimeout_not (h : d.timeoutTk = 0 ∨ (s.now - d.started).toNat < d.timeoutTk) : s.waitTimeout q d.idx = s := by
  unfold State.waitTimeout
  rw [State.desc_one hd rfl]
  exact if_pos (Or.inr (Or.inr h))

end

theorem State.wakeHere_none {s : State} {c : Cpl} (h : s.qmg.qs = []) : s.wakeHere c = s := by
  unfold State.wakeHere
  rw [h]
  exact ite_self s

theorem State.wakeHere_one {s : State} {q : Nat} {r : QRec} {d : Desc} {c : Cpl} (hc : c.opc = 0x32) (hq : s.qmg.qs = [(q, r)]) (hd : r.descs = [d])
    (hst : d.st = .running) (hwa : d.watching = true) (ht : d.watchTag = c.seq) : s.wakeHere c = s.finishObj q d.idx c.status := by
  have hf : [d].filter (fun d => decide (d.st = .running) && d.watching && d.watchTag == c.seq) = [d] := by simp [hst, hwa, ht]
  unfold State.wakeHere
  rw [if_neg (by simp [hc]), hq, List.flatMap_singleton]
  dsimp only
  rw [hd, hf]
  rfl

/-! ### SYNC_SIGNAL (R123, R155, R684) -/

section
variable {s : State} {q : Nat} {d : Desc} {r : RangeE} (hd : (s.q q).descs = [d]) (hst : d.st = .running) (ho : d.opcode = 7)
  (hr : s.findIn d.tbl (d.w 3).toNat 1 = some r)
include hd hst ho hr

section
variable {o : BitVec 14} (ha : d.arm = true) (he : d.epoch = s.slotEpoch (s.qSlot q)) (hob : objOf (dpaOf r (d.w 3).toNat) = some o) (hwait : s.qmg.armWait = [])
include ha he hob hwait

theorem State.syncSignal_arms : s.syncSignal q d.idx = match s.freeArm with
    | some n => s.takeArm q d (dpaOf r (d.w 3).toNat) o n
    | none => State.setDesc { s with qmg := { s.qmg with armWait := [(BitVec.ofNat 10 q, d.idx)] } } q d.idx (fun d => { d with st := .armWait }) := by
  have hf : s.armFresh q d.idx = (some d, s) := by
    unfold State.armFresh
    rw [State.desc_one hd rfl]
    exact if_pos (by simp [State.fresh, hst, he])
  unfold State.syncSignal
  rw [State.withObj_at hd hst ho hr]
  dsimp only
  rw [if_neg (by simp [hst]), ha, if_pos rfl, hf]
  unfold State.armSignal
  dsimp only
  rw [hr]
  dsimp only
  rw [hob, hwait]
  simp only [List.isEmpty_nil, Bool.or_true, if_true, List.nil_append]
  rcases s.freeArm with _ | n
  · rfl
  · rfl

end

section
variable (ha : d.arm = false) (hown : s.ep.own = [])
include ha hown

theorem State.syncSignal_lost (hh : s.homeOf (attrOf r) (dpaOf r (d.w 3).toNat) = none) : s.syncSignal q d.idx = s.finishObj q d.idx stTargetLost := by
  unfold State.syncSignal
  rw [State.withObj_at hd hst ho hr]
  dsimp only
  rw [if_neg (by simp [hst]), ha, if_neg (by simp), hown, if_neg (by simp), hh]

theorem State.syncSignal_adds {h : NodeId} (hh : s.homeOf (attrOf r) (dpaOf r (d.w 3).toNat) = some h) :
    (s.syncSignal q d.idx).ep.own.map (fun o => (o.kind, o.home, o.agent)) = [(.signal (BitVec.ofNat 10 q) d.idx, h, s.qAgent q)] ∧
      (s.syncSignal q d.idx).qmg.qs = s.qmg.qs ∧ (s.syncSignal q d.idx).mems = s.mems := by
  unfold State.syncSignal
  rw [State.withObj_at hd hst ho hr]
  dsimp only
  rw [if_neg (by simp [hst]), ha, if_neg (by simp), hown, if_neg (by simp), hh]
  dsimp only
  refine ⟨?_, by simp, by simp⟩
  rw [State.issueReq_ep_own, hown]
  rfl

end

end

theorem append_halves (w : R64) : (w.extractLsb' 32 32 ++ w.setWidth 32 : R64) = w := by
  ext i hi
  simp only [BitVec.getElem_append, BitVec.getElem_setWidth, BitVec.getElem_extractLsb']
  split
  · exact BitVec.getLsbD_eq_getElem hi
  · rw [show 32 + (i - 32) = i by omega]
    exact BitVec.getLsbD_eq_getElem hi

/-- The registers of an arm entry as a SYNC_SIGNAL writes them. -/
def State.armEntry (s : State) (d : Desc) (dpa : Dpa) (o : BitVec 14) (n : Nat) : State :=
  let s := (s.wr (Reg.SYN_ARM_TICK_LO n) ((d.w 6).setWidth 32)).wr (Reg.SYN_ARM_TICK_HI n) ((d.w 6).extractLsb' 32 32)
  let s := (s.setF (F.SYN_ARM_ADD_JOB n) d.job).setF (F.SYN_ARM_ADD_ADD n) ((d.w 4).setWidth 16)
  ((s.setF (F.SYN_ARM_CTL_NODE n) (dpaNode dpa)).setF (F.SYN_ARM_CTL_OBJ n) o).setF (F.SYN_ARM_CTL_ARMED n) 1

/-- What an entry that a SYNC_SIGNAL takes holds (R155). -/
theorem State.armEntry_shows {s : State} (hr : swf regReset s.regs = true) (d : Desc) (dpa : Dpa) (o : BitVec 14) (n : Nat) :
    (s.armEntry d dpa o n).f (F.SYN_ARM_CTL_ARMED n) = 1 ∧ (s.armEntry d dpa o n).f (F.SYN_ARM_CTL_OBJ n) = o ∧
      (s.armEntry d dpa o n).f (F.SYN_ARM_CTL_NODE n) = dpaNode dpa ∧ (s.armEntry d dpa o n).f (F.SYN_ARM_ADD_ADD n) = (d.w 4).setWidth 16 ∧
      (s.armEntry d dpa o n).f (F.SYN_ARM_ADD_JOB n) = d.job ∧ (s.armEntry d dpa o n).armTick n = d.w 6 := by
  have hne : Reg.SYN_ARM_TICK_LO n ≠ Reg.SYN_ARM_TICK_HI n ∧ (Reg.SYN_ARM_TICK_LO n ≠ Reg.SYN_ARM_ADD n ∧ Reg.SYN_ARM_TICK_LO n ≠ Reg.SYN_ARM_CTL n) ∧
      (Reg.SYN_ARM_TICK_HI n ≠ Reg.SYN_ARM_ADD n ∧ Reg.SYN_ARM_TICK_HI n ≠ Reg.SYN_ARM_CTL n) ∧ Reg.SYN_ARM_ADD n ≠ Reg.SYN_ARM_CTL n := by
    unfold Reg.SYN_ARM_TICK_LO Reg.SYN_ARM_TICK_HI Reg.SYN_ARM_ADD Reg.SYN_ARM_CTL
    omega
  obtain ⟨l1, ⟨l2, l3⟩, ⟨h1, h2⟩, h3⟩ := hne
  unfold State.armEntry
  dsimp only
  generalize hs1 : s.wr (Reg.SYN_ARM_TICK_LO n) ((d.w 6).setWidth 32) = s1
  generalize hs2 : s1.wr (Reg.SYN_ARM_TICK_HI n) ((d.w 6).extractLsb' 32 32) = s2
  have r1 : swf regReset s1.regs = true := by rw [← hs1]; exact s.regs_wr _ _ hr
  have r2 : swf regReset s2.regs = true := by rw [← hs2]; exact s1.regs_wr _ _ r1
  have r3 := s2.regs_setF (F.SYN_ARM_ADD_JOB n) d.job r2
  have r4 := State.regs_setF _ (F.SYN_ARM_ADD_ADD n) ((d.w 4).setWidth 16) r3
  have r5 := State.regs_setF _ (F.SYN_ARM_CTL_NODE n) (dpaNode dpa) r4
  have r6 := State.regs_setF _ (F.SYN_ARM_CTL_OBJ n) o r5
  refine ⟨State.f_setF_same _ _ _ (show 31 + 1 ≤ 32 by decide) r6, ?_, ?_, ?_, ?_, ?_⟩
  · rw [State.f_setF_other _ _ _ _ r6 (Or.inr (Or.inl (show 0 + 14 ≤ 31 by decide))), State.f_setF_same _ _ _ (show 0 + 14 ≤ 32 by decide) r5]
  · rw [State.f_setF_other _ _ _ _ r6 (Or.inr (Or.inl (show 24 + 6 ≤ 31 by decide))),
      State.f_setF_other _ _ _ _ r5 (Or.inr (Or.inr (show 0 + 14 ≤ 24 by decide))), State.f_setF_same _ _ _ (show 24 + 6 ≤ 32 by decide) r4]
  · rw [State.f_setF_reg _ _ _ _ h3, State.f_setF_reg _ _ _ _ h3, State.f_setF_reg _ _ _ _ h3, State.f_setF_same _ _ _ (show 0 + 16 ≤ 32 by decide) r3]
  · rw [State.f_setF_reg _ _ _ _ h3, State.f_setF_reg _ _ _ _ h3, State.f_setF_reg _ _ _ _ h3,
      State.f_setF_other _ _ _ _ r3 (Or.inr (Or.inr (show 0 + 16 ≤ 16 by decide))), State.f_setF_same _ _ _ (show 16 + 16 ≤ 32 by decide) r2]
  · have hhi : s2.rd (Reg.SYN_ARM_TICK_HI n) = (d.w 6).extractLsb' 32 32 := by rw [← hs2]; exact s1.rd_wr_same _ _ r1
    have hlo : s2.rd (Reg.SYN_ARM_TICK_LO n) = (d.w 6).setWidth 32 := by
      rw [← hs2, State.rd_wr_other _ _ _ _ l1, ← hs1]
      exact s.rd_wr_same _ _ hr
    unfold State.armTick
    rw [State.rd_setF_other _ _ _ _ h2, State.rd_setF_other _ _ _ _ h2, State.rd_setF_other _ _ _ _ h2, State.rd_setF_other _ _ _ _ h1,
      State.rd_setF_other _ _ _ _ h1, hhi, State.rd_setF_other _ _ _ _ l3, State.rd_setF_other _ _ _ _ l3, State.rd_setF_other _ _ _ _ l3,
      State.rd_setF_other _ _ _ _ l2, State.rd_setF_other _ _ _ _ l2, hlo]
    exact append_halves _

theorem State.armEntry_rest (s : State) (d : Desc) (dpa : Dpa) (o : BitVec 14) (n : Nat) :
    (s.armEntry d dpa o n).qmg.qs = s.qmg.qs ∧ (s.armEntry d dpa o n).mems = s.mems := by
  unfold State.armEntry
  exact ⟨by simp only [State.setF_qmg_qs, State.wr_qmg_qs], by simp only [State.setF_frame, State.wr_frame]⟩

theorem State.takeArm_shows {s : State} {q : Nat} {d : Desc} (hd : (s.q q).descs = [d]) (hw : swf QRec.idle s.qmg.qs = true)
    (hr : swf regReset s.regs = true) (dpa : Dpa) (o : BitVec 14) (n : Nat) :
    (s.takeArm q d dpa o n).on (F.SYN_ARM_CTL_ARMED n) = true ∧ (s.takeArm q d dpa o n).f (F.SYN_ARM_CTL_OBJ n) = o ∧
      (s.takeArm q d dpa o n).f (F.SYN_ARM_CTL_NODE n) = dpaNode dpa ∧ (s.takeArm q d dpa o n).f (F.SYN_ARM_ADD_ADD n) = (d.w 4).setWidth 16 ∧
      (s.takeArm q d dpa o n).f (F.SYN_ARM_ADD_JOB n) = d.job ∧ (s.takeArm q d dpa o n).armTick n = d.w 6 ∧
      (s.takeArm q d dpa o n).desc q d.idx = some { d with st := .finished, status := stOk } ∧ (s.takeArm q d dpa o n).mems = s.mems := by
  generalize hv : ({ s.armEntry d dpa o n with
    syn := { (s.armEntry d dpa o n).syn with
      armAgent := sset (fun _ => 0) (s.armEntry d dpa o n).syn.armAgent n ((s.armEntry d dpa o n).qAgent q) } } : State) = v
  have hqs : v.qmg.qs = s.qmg.qs := by rw [← hv]; exact (s.armEntry_rest d dpa o n).1
  have hregs : v.regs = (s.armEntry d dpa o n).regs := by rw [← hv]
  have hm : v.mems = s.mems := by rw [← hv]; exact (s.armEntry_rest d dpa o n).2
  have ht : s.takeArm q d dpa o n = v.finish q d.idx stOk id := by
    rw [← hv]
    rfl
  obtain ⟨e1, e2, e3, e4, e5, e6⟩ := State.armEntry_shows hr d dpa o n
  obtain ⟨f1, f2, f3, -⟩ := State.finish_shows (t := v) (q := q) (d := d) (by rw [State.q_of_qs hqs]; exact hd) (by rw [hqs]; exact hw) id rfl stOk
  have hrg := f2.trans hregs
  have htick : (v.finish q d.idx stOk id).armTick n = (s.armEntry d dpa o n).armTick n := by
    unfold State.armTick
    rw [State.rd_of_regs hrg, State.rd_of_regs hrg]
  rw [ht]
  refine ⟨?_, (State.f_of_regs hrg _).trans e2, (State.f_of_regs hrg _).trans e3, (State.f_of_regs hrg _).trans e4, (State.f_of_regs hrg _).trans e5,
    htick.trans e6, f1, f3.trans hm⟩
  unfold State.on
  rw [State.f_of_regs hrg, e1]
  rfl

/-- Settles O17. -/
theorem syncDescriptors : Obligations.SyncDescriptors := by
  refine ⟨⟨fun s q d full r o hu hd hst ho hwa hp hr hob hx hw => goes_up (f := (State.syncWait · q.toNat d.idx full)) rfl hu ?_,
      fun s q d r hu hd hst ho hwa hp hr hw => goes_up (f := (State.syncWait · q.toNat d.idx true)) rfl hu ?_,
      fun s q d full r hu hd hst ho hwa hp hr hob hw => goes_up (f := (State.syncWait · q.toNat d.idx full)) rfl hu ?_,
      fun s q c r d hu hc hq hd hst hwa ht => goes_up (f := (State.wakeHere · c)) rfl hu ?_,
      fun s c h => exec_same_up (f := (State.wakeHere · c)) rfl (State.wakeHere_none h),
      fun s q d r resps bs i hu hd hst ho hp hn hm hr hl he => exec_up (f := (State.syncPoll · q.toNat d.idx resps)) rfl hu
        (State.syncPoll_reads hd hst ho hr hp hn hm hl he),
      fun s q d resps hu hd hm hst ho hr => ?_,
      fun s q d hu hd hst ho hwa h0 ht hw => goes_up (f := (State.waitTimeout · q.toNat d.idx)) rfl hu ?_,
      fun s q d hu hd h => exec_same_up (f := (State.waitTimeout · q.toNat d.idx)) rfl (State.waitTimeout_not hd h)⟩,
    fun s q d n r o hu hwait hn hd hst ho ha he hr hob hreg hw => goes_up (f := (State.syncSignal · q.toNat d.idx)) rfl hu ?_,
    fun s q d r o hu hwait hn hd hst ho ha he hr hob hw => goes_up (f := (State.syncSignal · q.toNat d.idx)) rfl hu ?_,
    fun s q d r hu hown hd hst ho ha hr hh hw => goes_up (f := (State.syncSignal · q.toNat d.idx)) rfl hu ?_,
    fun s q d r h hu hown hd hst ho ha hr hh => goes_up (f := (State.syncSignal · q.toNat d.idx)) rfl hu ?_⟩
  · rw [State.syncWait_registers hd hst ho hr hwa hp hob hx]
    exact ⟨State.desc_setDesc_one (s := { s with out := _ }) hd rfl _ hw rfl, by simp, by simp, by simp⟩
  · rw [State.syncWait_full hd hst ho hr hwa hp]
    exact ⟨State.desc_setDesc_one hd rfl _ hw rfl, by simp⟩
  · rw [State.syncWait_noObject hd hst ho hr hwa hp hob]
    obtain ⟨h1, h2, h3, h4⟩ := State.finishObj_shows hd hw stRights
    exact ⟨by rw [h1]; rfl, h2, h3, h4⟩
  · have hqr : s.q q.toNat = r := by
      unfold State.q
      rw [hq]
      exact if_pos rfl
    have hw : swf QRec.idle s.qmg.qs = true := by
      have hne : r ≠ QRec.idle q.toNat := fun h => by
        rw [h] at hd
        exact absurd hd (by simp [QRec.idle])
      rw [hq]
      simp [swf, swfFrom, hne]
    rw [State.wakeHere_one hc hq hd hst hwa ht]
    obtain ⟨h1, h2, h3, h4⟩ := State.finishObj_shows (s := s) (q := q.toNat) (d := d) (by rw [hqr]; exact hd) hw c.status
    exact ⟨by rw [h1]; rfl, h2, h3, h4⟩
  · obtain ⟨r, hr'⟩ := Option.isSome_iff_exists.1 hr
    exact exec_same_up (f := (State.syncPoll · q.toNat d.idx resps)) rfl (State.syncPoll_not hd hst ho hr' hm)
  · rw [State.waitTimeout_ends hd hst ho hwa h0 ht]
    obtain ⟨h1, h2, h3, -⟩ := State.finish_shows hd hw (fun d => { d with timeout := true, watching := false, polling := false }) rfl stOk
    exact ⟨by rw [h1, hwa], h2, h3⟩
  · rw [State.syncSignal_arms hd hst ho hr ha he hob hwait, hn]
    exact State.takeArm_shows hd hw hreg _ _ _
  · rw [State.syncSignal_arms hd hst ho hr ha he hob hwait, hn]
    refine ⟨by simp [State.setDesc, State.setQ], State.desc_setDesc_one (s := { s with qmg := _ }) hd rfl _ hw rfl, by simp, by simp⟩
  · rw [State.syncSignal_lost hd hst ho hr ha hown hh]
    obtain ⟨h1, h2, h3, h4⟩ := State.finishObj_shows hd hw stTargetLost
    exact ⟨by rw [h1]; rfl, h2, h3, h4⟩
  · obtain ⟨h1, h2, h3⟩ := State.syncSignal_adds hd hst ho hr ha hown hh
    exact ⟨h1.trans (by simp), by rw [State.q_of_qs h2]; exact hd, h3⟩

end Sys2Proof.Machine
end

section
/-!
PROOFS. Collective operations at a node with one member of the run.
-/

namespace Sys2Proof.Machine

/-! ### What the reading and writing of operands leaves as it was -/

@[simp] theorem foldl_qmg_qs {α : Type} (f : State → α → State) (l : List α) (s : State) (h : ∀ s a, (f s a).qmg.qs = s.qmg.qs) :
    (l.foldl f s).qmg.qs = s.qmg.qs := foldl_keep (fun s => s.qmg.qs) f l s h

@[simp] theorem Io.s_qmg_qs (x0) : (Io.s x0).qmg.qs = x0.s.qmg.qs := by
  simp [Io.s]

@[simp] theorem Io.fail_qmg_qs (x0 x1 x2) : (Io.fail x0 x1 x2).s.qmg.qs = x0.s.qmg.qs := by
  unfold Io.fail; (repeat' split) <;> simp

@[simp] theorem Io.touch_qmg_qs (x0 x1 x2 x3 x4) : (Io.touch x0 x1 x2 x3 x4).s.qmg.qs = x0.s.qmg.qs := by
  unfold Io.touch; (repeat' split) <;> simp

@[simp] theorem State.drawBytes_qmg_qs (x0 x1) : (State.drawBytes x0 x1).2.qmg.qs = x0.qmg.qs := by
  simp [State.drawBytes]

@[simp] theorem Io.answer_qmg_qs (x0 x1) : (Io.answer x0 x1).2.s.qmg.qs = x0.s.qmg.qs := by
  unfold Io.answer; dsimp only; (repeat' split) <;> simp

@[simp] theorem State.setPace_qmg_qs (x0 x1 x2 x3) : (State.setPace x0 x1 x2 x3).qmg.qs = x0.qmg.qs := by
  simp [State.setPace]

@[simp] theorem State.paceCe_qmg_qs (x0 x1 x2 x3) : (State.paceCe x0 x1 x2 x3).qmg.qs = x0.qmg.qs := by
  unfold State.paceCe; dsimp only; (repeat' split) <;> simp

@[simp] theorem State.sendCpl_qmg_qs (x0 x1) : (State.sendCpl x0 x1).qmg.qs = x0.qmg.qs := by
  simp [State.sendCpl]

@[simp] theorem State.ackReq_qmg_qs (x0 x1) : (State.ackReq x0 x1).qmg.qs = x0.qmg.qs := by
  unfold State.ackReq; dsimp only; (repeat' split) <;> simp

@[simp] theorem Io.send_qmg_qs (x0 x1 x2 x3 x4) : (Io.send x0 x1 x2 x3 x4).2.s.qmg.qs = x0.s.qmg.qs := by
  unfold Io.send; dsimp only; (repeat' split) <;> simp

@[simp] theorem Io.loads_qmg_qs (x0 x1 x2 x3 x4 x5) : (Io.loads x0 x1 x2 x3 x4 x5).2.s.qmg.qs = x5.s.qmg.qs := by
  induction x2 generalizing x0 x1 x3 x4 x5 <;> simp only [Io.loads] <;> (repeat' split) <;> simp [*]

@[simp] theorem Io.load_qmg_qs (x0 x1 x2 x3 x4) : (Io.load x0 x1 x2 x3 x4).2.s.qmg.qs = x0.s.qmg.qs := by
  simp [Io.load]

@[simp] theorem Io.stores_qmg_qs (x0 x1 x2 x3 x4 x5) : (Io.stores x0 x1 x2 x3 x4 x5).2.s.qmg.qs = x5.s.qmg.qs := by
  induction x2 generalizing x0 x1 x3 x4 x5 <;> simp only [Io.stores] <;> (repeat' split) <;> simp [*]

@[simp] theorem Io.store_qmg_qs (x0 x1 x2 x3 x4) : (Io.store x0 x1 x2 x3 x4).2.s.qmg.qs = x0.s.qmg.qs := by
  simp [Io.store]

@[simp] theorem Io.range_qmg_qs (x0 x1 x2) : (Io.range x0 x1 x2).2.s.qmg.qs = x0.s.qmg.qs := by
  unfold Io.range; (repeat' split) <;> simp

@[simp] theorem Io.s_grp (x0) : (Io.s x0).grp = x0.s.grp := by
  simp [Io.s]

@[simp] theorem Io.fail_grp (x0 x1 x2) : (Io.fail x0 x1 x2).s.grp = x0.s.grp := by
  unfold Io.fail; (repeat' split) <;> simp

@[simp] theorem Io.touch_grp (x0 x1 x2 x3 x4) : (Io.touch x0 x1 x2 x3 x4).s.grp = x0.s.grp := by
  unfold Io.touch; (repeat' split) <;> simp

@[simp] theorem State.nextSeq_grp (x0 x1 x2 x3) : (State.nextSeq x0 x1 x2 x3).2.grp = x0.grp := by
  simp [State.nextSeq]

@[simp] theorem State.prevWrite_grp (x0 x1 x2 x3 x4) : (State.prevWrite x0 x1 x2 x3 x4).2.grp = x0.grp := by
  simp [State.prevWrite]

@[simp] theorem State.colour_grp (x0 x1 x2) : (State.colour x0 x1 x2).2.grp = x0.grp := by
  simp [State.colour]

@[simp] theorem State.aim_grp (x0 x1) : (State.aim x0 x1).2.grp = x0.grp := by
  simp [State.aim]

@[simp] theorem State.emit_grp (x0 x1) : (State.emit x0 x1).grp = x0.grp := by
  unfold State.emit; (repeat' split) <;> simp

@[simp] theorem State.sendReq_grp (x0 x1) : (State.sendReq x0 x1).grp = x0.grp := by
  simp [State.sendReq]

@[simp] theorem State.issueReq_grp (x0 x1 x2 x3) : (State.issueReq x0 x1 x2 x3).2.grp = x0.grp := by
  unfold State.issueReq; dsimp only; (repeat' split) <;> simp

@[simp] theorem State.drawBytes_grp (x0 x1) : (State.drawBytes x0 x1).2.grp = x0.grp := by
  simp [State.drawBytes]

@[simp] theorem Io.answer_grp (x0 x1) : (Io.answer x0 x1).2.s.grp = x0.s.grp := by
  unfold Io.answer; dsimp only; (repeat' split) <;> simp

@[simp] theorem State.setPace_grp (x0 x1 x2 x3) : (State.setPace x0 x1 x2 x3).grp = x0.grp := by
  simp [State.setPace]

@[simp] theorem State.paceCe_grp (x0 x1 x2 x3) : (State.paceCe x0 x1 x2 x3).grp = x0.grp := by
  unfold State.paceCe; dsimp only; (repeat' split) <;> simp

@[simp] theorem State.sendCpl_grp (x0 x1) : (State.sendCpl x0 x1).grp = x0.grp := by
  simp [State.sendCpl]

@[simp] theorem State.ackReq_grp (x0 x1) : (State.ackReq x0 x1).grp = x0.grp := by
  unfold State.ackReq; dsimp only; (repeat' split) <;> simp

@[simp] theorem Io.send_grp (x0 x1 x2 x3 x4) : (Io.send x0 x1 x2 x3 x4).2.s.grp = x0.s.grp := by
  unfold Io.send; dsimp only; (repeat' split) <;> simp

@[simp] theorem Io.loads_grp (x0 x1 x2 x3 x4 x5) : (Io.loads x0 x1 x2 x3 x4 x5).2.s.grp = x5.s.grp := by
  induction x2 generalizing x0 x1 x3 x4 x5 <;> simp only [Io.loads] <;> (repeat' split) <;> simp [*]

@[simp] theorem Io.load_grp (x0 x1 x2 x3 x4) : (Io.load x0 x1 x2 x3 x4).2.s.grp = x0.s.grp := by
  simp [Io.load]

@[simp] theorem Io.stores_grp (x0 x1 x2 x3 x4 x5) : (Io.stores x0 x1 x2 x3 x4 x5).2.s.grp = x5.s.grp := by
  induction x2 generalizing x0 x1 x3 x4 x5 <;> simp only [Io.stores] <;> (repeat' split) <;> simp [*]

@[simp] theorem Io.store_grp (x0 x1 x2 x3 x4) : (Io.store x0 x1 x2 x3 x4).2.s.grp = x0.s.grp := by
  simp [Io.store]

@[simp] theorem Io.range_grp (x0 x1 x2) : (Io.range x0 x1 x2).2.s.grp = x0.s.grp := by
  unfold Io.range; (repeat' split) <;> simp

@[simp] theorem Io.loadOp_qmg_qs (i : Io) (d : Desc) (word va len : Nat) : (Io.loadOp i d word va len).2.s.qmg.qs = i.s.qmg.qs := by
  have hr := Io.range_qmg_qs i (d.w word).toNat word
  unfold Io.loadOp
  split
  · rfl
  · rcases h : i.range (d.w word).toNat word with ⟨_ | e, j⟩
    · rw [h] at hr
      exact hr
    · rw [h] at hr
      exact (Io.load_qmg_qs j e word va len).trans hr

@[simp] theorem Io.storeOp_qmg_qs (i : Io) (d : Desc) (word va : Nat) (bs : Bytes) : (Io.storeOp i d word va bs).s.qmg.qs = i.s.qmg.qs := by
  have hr := Io.range_qmg_qs i (d.w word).toNat word
  unfold Io.storeOp
  split
  · rfl
  · rcases h : i.range (d.w word).toNat word with ⟨_ | e, j⟩
    · rw [h] at hr
      exact hr
    · rw [h] at hr
      exact (Io.store_qmg_qs j e word va bs).trans hr

@[simp] theorem Io.loadOp_grp (i : Io) (d : Desc) (word va len : Nat) : (Io.loadOp i d word va len).2.s.grp = i.s.grp := by
  have hr := Io.range_grp i (d.w word).toNat word
  unfold Io.loadOp
  split
  · rfl
  · rcases h : i.range (d.w word).toNat word with ⟨_ | e, j⟩
    · rw [h] at hr
      exact hr
    · rw [h] at hr
      exact (Io.load_grp j e word va len).trans hr

@[simp] theorem Io.storeOp_grp (i : Io) (d : Desc) (word va : Nat) (bs : Bytes) : (Io.storeOp i d word va bs).s.grp = i.s.grp := by
  have hr := Io.range_grp i (d.w word).toNat word
  unfold Io.storeOp
  split
  · rfl
  · rcases h : i.range (d.w word).toNat word with ⟨_ | e, j⟩
    · rw [h] at hr
      exact hr
    · rw [h] at hr
      exact (Io.store_grp j e word va bs).trans hr

@[simp] theorem Io.readPairs_qmg_qs (x0 x1) : (Io.readPairs x0 x1).2.s.qmg.qs = x1.s.qmg.qs := by
  unfold Io.readPairs; dsimp only; (repeat' split) <;> simp

@[simp] theorem Io.mask_qmg_qs (x0 x1 x2) : (Io.mask x0 x1 x2).2.s.qmg.qs = x0.s.qmg.qs := by
  unfold Io.mask; dsimp only; (repeat' split) <;> simp

@[simp] theorem Io.readBlocks_qmg_qs (x0 x1 x2 x3 x4 x5 x6) : (Io.readBlocks x0 x1 x2 x3 x4 x5 x6).2.s.qmg.qs = x6.s.qmg.qs := by
  induction x5 generalizing x0 x1 x2 x3 x4 x6 <;> simp only [Io.readBlocks] <;> (repeat' split) <;> simp [*]

@[simp] theorem Io.readRun_qmg_qs (x0 x1 x2 x3 x4 x5 x6) : (Io.readRun x0 x1 x2 x3 x4 x5 x6).2.s.qmg.qs = x0.s.qmg.qs := by
  unfold Io.readRun; dsimp only; (repeat' split) <;> simp

@[simp] theorem Io.readRegions_qmg_qs (x0 x1 x2 x3 x4 x5 x6 x7 x8) : (Io.readRegions x0 x1 x2 x3 x4 x5 x6 x7 x8).2.s.qmg.qs = x8.s.qmg.qs := by
  induction x5 generalizing x0 x1 x2 x3 x4 x6 x7 x8 <;> simp [Io.readRegions, *]

@[simp] theorem State.readSrc_qmg_qs (x0 x1 x2 x3) : (State.readSrc x0 x1 x2 x3).2.s.qmg.qs = x3.s.qmg.qs := by
  unfold State.readSrc; dsimp only; (repeat' split) <;> simp

@[simp] theorem Io.writeBlocks_qmg_qs (x0 x1 x2 x3 x4 x5 x6 x7 x8) : (Io.writeBlocks x0 x1 x2 x3 x4 x5 x6 x7 x8).s.qmg.qs = x8.s.qmg.qs := by
  induction x7 generalizing x0 x1 x2 x3 x4 x5 x6 x8 <;> unfold Io.writeBlocks <;> (repeat' split) <;> simp [*]

@[simp] theorem Io.writeRegions_qmg_qs (x0 x1 x2 x3 x4 x5) : (Io.writeRegions x0 x1 x2 x3 x4 x5).s.qmg.qs = x5.s.qmg.qs := by
  induction x4 generalizing x0 x1 x2 x3 x5 <;> simp [Io.writeRegions, *]

@[simp] theorem Io.writeOut_qmg_qs (x0 x1 x2 x3 x4) : (Io.writeOut x0 x1 x2 x3 x4).s.qmg.qs = x0.s.qmg.qs := by
  unfold Io.writeOut; dsimp only; (repeat' split) <;> simp

@[simp] theorem Io.writeRecv_qmg_qs (x0 x1 x2 x3) : (Io.writeRecv x0 x1 x2 x3).s.qmg.qs = x3.s.qmg.qs := by
  induction x2 generalizing x0 x1 x3 <;> simp [Io.writeRecv, *]

@[simp] theorem Io.readPacked_qmg_qs (x0 x1 x2 x3 x4) : (Io.readPacked x0 x1 x2 x3 x4).2.s.qmg.qs = x4.s.qmg.qs := by
  induction x1 generalizing x0 x2 x3 x4 <;> simp [Io.readPacked, *]

@[simp] theorem State.sendXfers_qmg_qs (x0 x1 x2) : (State.sendXfers x0 x1 x2).qmg.qs = x0.qmg.qs := by
  simp [State.sendXfers]

@[simp] theorem State.sendParts_qmg_qs (x0 x1 x2 x3 x4) : (State.sendParts x0 x1 x2 x3 x4).qmg.qs = x0.qmg.qs := by
  simp [State.sendParts]

@[simp] theorem State.sendCols_qmg_qs (x0 x1 x2 x3 x4) : (State.sendCols x0 x1 x2 x3 x4).qmg.qs = x0.qmg.qs := by
  unfold State.sendCols; (repeat' split) <;> simp

@[simp] theorem Io.countSat_qmg_qs (x0 x1) : (Io.countSat x0 x1).s.qmg.qs = x0.s.qmg.qs := by
  unfold Io.countSat; (repeat' split) <;> simp

@[simp] theorem State.bufWrite_qmg_qs (x0 x1 x2 x3 x4) : (State.bufWrite x0 x1 x2 x3 x4).2.qmg.qs = x0.qmg.qs := by
  induction x2 generalizing x0 x1 x3 x4 <;> simp only [State.bufWrite] <;> (repeat' split) <;> simp [*]

@[simp] theorem State.placeRows_qmg_qs (x0 x1 x2 x3 x4 x5) : (State.placeRows x0 x1 x2 x3 x4 x5).2.qmg.qs = x0.qmg.qs := by
  induction x5 generalizing x0 x1 x2 x3 x4 <;> simp only [State.placeRows] <;> (repeat' split) <;> simp [*]

@[simp] theorem Io.placeAll_qmg_qs (x0 x1 x2 x3 x4) : (Io.placeAll x0 x1 x2 x3 x4).s.qmg.qs = x4.s.qmg.qs := by
  induction x3 generalizing x0 x1 x2 x4 <;> simp only [Io.placeAll] <;> (repeat' split) <;> simp [*]

@[simp] theorem Io.overRows_qmg_qs (x0 x1 x2 x3 x4) : (Io.overRows x0 x1 x2 x3 x4).s.qmg.qs = x4.s.qmg.qs := by
  induction x3 generalizing x0 x1 x2 x4 <;> simp [Io.overRows, *]

@[simp] theorem State.dispatchAt_qmg_qs (x0 x1 x2 x3 x4 x5 x6 x7) : (State.dispatchAt x0 x1 x2 x3 x4 x5 x6 x7).2.s.qmg.qs = x7.s.qmg.qs := by
  unfold State.dispatchAt; dsimp only; (repeat' split) <;> simp

@[simp] theorem Io.routes_qmg_qs (x0 x1 x2) : (Io.routes x0 x1 x2).2.s.qmg.qs = x0.s.qmg.qs := by
  unfold Io.routes; dsimp only; (repeat' split) <;> simp

@[simp] theorem Io.memRoutes_qmg_qs (x0 x1 x2) : (Io.memRoutes x0 x1 x2).2.s.qmg.qs = x2.s.qmg.qs := by
  unfold Io.memRoutes; (repeat' split) <;> simp

@[simp] theorem Io.rows_qmg_qs (x0 x1 x2 x3) : (Io.rows x0 x1 x2 x3).2.s.qmg.qs = x3.s.qmg.qs := by
  induction x2 generalizing x0 x1 x3 <;> simp only [Io.rows] <;> (repeat' split) <;> simp [*]

@[simp] theorem Io.outRows_qmg_qs (x0 x1 x2) : (Io.outRows x0 x1 x2).2.s.qmg.qs = x2.s.qmg.qs := by
  simp [Io.outRows]

@[simp] theorem State.combineRead_qmg_qs (x0 x1 x2 x3 x4) : (State.combineRead x0 x1 x2 x3 x4).2.s.qmg.qs = x4.s.qmg.qs := by
  simp [State.combineRead]

@[simp] theorem Io.dstRows_qmg_qs (x0 x1 x2 x3) : (Io.dstRows x0 x1 x2 x3).s.qmg.qs = x3.s.qmg.qs := by
  induction x2 generalizing x0 x1 x3 <;> simp [Io.dstRows, *]

@[simp] theorem State.sendRoutes_qmg_qs (x0 x1 x2 x3) : (State.sendRoutes x0 x1 x2 x3).qmg.qs = x0.qmg.qs := by
  simp [State.sendRoutes]

@[simp] theorem State.sendRows_qmg_qs (x0 x1 x2 x3) : (State.sendRows x0 x1 x2 x3).qmg.qs = x0.qmg.qs := by
  simp [State.sendRows]

@[simp] theorem State.sendPlans_qmg_qs (x0 x1 x2) : (State.sendPlans x0 x1 x2).qmg.qs = x0.qmg.qs := by
  simp [State.sendPlans]

@[simp] theorem State.post_qmg_qs (x0 x1) : (State.post x0 x1).qmg.qs = x0.qmg.qs := by
  simp [State.post]

@[simp] theorem State.postRun_qmg_qs (x0 x1 x2 x3 x4) : (State.postRun x0 x1 x2 x3 x4).qmg.qs = x0.qmg.qs := by
  unfold State.postRun; dsimp only; (repeat' split) <;> simp

@[simp] theorem State.countDecisions_qmg_qs (x0 x1 x2) : (State.countDecisions x0 x1 x2).qmg.qs = x0.qmg.qs := by
  unfold State.countDecisions; dsimp only; (repeat' split) <;> simp

@[simp] theorem State.sendOuts_qmg_qs (x0 x1 x2) : (State.sendOuts x0 x1 x2).qmg.qs = x0.qmg.qs := by
  simp [State.sendOuts]

@[simp] theorem State.satF_qmg_qs (x0 x1 x2 x3) : (@State.satF x0 x1 x2 x3).qmg.qs = x1.qmg.qs := by
  simp [State.satF]

@[simp] theorem State.colCount_qmg_qs (x0 x1 x2) : (State.colCount x0 x1 x2).qmg.qs = x0.qmg.qs := by
  simp [State.colCount]

@[simp] theorem State.zeroKept_qmg_qs (x0 x1) : (State.zeroKept x0 x1).qmg.qs = x0.qmg.qs := by
  simp [State.zeroKept]

@[simp] theorem State.setWork_qmg_qs (x0 x1 x2) : (State.setWork x0 x1 x2).qmg.qs = x0.qmg.qs := by
  unfold State.setWork; dsimp only; (repeat' split) <;> simp

@[simp] theorem State.tileIdle_qmg_qs (x0 x1) : (State.tileIdle x0 x1).qmg.qs = x0.qmg.qs := by
  unfold State.tileIdle; (repeat' split) <;> simp

@[simp] theorem State.truncOnce_qmg_qs (x0 x1 x2) : (State.truncOnce x0 x1 x2).qmg.qs = x0.qmg.qs := by
  unfold State.truncOnce; dsimp only; (repeat' split) <;> simp

@[simp] theorem Io.writePairs_qmg_qs (x0 x1 x2 x3 x4) : (Io.writePairs x0 x1 x2 x3 x4).2.s.qmg.qs = x4.s.qmg.qs := by
  unfold Io.writePairs; dsimp only; (repeat' split) <;> simp

@[simp] theorem State.dropRun_qmg_qs (x0 x1) : (State.dropRun x0 x1).qmg.qs = x0.qmg.qs := by
  simp [State.dropRun]

@[simp] theorem Io.readPairs_grp (x0 x1) : (Io.readPairs x0 x1).2.s.grp = x1.s.grp := by
  unfold Io.readPairs; dsimp only; (repeat' split) <;> simp

@[simp] theorem Io.mask_grp (x0 x1 x2) : (Io.mask x0 x1 x2).2.s.grp = x0.s.grp := by
  unfold Io.mask; dsimp only; (repeat' split) <;> simp

@[simp] theorem Io.readBlocks_grp (x0 x1 x2 x3 x4 x5 x6) : (Io.readBlocks x0 x1 x2 x3 x4 x5 x6).2.s.grp = x6.s.grp := by
  induction x5 generalizing x0 x1 x2 x3 x4 x6 <;> simp only [Io.readBlocks] <;> (repeat' split) <;> simp [*]

@[simp] theorem Io.readRun_grp (x0 x1 x2 x3 x4 x5 x6) : (Io.readRun x0 x1 x2 x3 x4 x5 x6).2.s.grp = x0.s.grp := by
  unfold Io.readRun; dsimp only; (repeat' split) <;> simp

@[simp] theorem Io.readRegions_grp (x0 x1 x2 x3 x4 x5 x6 x7 x8) : (Io.readRegions x0 x1 x2 x3 x4 x5 x6 x7 x8).2.s.grp = x8.s.grp := by
  induction x5 generalizing x0 x1 x2 x3 x4 x6 x7 x8 <;> simp [Io.readRegions, *]

@[simp] theorem State.readSrc_grp (x0 x1 x2 x3) : (State.readSrc x0 x1 x2 x3).2.s.grp = x3.s.grp := by
  unfold State.readSrc; dsimp only; (repeat' split) <;> simp

@[simp] theorem Io.writeBlocks_grp (x0 x1 x2 x3 x4 x5 x6 x7 x8) : (Io.writeBlocks x0 x1 x2 x3 x4 x5 x6 x7 x8).s.grp = x8.s.grp := by
  induction x7 generalizing x0 x1 x2 x3 x4 x5 x6 x8 <;> unfold Io.writeBlocks <;> (repeat' split) <;> simp [*]

@[simp] theorem Io.writeRegions_grp (x0 x1 x2 x3 x4 x5) : (Io.writeRegions x0 x1 x2 x3 x4 x5).s.grp = x5.s.grp := by
  induction x4 generalizing x0 x1 x2 x3 x5 <;> simp [Io.writeRegions, *]

@[simp] theorem Io.writeOut_grp (x0 x1 x2 x3 x4) : (Io.writeOut x0 x1 x2 x3 x4).s.grp = x0.s.grp := by
  unfold Io.writeOut; dsimp only; (repeat' split) <;> simp

@[simp] theorem Io.writeRecv_grp (x0 x1 x2 x3) : (Io.writeRecv x0 x1 x2 x3).s.grp = x3.s.grp := by
  induction x2 generalizing x0 x1 x3 <;> simp [Io.writeRecv, *]

@[simp] theorem Io.readPacked_grp (x0 x1 x2 x3 x4) : (Io.readPacked x0 x1 x2 x3 x4).2.s.grp = x4.s.grp := by
  induction x1 generalizing x0 x2 x3 x4 <;> simp [Io.readPacked, *]

@[simp] theorem State.sendXfers_grp (x0 x1 x2) : (State.sendXfers x0 x1 x2).grp = x0.grp := by
  simp [State.sendXfers]

@[simp] theorem State.sendParts_grp (x0 x1 x2 x3 x4) : (State.sendParts x0 x1 x2 x3 x4).grp = x0.grp := by
  simp [State.sendParts]

@[simp] theorem State.sendCols_grp (x0 x1 x2 x3 x4) : (State.sendCols x0 x1 x2 x3 x4).grp = x0.grp := by
  unfold State.sendCols; (repeat' split) <;> simp

@[simp] theorem State.wr_grp (x0 x1 x2) : (State.wr x0 x1 x2).grp = x0.grp := by
  simp [State.wr]

@[simp] theorem State.setF_grp (x0 x1 x2 x3) : (@State.setF x0 x1 x2 x3).grp = x1.grp := by
  simp [State.setF]

@[simp] theorem State.incF_grp (x0 x1 x2 x3) : (@State.incF x0 x1 x2 x3).grp = x1.grp := by
  simp [State.incF]

@[simp] theorem Io.countSat_grp (x0 x1) : (Io.countSat x0 x1).s.grp = x0.s.grp := by
  unfold Io.countSat; (repeat' split) <;> simp

@[simp] theorem State.bufWrite_grp (x0 x1 x2 x3 x4) : (State.bufWrite x0 x1 x2 x3 x4).2.grp = x0.grp := by
  induction x2 generalizing x0 x1 x3 x4 <;> simp only [State.bufWrite] <;> (repeat' split) <;> simp [*]

@[simp] theorem State.placeRows_grp (x0 x1 x2 x3 x4 x5) : (State.placeRows x0 x1 x2 x3 x4 x5).2.grp = x0.grp := by
  induction x5 generalizing x0 x1 x2 x3 x4 <;> simp only [State.placeRows] <;> (repeat' split) <;> simp [*]

@[simp] theorem Io.placeAll_grp (x0 x1 x2 x3 x4) : (Io.placeAll x0 x1 x2 x3 x4).s.grp = x4.s.grp := by
  induction x3 generalizing x0 x1 x2 x4 <;> simp only [Io.placeAll] <;> (repeat' split) <;> simp [*]

@[simp] theorem Io.overRows_grp (x0 x1 x2 x3 x4) : (Io.overRows x0 x1 x2 x3 x4).s.grp = x4.s.grp := by
  induction x3 generalizing x0 x1 x2 x4 <;> simp [Io.overRows, *]

@[simp] theorem State.dispatchAt_grp (x0 x1 x2 x3 x4 x5 x6 x7) : (State.dispatchAt x0 x1 x2 x3 x4 x5 x6 x7).2.s.grp = x7.s.grp := by
  unfold State.dispatchAt; dsimp only; (repeat' split) <;> simp

@[simp] theorem Io.routes_grp (x0 x1 x2) : (Io.routes x0 x1 x2).2.s.grp = x0.s.grp := by
  unfold Io.routes; dsimp only; (repeat' split) <;> simp

@[simp] theorem Io.memRoutes_grp (x0 x1 x2) : (Io.memRoutes x0 x1 x2).2.s.grp = x2.s.grp := by
  unfold Io.memRoutes; (repeat' split) <;> simp

@[simp] theorem Io.rows_grp (x0 x1 x2 x3) : (Io.rows x0 x1 x2 x3).2.s.grp = x3.s.grp := by
  induction x2 generalizing x0 x1 x3 <;> simp only [Io.rows] <;> (repeat' split) <;> simp [*]

@[simp] theorem Io.outRows_grp (x0 x1 x2) : (Io.outRows x0 x1 x2).2.s.grp = x2.s.grp := by
  simp [Io.outRows]

@[simp] theorem State.combineRead_grp (x0 x1 x2 x3 x4) : (State.combineRead x0 x1 x2 x3 x4).2.s.grp = x4.s.grp := by
  simp [State.combineRead]

@[simp] theorem Io.dstRows_grp (x0 x1 x2 x3) : (Io.dstRows x0 x1 x2 x3).s.grp = x3.s.grp := by
  induction x2 generalizing x0 x1 x3 <;> simp [Io.dstRows, *]

@[simp] theorem State.sendRoutes_grp (x0 x1 x2 x3) : (State.sendRoutes x0 x1 x2 x3).grp = x0.grp := by
  simp [State.sendRoutes]

@[simp] theorem State.sendRows_grp (x0 x1 x2 x3) : (State.sendRows x0 x1 x2 x3).grp = x0.grp := by
  simp [State.sendRows]

@[simp] theorem State.sendPlans_grp (x0 x1 x2) : (State.sendPlans x0 x1 x2).grp = x0.grp := by
  simp [State.sendPlans]

@[simp] theorem State.setRing_grp (x0 x1 x2) : (State.setRing x0 x1 x2).grp = x0.grp := by
  simp [State.setRing]

@[simp] theorem State.dropEvent_grp (x0 x1) : (State.dropEvent x0 x1).grp = x0.grp := by
  simp [State.dropEvent]

@[simp] theorem State.vector_grp (x0 x1) : (State.vector x0 x1).grp = x0.grp := by
  unfold State.vector; dsimp only; (repeat' split) <;> simp

@[simp] theorem State.vectorDue_grp (x0 x1) : (State.vectorDue x0 x1).grp = x0.grp := by
  simp [State.vectorDue]

@[simp] theorem State.raise_grp (x0 x1) : (State.raise x0 x1).grp = x0.grp := by
  unfold State.raise; dsimp only; (repeat' split) <;> simp

@[simp] theorem State.putRecord_grp (x0 x1 x2 x3 x4) : (State.putRecord x0 x1 x2 x3 x4).grp = x0.grp := by
  unfold State.putRecord; dsimp only; (repeat' split) <;> simp

@[simp] theorem State.noteLost_grp (x0 x1) : (State.noteLost x0 x1).grp = x0.grp := by
  unfold State.noteLost; dsimp only; (repeat' split) <;> simp

@[simp] theorem State.postTo_grp (x0 x1 x2 x3) : (State.postTo x0 x1 x2 x3).grp = x0.grp := by
  unfold State.postTo; dsimp only; (repeat' split) <;> simp

@[simp] theorem State.post_grp (x0 x1) : (State.post x0 x1).grp = x0.grp := by
  simp [State.post]

@[simp] theorem State.postRun_grp (x0 x1 x2 x3 x4) : (State.postRun x0 x1 x2 x3 x4).grp = x0.grp := by
  unfold State.postRun; dsimp only; (repeat' split) <;> simp

@[simp] theorem State.countDecisions_grp (x0 x1 x2) : (State.countDecisions x0 x1 x2).grp = x0.grp := by
  unfold State.countDecisions; dsimp only; (repeat' split) <;> simp

@[simp] theorem State.sendOuts_grp (x0 x1 x2) : (State.sendOuts x0 x1 x2).grp = x0.grp := by
  simp [State.sendOuts]

@[simp] theorem State.satF_grp (x0 x1 x2 x3) : (@State.satF x0 x1 x2 x3).grp = x1.grp := by
  simp [State.satF]

@[simp] theorem State.colCount_grp (x0 x1 x2) : (State.colCount x0 x1 x2).grp = x0.grp := by
  simp [State.colCount]

@[simp] theorem State.setQ_grp (x0 x1 x2) : (State.setQ x0 x1 x2).grp = x0.grp := by
  simp [State.setQ]

@[simp] theorem State.setDesc_grp (x0 x1 x2 x3) : (State.setDesc x0 x1 x2 x3).grp = x0.grp := by
  simp [State.setDesc]

@[simp] theorem State.writeSlot_grp (x0 x1 x2 x3 x4) : (State.writeSlot x0 x1 x2 x3 x4).grp = x0.grp := by
  unfold State.writeSlot; dsimp only; (repeat' split) <;> simp

@[simp] theorem State.pauseDesc_grp (x0 x1 x2 x3) : (State.pauseDesc x0 x1 x2 x3).grp = x0.grp := by
  unfold State.pauseDesc; dsimp only; (repeat' split) <;> simp

@[simp] theorem State.postQ_grp (x0 x1 x2 x3 x4 x5 x6) : (State.postQ x0 x1 x2 x3 x4 x5 x6).grp = x0.grp := by
  simp [State.postQ]

@[simp] theorem State.faultDesc_grp (x0 x1 x2 x3 x4) : (State.faultDesc x0 x1 x2 x3 x4).grp = x0.grp := by
  unfold State.faultDesc; (repeat' split) <;> simp

@[simp] theorem State.park_grp (x0 x1 x2 x3) : (State.park x0 x1 x2 x3).grp = x0.grp := by
  unfold State.park; dsimp only; (repeat' split) <;> simp

@[simp] theorem State.parkAt_grp (x0 x1 x2 x3 x4) : (State.parkAt x0 x1 x2 x3 x4).grp = x0.grp := by
  unfold State.parkAt; dsimp only; (repeat' split) <;> simp

@[simp] theorem State.zeroKept_grp (x0 x1) : (State.zeroKept x0 x1).grp = x0.grp := by
  simp [State.zeroKept]

@[simp] theorem State.setWork_grp (x0 x1 x2) : (State.setWork x0 x1 x2).grp = x0.grp := by
  unfold State.setWork; dsimp only; (repeat' split) <;> simp

@[simp] theorem State.tileIdle_grp (x0 x1) : (State.tileIdle x0 x1).grp = x0.grp := by
  unfold State.tileIdle; (repeat' split) <;> simp


end Sys2Proof.Machine
end

section
/-!
PROOFS. The data stage of a collective operation at a node with one member.
-/

namespace Sys2Proof.Machine

/-! ### What the end of a run leaves as it was -/

@[simp] theorem foldl_out {α : Type} (f : State → α → State) (l : List α) (s : State) (h : ∀ s a, (f s a).out = s.out) :
    (l.foldl f s).out = s.out := foldl_keep (fun s => s.out) f l s h

@[simp] theorem foldl_mems_pool {α : Type} (f : State → α → State) (l : List α) (s : State) (h : ∀ s a, (f s a).mems.pool = s.mems.pool) :
    (l.foldl f s).mems.pool = s.mems.pool := foldl_keep (fun s => s.mems.pool) f l s h

@[simp] theorem State.zeroKept_mems_pool (x0 x1) : (State.zeroKept x0 x1).mems.pool = x0.mems.pool := by
  simp [State.zeroKept]

@[simp] theorem State.dropRun_mems_pool (x0 x1) : (State.dropRun x0 x1).mems.pool = x0.mems.pool := by
  simp [State.dropRun]

@[simp] theorem State.zeroKept_out (x0 x1) : (State.zeroKept x0 x1).out = x0.out := by
  simp [State.zeroKept]

@[simp] theorem State.wr_out (x0 x1 x2) : (State.wr x0 x1 x2).out = x0.out := by
  simp [State.wr]

@[simp] theorem State.setWork_out (x0 x1 x2) : (State.setWork x0 x1 x2).out = x0.out := by
  unfold State.setWork; dsimp only; (repeat' split) <;> simp

@[simp] theorem State.tileIdle_out (x0 x1) : (State.tileIdle x0 x1).out = x0.out := by
  unfold State.tileIdle; (repeat' split) <;> simp

@[simp] theorem State.dropRun_out (x0 x1) : (State.dropRun x0 x1).out = x0.out := by
  simp [State.dropRun]


/-! ### A descriptor among those of its queue -/

section
variable {s : State} {q : Nat} {i : BitVec 16} {d : Desc} (hd : s.desc q i = some d) (hw : swf QRec.idle s.qmg.qs = true) (f : Desc → Desc)
  (hf : ∀ e, (f e).idx = e.idx)
include hd hw hf

theorem State.desc_setDesc : (s.setDesc q i f).desc q i = some (f d) := by
  have hmap : ∀ l : List Desc, l.find? (fun e => e.idx == i) = some d →
      (l.map (fun e => if e.idx == i then f e else e)).find? (fun e => e.idx == i) = some (f d) := fun l => by
    induction l with
    | nil => intro h; cases h
    | cons e l ih =>
      intro h
      rw [List.map_cons]
      by_cases he : (e.idx == i) = true
      · rw [List.find?_cons_of_pos (by exact he)] at h
        cases h
        rw [if_pos he, List.find?_cons_of_pos (by rw [hf]; exact he)]
      · rw [List.find?_cons_of_neg (by exact he)] at h
        rw [if_neg he, List.find?_cons_of_neg (by exact he), ih h]
  unfold State.desc State.setDesc
  rw [State.q_setQ _ hw]
  exact hmap _ hd

theorem State.desc_finish (st : Status) : (s.finish q i st f).desc q i = some { f d with status := st, st := .finished } :=
  State.desc_setDesc hd hw (fun d => { f d with status := st, st := .finished }) hf

end

/-! ### The end of a run with one member -/

/-- From `s` to `t` the descriptors are as they were, and the runs are the same ones. -/
def State.KeepsRuns (s t : State) : Prop := t.qmg.qs = s.qmg.qs ∧ t.grp.runs.map Run.inst = s.grp.runs.map Run.inst

theorem State.KeepsRuns.of_grp {s t : State} (hq : t.qmg.qs = s.qmg.qs) (hg : t.grp = s.grp) : s.KeepsRuns t := ⟨hq, by rw [hg]⟩

theorem State.KeepsRuns.trans {s t u : State} (h : s.KeepsRuns t) (k : t.KeepsRuns u) : s.KeepsRuns u := ⟨k.1.trans h.1, k.2.trans h.2⟩

/-- The run is over, and its member finished with its rounds as PROGRESS. -/
def State.RunOver (r : Run) (m : RunMember) (t : State) : Prop :=
  t.grp.runs = [] ∧ (t.memDesc m).map (fun x => (x.st, x.prog)) = some (.finished, r.done)

/-- The run waits for its member, which is parked. -/
def RunPaused (t : State) : Prop := ∃ u : Run, t.grp.runs = [u] ∧ u.paused = true ∧ u.mems = []

@[simp] theorem State.showRun_grp (s : State) (r : Run) : (s.showRun r).grp = s.grp := by
  simp [State.showRun]

theorem State.setRun_one {s : State} {x r : Run} (h : s.grp.runs = [x]) (hi : x.inst = r.inst) : (s.setRun r).grp.runs = [r] := by
  have hs : (s.run r.inst).isSome = true := by
    unfold State.run
    rw [h, List.find?_cons_of_pos (by simp [hi])]
    rfl
  unfold State.setRun
  dsimp only
  rw [if_pos hs, h]
  simp [hi]

theorem dropRuns_nil {l : List Run} {n : Nat} (h : l.map Run.inst = [n]) : dropWhere (fun x => x.inst == n) l = [] := by
  obtain ⟨x, rfl, hx⟩ := List.map_eq_singleton_iff.1 h
  simp [dropWhere, hx]

theorem State.dropRun_runs {s : State} {r : Run} (h : s.grp.runs.map Run.inst = [r.inst]) : (s.dropRun r).grp.runs = [] := by
  have hd := dropRuns_nil h
  unfold State.dropRun
  simp [hd]

theorem State.retryRuns_none {s : State} (h : s.grp.runs = []) : s.retryRuns = s := by
  unfold State.retryRuns
  rw [h]
  rfl

section
variable {s u : State} {r : Run} {m : RunMember} {d : Desc} (hruns : s.grp.runs = [r]) (hd : s.memDesc m = some d)
  (hw : swf QRec.idle s.qmg.qs = true) (hk : s.KeepsRuns u)
include hruns hd hw hk

theorem State.kept_member : u.memDesc m = some d ∧ swf QRec.idle u.qmg.qs = true ∧ u.grp.runs.map Run.inst = [r.inst] := by
  obtain ⟨hq, hi⟩ := hk
  refine ⟨(State.desc_of_qs hq _ _).trans hd, by rw [hq]; exact hw, ?_⟩
  rw [hi, hruns]
  rfl

/-- The member's end as a run ends with one result. -/
theorem State.endRun_one (e : MemEnd) (he : e.m = m) : (u.endRun r [e]).grp.runs = [] ∧ (u.endRun r [e]).memDesc m =
    some { d with prog := r.done, sat := d.sat || e.sat, drop := d.drop || e.drop, faultWord := BitVec.ofNat 4 e.word, status := e.st, st := .finished } := by
  obtain ⟨hud, huw, hui⟩ := State.kept_member hruns hd hw hk
  have hg : ∀ f, (u.finish m.2.1.toNat m.2.2 e.st f).grp = u.grp := fun f => by simp [State.finish]
  generalize hf : (fun d : Desc => ({ d with prog := r.done, sat := d.sat || e.sat, drop := d.drop || e.drop, faultWord := BitVec.ofNat 4 e.word } : Desc)) = f
  have hdr : ((u.finish m.2.1.toNat m.2.2 e.st f).dropRun r).grp.runs = [] := State.dropRun_runs (by rw [hg]; exact hui)
  have hend : u.endRun r [e] = (u.finish m.2.1.toNat m.2.2 e.st f).dropRun r := by
    subst he
    unfold State.endRun
    dsimp only [List.foldl_cons, List.foldl_nil]
    rw [hf, State.retryRuns_none hdr]
  rw [hend]
  refine ⟨hdr, ?_⟩
  unfold State.memDesc
  rw [State.desc_of_qs (State.dropRun_qmg_qs _ _), State.desc_finish hud huw f (fun x => by rw [← hf]), ← hf]

theorem State.endRun_over (e : MemEnd) (he : e.m = m) : (u.endRun r [e]).RunOver r m := by
  obtain ⟨h1, h2⟩ := State.endRun_one hruns hd hw hk e he
  exact ⟨h1, by rw [h2]; rfl⟩

variable (hm : r.mems = [m])
include hm

theorem State.abortRun_over (st : Status) (n : NodeId) (who : Option (RunMember × Nat)) (hwho : ∀ x, who = some x → x.1 = m) :
    (u.abortRun r st n who).RunOver r m := by
  obtain ⟨hud, huw, hui⟩ := State.kept_member hruns hd hw hk
  generalize hv : (u.emit (.abortRec r.group r.seq st n)).incF F.GRP_ABORT_CNT_COUNT 1 = v
  have hvq : v.qmg.qs = u.qmg.qs := by rw [← hv]; simp
  have hvg : v.grp = u.grp := by rw [← hv]; simp
  have hvd : v.memDesc m = some d := (State.desc_of_qs hvq _ _).trans hud
  have hfin : v.finishMems r st = v.finish m.2.1.toNat m.2.2 st (fun d => { d with prog := r.done }) := by
    unfold State.finishMems
    rw [hm]
    rfl
  have hfd := State.desc_finish hvd (by rw [hvq]; exact huw) (fun d => { d with prog := r.done }) (fun _ => rfl) st
  have hfw := State.setDesc_wf (s := v) (q := m.2.1.toNat) (idx := m.2.2)
    (f := fun d => { ({ d with prog := r.done } : Desc) with status := st, st := .finished }) (by rw [hvq]; exact huw)
  generalize hx : (match who with
    | some (m, w) => (v.finishMems r st).setDesc m.2.1.toNat m.2.2 (fun d => { d with faultWord := BitVec.ofNat 4 w })
    | none => v.finishMems r st) = x
  have hxg : x.grp = u.grp := by
    rw [← hx, hfin]
    split <;> simp [hvg, State.finish]
  have hxd : (x.memDesc m).map (fun x => (x.st, x.prog)) = some (.finished, r.done) := by
    rw [← hx, hfin]
    rcases who with _ | ⟨m', w⟩
    · exact congrArg (Option.map (fun x : Desc => (x.st, x.prog))) hfd
    · have hm' : m' = m := hwho _ rfl
      subst hm'
      exact congrArg (Option.map (fun x : Desc => (x.st, x.prog)))
        (State.desc_setDesc hfd hfw (fun d => { d with faultWord := BitVec.ofNat 4 w }) (fun _ => rfl))
  have hend : u.abortRun r st n who = (x.postRun r 0x6A st (256 * n.toNat + st.toNat)).dropRun r := by
    unfold State.abortRun
    dsimp only
    rw [hv]
    subst hx
    rfl
  rw [hend]
  refine ⟨State.dropRun_runs (by rw [State.postRun_grp, hxg]; exact hui), ?_⟩
  unfold State.memDesc
  rw [State.desc_of_qs ((State.dropRun_qmg_qs _ _).trans (State.postRun_qmg_qs _ _ _ _ _))]
  exact hxd

theorem State.parkMems_paused (va : Nat) (b : Bool) : RunPaused (u.parkMems { r with sentOut := b } [(m, va)]) := by
  obtain ⟨-, -, hui⟩ := State.kept_member hruns hd hw hk
  obtain ⟨x, hx, hxi⟩ := List.map_eq_singleton_iff.1 hui
  have hrest : r.mems.filter (fun y => !([(m, va)].any (fun x => x.1 == y))) = [] := by rw [hm]; simp
  generalize hv : u.parkAt m.2.1.toNat m.2.2 va (fun d => { d with prog := r.done }) = v
  have hvr : v.grp.runs = [x] := by rw [← hv, State.parkAt_grp, hx]
  have hp : u.parkMems { r with sentOut := b } [(m, va)] =
      v.setRun { r with sentOut := b, paused := true, mems := r.mems.filter (fun y => !([(m, va)].any (fun x => x.1 == y))) } := by
    rw [← hv]
    rfl
  rw [hp, hrest]
  exact ⟨_, State.setRun_one hvr hxi, rfl, rfl⟩

end

/-! ### The data stage with one member (R91, R396, R398, R421) -/

/-- Reading at one member. -/
theorem Io.readAll_one {β : Type} (coll : Bool) (f : Desc → Io → β × Io) (m : RunMember) (d : Desc) (i : Io) :
    Io.readAll coll f [(m, d)] i = match (f d (i.at m.2.1.toNat d)).2.stop coll m with
      | some st => ([], some st, (f d (i.at m.2.1.toNat d)).2)
      | none => ([(m.1, (f d (i.at m.2.1.toNat d)).1)], none, (f d (i.at m.2.1.toNat d)).2) := by
  unfold Io.readAll
  rfl

/-- Writing at one member. -/
theorem Io.writeAll_one (coll : Bool) (f : Nat → Desc → Io → Bool × Io) (m : RunMember) (d : Desc) (i : Io) :
    Io.writeAll coll f [(m, d)] i = match (f m.1 d (i.at m.2.1.toNat d)).2.stop coll m with
      | some (.page _ va) => ([], [(m, va)], (f m.1 d (i.at m.2.1.toNat d)).2)
      | some (.fail _ st w) => ([⟨m, st, w, (f m.1 d (i.at m.2.1.toNat d)).2.sat, (f m.1 d (i.at m.2.1.toNat d)).1⟩], [], (f m.1 d (i.at m.2.1.toNat d)).2)
      | none => ([⟨m, stOk, 0, (f m.1 d (i.at m.2.1.toNat d)).2.sat, (f m.1 d (i.at m.2.1.toNat d)).1⟩], [], (f m.1 d (i.at m.2.1.toNat d)).2) := by
  unfold Io.writeAll
  rfl

theorem Io.stop_page {i : Io} {coll : Bool} {m m' : RunMember} {va : Nat} (h : i.stop coll m = some (.page m' va)) : m' = m ∧ coll = false := by
  unfold Io.stop at h
  split at h
  · cases h
  · cases coll
    · cases h
      exact ⟨rfl, rfl⟩
    · cases h
  · cases h

theorem Io.stop_fail {i : Io} {coll : Bool} {m m' : RunMember} {st : Status} {w : Nat} (h : i.stop coll m = some (.fail m' st w)) : m' = m := by
  unfold Io.stop at h
  split at h
  · cases h
    rfl
  · cases coll
    · cases h
    · cases h
      rfl
  · cases h

section
variable {β : Type} {s : State} {inst kind : Nat} {resps : List Resp} {read : Run → Desc → Io → β × Io}
  {write : Run → List (Nat × β) → Nat → Desc → Io → Bool × Io} {send : State → Run → Desc → List (Nat × β) → State}
  {check : State → Run → Desc → List (Nat × β) → Option (Status × Option Nat)}

theorem State.stage_not (h : ∀ r, s.run inst = some r → r.due = false) : s.stage inst kind resps read write send check = s := by
  unfold State.stage
  rcases hr : s.run inst with _ | r
  · rfl
  · dsimp only
    rcases s.runMems r with _ | ⟨⟨m, d⟩, ms⟩
    · rfl
    · dsimp only
      rw [if_pos (Or.inl (by rw [h r hr]; rfl))]

variable {r : Run} {m : RunMember} {d : Desc} (hr : s.run inst = some r) (hms : s.runMems r = [(m, d)]) (hdue : r.due = true) (hk : d.kind = kind)
include hr hms hdue hk

theorem State.stage_empty (hc : d.count = 0) : s.stage inst kind resps read write send check = s.endRun r [⟨m, stOk, 0, false, false⟩] := by
  unfold State.stage
  rw [hr]
  dsimp only
  rw [hms]
  dsimp only
  rw [if_neg (by simp [hdue, hk]), if_pos hc]
  rfl

variable (hc : d.count ≠ 0) {x : β} {j : Io} (hread : read r d ((s.runIo resps).at m.2.1.toNat d) = (x, j))
include hc hread

theorem State.stage_stops {st : RunStop} (hs : j.stop (decide (kind ≤ 5)) m = some st) : s.stage inst kind resps read write send check =
    match st with
    | .page m' va => j.s.parkMems r [(m', va)]
    | .fail m' st w => j.s.abortRun r st s.node (some (m', w)) := by
  have hra : Io.readAll (decide (kind ≤ 5)) (read r) [(m, d)] (s.runIo resps) = ([], some st, j) := by
    rw [Io.readAll_one, hread]
    dsimp only
    rw [hs]
  unfold State.stage
  rw [hr]
  dsimp only
  rw [hms]
  dsimp only
  rw [if_neg (by simp [hdue, hk]), if_neg hc, hra]
  cases st <;> rfl

/-- The stage after its reading: a check that fails ends the run; else its data go out once, and the member writes. -/
theorem State.stage_goes (hs : j.stop (decide (kind ≤ 5)) m = none) : s.stage inst kind resps read write send check =
    match check j.s r d [(m.1, x)] with
    | some (st, none) => j.s.abortRun r st s.node none
    | some (st, some q) => ((j.s.colCount r.group.toNat q).post (j.s.colFail r q)).abortRun r st s.node none
    | none =>
      let k := if r.sentOut then j else { j with s := send j.s r d [(m.1, x)] }
      let w := write r [(m.1, x)] m.1 d (k.at m.2.1.toNat d)
      match w.2.stop (decide (kind ≤ 5)) m with
      | some (.page _ va) => w.2.s.parkMems { r with sentOut := true } [(m, va)]
      | some (.fail _ st n) => w.2.s.endRun r [⟨m, st, n, w.2.sat, w.1⟩]
      | none => w.2.s.endRun r [⟨m, stOk, 0, w.2.sat, w.1⟩] := by
  have hra : Io.readAll (decide (kind ≤ 5)) (read r) [(m, d)] (s.runIo resps) = ([(m.1, x)], none, j) := by
    rw [Io.readAll_one, hread]
    dsimp only
    rw [hs]
  unfold State.stage
  rw [hr]
  dsimp only
  rw [hms]
  dsimp only
  rw [if_neg (by simp [hdue, hk]), if_neg hc, hra]
  dsimp only
  rcases check j.s r d [(m.1, x)] with _ | ⟨st, _ | q⟩
  · dsimp only
    rw [Io.writeAll_one]
    generalize (write r [(m.1, x)] m.1 d ((if r.sentOut = true then j else { j with s := send j.s r d [(m.1, x)] }).at m.2.1.toNat d)) = w
    rcases w.2.stop (decide (kind ≤ 5)) m with _ | ⟨m', st, n⟩ | ⟨m', va⟩
    · rfl
    · rfl
    · rfl
  · rfl
  · rfl

end

/-- The reading, writing and sending of a data stage leave the descriptors and the runs. -/
structure StageKeeps {β : Type} (r : Run) (d : Desc) (read : Run → Desc → Io → β × Io) (write : Run → List (Nat × β) → Nat → Desc → Io → Bool × Io)
    (send : State → Run → Desc → List (Nat × β) → State) : Prop where
  read : ∀ i : Io, i.s.KeepsRuns (read r d i).2.s
  write : ∀ xs n (i : Io), i.s.KeepsRuns (write r xs n d i).2.s
  send : ∀ (t : State) xs, t.KeepsRuns (send t r d xs)

/-- A due stage with one member ends its run; a DISPATCH or a COMBINE may pause instead. -/
theorem State.stage_over_or_paused {β : Type} {s : State} {kind : Nat} {resps : List Resp} {read : Run → Desc → Io → β × Io}
    {write : Run → List (Nat × β) → Nat → Desc → Io → Bool × Io} {send : State → Run → Desc → List (Nat × β) → State}
    {check : State → Run → Desc → List (Nat × β) → Option (Status × Option Nat)} {r : Run} {m : RunMember} {d : Desc}
    (hruns : s.grp.runs = [r]) (hm : r.mems = [m]) (hd : s.memDesc m = some d) (hw : swf QRec.idle s.qmg.qs = true) (hms : s.runMems r = [(m, d)])
    (hdue : r.due = true) (hk : d.kind = kind) (hkeeps : StageKeeps r d read write send) :
    (s.stage r.inst kind resps read write send check).RunOver r m ∨ (6 ≤ kind ∧ RunPaused (s.stage r.inst kind resps read write send check)) := by
  have hr : s.run r.inst = some r := by
    unfold State.run
    rw [hruns]
    exact List.find?_cons_of_pos (by simp)
  by_cases hc : d.count = 0
  · rw [State.stage_empty hr hms hdue hk hc]
    exact Or.inl (State.endRun_over hruns hd hw ⟨rfl, rfl⟩ _ rfl)
  rcases hread : read r d ((s.runIo resps).at m.2.1.toNat d) with ⟨x, j⟩
  have hj : s.KeepsRuns j.s := by
    have := hkeeps.read ((s.runIo resps).at m.2.1.toNat d)
    rw [hread] at this
    exact this
  rcases hs : j.stop (decide (kind ≤ 5)) m with _ | ⟨m', st, n⟩ | ⟨m', va⟩
  · rw [State.stage_goes hr hms hdue hk hc hread hs]
    rcases check j.s r d [(m.1, x)] with _ | ⟨st, _ | q⟩
    · generalize hkk : (if r.sentOut = true then j else { j with s := send j.s r d [(m.1, x)] }) = k
      have hkk' : s.KeepsRuns k.s := by
        rw [← hkk]
        split
        · exact hj
        · exact hj.trans (hkeeps.send _ _)
      dsimp only
      have hwr := hkk'.trans (hkeeps.write [(m.1, x)] m.1 (k.at m.2.1.toNat d))
      generalize write r [(m.1, x)] m.1 d (k.at m.2.1.toNat d) = w at hwr ⊢
      rcases hws : w.2.stop (decide (kind ≤ 5)) m with _ | ⟨m', st, n⟩ | ⟨m', va⟩
      · exact Or.inl (State.endRun_over hruns hd hw hwr _ rfl)
      · exact Or.inl (State.endRun_over hruns hd hw hwr _ rfl)
      · refine Or.inr ⟨?_, State.parkMems_paused hruns hd hw hwr hm va true⟩
        have := (Io.stop_page hws).2
        simp at this
        omega
    · exact Or.inl (State.abortRun_over hruns hd hw hj hm _ _ _ (by simp))
    · refine Or.inl (State.abortRun_over hruns hd hw (hj.trans (State.KeepsRuns.of_grp ?_ ?_)) hm _ _ _ (by simp))
      · simp
      · simp
  · obtain rfl := Io.stop_fail hs
    rw [State.stage_stops hr hms hdue hk hc hread hs]
    exact Or.inl (State.abortRun_over hruns hd hw hj hm _ _ _ (by simp))
  · obtain ⟨rfl, hcoll⟩ := Io.stop_page hs
    rw [State.stage_stops hr hms hdue hk hc hread hs]
    refine Or.inr ⟨?_, State.parkMems_paused hruns hd hw hj hm va r.sentOut⟩
    simp at hcoll
    omega

/-! ### What the stages of the seven collectives keep -/

theorem State.truncOnce_insts (s : State) (r : Run) (n : Nat) : (s.truncOnce r n).grp.runs.map Run.inst = s.grp.runs.map Run.inst := by
  have hl : ∀ l : List Run, (l.map (fun y => if y.inst == r.inst then { y with trunc := true } else y)).map Run.inst = l.map Run.inst := fun l => by
    rw [List.map_map]
    refine List.map_congr_left fun y _ => ?_
    dsimp only [Function.comp]
    split <;> rfl
  unfold State.truncOnce
  split
  · rfl
  split
  · rfl
  · rw [State.postRun_grp]
    exact hl _

theorem Io.writePairs_insts (r : Run) (d : Desc) (l : List (Nat × Nat)) (n : Nat) (i : Io) :
    (Io.writePairs r d l n i).2.s.grp.runs.map Run.inst = i.s.grp.runs.map Run.inst := by
  unfold Io.writePairs
  dsimp only
  split
  · dsimp only
    rw [State.truncOnce_insts]
    simp
  · simp

theorem StageKeeps.of_grp {β : Type} {r : Run} {d : Desc} {read : Run → Desc → Io → β × Io} {write : Run → List (Nat × β) → Nat → Desc → Io → Bool × Io}
    {send : State → Run → Desc → List (Nat × β) → State} (hr : ∀ i : Io, (read r d i).2.s.qmg.qs = i.s.qmg.qs ∧ (read r d i).2.s.grp = i.s.grp)
    (hw : ∀ xs n (i : Io), (write r xs n d i).2.s.qmg.qs = i.s.qmg.qs ∧ (write r xs n d i).2.s.grp = i.s.grp)
    (hs : ∀ (t : State) xs, (send t r d xs).qmg.qs = t.qmg.qs ∧ (send t r d xs).grp = t.grp) : StageKeeps r d read write send :=
  ⟨fun i => State.KeepsRuns.of_grp (hr i).1 (hr i).2, fun xs n i => State.KeepsRuns.of_grp (hw xs n i).1 (hw xs n i).2,
    fun t xs => State.KeepsRuns.of_grp (hs t xs).1 (hs t xs).2⟩

/-- What a DISPATCH reads at a member, and what it sends. -/
def dispatchRead (r : Run) (d : Desc) (i : Io) : DispIn × Io :=
  let (rs, i) := Io.memRoutes r d i
  let (tr, i) := Io.rows d 6 (List.range d.tokens) i
  (⟨rs, tr⟩, i)
def dispatchSend (d0 : Desc) (s : State) (r : Run) (_ : Desc) (xs : List (Nat × DispIn)) : State :=
  let s := if r.routes.isSome then s else xs.foldl (fun s x => s.sendRoutes r d0 (x.1, x.2.routes)) s
  ((xs.foldl (fun s x => s.sendRows r d0 x) s).sendPlans r d0).countDecisions r d0

/-- Each collective is a stage of its kind that keeps descriptors and runs, where for a DISPATCH the experts have decided. -/
theorem exec_collective {s : State} {i : BitVec 6} {r : Run} {m : RunMember} {d : Desc} {c : Instr} {k : Nat} {xs : List Xfer} {parts : List PartX}
    {cols : List ColX} {rows : List RowX} {plans : List PlanX} {counts : List CountX} {resps : List Resp}
    (hc : (c, k) ∈ [(Instr.alltoall i xs resps, 1), (.alltoallv i xs resps, 2), (.reduceScatter i parts resps, 3), (.allGather i xs resps, 4),
      (.sparseReduce i cols resps, 5), (.dispatch i rows plans resps, 6), (.combine i ⟨rows, counts⟩ resps, 7)])
    (hr : s.run i.toNat = some r) (hm : r.mems = [m]) (hd : s.memDesc m = some d)
    (he : k = 6 → (s.localExperts d.emap).all (fun e => r.decisions.any (fun x => x.expert == e)) = true) :
    ∃ (f : State → State) (β : Type) (read : Run → Desc → Io → β × Io) (write : Run → List (Nat × β) → Nat → Desc → Io → Bool × Io)
      (send : State → Run → Desc → List (Nat × β) → State) (check : State → Run → Desc → List (Nat × β) → Option (Status × Option Nat)),
      exec c s = whenUp s f ∧ f s = s.stage i.toNat k resps read write send check ∧ StageKeeps r d read write send := by
  simp only [List.mem_cons, Prod.mk.injEq, List.not_mem_nil, or_false] at hc
  rcases hc with ⟨rfl, rfl⟩ | ⟨rfl, rfl⟩ | ⟨rfl, rfl⟩ | ⟨rfl, rfl⟩ | ⟨rfl, rfl⟩ | ⟨rfl, rfl⟩ | ⟨rfl, rfl⟩
  · refine ⟨fun s => s.dense i.toNat 1 xs resps, _, _, _, _, _, rfl, rfl, StageKeeps.of_grp ?_ ?_ ?_⟩
    · intro i; simp
    · intro xs n i; simp
    · intro t xs; simp
  · refine ⟨fun s => s.exchangeV i.toNat xs resps, _, _, _, _, _, rfl, rfl, StageKeeps.of_grp ?_ ?_ ?_⟩
    · intro i; simp
    · intro xs n i; simp
    · intro t xs; simp
  · refine ⟨fun s => s.reduceScatter i.toNat parts resps, _, _, _, _, _, rfl, rfl, StageKeeps.of_grp ?_ ?_ ?_⟩
    · intro i; simp
    · intro xs n i; simp
    · intro t xs; simp
  · refine ⟨fun s => s.dense i.toNat 4 xs resps, _, _, _, _, _, rfl, rfl, StageKeeps.of_grp ?_ ?_ ?_⟩
    · intro i; simp
    · intro xs n i; simp
    · intro t xs; simp
  · refine ⟨fun s => s.sparse i.toNat cols resps, _, _, _, _, _, rfl, rfl, ⟨?_, ?_, ?_⟩⟩
    · intro i; exact State.KeepsRuns.of_grp (by simp) (by simp)
    · intro xs n i; exact ⟨by simp, Io.writePairs_insts _ _ _ _ _⟩
    · intro t xs; exact State.KeepsRuns.of_grp (by simp) (by simp)
  · have hrd : s.runDesc r = some d := by
      unfold State.runDesc
      rw [hm]
      exact hd
    have hdisp : s.dispatch i.toNat rows plans resps = s.stage i.toNat 6 resps dispatchRead (s.dispatchAt rows plans) (dispatchSend d) (fun _ _ _ _ => none) := by
      unfold State.dispatch
      rw [hr]
      dsimp only
      rw [hrd]
      dsimp only
      rw [if_neg (by rw [he rfl]; decide)]
      rfl
    refine ⟨fun s => s.dispatch i.toNat rows plans resps, _, _, _, _, _, rfl, hdisp, StageKeeps.of_grp ?_ ?_ ?_⟩
    · intro i; simp [dispatchRead]
    · intro xs n i; simp
    · intro t xs
      unfold dispatchSend
      dsimp only
      split <;> simp
  · refine ⟨fun s => s.combine i.toNat rows counts resps, _, _, _, _, _, rfl, rfl, StageKeeps.of_grp ?_ ?_ ?_⟩
    · intro i; simp
    · intro xs n i
      dsimp only
      split
      · simp
      · dsimp only
        split <;> simp
    · intro t xs; simp

/-- Where COUNT is 0 the end of the run changes neither the pool nor what goes out. -/
theorem State.endRun_empty {s : State} {r : Run} {m : RunMember} {d : Desc} (hruns : s.grp.runs = [r]) (hd : s.memDesc m = some d)
    (hw : swf QRec.idle s.qmg.qs = true) : (s.endRun r [⟨m, stOk, 0, false, false⟩]).grp.runs = [] ∧
      ((s.endRun r [⟨m, stOk, 0, false, false⟩]).memDesc m).map (fun x => (x.st, x.status, x.prog)) = some (.finished, stOk, r.done) ∧
      (s.endRun r [⟨m, stOk, 0, false, false⟩]).mems.pool = s.mems.pool ∧ (s.endRun r [⟨m, stOk, 0, false, false⟩]).out = s.out := by
  obtain ⟨h1, h2⟩ := State.endRun_one hruns hd hw ⟨rfl, rfl⟩ ⟨m, stOk, 0, false, false⟩ rfl
  have hend : ∃ f, s.endRun r [⟨m, stOk, 0, false, false⟩] = (s.finish m.2.1.toNat m.2.2 stOk f).dropRun r := by
    refine ⟨_, State.retryRuns_none ?_⟩
    refine State.dropRun_runs ?_
    simp [State.finish, hruns]
  obtain ⟨f, hf⟩ := hend
  refine ⟨h1, by rw [h2]; rfl, ?_, ?_⟩
  · rw [hf]
    simp [State.finish]
  · rw [hf]
    simp [State.finish]

theorem Io.stop_of_err {i : Io} {st : Status} {w : Nat} (h : i.err = some (st, w)) (coll : Bool) (m : RunMember) : i.stop coll m = some (.fail m st w) := by
  unfold Io.stop
  rw [h]

theorem Io.stop_none {i : Io} (he : i.err = none) (hp : i.pause = none) (coll : Bool) (m : RunMember) : i.stop coll m = none := by
  unfold Io.stop
  rw [he, hp]

section
variable {s : State} {i : Nat} {r : Run} {m : RunMember} {d : Desc} {resps : List Resp} {src : List (Nat × List (Option Bytes))} {j : Io}
  (hr : s.run i = some r) (hms : s.runMems r = [(m, d)]) (hdue : r.due = true) (hc : d.count ≠ 0)
  (hread : s.readSrc r d ((s.runIo resps).at m.2.1.toNat d) = (src, j))
include hr hms hdue hc hread

theorem State.dense_fails {k : Nat} {others : List Xfer} (hk : d.kind = k) {st : Status} {w : Nat} (he : j.err = some (st, w)) :
    s.dense i k others resps = j.s.abortRun r st s.node (some (m, w)) :=
  State.stage_stops hr hms hdue hk hc hread (Io.stop_of_err he _ _)

theorem State.reduceScatter_fails {others : List PartX} (hk : d.kind = 3) {st : Status} {w : Nat} (he : j.err = some (st, w)) :
    s.reduceScatter i others resps = j.s.abortRun r st s.node (some (m, w)) :=
  State.stage_stops hr hms hdue hk hc hread (Io.stop_of_err he _ _)

variable (hs : r.sentOut = false) (he : j.err = none) (hp : j.pause = none)
include hs he hp

theorem State.dense_writes {k : Nat} {others : List Xfer} (hk : d.kind = k) {w : Io} (hwr : (({ j with s := j.s.sendXfers r [(m.1, src)] } : Io).at m.2.1.toNat d).writeOut d d.outTy d.count
      (((List.range (s.grpN r.group.toNat)).map (fun a => blocksFrom d.inTy [(m.1, src)] others a m.1)).map (fun x => (d.count, x.2.map sentBlock))) = w) :
    (w.err = none → w.pause = none → s.dense i k others resps = w.s.endRun r [⟨m, stOk, 0, w.sat, false⟩]) ∧
      (∀ st n, w.err = some (st, n) → s.dense i k others resps = w.s.endRun r [⟨m, st, n, w.sat, false⟩]) := by
  have hgo : s.dense i k others resps = match w.stop (decide (k ≤ 5)) m with
      | some (.page _ va) => w.s.parkMems { r with sentOut := true } [(m, va)]
      | some (.fail _ st n) => w.s.endRun r [⟨m, st, n, w.sat, false⟩]
      | none => w.s.endRun r [⟨m, stOk, 0, w.sat, false⟩] := by
    refine (State.stage_goes hr hms hdue hk hc hread (Io.stop_none he hp _ _)).trans ?_
    dsimp only
    rw [if_neg (by simp [hs]), hwr]
  refine ⟨fun h1 h2 => ?_, fun st n h => ?_⟩
  · rw [hgo, Io.stop_none h1 h2]
  · rw [hgo, Io.stop_of_err h]

theorem State.reduceScatter_writes {others : List PartX} (hk : d.kind = 3) (hbad : j.s.badPart r d [(m.1, src)] others = none) {w : Io}
    (hwr : ((({ j with s := j.s.sendParts r d [(m.1, src)] others } : Io).at m.2.1.toNat d).countSat (s.reduced r.group.toNat d [(m.1, src)] others m.1).2).writeOut d d.outTy d.count
      [(d.count, (s.reduced r.group.toNat d [(m.1, src)] others m.1).1)] = w) :
    (w.err = none → w.pause = none → s.reduceScatter i others resps = w.s.endRun r [⟨m, stOk, 0, w.sat, false⟩]) ∧
      (∀ st n, w.err = some (st, n) → s.reduceScatter i others resps = w.s.endRun r [⟨m, st, n, w.sat, false⟩]) := by
  have hgo : s.reduceScatter i others resps = match w.stop (decide (3 ≤ 5)) m with
      | some (.page _ va) => w.s.parkMems { r with sentOut := true } [(m, va)]
      | some (.fail _ st n) => w.s.endRun r [⟨m, st, n, w.sat, false⟩]
      | none => w.s.endRun r [⟨m, stOk, 0, w.sat, false⟩] := by
    refine (State.stage_goes hr hms hdue hk hc hread (Io.stop_none he hp _ _)).trans ?_
    dsimp only
    rw [hbad]
    dsimp only [Option.map_none]
    rw [if_neg (by simp [hs]), hwr]
  refine ⟨fun h1 h2 => ?_, fun st n h => ?_⟩
  · rw [hgo, Io.stop_none h1 h2]
  · rw [hgo, Io.stop_of_err h]

end

theorem State.dispatch_not {s : State} {i : Nat} {rows : List RowX} {plans : List PlanX} {resps : List Resp} (h : ∀ r, s.run i = some r → r.due = false) :
    s.dispatch i rows plans resps = s := by
  unfold State.dispatch
  split
  · rfl
  split
  · rfl
  split
  · rfl
  · exact State.stage_not h

/-- Settles O18. -/
theorem collectives : Obligations.Collectives := by
  refine ⟨⟨fun s i r m d c k xs parts cols rows plans counts resps hc hu hruns hi hm hd hms hdue hk he hw => ?_,
      fun s i c xs parts cols rows plans counts resps hc hu h => ?_⟩,
    fun s i r m d resps src j hu hr hms hdue hs hcount hread => ⟨fun c k others hc hk => ?_, fun others hk => ?_⟩⟩
  · have hr : s.run r.inst = some r := by
      unfold State.run
      rw [hruns]
      exact List.find?_cons_of_pos (by simp)
    obtain ⟨f, β, read, write, send, check, hex, hf, hkeeps⟩ := exec_collective (xs := xs) (parts := parts) (cols := cols) (rows := rows) (plans := plans)
      (counts := counts) (resps := resps) hc (by rw [← hi]; exact hr) hm hd he
    rw [← hi] at hf
    have hover := State.stage_over_or_paused (resps := resps) (check := check) hruns hm hd hw hms hdue hk hkeeps
    refine ⟨fun h0 => goes_up hex hu ?_, fun h5 => goes_up hex hu ?_, fun h6 => goes_up hex hu ?_⟩
    · rw [hf, State.stage_empty hr hms hdue hk h0]
      exact State.endRun_empty hruns hd hw
    · rw [hf]
      rcases hover with h | ⟨h, -⟩
      · exact h
      · omega
    · rw [hf]
      rcases hover with h | ⟨-, h⟩
      · exact Or.inl h
      · exact Or.inr h
  · simp only [List.mem_cons, List.not_mem_nil, or_false] at hc
    rcases hc with rfl | rfl | rfl | rfl | rfl | rfl | rfl
    · exact exec_same_up (f := fun s => s.dense i.toNat 1 xs resps) rfl (State.stage_not h)
    · exact exec_same_up (f := fun s => s.exchangeV i.toNat xs resps) rfl (State.stage_not h)
    · exact exec_same_up (f := fun s => s.reduceScatter i.toNat parts resps) rfl (State.stage_not h)
    · exact exec_same_up (f := fun s => s.dense i.toNat 4 xs resps) rfl (State.stage_not h)
    · exact exec_same_up (f := fun s => s.sparse i.toNat cols resps) rfl (State.stage_not h)
    · exact exec_same_up (f := fun s => s.dispatch i.toNat rows plans resps) rfl (State.dispatch_not h)
    · exact exec_same_up (f := fun s => s.combine i.toNat rows counts resps) rfl (State.stage_not h)
  · have hex : exec c s = whenUp s (fun s => s.dense i.toNat k others resps) := by
      simp only [List.mem_cons, Prod.mk.injEq, List.not_mem_nil, or_false] at hc
      rcases hc with ⟨rfl, rfl⟩ | ⟨rfl, rfl⟩ <;> rfl
    refine ⟨fun st w he => exec_up hex hu (State.dense_fails hr hms hdue hcount hread hk he), fun he hp => ?_⟩
    obtain ⟨h1, h2⟩ := State.dense_writes (others := others) hr hms hdue hcount hread hs he hp hk rfl
    exact ⟨fun a b => exec_up hex hu (h1 a b), fun st n a => exec_up hex hu (h2 st n a)⟩
  · have hex : exec (.reduceScatter i others resps) s = whenUp s (fun s => s.reduceScatter i.toNat others resps) := rfl
    refine ⟨fun st w he => exec_up hex hu (State.reduceScatter_fails hr hms hdue hcount hread hk he), fun he hp hbad => ?_⟩
    obtain ⟨h1, h2⟩ := State.reduceScatter_writes (others := others) hr hms hdue hcount hread hs he hp hk hbad rfl
    exact ⟨fun a b => exec_up hex hu (h1 a b), fun st n a => exec_up hex hu (h2 st n a)⟩

end Sys2Proof.Machine
end

section
/-!
PROOFS. Group and expert-map tables: commands kept, commands done, writes to the two windows.
-/

namespace Sys2Proof.Machine

/-! ### The word a group or map command keeps -/

theorem cmdWord_toNat {op : Nat} (hop : op < 4) (g : BitVec 10) : (cmdWord op g).toNat = op * 2 ^ 28 + g.toNat :=
  (BitVec.toNat_ofNat _ _).trans (Nat.mod_eq_of_lt (by have := g.isLt; omega))

theorem fget_cmdWord_id {op : Nat} (hop : op < 4) (f : Fld 10) (hf : f.lo = 0) (g : BitVec 10) : fget f (cmdWord op g) = g := by
  apply BitVec.eq_of_toNat_eq
  rw [fget, BitVec.extractLsb'_toNat, cmdWord_toNat hop, hf, Nat.shiftRight_zero]
  have := g.isLt
  omega

theorem fget_cmdWord_op {op : Nat} (hop : op < 4) (f : Fld 4) (hf : f.lo = 28) (g : BitVec 10) : fget f (cmdWord op g) = BitVec.ofNat 4 op := by
  apply BitVec.eq_of_toNat_eq
  rw [fget, BitVec.extractLsb'_toNat, cmdWord_toNat hop, hf, Nat.shiftRight_eq_div_pow, BitVec.toNat_ofNat]
  have := g.isLt
  omega

/-- The result register of a command taken: it names the table, shows no error and is BUSY. -/
theorem State.showsTaken {s : State} {id : Fld 10} {err : Fld 4} {busy : Fld 1} (hid : id.lo = 0) (herr : err.lo = 24) (hb : busy.lo = 31)
    (hr : swf regReset s.regs = true) (g : BitVec 10) :
    (((s.setF id g).setF err 0).setF busy 1).on busy = true ∧ (((s.setF id g).setF err 0).setF busy 1).f id = g ∧
      (((s.setF id g).setF err 0).setF busy 1).f err = 0 := by
  have h1 := State.regs_setF s id g hr
  have h2 := State.regs_setF _ err 0 h1
  refine ⟨?_, ?_, ?_⟩
  · rw [State.on, State.f_setF_same _ busy 1 (by omega) h2]
    rfl
  · rw [State.f_setF_other _ busy id 1 h2 (Or.inr (by omega)), State.f_setF_other _ err id 0 h1 (Or.inr (by omega)), State.f_setF_same _ id g (by omega) hr]
  · rw [State.f_setF_other _ busy err 1 h2 (Or.inr (by omega)), State.f_setF_same _ err 0 (by omega) h1]

/-- The result register of a command done: not BUSY, with its error. -/
theorem State.showsDone {s : State} {err : Fld 4} {busy : Fld 1} (herr : err.lo = 24) (hb : busy.lo = 31)
    (hr : swf regReset s.regs = true) (e : BitVec 4) :
    ((s.setF busy 0).setF err e).on busy = false ∧ ((s.setF busy 0).setF err e).f err = e := by
  have h1 := State.regs_setF s busy 0 hr
  refine ⟨?_, State.f_setF_same _ err e (by omega) h1⟩
  rw [State.on, State.f_setF_other _ err busy e h1 (Or.inr (by omega)), State.f_setF_same _ busy 0 (by omega) hr]
  rfl

theorem State.grpCmd_busy {s : State} (v : R32) (h : s.on F.GRP_RES_BUSY = true) : s.grpCmd v = s := if_pos h

theorem State.emapCmd_busy {s : State} (v : R32) (h : s.on F.GRP_EMAP_RES_BUSY = true) : s.emapCmd v = s := if_pos h

theorem State.grpCmd_taken {s : State} {v : R32} (h : s.on F.GRP_RES_BUSY = false) :
    s.grpCmd v = ((State.setF { s with grp := { s.grp with cmd := some v } } F.GRP_RES_GROUP (fget F.GRP_CMD_GROUP v)).setF F.GRP_RES_ERR 0).setF
      F.GRP_RES_BUSY 1 := if_neg (by simp [h])

theorem State.emapCmd_taken {s : State} {v : R32} (h : s.on F.GRP_EMAP_RES_BUSY = false) :
    s.emapCmd v = ((State.setF { s with grp := { s.grp with emap := some v } } F.GRP_EMAP_RES_MAP (fget F.GRP_EMAP_CMD_MAP v)).setF
      F.GRP_EMAP_RES_ERR 0).setF F.GRP_EMAP_RES_BUSY 1 := if_neg (by simp [h])

theorem State.grpCmd_keeps {s : State} {op : Nat} (hop : op < 4) (g : BitVec 10) (h : s.on F.GRP_RES_BUSY = false) (hr : swf regReset s.regs = true) :
    (s.grpCmd (cmdWord op g)).grp.cmd = some (cmdWord op g) ∧ (s.grpCmd (cmdWord op g)).on F.GRP_RES_BUSY = true ∧
      (s.grpCmd (cmdWord op g)).f F.GRP_RES_GROUP = g ∧ (s.grpCmd (cmdWord op g)).f F.GRP_RES_ERR = 0 ∧ (s.grpCmd (cmdWord op g)).mems = s.mems := by
  rw [State.grpCmd_taken h, fget_cmdWord_id hop _ rfl]
  generalize hu : ({ s with grp := { s.grp with cmd := some (cmdWord op g) } } : State) = u
  obtain ⟨hb, hg, he⟩ := State.showsTaken (s := u) (id := F.GRP_RES_GROUP) (err := F.GRP_RES_ERR) (busy := F.GRP_RES_BUSY) rfl rfl rfl
    (by rw [← hu]; exact hr) g
  refine ⟨?_, hb, hg, he, ?_⟩
  · simp only [State.setF_grp]; rw [← hu]
  · simp only [State.setF_frame]; rw [← hu]

theorem State.emapCmd_keeps {s : State} {op : Nat} (hop : op < 4) (m : BitVec 10) (h : s.on F.GRP_EMAP_RES_BUSY = false) (hr : swf regReset s.regs = true) :
    (s.emapCmd (cmdWord op m)).grp.emap = some (cmdWord op m) ∧ (s.emapCmd (cmdWord op m)).on F.GRP_EMAP_RES_BUSY = true ∧
      (s.emapCmd (cmdWord op m)).f F.GRP_EMAP_RES_MAP = m ∧ (s.emapCmd (cmdWord op m)).f F.GRP_EMAP_RES_ERR = 0 ∧
      (s.emapCmd (cmdWord op m)).mems = s.mems := by
  rw [State.emapCmd_taken h, fget_cmdWord_id hop _ rfl]
  generalize hu : ({ s with grp := { s.grp with emap := some (cmdWord op m) } } : State) = u
  obtain ⟨hb, hg, he⟩ := State.showsTaken (s := u) (id := F.GRP_EMAP_RES_MAP) (err := F.GRP_EMAP_RES_ERR) (busy := F.GRP_EMAP_RES_BUSY) rfl rfl rfl
    (by rw [← hu]; exact hr) m
  refine ⟨?_, hb, hg, he, ?_⟩
  · simp only [State.setF_grp]; rw [← hu]
  · simp only [State.setF_frame]; rw [← hu]

/-! ### The words of the two tables -/

theorem leNat_rdN8_lt (m : Mem) (a : Nat) : leNat (Mem.rdN m a 8) < 2 ^ 64 := by
  have h := leNat_lt (Mem.rdN m a 8)
  rw [Mem.rdN_length] at h
  exact h

/-- A word of eight bytes written is read as its value. -/
theorem leNat_rdN8_same (m : Mem) (a v : Nat) (h : Mem.wf m = true) (hv : v < 2 ^ 64) : leNat (Mem.rdN (Mem.wrN m a (natLe 8 v)) a 8) = v := by
  have hs := Mem.rdN_same m a (natLe 8 v) h
  rw [natLe_length] at hs
  rw [hs, leNat_natLe]
  exact Nat.mod_eq_of_lt hv

theorem leNat_rdN8_other (m : Mem) (a b v : Nat) (h : b + 8 ≤ a ∨ a + 8 ≤ b) :
    leNat (Mem.rdN (Mem.wrN m a (natLe 8 v)) b 8) = leNat (Mem.rdN m b 8) := by
  rw [Mem.rdN_other]
  rw [natLe_length]
  exact h

/-- The bit LIVE of a word whose other bits are kept. -/
theorem bitAt_double (x : Nat) (b : Bool) : bitAt (2 * x + b2n b) 0 = b := by
  cases b <;> simp [bitAt, b2n]

theorem double_lt {x : Nat} (hx : x < 2 ^ 64) (b : Bool) : 2 * (x / 2) + b2n b < 2 ^ 64 := by
  cases b <;> simp [b2n] <;> omega

theorem State.grpW_lt (s : State) (g w : Nat) : s.grpW g w < 2 ^ 64 := leNat_rdN8_lt _ _

theorem State.grpLive_setGrpLive {s : State} (g : Nat) (v : Bool) (h : Mem.wf s.mems.grp = true) : (s.setGrpLive g v).grpLive g = v := by
  unfold State.grpLive State.grpW State.setGrpLive
  dsimp only
  rw [Nat.mul_zero, Nat.add_zero, leNat_rdN8_same _ _ _ h (double_lt (s.grpW_lt g 0) v), bitAt_double]

theorem State.grpW_setGrpLive_other (s : State) (g w : Nat) (v : Bool) (hw : w ≠ 0) : (s.setGrpLive g v).grpW g w = s.grpW g w := by
  unfold State.grpW State.setGrpLive
  exact leNat_rdN8_other _ _ _ _ (Or.inr (by omega))

theorem State.ehW_setEhW_same {s : State} (m w v : Nat) (h : Mem.wf s.mems.ehdr = true) (hv : v < 2 ^ 64) : (s.setEhW m w v).ehW m w = v :=
  leNat_rdN8_same _ _ _ h hv

theorem State.ehW_setEhW_other (s : State) (m w u v : Nat) (h : u ≠ w) : (s.setEhW m w v).ehW m u = s.ehW m u :=
  leNat_rdN8_other _ _ _ _ (by omega)

theorem State.setEhW_wf {s : State} (m w v : Nat) (h : Mem.wf s.mems.ehdr = true) : Mem.wf (s.setEhW m w v).mems.ehdr = true := Mem.wf_wrN _ _ _ h

theorem State.setEhW_regs (s : State) (m w v : Nat) : (s.setEhW m w v).regs = s.regs := rfl

theorem State.setEhW_eent (s : State) (m w v : Nat) : (s.setEhW m w v).mems.eent = s.mems.eent := rfl

theorem State.ehW_lt (s : State) (m w : Nat) : s.ehW m w < 2 ^ 64 := leNat_rdN8_lt _ _

theorem State.ehW_of_mems {s t : State} (h : t.mems = s.mems) (m w : Nat) : t.ehW m w = s.ehW m w := by rw [State.ehW, State.ehW, h]

/-- A header's word 0 written with its LIVE bit put. -/
theorem State.emLive_setEhW {s : State} (m x : Nat) (v : Bool) (hx : x < 2 ^ 64) (h : Mem.wf s.mems.ehdr = true) :
    (s.setEhW m 0 (2 * (x / 2) + b2n v)).emLive m = v := by
  rw [State.emLive, State.ehW_setEhW_same _ _ _ h (double_lt hx v), bitAt_double]

theorem State.emLive_of_ehW {s t : State} {m : Nat} (h : t.ehW m 0 = s.ehW m 0) : t.emLive m = s.emLive m := by rw [State.emLive, State.emLive, h]

theorem State.emLive_setEhW_off {s : State} (m x : Nat) (hx : x < 2 ^ 64) (h : Mem.wf s.mems.ehdr = true) :
    (s.setEhW m 0 (2 * (x / 2))).emLive m = false := State.emLive_setEhW m x false hx h

/-! ### GROUP_CMD_DONE (R394) -/

/-- The command that stood is over and shows its error. -/
def State.grpShown (s : State) (e : BitVec 4) : State :=
  (State.setF { s with grp := { s.grp with cmd := none } } F.GRP_RES_BUSY 0).setF F.GRP_RES_ERR e

theorem State.grpShown_shows {s : State} (e : BitVec 4) (hr : swf regReset s.regs = true) :
    (s.grpShown e).grp.cmd = none ∧ (s.grpShown e).on F.GRP_RES_BUSY = false ∧ (s.grpShown e).f F.GRP_RES_ERR = e := by
  refine ⟨by simp only [State.grpShown, State.setF_grp], ?_⟩
  exact State.showsDone (s := { s with grp := { s.grp with cmd := none } }) rfl rfl hr e

theorem State.grpShown_mems (s : State) (e : BitVec 4) : (s.grpShown e).mems = s.mems := by
  simp only [State.grpShown, State.setF_frame]

theorem State.grpDone_enable {s : State} {g : BitVec 10} (hc : s.grp.cmd = some (cmdWord 1 g)) (hl : s.grpLive g.toNat = false) :
    s.grpDone = if s.grpErr g.toNat = 0 then (s.grpShown (s.grpErr g.toNat)).setGrpLive g.toNat true else s.grpShown (s.grpErr g.toNat) := by
  unfold State.grpDone
  rw [hc]
  dsimp only
  rw [fget_cmdWord_id (by decide) _ rfl, fget_cmdWord_op (by decide) _ rfl, if_pos (show BitVec.ofNat 4 1 = 1 from rfl), hl, if_neg Bool.false_ne_true]
  rfl

theorem State.grpDone_disable {s : State} {g : BitVec 10} (hc : s.grp.cmd = some (cmdWord 2 g)) (hl : s.grpLive g.toNat = true)
    (hu : s.grpUsed g.toNat = false) : s.grpDone = (s.grpShown 0).setGrpLive g.toNat false := by
  unfold State.grpDone
  rw [hc]
  dsimp only
  rw [fget_cmdWord_id (by decide) _ rfl, fget_cmdWord_op (by decide) _ rfl, if_neg (show ¬ BitVec.ofNat 4 2 = 1 by decide),
    if_pos (show BitVec.ofNat 4 2 = 2 from rfl), hl, hu, if_neg (show ¬ ((!true) = true ∨ false = true) by decide), if_pos rfl]
  rfl

/-- A command done without error: the table takes its LIVE bit. -/
theorem State.grpShown_live {s : State} (g : Nat) (v : Bool) (hr : swf regReset s.regs = true) (hw : Mem.wf s.mems.grp = true) :
    ((s.grpShown 0).setGrpLive g v).grp.cmd = none ∧ ((s.grpShown 0).setGrpLive g v).grpLive g = v ∧
      ((s.grpShown 0).setGrpLive g v).on F.GRP_RES_BUSY = false ∧ ((s.grpShown 0).setGrpLive g v).f F.GRP_RES_ERR = 0 := by
  obtain ⟨h1, h2, h3⟩ := State.grpShown_shows 0 hr
  exact ⟨h1, State.grpLive_setGrpLive _ _ (by rw [State.grpShown_mems]; exact hw), h2, h3⟩

/-! ### EMAP_CMD_DONE (R445, R447) -/

def State.emapShown (s : State) (e : BitVec 4) : State :=
  (State.setF { s with grp := { s.grp with emap := none } } F.GRP_EMAP_RES_BUSY 0).setF F.GRP_EMAP_RES_ERR e

theorem State.emapShown_regs {s : State} (e : BitVec 4) (hr : swf regReset s.regs = true) : swf regReset (s.emapShown e).regs = true :=
  State.regs_setF _ _ _ (State.regs_setF _ _ _ hr)

theorem State.emapShown_shows {s : State} (e : BitVec 4) (hr : swf regReset s.regs = true) :
    (s.emapShown e).grp.emap = none ∧ (s.emapShown e).on F.GRP_EMAP_RES_BUSY = false ∧ (s.emapShown e).f F.GRP_EMAP_RES_ERR = e := by
  refine ⟨by simp only [State.emapShown, State.setF_grp], ?_⟩
  exact State.showsDone (s := { s with grp := { s.grp with emap := none } }) rfl rfl hr e

theorem State.emapShown_mems (s : State) (e : BitVec 4) : (s.emapShown e).mems = s.mems := by
  simp only [State.emapShown, State.setF_frame]

theorem State.emapShown_live (s : State) (e : BitVec 4) : (s.emapShown e).f F.GRP_EMAP_STAT_LIVE = s.f F.GRP_EMAP_STAT_LIVE := by
  rw [State.emapShown, State.f_setF_reg _ _ _ _ (by decide), State.f_setF_reg _ _ _ _ (by decide)]
  rfl

/-- A live map: its digest written, its LIVE bit set, and the maps counted. -/
def State.emapOn (s : State) (m : Nat) : State :=
  ((s.setEhW m 2 (s.emDigestOf m).toNat).setEhW m 0 (2 * (s.ehW m 0 / 2) + 1)).incF F.GRP_EMAP_STAT_LIVE 1

def State.emapOff (s : State) (m : Nat) : State :=
  (s.setEhW m 0 (2 * (s.ehW m 0 / 2))).setF F.GRP_EMAP_STAT_LIVE (s.f F.GRP_EMAP_STAT_LIVE - 1)

theorem State.emapDone_enable {s : State} {m : BitVec 10} {used : Nat → Bool} (hc : s.grp.emap = some (cmdWord 1 m)) (hl : s.emLive m.toNat = false) :
    s.emapDone used = if s.emErr m.toNat ≠ 0 then s.emapShown (s.emErr m.toNat) else (s.emapShown (s.emErr m.toNat)).emapOn m.toNat := by
  unfold State.emapDone
  rw [hc]
  dsimp only
  rw [fget_cmdWord_id (by decide) _ rfl, fget_cmdWord_op (by decide) _ rfl, if_pos (show BitVec.ofNat 4 1 = 1 from rfl), hl, if_neg Bool.false_ne_true,
    if_pos (show BitVec.ofNat 4 1 = 1 from rfl)]
  rfl

theorem State.emapDone_disable {s : State} {m : BitVec 10} {used : Nat → Bool} (hc : s.grp.emap = some (cmdWord 2 m)) (hl : s.emLive m.toNat = true)
    (hu : used m.toNat = false) : s.emapDone used = (s.emapShown 0).emapOff m.toNat := by
  unfold State.emapDone
  rw [hc]
  dsimp only
  rw [fget_cmdWord_id (by decide) _ rfl, fget_cmdWord_op (by decide) _ rfl, if_neg (show ¬ BitVec.ofNat 4 2 = 1 by decide),
    if_pos (show BitVec.ofNat 4 2 = 2 from rfl), hl, hu, if_neg (show ¬ ((!true) = true ∨ false = true) by decide), if_neg (by decide)]
  rfl

theorem State.emapOn_shows {s : State} (m : Nat) (hr : swf regReset s.regs = true) (hw : Mem.wf s.mems.ehdr = true) :
    (s.emapOn m).grp = s.grp ∧ (s.emapOn m).emLive m = true ∧ (s.emapOn m).emDigest m = s.emDigestOf m ∧
      (s.emapOn m).f F.GRP_EMAP_STAT_LIVE = s.f F.GRP_EMAP_STAT_LIVE + 1 ∧ (s.emapOn m).on F.GRP_EMAP_RES_BUSY = s.on F.GRP_EMAP_RES_BUSY := by
  unfold State.emapOn
  generalize hd : s.emDigestOf m = d
  generalize hu : s.setEhW m 2 d.toNat = u
  have huw : Mem.wf u.mems.ehdr = true := hu ▸ State.setEhW_wf _ _ _ hw
  have hur : u.regs = s.regs := by rw [← hu]; rfl
  generalize ht : u.setEhW m 0 (2 * (s.ehW m 0 / 2) + 1) = t
  have htr : t.regs = s.regs := by rw [← ht]; exact hur
  have htm : (t.incF F.GRP_EMAP_STAT_LIVE 1).mems = t.mems := by simp only [State.incF_frame]
  refine ⟨?_, ?_, ?_, ?_, ?_⟩
  · rw [State.incF, State.setF_grp, ← ht, ← hu]
    rfl
  · rw [State.emLive_of_ehW (State.ehW_of_mems htm m 0), ← ht]
    exact State.emLive_setEhW (s := u) m _ true (s.ehW_lt m 0) huw
  · rw [State.emDigest, State.ehW_of_mems htm, ← ht, State.ehW_setEhW_other _ _ _ _ _ (by decide), ← hu,
      State.ehW_setEhW_same _ _ _ hw d.isLt, BitVec.ofNat_toNat, BitVec.setWidth_eq]
  · rw [State.incF, State.f_setF_same _ _ _ (by decide) (by rw [htr]; exact hr), State.f_of_regs htr]
    rfl
  · rw [State.incF, State.on_setF_reg _ _ _ _ (by decide), State.on, State.f_of_regs htr]
    rfl

theorem State.emapOff_shows {s : State} (m : Nat) (hr : swf regReset s.regs = true) (hw : Mem.wf s.mems.ehdr = true) :
    (s.emapOff m).grp = s.grp ∧ (s.emapOff m).emLive m = false ∧ (s.emapOff m).f F.GRP_EMAP_RES_ERR = s.f F.GRP_EMAP_RES_ERR ∧
      (s.emapOff m).f F.GRP_EMAP_STAT_LIVE = s.f F.GRP_EMAP_STAT_LIVE - 1 := by
  unfold State.emapOff
  generalize hu : s.setEhW m 0 (2 * (s.ehW m 0 / 2)) = u
  have hur : u.regs = s.regs := by rw [← hu]; rfl
  refine ⟨?_, ?_, ?_, ?_⟩
  · rw [State.setF_grp, ← hu]
    rfl
  · rw [State.emLive_of_ehW (State.ehW_of_mems (by simp only [State.setF_frame]) m 0) (s := u), ← hu]
    exact State.emLive_setEhW_off m _ (s.ehW_lt m 0) hw
  · rw [State.f_setF_reg _ _ _ _ (by decide), State.f_of_regs hur]
  · rw [State.f_setF_same _ _ _ (by decide) (by rw [hur]; exact hr)]

/-! ### Writes to the windows (R395, R446) -/

theorem State.gwinWrite_live {s : State} {off : Nat} {wide : Bool} {v : R64}
    (hl : s.grpLive (((s.f F.GRP_GWIN_PAGE_PAGE).toNat * 262144 + off) / 1024) = true)
    (hm : s.mapFree (((s.f F.GRP_GWIN_PAGE_PAGE).toNat * 262144 + off) % 1024 / 8) = false) :
    s.gwinWrite off wide v = s.setF F.GRP_STAT_LIVE_WR 1 := if_pos (by simp [hl, hm])

theorem State.gwinWrite_word {s : State} {off a : Nat} {v : R64} (ha : a = (s.f F.GRP_GWIN_PAGE_PAGE).toNat * 262144 + off)
    (hl : s.grpLive (a / 1024) = false) (h8 : a % 8 = 0) (h0 : a % 1024 / 8 ≠ 0) (hw : Mem.wf s.mems.grp = true) :
    (s.gwinWrite off true v).grpW (a / 1024) (a % 1024 / 8) = v.toNat ∧ (s.gwinWrite off true v).grpLive (a / 1024) = false ∧
      (s.gwinWrite off true v).regs = s.regs := by
  unfold State.gwinWrite
  dsimp only
  rw [← ha, hl, if_neg (by simp)]
  refine ⟨?_, State.grpLive_setGrpLive _ _ (wf_winWrite _ _ _ _ hw), rfl⟩
  rw [State.grpW_setGrpLive_other _ _ _ _ h0, State.grpW, show 1024 * (a / 1024) + 8 * (a % 1024 / 8) = a by omega]
  exact leNat_rdN8_same _ _ _ hw v.isLt

theorem State.ehdrWrite_live {s : State} {off : Nat} {wide : Bool} {v : R64} (hl : s.emLive (off / 32) = true) :
    s.ehdrWrite off wide v = s.setF F.GRP_EMAP_STAT_LIVE_WR 1 := if_pos hl

theorem State.ehdrWrite_word {s : State} {off : Nat} {v : R64} (hl : s.emLive (off / 32) = false) (h8 : off % 32 = 8) (hw : Mem.wf s.mems.ehdr = true) :
    (s.ehdrWrite off true v).ehW (off / 32) 1 = v.toNat ∧ (s.ehdrWrite off true v).emLive (off / 32) = false ∧
      (s.ehdrWrite off true v).regs = s.regs ∧ (s.ehdrWrite off true v).mems.eent = s.mems.eent := by
  unfold State.ehdrWrite
  dsimp only
  rw [hl, if_neg (by decide)]
  generalize hu : ({ s with mems := { s.mems with ehdr := winWrite s.mems.ehdr off true v } } : State) = u
  have huw : Mem.wf u.mems.ehdr = true := hu ▸ wf_winWrite _ _ _ _ hw
  refine ⟨?_, State.emLive_setEhW_off _ _ (State.ehW_lt _ _ _) (State.setEhW_wf _ _ _ huw), ?_, ?_⟩
  · rw [State.ehW_setEhW_other _ _ _ _ _ (by decide), State.ehW_setEhW_other _ _ _ _ _ (by decide), ← hu, State.ehW,
      show 32 * (off / 32) + 8 * 1 = off by omega]
    exact leNat_rdN8_same _ _ _ hw v.isLt
  · rw [State.setEhW_regs, State.setEhW_regs, ← hu]
  · rw [State.setEhW_eent, State.setEhW_eent, ← hu]

theorem State.ewinWrite_free {s : State} {off a : Nat} {wide : Bool} {v : R64} (ha : a = (s.f F.GRP_EWIN_PAGE_PAGE).toNat * 131072 + off)
    (h : ∀ m ∈ s.liveMaps, ¬ (s.emBase m ≤ a / 16 ∧ a / 16 < s.emBase m + s.emCount m)) :
    s.ewinWrite off wide v = { s with mems := { s.mems with eent := winWrite s.mems.eent a wide v } } := by
  unfold State.ewinWrite
  dsimp only
  rw [← ha]
  exact if_neg (by simpa using h)

theorem State.ewinWrite_live {s : State} {off m : Nat} {wide : Bool} {v : R64} (hm : m ∈ s.liveMaps)
    (hlo : s.emBase m ≤ ((s.f F.GRP_EWIN_PAGE_PAGE).toNat * 131072 + off) / 16)
    (hhi : ((s.f F.GRP_EWIN_PAGE_PAGE).toNat * 131072 + off) / 16 < s.emBase m + s.emCount m) :
    s.ewinWrite off wide v = s.setF F.GRP_EMAP_STAT_LIVE_WR 1 := by
  unfold State.ewinWrite
  dsimp only
  exact if_pos (List.any_eq_true.2 ⟨m, hm, decide_eq_true ⟨hlo, hhi⟩⟩)

theorem exec_emapWinWrite_entry (off : BitVec 17) (wide : Bool) (v : R64) (s : State) :
    exec (.emapWinWrite false off wide v) s = whenWr s (fun s => s.ewinWrite off.toNat wide v) := by
  change execEmapWinWrite false off wide v s = _
  simp only [execEmapWinWrite, Bool.false_eq_true, if_false]

/-! ### The statement -/

/-- The check whether a run's member names the map, as EMAP_CMD_DONE makes it. -/
def State.emapUsed (s : State) (m : Nat) : Bool :=
  s.grp.runs.any (fun r => r.mems.any (fun x => match s.memDesc x with | some d => decide (d.opcode ≠ 16) && decide (d.emap = m) | none => false))

theorem exec_emapCmdDone (s : State) : exec .emapCmdDone s = whenUp s (fun s => s.emapDone s.emapUsed) := rfl

theorem groupCommand_kept : (∀ (s : State) (g : BitVec 10) (c : Instr) (v : R32), s.takes = true → s.on F.GRP_RES_BUSY = false → swf regReset s.regs = true →
    (c, v) ∈ [(Instr.groupEnable g, cmdWord 1 g), (.groupDisable g, cmdWord 2 g)] →
    Goes c s (fun t => t.grp.cmd = some v ∧ t.on F.GRP_RES_BUSY = true ∧ t.f F.GRP_RES_GROUP = g ∧ t.f F.GRP_RES_ERR = 0 ∧ t.mems = s.mems)) := by
  intro s g c v ht hb hr hm
  simp only [List.mem_cons, List.not_mem_nil, or_false, Prod.mk.injEq] at hm
  obtain ⟨rfl, rfl⟩ | ⟨rfl, rfl⟩ := hm
  · exact goes_wr (f := (State.grpCmd · (cmdWord 1 g))) rfl ht (State.grpCmd_keeps (by decide) g hb hr)
  · exact goes_wr (f := (State.grpCmd · (cmdWord 2 g))) rfl ht (State.grpCmd_keeps (by decide) g hb hr)

theorem mapCommand_kept : (∀ (s : State) (m : BitVec 10) (c : Instr) (v : R32), s.takes = true → s.on F.GRP_EMAP_RES_BUSY = false → swf regReset s.regs = true →
    (c, v) ∈ [(Instr.emapEnable m, cmdWord 1 m), (.emapDisable m, cmdWord 2 m)] →
    Goes c s (fun t => t.grp.emap = some v ∧ t.on F.GRP_EMAP_RES_BUSY = true ∧ t.f F.GRP_EMAP_RES_MAP = m ∧ t.f F.GRP_EMAP_RES_ERR = 0 ∧
      t.mems = s.mems)) := by
  intro s m c v ht hb hr hm
  simp only [List.mem_cons, List.not_mem_nil, or_false, Prod.mk.injEq] at hm
  obtain ⟨rfl, rfl⟩ | ⟨rfl, rfl⟩ := hm
  · exact goes_wr (f := (State.emapCmd · (cmdWord 1 m))) rfl ht (State.emapCmd_keeps (by decide) m hb hr)
  · exact goes_wr (f := (State.emapCmd · (cmdWord 2 m))) rfl ht (State.emapCmd_keeps (by decide) m hb hr)

/-- Settles O19. -/
theorem groupsAndMaps : Obligations.GroupsAndMaps := by
  refine ⟨⟨groupCommand_kept,
    fun s g hb => ⟨exec_same_wr (f := (State.grpCmd · (cmdWord 1 g))) rfl (State.grpCmd_busy _ hb),
      exec_same_wr (f := (State.grpCmd · (cmdWord 2 g))) rfl (State.grpCmd_busy _ hb)⟩,
    fun s g hu hc hl he hr hw => goes_up (f := State.grpDone) rfl hu ?_,
    fun s g hu hc hl hn hr hw => goes_up (f := State.grpDone) rfl hu ?_,
    fun s g hu hc hl he => exec_up (f := State.grpDone) rfl hu ((State.grpDone_enable hc hl).trans (if_neg he)),
    fun s off wide v ht hl hm => exec_wr (f := (State.gwinWrite · off.toNat wide v)) rfl ht (State.gwinWrite_live hl hm),
    fun s off v a ht ha hl h8 h0 hw => goes_wr (f := (State.gwinWrite · off.toNat true v)) rfl ht (State.gwinWrite_word ha hl h8 h0 hw)⟩,
    mapCommand_kept,
    fun s m hb => ⟨exec_same_wr (f := (State.emapCmd · (cmdWord 1 m))) rfl (State.emapCmd_busy _ hb),
      exec_same_wr (f := (State.emapCmd · (cmdWord 2 m))) rfl (State.emapCmd_busy _ hb)⟩,
    fun s m hu hc hl he hr hw => goes_up (exec_emapCmdDone s) hu ?_,
    fun s m hu hc hl hn hr hw => goes_up (exec_emapCmdDone s) hu ?_,
    fun s m hu hc hl he => exec_up (exec_emapCmdDone s) hu ?_,
    fun s off wide v ht hl => exec_wr (f := (State.ehdrWrite · (off.toNat % 32768) wide v)) rfl ht (State.ehdrWrite_live hl),
    fun s off v ht hl h8 hw => goes_wr (f := (State.ehdrWrite · (off.toNat % 32768) true v)) rfl ht
      (State.ehdrWrite_word hl (by omega) hw),
    fun s off wide v a ht ha h => exec_wr (exec_emapWinWrite_entry off wide v s) ht (State.ewinWrite_free ha h),
    fun s off wide v m ht hm hlo hhi => exec_wr (exec_emapWinWrite_entry off wide v s) ht (State.ewinWrite_live hm hlo hhi)⟩
  · rw [State.grpDone_enable hc hl, if_pos he, he]
    exact State.grpShown_live _ _ hr hw
  · rw [State.grpDone_disable hc hl hn]
    exact State.grpShown_live _ _ hr hw
  · rw [State.emapDone_enable hc hl, if_neg (not_not.2 he), he]
    obtain ⟨hg, hlive, hd, hn, hb⟩ := State.emapOn_shows (s := s.emapShown 0) m.toNat (State.emapShown_regs 0 hr) (by rw [State.emapShown_mems]; exact hw)
    obtain ⟨h1, h2, -⟩ := State.emapShown_shows 0 hr
    refine ⟨by rw [hg]; exact h1, hlive, hd.trans ?_, by rw [hn, State.emapShown_live], hb.trans h2⟩
    simp only [State.emDigestOf, State.ehW, State.emBase, State.emCount, State.emapShown_mems]
  · rw [State.emapDone_disable hc hl (by rw [State.emapUsed, hn]; rfl)]
    obtain ⟨hg, hlive, he, hn⟩ := State.emapOff_shows (s := s.emapShown 0) m.toNat (State.emapShown_regs 0 hr) (by rw [State.emapShown_mems]; exact hw)
    obtain ⟨h1, -, h3⟩ := State.emapShown_shows 0 hr
    exact ⟨by rw [hg]; exact h1, hlive, he.trans h3, by rw [hn, State.emapShown_live]⟩
  · rw [State.emapDone_enable hc hl, if_pos he]
    rfl

end Sys2Proof.Machine
end

section
/-!
PROOFS. How the nodes of a group agree: signature records, rounds, aborts, hold timeouts and expert decisions.
-/

namespace Sys2Proof.Machine

/-! ### Showing a run -/

/-- The registers that show the runs, the highest ones of the block. -/
def instRegs (o : Nat) : Prop := Reg.GRP_INST_STAT 0 ≤ o

theorem State.showRun_regsBut (s : State) (r : Run) : RegsBut instRegs s (s.showRun r) := by
  unfold State.showRun
  refine RegsBut.setF (RegsBut.setF (RegsBut.setF (RegsBut.setF (RegsBut.setF (RegsBut.setF (RegsBut.refl _ s) _ _ ?_) _ _ ?_) _ _ ?_) _ _ ?_) _ _ ?_) _ _ ?_
  all_goals
    change 0x300100 ≤ _
    dsimp only [F.GRP_INST_STAT_STATE, F.GRP_INST_STAT_GROUP, F.GRP_INST_STAT_JOINED, F.GRP_INST_SEQ_SEQ, F.GRP_INST_ROUND_DONE, F.GRP_INST_TOTAL_TOTAL,
      Reg.GRP_INST_STAT, Reg.GRP_INST_SEQ, Reg.GRP_INST_ROUND, Reg.GRP_INST_TOTAL]
    omega

/-- From `s` to `t` the runs changed, and no more than the registers that show them. -/
structure State.ShowsRuns (s t : State) (l : List Run) : Prop where
  runs : t.grp.runs = l
  regs : RegsBut instRegs s t
  mems : t.mems = s.mems
  out : t.out = s.out
  qmg : t.qmg = s.qmg
  clk : t.clk = s.clk

theorem State.setRun_shows {s : State} {x r : Run} (h : s.grp.runs = [x]) (hi : x.inst = r.inst) : s.ShowsRuns (s.setRun r) [r] where
  runs := State.setRun_one h hi
  regs := by
    unfold State.setRun
    dsimp only
    refine (RegsBut.of_regs ?_).trans (State.showRun_regsBut _ r)
    rfl
  mems := by simp only [State.setRun, State.showRun, State.setF_frame]
  out := by simp only [State.setRun, State.showRun, State.setF, State.wr_out]
  qmg := by simp only [State.setRun, State.showRun, State.setF, State.wr]
  clk := by simp only [State.setRun, State.showRun, State.setF_frame]

theorem State.ShowsRuns.runs_out_mems {s t : State} {x y : Run} (h : s.ShowsRuns t [x]) (hi : x.inst = y.inst) :
    (t.setRun y).grp.runs = [y] ∧ (t.setRun y).out = s.out ∧ (t.setRun y).mems = s.mems := by
  have hset := State.setRun_shows h.runs hi
  exact ⟨hset.runs, hset.out.trans h.out, hset.mems.trans h.mems⟩

theorem State.run_one {s : State} {r : Run} {i : Nat} (h : s.grp.runs = [r]) (hi : r.inst = i) : s.run i = some r := by
  rw [State.run, h, List.find?_cons_of_pos (by simp [hi])]

theorem State.qState_of_regsBut {s t : State} (h : RegsBut instRegs s t) (q : BitVec 10) : t.qState q.toNat = s.qState q.toNat := by
  refine h.f _ ?_
  change ¬ 0x300100 ≤ 0x81014 + 0x20 * q.toNat
  have := q.isLt
  omega

theorem State.pausing_none {s : State} {r : Run} (h : ∀ m ∈ r.mems, s.qState m.2.1.toNat ≠ qStopping) : s.pausing r = [] := by
  unfold State.pausing
  exact List.filter_eq_nil_iff.2 fun m hm => by simp [h m hm]

/-! ### Signature records (R404-R407) -/

theorem State.recArrive_first {s : State} {i : Nat} {r : Run} {x : SigRec} (h : s.run i = some r) (hg : x.group = r.group) (hn : x.node ≠ s.node)
    (hr : r.recs = []) (hc : (s.grpNodes r.group.toNat).contains x.node.toNat = true) :
    s.recArrive i x = ((s.emit (.sigRec i x)).setRun { r with recs := [x] }).verdictRun { r with recs := [x] } := by
  unfold State.recArrive
  rw [h]
  dsimp only
  rw [hr, hc, if_neg (by simp [hg, hn]), List.nil_append]

theorem State.emit_sigRec (s : State) (i : Nat) (x : SigRec) : s.emit (.sigRec i x) = { s with out := s.out ++ [.sigRec i x] } := rfl

/-- The state in which a first record of another node has been kept and sent on. -/
def State.sigKept (s : State) (i : Nat) (r : Run) (x : SigRec) : State := (s.emit (.sigRec i x)).setRun { r with recs := [x] }

theorem State.sigKept_shows {s : State} {i : Nat} {r : Run} {x : SigRec} (h : s.grp.runs = [r]) :
    ({ s with out := s.out ++ [.sigRec i x] } : State).ShowsRuns (s.sigKept i r x) [{ r with recs := [x] }] := by
  unfold State.sigKept
  rw [State.emit_sigRec]
  exact State.setRun_shows h rfl

theorem State.ShowsRuns.grpNodes {s t : State} {l : List Run} (h : s.ShowsRuns t l) (g : Nat) : t.grpNodes g = s.grpNodes g := by
  unfold State.grpNodes State.grpMembers State.grpMember State.grpN State.grpField State.grpW
  simp only [h.mems]

theorem State.verdictRun_waits {s : State} {r : Run} {own : SigRec} (ho : r.own = some own) (hn : r.recs.length + 1 < (s.grpNodes r.group.toNat).length) :
    s.verdictRun r = s := by
  unfold State.verdictRun
  rw [ho]
  exact if_pos (Or.inr (Or.inr hn))

section
variable {s : State} {r : Run} {own x : SigRec} (ho : r.own = some own) (hv : r.verdict = none) (hp : r.paused = false) (hr : r.recs = [x])
  (hn : (s.grpNodes r.group.toNat).length = 2) (hb : own.bad = false)
include ho hv hp hr hn hb

theorem State.verdictRun_agrees (ht : own.timed = false) (hd : SigRec_differs own x = 0) :
    s.verdictRun r = s.setRun { r with verdict := some true, start := BitVec.ofNat 64 (max (max own.slot.toNat x.slot.toNat + 8) r.start.toNat) } := by
  unfold State.verdictRun
  rw [ho]
  dsimp only
  rw [if_neg (by simp [hv, hp, hr, hn]), if_neg (by simp [hb]), hr, List.find?_cons_of_neg (by simp [hd]), List.find?_nil]
  dsimp only
  rw [if_neg (by simp [ht]), Run.lastSlot, hr]
  rfl

theorem State.verdictRun_differs (hd : SigRec_differs own x ≠ 0) : s.verdictRun r = s.mismatchRun r x.node (SigRec_differs own x) := by
  unfold State.verdictRun
  rw [ho]
  dsimp only
  rw [if_neg (by simp [hv, hp, hr, hn]), if_neg (by simp [hb]), hr, List.find?_cons_of_pos (by simpa using hd)]

end

theorem State.finishMems_one {r : Run} {m : RunMember} (hm : r.mems = [m]) (s : State) (st : Status) :
    s.finishMems r st = s.finish m.2.1.toNat m.2.2 st (fun d => { d with prog := r.done }) := by
  rw [State.finishMems, hm]
  rfl

/-! ### What the end of a run writes -/

theorem State.postRun_regsBut (s : State) (r : Run) (code : BitVec 8) (st : Status) (i1 : Nat) : RegsBut (· ∈ evtRegs 0) s (s.postRun r code st i1) := by
  unfold State.postRun
  dsimp only
  split
  · exact s.post_regsBut _
  · exact s.post_regsBut _

theorem State.dropRun_regsBut (s : State) {r : Run} (ht : r.tiles = []) : RegsBut instRegs s (s.dropRun r) := by
  unfold State.dropRun
  rw [ht]
  refine RegsBut.wr (RegsBut.wr (RegsBut.wr (RegsBut.wr (RegsBut.of_regs ?_) _ _ ?_) _ _ ?_) _ _ ?_) _ _ ?_
  · rfl
  all_goals
    change 0x300100 ≤ _
    dsimp only [Reg.GRP_INST_STAT, Reg.GRP_INST_SEQ, Reg.GRP_INST_ROUND, Reg.GRP_INST_TOTAL]
    omega

section
variable {u : State} {r : Run} {m : RunMember} {d : Desc} (hm : r.mems = [m]) (hd : u.memDesc m = some d) (hw : swf QRec.idle u.qmg.qs = true)
  (hi : u.grp.runs.map Run.inst = [r.inst]) (st : Status)
include hm hd hw hi

/-- The end of a run all of whose members, here one, end with one status. -/
theorem State.endsWith (code : BitVec 8) (i1 : Nat) : (((u.finishMems r st).postRun r code st i1).dropRun r).grp.runs = [] ∧
    (((u.finishMems r st).postRun r code st i1).dropRun r).memDesc m = some { d with prog := r.done, status := st, st := .finished } := by
  rw [State.finishMems_one hm]
  refine ⟨State.dropRun_runs ?_, ?_⟩
  · rw [State.postRun_grp, State.finish, State.setDesc_grp]
    exact hi
  · exact (State.desc_of_qs ((State.dropRun_qmg_qs _ _).trans (State.postRun_qmg_qs _ _ _ _ _)) _ _).trans (State.desc_finish hd hw (fun d => { d with prog := r.done }) (fun _ => rfl) st)

/-- A run whose records differ is over, its member finished with SIG_MISMATCH (R405). -/
theorem State.mismatchRun_over (n : NodeId) (e : BitVec 4) : (u.mismatchRun r n e).grp.runs = [] ∧
    ((u.mismatchRun r n e).memDesc m).map (fun y => (y.st, y.status)) = some (.finished, stSigMismatch) := by
  have hq : (u.incF F.GRP_MISMATCH_CNT_COUNT 1).qmg.qs = u.qmg.qs := by simp only [State.incF, State.setF_qmg_qs]
  obtain ⟨h1, h2⟩ := State.endsWith (u := u.incF F.GRP_MISMATCH_CNT_COUNT 1) hm ((State.desc_of_qs hq _ _).trans hd) (by rw [hq]; exact hw)
    (by rw [State.incF_grp]; exact hi) stSigMismatch 0x69 (2 ^ 24 * n.toNat + e.toNat)
  exact ⟨h1, congrArg (Option.map _) h2⟩

/-- A run aborted is over and counted, its member finished with the status (R422). -/
theorem State.abortRun_counted (n : NodeId) (ht : r.tiles = []) (hr : swf regReset u.regs = true) :
    (u.abortRun r st n none).grp.runs = [] ∧
      ((u.abortRun r st n none).memDesc m).map (fun y => (y.st, y.status, y.prog)) = some (.finished, st, r.done) ∧
      (u.abortRun r st n none).f F.GRP_ABORT_CNT_COUNT = u.f F.GRP_ABORT_CNT_COUNT + 1 := by
  unfold State.abortRun
  dsimp only
  generalize hv : (u.emit (.abortRec r.group r.seq st n)).incF F.GRP_ABORT_CNT_COUNT 1 = v
  have hvq : v.qmg.qs = u.qmg.qs := by rw [← hv]; simp
  have hvg : v.grp = u.grp := by rw [← hv]; simp
  obtain ⟨h1, h2⟩ := State.endsWith (u := v) hm ((State.desc_of_qs hvq _ _).trans hd) (by rw [hvq]; exact hw) (by rw [hvg]; exact hi) st 0x6A
    (256 * n.toNat + st.toNat)
  refine ⟨h1, congrArg (Option.map _) h2, ?_⟩
  have hvf : v.f F.GRP_ABORT_CNT_COUNT = u.f F.GRP_ABORT_CNT_COUNT + 1 := by
    rw [← hv, State.incF, State.f_setF_same _ _ _ (by decide) (by rw [State.emit_regs]; exact hr), State.f_of_regs (State.emit_regs _ _)]
    rfl
  rw [← hvf]
  have hfin : (v.finishMems r st).regs = v.regs := by rw [State.finishMems_one hm, State.finish_regs]
  have hpost := State.postRun_regsBut (v.finishMems r st) r 0x6A st (256 * n.toNat + st.toNat)
  have hdrop := State.dropRun_regsBut ((v.finishMems r st).postRun r 0x6A st (256 * n.toNat + st.toNat)) ht
  refine (hdrop.f _ ?_).trans ((hpost.f _ ?_).trans (State.f_of_regs hfin _))
  · exact (by decide : ¬ 0x300100 ≤ 0x300018)
  · decide

end

/-! ### Rounds (R408, R414) -/

theorem State.roundStart_due {s : State} {i : Nat} {r : Run} (h : s.run i = some r) (hm : r.mayRound = true) (hv : r.verdict = some true)
    (hi : r.inRound = false) (hd : r.done < r.total) (hq : ∀ m ∈ r.mems, s.qState m.2.1.toNat ≠ qStopping) :
    s.roundStart i = if s.nominal r r.done ≤ s.clk.slot.toNat then s.setRun { r with inRound := true } else s := by
  unfold State.roundStart
  rw [h]
  dsimp only
  rw [if_neg (by simp [hm, hv, hi, hd]), State.pausing_none hq]

theorem State.roundEnd_not {s : State} {i : Nat} {r : Run} (h : s.run i = some r) (hi : r.inRound = false) : s.roundEnd i = s := by
  unfold State.roundEnd
  rw [h]
  exact if_pos (by simp [hi])

/-- The round's count written to the members. -/
def State.setProg (s : State) (r : Run) : State :=
  r.mems.foldl (fun s m => s.setDesc m.2.1.toNat m.2.2 (fun d => { d with prog := r.done })) s

/-- From `s` to `t` only the queues' descriptors changed. -/
structure State.OnlyDescs (s t : State) : Prop where
  grp : t.grp = s.grp
  regs : t.regs = s.regs
  mems : t.mems = s.mems
  out : t.out = s.out

theorem State.setDesc_onlyDescs (s : State) (q : Nat) (i : BitVec 16) (f : Desc → Desc) : s.OnlyDescs (s.setDesc q i f) := ⟨rfl, rfl, rfl, rfl⟩

theorem State.setProg_onlyDescs (s : State) (r : Run) : s.OnlyDescs (s.setProg r) := by
  unfold State.setProg
  generalize r.mems = l
  induction l generalizing s with
  | nil => exact ⟨rfl, rfl, rfl, rfl⟩
  | cons m l ih =>
    obtain ⟨h1, h2, h3, h4⟩ := ih (s.setDesc m.2.1.toNat m.2.2 (fun d => { d with prog := r.done }))
    exact ⟨h1, h2, h3, h4⟩

/-- The run after its round: its count, and the tick of the boundary it came to. -/
def Run.roundDone (r : Run) (t : R64) : Run := { r with inRound := false, done := r.done + 1, since := t }

theorem State.roundEnd_ends {s : State} {i : Nat} {r : Run} (h : s.run i = some r) (hi : r.inRound = true)
    (hq : ∀ m ∈ r.mems, ((s.setRun (r.roundDone s.now)).setProg (r.roundDone s.now)).qState m.2.1.toNat ≠ qStopping) :
    s.roundEnd i = (s.setRun (r.roundDone s.now)).setProg (r.roundDone s.now) := by
  unfold State.roundEnd
  rw [h]
  dsimp only
  rw [if_neg (by simp [hi])]
  have hp := State.pausing_none (r := r.roundDone s.now) hq
  unfold Run.roundDone State.setProg at hp
  dsimp only at hp
  rw [hp]
  rfl

theorem State.roundEnd_shows {s : State} {i : Nat} {r : Run} (hr : s.grp.runs = [r]) (hi : r.inst = i) (hin : r.inRound = true)
    (hq : ∀ m ∈ r.mems, s.qState m.2.1.toNat ≠ qStopping) :
    (s.roundEnd i).grp.runs = [r.roundDone s.now] ∧ (s.roundEnd i).mems = s.mems ∧ (s.roundEnd i).out = s.out ∧
      (∀ (m : Nat × BitVec 10 × BitVec 16) (d : Desc), r.mems = [m] → s.memDesc m = some d → swf QRec.idle s.qmg.qs = true →
        ((s.roundEnd i).memDesc m).map (fun y => y.prog) = some (r.done + 1)) := by
  have hset := State.setRun_shows (r := r.roundDone s.now) hr rfl
  have hprog := State.setProg_onlyDescs (s.setRun (r.roundDone s.now)) (r.roundDone s.now)
  rw [State.roundEnd_ends (State.run_one hr hi) hin fun m hm => by
    rw [State.qState, State.f_of_regs hprog.regs, ← State.qState, State.qState_of_regsBut hset.regs]
    exact hq m hm]
  refine ⟨by rw [hprog.grp, hset.runs], hprog.mems.trans hset.mems, hprog.out.trans hset.out, fun m d hm hd hw => ?_⟩
  have hqs : (s.setRun (r.roundDone s.now)).qmg.qs = s.qmg.qs := by rw [hset.qmg]
  have hone : ∀ u : State, u.setProg (r.roundDone s.now) = u.setDesc m.2.1.toNat m.2.2 (fun d => { d with prog := r.done + 1 }) := fun u => by
    rw [State.setProg, Run.roundDone, hm]
    rfl
  rw [hone]
  exact congrArg (Option.map fun y : Desc => y.prog)
    (State.desc_setDesc ((State.desc_of_qs hqs _ _).trans hd) (by rw [hqs]; exact hw) (fun d => { d with prog := r.done + 1 }) (fun _ => rfl))

/-! ### Aborts (R422) -/

theorem State.abortArrive_same {s : State} {r : Run} (h : s.grp.runs = [r]) (st : Status) (n : NodeId) :
    s.abortArrive r.group r.seq st n = s.abortRun r st n none := by
  unfold State.abortArrive State.runOf
  rw [h, List.find?_cons_of_pos (by simp)]
  exact if_pos rfl

theorem State.abortArrive_other {s : State} {g : BitVec 10} {q : R32} (h : ∀ r, s.runOf g.toNat = some r → r.seq ≠ q) (st : Status) (n : NodeId) :
    s.abortArrive g q st n = s := by
  unfold State.abortArrive
  cases hr : s.runOf g.toNat with
  | none => rfl
  | some r => exact if_neg (h r hr)

/-! ### The hold timeout (R420) -/

theorem State.collHeld_not {s : State} {i : Nat} {r : Run} (h : s.run i = some r)
    (hn : r.heldPosted = true ∨ s.f F.GRP_CTL_HOLD = 0 ∨ s.heldLong r = false) : s.collHeld i = s := by
  unfold State.collHeld
  rw [h]
  refine if_pos ?_
  rcases hn with hn | hn | hn <;> simp [hn]

section
variable {s : State} {i : Nat} {r : Run} (hr : s.grp.runs = [r]) (hi : r.inst = i) (hp : r.heldPosted = false) (hf : s.f F.GRP_CTL_HOLD ≠ 0)
  (hin : r.inRound = false) (hpa : r.paused = false) (ho : r.own.isSome = true) (hl : s.heldLong r = true)
include hr hi hp hf hin hpa ho hl

theorem State.collHeld_posts : s.collHeld i = (((s.setRun { r with heldPosted := true }).setF (F.GRP_INST_STAT_STATE i) 5).postRun
    { r with heldPosted := true } 0x68 stOk r.done).setF F.GRP_STAT_HELD 1 := by
  obtain ⟨o, ho⟩ := Option.isSome_iff_exists.1 ho
  unfold State.collHeld
  rw [State.run_one hr hi]
  dsimp only
  rw [if_neg (by simp [hp, hin, hpa, ho, hl]; exact hf)]
  rfl

theorem State.collHeld_shows (hw : swf regReset s.regs = true) : (s.collHeld i).grp.runs = [{ r with heldPosted := true }] ∧
    (s.collHeld i).on F.GRP_STAT_HELD = true ∧ (s.collHeld i).mems.pool = s.mems.pool := by
  rw [State.collHeld_posts hr hi hp hf hin hpa ho hl]
  have hset := State.setRun_shows (r := { r with heldPosted := true }) hr rfl
  have hw1 := State.regs_setF _ (F.GRP_INST_STAT_STATE i) 5 (hset.regs.canonical hw)
  refine ⟨?_, ?_, ?_⟩
  · rw [State.setF_grp, State.postRun_grp, State.setF_grp, hset.runs]
  · rw [State.on, State.f_setF_same _ _ _ (by decide) ((State.postRun_regsBut _ _ _ _ _).canonical hw1)]
    rfl
  · simp only [State.setF_frame, State.postRun_mems, hset.mems]

end

/-! ### Decisions (R450) -/

theorem State.expertDecide_far {s : State} {i e : Nat} {l : List Assign} {resps : List Resp} {r : Run} {d : Desc} (h : s.run i = some r)
    (hd : s.runDesc r = some d) (he : (s.localExperts d.emap).contains e = false) : s.expertDecide i e l resps = s := by
  unfold State.expertDecide
  rw [h]
  dsimp only
  rw [hd]
  dsimp only
  rw [he]
  exact if_pos (by simp)

theorem State.expertDecide_near {s : State} {i e : Nat} {l : List Assign} {resps : List Resp} {r : Run} {d : Desc} {x : List (Nat × List MRoute)}
    (hr : s.grp.runs = [r]) (hi : r.inst = i) (hd : s.runDesc r = some d) (hk : d.kind = 6) (ho : r.own.isSome = true) (hp : r.paused = false)
    (he : (s.localExperts d.emap).contains e = true) (hn : r.decisions = []) (hx : r.routes = some x) :
    (s.expertDecide i e l resps).grp.runs = [{ r with decisions := [decideFor e (s.exCap d.emap e)
        (r.assigned e ++ l.filter (fun a => agentNode (s.grpMember r.group.toNat a.member.toNat) != s.node))] }] ∧
      (s.expertDecide i e l resps).mems = s.mems ∧ (s.expertDecide i e l resps).out = s.out := by
  have hrun := State.run_one hr hi
  have htake : s.takeRoutes r d resps = (none, s) := by
    unfold State.takeRoutes
    rw [hx]
  obtain ⟨o, ho⟩ := Option.isSome_iff_exists.1 ho
  unfold State.expertDecide
  rw [hrun]
  dsimp only
  rw [hd]
  dsimp only
  rw [he, if_neg (by simp [hk, ho, hp, hn]), htake]
  dsimp only
  rw [hrun]
  dsimp only
  rw [hn, List.nil_append]
  generalize hz : decideFor e (s.exCap d.emap e)
    (r.assigned e ++ l.filter (fun a => agentNode (s.grpMember r.group.toNat a.member.toNat) != s.node)) = z
  generalize hv : (if z.excess = [] then s else s.setF F.GRP_EMAP_STAT_OVER 1) = v
  have hkeep : v.grp = s.grp ∧ v.mems = s.mems ∧ v.out = s.out := by
    rw [← hv]
    split
    · exact ⟨rfl, rfl, rfl⟩
    · exact ⟨State.setF_grp _ _ _ _, by simp only [State.setF_frame], by rw [State.setF, State.wr_out]⟩
  obtain ⟨hg, hm, hout⟩ := hkeep
  have hset := State.setRun_shows (s := v) (x := r) (r := { r with decisions := [z] }) (by rw [hg]; exact hr) rfl
  exact ⟨hset.runs, hset.mems.trans hm, hset.out.trans hout⟩

/-! ### The statement -/

theorem State.recArrive_one {s : State} {i : Nat} {r : Run} {own x : SigRec} (hr : s.grp.runs = [r]) (hi : r.inst = i) (ho : r.own = some own)
    (hv : r.verdict = none) (hp : r.paused = false) (hrecs : r.recs = []) (hg : x.group = r.group) (hn : x.node ≠ s.node)
    (hc : (s.grpNodes r.group.toNat).contains x.node.toNat = true) :
    (2 < (s.grpNodes r.group.toNat).length → s.recArrive i x = s.sigKept i r x) ∧
    ((s.grpNodes r.group.toNat).length = 2 → own.bad = false → own.timed = false → SigRec_differs own x = 0 → s.recArrive i x = (s.sigKept i r x).setRun
      { r with recs := [x], verdict := some true, start := BitVec.ofNat 64 (max (max own.slot.toNat x.slot.toNat + 8) r.start.toNat) }) ∧
    ((s.grpNodes r.group.toNat).length = 2 → own.bad = false → SigRec_differs own x ≠ 0 →
      s.recArrive i x = (s.sigKept i r x).mismatchRun { r with recs := [x] } x.node (SigRec_differs own x)) := by
  have hnodes : (s.sigKept i r x).grpNodes r.group.toNat = s.grpNodes r.group.toNat := (State.sigKept_shows hr).grpNodes _
  rw [State.recArrive_first (State.run_one hr hi) hg hn hrecs hc, ← State.sigKept]
  exact ⟨fun h2 => State.verdictRun_waits ho (by rw [hnodes]; exact h2),
    fun h2 hb ht hd => State.verdictRun_agrees (r := { r with recs := [x] }) ho hv hp rfl (by rw [hnodes]; exact h2) hb ht hd,
    fun h2 hb hd => State.verdictRun_differs (r := { r with recs := [x] }) ho hv hp rfl (by rw [hnodes]; exact h2) hb hd⟩

/-- Settles O20. -/
theorem collectiveAgreement : Obligations.CollectiveAgreement := by
  refine ⟨⟨fun s i x hu hn => exec_same_up (f := (State.recArrive · i.toNat x)) rfl (by unfold State.recArrive; rw [hn]),
    fun s i x own r hu hr hi ho hv hp hrecs hg hn hc => ?_⟩,
    fun s i r hu hr hi hm hv hin hd hq => ⟨fun hle => goes_up (f := (State.roundStart · i.toNat)) rfl hu ?_,
      fun hlt => exec_same_up (f := (State.roundStart · i.toNat)) rfl ?_⟩,
    fun s i r hu hr hi hin hq => goes_up (f := (State.roundEnd · i.toNat)) rfl hu (State.roundEnd_shows hr hi hin hq),
    fun s i r hu hrun hin => exec_same_up (f := (State.roundEnd · i.toNat)) rfl (State.roundEnd_not hrun hin),
    fun s r m d st n hu hr hm hi ht hd hw hreg => goes_up (f := (State.abortArrive · r.group r.seq st n)) rfl hu ?_,
    fun s g q st n hu h => exec_same_up (f := (State.abortArrive · g q st n)) rfl (State.abortArrive_other h st n),
    fun s i r hu hr hi hp hf hin hpa ho hl hw => goes_up (f := (State.collHeld · i.toNat)) rfl hu (State.collHeld_shows hr hi hp hf hin hpa ho hl hw),
    fun s i r hu hrun hn => exec_same_up (f := (State.collHeld · i.toNat)) rfl (State.collHeld_not hrun hn),
    fun s i e l resps r d x hu hr hi hd hk ho hp he hn hx => goes_up (f := (State.expertDecide · i.toNat e.toNat l resps)) rfl hu
      (State.expertDecide_near hr hi hd hk ho hp he hn hx),
    fun s i e l resps r d hu hrun hd he => exec_same_up (f := (State.expertDecide · i.toNat e.toNat l resps)) rfl (State.expertDecide_far hrun hd he)⟩
  · obtain ⟨hwait, hagree, hdiffer⟩ := State.recArrive_one hr hi ho hv hp hrecs hg hn hc
    have hkept := State.sigKept_shows (i := i.toNat) (x := x) hr
    refine ⟨fun h2 => goes_up (f := (State.recArrive · i.toNat x)) rfl hu ?_, fun h2 hb ht hd => goes_up (f := (State.recArrive · i.toNat x)) rfl hu ?_,
      fun m d hm hd hw h2 hb hdi => goes_up (f := (State.recArrive · i.toNat x)) rfl hu ?_⟩
    · rw [hwait h2]
      exact ⟨hkept.runs, hkept.out, hkept.mems⟩
    · rw [hagree h2 hb ht hd]
      refine hkept.runs_out_mems ?_
      rfl
    · rw [hdiffer h2 hb hdi]
      have hqs : (s.sigKept i.toNat r x).qmg.qs = s.qmg.qs := by rw [hkept.qmg]
      exact State.mismatchRun_over (r := { r with recs := [x] }) hm ((State.desc_of_qs hqs _ _).trans hd) (by rw [hqs]; exact hw)
        (by rw [hkept.runs]; rfl) x.node _
  · rw [State.roundStart_due (State.run_one hr hi) hm hv hin hd hq, if_pos hle]
    have hset := State.setRun_shows (r := { r with inRound := true }) hr rfl
    exact ⟨hset.runs, hset.mems, hset.out⟩
  · rw [State.roundStart_due (State.run_one hr hi) hm hv hin hd hq, if_neg (Nat.not_le.2 hlt)]
  · rw [State.abortArrive_same hr]
    exact State.abortRun_counted hm hd hw (by rw [hr]; rfl) st n ht hreg

end Sys2Proof.Machine
end

section
/-!
PROOFS. Time messages.
-/

namespace Sys2Proof.Machine

/-- A port whose numbered flits of slot 1 have used up its share of the slot. -/
def fullPort : LPort := { lport0 0 with slotAt := 1, slotUsed := 312 }

/-- A trained link 0 in slot 1, with two entries under its number among the link ports: one as after reset, which is the one read, and behind it a port
whose share of the slot is used up. -/
def dupPortState : State :=
  let s := Tests.wit0.setF (F.LAN_P_STAT_STATE 0) pUp
  { s with lan := { s.lan with ports := [(0, lport0 0), (0, fullPort)] }, clk := { s.clk with slot := 1 } }

/-- Refutes O21: the clause of TIME_HB_SEND does not ask that the store of link ports is canonical. Where it holds two entries for the port, writing back
the empty queue of the first one, which then is the port's reset value, removes that entry; the second one has no room left in the slot, and the message
waits there: its instant is not kept. -/
theorem not_domainTime : ¬ Obligations.DomainTime := by
  rintro ⟨⟨h, -⟩, -⟩
  obtain ⟨t, he, -, hsent, -⟩ := h dupPortState 0 (by decide +kernel) (by decide +kernel) (by decide +kernel) (by decide +kernel) (by decide +kernel)
    (by decide +kernel)
  have ht : exec (.timeHbSend 0) dupPortState = .next (dupPortState.hbSend 0) :=
    exec_up (f := (State.hbSend · 0)) rfl (by decide +kernel) rfl
  have hnone : ((dupPortState.hbSend 0).pt 0).sent = [] := by decide +kernel
  obtain rfl := Host.Outcome.next.inj (he.symm.trans ht)
  exact absurd ((congrArg List.head? hnone).symm.trans hsent) (by simp)

end Sys2Proof.Machine
end

section
/-!
PROOFS. Tile steps, tile failures and tiles in pairs.
-/

namespace Sys2Proof.Machine

@[simp] theorem State.tileFlit_regs (x0 x1 x2 x3) : (State.tileFlit x0 x1 x2 x3).regs = x0.regs := by
  unfold State.tileFlit; (repeat' split) <;> simp

@[simp] theorem State.tileFlits_regs (x0 x1 x2) : (State.tileFlits x0 x1 x2).regs = x0.regs := by
  induction x2 generalizing x0 x1 <;> simp [State.tileFlits, *]

@[simp] theorem State.sendDoppio_regs (x0 x1 x2) : (State.sendDoppio x0 x1 x2).regs = x0.regs := by
  simp [State.sendDoppio, State.nextSeq]

@[simp] theorem State.sendDoppio_mems (x0 x1 x2) : (State.sendDoppio x0 x1 x2).mems = x0.mems := by
  simp only [State.sendDoppio_frame]

@[simp] theorem State.workWrite_regs (s : State) (n place : Nat) (bs : Bytes) : (s.workWrite n place bs).regs = s.regs := by
  unfold State.workWrite
  dsimp only
  split <;> rfl

@[simp] theorem State.workWrite_out (s : State) (n place : Nat) (bs : Bytes) : (s.workWrite n place bs).out = s.out := by
  unfold State.workWrite
  dsimp only
  split <;> rfl

@[simp] theorem State.workWrite_eng (s : State) (n place : Nat) (bs : Bytes) : (s.workWrite n place bs).eng = s.eng := by
  unfold State.workWrite
  dsimp only
  split <;> rfl

/-! ### The registers of the pairs of tiles -/

/-- The registers of the pairs, and those of an event. -/
def pairRegs (o : Nat) : Prop := Reg.ENG_DOP_CTL 0 ≤ o ∨ o ∈ evtRegs 0

theorem pairRegs_ctl (i : Nat) : pairRegs (Reg.ENG_DOP_CTL i) := Or.inl (Nat.le_add_right _ _)

theorem pairRegs_stat (i : Nat) : pairRegs (Reg.ENG_DOP_STAT i) := Or.inl (by
  change 0x2c0800 + 0x10 * 0 ≤ 0x2c0804 + 0x10 * i
  omega)

theorem pairRegs_cnt (i : Nat) : pairRegs (Reg.ENG_DOP_CNT i) := Or.inl (by
  change 0x2c0800 + 0x10 * 0 ≤ 0x2c0808 + 0x10 * i
  omega)

/-- A tile's own registers, below those of the pairs. -/
theorem not_pairRegs_tile {n : Nat} (hn : n < 64) {o : Nat} (h : 0x280000 + 0x1000 * n ≤ o ∧ o < 0x281000 + 0x1000 * n) : ¬ pairRegs o := by
  simp only [pairRegs, Reg.ENG_DOP_CTL, evtRegs, Reg.QMG_EVT_TAIL, Reg.QMG_EVT_LOST, List.mem_cons, List.not_mem_nil, or_false]
  omega

theorem not_evtRegs_tile {n : Nat} (hn : n < 64) {o : Nat} (h : 0x280000 + 0x1000 * n ≤ o ∧ o < 0x281000 + 0x1000 * n) : ¬ o ∈ evtRegs 0 :=
  fun he => not_pairRegs_tile hn h (Or.inr he)

theorem not_pairRegs_steps {n : Nat} (hn : n < 64) : ¬ pairRegs (Reg.ENG_T_STEPS n) := not_pairRegs_tile hn (by simp only [Reg.ENG_T_STEPS]; omega)

theorem not_pairRegs_resid {n : Nat} (hn : n < 64) : ¬ pairRegs (Reg.ENG_T_RESID n) := not_pairRegs_tile hn (by simp only [Reg.ENG_T_RESID]; omega)

theorem not_pairRegs_stat : ¬ pairRegs Reg.ENG_STAT := by
  simp [pairRegs, Reg.ENG_STAT, Reg.ENG_DOP_CTL, evtRegs, Reg.QMG_EVT_TAIL, Reg.QMG_EVT_LOST]

/-! ### A tile's step (R371, R384) -/

theorem State.setHashes_regs (s : State) (i : Nat) (l : List (List R64)) : (s.setHashes i l).regs = s.regs := rfl

theorem State.dopLost_keeps (s : State) (i : Nat) : RegsBut pairRegs s (s.dopLost i) ∧ (s.dopLost i).mems = s.mems := by
  unfold State.dopLost
  dsimp only
  refine ⟨?_, ?_⟩
  · have h1 : RegsBut pairRegs s ((s.setF (F.ENG_DOP_CTL_EN i) 0).setF (F.ENG_DOP_STAT_LOST i) 1) :=
      ((RegsBut.refl pairRegs s).setF (F.ENG_DOP_CTL_EN i) 0 (pairRegs_ctl i)).setF (F.ENG_DOP_STAT_LOST i) 1 (pairRegs_stat i)
    have h2 := (h1.same_regs (State.setHashes_regs _ i [])).setF (F.ENG_DOP_STAT_BEHIND i) 0 (pairRegs_stat i)
    exact h2.trans ((State.post_regsBut _ _).mono fun _ => Or.inr)
  · rw [State.post_mems]
    simp only [State.setF_frame, State.setHashes]

/-- A leader's step goes to its follower: only the pairs' registers are written, and no memory (R384). -/
theorem State.leaderStep_keeps (s : State) (n : Nat) (reads outs : List Bytes) :
    RegsBut pairRegs s (s.leaderStep n reads outs) ∧ (s.leaderStep n reads outs).mems = s.mems := by
  unfold State.leaderStep
  generalize hf : (fun i (s : State) =>
    if s.on (F.ENG_DOP_CTL_EN i) ∧ !s.on (F.ENG_DOP_CTL_ROLE i) ∧ (s.f (F.ENG_DOP_CTL_TILE i)).toNat = n then
      let s := s.sendDoppio i reads
      let l := s.hashesOf i ++ [outs.map crc64]
      let s := (s.setHashes i l).setF (F.ENG_DOP_STAT_BEHIND i) (BitVec.ofNat 7 l.length)
      if 64 ≤ l.length then s.dopLost i else s
    else s) = f
  have hstep : ∀ i u, RegsBut pairRegs u (f i u) ∧ (f i u).mems = u.mems := fun i u => by
    rw [← hf]
    dsimp only
    split
    · generalize hv : ((u.sendDoppio i reads).setHashes i ((u.sendDoppio i reads).hashesOf i ++ [outs.map crc64])).setF (F.ENG_DOP_STAT_BEHIND i)
        (BitVec.ofNat 7 ((u.sendDoppio i reads).hashesOf i ++ [outs.map crc64]).length) = v
      have hvk : RegsBut pairRegs u v ∧ v.mems = u.mems := by
        rw [← hv]
        refine ⟨RegsBut.setF (RegsBut.of_regs ((State.setHashes_regs _ _ _).trans (State.sendDoppio_regs _ _ _))) _ _ (pairRegs_stat i), ?_⟩
        simp only [State.setF_frame, State.setHashes, State.sendDoppio_mems]
      obtain ⟨h1, h2⟩ := v.dopLost_keeps i
      split
      · exact ⟨hvk.1.trans h1, h2.trans hvk.2⟩
      · exact hvk
    · exact ⟨RegsBut.refl _ _, rfl⟩
  refine ⟨RegsBut.upto (fun i u => (hstep i u).1) 4 s, ?_⟩
  have hm : ∀ k, (upto f k s).mems = s.mems := fun k => by
    induction k with
    | zero => rfl
    | succ k ih => exact (hstep k _).2.trans ih
  exact hm 4

theorem State.tileWrite_regs (s : State) (n : Nat) (w : TileWork) : (s.tileWrite n w).regs = s.regs := by
  simp [State.tileWrite]

/-- A step done counts, and writes what its tile writes. -/
theorem State.stepDone_shows {s : State} {n : Nat} (hn : n < 64) (w : TileWork) (hr : swf regReset s.regs = true) :
    (s.stepDone n w).f (F.ENG_T_STEPS_COUNT n) = s.f (F.ENG_T_STEPS_COUNT n) + 1 ∧ (s.stepDone n w).mems.sram = (s.tileWrite n w).mems.sram ∧
      (s.stepDone n w).clk = s.clk ∧ (s.stepDone n w).on F.ENG_STAT_RESID = s.on F.ENG_STAT_RESID ∧
      (s.stepDone n w).f (F.ENG_T_RESID_RETRIES n) = s.f (F.ENG_T_RESID_RETRIES n) := by
  have hclk : (s.stepDone n w).clk = s.clk := by simp only [State.stepDone_frame]
  have hu := s.tileWrite_regs n w
  have hum : (s.stepDone n w).mems = (s.tileWrite n w).mems := by
    unfold State.stepDone
    simp only [State.tileFlits_frame]
    rw [(State.leaderStep_keeps _ _ _ _).2]
    simp only [State.incF_frame]
  have hb : RegsBut pairRegs ((s.tileWrite n w).incF (F.ENG_T_STEPS_COUNT n) 1) (s.stepDone n w) := by
    unfold State.stepDone
    exact ((State.leaderStep_keeps _ _ _ _).1).same_regs (State.tileFlits_regs _ _ _)
  have hother : ∀ {k : Nat} (g : Fld k), ¬ pairRegs g.off → g.off ≠ Reg.ENG_T_STEPS n → (s.stepDone n w).f g = s.f g := fun g hg hne => by
    rw [hb.f g hg, State.incF, State.f_setF_reg _ _ _ _ hne, State.f_of_regs hu]
  refine ⟨?_, by rw [hum], hclk, congrArg (· == 1) (hother F.ENG_STAT_RESID not_pairRegs_stat ?_), hother _ (not_pairRegs_resid hn) ?_⟩
  · rw [hb.f _ (not_pairRegs_steps hn), State.incF, State.f_setF_same _ _ _ (Nat.le_refl 32) (by rw [hu]; exact hr), State.f_of_regs hu]
    rfl
  · simp only [F.ENG_STAT_RESID, Reg.ENG_STAT, Reg.ENG_T_STEPS]
    omega
  · simp only [F.ENG_T_RESID_RETRIES, Reg.ENG_T_RESID, Reg.ENG_T_STEPS]
    omega

theorem State.tileStep_good {s : State} {n : Nat} {w : TileWork} (hs : s.tileStands n = false) (he : badEntered w = none) (ha : badAdd w.adds = none) :
    s.tileStep n w = s.stepDone n w := by
  unfold State.tileStep
  rw [hs, he, ha]
  rfl

/-- The state in which a wrong residue has been counted in a field of its tile, and reported. -/
def State.residShown (s : State) (f : Fld 16) (e : Ev) : State := ((s.setF F.ENG_STAT_RESID 1).satF f 1).post e

theorem State.residShown_shows {s : State} {n : Nat} (hn : n < 64) {f : Fld 16} (hf : f.off = Reg.ENG_T_RESID n) (hlo : f.lo + 16 ≤ 32) (e : Ev)
    (hr : swf regReset s.regs = true) : swf regReset (s.residShown f e).regs = true ∧ (s.residShown f e).on F.ENG_STAT_RESID = true ∧
      (s.residShown f e).f f = satAdd (s.f f) 1 ∧ (s.residShown f e).f (F.ENG_T_STEPS_COUNT n) = s.f (F.ENG_T_STEPS_COUNT n) ∧
      (s.residShown f e).eng = s.eng ∧ (s.residShown f e).grp = s.grp ∧ (s.residShown f e).qmg.qs = s.qmg.qs := by
  have h1 := State.regs_setF s F.ENG_STAT_RESID 1 hr
  have h2 := State.regs_setF _ f (satAdd ((s.setF F.ENG_STAT_RESID 1).f f) 1) h1
  have hb : RegsBut (· ∈ evtRegs 0) ((s.setF F.ENG_STAT_RESID 1).setF f (satAdd ((s.setF F.ENG_STAT_RESID 1).f f) 1)) (s.residShown f e) :=
    State.post_regsBut _ e
  have hfs : f.off ≠ Reg.ENG_STAT := by
    rw [hf]
    simp only [Reg.ENG_T_RESID, Reg.ENG_STAT]
    omega
  refine ⟨hb.canonical h2, ?_, ?_, ?_, ?_, ?_, ?_⟩
  · rw [State.on, hb.f F.ENG_STAT_RESID (by decide), State.f_setF_reg _ _ _ _ (Ne.symm hfs), State.f_setF_same _ _ _ (by decide) hr]
    rfl
  · rw [hb.f f (by rw [hf]; exact not_evtRegs_tile hn (by simp only [Reg.ENG_T_RESID]; omega)), State.f_setF_same _ _ _ hlo h1, State.f_setF_reg _ _ _ _ hfs]
  · rw [hb.f _ (not_evtRegs_tile hn (by simp only [F.ENG_T_STEPS_COUNT, Reg.ENG_T_STEPS]; omega)), State.f_setF_reg, State.f_setF_reg]
    · simp only [F.ENG_T_STEPS_COUNT, F.ENG_STAT_RESID, Reg.ENG_T_STEPS, Reg.ENG_STAT]
      omega
    · rw [hf]
      simp only [F.ENG_T_STEPS_COUNT, Reg.ENG_T_STEPS, Reg.ENG_T_RESID]
      omega
  · simp [State.residShown, State.satF]
  · simp [State.residShown]
  · simp [State.residShown]

/-- A tile on which nothing works has nothing to abort. -/
theorem State.abortTile_idle {s : State} {n : Nat} (hr : s.grp.runs = []) (hd : s.tileDescs n = []) : s.abortTile n = s := by
  unfold State.abortTile
  rw [hd]
  dsimp only [List.foldl_nil]
  rw [hr]
  rfl

theorem State.tileDescs_of_qs {s t : State} (h : t.qmg.qs = s.qmg.qs) (n : Nat) : t.tileDescs n = s.tileDescs n := by
  rw [State.tileDescs, State.tileDescs, h]

theorem State.tileStep_entered {s : State} {n b : Nat} {w : TileWork} (hs : s.tileStands n = false) (he : badEntered w = some b)
    (hr : s.grp.runs = []) (hd : s.tileDescs n = []) :
    ∃ e, s.tileStep n w = s.residShown (F.ENG_T_RESID_FAILS n) e := by
  refine ⟨evResidueFail (s.tileCtxs n) true true (s.phys n) n b, ?_⟩
  unfold State.tileStep
  rw [hs, he, if_neg Bool.false_ne_true]
  dsimp only
  rw [← State.residShown]
  refine State.abortTile_idle ?_ ?_
  · rw [← hr]
    simp [State.residShown]
  · rw [← hd]
    exact State.tileDescs_of_qs (by simp [State.residShown]) n

theorem State.tileStep_again {s : State} {n b : Nat} {w : TileWork} (hs : s.tileStands n = false) (he : badEntered w = none)
    (ha : badAdd w.adds = some b) (hg : badAdd w.again = none) :
    s.tileStep n w = (s.residShown (F.ENG_T_RESID_RETRIES n) (evResidueRetry (s.phys n) n b)).stepDone n w := by
  unfold State.tileStep
  rw [hs, he, ha, hg, if_neg Bool.false_ne_true]
  rfl

/-! ### A tile that fails (R378 to R380) -/

theorem State.noSpare_eq {s : State} {p n : Nat} (hl : s.logicalOf p = some n) (hf : s.eng.failed = []) : s.noSpare p = decide ((s.spares (logCx n)).length = 0) := by
  unfold State.noSpare State.waiting
  rw [hl, hf]
  simp

theorem State.loseTile_waits {s : State} {p n : Nat} (hl : s.logicalOf p = some n) (hf : s.eng.failed = []) (hs : 0 < (s.spares (logCx n)).length) :
    s.loseTile p = { s with eng := { s.eng with failed := [(n, p, s.clk.slot)] } } := by
  unfold State.loseTile
  dsimp only
  rw [State.noSpare_eq hl hf, if_neg (by simp; exact List.ne_nil_of_length_pos hs)]
  unfold State.tileFail State.waiting
  rw [hl]
  dsimp only
  rw [hf, if_neg (by simp), if_pos (by simpa using hs)]
  rfl

/-- The logical tile unbound from the physical one, which is disabled. -/
def State.unbound (s : State) (p n : Nat) : State := ((s.disable p).setF (F.ENG_T_STAT_PHYS n) 0x3F).setF (F.ENG_T_STAT_STATE n) 2

theorem State.loseTile_unbinds {s : State} {p n : Nat} (hl : s.logicalOf p = some n) (hf : s.eng.failed = []) (hs : s.spares (logCx n) = [])
    (hr : s.grp.runs = []) (hd : s.tileDescs n = []) : ∃ e, s.loseTile p = ((s.unbound p n).countSpares.setF F.GLB_TILES_SHORT 1).post e := by
  have hfail : s.tileFail p = ((s.unbound p n).countSpares.setF F.GLB_TILES_SHORT 1).post (evTileFailed (s.tileCtxs n) p n) := by
    unfold State.tileFail State.waiting
    rw [hl]
    dsimp only
    rw [hf, if_neg (by simp), if_neg (by simp [hs])]
    rfl
  refine ⟨evTileFailed (s.tileCtxs n) p n, ?_⟩
  unfold State.loseTile
  dsimp only
  rw [State.noSpare_eq hl hf, hs, if_pos (decide_eq_true List.length_nil), hl, hfail]
  refine State.abortTile_idle ?_ ?_
  · rw [← hr]
    simp [State.countSpares, State.unbound, State.disable]
  · rw [← hd]
    exact State.tileDescs_of_qs (by simp [State.countSpares, State.unbound, State.disable]) n

theorem State.unbound_shows {s : State} {p n : Nat} (hp : p < 56) (hr : swf regReset s.regs = true) : swf regReset (s.unbound p n).regs = true ∧
    (s.unbound p n).f (F.ENG_T_STAT_PHYS n) = 0x3F ∧ (s.unbound p n).f (F.ENG_T_STAT_STATE n) = 2 ∧ (s.unbound p n).disabled p = true := by
  have h1 : swf regReset ((s.disable p).setF (F.ENG_T_STAT_PHYS n) 0x3F).regs = true := State.regs_setF _ _ _ hr
  refine ⟨State.regs_setF _ _ _ h1, ?_, State.f_setF_same _ _ _ (show 30 + 2 ≤ 32 by decide) h1, testBit_or_two_pow _ _ hp⟩
  rw [State.unbound, State.f_setF_other _ _ _ _ h1 (Or.inr (Or.inl (show 8 + 6 ≤ 30 by decide)))]
  exact State.f_setF_same _ _ _ (show 8 + 6 ≤ 32 by decide) hr

theorem not_mapRegs_tileStat {n : Nat} (hn : n < 64) : ¬ mapRegs (Reg.ENG_T_STAT n) := by
  simp only [mapRegs, Reg.ENG_T_STAT, Reg.GLB_TILES, Reg.CLY_STAT, evtRegs, Reg.QMG_EVT_TAIL, Reg.QMG_EVT_LOST, List.mem_cons, List.not_mem_nil, or_false]
  omega

theorem State.tileFailed_shows {s : State} {p n : Nat} (hp : p < 56) (hn : n < 64) (hr : swf regReset s.regs = true) (e : Ev) :
    (((s.unbound p n).countSpares.setF F.GLB_TILES_SHORT 1).post e).phys n = 0x3F ∧
      (((s.unbound p n).countSpares.setF F.GLB_TILES_SHORT 1).post e).f (F.ENG_T_STAT_STATE n) = 2 ∧
      (((s.unbound p n).countSpares.setF F.GLB_TILES_SHORT 1).post e).on F.GLB_TILES_SHORT = true ∧
      (((s.unbound p n).countSpares.setF F.GLB_TILES_SHORT 1).post e).disabled p = true := by
  obtain ⟨h1, h2, h3, h4⟩ := State.unbound_shows (n := n) hp hr
  generalize s.unbound p n = u at h1 h2 h3 h4 ⊢
  have hc := u.countSpares_regsBut
  have hb : RegsBut mapRegs u ((u.countSpares.setF F.GLB_TILES_SHORT 1).post e) :=
    (hc.setF F.GLB_TILES_SHORT 1 (Or.inl rfl)).trans ((State.post_regsBut _ e).mono fun _ h => Or.inr (Or.inr h))
  refine ⟨?_, (hb.f _ (not_mapRegs_tileStat hn)).trans h3, ?_, ?_⟩
  · rw [State.phys, hb.f _ (not_mapRegs_tileStat hn), h2]
    rfl
  · rw [State.on, State.f_post _ _ _ (by decide), State.f_setF_same _ _ _ (by decide) (hc.canonical h1)]
    rfl
  · rw [State.disabled, ← h4, State.disabled]
    simp

theorem State.logicalOf_lt {s : State} {p n : Nat} (h : s.logicalOf p = some n) : n < 48 := List.mem_range.1 (List.mem_of_find?_eq_some h)

theorem State.loseTile_disabled {s : State} {p : Nat} (hl : s.logicalOf p = none) (hd : s.disabled p = true) : s.loseTile p = s := by
  unfold State.loseTile State.noSpare State.tileFail
  rw [hl]
  dsimp only
  rw [hd, if_neg Bool.false_ne_true, if_pos rfl]

/-! ### Tiles in pairs (R384, R385) -/

theorem State.hashesOf_setHashes {s : State} (i : Nat) (l : List (List R64)) (h : swf noHash s.eng.hashes = true) : (s.setHashes i l).hashesOf i = l :=
  sget_sset_same _ _ _ _ h

theorem State.hashesOf_of_eng {s t : State} (h : t.eng = s.eng) (i : Nat) : t.hashesOf i = s.hashesOf i := by rw [State.hashesOf, State.hashesOf, h]

/-- A follower's step: its hashes noted, its inputs and outputs in the working store, the step counted. -/
def State.followed (s : State) (i n a : Nat) (rd : List Bytes) (b : Nat) (bl : List Bytes) : State :=
  (((s.setHashes i (s.hashesOf i ++ [bl.map crc64])).workWrite n a rd.flatten).workWrite n b bl.flatten).incF (F.ENG_T_STEPS_COUNT n) 1

theorem State.followStep_eq {s : State} {i n a b : Nat} {rd bl : List Bytes} (he : s.on (F.ENG_DOP_CTL_EN i) = true)
    (hrole : s.on (F.ENG_DOP_CTL_ROLE i) = true) (hn : n = (s.f (F.ENG_DOP_CTL_TILE i)).toNat) (h48 : n < 48) :
    s.followStep i a rd b bl = (s.followed i n a rd b bl).emit (.doppio ((s.followed i n a rd b bl).f (F.ENG_DOP_CTL_PEER i))
      ((s.followed i n a rd b bl).f (F.ENG_DOP_CTL_PEER_TILE i)) (bl.map crc64)) := by
  unfold State.followStep
  rw [if_pos ⟨he, hrole⟩]
  dsimp only
  rw [← hn, if_pos h48]
  rfl

theorem State.workWrite_of_mems {s t : State} (hm : t.mems = s.mems) (hr : t.regs = s.regs) (n a : Nat) (bs : Bytes) :
    (t.workWrite n a bs).mems = (s.workWrite n a bs).mems := by
  unfold State.workWrite State.workStart
  dsimp only
  rw [State.f_of_regs hr]
  split
  · exact hm
  · rw [hm]

theorem State.followed_shows {s : State} {i n : Nat} (a : Nat) (rd : List Bytes) (b : Nat) (bl : List Bytes)
    (hw : swf noHash s.eng.hashes = true) (hr : swf regReset s.regs = true) :
    (s.followed i n a rd b bl).hashesOf i = s.hashesOf i ++ [bl.map crc64] ∧ (s.followed i n a rd b bl).out = s.out ∧
      (s.followed i n a rd b bl).mems = ((s.workWrite n a rd.flatten).workWrite n b bl.flatten).mems ∧
      (s.followed i n a rd b bl).f (F.ENG_T_STEPS_COUNT n) = s.f (F.ENG_T_STEPS_COUNT n) + 1 ∧
      (∀ {k : Nat} (g : Fld k), g.off = Reg.ENG_DOP_CTL i → (s.followed i n a rd b bl).f g = s.f g) := by
  unfold State.followed
  generalize hu : s.setHashes i (s.hashesOf i ++ [bl.map crc64]) = u
  have hur : u.regs = s.regs := by rw [← hu]; rfl
  have hum : u.mems = s.mems := by rw [← hu]; rfl
  have huo : u.out = s.out := by rw [← hu]; rfl
  have huh : u.hashesOf i = s.hashesOf i ++ [bl.map crc64] := by rw [← hu]; exact State.hashesOf_setHashes _ _ hw
  generalize hv : (u.workWrite n a rd.flatten).workWrite n b bl.flatten = v
  have hvr : v.regs = s.regs := by rw [← hv, State.workWrite_regs, State.workWrite_regs, hur]
  refine ⟨?_, ?_, ?_, ?_, fun g hg => ?_⟩
  · rw [← huh]
    refine State.hashesOf_of_eng ?_ i
    rw [State.incF_eng, ← hv, State.workWrite_eng, State.workWrite_eng]
  · rw [← huo, State.incF, State.setF, State.wr_out, ← hv, State.workWrite_out, State.workWrite_out]
  · simp only [State.incF_frame]
    rw [← hv]
    exact State.workWrite_of_mems (State.workWrite_of_mems hum hur n a _) (by rw [State.workWrite_regs, State.workWrite_regs, hur]) n b _
  · rw [State.incF, State.f_setF_same _ _ _ (Nat.le_refl 32) (by rw [hvr]; exact hr), State.f_of_regs hvr]
    rfl
  · rw [State.incF, State.f_setF_reg, State.f_of_regs hvr]
    rw [hg]
    simp only [F.ENG_T_STEPS_COUNT, Reg.ENG_T_STEPS, Reg.ENG_DOP_CTL]
    omega

theorem State.followStep_not {s : State} {i a b : Nat} {rd bl : List Bytes}
    (h : s.on (F.ENG_DOP_CTL_EN i) = false ∨ s.on (F.ENG_DOP_CTL_ROLE i) = false) : s.followStep i a rd b bl = s := by
  unfold State.followStep
  refine if_neg ?_
  rcases h with h | h <;> simp [h]

/-- The step's hashes taken from those that wait, the step counted, and, at a leader, its own hashes sent. -/
def State.compared (s : State) (i : Nat) (own : List R64) (rest : List (List R64)) : State :=
  let u := (s.setHashes i rest).incF (F.ENG_DOP_CNT_STEPS i) 1
  if u.on (F.ENG_DOP_CTL_ROLE i) then u
  else (u.setF (F.ENG_DOP_STAT_BEHIND i) (BitVec.ofNat 7 rest.length)).emit
    (.doppio (u.f (F.ENG_DOP_CTL_PEER i)) (u.f (F.ENG_DOP_CTL_PEER_TILE i)) own)

theorem State.dopCompare_none {s : State} {i : Nat} {h : List R64} (hh : s.hashesOf i = []) : s.dopCompare i h = s := by
  unfold State.dopCompare
  rw [hh]
  cases s.on (F.ENG_DOP_CTL_EN i) <;> rfl

theorem State.dopCompare_eq {s : State} {i : Nat} {own theirs : List R64} {rest : List (List R64)} (he : s.on (F.ENG_DOP_CTL_EN i) = true)
    (hh : s.hashesOf i = own :: rest) : ∃ k, s.dopCompare i theirs = (s.compared i own rest).dopDiffer i k
      ((List.range (max own.length theirs.length)).filter (fun b => own[b]? != theirs[b]?)) := by
  refine ⟨((s.compared i own rest).f (F.ENG_DOP_CNT_STEPS i)).toNat, ?_⟩
  unfold State.dopCompare
  rw [he, hh]
  rfl

section
variable {s : State} {i : Nat} (own : List R64) (rest : List (List R64)) (hw : swf noHash s.eng.hashes = true) (hr : swf regReset s.regs = true)
include hw hr

theorem State.compared_shows : swf regReset (s.compared i own rest).regs = true ∧ (s.compared i own rest).hashesOf i = rest ∧
    (s.compared i own rest).f (F.ENG_DOP_CNT_STEPS i) = s.f (F.ENG_DOP_CNT_STEPS i) + 1 ∧
    (s.compared i own rest).f (F.ENG_DOP_CNT_MISMATCHES i) = s.f (F.ENG_DOP_CNT_MISMATCHES i) ∧
    (s.compared i own rest).f (F.ENG_DOP_STAT_MISMATCH i) = s.f (F.ENG_DOP_STAT_MISMATCH i) ∧ (s.compared i own rest).mems = s.mems := by
  unfold State.compared
  dsimp only
  generalize hv : s.setHashes i rest = v
  have hvr : v.regs = s.regs := by rw [← hv]; rfl
  have hvw : swf regReset v.regs = true := by rw [hvr]; exact hr
  have hvh : v.hashesOf i = rest := by rw [← hv]; exact State.hashesOf_setHashes _ _ hw
  have hvm : v.mems = s.mems := by rw [← hv]; rfl
  generalize hu : v.incF (F.ENG_DOP_CNT_STEPS i) 1 = u
  have huw : swf regReset u.regs = true := by rw [← hu]; exact State.regs_setF _ _ _ hvw
  have huh : u.hashesOf i = rest := by rw [← hu, ← hvh]; exact State.hashesOf_of_eng (State.incF_eng _ _ _ _) i
  have hus : u.f (F.ENG_DOP_CNT_STEPS i) = s.f (F.ENG_DOP_CNT_STEPS i) + 1 := by
    rw [← hu, State.incF, State.f_setF_same _ _ _ (show 0 + 16 ≤ 32 by decide) hvw, State.f_of_regs hvr]
    rfl
  have hum : u.f (F.ENG_DOP_CNT_MISMATCHES i) = s.f (F.ENG_DOP_CNT_MISMATCHES i) := by
    rw [← hu, State.incF, State.f_setF_other _ _ _ _ hvw (Or.inr (Or.inr (show 0 + 16 ≤ 16 by decide))), State.f_of_regs hvr]
  have hut : u.f (F.ENG_DOP_STAT_MISMATCH i) = s.f (F.ENG_DOP_STAT_MISMATCH i) := by
    rw [← hu, State.incF, State.f_setF_reg, State.f_of_regs hvr]
    simp only [F.ENG_DOP_STAT_MISMATCH, F.ENG_DOP_CNT_STEPS, Reg.ENG_DOP_STAT, Reg.ENG_DOP_CNT]
    omega
  have humems : u.mems = s.mems := by rw [← hu, ← hvm]; simp only [State.incF_frame]
  split
  · exact ⟨huw, huh, hus, hum, hut, humems⟩
  · generalize Out.doppio _ _ own = o
    have hne : Reg.ENG_DOP_CNT i ≠ Reg.ENG_DOP_STAT i := by
      simp only [Reg.ENG_DOP_STAT, Reg.ENG_DOP_CNT]
      omega
    have hreg := State.emit_regs (u.setF (F.ENG_DOP_STAT_BEHIND i) (BitVec.ofNat 7 rest.length)) o
    refine ⟨by rw [hreg]; exact State.regs_setF _ _ _ huw, ?_, ?_, ?_, ?_, ?_⟩
    · rw [← huh]
      exact State.hashesOf_of_eng (by simp) i
    · rw [← hus, State.f_of_regs hreg]
      exact State.f_setF_reg _ _ _ _ hne
    · rw [← hum, State.f_of_regs hreg]
      exact State.f_setF_reg _ _ _ _ hne
    · rw [← hut, State.f_of_regs hreg]
      exact State.f_setF_other _ _ _ _ huw (Or.inr (Or.inr (show 0 + 7 ≤ 31 by decide)))
    · rw [← humems]
      simp only [State.emit_frame, State.setF_frame]

end

/-- A block's hash that differs: MISMATCH and DOPPIO set, and the block counted (R385). -/
theorem State.dopDiffer_one {u : State} {i : Nat} (hi : i < 4) (k b : Nat) (hr : swf regReset u.regs = true) :
    (u.dopDiffer i k [b]).hashesOf i = u.hashesOf i ∧ (u.dopDiffer i k [b]).f (F.ENG_DOP_STAT_MISMATCH i) = 1 ∧
      (u.dopDiffer i k [b]).on F.ENG_STAT_DOPPIO = true ∧
      (u.dopDiffer i k [b]).f (F.ENG_DOP_CNT_MISMATCHES i) = satAdd (u.f (F.ENG_DOP_CNT_MISMATCHES i)) 1 := by
  have h1 := State.regs_setF u (F.ENG_DOP_STAT_MISMATCH i) 1 hr
  have h2 := State.regs_setF _ F.ENG_STAT_DOPPIO 1 h1
  have hcs : Reg.ENG_DOP_CNT i ≠ Reg.ENG_DOP_STAT i := by
    simp only [Reg.ENG_DOP_STAT, Reg.ENG_DOP_CNT]
    omega
  have hce : Reg.ENG_DOP_CNT i ≠ Reg.ENG_STAT := by
    simp only [Reg.ENG_STAT, Reg.ENG_DOP_CNT]
    omega
  have hse : Reg.ENG_DOP_STAT i ≠ Reg.ENG_STAT := by
    simp only [Reg.ENG_STAT, Reg.ENG_DOP_STAT]
    omega
  have hev : ∀ o, 0x2c0000 ≤ o → o ∉ evtRegs 0 := fun o ho => by
    simp only [evtRegs, Reg.QMG_EVT_TAIL, Reg.QMG_EVT_LOST, List.mem_cons, List.not_mem_nil, or_false]
    omega
  have hevc : Reg.ENG_DOP_CNT i ∉ evtRegs 0 := hev _ (by simp only [Reg.ENG_DOP_CNT]; omega)
  have hevs : Reg.ENG_DOP_STAT i ∉ evtRegs 0 := hev _ (by simp only [Reg.ENG_DOP_STAT]; omega)
  unfold State.dopDiffer State.dopDiffer State.satF
  refine ⟨State.hashesOf_of_eng (by simp) i, ?_, ?_, ?_⟩
  · rw [State.f_post _ _ _ hevs, State.f_setF_reg _ _ _ _ (Ne.symm hcs), State.f_setF_reg _ _ _ _ hse,
      State.f_setF_same _ _ _ (show 31 + 1 ≤ 32 by decide) hr]
  · rw [State.on, State.f_post _ _ _ (by decide), State.f_setF_reg _ _ _ _ (Ne.symm hce), State.f_setF_same _ _ _ (by decide) h1]
    rfl
  · rw [State.f_post _ _ _ hevc, State.f_setF_same _ _ _ (show 16 + 16 ≤ 32 by decide) h2, State.f_setF_reg _ _ _ _ hce, State.f_setF_reg _ _ _ _ hcs]

/-! ### Writes of a tile's control (R343) -/

theorem State.engTCtl_busy {s : State} {n : Nat} {v : R32} (hn : n < 48) (hb : s.tileBusy n = true) : s.engTCtl n v = s.keepWr (Reg.ENG_T_CTL n) v := by
  unfold State.engTCtl
  rw [if_neg (Nat.not_le.2 hn), if_pos hb]

theorem State.engTCtl_idle {s : State} {n : Nat} {v : R32} (hn : n < 48) (hb : s.tileBusy n = false) (ha : s.accExts = []) :
    s.engTCtl n v = s.setF (F.ENG_T_CTL_WORK n) (fget (F.ENG_T_CTL_WORK n) v) := by
  unfold State.engTCtl State.setWork
  rw [if_neg (Nat.not_le.2 hn), hb, if_neg Bool.false_ne_true]
  dsimp only
  rw [ha]
  rfl

/-- Settles O26. -/
theorem tiles : Obligations.Tiles := by
  refine ⟨⟨fun s n w hu hs he ha => ⟨exec_up (f := (State.tileStep · n.toNat w)) rfl hu (State.tileStep_good hs he ha),
      fun hr => goes_up (f := (State.tileStep · n.toNat w)) rfl hu ?_⟩,
    fun s n w hs => exec_same_up (f := (State.tileStep · n.toNat w)) rfl (if_pos hs),
    fun s n w b hu hs he hruns hd hr => goes_up (f := (State.tileStep · n.toNat w)) rfl hu ?_,
    fun s n w b hu hs he ha hg hr => goes_up (f := (State.tileStep · n.toNat w)) rfl hu ?_,
    fun s p n hu hp hl hf hs => exec_up (f := fun s => if p.toNat < 56 then s.loseTile p.toNat else s) rfl hu
      ((if_pos hp).trans (State.loseTile_waits hl hf hs)),
    fun s p n hu hp hl hf hs hruns hd hr => goes_up (f := fun s => if p.toNat < 56 then s.loseTile p.toNat else s) rfl hu ?_,
    fun s p h => exec_same_up (f := fun s => if p.toNat < 56 then s.loseTile p.toNat else s) rfl ?_⟩,
    fun s n v ht hn hb => exec_wr (f := (State.engTCtl · n.toNat v)) rfl ht (State.engTCtl_busy hn hb),
    fun s n v ht hn hb ha => exec_wr (f := (State.engTCtl · n.toNat v)) rfl ht (State.engTCtl_idle hn hb ha),
    fun s n v hn => exec_same_wr (f := (State.engTCtl · n.toNat v)) rfl (if_pos hn),
    fun s i a b rd bl n hu he hrole hn h48 hw hr => goes_up (f := (State.followStep · i.toNat a.toNat rd b.toNat bl)) rfl hu ?_,
    fun s i a b rd bl h => exec_same_up (f := (State.followStep · i.toNat a.toNat rd b.toNat bl)) rfl (State.followStep_not h),
    fun s i h l hu he hh hw hr => goes_up (f := (State.dopCompare · i.toNat h)) rfl hu ?_,
    fun s i h x l hu he hh hne hw hr => goes_up (f := (State.dopCompare · i.toNat [x])) rfl hu ?_,
    fun s i h hh => exec_same_up (f := (State.dopCompare · i.toNat h)) rfl (State.dopCompare_none hh)⟩
  · rw [State.tileStep_good hs he ha]
    obtain ⟨h1, h2, h3, -⟩ := State.stepDone_shows n.isLt w hr
    exact ⟨h1, h2, h3⟩
  · obtain ⟨e, hstep⟩ := State.tileStep_entered hs he hruns hd
    rw [hstep]
    obtain ⟨-, h2, h3, h4, h5, -⟩ := State.residShown_shows n.isLt (f := F.ENG_T_RESID_FAILS n.toNat) rfl (show 16 + 16 ≤ 32 by decide) e hr
    exact ⟨h2, h3, h4, h5⟩
  · rw [State.tileStep_again hs he ha hg]
    obtain ⟨h1, h2, h3, h4, -⟩ := State.residShown_shows n.isLt (f := F.ENG_T_RESID_RETRIES n.toNat) rfl (show 0 + 16 ≤ 32 by decide)
      (evResidueRetry (s.phys n.toNat) n.toNat b) hr
    obtain ⟨k1, -, -, k4, k5⟩ := State.stepDone_shows n.isLt w h1
    exact ⟨k4.trans h2, k5.trans h3, by rw [k1, h4]⟩
  · obtain ⟨e, hlose⟩ := State.loseTile_unbinds hl hf hs hruns hd
    rw [if_pos hp, hlose]
    exact State.tileFailed_shows hp (Nat.lt_trans (State.logicalOf_lt hl) (by decide)) hr e
  · rcases h with h | ⟨hl, hd⟩
    · exact if_neg (Nat.not_lt.2 h)
    · rw [State.loseTile_disabled hl hd, ite_self]
  · rw [State.followStep_eq he hrole hn h48]
    obtain ⟨h1, h2, h3, h4, h5⟩ := State.followed_shows (i := i.toNat) a.toNat rd b.toNat bl hw hr
    rw [h5 _ rfl, h5 _ rfl]
    generalize s.followed i.toNat n a.toNat rd b.toNat bl = t at h1 h2 h3 h4
    refine ⟨h1, ?_, h3, h4⟩
    rw [← h2]
    rfl
  · obtain ⟨k, hcmp⟩ := State.dopCompare_eq (theirs := h) he hh
    obtain ⟨-, h1, h2, -, h4, h5⟩ := State.compared_shows (i := i.toNat) h l hw hr
    rw [hcmp, List.filter_eq_nil_iff.2 fun b _ => by simp]
    exact ⟨h1, h2, h4, h5⟩
  · obtain ⟨k, hcmp⟩ := State.dopCompare_eq (theirs := [x]) he hh
    obtain ⟨h0, h1, -, h3, -⟩ := State.compared_shows (i := i.toNat) [h] l hw hr
    have hbad : (List.range (max [h].length [x].length)).filter (fun b => [h][b]? != [x][b]?) = [0] := by simp [hne]
    rw [hcmp, hbad]
    obtain ⟨k1, k2, k3, k4⟩ := State.dopDiffer_one (i := i.toNat) i.isLt k 0 h0
    exact ⟨k1.trans h1, k2, k3, by rw [k4, h3]⟩

end Sys2Proof.Machine
end

section
/-!
PROOFS. Spill channels, the sending side.
-/

namespace Sys2Proof.Machine

/-! ### The channel store -/

section
variable {s : State} (c : Nat) (v : Chan) (hw : swf chan0 s.eth.chans = true)
include hw

theorem State.ch_setCh : (s.setCh c v).ch c = v := sget_sset_same _ _ _ _ hw

theorem State.setCh_wf : swf chan0 (s.setCh c v).eth.chans = true := swf_sset _ _ _ _ hw

end

theorem State.setCh_regs (s : State) (c : Nat) (v : Chan) : (s.setCh c v).regs = s.regs := rfl

theorem State.setCh_out (s : State) (c : Nat) (v : Chan) : (s.setCh c v).out = s.out := rfl

theorem State.setCh_mems (s : State) (c : Nat) (v : Chan) : (s.setCh c v).mems = s.mems := rfl

theorem State.ch_of_chans {s t : State} (h : t.eth.chans = s.eth.chans) (c : Nat) : t.ch c = s.ch c := by rw [State.ch, State.ch, h]

theorem State.on_of_regs {s t : State} (h : t.regs = s.regs) (f : Fld 1) : t.on f = s.on f := congrArg (· == 1) (State.f_of_regs h f)

theorem State.chPort_of_regs {s t : State} (h : t.regs = s.regs) (c : Nat) : t.chPort c = s.chPort c := congrArg BitVec.toNat (State.f_of_regs h _)

theorem State.chPort_lt (s : State) (c : Nat) : s.chPort c < 4 := (s.f (F.ETH_CH_CFG_PORT c)).isLt

/-- Nothing is sent of an empty queue. -/
theorem State.chSend_empty {s : State} {c : Nat} (h : (s.ch c).txq = []) : s.chSend c = s := by
  rw [State.chSend, h]
  rfl

/-- Nothing is sent on a port that is down. -/
theorem State.chSend_down {s : State} {c : Nat} (h : s.on (F.ETH_P_STAT_UP (s.chPort c)) = false) : s.chSend c = s := by
  unfold State.chSend
  cases (s.ch c).txq.length with
  | zero => rfl
  | succ n =>
    unfold State.chPump
    dsimp only
    cases (s.ch c).txq with
    | nil => rfl
    | cons p rest => exact if_pos (by simp [h])

/-! ### A packet sent -/

/-- The registers of the ports, below those of the channels. -/
def portRegs (o : Nat) : Prop := o < Reg.ETH_CH_CFG 0

theorem State.egress_keeps (s : State) {e : Nat} (he : e < 4) (bytes : Nat) (colour : BitVec 2) (ect : Bool) :
    RegsBut portRegs s (s.egress e bytes colour ect).2 ∧ (s.egress e bytes colour ect).2.eth.chans = s.eth.chans := by
  have hdrop : portRegs (Reg.ETH_P_DROP e) := by
    simp only [portRegs, Reg.ETH_P_DROP, Reg.ETH_CH_CFG]
    omega
  have hecn : portRegs (Reg.ETH_P_ECN e) := by
    simp only [portRegs, Reg.ETH_P_ECN, Reg.ETH_CH_CFG]
    omega
  have hred : ∀ p q mn mx pm, (s.redMark p q mn mx pm).2.eth.chans = s.eth.chans := fun p q mn mx pm => by
    unfold State.redMark
    (repeat' split) <;> rfl
  have hq : ∀ (u : State) (v : EthPort), (u.setEthQ e v).regs = u.regs := fun _ _ => rfl
  unfold State.egress
  dsimp only
  split
  · exact ⟨(RegsBut.of_regs (hq s _)).setF _ _ hdrop, rfl⟩
  · have hr := s.redMark_regs (14 + e)
    split
    · exact ⟨(RegsBut.of_regs ((hq _ _).trans (hr _ _ _ _))).setF _ _ hdrop, hred _ _ _ _ _⟩
    · dsimp only
      split
      · exact ⟨(RegsBut.of_regs ((hq _ _).trans (hr _ _ _ _))).setF _ _ hecn, hred _ _ _ _ _⟩
      · exact ⟨RegsBut.of_regs ((hq _ _).trans (hr _ _ _ _)), hred _ _ _ _ _⟩

theorem State.spillOut_keeps (s : State) (c : Nat) (p : Spill) : RegsBut portRegs s (s.spillOut c p) ∧ (s.spillOut c p).eth.chans = s.eth.chans := by
  unfold State.spillOut
  dsimp only
  generalize hu : ({ s with ep := { s.ep with tcmEth := _ } } : State) = u
  have hur : u.regs = s.regs := by rw [← hu]
  have huc : u.eth.chans = s.eth.chans := by rw [← hu]
  generalize hx : u.egress (u.chPort c) _ _ _ = x
  have hk : RegsBut portRegs u x.2 ∧ x.2.eth.chans = u.eth.chans := by
    rw [← hx]
    exact u.egress_keeps (u.chPort_lt c) _ _ _
  have hres : RegsBut portRegs s x.2 ∧ x.2.eth.chans = s.eth.chans := ⟨(RegsBut.of_regs hur).trans hk.1, hk.2.trans huc⟩
  obtain ⟨o, t⟩ := x
  cases o with
  | none => exact hres
  | some ce =>
    refine ⟨hres.1.same_regs (State.emit_regs _ _), ?_⟩
    rw [← hres.2]
    unfold State.emit
    split <;> rfl

/-! ### Records started (R566, R567, R569) -/

theorem State.recStart_not {s : State} {c op : Nat} {b : Bytes} {l : List Resp} (h : s.chOn c = false ∨ s.f (F.ETH_CH_STAT_ERR c) ≠ 0 ∨
    (s.ch c).sqNext = ringIx (s.f (F.ETH_CH_SQ_LO_LOG2_SIZE c)) (s.ch c).sqTail) : s.recStart c op b l = s := by
  unfold State.recStart
  exact if_pos (h.imp (by simp) id)

/-- The read of the next record of a channel's send ring. -/
def State.recRead (s : State) (c : Nat) : State := s.emit (.hostRead (s.sqBase c + BitVec.ofNat 64 (64 * (s.ch c).sqNext.toNat)) 64)

/-- The record that starts, as it is read. -/
def State.newRec (s : State) (c : Nat) (b : Bytes) : SRec := ⟨(s.ch c).sqNext, words64 8 b, (s.ch c).nextMsg, 0, 0, stOk, 0, .running⟩

/-- The channel with the record's place and its message number taken. -/
def State.recTaken (s : State) (c : Nat) : State :=
  (s.recRead c).setCh c { s.ch c with sqNext := ringSucc (s.f (F.ETH_CH_SQ_LO_LOG2_SIZE c)) (s.ch c).sqNext, nextMsg := (s.ch c).nextMsg + 1 }

/-- The packet of a record, before it is cut into parts. -/
def State.recPkt (s : State) (c op : Nat) (b : Bytes) : Spill :=
  { (s.recTaken c).pkt0 c (BitVec.ofNat 4 (if op = 3 then 4 else op)) with
    msg := (s.newRec c b).msg, imm := BitVec.ofNat 32 (w64 ((s.newRec c b).w 6) 31 0), immEn := decide (op = 1) && bitAt ((s.newRec c b).w 0).toNat 9 }

/-- The request packet of a GET record: its offset and its length. -/
def State.getPkt (s : State) (c : Nat) (b : Bytes) : Spill :=
  let r := s.newRec c b
  { s.recPkt c 2 b with
    first := true, last := true, offset := BitVec.ofNat 64 (r.w 4).toNat, nak := BitVec.ofNat 8 (r.len / 2 ^ 24), len24 := BitVec.ofNat 24 r.len }

/-- The packet of a PUT or SEND record of no bytes. -/
def State.emptyPkt (s : State) (c op : Nat) (b : Bytes) : Spill :=
  let off := if op = 3 then 0 else ((s.newRec c b).w 4).toNat
  { s.recPkt c op b with first := true, last := true, offset := BitVec.ofNat 64 off, payload := [] }

def State.addRec (s : State) (c : Nat) (r : SRec) : State := s.setCh c { s.ch c with recs := (s.ch c).recs ++ [r] }

def State.addPkt (s : State) (c : Nat) (p : Spill) : State := s.setCh c { s.ch c with txq := (s.ch c).txq ++ [p] }

def State.addBoth (s : State) (c : Nat) (r : SRec) (p : Spill) : State :=
  s.setCh c { s.ch c with recs := (s.ch c).recs ++ [r], txq := (s.ch c).txq ++ [p] }

/-- No bytes are one packet without payload. -/
theorem State.parts_nil (s : State) (p : Spill) (off mss : Nat) :
    s.parts p off mss (0 + 1) true [] = [{ p with first := true, last := true, offset := BitVec.ofNat 64 off, payload := [] }] := by
  simp [State.parts]

theorem State.spillIo_outcome (s : State) (c : Nat) (l : List Resp) (word : Nat) : ¬ ((s.spillIo c l).outcome word).1 ≠ stOk := not_not.2 rfl

section
variable {s : State} {c : Nat} {b : Bytes} {l : List Resp} (hon : s.chOn c = true) (herr : s.f (F.ETH_CH_STAT_ERR c) = 0)
  (hnext : (s.ch c).sqNext ≠ ringIx (s.f (F.ETH_CH_SQ_LO_LOG2_SIZE c)) (s.ch c).sqTail)
include hon herr hnext

theorem State.recStart_bad {op : Nat} (hb : recordBad (words64 8 b) = true) : s.recStart c op b l = (s.recRead c).setF (F.ETH_CH_STAT_ERR c) 1 := by
  unfold State.recStart
  dsimp only
  rw [if_neg (by simp [hon, hnext]; exact herr), if_pos hb]
  rfl

variable (hb : recordBad (words64 8 b) = false)
include hb

theorem State.recStart_get (hop : (s.newRec c b).op = 2) : s.recStart c 2 b l =
    ((s.recTaken c).addBoth c { s.newRec c b with left := (s.newRec c b).len } (s.getPkt c b)).chSend c := by
  unfold State.recStart
  dsimp only
  rw [if_neg (by simp [hon, hnext]; exact herr), hb, if_neg Bool.false_ne_true]
  rw [State.newRec] at hop
  rw [hop, if_neg (by decide), if_pos rfl]
  rfl

/-- A PUT or SEND record of no bytes: one packet without payload, at the record's offset or 0. -/
theorem State.recStart_empty {op : Nat} (h2 : op ≠ 2) (hop : (s.newRec c b).op = op) (hlen : (s.newRec c b).len = 0) :
    s.recStart c op b l = (((s.recTaken c).addRec c { s.newRec c b with left := 1 }).addPkt c (s.emptyPkt c op b)).chSend c := by
  unfold State.recStart
  dsimp only
  rw [if_neg (by simp [hon, hnext]; exact herr), hb, if_neg Bool.false_ne_true]
  rw [State.newRec] at hop hlen
  rw [hop, hlen, if_neg (by simp), if_neg h2, Io.readR, if_pos rfl]
  dsimp only [List.length_nil]
  rw [State.parts_nil, if_neg (State.spillIo_outcome _ _ _ _)]
  rfl

end

/-- A record that runs from `s` to `t`: its read, its place and message number taken, and its packet queued. -/
structure State.Begun (s t : State) (c : Nat) (b : Bytes) (left : Nat) (p : Spill) : Prop where
  out : t.out = s.out ++ [.hostRead (s.sqBase c + BitVec.ofNat 64 (64 * (s.ch c).sqNext.toNat)) 64]
  sqNext : (t.ch c).sqNext = ringSucc (s.f (F.ETH_CH_SQ_LO_LOG2_SIZE c)) (s.ch c).sqNext
  nextMsg : (t.ch c).nextMsg = (s.ch c).nextMsg + 1
  recs : (t.ch c).recs = (s.ch c).recs ++ [{ s.newRec c b with left := left }]
  regs : t.regs = s.regs
  mems : t.mems = s.mems
  txq : (t.ch c).txq = (s.ch c).txq ++ [p]

theorem State.recRead_eq {s : State} (hp : s.pwr.pcieUp = true) (c : Nat) :
    s.recRead c = { s with out := s.out ++ [.hostRead (s.sqBase c + BitVec.ofNat 64 (64 * (s.ch c).sqNext.toNat)) 64] } := by
  unfold State.recRead State.emit
  rw [hp]
  rfl

section
variable {s : State} {c : Nat} (hpcie : s.pwr.pcieUp = true) (hw : swf chan0 s.eth.chans = true)
include hpcie

theorem State.recTaken_regs : (s.recTaken c).regs = s.regs := by
  rw [State.recTaken, State.setCh_regs, State.recRead_eq hpcie]

theorem State.recTaken_out : (s.recTaken c).out = s.out ++ [.hostRead (s.sqBase c + BitVec.ofNat 64 (64 * (s.ch c).sqNext.toNat)) 64] := by
  rw [State.recTaken, State.setCh_out, State.recRead_eq hpcie]

theorem State.recTaken_mems : (s.recTaken c).mems = s.mems := by
  rw [State.recTaken, State.setCh_mems, State.recRead_eq hpcie]

include hw

theorem State.recTaken_ch : swf chan0 (s.recTaken c).eth.chans = true ∧ (s.recTaken c).ch c =
    { s.ch c with sqNext := ringSucc (s.f (F.ETH_CH_SQ_LO_LOG2_SIZE c)) (s.ch c).sqNext, nextMsg := (s.ch c).nextMsg + 1 } := by
  rw [State.recTaken, State.recRead_eq hpcie]
  exact ⟨State.setCh_wf (s := { s with out := _ }) c _ hw, State.ch_setCh (s := { s with out := _ }) c _ hw⟩

variable (hdown : s.on (F.ETH_P_STAT_UP (s.chPort c)) = false)
include hdown

omit hpcie hw in
theorem State.chSend_of_regs {t : State} (h : t.regs = s.regs) : t.chSend c = t :=
  State.chSend_down (by rw [State.chPort_of_regs h, State.on_of_regs h]; exact hdown)

theorem State.begun_both (b : Bytes) (left : Nat) (p : Spill) :
    s.Begun (((s.recTaken c).addBoth c { s.newRec c b with left := left } p).chSend c) c b left p := by
  obtain ⟨hw1, hch⟩ := State.recTaken_ch (c := c) hpcie hw
  have hregs := State.recTaken_regs (c := c) hpcie
  have hout := State.recTaken_out (c := c) hpcie
  have hmems := State.recTaken_mems (c := c) hpcie
  rw [State.chSend_of_regs hdown (t := (s.recTaken c).addBoth c { s.newRec c b with left := left } p) (by rw [State.addBoth, State.setCh_regs, hregs])]
  generalize s.recTaken c = u at hw1 hch hregs hout hmems ⊢
  have hadd : (u.addBoth c { s.newRec c b with left := left } p).ch c =
      { u.ch c with recs := (u.ch c).recs ++ [{ s.newRec c b with left := left }], txq := (u.ch c).txq ++ [p] } := State.ch_setCh c _ hw1
  refine ⟨hout, ?_, ?_, ?_, hregs, hmems, ?_⟩ <;> rw [hadd, hch]

theorem State.begun_each (b : Bytes) (left : Nat) (p : Spill) :
    s.Begun ((((s.recTaken c).addRec c { s.newRec c b with left := left }).addPkt c p).chSend c) c b left p := by
  obtain ⟨hw1, hch⟩ := State.recTaken_ch (c := c) hpcie hw
  have hregs := State.recTaken_regs (c := c) hpcie
  have hout := State.recTaken_out (c := c) hpcie
  have hmems := State.recTaken_mems (c := c) hpcie
  rw [State.chSend_of_regs hdown (t := ((s.recTaken c).addRec c { s.newRec c b with left := left }).addPkt c p)
    (by rw [State.addPkt, State.setCh_regs, State.addRec, State.setCh_regs, hregs])]
  generalize s.recTaken c = u at hw1 hch hregs hout hmems ⊢
  have hrec : (u.addRec c { s.newRec c b with left := left }).ch c = { u.ch c with recs := (u.ch c).recs ++ [{ s.newRec c b with left := left }] } :=
    State.ch_setCh c _ hw1
  have hwr : swf chan0 (u.addRec c { s.newRec c b with left := left }).eth.chans = true := State.setCh_wf c _ hw1
  have hadd : ((u.addRec c { s.newRec c b with left := left }).addPkt c p).ch c =
      { (u.addRec c { s.newRec c b with left := left }).ch c with txq := ((u.addRec c { s.newRec c b with left := left }).ch c).txq ++ [p] } :=
    State.ch_setCh c _ hwr
  refine ⟨hout, ?_, ?_, ?_, hregs, hmems, ?_⟩ <;> rw [hadd, hrec, hch]

end

/-- The packet of a record: its destination, its source, its message and its immediate value. -/
theorem State.recPkt_fields {s : State} {c : BitVec 8} (op : Nat) (b : Bytes) (hpcie : s.pwr.pcieUp = true) :
    (s.recPkt c.toNat op b).msg = (s.ch c.toNat).nextMsg ∧ (s.recPkt c.toNat op b).dstCh = s.f (F.ETH_CH_CFG_RCH c.toNat) ∧
      (s.recPkt c.toNat op b).srcCh = c ∧ (s.recPkt c.toNat op b).imm = BitVec.ofNat 32 (w64 ((words64 8 b).getD 6 0) 31 0) ∧
      (s.recPkt c.toNat op b).payload = [] := by
  refine ⟨rfl, State.f_of_regs (State.recTaken_regs hpcie) _, ?_, rfl, rfl⟩
  exact (BitVec.ofNat_toNat 8 c).trans (BitVec.setWidth_eq c)

theorem w64_low_lt (x : R64) : w64 x 31 0 < 2 ^ 32 := Nat.mod_lt _ (by decide)

/-- A length of 32 bits in the two fields of a request packet. -/
theorem len_fields {n : Nat} (h : n < 2 ^ 32) : (BitVec.ofNat 8 (n / 2 ^ 24)).toNat * 2 ^ 24 + (BitVec.ofNat 24 n).toNat = n := by
  rw [BitVec.toNat_ofNat, BitVec.toNat_ofNat]
  omega

/-! ### Packets sent again (R571) -/

theorem State.chTimeout_early {s : State} {c : Nat} {n : R32}
    (h : ∀ x ∈ (s.ch c).unacked, x.pkt.psn = n → s.now.toNat - x.sentAt.toNat < s.rto x) : s.chTimeout c n = s := by
  unfold State.chTimeout
  cases hf : (s.ch c).unacked.find? (fun t => t.pkt.psn == n) with
  | none => rfl
  | some x =>
    have hx := h x (List.mem_of_find?_eq_some hf) (by simpa using List.find?_some hf)
    exact if_neg (Nat.not_le.2 hx)

section
variable {s : State} {c : Nat} {n : R32} {x : TxPkt} (hon : s.chOn c = true) (hup : s.on (F.ETH_P_STAT_UP (s.chPort c)) = true)
  (hun : (s.ch c).unacked = [x]) (hn : x.pkt.psn = n) (ht : s.rto x ≤ s.now.toNat - x.sentAt.toNat) (hc : x.uncounted = false)
include hon hup hun hn ht hc

theorem State.chTimeout_fails (hr : max 1 (s.f F.ETH_RTO_RETRIES).toNat ≤ x.tries) : s.chTimeout c n = s.chFail c n := by
  unfold State.chTimeout State.chAgain
  rw [hun, List.find?_cons_of_pos (by simp [hn])]
  dsimp only
  rw [if_pos ht, if_neg (by simp [hon, hup]), if_pos ⟨by simp [hc], hr⟩, hn]

/-- The packet noted as sent once more, and counted. -/
def State.resent (s : State) (c : Nat) (x : TxPkt) : State :=
  (s.setCh c { s.ch c with unacked := [{ x with tries := x.tries + 1, sentAt := s.now, fast := false }] }).incF (F.ETH_CH_STAT_RETX c) 1

theorem State.chTimeout_resends (hr : x.tries < max 1 (s.f F.ETH_RTO_RETRIES).toNat) : s.chTimeout c n = (s.resent c x).spillOut c x.pkt := by
  unfold State.chTimeout State.chAgain
  rw [hun, List.find?_cons_of_pos (by simp [hn])]
  dsimp only
  rw [if_pos ht, if_neg (by simp [hon, hup]), if_neg (fun h => Nat.not_le.2 hr h.2)]
  have hx : ([x].map fun y => if (y.pkt.psn == x.pkt.psn) = true then
      ({ x with tries := if x.uncounted = true then x.tries else x.tries + 1, sentAt := s.now, uncounted := false, fast := false } : TxPkt) else y) =
      [{ x with tries := x.tries + 1, sentAt := s.now, fast := false }] := by
    simp [hc]
  rw [hx]
  rfl

end

theorem State.resent_shows {s : State} (c : Nat) (x : TxPkt) (p : Spill) (hw : swf chan0 s.eth.chans = true) (hr : swf regReset s.regs = true) :
    (((s.resent c x).spillOut c p).ch c).unacked = [{ x with tries := x.tries + 1, sentAt := s.now, fast := false }] ∧
      ((s.resent c x).spillOut c p).f (F.ETH_CH_STAT_RETX c) = s.f (F.ETH_CH_STAT_RETX c) + 1 ∧ ((s.resent c x).spillOut c p).mems = s.mems := by
  obtain ⟨hb, hch⟩ := (s.resent c x).spillOut_keeps c p
  have hne : ¬ portRegs (Reg.ETH_CH_STAT c) := by
    simp only [portRegs, Reg.ETH_CH_STAT, Reg.ETH_CH_CFG]
    omega
  refine ⟨?_, ?_, ?_⟩
  · rw [State.ch_of_chans hch]
    exact congrArg Chan.unacked (State.ch_setCh c { s.ch c with unacked := [{ x with tries := x.tries + 1, sentAt := s.now, fast := false }] } hw)
  · have hcount : ∀ u : State, u.regs = s.regs → (u.incF (F.ETH_CH_STAT_RETX c) 1).f (F.ETH_CH_STAT_RETX c) = s.f (F.ETH_CH_STAT_RETX c) + 1 := fun u hu => by
      rw [State.incF, State.f_setF_same _ _ _ (Nat.le_of_ble_eq_true rfl) (by rw [hu]; exact hr), State.f_of_regs hu]
      rfl
    exact (hb.f _ hne).trans (hcount _ (State.setCh_regs _ _ _))
  · simp only [State.spillOut_frame, State.resent, State.incF_frame, State.setCh_mems]

/-! ### Acknowledgements and the window (R570, R572) -/

theorem State.sendAck_on {s : State} {c : Nat} (h : s.chOn c = true) : s.sendAck c = (s.setCh c { s.ch c with since := 0, ce := false }).spillOut c
    { s.pkt0 c 8 with ackPsn := (s.ch c).ackPsn, ece := (s.ch c).ce, offset := ackBits (s.ch c) } := by
  unfold State.sendAck
  exact if_neg (by simp [h])

theorem State.sendAck_off {s : State} {c : Nat} (h : s.chOn c = false) : s.sendAck c = s := by
  unfold State.sendAck
  exact if_pos (by simp [h])

theorem State.spillGrow_early {s : State} {c : Nat} (h : s.now.toNat - (s.ch c).lastEce.toNat < 16000) : s.spillGrow c = s := if_pos h

theorem State.spillGrow_grows {s : State} {c : Nat} (h : 16000 ≤ s.now.toNat - (s.ch c).lastEce.toNat) (ht : (s.ch c).txq = [])
    (hw : swf chan0 s.eth.chans = true) :
    s.spillGrow c = s.setCh c { s.ch c with win := min ((s.ch c).win + 65536) 4194304, lastEce := s.now } := by
  unfold State.spillGrow
  dsimp only
  rw [if_neg (Nat.not_lt.2 h), State.chSend_empty]
  rw [State.ch_setCh c _ hw]
  exact ht

/-- Settles O38. -/
theorem spillSending : Obligations.SpillSending := by
  refine ⟨fun s c n ht => ⟨exec_wr (f := fun s => s.setCh c.toNat { s.ch c.toNat with sqTail := n }) rfl ht rfl,
      exec_wr (f := fun s => s.setCh c.toNat { s.ch c.toNat with rqTail := n }) rfl ht rfl⟩,
    fun s c b l hu hon herr hnext hb => ⟨exec_up (f := (State.recStart · c.toNat 1 b l)) rfl hu (State.recStart_bad hon herr hnext hb),
      exec_up (f := (State.recStart · c.toNat 2 b l)) rfl hu (State.recStart_bad hon herr hnext hb),
      exec_up (f := (State.recStart · c.toNat 3 b l)) rfl hu (State.recStart_bad hon herr hnext hb)⟩,
    fun s c b l h => ⟨exec_same_up (f := (State.recStart · c.toNat 1 b l)) rfl (State.recStart_not h),
      exec_same_up (f := (State.recStart · c.toNat 2 b l)) rfl (State.recStart_not h),
      exec_same_up (f := (State.recStart · c.toNat 3 b l)) rfl (State.recStart_not h)⟩,
    fun s c b l hu hon herr hnext hb hdown hpcie hw => ?_,
    fun s c hu hon hs => exec_up (f := fun s => if 0 < (s.ch c.toNat).since then s.sendAck c.toNat else s) rfl hu
      ((if_pos hs).trans (State.sendAck_on hon)),
    fun s c h => exec_same_up (f := fun s => if 0 < (s.ch c.toNat).since then s.sendAck c.toNat else s) rfl ?_,
    fun s c n x hu hon hup hun hn ht hc hr => ⟨exec_up (f := (State.chTimeout · c.toNat n)) rfl hu (State.chTimeout_resends hon hup hun hn ht hc hr),
      fun hw hreg => goes_up (f := (State.chTimeout · c.toNat n)) rfl hu ?_⟩,
    fun s c n x hu hon hup hun hn ht hc hr => exec_up (f := (State.chTimeout · c.toNat n)) rfl hu (State.chTimeout_fails hon hup hun hn ht hc hr),
    fun s c n h => exec_same_up (f := (State.chTimeout · c.toNat n)) rfl (State.chTimeout_early h),
    fun s c hu h ht hw => exec_up (f := (State.spillGrow · c.toNat)) rfl hu (State.spillGrow_grows h ht hw),
    fun s c h => exec_same_up (f := (State.spillGrow · c.toNat)) rfl (State.spillGrow_early h)⟩
  · intro h w n begun
    refine ⟨fun hop => goes_up (f := (State.recStart · c.toNat 2 b l)) rfl hu ?_, fun hop hn => goes_up (f := (State.recStart · c.toNat 1 b l)) rfl hu ?_,
      fun hop hn => goes_up (f := (State.recStart · c.toNat 3 b l)) rfl hu ?_⟩
    · rw [State.recStart_get hon herr hnext hb hop]
      obtain ⟨h1, h2, h3, h4, h5, h6, h7⟩ := State.begun_both hpcie hw hdown b (s.newRec c.toNat b).len (s.getPkt c.toNat b)
      obtain ⟨k1, k2, k3, k4, k5⟩ := State.recPkt_fields (c := c) 2 b hpcie
      exact ⟨h1, h2, h3, h4, h5, h6, _, h7, rfl, rfl, rfl, k1, k5, k2, k3, k4, (BitVec.ofNat_toNat 64 _).trans (BitVec.setWidth_eq _),
        fun _ => len_fields (w64_low_lt _)⟩
    · rw [State.recStart_empty hon herr hnext hb (by decide) hop hn]
      obtain ⟨h1, h2, h3, h4, h5, h6, h7⟩ := State.begun_each hpcie hw hdown b 1 (s.emptyPkt c.toNat 1 b)
      obtain ⟨k1, k2, k3, k4, -⟩ := State.recPkt_fields (c := c) 1 b hpcie
      exact ⟨h1, h2, h3, h4, h5, h6, _, h7, rfl, rfl, rfl, k1, rfl, k2, k3, k4, (BitVec.ofNat_toNat 64 _).trans (BitVec.setWidth_eq _),
        fun h => absurd h (by decide)⟩
    · rw [State.recStart_empty hon herr hnext hb (by decide) hop hn]
      obtain ⟨h1, h2, h3, h4, h5, h6, h7⟩ := State.begun_each hpcie hw hdown b 1 (s.emptyPkt c.toNat 3 b)
      obtain ⟨k1, k2, k3, k4, -⟩ := State.recPkt_fields (c := c) 3 b hpcie
      exact ⟨h1, h2, h3, h4, h5, h6, _, h7, rfl, rfl, rfl, k1, rfl, k2, k3, k4, rfl, fun h => absurd h (by decide)⟩
  · rcases h with h | h
    · exact if_neg (by omega)
    · rw [State.sendAck_off h, ite_self]
  · rw [State.chTimeout_resends hon hup hun hn ht hc hr]
    exact State.resent_shows c.toNat x x.pkt hw hreg

end Sys2Proof.Machine
end

section
/-!
PROOFS. Spill channels, the receiving side.
-/

namespace Sys2Proof.Machine

/-! ### The store of channels -/

/-- Writing the value that a canonical store holds changes nothing. -/
theorem sset_self {α : Type} [DecidableEq α] (d : Nat → α) (m : SMap α) (k : Nat) (h : swf d m = true) : sset d m k (sget d m k) = m := by
  suffices ∀ (m : SMap α) (lo : Nat), swfFrom d lo m = true → sset d m k (sget d m k) = m from this m 0 h
  have low : ∀ (m : SMap α) (lo : Nat), k < lo → swfFrom d lo m = true → sget d m k = d k := by
    intro m
    induction m with
    | nil => exact fun _ _ _ => rfl
    | cons e m ih =>
      intro lo hl h
      simp only [swfFrom, Bool.and_eq_true, decide_eq_true_eq] at h
      rw [sget, if_neg (by omega)]
      exact ih (e.1 + 1) (by omega) h.2
  intro m
  induction m with
  | nil => exact fun _ _ => if_pos rfl
  | cons e m ih =>
    obtain ⟨j, w⟩ := e
    intro lo h
    have hall := h
    simp only [swfFrom, Bool.and_eq_true, decide_eq_true_eq] at h
    obtain ⟨⟨-, hw⟩, hm⟩ := h
    unfold sset
    by_cases hlt : k < j
    · have hs : sget d ((j, w) :: m) k = d k := by
        rw [sget, if_neg (by omega)]
        exact low m (j + 1) (by omega) hm
      rw [hs, if_pos hlt, if_pos rfl]
    · rw [if_neg hlt, sget]
      by_cases he : k = j
      · subst he
        rw [if_pos rfl, if_pos rfl, if_neg hw]
      · rw [if_neg he, if_neg (Ne.symm he), ih (j + 1) hm]

theorem State.setCh_self {s : State} (c : Nat) (hw : swf chan0 s.eth.chans = true) : s.setCh c (s.ch c) = s := by
  unfold State.setCh State.ch
  rw [sset_self chan0 s.eth.chans c hw]

theorem State.chOn_en {s : State} {c : Nat} (h : s.chOn c = true) : s.on F.ETH_CTL_EN = true := by
  simp only [State.chOn, Bool.and_eq_true] at h
  exact h.1

/-! ### What becomes of a packet that comes in (R568, R570) -/

section
variable {s : State} {e : Nat} {p : Spill} {take : State → Took}

theorem State.rxPacket_off (h : p.ver ≠ 1 ∨ s.on F.ETH_CTL_EN = false) : s.rxPacket e p take = s := by
  unfold State.rxPacket
  exact if_pos (h.imp id (by simp))

variable (hv : p.ver = 1)
include hv

theorem State.rxPacket_strange (hen : s.on F.ETH_CTL_EN = true) (h : s.chOn p.dstCh.toNat = false ∨ s.chPort p.dstCh.toNat ≠ e) :
    s.rxPacket e p take = s.sendNakFor p.dstCh.toNat p 3 := by
  unfold State.rxPacket
  dsimp only
  rw [if_neg (by simp [hv, hen]), if_pos (h.imp (by simp) id)]

variable (hon : s.chOn p.dstCh.toNat = true) (hport : s.chPort p.dstCh.toNat = e)
include hon hport

theorem State.rxPacket_old (h : 2 ^ 31 ≤ (p.psn - (s.ch p.dstCh.toNat).ackPsn).toNat) : s.rxPacket e p take = s.sendAck p.dstCh.toNat := by
  unfold State.rxPacket
  dsimp only
  rw [if_neg (by simp [hv, State.chOn_en hon]), if_neg (by simp [hon, hport]), if_pos h]

variable (hd : (p.psn - (s.ch p.dstCh.toNat).ackPsn).toNat < 4096) (hg : (s.ch p.dstCh.toNat).got.contains p.psn = false)
include hd hg

theorem State.rxPacket_new : s.rxPacket e p take = if (take s).2 = 2 then (take s).1.sendNakFor p.dstCh.toNat p 2
    else (if (take s).2 = 0 then (take s).1 else (take s).1.sendNakFor p.dstCh.toNat p (take s).2).noteGot p.dstCh.toNat p := by
  unfold State.rxPacket
  dsimp only
  rw [if_neg (by simp [hv, State.chOn_en hon]), if_neg (by simp [hon, hport]), if_neg (by omega),
    if_neg (not_or.2 ⟨Nat.not_le.2 hd, by rw [hg]; exact Bool.false_ne_true⟩)]

/-- A packet that is taken. -/
theorem State.rxPacket_taken {t : State} (ht : take s = (t, 0)) : s.rxPacket e p take = t.noteGot p.dstCh.toNat p := by
  rw [State.rxPacket_new hv hon hport hd hg, ht]
  exact (if_neg (by decide : ¬ (0 : BitVec 8) = 2)).trans (congrArg (State.noteGot · p.dstCh.toNat p) (if_pos rfl))

/-- A packet whose access fails: it counts as received, and NAK 0x1 answers it. -/
theorem State.rxPacket_fails (ht : take s = (s, 1)) : s.rxPacket e p take = (s.sendNakFor p.dstCh.toNat p 1).noteGot p.dstCh.toNat p := by
  rw [State.rxPacket_new hv hon hport hd hg, ht]
  exact (if_neg (by decide : ¬ (1 : BitVec 8) = 2)).trans (congrArg (State.noteGot · p.dstCh.toNat p) (if_neg (by decide : ¬ (1 : BitVec 8) = 0)))

/-- A packet for which no buffer is posted: it is not taken. -/
theorem State.rxPacket_noBuffer (ht : take s = (s, 2)) : s.rxPacket e p take = s.sendNakFor p.dstCh.toNat p 2 := by
  rw [State.rxPacket_new hv hon hport hd hg, ht]
  exact if_pos rfl

end

/-! ### A packet noted -/

theorem Chan.settle_next (n : Nat) (h : Chan) : Chan.settle (n + 2) { h with got := [h.ackPsn] } = { h with ackPsn := h.ackPsn + 1, got := [] } := by
  unfold Chan.settle
  rw [if_pos (by simp)]
  unfold Chan.settle
  rw [if_neg (by simp [dropWhere])]
  simp [dropWhere]

/-- The next packet in order, the last one kept not yet to be acknowledged: it is noted, and no ACK goes out. -/
theorem State.noteGot_next {s : State} {c : Nat} {p : Spill} (hp : p.psn = (s.ch c).ackPsn) (hg : (s.ch c).got = []) (hs : (s.ch c).since < 15) :
    s.noteGot c p = s.setCh c { s.ch c with ackPsn := (s.ch c).ackPsn + 1, got := [], since := (s.ch c).since + 1, ce := (s.ch c).ce || p.ce } := by
  unfold State.noteGot
  dsimp only
  rw [hg, hp, Chan.settle_next 4094 { s.ch c with since := (s.ch c).since + 1, ce := (s.ch c).ce || p.ce }]
  exact if_neg (by simp; omega)

/-- What a noted packet changes: the acknowledged number, and no more of the channel than its count and its mark. -/
theorem State.noteGot_shows {s t : State} {c : Nat} {p : Spill} (hc : (t.ch c).ackPsn = (s.ch c).ackPsn ∧ (t.ch c).got = (s.ch c).got ∧
    (t.ch c).since = (s.ch c).since) (hp : p.psn = (s.ch c).ackPsn) (hg : (s.ch c).got = []) (hs : (s.ch c).since < 15)
    (hw : swf chan0 t.eth.chans = true) : ((t.noteGot c p).ch c).ackPsn = (s.ch c).ackPsn + 1 ∧ ((t.noteGot c p).ch c).msgs = (t.ch c).msgs ∧
      ((t.noteGot c p).ch c).txq = (t.ch c).txq ∧ ((t.noteGot c p).ch c).rqNext = (t.ch c).rqNext ∧ (t.noteGot c p).out = t.out ∧
      (t.noteGot c p).regs = t.regs ∧ (t.noteGot c p).mems = t.mems := by
  obtain ⟨h1, h2, h3⟩ := hc
  rw [State.noteGot_next (by rw [h1]; exact hp) (by rw [h2]; exact hg) (by rw [h3]; exact hs), State.ch_setCh c _ hw, h1]
  exact ⟨rfl, rfl, rfl, rfl, rfl, rfl, rfl⟩

theorem psn_sub_self (x y : R32) (h : x = y) : (x - y).toNat < 4096 := by
  rw [h, BitVec.sub_self]
  decide

/-! ### PUT, GET_REQ, GET_RESP and SEND -/

theorem Io.writeW_nil (i : Io) (word va : Nat) : i.writeW word va [] = i := if_pos rfl

section
variable {s : State} {p : Spill} {l : List Resp}

theorem State.takePut_outside (h : s.winHas p.dstCh.toNat (s.on (F.ETH_CH_WIN_LEN_W p.dstCh.toNat)) p.offset.toNat p.payload.length = false) :
    s.takePut p l = (s, 1) := by
  unfold State.takePut
  exact if_pos (by rw [h]; rfl)

theorem State.takeGetReq_outside (h : s.winHas p.dstCh.toNat (s.on (F.ETH_CH_WIN_LEN_R p.dstCh.toNat)) p.offset.toNat
    (p.nak.toNat * 2 ^ 24 + p.len24.toNat) = false) : s.takeGetReq p l = (s, 1) := by
  unfold State.takeGetReq
  exact if_pos (by rw [h]; rfl)

/-- A PUT of one empty packet: its message is whole at once. -/
theorem State.takePut_empty (h : s.winHas p.dstCh.toNat (s.on (F.ETH_CH_WIN_LEN_W p.dstCh.toNat)) p.offset.toNat 0 = true) (hp : p.payload = [])
    (hf : p.first = true) (hl : p.last = true) (hi : p.immEn = false) (hm : (s.ch p.dstCh.toNat).msgs = []) :
    s.takePut p l = (s.setCh p.dstCh.toNat { s.ch p.dstCh.toNat with msgs := [] }, 0) := by
  have hr : s.rmsg p.dstCh.toNat p = none := by rw [State.rmsg, hm]; rfl
  unfold State.takePut
  dsimp only
  rw [hp, List.length_nil, h, if_neg (by decide), Io.writeW_nil, if_pos (show (s.spillIo _ l).live = true from rfl)]
  dsimp only [State.spillIo]
  rw [hr]
  unfold State.msgPart
  dsimp only [Option.getD_none]
  rw [hf, hl, hi, hp, hm]
  simp [dropWhere]

/-- The packet that answers a GET_REQ of no bytes. -/
def State.getAnswer (s : State) (p : Spill) : Spill :=
  { s.pkt0 p.dstCh.toNat 3 with
    dstCh := p.srcCh, msg := p.msg, first := true, last := true, offset := BitVec.ofNat 64 p.offset.toNat, payload := [] }

theorem State.takeGetReq_empty (h : s.winHas p.dstCh.toNat (s.on (F.ETH_CH_WIN_LEN_R p.dstCh.toNat)) p.offset.toNat 0 = true) (hn : p.nak = 0)
    (hl : p.len24 = 0) : s.takeGetReq p l = ((s.addPkt p.dstCh.toNat (s.getAnswer p)).chSend p.dstCh.toNat, 0) := by
  have hlen : p.nak.toNat * 2 ^ 24 + p.len24.toNat = 0 := by simp [hn, hl]
  unfold State.takeGetReq
  generalize p.nak.toNat * 2 ^ 24 + p.len24.toNat = n at hlen
  subst hlen
  dsimp only
  rw [h, if_neg (by decide), Io.readR, if_pos rfl]
  dsimp only [List.length_nil]
  rw [State.parts_nil, if_neg (show ¬ ((!(s.spillIo p.dstCh.toNat l).live) = true) by simp [State.spillIo, Io.live])]
  rfl

theorem State.takeGetResp_done {r : SRec} (hr : s.recOf p.dstCh.toNat p.msg = some r) (hop : r.op = 2) (hl : r.left = 0) (hp : p.payload = []) :
    s.takeGetResp p l = (s.recDone p.dstCh.toNat r, 0) := by
  unfold State.takeGetResp
  dsimp only
  rw [hr]
  dsimp only
  rw [if_neg (by simp [hop]), hp, Io.writeW_nil, if_neg (State.spillIo_outcome _ _ _ _), if_pos (by simp [hl])]
  simp only [List.length_nil, Nat.add_zero, Nat.sub_zero]
  rfl

theorem State.takeGetResp_part {r : SRec} (hr : s.recOf p.dstCh.toNat p.msg = some r) (hop : r.op = 2)
    (he : ((s.spillIo p.dstCh.toNat l).writeW 3 ((r.w 3).toNat + (p.offset.toNat - (r.w 4).toNat)) p.payload).err = none)
    (hpause : ((s.spillIo p.dstCh.toNat l).writeW 3 ((r.w 3).toNat + (p.offset.toNat - (r.w 4).toNat)) p.payload).pause = none)
    (hl : p.payload.length < r.left) :
    s.takeGetResp p l = (((s.spillIo p.dstCh.toNat l).writeW 3 ((r.w 3).toNat + (p.offset.toNat - (r.w 4).toNat)) p.payload).s.mapRec p.dstCh.toNat p.msg
      (fun _ => { r with bytes := r.bytes + p.payload.length, left := r.left - p.payload.length }), 0) := by
  unfold State.takeGetResp
  dsimp only
  rw [hr]
  dsimp only
  rw [if_neg (by simp [hop])]
  generalize (s.spillIo p.dstCh.toNat l).writeW 3 ((r.w 3).toNat + (p.offset.toNat - (r.w 4).toNat)) p.payload = i at he hpause ⊢
  rw [if_neg (by simp [Io.outcome, he, hpause]), if_neg (by omega)]

theorem State.takeSend_noBuffer {b : Bytes} (hr : s.rmsg p.dstCh.toNat p = none)
    (hn : (s.ch p.dstCh.toNat).rqNext = ringIx (s.f (F.ETH_CH_RQ_LO_LOG2_SIZE p.dstCh.toNat)) (s.ch p.dstCh.toNat).rqTail) :
    s.takeSend p b l = (s, 2) := by
  unfold State.takeSend
  dsimp only
  exact if_pos ⟨by rw [hr]; rfl, hn⟩

end

/-! ### The first packet of a SEND -/

/-- The message that takes the next receive buffer. -/
def State.newMsg (s : State) (p : Spill) (b : Bytes) : RMsg :=
  ⟨p.msg, 0, none, none, (s.ch p.dstCh.toNat).rqNext, (words64 2 b).getD 0 0, w64 ((words64 2 b).getD 1 0) 31 0⟩

/-- The buffer read and taken, its message noted. -/
def State.bufTaken (s : State) (p : Spill) (b : Bytes) : State :=
  let c := p.dstCh.toNat
  let nxt := ringSucc (s.f (F.ETH_CH_RQ_LO_LOG2_SIZE c)) (s.ch c).rqNext
  let u := s.emit (.hostRead (s.rqBase c + BitVec.ofNat 64 (16 * (s.ch c).rqNext.toNat)) 16)
  ((u.setCh c { u.ch c with rqNext := nxt }).setF (F.ETH_CH_SQ_PTR_RQ_HEAD c) nxt).putRmsg c (s.newMsg p b)

theorem State.takeSend_first {s : State} {p : Spill} {l : List Resp} {b : Bytes} (hm : (s.ch p.dstCh.toNat).msgs = [])
    (hn : (s.ch p.dstCh.toNat).rqNext ≠ ringIx (s.f (F.ETH_CH_RQ_LO_LOG2_SIZE p.dstCh.toNat)) (s.ch p.dstCh.toNat).rqTail) (hf : p.first = true)
    (hl : p.last = false) (ho : p.offset = 0) (hp : p.payload = []) :
    s.takeSend p b l = ((s.bufTaken p b).putRmsg p.dstCh.toNat { s.newMsg p b with lo := some 0 }, 0) := by
  have hr : s.rmsg p.dstCh.toNat p = none := by rw [State.rmsg, hm]; rfl
  unfold State.takeSend
  dsimp only
  rw [hr, if_neg (fun h => hn h.2), hp, ho, if_pos Option.isNone_none]
  dsimp only [Option.getD_none]
  rw [if_neg (by simp)]
  simp only [Io.writeW_nil]
  rw [if_pos (show (State.spillIo _ _ l).live = true from rfl)]
  unfold State.msgPart
  rw [hf, hl, hp, ho]
  rfl

/-- From `s` the next receive buffer taken: its read, the ring's next place, and the message. -/
theorem State.bufTaken_shows {s : State} {p : Spill} {b : Bytes} (hpcie : s.pwr.pcieUp = true) (hw : swf chan0 s.eth.chans = true)
    (hm : (s.ch p.dstCh.toNat).msgs = []) : swf chan0 (s.bufTaken p b).eth.chans = true ∧
      (s.bufTaken p b).ch p.dstCh.toNat = { s.ch p.dstCh.toNat with
        rqNext := ringSucc (s.f (F.ETH_CH_RQ_LO_LOG2_SIZE p.dstCh.toNat)) (s.ch p.dstCh.toNat).rqNext, msgs := [s.newMsg p b] } ∧
      (s.bufTaken p b).out = s.out ++ [.hostRead (s.rqBase p.dstCh.toNat + BitVec.ofNat 64 (16 * (s.ch p.dstCh.toNat).rqNext.toNat)) 16] ∧
      (s.bufTaken p b).mems = s.mems := by
  unfold State.bufTaken
  dsimp only
  generalize ringSucc (s.f (F.ETH_CH_RQ_LO_LOG2_SIZE p.dstCh.toNat)) (s.ch p.dstCh.toNat).rqNext = nxt
  have hemit : s.emit (.hostRead (s.rqBase p.dstCh.toNat + BitVec.ofNat 64 (16 * (s.ch p.dstCh.toNat).rqNext.toNat)) 16) =
      { s with out := s.out ++ [.hostRead (s.rqBase p.dstCh.toNat + BitVec.ofNat 64 (16 * (s.ch p.dstCh.toNat).rqNext.toNat)) 16] } := by
    unfold State.emit
    rw [hpcie]
    rfl
  rw [hemit]
  generalize hu : ({ s with out := s.out ++ [.hostRead (s.rqBase p.dstCh.toNat + BitVec.ofNat 64 (16 * (s.ch p.dstCh.toNat).rqNext.toNat)) 16] } : State) = u
  have huc : u.ch p.dstCh.toNat = s.ch p.dstCh.toNat := by rw [← hu]; rfl
  have huw : swf chan0 u.eth.chans = true := by rw [← hu]; exact hw
  generalize hv : (u.setCh p.dstCh.toNat { u.ch p.dstCh.toNat with rqNext := nxt }).setF (F.ETH_CH_SQ_PTR_RQ_HEAD p.dstCh.toNat) nxt = v
  have hvc : v.ch p.dstCh.toNat = { s.ch p.dstCh.toNat with rqNext := nxt } := by
    rw [← hv, ← huc]
    exact State.ch_setCh p.dstCh.toNat { u.ch p.dstCh.toNat with rqNext := nxt } huw
  have hvw : swf chan0 v.eth.chans = true := by
    rw [← hv]
    exact State.setCh_wf p.dstCh.toNat { u.ch p.dstCh.toNat with rqNext := nxt } huw
  refine ⟨State.setCh_wf _ _ hvw, ?_, ?_, ?_⟩
  · rw [State.putRmsg, State.ch_setCh _ _ hvw, hvc]
    simp [hm, dropWhere]
  · rw [State.putRmsg, State.setCh_out, ← hv, State.setF, State.wr_out, State.setCh_out, ← hu]
  · rw [State.putRmsg, State.setCh_mems, ← hv]
    simp only [State.setF_frame, State.setCh_mems]
    rw [← hu]

theorem State.putRmsg_again {u : State} {c : Nat} {m m' : RMsg} (hw : swf chan0 u.eth.chans = true) (hm : (u.ch c).msgs = [m]) (he : m.msg = m'.msg) :
    (u.putRmsg c m').ch c = { u.ch c with msgs := [m'] } := by
  rw [State.putRmsg, State.ch_setCh _ _ hw]
  simp [hm, dropWhere, he]

/-! ### ACK and SPILL_NAK (R570, R571) -/

theorem State.ackArrive_not {s : State} {e : Nat} {p : Spill} (h : p.ver ≠ 1 ∨ s.chOn p.dstCh.toNat = false ∨ s.chPort p.dstCh.toNat ≠ e) :
    s.ackArrive e p = s := by
  unfold State.ackArrive
  exact if_pos (h.imp id (Or.imp (by simp) id))

theorem State.spillNak_not {s : State} {e : Nat} {p : Spill} (h : p.ver ≠ 1 ∨ s.chOn p.dstCh.toNat = false ∨ s.chPort p.dstCh.toNat ≠ e) :
    s.spillNak e p = s := by
  unfold State.spillNak
  exact if_pos (h.imp id (Or.imp (by simp) id))

theorem State.spillNak_ends {s : State} {e : Nat} {p : Spill} {st : Status} (hv : p.ver = 1) (hon : s.chOn p.dstCh.toNat = true)
    (hport : s.chPort p.dstCh.toNat = e) (hun : (s.ch p.dstCh.toNat).unacked = []) (hw : swf chan0 s.eth.chans = true)
    (hst : (st = stRights ∧ (p.nak = 1 ∨ p.nak = 4)) ∨ (st = stTargetLost ∧ p.nak = 3)) :
    s.spillNak e p = (s.recEnd p.dstCh.toNat p.msg st 0).chSend p.dstCh.toNat := by
  have hsame : ({ s.ch p.dstCh.toNat with unacked := [] } : Chan) = s.ch p.dstCh.toNat := by rw [← hun]
  unfold State.spillNak
  dsimp only
  rw [if_neg (by simp [hv, hon, hport]), hun, List.filter_nil, List.filter_nil, List.foldl_nil, hsame, State.setCh_self _ hw]
  rcases hst with ⟨rfl, hn⟩ | ⟨rfl, hn⟩
  · rw [if_neg (by rcases hn with hn | hn <;> rw [hn] <;> decide), if_pos hn]
  · rw [hn]
    rfl

/-- The channel whose packets shown by an ACK are no longer awaited. -/
def State.ackTaken (s : State) (p : Spill) : State :=
  s.setCh p.dstCh.toNat { s.ch p.dstCh.toNat with unacked := (s.ch p.dstCh.toNat).unacked.filter (fun t => !ackShows p t.pkt.psn) }

theorem State.ackedPkt_counts {s : State} {c : Nat} {x : TxPkt} {r : SRec} (hk : x.pkt.kind = 1 ∨ x.pkt.kind = 4) (hr : s.recOf c x.pkt.msg = some r)
    (hl : 1 < r.left) :
    s.ackedPkt c x = s.mapRec c x.pkt.msg (fun _ => { r with bytes := r.bytes + x.pkt.payload.length, left := r.left - 1 }) := by
  unfold State.ackedPkt
  rw [if_neg (by rcases hk with hk | hk <;> simp [hk]), hr]
  exact if_neg (by dsimp only; omega)

section
variable {s : State} {e : Nat} {p : Spill} {x : TxPkt} {r : SRec} (hv : p.ver = 1) (hon : s.chOn p.dstCh.toNat = true)
  (hport : s.chPort p.dstCh.toNat = e) (hun : (s.ch p.dstCh.toNat).unacked = [x]) (hq : (s.ch p.dstCh.toNat).txq = []) (hs : ackShows p x.pkt.psn = true)
  (hk : x.pkt.kind = 1 ∨ x.pkt.kind = 4) (hr : s.recOf p.dstCh.toNat x.pkt.msg = some r) (hece : p.ece = false) (hl : 1 < r.left)
  (hw : swf chan0 s.eth.chans = true)
include hun hs hw

theorem State.ackTaken_ch : (s.ackTaken p).ch p.dstCh.toNat = { s.ch p.dstCh.toNat with unacked := [] } := by
  rw [State.ackTaken, State.ch_setCh _ _ hw, hun, List.filter_cons_of_neg (by simp [hs]), List.filter_nil]

include hk hr hl

/-- The packet acknowledged counts for its record. -/
theorem State.ackTaken_counts : (s.ackTaken p).ackedPkt p.dstCh.toNat x =
    (s.ackTaken p).mapRec p.dstCh.toNat x.pkt.msg (fun _ => { r with bytes := r.bytes + x.pkt.payload.length, left := r.left - 1 }) :=
  State.ackedPkt_counts hk (by rw [State.recOf, State.ackTaken_ch hun hs hw]; exact hr) hl

theorem State.acked_ch : (((s.ackTaken p).ackedPkt p.dstCh.toNat x).ch p.dstCh.toNat).unacked = [] ∧
    (((s.ackTaken p).ackedPkt p.dstCh.toNat x).ch p.dstCh.toNat).txq = (s.ch p.dstCh.toNat).txq ∧
    { r with bytes := r.bytes + x.pkt.payload.length, left := r.left - 1 } ∈ (((s.ackTaken p).ackedPkt p.dstCh.toNat x).ch p.dstCh.toNat).recs := by
  have hw1 : swf chan0 (s.ackTaken p).eth.chans = true := State.setCh_wf _ _ hw
  have hin : r ∈ (s.ch p.dstCh.toNat).recs := List.mem_of_find?_eq_some hr
  have hmsg : (r.msg == x.pkt.msg) = true := by
    have := List.find?_some hr
    simp only [Bool.and_eq_true] at this
    exact this.1
  rw [State.ackTaken_counts hun hs hk hr hl hw, State.mapRec, State.ch_setCh _ _ hw1, State.ackTaken_ch hun hs hw]
  exact ⟨rfl, rfl, List.mem_map.2 ⟨r, hin, if_pos hmsg⟩⟩

include hv hon hport hq hece

theorem State.ackArrive_counts : s.ackArrive e p = (s.ackTaken p).ackedPkt p.dstCh.toNat x := by
  obtain ⟨h1, h2, -⟩ := State.acked_ch hun hs hk hr hl hw
  have hgot : (s.ch p.dstCh.toNat).unacked.filter (fun t => ackShows p t.pkt.psn) = [x] := by
    rw [hun, List.filter_cons_of_pos (by exact hs), List.filter_nil]
  unfold State.ackArrive
  dsimp only
  rw [if_neg (by simp [hv, hon, hport]), hgot, ← State.ackTaken, List.foldl_cons, List.foldl_nil, h1, List.foldl_nil, hece, if_neg Bool.false_ne_true]
  exact State.chSend_empty (by rw [h2, hq])

theorem State.ackArrive_shows : ((s.ackArrive e p).ch p.dstCh.toNat).unacked = [] ∧ (s.ackArrive e p).out = s.out ∧ (s.ackArrive e p).regs = s.regs ∧
    (s.ackArrive e p).mems = s.mems ∧
    { r with bytes := r.bytes + x.pkt.payload.length, left := r.left - 1 } ∈ ((s.ackArrive e p).ch p.dstCh.toNat).recs := by
  obtain ⟨h1, -, h3⟩ := State.acked_ch hun hs hk hr hl hw
  rw [State.ackArrive_counts hv hon hport hun hq hs hk hr hece hl hw]
  refine ⟨h1, ?_, ?_, ?_, h3⟩ <;> rw [State.ackTaken_counts hun hs hk hr hl hw] <;> rfl

end

/-! ### The statement -/

/-- The four instructions that bring a packet, each with what it takes. -/
theorem exec_rxPacket {s t : State} {e : Fin 4} {p : Spill} {l : List Resp} {b : Bytes} (hu : s.up = true)
    (h : ∀ take : State → Took, s.rxPacket e.val p take = t) :
    exec (.put e p l) s = .next t ∧ exec (.getReq e p l) s = .next t ∧ exec (.getResp e p l) s = .next t ∧ exec (.send e p b l) s = .next t :=
  ⟨exec_up (f := fun s => s.rxPacket e.val p (fun s => s.takePut p l)) rfl hu (h _),
    exec_up (f := fun s => s.rxPacket e.val p (fun s => s.takeGetReq p l)) rfl hu (h _),
    exec_up (f := fun s => s.rxPacket e.val p (fun s => s.takeGetResp p l)) rfl hu (h _),
    exec_up (f := fun s => s.rxPacket e.val p (fun s => s.takeSend p b l)) rfl hu (h _)⟩

theorem exec_rxPacket_same {s : State} {e : Fin 4} {p : Spill} {l : List Resp} {b : Bytes} (h : ∀ take : State → Took, s.rxPacket e.val p take = s) :
    exec (.put e p l) s = .next s ∧ exec (.getReq e p l) s = .next s ∧ exec (.getResp e p l) s = .next s ∧ exec (.send e p b l) s = .next s :=
  ⟨exec_same_up (f := fun s => s.rxPacket e.val p (fun s => s.takePut p l)) rfl (h _),
    exec_same_up (f := fun s => s.rxPacket e.val p (fun s => s.takeGetReq p l)) rfl (h _),
    exec_same_up (f := fun s => s.rxPacket e.val p (fun s => s.takeGetResp p l)) rfl (h _),
    exec_same_up (f := fun s => s.rxPacket e.val p (fun s => s.takeSend p b l)) rfl (h _)⟩

/-- Settles O39. -/
theorem spillReceiving : Obligations.SpillReceiving := by
  refine ⟨fun s e p l b h => exec_rxPacket_same fun _ => State.rxPacket_off h,
    fun s e p l b hu hv hen h => exec_rxPacket hu fun _ => State.rxPacket_strange hv hen h,
    fun s e p l b hu hv hon hport hd => exec_rxPacket hu fun _ => State.rxPacket_old hv hon hport hd,
    fun s e p l hu hv hon hport hd hg h => exec_up (f := fun s => s.rxPacket e.val p (fun s => s.takePut p l)) rfl hu
      (State.rxPacket_fails hv hon hport hd hg (State.takePut_outside h)),
    fun s e p l hu hv hon hport hp hg hm hs h hpay hf hl hi hw => goes_up (f := fun s => s.rxPacket e.val p (fun s => s.takePut p l)) rfl hu ?_,
    fun s e p l hu hv hon hport hp hg hs hq hdown h hn hl hw => goes_up (f := fun s => s.rxPacket e.val p (fun s => s.takeGetReq p l)) rfl hu ?_,
    fun s e p l hu hv hon hport hd hg h => exec_up (f := fun s => s.rxPacket e.val p (fun s => s.takeGetReq p l)) rfl hu
      (State.rxPacket_fails hv hon hport hd hg (State.takeGetReq_outside h)),
    fun s e p l r hu hv hon hport hd hg hr hop hl hpay => exec_up (f := fun s => s.rxPacket e.val p (fun s => s.takeGetResp p l)) rfl hu
      (State.rxPacket_taken hv hon hport hd hg (State.takeGetResp_done hr hop hl hpay)),
    fun s e p l r hu hv hon hport hd hg hr hop he hpause hl => exec_up (f := fun s => s.rxPacket e.val p (fun s => s.takeGetResp p l)) rfl hu
      (State.rxPacket_taken hv hon hport hd hg (State.takeGetResp_part hr hop he hpause hl)),
    fun s e p b l hu hv hon hport hd hg hr hn => exec_up (f := fun s => s.rxPacket e.val p (fun s => s.takeSend p b l)) rfl hu
      (State.rxPacket_noBuffer hv hon hport hd hg (State.takeSend_noBuffer hr hn)),
    fun s e p b l hu hv hon hport hp hg hs hm hn hpcie hf hl ho hpay hw => goes_up (f := fun s => s.rxPacket e.val p (fun s => s.takeSend p b l)) rfl hu ?_,
    fun s e p x r hu hv hon hport hun hq hs hk hr hece hl hw => goes_up (f := (State.ackArrive · e.val p)) rfl hu
      (State.ackArrive_shows hv hon hport hun hq hs hk hr hece hl hw),
    fun s e p h => ⟨exec_same_up (f := (State.ackArrive · e.val p)) rfl (State.ackArrive_not h),
      exec_same_up (f := (State.spillNak · e.val p)) rfl (State.spillNak_not h)⟩,
    fun s e p st hu hv hon hport hun hw hst => exec_up (f := (State.spillNak · e.val p)) rfl hu (State.spillNak_ends hv hon hport hun hw hst)⟩
  · rw [State.rxPacket_taken hv hon hport (psn_sub_self _ _ hp) (by rw [hg]; rfl) (State.takePut_empty h hpay hf hl hi hm)]
    have hch := State.ch_setCh p.dstCh.toNat { s.ch p.dstCh.toNat with msgs := [] } hw
    obtain ⟨h1, h2, -, -, h5, h6, h7⟩ := State.noteGot_shows (s := s) (by rw [hch]; exact ⟨rfl, rfl, rfl⟩) hp hg hs
      (State.setCh_wf p.dstCh.toNat { s.ch p.dstCh.toNat with msgs := [] } hw)
    exact ⟨h1, h2.trans (by rw [hch]), h5, h6, h7⟩
  · have hadd : (s.addPkt p.dstCh.toNat (s.getAnswer p)).ch p.dstCh.toNat = { s.ch p.dstCh.toNat with txq := (s.ch p.dstCh.toNat).txq ++ [s.getAnswer p] } :=
      State.ch_setCh _ _ hw
    have hsend : (s.addPkt p.dstCh.toNat (s.getAnswer p)).chSend p.dstCh.toNat = s.addPkt p.dstCh.toNat (s.getAnswer p) :=
      State.chSend_of_regs (s := s) (by rw [hport]; exact hdown) rfl
    rw [State.rxPacket_taken hv hon hport (psn_sub_self _ _ hp) (by rw [hg]; rfl) (State.takeGetReq_empty h hn hl), hsend]
    obtain ⟨h1, -, h3, -, h5, h6, h7⟩ := State.noteGot_shows (s := s) (t := s.addPkt p.dstCh.toNat (s.getAnswer p)) (by rw [hadd]; exact ⟨rfl, rfl, rfl⟩) hp hg hs
      (State.setCh_wf p.dstCh.toNat { s.ch p.dstCh.toNat with txq := (s.ch p.dstCh.toNat).txq ++ [s.getAnswer p] } hw)
    exact ⟨h1, h5, h6, h7, s.getAnswer p, h3.trans (by rw [hadd, hq]; rfl), rfl, rfl, rfl, (BitVec.ofNat_toNat 8 _).trans (BitVec.setWidth_eq _), rfl,
      (BitVec.ofNat_toNat 64 _).trans (BitVec.setWidth_eq _)⟩
  · obtain ⟨kw, kch, kout, kmems⟩ := State.bufTaken_shows (b := b) hpcie hw hm
    rw [State.rxPacket_taken hv hon hport (psn_sub_self _ _ hp) (by rw [hg]; rfl) (State.takeSend_first hm hn hf hl ho hpay)]
    have hput : ((s.bufTaken p b).putRmsg p.dstCh.toNat { s.newMsg p b with lo := some 0 }).ch p.dstCh.toNat =
        { (s.bufTaken p b).ch p.dstCh.toNat with msgs := [{ s.newMsg p b with lo := some 0 }] } := State.putRmsg_again (m := s.newMsg p b) kw (by rw [kch]) rfl
    obtain ⟨h1, h2, -, h4, h5, -, h7⟩ := State.noteGot_shows (s := s)
      (t := (s.bufTaken p b).putRmsg p.dstCh.toNat { s.newMsg p b with lo := some 0 }) (by rw [hput, kch]; exact ⟨rfl, rfl, rfl⟩) hp hg hs (State.setCh_wf _ _ kw)
    exact ⟨h1, h4.trans (by rw [hput, kch]), h2.trans (by rw [hput]; rfl), h5.trans kout, h7.trans kmems⟩

end Sys2Proof.Machine
end
